-- ==== Sys2Proof/Word.lean ====
section
/-! DEFINITION. The word types of the module: bytes, 32-bit registers and 64-bit pairs (R9, R12, R15). -/

namespace Sys2Proof

/-- One byte of a stored format (R8). -/
abbrev Byte := BitVec 8

/-- One register (32-bit registers at 32-bit byte addresses, R12). -/
abbrev Word := BitVec 32

/-- A 64-bit value, as a LO/HI pair holds it (R15). -/
abbrev DWord := BitVec 64

end Sys2Proof
end

