-- ==== Sys2Proof/Config.lean ====
section
/-! DEFINITION. The values the spec leaves open. None has a body, so nothing can evaluate it and no
proof can rest on its value. Every one is a function of `freeCount`, the model's own counter of free
values, which the step that takes one advances (log entry 3), or of the operands it depends on. -/

namespace Sys2Proof.Config

/-- A value the spec leaves open, as a natural number: the n-th one the machine takes. -/
opaque freeNat : Nat → Nat

/-- An integer the spec leaves open. -/
opaque freeInt : Nat → Int

/-- The tokens the record compressor chooses for a block of data with a stride: any sequence that
decodes to the data (R560). -/
opaque recordTokens : Nat → List Byte → List Byte

/-- The columns of the 64 data bits in the (72,64) code (R505): the rule fixes a Hsiao code with odd-weight columns and not
which. They count where they are such columns (`Sys2Proof.Machine.columnsOk`). -/
opaque eccColumns : List Nat

/-- The stop that a generator plans at the entry of DECEL, from its speed, its acceleration, the distance left, A and J, sample
by sample as distance, speed and acceleration (R444): the rule bounds it and leaves its course open. -/
opaque stopPlan : Int → Int → Int → Nat → Nat → List (Int × Int × Int)

/-- How far the presented position may lie from HOME_PARK when the park move of homing counts as done, in unit × 2^16 (R458,
R478): the spec gives no tolerance. -/
opaque parkTol : Nat

/-- SIN and COS with the offset, gain and phase of a calibration set that is not all zero applied (R471, R620): the spec names
the values and not the arithmetic. -/
opaque corrected : List Int → Int × Int → Int × Int

/-- The sample of a Fumarole sensor with an accepted offset that is not zero applied to it (R620, R622), for the channel, the offset
in the unit of its target, and the sample as measured: the spec names the offset and not the arithmetic. -/
opaque offsetSample : Nat → Int → BitVec 16 → BitVec 16

end Sys2Proof.Config
end

