-- ==== Sys2Proof/Types/Service.lean ====
section
/-! DEFINITION. The data of register access, errors, access control and management (R12 to R18, R639
to R686). -/

namespace Sys2Proof.Machine

/-- Where a register access comes from (R656, R668). -/
inductive Path where
  | mgmt
  | tunnel (node : Nat)
  | spi
  | image
  | firmware
  | action
  deriving DecidableEq, Repr

/-- One path's LO latches and staged low halves (R15, R16, R668), each keyed by register address. -/
structure PathSt where
  path : Path
  latch : List (Nat × Word)
  staged : List (Nat × Word)
  deriving DecidableEq, Repr

/-- Per-word outcome of an access (R672). -/
inductive OStatus where
  | ok | noBlock | notReady | align | discarded
  deriving DecidableEq, Repr

/-- A write a rule ignores and flags (R656). -/
inductive FlagReason where
  | locked | refused | table | owner | self
  deriving DecidableEq, Repr

/-- How a SECDED read went (R505, R516). -/
inductive Ecc where
  | clean | corrected | uncorrectable
  deriving DecidableEq, Repr

/-- A word of an SRAM array with no command of its own, read in a tick (R516): of the firing buffer, in the segment of
row `seg`; of the retry buffer of a port (0 to 3 fabric, 4 ingest), the timed-action table or the error-log ring. -/
inductive TickWord where
  | firing (seg row : Nat)
  | retry (port : Fin 5) (row : Nat)
  | actions (row : Nat)
  | errorLog (row : Nat)
  deriving DecidableEq, Repr

/-- SRAM protection (R516): corrected errors by row since start, rows marked for repair, and spare rows
in use, by array. A row is keyed array * 2^32 + row. `flips` are words that a flip mask has met, not read since: array, place and
the bits of the stored codeword that differ (R512). -/
structure Sram where
  corr : List (Nat × Nat)
  pending : List Nat
  used : List (Nat × Nat)
  flips : List (Nat × Nat × Nat)
  deriving DecidableEq, Repr

/-- An error record (R643). -/
structure ErrRec where
  cls : Nat
  block : Nat
  code : Nat
  unit : Nat
  rflags : Nat
  tFrac : Nat
  seq : Nat
  count : Nat
  tNs : Nat
  info : Nat
  deriving DecidableEq, Repr

/-- A ring entry (R646): its record, whether it is open, whether firmware has processed it, and whether it has been
copied to the mirror since its acknowledgement (R650). -/
structure RingEntry where
  record : ErrRec
  isOpen : Bool
  processed : Bool
  mirrored : Bool
  deriving DecidableEq, Repr

/-- The error log: ring entries by SEQ mod 256, overflow slots by unit, and the units whose slot
waits for a free entry, oldest first (R646 to R648). -/
structure ErrLog where
  ring : List (Nat × RingEntry)
  slots : List (Nat × ErrRec)
  ringWait : List Nat
  deriving DecidableEq, Repr

/-- What the control cores hold beside ERR_CORE_STAT (R657 to R660): OUT commands waiting for the
layer boundary, cores in a spare's periodic self-test, and the role a shadow core checks against. -/
structure Cores where
  outReq : List Nat
  /-- Cores that wait for a layer boundary (R658, R660) and have seen it come. -/
  bound : List Nat
  periodic : List Nat
  shadowOf : List (Nat × Nat)
  /-- Tick of the latest self-test of each core (R660). -/
  lastTest : List (Nat × Nat)
  /-- Roles displaced onto the core that runs role 9 (R659). -/
  displaced : List Nat
  deriving DecidableEq, Repr

/-- The last accepted request of a requester and the response kept for it (R673, R675). -/
structure Kept where
  key : Nat
  seq : Nat
  tag : Nat
  response : List Byte
  deriving DecidableEq, Repr

/-- Management access (R668 to R679). Tunnel requesters are kept under node + 1, the management
port under 0. -/
structure Mgt where
  kept : List Kept
  keys : List (Nat × List Byte)
  keyStage : List (Nat × Word)
  /-- OSTATUS of the first word not OK, and words completed, of the previous SPI transaction (R676). -/
  spiStatus : OStatus
  spiWords : Nat
  /-- Writes held for a HANDOVER, oldest first (R679): the register, the word it will hold, the tick of the write. -/
  shadow : List (Nat × Word × Nat)
  /-- Tick of the latest write of GLB_GPIO_OUT, and the levels it left (R685). -/
  gpioAt : Option (Nat × Word)
  /-- The last 64 tunnel responses, by source node and tunnel tag, oldest first (R383). -/
  tunnel : List (Nat × Nat × List Byte)
  /-- When the requests in hand on the management port will have been answered, oldest first (R674). -/
  busy : List Nat
  deriving DecidableEq, Repr

/-- The Wellspring counter (R327 to R345). `count` counts units of 2^-28 ns. -/
structure Clock where
  count : Nat
  ticks : Nat
  slewRem : Int
  slewK : Nat
  pllLocked : Bool
  everSet : Bool
  restored : Bool
  stepWait : Bool
  /-- T0 in 2^-16 ns and C0 of the latest entry to DEEP (R344). -/
  deepT0 : Nat
  deepC0 : Nat
  deepInvalid : Bool
  /-- T0 and C0 wait for the restore of R345. -/
  deepHeld : Bool
  /-- AON count of the latest wake (R344). -/
  wakeAt : Option Nat
  /-- TQ of the time root carried by the latest fabric exchange (R337, R342). -/
  fabTq : Nat
  /-- The mark of R344: an AON count, and the counter then in 2^-16 ns. -/
  aonAt : Option (Nat × Nat)
  /-- The latest tick with a TB_ADJ commit, and what it added to slew_rem (R356). -/
  adjNow : Option (Nat × Int)
  deriving DecidableEq, Repr

end Sys2Proof.Machine
end

