-- ==== Sys2Proof/Types/Stream.lean ====
section
/-! DEFINITION. The data of the Zhevton Layer Stream: geometry, cells, dose records, layers and the
parser's context (R45 to R119), and of hierarchy expansion (R120 to R154). -/

namespace Sys2Proof.Machine

/-- An axis-aligned box, closed on every side (R64, R123). -/
structure Box where
  xmin : Int
  ymin : Int
  xmax : Int
  ymax : Int
  deriving DecidableEq, Repr

/-- The repetition of an ARRAY (R67); a PLACE is one instance with zero steps (R66). -/
structure Steps where
  na : Nat
  nb : Nat
  ax : Int
  ay : Int
  bx : Int
  by_ : Int
  deriving DecidableEq, Repr

/-- A primitive in its cell's own frame (R73 to R80). -/
inductive Prim where
  /-- Vertices of one closed polygon; `evenOdd` is FILL_EO (R73). -/
  | poly (evenOdd : Bool) (verts : List (Int × Int))
  /-- AXIS and the fields of R76. -/
  | trap (axisX : Bool) (a0 a1 b0lo b0hi b1lo b1hi : Int)
  /-- R77. -/
  | rect (x0 y0 x1 y1 : Int)
  /-- R78. -/
  | disc (cx cy : Int) (rOut rIn : Nat)
  /-- R79, R80: bits per pixel, width, height, corner, pixel size and the raw image bytes. -/
  | patch (bpp w h : Nat) (x y : Int) (px py : Nat) (raw : List Byte)
  deriving DecidableEq, Repr

/-- One geometry record of a body: a primitive of a material with the DRAM address of its first record (R135), or
a placement (R66, R67, R72). -/
inductive Geo where
  | prim (material : Nat) (p : Prim) (addr : Nat)
  | place (cell orient : Nat) (tx ty dz : Int) (array : Bool) (steps : Steps)
  deriving DecidableEq, Repr

/-- One z-phase section of a cell: its Z_START and its body (R69, R70). `bytes` is the length of its
records. -/
structure Section where
  zStart : Nat
  body : List Geo
  bytes : Nat
  deriving DecidableEq, Repr

/-- A defined cell: its directory entry (R123) and its sections. An ordinary cell has one section. -/
structure Cell where
  phases : Nat
  zPeriod : Nat
  zOrigin : Int
  box : Box
  height : Nat
  hull : Box
  /-- Byte offsets in the layer program region of the body and of the phase table, and the body's
  length in bytes (R123). -/
  bodyAddr : Nat
  bodyLen : Nat
  phaseAddr : Nat
  sections : List Section
  deriving DecidableEq, Repr

/-- A cell whose CELL_BEGIN has been accepted and whose CELL_END has not (R61 to R70). -/
structure OpenCell where
  id : Nat
  phases : Nat
  zPeriod : Nat
  zOrigin : Int
  box : Box
  sections : List Section
  bytes : Nat
  deriving DecidableEq, Repr

/-- A MATERIAL record (R82). -/
structure MaterialRec where
  material : Nat
  cls : Nat
  portMask : Nat
  codeBits : Nat
  waveSet : Nat
  node : Nat
  tag : Nat
  deriving DecidableEq, Repr

/-- A correction kernel (R88): width, height and coefficients in Q2.14. -/
structure Kernel where
  kw : Nat
  kh : Nat
  coef : List Int
  deriving DecidableEq, Repr

/-- A graded dose field (R90). -/
structure DoseField where
  nx : Nat
  ny : Nat
  x0 : Int
  y0 : Int
  gx : Nat
  gy : Nat
  val : List Nat
  deriving DecidableEq, Repr

/-- A swath entry (R94). -/
structure SwathEntry where
  swath : Nat
  reverse : Bool
  materialMask : Nat
  auxMove : Nat
  xOrigin : Int
  yOrigin : Int
  lines : Nat
  rateReq : Nat
  dwellUs : Nat
  deriving DecidableEq, Repr

/-- The open job (R58). -/
structure Job where
  minor : Nat
  leadUs : Nat
  pitch : Nat
  jobId : Nat
  cellCount : Nat
  /-- The model's own: jobs opened before this one, so that two jobs are told apart. -/
  no : Nat
  deriving DecidableEq, Repr

/-- The stage a layer body has reached in the order of R98. -/
inductive BodyStage where
  | fields | geometry
  deriving DecidableEq, Repr

/-- A layer, open or accepted (R60, R87, R98, R105). The cells, curves, kernels and materials it uses
are captured with it, so that no later record changes them (R63, R87). -/
structure Layer where
  seq : Nat
  z : Int
  job : Job
  stage : BodyStage
  fields : List (Nat × DoseField)
  plan : List SwathEntry
  planCrc : Nat
  geom : List Geo
  curves : List (Nat × List Nat)
  kernels : List (Nat × Kernel)
  materials : List MaterialRec
  cells : List (Nat × Cell)
  bytes : Nat
  stopped : Bool
  /-- Swaths of the plan captured so far, and swaths that have ended. -/
  captured : Nat
  ended : Nat
  /-- Stretches of the layer program region that its records fill: address and bytes (R125). -/
  recs : List (Nat × Nat)
  /-- The thrash multiplier (R145). -/
  thrash : Nat
  deriving DecidableEq, Repr

/-- The transfer curves and kernels of the latest accepted layer, as the table windows show them (R680). -/
structure Shown where
  curves : List (Nat × List Nat)
  kernels : List (Nat × Kernel)
  deriving DecidableEq, Repr

/-- An item continued over several records (R49, R74, R79, R90); `addr` is the DRAM address of the first. -/
inductive Cont where
  | poly (material : Nat) (evenOdd : Bool) (total : Nat) (verts : List (Int × Int)) (addr : Nat)
  | patch (material bpp w h : Nat) (x y : Int) (px py : Nat) (rawFlag : Bool) (total : Nat)
      (data : List Byte) (addr : Nat)
  | field (material : Nat) (f : DoseField)
  | ext (code : Nat)
  deriving DecidableEq, Repr

/-- The parser's state (EXP_ZLS_STATUS.STATE, R118). -/
inductive ParserState where
  | idle | prologue | cell | layer | between | ended | halted | hunt
  deriving DecidableEq, Repr

/-- What the parser has taken of the current job: everything a halt can withdraw (R110). -/
structure Content where
  state : ParserState
  /-- The cell body was opened between layers, not in the prologue (R54). -/
  cellFromBetween : Bool
  expSeq : Nat
  /-- Byte offset of the next record from the first byte of the JOB record (R117). -/
  ofs : Nat
  job : Option Job
  cells : List (Nat × Cell)
  materials : List MaterialRec
  curves : List (Nat × List Nat)
  kernels : List (Nat × Kernel)
  openCell : Option OpenCell
  openLayer : Option Layer
  cont : Option Cont
  /-- LAYER_SEQ of the latest LAYER record, and of the last layer closed (R60, R102). -/
  lastLayer : Option Nat
  lastClosed : Nat
  /-- The latest record other than an extension was a CHECK (R100). -/
  lastWasCheck : Bool
  /-- SEQ of the latest accepted CHECK (R102, R112). -/
  lastCheck : Option Nat
  /-- The covered bytes since the latest CHECK, in stream order (R103), and the check units that snoop them, each with
  the CRC_U_CFG in force since the block's start (R542). -/
  covered : List Byte
  snoopers : List (Nat × Word)
  /-- Bytes of the layer program region that cell bodies take (R125). -/
  cellBytes : Nat
  /-- Records accepted in the job (R110 item 2). -/
  accepted : Nat
  deriving DecidableEq, Repr

/-- The stream parser (R54, R110 to R116). -/
structure Parser where
  cur : Content
  /-- The content at the latest accepted CHECK (R110 item 2). -/
  saved : Content
  /-- Records that wait, in stream order: the first for head links (R84) or for space in the layer
  program region (R126), the others behind it. -/
  held : List (Nat × List Byte)
  headsWait : Bool
  lpStall : Bool
  jobs : Nat
  deriving DecidableEq, Repr

/-- Service states of expansion units (R151). -/
inductive UnitState where
  | inService | out | selftest | shadow
  deriving DecidableEq, Repr

/-- A tile row of a swath. -/
structure RowId where
  layer : Nat
  swath : Nat
  row : Nat
  deriving DecidableEq, Repr

/-- An expansion unit (R120 to R122). `outReq` is a departure waiting for the swath boundary. -/
structure ExpUnit where
  state : UnitState
  row : Option RowId
  outReq : Bool
  shadowed : Nat
  selftestFails : Nat
  /-- Tick of the latest lockstep disagreement (R121). -/
  lastDisagree : Option Nat
  stalled : Bool
  /-- Rows it has expanded whose bins failed: another unit expands them again (R137). -/
  barred : List RowId
  deriving DecidableEq, Repr

/-- A placement context's transform: an entry of a tile row's transform table (R136). -/
structure Xform where
  orient : Nat
  tx : Int
  ty : Int
  clip : Box
  deriving DecidableEq, Repr

/-- A bin entry: the fields of R135, with the primitive at PRIM_ADDR and the transform at index XFORM of the row's
table (R136). -/
structure BinEntry where
  material : Nat
  prim : Prim
  addr : Nat
  xf : Nat
  xform : Xform
  deriving DecidableEq, Repr

/-- The bin of a tile: its entries, and the pool blocks they fill (R134). -/
structure Bin where
  tcol : Nat
  entries : List BinEntry
  blocks : List Nat
  deriving DecidableEq, Repr

/-- An expanded tile row: the unit that expanded it, the bins of its tiles, its transform table with the pool blocks
that hold it, and the tiles whose blocks are not yet freed (R134 to R138). -/
structure ExpandedRow where
  id : RowId
  unit : Nat
  bins : List Bin
  xforms : List Xform
  table : List Nat
  live : List Nat
  deriving DecidableEq, Repr

/-- The survey of one swath (R139 to R145). -/
structure Survey where
  layer : Nat
  swath : Nat
  done : Bool
  /-- Step estimate of each tile row (R140). -/
  steps : List Nat
  rate : Nat
  limiter : Nat
  estMisses : Nat
  /-- Cells and the number of tile rows the survey found each in (R128). -/
  cellRows : List (Nat × Nat)
  deriving DecidableEq, Repr

end Sys2Proof.Machine
end

