-- ==== Sys2Proof/Types/Firing.lean ====
section
/-! DEFINITION. The data of rasterisation and verification (R155 to R216), of swaths and firing (R248 to
R284), of the beam map's edit and counts (R217 to R247) and of the as-written record (R548 to R569). -/

namespace Sys2Proof.Machine

/-- A tile's identity (glossary of 00_scope.md). -/
structure TileId where
  layer : Nat
  swath : Nat
  tcol : Nat
  trow : Nat
  deriving DecidableEq, Repr

/-- What an engine delivers for a tile: codes of its existing lines in rising line number, carry out,
signature and canonical CRC-64 (R186), and the counts a commit adds (R173, R175, R176). -/
structure RasterResult where
  codes : List (List Nat)
  cout : List Int
  signature : Nat
  crc : Nat
  ksat : Nat
  csat : Nat
  lost : Nat
  deriving DecidableEq, Repr

/-- Roles of R156. -/
inductive Role where
  | primary | checker | voter
  /-- The extra checker role of a shadow engine (R207). -/
  | shadow
  deriving DecidableEq, Repr

/-- What an engine computes for a tile, the clocks that takes, and whether it runs in kernel mode (R160). -/
structure Work where
  result : RasterResult
  clocks : Nat
  kernel : Bool
  deriving DecidableEq, Repr

/-- A tile in an engine. `kept` is its work where the tile has been committed under a shadow engine, the bins being freed
(R207). -/
structure Task where
  tile : TileId
  role : Role
  kernel : Bool
  kept : Option Work
  deriving DecidableEq, Repr

/-- Engine service states (R179, R206). -/
inductive Svc where
  | inService | spare | selftest | shadow | out
  deriving DecidableEq, Repr

/-- A Caldera engine (R155 to R161, R186, R206, R216). -/
structure Engine where
  svc : Svc
  /-- An OUT command that came over this path waits for the tile-row boundary (R206). -/
  outReq : Option Path
  dose : Option Task
  parked : Option Task
  /-- The parked tile whose carry has come, being quantised (R160, R174). -/
  quant : Option Task
  held : Option Task
  losses : Nat
  /-- Instant, in 2^-16 ns, of the loss that opened the window (R204). -/
  lossAt : Option Nat
  shadowN : Nat
  stFails : Nat
  /-- The latest tile of the dose stages, for CE_ENG_LAYER, CE_ENG_TILE and CE_ENG_TROW. -/
  lastTile : TileId
  deriving DecidableEq, Repr

/-- What an engine meets in a tile (R137, R158, R159): a tarn error in a row, or a bin block that fails its CRC or names
another tile. -/
inductive Hap where
  | tarnCorr (row : Nat)
  | tarnUncorr (row : Nat)
  | binCrc
  | binId
  deriving DecidableEq, Repr

/-- Where a dispatched tile stands (R192, R196, R203). -/
inductive CtxPhase where
  /-- Being rasterised; no two results compared yet. -/
  | raster
  /-- A vote is wanted or runs (R196). -/
  | vote
  /-- The writer waits for ring space (R249). -/
  | ringWait
  /-- The writer streams and the entry is being written (R192). -/
  | commit
  deriving DecidableEq, Repr

/-- A tile context (R203). A blanked tile keeps its record here only until its votes are in (R32,
R209); it then counts in no limit. -/
structure TileCtx where
  id : TileId
  primary : Option Nat
  checker : Option Nat
  /-- The engines given those roles last: PRIMARY and CHECKER of R190, also where the role has been given up. -/
  givenP : Option Nat
  givenC : Option Nat
  voters : List Nat
  /-- Results by engine, in order of arrival. -/
  results : List (Nat × RasterResult)
  phase : CtxPhase
  /-- Votes run on the tile (R190), and the engine of the last of them; `voters` are those of the present
  rasterisation. -/
  votes : Nat
  lastVoter : Option Nat
  writer : Option Nat
  /-- Engines that abandoned a role here, which do not get that role again (R158). -/
  barred : List (Role × Nat)
  /-- The ring slot of the tile's codes, once its first ring write has begun; a vote after a stream
  mismatch reuses it (R192). -/
  slot : Option Nat
  /-- tF of R30, in 2^-16 ns, flat; 0 while the swath has no start timestamp. -/
  tF : Nat
  blanked : Bool
  /-- Results of engines in SHADOW (R207). -/
  shadows : List (Nat × RasterResult)
  /-- Of a blanked tile: what its voters compute, its bins being freed (R32, R209). -/
  kept : Option Work
  deriving DecidableEq, Repr

/-- A commit entry, with the carry and the codes it names (R189, R190). `freed` marks an entry whose
ring space and table entry have been freed (R248). -/
structure CommitEntry where
  id : TileId
  w : Nat
  committed : Bool
  cause : Nat
  lines : Nat
  votes : Nat
  signature : Nat
  crc : Nat
  addr : Nat
  primary : Nat
  checker : Nat
  voter : Nat
  writer : Nat
  commitNs : Nat
  carry : List Int
  codes : List (List Nat)
  freed : Bool
  /-- The tile's first and last lines have loaded (R254, R255). -/
  firstLoaded : Bool
  verdict : Bool
  /-- Codes read from the ring so far, by line (R255). -/
  got : List (Nat × List Nat)
  /-- Its entry of the commit table (R189); 65,536 while a BLANKED entry waits for one. -/
  ix : Nat
  deriving DecidableEq, Repr

/-- Verification beside engines, contexts and entries (R196 to R209). -/
structure Verify where
  engines : List Engine
  ctxs : List TileCtx
  entries : List CommitEntry
  /-- The staging ring's write position: the end of the latest commit (R248). -/
  ringPos : Nat
  /-- Clusters whose departed engine waits for a spare at the next tile-row boundary (R205). -/
  promote : List Nat
  /-- AVS changes in progress: cluster, clock sought in MHz, tick of the request (R26). -/
  avs : List (Nat × Nat × Nat)
  deriving DecidableEq, Repr

/-- An event entry of the record (R555), with its AMEND mark. -/
structure EvEntry where
  code : Nat
  cause : Nat
  port : Nat
  head : Nat
  row : Nat
  line0 : Nat
  line1 : Nat
  col0 : Nat
  col1 : Nat
  deriving DecidableEq, Repr

/-- A DATA block being filled (R552): first line, lines so far and their packed bytes. -/
structure DataAcc where
  port : Nat
  first : Nat
  lines : Nat
  bytes : List Byte
  deriving DecidableEq, Repr

/-- Swath states (R268, R281). -/
inductive SwathState where
  | captured | ready | armed | running | draining | done | stopped
  deriving DecidableEq, Repr

/-- A row of a used port in a swath (R250 to R259): lines with an outcome or issued, counted in firing
order; latest fire time in 2^-16 ns; heads hard-stopped (R274). -/
structure RowSt where
  row : Nat
  port : Nat
  next : Nat
  lastFire : Option Nat
  hard : List Nat
  /-- DELAY of the latest event issued (R624). -/
  delay : Option Nat
  deriving DecidableEq, Repr

/-- An event issued (R258): row, line, fire time in 2^-16 ns, and the HEAD numbers its record entries name (0xFF
where no head of the row was hard-stopped). -/
structure Issued where
  row : Nat
  line : Nat
  fire : Nat
  heads : List Nat
  deriving DecidableEq, Repr

/-- A swath in flight (R268 to R271), with its capture (R231) and its part of the record (R549 to
R558). -/
structure Swath where
  layer : Nat
  idx : Nat
  state : SwathState
  /-- Used ports (R96). -/
  ports : List Nat
  /-- Beams whose captured status is not GOOD: beam, status byte (R231). -/
  status : List (Nat × Nat)
  capTick : Nat
  capNs : Nat
  hoId : Nat
  /-- Agreed survey rate (R143). -/
  rate : Nat
  barrier : Nat
  startAt : Option Nat
  rows : List RowSt
  /-- Lines loaded, counted in firing order (R252). -/
  loaded : Nat
  /-- Segments in the firing buffer: row, line, codes by beam as (beam, code) for nonzero codes (R252). -/
  segs : List (Nat × Nat × List (Nat × Nat))
  issued : List Issued
  /-- Row-lines counted MISSED: row, line (R262). -/
  missedAt : List (Nat × Nat)
  lastFire : Option Nat
  /-- Tick of the latest issue or of the start, for the stall rule (R271). -/
  lastTick : Nat
  /-- Tile rows whose boundary has passed (R205). -/
  rowsPassed : Nat
  misses0 : Nat
  slipMax : Nat
  evs : List EvEntry
  data : List DataAcc
  dataBlocks : Nat
  entryCount : Nat
  missing : Nat
  recOpen : Bool
  deriving DecidableEq, Repr

/-- The record of an open layer (R551 to R563). -/
structure LayerRec where
  layer : Nat
  slot : Nat
  firstOfs : Nat
  bseq : Nat
  missing : Nat
  swaths : Nat
  /-- Tick at which its last swath ended or the layer stopped (R558). -/
  endAt : Option Nat
  /-- Its LAYER_END is due, behind amendments of the same cycle (R566). -/
  due : Bool
  deriving DecidableEq, Repr

/-- A stored block awaiting its read-back (R561): stream offset and layer. -/
structure StoredBlock where
  ofs : Nat
  layer : Nat
  swath : Nat
  deriving DecidableEq, Repr

/-- What a telemetry report has changed (R240): the beam, the tick, and its STATUS byte and counts before; LATE_DEAD before
the first report of the tick, and whether this one sets it. -/
structure RepUndo where
  beam : Nat
  tick : Nat
  status : Nat
  fails : Nat
  passes : Nat
  late : Bool
  sets : Bool
  deriving DecidableEq, Repr

/-- What the column view shows of a capture (R223): used ports, captured statuses, and the words of the map. -/
structure CapView where
  ports : List Nat
  status : List (Nat × Nat)
  map : List (Nat × Word)
  deriving DecidableEq, Repr

/-- The beam map beside its tables (R217 to R247). -/
structure Beams where
  /-- The map in force while an edit is open: the window's words and VALID at EDIT_OPEN (R239). -/
  saved : Option (List (Nat × Word) × Bool)
  /-- EDIT_COMMIT has started a validation (R239). -/
  validating : Bool
  /-- Consecutive FAIL and PASS reports by beam (R230). -/
  fails : List (Nat × Nat)
  passes : List (Nat × Nat)
  /-- Beam and tick of the BM_BEAM_CMDs of the latest tick that had one (R240). -/
  cmdAt : List (Nat × Nat)
  /-- The telemetry reports of the latest tick that changed a beam, for commands of the same cycle (R240). -/
  rep : List RepUndo
  /-- The latest capture (R223). -/
  view : Option CapView
  deriving DecidableEq, Repr

/-- Position state of scan axis S (R256): p, timestamp in 2^-16 ns, v, and the earlier valid samples,
latest first. -/
structure Pos where
  valid : Bool
  p : Int
  ts : Nat
  v : Int
  window : List Int
  deriving DecidableEq, Repr

/-- The latest temperature report of a head (R272): its value in 1/16 °C, the tick of its arrival, and how it stood
against RESUME and HARD as they were then (R283). -/
structure TempRep where
  t : Int
  tick : Nat
  cool : Bool
  hard : Bool
  deriving DecidableEq, Repr

/-- Geyser beside its registers (R248 to R284). -/
structure Geyser where
  swaths : List Swath
  pos : Pos
  estop : Bool
  /-- Tick at which ESTOP_N last returned high, while the resume of R306 waits. -/
  estopHigh : Option Nat
  /-- ESTOP instant E (R304), in 2^-16 ns. -/
  estopAt : Nat
  /-- Head temperatures by port * 8 + head (R272). -/
  temps : List (Nat × TempRep)
  /-- Latest strobe rise of each port, in 2^-16 ns (R261). -/
  pulses : List (Nat × Nat)
  /-- The last SEC/FRAC of a participant's OVR: node, OVR, governor period number (R267). -/
  ovrs : List (Nat × Nat × Nat)
  period : Nat
  /-- End boundary of the latest swath that ended, in 2^-16 ns (R270). -/
  lastEnd : Option Nat
  /-- Pulses issued and not yet given, in the order of fire times: port and fire time in 2^-16 ns (R261). -/
  due : List (Nat × Nat)
  /-- The swath whose AUX_MOVE chain was started last (R441). -/
  auxOf : Option (Nat × Nat)
  deriving DecidableEq, Repr

end Sys2Proof.Machine
end

