-- ==== Sys2Proof/Types/Module.lean ====
section
/-! DEFINITION. The data of DRAM integrity (R497 to R521), of ingest (R522 to R545), of start-up (R570 to
R594) and of power (R595 to R612), beside their registers. -/

namespace Sys2Proof.Machine

/-- A merge-buffer entry (R507): line address, byte mask, and the requester of its latest write. -/
structure Merge where
  line : Nat
  mask : Nat
  req : Nat
  deriving DecidableEq, Repr

/-- The activation tracker of a bank (R504): its 16 entries, as (row, count). -/
structure Tracker where
  bank : Nat
  slots : List (Nat × Nat)
  deriving DecidableEq, Repr

/-- A request of the module's own that waits for its region (R510), or in its throttle (R504). A held write carries its
requester + 16 and its data, a read as many zeros as it has bytes. -/
structure HeldReq where
  req : Nat
  unit : Nat
  addr : Nat
  data : List Byte
  deriving DecidableEq, Repr

/-- DRAM beside its bytes and registers. -/
structure Dram where
  /-- Codewords whose stored bits differ from a codeword: 8-byte word index, 72-bit difference. -/
  errs : List (Nat × Nat)
  merge : List Merge
  trackers : List Tracker
  /-- Throttled requesters: requester, bank, and tick of the latest activation of the one on the other (R504). -/
  throttled : List (Nat × Nat × Nat)
  held : List HeldReq
  /-- The page copy in progress, as (slot, page), and the pages that wait for it (R513, R514). -/
  copying : Option (Nat × Nat)
  copyQueue : List Nat
  /-- Ticks of corrected errors by page, latest first (R514). -/
  corrAt : List (Nat × List Nat)
  /-- Banks retired in force and pending, as channel + 16 * bank (R515). -/
  retired : List Nat
  pendingBanks : List Nat
  /-- Pages that firmware's policy retires once role 9 runs again (R514, R657, R659). -/
  policyWait : List Nat
  /-- The row that stands open in a bank (R498, R504). -/
  rowOpen : List (Nat × Nat)
  /-- Rows, as (bank, row), with writes that wait in their bank's write queue (R502). -/
  writes : List (Nat × Nat)
  /-- Banks in in-order mode, with the row of the write that they wait for (R502, R517). -/
  inorder : List (Nat × Nat)
  deriving DecidableEq, Repr

/-- A descriptor as a channel fetched it (R529). -/
structure Desc where
  src : Nat
  dst : Nat
  len : Nat
  flags : Nat
  tag : Nat
  next : Nat
  deriving DecidableEq, Repr

/-- An ingest channel beside its registers (R530 to R535). -/
structure Channel where
  /-- The copy it executes, with bytes taken, the bytes themselves where a check unit snoops them, and the units that
  snoop them, each with the CRC_U_CFG in force since the block's start (R542). -/
  desc : Option Desc
  /-- It has still to fetch the descriptor at ING_CH_CUR. -/
  fetch : Bool
  taken : Nat
  snoop : List Byte
  snoopers : List (Nat × Word)
  deriving DecidableEq, Repr

/-- The ingest link and its channels (R522 to R538). -/
structure Ingest where
  txSeq : Nat
  /-- Frames sent and not acknowledged, oldest first, and resends in a row of the first. -/
  retry : List (Nat × List Byte)
  resends : Nat
  rxNext : Nat
  /-- By class: credits received, and the total granted, modulo 65,536. -/
  rxTotal : List (Nat × Nat)
  granted : List (Nat × Nat)
  chans : List Channel
  /-- Channels PENDING, in order, each with the tick in which it became so (R534). -/
  order : List (Nat × Nat)
  /-- Frames of entries that a member holds until it can accept them (R538): the entry, the fabric port whose buffer
  holds the frame, 4 for none, and the frame. -/
  layoutHeld : List (Nat × Nat × List Byte)
  /-- Class 0x20 (R564): latest total of credits, credits spent, and REC_DATA that waits for credits, as ARG and
  payload. -/
  upTotal : Nat
  upSpent : Nat
  upWait : List (Nat × List Byte)
  /-- Parts of a READ that another module answers (R565): request tag, node, stream offset, length. -/
  remote : List (Nat × Nat × Nat × Nat)
  /-- An LWIDTH of the port has no answer yet, and the upstream frames that wait for it (R417). -/
  narrow : Bool
  upHeld : List (List Byte)
  /-- Upstream frames that wait for space in the 8 KiB retry buffer: TYPE, CH, ARG and payload (R373, R522). -/
  upQueue : List (Nat × Nat × Nat × List Byte)
  /-- Upstream frames that have come while a request for LS or LD waits (R418). -/
  upParked : List (Nat × Nat × Nat × List Byte)
  deriving DecidableEq, Repr

/-- A channel command, by CH_CMD or DOORBELL frame, or by a write of ING_CH_CTRL (R533, R535). -/
inductive ChanBy where
  | frame (fr : List Byte)
  | reg (path : Path) (c : Fin 8)
  deriving DecidableEq, Repr

/-- A resume of the stream, by a write of EXP_ZLS_CTRL or by a CH_CMD frame (R113, R525). -/
inductive ResumeBy where
  | reg (w : Word)
  | frame (fr : List Byte)
  deriving DecidableEq, Repr

/-- A record of the state area (R587). -/
structure StRec where
  ty : Nat
  pay : List Byte
  deriving DecidableEq, Repr

/-- A half of the state area with a valid header (R586, R587). -/
structure StHalf where
  gen : Nat
  serial : Nat
  recs : List StRec
  deriving DecidableEq, Repr

/-- A section of the image (R573). -/
structure Sect where
  ty : Nat
  ofs : Nat
  len : Nat
  crc : Nat
  digest : List Byte
  deriving DecidableEq, Repr

/-- The hand-over of the control cores to new firmware (R590): pairs of roles moved, whether it was ended
and the roles go back, a layer boundary that has come without its move, and the tick at which the two spare cores
have loaded and checked the new firmware. -/
structure FwMove where
  moves : Nat
  abort : Bool
  due : Bool
  loaded : Nat
  deriving DecidableEq, Repr

/-- A PROGRAM in progress (R588): device, offset, the chunk, and the RESULT that ends it unprogrammed, 0 for
none. -/
structure UpdOp where
  dev : Nat
  ofs : Nat
  chunk : List Byte
  bad : Nat
  deriving DecidableEq, Repr

/-- Where the start stands (R583, R584, R578). -/
inductive Phase where
  /-- No rail, or VIN not good. -/
  | unpowered
  /-- Held in internal reset. -/
  | reset
  /-- The image is being read. -/
  | load
  /-- The image is read and the configuration locked. -/
  | run
  | rescue
  deriving DecidableEq, Repr

/-- Start-up and configuration beside the registers. -/
structure Boot where
  phase : Phase
  /-- The image slots of the primary and the golden device: bytes that differ from 0xFF, by offset. -/
  flash : List (List (Nat × Byte))
  /-- The state area: half h of device d at 2d + h; none where no half with MAGIC and HCRC correct lies there. -/
  halves : List (Option StHalf)
  /-- The OTP key hash, once programmed; the hash being programmed; and the hash a start enforces (R591). -/
  otp : Option (List Byte)
  otpNext : Option (List Byte)
  key : Option (List Byte)
  /-- The section table of the image in use, and the sections still to read before and after the lock. -/
  sects : List Sect
  todo : List Nat
  rest : List Nat
  /-- FIRMWARE is started and has not reported. -/
  fwWait : Bool
  /-- LOCK written before the lock point (R580). -/
  lockHeld : Bool
  /-- The image copy (R582): the sections of the image as accepted, with their bytes; and its INTERFACE. -/
  copy : List (Sect × List Byte)
  iface : Nat
  /-- A CHECK of the primary has passed since its last PROGRAM (R590). -/
  checked : Bool
  upd : Option UpdOp
  hand : Option FwMove
  deriving DecidableEq, Repr

/-- Levels on a stepper's pads between pulses: STEP, EN, DIR, and the code on MS[2:0] (R452, R453, R604). -/
structure StepLevels where
  step : Bool
  en : Bool
  dir : Bool
  ms : Nat
  deriving DecidableEq, Repr

/-- A core-voltage request in flight (R600): mV asked. -/
structure Power where
  /-- The step in progress, from and to (R597). -/
  step : Option (Nat × Nat)
  vreq : Option Nat
  /-- The voltage of the step is acknowledged. -/
  vok : Bool
  /-- Timeouts in a row (R601). -/
  fails : Nat
  /-- Paths of the running and of the pending request, for a flagged refusal. -/
  path : Path
  pendPath : Path
  /-- The canary of R605 lies in the firmware reserve. -/
  canary : Bool
  /-- The AON cycle of the latest wake event (R610). -/
  wokeAt : Nat
  /-- Levels that the AON island latches where pads are held: of each stepper, and of GPIO outputs (R604). -/
  heldStep : List StepLevels
  heldGpio : List (Nat × Bool)
  deriving DecidableEq, Repr

end Sys2Proof.Machine
end

