-- ==== Sys2Proof/Types/Link.lean ====
section
/-! DEFINITION. The data of head ports and the head link beside their registers (R285 to R326). -/

namespace Sys2Proof.Machine

/-- A character of an 8b/10b lane (R403): a data character by its byte, D*x*.*y* being *x* + 32 *y*, or the control
character K*x*.*y*. -/
inductive Chr where
  | d (b : Byte)
  | k (x y : Nat)
  deriving DecidableEq, Repr

/-- One row of a FIRE or DOSE command for one head (R293, R294). `tags` are the tiles that supply its codes, each with
the CRC64 of its entry. -/
structure FireRow where
  row : Nat
  line : Nat
  bits : Nat
  zero : Bool
  count : Nat
  codes : List Byte
  tags : List (TileId × Nat)
  deriving DecidableEq, Repr

/-- A command that waits on a port (R298): a FIRE of one row, or a DOSE of the rows of one pulse. `fire` is
the fire time in 2^-16 ns. -/
structure FireCmd where
  head : Nat
  layer : Nat
  swath : Nat
  hoId : Nat
  fire : Nat
  dose : Bool
  rows : List FireRow
  deriving DecidableEq, Repr

/-- A FIRE or DOSE frame sent to a head: the port's copy (R307). `after` says that its SEQ comes after the LAST_SEQ of
the head's latest STATUS (R298). -/
structure SentFrame where
  head : Nat
  seq : Nat
  cmd : FireCmd
  after : Bool
  deriving DecidableEq, Repr

/-- A sideband request in flight (R291, R325). `data` is what an identity read has brought so far. -/
structure SbReq where
  op : Nat
  offset : Nat
  length : Nat
  sends : Nat
  deriving DecidableEq, Repr

/-- A head of a chain (R291, R298, R301, R307 to R309, R314). -/
structure HeadLink where
  /-- Next SEQ downstream to this head, and the SEQ of its latest upstream frame. -/
  seqDown : Nat
  seqUp : Option Nat
  /-- QUEUE_FREE in bytes and LAST_SEQ of its latest STATUS (R298). -/
  queueFree : Nat
  lastSeq : Nat
  sb : Option SbReq
  /-- Sideband requests that wait for the one in flight. -/
  sbQueue : List SbReq
  ident : List Byte
  identTries : Nat
  /-- Delay samples in 2^-17 ns, latest first, at most 16 (R301). -/
  delays : List Int
  resid : Int
  segLanes : Nat
  /-- The waveform payload the head holds (R314). -/
  wave : List Byte
  deriving DecidableEq, Repr

/-- A hand-over of a captured swath on a port (R314): the heads that have acknowledged it. -/
structure HandOver where
  hoId : Nat
  layer : Nat
  swath : Nat
  /-- Sends to each head so far. -/
  sends : List (Nat × Nat)
  acked : List Nat
  /-- The port's link budget held it back (R297). -/
  refused : Bool
  deriving DecidableEq, Repr

/-- A head port beside its registers. -/
structure Port where
  heads : List HeadLink
  queue : List FireCmd
  sentFrames : List SentFrame
  bcastSeq : Nat
  /-- Mark number and departure of the latest TMARK in 2^-16 ns, the head it names, and the upstream mark's
  arrival t4 (R300, R301). -/
  mark : Nat
  t1 : Nat
  echoHead : Nat
  t4 : Option Nat
  hoNext : Nat
  hos : List HandOver
  /-- ENUM follows a loss from READY (R320), short ENUM results in a row, and attempts since READY. -/
  afterLoss : Bool
  enumShort : Nat
  attempts : Nat
  /-- Chain positions that have answered ENUM, and whether one reported none beyond. -/
  enumSeen : List Nat
  enumEnd : Bool
  /-- A move to ENUM waits until no swath using the port is ARMED or RUNNING (R308, R320). -/
  toEnum : Bool
  /-- A narrowing in progress: the mask sought and the heads that have echoed (R317). -/
  narrow : Option (Nat × List Nat)
  /-- Frames that wait for it to complete. -/
  held : List (List Byte)
  /-- Lanes that Serial Lanes has trained on the port, and lanes re-admitted that wait to join (R317, R319). -/
  trained : Nat
  /-- Frames that have come while a request for LS or LD waits, or the port sleeps (R418). -/
  parked : List (List Byte)
  deriving DecidableEq, Repr

/-- The waveform sets beside the window (R311 to R313): the sets in force, the committed shadows and a set
under validation. -/
structure Waves where
  active : List (Nat × List Byte)
  shadow : List (Nat × List Byte)
  checking : Option Nat
  deriving DecidableEq, Repr

/-- The head ports. -/
structure HeadPorts where
  ports : List Port
  waves : Waves
  deriving DecidableEq, Repr

/-- A serial lane beside its registers (R411 to R423). -/
structure Lane where
  /-- Ladder step in use, 0 to 9; valid TS1 sets in a row, at most 64. -/
  step : Nat
  ts1 : Nat
  /-- The step has passed, and TS1 with ACK has come; TS2 sets in a row. -/
  passed : Bool
  gotAck : Bool
  ts2 : Nat
  /-- STANDBY is proven (R423). -/
  proven : Bool
  /-- Ticks of the latest entries to FAILED (R422). -/
  fails : List Nat
  /-- Leaving LD (R419). -/
  exiting : Bool
  /-- The tick at which training last began (R413). -/
  trainAt : Nat
  deriving DecidableEq, Repr

/-- A request of this module for LS or LD that has no answer yet (R418): port 0 ingest, 1 to 4 fabric, 5 to 10
heads; kind 1 LS, 2 LD; the sets have been sent; the port enters without an answer (R599, R605); energy has been detected
on the way into LD (R425). -/
structure PwrReq where
  port : Nat
  kind : Nat
  sent : Bool
  alone : Bool
  energy : Bool
  deriving DecidableEq, Repr

/-- The serial lanes. -/
structure Lanes where
  lanes : List Lane
  pwr : List PwrReq
  /-- The active-lane mask of the management port, none until the port becomes ready (R416). -/
  mgtMask : Option Nat
  deriving DecidableEq, Repr

end Sys2Proof.Machine
end

