-- ==== Sys2Proof/Types/Motion.lean ====
section
/-! DEFINITION. The data of motion (R434 to R467), of feedback and of the servo loops (R468 to R496), and the
log of what the module sends. -/

namespace Sys2Proof.Machine

/-- What the module puts on a link or a pin. Frames carry their CRC. -/
inductive Out where
  /-- Characters on the lanes of a port, slot by slot: by lane in port (R287, R289, R371, R404, R424, R522). Ports are 0
  ingest, 1 to 4 fabric, 5 to 10 heads, 11 management. -/
  | link (port : Nat) (lanes : List (Nat × List Chr))
  /-- The WAKE pattern on a lane (R420). -/
  | wake (lane : Nat)
  /-- A frame of the fabric that the module addresses to itself (R386). -/
  | own (frame : List Byte)
  /-- A FIRE_p pulse: its rise in 2^-16 ns and its width in ns (R260, R261). -/
  | pulse (port rise width : Nat)
  /-- A STEP pulse of a stepper with its divisor code on MS[2:0]: its first edge and its width in ns, whether it is
  low-going, and the level of DIR (R452, R453, R467). -/
  | step (stepper code rise width : Nat) (low dir : Bool)
  /-- A code loaded into the DAC of axis S or C, its polarity applied (R486). -/
  | dac (axis : Nat) (code : Int)
  /-- A level put on GPIO pin `name` (R348, R349). -/
  | pin (name : Nat) (value : Nat)
  /-- A pulse on a GPIO pin, or with 255 on PPS_OUT: rise in 2^-16 ns and width in ns (R349, R482). -/
  | pinPulse (name rise width : Nat)
  /-- A response on the management port (R669, R670). -/
  | mgt (bytes : List Byte)
  /-- Bytes on the SPI target (R676). -/
  | spi (bytes : List Byte)
  /-- What the path of a register write reports for the word (R16, R668, R672). -/
  | status (path : Path) (st : OStatus)
  /-- Refresh management of a DRAM bank, as channel + 16 × bank (R504). -/
  | rfm (bank : Nat)
  /-- A frame of the time domains (R335): domain and payload. -/
  | ptp (domain : Nat) (bytes : List Byte)
  deriving DecidableEq, Repr

/-- What a profile generator does (R444, R446 to R450, R458). `dir` true is positive motion. -/
inductive GMode where
  | idle
  /-- ACCEL or CRUISE toward a target (R444). -/
  | move (dir : Bool) (target : Int)
  /-- A stop abandoned because A was raised: the velocity is held (R446). -/
  | hold (dir : Bool) (target : Int)
  /-- DECEL: what is left of the plan, sample by sample as distance, speed and acceleration in the direction of motion,
  and its target (R444). -/
  | decel (dir : Bool) (plan : List (Int × Int × Int)) (target : Int)
  /-- Constant-speed motion of homing (R458). -/
  | seek (dir : Bool) (v : Nat)
  /-- A stop with no target, from motion in a direction (R448). -/
  | stop (dir : Bool)
  /-- A PATH: segment in play, last segment, sample in it, and where the segment began (R450). -/
  | path (seg last k : Nat) (p0 v0 : Int)
  deriving DecidableEq, Repr

/-- What an axis becomes when a stop of R448 ends. -/
inductive After where
  | idle
  | disabled
  | fault (code : Nat)
  | home (state : Nat)
  deriving DecidableEq, Repr

/-- A profile generator, with the pulse side of a stepper (R444 to R460). Positions are unit × 2^16,
velocities units/s × 2^16, accelerations units/s² × 2^16. -/
structure Gen where
  mode : GMode
  after : After
  p : Int
  v : Int
  a : Int
  /-- A and J in use, in the units of R434. -/
  aUse : Nat
  jUse : Nat
  /-- Writes of V, A and J kept for the next move (R446, R447). -/
  keepV : Bool
  keepA : Bool
  keepJ : Bool
  /-- The move-table entry that runs, 0 for none (R437). -/
  entry : Nat
  /-- The AUX_MOVE of a swath runs (R441). -/
  aux : Bool
  /-- A scan move that waits for an AUX move (R442): V in units/s and target. -/
  scan : Option (Nat × Int)
  /-- Stepper: set-point of the previous sample, direction of the latest pulse, samples a catch-up has lasted, TB tick
  before which no pulse may rise, and the end of the latest pulse (R452, R453). -/
  prevP : Int
  negDir : Bool
  behind : Nat
  ready : Nat
  pulseEnd : Nat
  /-- Stepper: the band a due change leads to, with the TB tick at which it came due, and the end of the latest MS setup
  (R455). -/
  toBand : Option (Nat × Nat)
  msEnd : Nat
  /-- Homing: the reference captured an index, the index count (R458, R479). -/
  indexCount : Int
  /-- First entry of the chain that runs (R437, R438). -/
  head : Nat
  /-- Timebase time of the set-point, T_NS form (R435). -/
  stamp : Nat
  /-- The move has started and no sample has run it yet (R460). -/
  fresh : Bool
  deriving DecidableEq, Repr

/-- The source of an axis (R469 to R480). -/
structure FbAxis where
  /-- What ASSIGN has added to the raw position beside whole counts, unit × 2^16 (R459). -/
  offset : Int
  /-- Presented count (R478). -/
  pres : Int
  /-- Interpolated angle of the latest tick (R471). -/
  phi : Nat
  /-- Consecutive ticks with a bad amplitude, and measurements with a bad common mode (R473). -/
  ampBad : Nat
  cmBad : Nat
  /-- A conversion was missed and the idle converter is asked at the next tick (R472). -/
  convLost : Bool
  /-- A deferred index shift Δ (R480), and whether it comes from UNREF. -/
  shift : Option (Int × Bool)
  /-- Digital source: the levels of A and B, and the TB tick of the latest counted edge (R474). -/
  ab : Option (Bool × Bool)
  edgeAt : Option Nat
  /-- The count and the levels at the tick before the latest, and the changes of a digital source between the two: ns after
  the earlier tick, the count after it, A and B (R470, R479). -/
  was : Int
  abWas : Option (Bool × Bool)
  steps : List (Nat × Int × Bool × Bool)
  deriving DecidableEq, Repr

/-- A limit or home input (R456): its level, the TB tick at which the present run of that level began, and the position
captured there. -/
structure PinRun where
  high : Bool
  since : Nat
  pos : Int
  deriving DecidableEq, Repr

/-- A compare unit beside its registers (R482 to R484): the presented position of its latest evaluation. -/
structure Cmp where
  last : Option Int
  /-- Start and end of the latest pulse on its pin, in 2^-16 ns (R482, R706). -/
  pulse : Nat × Nat
  deriving DecidableEq, Repr

/-- A biquad section's memory (R485). -/
structure Biquad where
  x1 : Int
  x2 : Int
  y1 : Int
  y2 : Int
  deriving DecidableEq, Repr

/-- A running injection (R489): samples so far, phase and PRBS register. -/
structure Inj where
  k : Nat
  ph : Nat
  lfsr : Nat
  deriving DecidableEq, Repr

/-- A servo axis beside its registers (R485 to R489). -/
structure Servo where
  integ : Int
  fbPrev : Int
  bq0 : Biquad
  bq1 : Biquad
  ferr : Nat
  inj : Option Inj
  /-- INJ_CTRL START or STOP waits for the next sample. -/
  injStart : Bool
  injStop : Bool
  deriving DecidableEq, Repr

/-- The servo capture unit (R490): waiting for an injection, and samples since the latest record. -/
structure Capture where
  running : Bool
  waitInj : Bool
  skip : Nat
  deriving DecidableEq, Repr

/-- Motion, feedback and servo beside their registers. -/
structure Motion where
  gens : List Gen
  fbs : List FbAxis
  cmps : List Cmp
  servos : List Servo
  cap : Capture
  /-- TB ticks of the latest servo sample. -/
  lastServo : Option Nat
  /-- The inputs POS, NEG and HOME of each axis in turn. -/
  pins : List PinRun
  /-- The latest feedback tick: TB ticks, and counter time in 2^-16 ns (R470, R483). -/
  tickAt : Nat
  tickNow : Nat
  deriving DecidableEq, Repr

/-- One source's sample at a feedback tick (R470 to R474). -/
inductive FbSample where
  | off
  /-- What the converter in service delivers of SIN and COS in µV, none where it delivers nothing or its reference check
  fails, and what the idle one delivers, none while it is on the reference (R471, R472). -/
  | angle (now idle : Option (Int × Int))
  /-- The changes of the levels of A and B since the previous tick, in order: ns after that tick, A and B. The first
  entry after the source has started only tells its levels. -/
  | edges (changes : List (Fin 100 × Bool × Bool))
  deriving DecidableEq, Repr

end Sys2Proof.Machine
end

