-- ==== Sys2Proof/Types/Time.lean ====
section
/-! DEFINITION. The data of the time domains (R334 to R341) and of timed actions (R347 to R352). -/

namespace Sys2Proof.Machine

/-- What an Announce message says of its grandmaster and of its way here (R335). The dataset comparison reads
the fields in this order. -/
structure Announce where
  priority1 : Nat
  clockClass : Nat
  accuracy : Nat
  variance : Nat
  priority2 : Nat
  gm : Nat
  steps : Nat
  /-- The sending port's identity. -/
  source : Nat
  utcOfs : Int
  deriving DecidableEq, Repr

/-- A Sync that waits for its Follow_Up (R335): source, sequence, t2 and correction, flat. -/
structure PendingSync where
  source : Nat
  seq : Nat
  t2 : Int
  corr : Int
  deriving DecidableEq, Repr

/-- A time domain beside its registers (R334 to R338). -/
structure Domain where
  /-- The latest accepted samples, at most 8, latest first: tick and offset in 2^-16 ns. -/
  samples : List (Nat × Int)
  /-- Consecutive samples within LOCK_NS, and beyond 10 × LOCK_NS, of the tracked offset. -/
  good : Nat
  bad : Nat
  /-- A valid sample has been measured. -/
  valid : Bool
  /-- Tick of the latest valid sample. -/
  at_ : Nat
  master : Option Announce
  sync : Option PendingSync
  /-- t2 − t1 − correction of the latest Sync, and the tick of the latest Sync used. -/
  down : Option Int
  usedAt : Option Nat
  /-- Sequence number and t3 of the latest Delay_Req, the mean path delay. -/
  dreqSeq : Nat
  t3 : Option Int
  mpd : Int
  deriving DecidableEq, Repr

/-- A dispatched slot (R349, R350): when its target acts, in 2^-16 ns, and whether it is late. -/
structure TaDue where
  slot : Nat
  act : Nat
  late : Bool
  deriving DecidableEq, Repr

end Sys2Proof.Machine
end

