-- ==== Sys2Proof/Syntax.lean ====
section
/-! DEFINITION. The commands of the module: one constructor for each row of spec/opcode_table.json,
with the operands that the world, or a choice the spec leaves to the module, supplies (log entry 1). -/

namespace Sys2Proof

open Machine

/-- One command. The docstring of each constructor names its row, the rule that governs it and its
operands. -/
inductive Instr where
  /-- REGISTER_WRITE, R12. Operands: `a` the address; `ws` the writes that reach it in one cycle; `hw` the event bits of the
  register that hardware sets in the same cycle (R14). -/
  | registerWrite (a : Nat) (ws : List (Path × Word)) (hw : Word)
  /-- AVS_CHANGE_REQUEST, R26. Operands: `n` the cluster; `mhz` the clock sought in MHz. -/
  | avsChangeRequest (n : Fin 4) (mhz : Nat)
  /-- AVS_SETTLED, R26. Operands: `n` the cluster. -/
  | avsSettled (n : Fin 4)
  /-- AVS_CHANGE_ABANDON, R26. Operands: `n` the cluster. -/
  | avsChangeAbandon (n : Fin 4)
  /-- ESTOP, R41. -/
  | estop
  /-- ESTOP_SET_REPEAT, R304. -/
  | estopSetRepeat
  /-- ESTOP_RELEASE, R460. -/
  | estopRelease
  /-- HEAD_RESUME_SEND, R306. -/
  | headResumeSend
  /-- JOB_RECORD, R58. Operands: `rest` the record after its TYPE byte, as received. -/
  | jobRecord (rest : List Byte)
  /-- LAYER_RECORD, R60. Operands: `rest` the record after its TYPE byte, as received. -/
  | layerRecord (rest : List Byte)
  /-- HEADS_WAIT_END, R84. -/
  | headsWaitEnd
  /-- CELL_BEGIN, R61. Operands: `rest` the record after its TYPE byte, as received. -/
  | cellBegin (rest : List Byte)
  /-- CELL_END, R62. Operands: `rest` the record after its TYPE byte, as received. -/
  | cellEnd (rest : List Byte)
  /-- LATTICE, R69. Operands: `rest` the record after its TYPE byte, as received. -/
  | lattice (rest : List Byte)
  /-- PLACE, R66. Operands: `rest` the record after its TYPE byte, as received. -/
  | place (rest : List Byte)
  /-- ARRAY, R67. Operands: `rest` the record after its TYPE byte, as received. -/
  | array (rest : List Byte)
  /-- POLY, R73. Operands: `rest` the record after its TYPE byte, as received. -/
  | poly (rest : List Byte)
  /-- TRAP, R76. Operands: `rest` the record after its TYPE byte, as received. -/
  | trap (rest : List Byte)
  /-- RECT, R77. Operands: `rest` the record after its TYPE byte, as received. -/
  | rect (rest : List Byte)
  /-- DISC, R78. Operands: `rest` the record after its TYPE byte, as received. -/
  | disc (rest : List Byte)
  /-- PATCH, R79. Operands: `rest` the record after its TYPE byte, as received. -/
  | patch (rest : List Byte)
  /-- MATERIAL, R82. Operands: `rest` the record after its TYPE byte, as received. -/
  | material (rest : List Byte)
  /-- DOSECURVE, R85. Operands: `rest` the record after its TYPE byte, as received. -/
  | dosecurve (rest : List Byte)
  /-- KERNEL, R88. Operands: `rest` the record after its TYPE byte, as received. -/
  | kernel (rest : List Byte)
  /-- FIELD, R90. Operands: `rest` the record after its TYPE byte, as received. -/
  | field (rest : List Byte)
  /-- SWATHPLAN, R93. Operands: `rest` the record after its TYPE byte, as received. -/
  | swathplan (rest : List Byte)
  /-- CHECK_RECORD, R102. Operands: `rest` the record after its TYPE byte, as received. -/
  | checkRecord (rest : List Byte)
  /-- END_RECORD, R53. Operands: `rest` the record after its TYPE byte, as received. -/
  | endRecord (rest : List Byte)
  /-- EXTENSION_RECORD, R109. Operands: `sub` the type code less 0x60; `rest` the record after its TYPE byte, as received. -/
  | extensionRecord (sub : Fin 16) (rest : List Byte)
  /-- LP_SPACE_FREED, R126. -/
  | lpSpaceFreed
  /-- ZLS_RESUME, R113. Operands: `x` the write of EXP_ZLS_CTRL, or the CH_CMD frame. -/
  | zlsResume (x : ResumeBy)
  /-- ABORT_JOB, R115. Operands: `w` the word written. -/
  | abortJob (w : Word)
  /-- TILE_ROW_EXPAND, R120. Operands: `n` the expansion unit; `disagreed` the datapaths of the unit disagree on the way. -/
  | tileRowExpand (n : Fin 4) (disagreed : Bool)
  /-- TILE_ROW_EXPAND_DONE, R133. Operands: `n` the expansion unit; `steps` steps measured; `differ` shadowing units whose CRC differs. -/
  | tileRowExpandDone (n : Fin 4) (steps : Nat) (differ : List (Fin 4))
  /-- POOL_STALL_END, R138. Operands: `n` the expansion unit. -/
  | poolStallEnd (n : Fin 4)
  /-- TILE_ROW_LATE, R146. Operands: `layer` LAYER_SEQ; `swath` swath index; `row` tile row. -/
  | tileRowLate (layer : Nat) (swath : Nat) (row : Nat)
  /-- EXP_UNIT_OUT, R152. Operands: `path` the access path of the write; `w` the word written. -/
  | expUnitOut (path : Path) (w : Word)
  /-- EXP_UNIT_LEAVE, R122. Operands: `n` the expansion unit. -/
  | expUnitLeave (n : Fin 4)
  /-- EXP_UNIT_RETURN, R122. Operands: `path` the access path of the write; `w` the word written. -/
  | expUnitReturn (path : Path) (w : Word)
  /-- XU_SELFTEST_DONE, R122. Operands: `n` the expansion unit; `pass` the outcome. -/
  | xuSelftestDone (n : Fin 4) (pass : Bool)
  /-- XU_REENTER, R122. Operands: `n` the expansion unit. -/
  | xuReenter (n : Fin 4)
  /-- SURVEY_START, R139. -/
  | surveyStart
  /-- SURVEY_DONE, R142. -/
  | surveyDone
  /-- CELL_CACHE_FILL, R128. Operands: `line` the DRAM line; `hits` lines hit since the last fill; `row` the SRAM row read; `ecc` how that read went. -/
  | cellCacheFill (line : Nat) (hits : List Nat) (row : Nat) (ecc : Ecc)
  /-- TILE_DISPATCH, R184. Operands: `t` the tile; `e` the engine; `r` the role. -/
  | tileDispatch (t : TileId) (e : Fin 40) (r : Role)
  /-- PARKED_TILE_QUANTISE, R174. Operands: `e` the engine. -/
  | parkedTileQuantise (e : Fin 40)
  /-- RASTER_DONE, R186. Operands: `e` the engine; `upset` the codes and carry that an engine that errs computes; `hs` what it meets in the tile, one after another; `passes` extra passes of R161; `extra` their clocks. -/
  | rasterDone (e : Fin 40) (upset : Option (List (List Nat) × List Int)) (hs : List Hap) (passes : Nat) (extra : Nat)
  /-- CHECKER_WAIT_TIMEOUT, R185. Operands: `t` the tile; `e` the engine. -/
  | checkerWaitTimeout (t : TileId) (e : Fin 40)
  /-- RING_SPACE_FREE, R248. Operands: `t` the tile. -/
  | ringSpaceFree (t : TileId)
  /-- COMMIT_ACK, R192. Operands: `t` the tile; `flips` bytes of the stream that change on the way, offset and difference; `tarn` words of the writer's tarn that it reads in error: row, outcome. -/
  | commitAck (t : TileId) (flips : List (Nat × Byte)) (tarn : List (Nat × Ecc))
  /-- FIRE_DEADLINE, R200. Operands: `t` the tile. -/
  | fireDeadline (t : TileId)
  /-- SPARE_PROMOTE, R205. Operands: `n` the cluster. -/
  | sparePromote (n : Fin 4)
  /-- VER_ENG_OUT, R208. Operands: `path` the access path of the write; `n` the engine named. -/
  | verEngOut (path : Path) (n : Fin 64)
  /-- VER_ENG_RETURN, R206. Operands: `n` the engine named. -/
  | verEngReturn (n : Fin 64)
  /-- ENG_OUT_APPLY, R206. Operands: `e` the engine. -/
  | engOutApply (e : Fin 40)
  /-- ENG_SELFTEST_DONE, R206. Operands: `e` the engine; `pass` the outcome. -/
  | engSelftestDone (e : Fin 40) (pass : Bool)
  /-- ENG_SHADOW_RETURN, R206. Operands: `e` the engine. -/
  | engShadowReturn (e : Fin 40)
  /-- BEAM_CMD, R245. Operands: `path` the access path of the write; `w` the word written. -/
  | beamCmd (path : Path) (w : Word)
  /-- EDIT_OPEN, R239. Operands: `path` the access path of the write; `w` the word written. -/
  | editOpen (path : Path) (w : Word)
  /-- EDIT_COMMIT, R239. Operands: `path` the access path of the write; `w` the word written. -/
  | editCommit (path : Path) (w : Word)
  /-- EDIT_CANCEL, R239. Operands: `path` the access path of the write; `w` the word written. -/
  | editCancel (path : Path) (w : Word)
  /-- EDIT_VALIDATION_DONE, R237. -/
  | editValidationDone
  /-- SWATH_CAPTURE, R269. -/
  | swathCapture
  /-- LINE_LOAD, R252. Operands: `bad` tile columns whose commit entry fails its check. -/
  | lineLoad (bad : List Nat)
  /-- FEEDBACK_TICK, R471. Operands: `samples` what each source samples; `lat` ns from the tick to its use (R39);
  `sram` SRAM words read on the way that are in error (R516). -/
  | feedbackTick (samples : List FbSample) (lat : Fin 501) (sram : List (TickWord × Ecc))
  /-- STROBE_PULSE, R261. Operands: `p` the head port. -/
  | strobePulse (p : Fin 6)
  /-- GOVERNOR_PERIOD, R265. -/
  | governorPeriod
  /-- SWATH_READY, R268. Operands: `bar` the barrier ID. -/
  | swathReady (bar : Nat)
  /-- SWATH_START_ACTION, R270. -/
  | swathStartAction
  /-- SWATH_END_BOUNDARY, R268. -/
  | swathEndBoundary
  /-- STOP_SWATH, R280. -/
  | stopSwath
  /-- SWATH_STALL, R271. -/
  | swathStall
  /-- HEAD_TEMP_STALE, R274. Operands: `p` the head port; `h` the head. -/
  | headTempStale (p : Fin 6) (h : Fin 8)
  /-- TMARK_PERIOD, R300. Operands: `p` the head port; `phase` the word-clock phase in taps. -/
  | tmarkPeriod (p : Fin 6) (phase : Fin 64)
  /-- HEAD_TMARK_UP, R301. Operands: `p` the head port; `mark` the mark number it carries; `phase` the word-clock phase in taps. -/
  | headTmarkUp (p : Fin 6) (mark : Byte) (phase : Fin 64)
  /-- ECHO_FRAME, R301. Operands: `p` the head port; `fr` the frame from its header to its CRC. -/
  | echoFrame (p : Fin 6) (fr : List Byte)
  /-- HO_ACK_FRAME, R314. Operands: `p` the head port; `fr` the frame from its header to its CRC. -/
  | hoAckFrame (p : Fin 6) (fr : List Byte)
  /-- SB_RSP_FRAME, R292. Operands: `p` the head port; `fr` the frame from its header to its CRC. -/
  | sbRspFrame (p : Fin 6) (fr : List Byte)
  /-- ENUM_RSP_FRAME, R320. Operands: `p` the head port; `fr` the frame from its header to its CRC. -/
  | enumRspFrame (p : Fin 6) (fr : List Byte)
  /-- TELEM_FRAME, R315. Operands: `p` the head port; `fr` the frame from its header to its CRC. -/
  | telemFrame (p : Fin 6) (fr : List Byte)
  /-- EXC_FRAME, R307. Operands: `p` the head port; `fr` the frame from its header to its CRC. -/
  | excFrame (p : Fin 6) (fr : List Byte)
  /-- STATUS_FRAME, R298. Operands: `p` the head port; `fr` the frame from its header to its CRC. -/
  | statusFrame (p : Fin 6) (fr : List Byte)
  /-- FIRE_FRAME_SEND, R298. Operands: `p` the head port; `upset` the frame leaves with a wrong CRC. -/
  | fireFrameSend (p : Fin 6) (upset : Bool)
  /-- SB_REQ_TIMEOUT, R291. Operands: `p` the head port; `h` the head. -/
  | sbReqTimeout (p : Fin 6) (h : Fin 8)
  /-- HEAD_STATUS_TIMEOUT, R308. Operands: `p` the head port; `h` the head. -/
  | headStatusTimeout (p : Fin 6) (h : Fin 8)
  /-- HO_ACK_TIMEOUT, R314. Operands: `p` the head port; `h` the head. -/
  | hoAckTimeout (p : Fin 6) (h : Fin 8)
  /-- ENUM_RETRY, R320. Operands: `p` the head port. -/
  | enumRetry (p : Fin 6)
  /-- PORT_TIME_TIMEOUT, R320. Operands: `p` the head port. -/
  | portTimeTimeout (p : Fin 6)
  /-- TIME_LOCK_LOSS, R320. Operands: `p` the head port. -/
  | timeLockLoss (p : Fin 6)
  /-- LWIDTH_ECHO, R317. Operands: `p` the head port; `h` the head. -/
  | lwidthEcho (p : Fin 6) (h : Fin 8)
  /-- HP_PORT_RESTART, R325. Operands: `path` the access path of the write; `p` the head port. -/
  | hpPortRestart (path : Path) (p : Fin 6)
  /-- SB_IDENTITY_REREAD, R325. Operands: `w` the word written. -/
  | sbIdentityReread (w : Word)
  /-- SB_NOZZLE_CHECK, R316. Operands: `w` the word written. -/
  | sbNozzleCheck (w : Word)
  /-- SB_TELEMETRY_POLL, R325. Operands: `w` the word written. -/
  | sbTelemetryPoll (w : Word)
  /-- WAVE_COMMIT, R313. Operands: `path` the access path of the write; `w` the word written. -/
  | waveCommit (path : Path) (w : Word)
  /-- WAVE_VALIDATION_DONE, R313. -/
  | waveValidationDone
  /-- TB_PLL_LOCK, R331. Operands: `c1` the AON count. -/
  | tbPllLock (c1 : Nat)
  /-- TB_INCR_WRITE, R330. Operands: `path` the access path of the write; `w` the word written. -/
  | tbIncrWrite (path : Path) (w : Word)
  /-- TB_STEP_CMD, R343. Operands: `path` the access path of the write. -/
  | tbStepCmd (path : Path)
  /-- TB_ADJ_COMMIT, R339. Operands: `path` the access path of the write; `w` the word written. -/
  | tbAdjCommit (path : Path) (w : Word)
  /-- TB_PPS_SEC_WRITE, R336. Operands: `path` the access path of the write; `w` the word written. -/
  | tbPpsSecWrite (path : Path) (w : Word)
  /-- SLEW_COMPLETE, R329. -/
  | slewComplete
  /-- PTP_ANNOUNCE, R335. Operands: `n` domainNumber; `a` the message. -/
  | ptpAnnounce (n : Fin 256) (a : Announce)
  /-- PTP_SYNC, R335. Operands: `n` domainNumber; `source` the sending port; `seq` sequenceId; `twoStep` twoStepFlag; `t1` the origin timestamp, flat; `corr` correctionField, 2^-16 ns; `phase` taps past the whole ns. -/
  | ptpSync (n : Fin 256) (source : Nat) (seq : Nat) (twoStep : Bool) (t1 : Int) (corr : Int) (phase : Fin 64)
  /-- PTP_FOLLOW_UP, R335. Operands: `n` domainNumber; `source` the sending port; `seq` sequenceId; `t1` the origin timestamp, flat; `corr` correctionField, 2^-16 ns. -/
  | ptpFollowUp (n : Fin 256) (source : Nat) (seq : Nat) (t1 : Int) (corr : Int)
  /-- DELAY_REQ_SEND, R335. Operands: `d` the time domain; `phase` taps past the whole ns. -/
  | delayReqSend (d : Fin 2) (phase : Fin 64)
  /-- PTP_DELAY_RESP, R335. Operands: `n` domainNumber; `source` the sending port; `seq` sequenceId; `mine` it answers this module; `t4` the receive timestamp, flat; `corr` correctionField, 2^-16 ns. -/
  | ptpDelayResp (n : Fin 256) (source : Nat) (seq : Nat) (mine : Bool) (t4 : Int) (corr : Int)
  /-- PPS_IN_EDGE, R336. Operands: `phase` taps past the whole ns; `tref` TREF_IN cycles since the edge before. -/
  | ppsInEdge (phase : Fin 64) (tref : Nat)
  /-- DOMAIN_SAMPLE_TIMEOUT, R338. Operands: `d` the time domain. -/
  | domainSampleTimeout (d : Fin 2)
  /-- STEP_APPLY, R343. -/
  | stepApply
  /-- TA_ARM, R350. Operands: `path` the access path of the write; `n` the slot. -/
  | taArm (path : Path) (n : Fin 256)
  /-- TA_DISARM, R352. Operands: `path` the access path of the write; `n` the slot. -/
  | taDisarm (path : Path) (n : Fin 256)
  /-- TA_DISPATCH, R349. -/
  | taDispatch
  /-- BARRIER_ACTION, R348. -/
  | barrierAction
  /-- HANDOVER_ACTION, R679. -/
  | handoverAction
  /-- CAL_APPLY_ACTION, R631. -/
  | calApplyAction
  /-- POWER_ACTION, R602. -/
  | powerAction
  /-- DOMAIN_SWITCH, R340. -/
  | domainSwitch
  /-- GPIO_SET, R351. -/
  | gpioSet
  /-- PPS_OUT_PULSE, R354. -/
  | ppsOutPulse
  /-- AON_RATIO_LEARN, R344. Operand: `c` the AON count. -/
  | aonRatioLearn (c : BitVec 64)
  /-- HELLO_SET, R374. Operands: `p` the fabric port; `num` the port number it carries; `st` the port state; `comp` the complement. -/
  | helloSet (p : Fin 4) (num : Byte) (st : Byte) (comp : Byte)
  /-- HELLO_SEND, R371. Operands: `p` the fabric port. -/
  | helloSend (p : Fin 4)
  /-- LINK_KEEPALIVE, R371. Operands: `p` the fabric port; 4 for the ingest port. -/
  | linkKeepalive (p : Fin 5)
  /-- LACK_SET, R373. Operands: `p` the fabric port; 4 for the ingest port; `lseq` LSEQ; `nak` NAK. -/
  | lackSet (p : Fin 5) (lseq : BitVec 16) (nak : Bool)
  /-- CREDIT_SET, R372. Operands: `p` the fabric port, or 4 for the ingest port; `c` the class; `total` the total. -/
  | creditSet (p : Fin 5) (c : Byte) (total : BitVec 16)
  /-- FAB_LWIDTH, R369. Operands: `p` the fabric port; 4 for the ingest port; `m` the mask. -/
  | fabLwidth (p : Fin 5) (m : Byte)
  /-- LINK_RESEND_TIMEOUT, R373. Operands: `p` the fabric port; 4 for the ingest port. -/
  | linkResendTimeout (p : Fin 5)
  /-- LINK_SILENCE_TIMEOUT, R373. Operands: `p` the fabric port; 4 for the ingest port. -/
  | linkSilenceTimeout (p : Fin 5)
  /-- TOPO_FRAME, R378. Operands: `p` the fabric port; 4 for this module itself; `fr` the frame from its header to its CRC. -/
  | topoFrame (p : Fin 5) (fr : List Byte)
  /-- TOPO_REFRESH, R378. -/
  | topoRefresh
  /-- TOPO_ENTRY_EXPIRE, R378. Operands: `serial` its serial number. -/
  | topoEntryExpire (serial : Nat)
  /-- SETTLE_TIMEOUT, R378. -/
  | settleTimeout
  /-- LONE_ROOT_TIMEOUT, R378. -/
  | loneRootTimeout
  /-- ASSIGN_FRAME, R379. Operands: `p` the fabric port; 4 for this module itself; `fr` the frame from its header to its CRC. -/
  | assignFrame (p : Fin 5) (fr : List Byte)
  /-- ROUTE_HOLD_TIMEOUT, R381. -/
  | routeHoldTimeout
  /-- TSYNC_FRAME, R392. Operands: `p` the fabric port; 4 for this module itself; `fr` the frame from its header to its CRC. -/
  | tsyncFrame (p : Fin 5) (fr : List Byte)
  /-- FTMARK_RECEIVE, R391. Operands: `p` the fabric port; `m` the mark number; `phase` taps past the whole ns; `held` ns until the answer leaves; `phase2` taps past the whole ns of its departure. -/
  | ftmarkReceive (p : Fin 4) (m : Byte) (phase : Fin 64) (held : Fin 10001) (phase2 : Fin 64)
  /-- FTMARK_PERIOD, R391. Operands: `phases` by port, taps past the whole ns. -/
  | ftmarkPeriod (phases : List (Fin 64))
  /-- BAR_ARRIVE_FRAME, R388. Operands: `p` the fabric port; 4 for this module itself; `fr` the frame from its header to its CRC. -/
  | barArriveFrame (p : Fin 5) (fr : List Byte)
  /-- BAR_ARRIVE_RESEND, R388. -/
  | barArriveResend
  /-- BAR_RELEASE_FRAME, R388. Operands: `p` the fabric port; 4 for this module itself; `fr` the frame from its header to its CRC. -/
  | barReleaseFrame (p : Fin 5) (fr : List Byte)
  /-- BAR_ABORT_FRAME, R388. Operands: `p` the fabric port; 4 for this module itself; `fr` the frame from its header to its CRC. -/
  | barAbortFrame (p : Fin 5) (fr : List Byte)
  /-- BAR_TIMEOUT, R388. Operands: `bar` the barrier ID. -/
  | barTimeout (bar : Nat)
  /-- GOV_FRAME, R390. Operands: `p` the fabric port; 4 for this module itself; `fr` the frame from its header to its CRC. -/
  | govFrame (p : Fin 5) (fr : List Byte)
  /-- TIMED_FRAME, R394. Operands: `p` the fabric port; 4 for this module itself; `fr` the frame from its header to its CRC. -/
  | timedFrame (p : Fin 5) (fr : List Byte)
  /-- MC_ACK_FRAME, R386. Operands: `p` the fabric port; 4 for this module itself; `fr` the frame from its header to its CRC. -/
  | mcAckFrame (p : Fin 5) (fr : List Byte)
  /-- MC_NAK_FRAME, R386. Operands: `p` the fabric port; 4 for this module itself; `fr` the frame from its header to its CRC. -/
  | mcNakFrame (p : Fin 5) (fr : List Byte)
  /-- MC_ACK_TIMER, R386. -/
  | mcAckTimer
  /-- NAK_FRAME, R385. Operands: `p` the fabric port; 4 for this module itself; `fr` the frame from its header to its CRC. -/
  | nakFrame (p : Fin 5) (fr : List Byte)
  /-- RETRY_LATER_RESEND, R385. -/
  | retryLaterResend
  /-- FROZEN_FRAME, R396. Operands: `p` the fabric port; 4 for this module itself; `fr` the frame from its header to its CRC. -/
  | frozenFrame (p : Fin 5) (fr : List Byte)
  /-- ING_FRAME, R386. Operands: `p` the fabric port; 4 for this module itself; `fr` the frame from its header to its CRC. -/
  | ingFrame (p : Fin 5) (fr : List Byte)
  /-- WRITE_FRAME, R395. Operands: `p` the fabric port; 4 for this module itself; `fr` the frame from its header to its CRC. -/
  | writeFrame (p : Fin 5) (fr : List Byte)
  /-- READ_FRAME, R395. Operands: `p` the fabric port; 4 for this module itself; `fr` the frame from its header to its CRC. -/
  | readFrame (p : Fin 5) (fr : List Byte)
  /-- READ_RSP_FRAME, R384. Operands: `p` the fabric port; 4 for this module itself; `fr` the frame from its header to its CRC. -/
  | readRspFrame (p : Fin 5) (fr : List Byte)
  /-- WACK_FRAME, R384. Operands: `p` the fabric port; 4 for this module itself; `fr` the frame from its header to its CRC. -/
  | wackFrame (p : Fin 5) (fr : List Byte)
  /-- FLOW_TIMEOUT, R384. Operands: `p` the fabric port; `id` the flow. -/
  | flowTimeout (p : Fin 4) (id : Fin 64)
  /-- TUN_REQ_FRAME, R675. Operands: `p` the fabric port; 4 for this module itself; `fr` the frame from its header to its CRC. -/
  | tunReqFrame (p : Fin 5) (fr : List Byte)
  /-- TUN_RSP_FRAME, R675. Operands: `p` the fabric port; 4 for this module itself; `fr` the frame from its header to its CRC. -/
  | tunRspFrame (p : Fin 5) (fr : List Byte)
  /-- LANE_ENERGY_DETECT, R415. Operands: `n` the lane. -/
  | laneEnergyDetect (n : Fin 41)
  /-- LANE_ENERGY_LOSS, R415. Operands: `n` the lane. -/
  | laneEnergyLoss (n : Fin 41)
  /-- TS_SET_RECEIVE, R411. Operands: `n` the lane; `ts` bytes 1 to 7 of the set; `inverted` data valid only inverted; `skew` skew of the port in slots. -/
  | tsSetReceive (n : Fin 40) (ts : List Byte) (inverted : Bool) (skew : Nat)
  /-- TRAIN_STEP_TIMEOUT, R411. Operands: `n` the lane. -/
  | trainStepTimeout (n : Fin 41)
  /-- TRAIN_DWELL_DONE, R411. Operands: `n` the lane. -/
  | trainDwellDone (n : Fin 41)
  /-- LANE_ERROR_LIMIT, R417. Operands: `n` the lane, `also` a mask of the lanes of its port that reach the limit in the
  same window (R425). -/
  | laneErrorLimit (n : Fin 41) (also : Byte)
  /-- CDR_LOCK_LOSS, R417. Operands: `n` the lane. -/
  | cdrLockLoss (n : Fin 41)
  /-- LANE_RETRY_TIMER, R422. Operands: `n` the lane. -/
  | laneRetryTimer (n : Fin 41)
  /-- STANDBY_PROOF_DONE, R423. Operands: `n` the lane. -/
  | standbyProofDone (n : Fin 41)
  /-- LANE_ADMIT, R423. Operands: `n` the lane. -/
  | laneAdmit (n : Fin 41)
  /-- LANE_RETRAIN, R432. Operands: `path` the access path of the write; `n` the lane. -/
  | laneRetrain (path : Path) (n : Fin 41)
  /-- LANE_OUT, R432. Operands: `path` the access path of the write; `n` the lane. -/
  | laneOut (path : Path) (n : Fin 41)
  /-- LANE_PWR_LS, R418. Operands: `path` the access path of the write; `n` the lane. -/
  | lanePwrLs (path : Path) (n : Fin 41)
  /-- LANE_PWR_LD, R418. Operands: `path` the access path of the write; `n` the lane. -/
  | lanePwrLd (path : Path) (n : Fin 41)
  /-- LANE_PWR_EXIT, R419. Operands: `n` the lane. -/
  | lanePwrExit (n : Fin 41)
  /-- EI_LS_RECEIVE, R418. Operands: `q` the port: 0 ingest, 1 to 4 fabric, 5 to 10 heads. -/
  | eiLsReceive (q : Fin 11)
  /-- EI_LD_RECEIVE, R418. Operands: `q` the port: 0 ingest, 1 to 4 fabric, 5 to 10 heads. -/
  | eiLdReceive (q : Fin 11)
  /-- PWR_HANDSHAKE_TIMEOUT, R418. Operands: `q` the port: 0 ingest, 1 to 4 fabric, 5 to 10 heads. -/
  | pwrHandshakeTimeout (q : Fin 11)
  /-- LD_EXIT_LOCK, R419. Operands: `n` the lane. -/
  | ldExitLock (n : Fin 41)
  /-- LD_EXIT_TIMEOUT, R415. Operands: `n` the lane. -/
  | ldExitTimeout (n : Fin 41)
  /-- WAKE_PATTERN_DETECT, R420. Operands: `n` the lane; `full` a complete WAKE pattern. -/
  | wakePatternDetect (n : Fin 41) (full : Bool)
  /-- STRAP_CHANGE, R408. Operands: `v` the straps. -/
  | strapChange (v : Fin 16)
  /-- AXIS_START, R438. Operands: `path` the access path of the write; `x` the axis; `move` the first entry of the chain. -/
  | axisStart (path : Path) (x : Fin 6) (move : Fin 1024)
  /-- AXIS_STOP, R448. Operands: `x` the axis. -/
  | axisStop (x : Fin 6)
  /-- AXIS_HOME, R458. Operands: `path` the access path of the write; `x` the axis. -/
  | axisHome (path : Path) (x : Fin 6)
  /-- AXIS_ENABLE, R486. Operands: `x` the axis. -/
  | axisEnable (x : Fin 6)
  /-- AXIS_DISABLE, R462. Operands: `x` the axis. -/
  | axisDisable (x : Fin 6)
  /-- AXIS_CLEAR, R462. Operands: `x` the axis. -/
  | axisClear (x : Fin 6)
  /-- MOTION_PARAM_WRITE, R446. Operands: `x` the axis; `which` 0 MP_AX_V, 1 MP_AX_A, 2 MP_AX_OVR; `w` the word written. -/
  | motionParamWrite (x : Fin 6) (which : Fin 3) (w : Word)
  /-- SERVO_SAMPLE, R485. -/
  | servoSample
  /-- BAND_CHANGE_APPLY, R455. Operands: `k` the stepper. -/
  | bandChangeApply (k : Fin 4)
  /-- MS_SETUP_END, R455. Operands: `k` the stepper. -/
  | msSetupEnd (k : Fin 4)
  /-- INPUT_QUALIFY, R456. Operands: `x` the axis; `j` 0 LIM_POS, 1 LIM_NEG, 2 HOME; `k` the 200 MHz sample, of the 20 between
  the latest two feedback ticks; `high` the level of the input in it. -/
  | inputQualify (x : Fin 6) (j : Fin 3) (k : Fin 20) (high : Bool)
  /-- INDEX_EVENT, R480. Operands: `x` the axis; `ns` the instant of the edge of Z, from the tick before the latest on; `rise` it
  is a rising edge. -/
  | indexEvent (x : Fin 6) (ns : Fin 100) (rise : Bool)
  /-- WIRE_FAULT, R475. Operands: `x` the axis; `pairs` pairs at one level: bit 0 A, 1 B, 2 Z. -/
  | wireFault (x : Fin 6) (pairs : Fin 8)
  /-- COMMON_MODE_MEASURE, R473. Operands: `x` the axis; `lo` lowest wire level in 50 mV units; `hi` highest. -/
  | commonModeMeasure (x : Fin 2) (lo : Fin 256) (hi : Fin 256)
  /-- FEEDBACK_FAULT_CLEAR, R476. Operands: `x` the axis. -/
  | feedbackFaultClear (x : Fin 6)
  /-- CONVERTER_SWAP, R472. Operands: `x` the axis; `now` and `idle` what the converter in service and the idle one deliver of
  SIN and COS in µV at the tick of the swap. -/
  | converterSwap (x : Fin 2) (now idle : Int × Int)
  /-- IDX_REF_COMMIT, R479. Operands: `path` the access path of the write; `x` the axis; `w` the word written. -/
  | idxRefCommit (path : Path) (x : Fin 6) (w : Word)
  /-- CMP_ARM, R483. Operands: `path` the access path of the write; `u` the unit. -/
  | cmpArm (path : Path) (u : Fin 8)
  /-- CMP_DISARM, R494. Operands: `u` the unit. -/
  | cmpDisarm (u : Fin 8)
  /-- INJ_START, R489. Operands: `path` the access path of the write; `x` the servo axis. -/
  | injStart (path : Path) (x : Fin 2)
  /-- INJ_STOP, R489. Operands: `x` the servo axis. -/
  | injStop (x : Fin 2)
  /-- CAPTURE_START, R490. Operands: `path` the access path of the write. -/
  | captureStart (path : Path)
  /-- CAPTURE_START_WITH_INJ, R490. Operands: `path` the access path of the write. -/
  | captureStartWithInj (path : Path)
  /-- DRAM_TRAINING_DONE, R519. Operands: `ok` channels that have trained; `us` µs after VIN good on the AON counter. -/
  | dramTrainingDone (ok : BitVec 16) (us : Nat)
  /-- DRAM_READ, R505. Operands: `req` the requester of R503; `unit` the layer of requester 1, the engine of requesters 2 to 5, the core of requester 8; `addr` the address; `len` bytes; `upsets` 8-byte words and the bits that have flipped in them; `shut` addresses in banks whose open row the controller has closed. -/
  | dramRead (req : Fin 11) (unit : Nat) (addr : Nat) (len : Nat) (upsets : List (Nat × Nat)) (shut : List Nat)
  /-- DRAM_WRITE, R507. Operands: `req` the requester of R503; `master` the internal master of R653 that writes; `addr` the address; `data` the bytes; `shut` addresses in banks whose open row the controller has closed. -/
  | dramWrite (req : Fin 11) (master : Option (Fin 24)) (addr : Nat) (data : List Byte) (shut : List Nat)
  /-- MERGE_FLUSH, R507. Operands: `line` the line's address. -/
  | mergeFlush (line : Nat)
  /-- RH_WINDOW_RESET, R504. -/
  | rhWindowReset
  /-- SCRUB_STEP, R511. Operands: `upsets` 8-byte words and the bits that have flipped in them. -/
  | scrubStep (upsets : List (Nat × Nat))
  /-- INIT_REGION_DONE, R509. Operands: `us` µs after VIN good on the AON counter. -/
  | initRegionDone (us : Nat)
  /-- PAGE_RETIRE, R514. Operands: `w` the word written. -/
  | pageRetire (w : Word)
  /-- PAGE_COPY_DONE, R513. -/
  | pageCopyDone
  /-- BANK_RETIRE_REQUEST, R515. Operands: `path` the access path of the write; `w` the word written. -/
  | bankRetireRequest (path : Path) (w : Word)
  /-- BANK_RETIRE_CANCEL, R515. Operands: `w` the word written. -/
  | bankRetireCancel (w : Word)
  /-- FLIP_ARM, R512. Operands: `w` the word written. -/
  | flipArm (w : Word)
  /-- DATA_FRAME, R527. Operands: `fr` the frame from its header to its CRC. -/
  | dataFrame (fr : List Byte)
  /-- DESC_WR_FRAME, R528. Operands: `fr` the frame from its header to its CRC. -/
  | descWrFrame (fr : List Byte)
  /-- DOORBELL, R535. Operands: `x` the frame, or the write of ING_CH_CTRL. -/
  | doorbell (x : ChanBy)
  /-- CH_START, R533. Operands: `x` the frame, or the write of ING_CH_CTRL. -/
  | chStart (x : ChanBy)
  /-- CH_RESTART, R533. Operands: `x` the frame, or the write of ING_CH_CTRL. -/
  | chRestart (x : ChanBy)
  /-- CH_ABORT, R533. Operands: `x` the frame, or the write of ING_CH_CTRL. -/
  | chAbort (x : ChanBy)
  /-- STATUS_REQ, R525. Operands: `fr` the frame from its header to its CRC. -/
  | statusReq (fr : List Byte)
  /-- CHANNEL_RUN, R534. -/
  | channelRun
  /-- DESC_FETCH, R530. Operands: the row of the descriptor caches that it goes through, `ecc` how its word reads (R516). -/
  | descFetch (row : Nat) (ecc : Ecc)
  /-- DESC_COMPLETE, R531. -/
  | descComplete
  /-- DMA_BUS_ERROR, R532. Operands: `wr` a channel write, not a descriptor read; `addr` the failing line. -/
  | dmaBusError (wr : Bool) (addr : Nat)
  /-- CRC_UNIT_ENABLE, R542. Operands: `path` the access path of the write; `u` the check unit. -/
  | crcUnitEnable (path : Path) (u : Fin 4)
  /-- CRC_UNIT_DISABLE, R547. Operands: `path` the access path of the write; `u` the check unit. -/
  | crcUnitDisable (path : Path) (u : Fin 4)
  /-- REC_REQ_READ, R564. Operands: `fr` the frame from its header to its CRC. -/
  | recReqRead (fr : List Byte)
  /-- REC_REQ_RELEASE, R564. Operands: `fr` the frame from its header to its CRC. -/
  | recReqRelease (fr : List Byte)
  /-- REC_REQ_INDEX, R564. Operands: `fr` the frame from its header to its CRC. -/
  | recReqIndex (fr : List Byte)
  /-- REC_RELEASE_COMMIT, R567. Operands: `path` the access path of the write; `w` the word written. -/
  | recReleaseCommit (path : Path) (w : Word)
  /-- LAYER_END_WRITE, R558. -/
  | layerEndWrite
  /-- RECORD_VERIFY_DONE, R561. -/
  | recordVerifyDone
  /-- VIN_GOOD, R701. -/
  | vinGood
  /-- VIN_LOSS, R701. Operands: `dead` VIN falls below 3.0 V too. -/
  | vinLoss (dead : Bool)
  /-- VIN_OVERVOLTAGE, R701. -/
  | vinOvervoltage
  /-- RESET_N, R584. Operands: `ns` ns for which the pin has been low. -/
  | resetN (ns : Nat)
  /-- RAIL_FAULT, R584. Operands: `vm` the rail: its voltage monitor. -/
  | railFault (vm : Fin 56)
  /-- INTERNAL_RESET_RELEASE, R583. Operands: `straps` the BOARD_ID straps; `readFail` a read of the flash does not complete; `us` µs after VIN good on the AON counter; `us1` µs after VIN good at which the header is accepted. -/
  | internalResetRelease (straps : Fin 16) (readFail : Bool) (us : Nat) (us1 : Nat)
  /-- IMAGE_SECTION_READ, R576. Operands: `readFail` the read does not complete; `us` µs after VIN good on the AON counter. -/
  | imageSectionRead (readFail : Bool) (us : Nat)
  /-- FIRMWARE_START_TIMEOUT, R577. -/
  | firmwareStartTimeout
  /-- CONFIG_LOCK, R580. Operands: `us` µs after VIN good on the AON counter; `mgt` µs after VIN good at which the management port is ready. -/
  | configLock (us : Nat) (mgt : Nat)
  /-- CFG_LOCK, R580. Operands: `path` the access path of the write; `us` µs after VIN good on the AON counter. -/
  | cfgLock (path : Path) (us : Nat)
  /-- CFG_RESTART, R584. Operands: `w` the word written. -/
  | cfgRestart (w : Word)
  /-- UPD_PROGRAM, R588. Operands: `w` the word written. -/
  | updProgram (w : Word)
  /-- UPD_PROGRAM_DONE, R588. Operands: `diffs` bytes that read back otherwise: offset in the chunk, value. -/
  | updProgramDone (diffs : List (Nat × Byte))
  /-- UPD_CHECK, R589. Operands: `w` the word written; `readFail` a read of the flash does not complete. -/
  | updCheck (w : Word) (readFail : Bool)
  /-- UPD_HANDOVER, R590. -/
  | updHandover
  /-- UPD_ABORT_HANDOVER, R590. -/
  | updAbortHandover
  /-- HANDOVER_ROLE_MOVE, R590. -/
  | handoverRoleMove
  /-- OTP_PROGRAM, R591. Operands: `w` the word written. -/
  | otpProgram (w : Word)
  /-- OTP_PROGRAM_DONE, R591. Operands: `ok` the hash is programmed. -/
  | otpProgramDone (ok : Bool)
  /-- PWR_REQUEST, R603. Operands: `path` the access path of the write; `w` the word written. -/
  | pwrRequest (path : Path) (w : Word)
  /-- PWR_STEP_DONE, R599. Operands: `aon` the AON count. -/
  | pwrStepDone (aon : Nat)
  /-- VCORE_POLL, R600. Operands: `mv` READ_VOUT in mV; `fault` STATUS_WORD shows a fault. -/
  | vcorePoll (mv : Nat) (fault : Bool)
  /-- VCORE_TIMEOUT, R601. -/
  | vcoreTimeout
  /-- IDLE_AFTER_TIMEOUT, R596. -/
  | idleAfterTimeout
  /-- WAKE_PIN, R609. Operands: `k` the pin; `high` its level; `us` for how long it has held that level, in µs. -/
  | wakePin (k : Fin 2) (high : Bool) (us : Nat)
  /-- WAKE_TIMER, R609. -/
  | wakeTimer
  /-- WAKE_DRAM_RETRAINED, R607. Operands: `ok` the canary's CRC holds. -/
  | wakeDramRetrained (ok : Bool)
  /-- HM_SAMPLE, R616. Operands: `c` the channel; `valid` its rail, island or package is on; `v` the sample as measured; `rail` present nominal of VM1 to VM4. -/
  | hmSample (c : Fin 56) (valid : Bool) (v : BitVec 16) (rail : BitVec 16)
  /-- TCAL_UPDATE, R627. -/
  | tcalUpdate
  /-- CAL_RUN, R626. Operands: `path` the access path of the write; `w` the word written. -/
  | calRun (path : Path) (w : Word)
  /-- CAL_FIX, R631. Operands: `path` the access path of the write; `w` the word written. -/
  | calFix (path : Path) (w : Word)
  /-- CAL_INTERP, R631. Operands: `path` the access path of the write; `w` the word written. -/
  | calInterp (path : Path) (w : Word)
  /-- CAL_CLEAR_FAIL, R638. Operands: `w` the word written. -/
  | calClearFail (w : Word)
  /-- SENSOR_CAL_TIMER, R626. -/
  | sensorCalTimer
  /-- CONV_CAL_TIMER, R626. Operands: `x` the axis. -/
  | convCalTimer (x : Fin 2)
  /-- FIRING_CAL_TIMER, R626. -/
  | firingCalTimer
  /-- CAL_MEASURE_DONE, R621. Operands: `t` the target; `m1` first measurement, by value; `m2` second. -/
  | calMeasureDone (t : Fin 105) (m1 : List Int) (m2 : List Int)
  /-- FIRING_DELAY_STEP, R624. Operands: `r` the row. -/
  | firingDelayStep (r : Fin 4096)
  /-- ERR_RECORD_PROCESS, R649. -/
  | errRecordProcess
  /-- ERR_ACK, R646. Operands: `path` the access path of the write; `w` the word written. -/
  | errAck (path : Path) (w : Word)
  /-- ERR_ACK_UPTO, R646. Operands: `w` the word written. -/
  | errAckUpto (w : Word)
  /-- CORE_WATCHDOG_TIMEOUT, R657. Operands: `n` the core. -/
  | coreWatchdogTimeout (n : Fin 12)
  /-- CHECKPOINT_TIMER, R657. Operands: `bad` shadow cores whose checkpoint differs; `words` words of core memory read: core, row, outcome. -/
  | checkpointTimer (bad : List (Fin 12)) (words : List (Fin 12 × Nat × Ecc))
  /-- ERR_CORE_OUT, R660. Operands: `path` the access path of the write; `n` the core named. -/
  | errCoreOut (path : Path) (n : Fin 16)
  /-- ERR_CORE_RETURN, R660. Operands: `n` the core named. -/
  | errCoreReturn (n : Fin 16)
  /-- CORE_SELFTEST_DONE, R660. Operands: `n` the core; `pass` the outcome. -/
  | coreSelftestDone (n : Fin 12) (pass : Bool)
  /-- CORE_SPARE_RETURN, R660. Operands: `n` the core. -/
  | coreSpareReturn (n : Fin 12)
  /-- SPARE_SELFTEST_TIMER, R660. Operands: `n` the core. -/
  | spareSelftestTimer (n : Fin 12)
  /-- ACC_UNFREEZE, R655. Operands: `path` the access path of the write; `w` the word written. -/
  | accUnfreeze (path : Path) (w : Word)
  /-- MGT_REQUEST, R673. Operands: `eth` the Ethernet frame from its destination address. -/
  | mgtRequest (eth : List Byte)
  /-- SPI_READ, R676. Operands: `a` ADDR; `n` words clocked out. -/
  | spiRead (a : Word) (n : Nat)
  /-- SPI_WRITE, R676. Operands: `a` ADDR; `bs` the data bytes. -/
  | spiWrite (a : Word) (bs : List Byte)
  /-- SPI_STATUS, R676. -/
  | spiStatus
  /-- MGT_KEY_COMMIT, R678. Operands: `path` the access path of the write; `auth` the key that authenticated the frame; `k` the key; `w` word 7. -/
  | mgtKeyCommit (path : Path) (auth : Option (Fin 2)) (k : Fin 2) (w : Word)
  /-- UNSUPPORTED_RECORD, R111. Operands: `code` the type code; `rest` the record after its TYPE byte, as received. -/
  | unsupportedRecord (code : Byte) (rest : List Byte)
  /-- FRAME_CRC_ERROR, R373. Operands: `q` the link: 0 ingest, 1 to 4 fabric, 5 to 10 head ports. -/
  | frameCrcError (q : Fin 11)
  /-- ERRORED_CHARACTER, R411. Operands: `n` the lane. -/
  | erroredCharacter (n : Fin 41)
  /-- CONTROL_STATE_DISAGREEMENT, R642. Operands: `u` 0 Geyser, 1 the Wellspring counter, 2 the regulators, 3 to 18 DRAM channels. -/
  | controlStateDisagreement (u : Fin 19)
  deriving DecidableEq, Repr

end Sys2Proof
end

