-- ==== Sys2Proof/Decode.lean ====
section
/-! DEFINITION. The commands a word spells. The opcode table gives no row any bits: commands reach the
block as events, not as words, so no word spells one. -/

namespace Sys2Proof

/-- The command that the low `nbits` of `w` spell: none, since the table gives no row bits. -/
def decodeTableWord (_nbits _w : Nat) : Option Instr := none

end Sys2Proof
end

