-- ==== Sys2Proof/Machine/Bits.lean ====
section
/-! DEFINITION. Bit fields, two's complement, rounding and byte order (R8, R9, R10). -/

namespace Sys2Proof

/-- A named field of a register: its lowest bit and its width. -/
structure Field where
  lo : Nat
  width : Nat
  deriving DecidableEq, Repr

/-- The value of field `f` in `w`. -/
def Field.get (f : Field) (w : Word) : Nat := (w.toNat >>> f.lo) % 2 ^ f.width

/-- `w` with field `f` holding `v` modulo the field's width. -/
def Field.put (f : Field) (v : Nat) (w : Word) : Word :=
  BitVec.ofNat 32 (w.toNat - (f.get w <<< f.lo) + ((v % 2 ^ f.width) <<< f.lo))

/-- The bits of field `f`, as a mask. -/
def Field.mask (f : Field) : Nat := (2 ^ f.width - 1) <<< f.lo

end Sys2Proof

namespace Sys2Proof.Bits

/-- Bit `i` of `v`. -/
def bit (v i : Nat) : Bool := (v >>> i) % 2 == 1

/-- Bits `[lo + w - 1 : lo]` of `v`. -/
def bits (v lo w : Nat) : Nat := (v >>> lo) % 2 ^ w

/-- A Bool as the bit it is written as. -/
def b2n (b : Bool) : Nat := if b then 1 else 0

/-- The signed value of the low `n` bits of `v` (sN of R9). -/
def signed (n v : Nat) : Int :=
  let u := v % 2 ^ n
  if u < 2 ^ (n - 1) then (u : Int) else (u : Int) - (2 ^ n : Nat)

/-- The low `n` bits of the two's complement of `x` (a result wraps at its declared type, R10). -/
def twos (n : Nat) (x : Int) : Nat := (x % ((2 ^ n : Nat) : Int)).toNat

/-- `x` wrapped to sN (R10). -/
def wrapS (n : Nat) (x : Int) : Int := signed n (twos n x)

/-- `clamp(x, lo, hi)` of R10. -/
def clamp (x lo hi : Int) : Int := if x < lo then lo else if hi < x then hi else x

/-- `a >> n` on a signed type: rounds toward minus infinity (R10). -/
def sar (a : Int) (n : Nat) : Int := a.fdiv ((2 ^ n : Nat) : Int)

/-- `a div b`: truncates toward zero (R10). -/
def divT (a b : Int) : Int := a.tdiv b

/-- The quotient rounded to the nearest integer, halves up. -/
def divHalfUp (a b : Int) : Int := (2 * a + b).fdiv (2 * b)

/-- The quotient rounded up. -/
def divUp (a b : Nat) : Nat := (a + b - 1) / b

/-- A counter of `w` bits that saturates: `v + n`, held at its greatest value. -/
def satAdd (w v n : Nat) : Nat := min (v + n) (2 ^ w - 1)

/-- The number that little-endian bytes spell (R8). -/
def ofLE : List Byte → Nat
  | [] => 0
  | b :: bs => b.toNat + 256 * ofLE bs

/-- `v` as `n` little-endian bytes (R8). -/
def toLE : Nat → Nat → List Byte
  | 0, _ => []
  | n + 1, v => BitVec.ofNat 8 v :: toLE n (v / 256)

/-- The number that bytes in network order spell (R8, R669). -/
def ofBE (bs : List Byte) : Nat := ofLE bs.reverse

/-- `v` as `n` bytes in network order. -/
def toBE (n v : Nat) : List Byte := (toLE n v).reverse

/-- `n` bytes from offset `off`, little-endian; bytes past the end read as absent. -/
def rd (bs : List Byte) (off n : Nat) : Nat := ofLE ((bs.drop off).take n)

/-- As `rd`, signed. -/
def rdS (bs : List Byte) (off n : Nat) : Int := signed (8 * n) (rd bs off n)

/-- The element at `i`, or `d` past the end. -/
def nth {α : Type} (l : List α) (i : Nat) (d : α) : α := l.getD i d

/-- The list with element `i` replaced (unchanged where there is none). -/
def setNth {α : Type} (l : List α) (i : Nat) (x : α) : List α := l.set i x

/-- The least natural number below `n` for which `p` holds. -/
def findBelow (n : Nat) (p : Nat → Bool) : Option Nat := (List.range n).find? p

/-- The sum of `f 0` to `f (n - 1)`. -/
def sumBelow (n : Nat) (f : Nat → Nat) : Nat := (List.range n).foldl (fun a i => a + f i) 0

/-- Integer square root, rounded down, by bits from `b` downward. -/
def isqrtGo (n : Nat) : Nat → Nat → Nat
  | 0, r => r
  | b + 1, r => let c := r + 2 ^ b; isqrtGo n b (if c * c ≤ n then c else r)

/-- Integer square root of a value below 2^128, rounded down. -/
def isqrt (n : Nat) : Nat := isqrtGo n 64 0

/-- The list with `x` before the first entry that it comes before, or at its end. -/
def insertBefore {α : Type} (before : α → α → Bool) (x : α) (l : List α) : List α :=
  let n := l.findIdx (before x)
  l.take n ++ x :: l.drop n

end Sys2Proof.Bits
end

