-- ==== Sys2Proof/Machine/Crc.lean ====
section
/-! DEFINITION. The check codes of R51, R104 and R539, and SHA-256 with HMAC as FIPS 180-4 and FIPS
198-1 define them (R575, R670). -/

namespace Sys2Proof.Crc

open Sys2Proof.Bits

/-- `f` folded over bytes. The case split makes the value a number at every byte, so that the kernel evaluates long
lists byte by byte. -/
def foldBytes (f : Nat → Byte → Nat) : List Byte → Nat → Nat
  | [], c => c
  | b :: l, c =>
    match c with
    | 0 => foldBytes f l (f 0 b)
    | n + 1 => foldBytes f l (f (n + 1) b)

/-- One bit of a reflected code with reflected polynomial `poly`. -/
def stepR (poly c : Nat) : Nat := if c % 2 = 1 then (c / 2) ^^^ poly else c / 2

/-- One byte of a reflected code. -/
def byteR (poly c : Nat) (b : Byte) : Nat :=
  let c := c ^^^ b.toNat
  stepR poly (stepR poly (stepR poly (stepR poly (stepR poly (stepR poly (stepR poly (stepR poly c)))))))

/-- One bit of an unreflected code of `w` bits. -/
def stepF (w poly c : Nat) : Nat :=
  if c ≥ 2 ^ (w - 1) then ((c * 2) % 2 ^ w) ^^^ poly else c * 2

/-- One byte of an unreflected code of `w` bits. -/
def byteF (w poly c : Nat) (b : Byte) : Nat :=
  let c := c ^^^ (b.toNat <<< (w - 8))
  stepF w poly (stepF w poly (stepF w poly (stepF w poly (stepF w poly (stepF w poly (stepF w poly (stepF w poly c)))))))

/-- CRC-32C (R51). -/
def crc32c (bs : List Byte) : Nat := foldBytes (byteR 0x82F63B78) bs 0xFFFFFFFF ^^^ 0xFFFFFFFF

/-- CRC-32 of IEEE 802.3 (R539). -/
def crc32 (bs : List Byte) : Nat := foldBytes (byteR 0xEDB88320) bs 0xFFFFFFFF ^^^ 0xFFFFFFFF

/-- CRC-64/ECMA-182 continued from value `c` (R104). -/
def crc64From (c : Nat) (bs : List Byte) : Nat := foldBytes (byteF 64 0x42F0E1EBA9EA3693) bs c

/-- CRC-64/ECMA-182 (R104). -/
def crc64 (bs : List Byte) : Nat := crc64From 0 bs

/-- CRC-16/CCITT-FALSE (R539). -/
def crc16 (bs : List Byte) : Nat := foldBytes (byteF 16 0x1021) bs 0xFFFF

/-! ### SHA-256 and HMAC -/

/-- The first 64 primes, from which FIPS 180-4 takes its constants. -/
def primes64 : List Nat :=
  (List.range 312).filter fun n => 2 ≤ n && (List.range n).all fun d => d < 2 || n % d != 0

/-- Integer cube root, rounded down, by bits from `b` downward. -/
def icbrtGo (n : Nat) : Nat → Nat → Nat
  | 0, r => r
  | b + 1, r => let c := r + 2 ^ b; icbrtGo n b (if c ^ 3 ≤ n then c else r)

/-- Round constants of FIPS 180-4: the first 32 bits of the fractional parts of the cube roots of the primes. -/
def shaK : List (BitVec 32) := primes64.map fun p => BitVec.ofNat 32 (icbrtGo (p * 2 ^ 96) 36 0)

/-- Initial hash value of FIPS 180-4: the first 32 bits of the fractional parts of the square roots of the first eight
primes. -/
def shaInit : List (BitVec 32) := (primes64.take 8).map fun p => BitVec.ofNat 32 (isqrt (p * 2 ^ 64))

/-- The message schedule, newest word first, grown by `n` words. -/
def shaSchedule : Nat → List (BitVec 32) → List (BitVec 32)
  | 0, w => w
  | n + 1, w =>
    let at' (i : Nat) := w.getD i 0
    let s0 := (at' 14).rotateRight 7 ^^^ (at' 14).rotateRight 18 ^^^ (at' 14) >>> 3
    let s1 := (at' 1).rotateRight 17 ^^^ (at' 1).rotateRight 19 ^^^ (at' 1) >>> 10
    shaSchedule n ((at' 15 + s0 + at' 6 + s1) :: w)

/-- One round on the working variables a to h. -/
def shaRound (v : List (BitVec 32)) (kw : BitVec 32 × BitVec 32) : List (BitVec 32) :=
  match v with
  | [a, b, c, d, e, f, g, h] =>
    let s1 := e.rotateRight 6 ^^^ e.rotateRight 11 ^^^ e.rotateRight 25
    let ch := (e &&& f) ^^^ (~~~e &&& g)
    let t1 := h + s1 + ch + kw.1 + kw.2
    let s0 := a.rotateRight 2 ^^^ a.rotateRight 13 ^^^ a.rotateRight 22
    let maj := (a &&& b) ^^^ (a &&& c) ^^^ (b &&& c)
    [t1 + (s0 + maj), a, b, c, d + t1, e, f, g]
  | _ => v

/-- One 64-byte block. -/
def shaBlock (h : List (BitVec 32)) (blk : List Byte) : List (BitVec 32) :=
  let w0 := (List.range 16).map fun i => BitVec.ofNat 32 (ofBE ((blk.drop (4 * i)).take 4))
  let w := (shaSchedule 48 w0.reverse).reverse
  List.zipWith (· + ·) h ((shaK.zip w).foldl shaRound h)

/-- All blocks of a padded message. -/
def shaBlocks : Nat → List (BitVec 32) → List Byte → List (BitVec 32)
  | 0, h, _ => h
  | n + 1, h, m => shaBlocks n (shaBlock h (m.take 64)) (m.drop 64)

/-- SHA-256: 32 bytes. -/
def sha256 (m : List Byte) : List Byte :=
  let padLen := (119 - m.length % 64) % 64
  let p := m ++ [0x80] ++ List.replicate padLen 0 ++ toBE 8 (8 * m.length)
  (shaBlocks (p.length / 64) shaInit p).flatMap fun w => toBE 4 w.toNat

/-- HMAC-SHA-256 with a key of at most 64 bytes (FIPS 198-1). -/
def hmac (key m : List Byte) : List Byte :=
  let k := key ++ List.replicate (64 - key.length) 0
  sha256 (k.map (· ^^^ 0x5c) ++ sha256 (k.map (· ^^^ 0x36) ++ m))

end Sys2Proof.Crc
end

