-- ==== Sys2Proof/Machine/RegMap.lean ====
section
/-! DEFINITION. The register map: every register of the spec as a named address (the register
tables R5, R117, R149, R178, R210, R241, R276, R322, R357, R363, R398, R428, R461, R466, R492, R495,
R518, R520, R544, R546, R567, R593, R611, R634, R637, R664, R666, R681, R683), every named field as
its place in the word (the field tables beside them), and one descriptor a register array with its
access code (R12), its writable bits (R13) and its reset word. -/

namespace Sys2Proof.Reg

/-- GLB_DEVICE_ID, R5. -/
def GLB_DEVICE_ID : Nat := 0x00000000
/-- GLB_FW_VERSION, R5. -/
def GLB_FW_VERSION : Nat := 0x00000004
/-- GLB_SERIAL_LO, R5. -/
def GLB_SERIAL_LO : Nat := 0x00000008
/-- GLB_SERIAL_HI, R5. -/
def GLB_SERIAL_HI : Nat := 0x0000000C
/-- EXP_ZLS_STATUS, R117. -/
def EXP_ZLS_STATUS : Nat := 0x00070F00
/-- EXP_ZLS_CTRL, R117. -/
def EXP_ZLS_CTRL : Nat := 0x00070F04
/-- EXP_ZLS_LAST_SEQ, R117. -/
def EXP_ZLS_LAST_SEQ : Nat := 0x00070F08
/-- EXP_ZLS_RESUME_SEQ, R117. -/
def EXP_ZLS_RESUME_SEQ : Nat := 0x00070F0C
/-- EXP_ZLS_FAULT_SEQ, R117. -/
def EXP_ZLS_FAULT_SEQ : Nat := 0x00070F10
/-- EXP_ZLS_LAYER_SEQ, R117. -/
def EXP_ZLS_LAYER_SEQ : Nat := 0x00070F14
/-- EXP_ZLS_FAULT_OFS_LO, R117. -/
def EXP_ZLS_FAULT_OFS_LO : Nat := 0x00070F18
/-- EXP_ZLS_FAULT_OFS_HI, R117. -/
def EXP_ZLS_FAULT_OFS_HI : Nat := 0x00070F1C
/-- EXP_ZLS_SKIPPED, R117. -/
def EXP_ZLS_SKIPPED : Nat := 0x00070F20
/-- EXP_ZLS_DISCARDED, R117. -/
def EXP_ZLS_DISCARDED : Nat := 0x00070F24
/-- EXP_ZLS_WITHDRAWN, R117. -/
def EXP_ZLS_WITHDRAWN : Nat := 0x00070F28
/-- EXP_CFG, R149. -/
def EXP_CFG : Nat := 0x00070000
/-- EXP_BINPOOL_SIZE, R149. -/
def EXP_BINPOOL_SIZE : Nat := 0x00070004
/-- EXP_UNIT_STATUS, R149. -/
def EXP_UNIT_STATUS : Nat := 0x00070008
/-- EXP_UNIT_CTRL, R149. -/
def EXP_UNIT_CTRL : Nat := 0x0007000C
/-- EXP_EVENT, R149. -/
def EXP_EVENT : Nat := 0x00070010
/-- EXP_SURVEY_STATUS, R149. -/
def EXP_SURVEY_STATUS : Nat := 0x00070014
/-- EXP_SURVEY_RATE, R149. -/
def EXP_SURVEY_RATE : Nat := 0x00070018
/-- EXP_SURVEY_EXP_LIMIT, R149. -/
def EXP_SURVEY_EXP_LIMIT : Nat := 0x0007001C
/-- EXP_SURVEY_COST, R149. -/
def EXP_SURVEY_COST : Nat := 0x00070020
/-- EXP_SURVEY_ROW, R149. -/
def EXP_SURVEY_ROW : Nat := 0x00070024
/-- EXP_SURVEY_STEPS, R149. -/
def EXP_SURVEY_STEPS : Nat := 0x00070028
/-- EXP_LP_SIZE, R149. -/
def EXP_LP_SIZE : Nat := 0x0007002C
/-- EXP_LP_FREE, R149. -/
def EXP_LP_FREE : Nat := 0x00070030
/-- EXP_POOL_FREE, R149. -/
def EXP_POOL_FREE : Nat := 0x00070034
/-- EXP_LATE_ROWS, R149. -/
def EXP_LATE_ROWS : Nat := 0x00070038
/-- EXP_THRASH_COUNT, R149. -/
def EXP_THRASH_COUNT : Nat := 0x0007003C
/-- EXP_LOCKSTEP_COUNT, R149. -/
def EXP_LOCKSTEP_COUNT : Nat := 0x00070040
/-- EXP_MISS_LO, R149. -/
def EXP_MISS_LO : Nat := 0x00070044
/-- EXP_MISS_HI, R149. -/
def EXP_MISS_HI : Nat := 0x00070048
/-- CE_ENG_STATUS, R178. -/
def CE_ENG_STATUS (e : Nat) : Nat := 0x00080000 + 0x400 * e
/-- CE_ENG_LAYER, R178. -/
def CE_ENG_LAYER (e : Nat) : Nat := 0x00080004 + 0x400 * e
/-- CE_ENG_TILE, R178. -/
def CE_ENG_TILE (e : Nat) : Nat := 0x00080008 + 0x400 * e
/-- CE_ENG_TROW, R178. -/
def CE_ENG_TROW (e : Nat) : Nat := 0x0008000C + 0x400 * e
/-- CE_ENG_TILES_LO, R178. -/
def CE_ENG_TILES_LO (e : Nat) : Nat := 0x00080010 + 0x400 * e
/-- CE_ENG_TILES_HI, R178. -/
def CE_ENG_TILES_HI (e : Nat) : Nat := 0x00080014 + 0x400 * e
/-- CE_ENG_BUSY_LO, R178. -/
def CE_ENG_BUSY_LO (e : Nat) : Nat := 0x00080018 + 0x400 * e
/-- CE_ENG_BUSY_HI, R178. -/
def CE_ENG_BUSY_HI (e : Nat) : Nat := 0x0008001C + 0x400 * e
/-- CE_ENG_LAST_CLK, R178. -/
def CE_ENG_LAST_CLK (e : Nat) : Nat := 0x00080020 + 0x400 * e
/-- CE_ENG_TARN_CORR, R178. -/
def CE_ENG_TARN_CORR (e : Nat) : Nat := 0x00080024 + 0x400 * e
/-- CE_ENG_TARN_UNCORR, R178. -/
def CE_ENG_TARN_UNCORR (e : Nat) : Nat := 0x00080028 + 0x400 * e
/-- CE_CL_STATUS, R178. -/
def CE_CL_STATUS (n : Nat) : Nat := 0x0008A000 + 0x40 * n
/-- CE_CL_CFG, R178. -/
def CE_CL_CFG (n : Nat) : Nat := 0x0008A004 + 0x40 * n
/-- CE_CL_AVS_CHANGES, R178. -/
def CE_CL_AVS_CHANGES (n : Nat) : Nat := 0x0008A008 + 0x40 * n
/-- CE_CL_AVS_ABANDON, R178. -/
def CE_CL_AVS_ABANDON (n : Nat) : Nat := 0x0008A00C + 0x40 * n
/-- CE_MODEL, R178. -/
def CE_MODEL : Nat := 0x0008B000
/-- CE_TAKEOVER_LOST, R178. -/
def CE_TAKEOVER_LOST : Nat := 0x0008B004
/-- CE_KSAT_LO, R178. -/
def CE_KSAT_LO : Nat := 0x0008B008
/-- CE_KSAT_HI, R178. -/
def CE_KSAT_HI : Nat := 0x0008B00C
/-- CE_CSAT_LO, R178. -/
def CE_CSAT_LO : Nat := 0x0008B010
/-- CE_CSAT_HI, R178. -/
def CE_CSAT_HI : Nat := 0x0008B014
/-- CE_XOVF, R178. -/
def CE_XOVF : Nat := 0x0008B018
/-- CE_PARK_WAITS, R178. -/
def CE_PARK_WAITS : Nat := 0x0008B01C
/-- CE_BIN_ID_ERR, R178. -/
def CE_BIN_ID_ERR : Nat := 0x0008B020
/-- VER_CFG, R210. -/
def VER_CFG : Nat := 0x00090000
/-- VER_SALT, R210. -/
def VER_SALT : Nat := 0x00090004
/-- VER_STATUS, R210. -/
def VER_STATUS : Nat := 0x00090008
/-- VER_LEAD, R210. -/
def VER_LEAD : Nat := 0x0009000C
/-- VER_EVENT, R210. -/
def VER_EVENT : Nat := 0x00090010
/-- VER_ENG_CTRL, R210. -/
def VER_ENG_CTRL : Nat := 0x00090014
/-- VER_COMMITS_LO, R210. -/
def VER_COMMITS_LO : Nat := 0x00090018
/-- VER_COMMITS_HI, R210. -/
def VER_COMMITS_HI : Nat := 0x0009001C
/-- VER_MISMATCHES, R210. -/
def VER_MISMATCHES : Nat := 0x00090020
/-- VER_VOTES_LATE, R210. -/
def VER_VOTES_LATE : Nat := 0x00090024
/-- VER_NO_MAJORITY, R210. -/
def VER_NO_MAJORITY : Nat := 0x00090028
/-- VER_BLANKS, R210. -/
def VER_BLANKS : Nat := 0x0009002C
/-- VER_MARGIN_MIN, R210. -/
def VER_MARGIN_MIN : Nat := 0x00090030
/-- VER_LAST_BLANK_LAYER, R210. -/
def VER_LAST_BLANK_LAYER : Nat := 0x00090034
/-- VER_LAST_BLANK_TILE, R210. -/
def VER_LAST_BLANK_TILE : Nat := 0x00090038
/-- VER_LAST_BLANK_TROW, R210. -/
def VER_LAST_BLANK_TROW : Nat := 0x0009003C
/-- VER_ENG_REC, R210. -/
def VER_ENG_REC (e : Nat) : Nat := 0x00090100 + 0x4 * e
/-- BM_STATUS, R241. -/
def BM_STATUS : Nat := 0x000A0000
/-- BM_CTRL, R241. -/
def BM_CTRL : Nat := 0x000A0004
/-- BM_POLICY, R241. -/
def BM_POLICY : Nat := 0x000A0008
/-- BM_BEAM_CMD, R241. -/
def BM_BEAM_CMD : Nat := 0x000A000C
/-- BM_EVENT, R241. -/
def BM_EVENT : Nat := 0x000A0010
/-- BM_VALID_ERR, R241. -/
def BM_VALID_ERR : Nat := 0x000A0014
/-- BM_CX0, R241. -/
def BM_CX0 : Nat := 0x000A0018
/-- BM_COL_PITCH, R241. -/
def BM_COL_PITCH : Nat := 0x000A001C
/-- BM_NBEAM, R241. -/
def BM_NBEAM : Nat := 0x000A0020
/-- BM_NCOL, R241. -/
def BM_NCOL : Nat := 0x000A0024
/-- BM_NROW, R241. -/
def BM_NROW : Nat := 0x000A0028
/-- BM_CAP_LAYER, R241. -/
def BM_CAP_LAYER : Nat := 0x000A002C
/-- BM_CAP_SWATH, R241. -/
def BM_CAP_SWATH : Nat := 0x000A0030
/-- BM_CAP_DEAD, R241. -/
def BM_CAP_DEAD : Nat := 0x000A0034
/-- BM_CAP_WEAK, R241. -/
def BM_CAP_WEAK : Nat := 0x000A0038
/-- BM_CAP_TAKEOVER, R241. -/
def BM_CAP_TAKEOVER : Nat := 0x000A003C
/-- BM_CAP_TWIN, R241. -/
def BM_CAP_TWIN : Nat := 0x000A0040
/-- BM_STATUS_CHANGES, R241. -/
def BM_STATUS_CHANGES : Nat := 0x000A0044
/-- BM_TELEM_DISCARDED, R241. -/
def BM_TELEM_DISCARDED : Nat := 0x000A0048
/-- BM_PORT_FIRST, R241. -/
def BM_PORT_FIRST (p : Nat) : Nat := 0x000A0080 + 0x8 * p
/-- BM_PORT_COLS, R241. -/
def BM_PORT_COLS (p : Nat) : Nat := 0x000A0084 + 0x8 * p
/-- GY_CFG, R276. -/
def GY_CFG : Nat := 0x000B0000
/-- GY_VMIN, R276. -/
def GY_VMIN : Nat := 0x000B0004
/-- GY_RING_MIB, R276. -/
def GY_RING_MIB : Nat := 0x000B0008
/-- GY_GOV_CFG, R276. -/
def GY_GOV_CFG : Nat := 0x000B000C
/-- GY_GOV_PERIOD, R276. -/
def GY_GOV_PERIOD : Nat := 0x000B0010
/-- GY_SCAN_ZERO_LO, R276. -/
def GY_SCAN_ZERO_LO : Nat := 0x000B0014
/-- GY_SCAN_ZERO_HI, R276. -/
def GY_SCAN_ZERO_HI : Nat := 0x000B0018
/-- GY_CTRL, R276. -/
def GY_CTRL : Nat := 0x000B001C
/-- GY_STATUS, R276. -/
def GY_STATUS : Nat := 0x000B0020
/-- GY_EVENT, R276. -/
def GY_EVENT : Nat := 0x000B0024
/-- GY_RATE_HZ, R276. -/
def GY_RATE_HZ : Nat := 0x000B0028
/-- GY_LEAD_US, R276. -/
def GY_LEAD_US : Nat := 0x000B002C
/-- GY_LEAD_MIN_US, R276. -/
def GY_LEAD_MIN_US : Nat := 0x000B0030
/-- GY_SWATH_LAYER, R276. -/
def GY_SWATH_LAYER : Nat := 0x000B0034
/-- GY_SWATH_IDX, R276. -/
def GY_SWATH_IDX : Nat := 0x000B0038
/-- GY_SPAN_BYTES, R276. -/
def GY_SPAN_BYTES : Nat := 0x000B003C
/-- GY_POS_LO, R276. -/
def GY_POS_LO : Nat := 0x000B0040
/-- GY_POS_HI, R276. -/
def GY_POS_HI : Nat := 0x000B0044
/-- GY_VEL_LO, R276. -/
def GY_VEL_LO : Nat := 0x000B0048
/-- GY_VEL_HI, R276. -/
def GY_VEL_HI : Nat := 0x000B004C
/-- GY_UNDERRUNS, R276. -/
def GY_UNDERRUNS : Nat := 0x000B0050
/-- GY_MISSED, R276. -/
def GY_MISSED : Nat := 0x000B0054
/-- GY_RATE_CLAMPS, R276. -/
def GY_RATE_CLAMPS : Nat := 0x000B0058
/-- GY_STROBE_SLIPS, R276. -/
def GY_STROBE_SLIPS : Nat := 0x000B005C
/-- GY_SLIP_MAX, R276. -/
def GY_SLIP_MAX : Nat := 0x000B0060
/-- GY_CLAIMS, R276. -/
def GY_CLAIMS : Nat := 0x000B0064
/-- GY_PORT_LAT, R276. -/
def GY_PORT_LAT (p : Nat) : Nat := 0x000B0100 + 0x10 * p
/-- GY_PORT_TEMP, R276. -/
def GY_PORT_TEMP (p : Nat) : Nat := 0x000B0104 + 0x10 * p
/-- GY_PORT_STATUS, R276. -/
def GY_PORT_STATUS (p : Nat) : Nat := 0x000B0108 + 0x10 * p
/-- GY_PORT_HARD_STOPS, R276. -/
def GY_PORT_HARD_STOPS (p : Nat) : Nat := 0x000B010C + 0x10 * p
/-- HP_CFG, R322. -/
def HP_CFG : Nat := 0x000C0000
/-- HP_EVENT, R322. -/
def HP_EVENT : Nat := 0x000C0004
/-- HP_SB_CMD, R322. -/
def HP_SB_CMD : Nat := 0x000C0008
/-- HP_WAVE_CTRL, R322. -/
def HP_WAVE_CTRL : Nat := 0x000C000C
/-- HP_WAVE_STATUS, R322. -/
def HP_WAVE_STATUS : Nat := 0x000C0010
/-- HP_PORT_STATUS, R322. -/
def HP_PORT_STATUS (p : Nat) : Nat := 0x000C0100 + 0x100 * p
/-- HP_PORT_CTRL, R322. -/
def HP_PORT_CTRL (p : Nat) : Nat := 0x000C0104 + 0x100 * p
/-- HP_PORT_RATE, R322. -/
def HP_PORT_RATE (p : Nat) : Nat := 0x000C0108 + 0x100 * p
/-- HP_BUDGET_NS, R322. -/
def HP_BUDGET_NS (p : Nat) : Nat := 0x000C010C + 0x100 * p
/-- HP_LATE_DROPS, R322. -/
def HP_LATE_DROPS (p : Nat) : Nat := 0x000C0110 + 0x100 * p
/-- HP_EXC, R322. -/
def HP_EXC (p : Nat) : Nat := 0x000C0114 + 0x100 * p
/-- HP_FRAME_ERR, R322. -/
def HP_FRAME_ERR (p : Nat) : Nat := 0x000C0118 + 0x100 * p
/-- HP_TELEM_UNMAPPED, R322. -/
def HP_TELEM_UNMAPPED (p : Nat) : Nat := 0x000C011C + 0x100 * p
/-- HP_HO_ID, R322. -/
def HP_HO_ID (p : Nat) : Nat := 0x000C0120 + 0x100 * p
/-- HP_HEAD_INFO, R322. -/
def HP_HEAD_INFO (p : Nat) (h : Nat) : Nat := 0x000C0140 + 0x100 * p + 0x10 * h
/-- HP_HEAD_DELAY, R322. -/
def HP_HEAD_DELAY (p : Nat) (h : Nat) : Nat := 0x000C0144 + 0x100 * p + 0x10 * h
/-- HP_HEAD_SERIAL_LO, R322. -/
def HP_HEAD_SERIAL_LO (p : Nat) (h : Nat) : Nat := 0x000C0148 + 0x100 * p + 0x10 * h
/-- HP_HEAD_SERIAL_HI, R322. -/
def HP_HEAD_SERIAL_HI (p : Nat) (h : Nat) : Nat := 0x000C014C + 0x100 * p + 0x10 * h
/-- TB_CFG, R357. -/
def TB_CFG : Nat := 0x00010000
/-- TB_STATUS, R357. -/
def TB_STATUS : Nat := 0x00010004
/-- TB_INCR, R357. -/
def TB_INCR : Nat := 0x00010008
/-- TB_CTRL, R357. -/
def TB_CTRL : Nat := 0x0001000C
/-- TB_NOW_SEC_LO, R357. -/
def TB_NOW_SEC_LO : Nat := 0x00010010
/-- TB_NOW_SEC_HI, R357. -/
def TB_NOW_SEC_HI : Nat := 0x00010014
/-- TB_NOW_NS, R357. -/
def TB_NOW_NS : Nat := 0x00010018
/-- TB_NOW_FRAC, R357. -/
def TB_NOW_FRAC : Nat := 0x0001001C
/-- TB_TICKS_LO, R357. -/
def TB_TICKS_LO : Nat := 0x00010020
/-- TB_TICKS_HI, R357. -/
def TB_TICKS_HI : Nat := 0x00010024
/-- TB_SLEW_RATE, R357. -/
def TB_SLEW_RATE : Nat := 0x00010028
/-- TB_SLEW_REM_LO, R357. -/
def TB_SLEW_REM_LO : Nat := 0x0001002C
/-- TB_SLEW_REM_HI, R357. -/
def TB_SLEW_REM_HI : Nat := 0x00010030
/-- TB_ADJ_LO, R357. -/
def TB_ADJ_LO : Nat := 0x00010034
/-- TB_ADJ_HI, R357. -/
def TB_ADJ_HI : Nat := 0x00010038
/-- TB_UTC_OFS, R357. -/
def TB_UTC_OFS : Nat := 0x0001003C
/-- TB_PPS_SEC_LO, R357. -/
def TB_PPS_SEC_LO : Nat := 0x00010040
/-- TB_PPS_SEC_HI, R357. -/
def TB_PPS_SEC_HI : Nat := 0x00010044
/-- TB_AON_RATIO_LO, R357. -/
def TB_AON_RATIO_LO : Nat := 0x00010048
/-- TB_AON_RATIO_HI, R357. -/
def TB_AON_RATIO_HI : Nat := 0x0001004C
/-- TB_HOLD_NS, R357. -/
def TB_HOLD_NS : Nat := 0x00010050
/-- TB_STEPS, R357. -/
def TB_STEPS : Nat := 0x00010054
/-- TB_SWITCHES, R357. -/
def TB_SWITCHES : Nat := 0x00010058
/-- TB_DOM_CFG, R357. -/
def TB_DOM_CFG (d : Nat) : Nat := 0x00010100 + 0x40 * d
/-- TB_DOM_STATUS, R357. -/
def TB_DOM_STATUS (d : Nat) : Nat := 0x00010104 + 0x40 * d
/-- TB_DOM_OFS_LO, R357. -/
def TB_DOM_OFS_LO (d : Nat) : Nat := 0x00010108 + 0x40 * d
/-- TB_DOM_OFS_HI, R357. -/
def TB_DOM_OFS_HI (d : Nat) : Nat := 0x0001010C + 0x40 * d
/-- TB_DOM_FREQ, R357. -/
def TB_DOM_FREQ (d : Nat) : Nat := 0x00010110 + 0x40 * d
/-- TB_DOM_ASYM, R357. -/
def TB_DOM_ASYM (d : Nat) : Nat := 0x00010114 + 0x40 * d
/-- TB_DOM_SAMPLES, R357. -/
def TB_DOM_SAMPLES (d : Nat) : Nat := 0x00010118 + 0x40 * d
/-- TB_DOM_LOSSES, R357. -/
def TB_DOM_LOSSES (d : Nat) : Nat := 0x0001011C + 0x40 * d
/-- TA_STATUS, R363. -/
def TA_STATUS : Nat := 0x00020000
/-- TA_EVENT, R363. -/
def TA_EVENT : Nat := 0x00020004
/-- TA_CTRL, R363. -/
def TA_CTRL : Nat := 0x00020008
/-- TA_LATE, R363. -/
def TA_LATE : Nat := 0x0002000C
/-- TA_LAST_LATE, R363. -/
def TA_LAST_LATE : Nat := 0x00020010
/-- TA_SLOT_SEC_LO, R363. -/
def TA_SLOT_SEC_LO (n : Nat) : Nat := 0x00028000 + 0x20 * n
/-- TA_SLOT_SEC_HI, R363. -/
def TA_SLOT_SEC_HI (n : Nat) : Nat := 0x00028004 + 0x20 * n
/-- TA_SLOT_NS, R363. -/
def TA_SLOT_NS (n : Nat) : Nat := 0x00028008 + 0x20 * n
/-- TA_SLOT_CTL, R363. -/
def TA_SLOT_CTL (n : Nat) : Nat := 0x0002800C + 0x20 * n
/-- TA_SLOT_ARG0, R363. -/
def TA_SLOT_ARG0 (n : Nat) : Nat := 0x00028010 + 0x20 * n
/-- TA_SLOT_ARG1, R363. -/
def TA_SLOT_ARG1 (n : Nat) : Nat := 0x00028014 + 0x20 * n
/-- TA_SLOT_STATE, R363. -/
def TA_SLOT_STATE (n : Nat) : Nat := 0x00028018 + 0x20 * n
/-- FAB_CFG, R398. -/
def FAB_CFG : Nat := 0x00030000
/-- FAB_FIXED_ID, R398. -/
def FAB_FIXED_ID : Nat := 0x00030004
/-- FAB_TIME_CFG, R398. -/
def FAB_TIME_CFG : Nat := 0x00030008
/-- FAB_BAR_CFG, R398. -/
def FAB_BAR_CFG : Nat := 0x0003000C
/-- FAB_XFER_CFG, R398. -/
def FAB_XFER_CFG : Nat := 0x00030010
/-- FAB_STATUS, R398. -/
def FAB_STATUS : Nat := 0x00030014
/-- FAB_TIME_STATUS, R398. -/
def FAB_TIME_STATUS : Nat := 0x00030018
/-- FAB_ROOT, R398. -/
def FAB_ROOT : Nat := 0x0003001C
/-- FAB_ROOT_SERIAL_LO, R398. -/
def FAB_ROOT_SERIAL_LO : Nat := 0x00030020
/-- FAB_ROOT_SERIAL_HI, R398. -/
def FAB_ROOT_SERIAL_HI : Nat := 0x00030024
/-- FAB_NODES, R398. -/
def FAB_NODES : Nat := 0x00030028
/-- FAB_EVENT, R398. -/
def FAB_EVENT : Nat := 0x0003002C
/-- FAB_NAKS, R398. -/
def FAB_NAKS : Nat := 0x00030030
/-- FAB_TTL_DROPS, R398. -/
def FAB_TTL_DROPS : Nat := 0x00030034
/-- FAB_FROZEN_DROPS, R398. -/
def FAB_FROZEN_DROPS : Nat := 0x00030038
/-- FAB_REQ_FAIL, R398. -/
def FAB_REQ_FAIL : Nat := 0x0003003C
/-- FAB_TOPO_CHANGES, R398. -/
def FAB_TOPO_CHANGES : Nat := 0x00030040
/-- FAB_BAR_LAST, R398. -/
def FAB_BAR_LAST : Nat := 0x00030044
/-- FAB_BAR_ABORT, R398. -/
def FAB_BAR_ABORT : Nat := 0x00030048
/-- FAB_PORT_STATUS, R398. -/
def FAB_PORT_STATUS (p : Nat) : Nat := 0x00030100 + 0x40 * p
/-- FAB_PORT_NEIGH, R398. -/
def FAB_PORT_NEIGH (p : Nat) : Nat := 0x00030104 + 0x40 * p
/-- FAB_PORT_ASYM, R398. -/
def FAB_PORT_ASYM (p : Nat) : Nat := 0x00030108 + 0x40 * p
/-- FAB_PORT_DELAY, R398. -/
def FAB_PORT_DELAY (p : Nat) : Nat := 0x0003010C + 0x40 * p
/-- FAB_PORT_RESENDS, R398. -/
def FAB_PORT_RESENDS (p : Nat) : Nat := 0x00030110 + 0x40 * p
/-- FAB_PORT_CRC_ERR, R398. -/
def FAB_PORT_CRC_ERR (p : Nat) : Nat := 0x00030114 + 0x40 * p
/-- FAB_FROZEN, R398. -/
def FAB_FROZEN (i : Nat) : Nat := 0x00030200 + 0x4 * i
/-- FAB_GRANT_BASE_LO, R398. -/
def FAB_GRANT_BASE_LO (g : Nat) : Nat := 0x00031000 + 0x20 * g
/-- FAB_GRANT_BASE_HI, R398. -/
def FAB_GRANT_BASE_HI (g : Nat) : Nat := 0x00031004 + 0x20 * g
/-- FAB_GRANT_LIMIT_LO, R398. -/
def FAB_GRANT_LIMIT_LO (g : Nat) : Nat := 0x00031008 + 0x20 * g
/-- FAB_GRANT_LIMIT_HI, R398. -/
def FAB_GRANT_LIMIT_HI (g : Nat) : Nat := 0x0003100C + 0x20 * g
/-- FAB_GRANT_CTL, R398. -/
def FAB_GRANT_CTL (g : Nat) : Nat := 0x00031010 + 0x20 * g
/-- LN_CFG, R428. -/
def LN_CFG : Nat := 0x00040000
/-- LN_WAKE_CFG, R428. -/
def LN_WAKE_CFG : Nat := 0x00040004
/-- LN_STATUS, R428. -/
def LN_STATUS : Nat := 0x00040008
/-- LN_EVENT, R428. -/
def LN_EVENT : Nat := 0x0004000C
/-- LN_FAILED_0, R428. -/
def LN_FAILED_0 : Nat := 0x00040010
/-- LN_FAILED_1, R428. -/
def LN_FAILED_1 : Nat := 0x00040014
/-- LN_LANE_STATUS, R428. -/
def LN_LANE_STATUS (n : Nat) : Nat := 0x00041000 + 0x40 * n
/-- LN_LANE_CTRL, R428. -/
def LN_LANE_CTRL (n : Nat) : Nat := 0x00041004 + 0x40 * n
/-- LN_LANE_EQ, R428. -/
def LN_LANE_EQ (n : Nat) : Nat := 0x00041008 + 0x40 * n
/-- LN_LANE_ERRS, R428. -/
def LN_LANE_ERRS (n : Nat) : Nat := 0x0004100C + 0x40 * n
/-- LN_LANE_RETRAINS, R428. -/
def LN_LANE_RETRAINS (n : Nat) : Nat := 0x00041010 + 0x40 * n
/-- LN_LANE_FAILS, R428. -/
def LN_LANE_FAILS (n : Nat) : Nat := 0x00041014 + 0x40 * n
/-- LN_LANE_NR, R428. -/
def LN_LANE_NR (n : Nat) : Nat := 0x00041018 + 0x40 * n
/-- MP_AX_CFG, R461. -/
def MP_AX_CFG (x : Nat) : Nat := 0x000D0000 + 0x100 * x
/-- MP_AX_CTRL, R461. -/
def MP_AX_CTRL (x : Nat) : Nat := 0x000D0004 + 0x100 * x
/-- MP_AX_STATUS, R461. -/
def MP_AX_STATUS (x : Nat) : Nat := 0x000D0008 + 0x100 * x
/-- MP_AX_EVENT, R461. -/
def MP_AX_EVENT (x : Nat) : Nat := 0x000D000C + 0x100 * x
/-- MP_AX_VMAX, R461. -/
def MP_AX_VMAX (x : Nat) : Nat := 0x000D0010 + 0x100 * x
/-- MP_AX_AMAX, R461. -/
def MP_AX_AMAX (x : Nat) : Nat := 0x000D0014 + 0x100 * x
/-- MP_AX_JMAX, R461. -/
def MP_AX_JMAX (x : Nat) : Nat := 0x000D0018 + 0x100 * x
/-- MP_AX_V, R461. -/
def MP_AX_V (x : Nat) : Nat := 0x000D001C + 0x100 * x
/-- MP_AX_A, R461. -/
def MP_AX_A (x : Nat) : Nat := 0x000D0020 + 0x100 * x
/-- MP_AX_J, R461. -/
def MP_AX_J (x : Nat) : Nat := 0x000D0024 + 0x100 * x
/-- MP_AX_OVR, R461. -/
def MP_AX_OVR (x : Nat) : Nat := 0x000D0028 + 0x100 * x
/-- MP_AX_OVR_APPLIED, R461. -/
def MP_AX_OVR_APPLIED (x : Nat) : Nat := 0x000D002C + 0x100 * x
/-- MP_AX_CMD_POS_LO, R461. -/
def MP_AX_CMD_POS_LO (x : Nat) : Nat := 0x000D0030 + 0x100 * x
/-- MP_AX_CMD_POS_HI, R461. -/
def MP_AX_CMD_POS_HI (x : Nat) : Nat := 0x000D0034 + 0x100 * x
/-- MP_AX_CMD_VEL_LO, R461. -/
def MP_AX_CMD_VEL_LO (x : Nat) : Nat := 0x000D0038 + 0x100 * x
/-- MP_AX_CMD_VEL_HI, R461. -/
def MP_AX_CMD_VEL_HI (x : Nat) : Nat := 0x000D003C + 0x100 * x
/-- MP_AX_TARGET_LO, R461. -/
def MP_AX_TARGET_LO (x : Nat) : Nat := 0x000D0040 + 0x100 * x
/-- MP_AX_TARGET_HI, R461. -/
def MP_AX_TARGET_HI (x : Nat) : Nat := 0x000D0044 + 0x100 * x
/-- MP_AX_INPUT_CFG, R461. -/
def MP_AX_INPUT_CFG (x : Nat) : Nat := 0x000D0048 + 0x100 * x
/-- MP_AX_INPUTS, R461. -/
def MP_AX_INPUTS (x : Nat) : Nat := 0x000D004C + 0x100 * x
/-- MP_AX_CHATTER, R461. -/
def MP_AX_CHATTER (x : Nat) : Nat := 0x000D0050 + 0x100 * x
/-- MP_AX_HOME_CFG, R461. -/
def MP_AX_HOME_CFG (x : Nat) : Nat := 0x000D0054 + 0x100 * x
/-- MP_AX_HOME_SEEK_V, R461. -/
def MP_AX_HOME_SEEK_V (x : Nat) : Nat := 0x000D0058 + 0x100 * x
/-- MP_AX_HOME_LATCH_V, R461. -/
def MP_AX_HOME_LATCH_V (x : Nat) : Nat := 0x000D005C + 0x100 * x
/-- MP_AX_HOME_POS_LO, R461. -/
def MP_AX_HOME_POS_LO (x : Nat) : Nat := 0x000D0060 + 0x100 * x
/-- MP_AX_HOME_POS_HI, R461. -/
def MP_AX_HOME_POS_HI (x : Nat) : Nat := 0x000D0064 + 0x100 * x
/-- MP_AX_HOME_CAP_LO, R461. -/
def MP_AX_HOME_CAP_LO (x : Nat) : Nat := 0x000D0068 + 0x100 * x
/-- MP_AX_HOME_CAP_HI, R461. -/
def MP_AX_HOME_CAP_HI (x : Nat) : Nat := 0x000D006C + 0x100 * x
/-- MP_AX_OVERRUN, R461. -/
def MP_AX_OVERRUN (x : Nat) : Nat := 0x000D0070 + 0x100 * x
/-- MP_AX_HOME_PARK_LO, R461. -/
def MP_AX_HOME_PARK_LO (x : Nat) : Nat := 0x000D0074 + 0x100 * x
/-- MP_AX_HOME_PARK_HI, R461. -/
def MP_AX_HOME_PARK_HI (x : Nat) : Nat := 0x000D0078 + 0x100 * x
/-- STP_CFG, R466. -/
def STP_CFG (k : Nat) : Nat := 0x000E0000 + 0x100 * k
/-- STP_STATUS, R466. -/
def STP_STATUS (k : Nat) : Nat := 0x000E0004 + 0x100 * k
/-- STP_EVENT, R466. -/
def STP_EVENT (k : Nat) : Nat := 0x000E0008 + 0x100 * k
/-- STP_STEP_POS_LO, R466. -/
def STP_STEP_POS_LO (k : Nat) : Nat := 0x000E000C + 0x100 * k
/-- STP_STEP_POS_HI, R466. -/
def STP_STEP_POS_HI (k : Nat) : Nat := 0x000E0010 + 0x100 * k
/-- STP_BAND_CHANGES, R466. -/
def STP_BAND_CHANGES (k : Nat) : Nat := 0x000E0014 + 0x100 * k
/-- STP_STEP_DELAYS, R466. -/
def STP_STEP_DELAYS (k : Nat) : Nat := 0x000E0018 + 0x100 * k
/-- FB_AX_CFG, R492. -/
def FB_AX_CFG (x : Nat) : Nat := 0x000F0000 + 0x100 * x
/-- FB_AX_STATUS, R492. -/
def FB_AX_STATUS (x : Nat) : Nat := 0x000F0004 + 0x100 * x
/-- FB_AX_EVENT, R492. -/
def FB_AX_EVENT (x : Nat) : Nat := 0x000F0008 + 0x100 * x
/-- FB_AX_SCALE_LO, R492. -/
def FB_AX_SCALE_LO (x : Nat) : Nat := 0x000F000C + 0x100 * x
/-- FB_AX_SCALE_HI, R492. -/
def FB_AX_SCALE_HI (x : Nat) : Nat := 0x000F0010 + 0x100 * x
/-- FB_AX_COUNT_LO, R492. -/
def FB_AX_COUNT_LO (x : Nat) : Nat := 0x000F0014 + 0x100 * x
/-- FB_AX_COUNT_HI, R492. -/
def FB_AX_COUNT_HI (x : Nat) : Nat := 0x000F0018 + 0x100 * x
/-- FB_AX_RAW_LO, R492. -/
def FB_AX_RAW_LO (x : Nat) : Nat := 0x000F001C + 0x100 * x
/-- FB_AX_RAW_HI, R492. -/
def FB_AX_RAW_HI (x : Nat) : Nat := 0x000F0020 + 0x100 * x
/-- FB_AX_PRES_LO, R492. -/
def FB_AX_PRES_LO (x : Nat) : Nat := 0x000F0024 + 0x100 * x
/-- FB_AX_PRES_HI, R492. -/
def FB_AX_PRES_HI (x : Nat) : Nat := 0x000F0028 + 0x100 * x
/-- FB_AX_IDX_REF_LO, R492. -/
def FB_AX_IDX_REF_LO (x : Nat) : Nat := 0x000F002C + 0x100 * x
/-- FB_AX_IDX_REF_HI, R492. -/
def FB_AX_IDX_REF_HI (x : Nat) : Nat := 0x000F0030 + 0x100 * x
/-- FB_AX_IDX_PERIOD, R492. -/
def FB_AX_IDX_PERIOD (x : Nat) : Nat := 0x000F0034 + 0x100 * x
/-- FB_AX_IDX_CAP_LO, R492. -/
def FB_AX_IDX_CAP_LO (x : Nat) : Nat := 0x000F0038 + 0x100 * x
/-- FB_AX_IDX_CAP_HI, R492. -/
def FB_AX_IDX_CAP_HI (x : Nat) : Nat := 0x000F003C + 0x100 * x
/-- FB_AX_AN_CFG, R492. -/
def FB_AX_AN_CFG (x : Nat) : Nat := 0x000F0040 + 0x100 * x
/-- FB_AX_AN_STATUS, R492. -/
def FB_AX_AN_STATUS (x : Nat) : Nat := 0x000F0044 + 0x100 * x
/-- FB_AX_STALL_LIM, R492. -/
def FB_AX_STALL_LIM (x : Nat) : Nat := 0x000F0048 + 0x100 * x
/-- FB_AX_FAULTS, R492. -/
def FB_AX_FAULTS (x : Nat) : Nat := 0x000F004C + 0x100 * x
/-- FB_CMP_CFG, R492. -/
def FB_CMP_CFG (u : Nat) : Nat := 0x000F0800 + 0x40 * u
/-- FB_CMP_TARGET_LO, R492. -/
def FB_CMP_TARGET_LO (u : Nat) : Nat := 0x000F0804 + 0x40 * u
/-- FB_CMP_TARGET_HI, R492. -/
def FB_CMP_TARGET_HI (u : Nat) : Nat := 0x000F0808 + 0x40 * u
/-- FB_CMP_STEP_LO, R492. -/
def FB_CMP_STEP_LO (u : Nat) : Nat := 0x000F080C + 0x40 * u
/-- FB_CMP_STEP_HI, R492. -/
def FB_CMP_STEP_HI (u : Nat) : Nat := 0x000F0810 + 0x40 * u
/-- FB_CMP_COUNT, R492. -/
def FB_CMP_COUNT (u : Nat) : Nat := 0x000F0814 + 0x40 * u
/-- FB_CMP_CTRL, R492. -/
def FB_CMP_CTRL (u : Nat) : Nat := 0x000F0818 + 0x40 * u
/-- FB_CMP_STATUS, R492. -/
def FB_CMP_STATUS (u : Nat) : Nat := 0x000F081C + 0x40 * u
/-- FB_CMP_TS_LO, R492. -/
def FB_CMP_TS_LO (u : Nat) : Nat := 0x000F0820 + 0x40 * u
/-- FB_CMP_TS_HI, R492. -/
def FB_CMP_TS_HI (u : Nat) : Nat := 0x000F0824 + 0x40 * u
/-- FB_CMP_FIRES, R492. -/
def FB_CMP_FIRES (u : Nat) : Nat := 0x000F0828 + 0x40 * u
/-- FB_CMP_SKIPS, R492. -/
def FB_CMP_SKIPS (u : Nat) : Nat := 0x000F082C + 0x40 * u
/-- SV_AX_CFG, R495. -/
def SV_AX_CFG (x : Nat) : Nat := 0x00100000 + 0x100 * x
/-- SV_AX_KP, R495. -/
def SV_AX_KP (x : Nat) : Nat := 0x00100004 + 0x100 * x
/-- SV_AX_KI, R495. -/
def SV_AX_KI (x : Nat) : Nat := 0x00100008 + 0x100 * x
/-- SV_AX_KD, R495. -/
def SV_AX_KD (x : Nat) : Nat := 0x0010000C + 0x100 * x
/-- SV_AX_KV, R495. -/
def SV_AX_KV (x : Nat) : Nat := 0x00100010 + 0x100 * x
/-- SV_AX_KA, R495. -/
def SV_AX_KA (x : Nat) : Nat := 0x00100014 + 0x100 * x
/-- SV_AX_OFS, R495. -/
def SV_AX_OFS (x : Nat) : Nat := 0x00100018 + 0x100 * x
/-- SV_AX_ILIM, R495. -/
def SV_AX_ILIM (x : Nat) : Nat := 0x0010001C + 0x100 * x
/-- SV_AX_FERR, R495. -/
def SV_AX_FERR (x : Nat) : Nat := 0x00100020 + 0x100 * x
/-- SV_AX_STATUS, R495. -/
def SV_AX_STATUS (x : Nat) : Nat := 0x00100024 + 0x100 * x
/-- SV_AX_EVENT, R495. -/
def SV_AX_EVENT (x : Nat) : Nat := 0x00100028 + 0x100 * x
/-- SV_AX_OUT, R495. -/
def SV_AX_OUT (x : Nat) : Nat := 0x0010002C + 0x100 * x
/-- SV_AX_OUT_TS_LO, R495. -/
def SV_AX_OUT_TS_LO (x : Nat) : Nat := 0x00100030 + 0x100 * x
/-- SV_AX_OUT_TS_HI, R495. -/
def SV_AX_OUT_TS_HI (x : Nat) : Nat := 0x00100034 + 0x100 * x
/-- SV_AX_OUT_DLY, R495. -/
def SV_AX_OUT_DLY (x : Nat) : Nat := 0x00100038 + 0x100 * x
/-- SV_AX_ERR_LO, R495. -/
def SV_AX_ERR_LO (x : Nat) : Nat := 0x0010003C + 0x100 * x
/-- SV_AX_ERR_HI, R495. -/
def SV_AX_ERR_HI (x : Nat) : Nat := 0x00100040 + 0x100 * x
/-- SV_AX_ERR_PEAK, R495. -/
def SV_AX_ERR_PEAK (x : Nat) : Nat := 0x00100044 + 0x100 * x
/-- SV_AX_INJ_CFG, R495. -/
def SV_AX_INJ_CFG (x : Nat) : Nat := 0x00100048 + 0x100 * x
/-- SV_AX_INJ_AMP, R495. -/
def SV_AX_INJ_AMP (x : Nat) : Nat := 0x0010004C + 0x100 * x
/-- SV_AX_INJ_FREQ, R495. -/
def SV_AX_INJ_FREQ (x : Nat) : Nat := 0x00100050 + 0x100 * x
/-- SV_AX_INJ_CTRL, R495. -/
def SV_AX_INJ_CTRL (x : Nat) : Nat := 0x00100054 + 0x100 * x
/-- SV_AX_BQ, R495. -/
def SV_AX_BQ (x : Nat) (s : Nat) (c : Nat) : Nat := 0x00100060 + 0x100 * x + 0x14 * s + 0x4 * c
/-- SV_CAP_CFG, R495. -/
def SV_CAP_CFG : Nat := 0x00100800
/-- SV_CAP_CTRL, R495. -/
def SV_CAP_CTRL : Nat := 0x00100804
/-- SV_CAP_STATUS, R495. -/
def SV_CAP_STATUS : Nat := 0x00100808
/-- DC_STATUS, R518. -/
def DC_STATUS : Nat := 0x00110000
/-- DC_RH_CFG, R518. -/
def DC_RH_CFG : Nat := 0x00110004
/-- DC_EVENT, R518. -/
def DC_EVENT : Nat := 0x00110008
/-- DC_RH_TRIGGERS, R518. -/
def DC_RH_TRIGGERS : Nat := 0x0011000C
/-- DC_INORDER_COUNT, R518. -/
def DC_INORDER_COUNT : Nat := 0x00110010
/-- DC_THROTTLED, R518. -/
def DC_THROTTLED : Nat := 0x00110014
/-- DC_LAST_RH, R518. -/
def DC_LAST_RH : Nat := 0x00110018
/-- DC_MAP_SEL, R518. -/
def DC_MAP_SEL (k : Nat) : Nat := 0x00110040 + 0x4 * k
/-- MI_CFG, R520. -/
def MI_CFG : Nat := 0x00120000
/-- MI_STATUS, R520. -/
def MI_STATUS : Nat := 0x00120004
/-- MI_EVENT, R520. -/
def MI_EVENT : Nat := 0x00120008
/-- MI_CORR_COUNT, R520. -/
def MI_CORR_COUNT : Nat := 0x0012000C
/-- MI_UNCORR_COUNT, R520. -/
def MI_UNCORR_COUNT : Nat := 0x00120010
/-- MI_POISON_COUNT, R520. -/
def MI_POISON_COUNT : Nat := 0x00120014
/-- MI_LAST_ADDR_LO, R520. -/
def MI_LAST_ADDR_LO : Nat := 0x00120018
/-- MI_LAST_ADDR_HI, R520. -/
def MI_LAST_ADDR_HI : Nat := 0x0012001C
/-- MI_LAST_INFO, R520. -/
def MI_LAST_INFO : Nat := 0x00120020
/-- MI_INIT_MAP_LO, R520. -/
def MI_INIT_MAP_LO : Nat := 0x00120024
/-- MI_INIT_MAP_HI, R520. -/
def MI_INIT_MAP_HI : Nat := 0x00120028
/-- MI_SCRUB_POS, R520. -/
def MI_SCRUB_POS : Nat := 0x0012002C
/-- MI_SCRUB_PASSES, R520. -/
def MI_SCRUB_PASSES : Nat := 0x00120030
/-- MI_REMAP_CTRL, R520. -/
def MI_REMAP_CTRL : Nat := 0x00120034
/-- MI_BANK_RETIRE, R520. -/
def MI_BANK_RETIRE : Nat := 0x00120038
/-- MI_BANK_STATUS, R520. -/
def MI_BANK_STATUS : Nat := 0x0012003C
/-- MI_FLIPMASK_0, R520. -/
def MI_FLIPMASK_0 : Nat := 0x00120040
/-- MI_FLIPMASK_1, R520. -/
def MI_FLIPMASK_1 : Nat := 0x00120044
/-- MI_FLIPMASK_2, R520. -/
def MI_FLIPMASK_2 : Nat := 0x00120048
/-- MI_FLIP_CTRL, R520. -/
def MI_FLIP_CTRL : Nat := 0x0012004C
/-- MI_SRAM_CORR, R520. -/
def MI_SRAM_CORR : Nat := 0x00120050
/-- MI_SRAM_UNCORR, R520. -/
def MI_SRAM_UNCORR : Nat := 0x00120054
/-- MI_SRAM_ROWS, R520. -/
def MI_SRAM_ROWS : Nat := 0x00120058
/-- ING_CFG, R544. -/
def ING_CFG : Nat := 0x00050000
/-- ING_STATUS, R544. -/
def ING_STATUS : Nat := 0x00050004
/-- ING_EVENT, R544. -/
def ING_EVENT : Nat := 0x00050008
/-- ING_DESC_BASE_LO, R544. -/
def ING_DESC_BASE_LO : Nat := 0x0005000C
/-- ING_DESC_BASE_HI, R544. -/
def ING_DESC_BASE_HI : Nat := 0x00050010
/-- ING_DISCARDS, R544. -/
def ING_DISCARDS : Nat := 0x00050014
/-- ING_CH_STATUS, R544. -/
def ING_CH_STATUS (c : Nat) : Nat := 0x00050100 + 0x40 * c
/-- ING_CH_CTRL, R544. -/
def ING_CH_CTRL (c : Nat) : Nat := 0x00050104 + 0x40 * c
/-- ING_CH_HEAD_LO, R544. -/
def ING_CH_HEAD_LO (c : Nat) : Nat := 0x00050108 + 0x40 * c
/-- ING_CH_HEAD_HI, R544. -/
def ING_CH_HEAD_HI (c : Nat) : Nat := 0x0005010C + 0x40 * c
/-- ING_CH_CUR_LO, R544. -/
def ING_CH_CUR_LO (c : Nat) : Nat := 0x00050110 + 0x40 * c
/-- ING_CH_CUR_HI, R544. -/
def ING_CH_CUR_HI (c : Nat) : Nat := 0x00050114 + 0x40 * c
/-- ING_CH_FAIL_LO, R544. -/
def ING_CH_FAIL_LO (c : Nat) : Nat := 0x00050118 + 0x40 * c
/-- ING_CH_FAIL_HI, R544. -/
def ING_CH_FAIL_HI (c : Nat) : Nat := 0x0005011C + 0x40 * c
/-- ING_CH_SOFS_LO, R544. -/
def ING_CH_SOFS_LO (c : Nat) : Nat := 0x00050120 + 0x40 * c
/-- ING_CH_SOFS_HI, R544. -/
def ING_CH_SOFS_HI (c : Nat) : Nat := 0x00050124 + 0x40 * c
/-- ING_CH_DONE, R544. -/
def ING_CH_DONE (c : Nat) : Nat := 0x00050128 + 0x40 * c
/-- ING_CH_SPURIOUS, R544. -/
def ING_CH_SPURIOUS (c : Nat) : Nat := 0x0005012C + 0x40 * c
/-- ING_WIN_BASE_LO, R544. -/
def ING_WIN_BASE_LO (w : Nat) : Nat := 0x00050400 + 0x10 * w
/-- ING_WIN_BASE_HI, R544. -/
def ING_WIN_BASE_HI (w : Nat) : Nat := 0x00050404 + 0x10 * w
/-- ING_WIN_LIMIT_LO, R544. -/
def ING_WIN_LIMIT_LO (w : Nat) : Nat := 0x00050408 + 0x10 * w
/-- ING_WIN_LIMIT_HI, R544. -/
def ING_WIN_LIMIT_HI (w : Nat) : Nat := 0x0005040C + 0x10 * w
/-- CRC_U_CFG, R546. -/
def CRC_U_CFG (u : Nat) : Nat := 0x00060000 + 0x40 * u
/-- CRC_U_CTRL, R546. -/
def CRC_U_CTRL (u : Nat) : Nat := 0x00060004 + 0x40 * u
/-- CRC_U_STATUS, R546. -/
def CRC_U_STATUS (u : Nat) : Nat := 0x00060008 + 0x40 * u
/-- CRC_U_VAL_LO, R546. -/
def CRC_U_VAL_LO (u : Nat) : Nat := 0x0006000C + 0x40 * u
/-- CRC_U_VAL_HI, R546. -/
def CRC_U_VAL_HI (u : Nat) : Nat := 0x00060010 + 0x40 * u
/-- CRC_U_BLOCKS, R546. -/
def CRC_U_BLOCKS (u : Nat) : Nat := 0x00060014 + 0x40 * u
/-- CRC_U_FAILS, R546. -/
def CRC_U_FAILS (u : Nat) : Nat := 0x00060018 + 0x40 * u
/-- CRC_U_LAST_ID_LO, R546. -/
def CRC_U_LAST_ID_LO (u : Nat) : Nat := 0x0006001C + 0x40 * u
/-- CRC_U_LAST_ID_HI, R546. -/
def CRC_U_LAST_ID_HI (u : Nat) : Nat := 0x00060020 + 0x40 * u
/-- CRC_EVENT, R546. -/
def CRC_EVENT : Nat := 0x00060100
/-- CMP_CFG, R567. -/
def CMP_CFG : Nat := 0x00130000
/-- CMP_REC_MIB, R567. -/
def CMP_REC_MIB : Nat := 0x00130004
/-- CMP_STATUS, R567. -/
def CMP_STATUS : Nat := 0x00130008
/-- CMP_EVENT, R567. -/
def CMP_EVENT : Nat := 0x0013000C
/-- CMP_WRITE_OFS_LO, R567. -/
def CMP_WRITE_OFS_LO : Nat := 0x00130010
/-- CMP_WRITE_OFS_HI, R567. -/
def CMP_WRITE_OFS_HI : Nat := 0x00130014
/-- CMP_REC_RELEASE_LO, R567. -/
def CMP_REC_RELEASE_LO : Nat := 0x00130018
/-- CMP_REC_RELEASE_HI, R567. -/
def CMP_REC_RELEASE_HI : Nat := 0x0013001C
/-- CMP_REC_BASE_LO, R567. -/
def CMP_REC_BASE_LO : Nat := 0x00130020
/-- CMP_REC_BASE_HI, R567. -/
def CMP_REC_BASE_HI : Nat := 0x00130024
/-- CMP_NO_GAIN, R567. -/
def CMP_NO_GAIN : Nat := 0x00130028
/-- CMP_MISSING, R567. -/
def CMP_MISSING : Nat := 0x0013002C
/-- CMP_LATE_REPORTS, R567. -/
def CMP_LATE_REPORTS : Nat := 0x00130030
/-- CFG_STATUS, R593. -/
def CFG_STATUS : Nat := 0x00190000
/-- CFG_CTRL, R593. -/
def CFG_CTRL : Nat := 0x00190004
/-- CFG_EVENT, R593. -/
def CFG_EVENT : Nat := 0x00190008
/-- CFG_FAIL, R593. -/
def CFG_FAIL : Nat := 0x0019000C
/-- CFG_BUILD_LO, R593. -/
def CFG_BUILD_LO : Nat := 0x00190010
/-- CFG_BUILD_HI, R593. -/
def CFG_BUILD_HI : Nat := 0x00190014
/-- CFG_SKIPPED, R593. -/
def CFG_SKIPPED : Nat := 0x00190018
/-- CFG_STATE_INFO, R593. -/
def CFG_STATE_INFO : Nat := 0x0019001C
/-- CFG_UPD_CTRL, R593. -/
def CFG_UPD_CTRL : Nat := 0x00190020
/-- CFG_UPD_OFS, R593. -/
def CFG_UPD_OFS : Nat := 0x00190024
/-- CFG_UPD_LEN, R593. -/
def CFG_UPD_LEN : Nat := 0x00190028
/-- CFG_UPD_STATUS, R593. -/
def CFG_UPD_STATUS : Nat := 0x0019002C
/-- CFG_OTP_CTRL, R593. -/
def CFG_OTP_CTRL : Nat := 0x00190030
/-- CFG_OTP_STATUS, R593. -/
def CFG_OTP_STATUS : Nat := 0x00190034
/-- CFG_OTP_HASH, R593. -/
def CFG_OTP_HASH (i : Nat) : Nat := 0x00190040 + 0x4 * i
/-- CFG_MILESTONE, R593. -/
def CFG_MILESTONE (m : Nat) : Nat := 0x00190080 + 0x4 * m
/-- CFG_AREA_BASE_LO, R593. -/
def CFG_AREA_BASE_LO (a : Nat) : Nat := 0x001900C0 + 0x8 * a
/-- CFG_AREA_BASE_HI, R593. -/
def CFG_AREA_BASE_HI (a : Nat) : Nat := 0x001900C4 + 0x8 * a
/-- PWR_CFG, R611. -/
def PWR_CFG : Nat := 0x00140000
/-- PWR_CTRL, R611. -/
def PWR_CTRL : Nat := 0x00140004
/-- PWR_STATUS, R611. -/
def PWR_STATUS : Nat := 0x00140008
/-- PWR_EVENT, R611. -/
def PWR_EVENT : Nat := 0x0014000C
/-- PWR_WAKE_CFG, R611. -/
def PWR_WAKE_CFG : Nat := 0x00140010
/-- PWR_WAKE_STATUS, R611. -/
def PWR_WAKE_STATUS : Nat := 0x00140014
/-- PWR_WAKE_TIMER, R611. -/
def PWR_WAKE_TIMER : Nat := 0x00140018
/-- PWR_HOLD, R611. -/
def PWR_HOLD : Nat := 0x0014001C
/-- PWR_VCORE, R611. -/
def PWR_VCORE : Nat := 0x00140020
/-- PWR_VREQ_FAILS, R611. -/
def PWR_VREQ_FAILS : Nat := 0x00140024
/-- PWR_TRANSITIONS, R611. -/
def PWR_TRANSITIONS : Nat := 0x00140028
/-- PWR_DEEP_COUNT, R611. -/
def PWR_DEEP_COUNT : Nat := 0x0014002C
/-- HM_CFG, R634. -/
def HM_CFG : Nat := 0x00150000
/-- HM_STATUS, R634. -/
def HM_STATUS : Nat := 0x00150004
/-- HM_EVENT, R634. -/
def HM_EVENT : Nat := 0x00150008
/-- HM_TCAL, R634. -/
def HM_TCAL : Nat := 0x0015000C
/-- HM_SHUT_CAUSE, R634. -/
def HM_SHUT_CAUSE : Nat := 0x00150010
/-- HM_LEVEL, R634. -/
def HM_LEVEL (i : Nat) : Nat := 0x00150014 + 0x4 * i
/-- HM_CH_VALUE, R634. -/
def HM_CH_VALUE (ch : Nat) : Nat := 0x00151000 + 0x20 * ch
/-- HM_CH_STATUS, R634. -/
def HM_CH_STATUS (ch : Nat) : Nat := 0x00151004 + 0x20 * ch
/-- HM_CH_WARN, R634. -/
def HM_CH_WARN (ch : Nat) : Nat := 0x00151008 + 0x20 * ch
/-- HM_CH_CRIT, R634. -/
def HM_CH_CRIT (ch : Nat) : Nat := 0x0015100C + 0x20 * ch
/-- HM_CH_SHUT, R634. -/
def HM_CH_SHUT (ch : Nat) : Nat := 0x00151010 + 0x20 * ch
/-- HM_CH_CFG, R634. -/
def HM_CH_CFG (ch : Nat) : Nat := 0x00151014 + 0x20 * ch
/-- HM_CH_REF, R634. -/
def HM_CH_REF (ch : Nat) : Nat := 0x00151018 + 0x20 * ch
/-- CAL_CFG, R637. -/
def CAL_CFG : Nat := 0x00160000
/-- CAL_CTRL, R637. -/
def CAL_CTRL : Nat := 0x00160004
/-- CAL_STATUS, R637. -/
def CAL_STATUS : Nat := 0x00160008
/-- CAL_EVENT, R637. -/
def CAL_EVENT : Nat := 0x0016000C
/-- CAL_ACCEPTS, R637. -/
def CAL_ACCEPTS : Nat := 0x00160010
/-- CAL_REJECTS, R637. -/
def CAL_REJECTS : Nat := 0x00160014
/-- CAL_TGT_STATUS, R637. -/
def CAL_TGT_STATUS (t : Nat) : Nat := 0x00161000 + 0x20 * t
/-- CAL_TGT_COUNT, R637. -/
def CAL_TGT_COUNT (t : Nat) : Nat := 0x00161004 + 0x20 * t
/-- CAL_TGT_TS_LO, R637. -/
def CAL_TGT_TS_LO (t : Nat) : Nat := 0x00161008 + 0x20 * t
/-- CAL_TGT_TS_HI, R637. -/
def CAL_TGT_TS_HI (t : Nat) : Nat := 0x0016100C + 0x20 * t
/-- CAL_TGT_TEMP, R637. -/
def CAL_TGT_TEMP (t : Nat) : Nat := 0x00161010 + 0x20 * t
/-- ERR_CFG, R664. -/
def ERR_CFG : Nat := 0x00170000
/-- ERR_STATUS, R664. -/
def ERR_STATUS : Nat := 0x00170004
/-- ERR_EVENT, R664. -/
def ERR_EVENT : Nat := 0x00170008
/-- ERR_NEXT_SEQ, R664. -/
def ERR_NEXT_SEQ : Nat := 0x0017000C
/-- ERR_OLDEST_OPEN, R664. -/
def ERR_OLDEST_OPEN : Nat := 0x00170010
/-- ERR_ACK, R664. -/
def ERR_ACK : Nat := 0x00170014
/-- ERR_ACK_UPTO, R664. -/
def ERR_ACK_UPTO : Nat := 0x00170018
/-- ERR_COUNTED, R664. -/
def ERR_COUNTED : Nat := 0x0017001C
/-- ERR_CLASS_COUNT, R664 (index k − 1). -/
def ERR_CLASS_COUNT (k : Nat) : Nat := 0x00170020 + 0x4 * k
/-- ERR_MIRROR_SEQ, R664. -/
def ERR_MIRROR_SEQ : Nat := 0x00170034
/-- ERR_CORE_CTRL, R664. -/
def ERR_CORE_CTRL : Nat := 0x00170038
/-- ERR_CORE_STAT, R664. -/
def ERR_CORE_STAT (n : Nat) : Nat := 0x00170040 + 0x4 * n
/-- ERR_LAST_FATAL, R664. -/
def ERR_LAST_FATAL (i : Nat) : Nat := 0x00170100 + 0x4 * i
/-- ACC_STATUS, R666. -/
def ACC_STATUS : Nat := 0x00180000
/-- ACC_EVENT, R666. -/
def ACC_EVENT : Nat := 0x00180004
/-- ACC_FLAGS, R666. -/
def ACC_FLAGS : Nat := 0x00180008
/-- ACC_FLAG_ADDR, R666. -/
def ACC_FLAG_ADDR : Nat := 0x0018000C
/-- ACC_FLAG_INFO, R666. -/
def ACC_FLAG_INFO : Nat := 0x00180010
/-- ACC_FROZEN_INT, R666. -/
def ACC_FROZEN_INT : Nat := 0x00180014
/-- ACC_UNFREEZE, R666. -/
def ACC_UNFREEZE : Nat := 0x00180018
/-- ACC_VIOL_ADDR_LO, R666. -/
def ACC_VIOL_ADDR_LO : Nat := 0x0018001C
/-- ACC_VIOL_ADDR_HI, R666. -/
def ACC_VIOL_ADDR_HI : Nat := 0x00180020
/-- ACC_VIOL_INFO, R666. -/
def ACC_VIOL_INFO : Nat := 0x00180024
/-- ACC_VIOLATIONS, R666. -/
def ACC_VIOLATIONS : Nat := 0x00180028
/-- GLB_STATUS, R681. -/
def GLB_STATUS : Nat := 0x00000010
/-- GLB_SCRATCH, R681. -/
def GLB_SCRATCH : Nat := 0x00000014
/-- GLB_GPIO_DIR, R681. -/
def GLB_GPIO_DIR : Nat := 0x00000018
/-- GLB_GPIO_OUT, R681. -/
def GLB_GPIO_OUT : Nat := 0x0000001C
/-- GLB_GPIO_IN, R681. -/
def GLB_GPIO_IN : Nat := 0x00000020
/-- GLB_LED, R681. -/
def GLB_LED : Nat := 0x00000024
/-- MGT_CFG, R683. -/
def MGT_CFG : Nat := 0x001A0000
/-- MGT_STATUS, R683. -/
def MGT_STATUS : Nat := 0x001A0004
/-- MGT_EVENT, R683. -/
def MGT_EVENT : Nat := 0x001A0008
/-- MGT_SESSION_LO, R683. -/
def MGT_SESSION_LO : Nat := 0x001A000C
/-- MGT_SESSION_HI, R683. -/
def MGT_SESSION_HI : Nat := 0x001A0010
/-- MGT_SEQ_LO, R683. -/
def MGT_SEQ_LO : Nat := 0x001A0014
/-- MGT_SEQ_HI, R683. -/
def MGT_SEQ_HI : Nat := 0x001A0018
/-- MGT_MAC_LO, R683. -/
def MGT_MAC_LO : Nat := 0x001A001C
/-- MGT_MAC_HI, R683. -/
def MGT_MAC_HI : Nat := 0x001A0020
/-- MGT_AUTH_FAILS, R683. -/
def MGT_AUTH_FAILS : Nat := 0x001A0024
/-- MGT_DROPS, R683. -/
def MGT_DROPS : Nat := 0x001A0028
/-- MGT_REQUESTS, R683. -/
def MGT_REQUESTS : Nat := 0x001A002C
/-- MGT_SHADOW_EN, R683. -/
def MGT_SHADOW_EN : Nat := 0x001A0030
/-- MGT_SHADOW_PEND, R683. -/
def MGT_SHADOW_PEND : Nat := 0x001A0034
/-- MGT_KEY0, R683. -/
def MGT_KEY0 (i : Nat) : Nat := 0x001A0040 + 0x4 * i
/-- MGT_KEY1, R683. -/
def MGT_KEY1 (i : Nat) : Nat := 0x001A0060 + 0x4 * i

end Sys2Proof.Reg

namespace Sys2Proof.Fld

/-- GLB_DEVICE_ID.PART, R6. -/
def GLB_DEVICE_ID_PART : Field := ⟨16, 16⟩
/-- GLB_DEVICE_ID.STEP_MAJOR, R6. -/
def GLB_DEVICE_ID_STEP_MAJOR : Field := ⟨12, 4⟩
/-- GLB_DEVICE_ID.STEP_MINOR, R6. -/
def GLB_DEVICE_ID_STEP_MINOR : Field := ⟨8, 4⟩
/-- GLB_DEVICE_ID.VENDOR, R6. -/
def GLB_DEVICE_ID_VENDOR : Field := ⟨0, 8⟩
/-- EXP_ZLS_STATUS.STATE, R118. -/
def EXP_ZLS_STATUS_STATE : Field := ⟨0, 4⟩
/-- EXP_ZLS_STATUS.VER_NEWER, R118. -/
def EXP_ZLS_STATUS_VER_NEWER : Field := ⟨4, 1⟩
/-- EXP_ZLS_STATUS.HEADS_WAIT, R118. -/
def EXP_ZLS_STATUS_HEADS_WAIT : Field := ⟨5, 1⟩
/-- EXP_ZLS_STATUS.CAUSE, R118. -/
def EXP_ZLS_STATUS_CAUSE : Field := ⟨8, 8⟩
/-- EXP_ZLS_CTRL.RESUME, R119. -/
def EXP_ZLS_CTRL_RESUME : Field := ⟨0, 1⟩
/-- EXP_ZLS_CTRL.ABORT_JOB, R119. -/
def EXP_ZLS_CTRL_ABORT_JOB : Field := ⟨1, 1⟩
/-- EXP_CFG.AHEAD, R150. -/
def EXP_CFG_AHEAD : Field := ⟨0, 8⟩
/-- EXP_CFG.PIN_MIB, R150. -/
def EXP_CFG_PIN_MIB : Field := ⟨8, 4⟩
/-- EXP_CFG.THRASH_PCT, R150. -/
def EXP_CFG_THRASH_PCT : Field := ⟨16, 8⟩
/-- EXP_UNIT_CTRL.OUT, R152. -/
def EXP_UNIT_CTRL_OUT : Field := ⟨0, 4⟩
/-- EXP_UNIT_CTRL.RETURN, R152. -/
def EXP_UNIT_CTRL_RETURN : Field := ⟨8, 4⟩
/-- EXP_EVENT.LATE, R153. -/
def EXP_EVENT_LATE : Field := ⟨0, 1⟩
/-- EXP_EVENT.THRASH, R153. -/
def EXP_EVENT_THRASH : Field := ⟨1, 1⟩
/-- EXP_EVENT.LOCKSTEP, R153. -/
def EXP_EVENT_LOCKSTEP : Field := ⟨2, 1⟩
/-- EXP_EVENT.UNIT_OUT, R153. -/
def EXP_EVENT_UNIT_OUT : Field := ⟨3, 1⟩
/-- EXP_EVENT.POOL_STALL, R153. -/
def EXP_EVENT_POOL_STALL : Field := ⟨4, 1⟩
/-- EXP_EVENT.LP_STALL, R153. -/
def EXP_EVENT_LP_STALL : Field := ⟨5, 1⟩
/-- EXP_EVENT.OVERFLOW, R153. -/
def EXP_EVENT_OVERFLOW : Field := ⟨6, 1⟩
/-- EXP_SURVEY_STATUS.SWATH, R154. -/
def EXP_SURVEY_STATUS_SWATH : Field := ⟨0, 16⟩
/-- EXP_SURVEY_STATUS.LIMITER, R154. -/
def EXP_SURVEY_STATUS_LIMITER : Field := ⟨16, 3⟩
/-- EXP_SURVEY_STATUS.BUSY, R154. -/
def EXP_SURVEY_STATUS_BUSY : Field := ⟨19, 1⟩
/-- EXP_SURVEY_STATUS.EXACT, R154. -/
def EXP_SURVEY_STATUS_EXACT : Field := ⟨20, 1⟩
/-- EXP_SURVEY_STATUS.THRASH_MULT, R154. -/
def EXP_SURVEY_STATUS_THRASH_MULT : Field := ⟨21, 3⟩
/-- CE_ENG_STATUS.SVC, R179. -/
def CE_ENG_STATUS_SVC : Field := ⟨0, 3⟩
/-- CE_ENG_STATUS.ROLE, R179. -/
def CE_ENG_STATUS_ROLE : Field := ⟨3, 2⟩
/-- CE_ENG_STATUS.KERNEL, R179. -/
def CE_ENG_STATUS_KERNEL : Field := ⟨5, 1⟩
/-- CE_ENG_STATUS.PARKED, R179. -/
def CE_ENG_STATUS_PARKED : Field := ⟨6, 1⟩
/-- CE_ENG_STATUS.CLUSTER, R179. -/
def CE_ENG_STATUS_CLUSTER : Field := ⟨8, 4⟩
/-- CE_ENG_STATUS.LOCAL, R179. -/
def CE_ENG_STATUS_LOCAL : Field := ⟨12, 4⟩
/-- CE_ENG_TILE.SWATH, R180. -/
def CE_ENG_TILE_SWATH : Field := ⟨0, 16⟩
/-- CE_ENG_TILE.TCOL, R180. -/
def CE_ENG_TILE_TCOL : Field := ⟨16, 8⟩
/-- CE_CL_STATUS.CLK_MHZ, R181. -/
def CE_CL_STATUS_CLK_MHZ : Field := ⟨0, 11⟩
/-- CE_CL_STATUS.AVS_BUSY, R181. -/
def CE_CL_STATUS_AVS_BUSY : Field := ⟨11, 1⟩
/-- CE_CL_STATUS.ENG_IN, R181. -/
def CE_CL_STATUS_ENG_IN : Field := ⟨12, 4⟩
/-- CE_CL_STATUS.SPARE, R181. -/
def CE_CL_STATUS_SPARE : Field := ⟨16, 4⟩
/-- CE_CL_CFG.MAX_MHZ, R182. -/
def CE_CL_CFG_MAX_MHZ : Field := ⟨0, 11⟩
/-- CE_MODEL.MINOR, R183. -/
def CE_MODEL_MINOR : Field := ⟨0, 8⟩
/-- CE_MODEL.MAJOR, R183. -/
def CE_MODEL_MAJOR : Field := ⟨8, 8⟩
/-- CE_MODEL.ROWS, R183. -/
def CE_MODEL_ROWS : Field := ⟨16, 8⟩
/-- CE_MODEL.SUB, R183. -/
def CE_MODEL_SUB : Field := ⟨24, 8⟩
/-- VER_CFG.MAX_VOTES, R211. -/
def VER_CFG_MAX_VOTES : Field := ⟨0, 2⟩
/-- VER_CFG.SAME_CL_OK, R211. -/
def VER_CFG_SAME_CL_OK : Field := ⟨2, 1⟩
/-- VER_CFG.LOSS_WIN_S, R211. -/
def VER_CFG_LOSS_WIN_S : Field := ⟨16, 16⟩
/-- VER_STATUS.CTX_USED, R212. -/
def VER_STATUS_CTX_USED : Field := ⟨0, 11⟩
/-- VER_STATUS.ENG_IN, R212. -/
def VER_STATUS_ENG_IN : Field := ⟨16, 6⟩
/-- VER_STATUS.SPARES, R212. -/
def VER_STATUS_SPARES : Field := ⟨24, 3⟩
/-- VER_EVENT.MISMATCH, R213. -/
def VER_EVENT_MISMATCH : Field := ⟨0, 1⟩
/-- VER_EVENT.VOTE_LATE, R213. -/
def VER_EVENT_VOTE_LATE : Field := ⟨1, 1⟩
/-- VER_EVENT.NO_MAJORITY, R213. -/
def VER_EVENT_NO_MAJORITY : Field := ⟨2, 1⟩
/-- VER_EVENT.BLANK, R213. -/
def VER_EVENT_BLANK : Field := ⟨3, 1⟩
/-- VER_EVENT.ENG_OUT, R213. -/
def VER_EVENT_ENG_OUT : Field := ⟨4, 1⟩
/-- VER_EVENT.ENG_BACK, R213. -/
def VER_EVENT_ENG_BACK : Field := ⟨5, 1⟩
/-- VER_EVENT.PROMOTE, R213. -/
def VER_EVENT_PROMOTE : Field := ⟨6, 1⟩
/-- VER_EVENT.CTX_FULL, R213. -/
def VER_EVENT_CTX_FULL : Field := ⟨7, 1⟩
/-- VER_EVENT.STAGE_CRC, R213. -/
def VER_EVENT_STAGE_CRC : Field := ⟨8, 1⟩
/-- VER_EVENT.SAME_CLUSTER, R213. -/
def VER_EVENT_SAME_CLUSTER : Field := ⟨9, 1⟩
/-- VER_ENG_CTRL.ENGINE, R214. -/
def VER_ENG_CTRL_ENGINE : Field := ⟨0, 6⟩
/-- VER_ENG_CTRL.CMD, R214. -/
def VER_ENG_CTRL_CMD : Field := ⟨8, 2⟩
/-- VER_LAST_BLANK_TILE.SWATH, R215. -/
def VER_LAST_BLANK_TILE_SWATH : Field := ⟨0, 16⟩
/-- VER_LAST_BLANK_TILE.TCOL, R215. -/
def VER_LAST_BLANK_TILE_TCOL : Field := ⟨16, 8⟩
/-- VER_LAST_BLANK_TILE.CAUSE, R215. -/
def VER_LAST_BLANK_TILE_CAUSE : Field := ⟨24, 3⟩
/-- VER_ENG_REC.LOSSES, R216. -/
def VER_ENG_REC_LOSSES : Field := ⟨0, 8⟩
/-- VER_ENG_REC.SHADOW_N, R216. -/
def VER_ENG_REC_SHADOW_N : Field := ⟨8, 5⟩
/-- VER_ENG_REC.ST_FAILS, R216. -/
def VER_ENG_REC_ST_FAILS : Field := ⟨13, 2⟩
/-- VER_ENG_REC.ARMED, R216. -/
def VER_ENG_REC_ARMED : Field := ⟨15, 1⟩
/-- BM_STATUS.VALID, R242. -/
def BM_STATUS_VALID : Field := ⟨0, 1⟩
/-- BM_STATUS.EDIT, R242. -/
def BM_STATUS_EDIT : Field := ⟨1, 1⟩
/-- BM_STATUS.SHADOW_PENDING, R242. -/
def BM_STATUS_SHADOW_PENDING : Field := ⟨2, 1⟩
/-- BM_CTRL.EDIT_OPEN, R243. -/
def BM_CTRL_EDIT_OPEN : Field := ⟨0, 1⟩
/-- BM_CTRL.EDIT_COMMIT, R243. -/
def BM_CTRL_EDIT_COMMIT : Field := ⟨1, 1⟩
/-- BM_CTRL.EDIT_CANCEL, R243. -/
def BM_CTRL_EDIT_CANCEL : Field := ⟨2, 1⟩
/-- BM_POLICY.DEAD_FAILS, R244. -/
def BM_POLICY_DEAD_FAILS : Field := ⟨0, 4⟩
/-- BM_POLICY.REVIVE_PASSES, R244. -/
def BM_POLICY_REVIVE_PASSES : Field := ⟨8, 8⟩
/-- BM_POLICY.WEAK_PCT, R244. -/
def BM_POLICY_WEAK_PCT : Field := ⟨16, 7⟩
/-- BM_POLICY.DEAD_PCT, R244. -/
def BM_POLICY_DEAD_PCT : Field := ⟨24, 7⟩
/-- BM_BEAM_CMD.BEAM, R245. -/
def BM_BEAM_CMD_BEAM : Field := ⟨0, 18⟩
/-- BM_BEAM_CMD.STATUS, R245. -/
def BM_BEAM_CMD_STATUS : Field := ⟨18, 2⟩
/-- BM_BEAM_CMD.LOCKOP, R245. -/
def BM_BEAM_CMD_LOCKOP : Field := ⟨20, 2⟩
/-- BM_EVENT.STATUS_CHANGE, R246. -/
def BM_EVENT_STATUS_CHANGE : Field := ⟨0, 1⟩
/-- BM_EVENT.LATE_DEAD, R246. -/
def BM_EVENT_LATE_DEAD : Field := ⟨1, 1⟩
/-- BM_EVENT.TELEM_OVERRIDDEN, R246. -/
def BM_EVENT_TELEM_OVERRIDDEN : Field := ⟨2, 1⟩
/-- BM_EVENT.TELEM_DISCARDED, R246. -/
def BM_EVENT_TELEM_DISCARDED : Field := ⟨3, 1⟩
/-- BM_EVENT.VALID_FAIL, R246. -/
def BM_EVENT_VALID_FAIL : Field := ⟨4, 1⟩
/-- BM_EVENT.NO_TARGET, R246. -/
def BM_EVENT_NO_TARGET : Field := ⟨5, 1⟩
/-- BM_VALID_ERR.CODE, R247. -/
def BM_VALID_ERR_CODE : Field := ⟨0, 8⟩
/-- BM_VALID_ERR.INDEX, R247. -/
def BM_VALID_ERR_INDEX : Field := ⟨8, 18⟩
/-- GY_CFG.STROBE, R278. -/
def GY_CFG_STROBE : Field := ⟨0, 6⟩
/-- GY_CFG.CMD_LEAD_US, R278. -/
def GY_CFG_CMD_LEAD_US : Field := ⟨8, 8⟩
/-- GY_CFG.STROBE_W, R278. -/
def GY_CFG_STROBE_W : Field := ⟨16, 8⟩
/-- GY_CFG.VWIN, R278. -/
def GY_CFG_VWIN : Field := ⟨24, 8⟩
/-- GY_GOV_CFG.LOW_WATER_US, R279. -/
def GY_GOV_CFG_LOW_WATER_US : Field := ⟨0, 16⟩
/-- GY_GOV_CFG.MIN_OVR, R279. -/
def GY_GOV_CFG_MIN_OVR : Field := ⟨16, 11⟩
/-- GY_CTRL.STOP_SWATH, R280. -/
def GY_CTRL_STOP_SWATH : Field := ⟨0, 1⟩
/-- GY_STATUS.CUR_STATE, R281. -/
def GY_STATUS_CUR_STATE : Field := ⟨0, 3⟩
/-- GY_STATUS.NEXT_STATE, R281. -/
def GY_STATUS_NEXT_STATE : Field := ⟨3, 3⟩
/-- GY_STATUS.GOV_LOW, R281. -/
def GY_STATUS_GOV_LOW : Field := ⟨6, 1⟩
/-- GY_STATUS.ESTOP, R281. -/
def GY_STATUS_ESTOP : Field := ⟨7, 1⟩
/-- GY_STATUS.STOP_CAUSE, R281. -/
def GY_STATUS_STOP_CAUSE : Field := ⟨8, 3⟩
/-- GY_STATUS.OVR, R281. -/
def GY_STATUS_OVR : Field := ⟨16, 11⟩
/-- GY_EVENT.UNDERRUN, R282. -/
def GY_EVENT_UNDERRUN : Field := ⟨0, 1⟩
/-- GY_EVENT.MISSED, R282. -/
def GY_EVENT_MISSED : Field := ⟨1, 1⟩
/-- GY_EVENT.GOV_LOWER, R282. -/
def GY_EVENT_GOV_LOWER : Field := ⟨2, 1⟩
/-- GY_EVENT.GOV_FLOOR, R282. -/
def GY_EVENT_GOV_FLOOR : Field := ⟨3, 1⟩
/-- GY_EVENT.RING_FULL, R282. -/
def GY_EVENT_RING_FULL : Field := ⟨4, 1⟩
/-- GY_EVENT.CLAIM, R282. -/
def GY_EVENT_CLAIM : Field := ⟨5, 1⟩
/-- GY_EVENT.RATE_CLAMP, R282. -/
def GY_EVENT_RATE_CLAMP : Field := ⟨6, 1⟩
/-- GY_EVENT.STROBE_SLIP, R282. -/
def GY_EVENT_STROBE_SLIP : Field := ⟨7, 1⟩
/-- GY_EVENT.SPAN, R282. -/
def GY_EVENT_SPAN : Field := ⟨8, 1⟩
/-- GY_EVENT.TEMP_SOFT, R282. -/
def GY_EVENT_TEMP_SOFT : Field := ⟨9, 1⟩
/-- GY_EVENT.TEMP_HARD, R282. -/
def GY_EVENT_TEMP_HARD : Field := ⟨10, 1⟩
/-- GY_EVENT.TEMP_TIMEOUT, R282. -/
def GY_EVENT_TEMP_TIMEOUT : Field := ⟨11, 1⟩
/-- GY_EVENT.SWATH_STOP, R282. -/
def GY_EVENT_SWATH_STOP : Field := ⟨12, 1⟩
/-- GY_EVENT.OVR_MISSING, R282. -/
def GY_EVENT_OVR_MISSING : Field := ⟨13, 1⟩
/-- GY_PORT_TEMP.SOFT_C, R283. -/
def GY_PORT_TEMP_SOFT_C : Field := ⟨0, 8⟩
/-- GY_PORT_TEMP.RESUME_C, R283. -/
def GY_PORT_TEMP_RESUME_C : Field := ⟨8, 8⟩
/-- GY_PORT_TEMP.HARD_C, R283. -/
def GY_PORT_TEMP_HARD_C : Field := ⟨16, 8⟩
/-- GY_PORT_STATUS.TEMP_STATE, R284. -/
def GY_PORT_STATUS_TEMP_STATE : Field := ⟨0, 2⟩
/-- GY_PORT_STATUS.TIMEOUT, R284. -/
def GY_PORT_STATUS_TIMEOUT : Field := ⟨2, 1⟩
/-- GY_PORT_STATUS.HOT_HEAD, R284. -/
def GY_PORT_STATUS_HOT_HEAD : Field := ⟨8, 3⟩
/-- GY_PORT_STATUS.HOT_C, R284. -/
def GY_PORT_STATUS_HOT_C : Field := ⟨16, 8⟩
/-- HP_CFG.PORT_EN, R323. -/
def HP_CFG_PORT_EN : Field := ⟨0, 6⟩
/-- HP_CFG.TMARK_US, R323. -/
def HP_CFG_TMARK_US : Field := ⟨8, 8⟩
/-- HP_CFG.RESID_PS, R323. -/
def HP_CFG_RESID_PS : Field := ⟨16, 16⟩
/-- HP_EVENT.LATE_DROP, R324. -/
def HP_EVENT_LATE_DROP : Field := ⟨0, 1⟩
/-- HP_EVENT.EXC, R324. -/
def HP_EVENT_EXC : Field := ⟨1, 1⟩
/-- HP_EVENT.DEGRADE, R324. -/
def HP_EVENT_DEGRADE : Field := ⟨2, 1⟩
/-- HP_EVENT.WIDEN, R324. -/
def HP_EVENT_WIDEN : Field := ⟨3, 1⟩
/-- HP_EVENT.HEAD_LOST, R324. -/
def HP_EVENT_HEAD_LOST : Field := ⟨4, 1⟩
/-- HP_EVENT.TIME_UNLOCK, R324. -/
def HP_EVENT_TIME_UNLOCK : Field := ⟨5, 1⟩
/-- HP_EVENT.BUDGET, R324. -/
def HP_EVENT_BUDGET : Field := ⟨6, 1⟩
/-- HP_EVENT.FRAME_ERR, R324. -/
def HP_EVENT_FRAME_ERR : Field := ⟨7, 1⟩
/-- HP_EVENT.TELEM_UNMAPPED, R324. -/
def HP_EVENT_TELEM_UNMAPPED : Field := ⟨8, 1⟩
/-- HP_EVENT.WAVE_FAULT, R324. -/
def HP_EVENT_WAVE_FAULT : Field := ⟨9, 1⟩
/-- HP_EVENT.ESTOP_FIRED, R324. -/
def HP_EVENT_ESTOP_FIRED : Field := ⟨10, 1⟩
/-- HP_EVENT.HO_RETRY, R324. -/
def HP_EVENT_HO_RETRY : Field := ⟨11, 1⟩
/-- HP_SB_CMD.PORT, R325. -/
def HP_SB_CMD_PORT : Field := ⟨0, 3⟩
/-- HP_SB_CMD.HEAD, R325. -/
def HP_SB_CMD_HEAD : Field := ⟨4, 3⟩
/-- HP_SB_CMD.ALL, R325. -/
def HP_SB_CMD_ALL : Field := ⟨7, 1⟩
/-- HP_SB_CMD.OP, R325. -/
def HP_SB_CMD_OP : Field := ⟨8, 2⟩
/-- HP_WAVE_CTRL.SET, R325. -/
def HP_WAVE_CTRL_SET : Field := ⟨0, 4⟩
/-- HP_WAVE_CTRL.COMMIT, R325. -/
def HP_WAVE_CTRL_COMMIT : Field := ⟨8, 1⟩
/-- HP_WAVE_STATUS.PENDING, R325. -/
def HP_WAVE_STATUS_PENDING : Field := ⟨0, 16⟩
/-- HP_WAVE_STATUS.ERR, R325. -/
def HP_WAVE_STATUS_ERR : Field := ⟨16, 8⟩
/-- HP_WAVE_STATUS.ERR_SET, R325. -/
def HP_WAVE_STATUS_ERR_SET : Field := ⟨24, 4⟩
/-- HP_WAVE_STATUS.BUSY, R325. -/
def HP_WAVE_STATUS_BUSY : Field := ⟨28, 1⟩
/-- HP_PORT_CTRL.RESTART, R325. -/
def HP_PORT_CTRL_RESTART : Field := ⟨0, 1⟩
/-- HP_PORT_STATUS.STATE, R326. -/
def HP_PORT_STATUS_STATE : Field := ⟨0, 3⟩
/-- HP_PORT_STATUS.DEGRADED, R326. -/
def HP_PORT_STATUS_DEGRADED : Field := ⟨3, 1⟩
/-- HP_PORT_STATUS.LANES, R326. -/
def HP_PORT_STATUS_LANES : Field := ⟨4, 4⟩
/-- HP_PORT_STATUS.HEADS, R326. -/
def HP_PORT_STATUS_HEADS : Field := ⟨8, 4⟩
/-- HP_PORT_STATUS.TIME_LOCK, R326. -/
def HP_PORT_STATUS_TIME_LOCK : Field := ⟨12, 1⟩
/-- HP_PORT_STATUS.FAULT_CAUSE, R326. -/
def HP_PORT_STATUS_FAULT_CAUSE : Field := ⟨16, 8⟩
/-- HP_HEAD_INFO.TYPE, R326. -/
def HP_HEAD_INFO_TYPE : Field := ⟨0, 16⟩
/-- HP_HEAD_INFO.RANK, R326. -/
def HP_HEAD_INFO_RANK : Field := ⟨16, 4⟩
/-- HP_HEAD_INFO.CLASS, R326. -/
def HP_HEAD_INFO_CLASS : Field := ⟨20, 1⟩
/-- HP_HEAD_INFO.MAX_BITS, R326. -/
def HP_HEAD_INFO_MAX_BITS : Field := ⟨24, 4⟩
/-- HP_HEAD_INFO.LOCKED, R326. -/
def HP_HEAD_INFO_LOCKED : Field := ⟨28, 1⟩
/-- HP_HEAD_INFO.PRESENT, R326. -/
def HP_HEAD_INFO_PRESENT : Field := ⟨29, 1⟩
/-- HP_HEAD_DELAY.DELAY, R326. -/
def HP_HEAD_DELAY_DELAY : Field := ⟨0, 24⟩
/-- HP_HEAD_DELAY.RESID, R326. -/
def HP_HEAD_DELAY_RESID : Field := ⟨24, 8⟩
/-- TB_CFG.SEL_INIT, R358. -/
def TB_CFG_SEL_INIT : Field := ⟨0, 2⟩
/-- TB_CFG.SERVO, R358. -/
def TB_CFG_SERVO : Field := ⟨2, 1⟩
/-- TB_CFG.AUTO_FO, R358. -/
def TB_CFG_AUTO_FO : Field := ⟨3, 1⟩
/-- TB_CFG.PPS_OUT_EN, R358. -/
def TB_CFG_PPS_OUT_EN : Field := ⟨4, 1⟩
/-- TB_CFG.STEP_US, R358. -/
def TB_CFG_STEP_US : Field := ⟨16, 16⟩
/-- TB_STATUS.TQ, R359. -/
def TB_STATUS_TQ : Field := ⟨0, 3⟩
/-- TB_STATUS.SEL, R359. -/
def TB_STATUS_SEL : Field := ⟨3, 2⟩
/-- TB_STATUS.SLEWING, R359. -/
def TB_STATUS_SLEWING : Field := ⟨5, 1⟩
/-- TB_STATUS.STEP_WAIT, R359. -/
def TB_STATUS_STEP_WAIT : Field := ⟨6, 1⟩
/-- TB_STATUS.PPS_SEC_SET, R359. -/
def TB_STATUS_PPS_SEC_SET : Field := ⟨7, 1⟩
/-- TB_CTRL.STEP, R360. -/
def TB_CTRL_STEP : Field := ⟨0, 1⟩
/-- TB_DOM_CFG.SRC, R361. -/
def TB_DOM_CFG_SRC : Field := ⟨0, 2⟩
/-- TB_DOM_CFG.TREF, R361. -/
def TB_DOM_CFG_TREF : Field := ⟨2, 1⟩
/-- TB_DOM_CFG.PTP_DOM, R361. -/
def TB_DOM_CFG_PTP_DOM : Field := ⟨8, 8⟩
/-- TB_DOM_CFG.DREQ_LOG, R361. -/
def TB_DOM_CFG_DREQ_LOG : Field := ⟨16, 4⟩
/-- TB_DOM_CFG.LOCK_NS, R361. -/
def TB_DOM_CFG_LOCK_NS : Field := ⟨20, 12⟩
/-- TB_DOM_STATUS.STATE, R362. -/
def TB_DOM_STATUS_STATE : Field := ⟨0, 2⟩
/-- TB_DOM_STATUS.TWO_STEP, R362. -/
def TB_DOM_STATUS_TWO_STEP : Field := ⟨2, 1⟩
/-- TB_DOM_STATUS.TREF_OK, R362. -/
def TB_DOM_STATUS_TREF_OK : Field := ⟨3, 1⟩
/-- TB_DOM_STATUS.AGE_MS, R362. -/
def TB_DOM_STATUS_AGE_MS : Field := ⟨16, 16⟩
/-- TA_STATUS.ARMED_HOST, R364. -/
def TA_STATUS_ARMED_HOST : Field := ⟨0, 8⟩
/-- TA_STATUS.ARMED_FW, R364. -/
def TA_STATUS_ARMED_FW : Field := ⟨8, 8⟩
/-- TA_STATUS.NEXT, R364. -/
def TA_STATUS_NEXT : Field := ⟨16, 8⟩
/-- TA_STATUS.NEXT_VALID, R364. -/
def TA_STATUS_NEXT_VALID : Field := ⟨24, 1⟩
/-- TA_EVENT.LATE, R365. -/
def TA_EVENT_LATE : Field := ⟨0, 1⟩
/-- TA_EVENT.FAILED, R365. -/
def TA_EVENT_FAILED : Field := ⟨1, 1⟩
/-- TA_EVENT.FULL, R365. -/
def TA_EVENT_FULL : Field := ⟨2, 1⟩
/-- TA_EVENT.DEEP_CLEARED, R365. -/
def TA_EVENT_DEEP_CLEARED : Field := ⟨3, 1⟩
/-- TA_EVENT.DISARM_FAIL, R365. -/
def TA_EVENT_DISARM_FAIL : Field := ⟨4, 1⟩
/-- TA_CTRL.SLOT, R366. -/
def TA_CTRL_SLOT : Field := ⟨0, 8⟩
/-- TA_CTRL.OP, R366. -/
def TA_CTRL_OP : Field := ⟨8, 2⟩
/-- TA_SLOT_CTL.FRAC, R367. -/
def TA_SLOT_CTL_FRAC : Field := ⟨0, 16⟩
/-- TA_SLOT_CTL.CODE, R367. -/
def TA_SLOT_CTL_CODE : Field := ⟨16, 8⟩
/-- TA_SLOT_STATE.ST, R367. -/
def TA_SLOT_STATE_ST : Field := ⟨0, 3⟩
/-- TA_SLOT_STATE.LATE_US, R367. -/
def TA_SLOT_STATE_LATE_US : Field := ⟨16, 16⟩
/-- FAB_CFG.PRIORITY, R399. -/
def FAB_CFG_PRIORITY : Field := ⟨0, 8⟩
/-- FAB_CFG.TTL, R399. -/
def FAB_CFG_TTL : Field := ⟨8, 8⟩
/-- FAB_CFG.SETTLE_MS, R399. -/
def FAB_CFG_SETTLE_MS : Field := ⟨16, 8⟩
/-- FAB_CFG.ING_FWD, R399. -/
def FAB_CFG_ING_FWD : Field := ⟨24, 1⟩
/-- FAB_CFG.ING_GROUP, R399. -/
def FAB_CFG_ING_GROUP : Field := ⟨25, 6⟩
/-- FAB_FIXED_ID.ID, R399. -/
def FAB_FIXED_ID_ID : Field := ⟨0, 10⟩
/-- FAB_FIXED_ID.EN, R399. -/
def FAB_FIXED_ID_EN : Field := ⟨15, 1⟩
/-- FAB_TIME_CFG.PERIOD_US, R399. -/
def FAB_TIME_CFG_PERIOD_US : Field := ⟨0, 16⟩
/-- FAB_BAR_CFG.REL_US, R399. -/
def FAB_BAR_CFG_REL_US : Field := ⟨0, 16⟩
/-- FAB_BAR_CFG.BAR_TO_S, R399. -/
def FAB_BAR_CFG_BAR_TO_S : Field := ⟨16, 16⟩
/-- FAB_XFER_CFG.REQ_TO_MS, R399. -/
def FAB_XFER_CFG_REQ_TO_MS : Field := ⟨0, 8⟩
/-- FAB_XFER_CFG.REPLAY_MIB, R399. -/
def FAB_XFER_CFG_REPLAY_MIB : Field := ⟨16, 16⟩
/-- FAB_GRANT_CTL.NODE, R399. -/
def FAB_GRANT_CTL_NODE : Field := ⟨0, 10⟩
/-- FAB_GRANT_CTL.ANY, R399. -/
def FAB_GRANT_CTL_ANY : Field := ⟨10, 1⟩
/-- FAB_GRANT_CTL.LAYOUT, R399. -/
def FAB_GRANT_CTL_LAYOUT : Field := ⟨11, 1⟩
/-- FAB_GRANT_CTL.BULK, R399. -/
def FAB_GRANT_CTL_BULK : Field := ⟨12, 1⟩
/-- FAB_GRANT_CTL.RD, R399. -/
def FAB_GRANT_CTL_RD : Field := ⟨13, 1⟩
/-- FAB_GRANT_CTL.WR, R399. -/
def FAB_GRANT_CTL_WR : Field := ⟨14, 1⟩
/-- FAB_GRANT_CTL.EN, R399. -/
def FAB_GRANT_CTL_EN : Field := ⟨15, 1⟩
/-- FAB_STATUS.STATE, R400. -/
def FAB_STATUS_STATE : Field := ⟨0, 3⟩
/-- FAB_STATUS.ROOT, R400. -/
def FAB_STATUS_ROOT : Field := ⟨3, 1⟩
/-- FAB_STATUS.TIME_FAR, R400. -/
def FAB_STATUS_TIME_FAR : Field := ⟨4, 1⟩
/-- FAB_STATUS.NODE_ID, R400. -/
def FAB_STATUS_NODE_ID : Field := ⟨16, 10⟩
/-- FAB_STATUS.ID_VALID, R400. -/
def FAB_STATUS_ID_VALID : Field := ⟨26, 1⟩
/-- FAB_TIME_STATUS.HOPS, R400. -/
def FAB_TIME_STATUS_HOPS : Field := ⟨0, 4⟩
/-- FAB_TIME_STATUS.UP_PORT, R400. -/
def FAB_TIME_STATUS_UP_PORT : Field := ⟨4, 4⟩
/-- FAB_TIME_STATUS.ROOT_TQ, R400. -/
def FAB_TIME_STATUS_ROOT_TQ : Field := ⟨8, 3⟩
/-- FAB_ROOT.ROOT_ID, R400. -/
def FAB_ROOT_ROOT_ID : Field := ⟨0, 10⟩
/-- FAB_ROOT.ROOT_PRIORITY, R400. -/
def FAB_ROOT_ROOT_PRIORITY : Field := ⟨16, 8⟩
/-- FAB_NODES.PRESENT, R400. -/
def FAB_NODES_PRESENT : Field := ⟨0, 11⟩
/-- FAB_NODES.MEMBERS, R400. -/
def FAB_NODES_MEMBERS : Field := ⟨16, 11⟩
/-- FAB_BAR_ABORT.CAUSE, R400. -/
def FAB_BAR_ABORT_CAUSE : Field := ⟨0, 3⟩
/-- FAB_BAR_ABORT.NODE, R400. -/
def FAB_BAR_ABORT_NODE : Field := ⟨16, 10⟩
/-- FAB_PORT_STATUS.STATE, R400. -/
def FAB_PORT_STATUS_STATE : Field := ⟨0, 3⟩
/-- FAB_PORT_STATUS.WIDTH, R400. -/
def FAB_PORT_STATUS_WIDTH : Field := ⟨3, 2⟩
/-- FAB_PORT_STATUS.UPSTREAM, R400. -/
def FAB_PORT_STATUS_UPSTREAM : Field := ⟨5, 1⟩
/-- FAB_PORT_STATUS.CHILD, R400. -/
def FAB_PORT_STATUS_CHILD : Field := ⟨6, 1⟩
/-- FAB_PORT_STATUS.FLOWS, R400. -/
def FAB_PORT_STATUS_FLOWS : Field := ⟨16, 7⟩
/-- FAB_PORT_NEIGH.NODE, R400. -/
def FAB_PORT_NEIGH_NODE : Field := ⟨0, 16⟩
/-- FAB_PORT_NEIGH.PORT, R400. -/
def FAB_PORT_NEIGH_PORT : Field := ⟨16, 2⟩
/-- FAB_EVENT.LINK_DOWN, R401. -/
def FAB_EVENT_LINK_DOWN : Field := ⟨0, 1⟩
/-- FAB_EVENT.LINK_DEGRADE, R401. -/
def FAB_EVENT_LINK_DEGRADE : Field := ⟨1, 1⟩
/-- FAB_EVENT.TOPO_CHANGE, R401. -/
def FAB_EVENT_TOPO_CHANGE : Field := ⟨2, 1⟩
/-- FAB_EVENT.ROOT_CHANGE, R401. -/
def FAB_EVENT_ROOT_CHANGE : Field := ⟨3, 1⟩
/-- FAB_EVENT.ID_CONFLICT, R401. -/
def FAB_EVENT_ID_CONFLICT : Field := ⟨4, 1⟩
/-- FAB_EVENT.ISOLATED, R401. -/
def FAB_EVENT_ISOLATED : Field := ⟨5, 1⟩
/-- FAB_EVENT.FREEZE, R401. -/
def FAB_EVENT_FREEZE : Field := ⟨6, 1⟩
/-- FAB_EVENT.FROZEN_BY, R401. -/
def FAB_EVENT_FROZEN_BY : Field := ⟨7, 1⟩
/-- FAB_EVENT.NAK, R401. -/
def FAB_EVENT_NAK : Field := ⟨8, 1⟩
/-- FAB_EVENT.TTL, R401. -/
def FAB_EVENT_TTL : Field := ⟨9, 1⟩
/-- FAB_EVENT.REQ_FAIL, R401. -/
def FAB_EVENT_REQ_FAIL : Field := ⟨10, 1⟩
/-- FAB_EVENT.BAR_ABORT, R401. -/
def FAB_EVENT_BAR_ABORT : Field := ⟨11, 1⟩
/-- FAB_EVENT.TIME_FAR, R401. -/
def FAB_EVENT_TIME_FAR : Field := ⟨12, 1⟩
/-- FAB_EVENT.REPLAY_FULL, R401. -/
def FAB_EVENT_REPLAY_FULL : Field := ⟨13, 1⟩
/-- FAB_EVENT.MC_GAP, R401. -/
def FAB_EVENT_MC_GAP : Field := ⟨14, 1⟩
/-- LN_CFG.DWELL_MS, R429. -/
def LN_CFG_DWELL_MS : Field := ⟨0, 4⟩
/-- LN_CFG.ERR_LIMIT, R429. -/
def LN_CFG_ERR_LIMIT : Field := ⟨8, 8⟩
/-- LN_CFG.RETRY_S, R429. -/
def LN_CFG_RETRY_S : Field := ⟨16, 8⟩
/-- LN_CFG.STANDBY_MS, R429. -/
def LN_CFG_STANDBY_MS : Field := ⟨24, 8⟩
/-- LN_WAKE_CFG.ING, R429. -/
def LN_WAKE_CFG_ING : Field := ⟨0, 1⟩
/-- LN_WAKE_CFG.FAB, R429. -/
def LN_WAKE_CFG_FAB : Field := ⟨1, 4⟩
/-- LN_WAKE_CFG.HP, R429. -/
def LN_WAKE_CFG_HP : Field := ⟨5, 6⟩
/-- LN_WAKE_CFG.MGT, R429. -/
def LN_WAKE_CFG_MGT : Field := ⟨11, 1⟩
/-- LN_STATUS.BOARD_ID, R430. -/
def LN_STATUS_BOARD_ID : Field := ⟨0, 4⟩
/-- LN_STATUS.STRAPS, R430. -/
def LN_STATUS_STRAPS : Field := ⟨4, 4⟩
/-- LN_STATUS.EQ_DEFAULT, R430. -/
def LN_STATUS_EQ_DEFAULT : Field := ⟨8, 1⟩
/-- LN_STATUS.LANES_L0, R430. -/
def LN_STATUS_LANES_L0 : Field := ⟨16, 6⟩
/-- LN_STATUS.LANES_FAILED, R430. -/
def LN_STATUS_LANES_FAILED : Field := ⟨24, 6⟩
/-- LN_EVENT.LANE_OUT, R431. -/
def LN_EVENT_LANE_OUT : Field := ⟨0, 1⟩
/-- LN_EVENT.LANE_FAILED, R431. -/
def LN_EVENT_LANE_FAILED : Field := ⟨1, 1⟩
/-- LN_EVENT.LANE_BACK, R431. -/
def LN_EVENT_LANE_BACK : Field := ⟨2, 1⟩
/-- LN_EVENT.HELD, R431. -/
def LN_EVENT_HELD : Field := ⟨3, 1⟩
/-- LN_EVENT.EQ_DEFAULT, R431. -/
def LN_EVENT_EQ_DEFAULT : Field := ⟨4, 1⟩
/-- LN_EVENT.STRAP_CHANGE, R431. -/
def LN_EVENT_STRAP_CHANGE : Field := ⟨5, 1⟩
/-- LN_EVENT.PWR_REFUSED, R431. -/
def LN_EVENT_PWR_REFUSED : Field := ⟨6, 1⟩
/-- LN_EVENT.WAKE_NOISE, R431. -/
def LN_EVENT_WAKE_NOISE : Field := ⟨7, 1⟩
/-- LN_EVENT.NR_FRAME, R431. -/
def LN_EVENT_NR_FRAME : Field := ⟨8, 1⟩
/-- LN_EVENT.MGT_FALLBACK, R431. -/
def LN_EVENT_MGT_FALLBACK : Field := ⟨9, 1⟩
/-- LN_LANE_STATUS.STATE, R432. -/
def LN_LANE_STATUS_STATE : Field := ⟨0, 4⟩
/-- LN_LANE_STATUS.IN_MASK, R432. -/
def LN_LANE_STATUS_IN_MASK : Field := ⟨4, 1⟩
/-- LN_LANE_STATUS.BACKGROUND, R432. -/
def LN_LANE_STATUS_BACKGROUND : Field := ⟨5, 1⟩
/-- LN_LANE_STATUS.NOT_READY, R432. -/
def LN_LANE_STATUS_NOT_READY : Field := ⟨6, 1⟩
/-- LN_LANE_STATUS.HELD, R432. -/
def LN_LANE_STATUS_HELD : Field := ⟨7, 1⟩
/-- LN_LANE_STATUS.CAUSE, R432. -/
def LN_LANE_STATUS_CAUSE : Field := ⟨8, 4⟩
/-- LN_LANE_STATUS.PORT_LANE, R432. -/
def LN_LANE_STATUS_PORT_LANE : Field := ⟨12, 4⟩
/-- LN_LANE_CTRL.CMD, R432. -/
def LN_LANE_CTRL_CMD : Field := ⟨0, 2⟩
/-- LN_LANE_CTRL.PWR, R432. -/
def LN_LANE_CTRL_PWR : Field := ⟨4, 2⟩
/-- LN_LANE_EQ.PRE, R433. -/
def LN_LANE_EQ_PRE : Field := ⟨0, 3⟩
/-- LN_LANE_EQ.POST, R433. -/
def LN_LANE_EQ_POST : Field := ⟨4, 4⟩
/-- LN_LANE_EQ.CTLE, R433. -/
def LN_LANE_EQ_CTLE : Field := ⟨8, 4⟩
/-- LN_LANE_EQ.STEP, R433. -/
def LN_LANE_EQ_STEP : Field := ⟨12, 4⟩
/-- LN_LANE_EQ.TABLE_CTLE, R433. -/
def LN_LANE_EQ_TABLE_CTLE : Field := ⟨16, 4⟩
/-- MP_AX_CFG.ENABLE, R462. -/
def MP_AX_CFG_ENABLE : Field := ⟨0, 1⟩
/-- MP_AX_CFG.SCAN_LSET, R462. -/
def MP_AX_CFG_SCAN_LSET : Field := ⟨4, 4⟩
/-- MP_AX_CTRL.CMD, R462. -/
def MP_AX_CTRL_CMD : Field := ⟨0, 3⟩
/-- MP_AX_CTRL.MOVE, R462. -/
def MP_AX_CTRL_MOVE : Field := ⟨16, 10⟩
/-- MP_AX_STATUS.STATE, R463. -/
def MP_AX_STATUS_STATE : Field := ⟨0, 3⟩
/-- MP_AX_STATUS.PHASE, R463. -/
def MP_AX_STATUS_PHASE : Field := ⟨3, 2⟩
/-- MP_AX_STATUS.DEFER, R463. -/
def MP_AX_STATUS_DEFER : Field := ⟨5, 1⟩
/-- MP_AX_STATUS.HOMED, R463. -/
def MP_AX_STATUS_HOMED : Field := ⟨6, 1⟩
/-- MP_AX_STATUS.HOME_STATE, R463. -/
def MP_AX_STATUS_HOME_STATE : Field := ⟨8, 4⟩
/-- MP_AX_STATUS.FAULT, R463. -/
def MP_AX_STATUS_FAULT : Field := ⟨12, 4⟩
/-- MP_AX_STATUS.REFUSE, R463. -/
def MP_AX_STATUS_REFUSE : Field := ⟨16, 3⟩
/-- MP_AX_EVENT.MOVE_DONE, R464. -/
def MP_AX_EVENT_MOVE_DONE : Field := ⟨0, 1⟩
/-- MP_AX_EVENT.MOVE_REFUSED, R464. -/
def MP_AX_EVENT_MOVE_REFUSED : Field := ⟨1, 1⟩
/-- MP_AX_EVENT.ACCEL_DEFERRED, R464. -/
def MP_AX_EVENT_ACCEL_DEFERRED : Field := ⟨2, 1⟩
/-- MP_AX_EVENT.PATH_HELD, R464. -/
def MP_AX_EVENT_PATH_HELD : Field := ⟨3, 1⟩
/-- MP_AX_EVENT.LIMIT_STOP, R464. -/
def MP_AX_EVENT_LIMIT_STOP : Field := ⟨4, 1⟩
/-- MP_AX_EVENT.HOME_DONE, R464. -/
def MP_AX_EVENT_HOME_DONE : Field := ⟨5, 1⟩
/-- MP_AX_EVENT.HOME_FAULT, R464. -/
def MP_AX_EVENT_HOME_FAULT : Field := ⟨6, 1⟩
/-- MP_AX_EVENT.AUX_LATE, R464. -/
def MP_AX_EVENT_AUX_LATE : Field := ⟨7, 1⟩
/-- MP_AX_INPUT_CFG.QUAL_US, R465. -/
def MP_AX_INPUT_CFG_QUAL_US : Field := ⟨0, 14⟩
/-- MP_AX_INPUT_CFG.POS_LOW, R465. -/
def MP_AX_INPUT_CFG_POS_LOW : Field := ⟨16, 1⟩
/-- MP_AX_INPUT_CFG.NEG_LOW, R465. -/
def MP_AX_INPUT_CFG_NEG_LOW : Field := ⟨17, 1⟩
/-- MP_AX_INPUT_CFG.HOME_LOW, R465. -/
def MP_AX_INPUT_CFG_HOME_LOW : Field := ⟨18, 1⟩
/-- MP_AX_INPUTS.RAW, R465. -/
def MP_AX_INPUTS_RAW : Field := ⟨0, 3⟩
/-- MP_AX_INPUTS.QUAL, R465. -/
def MP_AX_INPUTS_QUAL : Field := ⟨4, 3⟩
/-- MP_AX_HOME_CFG.REF, R465. -/
def MP_AX_HOME_CFG_REF : Field := ⟨0, 2⟩
/-- MP_AX_HOME_CFG.DIR, R465. -/
def MP_AX_HOME_CFG_DIR : Field := ⟨2, 1⟩
/-- MP_AX_HOME_CFG.INDEX, R465. -/
def MP_AX_HOME_CFG_INDEX : Field := ⟨3, 1⟩
/-- MP_AX_HOME_CFG.LSET, R465. -/
def MP_AX_HOME_CFG_LSET : Field := ⟨4, 4⟩
/-- STP_CFG.STEP_W, R467. -/
def STP_CFG_STEP_W : Field := ⟨0, 8⟩
/-- STP_CFG.DIR_SETUP, R467. -/
def STP_CFG_DIR_SETUP : Field := ⟨8, 8⟩
/-- STP_CFG.MS_SETUP_US, R467. -/
def STP_CFG_MS_SETUP_US : Field := ⟨16, 8⟩
/-- STP_CFG.HYST_PCT, R467. -/
def STP_CFG_HYST_PCT : Field := ⟨24, 5⟩
/-- STP_CFG.STEP_INV, R467. -/
def STP_CFG_STEP_INV : Field := ⟨29, 1⟩
/-- STP_CFG.EN_INV, R467. -/
def STP_CFG_EN_INV : Field := ⟨30, 1⟩
/-- STP_CFG.DIR_INV, R467. -/
def STP_CFG_DIR_INV : Field := ⟨31, 1⟩
/-- STP_STATUS.CODE, R467. -/
def STP_STATUS_CODE : Field := ⟨0, 3⟩
/-- STP_STATUS.BAND, R467. -/
def STP_STATUS_BAND : Field := ⟨4, 3⟩
/-- STP_STATUS.ALIGN_WAIT, R467. -/
def STP_STATUS_ALIGN_WAIT : Field := ⟨7, 1⟩
/-- STP_STATUS.EN, R467. -/
def STP_STATUS_EN : Field := ⟨8, 1⟩
/-- STP_STATUS.MS_SETTLING, R467. -/
def STP_STATUS_MS_SETTLING : Field := ⟨9, 1⟩
/-- STP_EVENT.BAND_CHANGE, R467. -/
def STP_EVENT_BAND_CHANGE : Field := ⟨0, 1⟩
/-- STP_EVENT.STEP_DELAY, R467. -/
def STP_EVENT_STEP_DELAY : Field := ⟨1, 1⟩
/-- STP_EVENT.RATE_LIMIT, R467. -/
def STP_EVENT_RATE_LIMIT : Field := ⟨2, 1⟩
/-- FB_AX_CFG.SRC, R493. -/
def FB_AX_CFG_SRC : Field := ⟨0, 2⟩
/-- FB_AX_CFG.INV, R493. -/
def FB_AX_CFG_INV : Field := ⟨2, 1⟩
/-- FB_AX_CFG.Z_EN, R493. -/
def FB_AX_CFG_Z_EN : Field := ⟨3, 1⟩
/-- FB_AX_CFG.Z_LOW, R493. -/
def FB_AX_CFG_Z_LOW : Field := ⟨4, 1⟩
/-- FB_AX_CFG.Z_GATE, R493. -/
def FB_AX_CFG_Z_GATE : Field := ⟨5, 1⟩
/-- FB_AX_CFG.IDX_CORR, R493. -/
def FB_AX_CFG_IDX_CORR : Field := ⟨6, 1⟩
/-- FB_AX_CFG.STALL_EN, R493. -/
def FB_AX_CFG_STALL_EN : Field := ⟨7, 1⟩
/-- FB_AX_CFG.IDX_TOL, R493. -/
def FB_AX_CFG_IDX_TOL : Field := ⟨8, 8⟩
/-- FB_AX_STATUS.STATE, R493. -/
def FB_AX_STATUS_STATE : Field := ⟨0, 2⟩
/-- FB_AX_STATUS.CONV, R493. -/
def FB_AX_STATUS_CONV : Field := ⟨2, 1⟩
/-- FB_AX_STATUS.DIRN, R493. -/
def FB_AX_STATUS_DIRN : Field := ⟨3, 1⟩
/-- FB_AX_STATUS.IDX_LEARNED, R493. -/
def FB_AX_STATUS_IDX_LEARNED : Field := ⟨4, 1⟩
/-- FB_AX_STATUS.DEFERRED, R493. -/
def FB_AX_STATUS_DEFERRED : Field := ⟨5, 1⟩
/-- FB_AX_STATUS.CAUSE, R493. -/
def FB_AX_STATUS_CAUSE : Field := ⟨8, 3⟩
/-- FB_AX_STATUS.WIRE, R493. -/
def FB_AX_STATUS_WIRE : Field := ⟨12, 3⟩
/-- FB_AX_EVENT.FAULT, R493. -/
def FB_AX_EVENT_FAULT : Field := ⟨0, 1⟩
/-- FB_AX_EVENT.OVERSPEED, R493. -/
def FB_AX_EVENT_OVERSPEED : Field := ⟨1, 1⟩
/-- FB_AX_EVENT.INDEX_MISMATCH, R493. -/
def FB_AX_EVENT_INDEX_MISMATCH : Field := ⟨2, 1⟩
/-- FB_AX_EVENT.INDEX_CORRECTED, R493. -/
def FB_AX_EVENT_INDEX_CORRECTED : Field := ⟨3, 1⟩
/-- FB_AX_EVENT.INDEX_DEFERRED, R493. -/
def FB_AX_EVENT_INDEX_DEFERRED : Field := ⟨4, 1⟩
/-- FB_AX_EVENT.REREF, R493. -/
def FB_AX_EVENT_REREF : Field := ⟨5, 1⟩
/-- FB_AX_EVENT.CONV_SWITCH, R493. -/
def FB_AX_EVENT_CONV_SWITCH : Field := ⟨6, 1⟩
/-- FB_AX_EVENT.SWAP_REFUSED, R493. -/
def FB_AX_EVENT_SWAP_REFUSED : Field := ⟨7, 1⟩
/-- FB_AX_EVENT.STALL, R493. -/
def FB_AX_EVENT_STALL : Field := ⟨8, 1⟩
/-- FB_AX_AN_CFG.AMP_LO, R493. -/
def FB_AX_AN_CFG_AMP_LO : Field := ⟨0, 8⟩
/-- FB_AX_AN_CFG.AMP_HI, R493. -/
def FB_AX_AN_CFG_AMP_HI : Field := ⟨8, 8⟩
/-- FB_AX_AN_CFG.CM_LO, R493. -/
def FB_AX_AN_CFG_CM_LO : Field := ⟨16, 8⟩
/-- FB_AX_AN_CFG.CM_HI, R493. -/
def FB_AX_AN_CFG_CM_HI : Field := ⟨24, 8⟩
/-- FB_AX_AN_STATUS.AMP, R493. -/
def FB_AX_AN_STATUS_AMP : Field := ⟨0, 8⟩
/-- FB_AX_AN_STATUS.CM_MIN, R493. -/
def FB_AX_AN_STATUS_CM_MIN : Field := ⟨8, 8⟩
/-- FB_AX_AN_STATUS.CM_MAX, R493. -/
def FB_AX_AN_STATUS_CM_MAX : Field := ⟨16, 8⟩
/-- FB_AX_AN_STATUS.ALT_READY, R493. -/
def FB_AX_AN_STATUS_ALT_READY : Field := ⟨24, 1⟩
/-- FB_CMP_CFG.AXIS, R494. -/
def FB_CMP_CFG_AXIS : Field := ⟨0, 3⟩
/-- FB_CMP_CFG.DIR, R494. -/
def FB_CMP_CFG_DIR : Field := ⟨3, 2⟩
/-- FB_CMP_CFG.LATE_FIRE, R494. -/
def FB_CMP_CFG_LATE_FIRE : Field := ⟨5, 1⟩
/-- FB_CMP_CFG.REPEAT, R494. -/
def FB_CMP_CFG_REPEAT : Field := ⟨6, 1⟩
/-- FB_CMP_CFG.PIN_EN, R494. -/
def FB_CMP_CFG_PIN_EN : Field := ⟨7, 1⟩
/-- FB_CMP_CFG.PIN, R494. -/
def FB_CMP_CFG_PIN : Field := ⟨8, 4⟩
/-- FB_CMP_CFG.PULSE_W, R494. -/
def FB_CMP_CFG_PULSE_W : Field := ⟨16, 8⟩
/-- FB_CMP_CTRL.OP, R494. -/
def FB_CMP_CTRL_OP : Field := ⟨0, 2⟩
/-- FB_CMP_STATUS.STATE, R494. -/
def FB_CMP_STATUS_STATE : Field := ⟨0, 2⟩
/-- FB_CMP_STATUS.BEHIND, R494. -/
def FB_CMP_STATUS_BEHIND : Field := ⟨2, 1⟩
/-- FB_CMP_STATUS.LATE, R494. -/
def FB_CMP_STATUS_LATE : Field := ⟨3, 1⟩
/-- SV_AX_CFG.OUT_LIM, R496. -/
def SV_AX_CFG_OUT_LIM : Field := ⟨0, 20⟩
/-- SV_AX_CFG.FERR_N, R496. -/
def SV_AX_CFG_FERR_N : Field := ⟨24, 4⟩
/-- SV_AX_CFG.INVERT, R496. -/
def SV_AX_CFG_INVERT : Field := ⟨28, 1⟩
/-- SV_AX_STATUS.STATE, R496. -/
def SV_AX_STATUS_STATE : Field := ⟨0, 2⟩
/-- SV_AX_STATUS.SAT, R496. -/
def SV_AX_STATUS_SAT : Field := ⟨2, 1⟩
/-- SV_AX_STATUS.INJ, R496. -/
def SV_AX_STATUS_INJ : Field := ⟨3, 1⟩
/-- SV_AX_STATUS.FCAUSE, R496. -/
def SV_AX_STATUS_FCAUSE : Field := ⟨4, 2⟩
/-- SV_AX_EVENT.FOLLOW, R496. -/
def SV_AX_EVENT_FOLLOW : Field := ⟨0, 1⟩
/-- SV_AX_EVENT.SAT, R496. -/
def SV_AX_EVENT_SAT : Field := ⟨1, 1⟩
/-- SV_AX_EVENT.INJ_ABORT, R496. -/
def SV_AX_EVENT_INJ_ABORT : Field := ⟨2, 1⟩
/-- SV_AX_EVENT.CAP_DONE, R496. -/
def SV_AX_EVENT_CAP_DONE : Field := ⟨3, 1⟩
/-- SV_AX_INJ_CFG.SIGNAL, R496. -/
def SV_AX_INJ_CFG_SIGNAL : Field := ⟨0, 2⟩
/-- SV_AX_INJ_CFG.POINT, R496. -/
def SV_AX_INJ_CFG_POINT : Field := ⟨2, 1⟩
/-- SV_AX_INJ_CTRL.OP, R496. -/
def SV_AX_INJ_CTRL_OP : Field := ⟨0, 2⟩
/-- SV_CAP_CFG.AXIS, R496. -/
def SV_CAP_CFG_AXIS : Field := ⟨0, 1⟩
/-- SV_CAP_CFG.DEC, R496. -/
def SV_CAP_CFG_DEC : Field := ⟨8, 8⟩
/-- SV_CAP_CTRL.OP, R496. -/
def SV_CAP_CTRL_OP : Field := ⟨0, 2⟩
/-- SV_CAP_STATUS.RECORDS, R496. -/
def SV_CAP_STATUS_RECORDS : Field := ⟨0, 13⟩
/-- SV_CAP_STATUS.RUNNING, R496. -/
def SV_CAP_STATUS_RUNNING : Field := ⟨13, 1⟩
/-- SV_CAP_STATUS.DONE, R496. -/
def SV_CAP_STATUS_DONE : Field := ⟨14, 1⟩
/-- DC_STATUS.TRAINED, R519. -/
def DC_STATUS_TRAINED : Field := ⟨0, 16⟩
/-- DC_STATUS.ALL_TRAINED, R519. -/
def DC_STATUS_ALL_TRAINED : Field := ⟨16, 1⟩
/-- DC_STATUS.TRAIN_FAIL, R519. -/
def DC_STATUS_TRAIN_FAIL : Field := ⟨17, 1⟩
/-- DC_RH_CFG.THRESH, R519. -/
def DC_RH_CFG_THRESH : Field := ⟨0, 16⟩
/-- DC_RH_CFG.WINDOW_MS, R519. -/
def DC_RH_CFG_WINDOW_MS : Field := ⟨16, 8⟩
/-- DC_RH_CFG.GAP_US, R519. -/
def DC_RH_CFG_GAP_US : Field := ⟨24, 8⟩
/-- DC_EVENT.RH_TRIGGER, R519. -/
def DC_EVENT_RH_TRIGGER : Field := ⟨0, 1⟩
/-- DC_EVENT.TRAIN_FAIL, R519. -/
def DC_EVENT_TRAIN_FAIL : Field := ⟨1, 1⟩
/-- DC_THROTTLED.REQ, R519. -/
def DC_THROTTLED_REQ : Field := ⟨0, 16⟩
/-- DC_LAST_RH.CHANNEL, R519. -/
def DC_LAST_RH_CHANNEL : Field := ⟨0, 4⟩
/-- DC_LAST_RH.BANK, R519. -/
def DC_LAST_RH_BANK : Field := ⟨4, 4⟩
/-- DC_LAST_RH.REQ, R519. -/
def DC_LAST_RH_REQ : Field := ⟨8, 4⟩
/-- DC_LAST_RH.ROW, R519. -/
def DC_LAST_RH_ROW : Field := ⟨12, 17⟩
/-- DC_MAP_SEL.MASK, R519. -/
def DC_MAP_SEL_MASK : Field := ⟨0, 19⟩
/-- MI_CFG.SCRUB_H, R521. -/
def MI_CFG_SCRUB_H : Field := ⟨0, 5⟩
/-- MI_CFG.AUTO_RETIRE, R521. -/
def MI_CFG_AUTO_RETIRE : Field := ⟨8, 1⟩
/-- MI_CFG.UNCORR_RETIRE, R521. -/
def MI_CFG_UNCORR_RETIRE : Field := ⟨9, 1⟩
/-- MI_CFG.CORR_N, R521. -/
def MI_CFG_CORR_N : Field := ⟨12, 4⟩
/-- MI_CFG.CORR_WIN_H, R521. -/
def MI_CFG_CORR_WIN_H : Field := ⟨16, 8⟩
/-- MI_STATUS.INIT_REGIONS, R521. -/
def MI_STATUS_INIT_REGIONS : Field := ⟨0, 6⟩
/-- MI_STATUS.SPARE_INIT, R521. -/
def MI_STATUS_SPARE_INIT : Field := ⟨6, 1⟩
/-- MI_STATUS.COPY_BUSY, R521. -/
def MI_STATUS_COPY_BUSY : Field := ⟨7, 1⟩
/-- MI_STATUS.REMAP_USED, R521. -/
def MI_STATUS_REMAP_USED : Field := ⟨8, 13⟩
/-- MI_EVENT.CORR, R521. -/
def MI_EVENT_CORR : Field := ⟨0, 1⟩
/-- MI_EVENT.UNCORR, R521. -/
def MI_EVENT_UNCORR : Field := ⟨1, 1⟩
/-- MI_EVENT.POISON_PROPAGATED, R521. -/
def MI_EVENT_POISON_PROPAGATED : Field := ⟨2, 1⟩
/-- MI_EVENT.PAGE_RETIRED, R521. -/
def MI_EVENT_PAGE_RETIRED : Field := ⟨3, 1⟩
/-- MI_EVENT.REMAP_FULL, R521. -/
def MI_EVENT_REMAP_FULL : Field := ⟨4, 1⟩
/-- MI_EVENT.BANK_PENDING, R521. -/
def MI_EVENT_BANK_PENDING : Field := ⟨5, 1⟩
/-- MI_EVENT.FLIP_DONE, R521. -/
def MI_EVENT_FLIP_DONE : Field := ⟨6, 1⟩
/-- MI_EVENT.SRAM_CORR, R521. -/
def MI_EVENT_SRAM_CORR : Field := ⟨7, 1⟩
/-- MI_EVENT.SRAM_UNCORR, R521. -/
def MI_EVENT_SRAM_UNCORR : Field := ⟨8, 1⟩
/-- MI_EVENT.SCRUB_PASS, R521. -/
def MI_EVENT_SCRUB_PASS : Field := ⟨9, 1⟩
/-- MI_LAST_INFO.SYNDROME, R521. -/
def MI_LAST_INFO_SYNDROME : Field := ⟨0, 8⟩
/-- MI_LAST_INFO.KIND, R521. -/
def MI_LAST_INFO_KIND : Field := ⟨8, 2⟩
/-- MI_LAST_INFO.REQ, R521. -/
def MI_LAST_INFO_REQ : Field := ⟨12, 4⟩
/-- MI_LAST_INFO.CHANNEL, R521. -/
def MI_LAST_INFO_CHANNEL : Field := ⟨16, 4⟩
/-- MI_LAST_INFO.BANK, R521. -/
def MI_LAST_INFO_BANK : Field := ⟨20, 4⟩
/-- MI_REMAP_CTRL.PAGE, R521. -/
def MI_REMAP_CTRL_PAGE : Field := ⟨0, 24⟩
/-- MI_REMAP_CTRL.OP, R521. -/
def MI_REMAP_CTRL_OP : Field := ⟨24, 2⟩
/-- MI_BANK_RETIRE.CHANNEL, R521. -/
def MI_BANK_RETIRE_CHANNEL : Field := ⟨0, 4⟩
/-- MI_BANK_RETIRE.BANK, R521. -/
def MI_BANK_RETIRE_BANK : Field := ⟨4, 4⟩
/-- MI_BANK_RETIRE.OP, R521. -/
def MI_BANK_RETIRE_OP : Field := ⟨8, 2⟩
/-- MI_BANK_STATUS.RETIRED, R521. -/
def MI_BANK_STATUS_RETIRED : Field := ⟨0, 2⟩
/-- MI_BANK_STATUS.PENDING, R521. -/
def MI_BANK_STATUS_PENDING : Field := ⟨2, 2⟩
/-- MI_FLIP_CTRL.TARGET, R521. -/
def MI_FLIP_CTRL_TARGET : Field := ⟨0, 3⟩
/-- MI_FLIP_CTRL.UNIT, R521. -/
def MI_FLIP_CTRL_UNIT : Field := ⟨3, 6⟩
/-- MI_FLIP_CTRL.ARM, R521. -/
def MI_FLIP_CTRL_ARM : Field := ⟨9, 1⟩
/-- MI_SRAM_ROWS.PENDING, R521. -/
def MI_SRAM_ROWS_PENDING : Field := ⟨0, 16⟩
/-- MI_SRAM_ROWS.USED, R521. -/
def MI_SRAM_ROWS_USED : Field := ⟨16, 16⟩
/-- ING_CFG.DESC_MIB, R545. -/
def ING_CFG_DESC_MIB : Field := ⟨0, 7⟩
/-- ING_CFG.PARK_EVT, R545. -/
def ING_CFG_PARK_EVT : Field := ⟨8, 1⟩
/-- ING_STATUS.RUN_CH, R545. -/
def ING_STATUS_RUN_CH : Field := ⟨0, 3⟩
/-- ING_STATUS.RUN_VALID, R545. -/
def ING_STATUS_RUN_VALID : Field := ⟨3, 1⟩
/-- ING_STATUS.LANES, R545. -/
def ING_STATUS_LANES : Field := ⟨4, 8⟩
/-- ING_STATUS.READY, R545. -/
def ING_STATUS_READY : Field := ⟨12, 1⟩
/-- ING_EVENT.HALT, R545. -/
def ING_EVENT_HALT : Field := ⟨0, 1⟩
/-- ING_EVENT.FREEZE, R545. -/
def ING_EVENT_FREEZE : Field := ⟨1, 1⟩
/-- ING_EVENT.PARK, R545. -/
def ING_EVENT_PARK : Field := ⟨2, 1⟩
/-- ING_EVENT.DISCARD, R545. -/
def ING_EVENT_DISCARD : Field := ⟨3, 1⟩
/-- ING_EVENT.DESC_RANGE, R545. -/
def ING_EVENT_DESC_RANGE : Field := ⟨4, 1⟩
/-- ING_EVENT.SPURIOUS, R545. -/
def ING_EVENT_SPURIOUS : Field := ⟨5, 1⟩
/-- ING_EVENT.INIT_WAIT, R545. -/
def ING_EVENT_INIT_WAIT : Field := ⟨6, 1⟩
/-- ING_CH_STATUS.STATE, R545. -/
def ING_CH_STATUS_STATE : Field := ⟨0, 3⟩
/-- ING_CH_STATUS.DB_PEND, R545. -/
def ING_CH_STATUS_DB_PEND : Field := ⟨3, 1⟩
/-- ING_CH_STATUS.INIT_WAIT, R545. -/
def ING_CH_STATUS_INIT_WAIT : Field := ⟨4, 1⟩
/-- ING_CH_STATUS.DIR, R545. -/
def ING_CH_STATUS_DIR : Field := ⟨5, 1⟩
/-- ING_CH_STATUS.CAUSE, R545. -/
def ING_CH_STATUS_CAUSE : Field := ⟨8, 4⟩
/-- ING_CH_STATUS.TAG, R545. -/
def ING_CH_STATUS_TAG : Field := ⟨16, 16⟩
/-- ING_CH_CTRL.OP, R545. -/
def ING_CH_CTRL_OP : Field := ⟨0, 2⟩
/-- ING_CH_CTRL.DOORBELL, R545. -/
def ING_CH_CTRL_DOORBELL : Field := ⟨4, 1⟩
/-- CRC_U_CFG.SNOOP, R547. -/
def CRC_U_CFG_SNOOP : Field := ⟨0, 3⟩
/-- CRC_U_CFG.POLY, R547. -/
def CRC_U_CFG_POLY : Field := ⟨4, 2⟩
/-- CRC_U_CFG.MODE, R547. -/
def CRC_U_CFG_MODE : Field := ⟨6, 1⟩
/-- CRC_U_CFG.FOLD, R547. -/
def CRC_U_CFG_FOLD : Field := ⟨8, 2⟩
/-- CRC_U_CFG.SEL, R547. -/
def CRC_U_CFG_SEL : Field := ⟨12, 3⟩
/-- CRC_U_CTRL.OP, R547. -/
def CRC_U_CTRL_OP : Field := ⟨0, 2⟩
/-- CRC_U_STATUS.ENABLED, R547. -/
def CRC_U_STATUS_ENABLED : Field := ⟨0, 1⟩
/-- CRC_U_STATUS.CLAIMED, R547. -/
def CRC_U_STATUS_CLAIMED : Field := ⟨1, 1⟩
/-- CRC_U_STATUS.LAST_FAIL, R547. -/
def CRC_U_STATUS_LAST_FAIL : Field := ⟨2, 1⟩
/-- CRC_EVENT.FAIL, R547. -/
def CRC_EVENT_FAIL : Field := ⟨0, 4⟩
/-- CMP_CFG.RESERVE_MIB, R568. -/
def CMP_CFG_RESERVE_MIB : Field := ⟨0, 12⟩
/-- CMP_CFG.VERIFY, R568. -/
def CMP_CFG_VERIFY : Field := ⟨12, 1⟩
/-- CMP_STATUS.FULL, R568. -/
def CMP_STATUS_FULL : Field := ⟨0, 1⟩
/-- CMP_STATUS.OPEN, R568. -/
def CMP_STATUS_OPEN : Field := ⟨1, 1⟩
/-- CMP_STATUS.FREE_GIB, R568. -/
def CMP_STATUS_FREE_GIB : Field := ⟨16, 16⟩
/-- CMP_EVENT.MISSING, R569. -/
def CMP_EVENT_MISSING : Field := ⟨0, 1⟩
/-- CMP_EVENT.FULL, R569. -/
def CMP_EVENT_FULL : Field := ⟨1, 1⟩
/-- CMP_EVENT.LATE_REPORT, R569. -/
def CMP_EVENT_LATE_REPORT : Field := ⟨2, 1⟩
/-- CMP_EVENT.AMEND, R569. -/
def CMP_EVENT_AMEND : Field := ⟨3, 1⟩
/-- CFG_STATUS.STATE, R594. -/
def CFG_STATUS_STATE : Field := ⟨0, 3⟩
/-- CFG_STATUS.SOURCE, R594. -/
def CFG_STATUS_SOURCE : Field := ⟨3, 1⟩
/-- CFG_STATUS.LOCKED, R594. -/
def CFG_STATUS_LOCKED : Field := ⟨4, 1⟩
/-- CFG_STATUS.SIGNED, R594. -/
def CFG_STATUS_SIGNED : Field := ⟨5, 1⟩
/-- CFG_STATUS.KEY_SET, R594. -/
def CFG_STATUS_KEY_SET : Field := ⟨6, 1⟩
/-- CFG_STATUS.HOST_LOCK, R594. -/
def CFG_STATUS_HOST_LOCK : Field := ⟨7, 1⟩
/-- CFG_STATUS.LAYOUT_DEFAULT, R594. -/
def CFG_STATUS_LAYOUT_DEFAULT : Field := ⟨8, 1⟩
/-- CFG_STATUS.STATE_EMPTY, R594. -/
def CFG_STATUS_STATE_EMPTY : Field := ⟨9, 1⟩
/-- CFG_CTRL.LOCK, R594. -/
def CFG_CTRL_LOCK : Field := ⟨0, 1⟩
/-- CFG_CTRL.RESTART, R594. -/
def CFG_CTRL_RESTART : Field := ⟨1, 1⟩
/-- CFG_CTRL.CODE, R594. -/
def CFG_CTRL_CODE : Field := ⟨8, 8⟩
/-- CFG_EVENT.GOLDEN_USED, R594. -/
def CFG_EVENT_GOLDEN_USED : Field := ⟨0, 1⟩
/-- CFG_EVENT.ENTRY_SKIP, R594. -/
def CFG_EVENT_ENTRY_SKIP : Field := ⟨1, 1⟩
/-- CFG_EVENT.SECT_SKIP, R594. -/
def CFG_EVENT_SECT_SKIP : Field := ⟨2, 1⟩
/-- CFG_EVENT.SERIAL_MISMATCH, R594. -/
def CFG_EVENT_SERIAL_MISMATCH : Field := ⟨3, 1⟩
/-- CFG_EVENT.UPD_DONE, R594. -/
def CFG_EVENT_UPD_DONE : Field := ⟨4, 1⟩
/-- CFG_EVENT.UPD_FAIL, R594. -/
def CFG_EVENT_UPD_FAIL : Field := ⟨5, 1⟩
/-- CFG_EVENT.HANDOVER_DONE, R594. -/
def CFG_EVENT_HANDOVER_DONE : Field := ⟨6, 1⟩
/-- CFG_FAIL.PRI_CAUSE, R594. -/
def CFG_FAIL_PRI_CAUSE : Field := ⟨0, 4⟩
/-- CFG_FAIL.PRI_SECT, R594. -/
def CFG_FAIL_PRI_SECT : Field := ⟨4, 6⟩
/-- CFG_FAIL.GOLD_CAUSE, R594. -/
def CFG_FAIL_GOLD_CAUSE : Field := ⟨16, 4⟩
/-- CFG_FAIL.GOLD_SECT, R594. -/
def CFG_FAIL_GOLD_SECT : Field := ⟨20, 6⟩
/-- CFG_STATE_INFO.RECORDS, R594. -/
def CFG_STATE_INFO_RECORDS : Field := ⟨0, 16⟩
/-- CFG_STATE_INFO.USED_PCT, R594. -/
def CFG_STATE_INFO_USED_PCT : Field := ⟨16, 7⟩
/-- CFG_STATE_INFO.HALF, R594. -/
def CFG_STATE_INFO_HALF : Field := ⟨23, 1⟩
/-- CFG_UPD_CTRL.OP, R594. -/
def CFG_UPD_CTRL_OP : Field := ⟨0, 3⟩
/-- CFG_UPD_CTRL.DEV, R594. -/
def CFG_UPD_CTRL_DEV : Field := ⟨3, 1⟩
/-- CFG_UPD_CTRL.CODE, R594. -/
def CFG_UPD_CTRL_CODE : Field := ⟨8, 8⟩
/-- CFG_UPD_STATUS.BUSY, R594. -/
def CFG_UPD_STATUS_BUSY : Field := ⟨0, 1⟩
/-- CFG_UPD_STATUS.LAST_OP, R594. -/
def CFG_UPD_STATUS_LAST_OP : Field := ⟨1, 3⟩
/-- CFG_UPD_STATUS.RESULT, R594. -/
def CFG_UPD_STATUS_RESULT : Field := ⟨4, 4⟩
/-- CFG_UPD_STATUS.CHECK_CAUSE, R594. -/
def CFG_UPD_STATUS_CHECK_CAUSE : Field := ⟨8, 4⟩
/-- CFG_UPD_STATUS.ROLES_MOVED, R594. -/
def CFG_UPD_STATUS_ROLES_MOVED : Field := ⟨12, 4⟩
/-- CFG_UPD_STATUS.HANDOVER, R594. -/
def CFG_UPD_STATUS_HANDOVER : Field := ⟨16, 1⟩
/-- CFG_UPD_STATUS.PARTIAL, R594. -/
def CFG_UPD_STATUS_PARTIAL : Field := ⟨17, 1⟩
/-- CFG_OTP_CTRL.OP, R594. -/
def CFG_OTP_CTRL_OP : Field := ⟨0, 2⟩
/-- CFG_OTP_CTRL.CODE, R594. -/
def CFG_OTP_CTRL_CODE : Field := ⟨8, 8⟩
/-- CFG_OTP_STATUS.KEY_SET, R594. -/
def CFG_OTP_STATUS_KEY_SET : Field := ⟨0, 1⟩
/-- CFG_OTP_STATUS.BUSY, R594. -/
def CFG_OTP_STATUS_BUSY : Field := ⟨1, 1⟩
/-- CFG_OTP_STATUS.FAIL, R594. -/
def CFG_OTP_STATUS_FAIL : Field := ⟨2, 1⟩
/-- PWR_CFG.WAKE_STATE, R612. -/
def PWR_CFG_WAKE_STATE : Field := ⟨0, 3⟩
/-- PWR_CFG.AUTO_RUN, R612. -/
def PWR_CFG_AUTO_RUN : Field := ⟨3, 1⟩
/-- PWR_CFG.IDLE_AFTER_MS, R612. -/
def PWR_CFG_IDLE_AFTER_MS : Field := ⟨16, 16⟩
/-- PWR_CTRL.REQ, R612. -/
def PWR_CTRL_REQ : Field := ⟨0, 3⟩
/-- PWR_CTRL.GO, R612. -/
def PWR_CTRL_GO : Field := ⟨3, 1⟩
/-- PWR_CTRL.CODE, R612. -/
def PWR_CTRL_CODE : Field := ⟨8, 8⟩
/-- PWR_STATUS.CUR, R612. -/
def PWR_STATUS_CUR : Field := ⟨0, 3⟩
/-- PWR_STATUS.BUSY, R612. -/
def PWR_STATUS_BUSY : Field := ⟨3, 1⟩
/-- PWR_STATUS.TARGET, R612. -/
def PWR_STATUS_TARGET : Field := ⟨4, 3⟩
/-- PWR_STATUS.CAPTURE_WAIT, R612. -/
def PWR_STATUS_CAPTURE_WAIT : Field := ⟨7, 1⟩
/-- PWR_STATUS.PENDING, R612. -/
def PWR_STATUS_PENDING : Field := ⟨8, 3⟩
/-- PWR_STATUS.LOCKOUT, R612. -/
def PWR_STATUS_LOCKOUT : Field := ⟨11, 1⟩
/-- PWR_STATUS.REFUSE, R612. -/
def PWR_STATUS_REFUSE : Field := ⟨12, 4⟩
/-- PWR_EVENT.DONE, R612. -/
def PWR_EVENT_DONE : Field := ⟨0, 1⟩
/-- PWR_EVENT.REFUSED, R612. -/
def PWR_EVENT_REFUSED : Field := ⟨1, 1⟩
/-- PWR_EVENT.OVERWRITTEN, R612. -/
def PWR_EVENT_OVERWRITTEN : Field := ⟨2, 1⟩
/-- PWR_EVENT.VREQ_TIMEOUT, R612. -/
def PWR_EVENT_VREQ_TIMEOUT : Field := ⟨3, 1⟩
/-- PWR_EVENT.WAKE, R612. -/
def PWR_EVENT_WAKE : Field := ⟨4, 1⟩
/-- PWR_EVENT.WAKE_IGNORED, R612. -/
def PWR_EVENT_WAKE_IGNORED : Field := ⟨5, 1⟩
/-- PWR_EVENT.DEEP_RESTORE_FAIL, R612. -/
def PWR_EVENT_DEEP_RESTORE_FAIL : Field := ⟨6, 1⟩
/-- PWR_WAKE_CFG.PIN_EN, R612. -/
def PWR_WAKE_CFG_PIN_EN : Field := ⟨0, 2⟩
/-- PWR_WAKE_CFG.PIN_HIGH, R612. -/
def PWR_WAKE_CFG_PIN_HIGH : Field := ⟨2, 2⟩
/-- PWR_WAKE_CFG.QUAL_US, R612. -/
def PWR_WAKE_CFG_QUAL_US : Field := ⟨4, 8⟩
/-- PWR_WAKE_CFG.ING, R612. -/
def PWR_WAKE_CFG_ING : Field := ⟨12, 1⟩
/-- PWR_WAKE_CFG.FAB, R612. -/
def PWR_WAKE_CFG_FAB : Field := ⟨13, 4⟩
/-- PWR_WAKE_CFG.HP, R612. -/
def PWR_WAKE_CFG_HP : Field := ⟨17, 6⟩
/-- PWR_WAKE_CFG.MGT, R612. -/
def PWR_WAKE_CFG_MGT : Field := ⟨23, 1⟩
/-- PWR_WAKE_STATUS.SOURCE, R612. -/
def PWR_WAKE_STATUS_SOURCE : Field := ⟨0, 4⟩
/-- PWR_WAKE_STATUS.LANE, R612. -/
def PWR_WAKE_STATUS_LANE : Field := ⟨4, 6⟩
/-- PWR_HOLD.FIRE, R612. -/
def PWR_HOLD_FIRE : Field := ⟨0, 1⟩
/-- PWR_HOLD.AOUT, R612. -/
def PWR_HOLD_AOUT : Field := ⟨1, 2⟩
/-- PWR_HOLD.STP, R612. -/
def PWR_HOLD_STP : Field := ⟨3, 4⟩
/-- PWR_HOLD.GPIO, R612. -/
def PWR_HOLD_GPIO : Field := ⟨7, 1⟩
/-- PWR_VCORE.ACK_MV, R612. -/
def PWR_VCORE_ACK_MV : Field := ⟨0, 12⟩
/-- PWR_VCORE.REQ_MV, R612. -/
def PWR_VCORE_REQ_MV : Field := ⟨16, 12⟩
/-- HM_CFG.T_HYST, R635. -/
def HM_CFG_T_HYST : Field := ⟨0, 8⟩
/-- HM_CFG.V_HYST, R635. -/
def HM_CFG_V_HYST : Field := ⟨8, 8⟩
/-- HM_CFG.RO_HYST, R635. -/
def HM_CFG_RO_HYST : Field := ⟨16, 8⟩
/-- HM_STATUS.WORST, R635. -/
def HM_STATUS_WORST : Field := ⟨0, 2⟩
/-- HM_STATUS.THROTTLE, R635. -/
def HM_STATUS_THROTTLE : Field := ⟨2, 1⟩
/-- HM_STATUS.SWATH_HOLD, R635. -/
def HM_STATUS_SWATH_HOLD : Field := ⟨3, 1⟩
/-- HM_STATUS.WORST_CH, R635. -/
def HM_STATUS_WORST_CH : Field := ⟨8, 6⟩
/-- HM_STATUS.STALE_T, R635. -/
def HM_STATUS_STALE_T : Field := ⟨16, 1⟩
/-- HM_STATUS.STALE_V, R635. -/
def HM_STATUS_STALE_V : Field := ⟨17, 1⟩
/-- HM_EVENT.WARN, R635. -/
def HM_EVENT_WARN : Field := ⟨0, 1⟩
/-- HM_EVENT.CRIT, R635. -/
def HM_EVENT_CRIT : Field := ⟨1, 1⟩
/-- HM_EVENT.SHUT, R635. -/
def HM_EVENT_SHUT : Field := ⟨2, 1⟩
/-- HM_EVENT.THROTTLE_ON, R635. -/
def HM_EVENT_THROTTLE_ON : Field := ⟨3, 1⟩
/-- HM_EVENT.THROTTLE_OFF, R635. -/
def HM_EVENT_THROTTLE_OFF : Field := ⟨4, 1⟩
/-- HM_EVENT.CLEAR, R635. -/
def HM_EVENT_CLEAR : Field := ⟨5, 1⟩
/-- HM_CH_STATUS.LEVEL, R636. -/
def HM_CH_STATUS_LEVEL : Field := ⟨0, 2⟩
/-- HM_CH_STATUS.SIDE, R636. -/
def HM_CH_STATUS_SIDE : Field := ⟨2, 1⟩
/-- HM_CH_STATUS.STALE, R636. -/
def HM_CH_STATUS_STALE : Field := ⟨3, 1⟩
/-- HM_CH_STATUS.VALID, R636. -/
def HM_CH_STATUS_VALID : Field := ⟨4, 1⟩
/-- HM_CH_STATUS.CLASS, R636. -/
def HM_CH_STATUS_CLASS : Field := ⟨5, 2⟩
/-- HM_CH_CFG.EN, R636. -/
def HM_CH_CFG_EN : Field := ⟨0, 1⟩
/-- HM_CH_CFG.COMPARE, R636. -/
def HM_CH_CFG_COMPARE : Field := ⟨1, 1⟩
/-- HM_CH_CFG.WARN_ACT, R636. -/
def HM_CH_CFG_WARN_ACT : Field := ⟨2, 2⟩
/-- HM_CH_CFG.CRIT_ACT, R636. -/
def HM_CH_CFG_CRIT_ACT : Field := ⟨4, 2⟩
/-- HM_CH_CFG.SHUT_ACT, R636. -/
def HM_CH_CFG_SHUT_ACT : Field := ⟨6, 2⟩
/-- HM_SHUT_CAUSE.CHANNEL, R636. -/
def HM_SHUT_CAUSE_CHANNEL : Field := ⟨0, 6⟩
/-- HM_SHUT_CAUSE.SIDE, R636. -/
def HM_SHUT_CAUSE_SIDE : Field := ⟨6, 1⟩
/-- HM_SHUT_CAUSE.VALID, R636. -/
def HM_SHUT_CAUSE_VALID : Field := ⟨7, 1⟩
/-- HM_SHUT_CAUSE.VALUE, R636. -/
def HM_SHUT_CAUSE_VALUE : Field := ⟨8, 16⟩
/-- CAL_CFG.SENS_S, R638. -/
def CAL_CFG_SENS_S : Field := ⟨0, 8⟩
/-- CAL_CFG.CONV_S, R638. -/
def CAL_CFG_CONV_S : Field := ⟨8, 12⟩
/-- CAL_CFG.CONV_DT, R638. -/
def CAL_CFG_CONV_DT : Field := ⟨20, 8⟩
/-- CAL_CTRL.TARGET, R638. -/
def CAL_CTRL_TARGET : Field := ⟨0, 7⟩
/-- CAL_CTRL.OP, R638. -/
def CAL_CTRL_OP : Field := ⟨8, 3⟩
/-- CAL_CTRL.POINT, R638. -/
def CAL_CTRL_POINT : Field := ⟨12, 3⟩
/-- CAL_STATUS.SENS_BUSY, R638. -/
def CAL_STATUS_SENS_BUSY : Field := ⟨0, 1⟩
/-- CAL_STATUS.CONV_S_BUSY, R638. -/
def CAL_STATUS_CONV_S_BUSY : Field := ⟨1, 1⟩
/-- CAL_STATUS.CONV_C_BUSY, R638. -/
def CAL_STATUS_CONV_C_BUSY : Field := ⟨2, 1⟩
/-- CAL_STATUS.FIRST_DONE, R638. -/
def CAL_STATUS_FIRST_DONE : Field := ⟨3, 1⟩
/-- CAL_EVENT.ACCEPT, R638. -/
def CAL_EVENT_ACCEPT : Field := ⟨0, 1⟩
/-- CAL_EVENT.REJECT, R638. -/
def CAL_EVENT_REJECT : Field := ⟨1, 1⟩
/-- CAL_EVENT.FAIL, R638. -/
def CAL_EVENT_FAIL : Field := ⟨2, 1⟩
/-- CAL_EVENT.SWAP, R638. -/
def CAL_EVENT_SWAP : Field := ⟨3, 1⟩
/-- CAL_EVENT.SWAP_WAIT, R638. -/
def CAL_EVENT_SWAP_WAIT : Field := ⟨4, 1⟩
/-- CAL_EVENT.IMG_SKIP, R638. -/
def CAL_EVENT_IMG_SKIP : Field := ⟨5, 1⟩
/-- CAL_EVENT.APPLY, R638. -/
def CAL_EVENT_APPLY : Field := ⟨6, 1⟩
/-- CAL_TGT_STATUS.MODE, R638. -/
def CAL_TGT_STATUS_MODE : Field := ⟨0, 2⟩
/-- CAL_TGT_STATUS.FIXED_POINT, R638. -/
def CAL_TGT_STATUS_FIXED_POINT : Field := ⟨2, 3⟩
/-- CAL_TGT_STATUS.POINTS, R638. -/
def CAL_TGT_STATUS_POINTS : Field := ⟨5, 4⟩
/-- CAL_TGT_STATUS.BUSY, R638. -/
def CAL_TGT_STATUS_BUSY : Field := ⟨9, 1⟩
/-- CAL_TGT_STATUS.FAILS, R638. -/
def CAL_TGT_STATUS_FAILS : Field := ⟨10, 2⟩
/-- CAL_TGT_STATUS.CAL_FAIL, R638. -/
def CAL_TGT_STATUS_CAL_FAIL : Field := ⟨12, 1⟩
/-- CAL_TGT_STATUS.RAMP, R638. -/
def CAL_TGT_STATUS_RAMP : Field := ⟨13, 1⟩
/-- ERR_CFG.ALERT_CLASS, R665. -/
def ERR_CFG_ALERT_CLASS : Field := ⟨0, 3⟩
/-- ERR_CFG.AUTO_ACK_MAX, R665. -/
def ERR_CFG_AUTO_ACK_MAX : Field := ⟨4, 3⟩
/-- ERR_STATUS.OPEN, R665. -/
def ERR_STATUS_OPEN : Field := ⟨0, 9⟩
/-- ERR_STATUS.OPEN_CLASS, R665. -/
def ERR_STATUS_OPEN_CLASS : Field := ⟨9, 3⟩
/-- ERR_STATUS.FATAL, R665. -/
def ERR_STATUS_FATAL : Field := ⟨12, 1⟩
/-- ERR_STATUS.RING_FULL, R665. -/
def ERR_STATUS_RING_FULL : Field := ⟨13, 1⟩
/-- ERR_STATUS.ALERT, R665. -/
def ERR_STATUS_ALERT : Field := ⟨14, 1⟩
/-- ERR_STATUS.BG_PAUSED, R665. -/
def ERR_STATUS_BG_PAUSED : Field := ⟨15, 1⟩
/-- ERR_EVENT.RECORD, R665. -/
def ERR_EVENT_RECORD : Field := ⟨0, 1⟩
/-- ERR_EVENT.OVERFLOW, R665. -/
def ERR_EVENT_OVERFLOW : Field := ⟨1, 1⟩
/-- ERR_EVENT.COUNTED, R665. -/
def ERR_EVENT_COUNTED : Field := ⟨2, 1⟩
/-- ERR_EVENT.RING_FULL, R665. -/
def ERR_EVENT_RING_FULL : Field := ⟨3, 1⟩
/-- ERR_EVENT.FATAL, R665. -/
def ERR_EVENT_FATAL : Field := ⟨4, 1⟩
/-- ERR_EVENT.CORE_OUT, R665. -/
def ERR_EVENT_CORE_OUT : Field := ⟨5, 1⟩
/-- ERR_EVENT.CORE_BACK, R665. -/
def ERR_EVENT_CORE_BACK : Field := ⟨6, 1⟩
/-- ERR_CORE_CTRL.CORE, R665. -/
def ERR_CORE_CTRL_CORE : Field := ⟨0, 4⟩
/-- ERR_CORE_CTRL.CMD, R665. -/
def ERR_CORE_CTRL_CMD : Field := ⟨8, 2⟩
/-- ERR_CORE_STAT.STATE, R665. -/
def ERR_CORE_STAT_STATE : Field := ⟨0, 3⟩
/-- ERR_CORE_STAT.ROLE, R665. -/
def ERR_CORE_STAT_ROLE : Field := ⟨4, 4⟩
/-- ERR_CORE_STAT.ST_FAILS, R665. -/
def ERR_CORE_STAT_ST_FAILS : Field := ⟨8, 2⟩
/-- ERR_CORE_STAT.SHADOW_N, R665. -/
def ERR_CORE_STAT_SHADOW_N : Field := ⟨10, 5⟩
/-- ERR_CORE_STAT.CAUSE, R665. -/
def ERR_CORE_STAT_CAUSE : Field := ⟨15, 3⟩
/-- ACC_STATUS.INT_FROZEN, R667. -/
def ACC_STATUS_INT_FROZEN : Field := ⟨0, 5⟩
/-- ACC_STATUS.NODES_FROZEN, R667. -/
def ACC_STATUS_NODES_FROZEN : Field := ⟨16, 11⟩
/-- ACC_EVENT.FLAG, R667. -/
def ACC_EVENT_FLAG : Field := ⟨0, 1⟩
/-- ACC_EVENT.VIOLATION, R667. -/
def ACC_EVENT_VIOLATION : Field := ⟨1, 1⟩
/-- ACC_EVENT.UNFREEZE, R667. -/
def ACC_EVENT_UNFREEZE : Field := ⟨2, 1⟩
/-- ACC_EVENT.UNFREEZE_REFUSED, R667. -/
def ACC_EVENT_UNFREEZE_REFUSED : Field := ⟨3, 1⟩
/-- ACC_FLAG_INFO.PATH, R667. -/
def ACC_FLAG_INFO_PATH : Field := ⟨0, 3⟩
/-- ACC_FLAG_INFO.REASON, R667. -/
def ACC_FLAG_INFO_REASON : Field := ⟨8, 8⟩
/-- ACC_FLAG_INFO.NODE, R667. -/
def ACC_FLAG_INFO_NODE : Field := ⟨16, 10⟩
/-- ACC_FROZEN_INT.MASTER, R667. -/
def ACC_FROZEN_INT_MASTER : Field := ⟨0, 24⟩
/-- ACC_UNFREEZE.INDEX, R667. -/
def ACC_UNFREEZE_INDEX : Field := ⟨0, 10⟩
/-- ACC_UNFREEZE.KIND, R667. -/
def ACC_UNFREEZE_KIND : Field := ⟨12, 1⟩
/-- ACC_VIOL_INFO.INDEX, R667. -/
def ACC_VIOL_INFO_INDEX : Field := ⟨0, 10⟩
/-- ACC_VIOL_INFO.KIND, R667. -/
def ACC_VIOL_INFO_KIND : Field := ⟨10, 1⟩
/-- ACC_VIOL_INFO.DIR, R667. -/
def ACC_VIOL_INFO_DIR : Field := ⟨11, 1⟩
/-- ACC_VIOL_INFO.CLASS, R667. -/
def ACC_VIOL_INFO_CLASS : Field := ⟨16, 4⟩
/-- GLB_STATUS.CFG_STATE, R682. -/
def GLB_STATUS_CFG_STATE : Field := ⟨0, 3⟩
/-- GLB_STATUS.PWR_CUR, R682. -/
def GLB_STATUS_PWR_CUR : Field := ⟨4, 3⟩
/-- GLB_STATUS.FATAL, R682. -/
def GLB_STATUS_FATAL : Field := ⟨7, 1⟩
/-- GLB_STATUS.ALERT, R682. -/
def GLB_STATUS_ALERT : Field := ⟨8, 1⟩
/-- GLB_STATUS.TQ, R682. -/
def GLB_STATUS_TQ : Field := ⟨9, 3⟩
/-- GLB_GPIO_DIR.PINS, R682. -/
def GLB_GPIO_DIR_PINS : Field := ⟨0, 16⟩
/-- GLB_GPIO_OUT.PINS, R682. -/
def GLB_GPIO_OUT_PINS : Field := ⟨0, 16⟩
/-- GLB_LED.MODE, R682. -/
def GLB_LED_MODE : Field := ⟨0, 6⟩
/-- MGT_CFG.AUTH_REQ, R684. -/
def MGT_CFG_AUTH_REQ : Field := ⟨0, 1⟩
/-- MGT_CFG.SPI_RO, R684. -/
def MGT_CFG_SPI_RO : Field := ⟨1, 1⟩
/-- MGT_CFG.TUN_EN, R684. -/
def MGT_CFG_TUN_EN : Field := ⟨2, 1⟩
/-- MGT_STATUS.LINK, R684. -/
def MGT_STATUS_LINK : Field := ⟨0, 1⟩
/-- MGT_STATUS.READY, R684. -/
def MGT_STATUS_READY : Field := ⟨1, 1⟩
/-- MGT_STATUS.KEY0_SET, R684. -/
def MGT_STATUS_KEY0_SET : Field := ⟨2, 1⟩
/-- MGT_STATUS.KEY1_SET, R684. -/
def MGT_STATUS_KEY1_SET : Field := ⟨3, 1⟩
/-- MGT_STATUS.SPI_ONLY, R684. -/
def MGT_STATUS_SPI_ONLY : Field := ⟨4, 1⟩
/-- MGT_EVENT.AUTH_FAIL, R684. -/
def MGT_EVENT_AUTH_FAIL : Field := ⟨0, 1⟩
/-- MGT_EVENT.SEQ_OLD, R684. -/
def MGT_EVENT_SEQ_OLD : Field := ⟨1, 1⟩
/-- MGT_EVENT.SESSION, R684. -/
def MGT_EVENT_SESSION : Field := ⟨2, 1⟩
/-- MGT_EVENT.DROP, R684. -/
def MGT_EVENT_DROP : Field := ⟨3, 1⟩
/-- MGT_EVENT.MALFORMED, R684. -/
def MGT_EVENT_MALFORMED : Field := ⟨4, 1⟩
/-- MGT_EVENT.KEY_CHANGE, R684. -/
def MGT_EVENT_KEY_CHANGE : Field := ⟨5, 1⟩

end Sys2Proof.Fld

namespace Sys2Proof.RegMap

/-- Access codes of R12. -/
inductive Access where
  | ro | rw | w1c | w1s | wo | roh | rwl
  deriving DecidableEq, Repr

/-- One register array: `count` words from `base`, `stride` bytes apart. `rw`, `rwl` and `w1c` are
the bits a write stores (R12), the bits it stores only before the configuration lock, and the bits
a written 1 clears. `reset` gives the reset word of the array's element. -/
structure RegDesc where
  base : Nat
  count : Nat
  stride : Nat
  access : Access
  rw : Nat
  rwl : Nat
  w1c : Nat
  reset : Nat → Nat

/-- GLB_SERIAL_LO of the modelled unit (R5, R7: unique and never zero). DESIGN CHOICE, log entry 4. -/
def serialLo : Nat := 1
/-- GLB_SERIAL_HI of the modelled unit. DESIGN CHOICE, log entry 4. -/
def serialHi : Nat := 0
/-- MGT_SESSION before the first start draws it (R673). DESIGN CHOICE, log entry 5. -/
def sessionLo : Nat := 0
/-- As `sessionLo`, the high half. DESIGN CHOICE, log entry 5. -/
def sessionHi : Nat := 0

/-- A limit register: HI in bits [31:16], LO in bits [15:0], both 16-bit two's complement (R618). -/
def limits (hi lo : Int) : Nat := (hi % 65536).toNat * 65536 + (lo % 65536).toNat

/-- The disabled HI and LO limits, 0x7FFF and 0x8000 (R616). -/
def limitsOff : Nat := 0x7FFF8000

/-- Class default of HM_CH_WARN (R618). -/
def hmWarnReset (ch : Nat) : Nat :=
  if ch < 8 then limits (110 * 16) (-32768)
  else if ch < 12 then limits (95 * 16) (-32768)
  else if ch < 14 then limits (100 * 16) (-32768)
  else if ch < 16 then limitsOff
  else if ch < 31 then limits 30 (-30)
  else if ch = 31 then limits 18500 4700
  else limits 32767 (-30)

/-- Class default of HM_CH_CRIT (R618). -/
def hmCritReset (ch : Nat) : Nat :=
  if ch < 8 then limits (120 * 16) (-32768)
  else if ch < 12 then limits (105 * 16) (-32768)
  else if ch < 14 then limits (110 * 16) (-32768)
  else if ch < 16 then limitsOff
  else if ch < 31 then limits 50 (-50)
  else if ch = 31 then limits 19500 4600
  else limits 32767 (-50)

/-- Class default of HM_CH_SHUT (R618). -/
def hmShutReset (ch : Nat) : Nat :=
  if ch < 8 then limits (130 * 16) (-32768)
  else if ch < 12 then limits (110 * 16) (-32768)
  else if ch < 14 then limits (120 * 16) (-32768)
  else if ch < 16 then limitsOff
  else if ch < 31 then limits 100 (-100)
  else if ch = 31 then limits 20500 4500
  else limitsOff

/-- Class default of HM_CH_CFG (R618). -/
def hmCfgReset (ch : Nat) : Nat :=
  if ch < 8 then 0xD3 else if ch < 14 then 0xE3 else if ch < 16 then 0
  else if ch < 31 then 0xE1 else if ch = 31 then 0xE3 else 1

/-- HM_CH_REF: the rail nominal of R613 for VM5 to VM14. VM0 to VM4 follow their rails and read 0
until one is set; VM15 has none; the factory reference of a ring oscillator is not given and is 0
here (DESIGN CHOICE, log entry 6). -/
def hmRefReset (ch : Nat) : Nat :=
  if ch = 21 then 750 else if ch = 22 then 900 else if ch = 23 then 1200 else if ch = 24 then 1800
  else if ch = 25 then 1050 else if ch = 26 then 900 else if ch = 27 then 500
  else if ch = 28 then 1800 else if ch = 29 then 15000 else if ch = 30 then 65536 - 15000 else 0

/-- HM_CH_STATUS.CLASS of each channel (R613, R636). -/
def hmStatusReset (ch : Nat) : Nat :=
  (if ch < 14 then 0 else if ch < 16 then 3 else if ch < 32 then 1 else 2) * 32

/-- DC_MAP_SEL, 0x0000_0101 << k (R518). -/
def dcMapSelReset (k : Nat) : Nat := 0x101 <<< k


/-- The register arrays of block GLB (base 0x00000000, R686). -/
def regsGLB : List RegDesc :=
  [⟨0x00000000, 1, 0x4, .ro, 0x0, 0x0, 0x0, fun _ => 0x826010A7⟩,
   ⟨0x00000004, 1, 0x4, .roh, 0x0, 0x0, 0x0, fun _ => 0x0⟩,
   ⟨0x00000008, 1, 0x4, .ro, 0x0, 0x0, 0x0, fun _ => serialLo⟩,
   ⟨0x0000000C, 1, 0x4, .ro, 0x0, 0x0, 0x0, fun _ => serialHi⟩,
   ⟨0x00000010, 1, 0x4, .roh, 0x0, 0x0, 0x0, fun _ => 0x10⟩,
   ⟨0x00000014, 1, 0x4, .rw, 0xFFFFFFFF, 0x0, 0x0, fun _ => 0x0⟩,
   ⟨0x00000018, 1, 0x4, .rw, 0xFFFF, 0x0, 0x0, fun _ => 0x0⟩,
   ⟨0x0000001C, 1, 0x4, .rw, 0xFFFF, 0x0, 0x0, fun _ => 0x0⟩,
   ⟨0x00000020, 1, 0x4, .roh, 0x0, 0x0, 0x0, fun _ => 0x0⟩,
   ⟨0x00000024, 1, 0x4, .rw, 0x3F, 0x0, 0x0, fun _ => 0x0⟩]

/-- The register arrays of block TB (base 0x00010000, R686). -/
def regsTB : List RegDesc :=
  [⟨0x00010000, 1, 0x4, .rwl, 0x0, 0xFFFF001F, 0x0, fun _ => 0x1001A⟩,
   ⟨0x00010004, 1, 0x4, .roh, 0x0, 0x0, 0x0, fun _ => 0x10⟩,
   ⟨0x00010008, 1, 0x4, .rw, 0xFFFFFFFF, 0x0, 0x0, fun _ => 0x10000000⟩,
   ⟨0x0001000C, 1, 0x4, .wo, 0x0, 0x0, 0x0, fun _ => 0x0⟩,
   ⟨0x00010010, 1, 0x4, .roh, 0x0, 0x0, 0x0, fun _ => 0x0⟩,
   ⟨0x00010014, 1, 0x4, .roh, 0x0, 0x0, 0x0, fun _ => 0x0⟩,
   ⟨0x00010018, 1, 0x4, .roh, 0x0, 0x0, 0x0, fun _ => 0x0⟩,
   ⟨0x0001001C, 1, 0x4, .roh, 0x0, 0x0, 0x0, fun _ => 0x0⟩,
   ⟨0x00010020, 1, 0x4, .roh, 0x0, 0x0, 0x0, fun _ => 0x0⟩,
   ⟨0x00010024, 1, 0x4, .roh, 0x0, 0x0, 0x0, fun _ => 0x0⟩,
   ⟨0x00010028, 1, 0x4, .rw, 0xFFFFFFFF, 0x0, 0x0, fun _ => 0x64⟩,
   ⟨0x0001002C, 1, 0x4, .roh, 0x0, 0x0, 0x0, fun _ => 0x0⟩,
   ⟨0x00010030, 1, 0x4, .roh, 0x0, 0x0, 0x0, fun _ => 0x0⟩,
   ⟨0x00010034, 1, 0x4, .wo, 0x0, 0x0, 0x0, fun _ => 0x0⟩,
   ⟨0x00010038, 1, 0x4, .wo, 0x0, 0x0, 0x0, fun _ => 0x0⟩,
   ⟨0x0001003C, 1, 0x4, .roh, 0x0, 0x0, 0x0, fun _ => 0x0⟩,
   ⟨0x00010040, 1, 0x4, .rw, 0xFFFFFFFF, 0x0, 0x0, fun _ => 0x0⟩,
   ⟨0x00010044, 1, 0x4, .rw, 0xFFFFFFFF, 0x0, 0x0, fun _ => 0x0⟩,
   ⟨0x00010048, 1, 0x4, .roh, 0x0, 0x0, 0x0, fun _ => 0x0⟩,
   ⟨0x0001004C, 1, 0x4, .roh, 0x0, 0x0, 0x0, fun _ => 0x14⟩] ++
  [⟨0x00010050, 1, 0x4, .roh, 0x0, 0x0, 0x0, fun _ => 0x0⟩,
   ⟨0x00010054, 1, 0x4, .roh, 0x0, 0x0, 0x0, fun _ => 0x0⟩,
   ⟨0x00010058, 1, 0x4, .roh, 0x0, 0x0, 0x0, fun _ => 0x0⟩,
   ⟨0x00010100, 2, 0x40, .rwl, 0x0, 0xFFFFFF07, 0x0, fun _ => 0x6400000⟩,
   ⟨0x00010104, 2, 0x40, .roh, 0x0, 0x0, 0x0, fun _ => 0x0⟩,
   ⟨0x00010108, 2, 0x40, .roh, 0x0, 0x0, 0x0, fun _ => 0x0⟩,
   ⟨0x0001010C, 2, 0x40, .roh, 0x0, 0x0, 0x0, fun _ => 0x0⟩,
   ⟨0x00010110, 2, 0x40, .roh, 0x0, 0x0, 0x0, fun _ => 0x0⟩,
   ⟨0x00010114, 2, 0x40, .rw, 0xFFFFFFFF, 0x0, 0x0, fun _ => 0x0⟩,
   ⟨0x00010118, 2, 0x40, .roh, 0x0, 0x0, 0x0, fun _ => 0x0⟩,
   ⟨0x0001011C, 2, 0x40, .roh, 0x0, 0x0, 0x0, fun _ => 0x0⟩]

/-- The register arrays of block TA (base 0x00020000, R686). -/
def regsTA : List RegDesc :=
  [⟨0x00020000, 1, 0x4, .roh, 0x0, 0x0, 0x0, fun _ => 0x0⟩,
   ⟨0x00020004, 1, 0x4, .w1c, 0x0, 0x0, 0x1F, fun _ => 0x0⟩,
   ⟨0x00020008, 1, 0x4, .wo, 0x0, 0x0, 0x0, fun _ => 0x0⟩,
   ⟨0x0002000C, 1, 0x4, .roh, 0x0, 0x0, 0x0, fun _ => 0x0⟩,
   ⟨0x00020010, 1, 0x4, .roh, 0x0, 0x0, 0x0, fun _ => 0x0⟩,
   ⟨0x00028000, 256, 0x20, .rw, 0xFFFFFFFF, 0x0, 0x0, fun _ => 0x0⟩,
   ⟨0x00028004, 256, 0x20, .rw, 0xFFFFFFFF, 0x0, 0x0, fun _ => 0x0⟩,
   ⟨0x00028008, 256, 0x20, .rw, 0xFFFFFFFF, 0x0, 0x0, fun _ => 0x0⟩,
   ⟨0x0002800C, 256, 0x20, .rw, 0xFFFFFF, 0x0, 0x0, fun _ => 0x0⟩,
   ⟨0x00028010, 256, 0x20, .rw, 0xFFFFFFFF, 0x0, 0x0, fun _ => 0x0⟩,
   ⟨0x00028014, 256, 0x20, .rw, 0xFFFFFFFF, 0x0, 0x0, fun _ => 0x0⟩,
   ⟨0x00028018, 256, 0x20, .roh, 0x0, 0x0, 0x0, fun _ => 0x0⟩]

/-- The register arrays of block FAB (base 0x00030000, R686). -/
def regsFAB : List RegDesc :=
  [⟨0x00030000, 1, 0x4, .rwl, 0x0, 0x7FFFFFFF, 0x0, fun _ => 0x142080⟩,
   ⟨0x00030004, 1, 0x4, .rwl, 0x0, 0x83FF, 0x0, fun _ => 0x0⟩,
   ⟨0x00030008, 1, 0x4, .rwl, 0x0, 0xFFFF, 0x0, fun _ => 0xFA⟩,
   ⟨0x0003000C, 1, 0x4, .rwl, 0x0, 0xFFFFFFFF, 0x0, fun _ => 0x3C07D0⟩,
   ⟨0x00030010, 1, 0x4, .rwl, 0x0, 0xFFFF00FF, 0x0, fun _ => 0x40000A⟩,
   ⟨0x00030014, 1, 0x4, .roh, 0x0, 0x0, 0x0, fun _ => 0x0⟩,
   ⟨0x00030018, 1, 0x4, .roh, 0x0, 0x0, 0x0, fun _ => 0xF0⟩,
   ⟨0x0003001C, 1, 0x4, .roh, 0x0, 0x0, 0x0, fun _ => 0x0⟩,
   ⟨0x00030020, 1, 0x4, .roh, 0x0, 0x0, 0x0, fun _ => 0x0⟩,
   ⟨0x00030024, 1, 0x4, .roh, 0x0, 0x0, 0x0, fun _ => 0x0⟩,
   ⟨0x00030028, 1, 0x4, .roh, 0x0, 0x0, 0x0, fun _ => 0x0⟩,
   ⟨0x0003002C, 1, 0x4, .w1c, 0x0, 0x0, 0x7FFF, fun _ => 0x0⟩,
   ⟨0x00030030, 1, 0x4, .roh, 0x0, 0x0, 0x0, fun _ => 0x0⟩,
   ⟨0x00030034, 1, 0x4, .roh, 0x0, 0x0, 0x0, fun _ => 0x0⟩,
   ⟨0x00030038, 1, 0x4, .roh, 0x0, 0x0, 0x0, fun _ => 0x0⟩,
   ⟨0x0003003C, 1, 0x4, .roh, 0x0, 0x0, 0x0, fun _ => 0x0⟩,
   ⟨0x00030040, 1, 0x4, .roh, 0x0, 0x0, 0x0, fun _ => 0x0⟩,
   ⟨0x00030044, 1, 0x4, .roh, 0x0, 0x0, 0x0, fun _ => 0x0⟩,
   ⟨0x00030048, 1, 0x4, .roh, 0x0, 0x0, 0x0, fun _ => 0x0⟩,
   ⟨0x00030100, 4, 0x40, .roh, 0x0, 0x0, 0x0, fun _ => 0x0⟩] ++
  [⟨0x00030104, 4, 0x40, .roh, 0x0, 0x0, 0x0, fun _ => 0xFFFF⟩,
   ⟨0x00030108, 4, 0x40, .rwl, 0x0, 0xFFFFFFFF, 0x0, fun _ => 0x0⟩,
   ⟨0x0003010C, 4, 0x40, .roh, 0x0, 0x0, 0x0, fun _ => 0x0⟩,
   ⟨0x00030110, 4, 0x40, .roh, 0x0, 0x0, 0x0, fun _ => 0x0⟩,
   ⟨0x00030114, 4, 0x40, .roh, 0x0, 0x0, 0x0, fun _ => 0x0⟩,
   ⟨0x00030200, 32, 0x4, .roh, 0x0, 0x0, 0x0, fun _ => 0x0⟩,
   ⟨0x00031000, 64, 0x20, .rwl, 0x0, 0xFFFFFFFF, 0x0, fun _ => 0x0⟩,
   ⟨0x00031004, 64, 0x20, .rwl, 0x0, 0xFFFFFFFF, 0x0, fun _ => 0x0⟩,
   ⟨0x00031008, 64, 0x20, .rwl, 0x0, 0xFFFFFFFF, 0x0, fun _ => 0x0⟩,
   ⟨0x0003100C, 64, 0x20, .rwl, 0x0, 0xFFFFFFFF, 0x0, fun _ => 0x0⟩,
   ⟨0x00031010, 64, 0x20, .rwl, 0x0, 0xFFFF, 0x0, fun _ => 0x0⟩]

/-- The register arrays of block LN (base 0x00040000, R686). -/
def regsLN : List RegDesc :=
  [⟨0x00040000, 1, 0x4, .rwl, 0x0, 0xFFFFFF0F, 0x0, fun _ => 0xA0A0801⟩,
   ⟨0x00040004, 1, 0x4, .rwl, 0x0, 0xFFF, 0x0, fun _ => 0x0⟩,
   ⟨0x00040008, 1, 0x4, .roh, 0x0, 0x0, 0x0, fun _ => 0x0⟩,
   ⟨0x0004000C, 1, 0x4, .w1c, 0x0, 0x0, 0x3FF, fun _ => 0x0⟩,
   ⟨0x00040010, 1, 0x4, .roh, 0x0, 0x0, 0x0, fun _ => 0x0⟩,
   ⟨0x00040014, 1, 0x4, .roh, 0x0, 0x0, 0x0, fun _ => 0x0⟩,
   ⟨0x00041000, 41, 0x40, .roh, 0x0, 0x0, 0x0, fun _ => 0x0⟩,
   ⟨0x00041004, 41, 0x40, .wo, 0x0, 0x0, 0x0, fun _ => 0x0⟩,
   ⟨0x00041008, 41, 0x40, .roh, 0x0, 0x0, 0x0, fun _ => 0x0⟩,
   ⟨0x0004100C, 41, 0x40, .roh, 0x0, 0x0, 0x0, fun _ => 0x0⟩,
   ⟨0x00041010, 41, 0x40, .roh, 0x0, 0x0, 0x0, fun _ => 0x0⟩,
   ⟨0x00041014, 41, 0x40, .roh, 0x0, 0x0, 0x0, fun _ => 0x0⟩,
   ⟨0x00041018, 41, 0x40, .roh, 0x0, 0x0, 0x0, fun _ => 0x0⟩]

/-- The register arrays of block ING (base 0x00050000, R686). -/
def regsING : List RegDesc :=
  [⟨0x00050000, 1, 0x4, .rwl, 0x0, 0x17F, 0x0, fun _ => 0x110⟩,
   ⟨0x00050004, 1, 0x4, .roh, 0x0, 0x0, 0x0, fun _ => 0x0⟩,
   ⟨0x00050008, 1, 0x4, .w1c, 0x0, 0x0, 0x7F, fun _ => 0x0⟩,
   ⟨0x0005000C, 1, 0x4, .roh, 0x0, 0x0, 0x0, fun _ => 0x0⟩,
   ⟨0x00050010, 1, 0x4, .roh, 0x0, 0x0, 0x0, fun _ => 0x0⟩,
   ⟨0x00050014, 1, 0x4, .roh, 0x0, 0x0, 0x0, fun _ => 0x0⟩,
   ⟨0x00050100, 8, 0x40, .roh, 0x0, 0x0, 0x0, fun _ => 0x0⟩,
   ⟨0x00050104, 8, 0x40, .wo, 0x0, 0x0, 0x0, fun _ => 0x0⟩,
   ⟨0x00050108, 8, 0x40, .rw, 0xFFFFFFFF, 0x0, 0x0, fun _ => 0x0⟩,
   ⟨0x0005010C, 8, 0x40, .rw, 0xFFFFFFFF, 0x0, 0x0, fun _ => 0x0⟩,
   ⟨0x00050110, 8, 0x40, .roh, 0x0, 0x0, 0x0, fun _ => 0x0⟩,
   ⟨0x00050114, 8, 0x40, .roh, 0x0, 0x0, 0x0, fun _ => 0x0⟩,
   ⟨0x00050118, 8, 0x40, .roh, 0x0, 0x0, 0x0, fun _ => 0x0⟩,
   ⟨0x0005011C, 8, 0x40, .roh, 0x0, 0x0, 0x0, fun _ => 0x0⟩,
   ⟨0x00050120, 8, 0x40, .roh, 0x0, 0x0, 0x0, fun _ => 0x0⟩,
   ⟨0x00050124, 8, 0x40, .roh, 0x0, 0x0, 0x0, fun _ => 0x0⟩,
   ⟨0x00050128, 8, 0x40, .roh, 0x0, 0x0, 0x0, fun _ => 0x0⟩,
   ⟨0x0005012C, 8, 0x40, .roh, 0x0, 0x0, 0x0, fun _ => 0x0⟩,
   ⟨0x00050400, 4, 0x10, .rwl, 0x0, 0xFFFFFFFF, 0x0, fun _ => 0x0⟩,
   ⟨0x00050404, 4, 0x10, .rwl, 0x0, 0xFFFFFFFF, 0x0, fun _ => 0x0⟩] ++
  [⟨0x00050408, 4, 0x10, .rwl, 0x0, 0xFFFFFFFF, 0x0, fun _ => 0x0⟩,
   ⟨0x0005040C, 4, 0x10, .rwl, 0x0, 0xFFFFFFFF, 0x0, fun _ => 0x0⟩]

/-- The register arrays of block CRC (base 0x00060000, R686). -/
def regsCRC : List RegDesc :=
  [⟨0x00060000, 4, 0x40, .rw, 0x7377, 0x0, 0x0, fun _ => 0x0⟩,
   ⟨0x00060004, 4, 0x40, .wo, 0x0, 0x0, 0x0, fun _ => 0x0⟩,
   ⟨0x00060008, 4, 0x40, .roh, 0x0, 0x0, 0x0, fun _ => 0x0⟩,
   ⟨0x0006000C, 4, 0x40, .roh, 0x0, 0x0, 0x0, fun _ => 0x0⟩,
   ⟨0x00060010, 4, 0x40, .roh, 0x0, 0x0, 0x0, fun _ => 0x0⟩,
   ⟨0x00060014, 4, 0x40, .roh, 0x0, 0x0, 0x0, fun _ => 0x0⟩,
   ⟨0x00060018, 4, 0x40, .roh, 0x0, 0x0, 0x0, fun _ => 0x0⟩,
   ⟨0x0006001C, 4, 0x40, .roh, 0x0, 0x0, 0x0, fun _ => 0x0⟩,
   ⟨0x00060020, 4, 0x40, .roh, 0x0, 0x0, 0x0, fun _ => 0x0⟩,
   ⟨0x00060100, 1, 0x4, .w1c, 0x0, 0x0, 0xF, fun _ => 0x0⟩]

/-- The register arrays of block EXP (base 0x00070000, R686). -/
def regsEXP : List RegDesc :=
  [⟨0x00070F00, 1, 0x4, .roh, 0x0, 0x0, 0x0, fun _ => 0x0⟩,
   ⟨0x00070F04, 1, 0x4, .wo, 0x0, 0x0, 0x0, fun _ => 0x0⟩,
   ⟨0x00070F08, 1, 0x4, .roh, 0x0, 0x0, 0x0, fun _ => 0x0⟩,
   ⟨0x00070F0C, 1, 0x4, .roh, 0x0, 0x0, 0x0, fun _ => 0x0⟩,
   ⟨0x00070F10, 1, 0x4, .roh, 0x0, 0x0, 0x0, fun _ => 0x0⟩,
   ⟨0x00070F14, 1, 0x4, .roh, 0x0, 0x0, 0x0, fun _ => 0x0⟩,
   ⟨0x00070F18, 1, 0x4, .roh, 0x0, 0x0, 0x0, fun _ => 0x0⟩,
   ⟨0x00070F1C, 1, 0x4, .roh, 0x0, 0x0, 0x0, fun _ => 0x0⟩,
   ⟨0x00070F20, 1, 0x4, .roh, 0x0, 0x0, 0x0, fun _ => 0x0⟩,
   ⟨0x00070F24, 1, 0x4, .roh, 0x0, 0x0, 0x0, fun _ => 0x0⟩,
   ⟨0x00070F28, 1, 0x4, .roh, 0x0, 0x0, 0x0, fun _ => 0x0⟩,
   ⟨0x00070000, 1, 0x4, .rwl, 0x0, 0xFF0FFF, 0x0, fun _ => 0x190C40⟩,
   ⟨0x00070004, 1, 0x4, .rwl, 0x0, 0xFFFFFFFF, 0x0, fun _ => 0x800⟩,
   ⟨0x00070008, 1, 0x4, .roh, 0x0, 0x0, 0x0, fun _ => 0x0⟩,
   ⟨0x0007000C, 1, 0x4, .wo, 0x0, 0x0, 0x0, fun _ => 0x0⟩,
   ⟨0x00070010, 1, 0x4, .w1c, 0x0, 0x0, 0x7F, fun _ => 0x0⟩,
   ⟨0x00070014, 1, 0x4, .roh, 0x0, 0x0, 0x0, fun _ => 0x0⟩,
   ⟨0x00070018, 1, 0x4, .roh, 0x0, 0x0, 0x0, fun _ => 0x0⟩,
   ⟨0x0007001C, 1, 0x4, .roh, 0x0, 0x0, 0x0, fun _ => 0x0⟩,
   ⟨0x00070020, 1, 0x4, .roh, 0x0, 0x0, 0x0, fun _ => 0x0⟩] ++
  [⟨0x00070024, 1, 0x4, .roh, 0x0, 0x0, 0x0, fun _ => 0x0⟩,
   ⟨0x00070028, 1, 0x4, .roh, 0x0, 0x0, 0x0, fun _ => 0x0⟩,
   ⟨0x0007002C, 1, 0x4, .roh, 0x0, 0x0, 0x0, fun _ => 0x0⟩,
   ⟨0x00070030, 1, 0x4, .roh, 0x0, 0x0, 0x0, fun _ => 0x0⟩,
   ⟨0x00070034, 1, 0x4, .roh, 0x0, 0x0, 0x0, fun _ => 0x0⟩,
   ⟨0x00070038, 1, 0x4, .roh, 0x0, 0x0, 0x0, fun _ => 0x0⟩,
   ⟨0x0007003C, 1, 0x4, .roh, 0x0, 0x0, 0x0, fun _ => 0x0⟩,
   ⟨0x00070040, 1, 0x4, .roh, 0x0, 0x0, 0x0, fun _ => 0x0⟩,
   ⟨0x00070044, 1, 0x4, .roh, 0x0, 0x0, 0x0, fun _ => 0x0⟩,
   ⟨0x00070048, 1, 0x4, .roh, 0x0, 0x0, 0x0, fun _ => 0x0⟩]

/-- The register arrays of block CE (base 0x00080000, R686). -/
def regsCE : List RegDesc :=
  [⟨0x00080000, 40, 0x400, .roh, 0x0, 0x0, 0x0, fun _ => 0x0⟩,
   ⟨0x00080004, 40, 0x400, .roh, 0x0, 0x0, 0x0, fun _ => 0x0⟩,
   ⟨0x00080008, 40, 0x400, .roh, 0x0, 0x0, 0x0, fun _ => 0x0⟩,
   ⟨0x0008000C, 40, 0x400, .roh, 0x0, 0x0, 0x0, fun _ => 0x0⟩,
   ⟨0x00080010, 40, 0x400, .roh, 0x0, 0x0, 0x0, fun _ => 0x0⟩,
   ⟨0x00080014, 40, 0x400, .roh, 0x0, 0x0, 0x0, fun _ => 0x0⟩,
   ⟨0x00080018, 40, 0x400, .roh, 0x0, 0x0, 0x0, fun _ => 0x0⟩,
   ⟨0x0008001C, 40, 0x400, .roh, 0x0, 0x0, 0x0, fun _ => 0x0⟩,
   ⟨0x00080020, 40, 0x400, .roh, 0x0, 0x0, 0x0, fun _ => 0x0⟩,
   ⟨0x00080024, 40, 0x400, .roh, 0x0, 0x0, 0x0, fun _ => 0x0⟩,
   ⟨0x00080028, 40, 0x400, .roh, 0x0, 0x0, 0x0, fun _ => 0x0⟩,
   ⟨0x0008A000, 4, 0x40, .roh, 0x0, 0x0, 0x0, fun _ => 0x0⟩,
   ⟨0x0008A004, 4, 0x40, .rw, 0x7FF, 0x0, 0x0, fun _ => 0x41A⟩,
   ⟨0x0008A008, 4, 0x40, .roh, 0x0, 0x0, 0x0, fun _ => 0x0⟩,
   ⟨0x0008A00C, 4, 0x40, .roh, 0x0, 0x0, 0x0, fun _ => 0x0⟩,
   ⟨0x0008B000, 1, 0x4, .ro, 0x0, 0x0, 0x0, fun _ => 0x80400100⟩,
   ⟨0x0008B004, 1, 0x4, .roh, 0x0, 0x0, 0x0, fun _ => 0x0⟩,
   ⟨0x0008B008, 1, 0x4, .roh, 0x0, 0x0, 0x0, fun _ => 0x0⟩,
   ⟨0x0008B00C, 1, 0x4, .roh, 0x0, 0x0, 0x0, fun _ => 0x0⟩,
   ⟨0x0008B010, 1, 0x4, .roh, 0x0, 0x0, 0x0, fun _ => 0x0⟩] ++
  [⟨0x0008B014, 1, 0x4, .roh, 0x0, 0x0, 0x0, fun _ => 0x0⟩,
   ⟨0x0008B018, 1, 0x4, .roh, 0x0, 0x0, 0x0, fun _ => 0x0⟩,
   ⟨0x0008B01C, 1, 0x4, .roh, 0x0, 0x0, 0x0, fun _ => 0x0⟩,
   ⟨0x0008B020, 1, 0x4, .roh, 0x0, 0x0, 0x0, fun _ => 0x0⟩]

/-- The register arrays of block VER (base 0x00090000, R686). -/
def regsVER : List RegDesc :=
  [⟨0x00090000, 1, 0x4, .rwl, 0x0, 0xFFFF0007, 0x0, fun _ => 0xE100006⟩,
   ⟨0x00090004, 1, 0x4, .rwl, 0x0, 0xFFFFFFFF, 0x0, fun _ => 0x0⟩,
   ⟨0x00090008, 1, 0x4, .roh, 0x0, 0x0, 0x0, fun _ => 0x0⟩,
   ⟨0x0009000C, 1, 0x4, .roh, 0x0, 0x0, 0x0, fun _ => 0x7D0⟩,
   ⟨0x00090010, 1, 0x4, .w1c, 0x0, 0x0, 0x3FF, fun _ => 0x0⟩,
   ⟨0x00090014, 1, 0x4, .wo, 0x0, 0x0, 0x0, fun _ => 0x0⟩,
   ⟨0x00090018, 1, 0x4, .roh, 0x0, 0x0, 0x0, fun _ => 0x0⟩,
   ⟨0x0009001C, 1, 0x4, .roh, 0x0, 0x0, 0x0, fun _ => 0x0⟩,
   ⟨0x00090020, 1, 0x4, .roh, 0x0, 0x0, 0x0, fun _ => 0x0⟩,
   ⟨0x00090024, 1, 0x4, .roh, 0x0, 0x0, 0x0, fun _ => 0x0⟩,
   ⟨0x00090028, 1, 0x4, .roh, 0x0, 0x0, 0x0, fun _ => 0x0⟩,
   ⟨0x0009002C, 1, 0x4, .roh, 0x0, 0x0, 0x0, fun _ => 0x0⟩,
   ⟨0x00090030, 1, 0x4, .roh, 0x0, 0x0, 0x0, fun _ => 0xFFFFFFFF⟩,
   ⟨0x00090034, 1, 0x4, .roh, 0x0, 0x0, 0x0, fun _ => 0x0⟩,
   ⟨0x00090038, 1, 0x4, .roh, 0x0, 0x0, 0x0, fun _ => 0x0⟩,
   ⟨0x0009003C, 1, 0x4, .roh, 0x0, 0x0, 0x0, fun _ => 0x0⟩,
   ⟨0x00090100, 40, 0x4, .roh, 0x0, 0x0, 0x0, fun _ => 0x0⟩]

/-- The register arrays of block BM (base 0x000A0000, R686). -/
def regsBM : List RegDesc :=
  [⟨0x000A0000, 1, 0x4, .roh, 0x0, 0x0, 0x0, fun _ => 0x0⟩,
   ⟨0x000A0004, 1, 0x4, .wo, 0x0, 0x0, 0x0, fun _ => 0x0⟩,
   ⟨0x000A0008, 1, 0x4, .rw, 0x7F7FFF0F, 0x0, 0x0, fun _ => 0x32550002⟩,
   ⟨0x000A000C, 1, 0x4, .wo, 0x0, 0x0, 0x0, fun _ => 0x0⟩,
   ⟨0x000A0010, 1, 0x4, .w1c, 0x0, 0x0, 0x3F, fun _ => 0x0⟩,
   ⟨0x000A0014, 1, 0x4, .roh, 0x0, 0x0, 0x0, fun _ => 0x0⟩,
   ⟨0x000A0018, 1, 0x4, .roh, 0x0, 0x0, 0x0, fun _ => 0x0⟩,
   ⟨0x000A001C, 1, 0x4, .roh, 0x0, 0x0, 0x0, fun _ => 0x0⟩,
   ⟨0x000A0020, 1, 0x4, .roh, 0x0, 0x0, 0x0, fun _ => 0x0⟩,
   ⟨0x000A0024, 1, 0x4, .roh, 0x0, 0x0, 0x0, fun _ => 0x0⟩,
   ⟨0x000A0028, 1, 0x4, .roh, 0x0, 0x0, 0x0, fun _ => 0x0⟩,
   ⟨0x000A002C, 1, 0x4, .roh, 0x0, 0x0, 0x0, fun _ => 0x0⟩,
   ⟨0x000A0030, 1, 0x4, .roh, 0x0, 0x0, 0x0, fun _ => 0x0⟩,
   ⟨0x000A0034, 1, 0x4, .roh, 0x0, 0x0, 0x0, fun _ => 0x0⟩,
   ⟨0x000A0038, 1, 0x4, .roh, 0x0, 0x0, 0x0, fun _ => 0x0⟩,
   ⟨0x000A003C, 1, 0x4, .roh, 0x0, 0x0, 0x0, fun _ => 0x0⟩,
   ⟨0x000A0040, 1, 0x4, .roh, 0x0, 0x0, 0x0, fun _ => 0x0⟩,
   ⟨0x000A0044, 1, 0x4, .roh, 0x0, 0x0, 0x0, fun _ => 0x0⟩,
   ⟨0x000A0048, 1, 0x4, .roh, 0x0, 0x0, 0x0, fun _ => 0x0⟩,
   ⟨0x000A0080, 6, 0x8, .roh, 0x0, 0x0, 0x0, fun _ => 0x0⟩] ++
  [⟨0x000A0084, 6, 0x8, .roh, 0x0, 0x0, 0x0, fun _ => 0x0⟩]

/-- The register arrays of block GY (base 0x000B0000, R686). -/
def regsGY : List RegDesc :=
  [⟨0x000B0000, 1, 0x4, .rwl, 0x0, 0xFFFFFF3F, 0x0, fun _ => 0x10140A00⟩,
   ⟨0x000B0004, 1, 0x4, .rwl, 0x0, 0xFFFFFFFF, 0x0, fun _ => 0x3E8⟩,
   ⟨0x000B0008, 1, 0x4, .rwl, 0x0, 0xFFFFFFFF, 0x0, fun _ => 0x1000⟩,
   ⟨0x000B000C, 1, 0x4, .rwl, 0x0, 0x7FFFFFF, 0x0, fun _ => 0x800FA0⟩,
   ⟨0x000B0010, 1, 0x4, .rwl, 0x0, 0xFFFFFFFF, 0x0, fun _ => 0x32⟩,
   ⟨0x000B0014, 1, 0x4, .rwl, 0x0, 0xFFFFFFFF, 0x0, fun _ => 0x0⟩,
   ⟨0x000B0018, 1, 0x4, .rwl, 0x0, 0xFFFFFFFF, 0x0, fun _ => 0x0⟩,
   ⟨0x000B001C, 1, 0x4, .wo, 0x0, 0x0, 0x0, fun _ => 0x0⟩,
   ⟨0x000B0020, 1, 0x4, .roh, 0x0, 0x0, 0x0, fun _ => 0x4000000⟩,
   ⟨0x000B0024, 1, 0x4, .w1c, 0x0, 0x0, 0x3FFF, fun _ => 0x0⟩,
   ⟨0x000B0028, 1, 0x4, .roh, 0x0, 0x0, 0x0, fun _ => 0x0⟩,
   ⟨0x000B002C, 1, 0x4, .roh, 0x0, 0x0, 0x0, fun _ => 0x0⟩,
   ⟨0x000B0030, 1, 0x4, .roh, 0x0, 0x0, 0x0, fun _ => 0xFFFFFFFF⟩,
   ⟨0x000B0034, 1, 0x4, .roh, 0x0, 0x0, 0x0, fun _ => 0x0⟩,
   ⟨0x000B0038, 1, 0x4, .roh, 0x0, 0x0, 0x0, fun _ => 0x0⟩,
   ⟨0x000B003C, 1, 0x4, .roh, 0x0, 0x0, 0x0, fun _ => 0x0⟩,
   ⟨0x000B0040, 1, 0x4, .roh, 0x0, 0x0, 0x0, fun _ => 0x0⟩,
   ⟨0x000B0044, 1, 0x4, .roh, 0x0, 0x0, 0x0, fun _ => 0x0⟩,
   ⟨0x000B0048, 1, 0x4, .roh, 0x0, 0x0, 0x0, fun _ => 0x0⟩,
   ⟨0x000B004C, 1, 0x4, .roh, 0x0, 0x0, 0x0, fun _ => 0x0⟩] ++
  [⟨0x000B0050, 1, 0x4, .roh, 0x0, 0x0, 0x0, fun _ => 0x0⟩,
   ⟨0x000B0054, 1, 0x4, .roh, 0x0, 0x0, 0x0, fun _ => 0x0⟩,
   ⟨0x000B0058, 1, 0x4, .roh, 0x0, 0x0, 0x0, fun _ => 0x0⟩,
   ⟨0x000B005C, 1, 0x4, .roh, 0x0, 0x0, 0x0, fun _ => 0x0⟩,
   ⟨0x000B0060, 1, 0x4, .roh, 0x0, 0x0, 0x0, fun _ => 0x0⟩,
   ⟨0x000B0064, 1, 0x4, .roh, 0x0, 0x0, 0x0, fun _ => 0x0⟩,
   ⟨0x000B0100, 6, 0x10, .rw, 0xFFFFFFFF, 0x0, 0x0, fun _ => 0x0⟩,
   ⟨0x000B0104, 6, 0x10, .rw, 0xFFFFFF, 0x0, 0x0, fun _ => 0x0⟩,
   ⟨0x000B0108, 6, 0x10, .roh, 0x0, 0x0, 0x0, fun _ => 0x0⟩,
   ⟨0x000B010C, 6, 0x10, .roh, 0x0, 0x0, 0x0, fun _ => 0x0⟩]

/-- The register arrays of block HP (base 0x000C0000, R686). -/
def regsHP : List RegDesc :=
  [⟨0x000C0000, 1, 0x4, .rwl, 0x0, 0xFFFFFF3F, 0x0, fun _ => 0x640A3F⟩,
   ⟨0x000C0004, 1, 0x4, .w1c, 0x0, 0x0, 0xFFF, fun _ => 0x0⟩,
   ⟨0x000C0008, 1, 0x4, .wo, 0x0, 0x0, 0x0, fun _ => 0x0⟩,
   ⟨0x000C000C, 1, 0x4, .wo, 0x0, 0x0, 0x0, fun _ => 0x0⟩,
   ⟨0x000C0010, 1, 0x4, .roh, 0x0, 0x0, 0x0, fun _ => 0x0⟩,
   ⟨0x000C0100, 6, 0x100, .roh, 0x0, 0x0, 0x0, fun _ => 0x0⟩,
   ⟨0x000C0104, 6, 0x100, .wo, 0x0, 0x0, 0x0, fun _ => 0x0⟩,
   ⟨0x000C0108, 6, 0x100, .roh, 0x0, 0x0, 0x0, fun _ => 0x0⟩,
   ⟨0x000C010C, 6, 0x100, .roh, 0x0, 0x0, 0x0, fun _ => 0x0⟩,
   ⟨0x000C0110, 6, 0x100, .roh, 0x0, 0x0, 0x0, fun _ => 0x0⟩,
   ⟨0x000C0114, 6, 0x100, .roh, 0x0, 0x0, 0x0, fun _ => 0x0⟩,
   ⟨0x000C0118, 6, 0x100, .roh, 0x0, 0x0, 0x0, fun _ => 0x0⟩,
   ⟨0x000C011C, 6, 0x100, .roh, 0x0, 0x0, 0x0, fun _ => 0x0⟩,
   ⟨0x000C0120, 6, 0x100, .roh, 0x0, 0x0, 0x0, fun _ => 0x0⟩,
   ⟨0x000C0140, 8, 0x10, .roh, 0x0, 0x0, 0x0, fun _ => 0x0⟩,
   ⟨0x000C0240, 8, 0x10, .roh, 0x0, 0x0, 0x0, fun _ => 0x0⟩,
   ⟨0x000C0340, 8, 0x10, .roh, 0x0, 0x0, 0x0, fun _ => 0x0⟩,
   ⟨0x000C0440, 8, 0x10, .roh, 0x0, 0x0, 0x0, fun _ => 0x0⟩,
   ⟨0x000C0540, 8, 0x10, .roh, 0x0, 0x0, 0x0, fun _ => 0x0⟩,
   ⟨0x000C0640, 8, 0x10, .roh, 0x0, 0x0, 0x0, fun _ => 0x0⟩] ++
  [⟨0x000C0144, 8, 0x10, .roh, 0x0, 0x0, 0x0, fun _ => 0x0⟩,
   ⟨0x000C0244, 8, 0x10, .roh, 0x0, 0x0, 0x0, fun _ => 0x0⟩,
   ⟨0x000C0344, 8, 0x10, .roh, 0x0, 0x0, 0x0, fun _ => 0x0⟩,
   ⟨0x000C0444, 8, 0x10, .roh, 0x0, 0x0, 0x0, fun _ => 0x0⟩,
   ⟨0x000C0544, 8, 0x10, .roh, 0x0, 0x0, 0x0, fun _ => 0x0⟩,
   ⟨0x000C0644, 8, 0x10, .roh, 0x0, 0x0, 0x0, fun _ => 0x0⟩,
   ⟨0x000C0148, 8, 0x10, .roh, 0x0, 0x0, 0x0, fun _ => 0x0⟩,
   ⟨0x000C0248, 8, 0x10, .roh, 0x0, 0x0, 0x0, fun _ => 0x0⟩,
   ⟨0x000C0348, 8, 0x10, .roh, 0x0, 0x0, 0x0, fun _ => 0x0⟩,
   ⟨0x000C0448, 8, 0x10, .roh, 0x0, 0x0, 0x0, fun _ => 0x0⟩,
   ⟨0x000C0548, 8, 0x10, .roh, 0x0, 0x0, 0x0, fun _ => 0x0⟩,
   ⟨0x000C0648, 8, 0x10, .roh, 0x0, 0x0, 0x0, fun _ => 0x0⟩,
   ⟨0x000C014C, 8, 0x10, .roh, 0x0, 0x0, 0x0, fun _ => 0x0⟩,
   ⟨0x000C024C, 8, 0x10, .roh, 0x0, 0x0, 0x0, fun _ => 0x0⟩,
   ⟨0x000C034C, 8, 0x10, .roh, 0x0, 0x0, 0x0, fun _ => 0x0⟩,
   ⟨0x000C044C, 8, 0x10, .roh, 0x0, 0x0, 0x0, fun _ => 0x0⟩,
   ⟨0x000C054C, 8, 0x10, .roh, 0x0, 0x0, 0x0, fun _ => 0x0⟩,
   ⟨0x000C064C, 8, 0x10, .roh, 0x0, 0x0, 0x0, fun _ => 0x0⟩]

/-- The register arrays of block MP (base 0x000D0000, R686). -/
def regsMP : List RegDesc :=
  [⟨0x000D0000, 6, 0x100, .rwl, 0x0, 0xF1, 0x0, fun _ => 0x0⟩,
   ⟨0x000D0004, 6, 0x100, .wo, 0x0, 0x0, 0x0, fun _ => 0x0⟩,
   ⟨0x000D0008, 6, 0x100, .roh, 0x0, 0x0, 0x0, fun _ => 0x0⟩,
   ⟨0x000D000C, 6, 0x100, .w1c, 0x0, 0x0, 0xFF, fun _ => 0x0⟩,
   ⟨0x000D0010, 6, 0x100, .rwl, 0x0, 0xFFFFFFFF, 0x0, fun _ => 0xFFFFFFFF⟩,
   ⟨0x000D0014, 6, 0x100, .rwl, 0x0, 0xFFFFFFFF, 0x0, fun _ => 0xFFFFFFFF⟩,
   ⟨0x000D0018, 6, 0x100, .rwl, 0x0, 0xFFFFFFFF, 0x0, fun _ => 0xFFFFFFFF⟩,
   ⟨0x000D001C, 6, 0x100, .rw, 0xFFFFFFFF, 0x0, 0x0, fun _ => 0x0⟩,
   ⟨0x000D0020, 6, 0x100, .rw, 0xFFFFFFFF, 0x0, 0x0, fun _ => 0x0⟩,
   ⟨0x000D0024, 6, 0x100, .rw, 0xFFFFFFFF, 0x0, 0x0, fun _ => 0x0⟩,
   ⟨0x000D0028, 6, 0x100, .rw, 0xFFFFFFFF, 0x0, 0x0, fun _ => 0x400⟩,
   ⟨0x000D002C, 6, 0x100, .roh, 0x0, 0x0, 0x0, fun _ => 0x400⟩,
   ⟨0x000D0030, 6, 0x100, .roh, 0x0, 0x0, 0x0, fun _ => 0x0⟩,
   ⟨0x000D0034, 6, 0x100, .roh, 0x0, 0x0, 0x0, fun _ => 0x0⟩,
   ⟨0x000D0038, 6, 0x100, .roh, 0x0, 0x0, 0x0, fun _ => 0x0⟩,
   ⟨0x000D003C, 6, 0x100, .roh, 0x0, 0x0, 0x0, fun _ => 0x0⟩,
   ⟨0x000D0040, 6, 0x100, .roh, 0x0, 0x0, 0x0, fun _ => 0x0⟩,
   ⟨0x000D0044, 6, 0x100, .roh, 0x0, 0x0, 0x0, fun _ => 0x0⟩,
   ⟨0x000D0048, 6, 0x100, .rwl, 0x0, 0x73FFF, 0x0, fun _ => 0x0⟩,
   ⟨0x000D004C, 6, 0x100, .roh, 0x0, 0x0, 0x0, fun _ => 0x0⟩] ++
  [⟨0x000D0050, 6, 0x100, .roh, 0x0, 0x0, 0x0, fun _ => 0x0⟩,
   ⟨0x000D0054, 6, 0x100, .rwl, 0x0, 0xFF, 0x0, fun _ => 0x0⟩,
   ⟨0x000D0058, 6, 0x100, .rwl, 0x0, 0xFFFFFFFF, 0x0, fun _ => 0x0⟩,
   ⟨0x000D005C, 6, 0x100, .rwl, 0x0, 0xFFFFFFFF, 0x0, fun _ => 0x0⟩,
   ⟨0x000D0060, 6, 0x100, .rwl, 0x0, 0xFFFFFFFF, 0x0, fun _ => 0x0⟩,
   ⟨0x000D0064, 6, 0x100, .rwl, 0x0, 0xFFFFFFFF, 0x0, fun _ => 0x0⟩,
   ⟨0x000D0068, 6, 0x100, .roh, 0x0, 0x0, 0x0, fun _ => 0x0⟩,
   ⟨0x000D006C, 6, 0x100, .roh, 0x0, 0x0, 0x0, fun _ => 0x0⟩,
   ⟨0x000D0070, 6, 0x100, .rwl, 0x0, 0xFFFFFFFF, 0x0, fun _ => 0x0⟩,
   ⟨0x000D0074, 6, 0x100, .rwl, 0x0, 0xFFFFFFFF, 0x0, fun _ => 0x0⟩,
   ⟨0x000D0078, 6, 0x100, .rwl, 0x0, 0xFFFFFFFF, 0x0, fun _ => 0x0⟩]

/-- The register arrays of block STP (base 0x000E0000, R686). -/
def regsSTP : List RegDesc :=
  [⟨0x000E0000, 4, 0x100, .rwl, 0x0, 0xFFFFFFFF, 0x0, fun _ => 0xA14050A⟩,
   ⟨0x000E0004, 4, 0x100, .roh, 0x0, 0x0, 0x0, fun _ => 0x0⟩,
   ⟨0x000E0008, 4, 0x100, .w1c, 0x0, 0x0, 0x7, fun _ => 0x0⟩,
   ⟨0x000E000C, 4, 0x100, .roh, 0x0, 0x0, 0x0, fun _ => 0x0⟩,
   ⟨0x000E0010, 4, 0x100, .roh, 0x0, 0x0, 0x0, fun _ => 0x0⟩,
   ⟨0x000E0014, 4, 0x100, .roh, 0x0, 0x0, 0x0, fun _ => 0x0⟩,
   ⟨0x000E0018, 4, 0x100, .roh, 0x0, 0x0, 0x0, fun _ => 0x0⟩]

/-- The register arrays of block FB (base 0x000F0000, R686). -/
def regsFB : List RegDesc :=
  [⟨0x000F0000, 6, 0x100, .rwl, 0x0, 0xFFFF, 0x0, fun _ => 0x400⟩,
   ⟨0x000F0004, 6, 0x100, .roh, 0x0, 0x0, 0x0, fun _ => 0x3⟩,
   ⟨0x000F0008, 6, 0x100, .w1c, 0x0, 0x0, 0x1FF, fun _ => 0x0⟩,
   ⟨0x000F000C, 6, 0x100, .rwl, 0x0, 0xFFFFFFFF, 0x0, fun _ => 0x0⟩,
   ⟨0x000F0010, 6, 0x100, .rwl, 0x0, 0xFFFFFFFF, 0x0, fun _ => 0x1⟩,
   ⟨0x000F0014, 6, 0x100, .roh, 0x0, 0x0, 0x0, fun _ => 0x0⟩,
   ⟨0x000F0018, 6, 0x100, .roh, 0x0, 0x0, 0x0, fun _ => 0x0⟩,
   ⟨0x000F001C, 6, 0x100, .roh, 0x0, 0x0, 0x0, fun _ => 0x0⟩,
   ⟨0x000F0020, 6, 0x100, .roh, 0x0, 0x0, 0x0, fun _ => 0x0⟩,
   ⟨0x000F0024, 6, 0x100, .roh, 0x0, 0x0, 0x0, fun _ => 0x0⟩,
   ⟨0x000F0028, 6, 0x100, .roh, 0x0, 0x0, 0x0, fun _ => 0x0⟩,
   ⟨0x000F002C, 6, 0x100, .rw, 0xFFFFFFFF, 0x0, 0x0, fun _ => 0x0⟩,
   ⟨0x000F0030, 6, 0x100, .rw, 0xFFFFFFFF, 0x0, 0x0, fun _ => 0x0⟩,
   ⟨0x000F0034, 6, 0x100, .rwl, 0x0, 0xFFFFFFFF, 0x0, fun _ => 0x0⟩,
   ⟨0x000F0038, 6, 0x100, .roh, 0x0, 0x0, 0x0, fun _ => 0x0⟩,
   ⟨0x000F003C, 6, 0x100, .roh, 0x0, 0x0, 0x0, fun _ => 0x0⟩,
   ⟨0x000F0040, 6, 0x100, .rwl, 0x0, 0xFFFFFFFF, 0x0, fun _ => 0x50148C32⟩,
   ⟨0x000F0044, 6, 0x100, .roh, 0x0, 0x0, 0x0, fun _ => 0x0⟩,
   ⟨0x000F0048, 6, 0x100, .rwl, 0x0, 0xFFFFFFFF, 0x0, fun _ => 0x200⟩,
   ⟨0x000F004C, 6, 0x100, .roh, 0x0, 0x0, 0x0, fun _ => 0x0⟩] ++
  [⟨0x000F0800, 8, 0x40, .rw, 0xFF0FFF, 0x0, 0x0, fun _ => 0x0⟩,
   ⟨0x000F0804, 8, 0x40, .rw, 0xFFFFFFFF, 0x0, 0x0, fun _ => 0x0⟩,
   ⟨0x000F0808, 8, 0x40, .rw, 0xFFFFFFFF, 0x0, 0x0, fun _ => 0x0⟩,
   ⟨0x000F080C, 8, 0x40, .rw, 0xFFFFFFFF, 0x0, 0x0, fun _ => 0x0⟩,
   ⟨0x000F0810, 8, 0x40, .rw, 0xFFFFFFFF, 0x0, 0x0, fun _ => 0x0⟩,
   ⟨0x000F0814, 8, 0x40, .rw, 0xFFFFFFFF, 0x0, 0x0, fun _ => 0x0⟩,
   ⟨0x000F0818, 8, 0x40, .wo, 0x0, 0x0, 0x0, fun _ => 0x0⟩,
   ⟨0x000F081C, 8, 0x40, .roh, 0x0, 0x0, 0x0, fun _ => 0x0⟩,
   ⟨0x000F0820, 8, 0x40, .roh, 0x0, 0x0, 0x0, fun _ => 0x0⟩,
   ⟨0x000F0824, 8, 0x40, .roh, 0x0, 0x0, 0x0, fun _ => 0x0⟩,
   ⟨0x000F0828, 8, 0x40, .roh, 0x0, 0x0, 0x0, fun _ => 0x0⟩,
   ⟨0x000F082C, 8, 0x40, .roh, 0x0, 0x0, 0x0, fun _ => 0x0⟩]

/-- The register arrays of block SV (base 0x00100000, R686). -/
def regsSV : List RegDesc :=
  [⟨0x00100000, 2, 0x100, .rwl, 0x0, 0x1F0FFFFF, 0x0, fun _ => 0x407FFFF⟩,
   ⟨0x00100004, 2, 0x100, .rw, 0xFFFFFFFF, 0x0, 0x0, fun _ => 0x0⟩,
   ⟨0x00100008, 2, 0x100, .rw, 0xFFFFFFFF, 0x0, 0x0, fun _ => 0x0⟩,
   ⟨0x0010000C, 2, 0x100, .rw, 0xFFFFFFFF, 0x0, 0x0, fun _ => 0x0⟩,
   ⟨0x00100010, 2, 0x100, .rw, 0xFFFFFFFF, 0x0, 0x0, fun _ => 0x0⟩,
   ⟨0x00100014, 2, 0x100, .rw, 0xFFFFFFFF, 0x0, 0x0, fun _ => 0x0⟩,
   ⟨0x00100018, 2, 0x100, .rw, 0xFFFFFFFF, 0x0, 0x0, fun _ => 0x0⟩,
   ⟨0x0010001C, 2, 0x100, .rw, 0xFFFFFFFF, 0x0, 0x0, fun _ => 0xFFFFFFFF⟩,
   ⟨0x00100020, 2, 0x100, .rw, 0xFFFFFFFF, 0x0, 0x0, fun _ => 0xA00⟩,
   ⟨0x00100024, 2, 0x100, .roh, 0x0, 0x0, 0x0, fun _ => 0x0⟩,
   ⟨0x00100028, 2, 0x100, .w1c, 0x0, 0x0, 0xF, fun _ => 0x0⟩,
   ⟨0x0010002C, 2, 0x100, .roh, 0x0, 0x0, 0x0, fun _ => 0x0⟩,
   ⟨0x00100030, 2, 0x100, .roh, 0x0, 0x0, 0x0, fun _ => 0x0⟩,
   ⟨0x00100034, 2, 0x100, .roh, 0x0, 0x0, 0x0, fun _ => 0x0⟩,
   ⟨0x00100038, 2, 0x100, .roh, 0x0, 0x0, 0x0, fun _ => 0x0⟩,
   ⟨0x0010003C, 2, 0x100, .roh, 0x0, 0x0, 0x0, fun _ => 0x0⟩,
   ⟨0x00100040, 2, 0x100, .roh, 0x0, 0x0, 0x0, fun _ => 0x0⟩,
   ⟨0x00100044, 2, 0x100, .roh, 0x0, 0x0, 0x0, fun _ => 0x0⟩,
   ⟨0x00100048, 2, 0x100, .rw, 0x7, 0x0, 0x0, fun _ => 0x0⟩,
   ⟨0x0010004C, 2, 0x100, .rw, 0xFFFFFFFF, 0x0, 0x0, fun _ => 0x0⟩] ++
  [⟨0x00100050, 2, 0x100, .rw, 0xFFFFFFFF, 0x0, 0x0, fun _ => 0x0⟩,
   ⟨0x00100054, 2, 0x100, .wo, 0x0, 0x0, 0x0, fun _ => 0x0⟩,
   ⟨0x00100060, 1, 0x4, .rw, 0xFFFFFFFF, 0x0, 0x0, fun _ => 0x40000000⟩,
   ⟨0x00100064, 4, 0x4, .rw, 0xFFFFFFFF, 0x0, 0x0, fun _ => 0⟩,
   ⟨0x00100074, 1, 0x4, .rw, 0xFFFFFFFF, 0x0, 0x0, fun _ => 0x40000000⟩,
   ⟨0x00100078, 4, 0x4, .rw, 0xFFFFFFFF, 0x0, 0x0, fun _ => 0⟩,
   ⟨0x00100160, 1, 0x4, .rw, 0xFFFFFFFF, 0x0, 0x0, fun _ => 0x40000000⟩,
   ⟨0x00100164, 4, 0x4, .rw, 0xFFFFFFFF, 0x0, 0x0, fun _ => 0⟩,
   ⟨0x00100174, 1, 0x4, .rw, 0xFFFFFFFF, 0x0, 0x0, fun _ => 0x40000000⟩,
   ⟨0x00100178, 4, 0x4, .rw, 0xFFFFFFFF, 0x0, 0x0, fun _ => 0⟩,
   ⟨0x00100800, 1, 0x4, .rw, 0xFF01, 0x0, 0x0, fun _ => 0x1⟩,
   ⟨0x00100804, 1, 0x4, .wo, 0x0, 0x0, 0x0, fun _ => 0x0⟩,
   ⟨0x00100808, 1, 0x4, .roh, 0x0, 0x0, 0x0, fun _ => 0x0⟩]

/-- The register arrays of block DC (base 0x00110000, R686). -/
def regsDC : List RegDesc :=
  [⟨0x00110000, 1, 0x4, .roh, 0x0, 0x0, 0x0, fun _ => 0x0⟩,
   ⟨0x00110004, 1, 0x4, .rwl, 0x0, 0xFFFFFFFF, 0x0, fun _ => 0x1201000⟩,
   ⟨0x00110008, 1, 0x4, .w1c, 0x0, 0x0, 0x3, fun _ => 0x0⟩,
   ⟨0x0011000C, 1, 0x4, .roh, 0x0, 0x0, 0x0, fun _ => 0x0⟩,
   ⟨0x00110010, 1, 0x4, .roh, 0x0, 0x0, 0x0, fun _ => 0x0⟩,
   ⟨0x00110014, 1, 0x4, .roh, 0x0, 0x0, 0x0, fun _ => 0x0⟩,
   ⟨0x00110018, 1, 0x4, .roh, 0x0, 0x0, 0x0, fun _ => 0x0⟩,
   ⟨0x00110040, 8, 0x4, .rwl, 0x0, 0x7FFFF, 0x0, dcMapSelReset⟩]

/-- The register arrays of block MI (base 0x00120000, R686). -/
def regsMI : List RegDesc :=
  [⟨0x00120000, 1, 0x4, .rwl, 0x0, 0xFFF31F, 0x0, fun _ => 0x182318⟩,
   ⟨0x00120004, 1, 0x4, .roh, 0x0, 0x0, 0x0, fun _ => 0x0⟩,
   ⟨0x00120008, 1, 0x4, .w1c, 0x0, 0x0, 0x3FF, fun _ => 0x0⟩,
   ⟨0x0012000C, 1, 0x4, .roh, 0x0, 0x0, 0x0, fun _ => 0x0⟩,
   ⟨0x00120010, 1, 0x4, .roh, 0x0, 0x0, 0x0, fun _ => 0x0⟩,
   ⟨0x00120014, 1, 0x4, .roh, 0x0, 0x0, 0x0, fun _ => 0x0⟩,
   ⟨0x00120018, 1, 0x4, .roh, 0x0, 0x0, 0x0, fun _ => 0x0⟩,
   ⟨0x0012001C, 1, 0x4, .roh, 0x0, 0x0, 0x0, fun _ => 0x0⟩,
   ⟨0x00120020, 1, 0x4, .roh, 0x0, 0x0, 0x0, fun _ => 0x0⟩,
   ⟨0x00120024, 1, 0x4, .roh, 0x0, 0x0, 0x0, fun _ => 0x0⟩,
   ⟨0x00120028, 1, 0x4, .roh, 0x0, 0x0, 0x0, fun _ => 0x0⟩,
   ⟨0x0012002C, 1, 0x4, .roh, 0x0, 0x0, 0x0, fun _ => 0x0⟩,
   ⟨0x00120030, 1, 0x4, .roh, 0x0, 0x0, 0x0, fun _ => 0x0⟩,
   ⟨0x00120034, 1, 0x4, .wo, 0x0, 0x0, 0x0, fun _ => 0x0⟩,
   ⟨0x00120038, 1, 0x4, .wo, 0x0, 0x0, 0x0, fun _ => 0x0⟩,
   ⟨0x0012003C, 1, 0x4, .roh, 0x0, 0x0, 0x0, fun _ => 0x0⟩,
   ⟨0x00120040, 1, 0x4, .rw, 0xFFFFFFFF, 0x0, 0x0, fun _ => 0x0⟩,
   ⟨0x00120044, 1, 0x4, .rw, 0xFFFFFFFF, 0x0, 0x0, fun _ => 0x0⟩,
   ⟨0x00120048, 1, 0x4, .rw, 0xFF, 0x0, 0x0, fun _ => 0x0⟩,
   ⟨0x0012004C, 1, 0x4, .rw, 0x3FF, 0x0, 0x0, fun _ => 0x0⟩] ++
  [⟨0x00120050, 1, 0x4, .roh, 0x0, 0x0, 0x0, fun _ => 0x0⟩,
   ⟨0x00120054, 1, 0x4, .roh, 0x0, 0x0, 0x0, fun _ => 0x0⟩,
   ⟨0x00120058, 1, 0x4, .roh, 0x0, 0x0, 0x0, fun _ => 0x0⟩]

/-- The register arrays of block CMP (base 0x00130000, R686). -/
def regsCMP : List RegDesc :=
  [⟨0x00130000, 1, 0x4, .rwl, 0x0, 0x1FFF, 0x0, fun _ => 0x1040⟩,
   ⟨0x00130004, 1, 0x4, .rwl, 0x0, 0xFFFFFFFF, 0x0, fun _ => 0x2000⟩,
   ⟨0x00130008, 1, 0x4, .roh, 0x0, 0x0, 0x0, fun _ => 0x0⟩,
   ⟨0x0013000C, 1, 0x4, .w1c, 0x0, 0x0, 0xF, fun _ => 0x0⟩,
   ⟨0x00130010, 1, 0x4, .roh, 0x0, 0x0, 0x0, fun _ => 0x0⟩,
   ⟨0x00130014, 1, 0x4, .roh, 0x0, 0x0, 0x0, fun _ => 0x0⟩,
   ⟨0x00130018, 1, 0x4, .rw, 0xFFFFFFFF, 0x0, 0x0, fun _ => 0x0⟩,
   ⟨0x0013001C, 1, 0x4, .rw, 0xFFFFFFFF, 0x0, 0x0, fun _ => 0x0⟩,
   ⟨0x00130020, 1, 0x4, .roh, 0x0, 0x0, 0x0, fun _ => 0x0⟩,
   ⟨0x00130024, 1, 0x4, .roh, 0x0, 0x0, 0x0, fun _ => 0x0⟩,
   ⟨0x00130028, 1, 0x4, .roh, 0x0, 0x0, 0x0, fun _ => 0x0⟩,
   ⟨0x0013002C, 1, 0x4, .roh, 0x0, 0x0, 0x0, fun _ => 0x0⟩,
   ⟨0x00130030, 1, 0x4, .roh, 0x0, 0x0, 0x0, fun _ => 0x0⟩]

/-- The register arrays of block PWR (base 0x00140000, R686). -/
def regsPWR : List RegDesc :=
  [⟨0x00140000, 1, 0x4, .rw, 0xFFFF000F, 0x0, 0x0, fun _ => 0x9⟩,
   ⟨0x00140004, 1, 0x4, .wo, 0x0, 0x0, 0x0, fun _ => 0x0⟩,
   ⟨0x00140008, 1, 0x4, .roh, 0x0, 0x0, 0x0, fun _ => 0x711⟩,
   ⟨0x0014000C, 1, 0x4, .w1c, 0x0, 0x0, 0x7F, fun _ => 0x0⟩,
   ⟨0x00140010, 1, 0x4, .rw, 0xFFFFFF, 0x0, 0x0, fun _ => 0x8000A1⟩,
   ⟨0x00140014, 1, 0x4, .roh, 0x0, 0x0, 0x0, fun _ => 0x0⟩,
   ⟨0x00140018, 1, 0x4, .rw, 0xFFFFFFFF, 0x0, 0x0, fun _ => 0x0⟩,
   ⟨0x0014001C, 1, 0x4, .roh, 0x0, 0x0, 0x0, fun _ => 0x0⟩,
   ⟨0x00140020, 1, 0x4, .roh, 0x0, 0x0, 0x0, fun _ => 0x0⟩,
   ⟨0x00140024, 1, 0x4, .roh, 0x0, 0x0, 0x0, fun _ => 0x0⟩,
   ⟨0x00140028, 1, 0x4, .roh, 0x0, 0x0, 0x0, fun _ => 0x0⟩,
   ⟨0x0014002C, 1, 0x4, .roh, 0x0, 0x0, 0x0, fun _ => 0x0⟩]

/-- The register arrays of block HM (base 0x00150000, R686). -/
def regsHM : List RegDesc :=
  [⟨0x00150000, 1, 0x4, .rw, 0xFFFFFF, 0x0, 0x0, fun _ => 0x50520⟩,
   ⟨0x00150004, 1, 0x4, .roh, 0x0, 0x0, 0x0, fun _ => 0x0⟩,
   ⟨0x00150008, 1, 0x4, .w1c, 0x0, 0x0, 0x3F, fun _ => 0x0⟩,
   ⟨0x0015000C, 1, 0x4, .roh, 0x0, 0x0, 0x0, fun _ => 0x0⟩,
   ⟨0x00150010, 1, 0x4, .roh, 0x0, 0x0, 0x0, fun _ => 0x0⟩,
   ⟨0x00150014, 4, 0x4, .roh, 0x0, 0x0, 0x0, fun _ => 0x0⟩,
   ⟨0x00151000, 56, 0x20, .roh, 0x0, 0x0, 0x0, fun _ => 0x0⟩,
   ⟨0x00151004, 56, 0x20, .roh, 0x0, 0x0, 0x0, hmStatusReset⟩,
   ⟨0x00151008, 56, 0x20, .rw, 0xFFFFFFFF, 0x0, 0x0, hmWarnReset⟩,
   ⟨0x0015100C, 56, 0x20, .rw, 0xFFFFFFFF, 0x0, 0x0, hmCritReset⟩,
   ⟨0x00151010, 56, 0x20, .rwl, 0x0, 0xFFFFFFFF, 0x0, hmShutReset⟩,
   ⟨0x00151014, 56, 0x20, .rw, 0x3F, 0xC0, 0x0, hmCfgReset⟩,
   ⟨0x00151018, 56, 0x20, .rwl, 0x0, 0xFFFF, 0x0, hmRefReset⟩]

/-- The register arrays of block CAL (base 0x00160000, R686). -/
def regsCAL : List RegDesc :=
  [⟨0x00160000, 1, 0x4, .rwl, 0x0, 0xFFFFFFF, 0x0, fun _ => 0x142583C⟩,
   ⟨0x00160004, 1, 0x4, .wo, 0x0, 0x0, 0x0, fun _ => 0x0⟩,
   ⟨0x00160008, 1, 0x4, .roh, 0x0, 0x0, 0x0, fun _ => 0x0⟩,
   ⟨0x0016000C, 1, 0x4, .w1c, 0x0, 0x0, 0x7F, fun _ => 0x0⟩,
   ⟨0x00160010, 1, 0x4, .roh, 0x0, 0x0, 0x0, fun _ => 0x0⟩,
   ⟨0x00160014, 1, 0x4, .roh, 0x0, 0x0, 0x0, fun _ => 0x0⟩,
   ⟨0x00161000, 105, 0x20, .roh, 0x0, 0x0, 0x0, fun _ => 0x0⟩,
   ⟨0x00161004, 105, 0x20, .roh, 0x0, 0x0, 0x0, fun _ => 0x0⟩,
   ⟨0x00161008, 105, 0x20, .roh, 0x0, 0x0, 0x0, fun _ => 0x0⟩,
   ⟨0x0016100C, 105, 0x20, .roh, 0x0, 0x0, 0x0, fun _ => 0x0⟩,
   ⟨0x00161010, 105, 0x20, .roh, 0x0, 0x0, 0x0, fun _ => 0x0⟩]

/-- The register arrays of block ERR (base 0x00170000, R686). -/
def regsERR : List RegDesc :=
  [⟨0x00170000, 1, 0x4, .rw, 0x77, 0x0, 0x0, fun _ => 0x23⟩,
   ⟨0x00170004, 1, 0x4, .roh, 0x0, 0x0, 0x0, fun _ => 0x0⟩,
   ⟨0x00170008, 1, 0x4, .w1c, 0x0, 0x0, 0x7F, fun _ => 0x0⟩,
   ⟨0x0017000C, 1, 0x4, .roh, 0x0, 0x0, 0x0, fun _ => 0x0⟩,
   ⟨0x00170010, 1, 0x4, .roh, 0x0, 0x0, 0x0, fun _ => 0x0⟩,
   ⟨0x00170014, 1, 0x4, .wo, 0x0, 0x0, 0x0, fun _ => 0x0⟩,
   ⟨0x00170018, 1, 0x4, .wo, 0x0, 0x0, 0x0, fun _ => 0x0⟩,
   ⟨0x0017001C, 1, 0x4, .roh, 0x0, 0x0, 0x0, fun _ => 0x0⟩,
   ⟨0x00170020, 5, 0x4, .roh, 0x0, 0x0, 0x0, fun _ => 0x0⟩,
   ⟨0x00170034, 1, 0x4, .roh, 0x0, 0x0, 0x0, fun _ => 0x0⟩,
   ⟨0x00170038, 1, 0x4, .wo, 0x0, 0x0, 0x0, fun _ => 0x0⟩,
   ⟨0x00170040, 12, 0x4, .roh, 0x0, 0x0, 0x0, fun _ => 0x0⟩,
   ⟨0x00170100, 8, 0x4, .roh, 0x0, 0x0, 0x0, fun _ => 0x0⟩]

/-- The register arrays of block ACC (base 0x00180000, R686). -/
def regsACC : List RegDesc :=
  [⟨0x00180000, 1, 0x4, .roh, 0x0, 0x0, 0x0, fun _ => 0x0⟩,
   ⟨0x00180004, 1, 0x4, .w1c, 0x0, 0x0, 0xF, fun _ => 0x0⟩,
   ⟨0x00180008, 1, 0x4, .roh, 0x0, 0x0, 0x0, fun _ => 0x0⟩,
   ⟨0x0018000C, 1, 0x4, .roh, 0x0, 0x0, 0x0, fun _ => 0x0⟩,
   ⟨0x00180010, 1, 0x4, .roh, 0x0, 0x0, 0x0, fun _ => 0x0⟩,
   ⟨0x00180014, 1, 0x4, .roh, 0x0, 0x0, 0x0, fun _ => 0x0⟩,
   ⟨0x00180018, 1, 0x4, .wo, 0x0, 0x0, 0x0, fun _ => 0x0⟩,
   ⟨0x0018001C, 1, 0x4, .roh, 0x0, 0x0, 0x0, fun _ => 0x0⟩,
   ⟨0x00180020, 1, 0x4, .roh, 0x0, 0x0, 0x0, fun _ => 0x0⟩,
   ⟨0x00180024, 1, 0x4, .roh, 0x0, 0x0, 0x0, fun _ => 0x0⟩,
   ⟨0x00180028, 1, 0x4, .roh, 0x0, 0x0, 0x0, fun _ => 0x0⟩]

/-- The register arrays of block CFG (base 0x00190000, R686). -/
def regsCFG : List RegDesc :=
  [⟨0x00190000, 1, 0x4, .roh, 0x0, 0x0, 0x0, fun _ => 0x0⟩,
   ⟨0x00190004, 1, 0x4, .wo, 0x0, 0x0, 0x0, fun _ => 0x0⟩,
   ⟨0x00190008, 1, 0x4, .w1c, 0x0, 0x0, 0x7F, fun _ => 0x0⟩,
   ⟨0x0019000C, 1, 0x4, .roh, 0x0, 0x0, 0x0, fun _ => 0x0⟩,
   ⟨0x00190010, 1, 0x4, .roh, 0x0, 0x0, 0x0, fun _ => 0x0⟩,
   ⟨0x00190014, 1, 0x4, .roh, 0x0, 0x0, 0x0, fun _ => 0x0⟩,
   ⟨0x00190018, 1, 0x4, .roh, 0x0, 0x0, 0x0, fun _ => 0x0⟩,
   ⟨0x0019001C, 1, 0x4, .roh, 0x0, 0x0, 0x0, fun _ => 0x0⟩,
   ⟨0x00190020, 1, 0x4, .wo, 0x0, 0x0, 0x0, fun _ => 0x0⟩,
   ⟨0x00190024, 1, 0x4, .rw, 0xFFFFFFFF, 0x0, 0x0, fun _ => 0x0⟩,
   ⟨0x00190028, 1, 0x4, .rw, 0xFFFFFFFF, 0x0, 0x0, fun _ => 0x0⟩,
   ⟨0x0019002C, 1, 0x4, .roh, 0x0, 0x0, 0x0, fun _ => 0x0⟩,
   ⟨0x00190030, 1, 0x4, .wo, 0x0, 0x0, 0x0, fun _ => 0x0⟩,
   ⟨0x00190034, 1, 0x4, .roh, 0x0, 0x0, 0x0, fun _ => 0x0⟩,
   ⟨0x00190040, 8, 0x4, .rw, 0xFFFFFFFF, 0x0, 0x0, fun _ => 0x0⟩,
   ⟨0x00190080, 10, 0x4, .roh, 0x0, 0x0, 0x0, fun _ => 0x0⟩,
   ⟨0x001900C0, 5, 0x8, .roh, 0x0, 0x0, 0x0, fun _ => 0x0⟩,
   ⟨0x001900C4, 5, 0x8, .roh, 0x0, 0x0, 0x0, fun _ => 0x0⟩]

/-- The register arrays of block MGT (base 0x001A0000, R686). -/
def regsMGT : List RegDesc :=
  [⟨0x001A0000, 1, 0x4, .rwl, 0x0, 0x7, 0x0, fun _ => 0x4⟩,
   ⟨0x001A0004, 1, 0x4, .roh, 0x0, 0x0, 0x0, fun _ => 0x0⟩,
   ⟨0x001A0008, 1, 0x4, .w1c, 0x0, 0x0, 0x3F, fun _ => 0x0⟩,
   ⟨0x001A000C, 1, 0x4, .roh, 0x0, 0x0, 0x0, fun _ => sessionLo⟩,
   ⟨0x001A0010, 1, 0x4, .roh, 0x0, 0x0, 0x0, fun _ => sessionHi⟩,
   ⟨0x001A0014, 1, 0x4, .roh, 0x0, 0x0, 0x0, fun _ => 0x0⟩,
   ⟨0x001A0018, 1, 0x4, .roh, 0x0, 0x0, 0x0, fun _ => 0x0⟩,
   ⟨0x001A001C, 1, 0x4, .rwl, 0x0, 0xFFFFFFFF, 0x0, fun _ => serialLo⟩,
   ⟨0x001A0020, 1, 0x4, .rwl, 0x0, 0xFFFF, 0x0, fun _ => 0x256⟩,
   ⟨0x001A0024, 1, 0x4, .roh, 0x0, 0x0, 0x0, fun _ => 0x0⟩,
   ⟨0x001A0028, 1, 0x4, .roh, 0x0, 0x0, 0x0, fun _ => 0x0⟩,
   ⟨0x001A002C, 1, 0x4, .roh, 0x0, 0x0, 0x0, fun _ => 0x0⟩,
   ⟨0x001A0030, 1, 0x4, .rwl, 0x0, 0x7E, 0x0, fun _ => 0x0⟩,
   ⟨0x001A0034, 1, 0x4, .roh, 0x0, 0x0, 0x0, fun _ => 0x0⟩,
   ⟨0x001A0040, 8, 0x4, .wo, 0x0, 0x0, 0x0, fun _ => 0x0⟩,
   ⟨0x001A0060, 8, 0x4, .wo, 0x0, 0x0, 0x0, fun _ => 0x0⟩]

/-- The register arrays of the block whose base is `0x10000 * b` (R686); no block lies above 0x1A. -/
def blockRegs (b : Nat) : List RegDesc :=
  match b with
  | 0 => regsGLB
  | 1 => regsTB
  | 2 => regsTA
  | 3 => regsFAB
  | 4 => regsLN
  | 5 => regsING
  | 6 => regsCRC
  | 7 => regsEXP
  | 8 => regsCE
  | 9 => regsVER
  | 10 => regsBM
  | 11 => regsGY
  | 12 => regsHP
  | 13 => regsMP
  | 14 => regsSTP
  | 15 => regsFB
  | 16 => regsSV
  | 17 => regsDC
  | 18 => regsMI
  | 19 => regsCMP
  | 20 => regsPWR
  | 21 => regsHM
  | 22 => regsCAL
  | 23 => regsERR
  | 24 => regsACC
  | 25 => regsCFG
  | 26 => regsMGT
  | _ => []

/-- LO addresses of the LO/HI pairs (R15): first, how many, stride. -/
def pairTable : List (Nat × Nat × Nat) :=
  [(0x00000008, 1, 0x4), (0x00070F18, 1, 0x4), (0x00070044, 1, 0x4), (0x00080010, 40, 0x400),
   (0x00080018, 40, 0x400), (0x0008B008, 1, 0x4), (0x0008B010, 1, 0x4), (0x00090018, 1, 0x4),
   (0x000B0014, 1, 0x4), (0x000B0040, 1, 0x4), (0x000B0048, 1, 0x4), (0x000C0148, 8, 0x10),
   (0x000C0248, 8, 0x10), (0x000C0348, 8, 0x10), (0x000C0448, 8, 0x10), (0x000C0548, 8, 0x10),
   (0x000C0648, 8, 0x10), (0x00010010, 1, 0x4), (0x00010020, 1, 0x4), (0x0001002C, 1, 0x4),
   (0x00010034, 1, 0x4), (0x00010040, 1, 0x4), (0x00010048, 1, 0x4), (0x00010108, 2, 0x40),
   (0x00028000, 256, 0x20), (0x00030020, 1, 0x4), (0x00031000, 64, 0x20), (0x00031008, 64, 0x20),
   (0x000D0030, 6, 0x100), (0x000D0038, 6, 0x100), (0x000D0040, 6, 0x100), (0x000D0060, 6, 0x100),
   (0x000D0068, 6, 0x100), (0x000D0074, 6, 0x100), (0x000E000C, 4, 0x100), (0x000F000C, 6, 0x100),
   (0x000F0014, 6, 0x100), (0x000F001C, 6, 0x100), (0x000F0024, 6, 0x100), (0x000F002C, 6, 0x100),
   (0x000F0038, 6, 0x100), (0x000F0804, 8, 0x40), (0x000F080C, 8, 0x40), (0x000F0820, 8, 0x40),
   (0x00100030, 2, 0x100), (0x0010003C, 2, 0x100), (0x00120018, 1, 0x4), (0x00120024, 1, 0x4),
   (0x0005000C, 1, 0x4), (0x00050108, 8, 0x40), (0x00050110, 8, 0x40), (0x00050118, 8, 0x40),
   (0x00050120, 8, 0x40), (0x00050400, 4, 0x10), (0x00050408, 4, 0x10), (0x0006000C, 4, 0x40),
   (0x0006001C, 4, 0x40), (0x00130010, 1, 0x4), (0x00130018, 1, 0x4), (0x00130020, 1, 0x4),
   (0x00190010, 1, 0x4), (0x001900C0, 5, 0x8), (0x00161008, 105, 0x20), (0x0018001C, 1, 0x4),
   (0x001A000C, 1, 0x4), (0x001A0014, 1, 0x4), (0x001A001C, 1, 0x4)]

/-- `a` is the LO half of a pair. -/
def isLo (a : Nat) : Bool :=
  pairTable.any fun p => decide (p.1 ≤ a) && (a == p.1 || ((a - p.1) % p.2.2 == 0 && decide ((a - p.1) / p.2.2 < p.2.1)))

/-- Index of address `a` in the array `d`, when `d` holds it. -/
def RegDesc.index? (d : RegDesc) (a : Nat) : Option Nat :=
  if d.base ≤ a ∧ (a - d.base) % d.stride = 0 ∧ (a - d.base) / d.stride < d.count then
    some ((a - d.base) / d.stride)
  else none

/-- The array and index that hold the register at address `a`; none where no register is named (R13). -/
def find (a : Nat) : Option (RegDesc × Nat) :=
  (blockRegs (a / 0x10000)).findSome? fun d => (d.index? a).map fun i => (d, i)

/-- The reset word of the register at address `a`; 0 where no register is named (R13). -/
def resetWord (a : Nat) : BitVec 32 :=
  match find a with
  | some (d, i) => BitVec.ofNat 32 (d.reset i)
  | none => 0

end Sys2Proof.RegMap
end

