-- ==== Sys2Proof/Machine/Kv.lean ====
section
/-! DEFINITION. Sparse data by key: lists of pairs whose keys rise strictly. Registers, table
windows, DRAM and every store that is addressed by a number are kept this way, so that equal
contents are equal lists. -/

namespace Sys2Proof.Kv

variable {α : Type}

/-- The value at key `k`. -/
def get (l : List (Nat × α)) (k : Nat) : Option α := (l.find? (·.1 == k)).map Prod.snd

/-- The list with `k` holding `v`: what lies below `k`, then `k`, then what lies above it. -/
def set (l : List (Nat × α)) (k : Nat) (v : α) : List (Nat × α) :=
  l.filter (·.1 < k) ++ (k, v) :: l.filter (k < ·.1)

/-- The list without key `k`. -/
def del (l : List (Nat × α)) (k : Nat) : List (Nat × α) := l.filter (·.1 != k)

/-- The canonical form: keys rise strictly. -/
def sorted (l : List (Nat × α)) : Bool := decide (l.Pairwise fun x y => x.1 < y.1)

/-- The value at `k`, or `d` where none is listed. -/
def getD (l : List (Nat × α)) (k : Nat) (d : α) : α := (get l k).getD d

/-- The list with `k` holding `v`, where an unlisted key reads as `d`: writing `d` removes it. -/
def put [DecidableEq α] (l : List (Nat × α)) (k : Nat) (v d : α) : List (Nat × α) :=
  if v = d then del l k else set l k v

end Sys2Proof.Kv
end

