-- ==== Sys2Proof/Types/Fabric.lean ====
section
/-! DEFINITION. The data of the Prenu fabric (R368 to R401). -/

namespace Sys2Proof.Machine

/-- A fabric frame but for LSEQ, LEN and CRC, which each hop writes (R375). -/
structure FabFrame where
  ty : Nat
  flags : Nat
  dst : Nat
  src : Nat
  ttl : Nat
  flow : Nat
  arg : Nat
  pay : List Byte
  deriving DecidableEq, Repr

/-- A time mark of the upstream port (R391, R392): t1, t2 and t3 in 2^-16 ns. -/
structure FabMark where
  t1 : Option Nat
  t2 : Nat
  t3 : Option Nat
  deriving DecidableEq, Repr

/-- A request of this module without its response (R384). -/
structure Flow where
  id : Nat
  frame : FabFrame
  resent : Bool
  deriving DecidableEq, Repr

/-- A fabric port beside its registers (R368 to R374, R384, R391). -/
structure FabPort where
  /-- The active-lane mask. -/
  mask : Nat
  /-- Next LSEQ sent, frames sent and not acknowledged, oldest first, and resends in a row of the first. -/
  txSeq : Nat
  retry : List (Nat × FabFrame)
  resends : Nat
  /-- LSEQ expected. -/
  rxNext : Nat
  /-- Frames that wait to be sent. -/
  queue : List FabFrame
  /-- By class, modulo 65,536: credits spent, the latest total received, and the total returned. -/
  spent : List (Nat × Nat)
  returned : List (Nat × Nat)
  rxTotal : List (Nat × Nat)
  /-- Frames of higher classes sent in a row while a BULK, and a TUNNEL, frame waited (R376). -/
  passedBulk : Nat
  passedTunnel : Nat
  helloRun : Nat
  topoSeen : Bool
  /-- Serial number and port of the neighbour; serial 0 for none. -/
  neigh : Nat
  neighPort : Nat
  /-- As a parent: latest mark number, its departure, and the child's latest upstream mark with its arrival. -/
  mark : Nat
  t1 : Nat
  t4 : Option (Nat × Nat)
  /-- As a child: marks by number, and delay samples in 2^-17 ns, latest first, at most 16. -/
  marks : List (Nat × FabMark)
  delays : List Int
  flows : List Flow
  /-- An LWIDTH of this port has no answer yet (R317, R369). -/
  narrow : Bool
  /-- Frames that have come while a request for LS or LD waits (R418). -/
  parked : List FabFrame
  deriving DecidableEq, Repr

/-- An entry of the topology database (R377, R378): ports as (neighbour serial, neighbour port, state). -/
structure TopoEntry where
  serial : Nat
  priority : Nat
  fixedId : Nat
  version : Nat
  ports : List (Nat × Nat × Nat)
  deriving DecidableEq, Repr

/-- An arrival the root holds (R388): barrier, node, and the barrier record. -/
structure Arrival where
  id : Nat
  node : Nat
  pay : List Byte
  deriving DecidableEq, Repr

/-- The arrival this module has sent (R388, R389), with the start it has been released for. `again`: the root has changed
since, and has not answered. -/
structure Pend where
  id : Nat
  layer : Nat
  swath : Nat
  pay : List Byte
  start : Option Nat
  again : Bool
  deriving DecidableEq, Repr

/-- What a member has received of an entry's layout multicast (R386): the entry, its group, the MSEQ expected,
frames since the latest MC_ACK, and the tick of the latest MC_NAK. -/
structure McRx where
  src : Nat
  group : Nat
  next : Nat
  unacked : Nat
  nakAt : Option Nat
  deriving DecidableEq, Repr

/-- A part of an assignment table that has come in or been passed on (R378, R379): the root it is of, its EPOCH and
TOTAL, and its entries. -/
structure AssignPart where
  root : Nat
  epoch : Nat
  total : Nat
  ids : List (Nat × Option Nat)
  deriving DecidableEq, Repr

/-- A timed action of the firmware that waits for a slot (R347): its time in 2^-16 ns, code and arguments. -/
structure ActWait where
  time : Nat
  code : Nat
  arg0 : Nat
  arg1 : Nat
  deriving DecidableEq, Repr

/-- The fabric beside its registers. -/
structure Fabric where
  ports : List FabPort
  /-- VERSION of this module's latest TOPO. -/
  version : Nat
  db : List TopoEntry
  /-- The assignment table (R379): serial numbers with their ID, none for a module without. -/
  ids : List (Nat × Option Nat)
  epoch : Nat
  /-- Parts of tables received since the database last changed or settled, and the modules that have come since it last
  settled: as far as this module knows they are not READY (R385). -/
  parts : List AssignPart
  fresh : List Nat
  /-- Frames without a usable port (R381), and frames answered RETRY_LATER (R385). -/
  held : List FabFrame
  later : List FabFrame
  /-- Frames of this module that a NAK may still name, latest first, beside requests and layout (R385). -/
  sent : List FabFrame
  /-- At the root: arrivals held, the job's participants and number, and releases made. -/
  arrivals : List Arrival
  members : List Nat
  job : Option Nat
  released : List (Nat × List Byte)
  /-- At a participant: its arrival, barriers and actions armed, and the driving module. -/
  pend : Option Pend
  armed : List Nat
  actions : List Nat
  driver : Nat
  /-- As a member, and as an entry: next MSEQ, the frames in the replay ring, oldest first, by MSEQ, offset in the ring
  and bytes, and the latest MC_ACK of each node. -/
  rx : List McRx
  mseq : Nat
  replay : List (Nat × Nat × Nat)
  acks : List (Nat × Nat)
  /-- Hops from the time root (R392). -/
  hops : Nat
  /-- Requests that wait for a flow, and the next request tag (R384). -/
  asks : List FabFrame
  askTag : Nat
  /-- Timed actions of the firmware that wait for a slot (R347), and the root's next action ID (R394). -/
  waits : List ActWait
  actionId : Nat
  /-- The tick of the latest violation of a node, or of internal master `m` as 1024 + `m` (R396, R655). -/
  violAt : List (Nat × Nat)
  deriving DecidableEq, Repr

end Sys2Proof.Machine
end

