-- ==== Sys2Proof/Types/Health.lean ====
section
/-! DEFINITION. The data of the health monitors and of calibration beside their registers (R613 to R638). -/

namespace Sys2Proof.Machine

/-- A Fumarole channel (R616): for WARN, CRIT and SHUT, the valid samples in a row beyond a limit and inside the
limits by the hysteresis, and whether the level's condition holds. -/
structure HmChan where
  beyond : List Nat
  inside : List Nat
  held : List Bool
  deriving DecidableEq, Repr

/-- The coefficients V0 to V3 of a converter (R630): in force, at the start of the ramp, sought, and ramp steps
taken, 256 once there is no ramp. -/
structure Coef where
  now : List Int
  start : List Int
  goal : List Int
  step : Nat
  deriving DecidableEq, Repr

/-- Calibration beside its registers and point tables. -/
structure Cal where
  /-- Converters of targets 32 to 35. -/
  coefs : List Coef
  /-- Ports that have trim tables (R628, R632). -/
  trims : List Nat
  /-- The sensor rotation of R626: next temperature sensor and next voltage monitor. -/
  nextT : Nat
  nextV : Nat
  /-- Axes with a swap requested; axes whose second converter calibrates after a swap (R623). -/
  swaps : List Nat
  second : List Nat
  /-- Converter targets still to be calibrated before motion is enabled (R626, R633). -/
  first : List Nat
  /-- The tick of the latest change of a row's DELAY, by row (R624). -/
  stepAt : List (Nat × Nat)
  deriving DecidableEq, Repr

end Sys2Proof.Machine
end

