-- ==== Sys2Proof/Machine/State.lean ====
section
/-! DEFINITION. The machine's state as plain data, its state after reset, and the reasons a step can
stop. Every register of the spec is a word of `regs` under its address (Sys2Proof/Machine/RegMap.lean
names them); everything else the spec gives the module is in the fields beside it. -/

namespace Sys2Proof.Machine

/-- Faults. None is needed where the spec states an outcome; the one fault is an access of the
module's own to a DRAM address outside the 56 GiB the spec exposes (R497, R500). -/
inductive Fault where
  /-- Raised by a DRAM command whose address is above 0xD_FFFF_FFFF: the spec gives no memory there
  (R497). Safe: the machine stops where the hardware could not have been asked. -/
  | noSuchAddress
  deriving DecidableEq, Repr

/-- Refusals. -/
inductive Refusal where
  /-- Raised by an arm of `exec` whose command has no meaning yet. Safe: the machine stops. -/
  | notModelled (mnemonic : String)
  deriving DecidableEq, Repr

/-- The module. Each field's docstring names the rules that give it. -/
structure State where
  /-- Commands that are waiting, first in, first out. -/
  pending : List Instr
  /-- The register file: words that differ from their reset word, by address (R12 to R18, R686). -/
  regs : List (Nat × Word)
  /-- The writable table windows from 0x0100_0000, words that differ from 0, by address (R680). -/
  tables : List (Nat × Word)
  /-- The 56 GiB of exposed DRAM: bytes that differ from 0, by address (R497, R509). -/
  mem : List Host.Cell
  /-- The model's own: how many free values have been taken (log entry 3). -/
  freeCount : Nat
  /-- The configuration lock (R12, R580). -/
  locked : Bool
  /-- LO latches and staging of each register path (R15, R16, R668). -/
  paths : List PathSt
  /-- The error log (R646 to R648). -/
  log : ErrLog
  /-- The control cores beside ERR_CORE_STAT (R657 to R660). -/
  cores : Cores
  /-- Management access (R668 to R679). -/
  mgt : Mgt
  /-- Layers accepted and not yet wholly fired, in firing order (R105, R116). -/
  layers : List Layer
  /-- Bytes of the layer program region in use by layer bodies (R125). -/
  lpBytes : Nat
  /-- Expansion units XU0 to XU3 (R120 to R122). -/
  units : List ExpUnit
  /-- Tile rows expanded and not yet wholly freed, in firing order (R134, R138). -/
  rows : List ExpandedRow
  /-- Surveys running or final, in firing order (R139 to R145). -/
  surveys : List Survey
  /-- The Wellspring counter (R327 to R345). -/
  clk : Clock
  /-- The stream parser (R54, R110 to R119). -/
  parser : Parser
  /-- Engines, tile contexts, commit entries and the staging ring (R155 to R216). -/
  ver : Verify
  /-- The beam map beside its tables (R217 to R247). -/
  beams : Beams
  /-- Swaths, position state and head temperatures (R248 to R284). -/
  gy : Geyser
  /-- Layers whose record is open (R551, R563). -/
  recs : List LayerRec
  /-- Blocks stored and not yet read back (R561). -/
  blocks : List StoredBlock
  /-- Fumarole channels (R613 to R619). -/
  hm : List HmChan
  /-- Calibration (R620 to R633). -/
  cal : Cal
  /-- Curves and kernels of the latest accepted layer (R680). -/
  shown : Option Shown
  /-- SRAM protection (R516). -/
  sram : Sram
  /-- Lines in the cell cache by DRAM line number, least recently used first (R127, R128). -/
  cache : List Nat
  /-- Lines pinned for the swath (R128). -/
  pins : List Nat
  /-- Profile generators, feedback sources, compare units and servo loops (R434 to R496). -/
  motion : Motion
  /-- What the module has put on its links and pins, latest first: the model's own log of its outputs. -/
  sent : List Out
  /-- Head ports and waveform sets (R285 to R326). -/
  hp : HeadPorts
  /-- Time domains A and B (R334 to R341). -/
  doms : List Domain
  /-- Timed-action slots that have been dispatched (R349, R350). -/
  due : List TaDue
  /-- The Prenu fabric (R368 to R401). -/
  fab : Fabric
  /-- The serial lanes (R402 to R425). -/
  ln : Lanes
  /-- DRAM beside its bytes (R497 to R521). -/
  dram : Dram
  /-- The ingest link and its channels (R522 to R538). -/
  ing : Ingest
  /-- Start-up and configuration (R570 to R594). -/
  boot : Boot
  /-- Power transitions (R595 to R612). -/
  pw : Power
  deriving DecidableEq, Repr

/-- The machine right after reset: every register at the reset word of its table, nothing listed in
memory, the start-up of R583 about to begin. -/
def State.reset : State where
  pending := []
  regs := []
  tables := []
  mem := []
  freeCount := 0
  locked := false
  paths := []
  log := ⟨[], [], []⟩
  cores := ⟨[], [], [], [], [], []⟩
  mgt := ⟨[], [], [], .ok, 0, [], none, [], []⟩
  layers := []
  lpBytes := 0
  units := List.replicate 4 ⟨.inService, none, false, 0, 0, none, false, []⟩
  rows := []
  surveys := []
  clk := ⟨0, 0, 0, 27, false, false, false, false, 0, 0, false, false, none, 0, none, none⟩
  parser := ⟨⟨.idle, false, 0, 0, none, [], [], [], [], none, none, none, none, 0, false, none, [], [], 0, 0⟩, ⟨.idle, false, 0, 0, none, [], [], [], [], none, none, none, none, 0, false, none, [], [], 0, 0⟩, [], false, false, 0⟩
  ver := ⟨(List.range 40).map fun e => ⟨if e % 10 = 9 then .spare else .inService, none, none, none, none, none, 0, none, 0, 0, ⟨0, 0, 0, 0⟩⟩, [], [], 0, [], []⟩
  beams := ⟨none, false, [], [], [], [], none⟩
  gy := ⟨[], ⟨false, 0, 0, 0, []⟩, false, none, 0, [], [], [], 0, none, [], none⟩
  recs := []
  blocks := []
  hm := List.replicate 56 ⟨[0, 0, 0], [0, 0, 0], [false, false, false]⟩
  cal := ⟨List.replicate 4 ⟨[0, 0, 0, 0], [0, 0, 0, 0], [0, 0, 0, 0], 256⟩, [], 0, 0, [], [], [], []⟩
  shown := none
  sram := ⟨[], [], [], []⟩
  cache := []
  pins := []
  motion := ⟨List.replicate 6 ⟨.idle, .idle, 0, 0, 0, 1, 1, false, false, false, 0, false, none, 0, false, 0, 0, 0, none, 0, 0, 0, 0, false⟩, List.replicate 6 ⟨0, 0, 0, 0, 0, false, none, none, none, 0, none, []⟩, List.replicate 8 ⟨none, 0, 0⟩, List.replicate 2 ⟨0, 0, ⟨0, 0, 0, 0⟩, ⟨0, 0, 0, 0⟩, 0, none, false, false⟩, ⟨false, false, 0⟩, none, List.replicate 18 ⟨false, 0, 0⟩, 0, 0⟩
  sent := []
  hp := ⟨List.replicate 6 ⟨List.replicate 8 ⟨0, none, 0, 0, none, [], [], 0, [], 0, 0, []⟩, [], [], 0, 0, 0, 0, none, 1, [], false, 0, 0, [], false, false, none, [], 0, []⟩, ⟨[], [], none⟩⟩
  doms := List.replicate 2 ⟨[], 0, 0, false, 0, none, none, none, none, 0, none, 0⟩
  due := []
  fab := ⟨List.replicate 4 ⟨0, 0, [], 0, 0, [], [], [], [], 0, 0, 0, false, 0, 0, 0, 0, none, [], [], [], false, []⟩, 0, [], [], 0, [], [], [], [], [], [], [], none, [], none, [], [], 0, [], 0, [], [], 0, [], 0, [], 0, []⟩
  ln := ⟨List.replicate 41 ⟨0, 0, false, false, 0, false, [], false, 0⟩, [], none⟩
  dram := ⟨[], [], [], [], [], none, [], [], [], [], [], [], [], []⟩
  ing := ⟨0, [], 0, 0, [], [], List.replicate 8 ⟨none, false, 0, [], []⟩, [], [], 0, 0, [], [], false, [], [], []⟩
  boot := ⟨.reset, [[], []], [none, none, none, none], none, none, none, [], [], [], false, false, [], 0, false, none, none⟩
  pw := ⟨none, none, false, 0, .firmware, .firmware, false, 0, List.replicate 4 ⟨false, false, false, 0⟩, []⟩

end Sys2Proof.Machine
end

