-- ==== Sys2Proof/Machine/Ops.lean ====
section
/-! DEFINITION. The named operations over registers, memory and time that every meaning uses. -/

namespace Sys2Proof.Machine

open Sys2Proof.Bits

/-- The word the register file holds at address `a` (R12; 0 where no register is named, R13). -/
def State.reg (s : State) (a : Nat) : Word := Kv.getD s.regs a (RegMap.resetWord a)

/-- The register file with `a` holding `w`. -/
def State.setReg (s : State) (a : Nat) (w : Word) : State :=
  { s with regs := Kv.put s.regs a w (RegMap.resetWord a) }

/-- The number the register at `a` holds. -/
def State.regN (s : State) (a : Nat) : Nat := (s.reg a).toNat

/-- The register at `a` holding `v` modulo 2^32. -/
def State.setRegN (s : State) (a v : Nat) : State := s.setReg a (BitVec.ofNat 32 v)

/-- Field `f` of the register at `a`. -/
def State.fld (s : State) (a : Nat) (f : Field) : Nat := f.get (s.reg a)

/-- Field `f` of the register at `a`, as a flag. -/
def State.flag (s : State) (a : Nat) (f : Field) : Bool := s.fld a f != 0

/-- The register at `a` with field `f` holding `v`. -/
def State.setFld (s : State) (a : Nat) (f : Field) (v : Nat) : State := s.setReg a (f.put v (s.reg a))

/-- A counter register that saturates at 0xFFFF_FFFF, raised by `n`. -/
def State.count (s : State) (a n : Nat) : State := s.setRegN a (satAdd 32 (s.regN a) n)

/-- A counter field that saturates at its greatest value, raised by `n`. -/
def State.countFld (s : State) (a : Nat) (f : Field) (n : Nat) : State :=
  s.setFld a f (satAdd f.width (s.fld a f) n)

/-- The 64-bit value of the pair whose LO is at `a` (R15). -/
def State.pair (s : State) (a : Nat) : Nat := s.regN a + 2 ^ 32 * s.regN (a + 4)

/-- The pair at `a` as a signed value. -/
def State.pairS (s : State) (a : Nat) : Int := signed 64 (s.pair a)

/-- The pair at `a` holding `v` modulo 2^64. -/
def State.setPair (s : State) (a v : Nat) : State := (s.setRegN a v).setRegN (a + 4) (v / 2 ^ 32)

/-- The pair at `a` holding the signed value `v`. -/
def State.setPairS (s : State) (a : Nat) (v : Int) : State := s.setPair a (twos 64 v)

/-- The pair at `a` raised by `n`, modulo 2^64. -/
def State.countPair (s : State) (a n : Nat) : State := s.setPair a (s.pair a + n)

/-- The module puts `o` on a link or a pin. -/
def State.emit (s : State) (o : Out) : State := { s with sent := o :: s.sent }

/-! ### DRAM -/

/-- The first address above the exposed DRAM, 56 GiB (R497). -/
def dramEnd : Nat := 0xE00000000

/-- The byte at DRAM address `a`; DRAM is zero until written (R509). -/
def State.ld (s : State) (a : Nat) : Byte := Kv.getD s.mem a 0

/-- DRAM with address `a` holding `b`. -/
def State.st (s : State) (a : Nat) (b : Byte) : State := { s with mem := Kv.put s.mem a b 0 }

/-- `n` bytes from DRAM address `a`. -/
def State.ldBytes (s : State) (a : Nat) : Nat → List Byte
  | 0 => []
  | n + 1 => s.ld a :: s.ldBytes (a + 1) n

/-- DRAM with the bytes `bs` from address `a`, errors aside: what the initialiser writes. -/
def State.poke (s : State) (a : Nat) : List Byte → State
  | [] => s
  | b :: bs => (s.st a b).poke (a + 1) bs

/-- The error pattern of 8-byte word `w`: the bits of its stored codeword that differ (R505). -/
def State.errOf (s : State) (w : Nat) : Nat := Kv.getD s.dram.errs w 0

/-- Word `w` with error pattern `m`. -/
def State.setErr (s : State) (w m : Nat) : State :=
  { s with dram := { s.dram with errs := Kv.put s.dram.errs w m 0 } }

/-- The flip mask of R512: data bits [63:0] and check bits [71:64]. -/
def State.flipMask (s : State) : Nat :=
  s.regN Reg.MI_FLIPMASK_0 + 2 ^ 32 * s.regN Reg.MI_FLIPMASK_1 + 2 ^ 64 * (s.regN Reg.MI_FLIPMASK_2 % 256)

/-- A write to DRAM from address `a` meets an armed flip mask (R512): its first codeword is stored flipped. -/
def State.flipDram (s : State) (a : Nat) : State :=
  let c := Reg.MI_FLIP_CTRL
  if s.flag c Fld.MI_FLIP_CTRL_ARM ∧ s.fld c Fld.MI_FLIP_CTRL_TARGET = 0 then
    ((s.setErr (a / 8) (s.errOf (a / 8) ^^^ s.flipMask)).setFld c Fld.MI_FLIP_CTRL_ARM 0).setFld
      Reg.MI_EVENT Fld.MI_EVENT_FLIP_DONE 1
  else s

/-- DRAM with the bytes `bs` taken in from address `a`: words written whole lose their errors (R507). -/
def State.takeBytes (s : State) (a : Nat) (bs : List Byte) : State :=
  let keep := fun (e : Nat × Nat) => decide (8 * e.1 < a ∨ a + bs.length < 8 * e.1 + 8)
  let s := s.poke a bs
  { s with dram := { s.dram with errs := s.dram.errs.filter keep } }

/-- DRAM with the bytes `bs` written from address `a`, past the merge buffer (R507, R512). -/
def State.stBytes (s : State) (a : Nat) (bs : List Byte) : State :=
  if bs.isEmpty then s else (s.takeBytes a bs).flipDram a

/-- DRAM with the `n` bytes from address `a` zero and free of errors. -/
def State.clearMem (s : State) (a n : Nat) : State :=
  { s with
    mem := s.mem.filter fun c => decide (c.1 < a ∨ a + n ≤ c.1)
    dram := { s.dram with errs := s.dram.errs.filter fun e => decide (8 * e.1 < a ∨ a + n < 8 * e.1 + 8) } }

/-- The word of a table window (R680). -/
def State.tbl (s : State) (a : Nat) : Word := Kv.getD s.tables a 0

/-- A table window with address `a` holding `w`. -/
def State.setTbl (s : State) (a : Nat) (w : Word) : State :=
  { s with tables := Kv.put s.tables a w 0 }

/-- `n` bytes of a table window from the word-aligned address `a`. -/
def State.tblBytes (s : State) (a n : Nat) : List Byte :=
  ((List.range (divUp n 4)).flatMap fun i => toLE 4 (s.tbl (a + 4 * i)).toNat).take n

/-- The bytes `bs`, a whole number of words, written into a table window from address `a`. -/
def State.setTblBytes (s : State) (a : Nat) (bs : List Byte) : State :=
  (List.range (bs.length / 4)).foldl (fun t i => t.setTbl (a + 4 * i) (BitVec.ofNat 32 (rd bs (4 * i) 4))) s

/-! ### The queue -/

/-- The command lets the counter run on: what waits behind it belongs to a later tick. -/
def Instr.passesTime : Instr → Bool
  | .feedbackTick .. | .servoSample .. | .strobePulse .. | .swathEndBoundary | .slewComplete | .taDispatch
  | .swathStartAction | .barrierAction | .handoverAction | .calApplyAction | .powerAction | .domainSwitch | .gpioSet
  | .ppsOutPulse => true
  | _ => false

/-- Commands that wait in the queue and belong to this tick (R356). -/
def State.queued (s : State) : List Instr := s.pending.takeWhile fun c => !Instr.passesTime c

/-! ### Free values -/

/-- The next free value (log entry 3), and the state that has taken it. -/
def State.free (s : State) : Nat × State :=
  (Config.freeNat s.freeCount, { s with freeCount := s.freeCount + 1 })

/-- As `free`, an integer. -/
def State.freeI (s : State) : Int × State :=
  (Config.freeInt s.freeCount, { s with freeCount := s.freeCount + 1 })

/-- A milestone is reached, `us` µs after VIN good on the AON counter (R593). -/
def State.milestone (s : State) (m us : Nat) : State :=
  if s.regN (Reg.CFG_MILESTONE m) = 0 then s.setRegN (Reg.CFG_MILESTONE m) us else s

/-- A milestone is reached at an instant no command gives: its AON time is a free value (R593). -/
def State.milestoneNow (s : State) (m : Nat) : State :=
  if s.regN (Reg.CFG_MILESTONE m) = 0 then
    let (n, s) := s.free
    s.setRegN (Reg.CFG_MILESTONE m) n
  else s

/-! ### Time -/

/-- Units of 2^-28 ns in 2^64 seconds: the span of the counter (R329). -/
def clockSpan : Nat := 2 ^ 64 * 1000000000 * 2 ^ 28

/-- The slew step of one tick (R329). -/
def Clock.slewStep (c : Clock) (n : Nat) : Int :=
  if 0 < c.slewRem then min c.slewRem ((n * c.slewK : Nat) : Int)
  else max c.slewRem (-((n * c.slewK : Nat) : Int))

/-- `n` ticks of the 1.0 GHz TB clock with increment `incr` (R329, R331): what `n` single ticks add up
to. Nothing moves until the TB PLL has locked. -/
def Clock.advance (c : Clock) (incr n : Nat) : Clock :=
  if c.pllLocked then
    let d := c.slewStep n
    { c with
      count := (((c.count + n * incr : Nat) : Int) + d).toNat % clockSpan
      slewRem := c.slewRem - d
      ticks := (c.ticks + n) % 2 ^ 64 }
  else c

/-- The increment in force: TB_INCR held within 122 ppm of 1.0 ns (R330). -/
def State.tbIncr (s : State) : Nat := min (max (s.regN Reg.TB_INCR) 0x0FFF8000) 0x10008000

/-- The machine `n` TB ticks later, nothing else happening (R329). -/
def State.elapse (s : State) (n : Nat) : State := { s with clk := s.clk.advance s.tbIncr n }

/-- Counter time in 2^-16 ns: the flat form of R327. -/
def State.now16 (s : State) : Nat := s.clk.count / 2 ^ 12

/-- Counter time in whole ns. -/
def State.nowNs (s : State) : Nat := s.clk.count / 2 ^ 28

/-- Ticks until the counter has gained `d` units of 2^-28 ns (R329). -/
def Clock.ticksFor (c : Clock) (incr d : Nat) : Nat :=
  let i := max incr 1
  if 0 < c.slewRem then max (divUp d (i + c.slewK)) (divUp (d - c.slewRem.toNat) i)
  else if c.slewRem = 0 then divUp d i
  else min (divUp d (max (i - c.slewK) 1)) (divUp (d + c.slewRem.natAbs) i)

/-- The machine at the first tick at which counter time is `t` or later, in 2^-16 ns; at once where it is
already. -/
def State.runTo (s : State) (t : Nat) : State :=
  if t * 2 ^ 12 ≤ s.clk.count then s
  else s.elapse (s.clk.ticksFor s.tbIncr (t * 2 ^ 12 - s.clk.count))

/-- T_NS of now (R327). -/
def State.tNs (s : State) : Nat := s.nowNs % 2 ^ 64

/-- FRAC of now (R329). -/
def State.tFrac (s : State) : Nat := s.now16 % 65536

/-- The flat form of a full timestamp (R327). -/
def flat (sec ns frac : Nat) : Nat := (sec * 1000000000 + ns) * 65536 + frac

/-- `ts_diff` of R328 on flat times. -/
def tsDiff (a b : Nat) : Int := clamp ((a : Int) - (b : Int)) (-(2 ^ 63 : Nat)) ((2 ^ 63 : Nat) - 1)

/-- `ts_add` of R328 on flat times. -/
def tsAdd (a : Nat) (d : Int) : Nat := ((a : Int) + d).toNat % (2 ^ 64 * 1000000000 * 65536)

/-- Time domain states (R362). -/
def State.domState (s : State) (d : Nat) : Nat := s.fld (Reg.TB_DOM_STATUS d) Fld.TB_DOM_STATUS_STATE

/-- The selection: 0 A, 1 B, 2 FREE (R359). -/
def State.sel (s : State) : Nat := s.fld Reg.TB_STATUS Fld.TB_STATUS_SEL

/-- Time quality: the first row of R333 that holds; a follower of fabric time carries its root's (R337). -/
def State.tq (s : State) : Nat :=
  if !s.clk.everSet then 0
  else if s.sel ≥ 2 then 1
  else if s.domState s.sel ≠ 2 ∨ s.clk.restored then 2
  else if s.fld (Reg.TB_DOM_CFG s.sel) Fld.TB_DOM_CFG_SRC = 2 then s.clk.fabTq
  else if s.clk.slewRem ≠ 0 then 3 else 4

/-- The slew step for a rate in ppb (R340). -/
def slewStepOf (rate : Nat) : Nat := (min (max rate 1) 100000 * 2 ^ 28 + 500000000) / 1000000000

end Sys2Proof.Machine
end

