-- ==== Sys2Proof/Machine/StateArea.lean ====
section
/-! DEFINITION. The state area of the configuration flash (R586, R587). -/

namespace Sys2Proof.Machine

open Sys2Proof.Bits

/-- Bytes a record takes (R587). -/
def StRec.size (r : StRec) : Nat := 16 + r.pay.length

/-- Bytes of a half in use: a record that would cross a 4 KiB page begins the next. -/
def StHalf.used (h : StHalf) : Nat :=
  h.recs.foldl (fun n r => (if 4096 < n % 4096 + r.size then divUp n 4096 * 4096 else n) + r.size) 32

/-- Two records of one type carry the same thing: the bank, the slot, the row, or the calibration target and
point (R587, R632). -/
def StRec.same (a b : StRec) : Bool :=
  a.ty == b.ty && (match a.ty with
    | 1 => a.pay.take 2 == b.pay.take 2
    | 2 => a.pay.take 2 == b.pay.take 2
    | 4 => a.pay.take 4 == b.pay.take 4
    | _ => a.pay == b.pay)

/-- The live records: each the latest of its kind, cancelled bank retirements left out (R587). -/
def liveRecs : List StRec → List StRec
  | [] => []
  | r :: rs =>
    if rs.any (fun x => x.same r) || (r.ty == 1 && rd r.pay 2 1 == 2) then liveRecs rs else r :: liveRecs rs

/-- Half `h` of device `d`, where it is valid: its serial number is the module's (R586). -/
def State.validHalf (s : State) (d h : Nat) : Option StHalf :=
  (s.boot.halves.getD (2 * d + h) none).filter fun x => x.serial == s.pair Reg.GLB_SERIAL_LO

/-- The half of device `d` in use: the valid one with the greater HALF_GEN (R586). -/
def State.halfOf (s : State) (d : Nat) : Option Nat :=
  match s.validHalf d 0, s.validHalf d 1 with
  | none, none => none
  | some _, none => some 0
  | none, some _ => some 1
  | some a, some b => some (if a.gen < b.gen then 1 else 0)

/-- The records of device `d`. -/
def State.stRecs (s : State) (d : Nat) : List StRec :=
  match s.halfOf d with
  | some h => ((s.boot.halves.getD (2 * d + h) none).map (·.recs)).getD []
  | none => []

/-- Half `h` of device `d` holds `x`. -/
def State.setHalf (s : State) (d h : Nat) (x : Option StHalf) : State :=
  { s with boot := { s.boot with halves := s.boot.halves.set (2 * d + h) x } }

/-- Bytes of a half of the state area (R571). -/
def halfBytes : Nat := 2097152

/-- Record `r` is appended on device `d`; a half 75 % full is compacted into the other (R587). A device with no
valid half begins half 0 (log entry 50). -/
def State.appendRec (s : State) (d : Nat) (r : StRec) : State :=
  let ser := s.pair Reg.GLB_SERIAL_LO
  let (h, x) : Nat × StHalf := match s.halfOf d with
    | some h => (h, (s.boot.halves.getD (2 * d + h) none).getD ⟨1, ser, []⟩)
    | none => (0, ⟨1, ser, []⟩)
  let x : StHalf := { x with recs := x.recs ++ [r] }
  if 3 * halfBytes ≤ 4 * x.used then
    (s.setHalf d (1 - h) (some ⟨x.gen + 1, ser, liveRecs x.recs⟩)).setHalf d h none
  else s.setHalf d h (some x)

/-- The device whose state area is read at start (R586): the one the image does not come from, where it has a valid
half, else the other. -/
def State.stDev (s : State) : Nat :=
  let d := 1 - s.fld Reg.CFG_STATUS Fld.CFG_STATUS_SOURCE
  if (s.halfOf d).isNone ∧ (s.halfOf (1 - d)).isSome then 1 - d else d

/-- CFG_STATE_INFO shows the state area read at start. -/
def State.showState (s : State) : State :=
  let d := s.stDev
  match s.halfOf d with
  | none => s.setRegN Reg.CFG_STATE_INFO 0
  | some h =>
    let x := (s.boot.halves.getD (2 * d + h) none).getD ⟨0, 0, []⟩
    s.setRegN Reg.CFG_STATE_INFO
      ((liveRecs x.recs).length % 65536 + 65536 * (100 * x.used / halfBytes) + 2 ^ 23 * h)

/-- A state write goes to both devices, golden first (R586). -/
def State.stateWrite (s : State) (r : StRec) : State := ((s.appendRec 1 r).appendRec 0 r).showState

end Sys2Proof.Machine
end

