-- ==== Sys2Proof/Machine/Flags.lean ====
section
/-! DEFINITION. Flags: event bits (R12, R14), flagged writes (R656), and the error log (R643 to R652). -/

namespace Sys2Proof.Machine

open Sys2Proof.Bits

/-- Sets a W1C event flag (R14: hardware's set is never lost). -/
def State.event (s : State) (a : Nat) (f : Field) : State := s.setFld a f (2 ^ f.width - 1)

/-- PATH code of ACC_FLAG_INFO (R667). An image entry is applied as a write from the management port (R579). -/
def pathCode : Path → Nat
  | .mgmt => 0 | .spi => 1 | .tunnel _ => 2 | .firmware => 3 | .image => 0 | .action => 4

/-- Source node of ACC_FLAG_INFO (R667). -/
def pathNode : Path → Nat
  | .tunnel n => n
  | _ => 0

/-- REASON codes (R656). -/
def reasonCode : FlagReason → Nat
  | .locked => 1 | .refused => 2 | .table => 3 | .owner => 4 | .self => 5

/-- A write to `addr` that a rule ignores "and flags in the ACC block" (R656). -/
def State.accFlag (s : State) (p : Path) (addr : Nat) (r : FlagReason) : State :=
  (((s.count Reg.ACC_FLAGS 1).setRegN Reg.ACC_FLAG_ADDR addr).setRegN Reg.ACC_FLAG_INFO
    (pathCode p + 256 * reasonCode r + 65536 * (pathNode p % 1024))).event
      Reg.ACC_EVENT Fld.ACC_EVENT_FLAG

/-! ### The error log -/

/-- Classes of R639. -/
inductive Cls where
  | corrected | contained | degraded | stopping | fatal
  deriving DecidableEq, Repr

/-- Class codes of R639. -/
def Cls.code : Cls → Nat
  | .corrected => 1 | .contained => 2 | .degraded => 3 | .stopping => 4 | .fatal => 5

/-- The ring entry of SEQ `q`. -/
def State.ringAt (s : State) (q : Nat) : Option RingEntry := Kv.get s.log.ring (q % 256)

/-- The entry the next record would take is open, or not mirrored yet, so that it cannot be reused (R646). -/
def State.nextEntryOpen (s : State) : Bool :=
  match s.ringAt (s.regN Reg.ERR_NEXT_SEQ) with
  | some e => e.isOpen || !e.mirrored
  | none => false

/-- The ring holds an open record of unit `u` (R647). -/
def State.unitOpen (s : State) (u : Nat) : Bool :=
  s.log.ring.any fun e => e.2.isOpen && e.2.record.unit == u

/-- `r` enters the ring under the next SEQ (R643, R646). -/
def State.ringEnter (s : State) (r : ErrRec) : State :=
  let q := s.regN Reg.ERR_NEXT_SEQ
  let e : RingEntry := ⟨{ r with seq := q }, true, false, false⟩
  (({ s with log := { s.log with ring := Kv.set s.log.ring (q % 256) e } }).setRegN
    Reg.ERR_NEXT_SEQ (q + 1)).event Reg.ERR_EVENT Fld.ERR_EVENT_RECORD

/-- RFLAGS bits of R643. -/
def rflagOvf : Nat := 1
def rflagAcked : Nat := 2
def rflagRingFull : Nat := 32

/-- `r` is written to its unit's overflow slot, which is empty (R647, R648). -/
def State.slotFill (s : State) (r : ErrRec) (ringFull : Bool) : State :=
  let fl := r.rflags ||| rflagOvf ||| (if ringFull then rflagRingFull else 0)
  let s := { s with log := { s.log with
    slots := Kv.set s.log.slots r.unit { r with rflags := fl, count := 0 }
    ringWait := if ringFull then s.log.ringWait ++ [r.unit] else s.log.ringWait } }
  let s := s.event Reg.ERR_EVENT Fld.ERR_EVENT_OVERFLOW
  if ringFull then s.event Reg.ERR_EVENT Fld.ERR_EVENT_RING_FULL else s

/-- A new error of a unit whose slot already holds `o` (R647): the higher class is kept, the other is
counted. -/
def State.slotCount (s : State) (o r : ErrRec) : State :=
  let n := satAdd 32 o.count 1
  let keep : ErrRec := if o.cls < r.cls then { r with rflags := r.rflags ||| rflagOvf, count := n }
    else { o with count := n }
  (({ s with log := { s.log with slots := Kv.set s.log.slots r.unit keep } }).count
    Reg.ERR_COUNTED 1).event Reg.ERR_EVENT Fld.ERR_EVENT_COUNTED

/-- The 32 bytes of an error record (R643). -/
def ErrRec.bytes (r : ErrRec) : List Byte :=
  toLE 1 r.cls ++ toLE 1 r.block ++ toLE 2 r.code ++ toLE 1 r.unit ++ toLE 1 r.rflags ++
  toLE 2 r.tFrac ++ toLE 4 r.seq ++ toLE 4 r.count ++ toLE 8 r.tNs ++ toLE 8 r.info

/-- The fatal store takes `r` (R652); ERR_LAST_FATAL reads it. -/
def State.fatalStore (s : State) (r : ErrRec) : State :=
  (List.range 8).foldl (fun t i => t.setRegN (Reg.ERR_LAST_FATAL i) (rd r.bytes (4 * i) 4)) s

/-- An error with the given class, block number, CODE, unit and INFO is logged (R643 to R648, R652).
The stop a fatal error brings is `fatalStop` (R641), which the raising rule calls as well (R640). -/
def State.logErr (s : State) (c : Cls) (block code unit info : Nat) : State :=
  let r : ErrRec := ⟨c.code, block, code, unit, s.tq * 4, s.tFrac, 0, 0, s.tNs, info % 2 ^ 64⟩
  let s := s.count (Reg.ERR_CLASS_COUNT (c.code - 1)) 1
  let s := match Kv.get s.log.slots unit with
    | some o => s.slotCount o r
    | none =>
      if s.unitOpen unit then s.slotFill r false
      else if s.nextEntryOpen then s.slotFill r true
      else s.ringEnter r
  match c with
  | .fatal =>
    ((s.fatalStore r).setFld Reg.ERR_STATUS Fld.ERR_STATUS_FATAL 1).event
      Reg.ERR_EVENT Fld.ERR_EVENT_FATAL
  | _ => s

/-! Unit numbers of R644. -/
def unitXu (n : Nat) : Nat := 52 + n
def unitParser : Nat := 56
def unitLane (n : Nat) : Nat := 57 + n
def unitIng (c : Nat) : Nat := 98 + c
def unitHp (p : Nat) : Nat := 106 + p
def unitFab (p : Nat) : Nat := 112 + p
def unitFabric : Nat := 116
def unitDram (c : Nat) : Nat := 117 + c
def unitSram : Nat := 133
def unitAxis (a : Nat) : Nat := 134 + a
def unitCrc (u : Nat) : Nat := 140 + u
def unitCounter : Nat := 144
def unitDomain (d : Nat) : Nat := 145 + d
def unitTa : Nat := 147
def unitGy : Nat := 148
def unitBm : Nat := 149
def unitVer : Nat := 150
def unitCmp : Nat := 151
def unitPower : Nat := 152
def unitHm (c : Nat) : Nat := 153 + c
def unitCal : Nat := 209
def unitCfg : Nat := 210
def unitAcc : Nat := 211
def unitReg : Nat := 212

/-- CODE of R643: the flag's bit number and a cause. -/
def errCode (f : Field) (cause : Nat) : Nat := f.lo + 256 * cause

/-- CODE of an error that sets no EVENT flag. -/
def errCodeNone (cause : Nat) : Nat := 0xFF + 256 * cause

/-- INFO of "any other" block (R645): the block's EVENT register at detection. -/
def State.infoOf (s : State) (ev : Nat) : Nat := s.regN ev

/-- An error that sets flag `f` of the EVENT register `ev` of its block and is logged with that code
(R643, R645). -/
def State.raise (s : State) (c : Cls) (ev : Nat) (f : Field) (cause unit : Nat) : State :=
  let s := s.event ev f
  s.logErr c (ev / 65536) (errCode f cause) unit (s.infoOf ev)

/-- As `raise`, with the INFO the table of R645 gives. -/
def State.raiseInfo (s : State) (c : Cls) (ev : Nat) (f : Field) (cause unit info : Nat) : State :=
  (s.event ev f).logErr c (ev / 65536) (errCode f cause) unit info

/-- Regions initialised so far (R509). -/
def State.initRegions (s : State) : Nat := s.fld Reg.MI_STATUS Fld.MI_STATUS_INIT_REGIONS

/-- The region of exposed address `a` is initialised (R510). -/
def State.inited (s : State) (a : Nat) : Bool := a / 2 ^ 30 < s.initRegions

/-- The address of the error-log mirror (R650). -/
def errMirror : Nat := 0xDFC400000

/-- Firmware's background work, the mirroring of the log among it, is paused (R657, R659). -/
def State.bgPaused (s : State) : Bool := s.flag Reg.ERR_STATUS Fld.ERR_STATUS_BG_PAUSED

/-- Record `r` is copied to the mirror (R650). -/
def State.mirrorRec (s : State) (r : ErrRec) : State :=
  (s.stBytes (errMirror + 32 * (r.seq % 1048576)) r.bytes).setRegN Reg.ERR_MIRROR_SEQ r.seq

/-- Records that wait because the ring was full enter at the next free entries (R648). -/
def State.ringDrain (s : State) : Nat → State
  | 0 => s
  | n + 1 =>
    match s.log.ringWait with
    | [] => s
    | u :: us =>
      if s.nextEntryOpen then s
      else match Kv.get s.log.slots u with
        | some r =>
          State.ringDrain (({ s with log := { s.log with
            slots := Kv.del s.log.slots u, ringWait := us } }).ringEnter r) n
        | none => State.ringDrain { s with log := { s.log with ringWait := us } } n

/-- The record in the slot of unit `u` enters the ring, its unit's open record having been
acknowledged (R647). -/
def State.promote (s : State) (u : Nat) : State :=
  match Kv.get s.log.slots u with
  | none => s
  | some r =>
    if s.log.ringWait.contains u then s
    else if s.nextEntryOpen then
      ({ s with log := { s.log with
        slots := Kv.set s.log.slots u { r with rflags := r.rflags ||| rflagRingFull }
        ringWait := s.log.ringWait ++ [u] } }).event Reg.ERR_EVENT Fld.ERR_EVENT_RING_FULL
    else ({ s with log := { s.log with slots := Kv.del s.log.slots u } }).ringEnter r

/-- The open record of SEQ `q`, if there is one. -/
def State.openAt (s : State) (q : Nat) : Option RingEntry :=
  match s.ringAt q with
  | some e => if e.isOpen && e.record.seq == q then some e else none
  | none => none

/-- The SEQs of the records in the ring, from the oldest. -/
def State.ringSeqs (s : State) : List Nat :=
  let nx := s.regN Reg.ERR_NEXT_SEQ
  ((List.range 256).map fun i => (nx + 2 ^ 32 - 256 + i) % 2 ^ 32).filter fun q =>
    (s.ringAt q).any fun e => e.record.seq == q

/-- The acknowledged record of SEQ `q` is copied to the mirror, if it has not been. -/
def State.mirrorSeq (s : State) (q : Nat) : State :=
  match s.ringAt q with
  | some e =>
    if e.isOpen ∨ e.mirrored then s
    else ({ s with log := { s.log with
      ring := Kv.set s.log.ring (q % 256) { e with mirrored := true } } } : State).mirrorRec e.record
  | none => s

/-- Acknowledged records are mirrored in their order, and records that waited for their entries enter the ring. A record
waits while the mirror's region is not initialised (R510), and while the role that mirrors is paused (R657, R659). -/
def State.mirrorDue (s : State) : State :=
  if s.inited errMirror ∧ ¬ s.bgPaused then (s.ringSeqs.foldl (fun s q => s.mirrorSeq q) s).ringDrain 256 else s

/-- The open record of SEQ `q` is acknowledged: it is mirrored, its entry is free, and the records that
waited for it enter the ring (R646 to R650). -/
def State.ackSeq (s : State) (q : Nat) : State :=
  match s.openAt q with
  | none => s
  | some e =>
    let r := { e.record with rflags := e.record.rflags ||| rflagAcked }
    ({ s with log := { s.log with
      ring := Kv.set s.log.ring (q % 256) { e with record := r, isOpen := false } } } : State).mirrorDue.promote r.unit

/-- The SEQs of open records, in ring order from the oldest (R664). -/
def State.openSeqs (s : State) : List Nat := s.ringSeqs.filter fun q => (s.openAt q).isSome

/-- Firmware acknowledges every open record that it has processed and whose class is AUTO_ACK_MAX or lower, as the
register stands; above 3 acts as 3 (R646, R663). -/
def State.autoAck (s : State) : State :=
  let lim := min (s.fld Reg.ERR_CFG Fld.ERR_CFG_AUTO_ACK_MAX) 3
  (s.openSeqs.filter fun q => (s.openAt q).any fun e => e.processed && decide (e.record.cls ≤ lim)).foldl
    (fun s q => s.ackSeq q) s

/-- ALERT_N is driven low (R651): an open record's class is ERR_CFG.ALERT_CLASS or higher; 0 acts as 1,
6 and 7 disable it. -/
def State.alert (s : State) : Bool :=
  let a := s.fld Reg.ERR_CFG Fld.ERR_CFG_ALERT_CLASS
  a < 6 && s.log.ring.any fun e => e.2.isOpen && max a 1 ≤ e.2.record.cls

/-! ### SRAM protection (R516) -/

/-- Array numbers of SRAM words in INFO: the spec numbers no array, so the model does (log entry 22):
tarns 0 to 39, cell cache, firing buffer, control-core memories, the smaller arrays. -/
def sramTarn (e : Nat) : Nat := e
def sramCellCache : Nat := 40
def sramFiring : Nat := 41
def sramCore (n : Nat) : Nat := 42 + n
def sramDescriptors : Nat := 54
def sramRetry : Nat := 55
def sramActions : Nat := 56
def sramErrorLog : Nat := 57

/-- Spare rows of an array (R516). -/
def sramSpares (a : Nat) : Nat :=
  if a < 40 then 16 else if a < 42 then 64 else if a < 54 then 8 else 4

/-- Place `at_` of array `a` holds a whole codeword again. -/
def State.unflip (s : State) (a at_ : Nat) : State :=
  let l := s.sram.flips.filter fun f => !(f.1 == a && f.2.1 == at_)
  { s with sram := { s.sram with flips := l } }

/-- Of the words that a flip mask has stored, those of arrays `keep` remain: the others have lost their contents (R595). -/
def State.flipsKeep (s : State) (keep : Nat → Bool) : State :=
  { s with sram := { s.sram with flips := s.sram.flips.filter fun f => keep f.1 } }

/-- Place `at_` of array `a`, in memory `target`, is written: what a flip mask had done there is gone. Where the mask is
armed for the memory, and for its unit `unit` where it has units, the write stores its first codeword with the mask (R512). -/
def State.flipHit (s : State) (target unit a at_ : Nat) : State :=
  let c := Reg.MI_FLIP_CTRL
  let hit := s.flag c Fld.MI_FLIP_CTRL_ARM ∧ s.fld c Fld.MI_FLIP_CTRL_TARGET = target ∧
    (s.fld c Fld.MI_FLIP_CTRL_UNIT = unit ∨ (target ≠ 1 ∧ target ≠ 4))
  let s := s.unflip a at_
  if hit then
    let l := (a, at_, s.flipMask) :: s.sram.flips
    (({ s with sram := { s.sram with flips := l } } : State).setFld c Fld.MI_FLIP_CTRL_ARM 0).event Reg.MI_EVENT
      Fld.MI_EVENT_FLIP_DONE
  else s

/-- A row is marked for repair; where its array has no spare left, that is logged as degraded (R516). -/
def State.sramMark (s : State) (a row : Nat) : State :=
  let k := a * 2 ^ 32 + row
  if s.sram.pending.contains k then s
  else
    let mine := (s.sram.pending.filter fun x => x / 2 ^ 32 == a).length + Kv.getD s.sram.used a 0
    let s : State := { s with sram := { s.sram with pending := s.sram.pending ++ [k] } }
    let s := s.setFld Reg.MI_SRAM_ROWS Fld.MI_SRAM_ROWS_PENDING s.sram.pending.length
    let s := s.stateWrite ⟨3, toLE 2 a ++ [0, 0] ++ toLE 4 row⟩
    if sramSpares a ≤ mine then s.logErr .degraded 18 (errCodeNone 0) unitSram (2 ^ 32 * a + row % 2 ^ 32)
    else s

/-- The bits that a flip mask has turned in the word at place `at_` of array `a`. -/
def State.flipAt (s : State) (a at_ : Nat) : Nat :=
  ((s.sram.flips.find? fun f => f.1 == a && f.2.1 == at_).map (·.2.2)).getD 0

/-- A word of row `row` of array `a` is read (R516): a corrected word is counted and logged, the third of a
row or an uncorrectable one marks the row. The outcome of an uncorrectable word is the reader's. -/
def State.sramRead (s : State) (a row : Nat) (e : Ecc) : State :=
  let k := a * 2 ^ 32 + row
  let info := 2 ^ 32 * a + row % 2 ^ 32
  match e with
  | .clean => s
  | .corrected =>
    let n := Kv.getD s.sram.corr k 0 + 1
    let s : State := { s with sram := { s.sram with corr := Kv.set s.sram.corr k n } }
    let s := (s.count Reg.MI_SRAM_CORR 1).raiseInfo .corrected Reg.MI_EVENT Fld.MI_EVENT_SRAM_CORR 0
      unitSram info
    if 3 ≤ n then s.sramMark a row else s
  | .uncorrectable =>
    ((s.count Reg.MI_SRAM_UNCORR 1).event Reg.MI_EVENT Fld.MI_EVENT_SRAM_UNCORR).sramMark a row

end Sys2Proof.Machine
end

