-- ==== Sys2Proof/Machine/CrcUnits.lean ====
section
/-! DEFINITION. The four check units: what a unit computes at its snoop point, and their commands (R539 to
R543, R546, R547). -/

namespace Sys2Proof.Machine

open Sys2Proof.Bits

/-- A CRC of R539, by its POLY code. -/
def polyCrc : Nat → List Byte → Nat
  | 0 => Crc.crc32
  | 1 => Crc.crc32c
  | 2 => Crc.crc64
  | _ => Crc.crc16

/-- Snoop points of R540. -/
def pointRecord : Nat := 1
def pointDigest : Nat := 2
def pointIngest : Nat := 3
def pointStaging : Nat := 4
def pointHead : Nat := 5
def pointStored : Nat := 6

/-- The code that a point fixes in CHECK mode; none for INGEST_MEMORY, which is SUM only (R540). -/
def pointPoly : Nat → Option Nat
  | 1 => some 1
  | 2 => some 2
  | 4 => some 2
  | 5 => some 1
  | 6 => some 1
  | _ => none

/-- One block at a snoop point (R540): its bytes, the bytes CHECK mode takes before them, the expected
value, and what FOLD and the identity need. -/
structure SnoopBlock where
  point : Nat
  sel : Nat
  pre : List Byte
  bytes : List Byte
  expected : Nat
  addr : Nat
  seq : Nat
  ident : Nat
  deriving DecidableEq, Repr

/-- Unit `u` snoops point `point` with selector `sel` (R540, R547). -/
def State.snoops (s : State) (u point sel : Nat) : Bool :=
  s.flag (Reg.CRC_U_STATUS u) Fld.CRC_U_STATUS_ENABLED &&
  s.fld (Reg.CRC_U_CFG u) Fld.CRC_U_CFG_SNOOP == point &&
  ((point != pointIngest && point != pointHead) || s.fld (Reg.CRC_U_CFG u) Fld.CRC_U_CFG_SEL == sel)

/-- The units that a block which starts now has, each with the configuration it keeps to the block's end (R542). -/
def State.snoopersOf (s : State) (point sel : Nat) : List (Nat × Word) :=
  ((List.range 4).filter fun u => s.snoops u point sel).map fun u => (u, s.reg (Reg.CRC_U_CFG u))

/-- What a unit of configuration `cfg` computes over `k`. -/
def unitValue (cfg : Word) (k : SnoopBlock) : Nat :=
  if Fld.CRC_U_CFG_MODE.get cfg = 1 then
    let fold := match Fld.CRC_U_CFG_FOLD.get cfg with
      | 1 => toLE 8 k.addr
      | 2 => toLE 4 k.seq
      | _ => []
    polyCrc (Fld.CRC_U_CFG_POLY.get cfg) (fold ++ k.bytes)
  else polyCrc ((pointPoly k.point).getD 1) (k.pre ++ k.bytes)

/-- A unit of configuration `cfg` in CHECK mode finds a mismatch in `k`. -/
def unitBad (cfg : Word) (k : SnoopBlock) : Bool :=
  Fld.CRC_U_CFG_MODE.get cfg == 0 && unitValue cfg k != k.expected

/-- Unit `x.1`, of configuration `x.2`, takes block `k` (R540, R541). -/
def State.snoopUnit (s : State) (x : Nat × Word) (k : SnoopBlock) : State :=
  let u := x.1
  let bad := unitBad x.2 k
  let s := ((s.setPair (Reg.CRC_U_VAL_LO u) (unitValue x.2 k)).count (Reg.CRC_U_BLOCKS u) 1).setFld
    (Reg.CRC_U_STATUS u) Fld.CRC_U_STATUS_LAST_FAIL (b2n bad)
  if bad then
    ((s.count (Reg.CRC_U_FAILS u) 1).setPair (Reg.CRC_U_LAST_ID_LO u) k.ident).setRegN Reg.CRC_EVENT
      (s.regN Reg.CRC_EVENT ||| 2 ^ u)
  else s

/-- The units `us` take block `k` (R543: each checks independently). -/
def State.snoopBy (s : State) (us : List (Nat × Word)) (k : SnoopBlock) : State :=
  us.foldl (fun s x => s.snoopUnit x k) s

/-- A block that comes in one step is taken by the units that snoop its point. -/
def State.snoop (s : State) (k : SnoopBlock) : State := s.snoopBy (s.snoopersOf k.point k.sel) k

/-- Some unit in CHECK mode finds a mismatch in `k` (R541). -/
def State.snoopBad (s : State) (k : SnoopBlock) : Bool := (s.snoopersOf k.point k.sel).any fun x => unitBad x.2 k

/-- Unit `u` takes no part in the blocks in progress: one in progress when it is disabled is not counted (R547). -/
def State.dropSnooper (s : State) (u : Nat) : State :=
  let f := fun (l : List (Nat × Word)) => l.filter fun x => x.1 != u
  { s with
    ing := { s.ing with chans := s.ing.chans.map fun c => { c with snoopers := f c.snoopers } }
    parser := { s.parser with cur := { s.parser.cur with snoopers := f s.parser.cur.snoopers } } }

/-! ### Commands -/

/-- CRC_UNIT_ENABLE (R542, R547): ENABLE is written to CRC_U_CTRL of unit `u` over `path`. A claimed unit
ignores it, and a CHECK configuration whose POLY is not its point's cannot be enabled. -/
def execCrcUnitEnable (path : Path) (u : Fin 4) (s : State) : Host.Outcome State Fault Refusal :=
  let u := u.val
  let cfg := Reg.CRC_U_CFG u
  let point := s.fld cfg Fld.CRC_U_CFG_SNOOP
  let check := !s.flag cfg Fld.CRC_U_CFG_MODE
  if s.flag (Reg.CRC_U_STATUS u) Fld.CRC_U_STATUS_CLAIMED then
    .next (s.accFlag path (Reg.CRC_U_CTRL u) .owner)
  else if check && point % 7 != 0 && pointPoly point != some (s.fld cfg Fld.CRC_U_CFG_POLY) then
    .next (s.accFlag path (Reg.CRC_U_CTRL u) .refused)
  else .next (s.setFld (Reg.CRC_U_STATUS u) Fld.CRC_U_STATUS_ENABLED 1)

/-- CRC_UNIT_DISABLE (R542, R547): DISABLE is written to CRC_U_CTRL of unit `u` over `path`. -/
def execCrcUnitDisable (path : Path) (u : Fin 4) (s : State) : Host.Outcome State Fault Refusal :=
  if s.flag (Reg.CRC_U_STATUS u.val) Fld.CRC_U_STATUS_CLAIMED then
    .next (s.accFlag path (Reg.CRC_U_CTRL u.val) .owner)
  else .next ((s.setFld (Reg.CRC_U_STATUS u.val) Fld.CRC_U_STATUS_ENABLED 0).dropSnooper u.val)

end Sys2Proof.Machine
end

