-- ==== Sys2Proof/Machine/DramCore.lean ====
section
/-! DEFINITION. DRAM under every access: mapping, activations and row disturbance, inline ECC, the merge buffer, page
retirement, and reads and writes of requesters (R497 to R510, R513, R514). -/

namespace Sys2Proof.Machine

open Sys2Proof.Bits

/-! ### Mapping (R498 to R501, R513, R515) -/

/-- Parity of the low 19 bits of `v`. -/
def parity19 (v : Nat) : Nat := (sumBelow 19 fun i => v >>> i % 2) % 2

/-- Select bits of exposed address `a` (R500). -/
def State.selectOf (s : State) (a : Nat) : Nat :=
  sumBelow 8 fun k =>
    2 ^ k * ((a >>> (9 + k) % 2 + parity19 ((a >>> 17) &&& (s.regN (Reg.DC_MAP_SEL k) % 2 ^ 19))) % 2)

/-- The base of the remap table's window (R520). -/
def remapBase : Nat := 0x01E10000

/-- The spare slot of page `p`, where it is retired (R513). -/
def State.slotOf (s : State) (p : Nat) : Option Nat :=
  (s.tables.find? fun e => remapBase ≤ e.1 && e.1 < remapBase + 0x4000 && e.2.toNat == 2 ^ 31 + p).map
    fun e => (e.1 - remapBase) / 4

/-- Order of banks in R515: ascending channel, then bank; a bank is channel + 16 × bank. -/
def bankKey (b : Nat) : Nat := b % 16 * 16 + b / 16

/-- Banks by ascending channel and bank. -/
def banksInOrder : List Nat := (List.range 256).map fun k => k / 16 + k % 16 * 16

/-- Bank and in-bank group after the bank remap (R515). -/
def State.bankRemap (s : State) (b q : Nat) : Nat × Nat :=
  let gone := banksInOrder.filter fun x => s.dram.retired.contains x
  if gone.contains b ∧ q < 458880 then
    let n := gone.idxOf b
    let left := banksInOrder.filter fun x => !s.dram.retired.contains x
    (nth left (q % left.length) 0, 458880 + 2000 * n + q / left.length)
  else (b, q)

/-- Bank and in-bank group of exposed address `a` (R500, R501). -/
def State.groupOf (s : State) (a : Nat) : Nat × Nat :=
  match s.slotOf (a / 4096) with
  | some n =>
    let j := 8 * n + a / 512 % 8
    s.bankRemap (j % 256) (458752 + j / 256)
  | none => s.bankRemap (s.selectOf a) (a >>> 17)

/-- The line in its bank of line `i` of in-bank group `q`, as row and line in the row (R498): data lines 0 to 7, the check
line 8. -/
def lineAt (q i : Nat) : Nat × Nat := ((9 * q + i) / 32, (9 * q + i) % 32)

/-- Where exposed address `a` lies: bank, row, line in the row and byte in the line (R498 to R501). -/
def State.placeOf (s : State) (a : Nat) : Nat × Nat × Nat × Nat :=
  let (b, q) := s.groupOf a
  (b, (lineAt q (a / 64 % 8)).1, (lineAt q (a / 64 % 8)).2, a % 64)

/-- Where the check byte of the word at `a` lies: byte 8i + w of the check line of its group, for word w of data line i
(R498). -/
def State.checkOf (s : State) (a : Nat) : Nat × Nat × Nat × Nat :=
  let (b, q) := s.groupOf a
  (b, (lineAt q 8).1, (lineAt q 8).2, 8 * (a / 64 % 8) + a / 8 % 8)

/-- The row of exposed address `a` as (bank, row). -/
def State.rowIn (s : State) (a : Nat) : Nat × Nat := ((s.placeOf a).1, (s.placeOf a).2.1)

/-- Rows that an access to in-bank group `q` needs: both, where the group crosses a row boundary (R498). -/
def groupRows (q : Nat) : List Nat :=
  if (lineAt q 0).1 = (lineAt q 8).1 then [(lineAt q 0).1] else [(lineAt q 0).1, (lineAt q 8).1]

/-- Rows that an access to the group of exposed address `a` needs, as (bank, row). -/
def State.rowsOf (s : State) (a : Nat) : List (Nat × Nat) := (groupRows (s.groupOf a).2).map fun r => ((s.groupOf a).1, r)

/-- Addresses of the groups that `[a, a + n)` touches. -/
def groupsIn (a n : Nat) : List Nat :=
  if n = 0 then [] else (List.range ((a + n - 1) / 512 - a / 512 + 1)).map fun k => 512 * (a / 512 + k)

/-! ### ECC (R505 to R508) -/

/-- Set bits of `m` below 72. -/
def weight72 (m : Nat) : Nat := sumBelow 72 fun i => m >>> i % 2

/-- Set bits of a byte. -/
def weight8 (x : Nat) : Nat := sumBelow 8 fun i => x >>> i % 2

/-- Columns of the data bits of a Hsiao code: 64 different bytes of odd weight that are no check bit's column (R505). -/
def columnsOk (l : List Nat) : Bool :=
  l.length == 64 && decide l.Nodup && l.all fun x => decide (x < 256 ∧ weight8 x % 2 = 1 ∧ weight8 x ≠ 1)

/-- One such set: the 56 bytes of weight 3, and 8 of weight 5. -/
def someColumns : List Nat :=
  (List.range 256).filter (fun x => weight8 x == 3) ++ ((List.range 256).filter fun x => weight8 x == 5).take 8

/-- The columns of the data bits: which Hsiao code it is, is open (R505). -/
def eccColumns : List Nat := if columnsOk Config.eccColumns then Config.eccColumns else someColumns

/-- Syndrome of an error pattern: the check bits it flips, with the columns of the data bits (R505). A check bit's
own column is its unit vector, as the XOR 0x03 of R508 takes it. -/
def syndrome (m : Nat) : Nat :=
  (List.range 64).foldl (fun x i => if bit m i then x ^^^ nth eccColumns i 0 else x) (m >>> 64 % 256)

/-- The bit of the codeword whose column is `x`. -/
def columnBit (x : Nat) : Option Nat :=
  match findBelow 8 fun k => x == 2 ^ k with
  | some k => some (64 + k)
  | none => findBelow 64 fun i => x == nth eccColumns i 0

/-- Outcome of a read of a codeword with error pattern `m` (R505): 0 clean, 1 corrected, 2 uncorrectable, 3
POISON. One flip is corrected and two are uncorrectable in every SECDED code (R512); more follow the syndrome. -/
def eccKind (m : Nat) : Nat :=
  if m = 0 then 0
  else match weight72 m with
    | 1 => 1
    | 2 => if syndrome m = 3 then 3 else 2
    | _ =>
      let x := syndrome m
      if x = 0 then 0 else if x = 3 then 3 else if (columnBit x).isSome then 1 else 2

/-- What the decoding of a codeword with error pattern `m` leaves of the pattern in the data returned (R505): the bit whose
column the syndrome matches is turned, whether it was in error or not; data with a syndrome of 0 and uncorrectable data
are returned as read. -/
def residual (m : Nat) : Nat :=
  if weight72 m ≤ 1 then 0
  else if eccKind m = 1 then
    match columnBit (syndrome m) with
    | some i => m ^^^ 2 ^ i
    | none => m
  else m

/-- How the read of an SRAM word with error pattern `m` goes; `e` where nothing is known of it (R512, R516). -/
def sramEcc (m : Nat) (e : Ecc) : Ecc :=
  if m = 0 then e else match eccKind m with | 0 => .clean | 1 => .corrected | _ => .uncorrectable

/-- The error pattern of POISON (R508). -/
def poison : Nat := 3 <<< 64

/-- Kinds of MI_LAST_INFO (R521). -/
def State.lastErr (s : State) (req word kind : Nat) : State :=
  let (b, _) := s.groupOf (8 * word)
  (s.setPair Reg.MI_LAST_ADDR_LO (8 * word)).setRegN Reg.MI_LAST_INFO
    (syndrome (s.errOf word) + 256 * kind + 4096 * req + 65536 * (b % 16) + 2 ^ 20 * (b / 16))

/-! ### Page retirement (R513, R514) -/

/-- The lowest free remap entry. -/
def State.freeSlot (s : State) : Option Nat :=
  findBelow 4096 fun i => s.tbl (remapBase + 4 * i) == 0#32

/-- The copy of page `p` starts, if an entry is free (R513, R514). -/
def State.startCopy (s : State) (p : Nat) : State :=
  match s.freeSlot with
  | none => s.raiseInfo .degraded Reg.MI_EVENT Fld.MI_EVENT_REMAP_FULL 0 (unitDram ((s.groupOf (4096 * p)).1 % 16))
      (4096 * p)
  | some n =>
    let s : State := { s with dram := { s.dram with copying := some (n, p) } }
    s.setFld Reg.MI_STATUS Fld.MI_STATUS_COPY_BUSY 1

/-- Page `p` is to be retired (R514): without effect where it is, or where its copy runs or waits. -/
def State.retirePage (s : State) (p : Nat) : State :=
  if (s.slotOf p).isSome ∨ s.dram.copyQueue.contains p = true ∨ (s.dram.copying.map (·.2)) = some p then s
  else if s.dram.copying.isSome then
    let q := s.dram.copyQueue ++ [p]
    { s with dram := { s.dram with copyQueue := q } }
  else s.startCopy p

/-- Firmware's policy retires page `p` (R514), once role 9 runs (R657, R659). -/
def State.policyRetire (s : State) (p : Nat) : State :=
  if ¬ s.bgPaused then s.retirePage p
  else if s.dram.policyWait.contains p then s
  else
    let q := s.dram.policyWait ++ [p]
    { s with dram := { s.dram with policyWait := q } }

/-- Firmware's policy after a corrected error at word `w` (R514). -/
def State.corrPolicy (s : State) (w : Nat) : State :=
  let p := w / 512
  let win := max (s.fld Reg.MI_CFG Fld.MI_CFG_CORR_WIN_H) 1 * 3600 * 1000000000
  let old := (Kv.getD s.dram.corrAt p []).filter fun t => decide (s.clk.ticks - t ≤ win)
  let now := (s.clk.ticks :: old).take 16
  let s : State := { s with dram := { s.dram with corrAt := Kv.set s.dram.corrAt p now } }
  if s.flag Reg.MI_CFG Fld.MI_CFG_AUTO_RETIRE ∧ max (s.fld Reg.MI_CFG Fld.MI_CFG_CORR_N) 1 ≤ now.length then
    s.policyRetire p
  else s

/-- Word `w` is read for requester `req` (R505): counts, MI_LAST, the log and the retirement policy. -/
def State.readWord (s : State) (req w : Nat) : State :=
  match eccKind (s.errOf w) with
  | 0 => s
  | 1 =>
    let s := (s.count Reg.MI_CORR_COUNT 1).lastErr req w 0
    (s.raiseInfo .corrected Reg.MI_EVENT Fld.MI_EVENT_CORR 0 (unitDram ((s.groupOf (8 * w)).1 % 16))
      (8 * w)).corrPolicy w
  | k =>
    let s := (s.count Reg.MI_UNCORR_COUNT 1).lastErr req w (k - 1)
    let s := (if k = 3 then s.count Reg.MI_POISON_COUNT 1 else s).event Reg.MI_EVENT Fld.MI_EVENT_UNCORR
    if s.flag Reg.MI_CFG Fld.MI_CFG_UNCORR_RETIRE then s.policyRetire (w / 512) else s

/-- Words of `[a, a + n)` whose stored bits are in error, in ascending order. -/
def State.badWords (s : State) (a n : Nat) : List Nat :=
  (s.dram.errs.filter fun e => decide (a < 8 * e.1 + 8 ∧ 8 * e.1 < a + n)).map (·.1)

/-- A read of `[a, a + n)` returns an uncorrectable word. -/
def State.uncorr (s : State) (a n : Nat) : Bool := (s.badWords a n).any fun w => 2 ≤ eccKind (s.errOf w)

/-- Word `w` is written back as its decoding gives it, under the error pattern `e`; `kept` names the bytes that come from
the read. -/
def State.rewriteWord (s : State) (w kept e : Nat) : State :=
  let m := residual (s.errOf w)
  let bs := (List.range 8).map fun i =>
    let b := s.ld (8 * w + i)
    if bit kept i then b ^^^ BitVec.ofNat 8 (m >>> (8 * i)) else b
  (if m = 0 then s else s.poke (8 * w) bs).setErr w e

/-- POISON_PROPAGATED at word `w` (R508). The error is one that firmware's policy of R514 retires the page for. -/
def State.propagated (s : State) (req w : Nat) : State :=
  let s := ((s.count Reg.MI_POISON_COUNT 1).lastErr req w 3).raiseInfo .contained Reg.MI_EVENT
    Fld.MI_EVENT_POISON_PROPAGATED 0 (unitDram ((s.groupOf (8 * w)).1 % 16)) (8 * w)
  if s.flag Reg.MI_CFG Fld.MI_CFG_UNCORR_RETIRE then s.policyRetire (w / 512) else s

/-- The `n` bytes from `a` as a read returns them, decoded (R505). -/
def State.dataAt (s : State) (a n : Nat) : List Byte :=
  (s.ldBytes a n).mapIdx fun i b =>
    b ^^^ BitVec.ofNat 8 (residual (s.errOf ((a + i) / 8)) >>> (8 * ((a + i) % 8)))

/-! ### Activations and row disturbance (R498, R502, R504) -/

/-- The tracker of bank `b`, 16 entries; a cleared entry names no row. -/
def State.tracker (s : State) (b : Nat) : List (Nat × Nat) :=
  ((s.dram.trackers.find? fun t => t.bank == b).map (·.slots)).getD (List.replicate 16 (2 ^ 17, 0))

/-- The entry with the least count, the lowest-numbered of them. -/
def leastSlot (l : List (Nat × Nat)) : Nat :=
  let m := (l.map (·.2)).foldl min ((l.head?.map (·.2)).getD 0)
  (l.findIdx fun e => e.2 == m)

/-- DC_THROTTLED names every throttled requester. -/
def State.showThrottle (s : State) : State :=
  s.setRegN Reg.DC_THROTTLED (s.dram.throttled.foldl (fun v e => v ||| 2 ^ e.1) 0)

/-- An activation of row `row` of bank `b` by requester `req` (R504); the page copier and its like are not throttled
(R517). -/
def State.activate (s : State) (req b row : Nat) : State :=
  let l := s.tracker b
  let i := match l.findIdx? fun e => e.1 == row with
    | some i => i
    | none => leastSlot l
  let n := (nth l i (0, 0)).2 + 1
  let hit := max (s.fld Reg.DC_RH_CFG Fld.DC_RH_CFG_THRESH) 1 ≤ n
  let l := l.set i (row, if hit then 0 else n)
  let others := s.dram.trackers.filter fun t => t.bank != b
  let th := s.dram.throttled.map fun e => if e.1 = req ∧ e.2.1 = b then (req, b, s.clk.ticks) else e
  let s : State := { s with dram := { s.dram with trackers := others ++ [⟨b, l⟩], throttled := th } }
  if ¬ hit then s
  else
    let s := (s.count Reg.DC_RH_TRIGGERS 1).setRegN Reg.DC_LAST_RH
      (b % 16 + 16 * (b / 16) + 256 * req + 4096 * row)
    let th := if req = 10 then s.dram.throttled
      else (s.dram.throttled.filter fun e => !(e.1 == req && e.2.1 == b)) ++ [(req, b, s.clk.ticks)]
    let s : State := { s with dram := { s.dram with throttled := th } }
    (s.showThrottle.emit (.rfm b)).raiseInfo .corrected Reg.DC_EVENT Fld.DC_EVENT_RH_TRIGGER 0 (unitDram (b % 16))
      (s.regN Reg.DC_LAST_RH)

/-- An access of requester `req` finds row `row` of bank `b` open or opens it. DESIGN CHOICE, log entry 49: a row stays open
until its bank opens another. -/
def State.openRow (s : State) (req b row : Nat) : State :=
  if Kv.get s.dram.rowOpen b = some row then s
  else
    let o := Kv.set s.dram.rowOpen b row
    ({ s with dram := { s.dram with rowOpen := o } } : State).activate req b row

/-- The rows of in-bank group `q` of bank `b` open for requester `req` (R498). -/
def State.openGroup (s : State) (req b q : Nat) : State := (groupRows q).foldl (fun s r => s.openRow req b r) s

/-- The rows that `[a, a + n)` lies in open for requester `req`. -/
def State.openRows (s : State) (req a n : Nat) : State :=
  (groupsIn a n).foldl (fun s g => s.openGroup req (s.groupOf g).1 (s.groupOf g).2) s

/-- Bank and row of a write that has been written to the device leave the queue (R502). -/
def State.written (s : State) (x : Nat × Nat) : State :=
  let w := s.dram.writes.filter (· != x)
  let o := s.dram.inorder.filter (· != x)
  { s with dram := { s.dram with writes := w, inorder := o } }

/-- A write of the row at `x` still waits in its bank's queue, or has been written to the device: when that happens is
open (R502). -/
def State.waits (s : State) (x : Nat × Nat) : Bool × State :=
  if s.dram.writes.contains x then
    let (n, s) := s.free
    if n % 2 = 0 then (false, s.written x) else (true, s)
  else (false, s)

/-- A read of the row at `x` arrives (R502, R517): where a write of that row waits in the bank's queue, the bank enters
in-order mode until it has been written; the mode of an earlier one may have ended by now. -/
def State.readOrder (s : State) (x : Nat × Nat) : State :=
  let s := match s.dram.inorder.find? fun e => e.1 == x.1 with
    | some e => (s.waits e).2
    | none => s
  let (w, s) := s.waits x
  if w && !s.dram.inorder.any fun e => e.1 == x.1 then
    let o := s.dram.inorder ++ [x]
    ({ s with dram := { s.dram with inorder := o } } : State).count Reg.DC_INORDER_COUNT 1
  else s

/-- The line at `l`, with its check bytes, enters its bank's write queue (R498, R502). -/
def State.queueWrite (s : State) (l : Nat) : State :=
  let xs := (s.rowsOf l).filter fun x => !s.dram.writes.contains x
  if xs.isEmpty then s
  else
    let w := s.dram.writes ++ xs
    { s with dram := { s.dram with writes := w } }

/-- Requester `req` is throttled on a bank that `[a, a + n)` lies in, and its gap since its latest activation there is not
over (R504). -/
def State.gapped (s : State) (req a n : Nat) : Bool :=
  let gap := max (s.fld Reg.DC_RH_CFG Fld.DC_RH_CFG_GAP_US) 1 * 1000
  (groupsIn a n).any fun g => s.dram.throttled.any fun e =>
    e.1 == req && e.2.1 == (s.groupOf g).1 && decide ((s.clk.ticks + 2 ^ 64 - e.2.2) % 2 ^ 64 < gap)

/-! ### The merge buffer (R507, R508) -/

/-- A merge entry flushes: a whole word replaces what the old codeword held; a partly covered word is read for the requester
of the write, decoded, merged and written back (R507, R508). An armed flip mask meets the first codeword as the flush writes
it (R512, R517). -/
def State.flushEntry (s : State) (e : Merge) : State :=
  let rest := s.dram.merge.filter fun x => x.line != e.line
  let s : State := { s with dram := { s.dram with merge := rest } }
  let s := (s.openRows e.req e.line 64).queueWrite e.line
  let s := (List.range 8).foldl (fun s i =>
    let m := bits e.mask (8 * i) 8
    let w := e.line / 8 + i
    if m = 0 then s
    else if m = 255 then s.setErr w 0
    else match eccKind (s.errOf w) with
      | 0 => s.rewriteWord w (255 - m) 0
      | 1 => (s.readWord e.req w).rewriteWord w (255 - m) 0
      | _ => (s.propagated e.req w).rewriteWord w (255 - m) poison) s
  match findBelow 64 fun i => bit e.mask i with
  | some i => s.flipDram (e.line + i)
  | none => s

/-- Lines of the merge buffer that `[a, a + n)` touches flush (R507). -/
def State.flushRange (s : State) (a n : Nat) : State :=
  (s.dram.merge.filter fun e => decide (a < e.line + 64 ∧ e.line < a + n)).foldl (fun s e => s.flushEntry e) s

/-- Every word an entry touches is whole. -/
def Merge.whole (e : Merge) : Bool :=
  (List.range 8).all fun i => let m := bits e.mask (8 * i) 8; m == 0 || m == 255

/-- Bytes `mask` of line `l` are written: they enter the line's entry, or open one where a word is partly
covered; a full buffer flushes its oldest first (R507). -/
def State.mergeLine (s : State) (req l mask : Nat) : State :=
  match s.dram.merge.find? fun e => e.line == l with
  | some e =>
    let e : Merge := { e with mask := e.mask ||| mask, req := req }
    let upd := s.dram.merge.map fun x => if x.line == l then e else x
    let s : State := { s with dram := { s.dram with merge := upd } }
    if e.whole then s.flushEntry e else s
  | none =>
    let e : Merge := ⟨l, mask, req⟩
    if e.whole then
      let s := (s.openRows req l 64).queueWrite l
      match findBelow 64 fun i => bit mask i with
      | some i => s.flipDram (l + i)
      | none => s
    else
      let s := match s.dram.merge with
        | o :: _ => if 32 ≤ s.dram.merge.length then s.flushEntry o else s
        | [] => s
      let m := s.dram.merge ++ [e]
      { s with dram := { s.dram with merge := m } }

/-- The byte mask of `[a, a + n)` in the line at `l`. -/
def lineMask (a n l : Nat) : Nat :=
  let x := max a l - l
  let y := min (a + n) (l + 64) - l
  2 ^ y - 2 ^ min x y

/-- `bs` is written at `a` for requester `req` (R507). -/
def State.dramWrite (s : State) (req a : Nat) (bs : List Byte) : State :=
  if bs.isEmpty then s
  else
    let first := a / 64
    let n := (a + bs.length - 1) / 64 - first + 1
    (List.range n).foldl (fun s i => s.mergeLine req (64 * (first + i)) (lineMask a bs.length (64 * (first + i))))
      (s.takeBytes a bs)

/-! ### Reads and writes of a requester -/

/-- `[a, a + n)` is read for requester `req` (R502, R504, R505, R507): whether a word is uncorrectable, the bytes, and the
state after. -/
def State.fetch (s : State) (req a n : Nat) : Bool × List Byte × State :=
  let s := s.flushRange a n
  let s := (((groupsIn a n).flatMap s.rowsOf).foldl (fun s x => s.readOrder x) s).openRows req a n
  (s.uncorr a n, s.dataAt a n, (s.badWords a n).foldl (fun s w => s.readWord req w) s)

/-- The region of `[a, a + n)` is initialised (R510). -/
def State.ready (s : State) (a n : Nat) : Bool := n == 0 || s.inited (a + n - 1)

/-- A unit of the module stores `bs` at `a` as requester `req`; a write to a region not yet initialised is held (R510). -/
def State.store (s : State) (req a : Nat) (bs : List Byte) : State :=
  if s.ready a bs.length then s.dramWrite req a bs
  else
    let h : List HeldReq := s.dram.held ++ [⟨req + 16, 0, a, bs⟩]
    { s with dram := { s.dram with held := h } }

end Sys2Proof.Machine
end

