-- ==== Sys2Proof/Machine/FbCore.lean ====
section
/-! DEFINITION. Counts, positions and index shifts of the feedback sources (R468, R469, R477, R478, R480), and
the log of outputs. -/

namespace Sys2Proof.Machine

open Sys2Proof.Bits

/-- GPIO pin `i` belongs to a compare unit (R482). -/
def State.pinOwned (s : State) (i : Nat) : Bool :=
  (List.range 8).any fun u => s.flag (Reg.FB_CMP_CFG u) Fld.FB_CMP_CFG_PIN_EN &&
    s.fld (Reg.FB_CMP_CFG u) Fld.FB_CMP_CFG_PIN == i

/-- The state with generator `x` changed by `f`. -/
def State.onGen (s : State) (x : Nat) (f : Gen → Gen) : State :=
  match s.motion.gens[x]? with
  | some g => { s with motion := { s.motion with gens := s.motion.gens.set x (f g) } }
  | none => s

/-- The state with feedback source `x` changed by `f`. -/
def State.onFb (s : State) (x : Nat) (f : FbAxis → FbAxis) : State :=
  match s.motion.fbs[x]? with
  | some g => { s with motion := { s.motion with fbs := s.motion.fbs.set x (f g) } }
  | none => s

/-- The state with servo axis `x` changed by `f`. -/
def State.onServo (s : State) (x : Nat) (f : Servo → Servo) : State :=
  match s.motion.servos[x]? with
  | some g => { s with motion := { s.motion with servos := s.motion.servos.set x (f g) } }
  | none => s

/-- The source of axis `x` (R468): 0 none, 1 analogue, 2 digital. -/
def State.fbSrc (s : State) (x : Nat) : Nat :=
  match s.fld (Reg.FB_AX_CFG x) Fld.FB_AX_CFG_SRC with
  | 1 => if x < 2 then 1 else 0
  | 2 => 2
  | _ => 0

/-- FB_AX_STATUS.STATE of axis `x`: 0 OK, 1 FAULT, 2 UNREF, 3 OFF (R476). -/
def State.fbState (s : State) (x : Nat) : Nat := s.fld (Reg.FB_AX_STATUS x) Fld.FB_AX_STATUS_STATE

/-- The count of axis `x` (R469). -/
def State.fbCount (s : State) (x : Nat) : Int := s.pairS (Reg.FB_AX_COUNT_LO x)

/-- `raw_position` of R469 for axis `x`, with what homing has added (R459), an s64. -/
def State.rawOf (s : State) (x : Nat) (c : Int) : Int :=
  let c := if s.flag (Reg.FB_AX_CFG x) Fld.FB_AX_CFG_INV then -c else c
  wrapS 64 (sar (c * (s.pair (Reg.FB_AX_SCALE_LO x) : Nat) + 32768) 16 +
    ((s.motion.fbs[x]?).map (·.offset)).getD 0)

/-- `present` of R478: the presented count and whether dirn is −1. -/
def present (pres : Int) (neg : Bool) (raw : Int) : Int × Bool :=
  if neg then
    if raw < pres then (raw, true) else if pres + 2 ≤ raw then (raw - 1, false) else (pres, true)
  else
    if pres < raw then (raw, false) else if raw ≤ pres - 2 then (raw + 1, true) else (pres, false)

/-- The registers of axis `x` show count `c` (R469, R478, R492). -/
def State.showCount (s : State) (x : Nat) (c pres : Int) (neg : Bool) : State :=
  let s := (s.setPairS (Reg.FB_AX_COUNT_LO x) c).setPairS (Reg.FB_AX_RAW_LO x) (s.rawOf x c)
  let s := (s.setPairS (Reg.FB_AX_PRES_LO x) (s.rawOf x pres)).setFld (Reg.FB_AX_STATUS x)
    Fld.FB_AX_STATUS_DIRN (b2n neg)
  s.onFb x fun f => { f with pres := pres }

/-- Axis `x` counts to `c`. -/
def State.setCount (s : State) (x : Nat) (c : Int) : State :=
  let pres := ((s.motion.fbs[x]?).map (·.pres)).getD 0
  let (p, neg) := present pres (s.flag (Reg.FB_AX_STATUS x) Fld.FB_AX_STATUS_DIRN) c
  s.showCount x c p neg

/-- Step position of stepper axis `x` in µu (R452). -/
def State.stepPos (s : State) (x : Nat) : Int := s.pairS (Reg.STP_STEP_POS_LO (x - 2))

/-- The measured position of axis `x`, unit × 2^16 (R440, R468). -/
def State.measured (s : State) (x : Nat) : Int :=
  if s.fbSrc x = 0 ∧ 2 ≤ x then s.stepPos x * 65536 else s.rawOf x (s.fbCount x)

/-- The set-point and the servo's memory, or a stepper's step position, move by `d` with the position scale, so the axis
does not move (R459, R480). -/
def State.shiftSetpoint (s : State) (x : Nat) (d : Int) : State :=
  let mv := fun (m : GMode) => match m with
    | .path i l k p0 v0 => .path i l k (p0 + d) v0
    | m => m
  let p := ((s.motion.gens[x]?).map (·.p)).getD 0
  let s := s.onGen x fun g => { g with p := g.p + d, prevP := g.prevP + d, mode := mv g.mode }
  let s := s.setPairS (Reg.MP_AX_CMD_POS_LO x) (s.pairS (Reg.MP_AX_CMD_POS_LO x) + d)
  if 2 ≤ x then s.setPairS (Reg.STP_STEP_POS_LO (x - 2)) (s.stepPos x + (sar (p + d) 16 - sar p 16))
  else s.onServo x fun v => { v with fbPrev := v.fbPrev + d }

/-- The count of axis `x`, and what is known of it since the tick before the latest, move by `n` counts. -/
def State.moveCount (s : State) (x : Nat) (n : Int) : State :=
  let pres := ((s.motion.fbs[x]?).map (·.pres)).getD 0
  let s := s.onFb x fun f => { f with was := f.was + n, steps := f.steps.map fun e => (e.1, e.2.1 + n, e.2.2) }
  s.showCount x (s.fbCount x + n) (pres + n) (s.flag (Reg.FB_AX_STATUS x) Fld.FB_AX_STATUS_DIRN)

/-- The count of axis `x` moves by `n` counts, and the set-point with it (R480). -/
def State.shiftCount (s : State) (x : Nat) (n : Int) : State :=
  let c := s.fbCount x
  (s.moveCount x n).shiftSetpoint x (s.rawOf x (c + n) - s.rawOf x c)

/-- The latest change of a digital source at most `ns` after the tick before the latest. -/
def FbAxis.stepAt (f : FbAxis) (ns : Nat) : Option (Nat × Int × Bool × Bool) := f.steps.reverse.find? fun e => decide (e.1 ≤ ns)

/-- Part `ns` of 100 of the way from `a` to `b`, rounded to the nearest. -/
def between (a b : Int) (ns : Nat) : Int := a + ((b - a) * ns + 50).fdiv 100

/-- The count of axis `x` at an instant `ns` after the tick before the latest (R470, R479). DEDUCED (log entry 33): between two
ticks the count of an analogue source is interpolated as its position is. -/
def State.countAt (s : State) (x ns : Nat) : Int :=
  match s.motion.fbs[x]? with
  | none => s.fbCount x
  | some f => if s.fbSrc x = 1 then between f.was (s.fbCount x) ns else ((f.stepAt ns).map (·.2.1)).getD f.was

/-- The raw position of axis `x` at that instant (R470). -/
def State.rawAt (s : State) (x ns : Nat) : Int :=
  match s.motion.fbs[x]? with
  | none => s.rawOf x (s.fbCount x)
  | some f => if s.fbSrc x = 1 then between (s.rawOf x f.was) (s.rawOf x (s.fbCount x)) ns else s.rawOf x (s.countAt x ns)

/-- The levels of A and B of axis `x` at that instant (R479). -/
def State.levelsAt (s : State) (x ns : Nat) : Option (Bool × Bool) :=
  (s.motion.fbs[x]?).bind fun f => match f.stepAt ns with
    | some e => some e.2.2
    | none => f.abWas

/-- An index shift −Δ takes effect on axis `x` (R480): from UNREF the state becomes OK. -/
def State.applyShift (s : State) (x : Nat) (delta : Int) (unref : Bool) : State :=
  let s := s.shiftCount x (-delta)
  let s := (s.onFb x fun f => { f with shift := none }).setFld (Reg.FB_AX_STATUS x)
    Fld.FB_AX_STATUS_DEFERRED 0
  if unref then
    (s.setFld (Reg.FB_AX_STATUS x) Fld.FB_AX_STATUS_STATE 0).event (Reg.FB_AX_EVENT x) Fld.FB_AX_EVENT_REREF
  else s.event (Reg.FB_AX_EVENT x) Fld.FB_AX_EVENT_INDEX_CORRECTED

/-- A deferred shift on axis S takes effect once no swath is ARMED or RUNNING (R480). -/
def State.deferredShift (s : State) : State :=
  if s.gy.swaths.any fun w => w.state == .armed || w.state == .running then s
  else match (s.motion.fbs[0]?).bind (·.shift) with
    | some (d, u) => s.applyShift 0 d u
    | none => s

end Sys2Proof.Machine
end

