-- ==== Sys2Proof/Machine/Operands.lean ====
section
/-! DEFINITION. Readers of the module's own data: materials and the ports bound to them (R83, R96),
layers and swath plans in flight, and the code widths in force. -/

namespace Sys2Proof.Machine

open Sys2Proof.Bits

/-- The module's own node ID (R400). -/
def State.node (s : State) : Nat := s.fld Reg.FAB_STATUS Fld.FAB_STATUS_NODE_ID

/-- The module's serial number (R7). -/
def State.serial (s : State) : Nat := s.pair Reg.GLB_SERIAL_LO

/-- The MATERIAL record that node `node` applies for index `m`: its own, else the one for every
module (R83). -/
def appliedMaterial (ms : List MaterialRec) (node m : Nat) : Option MaterialRec :=
  match ms.find? fun r => r.material == m && r.node == node with
  | some r => some r
  | none => ms.find? fun r => r.material == m && r.node == 0xFFFF

/-- The applied record of the material bound to head port `p` (R83). -/
def portMaterial (ms : List MaterialRec) (node p : Nat) : Option MaterialRec :=
  ((List.range 16).filterMap (appliedMaterial ms node)).find? fun r => bit r.portMask p

/-- Code width in bits of CODE_BITS (R82). -/
def codeWidth (r : MaterialRec) : Nat := 2 ^ r.codeBits

/-- Ports bound on the node to material `m`; empty where it is unbound (R83). -/
def boundPorts (ms : List MaterialRec) (node m : Nat) : List Nat :=
  match appliedMaterial ms node m with
  | some r => (List.range 6).filter fun p => bit r.portMask p
  | none => []

/-- Ports used in a swath: those bound to the materials of its mask (R96). -/
def usedPorts (ms : List MaterialRec) (node mask : Nat) : List Nat :=
  (List.range 6).filter fun p =>
    (List.range 16).any fun m => bit mask m && (boundPorts ms node m).contains p

/-- The layer in flight with sequence number `q`. -/
def State.layer (s : State) (q : Nat) : Option Layer := s.layers.find? fun l => l.seq == q

/-- The swath entry `i` of a layer's plan. -/
def Layer.entry (l : Layer) (i : Nat) : Option SwathEntry := l.plan[i]?

/-- The list with `f` applied to the first element that `p` names. -/
def onFirst {α : Type} (p : α → Bool) (f : α → α) : List α → List α
  | [] => []
  | x :: t => if p x then f x :: t else x :: onFirst p f t

/-- The state with layer `q` changed by `f`: the earliest in flight, where a later job uses the number again
(R116). -/
def State.onLayer (s : State) (q : Nat) (f : Layer → Layer) : State :=
  { s with layers := onFirst (fun l => l.seq == q) f s.layers }

/-- Layers in flight whose number no earlier one has: a later job's layer of the same number waits for that to leave
(R116). -/
def firstOfSeq (seen : List Nat) : List Layer → List Layer
  | [] => []
  | l :: t => if seen.contains l.seq then firstOfSeq seen t else l :: firstOfSeq (l.seq :: seen) t

/-- Layers that may be surveyed and expanded, in firing order. -/
def State.openLayers (s : State) : List Layer := firstOfSeq [] s.layers

/-- Layers that may start: those of the job whose layers fire; a later job's start only after its last has fired
(R116). -/
def State.jobLayers (s : State) : List Layer :=
  s.layers.filter fun l => s.layers.head?.all fun h => h.job.no == l.job.no

/-- The default transfer curve of R86. -/
def defaultCurve (k : Nat) : Nat := min (16 * k) 65535

/-- Linear dose of intensity `k` for material `m` of a layer (R85, R86). -/
def Layer.dose (l : Layer) (m k : Nat) : Nat :=
  match Kv.get l.curves m with
  | some c => nth c k 0
  | none => defaultCurve k

/-- The line fired `k`-th in a swath (R95, R250). -/
def SwathEntry.line (e : SwathEntry) (k : Nat) : Nat := if e.reverse then e.lines - 1 - k else k

/-- The position in firing order of line `n`. -/
def SwathEntry.order (e : SwathEntry) (n : Nat) : Nat := if e.reverse then e.lines - 1 - n else n

/-- Tile rows of a swath. -/
def SwathEntry.tileRows (e : SwathEntry) : Nat := divUp e.lines 128

/-- The tile row fired `k`-th. -/
def SwathEntry.rowAt (e : SwathEntry) (k : Nat) : Nat :=
  if e.reverse then e.tileRows - 1 - k else k

/-- The place of tile row `r` in firing order. -/
def SwathEntry.rowPos (e : SwathEntry) (r : Nat) : Nat := if e.reverse then e.tileRows - 1 - r else r

/-- Existing lines of tile row `r` (R174). -/
def SwathEntry.rowLines (e : SwathEntry) (r : Nat) : Nat := min 128 (e.lines - 128 * r)

/-- The first line in firing order of tile row `r`. -/
def SwathEntry.rowFirst (e : SwathEntry) (r : Nat) : Nat :=
  if e.reverse then 128 * r + e.rowLines r - 1 else 128 * r

/-- The last line in firing order of tile row `r`. -/
def SwathEntry.rowLast (e : SwathEntry) (r : Nat) : Nat :=
  if e.reverse then 128 * r else 128 * r + e.rowLines r - 1

/-- The swath in flight that is named. -/
def State.swath (s : State) (layer idx : Nat) : Option Swath :=
  s.gy.swaths.find? fun w => w.layer == layer && w.idx == idx

/-- The state with that swath changed by `f`. -/
def State.onSwath (s : State) (layer idx : Nat) (f : Swath → Swath) : State :=
  { s with gy := { s.gy with swaths := s.gy.swaths.map fun w =>
      if w.layer == layer && w.idx == idx then f w else w } }

/-- The plan entry of a swath in flight. -/
def State.swEntry (s : State) (w : Swath) : Option SwathEntry :=
  match s.layer w.layer with
  | some l => l.entry w.idx
  | none => none

/-- A swath has left the field: it fires nothing more (R268). -/
def SwathState.over : SwathState → Bool
  | .done => true
  | .stopped => true
  | _ => false

/-- Codes of R281. -/
def SwathState.code : SwathState → Nat
  | .captured => 1 | .ready => 2 | .armed => 3 | .running => 4 | .draining => 5 | .done => 6
  | .stopped => 7

/-- The swath has reached RUNNING or a later state (R269). -/
def SwathState.running' : SwathState → Bool
  | .running => true | .draining => true | .done => true | .stopped => true | _ => false

/-- The swath that fires: the oldest in flight (R281). -/
def State.curSwath (s : State) : Option Swath := s.gy.swaths.head?

end Sys2Proof.Machine
end

