-- ==== Sys2Proof/Machine/LinkOut.lean ====
section
/-! DEFINITION. Lanes and their ports, the characters of the links, and what a port sends (R287, R289, R371, R402 to R407,
R522). Ports here are 0 ingest, 1 to 4 fabric, 5 to 10 heads, 11 management. -/

namespace Sys2Proof.Machine

open Sys2Proof.Bits

/-! ### Lanes and ports (R402) -/

/-- The port of lane `n`. -/
def lanePort (n : Nat) : Nat :=
  if n < 8 then 0 else if n < 16 then 1 + (n - 8) / 2 else if n < 40 then 5 + (n - 16) / 4 else 11

/-- First lane and lane count of port `q`. -/
def portLanes (q : Nat) : Nat × Nat :=
  if q = 0 then (0, 8) else if q < 5 then (8 + 2 * (q - 1), 2) else if q < 11 then (16 + 4 * (q - 5), 4) else (40, 1)

/-- The lanes of port `q`. -/
def lanesOf (q : Nat) : List Nat := (List.range (portLanes q).2).map ((portLanes q).1 + ·)

/-- Lane in port of lane `n`. -/
def laneIn (n : Nat) : Nat := n - (portLanes (lanePort n)).1

/-- Number of lanes in a mask. -/
def maskCount (m : Nat) : Nat := sumBelow 8 fun i => b2n (bit m i)

/-- HP_PORT_STATUS.STATE of port `p` (R326). -/
def State.portState (s : State) (p : Nat) : Nat :=
  s.fld (Reg.HP_PORT_STATUS p) Fld.HP_PORT_STATUS_STATE

/-- Active-lane mask of port `p`. -/
def State.lanes (s : State) (p : Nat) : Nat := s.fld (Reg.HP_PORT_STATUS p) Fld.HP_PORT_STATUS_LANES

/-- A port before its first use. -/
def FabPort.empty : FabPort :=
  ⟨0, 0, [], 0, 0, [], [], [], [], 0, 0, 0, false, 0, 0, 0, 0, none, [], [], [], false, []⟩

/-- Fabric port `p`. -/
def State.fport (s : State) (p : Nat) : FabPort := (s.fab.ports[p]?).getD FabPort.empty

/-- FAB_PORT_STATUS.STATE of port `p`: 0 DOWN, 1 TRAIN, 2 HELLO, 3 UP (R374). -/
def State.fpState (s : State) (p : Nat) : Nat := s.fld (Reg.FAB_PORT_STATUS p) Fld.FAB_PORT_STATUS_STATE

/-- FAB_STATUS.STATE (R380). -/
def State.fabState (s : State) : Nat := s.fld Reg.FAB_STATUS Fld.FAB_STATUS_STATE

/-- The stored state of lane `n`: a lane in L0 is stored as STANDBY, and its place in the mask tells them apart. -/
def State.laneRaw (s : State) (n : Nat) : Nat := s.fld (Reg.LN_LANE_STATUS n) Fld.LN_LANE_STATUS_STATE

/-- The active-lane mask of port `q`. -/
def State.portMask (s : State) (q : Nat) : Nat :=
  if q = 0 then s.fld Reg.ING_STATUS Fld.ING_STATUS_LANES
  else if q < 5 then (s.fport (q - 1)).mask
  else if q < 11 then if s.portState (q - 5) = 0 then 0 else s.lanes (q - 5)
  else s.ln.mgtMask.getD 0

/-- Bits of the lanes of port `q` stored STANDBY: those trained and awake, in the mask or beside it. -/
def State.standby (s : State) (q : Nat) : Nat :=
  (lanesOf q).foldl (fun m n => if s.laneRaw n = 3 then m ||| 2 ^ laneIn n else m) 0

/-- Lane `n` is in its port's mask. -/
def State.inMask (s : State) (n : Nat) : Bool := bit (s.portMask (lanePort n)) (laneIn n)

/-- The management lane is in L0: frames pass (R424). -/
def State.mgtLink (s : State) : Bool := s.laneRaw 40 == 3 && s.inMask 40

/-- Lanes `n` to `n + k - 1` include one in LS or LD. -/
def State.asleep (s : State) (n k : Nat) : Bool :=
  (List.range k).any fun i =>
    let st := s.fld (Reg.LN_LANE_STATUS (n + i)) Fld.LN_LANE_STATUS_STATE
    st == 5 || st == 6

/-- The request of port `q` for LS or LD (R418). -/
def State.pwrReq (s : State) (q : Nat) : Option PwrReq := s.ln.pwr.find? fun r => r.port == q

/-- Port `q` sends no new frame: a request of it for LS or LD waits (R418). -/
def State.asking (s : State) (q : Nat) : Bool := (s.pwrReq q).isSome

/-- The request of port `q` is gone. -/
def State.dropReq (s : State) (q : Nat) : State :=
  { s with ln := { s.ln with pwr := s.ln.pwr.filter fun r => r.port != q } }

/-! ### Characters (R287, R289, R371, R403, R404) -/

/-- D*x*.*y*. -/
def dxy (x y : Nat) : Chr := .d (BitVec.ofNat 8 (x + 32 * y))

/-- The data character of a number's low byte. -/
def dNum (n : Nat) : Chr := .d (BitVec.ofNat 8 n)

/-- Lanes of a mask, ascending. -/
def maskLanes (m : Nat) : List Nat := (List.range 8).filter fun i => bit m i

/-- The lowest lane of a mask, as a mask: the time lane of R289 and R371. -/
def timeLane (m : Nat) : Nat := ((maskLanes m).head?.map (2 ^ ·)).getD 0

/-- The same characters on every lane of a mask. -/
def onLanes (m : Nat) (cs : List Chr) : List (Nat × List Chr) := (maskLanes m).map fun l => (l, cs)

/-- A frame's bytes striped across the lanes of a mask, from SOF to EOF; PAD fills the last slot (R287). -/
def stripe (m : Nat) (fr : List Byte) : List (Nat × List Chr) :=
  let ls := maskLanes m
  let a := ls.length
  ls.zipIdx.map fun (l, i) =>
    (l, .k 27 7 :: ((List.range (divUp fr.length a)).map fun k => match fr[a * k + i]? with
      | some b => Chr.d b
      | none => .k 23 7) ++ [.k 29 7])

/-- TMARK and FTMARK. -/
def setMark (mark : Nat) : List Chr := [.k 28 1, dNum mark, dxy 0 0, dxy 0 0]

/-- ESTOP. -/
def setEstop : List Chr := [.k 28 3, dxy 21 5, dxy 21 5, dxy 21 5]

/-- LWIDTH. -/
def setLwidth (m : Nat) : List Chr := [.k 28 6, dNum m, dNum (255 - m % 256), dxy 0 0]

/-- HELLO. -/
def setHello (port st : Nat) : List Chr := [.k 28 0, dNum port, dNum st, dNum (255 - port)]

/-- LACK. -/
def setLack (lseq : Nat) (nak : Bool) : List Chr := [.k 28 2, dNum lseq, dNum (lseq / 256), dNum (b2n nak)]

/-- CREDIT. -/
def setCredit (cls total : Nat) : List Chr := [.k 28 4, dNum cls, dNum total, dNum (total / 256)]

/-- IDLE. -/
def setIdle : List Chr := [.k 28 5, dxy 21 4, dxy 21 4, dxy 21 4]

/-- SKIP. -/
def setSkip : List Chr := [.k 28 5, dxy 0 7, dxy 0 7, dxy 0 7]

/-- NOT_READY with its reason. -/
def setNotReady (reason : Nat) : List Chr := [.k 28 5, dxy 10 2, dNum reason, dNum (255 - reason)]

/-- EI_LS, or EI_LD for kind 2. -/
def setEi (kind : Nat) : List Chr := [.k 28 5, dxy 3 kind, dxy 3 kind, dxy 3 kind]

/-- The two Clause 37 configuration sets of the management lane, with their register (R424): full duplex without PAUSE, and
Remote Fault Offline in bit 13 or none. PRESUMED: the coding is that of IEEE 802.3 (log entry 64). -/
def setConfig (offline : Bool) : List Chr :=
  let reg := [dNum 0x20, dNum (if offline then 0x20 else 0)]
  [.k 28 5, dxy 21 5] ++ reg ++ [.k 28 5, dxy 2 2] ++ reg

/-- `n` sets in a row. -/
def setsOf (n : Nat) (cs : List Chr) : List Chr := (List.replicate n cs).flatten

/-! ### What a port sends -/

/-- Frame `fr` goes out on the active lanes of port `q` (R287). -/
def State.sendOn (s : State) (q : Nat) (fr : List Byte) : State := s.emit (.link q (stripe (s.portMask q) fr))

/-- The ordered set `cs` goes out on the lanes `m` of port `q`, if there are any. -/
def State.setOn (s : State) (q m : Nat) (cs : List Chr) : State :=
  if maskLanes m = [] then s else s.emit (.link q (onLanes m cs))

/-- The ordered set `cs` goes out on the time lane of port `q`, where any lane will do too (R289, R371). -/
def State.setTime (s : State) (q : Nat) (cs : List Chr) : State := s.setOn q (timeLane (s.portMask q)) cs

/-- Port `q` is ready, and no longer sends NOT_READY (R407, R585). A fabric that has settled without an ID for this module
passes transit frames too (R379; DEDUCED, log entry 80). -/
def State.linkReady (s : State) (q : Nat) : Bool :=
  if q = 0 then s.flag Reg.ING_STATUS Fld.ING_STATUS_READY
  else if q < 5 then s.locked && (s.fabState == 3 || s.fabState == 4)
  else if q < 11 then s.portState (q - 5) == 6
  else true

/-- The reason of the NOT_READY sets that port `q` sends (R404, R577, R580, R585): 1 IMAGE, 2 PORT, 3 DISABLED, 4 FAULT; 0
where it is ready. -/
def State.nrReason (s : State) (q : Nat) : Nat :=
  if q = 11 then 0
  else if ¬ s.locked ∨ s.boot.phase = .rescue then 1
  else if 5 ≤ q ∧ s.portState (q - 5) = 0 then 3
  else if 5 ≤ q ∧ s.portState (q - 5) = 7 then 4
  else if s.linkReady q then 0 else 2

/-- What a lane of port `q` sends when no frame or other set is due: IDLE, or NOT_READY in its place (R404, R407). The
management lane sends configuration, Offline until the port is ready (R424). -/
def State.idleSet (s : State) (q : Nat) : List Chr :=
  if q = 11 then setConfig (s.regN (Reg.CFG_MILESTONE 5) == 0 || s.boot.phase == .rescue)
  else if s.nrReason q = 0 then setIdle
  else setNotReady (s.nrReason q)

/-- What stands in the log of outputs for all that a lane sends from now on between frames: one set of R404 and one SKIP, of
which at least one comes in every 1,024 slots, in the same slot on every lane; on the management lane its own sets (log
entry 64). -/
def State.idleFlow (s : State) (q : Nat) : List Chr := s.idleSet q ++ if q = 11 then [] else setSkip

/-- From now on the lanes of port `q`, active or in STANDBY, send what they send between frames (R404, R407, R411). -/
def State.fill (s : State) (q : Nat) : State := s.setOn q (s.standby q) (s.idleFlow q)

end Sys2Proof.Machine
end

