-- ==== Sys2Proof/Machine/Wave.lean ====
section
/-! DEFINITION. Head identity memories, waveform sets and their rules (R309, R311 to R314). -/

namespace Sys2Proof.Machine

open Sys2Proof.Bits

/-- Address of the identity memory mirror of head `h` on port `p` (R309). -/
def identAddr (p h : Nat) : Nat := 0x01C10000 + 0x8000 * p + 0x1000 * h

/-- A field of a head's identity memory (R309). -/
def State.ident (s : State) (p h off n : Nat) : Nat :=
  rd (s.tblBytes (identAddr p h + off / 4 * 4) 16) (off % 4) n

/-- Head `h` of port `p` is enumerated and not lost (R326). -/
def State.headPresent (s : State) (p h : Nat) : Bool :=
  s.flag (Reg.HP_HEAD_INFO p h) Fld.HP_HEAD_INFO_PRESENT

/-- Heads enumerated on port `p`. -/
def State.portHeads (s : State) (p : Nat) : Nat :=
  s.fld (Reg.HP_PORT_STATUS p) Fld.HP_PORT_STATUS_HEADS

/-! ### Waveform sets (R311, R312) -/

/-- Window address of waveform set `n` (R311). -/
def waveAddr (n : Nat) : Nat := 0x01C00000 + 0x1000 * n

/-- The editable copy of set `n`. -/
def State.waveCopy (s : State) (n : Nat) : List Byte := s.tblBytes (waveAddr n) 4096

/-- NCLASS, CODE_MAP entry `c` and PULSES of class `k` of a set. -/
def waveClasses (b : List Byte) : Nat := rd b 1 1
def waveMap (b : List Byte) (c : Nat) : Nat := rd b (64 + c) 1
def wavePulses (b : List Byte) (k : Nat) : Nat := rd b (320 + 64 * k) 1

/-- WIDTH and GAP of pulse `i` of class `k`. -/
def waveWidth (b : List Byte) (k i : Nat) : Nat := rd b (338 + 64 * k + 6 * i) 2
def waveGap (b : List Byte) (k i : Nat) : Nat := rd b (340 + 64 * k + 6 * i) 2

/-- Length of the train of class `k` in ns (R311). -/
def waveTrain (b : List Byte) (k : Nat) : Nat :=
  let n := wavePulses b k
  sumBelow n (fun i => waveWidth b k i + waveGap b k i) - (if n = 0 then 0 else waveGap b k (n - 1))

/-- The minimum event spacing M in ns for a code width (R259). -/
def eventSpacing (w : Nat) : Nat := if w = 8 then 9000 else 4500

/-- A class that a port of code width `w` can select has a train longer than its spacing (R312). -/
def trainLong (b : List Byte) (w : Nat) : Bool :=
  (List.range (2 ^ w)).any fun c => eventSpacing w < waveTrain b (waveMap b c)

/-- The fault of a set's copy (R313); none where it passes. -/
def waveFault (b : List Byte) : Option Nat :=
  let n := waveClasses b
  if 1 < rd b 0 1 then some 1
  else if n = 0 ∨ 16 < n then some 2
  else if waveMap b 0 ≠ 0 ∨ (List.range 256).any (fun c => n ≤ waveMap b c) then some 3
  else if wavePulses b 0 ≠ 0 ∨ (List.range n).any (fun k => 8 < wavePulses b k) then some 4
  else if (List.range n).any (fun k => (List.range (wavePulses b k)).any fun i => waveWidth b k i == 0) then
    some 5
  else if (List.range n).any (fun k => 9000 < waveTrain b k) then some 6
  else none

/-- The bytes of set `n` that the next capture uses: its shadow where one is pending, else the set in
force (R313), and before a first capture its copy in the window (R574). -/
def State.waveNext (s : State) (n : Nat) : List Byte :=
  match Kv.get s.hp.waves.shadow n with
  | some b => b
  | none => (Kv.get s.hp.waves.active n).getD (s.waveCopy n)

/-- The set of material `r` breaks the train limit of its ports (R313). -/
def State.waveLong (s : State) (r : MaterialRec) : Bool := trainLong (s.waveNext r.waveSet) (codeWidth r)

/-- An amplitude scaled for a head's rank (R312). -/
def scaleAmp (amp scale : Nat) : Nat := min 65535 ((amp * scale + 16384) / 32768)

/-- A class entry with its amplitudes scaled. -/
def scaledClass (b : List Byte) (k scale : Nat) : List Byte :=
  let e := 320 + 64 * k
  (b.drop e).take 16 ++ (List.range 8).flatMap fun i =>
    toLE 2 (scaleAmp (rd b (e + 16 + 6 * i) 2) scale) ++ (b.drop (e + 18 + 6 * i)).take 4

/-- The WAVE payload that carries a set to a head of rank `rank` (R292, R312). -/
def wavePayload (b : List Byte) (hoId rank : Nat) : List Byte :=
  toLE 2 hoId ++ b.take 2 ++ (b.drop 64).take 256 ++
    (List.range 16).flatMap fun k => scaledClass b k (rd b (8 + 2 * rank) 2)

end Sys2Proof.Machine
end

