-- ==== Sys2Proof/Machine/HeadFrame.lean ====
section
/-! DEFINITION. Head ports, their frames and their way back to ENUM (R285 to R291, R308, R320). -/

namespace Sys2Proof.Machine

open Sys2Proof.Bits

/-! ### Ports and heads -/

/-- A head before it is enumerated. -/
def HeadLink.empty : HeadLink := ⟨0, none, 0, 0, none, [], [], 0, [], 0, 0, []⟩

/-- A port before its first use. -/
def Port.empty : Port :=
  ⟨List.replicate 8 HeadLink.empty, [], [], 0, 0, 0, 0, none, 1, [], false, 0, 0, [], false, false, none, [], 0, []⟩

/-- Port `p`. -/
def State.port (s : State) (p : Nat) : Port := (s.hp.ports[p]?).getD Port.empty

/-- The state with port `p` changed by `f`. -/
def State.onPort (s : State) (p : Nat) (f : Port → Port) : State :=
  match s.hp.ports[p]? with
  | some x => { s with hp := { s.hp with ports := s.hp.ports.set p (f x) } }
  | none => s

/-- Head `h` of port `p`. -/
def State.headLink (s : State) (p h : Nat) : HeadLink := ((s.port p).heads[h]?).getD HeadLink.empty

/-- The state with head `h` of port `p` changed by `f`. -/
def State.onHead (s : State) (p h : Nat) (f : HeadLink → HeadLink) : State :=
  s.onPort p fun x => match x.heads[h]? with
    | some y => { x with heads := x.heads.set h (f y) }
    | none => x

/-- The heads of port `p` that are enumerated and not lost, in chain order. -/
def State.headsOf (s : State) (p : Nat) : List Nat := (List.range 8).filter fun h => s.headPresent p h

/-- A swath in flight uses port `p` and is in a state that `q` names. -/
def State.portSwath (s : State) (p : Nat) (q : SwathState → Bool) : Bool :=
  s.gy.swaths.any fun w => w.ports.contains p && q w.state

/-- ARMED or RUNNING (R308, R319). -/
def SwathState.live : SwathState → Bool
  | .armed => true
  | .running => true
  | _ => false

/-- Port `p` enters state `st` (R326); with its reason, the sets it sends between frames change (R407, R585). -/
def State.setPortState (s : State) (p st : Nat) : State :=
  let was := s.nrReason (5 + p)
  let s := s.setFld (Reg.HP_PORT_STATUS p) Fld.HP_PORT_STATUS_STATE st
  let s := if s.nrReason (5 + p) = was then s else s.fill (5 + p)
  let up := (List.range 6).all fun q => !bit (s.fld Reg.HP_CFG Fld.HP_CFG_PORT_EN) q || s.portState q == 6
  if st = 6 ∧ up = true then s.milestoneNow 7 else s

/-- The lowest of lanes `n` to `n + k - 1` that is trained (R407). -/
def State.nrLane (s : State) (n k : Nat) : Option Nat :=
  ((List.range k).map (n + ·)).find? fun i =>
    s.fld (Reg.LN_LANE_STATUS i) Fld.LN_LANE_STATUS_STATE == 3

/-- A frame that arrives on a port of lanes `n` to `n + k - 1` while it sends NOT_READY is discarded (R407); it
counts on the port's lowest trained lane. -/
def State.nrDiscard (s : State) (n k : Nat) : State :=
  match s.nrLane n k with
  | none => s
  | some i => (s.count (Reg.LN_LANE_NR i) 1).raise .contained Reg.LN_EVENT Fld.LN_EVENT_NR_FRAME 0 (unitLane i)

/-! ### Frames (R290, R291) -/

/-- Header and payload of a frame, the payload padded to whole words (R290). -/
def headBody (ty head seq : Nat) (pay : List Byte) : List Byte :=
  let pay := pay ++ List.replicate ((4 - pay.length % 4) % 4) 0
  toLE 1 ty ++ toLE 1 head ++ toLE 2 (pay.length / 4) ++ toLE 2 seq ++ [0, 0] ++ pay

/-- The next SEQ of port `p` downstream to `head`, 0xFF being the broadcast counter (R291). -/
def State.seqTo (s : State) (p head : Nat) : Nat :=
  if head = 255 then (s.port p).bcastSeq else (s.headLink p head).seqDown

/-- Head port `p` sends no new frame: it asks for LS or LD, or sleeps (R418). -/
def State.headShut (s : State) (p : Nat) : Bool := s.asking (5 + p) || s.asleep (16 + 4 * p) 4

/-- Frame `fr` goes out on the lanes of port `p`; during a narrowing it waits (R317), and while the port goes to LS or LD or
is there (R418). A sideband request already in flight is sent again all the same. -/
def State.sendHead (s : State) (p : Nat) (fr : List Byte) : State :=
  if s.headShut p ∧ (s.asleep (16 + 4 * p) 4 ∨ rd fr 0 1 ≠ 7) then
    s.onPort p fun x => { x with parked := x.parked ++ [fr] }
  else if (s.port p).narrow.isSome then s.onPort p fun x => { x with held := x.held ++ [fr] }
  else s.sendOn (5 + p) fr

/-- Port `p` sends a frame to `head` (R290, R291, R540). `upset` sends it with a wrong CRC. -/
def State.sendFrameU (s : State) (p head ty : Nat) (pay : List Byte) (upset : Bool) : State :=
  let seq := s.seqTo p head
  let body := headBody ty head seq pay
  let crc := if upset then Crc.crc32c body ^^^ 1 else Crc.crc32c body
  let k : SnoopBlock := ⟨pointHead, p, [], body, crc, 0, seq, p * 65536 + seq⟩
  let bad := s.snoopBad k
  let s := (s.snoop k).sendHead p (body ++ toLE 4 crc)
  let s := if bad then s.logErr .contained 12 (errCodeNone 0) (unitHp p) 0 else s
  if head = 255 then s.onPort p fun x => { x with bcastSeq := (seq + 1) % 65536 }
  else s.onHead p head fun x => { x with seqDown := (seq + 1) % 65536 }

/-- Port `p` sends a frame to `head`. -/
def State.sendFrame (s : State) (p head ty : Nat) (pay : List Byte) : State :=
  s.sendFrameU p head ty pay false

/-! ### Requests for LS and LD (R418) -/

/-- An LWIDTH of ingest or fabric port `q` awaits its answer (R317, R369, R417). -/
def State.narrowing (s : State) (q : Nat) : Bool := if q = 0 then s.ing.narrow else (s.fport (q - 1)).narrow

/-- Nothing is queued or in flight on port `q` (R418): no frame waits there or has no acknowledgement, no LWIDTH is without
its answer, and no head owes a sideband response. -/
def State.quiet (s : State) (q : Nat) : Bool :=
  if 1 ≤ q ∧ q < 5 then !s.narrowing q && (s.fport (q - 1)).queue.isEmpty && (s.fport (q - 1)).retry.isEmpty
  else if 5 ≤ q ∧ q < 11 then
    let x := s.port (q - 5)
    x.queue.isEmpty && x.narrow.isNone && x.held.isEmpty && x.heads.all fun h => h.sb.isNone
  else if q = 0 then !s.narrowing 0 && s.ing.retry.isEmpty && s.ing.upQueue.isEmpty && s.ing.upHeld.isEmpty
  else true

/-- EI_LS or EI_LD goes out four times on every active lane, and IDLE after it (R404, R418). -/
def State.sendEi (s : State) (q kind : Nat) : State :=
  (s.setOn q (s.portMask q) (setsOf 4 (setEi kind))).fill q

/-- A request that waits sends its sets once its port is quiet (R418). -/
def State.pwrCheck (s : State) (q : Nat) : State :=
  match s.pwrReq q with
  | some r =>
    if ¬ r.sent ∧ s.quiet q then
      let s := s.dropReq q
      let s : State := { s with ln := { s.ln with pwr := { r with sent := true } :: s.ln.pwr } }
      s.sendEi q r.kind
    else s
  | none => s

/-! ### The way back to ENUM (R320) -/

/-- Port `p` enters FAULT with cause `c` (R320, R326). -/
def State.portFault (s : State) (p c : Nat) : State :=
  let s := (s.setPortState p 7).setFld (Reg.HP_PORT_STATUS p) Fld.HP_PORT_STATUS_FAULT_CAUSE c
  s.onPort p fun x => { x with toEnum := false, narrow := none, held := [], parked := [] }

/-- Port `p` sends ENUM and waits for the answers (R292, R320). -/
def State.sendEnum (s : State) (p : Nat) : State :=
  (s.onPort p fun x => { x with enumSeen := [], enumEnd := false }).sendFrame p 255 8 [0, 0, 0, 0]

/-- Port `p` enters ENUM. After a loss from READY each entry is an attempt, and FAULT follows three that did
not bring the port back (R320). -/
def State.enterEnum (s : State) (p : Nat) : State :=
  let x := s.port p
  let s := s.onPort p fun x => { x with toEnum := false, enumShort := 0, parked := [] }
  if x.afterLoss ∧ 3 ≤ x.attempts then s.portFault p 5
  else
    let s := if x.afterLoss then s.onPort p fun x => { x with attempts := x.attempts + 1 } else s
    (s.setPortState p 2).sendEnum p

/-- A port that left service enters ENUM once no swath using it is ARMED or RUNNING (R308, R320) and its lanes
are awake (R599). -/
def State.toEnumCheck (s : State) (p : Nat) : State :=
  if (s.port p).toEnum ∧ ¬ s.portSwath p SwathState.live ∧ ¬ s.asleep (16 + 4 * p) 4 then s.enterEnum p else s

/-- Every port that waits to enter ENUM tries. -/
def State.toEnumChecks (s : State) : State := (List.range 6).foldl (fun s p => s.toEnumCheck p) s

/-! ### The way from LOAD to READY (R314, R320) -/

/-- Every head of port `p` has acknowledged hand-over `o`. -/
def State.hoDone (s : State) (p : Nat) (o : HandOver) : Bool :=
  !o.refused && (s.headsOf p).all fun h => o.acked.contains h

/-- The hand-overs of port `p` whose swath is in flight. -/
def State.hosOpen (s : State) (p : Nat) : List HandOver :=
  (s.port p).hos.filter fun o => s.gy.swaths.any fun w => w.layer == o.layer && w.idx == o.swath

/-- Port `p` in LOAD is READY once nothing is left to acknowledge (R320). -/
def State.loadCheck (s : State) (p : Nat) : State :=
  if s.portState p = 5 ∧ ((s.hosOpen p).all fun o => o.refused || s.hoDone p o) = true then
    (s.onPort p fun x => { x with afterLoss := false, attempts := 0, enumShort := 0 }).setPortState p 6
  else s

/-- Every port in LOAD tries. -/
def State.loadChecks (s : State) : State := (List.range 6).foldl (fun s p => s.loadCheck p) s

/-! ### Ports held by temperature (R273, R274, R284) -/

/-- Every head of port `p` has reported at or below RESUME as it was at its latest report (R273, R283). -/
def State.portCool (s : State) (p : Nat) : Bool :=
  (s.gy.temps.all fun x => x.1 / 8 != p || x.2.cool) &&
    (s.headsOf p).all fun h => (Kv.get s.gy.temps (p * 8 + h)).isSome

/-- A port that a hard limit has stopped is held as under R273 once no swath with a row stopped there is left, and free
where its heads have cooled by then (R274, R284). -/
def State.hardToHeld (s : State) (p : Nat) : State :=
  if s.fld (Reg.GY_PORT_STATUS p) Fld.GY_PORT_STATUS_TEMP_STATE = 2 ∧
      ¬ s.gy.swaths.any fun w => w.rows.any fun r => r.port == p && !r.hard.isEmpty then
    s.setFld (Reg.GY_PORT_STATUS p) Fld.GY_PORT_STATUS_TEMP_STATE (b2n (!s.portCool p))
  else s

/-- Every port tries. -/
def State.hardsToHeld (s : State) : State := (List.range 6).foldl (fun s p => s.hardToHeld p) s

end Sys2Proof.Machine
end

