-- ==== Sys2Proof/Machine/Codec.lean ====
section
/-! DEFINITION. The run-and-delta codec (R559, R560). -/

namespace Sys2Proof.Codec

open Sys2Proof.Bits

/-- `c` bytes of a DELTA token: each equals the output byte `stride` positions before it (R560). -/
def delta (out : List Byte) (stride : Nat) : Nat → List Byte
  | 0 => out
  | c + 1 => delta (out ++ [nth out (out.length - stride) 0]) stride c

/-- The decode of R560, on at most `fuel` tokens. -/
def decodeGo (stride orig : Nat) : Nat → List Byte → List Byte → Option (List Byte)
  | _, [], out => if out.length = orig then some out else none
  | 0, _ :: _, _ => none
  | fuel + 1, t :: rest, out =>
    if t.toNat < 0x80 then
      let c := t.toNat + 1
      if c > rest.length ∨ out.length + c > orig then none
      else decodeGo stride orig fuel (rest.drop c) (out ++ rest.take c)
    else
      let c := t.toNat % 64 + 3
      if out.length + c > orig then none
      else if t.toNat < 0xC0 then
        match rest with
        | [] => none
        | b :: rest => decodeGo stride orig fuel rest (out ++ List.replicate c b)
      else if stride = 0 ∨ out.length < stride then none
      else decodeGo stride orig fuel rest (delta out stride c)

/-- The string of `orig` bytes that the tokens `inp` spell with `stride`, if they are valid (R560). -/
def decode (inp : List Byte) (stride orig : Nat) : Option (List Byte) :=
  decodeGo stride orig inp.length inp []

/-- The stored form of `data`: the tokens the compressor chooses, which R560 leaves open as long as
they decode to the data, or the data itself where they would not be shorter (R561 NO_GAIN). -/
def store (tokens data : List Byte) (stride : Nat) : List Byte × Bool :=
  if decode tokens stride data.length = some data ∧ tokens.length < data.length then (tokens, false)
  else (data, true)

end Sys2Proof.Codec
end

