-- ==== Sys2Proof/Machine/Record.lean ====
section
/-! DEFINITION. The record compressor's stream: blocks, layer index and event entries (R548 to R563). -/

namespace Sys2Proof.Machine

open Sys2Proof.Bits

/-- Size of the record region in bytes (R548, R567). -/
def State.recSize (s : State) : Nat := min (max (s.regN Reg.CMP_REC_MIB) 1024) 32768 * 2 ^ 20

/-- Free bytes of the record region: those not held (R548). -/
def State.recFree (s : State) : Nat :=
  s.recSize - (s.pair Reg.CMP_WRITE_OFS_LO - s.pair Reg.CMP_REC_RELEASE_LO)

/-- The reserve of R562 in bytes. -/
def State.recReserve (s : State) : Nat := max (s.fld Reg.CMP_CFG Fld.CMP_CFG_RESERVE_MIB) 16 * 2 ^ 20

/-- DRAM address of stream offset `o` (R548). -/
def State.recAddr (s : State) (o : Nat) : Nat := s.pair Reg.CMP_REC_BASE_LO + o % s.recSize

/-- The bytes `bs` written from stream offset `o` by the compressor, requester 7 of R503: the region is a ring. -/
def State.recWrite (s : State) (o : Nat) (bs : List Byte) : State :=
  let n := s.recSize - o % s.recSize
  (s.store 7 (s.recAddr o) (bs.take n)).store 7 (s.recAddr (o + n)) (bs.drop n)

/-- DRAM spans of `n` bytes of the stream from offset `o`: two where the region wraps. -/
def State.recSpans (s : State) (o n : Nat) : List (Nat × Nat) :=
  let k := min n (s.recSize - o % s.recSize)
  if k = n then [(s.recAddr o, n)] else [(s.recAddr o, k), (s.recAddr (o + k), n - k)]

/-- `n` bytes of the stream from offset `o` are read for requester `req`: whether a word is uncorrectable, the bytes, and the
state after (R505). -/
def State.recFetch (s : State) (req o n : Nat) : Bool × List Byte × State :=
  (s.recSpans o n).foldl (fun x p =>
    let (bad, bs, s) := x.2.2.fetch req p.1 p.2
    (x.1 || bad, x.2.1 ++ bs, s)) (false, [], s)

/-- The regions of `n` bytes of the stream from offset `o` are initialised (R510). -/
def State.recReady (s : State) (o n : Nat) : Bool := (s.recSpans o n).all fun x => s.ready x.1 x.2

/-- `n` bytes of the stream from offset `o`. -/
def State.recRead (s : State) (o : Nat) : Nat → List Byte
  | 0 => []
  | n + 1 => s.ld (s.recAddr o) :: s.recRead (o + 1) n

/-- A layer-index entry address (R563). -/
def recIndex (slot : Nat) : Nat := 0x01E20000 + 32 * slot

/-- A block header, its HCRC last (R550). -/
def blockHeader (kind flags port bseq layer swath lines first stride orig stored crc : Nat) : List Byte :=
  let h := toLE 1 kind ++ toLE 1 flags ++ toLE 1 port ++ [0] ++ toLE 4 bseq ++ toLE 4 layer ++
    toLE 2 swath ++ toLE 2 lines ++ toLE 4 first ++ toLE 4 stride ++ toLE 4 orig ++ toLE 4 stored ++
    toLE 4 crc
  h ++ toLE 4 (Crc.crc32c h)

/-- BFLAGS bits of R550. -/
def bflagRaw : Nat := 1
def bflagMissing : Nat := 2
def bflagAmend : Nat := 4

/-- The index entry of `slot` (R563). -/
def State.setIndex (s : State) (slot layer st swaths first endO missing : Nat) : State :=
  s.setTblBytes (recIndex slot) (toLE 4 layer ++ toLE 1 st ++ [0] ++ toLE 2 swaths ++ toLE 8 first ++
    toLE 8 endO ++ toLE 4 missing ++ [0, 0, 0, 0])

/-- The index entry of a layer whose record is open shows its swaths and its MISSING blocks (R563). -/
def State.showRec (s : State) (layer : Nat) : State :=
  match s.recs.find? fun r => r.layer == layer with
  | some r => s.setIndex r.slot layer 1 r.swaths r.firstOfs 0 r.missing
  | none => s

/-- A block of layer `q` is marked MISSING (R561, R562). -/
def State.blockMissing (s : State) (q : Nat) : State :=
  let s : State := { s with recs := s.recs.map fun r =>
    if r.layer == q then { r with missing := r.missing + 1 } else r }
  ((s.showRec q).count Reg.CMP_MISSING 1).raise .contained Reg.CMP_EVENT Fld.CMP_EVENT_MISSING 0 unitCmp

/-- A block enters the stream (R550, R561, R562). The layer's record must be open. -/
def State.putBlock (s : State) (kind flags port layer swath lines first stride : Nat)
    (data : List Byte) : State :=
  match s.recs.find? fun r => r.layer == layer with
  | none => s
  | some r =>
    let ofs := s.pair Reg.CMP_WRITE_OFS_LO
    let (bytes, raw) := Codec.store (Config.recordTokens stride data) data stride
    let limit := if kind = 4 then s.recFree - s.recReserve else s.recFree
    let fits := decide (40 + divUp bytes.length 8 * 8 ≤ limit)
    let crc := Crc.crc32c data
    let fl := flags ||| (if fits then (if raw then bflagRaw else 0) else bflagMissing)
    let body := if fits then bytes ++ List.replicate (divUp bytes.length 8 * 8 - bytes.length) 0 else []
    let all := blockHeader kind fl port r.bseq layer swath lines first stride data.length
      (if fits then bytes.length else 0) crc ++ body
    let s := (s.recWrite ofs all).setPair Reg.CMP_WRITE_OFS_LO (ofs + all.length)
    let s : State := { s with
      recs := s.recs.map fun x => if x.layer == layer then { x with bseq := x.bseq + 1 } else x
      blocks := if fits ∧ s.flag Reg.CMP_CFG Fld.CMP_CFG_VERIFY then
          s.blocks ++ [⟨ofs, layer, swath⟩] else s.blocks }
    let s := if fits ∧ raw then s.count Reg.CMP_NO_GAIN 1 else s
    if fits then s else
      let s := s.onSwath layer swath fun w => { w with missing := w.missing + 1 }
      s.blockMissing layer

/-- The header of the block at stream offset `o` is marked MISSING and its HCRC follows (R561). -/
def State.markMissing (s : State) (o : Nat) (h : List Byte) : State :=
  let b := h.set 1 (BitVec.ofNat 8 (rd h 1 1 ||| bflagMissing))
  let b := b.take 36
  s.recWrite o (b ++ toLE 4 (Crc.crc32c b))

/-- The index entry of a closed layer `q` takes one more MISSING block, and is INCOMPLETE (R562, R563). -/
def State.indexMissing (s : State) (q : Nat) : State :=
  let slot := findBelow 64 fun i =>
    s.tbl (recIndex i) == BitVec.ofNat 32 q && decide (2 ≤ (s.tbl (recIndex i + 4)).toNat % 256)
  match slot with
  | none => s
  | some i =>
    let w := (s.tbl (recIndex i + 4)).toNat
    let n := (s.tbl (recIndex i + 24)).toNat + 1
    (s.setTbl (recIndex i + 4) (BitVec.ofNat 32 (w / 256 * 256 + 3))).setTbl (recIndex i + 24) (BitVec.ofNat 32 n)

/-- Stored block `b` fails its re-read (R506, R561): it is marked MISSING. -/
def State.blockLost (s : State) (b : StoredBlock) : State :=
  let blocks := s.blocks.filter (· != b)
  let s : State := { s with blocks := blocks }
  let s := s.markMissing b.ofs (s.recRead b.ofs 40)
  let s := s.onSwath b.layer b.swath fun w => { w with missing := w.missing + 1 }
  let s := s.blockMissing b.layer
  if s.recs.any fun r => r.layer == b.layer then s else s.indexMissing b.layer

/-- The 24 bytes of an event entry (R555). -/
def EvEntry.bytes (e : EvEntry) : List Byte :=
  toLE 1 e.code ++ toLE 1 e.cause ++ toLE 1 e.port ++ toLE 1 e.head ++ toLE 2 e.row ++ [0, 0] ++
  toLE 4 e.line0 ++ toLE 4 e.line1 ++ toLE 4 e.col0 ++ toLE 4 e.col1

/-- `b` continues `a`: they differ only in lines, and the lines are consecutive (R555). -/
def EvEntry.joins (a b : EvEntry) : Bool :=
  { b with line0 := a.line0, line1 := a.line1 } == a &&
    (a.line1 + 1 == b.line0 || b.line1 + 1 == a.line0)

/-- The two entries as one. -/
def EvEntry.union (a b : EvEntry) : EvEntry :=
  { a with line0 := min a.line0 b.line0, line1 := max a.line1 b.line1 }

/-- `e` merged into the entries not yet written (R555); it may close the gap between two of them. -/
def mergeEv (e : EvEntry) : List EvEntry → List EvEntry
  | [] => [e]
  | a :: t =>
    if a.joins e then
      let m := a.union e
      match t.find? fun b => m.joins b with
      | some b => m.union b :: t.erase b
      | none => m :: t
    else a :: mergeEv e t

/-- The entries of a swath not yet written go out in one EVENTS block (R551). -/
def State.flushEvs (s : State) (layer idx : Nat) : State :=
  match s.swath layer idx with
  | none => s
  | some w =>
    if w.evs.isEmpty then s else
      let s := s.putBlock 5 0 0xFF layer idx 0 0 0 (w.evs.flatMap EvEntry.bytes)
      s.onSwath layer idx fun w => { w with evs := [], entryCount := w.entryCount + w.evs.length }

/-- An event entry of a swath (R555, R556, R558): into the open swath's entries, or in an EVENTS block
with AMEND where the swath has closed and its layer has not; later, only logged. -/
def State.swathEv (s : State) (layer idx : Nat) (e : EvEntry) : State :=
  match s.swath layer idx with
  | some w =>
    if w.recOpen then
      let s := s.onSwath layer idx fun w => { w with evs := mergeEv e w.evs }
      if w.evs.length + 1 ≥ 2730 then s.flushEvs layer idx else s
    else (s.putBlock 5 bflagAmend 0xFF layer idx 0 0 0 e.bytes).event Reg.CMP_EVENT Fld.CMP_EVENT_AMEND
  | none =>
    if s.recs.any fun r => r.layer == layer then
      (s.putBlock 5 bflagAmend 0xFF layer idx 0 0 0 e.bytes).event Reg.CMP_EVENT Fld.CMP_EVENT_AMEND
    else
      (s.count Reg.CMP_LATE_REPORTS 1).raiseInfo .contained Reg.CMP_EVENT Fld.CMP_EVENT_LATE_REPORT 0 unitCmp
        (e.line0 + 2 ^ 32 * (e.row % 65536) + 2 ^ 48 * (e.head % 8) + 2 ^ 51 * (e.port % 8) +
          2 ^ 54 * e.code)

/-- The index slot a new layer takes (R563): an empty one; else the oldest closed one already released;
else the oldest closed one. -/
def State.recSlot (s : State) : Nat :=
  let st := fun i => (s.tbl (recIndex i + 4)).toNat % 256
  let first := fun i => (s.tbl (recIndex i + 8)).toNat + 2 ^ 32 * (s.tbl (recIndex i + 12)).toNat
  let endO := fun i => (s.tbl (recIndex i + 16)).toNat + 2 ^ 32 * (s.tbl (recIndex i + 20)).toNat
  let rel := s.pair Reg.CMP_REC_RELEASE_LO
  let oldest := fun (l : List Nat) => l.foldl (fun b i =>
    match b with
    | none => some i
    | some j => if first i < first j then some i else some j) none
  match findBelow 64 fun i => st i = 0 with
  | some i => i
  | none =>
    let closed := (List.range 64).filter fun i => st i ≥ 2
    match oldest (closed.filter fun i => endO i ≤ rel) with
    | some i => i
    | none => (oldest closed).getD 0

/-- Port entries of the LAYER payload (R553). -/
def State.portEntries (s : State) (l : Layer) : List Byte :=
  (List.range 6).flatMap fun p =>
    match portMaterial l.materials s.node p with
    | some m => toLE 1 m.material ++ toLE 1 m.codeBits ++ [0, 0] ++
        toLE 4 (s.regN (Reg.BM_PORT_FIRST p)) ++ toLE 8 m.tag
    | none => toLE 1 0xFF ++ [0, 0, 0] ++ toLE 4 (s.regN (Reg.BM_PORT_FIRST p)) ++ toLE 8 0

/-- The record of layer `l` opens at its first swath's capture (R551, R553). -/
def State.openRecord (s : State) (l : Layer) : State :=
  if s.recs.any fun r => r.layer == l.seq then s else
    let ofs := s.pair Reg.CMP_WRITE_OFS_LO
    let slot := s.recSlot
    let s : State := { s with recs := s.recs ++ [⟨l.seq, slot, ofs, 0, 0, 0, none, false⟩] }
    let s := s.setIndex slot l.seq 1 0 ofs 0 0
    s.putBlock 1 0 0xFF l.seq 0xFFFF 0 0 0
      (toLE 8 l.job.jobId ++ toLE 8 s.serial ++ toLE 2 s.node ++ toLE 1 s.tq ++ [0] ++
       toLE 4 (twos 32 l.z) ++ toLE 4 l.job.pitch ++ toLE 4 0 ++ toLE 8 s.tNs ++ toLE 8 0 ++
       s.portEntries l)

/-- The 32-byte swath entry (R94). -/
def SwathEntry.bytes (e : SwathEntry) : List Byte :=
  toLE 2 e.swath ++ toLE 1 (b2n e.reverse) ++ [0] ++ toLE 2 e.materialMask ++ toLE 2 e.auxMove ++
  toLE 4 (twos 32 e.xOrigin) ++ toLE 4 (twos 32 e.yOrigin) ++ toLE 4 e.lines ++ toLE 4 e.rateReq ++
  toLE 4 e.dwellUs ++ toLE 4 0

/-- A DATA block that is not complete is written with the lines loaded so far (R552). -/
def State.flushData (s : State) (layer idx : Nat) (strideOf : Nat → Nat) (d : DataAcc) : State :=
  if d.lines = 0 then s else
    let s := s.putBlock 4 0 d.port layer idx d.lines d.first (strideOf d.port) d.bytes
    s.onSwath layer idx fun w => { w with
      dataBlocks := w.dataBlocks + 1
      data := w.data.filter fun x => x.port != d.port }

/-- Bytes per line of port `p` in a DATA block of layer `l` (R552). -/
def State.recStride (s : State) (l : Layer) (p : Nat) : Nat :=
  match portMaterial l.materials s.node p with
  | some m => divUp (s.regN (Reg.BM_PORT_COLS p) * codeWidth m) 8
  | none => 0

/-- The record of a swath closes (R558): partial DATA blocks, remaining events, SWATH_END. -/
def State.closeSwathRec (s : State) (layer idx endNs cause : Nat) : State :=
  match s.swath layer idx with
  | none => s
  | some w =>
    if w.recOpen then
      let strideOf := fun p => match s.layer layer with
        | some l => s.recStride l p
        | none => 0
      let s := w.data.foldl (fun t d => t.flushData layer idx strideOf d) s
      let s := s.flushEvs layer idx
      match s.swath layer idx with
      | none => s
      | some w =>
        let s := s.putBlock 6 0 0xFF layer idx 0 0 0
          (toLE 8 endNs ++ toLE 4 w.dataBlocks ++ toLE 4 w.entryCount ++ toLE 4 w.missing ++
            toLE 1 cause ++ [0, 0, 0])
        s.onSwath layer idx fun w => { w with recOpen := false }
    else s

/-- LAYER_END is written and the index entry closed (R558, R563). -/
def State.closeRecord (s : State) (layer : Nat) : State :=
  match s.recs.find? fun r => r.layer == layer with
  | none => s
  | some r =>
    let s := s.putBlock 7 0 0xFF layer 0xFFFF 0 0 0
      (toLE 4 (r.bseq + 1) ++ toLE 2 r.swaths ++ toLE 1 (b2n (r.missing != 0)) ++ [0] ++ toLE 8 r.firstOfs)
    let miss := match s.recs.find? fun x => x.layer == layer with
      | some x => x.missing
      | none => r.missing
    let s := s.setIndex r.slot layer (if miss = 0 then 2 else 3) r.swaths r.firstOfs
      (s.pair Reg.CMP_WRITE_OFS_LO) miss
    { s with recs := s.recs.filter fun x => x.layer != layer }

/-- A report of a head waits in the queue in this tick: an amendment it brings is written before a LAYER_END of the same
cycle (R566; DEDUCED, log entry 73). -/
def State.reportNow (s : State) : Bool :=
  s.queued.any fun c => match c with
    | .excFrame _ _ => true
    | _ => false

/-- LAYER_END of layer `q` is due: it is written, or waits for the reports of its cycle (R558, R566). -/
def State.endRecord (s : State) (q : Nat) : State :=
  if s.reportNow then
    { s with recs := s.recs.map fun r => if r.layer == q then { r with due := true } else r }
  else s.closeRecord q

/-- A report has been taken: records whose LAYER_END waited for it are closed (R566). -/
def State.closeDue (s : State) : State :=
  if s.reportNow then s else ((s.recs.filter (·.due)).map (·.layer)).foldl (fun s q => s.closeRecord q) s

end Sys2Proof.Machine
end

