-- ==== Sys2Proof/Machine/BeamMap.lean ====
section
/-! DEFINITION. The beam map: its tables, columns and validation, beam status, and the captured state of
a swath's columns (R217 to R240). -/

namespace Sys2Proof.Machine

open Sys2Proof.Bits

/-- Window addresses of the map (R222). -/
def beamAddr (b : Nat) : Nat := 0x01400000 + 16 * b
def beamRowAddr (r : Nat) : Nat := 0x01A00000 + 8 * r
def wsetAddr (w : Nat) : Nat := 0x01A08000 + 16 * w
def beamHdrAddr : Nat := 0x01A09000

/-- The window addresses that the map's tables take (R222). -/
def inBeamMap (a : Nat) : Bool :=
  (0x01400000 ≤ a && a < 0x01800000) || (0x01A00000 ≤ a && a < 0x01A09050)

/-- A word of a map's tables. -/
def mapWord (t : List (Nat × Word)) (a : Nat) : Nat := (Kv.getD t a 0).toNat

/-- A beam entry (R219). -/
structure BeamE where
  cross : Int
  row : Nat
  port : Nat
  head : Nat
  index : Nat
  status : Nat
  wset : Nat
  twin : Nat
  deriving DecidableEq, Repr

/-- Beam entry `b` of a map (R219). -/
def beamE (t : List (Nat × Word)) (b : Nat) : BeamE :=
  let w := fun i => mapWord t (beamAddr b + 4 * i)
  ⟨signed 32 (w 0), bits (w 1) 0 16, bits (w 1) 16 8, bits (w 1) 24 8, bits (w 2) 0 16,
    bits (w 2) 16 8, bits (w 2) 24 8, w 3⟩

/-- Header words of a map (R218). -/
def hdrCx0 (t : List (Nat × Word)) : Int := signed 32 (mapWord t beamHdrAddr)
def hdrPitch (t : List (Nat × Word)) : Nat := mapWord t (beamHdrAddr + 4)
def hdrNbeam (t : List (Nat × Word)) : Nat := mapWord t (beamHdrAddr + 8)
def hdrNcol (t : List (Nat × Word)) : Nat := mapWord t (beamHdrAddr + 12)
def hdrNrow (t : List (Nat × Word)) : Nat := bits (mapWord t (beamHdrAddr + 16)) 0 16
def hdrNwset (t : List (Nat × Word)) : Nat := bits (mapWord t (beamHdrAddr + 16)) 16 16
def hdrFirst (t : List (Nat × Word)) (p : Nat) : Nat := mapWord t (beamHdrAddr + 24 + 8 * p)
def hdrCols (t : List (Nat × Word)) (p : Nat) : Nat := mapWord t (beamHdrAddr + 28 + 8 * p)

/-- SCAN_OFS and PORT of row `r` (R220). -/
def rowOfs (t : List (Nat × Word)) (r : Nat) : Int := signed 32 (mapWord t (beamRowAddr r))
def rowPort (t : List (Nat × Word)) (r : Nat) : Nat := bits (mapWord t (beamRowAddr r + 4)) 0 8

/-- Target slots (D, WT) of weight set `w`, unused ones included (R221). -/
def wsetSlots (t : List (Nat × Word)) (w : Nat) : List (Int × Nat) :=
  (List.range 8).map fun i =>
    let x := bits (mapWord t (wsetAddr w + 4 * (i / 2))) (16 * (i % 2)) 16
    (signed 8 x, x / 256)

/-- The used targets (d, wt) of weight set `w` (R221). -/
def wsetTargets (t : List (Nat × Word)) (w : Nat) : List (Int × Nat) :=
  (wsetSlots t w).filter fun x => x.2 != 0

/-- Column k of a beam (R224). -/
def beamCol (t : List (Nat × Word)) (b : Nat) : Int :=
  ((beamE t b).cross - hdrCx0 t + (hdrPitch t / 2 : Nat)).fdiv (hdrPitch t : Nat)

/-- Placement deviation of a beam (R224). -/
def beamDev (t : List (Nat × Word)) (b : Nat) : Int :=
  (beamE t b).cross - (hdrCx0 t + beamCol t b * (hdrPitch t : Nat))

/-- Column `k` lies in the range of port `p` (R225). -/
def inPort (t : List (Nat × Word)) (p k : Nat) : Bool :=
  hdrFirst t p ≤ k && k < hdrFirst t p + hdrCols t p

/-- The port whose range holds column `k` (R225). -/
def colPort (t : List (Nat × Word)) (k : Nat) : Option Nat := findBelow 6 fun p => inPort t p k

/-- Beams that write column `k`, in rising number (R224). -/
def colBeams (t : List (Nat × Word)) (k : Nat) : List Nat :=
  (List.range (hdrNbeam t)).filter fun b => beamCol t b == (k : Int)

/-- Beams of row `r` of a map. -/
def rowBeams (t : List (Nat × Word)) (r : Nat) : List Nat :=
  (List.range (hdrNbeam t)).filter fun b => (beamE t b).row == r

/-- Beams on port `p`: what its payload limit counts (R225). -/
def portBeams (t : List (Nat × Word)) (p : Nat) : Nat :=
  ((List.range (hdrNbeam t)).filter fun b => (beamE t b).port == p).length

/-! ### Validation (R237) -/

/-- Port ranges overlap or reach NCOL, at port `p` (R237 RANGE). -/
def badRange (t : List (Nat × Word)) (p : Nat) : Bool :=
  hdrCols t p != 0 &&
    (hdrFirst t p + hdrCols t p > hdrNcol t ||
      (List.range 6).any fun q => q != p && hdrCols t q != 0 &&
        hdrFirst t p < hdrFirst t q + hdrCols t q && hdrFirst t q < hdrFirst t p + hdrCols t p)

/-- R226 is broken at beam `b`. -/
def badTwin (t : List (Nat × Word)) (b : Nat) : Bool :=
  let e := beamE t b
  let others := (List.range (hdrNbeam t)).filter fun c => c != b && beamCol t c == beamCol t b
  let named := e.twin != 0xFFFFFFFF
  (named && (!(e.twin < hdrNbeam t) || e.twin == b ||
    (beamE t e.twin).twin != b || beamCol t e.twin != beamCol t b ||
    (beamE t e.twin).port != e.port || (beamE t e.twin).row == e.row)) ||
  (match others with
   | [] => false
   | [c] => e.twin != c
   | _ => true)

/-- A weight set breaks R221. -/
def badWset (t : List (Nat × Word)) (w : Nat) : Bool :=
  let used := wsetTargets t w
  used.isEmpty || (wsetSlots t w).any (fun x => x.2 == 0 && x.1 != 0) ||
  used.any (fun x => x.1 == 0 || x.1 < -4 || 4 < x.1) || !(used.map Prod.fst).Nodup ||
  (used.map Prod.snd).foldl (· + ·) 0 != 256

/-- The first fault of a map, with its index; none where it passes (R237). -/
def validate (t : List (Nat × Word)) : Option (Nat × Nat) :=
  let nb := hdrNbeam t
  let beam := fun (code : Nat) (p : Nat → Bool) => (findBelow nb p).map fun b => (code, b)
  if nb < 1 ∨ 262144 < nb ∨ hdrNcol t < 1 ∨ nb < hdrNcol t ∨ hdrNrow t < 1 ∨ 4096 < hdrNrow t ∨
      hdrNwset t < 1 ∨ 256 < hdrNwset t then some (1, 0)
  else (((findBelow 6 fun p => portBeams t p > 65536).map fun p => (1, p)) <|>
    (if hdrPitch t < 1 ∨ 16777215 < hdrPitch t then some (2, 0) else none) <|>
    ((findBelow 6 (badRange t)).map fun p => (3, p)) <|>
    beam 4 (fun b => let e := beamE t b
      5 < e.port || 7 < e.head || e.status % 4 == 3 ||
        (List.range b).any fun c => let f := beamE t c
          f.port == e.port && f.head == e.head && f.index == e.index) <|>
    beam 5 (fun b => let e := beamE t b
      !(e.row < hdrNrow t) || rowPort t e.row != e.port) <|>
    beam 6 (fun b => (beamDev t b).natAbs > hdrPitch t / 4) <|>
    beam 7 (fun b => beamCol t b < 0 || !inPort t (beamE t b).port (beamCol t b).toNat) <|>
    beam 8 (badTwin t) <|>
    ((findBelow (hdrNcol t) fun k => (colPort t k).isSome && (colBeams t k).isEmpty).map fun k => (9, k)) <|>
    beam 10 (fun b => !((beamE t b).wset < hdrNwset t)) <|>
    ((findBelow (hdrNwset t) (badWset t)).map fun w => (10, w)))

/-! ### The map in force -/

/-- Beams whose status or LOCK differs between two maps, among the first `n` (R229). -/
def statusDiffs (a b : List (Nat × Word)) (n : Nat) : Nat :=
  let st := fun (t : List (Nat × Word)) (i : Nat) => (beamE t i).status &&& 0x83
  ((List.range n).filter fun i => st a i != st b i).length

/-- The STATUS bytes of the first `n` beams are set from a map (R229 items 1 and 5): each change counts. `old` is the map
before. -/
def State.countStatus (s : State) (old : List (Nat × Word)) (n : Nat) : State :=
  match statusDiffs old s.tables n with
  | 0 => s
  | k => (s.count Reg.BM_STATUS_CHANGES k).event Reg.BM_EVENT Fld.BM_EVENT_STATUS_CHANGE

/-- The tables of the map in force: while an edit is open, those held at EDIT_OPEN (R239). -/
def State.bmap (s : State) : List (Nat × Word) :=
  match s.beams.saved with
  | some (t, _) => t
  | none => s.tables

/-- The registers that show the header in force take the window's (R241). -/
def State.showHeader (s : State) : State :=
  let t := s.tables
  let s := s.setRegN Reg.BM_CX0 (mapWord t beamHdrAddr)
  let s := s.setRegN Reg.BM_COL_PITCH (hdrPitch t)
  let s := s.setRegN Reg.BM_NBEAM (hdrNbeam t)
  let s := s.setRegN Reg.BM_NCOL (hdrNcol t)
  let s := s.setRegN Reg.BM_NROW (hdrNrow t % 8192 + 65536 * (hdrNwset t % 512))
  (List.range 6).foldl (fun s p =>
    (s.setRegN (Reg.BM_PORT_FIRST p) (hdrFirst t p)).setRegN (Reg.BM_PORT_COLS p) (hdrCols t p)) s

/-- The window's map is validated: in force with VALID 1, or the first fault is reported (R237 to R239). -/
def State.validateMap (s : State) : State :=
  match validate s.tables with
  | none =>
    let s := ((s.setFld Reg.BM_STATUS Fld.BM_STATUS_VALID 1).setRegN Reg.BM_VALID_ERR 0).showHeader
    { s with beams := { s.beams with fails := [], passes := [] } }
  | some (code, i) =>
    let s := (s.setFld Reg.BM_STATUS Fld.BM_STATUS_VALID 0).setRegN Reg.BM_VALID_ERR
      (code + 256 * (i % 2 ^ 18))
    s.raise .stopping Reg.BM_EVENT Fld.BM_EVENT_VALID_FAIL 0 unitBm

/-! ### Captured columns (R231 to R236) -/

/-- Captured status of beam `b`: 0 GOOD, 1 WEAK, 2 DEAD. -/
def capStatus (st : List (Nat × Nat)) (b : Nat) : Nat := Kv.getD st b 0 % 4

/-- Primary and twin of column `k`: the beams that write it in rising number (R226). -/
def colPair (t : List (Nat × Word)) (k : Nat) : Option (Nat × Option Nat) :=
  match colBeams t k with
  | [] => none
  | [p] => some (p, none)
  | p :: q :: _ => some (p, some q)

/-- SEL and FIRE_BEAM of column `k` for used ports and captured statuses (R232): 0 primary, 1 twin,
2 TAKEOVER, 3 ABSENT. -/
def colSel (t : List (Nat × Word)) (ports : List Nat) (st : List (Nat × Nat)) (k : Nat) : Nat × Nat :=
  match colPort t k, colPair t k with
  | some p, some (a, tw) =>
    if ports.contains p then
      if capStatus st a = 0 then (0, a)
      else match tw with
        | some b =>
          if capStatus st b = 0 then (1, b)
          else if capStatus st a = 1 then (0, a)
          else if capStatus st b = 1 then (1, b) else (2, 0)
        | none => if capStatus st a = 1 then (0, a) else (2, 0)
    else (3, 0)
  | _, _ => (3, 0)

/-- The map that the column view is of: that of the latest capture, before the first the one in force (R223). -/
def State.viewMap (s : State) : List (Nat × Word) := (s.beams.view.map (·.map)).getD s.bmap

/-- The word pair of the column view (R223), over the map of the latest capture. Before the first capture every
column reads ABSENT over the map in force (DESIGN CHOICE, log entry 62). -/
def State.colView (s : State) (k : Nat) : Nat :=
  let t := s.viewMap
  let (sel, fire) := match s.beams.view with
    | some v => colSel v.map v.ports v.status k
    | none => (3, 0)
  let prim := match colPair t k with
    | some (a, _) => a + 2 ^ 18
    | none => 0
  fire + 2 ^ 18 * sel + 2 ^ 20 * (colPort t k).getD 7 + 2 ^ 32 * prim

/-- Tile columns of the write grid that used ports cover (R120). -/
def usedTcols (t : List (Nat × Word)) (ports : List Nat) : List Nat :=
  (List.range (divUp (hdrNcol t) 2048)).filter fun c => ports.any fun p =>
    hdrCols t p != 0 && hdrFirst t p < 2048 * (c + 1) && 2048 * c < hdrFirst t p + hdrCols t p

/-- Beams that fire some column of a capture (R232). -/
def fires (t : List (Nat × Word)) (ports : List Nat) (st : List (Nat × Nat)) (b : Nat) : Bool :=
  let k := beamCol t b
  decide (0 ≤ k) && (let (sel, f) := colSel t ports st k.toNat; sel < 2 && f == b)

/-! ### Status changes (R228 to R234) -/

/-- A change now lands in the 4-cycle window after the latest capture tick (R231). The GY island runs
with the TB clock, so its cycles are TB ticks. -/
def State.inCapWindow (s : State) : Bool :=
  s.gy.swaths.any fun w => s.clk.ticks - w.capTick ≤ 4 && w.capTick ≤ s.clk.ticks

/-- The line, counted in firing order, that row `row` of a swath is firing (R234): the latest whose fire time has come,
else the first one issued, else its next. The rule names the line at whose fire time the report arrived (DEDUCED, log
entry 62). -/
def State.firingLine (s : State) (w : Swath) (e : SwathEntry) (row : Nat) : Nat :=
  let mine := w.issued.filter fun i => i.row == row
  match (mine.filter fun i => decide (i.fire ≤ s.now16)).map (fun i => e.order i.line), mine.map (fun i => e.order i.line) with
  | a :: l, _ => l.foldl max a
  | [], a :: l => l.foldl min a
  | [], [] => ((w.rows.find? fun r => r.row == row).map (·.next)).getD 0

/-- The DEAD_UNCOMPENSATED entry of beam `b` in a swath that uses it (R234): from the line being fired, or for the whole
swath. -/
def State.deadEntry (s : State) (w : Swath) (b : Nat) : Option EvEntry :=
  let t := s.bmap
  let row := (beamE t b).row
  if w.state.over ∨ !fires t w.ports w.status b then none
  else match s.swEntry w with
    | none => none
    | some e =>
      let k := match w.state with
        | .captured => 0 | .ready => 0 | .armed => 0
        | _ => s.firingLine w e row
      if e.lines ≤ k then none
      else
        let a := if e.reverse then 0 else k
        let z := if e.reverse then e.lines - 1 - k else e.lines - 1
        some ⟨17, 0, (beamE t b).port, 0xFF, row, a, z, b, 0xFFFFFFFF⟩

/-- A beam has gone DEAD after captures that use it: its lines are marked, and LATE_DEAD is set (R234). -/
def State.lateDead (s : State) (b : Nat) : State :=
  s.gy.swaths.foldl (fun s w =>
    match s.deadEntry w b with
    | none => s
    | some v => (s.swathEv w.layer w.idx v).event Reg.BM_EVENT Fld.BM_EVENT_LATE_DEAD) s

/-- Table word address of a beam's STATUS byte. -/
def beamStatusWord (b : Nat) : Nat := beamAddr b + 8

/-- The word with its STATUS byte replaced. -/
def putStatus (w : Word) (v : Nat) : Word := (⟨16, 8⟩ : Field).put v w

/-- The STATUS byte of beam `b` in the window becomes `v`. -/
def State.putStatusByte (s : State) (b v : Nat) : State :=
  s.setTbl (beamStatusWord b) (putStatus (s.tbl (beamStatusWord b)) v)

/-- A shadow status changes (R229, R231): counted once, and pending where a capture's window stalls it. -/
def State.statusChanged (s : State) : State :=
  let s := (s.count Reg.BM_STATUS_CHANGES 1).event Reg.BM_EVENT Fld.BM_EVENT_STATUS_CHANGE
  if s.inCapWindow then s.setFld Reg.BM_STATUS Fld.BM_STATUS_SHADOW_PENDING 1 else s

/-- The STATUS byte of beam `b` becomes `v` (R229): a change of the shadow status counts, and one to DEAD may be late.
While an edit is open it is the byte of the map being edited, which counts at its commit (R239, R240). -/
def State.setStatus (s : State) (b v : Nat) : State :=
  let old := (beamE s.tables b).status
  if old = v then s
  else if s.beams.saved.isSome then s.putStatusByte b v
  else
    let s := (s.putStatusByte b v).statusChanged
    if v % 4 = 2 ∧ old % 4 ≠ 2 then s.lateDead b else s

/-- Consecutive counts of a beam (R230). -/
def State.setFails (s : State) (b f p : Nat) : State :=
  { s with beams := { s.beams with
      fails := Kv.put s.beams.fails b f 0, passes := Kv.put s.beams.passes b p 0 } }

/-- What report `r` (0 PASS, 1 MARGINAL, 2 FAIL) makes of a beam's STATUS byte and of its FAIL and PASS counts (R230). -/
def State.reported (s : State) (b r : Nat) : Nat × Nat × Nat :=
  let st := (beamE s.tables b).status
  let f := Kv.getD s.beams.fails b 0
  let p := Kv.getD s.beams.passes b 0
  match r with
  | 0 =>
    let rp := s.fld Reg.BM_POLICY Fld.BM_POLICY_REVIVE_PASSES
    (if rp ≠ 0 ∧ rp ≤ p + 1 then st / 4 * 4 else st, 0, min (p + 1) 255)
  | 1 => (if st % 4 = 0 then st + 1 else st, 0, 0)
  | _ => (if max (s.fld Reg.BM_POLICY Fld.BM_POLICY_DEAD_FAILS) 1 ≤ f + 1 then st / 4 * 4 + 2 else st, min (f + 1) 255, 0)

/-- A telemetry report: 0 PASS, 1 MARGINAL, 2 FAIL (R230). One that would change a beam in the cycle of a command that
changed it is discarded (R240). -/
def State.report (s : State) (b r : Nat) : State :=
  if s.flag Reg.BM_STATUS Fld.BM_STATUS_EDIT then
    (s.count Reg.BM_TELEM_DISCARDED 1).event Reg.BM_EVENT Fld.BM_EVENT_TELEM_DISCARDED
  else
    let st := (beamE s.tables b).status
    if st ≥ 128 then s
    else
      let (v, f, p) := s.reported b r
      if v = st then s.setFails b f p
      else if s.beams.cmdAt.contains (b, s.clk.ticks) then
        (s.count Reg.BM_TELEM_DISCARDED 1).event Reg.BM_EVENT Fld.BM_EVENT_TELEM_OVERRIDDEN
      else
        let now := s.beams.rep.filter fun u => u.tick == s.clk.ticks
        let late := (now.head?.map (·.late)).getD (s.flag Reg.BM_EVENT Fld.BM_EVENT_LATE_DEAD)
        let sets := v % 4 == 2 && st % 4 != 2 && s.gy.swaths.any fun w => (s.deadEntry w b).isSome
        let u : RepUndo := ⟨b, s.clk.ticks, st, Kv.getD s.beams.fails b 0, Kv.getD s.beams.passes b 0, late, sets⟩
        let s := (s.setFails b f p).setStatus b v
        { s with beams := { s.beams with rep := now ++ [u] } }

/-- The report of which `u` tells is discarded: a command of its cycle changes the same beam (R240). -/
def State.unreport (s : State) (u : RepUndo) : State :=
  let s := s.gy.swaths.foldl (fun s w =>
    match s.deadEntry w u.beam with
    | some v => s.onSwath w.layer w.idx fun w => { w with evs := w.evs.filter (· != v) }
    | none => s) s
  let s := (s.putStatusByte u.beam u.status).setFails u.beam u.fails u.passes
  let s := s.setRegN Reg.BM_STATUS_CHANGES (s.regN Reg.BM_STATUS_CHANGES - 1)
  let rest := s.beams.rep.filter fun x => x.beam != u.beam
  let late := u.late || rest.any fun x => x.tick == u.tick && x.sets
  let s := if u.sets then s.setFld Reg.BM_EVENT Fld.BM_EVENT_LATE_DEAD (b2n late) else s
  let s : State := { s with beams := { s.beams with rep := rest } }
  (s.count Reg.BM_TELEM_DISCARDED 1).event Reg.BM_EVENT Fld.BM_EVENT_TELEM_OVERRIDDEN

/-- The report that changed beam `b` in this very cycle. -/
def State.repNow (s : State) (b : Nat) : Option RepUndo :=
  s.beams.rep.find? fun u => u.beam == b && u.tick == s.clk.ticks

/-- An emitter-current report of `cur` against the nominal current `nom`, as a class (R230, R244). -/
def State.currentClass (s : State) (cur nom : Nat) : Nat :=
  let dead := min (s.fld Reg.BM_POLICY Fld.BM_POLICY_DEAD_PCT) 100
  let weak := min (s.fld Reg.BM_POLICY Fld.BM_POLICY_WEAK_PCT) 100
  if 100 * cur < dead * nom then 2 else if 100 * cur < weak * nom then 1 else 0

/-- A beam that a head's identity memory marks unusable is DEAD with LOCK 1 (R229 item 2), in the map in force and in
one being edited. -/
def State.markUnusable (s : State) (b : Nat) : State :=
  let mark := fun (st : Nat) => st / 4 % 32 * 4 + 2 + 128
  let s := s.setStatus b (mark (beamE s.tables b).status)
  match s.beams.saved with
  | some (t, v) =>
    let old := (beamE t b).status
    let w := putStatus (Kv.getD t (beamStatusWord b) 0) (mark old)
    let s : State := { s with beams := { s.beams with saved := some (Kv.put t (beamStatusWord b) w 0, v) } }
    if old = mark old then s else s.statusChanged
  | none => s

/-! ### Commands -/

/-- BEAM_CMD (R245, R240): `w` is the word written to BM_BEAM_CMD over `path`. -/
def execBeamCmd (path : Path) (w : Word) (s : State) : Host.Outcome State Fault Refusal :=
  let b := Fld.BM_BEAM_CMD_BEAM.get w
  let st := Fld.BM_BEAM_CMD_STATUS.get w
  let op := Fld.BM_BEAM_CMD_LOCKOP.get w
  if ¬ b < hdrNbeam s.tables then .next (s.accFlag path Reg.BM_BEAM_CMD .refused)
  else
    let u := s.repNow b
    let old := match u with
      | some u => u.status
      | none => (beamE s.tables b).status
    let low := if st = 3 then old % 4 else st
    let lock := if op = 1 then 1 else if op = 2 then 0 else old / 128
    let v := old / 4 % 32 * 4 + low + 128 * lock
    if v = old then .next (if st = 3 then s else s.setFails b 0 0)
    else
      let s := match u with
        | some u => s.unreport u
        | none => s
      let s := s.setStatus b v
      let s := if st = 3 then s else s.setFails b 0 0
      let now := s.beams.cmdAt.filter fun c => c.2 == s.clk.ticks
      .next { s with beams := { s.beams with cmdAt := (b, s.clk.ticks) :: now } }

/-- An edit may open: the parser is IDLE or ENDED and no swath is captured, waiting or firing (R239). -/
def State.editMayOpen (s : State) : Bool :=
  let st := s.fld Reg.EXP_ZLS_STATUS Fld.EXP_ZLS_STATUS_STATE
  (st == 0 || st == 5) && s.gy.swaths.isEmpty && !s.flag Reg.BM_STATUS Fld.BM_STATUS_EDIT

/-- More than one action bit of BM_CTRL is set (R239). -/
def bmCtrlMany (w : Word) : Bool := decide (1 < bits w.toNat 0 1 + bits w.toNat 1 1 + bits w.toNat 2 1)

/-- EDIT_OPEN (R239): a BM_CTRL write over `path`. -/
def execEditOpen (path : Path) (w : Word) (s : State) : Host.Outcome State Fault Refusal :=
  let w := Fld.BM_CTRL_EDIT_OPEN.put 1 w
  if bmCtrlMany w ∨ !s.editMayOpen then .next (s.accFlag path Reg.BM_CTRL .refused)
  else .next ({ s with beams := { s.beams with
      saved := some (s.tables.filter fun x => inBeamMap x.1, s.flag Reg.BM_STATUS Fld.BM_STATUS_VALID) }
    }.setFld Reg.BM_STATUS Fld.BM_STATUS_EDIT 1)

/-- EDIT_COMMIT (R239): validation starts. With no edit open the write has no effect (log entry 20). -/
def execEditCommit (path : Path) (w : Word) (s : State) : Host.Outcome State Fault Refusal :=
  let w := Fld.BM_CTRL_EDIT_COMMIT.put 1 w
  if bmCtrlMany w then .next (s.accFlag path Reg.BM_CTRL .refused)
  else if s.flag Reg.BM_STATUS Fld.BM_STATUS_EDIT then
    .next { s with beams := { s.beams with validating := true } }
  else .next s

/-- EDIT_CANCEL (R239): the map and VALID of EDIT_OPEN are restored. -/
def execEditCancel (path : Path) (w : Word) (s : State) : Host.Outcome State Fault Refusal :=
  let w := Fld.BM_CTRL_EDIT_CANCEL.put 1 w
  if bmCtrlMany w then .next (s.accFlag path Reg.BM_CTRL .refused)
  else match s.beams.saved with
    | none => .next s
    | some (t, v) =>
      let keep := s.tables.filter fun x => !inBeamMap x.1
      let s : State := { s with
        tables := t.foldl (fun l x => Kv.put l x.1 x.2 0) keep
        beams := { s.beams with saved := none, validating := false } }
      .next ((s.setFld Reg.BM_STATUS Fld.BM_STATUS_EDIT 0).setFld Reg.BM_STATUS Fld.BM_STATUS_VALID (b2n v))

end Sys2Proof.Machine
end

