-- ==== Sys2Proof/Machine/Geometry.lean ====
section
/-! DEFINITION. Orientations, boxes, hulls and z-phase selection (R57, R64, R71, R123, R124, R129). -/

namespace Sys2Proof.Machine

open Sys2Proof.Bits

/-- The mapping M(o) of R57. -/
def orient (o : Nat) (x y : Int) : Int × Int :=
  match o % 8 with
  | 0 => (x, y)
  | 1 => (-y, x)
  | 2 => (-x, -y)
  | 3 => (y, -x)
  | 4 => (-x, y)
  | 5 => (-y, -x)
  | 6 => (x, -y)
  | _ => (y, x)

/-- `compose` of R129: the context of a child placed with `(o2, t2)` in a context `(o1, t1)`. -/
def compose (o1 : Nat) (t1 : Int × Int) (o2 : Nat) (t2 : Int × Int) : Nat × Int × Int :=
  let m1 := o1 / 4 % 2
  let m2 := o2 / 4 % 2
  let r := if m1 = 1 then (o1 % 4 + 4 - o2 % 4) % 4 else (o1 % 4 + o2 % 4) % 4
  let u := orient o1 t2.1 t2.2
  ((m1 + m2) % 2 * 4 + r, u.1 + t1.1, u.2 + t1.2)

/-- The s32 range (R68). -/
def s32min : Int := -2147483648
def s32max : Int := 2147483647
def inS32 (x : Int) : Bool := decide (s32min ≤ x ∧ x ≤ s32max)

/-- The whole s32 range as a box: the layer body's clip (R136). -/
def wholeBox : Box := ⟨s32min, s32min, s32max, s32max⟩

/-- Every corner of a box lies in the s32 range. -/
def Box.inS32 (b : Box) : Bool :=
  Machine.inS32 b.xmin && Machine.inS32 b.ymin && Machine.inS32 b.xmax && Machine.inS32 b.ymax

/-- The smallest box that holds two boxes. -/
def Box.join (a b : Box) : Box :=
  ⟨min a.xmin b.xmin, min a.ymin b.ymin, max a.xmax b.xmax, max a.ymax b.ymax⟩

/-- The intersection of two boxes; none where it is empty (R130). -/
def Box.meet (a b : Box) : Option Box :=
  let c : Box := ⟨max a.xmin b.xmin, max a.ymin b.ymin, min a.xmax b.xmax, min a.ymax b.ymax⟩
  if c.xmin ≤ c.xmax ∧ c.ymin ≤ c.ymax then some c else none

/-- Boxes meet: their closed intervals overlap in x and in y (R133). -/
def Box.meets (a b : Box) : Bool := (a.meet b).isSome

/-- A box mapped by an orientation and a translation (R57). -/
def Box.map (b : Box) (o : Nat) (tx ty : Int) : Box :=
  let p := orient o b.xmin b.ymin
  let q := orient o b.xmax b.ymax
  ⟨min p.1 q.1 + tx, min p.2 q.2 + ty, max p.1 q.1 + tx, max p.2 q.2 + ty⟩

/-- The box of a list of points. -/
def pointsBox : List (Int × Int) → Option Box
  | [] => none
  | (x, y) :: t =>
    match pointsBox t with
    | none => some ⟨x, y, x, y⟩
    | some b => some (b.join ⟨x, y, x, y⟩)

/-- The vertices of a trapezoid (R76). -/
def trapVerts (axisX : Bool) (a0 a1 b0lo b0hi b1lo b1hi : Int) : List (Int × Int) :=
  let l := [(b0lo, a0), (b0hi, a0), (b1hi, a1), (b1lo, a1)]
  if axisX then l.map fun p => (p.2, p.1) else l

/-- The extent of a primitive (R123). -/
def Prim.extent : Prim → Box
  | .poly _ v => (pointsBox v).getD ⟨0, 0, 0, 0⟩
  | .trap ax a0 a1 b0 c0 b1 c1 => (pointsBox (trapVerts ax a0 a1 b0 c0 b1 c1)).getD ⟨0, 0, 0, 0⟩
  | .rect x0 y0 x1 y1 => ⟨x0, y0, x1, y1⟩
  | .disc cx cy ro _ => ⟨cx - ro, cy - ro, cx + ro, cy + ro⟩
  | .patch _ w h x y px py _ => ⟨x, y, x + (w * px : Nat), y + (h * py : Nat)⟩

/-- The translation of instance (i, j) (R67). -/
def instXY (tx ty : Int) (st : Steps) (i j : Nat) : Int × Int :=
  (tx + (i : Int) * st.ax + (j : Int) * st.bx, ty + (i : Int) * st.ay + (j : Int) * st.by_)

/-- The corner instances of an array (R123, R124). -/
def cornerXY (tx ty : Int) (st : Steps) : List (Int × Int) :=
  [instXY tx ty st 0 0, instXY tx ty st (st.na - 1) 0, instXY tx ty st 0 (st.nb - 1),
   instXY tx ty st (st.na - 1) (st.nb - 1)]

/-- The hull of a body record, given the hulls of defined cells (R123). -/
def Geo.hull (cells : List (Nat × Cell)) : Geo → Option Box
  | .prim _ p _ => some p.extent
  | .place c o tx ty _ _ st =>
    match Kv.get cells c with
    | none => none
    | some d => (cornerXY tx ty st).foldl (fun b t =>
        let h := d.hull.map o t.1 t.2
        match b with
        | none => some h
        | some b => some (b.join h)) none

/-- The hull of a cell with bounding box `box` and the given sections (R123). -/
def cellHull (cells : List (Nat × Cell)) (box : Box) (ss : List Section) : Box :=
  (ss.flatMap (·.body)).foldl (fun b g =>
    match g.hull cells with
    | none => b
    | some h => b.join h) box

/-- The height of a cell with the given sections (R65). -/
def cellHeight (cells : List (Nat × Cell)) (ss : List Section) : Nat :=
  (ss.flatMap (·.body)).foldl (fun n g =>
    match g with
    | .prim .. => n
    | .place c _ _ _ _ _ _ => max n (1 + ((Kv.get cells c).map (·.height)).getD 0)) 0

/-- `select_section` of R71. -/
def selectSection (zEff zOrigin : Int) (zPeriod : Nat) (starts : List Nat) : Nat :=
  let r := (zEff - zOrigin) % (zPeriod : Int)
  ((starts.zipIdx.drop 1).foldl (fun k z => if (z.1 : Int) ≤ r then z.2 else k) 0)

/-- The section of a cell that contributes at an effective z (R71). -/
def Cell.section? (c : Cell) (zEff : Int) : Option Section :=
  if c.phases ≤ 1 then c.sections[0]?
  else c.sections[selectSection zEff c.zOrigin c.zPeriod (c.sections.map (·.zStart))]?

end Sys2Proof.Machine
end

