-- ==== Sys2Proof/Machine/Region.lean ====
section
/-! DEFINITION. What lies in DRAM of a job: the layer program region with the cell directory, cell bodies, phase
tables and layer bodies (R123, R125, R126), and the bin pool (R134 to R136, R138). -/

namespace Sys2Proof.Machine

open Sys2Proof.Bits

/-! ### The layer program region (R123, R125) -/

/-- Base of the layer program region. -/
def State.lpBase (s : State) : Nat := s.pair (Reg.CFG_AREA_BASE_LO 0)

/-- Bytes of the layer program region. -/
def State.lpSize (s : State) : Nat := s.regN Reg.EXP_LP_SIZE * 2 ^ 20

/-- Free bytes of the layer program region (R125). -/
def State.lpFree (s : State) : Nat :=
  s.lpSize - (s.lpBytes + s.parser.cur.cellBytes + (s.parser.cur.openLayer.map (·.bytes)).getD 0)

/-- Stretches of the region that layer bodies fill: address and bytes. -/
def State.lpUsed (s : State) : List (Nat × Nat) :=
  s.layers.flatMap (·.recs) ++ (s.parser.cur.openLayer.map (·.recs)).getD []

/-- `n` bytes at `a` lie in `lo` to `hi` and in no stretch of `used`. -/
def placeOk (used : List (Nat × Nat)) (lo hi a n : Nat) : Bool :=
  decide (lo ≤ a ∧ a + n ≤ hi) && used.all fun u => decide (a + n ≤ u.1 ∨ u.1 + u.2 ≤ a)

/-- Where a record of a layer body of `n` bytes is written: the highest place that is free above the cells (the
spec names none: DESIGN CHOICE, log entry 59). -/
def State.bodyPlace (s : State) (n : Nat) : Option Nat :=
  let used := s.lpUsed
  let lo := s.lpBase + s.parser.cur.cellBytes
  let hi := s.lpBase + s.lpSize
  ((hi :: used.map Prod.fst).filter fun z => decide (n ≤ z) && placeOk used lo hi (z - n) n).foldl (fun b z =>
    match b with
    | none => some (z - n)
    | some a => some (max a (z - n))) none

/-- Where any other record of `n` bytes is written, with `m` bytes that belong to it: after the cells so far. -/
def State.cellPlace (s : State) (ofs n : Nat) : Option Nat :=
  let a := s.lpBase + ofs
  if placeOk s.lpUsed s.lpBase (s.lpBase + s.lpSize) a n then some a else none

/-- The bytes a record takes in the layer program region, the cell directory and a cell's phase table
included (R123, R125). `job` and `cellEnd` say that it is a JOB or a CELL_END. -/
def lpNeed (p : Content) (job cellEnd : Bool) (b : List Byte) : Nat :=
  b.length + (if job then 64 * rd b 24 4
    else if cellEnd then
      match p.openCell with
      | some o => if o.phases = 1 then 0 else 8 * o.phases
      | none => 0
    else 0)

/-- The record belongs to a layer body (R54). -/
def inLayerBody (p : Content) (c : Nat) : Bool := c == 0x02 || p.openLayer.isSome

/-- Where the record `b` of type `c` is written; none where it does not fit in the free space (R126). -/
def State.lpPlace (s : State) (p : Content) (c : Nat) (b : List Byte) : Option Nat :=
  let need := lpNeed p (c == 0x01) (c == 0x11) b
  if s.lpFree < need then none
  else if inLayerBody p c then s.bodyPlace b.length
  else if c = 0x01 then (s.cellPlace 0 need).map (· + 64 * rd b 24 4)
  else s.cellPlace p.cellBytes need

/-- A stretch with the record of `n` bytes at `a`: one that begins where it ends grows downward. -/
def addStretch (l : List (Nat × Nat)) (a n : Nat) : List (Nat × Nat) :=
  match l with
  | (x, k) :: t => if x = a + n then (a, k + n) :: t else (a, n) :: (x, k) :: t
  | [] => [(a, n)]

/-- The 64 bytes of a cell's directory entry, the region starting at `base` (R123). -/
def Cell.dirBytes (base : Nat) (d : Cell) : List Byte :=
  toLE 8 (base + d.bodyAddr) ++ toLE 4 (d.bodyLen / 8) ++ toLE 1 d.height ++ [0] ++ toLE 2 d.phases ++
    toLE 4 d.zPeriod ++ toLE 4 (twos 32 d.zOrigin) ++ toLE 8 (if d.phases = 1 then 0 else base + d.phaseAddr) ++
    [d.hull.xmin, d.hull.ymin, d.hull.xmax, d.hull.ymax].flatMap fun x => toLE 8 (twos 64 x)

/-- The bytes of a cell's phase table: of each section its Z_START and the offset in the body, in 8-byte units, of
the record after its LATTICE (R123). DEDUCED, log entry 21. -/
def phaseBytes (ofs : Nat) : List Section → List Byte
  | [] => []
  | x :: t => toLE 4 x.zStart ++ toLE 4 ((ofs + 24) / 8) ++ phaseBytes (ofs + x.bytes) t

/-- Cell `id` enters the directory, and its phase table the region (R123). -/
def State.putCell (s : State) (id : Nat) (d : Cell) : State :=
  let s := s.store 1 (s.lpBase + 64 * id) (d.dirBytes s.lpBase)
  if d.phases = 1 then s else s.store 1 (s.lpBase + d.phaseAddr) (phaseBytes 0 d.sections)

/-- Cells of `l` are no longer defined: their BODY_ADDR reads 0 (R110, R123). -/
def State.undefCells (s : State) (l : List (Nat × Cell)) : State :=
  l.foldl (fun s x => s.store 1 (s.lpBase + 64 * x.1) (List.replicate 64 0)) s

/-! ### The bin pool (R134 to R136, R138) -/

/-- Blocks of the pool (R138, R149). -/
def State.poolBlocks (s : State) : Nat := min (max (s.regN Reg.EXP_BINPOOL_SIZE) 256) 16384 * 1024

/-- The address of pool block `k`. -/
def State.blockAddr (s : State) (k : Nat) : Nat := s.pair (Reg.CFG_AREA_BASE_LO 1) + 1024 * k

/-- Blocks that expanded rows hold (R138). -/
def State.blocksHeld (s : State) : List Nat :=
  s.rows.flatMap fun r => r.table ++ (r.bins.filter fun b => r.live.contains b.tcol).flatMap (·.blocks)

/-- The `n` lowest free blocks from `k` on, no more than `fuel` blocks looked at (which free block a unit takes is not
stated: DESIGN CHOICE, log entry 59). -/
def takeFree (held : List Nat) : Nat → Nat → Nat → List Nat
  | 0, _, _ => []
  | _, _, 0 => []
  | fuel + 1, k, n + 1 =>
    if held.contains k then takeFree held fuel (k + 1) (n + 1) else k :: takeFree held fuel (k + 1) n

/-- KIND of R135. -/
def Prim.kind : Prim → Nat
  | .poly .. => 0 | .trap .. => 1 | .rect .. => 2 | .disc .. => 3 | .patch .. => 4

/-- The 16 bytes of a bin entry (R135). -/
def BinEntry.bytes (b : BinEntry) : List Byte :=
  toLE 8 (b.addr / 8 % 2 ^ 40 + 2 ^ 40 * b.prim.kind + 2 ^ 44 * (b.material % 16)) ++ toLE 4 b.xf ++ [0, 0, 0, 0]

/-- The 32 bytes of a transform entry (R136). -/
def Xform.bytes (x : Xform) : List Byte :=
  toLE 1 x.orient ++ [0, 0, 0] ++
    ([x.tx, x.ty, x.clip.xmin, x.clip.ymin, x.clip.xmax, x.clip.ymax].flatMap fun v => toLE 4 (twos 32 v)) ++
    [0, 0, 0, 0]

/-- A bin block with `es` entries: its header, with the CRC-32C of R134, and its entries. `next` is none in the last. -/
def blockBytes (q : RowId) (tcol : Nat) (next : Option Nat) (es : List BinEntry) : List Byte :=
  let h := toLE 4 q.layer ++ toLE 2 q.swath ++ toLE 1 tcol ++ toLE 1 (b2n next.isNone) ++ toLE 4 q.row ++
    toLE 2 es.length ++ [0, 0] ++ toLE 8 (next.getD 0) ++ toLE 4 0
  let e := es.flatMap (·.bytes)
  h ++ toLE 4 (Crc.crc32c (h ++ e)) ++ List.replicate 32 0 ++ e

/-- The blocks `bl` of a bin are written with its entries, 60 a block (R134). -/
def State.putBin (s : State) (q : RowId) (tcol : Nat) : List Nat → List BinEntry → State
  | [], _ => s
  | [k], es => s.store 1 (s.blockAddr k) (blockBytes q tcol none (es.take 60))
  | k :: k2 :: t, es =>
    (s.store 1 (s.blockAddr k) (blockBytes q tcol (some (s.blockAddr k2)) (es.take 60))).putBin q tcol (k2 :: t) (es.drop 60)

/-- DRAM that the rasterisation of tile column `tcol` of an expanded row reads: the bin's blocks, the transform table and the
first record of each primitive (R134 to R137). -/
def State.binSpans (s : State) (x : ExpandedRow) (tcol : Nat) : List (Nat × Nat) :=
  match x.bins.find? fun b => b.tcol == tcol with
  | none => []
  | some b =>
    ((b.blocks ++ x.table).map fun k => (s.blockAddr k, 1024)) ++
      b.entries.map fun e => (e.addr, 8 * rd (s.ldBytes e.addr 8) 2 2)

/-- The blocks `bl` of a tile row's transform table are written with its entries, 32 a block (R136). -/
def State.putTable (s : State) : List Nat → List Xform → State
  | [], _ => s
  | k :: t, xs => (s.store 1 (s.blockAddr k) ((xs.take 32).flatMap (·.bytes))).putTable t (xs.drop 32)

end Sys2Proof.Machine
end

