-- ==== Sys2Proof/Machine/Raster.lean ====
section
/-! DEFINITION. The reference raster model (R92, R160 to R177), the tile signature and the canonical form
(R187 to R191). -/

namespace Sys2Proof.Machine

open Sys2Proof.Bits

/-! ### The grid (R132, R164) -/

/-- The placing of a swath's grid on the layout: X_ORIGIN + CX0, Y_ORIGIN and the pitches (R164). -/
structure Grid where
  x0 : Int
  y0 : Int
  cp : Nat
  lp : Nat
  deriving DecidableEq, Repr

/-- The grid of swath entry `e` of layer `l` over a map (R164). -/
def gridOf (t : List (Nat × Word)) (l : Layer) (e : SwathEntry) : Grid :=
  ⟨e.xOrigin + hdrCx0 t, e.yOrigin, hdrPitch t, l.job.pitch⟩

/-- `pixel_box` of R164: centre and lower corner of the pixel at line `n`, column `k`. -/
def Grid.pixel (g : Grid) (n k : Int) : Int × Int × Int × Int :=
  let xc := g.x0 + k * g.cp
  let yc := g.y0 + n * g.lp
  (xc, yc, xc - (g.cp / 2 : Nat), yc - (g.lp / 2 : Nat))

/-- The layout box of tile (c, r), before widening (R132). -/
def Grid.tileArea (g : Grid) (c r : Nat) : Box :=
  let (_, _, x, y) := g.pixel (128 * r) (2048 * c)
  ⟨x, y, x + 2048 * g.cp, y + 128 * g.lp⟩

/-- A box widened by `i` column pitches and `j` line pitches on each side. -/
def Grid.widen (g : Grid) (b : Box) (i j : Nat) : Box :=
  ⟨b.xmin - (i * g.cp : Nat), b.ymin - (j * g.lp : Nat), b.xmax + (i * g.cp : Nat),
    b.ymax + (j * g.lp : Nat)⟩

/-- The tile's layout box, widened by one pitch on each side (R132). -/
def Grid.tileBox (g : Grid) (c r : Nat) : Box := g.widen (g.tileArea c r) 1 1

/-! ### Coverage (R166 to R170) -/

/-- Half-open interval lists. -/
abbrev Intervals := List (Int × Int)

/-- The crossing of one edge with sample row `y`, with its direction (R167). -/
def edgeCross (a b : Int × Int) (y : Int) : Option (Int × Int) :=
  if a.2 = b.2 then none
  else
    let (lo, hi, d) := if a.2 > b.2 then (b, a, (-1 : Int)) else (a, b, 1)
    let y0 := 128 * lo.2
    let y1 := 128 * hi.2
    if y0 ≤ y ∧ y < y1 then
      some (128 * lo.1 + (128 * (hi.1 - lo.1) * (y - y0)).fdiv (y1 - y0), d)
    else none

/-- Insertion into a list of pairs in rising first component. -/
def insertX (p : Int × Int) (l : List (Int × Int)) : List (Int × Int) := insertBefore (fun p q => decide (p.1 ≤ q.1)) p l

/-- Pairs in rising first component. -/
def sortX (l : List (Int × Int)) : List (Int × Int) := l.foldr insertX []

/-- The inside intervals between successive crossings, from winding `w` (R167). -/
def windIntervals (eo : Bool) : Int → List (Int × Int) → Intervals
  | w, (x, d) :: (x', d') :: t =>
    let w := w + d
    let rest := windIntervals eo w ((x', d') :: t)
    if (eo && w % 2 == 1) || (!eo && w != 0) then (x, x') :: rest else rest
  | _, _ => []

/-- `poly_intervals` of R167. -/
def polyIntervals (v : List (Int × Int)) (eo : Bool) (y : Int) : Intervals :=
  windIntervals eo 0 (sortX ((v.zip (v.drop 1 ++ v.take 1)).filterMap fun e => edgeCross e.1 e.2 y))

/-- `disc_intervals` of R168. -/
def discIntervals (cx cy : Int) (ro ri : Nat) (y : Int) : Intervals :=
  let dy := y - 128 * cy
  let o : Int := 128 * ro
  if o * o ≤ dy * dy then []
  else
    let h : Int := isqrt (o * o - dy * dy).toNat
    let c := 128 * cx
    let g2 : Int := (128 * ri) * (128 * ri)
    if ri = 0 ∨ g2 ≤ dy * dy then [(c - h, c + h)]
    else
      let g : Int := isqrt (g2 - dy * dy).toNat
      [(c - h, c - g), (c + g, c + h)]

/-- Intervals of a solid primitive under its transform (R167, R168). -/
def primIntervals (p : Prim) (x : Xform) (y : Int) : Intervals :=
  let m := fun (v : Int × Int) => let q := orient x.orient v.1 v.2; (q.1 + x.tx, q.2 + x.ty)
  match p with
  | .poly eo v => polyIntervals (v.map m) eo y
  | .trap ax a0 a1 b0 c0 b1 c1 => polyIntervals ((trapVerts ax a0 a1 b0 c0 b1 c1).map m) false y
  | .rect x0 y0 x1 y1 => polyIntervals ([(x0, y0), (x1, y0), (x1, y1), (x0, y1)].map m) false y
  | .disc cx cy ro ri => let c := m (cx, cy); discIntervals c.1 c.2 ro ri y
  | .patch .. => []

/-- An interval list cut to [lo, hi). -/
def cutTo (lo hi : Int) (v : Intervals) : Intervals :=
  v.filterMap fun i =>
    let a := max i.1 lo
    let b := min i.2 hi
    if a < b then some (a, b) else none

/-- `solid_intervals` of R170 over a tile's bin. -/
def solidIntervals (bin : List BinEntry) (m : Nat) (y : Int) : Intervals :=
  bin.flatMap fun q =>
    let b := q.xform.clip
    if q.material = m ∧ 128 * b.ymin ≤ y ∧ y < 128 * b.ymax then
      cutTo (128 * b.xmin) (128 * b.xmax) (primIntervals q.prim q.xform y)
    else []

/-- `union_length` of R170. -/
def unionLength (v : Intervals) (xa xb : Int) : Nat :=
  ((sortX v).foldl (fun (acc : Nat × Int) i =>
    let l := max i.1 acc.2
    let h := min i.2 xb
    (if l < h then acc.1 + (h - l).toNat else acc.1, max acc.2 i.2)) (0, xa)).1

/-- Value of patch pixel (i, j) (R80). -/
def patchValue (bpp w : Nat) (raw : List Byte) (i j : Nat) : Nat :=
  let bitPos := i * bpp
  (nth raw (j * divUp (w * bpp) 8 + bitPos / 8) 0).toNat >>> (bitPos % 8) % 2 ^ bpp

/-- `patch_sum` of R170 over a tile's bin. -/
def patchSum (bin : List BinEntry) (m : Nat) (y xa xb : Int) : Nat :=
  bin.foldl (fun n q =>
    match q.prim with
    | .patch bpp w h px0 py0 px py raw =>
      if q.material = m then
        (List.range h).foldl (fun n j => (List.range w).foldl (fun n i =>
          let r : Box := (Box.map ⟨px0 + (i * px : Nat), py0 + (j * py : Nat), px0 + ((i + 1) * px : Nat),
            py0 + ((j + 1) * py : Nat)⟩ q.xform.orient q.xform.tx q.xform.ty)
          match r.meet q.xform.clip with
          | none => n
          | some g =>
            if 128 * g.ymin ≤ y ∧ y < 128 * g.ymax then
              let lo := max xa (128 * g.xmin)
              let hi := min xb (128 * g.xmax)
              if lo < hi then n + (hi - lo).toNat * patchValue bpp w raw i j * (255 / (2 ^ bpp - 1)) else n
            else n) n) n
      else n
    | _ => n) 0

/-- `coverage` of R170. -/
def coverage (g : Grid) (bin : List BinEntry) (n k : Int) (m : Nat) : Nat :=
  let (_, _, xlo, ylo) := g.pixel n k
  let xa := 128 * xlo
  let xb := xa + (128 * g.cp : Nat)
  let full := 255 * (128 * g.cp)
  let a := sumBelow 64 fun s =>
    let y := 128 * ylo + ((2 * s + 1) * g.lp : Nat)
    min full (255 * unionLength (solidIntervals bin m y) xa xb + patchSum bin m y xa xb)
  (4096 * a + 64 * full / 2) / (64 * full)

/-! ### Dose (R92, R172, R173) -/

/-- `field_gain` of R92. -/
def fieldGain (f : Option DoseField) (xp yp : Int) : Nat :=
  match f with
  | none => 4096
  | some g =>
    let u := (clamp (xp - g.x0) 0 ((g.nx - 1) * g.gx : Nat)).toNat
    let v := (clamp (yp - g.y0) 0 ((g.ny - 1) * g.gy : Nat)).toNat
    let ix := u / g.gx
    let iy := v / g.gy
    let ix1 := min (ix + 1) (g.nx - 1)
    let iy1 := min (iy + 1) (g.ny - 1)
    let wx := (u - ix * g.gx) * 4096 / g.gx
    let wy := (v - iy * g.gy) * 4096 / g.gy
    let at_ := fun i j => nth g.val (j * g.nx + i) 0
    let lo := at_ ix iy * (4096 - wx) + at_ ix1 iy * wx
    let hi := at_ ix iy1 * (4096 - wx) + at_ ix1 iy1 * wx
    (lo * (4096 - wy) + hi * wy + 8388608) / 2 ^ 24

/-- `dose0` of R172. -/
def dose0 (g : Grid) (l : Layer) (bin : List BinEntry) (n k : Int) (m : Nat) : Nat :=
  let (xc, yc, _, _) := g.pixel n k
  let c := coverage g bin n k m
  let f := fieldGain ((l.fields.find? fun x => x.1 == m).map Prod.snd) xc yc
  l.dose m (min ((c * f + 2048) / 4096) 4096)

/-- `dose` of R173, and whether the clamp changed it. -/
def doseAt (g : Grid) (l : Layer) (bin : List BinEntry) (n k : Int) (m : Nat) : Nat × Bool :=
  match Kv.get l.kernels m with
  | none => (dose0 g l bin n k m, false)
  | some q =>
    let hh := (q.kh - 1) / 2
    let hw := (q.kw - 1) / 2
    let acc := (List.range q.kh).foldl (fun (a : Int) i => (List.range q.kw).foldl (fun a j =>
      a + nth q.coef (i * q.kw + j) 0 *
        (dose0 g l bin (n + i - hh) (k + j - hw) m : Nat)) a) 0
    let r := sar (acc + 8192) 14
    ((clamp r 0 65535).toNat, r < 0 || 65535 < r)

/-! ### Error diffusion and takeover (R165, R174 to R177) -/

/-- What the model needs of a tile's column (R165, R175). -/
structure ColInfo where
  absent : Bool
  live : Bool
  mat : Nat
  cw : Nat
  targets : List (Int × Nat)
  deriving DecidableEq, Repr

/-- Column `k` of a swath (R165, R232, R235). -/
def colInfo (t : List (Nat × Word)) (node : Nat) (l : Layer) (ports : List Nat) (st : List (Nat × Nat))
    (k : Nat) : ColInfo :=
  match colPort t k with
  | none => ⟨true, false, 0, 1, []⟩
  | some p =>
    match portMaterial l.materials node p with
    | none => ⟨true, false, 0, 1, []⟩
    | some m =>
      let sel := (colSel t ports st k).1
      if sel = 3 then ⟨true, false, m.material, codeWidth m, []⟩
      else if sel = 2 then
        let w := match colPair t k with
          | some (a, _) => (beamE t a).wset
          | none => 0
        ⟨false, false, m.material, codeWidth m, wsetTargets t w⟩
      else ⟨false, true, m.material, codeWidth m, []⟩

/-- The columns of tile column `c`. -/
def tileCols (t : List (Nat × Word)) (node : Nat) (l : Layer) (ports : List Nat) (st : List (Nat × Nat))
    (c : Nat) : List ColInfo :=
  (List.range 2048).map fun j => colInfo t node l ports st (2048 * c + j)

/-- Column `k` of a tile, or an absent one off its edge. -/
def colAt (cols : List ColInfo) (k : Int) : ColInfo :=
  if k < 0 then ⟨true, false, 0, 1, []⟩ else nth cols k.toNat ⟨true, false, 0, 1, []⟩

/-- Valid targets of column `k` (R175). -/
def validTargets (cols : List ColInfo) (k : Nat) : List (Int × Nat) :=
  let me := colAt cols k
  me.targets.filter fun d =>
    let o := colAt cols (k + d.1)
    decide (0 ≤ (k : Int) + d.1 ∧ (k : Int) + d.1 < 2048) && o.live && o.mat == me.mat

/-- The valid target that takes the remainder: the greatest weight, then the smaller |d|, then the negative
d (R175). -/
def mainTarget (v : List (Int × Nat)) : Option (Int × Nat) :=
  v.foldl (fun b x =>
    match b with
    | none => some x
    | some y =>
      if y.2 < x.2 ∨ (y.2 = x.2 ∧ (x.1.natAbs < y.1.natAbs ∨ (x.1.natAbs = y.1.natAbs ∧ x.1 < y.1)))
      then some x else some y) none

/-- What takeover column `k` with value `val` hands to its neighbours (R175). -/
def takeover (cols : List ColInfo) (k : Nat) (val : Int) : List (Int × Int) :=
  let v := validTargets cols k
  let wsum : Int := (v.foldl (fun n d => n + d.2) 0 : Nat)
  if wsum = 0 then []
  else
    let shares := v.map fun d => ((k : Int) + d.1, divT (val * d.2) wsum)
    let given := (shares.map Prod.snd).foldl (· + ·) 0
    match mainTarget v with
    | none => shares
    | some d => shares ++ [((k : Int) + d.1, val - given)]

/-- Code, and error split h, a, b of one column (R176). -/
def quantise (cw : Nat) (u : Int) : Nat × Int × Int × Int :=
  let lv : Int := (2 ^ cw - 1 : Nat)
  let q := clamp ((u * lv + 32767).fdiv 65535) 0 lv
  let e := u - q * divT 65535 lv
  let h := sar e 1
  let a := sar (e - h) 1
  (q.toNat, h, a, e - h - a)

/-- One line: its codes, its carry out, carries saturated and takeover values lost (R176). -/
def diffuseLine (cols : List ColInfo) (dz : List Nat) (cin : List Int) :
    List Nat × List Int × Nat × Nat :=
  let t : List Int := (List.range 2048).map fun (k : Nat) =>
    if (colAt cols k).absent then (0 : Int) else ((nth dz k 0 : Nat) : Int) + nth cin k 0
  let dead := (List.range 2048).filter fun (k : Nat) => !(colAt cols k).absent && !(colAt cols k).live
  let given := dead.flatMap fun k => takeover cols k (nth t k 0)
  let lost := (dead.filter fun k => (validTargets cols k).isEmpty).length
  let qs := (List.range 2048).map fun (k : Nat) =>
    if (colAt cols k).live then
      quantise (colAt cols k).cw (nth t k 0 +
        (given.foldl (fun s x => if x.1 = (k : Int) then s + x.2 else s) 0))
    else (0, 0, 0, 0)
  let joins := fun (k j : Int) => !(colAt cols j).absent && (colAt cols j).mat == (colAt cols k).mat
  let q := fun (k : Int) => if k < 0 then (0, 0, 0, 0) else nth qs k.toNat (0, 0, 0, 0)
  let acc : List Int := (List.range 2048).map fun (n : Nat) =>
    let k : Int := n
    let me := q k
    let own := if (colAt cols k).live then
        me.2.1 + (if joins k (k - 1) then 0 else me.2.2.1) + (if joins k (k + 1) then 0 else me.2.2.2)
      else 0
    let right := if (colAt cols (k + 1)).live ∧ joins (k + 1) k then (q (k + 1)).2.2.1 else 0
    let left := if (colAt cols (k - 1)).live ∧ joins (k - 1) k then (q (k - 1)).2.2.2 else 0
    own + right + left
  let cout := acc.map fun a => clamp a (-32768) 32767
  (qs.map Prod.fst, cout, (acc.filter fun a => a < -32768 || 32767 < a).length, lost)

/-- Progress of a tile: codes by line, carry and counts. -/
structure TileRun where
  codes : List (Nat × List Nat)
  carry : List Int
  ksat : Nat
  csat : Nat
  lost : Nat
  deriving DecidableEq, Repr

/-- `raster_tile` of R177: the lines of tile (c, r) in firing order. -/
def rasterTile (g : Grid) (l : Layer) (e : SwathEntry) (cols : List ColInfo) (bin : List BinEntry)
    (c r : Nat) (cin : List Int) : TileRun :=
  let n := e.rowLines r
  let lines : List Nat := (List.range n).map fun i => if e.reverse then 128 * r + n - 1 - i else 128 * r + i
  lines.foldl (fun a line =>
    let ds := (List.range 2048).map fun (j : Nat) =>
      let ci := colAt cols j
      if ci.absent then (0, false) else doseAt g l bin ((line : Nat) : Int) (Int.ofNat (2048 * c + j)) ci.mat
    let (code, cout, cs, lo) := diffuseLine cols (ds.map Prod.fst) a.carry
    ⟨a.codes ++ [(line, code)], cout, a.ksat + (ds.filter Prod.snd).length, a.csat + cs, a.lost + lo⟩)
    ⟨[], cin, 0, 0, 0⟩

/-! ### Signature (R187) -/

/-- `fin` of R187. -/
def fin (z : Nat) : Nat :=
  let m := 2 ^ 64
  let z := ((z ^^^ (z >>> 30)) * 0xBF58476D1CE4E5B9) % m
  let z := ((z ^^^ (z >>> 27)) * 0x94D049BB133111EB) % m
  z ^^^ (z >>> 31)

/-- `tile_key` of R187. -/
def tileKey (salt : Nat) (t : TileId) : Nat :=
  fin (t.layer ||| (t.swath <<< 32) ||| (t.tcol <<< 48) ||| (0xA5 <<< 56)) ^^^
    fin (t.trow ||| (salt <<< 32))

/-- One term of the signature (R187). -/
def sigTerm (key a v : Nat) : Nat := fin (((a <<< 16) ||| v) ^^^ key)

/-- `signature` of R187: `codes` holds the existing lines in rising line number; every other position is
0. -/
def signature (salt : Nat) (t : TileId) (codes : List (List Nat)) (cout : List Int) : Nat :=
  let key := tileKey salt t
  let s := sumBelow 128 fun i => sumBelow 2048 fun j =>
    sigTerm key (i * 2048 + j) (nth (nth codes i []) j 0)
  let c := sumBelow 2048 fun j => sigTerm key (262144 + j) (twos 16 (nth cout j 0))
  (s + c) % 2 ^ 64

/-! ### Canonical form (R189, R191) -/

/-- Codes of one line packed at `w` bits from bit 0 upward (R189). -/
def packLine (w : Nat) (codes : List Nat) : List Byte :=
  let per := 8 / w
  (List.range (divUp codes.length per)).map fun i =>
    BitVec.ofNat 8 (sumBelow per fun j => nth codes (per * i + j) 0 % 2 ^ w * 2 ^ (w * j))

/-- Storage width W of a tile: the greatest code width of its non-ABSENT columns (R189). -/
def storeWidth (cols : List ColInfo) : Nat :=
  cols.foldl (fun n c => if c.absent then n else max n c.cw) 1

/-- The canonical string of a tile (R191). -/
def canonical (t : TileId) (w lines : Nat) (codes : List (List Nat)) (cout : List Int) : List Byte :=
  toLE 4 t.layer ++ toLE 2 t.swath ++ toLE 1 t.tcol ++ toLE 1 w ++ toLE 4 t.trow ++ toLE 1 lines ++
  [0, 0, 0] ++ codes.flatMap (packLine w) ++ cout.flatMap fun c => toLE 2 (twos 16 c)

/-! ### Setup clocks (R141) -/

/-- Patch pixels whose rectangle meets a box (R141). -/
def patchMeets (p : Prim) (x : Xform) (b : Box) : Nat :=
  match p with
  | .patch _ w h px0 py0 px py _ =>
    ((List.range h).foldl (fun n j => n + ((List.range w).filter fun i =>
      let q : Box := ⟨px0 + (i * px : Nat), py0 + (j * py : Nat), px0 + ((i + 1) * px : Nat),
        py0 + ((j + 1) * py : Nat)⟩
      (q.map x.orient x.tx x.ty).meets b).length) 0)
  | _ => 0

/-- Setup clocks of one bin write (R141). -/
def setupClocks (p : Prim) (x : Xform) (b : Box) : Nat :=
  match p with
  | .rect .. => 8
  | .trap .. => 8
  | .poly _ v => 8 + 4 * v.length
  | .disc .. => 32
  | .patch .. => 16 + divUp (patchMeets p x b) 8

end Sys2Proof.Machine
end

