-- ==== Sys2Proof/Machine/Staging.lean ====
section
/-! DEFINITION. Tiles in the engines and in staging: contexts, commit entries and their table in DRAM, the model's
result of a tile, and the staging ring (R162, R174, R189, R190, R192, R195, R248, R249). -/

namespace Sys2Proof.Machine

open Sys2Proof.Bits

/-! ### Engines, contexts and entries -/

/-- The state with engine `e` changed by `f`. -/
def State.onEngine (s : State) (e : Nat) (f : Engine → Engine) : State :=
  match s.ver.engines[e]? with
  | some x => { s with ver := { s.ver with engines := s.ver.engines.set e (f x) } }
  | none => s

/-- The context of tile `t`. -/
def State.ctx (s : State) (t : TileId) : Option TileCtx := s.ver.ctxs.find? fun c => c.id == t

/-- The state with the context of `t` changed by `f`. -/
def State.onCtx (s : State) (t : TileId) (f : TileCtx → TileCtx) : State :=
  { s with ver := { s.ver with ctxs := s.ver.ctxs.map fun c => if c.id == t then f c else c } }

/-- The state without a context for `t`. -/
def State.dropCtx (s : State) (t : TileId) : State :=
  { s with ver := { s.ver with ctxs := s.ver.ctxs.filter fun c => c.id != t } }

/-- The commit entry of tile `t`. -/
def State.entry (s : State) (t : TileId) : Option CommitEntry := s.ver.entries.find? fun c => c.id == t

/-- The state with `c` as the commit entry of its tile. -/
def State.putEntry (s : State) (c : CommitEntry) : State :=
  { s with ver := { s.ver with entries := (s.ver.entries.filter fun x => x.id != c.id) ++ [c] } }

/-- A task is of tile `t` in a role that `p` names. -/
def taskIs (t : TileId) (p : Role → Bool) (k : Option Task) : Bool :=
  match k with
  | some x => x.tile == t && p x.role
  | none => false

/-- Every engine lets go of tile `t` in the roles that `p` names. -/
def State.release (s : State) (t : TileId) (p : Role → Bool) : State :=
  { s with ver := { s.ver with engines := s.ver.engines.map fun e =>
      { e with
        dose := if taskIs t p e.dose then none else e.dose
        parked := if taskIs t p e.parked then none else e.parked
        quant := if taskIs t p e.quant then none else e.quant
        held := if taskIs t p e.held then none else e.held } } }

/-- Every engine lets go of a result it holds for tile `t`, which is resolved (R186). -/
def State.freeHeld (s : State) (t : TileId) : State :=
  { s with ver := { s.ver with engines := s.ver.engines.map fun e =>
      { e with held := if taskIs t (fun _ => true) e.held then none else e.held } } }

/-- A shadow task of tile `t` keeps `w`, the tile being committed (R207). -/
def keepShadow (t : TileId) (w : Work) (k : Option Task) : Option Task :=
  if taskIs t (· == .shadow) k then k.map fun x => { x with kept := some w } else k

/-- Shadow engines that still work on tile `t`, which is committed, keep what they compute and are compared with
(R207). -/
def State.keepShadows (s : State) (t : TileId) (w : Work) : State :=
  { s with ver := { s.ver with engines := s.ver.engines.map fun e =>
      { e with dose := keepShadow t w e.dose, parked := keepShadow t w e.parked, quant := keepShadow t w e.quant } } }

/-- The bin blocks of tile `t` are freed, and its row's transform table with the last of them (R138). -/
def State.freeBins (s : State) (t : TileId) : State :=
  { s with rows := (s.rows.map fun r =>
      if r.id == ⟨t.layer, t.swath, t.trow⟩ then { r with live := r.live.filter (· != t.tcol) } else r
      ).filter fun r => !r.live.isEmpty }

/-- Existing lines of tile `t` (R190). -/
def State.tileLines (s : State) (t : TileId) : Nat :=
  match s.layer t.layer with
  | some l => match l.entry t.swath with
    | some e => e.rowLines t.trow
    | none => 0
  | none => 0

/-- Storage width of tile `t` (R189). -/
def State.tileWidth (s : State) (t : TileId) : Nat :=
  match s.layer t.layer, s.swath t.layer t.swath with
  | some l, some w => storeWidth (tileCols s.bmap s.node l w.ports w.status t.tcol)
  | _, _ => 1

/-! ### Rows and heads (R274, R295) -/

/-- Beams of row `r` on head `h`, in ascending LOCAL: the ROWMAP order (R292, R295). -/
def headRow (t : List (Nat × Word)) (r h : Nat) : List Nat :=
  let bs := (rowBeams t r).filter fun b => (beamE t b).head == h
  (sortX (bs.map fun b => (((beamE t b).index : Int), (b : Int)))).map fun x => x.2.toNat

/-- Rows of port `p` with beams on head `h`. -/
def headRows (t : List (Nat × Word)) (p h : Nat) : List Nat :=
  (List.range (hdrNrow t)).filter fun r => rowPort t r == p && !(headRow t r h).isEmpty

/-- Heads of a row that are not hard-stopped (R274). -/
def RowSt.live (r : RowSt) (t : List (Nat × Word)) : List Nat :=
  (List.range 8).filter fun h => !(headRow t r.row h).isEmpty && !r.hard.contains h

/-- Every head of the row is hard-stopped: each event left has its outcome (R262, R274). -/
def RowSt.dead (r : RowSt) (t : List (Nat × Word)) : Bool := !r.hard.isEmpty && (r.live t).isEmpty

/-- The HEAD numbers of entries on the row's events to come: 0xFF for all heads; each live head once some head is
hard-stopped, whose events are HARD_STOP (R262, R555). -/
def RowSt.heads (r : RowSt) (t : List (Nat × Word)) : List Nat := if r.hard.isEmpty then [0xFF] else r.live t

/-- The row has fired or has an outcome for its first `k` lines in firing order (R248, R268). -/
def RowSt.past (r : RowSt) (t : List (Nat × Word)) (k : Nat) : Bool := decide (k ≤ r.next) || r.dead t

/-! ### The result of a tile -/

/-- The carry into tile `t` of swath entry `e` (R174): zero for the first tile row fired or after a blank that
no next tile had passed (R202);
else the committed carry of the preceding tile; none while that is unresolved. -/
def State.carryIn (s : State) (e : SwathEntry) (t : TileId) : Option (List Int) :=
  let k := e.rowPos t.trow
  if k = 0 then some (List.replicate 2048 0)
  else match s.entry { t with trow := e.rowAt (k - 1) } with
    | none => none
    | some c => some (if c.carry.isEmpty then List.replicate 2048 0 else c.carry)

/-- The entries of a tile's bin (R134). -/
def ExpandedRow.bin (x : ExpandedRow) (tcol : Nat) : List BinEntry :=
  ((x.bins.find? fun b => b.tcol == tcol).map (·.entries)).getD []

/-- What the reference model gives for tile `t`, once its bins and its carry exist (R162). -/
def State.modelResult (s : State) (t : TileId) : Option RasterResult :=
  match s.layer t.layer, s.swath t.layer t.swath with
  | some l, some w =>
    match l.entry t.swath, s.rows.find? fun x => x.id == ⟨t.layer, t.swath, t.trow⟩ with
    | some e, some x =>
      match s.carryIn e t with
      | none => none
      | some cin =>
        let m := s.bmap
        let cols := tileCols m s.node l w.ports w.status t.tcol
        let bin := x.bin t.tcol
        let r := rasterTile (gridOf m l e) l e cols bin t.tcol t.trow cin
        let codes := if e.reverse then (r.codes.map Prod.snd).reverse else r.codes.map Prod.snd
        some ⟨codes, r.carry, signature (s.regN Reg.VER_SALT) t codes r.carry,
          Crc.crc64 (canonical t (storeWidth cols) codes.length codes r.carry), r.ksat, r.csat, r.lost⟩
    | _, _ => none
  | _, _ => none

/-- The kernels of the columns of tile column `c`, ABSENT ones of a covered column included: the material of a column is
that of the port that covers it (R160, R165). -/
def tileKernels (t : List (Nat × Word)) (node : Nat) (l : Layer) (c : Nat) : List Kernel :=
  (List.range 2048).filterMap fun j =>
    (colPort t (2048 * c + j)).bind fun p =>
      (portMaterial l.materials node p).bind fun m => Kv.get l.kernels m.material

/-- The tile runs in kernel mode (R160). -/
def State.kernelMode (s : State) (t : TileId) : Bool :=
  match s.layer t.layer with
  | some l => !(tileKernels s.bmap s.node l t.tcol).isEmpty
  | none => false

/-- Clocks of a tile but for extra passes (R160). -/
def State.rasterClocks (s : State) (t : TileId) : Nat :=
  match s.layer t.layer with
  | some l =>
    match l.entry t.swath, s.rows.find? fun x => x.id == ⟨t.layer, t.swath, t.trow⟩ with
    | some e, some x =>
      let m := s.bmap
      let n := e.rowLines t.trow
      let bin := x.bin t.tcol
      let setup := bin.foldl (fun a q => a + setupClocks q.prim q.xform ((gridOf m l e).tileBox t.tcol t.trow)) 0
      let ks := tileKernels m s.node l t.tcol
      if ks.isEmpty then n * 2048 / 4 + setup
      else
        let kw := ks.foldl (fun a k => max a k.kw) 1
        let kh := ks.foldl (fun a k => max a k.kh) 1
        max (n * 2048 / 2) (divUp ((n + kh - 1) * (2048 + kw - 1)) 4) + setup
    | _, _ => 0
  | none => 0

/-- What an engine computes for tile `t` by the reference model, once its bins and its carry exist (R160, R162). -/
def State.modelWork (s : State) (t : TileId) : Option Work :=
  (s.modelResult t).map fun r => ⟨r, s.rasterClocks t, s.kernelMode t⟩

/-- The carry into tile `t` exists (R174). -/
def State.carryReady (s : State) (t : TileId) : Bool :=
  match s.layer t.layer with
  | some l => match l.entry t.swath with
    | some e => (s.carryIn e t).isSome
    | none => false
  | none => false

/-! ### The commit table (R189, R190, R582) -/

/-- Base of the commit table in the firmware reserve (R582). -/
def commitTable : Nat := 0xDC0000000 + 576 * 2 ^ 20

/-- The address of table entry `ix`. -/
def commitAddr (ix : Nat) : Nat := commitTable + 4160 * ix

/-- Bytes 0 to 55 of a commit entry (R190). -/
def CommitEntry.head (c : CommitEntry) : List Byte :=
  toLE 4 c.id.layer ++ toLE 2 c.id.swath ++ toLE 1 c.id.tcol ++ toLE 1 c.w ++ toLE 4 c.id.trow ++
    toLE 1 (if c.committed then 1 else 2) ++ toLE 1 c.cause ++ toLE 1 c.lines ++ toLE 1 c.votes ++
    toLE 8 c.signature ++ toLE 8 c.crc ++ toLE 8 c.addr ++ toLE 1 c.primary ++ toLE 1 c.checker ++
    toLE 1 c.voter ++ toLE 1 c.writer ++ toLE 4 0 ++ toLE 8 c.commitNs

/-- The 4,160 bytes of a commit entry: the header with its CRC, and the carry (R189, R190); a BLANKED entry carries
zeros (R200). -/
def CommitEntry.bytes (c : CommitEntry) : List Byte :=
  c.head ++ toLE 4 (Crc.crc32c c.head) ++ toLE 4 0 ++
    (List.range 2048).flatMap fun j => toLE 2 (twos 16 (nth c.carry j 0))

/-- The requester of R503 that writes an entry: the writer's cluster; of a BLANKED one, Geyser (R503 gives commit-table reads
to 6 and names no requester of the writes: DESIGN CHOICE, log entry 49). -/
def CommitEntry.req (c : CommitEntry) : Nat := if c.committed then 2 + c.writer / 10 else 6

/-- Entries of the commit table (R189). -/
def tableSize : Nat := 65536

/-- The entry of tile `t`, or the lowest table entry that holds no tile (which free entry a tile takes is not stated: DESIGN
CHOICE, log entry 61). Commits in progress have theirs reserved. `tableSize` where none is free. -/
def State.tableIx (s : State) (t : TileId) : Nat :=
  match (s.entry t).filter fun c => decide (c.ix < tableSize) with
  | some c => c.ix
  | none =>
    let used := (s.ver.entries.filter fun c => !c.freed && decide (c.ix < tableSize)).map (·.ix)
    let slots := s.ver.ctxs.filter fun c => c.slot.isSome && c.id != t
    if used.length + slots.length < tableSize then
      (findBelow (used.length + 1) fun i => !used.contains i).getD tableSize
    else tableSize

/-- The commit entry `c` is written to the table (R190, R192). A BLANKED entry that finds the table full is written once an
entry is free: R189 says only that staging is then full (DESIGN CHOICE, log entry 61). -/
def State.storeEntry (s : State) (c : CommitEntry) : State :=
  let c := { c with ix := s.tableIx c.id }
  if c.ix < tableSize then (s.putEntry c).store c.req (commitAddr c.ix) c.bytes else s.putEntry c

/-- BLANKED entries that wait for the table are written where entries are free. -/
def State.fillTable (s : State) : State :=
  (s.ver.entries.filter fun c => !c.freed && decide (tableSize ≤ c.ix)).foldl (fun s c => s.storeEntry c) s

/-- The entry of tile `t` as DRAM gives it passes its CRC and names the tile (R254). -/
def State.entrySound (s : State) (c : CommitEntry) : Bool :=
  let h := s.dataAt (commitAddr c.ix) 60
  rd h 56 4 == Crc.crc32c (h.take 56) && rd h 0 4 == c.id.layer && rd h 4 2 == c.id.swath && rd h 6 1 == c.id.tcol &&
    rd h 8 4 == c.id.trow

/-- The carry of an entry as DRAM gives it (R189, R255). -/
def State.entryCarry (s : State) (c : CommitEntry) : List Int :=
  let b := s.dataAt (commitAddr c.ix + 64) 4096
  (List.range 2048).map fun j => rdS b (2 * j) 2

/-! ### The staging ring (R189, R248, R249) -/

/-- Bytes of a tile's codes in the ring (R189). -/
def codeBytes (lines w : Nat) : Nat := lines * 256 * w

/-- Size of the staging ring in bytes (R248). -/
def State.ringSize (s : State) : Nat := min (max (s.regN Reg.GY_RING_MIB) 1024) 16384 * 2 ^ 20

/-- The ring's stretches in use, from its base: committed tiles not freed, and slots of commits in progress (R248). -/
def State.ringLive (s : State) : List (Nat × Nat) :=
  let base := s.pair (Reg.CFG_AREA_BASE_LO 2)
  ((s.ver.entries.filter fun c => c.committed && !c.freed).map fun c => (c.addr - base, codeBytes c.lines c.w)) ++
    s.ver.ctxs.filterMap fun c => c.slot.map fun a => (a - base, codeBytes (s.tileLines c.id) (s.tileWidth c.id))

/-- Where the next commit of `n` bytes goes: behind the latest one, or at the ring's start where it does not fit
before the end; none where data not yet fired lies there (R248, R249). -/
def State.ringPlace (s : State) (n : Nat) : Option Nat :=
  let a := if s.ringSize < s.ver.ringPos + n then 0 else s.ver.ringPos
  if placeOk s.ringLive 0 s.ringSize a n then some a else none

/-- Commit-table entries in use (R189, R248). -/
def State.tableUsed (s : State) : Nat :=
  (s.ver.entries.filter fun c => !c.freed).length + (s.ver.ctxs.filter fun c => c.slot.isSome).length

/-- The result engine `e` delivered for a context. -/
def TileCtx.resultOf (c : TileCtx) (e : Nat) : Option RasterResult :=
  (c.results.find? fun r => r.1 == e).map Prod.snd

/-- Engines of a context in the order that decides its writer: primary, checker, voters by vote (R196 rule
3). -/
def TileCtx.order (c : TileCtx) : List Nat := c.primary.toList ++ c.checker.toList ++ c.voters

/-- The writer of tile `t` starts its stream into the ring, or waits for space (R192, R248, R249). -/
def State.stream (s : State) (t : TileId) : State :=
  match s.ctx t with
  | none => s
  | some c =>
    let w := s.tileWidth t
    let n := codeBytes (s.tileLines t) w
    let r := c.writer.bind c.resultOf
    let put := fun (s : State) (a : Nat) =>
      (s.store (2 + c.writer.getD 0 / 10) a ((r.map (·.codes)).getD [] |>.flatMap (packLine w))).onCtx t fun c =>
        { c with phase := .commit, slot := some a }
    match c.slot with
    | some a => put s a
    | none =>
      match if tableSize ≤ s.tableUsed then none else s.ringPlace n with
      | none => (s.onCtx t fun c => { c with phase := .ringWait }).event Reg.GY_EVENT Fld.GY_EVENT_RING_FULL
      | some a =>
        let s : State := { s with ver := { s.ver with ringPos := a + n } }
        put s (s.pair (Reg.CFG_AREA_BASE_LO 2) + a)

/-- Space has come free: entries that wait are written, then writers that wait try again, in the order their tiles were
dispatched (R249 names no order: DESIGN CHOICE, log entry 61). -/
def State.wakeWriters (s : State) : State :=
  let s := s.fillTable
  (s.ver.ctxs.filter fun c => c.phase == .ringWait).foldl (fun s c => s.stream c.id) s

end Sys2Proof.Machine
end

