-- ==== Sys2Proof/Machine/Stops.lean ====
section
/-! DEFINITION. Blanking a tile, and stopping a swath or a layer (R105, R200, R201, R248, R271). -/

namespace Sys2Proof.Machine

open Sys2Proof.Bits

/-- INFO of a blank or claim (R645). -/
def tileInfo (t : TileId) : Nat :=
  t.trow % 2 ^ 32 + 2 ^ 32 * (t.swath % 65536) + 2 ^ 48 * (t.tcol % 256) + 2 ^ 56 * (t.layer % 256)

/-- The blank's extent enters the record, one entry for each used port the tile meets (R200, R556). -/
def State.blankEntries (s : State) (t : TileId) (cause : Nat) : State :=
  match s.swath t.layer t.swath with
  | none => s
  | some w =>
    match s.swEntry w with
    | none => s
    | some e =>
      let m := s.bmap
      w.ports.foldl (fun s p =>
        let a := max (hdrFirst m p) (2048 * t.tcol)
        let z := min (hdrFirst m p + hdrCols m p) (2048 * t.tcol + 2048)
        if z ≤ a then s
        else s.swathEv t.layer t.swath ⟨1, cause, p, 0xFF, 0xFFFF, 128 * t.trow,
          128 * t.trow + e.rowLines t.trow - 1, a, z - 1⟩) s

/-- The BLANKED entry of a tile (R190, R200). -/
def State.blankEntry (s : State) (t : TileId) (cause : Nat) : CommitEntry :=
  let c := s.ctx t
  let old := s.entry t
  { id := t, w := s.tileWidth t, committed := false, cause := cause, lines := s.tileLines t
    votes := (c.map (·.votes)).getD ((old.map (·.votes)).getD 0)
    signature := 0, crc := 0, addr := 0
    primary := (c.bind (·.givenP)).getD ((old.map (·.primary)).getD 0xFF)
    checker := (c.bind (·.givenC)).getD ((old.map (·.checker)).getD 0xFF)
    voter := (c.bind (·.lastVoter)).getD ((old.map (·.voter)).getD 0xFF)
    writer := 0xFF, commitNs := s.tNs, carry := [], codes := []
    freed := false
    firstLoaded := (old.map (·.firstLoaded)).getD false
    verdict := true, got := [], ix := 0 }

/-- Tile `t` is blanked with `cause` (R200, R201): the entry, the registers, the freed context and bins. A
tile in a vote keeps its record, and what its voters work on, for the votes still to come (R32, R209). -/
def State.blankQuiet (s : State) (t : TileId) (cause : Nat) : State :=
  let e := s.blankEntry t cause
  let kept := s.modelWork t
  let s := s.storeEntry e
  let s := (s.count Reg.VER_BLANKS 1).event Reg.VER_EVENT Fld.VER_EVENT_BLANK
  let s := s.setRegN Reg.VER_LAST_BLANK_LAYER t.layer
  let s := s.setRegN Reg.VER_LAST_BLANK_TILE (t.swath % 65536 + 65536 * (t.tcol % 256) + 2 ^ 24 * cause)
  let s := s.setRegN Reg.VER_LAST_BLANK_TROW t.trow
  let s := s.freeBins t
  let s := (s.release t fun r => match r with | .voter => false | _ => true).freeHeld t
  match s.ctx t with
  | none => s
  | some c =>
    if c.phase = .vote then s.onCtx t fun c => { c with blanked := true, slot := none, kept := kept }
    else (s.release t fun _ => true).dropCtx t

/-- As `blankQuiet`, logged as contained and entered in the record (R200). -/
def State.blankTile (s : State) (t : TileId) (cause : Nat) : State :=
  ((s.blankQuiet t cause).logErr .contained 9 (errCode Fld.VER_EVENT_BLANK cause) unitVer
    (tileInfo t)).blankEntries t cause

/-- The tiles of a swath in flight that are neither committed nor blanked. -/
def State.unresolved (s : State) (w : Swath) : List TileId :=
  match s.swEntry w with
  | none => []
  | some e =>
    ((List.range e.tileRows).flatMap fun r =>
      (usedTcols s.bmap w.ports).map fun c => (⟨w.layer, w.idx, c, r⟩ : TileId)).filter fun t =>
        (s.entry t).isNone

/-- The record that waits first still does not fit in the layer program region (R126). -/
def State.lpShort (s : State) : Bool :=
  match s.parser.held with
  | (c, b) :: _ => (s.lpPlace s.parser.cur c b).isNone
  | [] => false

/-- LP_FULL (R126): the parser is stalled on space and no accepted layer remains to fire. -/
def State.lpFullCheck (s : State) : State :=
  if s.parser.lpStall ∧ s.layers.isEmpty ∧ s.lpShort = true then
    s.raiseInfo .stopping Reg.EXP_EVENT Fld.EXP_EVENT_LP_STALL 0 unitParser
      (s.regN Reg.EXP_ZLS_FAULT_SEQ + 2 ^ 32 * s.fld Reg.EXP_ZLS_STATUS Fld.EXP_ZLS_STATUS_CAUSE)
  else s

/-- A layer boundary has come: the cores that wait for one may leave or return (R658, R660), and the next move of a
hand-over whose firmware is loaded is due (R590). -/
def State.moveDue (s : State) : State :=
  let waits := (List.range 12).filter fun n => s.cores.outReq.contains n ||
    (s.fld (Reg.ERR_CORE_STAT n) Fld.ERR_CORE_STAT_STATE == 3 &&
      s.fld (Reg.ERR_CORE_STAT n) Fld.ERR_CORE_STAT_SHADOW_N == 16)
  let s : State := { s with cores := { s.cores with bound := waits } }
  match s.boot.hand with
  | some h =>
    if s.clk.ticks < h.loaded then s
    else { s with boot := { s.boot with hand := some { h with due := true } } }
  | none => s

/-- The verify lead of the job whose layers fire is in force; a later job's takes effect at the boundary at which its
layers may start (R116). -/
def State.leadInForce (s : State) : State :=
  match (s.layers.head?.map (·.job)).or s.parser.cur.job with
  | some j => s.setRegN Reg.VER_LEAD j.leadUs
  | none => s

/-- Tile rows that `p` names are given up: expanded ones free their blocks, and units let go of theirs (R138). -/
def State.dropRows (s : State) (p : RowId → Bool) : State :=
  { s with
    rows := s.rows.filter fun r => !p r.id
    units := s.units.map fun u => if u.row.any p then { u with row := none, stalled := false } else u }

/-- A layer whose last swath has fired, or that has stopped with no swath left in flight, leaves: its
body's space is free (R125) and the 1 ms of R558 begins. -/
def State.layerLeave (s : State) (q : Nat) : State :=
  match s.layer q with
  | none => s
  | some l =>
    let flying := s.gy.swaths.any fun w => w.layer == q
    if flying ∨ (!l.stopped ∧ l.ended < l.plan.length) then s
    else
      let s : State := { s with
        layers := s.layers.eraseP fun x => x.seq == q
        lpBytes := s.lpBytes - l.bytes
        surveys := s.surveys.filter fun v => v.layer != q
        units := s.units.map fun u => { u with barred := u.barred.filter fun r => r.layer != q }
        recs := s.recs.map fun r => if r.layer == q then { r with endAt := some s.clk.ticks } else r }
      (s.dropRows fun r => r.layer == q).leadInForce.moveDue.lpFullCheck

/-- The pins of a swath that has started are released at its end, and the thrash multiplier of its layer follows the
misses of the swath (R128, R145). -/
def State.swathCacheEnd (s : State) (layer idx : Nat) : State :=
  match s.swath layer idx with
  | none => s
  | some w =>
    if ¬ w.state.running' then s
    else
      let m := s.pair Reg.EXP_MISS_LO - w.misses0
      let e := match s.surveys.find? fun v => v.layer == layer && v.swath == idx with
        | some v => v.estMisses
        | none => 0
      ({ s with pins := [] }).onLayer layer fun l => { l with thrash := min 8 (max 1 (divUp m (max e 64))) }

/-- The swath leaves the field with end boundary `endAt` (R268, R270): its segments, ring space and
entries are gone, its part of the record is closed, and it counts as ended in its layer. -/
def State.swathLeave (s : State) (layer idx endAt cause : Nat) : State :=
  let s := (s.swathCacheEnd layer idx).closeSwathRec layer idx (endAt / 65536 % 2 ^ 64) cause
  let s : State := { s with
    gy := { s.gy with
      swaths := s.gy.swaths.filter fun w => !(w.layer == layer && w.idx == idx)
      lastEnd := some endAt }
    ver := { s.ver with entries := s.ver.entries.filter fun c =>
      !(c.id.layer == layer && c.id.swath == idx) } }
  let s := s.dropRows fun r => r.layer == layer && r.swath == idx
  let s : State := { s with recs := s.recs.map fun r =>
    if r.layer == layer then { r with swaths := r.swaths + 1 } else r }
  (((s.showRec layer).onLayer layer fun l => { l with ended := l.ended + 1 }).layerLeave layer).hardsToHeld.deferredShift.toEnumChecks.loadChecks.wakeWriters

/-- Lines of row `r` with no outcome and not issued, as a range of line numbers (R271). -/
def rowRest (e : SwathEntry) (next : Nat) : Option (Nat × Nat) :=
  if e.lines ≤ next then none
  else if e.reverse then some (0, e.lines - 1 - next) else some (next, e.lines - 1)

/-- STOP entries of a swath (R271): every row's events with no outcome and not issued; under ESTOP also those issued
with a fire time at or after the ESTOP instant. A swath stopped by its layer has one entry. -/
def State.stopEntries (s : State) (w : Swath) (e : SwathEntry) (cause : Nat) : State :=
  if cause = 5 then
    s.swathEv w.layer w.idx ⟨5, 5, 0xFF, 0xFF, 0xFFFF, 0, e.lines - 1, 0, 0xFFFFFFFF⟩
  else
    let s := w.rows.foldl (fun s r =>
      match rowRest e r.next with
      | some (a, z) => (r.heads s.bmap).foldl (fun s h =>
          s.swathEv w.layer w.idx ⟨5, cause, r.port, h, r.row, a, z, 0, 0xFFFFFFFF⟩) s
      | none => s) s
    if cause = 1 then
      w.issued.foldl (fun s i =>
        if s.gy.estopAt ≤ i.fire then
          i.heads.foldl (fun s h => s.swathEv w.layer w.idx
            ⟨5, 1, rowPort s.bmap i.row, h, i.row, i.line, i.line, 0, 0xFFFFFFFF⟩) s
        else s) s
    else s

/-- A swath is stopped with STOP_CAUSE `cause` (R271, R281): 1 ESTOP, 2 FEEDBACK, 3 HOST, 4 STALL, 5
LAYER. Its unresolved tiles are blanked STOPPED, unlogged. -/
def State.stopOne (s : State) (w : Swath) (cause : Nat) : State :=
  match s.swEntry w with
  | none => s
  | some e =>
    let s := s.stopEntries w e cause
    let s := (s.unresolved w).foldl (fun s t => s.blankQuiet t 5) s
    let s := s.setFld Reg.GY_STATUS Fld.GY_STATUS_STOP_CAUSE cause
    let s := s.raise .stopping Reg.GY_EVENT Fld.GY_EVENT_SWATH_STOP cause unitGy
    let endAt := match w.lastFire with
      | some f => f
      | none => match w.startAt with
        | some t => if w.state.running' then t else s.now16
        | none => s.now16
    s.swathLeave w.layer w.idx endAt cause

/-- No later swath of layer `q` starts (R271): swaths of it still CAPTURED or READY are stopped LAYER. -/
def State.stopLayer (s : State) (q : Nat) : State :=
  let s := s.onLayer q fun l => { l with stopped := true }
  let ws := s.gy.swaths.filter fun w => w.layer == q && (w.state == .captured || w.state == .ready)
  let s := ws.foldl (fun s w => s.stopOne w 5) s
  (s.dropRows fun r => r.layer == q && (s.swath q r.swath).isNone).layerLeave q

/-- A running swath is stopped and its layer with it, or, for HOST, the swath alone (R271). -/
def State.stopSwath (s : State) (w : Swath) (cause : Nat) : State :=
  let s := if cause = 3 then s else s.onLayer w.layer fun l => { l with stopped := true }
  let s := s.stopOne w cause
  if cause = 3 then s else s.stopLayer w.layer

/-- The swaths in flight that a stop finds: ARMED or RUNNING, for ESTOP DRAINING as well (R271). -/
def State.stoppable (s : State) (cause : Nat) : List Swath :=
  s.gy.swaths.filter fun w => w.state == .armed || w.state == .running ||
    (cause == 1 && w.state == .draining)

/-- The stop with `cause` acts on each swath it finds. -/
def State.stopFiring (s : State) (cause : Nat) : State :=
  (s.stoppable cause).foldl (fun s w => s.stopSwath w cause) s

/-- RECORD_FULL (R562): free space is below half the reserve; firmware stops the swath. The hold ends
when free space exceeds twice the reserve. -/
def State.recFullCheck (s : State) : State :=
  let free := s.recFree
  if s.flag Reg.CMP_STATUS Fld.CMP_STATUS_FULL then
    if 2 * s.recReserve < free then s.setFld Reg.CMP_STATUS Fld.CMP_STATUS_FULL 0 else s
  else if 2 * free < s.recReserve then
    ((s.setFld Reg.CMP_STATUS Fld.CMP_STATUS_FULL 1).raise .stopping Reg.CMP_EVENT
      Fld.CMP_EVENT_FULL 0 unitCmp).stopFiring 3
  else s

end Sys2Proof.Machine
end

