-- ==== Sys2Proof/Machine/Motion.lean ====
section
/-! DEFINITION. Profile generators, move chains, homing and the stepper outputs (R434 to R460). -/

namespace Sys2Proof.Machine

open Sys2Proof.Bits

/-! ### Tables and limits (R436, R437, R439, R449, R454) -/

/-- A move-table entry (R437); LSET names a limit set where it is below 16. -/
structure MoveE where
  axis : Nat
  kind : Nat
  lset : Nat
  next : Nat
  first : Nat
  count : Nat
  target : Int
  deriving DecidableEq, Repr

/-- Entry `i` of the move table (R437). -/
def State.moveE (s : State) (i : Nat) : MoveE :=
  let b := s.tblBytes (0x01FC0000 + 0x20 * i) 32
  ⟨rd b 0 1, rd b 1 1, rd b 2 1, rd b 4 2, rd b 6 2, rd b 8 2, rdS b 16 8⟩

/-- V, A and J of limit set `k` of axis `x` (R439). -/
def State.limitSet (s : State) (x k : Nat) : Nat × Nat × Nat :=
  let b := s.tblBytes (0x01FC8000 + 0x100 * x + 0x10 * k) 16
  (rd b 0 4, rd b 4 4, rd b 8 4)

/-- A limit under its ceiling: 0 acts as 1 (R436). -/
def under (v top : Nat) : Nat := min (max v 1) (max top 1)

/-- V, A and J of axis `x` under their ceilings. -/
def State.vLim (s : State) (x : Nat) : Nat := under (s.regN (Reg.MP_AX_V x)) (s.regN (Reg.MP_AX_VMAX x))
def State.aLim (s : State) (x : Nat) : Nat := under (s.regN (Reg.MP_AX_A x)) (s.regN (Reg.MP_AX_AMAX x))
def State.jLim (s : State) (x : Nat) : Nat := under (s.regN (Reg.MP_AX_J x)) (s.regN (Reg.MP_AX_JMAX x))

/-- Segment `k` of axis `x`: DUR, P_END, V_END (R449). -/
def State.segment (s : State) (x k : Nat) : Nat × Int × Int :=
  let b := s.tblBytes (0x01F00000 + 0x20000 * x + 0x20 * k) 32
  (rd b 0 4, rdS b 8 8, rdS b 16 8)

/-- Band `b` of stepper `k`: V_UP and CODE (R454). -/
def State.bandE (s : State) (k b : Nat) : Nat × Nat :=
  let t := s.tblBytes (0x01FCC000 + 0x40 * k + 8 * b) 8
  (rd t 0 4, rd t 4 1)

/-- The top band of stepper `k`, if its table names one (R454). -/
def State.topBand (s : State) (k : Nat) : Option Nat := findBelow 8 fun b => (s.bandE k b).1 == 0xFFFFFFFF

/-- The band table of stepper `k` is valid (R454). -/
def State.bandsOk (s : State) (k : Nat) : Bool :=
  match s.topBand k with
  | none => false
  | some t =>
    (s.bandE k t).2 == 0 && decide (s.regN (Reg.MP_AX_VMAX (k + 2)) ≤ 2000000 * 128) &&
    (List.range t).all fun b =>
      let e := s.bandE k b
      let f := s.bandE k (b + 1)
      decide (e.2 ≤ 7 ∧ f.2 < e.2 ∧ e.1 < f.1 ∧ e.1 * 2 ^ e.2 ≤ 2000000 * 128)

/-! ### The stopping distance (R445) -/

/-- Integer square root of any natural number, rounded up. -/
def isqrtUp (n : Nat) : Nat :=
  let r := isqrtGo n (n.log2 / 2 + 1) 0
  if r * r = n then r else r + 1

/-- D of R445 in unit × 2^16, rounded up: speed and acceleration × 2^16 in the direction of motion, A in
16 units/s² and J in 4,096 units/s³. -/
def stopDist (v : Nat) (a : Int) (aReg jReg : Nat) : Nat :=
  let A := 16 * max aReg 1
  let J := 4096 * max jReg 1
  let an := a.toNat
  let p := 2 * J * 65536 * v + an * an
  let q := 2 * J * 2 ^ 32
  let p1 := 3 * 65536 * J * v * an + an * an * an
  let q1 := 3 * 2 ^ 48 * J * J
  if A * A * q ≤ p * J then
    let p2 := p * (p * J + A * A * q)
    let q2 := q * q * 2 * A * J
    divUp (65536 * (p1 * q2 + p2 * q1)) (q1 * q2)
  else
    let r := p * p * p * q * J
    let z := q * q * J
    divUp (65536 * p1 * z + isqrtUp (2 ^ 32 * q1 * q1 * r)) (q1 * z)

/-! ### Axis states -/

/-- MP_AX_STATUS.STATE of axis `x` (R463). -/
def State.axState (s : State) (x : Nat) : Nat := s.fld (Reg.MP_AX_STATUS x) Fld.MP_AX_STATUS_STATE

/-- Axis `x` enters state `st` with phase `ph`. -/
def State.setAx (s : State) (x st ph : Nat) : State :=
  (s.setFld (Reg.MP_AX_STATUS x) Fld.MP_AX_STATUS_STATE st).setFld (Reg.MP_AX_STATUS x)
    Fld.MP_AX_STATUS_PHASE ph

/-- Generator `x`. -/
def State.gen (s : State) (x : Nat) : Gen :=
  (s.motion.gens[x]?).getD ⟨.idle, .idle, 0, 0, 0, 1, 1, false, false, false, 0, false, none, 0, false, 0, 0, 0,
    none, 0, 0, 0, 0, false⟩

/-- The axis runs a move, a path, homing or a stop. -/
def State.moving (s : State) (x : Nat) : Bool := 2 ≤ s.axState x && s.axState x ≤ 5

/-- A qualified input of axis `x`: 0 POS, 1 NEG, 2 HOME (R456, R465). -/
def State.qual (s : State) (x i : Nat) : Bool := bit (s.fld (Reg.MP_AX_INPUTS x) Fld.MP_AX_INPUTS_QUAL) i

/-- The servo of axis `x` shows state `st` (R496). -/
def State.setSv (s : State) (x st : Nat) : State :=
  if x < 2 then s.setFld (Reg.SV_AX_STATUS x) Fld.SV_AX_STATUS_STATE st else s

/-- EN of stepper axis `x` (R452). -/
def State.setEn (s : State) (x : Nat) (on : Bool) : State :=
  if 2 ≤ x then s.setFld (Reg.STP_STATUS (x - 2)) Fld.STP_STATUS_EN (b2n on) else s

/-- The generator of axis `x` stands. -/
def State.genStand (s : State) (x : Nat) : State :=
  s.onGen x fun g => { g with mode := .idle, after := .idle, v := 0, a := 0, fresh := false }

/-- The generator of axis `x` stands, and its chain has ended on it. -/
def State.genIdle (s : State) (x : Nat) : State :=
  (s.genStand x).onGen x fun g => { g with entry := 0, aux := false, scan := none }

/-- AOUT of servo axis `x` goes to 0 V (R477, R486). -/
def State.aoutZero (s : State) (x : Nat) : State :=
  if x < 2 ∧ s.regN (Reg.SV_AX_OUT x) ≠ 0 then (s.setRegN (Reg.SV_AX_OUT x) 0).emit (.dac x 0) else s

/-- SV_AX_STATUS.STATE of servo axis `x` that is DISABLED: HELD while ESTOP_N is low or its pad is held (R496). -/
def State.svRest (s : State) (x : Nat) : Nat :=
  if s.gy.estop ∨ bit (s.fld Reg.PWR_HOLD Fld.PWR_HOLD_AOUT) x then 3 else 0

/-- Axis `x` is DISABLED (R462, R486). -/
def State.disableAxis (s : State) (x : Nat) : State :=
  ((((s.genIdle x).setAx x 0 0).setSv x (s.svRest x)).setEn x false).aoutZero x

/-- Axis `x` enters FAULT with cause `c`, standing (R463). -/
def State.faultAxis (s : State) (x c : Nat) : State :=
  let s := (s.genIdle x).setAx x 6 0
  (s.setFld (Reg.MP_AX_STATUS x) Fld.MP_AX_STATUS_FAULT c).setSv x 2

/-- A swath is ARMED or RUNNING. -/
def State.swathLive (s : State) : Bool :=
  s.gy.swaths.any fun w => w.state == .armed || w.state == .running

/-! ### Stops (R448, R457) -/

/-- The direction in which a generator moves. -/
def Gen.dir (g : Gen) : Bool :=
  match g.mode with
  | .move d _ | .hold d _ | .decel d _ _ | .seek d _ | .stop d => d
  | _ => decide (0 ≤ g.v)

/-- The generator of axis `x` stops under A and J in the units of R434, and the axis then becomes `after`. -/
def State.stopGen (s : State) (x a j : Nat) (after : After) : State :=
  s.onGen x fun g => { g with mode := .stop g.dir, after := after, aUse := a, jUse := j, fresh := false }

/-- STOP (R448): the targets of axis `x` are abandoned. -/
def State.stopAxis (s : State) (x : Nat) (after : After) : State :=
  (s.stopGen x (s.aLim x) (s.jLim x) after).setAx x 5 0

/-- Homing of axis `x` fails with cause `c` (R458). -/
def State.homeFault (s : State) (x c : Nat) : State :=
  let s := (s.setFld (Reg.MP_AX_STATUS x) Fld.MP_AX_STATUS_HOME_STATE 8).setFld (Reg.MP_AX_STATUS x)
    Fld.MP_AX_STATUS_HOMED 0
  let s := s.setFld (Reg.MP_AX_STATUS x) Fld.MP_AX_STATUS_FAULT c
  let s := s.raise .stopping (Reg.MP_AX_EVENT x) Fld.MP_AX_EVENT_HOME_FAULT c (unitAxis x)
  let (_, a, j) := s.limitSet x (s.fld (Reg.MP_AX_HOME_CFG x) Fld.MP_AX_HOME_CFG_LSET)
  (s.stopGen x (under a (s.regN (Reg.MP_AX_AMAX x))) (under j (s.regN (Reg.MP_AX_JMAX x))) (.fault c)).setAx
    x 5 0

/-- Homing of axis `x` is under way (R458). -/
def State.homing (s : State) (x : Nat) : Bool :=
  let h := s.fld (Reg.MP_AX_STATUS x) Fld.MP_AX_STATUS_HOME_STATE
  1 ≤ h && h ≤ 6 && s.axState x == 4

/-- Axis `x` loses its feedback (R458, R477): a servo axis faults at once, a stepper stops first. A DISABLED axis shows the
cause. -/
def State.feedbackFault (s : State) (x : Nat) : State :=
  if s.axState x = 0 then s.setFld (Reg.MP_AX_STATUS x) Fld.MP_AX_STATUS_FAULT 5
  else if s.homing x then
    let s := s.homeFault x 5
    if x < 2 then s.faultAxis x 5 else s
  else if x < 2 then s.faultAxis x 5
  else
    let s := s.setFld (Reg.MP_AX_STATUS x) Fld.MP_AX_STATUS_FAULT 5
    if s.moving x then s.stopAxis x (.fault 5) else s.faultAxis x 5

/-- A limit stops axis `x` (R457). -/
def State.limitStop (s : State) (x : Nat) : State :=
  let s := s.setFld (Reg.MP_AX_STATUS x) Fld.MP_AX_STATUS_FAULT 1
  let s := s.raise .stopping (Reg.MP_AX_EVENT x) Fld.MP_AX_EVENT_LIMIT_STOP 1 (unitAxis x)
  let s := s.onGen x fun g => { g with scan := none }
  let s := (s.stopGen x (max (s.regN (Reg.MP_AX_AMAX x)) 1) (max (s.regN (Reg.MP_AX_JMAX x)) 1)
    (.fault 1)).setAx x 5 0
  if x = 0 then s.stopFiring 2 else s

/-! ### Homing (R458, R459) -/

/-- HOME_CFG of axis `x`: reference, seek direction positive, index (R465). -/
def State.homeRef (s : State) (x : Nat) : Nat := s.fld (Reg.MP_AX_HOME_CFG x) Fld.MP_AX_HOME_CFG_REF
def State.homeDir (s : State) (x : Nat) : Bool := s.flag (Reg.MP_AX_HOME_CFG x) Fld.MP_AX_HOME_CFG_DIR

/-- The input that is the reference of axis `x`: 2 HOME, 1 NEG, 0 POS, none for the index alone. -/
def State.refInput (s : State) (x : Nat) : Option Nat :=
  match s.homeRef x with
  | 0 => some 2
  | 1 => some 1
  | 2 => some 0
  | _ => none

/-- The reference of axis `x` is qualified active. -/
def State.refActive (s : State) (x : Nat) : Bool :=
  match s.refInput x with
  | some i => s.qual x i
  | none => false

/-- ASSIGN (R459): the captured point takes the value HOME_POS; whole counts go into the count, the rest
into the offset, and set-point and step position move along by the whole. -/
def State.assign (s : State) (x : Nat) : State :=
  let d := s.pairS (Reg.MP_AX_HOME_POS_LO x) - s.pairS (Reg.MP_AX_HOME_CAP_LO x)
  if s.fbSrc x = 0 then s.shiftSetpoint x d
  else
    let sc : Int := max (s.pair (Reg.FB_AX_SCALE_LO x)) 1
    let n := if s.flag (Reg.FB_AX_CFG x) Fld.FB_AX_CFG_INV then -(divT (d * 65536) sc)
      else divT (d * 65536) sc
    let c := s.fbCount x
    let moved := s.rawOf x (c + n) - s.rawOf x c
    let s := ((s.onFb x fun f => { f with offset := f.offset + (d - moved) }).moveCount x n).shiftSetpoint x d
    if s.flag (Reg.MP_AX_HOME_CFG x) Fld.MP_AX_HOME_CFG_INDEX ∨ s.homeRef x = 3 then
      (s.setPairS (Reg.FB_AX_IDX_REF_LO x) ((s.gen x).indexCount + n)).setFld (Reg.FB_AX_STATUS x)
        Fld.FB_AX_STATUS_IDX_LEARNED 1
    else s

/-- Homing of axis `x` enters state `h` (R458). DESIGN CHOICE (log entry 71): every move of homing, PARK's too, takes A and
J from the set of HOME_CFG.LSET. -/
def State.enterHome (s : State) (x h : Nat) : State :=
  let dir := s.homeDir x
  let (_, a0, j0) := s.limitSet x (s.fld (Reg.MP_AX_HOME_CFG x) Fld.MP_AX_HOME_CFG_LSET)
  let a := under a0 (s.regN (Reg.MP_AX_AMAX x))
  let j := under j0 (s.regN (Reg.MP_AX_JMAX x))
  let seekV := under (s.regN (Reg.MP_AX_HOME_SEEK_V x)) (s.regN (Reg.MP_AX_VMAX x))
  let latchV := under (s.regN (Reg.MP_AX_HOME_LATCH_V x)) (s.regN (Reg.MP_AX_VMAX x))
  let s := (s.setFld (Reg.MP_AX_STATUS x) Fld.MP_AX_STATUS_HOME_STATE h).setAx x 4 1
  let s := if x < 2 ∧ h ≠ 5 then s.setRegN (Reg.SV_AX_ERR_PEAK x) 0 else s
  let run := fun (m : GMode) => s.onGen x fun g => { g with mode := m, after := .idle, aUse := a, jUse := j }
  match h with
  | 1 => run (.seek dir seekV)
  | 2 => run (.seek (!dir) seekV)
  | 3 => run (.seek dir latchV)
  | 4 => run (.seek dir latchV)
  | 5 => s.onGen x fun g => { g with mode := .idle }
  | _ =>
    let t := s.pairS (Reg.MP_AX_HOME_PARK_LO x)
    let s := (s.setPairS (Reg.MP_AX_TARGET_LO x) t).setRegN (Reg.MP_AX_V x) (s.regN (Reg.MP_AX_HOME_SEEK_V x))
    let s := (s.setRegN (Reg.MP_AX_A x) a0).setRegN (Reg.MP_AX_J x) j0
    let d := decide ((s.gen x).p ≤ t)
    s.onGen x fun g => { g with
      mode := .move d t, after := .idle, aUse := a, jUse := j, keepV := false, keepA := false, keepJ := false }

/-- The near limit of homing of axis `x`: 0 POS, 1 NEG (R458). -/
def State.nearLimit (s : State) (x : Nat) : Nat := if s.homeDir x then 0 else 1

/-- A SEEK of axis `x` stands against its near limit, which is not the reference (R458). -/
def State.seekBlocked (s : State) (x : Nat) : Bool :=
  s.fld (Reg.MP_AX_STATUS x) Fld.MP_AX_STATUS_HOME_STATE == 1 && s.qual x (s.nearLimit x) &&
    s.refInput x != some (s.nearLimit x)

/-- The direction in which homing of axis `x` would start: BACKOFF from a reference that is active, else toward it (R458). -/
def State.homeUp (s : State) (x : Nat) : Bool := s.homeDir x != (s.homeRef x != 3 && s.refActive x)

/-- Homing of axis `x` starts (R458). -/
def State.startHome (s : State) (x : Nat) : State :=
  if s.homeRef x = 3 then s.enterHome x 3
  else if s.refActive x then s.enterHome x 2 else s.enterHome x 1

/-- Homing stops the axis and goes on to state `h`. -/
def State.homeStop (s : State) (x h : Nat) : State :=
  let g := s.gen x
  (s.stopGen x g.aUse g.jUse (.home h)).setAx x 4 0

/-- The position captured by homing of axis `x`: then the index, or ASSIGN (R458). -/
def State.homeCapture (s : State) (x : Nat) (p : Int) (h : Nat) : State :=
  (s.setPairS (Reg.MP_AX_HOME_CAP_LO x) p).homeStop x h

/-- A reference or limit input of axis `x` has qualified (R457, R458): 0 POS, 1 NEG, 2 HOME. -/
def State.homeInput (s : State) (x i : Nat) (active : Bool) (pos : Int) : State :=
  let h := s.fld (Reg.MP_AX_STATUS x) Fld.MP_AX_STATUS_HOME_STATE
  let near := s.nearLimit x
  let isRef := s.refInput x == some i
  if active ∧ i = 1 - near ∧ ¬ isRef then s.homeFault x 2
  else match h, (s.gen x).mode with
    | 1, .seek .. =>
      if active ∧ isRef then s.homeStop x 2
      else if active ∧ i = near then s.homeFault x 3 else s
    | 2, .seek .. => if !active ∧ isRef then s.homeStop x 3 else s
    | 3, .seek .. =>
      if active ∧ isRef then
        s.homeCapture x pos (if s.flag (Reg.MP_AX_HOME_CFG x) Fld.MP_AX_HOME_CFG_INDEX then 4 else 5)
      else s
    | _, _ => s

/-! ### Starting moves (R438 to R442, R451) -/

/-- The entries of a chain from `i`; none where it breaks a rule of R438. -/
def State.chain (s : State) : Nat → List Nat → Nat → Option (List Nat)
  | _, seen, 0 => if seen.isEmpty then none else some seen
  | 0, _, _ => none
  | n + 1, seen, i =>
    let e := s.moveE i
    if 1024 ≤ i ∨ seen.contains i ∨ 5 < e.axis ∨ e.kind < 1 ∨ 4 < e.kind ∨ 15 < e.lset ∨
        (seen.any fun j => (s.moveE j).axis == e.axis) ∨
        (e.kind = 3 ∧ (e.count < 1 ∨ 4096 < e.first + e.count)) then none
    else s.chain n (seen ++ [i]) e.next

/-- A segment from (p0, v0) keeps R451 under V, A and J (in the units of R434). -/
def segOk (p0 v0 : Int) (seg : Nat × Int × Int) (v a j : Nat) : Bool :=
  let (n, p1, v1) := seg
  let N : Int := n
  let A : Int := 16 * a * 65536
  let J : Int := 4096 * j * 65536
  -- multiplied through by Δ² and Δ³, with Δ = n / 50,000
  let e1 := 6 * (p1 - p0) * 50000 - (4 * v0 + 2 * v1) * N
  let e2 := -6 * (p1 - p0) * 50000 + (2 * v0 + 4 * v1) * N
  let e3 := 12 * (p0 - p1) * 50000 + 6 * (v0 + v1) * N
  decide (1 ≤ n ∧ n ≤ 65536 ∧ (p1 - p0).natAbs ≤ 2 ^ 47 ∧ v1.natAbs ≤ 2 ^ 47 ∧
    e1.natAbs * 50000 ≤ (A * N * N).natAbs ∧ e2.natAbs * 50000 ≤ (A * N * N).natAbs ∧
    e3.natAbs * 50000 * 50000 ≤ (J * N * N * N).natAbs ∧ v1.natAbs ≤ v * 65536)

/-- A PATH of `n` segments from `k` keeps R451. -/
def State.pathOk (s : State) (x v a j : Nat) : Nat → Nat → Int → Int → Bool
  | 0, _, _, v0 => v0 == 0
  | n + 1, k, p0, v0 =>
    let g := s.segment x k
    segOk p0 v0 g v a j && s.pathOk x v a j n (k + 1) g.2.1 g.2.2

/-- A segment of a PATH of `n` segments from `k`, which starts at `p0`, leads up, or down. -/
def State.pathGoes (s : State) (x : Nat) (up : Bool) : Nat → Nat → Int → Bool
  | 0, _, _ => false
  | n + 1, k, p0 =>
    let p1 := (s.segment x k).2.1
    (if up then decide (p0 < p1) else decide (p1 < p0)) || s.pathGoes x up n (k + 1) p1

/-- An entry moves its axis up, or down: at the start of homing, or in some segment of a PATH (R440, R450, R458). -/
def State.goesUp (s : State) (e : MoveE) : Bool :=
  let p := (s.gen e.axis).p
  match e.kind with
  | 1 => decide (p < e.target)
  | 2 => decide (0 < e.target)
  | 3 => s.pathGoes e.axis true e.count e.first p
  | _ => s.homeUp e.axis
def State.goesDown (s : State) (e : MoveE) : Bool :=
  let p := (s.gen e.axis).p
  match e.kind with
  | 1 => decide (e.target < p)
  | 2 => decide (e.target < 0)
  | 3 => s.pathGoes e.axis false e.count e.first p
  | _ => !s.homeUp e.axis

/-- Limits of an entry's move: writes kept from a running move govern in place of the set (R439, R446, R447). -/
def State.entryLims (s : State) (x lset : Nat) : Nat × Nat × Nat :=
  let (v, a, j) := s.limitSet x lset
  let g := s.gen x
  (if g.keepV then s.regN (Reg.MP_AX_V x) else v, if g.keepA then s.regN (Reg.MP_AX_A x) else a,
    if g.keepJ then s.regN (Reg.MP_AX_J x) else j)

/-- Limits under the ceilings of axis `x` (R436). -/
def State.underAll (s : State) (x : Nat) (lims : Nat × Nat × Nat) : Nat × Nat × Nat :=
  (under lims.1 (s.regN (Reg.MP_AX_VMAX x)), under lims.2.1 (s.regN (Reg.MP_AX_AMAX x)),
    under lims.2.2 (s.regN (Reg.MP_AX_JMAX x)))

/-- REFUSE cause of an entry; 0 where it may start (R440, R451). DEDUCED (log entry 71): a HOME entry of axis S in an AUX_MOVE
chain that starts while a swath is ARMED or RUNNING (R459) refuses the chain. -/
def State.entryRefusal (s : State) (e : MoveE) : Nat :=
  let x := e.axis
  let (v, a, j) := s.underAll x (s.entryLims x e.lset)
  if s.moving x then 1
  else if s.axState x ≠ 1 then 5
  else if (s.qual x 0 && s.goesUp e) || (s.qual x 1 && s.goesDown e) then 2
  else if e.kind = 3 ∧ ¬ s.pathOk x v a j e.count e.first (s.gen x).p 0 then 4
  else if e.kind = 4 ∧ x = 0 ∧ s.swathLive then 5
  else 0

/-- A move of axis `x` begins: its limits are copied and its registers show it (R439, R463, R496). -/
def State.beginMove (s : State) (x st : Nat) (lims : Nat × Nat × Nat) (target : Int) : State :=
  let (v, a, j) := lims
  let s := ((s.setRegN (Reg.MP_AX_V x) v).setRegN (Reg.MP_AX_A x) a).setRegN (Reg.MP_AX_J x) j
  let s := (s.setPairS (Reg.MP_AX_TARGET_LO x) target).setAx x st (if st = 2 then 1 else 0)
  let s := s.setFld (Reg.MP_AX_STATUS x) Fld.MP_AX_STATUS_DEFER 0
  let s := if x < 2 then s.setRegN (Reg.SV_AX_ERR_PEAK x) 0 else s
  let (_, a, j) := s.underAll x lims
  s.onGen x fun g => { g with
    aUse := a, jUse := j, v := 0, a := 0, keepV := false, keepA := false, keepJ := false, after := .idle, fresh := true }

/-- Entry `i` of the chain from `hd` starts (R438). -/
def State.startEntry (s : State) (aux : Bool) (hd i : Nat) : State :=
  let e := s.moveE i
  let x := e.axis
  let p := (s.gen x).p
  let lims := s.entryLims x e.lset
  let mark := fun (s : State) (m : GMode) => s.onGen x fun g => { g with mode := m, entry := i, aux := aux, head := hd }
  match e.kind with
  | 1 => mark (s.beginMove x 2 lims e.target) (.move (decide (p ≤ e.target)) e.target)
  | 2 => mark (s.beginMove x 2 lims (p + e.target)) (.move (decide (0 ≤ e.target)) (p + e.target))
  | 3 => mark (s.beginMove x 3 lims (s.segment x (e.first + e.count - 1)).2.1)
      (.path e.first (e.first + e.count - 1) 0 p 0)
  | _ => (s.startHome x).onGen x fun g => { g with entry := i, aux := aux, head := hd }

/-- A chain is refused with cause `c`, on axis `x` (R438, R440). -/
def State.refuse (s : State) (x c : Nat) : State :=
  (s.setFld (Reg.MP_AX_STATUS x) Fld.MP_AX_STATUS_REFUSE c).event (Reg.MP_AX_EVENT x)
    Fld.MP_AX_EVENT_MOVE_REFUSED

/-- The chain from entry `i` starts through axis `x` (R438, R440): whole, or not at all. -/
def State.startChain (s : State) (x i : Nat) (aux : Bool) : State :=
  match s.chain 6 [] i with
  | none => s.refuse x 3
  | some l =>
    let run := l.filter fun i => s.flag (Reg.MP_AX_CFG (s.moveE i).axis) Fld.MP_AX_CFG_ENABLE
    match (run.map fun i => s.entryRefusal (s.moveE i)).find? (· != 0) with
    | some c => s.refuse x c
    | none => run.foldl (fun s j => s.startEntry aux i j) s

/-- SMAX and SMIN over the rows of the ports used (R251). -/
def scanSpan (t : List (Nat × Word)) (ports : List Nat) : Int × Int :=
  let o := ((List.range (hdrNrow t)).filter fun r => ports.contains (rowPort t r)).map (rowOfs t)
  match o with
  | [] => (0, 0)
  | a :: l => (l.foldl max a, l.foldl min a)

/-- The chain holds a HOME entry of axis S that would start while a swath is ARMED or RUNNING (R459). -/
def State.homesLive (s : State) (i : Nat) : Bool :=
  s.swathLive && s.flag (Reg.MP_AX_CFG 0) Fld.MP_AX_CFG_ENABLE &&
    ((s.chain 6 [] i).getD []).any fun j => (s.moveE j).axis == 0 && (s.moveE j).kind == 4

/-- A limit has qualified in the sample in which axis `x` starts toward it (R460): no axis of the chain starts, and a scan
move refused stops its swath (R440, R442). -/
def State.refuseFresh (s : State) (x : Nat) : State :=
  let g := s.gen x
  if g.entry = 0 then (((s.genIdle x).setAx x 1 0).refuse x 2).stopFiring 2
  else
    ((List.range 6).foldl (fun s y =>
      let h := s.gen y
      if h.entry ≠ 0 ∧ h.head = g.head ∧ h.fresh then (s.genIdle y).setAx y 1 0 else s) s).refuse x 2

/-- Axis `x`, which starts in this sample, starts toward its input `i`. -/
def State.startsToward (s : State) (x i : Nat) : Bool :=
  let g := s.gen x
  g.fresh && match g.mode with
    | .move d _ => if d then i == 0 else i == 1
    | .path .. => if i = 0 then s.goesUp (s.moveE g.entry) else i == 1 && s.goesDown (s.moveE g.entry)
    | _ => false

/-- V and target of the scan move of a swath (R442). -/
def State.scanMove (s : State) (w : Swath) (l : Layer) (e : SwathEntry) : Nat × Int :=
  let (smax, smin) := scanSpan s.bmap w.ports
  let extra : Int := s.regN (Reg.MP_AX_OVERRUN 0)
  let y := if e.reverse then e.yOrigin - smax - extra
    else e.yOrigin + ((e.lines - 1) * l.job.pitch : Nat) - smin + extra
  (l.job.pitch * w.rate, y * 65536 + s.pairS Reg.GY_SCAN_ZERO_LO)

/-- The scan move starts, or stops the swath where it is refused (R440, R442). -/
def State.startScan (s : State) (v : Nat) (t : Int) : State :=
  let p := (s.gen 0).p
  if s.axState 0 ≠ 1 ∨ (s.qual 0 0 ∧ p < t) ∨ (s.qual 0 1 ∧ t < p) then
    (s.refuse 0 (if s.moving 0 then 1 else if s.axState 0 ≠ 1 then 5 else 2)).stopFiring 2
  else
    let (_, a, j) := s.entryLims 0 (s.fld (Reg.MP_AX_CFG 0) Fld.MP_AX_CFG_SCAN_LSET)
    (s.beginMove 0 2 (min v (2 ^ 32 - 1), a, j) t).onGen 0 fun g =>
      { g with mode := .move (decide (p ≤ t)) t, entry := 0, aux := false, scan := none }

/-- The scan move of the swath that starts (R441, R442): after an AUX move where axis S still runs one. -/
def State.scanStart (s : State) (w : Swath) (l : Layer) (e : SwathEntry) : State :=
  let (v, t) := s.scanMove w l e
  let late := (List.range 6).filter fun x => (s.gen x).aux && s.moving x
  let s := late.foldl (fun s x => s.raise .corrected (Reg.MP_AX_EVENT x) Fld.MP_AX_EVENT_AUX_LATE 0 (unitAxis x)) s
  if ¬ s.flag (Reg.MP_AX_CFG 0) Fld.MP_AX_CFG_ENABLE then s
  else if (s.gen 0).aux ∧ s.moving 0 then s.onGen 0 fun g => { g with scan := some (v, t) }
  else s.startScan v t

/-! ### One sample of a generator (R444 to R450) -/

/-- OVR_APPLIED of axis `x` (R444, R461). -/
def State.ovrOf (s : State) (x : Nat) : Nat :=
  let o := min (max (s.regN (Reg.MP_AX_OVR x)) 1) 1024
  if x = 0 then min o (s.fld Reg.GY_STATUS Fld.GY_STATUS_OVR) else o

/-- The next state from speed `v` and acceleration `a`, in the direction of motion, when the acceleration
ramps to `b` over one sample: distance covered and speed, each rounded down. -/
def rampStep (v a b : Int) : Int × Int :=
  ((v * 6 * 50000 + (2 * a + b)).fdiv (6 * 50000 * 50000), v + (a + b).fdiv (2 * 50000))

/-- The acceleration `b` keeps the next state able to stop within `rem` (R444). -/
def rampOk (v a b : Int) (rem : Int) (aReg jReg : Nat) : Bool :=
  let (d, v') := rampStep v a b
  decide (0 ≤ v' ∧ (stopDist v'.toNat b aReg jReg : Int) ≤ rem - d)

/-- The greatest acceleration from `lo` to `lo + 2^n - 1` that keeps R444, given that `lo` does. -/
def bestRamp (v a rem : Int) (aReg jReg : Nat) (top : Int) : Nat → Int → Int
  | 0, lo => lo
  | n + 1, lo =>
    let mid := lo + (2 ^ n : Nat)
    if mid ≤ top ∧ rampOk v a mid rem aReg jReg then bestRamp v a rem aReg jReg top n mid
    else bestRamp v a rem aReg jReg top n lo

/-- The range of accelerations of the next sample (R444, R446). -/
def rampRange (a : Int) (aReg jReg : Nat) : Int × Int :=
  let jt : Int := (4096 * jReg * 65536 / 50000 : Nat)
  let top : Int := (16 * aReg * 65536 : Nat)
  let hi := if top < a - jt then a - jt else min (a + jt) top
  (min hi (max (a - jt) (-top)), hi)

/-- The acceleration that brings the speed closest to `ve`, before the distance is judged. -/
def wantRamp (v a ve lo hi : Int) : Int := clamp (2 * 50000 * (ve - v) - a) lo hi

/-- The choice of R444: none where the phase becomes DECEL. -/
def chooseRamp (v a ve rem : Int) (aReg jReg : Nat) : Option Int :=
  let (lo, hi) := rampRange a aReg jReg
  let w := wantRamp v a ve lo hi
  if rampOk v a w rem aReg jReg then some w
  else if rampOk v a lo rem aReg jReg then some (bestRamp v a rem aReg jReg w 64 lo)
  else none

/-- The sign of a direction. -/
def sgn (dir : Bool) : Int := if dir then 1 else -1

/-- The generator takes distance, speed and acceleration in its direction; how each result is rounded to the
register's grid is free (log entry 30). -/
def State.takeRamp (s : State) (x : Nat) (dir : Bool) (b : Int) : State :=
  let g := s.gen x
  let k := sgn dir
  let (d, v') := rampStep (k * g.v) (k * g.a) b
  let (r1, s) := s.free
  let (r2, s) := s.free
  s.onGen x fun g => { g with p := g.p + k * (d + (r1 % 2 : Nat)), v := k * (v' + (r2 % 2 : Nat)), a := k * b }

/-- The acceleration `b` lets the speed still fall to 0 together with the acceleration, under J. -/
def landable (v a b : Int) (jReg : Nat) : Bool :=
  let v' := (rampStep v a b).2
  decide (0 ≤ v' ∧ (0 ≤ b ∨ b * b ≤ 2 * 4096 * 65536 * jReg * v'))

/-- The least acceleration from `hi - (2^n - 1)`, but not under `lo`, to `hi` that is `landable`, given that `hi` is. -/
def leastRamp (v a : Int) (jReg : Nat) (lo : Int) : Nat → Int → Int
  | 0, hi => hi
  | n + 1, hi =>
    let mid := hi - (2 ^ n : Nat)
    if lo ≤ mid ∧ landable v a mid jReg then leastRamp v a jReg lo n mid else leastRamp v a jReg lo n hi

/-- The acceleration of a stop that is not stretched (R448): the least of R444's range that is `landable` (DEDUCED, log entry
30). -/
def stopRamp (v a : Int) (aReg jReg : Nat) : Int :=
  let (lo, hi) := rampRange a aReg jReg
  if landable v a lo jReg then lo else leastRamp v a jReg lo 64 hi

/-- A stop comes to rest in the sample that leaves speed `v` and acceleration `a`. -/
def atRest (v a : Int) (jReg : Nat) : Bool :=
  let jt : Int := (4096 * jReg * 65536 / 50000 : Nat)
  decide (v ≤ 16 ∨ (-jt ≤ a ∧ v ≤ jt.fdiv 50000 + 16))

/-- One sample of a stop under A and J (R448, R457), and whether the axis comes to rest in it. -/
def State.stopStep (s : State) (x : Nat) (dir : Bool) : Bool × State :=
  let g := s.gen x
  let k := sgn dir
  let s := s.takeRamp x dir (stopRamp (k * g.v) (k * g.a) g.aUse g.jUse)
  let h := s.gen x
  (atRest (k * h.v) (k * h.a) g.jUse, s)

/-- A plan of DECEL keeps A and J and ends exactly at the target, `rem` away (R444). The final sample sets what is left of
position, speed and acceleration, which is within what one sample changes. -/
def stopPlanOk (aReg jReg : Nat) : Int → Int → Int → List (Int × Int × Int) → Bool
  | _, _, _, [] => false
  | v, a, rem, [(d, v', a')] =>
    let (lo, hi) := rampRange a aReg jReg
    let (d0, v0) := rampStep v a 0
    decide (d = rem ∧ v' = 0 ∧ a' = 0 ∧ lo ≤ 0 ∧ 0 ≤ hi ∧ 0 ≤ d ∧ d ≤ max d0 0 + 65536 ∧ v0 ≤ 65536)
  | v, a, rem, (d, v', a') :: l =>
    let (lo, hi) := rampRange a aReg jReg
    let (d0, v0) := rampStep v a a'
    decide (lo ≤ a' ∧ a' ≤ hi ∧ a' ≤ max a 0 ∧ d0 ≤ d ∧ d ≤ d0 + 1 ∧ v0 ≤ v' ∧ v' ≤ v0 + 1 ∧ 0 ≤ v' ∧ 0 ≤ d) &&
      stopPlanOk aReg jReg v' a' (rem - d) l

/-- A stop with a target is planned (R444). The rule bounds the plan and leaves its course open: `Config.stopPlan` (log entry
30). Where that breaks the bounds no plan is left, and the axis stops as R448 says, its last sample at the target. -/
def State.planDecel (s : State) (x : Nat) (dir : Bool) (t : Int) : State :=
  let g := s.gen x
  let k := sgn dir
  let plan := Config.stopPlan (k * g.v) (k * g.a) (k * (t - g.p)) g.aUse g.jUse
  let plan := if stopPlanOk g.aUse g.jUse (k * g.v) (k * g.a) (k * (t - g.p)) plan then plan else []
  (s.onGen x fun g => { g with mode := .decel dir plan t }).setAx x (s.axState x) 2

/-- The scan move that has waited for an AUX move of axis S to end is due (R442). -/
def State.scanDue (s : State) (scan : Option (Nat × Int)) : State :=
  match scan with
  | some (v, t) => s.startScan v t
  | none => s

/-- A move has ended at its target (R444, R458, R442). -/
def State.moveDone (s : State) (x : Nat) (t : Int) : State :=
  let scan := (s.gen x).scan
  let s := (s.genStand x).onGen x fun g => { g with p := t }
  if s.homing x then s
  else (((s.genIdle x).setAx x 1 0).event (Reg.MP_AX_EVENT x) Fld.MP_AX_EVENT_MOVE_DONE).scanDue scan

/-- A stop has ended: the axis stands and becomes what was to follow (R448, R458, R462). DEDUCED (log entry 71): an AUX
move of axis S that ends short of its target has ended, and the scan move that waits for it is due. -/
def State.stopDone (s : State) (x : Nat) : State :=
  let after := (s.gen x).after
  let scan := (s.gen x).scan
  match after with
  | .idle => ((s.genIdle x).setAx x 1 0).scanDue scan
  | .disabled => (s.disableAxis x).scanDue scan
  | .fault c => (s.faultAxis x c).scanDue scan
  | .home h => (s.genStand x).enterHome x h

/-- The position that the move-done test of homing looks at: presented, or for an axis without a source measured (R468,
R478). -/
def State.shownPos (s : State) (x : Nat) : Int :=
  if s.fbSrc x = 0 then s.measured x else s.pairS (Reg.FB_AX_PRES_LO x)

/-- The park move of homing has brought the set-point to its target (R458, R476): it is done once the presented position is
there (R478), within `Config.parkTol` (log entry 71). -/
def State.homeParked (s : State) (x : Nat) : State :=
  let scan := (s.gen x).scan
  if Config.parkTol < (s.shownPos x - s.pairS (Reg.MP_AX_TARGET_LO x)).natAbs then s
  else if s.refActive x then ((s.homeFault x 4).faultAxis x 4).scanDue scan
  else
    let s := ((s.genIdle x).setAx x 1 0).setFld (Reg.MP_AX_STATUS x) Fld.MP_AX_STATUS_HOME_STATE 7
    let s := (s.setFld (Reg.MP_AX_STATUS x) Fld.MP_AX_STATUS_HOMED 1).event (Reg.MP_AX_EVENT x)
      Fld.MP_AX_EVENT_HOME_DONE
    let s := if s.fbState x = 2 then s.setFld (Reg.FB_AX_STATUS x) Fld.FB_AX_STATUS_STATE 0 else s
    s.scanDue scan

/-- `hermite` of R450. -/
def hermite (p0 v0 p1 v1 : Int) (n k : Int) : Int :=
  let num := (p1 - p0) * (3 * k * k * n - 2 * k * k * k) * 50000 +
    v0 * n * (k * n * n - 2 * k * k * n + k * k * k) + v1 * n * (k * k * k - k * k * n)
  let den := 50000 * n * n * n
  p0 + (num + divT den 2).fdiv den

/-- One sample of a PATH (R450); its acceleration is not stated and is free within A, which R451 has checked. The velocity of
the last sample stands, and is 0 from the next. -/
def State.pathSample (s : State) (x seg last k : Nat) (p0 v0 : Int) : State :=
  let (n, p1, v1) := s.segment x seg
  let p := hermite p0 v0 p1 v1 n (k + 1 : Nat)
  let (fa, s) := s.freeI
  let top : Int := (16 * (s.gen x).aUse * 65536 : Nat)
  let a := clamp fa (-top) top
  let m : GMode := if k + 1 < n then .path seg last (k + 1) p0 v0
    else if seg < last then .path (seg + 1) last 0 p1 v1 else .idle
  let v := (p - (s.gen x).p) * 50000
  let s := s.onGen x fun g => { g with p := p, v := v, a := a, mode := m }
  if k + 1 < n ∨ seg < last then s else (s.moveDone x p1).onGen x fun g => { g with v := v, a := a }

/-- One sample of DECEL (R444). -/
def State.decelSample (s : State) (x : Nat) (dir : Bool) (plan : List (Int × Int × Int)) (t : Int) : State :=
  let k := sgn dir
  match plan with
  | [] =>
    let (rest, s) := s.stopStep x dir
    if rest ∨ k * (t - (s.gen x).p) ≤ 0 then s.moveDone x t else s
  | [_] => s.moveDone x t
  | e :: l => s.onGen x fun g => { g with mode := .decel dir l t, p := g.p + k * e.1, v := k * e.2.1, a := k * e.2.2 }

/-- DECEL begins: the stop is planned, and its first sample is this one. -/
def State.beginDecel (s : State) (x : Nat) (dir : Bool) (t : Int) : State :=
  let s := s.planDecel x dir t
  match (s.gen x).mode with
  | .decel d l t => s.decelSample x d l t
  | _ => s

/-- One sample of a move in ACCEL or CRUISE (R444). -/
def State.moveSample (s : State) (x : Nat) (dir : Bool) (t : Int) : State :=
  let g := s.gen x
  let k := sgn dir
  let ve : Int := (s.vLim x * s.regN (Reg.MP_AX_OVR_APPLIED x) / 1024 * 65536 : Nat)
  let rem := k * (t - g.p)
  match chooseRamp (k * g.v) (k * g.a) ve rem g.aUse g.jUse with
  | some b =>
    if b = 0 ∧ g.v = 0 ∧ g.a = 0 ∧ 0 < ve then s.beginDecel x dir t else s.takeRamp x dir b
  | none => s.beginDecel x dir t

/-- One sample of a held velocity after A was raised in a stop (R446): the acceleration goes to 0 at J, and
DECEL begins when R444 asks for it. -/
def State.holdSample (s : State) (x : Nat) (dir : Bool) (t : Int) : State :=
  let g := s.gen x
  let k := sgn dir
  let (lo, hi) := rampRange (k * g.a) g.aUse g.jUse
  let b := clamp 0 lo hi
  if rampOk (k * g.v) (k * g.a) b (k * (t - g.p)) g.aUse g.jUse then s.takeRamp x dir b
  else s.beginDecel x dir t

/-- The override of axis `x` reaches its generator; during a PATH that is a change held for the next move (R446, R447). -/
def State.takeOvr (s : State) (x : Nat) : State :=
  let o := s.ovrOf x
  let s := if s.axState x = 3 ∧ o ≠ s.regN (Reg.MP_AX_OVR_APPLIED x) then
      s.event (Reg.MP_AX_EVENT x) Fld.MP_AX_EVENT_PATH_HELD
    else s
  s.setRegN (Reg.MP_AX_OVR_APPLIED x) o

/-- A limit whose qualified state the set-point of axis `x` moves toward stops it outside homing, in a stop too that no fault
has caused (R457, R460). -/
def State.limitCheck (s : State) (x : Nat) : State :=
  let v := (s.gen x).v
  let runs : Bool := match (s.gen x).after with
    | .fault _ => false
    | _ => s.axState x == 2 || s.axState x == 3 || s.axState x == 5
  if runs ∧ ((s.qual x 0 ∧ 0 < v) ∨ (s.qual x 1 ∧ v < 0)) then s.limitStop x else s

/-- One sample of generator `x` (R435, R444 to R450, R458). -/
def State.genSample (s : State) (x : Nat) : State :=
  let s := s.takeOvr x
  let g := s.gen x
  let s := s.onGen x fun g => { g with prevP := g.p, stamp := s.tNs, fresh := false }
  let s := match g.mode with
    | .idle =>
      let s := s.onGen x fun g => { g with v := 0, a := 0 }
      if s.homing x then
        match s.fld (Reg.MP_AX_STATUS x) Fld.MP_AX_STATUS_HOME_STATE with
        | 5 => (s.assign x).enterHome x 6
        | 6 => s.homeParked x
        | _ => s
      else s
    | .move dir t => s.moveSample x dir t
    | .hold dir t => s.holdSample x dir t
    | .decel dir plan t => s.decelSample x dir plan t
    | .seek dir v =>
      if s.seekBlocked x then s.homeFault x 3
      else
        let k := sgn dir
        let (lo, hi) := rampRange (k * g.a) g.aUse g.jUse
        s.takeRamp x dir (wantRamp (k * g.v) (k * g.a) (v * 65536 : Nat) lo hi)
    | .stop dir =>
      let (rest, s) := s.stopStep x dir
      if rest then s.stopDone x else s
    | .path seg last k p0 v0 => s.pathSample x seg last k p0 v0
  let s := s.limitCheck x
  (s.setPairS (Reg.MP_AX_CMD_POS_LO x) (s.gen x).p).setPairS (Reg.MP_AX_CMD_VEL_LO x) (s.gen x).v

end Sys2Proof.Machine
end

