-- ==== Sys2Proof/Machine/Stream.lean ====
section
/-! DEFINITION. The Zhevton Layer Stream parser (R45 to R119, R123 to R126). -/

namespace Sys2Proof.Machine

open Sys2Proof.Bits

/-! ### The record frame (R46 to R51) -/

/-- Header fields of a record's bytes (R46, R48). -/
def recFlags (b : List Byte) : Nat := rd b 1 1
def recLen (b : List Byte) : Nat := rd b 2 2
def recSeq (b : List Byte) : Nat := rd b 4 4
def recMore (b : List Byte) : Bool := bit (recFlags b) 0
def recCont (b : List Byte) : Bool := bit (recFlags b) 1
def recFlag2 (b : List Byte) : Bool := bit (recFlags b) 2

/-- The CRC check of R51 and R111: over LENGTH × 8 − 8 bytes, trailer bytes 4 to 7 zero. -/
def recCrcOk (b : List Byte) : Bool :=
  let n := 8 * recLen b
  decide (b.length = n) && Crc.crc32c (b.take (n - 8)) == rd b (n - 8) 4 && rd b (n - 4) 4 == 0

/-- Cause codes of R111. -/
def causeCrc : Nat := 1
def causeLength : Nat := 2
def causeSeq : Nat := 3
def causeType : Nat := 4
def causeContext : Nat := 5
def causeRange : Nat := 6
def causeReference : Nat := 7
def causeDepth : Nat := 8
def causeDigest : Nat := 9
def causeVersion : Nat := 10
def causeBinding : Nat := 11

/-- Type codes of R52. -/
def typeJob : Nat := 0x01
def typeLayer : Nat := 0x02
def typeMaterial : Nat := 0x03
def typeCurve : Nat := 0x04
def typeKernel : Nat := 0x05
def typeField : Nat := 0x06
def typeCellBegin : Nat := 0x10
def typeCellEnd : Nat := 0x11
def typePoly : Nat := 0x20
def typeTrap : Nat := 0x21
def typeRect : Nat := 0x22
def typeDisc : Nat := 0x23
def typePatch : Nat := 0x24
def typePlace : Nat := 0x30
def typeArray : Nat := 0x31
def typeLattice : Nat := 0x32
def typeSwathplan : Nat := 0x40
def typeCheck : Nat := 0x7E
def typeEnd : Nat := 0x7F

/-- The types R52 defines. -/
def definedTypes : List Nat :=
  [0x01, 0x02, 0x03, 0x04, 0x05, 0x06, 0x10, 0x11, 0x20, 0x21, 0x22, 0x23, 0x24, 0x30, 0x31, 0x32, 0x40,
   0x7E, 0x7F]

/-- Extension types (R109). -/
def isExt (c : Nat) : Bool := 0x60 ≤ c && c ≤ 0x6F

/-- Primitive types (R54). -/
def isPrim (c : Nat) : Bool := 0x20 ≤ c && c ≤ 0x24

/-- Types that permit continuation (R49, R101, R109). -/
def mayContinue (c : Nat) : Bool := c == typePoly || c == typePatch || c == typeField || isExt c

/-- The LENGTH that the type and its counts require (R58 to R102); none where any will do. -/
def needLen (c : Nat) (b : List Byte) : Option Nat :=
  if isExt c then none
  else if c = typeJob then some 5 else if c = typeLayer then some 3 else if c = typeMaterial then some 5
  else if c = typeCurve then some 1028 else if c = typeKernel then some (3 + divUp (rd b 9 1 * rd b 10 1) 4)
  else if c = typeField then
    some (if recCont b then divUp (16 + 2 * rd b 12 4) 8 + 1 else divUp (40 + 2 * rd b 36 4) 8 + 1)
  else if c = typeCellBegin then some 6 else if c = typeCellEnd then some 3
  else if c = typePoly then some (3 + rd b 14 2) else if c = typeTrap then some 6
  else if c = typeRect then some 5 else if c = typeDisc then some 5
  else if c = typePatch then
    some (if recCont b then divUp (16 + rd b 12 4) 8 + 1 else divUp (40 + rd b 36 4) 8 + 1)
  else if c = typePlace then some 5 else if c = typeArray then some 8 else if c = typeLattice then some 3
  else if c = typeSwathplan then some (3 + 4 * rd b 8 2) else if c = typeCheck then some 5
  else if c = typeEnd then some 2 else none

/-- LENGTH is the one required (R111). -/
def lenOk (c : Nat) (b : List Byte) : Bool :=
  match needLen c b with
  | some n => recLen b == n
  | none => true

/-! ### Context (R54, R98 to R102) -/

/-- The item being continued is one this record type and code continue (R49). -/
def contMatches (k : Cont) (c : Nat) : Bool :=
  match k with
  | .poly .. => c == typePoly
  | .patch .. => c == typePatch
  | .field _ _ => c == typeField
  | .ext code => c == code

/-- The continuation rule of R49 holds. -/
def contOk (p : Content) (c : Nat) (b : List Byte) : Bool :=
  match p.cont with
  | some k => recCont b && contMatches k c
  | none => !recCont b && (mayContinue c || !recMore b)

/-- The record is admitted where it stands (R54, R70, R98 to R100). -/
def admitted (p : Content) (c : Nat) (b : List Byte) : Bool :=
  isExt c ||
  match p.state with
  | .idle => c == typeJob
  | .prologue =>
    c == typeMaterial || c == typeCurve || c == typeKernel || c == typeCellBegin ||
    (c == typeCheck && rd b 8 1 == 0) || ((c == typeLayer || c == typeEnd) && p.lastWasCheck)
  | .between =>
    c == typeCurve || c == typeKernel || c == typeCellBegin || (c == typeCheck && rd b 8 1 == 2) ||
    ((c == typeLayer || c == typeEnd) && p.lastWasCheck)
  | .cell =>
    match p.openCell with
    | none => false
    | some o =>
      if c = typeLattice then o.phases > 1
      else if c = typeCellEnd then o.phases = 1 || o.sections.length = o.phases
      else (isPrim c || c == typePlace || c == typeArray) && (o.phases = 1 || !o.sections.isEmpty)
  | .layer =>
    match p.openLayer with
    | none => false
    | some l =>
      match l.stage with
      | .fields => c == typeField || c == typeSwathplan
      | .geometry => isPrim c || c == typePlace || c == typeArray || (c == typeCheck && rd b 8 1 == 1)
  | _ => false

/-! ### Ranges (R111 RANGE) -/

/-- Bytes [off, off + n) are zero. -/
def zeros (b : List Byte) (off n : Nat) : Bool := ((b.drop off).take n).all (· == 0)

/-- Reserved FLAGS bits are 0 (R48, R108). DESIGN CHOICE, log entry 58: the bits of POLY, TRAP and PATCH that no field
uses, and bits [7:2] of the types of the dose chapter, count as reserved; those of an extension record are not
looked at. -/
def flagsOk (c : Nat) (b : List Byte) : Bool :=
  isExt c ||
  (let f := recFlags b / 4
   if c = typePoly ∨ c = typeTrap ∨ c = typePatch then f < 2 else f = 0)

/-- The padding from `off` to the trailer is zero. -/
def padOk (b : List Byte) (off : Nat) : Bool := zeros b off (8 * recLen b - 8 - off)

/-- Vertices of a POLY record (R73). -/
def polyVerts (b : List Byte) : List (Int × Int) :=
  (List.range (rd b 14 2)).map fun i => (rdS b (16 + 8 * i) 4, rdS b (20 + 8 * i) 4)

/-- Raw size of a patch (R80): bytes per row, and in all. -/
def patchStride (bpp w : Nat) : Nat := divUp (w * 2 ^ bpp) 8
def patchRaw (bpp w h : Nat) : Nat := h * patchStride bpp w

/-- The raw image of a whole patch, decoded where RAW is 0 (R80, R560). -/
def patchImage (raw : Bool) (bpp w h : Nat) (data : List Byte) : Option (List Byte) :=
  if raw then (if data.length = patchRaw bpp w h then some data else none)
  else Codec.decode data (patchStride bpp w) (patchRaw bpp w h)

/-- The pad bits at the end of each row of a raw image are zero (R80). -/
def patchPads (bpp w h : Nat) (img : List Byte) : Bool :=
  let used := w * 2 ^ bpp % 8
  used == 0 || (List.range h).all fun j =>
    (nth img (j * patchStride bpp w + patchStride bpp w - 1) 0).toNat / 2 ^ used == 0

/-- The primitive that a TRAP, RECT or DISC record gives (R76 to R78). -/
def simplePrim (c : Nat) (b : List Byte) : Prim :=
  if c = typeTrap then
    .trap (recFlag2 b) (rdS b 12 4) (rdS b 16 4) (rdS b 20 4) (rdS b 24 4) (rdS b 28 4) (rdS b 32 4)
  else if c = typeRect then .rect (rdS b 12 4) (rdS b 16 4) (rdS b 20 4) (rdS b 24 4)
  else .disc (rdS b 12 4) (rdS b 16 4) (rd b 20 4) (rd b 24 4)

/-- The placement that a PLACE or ARRAY record gives (R66, R67). -/
def placeOf (c : Nat) (b : List Byte) : Geo :=
  if c = typeArray then
    .place (rd b 8 4) (rd b 12 1 % 8) (rdS b 16 4) (rdS b 20 4) (rdS b 24 4) true
      ⟨rd b 28 4, rd b 32 4, rdS b 36 4, rdS b 40 4, rdS b 44 4, rdS b 48 4⟩
  else
    .place (rd b 8 4) (rd b 12 1 % 8) (rdS b 16 4) (rdS b 20 4) (rdS b 24 4) false ⟨1, 1, 0, 0, 0, 0⟩

/-- The translations, and in a layer body the hulls, of the corner instances lie in the s32 range (R124). -/
def placeRange (p : Content) (g : Geo) : Bool :=
  match g with
  | .prim .. => true
  | .place c o tx ty _ _ st =>
    (cornerXY tx ty st).all fun t =>
      inS32 t.1 && inS32 t.2 &&
        (p.state != .layer ||
          match Kv.get p.cells c with
          | none => true
          | some d => (d.hull.map o t.1 t.2).inS32)

/-- Fields of a POLY record lie in range (R73, R74). DESIGN CHOICE, log entry 58: a FIRST, TOTAL or MATERIAL that breaks
R74 is a RANGE fault. -/
def polyRange (p : Content) (b : List Byte) : Bool :=
  let total := rd b 10 2
  let first := rd b 12 2
  let n := rd b 14 2
  3 ≤ total && 1 ≤ n && n ≤ 65532 && first + n ≤ total && (recMore b || first + n == total) &&
  match p.cont with
  | some (.poly m eo t v _) => m == rd b 8 1 && eo == recFlag2 b && t == total && v.length == first
  | _ => first == 0

/-- Fields of a PATCH record lie in range, and the whole patch decodes (R79, R80, R560). DESIGN CHOICE, log entry 58: a
wrong OFFSET or sum of HERE_BYTES is a RANGE fault; pad bits of rows and padding of DATA count as reserved. -/
def patchRange (p : Content) (minor : Nat) (b : List Byte) : Bool :=
  match p.cont with
  | some (.patch _ bpp w h _ _ _ _ raw total data _) =>
    let here := rd b 12 4
    let all := data ++ (b.drop 16).take here
    rd b 8 4 == data.length && raw == recFlag2 b && all.length ≤ total &&
    (recMore b || (all.length == total &&
      match patchImage raw bpp w h all with
      | some img => minor != 0 || patchPads bpp w h img
      | none => false)) && (minor != 0 || padOk b (16 + here))
  | _ =>
    let bpp := rd b 9 1
    let w := rd b 10 2
    let h := rd b 12 2
    let px := rd b 24 4
    let py := rd b 28 4
    let total := rd b 32 4
    let here := rd b 36 4
    let data := (b.drop 40).take here
    bpp ≤ 3 && 1 ≤ w && 1 ≤ h && 1 ≤ px && px ≤ 16777215 && 1 ≤ py && py ≤ 16777215 && here ≤ total &&
    (!recFlag2 b || total == patchRaw bpp w h) &&
    (recMore b || (here == total &&
      match patchImage (recFlag2 b) bpp w h data with
      | some img => minor != 0 || patchPads bpp w h img
      | none => false)) &&
    (minor != 0 || padOk b (40 + here)) &&
    (p.state != .layer ||
      (Prim.patch (2 ^ bpp) w h (rdS b 16 4) (rdS b 20 4) px py []).extent.inS32)

/-- Fields of a FIELD record lie in range (R90). Its zero padding counts as reserved bytes do (R108, R111), which neither rule
says (DESIGN CHOICE, log entry 58). -/
def fieldRange (p : Content) (minor : Nat) (b : List Byte) : Bool :=
  match p.cont with
  | some (.field _ f) =>
    let n := rd b 12 4
    rd b 8 4 == f.val.length && 1 ≤ n && n ≤ 262128 && f.val.length + n ≤ f.nx * f.ny &&
    (recMore b || f.val.length + n == f.nx * f.ny) && (minor != 0 || padOk b (16 + 2 * n))
  | _ =>
    let nx := rd b 12 2
    let ny := rd b 14 2
    let gx := rd b 24 4
    let gy := rd b 28 4
    let n := rd b 36 4
    1 ≤ nx && nx ≤ 4096 && 1 ≤ ny && ny ≤ 4096 && 1 ≤ gx && gx ≤ 16777215 && 1 ≤ gy && gy ≤ 16777215 &&
    rd b 32 4 == 0 && 1 ≤ n && n ≤ 262116 && n ≤ nx * ny && (recMore b || n == nx * ny) &&
    inS32 (rdS b 16 4 + ((nx - 1) * gx : Nat)) && inS32 (rdS b 20 4 + ((ny - 1) * gy : Nat)) &&
    (minor != 0 || padOk b (40 + 2 * n))

/-- Swath entry `i` of a SWATHPLAN record (R94). -/
def swathAt (b : List Byte) (i : Nat) : SwathEntry :=
  let o := 16 + 32 * i
  ⟨rd b o 2, bit (rd b (o + 2) 1) 0, rd b (o + 4) 2, rd b (o + 6) 2, rdS b (o + 8) 4, rdS b (o + 12) 4,
    rd b (o + 16) 4, rd b (o + 20) 4, rd b (o + 24) 4⟩

/-- Fields of a SWATHPLAN record lie in range (R93 to R95). -/
def planRange (pitch minor : Nat) (b : List Byte) : Bool :=
  let n := rd b 8 2
  1 ≤ n && n ≤ 4096 && (minor != 0 || zeros b 10 6) &&
  (List.range n).all fun i =>
    let e := swathAt b i
    let o := 16 + 32 * i
    e.swath == i && 1 ≤ e.lines && e.rateReq ≤ 200000 &&
    inS32 (e.yOrigin + ((e.lines - 1) * pitch : Nat)) &&
    (minor != 0 || (rd b (o + 2) 1 < 2 && zeros b (o + 3) 1 && zeros b (o + 28) 4))

/-- The cell ID at byte 8 is below CELL_COUNT (R59). -/
def idOk (p : Content) (b : List Byte) : Bool :=
  match p.job with
  | some j => rd b 8 4 < j.cellCount
  | none => rd b 8 4 < 1048576

/-- Every field lies in its range and, under ZLS_MINOR 0, every reserved bit is 0 (R108, R111). `pitch` is
the job's line pitch. The zero padding of DOSECURVE and KERNEL counts as reserved bytes do, which neither rule says (DESIGN
CHOICE, log entry 58). -/
def rangeOk (p : Content) (minor pitch : Nat) (c : Nat) (b : List Byte) : Bool :=
  let r0 := fun off n => minor != 0 || zeros b off n
  flagsOk c b &&
  if isExt c then true
  else if c = typeJob then
    (rd b 10 2 == 0 || (200 ≤ rd b 10 2 && rd b 10 2 ≤ 50000)) && 1 ≤ rd b 12 4 && rd b 12 4 ≤ 16777215 &&
    rd b 24 4 ≤ 1048576 && (rd b 9 1 != 0 || zeros b 28 4)
  else if c = typeLayer then
    (match p.lastLayer with
     | some q => q < rd b 8 4
     | none => true)
  else if c = typeMaterial then
    rd b 8 1 ≤ 15 && rd b 9 1 ≤ 1 && rd b 12 1 ≤ 15 && (rd b 14 2 ≤ 0x3FF || rd b 14 2 == 0xFFFF) &&
    (minor != 0 || (rd b 10 1 < 64 && rd b 11 1 < 4)) && r0 13 1 && r0 24 8
  else if c = typeCurve then rd b 8 1 ≤ 15 && r0 9 7 && r0 8210 6
  else if c = typeKernel then
    let kw := rd b 9 1
    let kh := rd b 10 1
    rd b 8 1 ≤ 15 && [0, 1, 3, 5, 7].contains kw && [0, 1, 3, 5, 7].contains kh &&
    (kw == 0) == (kh == 0) && r0 11 5 && (minor != 0 || padOk b (16 + 2 * (kw * kh)))
  else if c = typeField then fieldRange p minor b && (p.cont.isSome || (rd b 8 1 ≤ 15 && r0 9 3))
  else if c = typeCellBegin then
    let ph := rd b 12 2
    idOk p b && 1 ≤ ph && ph ≤ 256 &&
    (if ph = 1 then rd b 16 4 == 0 && rd b 20 4 == 0 else 1 ≤ rd b 16 4 && rd b 16 4 ≤ 2147483647) &&
    rdS b 24 4 ≤ rdS b 32 4 && rdS b 28 4 ≤ rdS b 36 4 && r0 14 2
  else if c = typeCellEnd then idOk p b && r0 12 4
  else if c = typeLattice then
    (match p.openCell with
     | none => true
     | some o =>
       rd b 8 2 == o.sections.length && rd b 8 2 < o.phases && rd b 12 4 < o.zPeriod &&
       (match o.sections.getLast? with
        | none => rd b 12 4 == 0
        | some l => l.zStart < rd b 12 4)) && r0 10 2
  else if c = typePlace then
    idOk p b && (minor != 0 || rd b 12 1 < 8) && r0 13 3 && r0 28 4 &&
    placeRange p (placeOf c b)
  else if c = typeArray then
    idOk p b && (minor != 0 || rd b 12 1 < 8) && r0 13 3 && r0 52 4 &&
    1 ≤ rd b 28 4 && rd b 28 4 ≤ 16777216 && 1 ≤ rd b 32 4 && rd b 32 4 ≤ 16777216 &&
    placeRange p (placeOf c b)
  else if c = typePoly then rd b 8 1 ≤ 15 && r0 9 1 && polyRange p b
  else if c = typeTrap then
    rd b 8 1 ≤ 15 && r0 9 3 && r0 36 4 && rdS b 12 4 ≤ rdS b 16 4 && rdS b 20 4 ≤ rdS b 24 4 &&
    rdS b 28 4 ≤ rdS b 32 4
  else if c = typeRect then
    rd b 8 1 ≤ 15 && r0 9 3 && r0 28 4 && rdS b 12 4 ≤ rdS b 20 4 && rdS b 16 4 ≤ rdS b 24 4
  else if c = typeDisc then
    rd b 8 1 ≤ 15 && r0 9 3 && r0 28 4 && rd b 20 4 ≤ 268435455 &&
    (rd b 24 4 == 0 || rd b 24 4 < rd b 20 4) &&
    (p.state != .layer || (simplePrim c b).extent.inS32)
  else if c = typePatch then
    patchRange p minor b && (p.cont.isSome || (rd b 8 1 ≤ 15 && r0 14 2))
  else if c = typeSwathplan then planRange pitch minor b
  else if c = typeCheck then r0 9 3
  else true

/-! ### References, depth, digest, bindings -/

/-- Material `m` is defined (R83). -/
def matDefined (p : Content) (m : Nat) : Bool := p.materials.any fun r => r.material == m

/-- The MATERIAL record's fields (R82). -/
def materialOf (b : List Byte) : MaterialRec :=
  ⟨rd b 8 1, rd b 9 1, rd b 10 1 % 64, rd b 11 1 % 4, rd b 12 1, rd b 14 2, rd b 16 8⟩

/-- Nothing undefined is named and nothing is defined twice (R111 REFERENCE). -/
def refOk (p : Content) (c : Nat) (b : List Byte) : Bool :=
  if isPrim c then p.cont.isSome || matDefined p (rd b 8 1)
  else if c = typeMaterial then
    !p.materials.any fun r => r.material == rd b 8 1 && r.node == rd b 14 2
  else if c = typeCurve ∨ c = typeKernel then matDefined p (rd b 8 1)
  else if c = typeField then
    p.cont.isSome || (matDefined p (rd b 8 1) &&
      match p.openLayer with
      | some l => !l.fields.any fun f => f.1 == rd b 8 1
      | none => true)
  else if c = typeCellBegin then (Kv.get p.cells (rd b 8 4)).isNone
  else if c = typeCellEnd then
    (match p.openCell with
     | some o => o.id == rd b 8 4
     | none => true)
  else if c = typePlace ∨ c = typeArray then (Kv.get p.cells (rd b 8 4)).isSome
  else if c = typeSwathplan then
    (List.range (rd b 8 2)).all fun i => (List.range 16).all fun m =>
      !bit (swathAt b i).materialMask m || matDefined p m
  else true

/-- The digest of R103 over the covered bytes. -/
def digestOf (layerSeq scope : Nat) (covered : List Byte) : Nat :=
  Crc.crc64 (toLE 4 layerSeq ++ toLE 4 scope ++ covered)

/-- LAYER_SEQ that a CHECK is held to (R102). -/
def checkLayer (p : Content) (b : List Byte) : Nat :=
  let scope := rd b 8 1
  if scope = 1 then (p.openLayer.map (·.seq)).getD 0 else if scope = 2 then p.lastClosed else 0

/-- A CHECK's covered bytes, as a block of the ZLS_DIGEST point (R540). -/
def digestBlock (p : Content) (b : List Byte) : SnoopBlock :=
  let layer := checkLayer p b
  ⟨pointDigest, 0, toLE 4 layer ++ toLE 4 (rd b 8 1), p.covered, rd b 24 8, p.ofs - p.covered.length,
    layer, recSeq b⟩

/-- The units that snoop the covered bytes take them as a CHECK ends them (R540, R542). -/
def State.snoopDigest (s : State) (p : Content) (b : List Byte) : State :=
  s.snoopBy (if p.covered.isEmpty then s.snoopersOf pointDigest 0 else p.snoopers) (digestBlock p b)

/-- A CHECK agrees with what was received (R102, R103). -/
def digestOk (p : Content) (b : List Byte) : Bool :=
  let scope := rd b 8 1
  let layer := checkLayer p b
  let first := match p.lastCheck with
    | some q => (q + 1) % 2 ^ 32
    | none => 0
  rd b 12 4 == layer && rd b 16 4 == first &&
  rd b 20 4 == (recSeq b + 2 ^ 32 - first) % 2 ^ 32 &&
  rd b 24 8 == digestOf layer scope p.covered

/-- No head port of the module is bound to more than one material (R83). -/
def portsDisjoint (ms : List MaterialRec) (node : Nat) : Bool :=
  (List.range 6).all fun q =>
    (((List.range 16).filterMap (appliedMaterial ms node)).filter fun r => bit r.portMask q).length ≤ 1

/-- A MATERIAL record keeps R83. DESIGN CHOICE, log entry 58: judged at each MATERIAL record, on the records so far. -/
def materialOk (p : Content) (node : Nat) (r : MaterialRec) : Bool :=
  (p.materials.all fun x => x.material != r.material ||
    (x.cls == r.cls && x.codeBits == r.codeBits && x.waveSet == r.waveSet && x.tag == r.tag)) &&
  portsDisjoint (p.materials ++ [r]) node

/-- The heads of port `p` fit material `r` (R84, R310). -/
def State.headsFit (s : State) (r : MaterialRec) (p : Nat) : Bool :=
  (List.range (s.portHeads p)).all fun h =>
    s.headPresent p h && s.ident p h 6 1 == r.cls && codeWidth r ≤ s.ident p h 22 1

/-- Every beam of the map in force has its head present, with that many beams (R238). -/
def State.beamsFit (s : State) : Bool :=
  (List.range (hdrNbeam s.bmap)).all fun b =>
    let e := beamE s.bmap b
    s.headPresent e.port e.head && decide (e.index < s.ident e.port e.head 16 4)

/-- The binding check of R84 and R238: passed, waiting for head links, or failed. -/
inductive Binding where
  | ok | wait | fail
  deriving DecidableEq, Repr

/-- The binding check (R84, R238, R313). The ports whose links must be ready are the bound ones and those that hold a beam
of the map. -/
def State.binding (s : State) (ms : List MaterialRec) : Binding :=
  let bound := (List.range 6).filterMap fun p => (portMaterial ms s.node p).map fun r => (p, r)
  let ports := (List.range 6).filter fun p => (bound.any fun x => x.1 == p) || portBeams s.bmap p != 0
  if !s.flag Reg.BM_STATUS Fld.BM_STATUS_VALID then .fail
  else if ports.any fun p => s.portState p == 0 || s.portState p == 7 then .fail
  else if ports.any fun p => s.portState p != 6 then .wait
  else if s.beamsFit && bound.all fun x => s.headsFit x.2 x.1 && !s.waveLong x.2 then .ok else .fail

/-! ### What an accepted record does -/

/-- A body record joins the open cell or layer (R54). -/
def Content.addGeo (p : Content) (g : Geo) : Content :=
  match p.openCell with
  | some o =>
    let ss := match o.sections.reverse with
      | [] => [⟨0, [g], 0⟩]
      | l :: t => ({ l with body := l.body ++ [g] } :: t).reverse
    { p with openCell := some { o with sections := ss } }
  | none =>
    match p.openLayer with
    | some l => { p with openLayer := some { l with geom := l.geom ++ [g] } }
    | none => p

/-- `n` bytes of a record written at `addr`, in the open cell, the open layer or between (R123, R125). -/
def Content.addBytes (p : Content) (addr n : Nat) : Content :=
  match p.openCell with
  | some o =>
    let ss := match o.sections.reverse with
      | [] => []
      | l :: t => ({ l with bytes := l.bytes + n } :: t).reverse
    { p with cellBytes := p.cellBytes + n
             openCell := some { o with sections := ss, bytes := o.bytes + n } }
  | none =>
    match p.openLayer with
    | some l => { p with openLayer := some { l with bytes := l.bytes + n, recs := addStretch l.recs addr n } }
    | none => { p with cellBytes := p.cellBytes + n }

/-- The content before the first record of a job. -/
def Content.fresh : Content :=
  ⟨.idle, false, 0, 0, none, [], [], [], [], none, none, none, none, 0, false, none, [], [], 0, 0⟩

/-- The content after an accepted JOB (R58). -/
def startJob (no : Nat) (b : List Byte) : Content :=
  let n := rd b 24 4
  { Content.fresh with
    state := .prologue
    job := some ⟨rd b 9 1, if rd b 10 2 = 0 then 2000 else rd b 10 2, rd b 12 4, rd b 16 8, n, no⟩
    cellBytes := 64 * n }

/-- A POLY record's effect (R73, R74); it is written at `addr`. -/
def takePoly (p : Content) (addr : Nat) (b : List Byte) : Content :=
  let (v, first) := match p.cont with
    | some (.poly _ _ _ v a) => (v ++ polyVerts b, a)
    | _ => (polyVerts b, addr)
  if recMore b then { p with cont := some (.poly (rd b 8 1) (recFlag2 b) (rd b 10 2) v first) }
  else ({ p with cont := none }).addGeo (.prim (rd b 8 1) (.poly (recFlag2 b) v) first)

/-- A PATCH record's effect (R79, R80); it is written at `addr`. -/
def takePatch (p : Content) (addr : Nat) (b : List Byte) : Content :=
  let k := match p.cont with
    | some (.patch m bpp w h x y px py raw total data a) =>
      (m, bpp, w, h, x, y, px, py, raw, total, data ++ (b.drop 16).take (rd b 12 4), a)
    | _ => (rd b 8 1, rd b 9 1, rd b 10 2, rd b 12 2, rdS b 16 4, rdS b 20 4, rd b 24 4, rd b 28 4,
        recFlag2 b, rd b 32 4, (b.drop 40).take (rd b 36 4), addr)
  match k with
  | (m, bpp, w, h, x, y, px, py, raw, total, data, first) =>
    if recMore b then { p with cont := some (.patch m bpp w h x y px py raw total data first) }
    else ({ p with cont := none }).addGeo
      (.prim m (.patch (2 ^ bpp) w h x y px py ((patchImage raw bpp w h data).getD [])) first)

/-- A FIELD record's effect (R90). -/
def takeField (p : Content) (b : List Byte) : Content :=
  let vals := fun off n => (List.range n).map fun i => rd b (off + 2 * i) 2
  let (m, f) := match p.cont with
    | some (.field m f) => (m, { f with val := f.val ++ vals 16 (rd b 12 4) })
    | _ => (rd b 8 1, ⟨rd b 12 2, rd b 14 2, rdS b 16 4, rdS b 20 4, rd b 24 4, rd b 28 4,
        vals 40 (rd b 36 4)⟩)
  if recMore b then { p with cont := some (.field m f) }
  else match p.openLayer with
    | some l => { p with cont := none, openLayer := some { l with fields := l.fields ++ [(m, f)] } }
    | none => { p with cont := none }

/-- A CELL_END closes the open cell (R62, R63, R65, R123). Its phase table is placed after the CELL_END
record, as log entry 21 says. -/
def takeCellEnd (p : Content) : Content :=
  match p.openCell with
  | none => p
  | some o =>
    let ss := if o.phases = 1 ∧ o.sections.isEmpty then [⟨0, [], 0⟩] else o.sections
    let c : Cell := ⟨o.phases, o.zPeriod, o.zOrigin, o.box, cellHeight p.cells ss,
      cellHull p.cells o.box ss,
      p.cellBytes + 48 - o.bytes, o.bytes - 48, p.cellBytes + 24, ss⟩
    { p with
      openCell := none
      cellBytes := p.cellBytes + if o.phases = 1 then 0 else 8 * o.phases
      state := if p.cellFromBetween then .between else .prologue
      cells := Kv.set p.cells o.id c }

/-- The effect on the content of an accepted record written at `addr`, but for JOB, and for CHECK's closing of a layer
(R54 to R101). -/
def takeRecord (p : Content) (addr c : Nat) (b : List Byte) : Content :=
  if isExt c then { p with cont := if recMore b then some (.ext c) else none }
  else if c = typeLayer then
    match p.job with
    | none => p
    | some j =>
      { p with
        state := .layer
        lastLayer := some (rd b 8 4)
        openLayer := some ⟨rd b 8 4, rdS b 12 4, j, .fields, [], [], 0, [], p.curves, p.kernels,
          p.materials, p.cells, 0, false, 0, 0, [], 1⟩ }
  else if c = typeMaterial then { p with materials := p.materials ++ [materialOf b] }
  else if c = typeCurve then
    let v := (List.range 4097).map fun i => rd b (16 + 2 * i) 2
    { p with curves := Kv.set p.curves (rd b 8 1) v }
  else if c = typeKernel then
    let kw := rd b 9 1
    let kh := rd b 10 1
    let k : Kernel := ⟨kw, kh, (List.range (kw * kh)).map fun i => rdS b (16 + 2 * i) 2⟩
    { p with kernels :=
        if kw = 0 then Kv.del p.kernels (rd b 8 1) else Kv.set p.kernels (rd b 8 1) k }
  else if c = typeField then takeField p b
  else if c = typeCellBegin then
    { p with
      cellFromBetween := p.state == .between
      state := .cell
      openCell := some ⟨rd b 8 4, rd b 12 2, rd b 16 4, rdS b 20 4,
        ⟨rdS b 24 4, rdS b 28 4, rdS b 32 4, rdS b 36 4⟩, [], 0⟩ }
  else if c = typeCellEnd then takeCellEnd p
  else if c = typePoly then takePoly p addr b
  else if c = typePatch then takePatch p addr b
  else if c = typeTrap ∨ c = typeRect ∨ c = typeDisc then p.addGeo (.prim (rd b 8 1) (simplePrim c b) addr)
  else if c = typePlace ∨ c = typeArray then p.addGeo (placeOf c b)
  else if c = typeLattice then
    match p.openCell with
    | some o => { p with openCell := some { o with sections := o.sections ++ [⟨rd b 12 4, [], 0⟩] } }
    | none => p
  else if c = typeSwathplan then
    match p.openLayer with
    | some l => { p with openLayer := some { l with
        stage := .geometry
        plan := (List.range (rd b 8 2)).map (swathAt b)
        planCrc := rd b (8 * recLen b - 8) 4 } }
    | none => p
  else if c = typeEnd then { p with state := .ended, cellBytes := 0 }
  else p

/-! ### The parser's registers -/

/-- STATE codes of R118. -/
def ParserState.code : ParserState → Nat
  | .idle => 0 | .prologue => 1 | .cell => 2 | .layer => 3 | .between => 4 | .ended => 5
  | .halted => 6 | .hunt => 7

/-- EXP_ZLS_STATUS.STATE and HEADS_WAIT show the parser (R118). -/
def State.showParser (s : State) : State :=
  (s.setFld Reg.EXP_ZLS_STATUS Fld.EXP_ZLS_STATUS_STATE s.parser.cur.state.code).setFld
    Reg.EXP_ZLS_STATUS Fld.EXP_ZLS_STATUS_HEADS_WAIT (b2n s.parser.headsWait)

/-- The state with parser content `p`. -/
def State.setContent (s : State) (p : Content) : State := { s with parser := { s.parser with cur := p } }

/-- The malformed record `b` halts the parser with `cause` (R110 to R113). -/
def State.halt (s : State) (cause : Nat) (b : List Byte) : State :=
  let hunting := s.parser.cur.state == .hunt
  let whole := cause == causeVersion || cause == causeBinding || s.parser.saved.lastCheck.isNone
  let n := if hunting then 0
    else if whole then s.parser.cur.accepted else s.parser.cur.accepted - s.parser.saved.accepted
  let resume := match s.parser.saved.lastCheck with
    | some q => if whole then 0 else (q + 1) % 2 ^ 32
    | none => 0
  let ofs := s.parser.cur.ofs
  let s := (s.setFld Reg.EXP_ZLS_STATUS Fld.EXP_ZLS_STATUS_CAUSE cause).setRegN Reg.EXP_ZLS_FAULT_SEQ
    (recSeq b)
  let s := s.setPair Reg.EXP_ZLS_FAULT_OFS_LO ofs
  let s := if hunting then s else s.setRegN Reg.EXP_ZLS_RESUME_SEQ resume
  let s := s.count Reg.EXP_ZLS_WITHDRAWN n
  let s := s.logErr .stopping 7 (errCodeNone cause) unitParser (recSeq b + 2 ^ 32 * cause)
  let saved := if whole && !hunting then Content.fresh else s.parser.saved
  let s := s.undefCells (s.parser.cur.cells.filter fun x => (Kv.get saved.cells x.1).isNone)
  let s : State := { s with parser := { s.parser with
    saved := saved
    cur := { saved with state := .halted, ofs := ofs + 8 * max (recLen b) 1 } } }
  let s := if whole && !hunting then s.setFld Reg.EXP_ZLS_STATUS Fld.EXP_ZLS_STATUS_VER_NEWER 0 else s
  s.showParser

/-- A record received and never accepted (R113, R114). -/
def State.discardRecord (s : State) (b : List Byte) : State :=
  (s.count Reg.EXP_ZLS_DISCARDED 1).setContent
    { s.parser.cur with ofs := s.parser.cur.ofs + 8 * max (recLen b) 1 }

/-- The first fault of a record in the order of R111, but for the head check; 0 where there is none. -/
def State.recordFault (s : State) (p : Content) (c : Nat) (b : List Byte) : Nat :=
  let minor := if c = typeJob then rd b 9 1 else (p.job.map (·.minor)).getD 0
  let pitch := (p.job.map (·.pitch)).getD 0
  if !recCrcOk b then causeCrc
  else if !lenOk c b then causeLength
  else if recSeq b ≠ p.expSeq then causeSeq
  else if !definedTypes.contains c && !isExt c then causeType
  else if !contOk p c b || !admitted p c b then causeContext
  else if !rangeOk p minor pitch c b then causeRange
  else if !refOk p c b then causeReference
  else if c = typeCellEnd ∧ 15 < cellHeight p.cells ((p.openCell.map (·.sections)).getD []) then causeDepth
  else if c = typeCheck ∧ !digestOk p b then causeDigest
  else if c = typeJob ∧ rd b 8 1 ≠ 1 then causeVersion
  else if c = typeMaterial ∧ !materialOk p s.node (materialOf b) then causeBinding
  else 0

/-- A record waits at the head of the stream. -/
def State.hold (s : State) (c : Nat) (b : List Byte) : State :=
  { s with parser := { s.parser with held := (c, b) :: s.parser.held } }

/-- A closing CHECK accepts its layer (R105). -/
def State.acceptLayer (s : State) (l : Layer) : State :=
  let s : State := { s with
    layers := s.layers ++ [l], lpBytes := s.lpBytes + l.bytes, shown := some ⟨l.curves, l.kernels⟩ }
  s.setRegN Reg.EXP_ZLS_LAYER_SEQ l.seq

/-- The record is written into the layer program region at `addr`, with the directory entry and the phase table that
a CELL_END completes; a JOB leaves no cell defined (R123). -/
def State.storeRecord (s : State) (q : Content) (addr c : Nat) (b : List Byte) : State :=
  let s := s.store 1 addr b
  if c = typeJob then s.clearMem s.lpBase (64 * rd b 24 4)
  else if c = typeCellEnd then
    match Kv.get q.cells (rd b 8 4) with
    | some d => s.putCell (rd b 8 4) d
    | none => s
  else s

/-- The record is accepted and written at `addr` (R54 to R109, R123): the content and the registers that show it. -/
def State.acceptRecord (s : State) (p : Content) (addr c : Nat) (b : List Byte) : State :=
  let q := if c = typeJob then startJob s.parser.jobs b else takeRecord p addr c b
  let q := if c = typeEnd then q else q.addBytes addr b.length
  let s := s.storeRecord q addr c b
  let q := { q with
    expSeq := (recSeq b + 1) % 2 ^ 32
    ofs := (if c = typeJob then 0 else p.ofs) + b.length
    covered := if c = typeCheck then [] else q.covered ++ b
    snoopers := if q.covered.isEmpty then s.snoopersOf pointDigest 0 else q.snoopers
    lastWasCheck := if isExt c then q.lastWasCheck else c == typeCheck
    accepted := q.accepted + 1 }
  let s := s.setRegN Reg.EXP_ZLS_LAST_SEQ (recSeq b)
  let s := if c = typeCheck then s.snoopDigest p b else s
  let s := if isExt c then s.count Reg.EXP_ZLS_SKIPPED 1 else s
  if c = typeJob then
    let s : State := { s with parser := { s.parser with saved := Content.fresh, jobs := s.parser.jobs + 1 } }
    let s := (s.setRegN Reg.EXP_ZLS_SKIPPED 0).setFld Reg.EXP_ZLS_STATUS Fld.EXP_ZLS_STATUS_VER_NEWER
      (b2n (rd b 9 1 != 0))
    (s.setContent q).leadInForce
  else if c = typeCheck then
    let q := { q with lastCheck := some (recSeq b) }
    let (s, q) := match rd b 8 1, q.openLayer with
      | 1, some l =>
        (s.acceptLayer l, { q with state := .between, openLayer := none, lastClosed := l.seq })
      | _, _ => (s, q)
    { s with parser := { s.parser with cur := q, saved := q } }
  else if c = typeEnd then
    (s.setFld Reg.EXP_ZLS_STATUS Fld.EXP_ZLS_STATUS_VER_NEWER 0).setContent q
  else s.setContent q

/-- A record at its place in the stream, with content `p`: it halts the parser, waits, or is accepted. -/
def State.takeOrHalt (s : State) (p : Content) (c : Nat) (b : List Byte) : State :=
  let cause := s.recordFault p c b
  if cause ≠ 0 then (if cause = causeDigest then s.snoopDigest p b else s).halt cause b
  else
    match (if c = typeLayer ∧ p.lastLayer = none then s.binding p.materials else .ok) with
    | .fail => s.halt causeBinding b
    | .wait => ({ s.hold c b with parser := { (s.hold c b).parser with headsWait := true } }).showParser
    | .ok =>
      match s.lpPlace p c b with
      | none =>
        let s := (s.hold c b).event Reg.EXP_EVENT Fld.EXP_EVENT_LP_STALL
        ({ s with parser := { s.parser with lpStall := true } }).lpFullCheck
      | some addr => (s.acceptRecord p addr c b).showParser

/-- One record, the parser not waiting (R110 to R114). DESIGN CHOICE, log entry 58: in HUNT for SEQ 0 an extension record
of that SEQ is taken, as R109 takes it in any context, and leaves the parser in IDLE. -/
def State.parseRecord (s : State) (c : Nat) (b : List Byte) : State :=
  let p := s.parser.cur
  match p.state with
  | .halted => s.discardRecord b
  | .hunt =>
    if recLen b < 2 then s.halt causeLength b
    else if !recCrcOk b then s.halt causeCrc b
    else if !lenOk c b then s.halt causeLength b
    else if recSeq b ≠ s.regN Reg.EXP_ZLS_RESUME_SEQ then s.discardRecord b
    else (s.setContent s.parser.saved).takeOrHalt s.parser.saved c b
  | .idle | .ended =>
    if c ≠ typeJob ∨ recSeq b ≠ 0 then s.discardRecord b
    else
      let p := Content.fresh
      let s : State := { s with parser := { s.parser with cur := p, saved := p } }
      if recLen b < 2 then s.halt causeLength b else s.takeOrHalt p c b
  | _ => if recLen b < 2 then s.halt causeLength b else s.takeOrHalt p c b

/-- Records that wait are taken in order until the parser waits again. -/
def State.drain (s : State) : Nat → State
  | 0 => s
  | n + 1 =>
    if s.parser.headsWait ∨ s.parser.lpStall then s
    else match s.parser.held with
      | [] => s
      | (c, b) :: t =>
        let s : State := { s with parser := { s.parser with held := t } }
        State.drain (s.parseRecord c b) n

/-- The record that arrives, as a block of the ZLS_RECORD point (R540). -/
def State.recordBlock (s : State) (c : Nat) (b : List Byte) : SnoopBlock :=
  let n := 8 * recLen b
  let ofs := if c = typeJob then 0
    else s.parser.held.foldl (fun a x => a + x.2.length) s.parser.cur.ofs
  ⟨pointRecord, 0, [], b.take (n - 8), rd b (n - 8) 4, ofs, recSeq b, recSeq b⟩

/-- A record arrives (R110 to R126): behind those that wait, or at once. -/
def State.feed (s : State) (c : Nat) (rest : List Byte) : State :=
  let b := BitVec.ofNat 8 c :: rest
  let s := s.snoop (s.recordBlock c b)
  if s.parser.headsWait ∨ s.parser.lpStall then
    { s with parser := { s.parser with held := s.parser.held ++ [(c, b)] } }
  else s.parseRecord c b

/-- The waiting records are taken again, the cause of the wait having gone. -/
def State.retake (s : State) : State :=
  let s : State := { s with parser := { s.parser with headsWait := false, lpStall := false } }
  (s.drain (s.parser.held.length + 1)).showParser

/-! ### Commands -/

/-- JOB_RECORD (R58). -/
def execJobRecord (rest : List Byte) (s : State) : Host.Outcome State Fault Refusal :=
  .next (s.feed typeJob rest)

/-- LAYER_RECORD (R60, R84). -/
def execLayerRecord (rest : List Byte) (s : State) : Host.Outcome State Fault Refusal :=
  .next (s.feed typeLayer rest)

/-- HEADS_WAIT_END (R84): the head links that the waiting LAYER record needs are ready, or one has failed. -/
def execHeadsWaitEnd (s : State) : Host.Outcome State Fault Refusal :=
  if s.parser.headsWait then .next s.retake else .next s

/-- CELL_BEGIN (R61). -/
def execCellBegin (rest : List Byte) (s : State) : Host.Outcome State Fault Refusal :=
  .next (s.feed typeCellBegin rest)

/-- CELL_END (R62). -/
def execCellEnd (rest : List Byte) (s : State) : Host.Outcome State Fault Refusal :=
  .next (s.feed typeCellEnd rest)

/-- LATTICE (R69). -/
def execLattice (rest : List Byte) (s : State) : Host.Outcome State Fault Refusal :=
  .next (s.feed typeLattice rest)

/-- PLACE (R66). -/
def execPlace (rest : List Byte) (s : State) : Host.Outcome State Fault Refusal :=
  .next (s.feed typePlace rest)

/-- ARRAY (R67). -/
def execArray (rest : List Byte) (s : State) : Host.Outcome State Fault Refusal :=
  .next (s.feed typeArray rest)

/-- POLY (R73). -/
def execPoly (rest : List Byte) (s : State) : Host.Outcome State Fault Refusal :=
  .next (s.feed typePoly rest)

/-- TRAP (R76). -/
def execTrap (rest : List Byte) (s : State) : Host.Outcome State Fault Refusal :=
  .next (s.feed typeTrap rest)

/-- RECT (R77). -/
def execRect (rest : List Byte) (s : State) : Host.Outcome State Fault Refusal :=
  .next (s.feed typeRect rest)

/-- DISC (R78). -/
def execDisc (rest : List Byte) (s : State) : Host.Outcome State Fault Refusal :=
  .next (s.feed typeDisc rest)

/-- PATCH (R79). -/
def execPatch (rest : List Byte) (s : State) : Host.Outcome State Fault Refusal :=
  .next (s.feed typePatch rest)

/-- MATERIAL (R82). -/
def execMaterial (rest : List Byte) (s : State) : Host.Outcome State Fault Refusal :=
  .next (s.feed typeMaterial rest)

/-- DOSECURVE (R85). -/
def execDosecurve (rest : List Byte) (s : State) : Host.Outcome State Fault Refusal :=
  .next (s.feed typeCurve rest)

/-- KERNEL (R88). -/
def execKernel (rest : List Byte) (s : State) : Host.Outcome State Fault Refusal :=
  .next (s.feed typeKernel rest)

/-- FIELD (R90). -/
def execField (rest : List Byte) (s : State) : Host.Outcome State Fault Refusal :=
  .next (s.feed typeField rest)

/-- SWATHPLAN (R93). -/
def execSwathplan (rest : List Byte) (s : State) : Host.Outcome State Fault Refusal :=
  .next (s.feed typeSwathplan rest)

/-- CHECK_RECORD (R102). -/
def execCheckRecord (rest : List Byte) (s : State) : Host.Outcome State Fault Refusal :=
  .next (s.feed typeCheck rest)

/-- END_RECORD (R53). -/
def execEndRecord (rest : List Byte) (s : State) : Host.Outcome State Fault Refusal :=
  .next (s.feed typeEnd rest)

/-- EXTENSION_RECORD (R109). -/
def execExtensionRecord (sub : Fin 16) (rest : List Byte) (s : State) : Host.Outcome State Fault Refusal :=
  .next (s.feed (0x60 + sub.val) rest)

/-- UNSUPPORTED_RECORD (R111). -/
def execUnsupportedRecord (code : Byte) (rest : List Byte) (s : State) :
    Host.Outcome State Fault Refusal :=
  .next (s.feed code.toNat rest)

/-- LP_SPACE_FREED (R126). -/
def execLpSpaceFreed (s : State) : Host.Outcome State Fault Refusal :=
  if s.parser.lpStall then .next s.retake else .next s

/-- R113 (that offsets in HUNT count on from the last accepted CHECK is a DESIGN CHOICE, log entry 58): the unread stream is dropped and a HALTED parser hunts for RESUME_SEQ; in any other state the
write has no effect. -/
def State.zlsResume (s : State) : State :=
  match s.parser.cur.state with
  | .halted =>
    ({ s with parser := { s.parser with
        held := [], headsWait := false, lpStall := false
        cur := { s.parser.cur with state := .hunt, ofs := s.parser.saved.ofs } } }).showParser
  | _ => s

/-- A layer of the aborted job: none of its swaths has started, and it goes at once; or no later swath of
it starts (R115). A layer that waits behind an earlier job's layer of the same number just goes. A swath of it that is
CAPTURED, READY or ARMED is stopped as one of a stopped layer is, with STOP_CAUSE LAYER, its STOP entry and the stopping
error: R271 does not name ABORT_JOB among the layer stops (DESIGN CHOICE, log entry 58). -/
def State.abortLayer (s : State) (l : Layer) : State :=
  if (s.layer l.seq).all fun x => x.job.no != l.job.no then
    { s with
      layers := s.layers.filter fun x => !(x.seq == l.seq && x.job.no == l.job.no)
      lpBytes := s.lpBytes - l.bytes }
  else
    let ws := s.gy.swaths.filter fun w => w.layer == l.seq && !w.state.running'
    let s := s.onLayer l.seq fun l => { l with stopped := true }
    let s := ws.foldl (fun s w => s.stopOne w 5) s
    (s.dropRows fun r => r.layer == l.seq && (s.swath l.seq r.swath).isNone).layerLeave l.seq

/-- R115: the job's stream state and every layer of it not yet started are discarded. After the halt of a job of
which nothing is accepted there is no layer of it. -/
def State.abortJob (s : State) : State :=
  match s.parser.cur.state with
  | .idle => s
  | .ended => s
  | _ =>
    let held := s.parser.held
    let ls := s.layers.filter fun l => s.parser.cur.job.any fun j => j.no == l.job.no
    let s := s.undefCells s.parser.cur.cells
    let s : State := { s with parser := { s.parser with
      cur := Content.fresh, saved := Content.fresh, held := [], headsWait := false, lpStall := false } }
    let s := s.setFld Reg.EXP_ZLS_STATUS Fld.EXP_ZLS_STATUS_VER_NEWER 0
    let s := ls.foldl (fun s l => s.abortLayer l) s
    let s : State := { s with parser := { s.parser with held := held } }
    s.retake

/-- A write of EXP_ZLS_CTRL: ABORT_JOB acts before RESUME (R115, R119). -/
def State.zlsCtrl (s : State) (w : Word) : State :=
  if Fld.EXP_ZLS_CTRL_ABORT_JOB.get w = 1 then s.abortJob
  else if Fld.EXP_ZLS_CTRL_RESUME.get w = 1 then s.zlsResume
  else s

/-- ABORT_JOB (R115): `w` is the word written to EXP_ZLS_CTRL, its ABORT_JOB bit taken as 1. -/
def execAbortJob (w : Word) (s : State) : Host.Outcome State Fault Refusal :=
  .next (s.zlsCtrl (Fld.EXP_ZLS_CTRL_ABORT_JOB.put 1 w))

end Sys2Proof.Machine
end

