-- ==== Sys2Proof/Machine/Expand.lean ====
section
/-! DEFINITION. Hierarchy expansion and tile binning (R120 to R138, R146 to R154), and the cell cache. -/

namespace Sys2Proof.Machine

open Sys2Proof.Bits

/-! ### Tiles and bin boxes (R132, R164) -/

/-- The bin box of tile (c, r) for material `m` (R132). -/
def Grid.binBox (g : Grid) (l : Layer) (c r m : Nat) : Box :=
  match Kv.get l.kernels m with
  | some k => g.widen (g.tileBox c r) ((k.kw - 1) / 2) ((k.kh - 1) / 2)
  | none => g.tileBox c r

/-- Materials of the swath's mask. -/
def SwathEntry.materials (e : SwathEntry) : List Nat := (List.range 16).filter fun m => bit e.materialMask m

/-- The band of tile row `r`: the union of its tiles' bin boxes (R132). -/
def Grid.band (g : Grid) (l : Layer) (e : SwathEntry) (cols : List Nat) (r : Nat) : Option Box :=
  (cols.flatMap fun c => e.materials.map fun m => g.binBox l c r m).foldl (fun b x =>
    match b with
    | none => some x
    | some y => some (y.join x)) none

/-! ### The walk (R129 to R137) -/

/-- Array instances in rising j and then rising i (R137). -/
def Steps.insts (st : Steps) : List (Nat × Nat) :=
  (List.range st.nb).flatMap fun j => (List.range st.na).map fun i => (i, j)

/-- The context of one instance: its transform and clip, where its clipped box meets the band (R129,
R130, R133). -/
def childCtx (band : Box) (x : Xform) (d : Cell) (o : Nat) (t : Int × Int) : Option Xform :=
  let (o', tx, ty) := compose x.orient (x.tx, x.ty) o t
  match (d.box.map o' tx ty).meet x.clip with
  | none => none
  | some cl => if cl.meets band then some ⟨o', tx, ty, cl⟩ else none

/-- Primitives reached from a body, with the path of their placement context, in walk order (R137). The
depth limit of R65 bounds the walk by `fuel`. -/
def walk (cells : List (Nat × Cell)) (band : Box) :
    Nat → List Nat → Xform → Int → List Geo → List (List Nat × BinEntry)
  | 0, _, _, _, _ => []
  | fuel + 1, path, x, z, body =>
    body.zipIdx.flatMap fun gi =>
      match gi.1 with
      | .prim m p a => [(path, ⟨m, p, a, 0, x⟩)]
      | .place c o tx ty dz _ st =>
        match Kv.get cells c with
        | none => []
        | some d =>
          st.insts.flatMap fun ij =>
            match childCtx band x d o (instXY tx ty st ij.1 ij.2) with
            | none => []
            | some y =>
              match d.section? (z - dz) with
              | none => []
              | some sec => walk cells band fuel (path ++ [gi.2, ij.2, ij.1]) y (z - dz) sec.body

/-- The layer body's context (R129, R136). -/
def layerXform : Xform := ⟨0, 0, 0, wholeBox⟩

/-- A binned primitive's clipped extent (R133 rule 4). -/
def BinEntry.box (b : BinEntry) : Option Box :=
  (b.prim.extent.map b.xform.orient b.xform.tx b.xform.ty).meet b.xform.clip

/-- Placement contexts with their transforms, the layer body's first, in the order in which they contribute (R136). -/
def contexts (kept : List (List Nat × BinEntry)) : List (List Nat × Xform) :=
  kept.foldl (fun l p => if l.any fun x => x.1 == p.1 then l else l ++ [(p.1, p.2.xform)]) [([], layerXform)]

/-- Row `q` of swath entry `e` of layer `l` as unit `n` expands it: bins and transform table, no pool blocks taken
(R133 to R137). -/
def expandRow (t : List (Nat × Word)) (node : Nat) (l : Layer) (e : SwathEntry) (n : Nat) (q : RowId) : ExpandedRow :=
  let g := gridOf t l e
  let ports := usedPorts l.materials node e.materialMask
  let cols := usedTcols t ports
  match g.band l e cols q.row with
  | none => ⟨q, n, cols.map fun c => ⟨c, [], []⟩, [layerXform], [], cols⟩
  | some band =>
    let all := walk l.cells band 17 [] layerXform l.z l.geom
    let kept := all.filter fun pb => bit e.materialMask pb.2.material &&
      !(boundPorts l.materials node pb.2.material).isEmpty &&
      match pb.2.box with
      | none => false
      | some b => cols.any fun c => b.meets (g.binBox l c q.row pb.2.material)
    let cs := contexts kept
    let es := kept.map fun p => { p.2 with xf := (cs.findIdx? fun x => x.1 == p.1).getD 0 }
    ⟨q, n, cols.map fun c => ⟨c, es.filter fun x =>
      match x.box with
      | none => false
      | some b => b.meets (g.binBox l c q.row x.material), []⟩, cs.map Prod.snd, [], cols⟩

/-! ### The bin pool (R134, R138) -/

/-- Blocks of a bin: a chain of blocks of 60 entries (R134). -/
def binBlocks (n : Nat) : Nat := max 1 (divUp n 60)

/-- Pool blocks that an expanded row holds: its live bins and its transform table (R136, R138). -/
def ExpandedRow.need (x : ExpandedRow) : Nat :=
  (x.bins.foldl (fun n b => if x.live.contains b.tcol then n + binBlocks b.entries.length else n) 0) +
    divUp (32 * x.xforms.length) 1024

/-- The row as unit `n` would write it: of its tiles, those neither committed nor blanked have bins (R138). -/
def State.rowOf (s : State) (n : Nat) (q : RowId) : Option ExpandedRow :=
  match s.layer q.layer with
  | none => none
  | some l =>
    match l.entry q.swath with
    | none => none
    | some e =>
      let x := expandRow s.bmap s.node l e n q
      some { x with live := x.live.filter fun c => (s.entry ⟨q.layer, q.swath, c, q.row⟩).isNone }

/-- Blocks in use: expanded rows, and rows in the hands of units that have not stalled. -/
def State.poolUsed (s : State) : Nat :=
  (s.rows.foldl (fun n x => n + x.need) 0) +
  (s.units.foldl (fun n u =>
    match u.row with
    | some q => if u.stalled then n else n + ((s.rowOf 0 q).map (·.need)).getD 0
    | none => n) 0)

/-- Row `x` takes its blocks of the pool: first the transform table's, then each bin's in turn. -/
def State.giveBlocks (s : State) (x : ExpandedRow) : ExpandedRow :=
  let held := s.blocksHeld
  let nt := divUp (32 * x.xforms.length) 1024
  let free := takeFree held s.poolBlocks 0 x.need
  let bins := x.bins.foldl (fun a b =>
    if x.live.contains b.tcol then
      let n := binBlocks b.entries.length
      (a.1 ++ [{ b with blocks := a.2.take n }], a.2.drop n)
    else (a.1 ++ [b], a.2)) (([] : List Bin), free.drop nt)
  { x with table := free.take nt, bins := bins.1 }

/-- Row `x`, with its blocks, is written to the pool (R134 to R136). -/
def State.putRow (s : State) (x : ExpandedRow) : State :=
  let s := s.putTable x.table x.xforms
  let s := x.bins.foldl (fun s b => s.putBin x.id b.tcol b.blocks b.entries) s
  if x.live.isEmpty then s else { s with rows := s.rows ++ [x] }

/-! ### Rows in firing order (R120, R138) -/

/-- Tile rows of accepted layers' swaths not yet ended, in firing order. -/
def State.rowOrder (s : State) : List RowId :=
  s.openLayers.flatMap fun l =>
    if l.stopped then [] else
      (l.plan.zipIdx.drop l.ended).flatMap fun ei =>
        (List.range ei.1.tileRows).map fun k => ⟨l.seq, ei.2, ei.1.rowAt k⟩

/-- Tile columns of a row. -/
def State.rowCols (s : State) (q : RowId) : List Nat :=
  match s.layer q.layer with
  | none => []
  | some l => match l.entry q.swath with
    | none => []
    | some e => usedTcols s.bmap (usedPorts l.materials s.node e.materialMask)

/-- Some tile of the row is neither committed nor blanked. -/
def State.rowOpen (s : State) (q : RowId) : Bool :=
  (s.rowCols q).any fun c => (s.entry ⟨q.layer, q.swath, c, q.row⟩).isNone

/-- Unit `n` may not expand row `q`: it expanded it before and its bins failed, and a unit in service has not (R137).
Where every unit in service has, the spec names none, and any of them takes it: DESIGN CHOICE, log entry 60. -/
def State.rowBarred (s : State) (n : Nat) (q : RowId) : Bool :=
  match s.units[n]? with
  | some u => u.barred.contains q && s.units.any fun x => x.state == .inService && !x.barred.contains q
  | none => false

/-- The next tile row that unit `n` expands, within the run-ahead of EXP_CFG.AHEAD (R120, R137, R138). -/
def State.nextRow (s : State) (n : Nat) : Option RowId :=
  let openRows := s.rowOrder.filter s.rowOpen
  let ahead := max (s.fld Reg.EXP_CFG Fld.EXP_CFG_AHEAD) 1
  (openRows.take (ahead + 1)).find? fun q =>
    !(s.rows.any fun x => x.id == q) && !(s.units.any fun u => u.row == some q) && !s.rowBarred n q

/-! ### Units (R121, R122, R151) -/

/-- The state with expansion unit `n` changed by `f`. -/
def State.onUnit (s : State) (n : Nat) (f : ExpUnit → ExpUnit) : State :=
  match s.units[n]? with
  | some u => { s with units := s.units.set n (f u) }
  | none => s

/-- Units in service. -/
def State.unitsIn (s : State) : Nat := (s.units.filter fun u => u.state == .inService).length

/-- Ten seconds in TB ticks. -/
def tenSeconds : Nat := 10000000000

/-- Unit `n` leaves service after its second disagreement within 10 s, at once, and starts its return
(R121, R122). -/
def State.unitFails (s : State) (n : Nat) : State :=
  (s.onUnit n fun u => { u with
    state := .selftest, row := none, outReq := false, shadowed := 0, selftestFails := 0, stalled := false }).raise
      .degraded Reg.EXP_EVENT Fld.EXP_EVENT_UNIT_OUT 0 (unitXu n)

/-- Unit `n`'s datapaths disagree (R121): the row is expanded again from its start, or the unit leaves. -/
def State.disagree (s : State) (n : Nat) : State :=
  match s.units[n]? with
  | none => s
  | some u =>
    let s := (s.count Reg.EXP_LOCKSTEP_COUNT 1).raise .contained Reg.EXP_EVENT
      Fld.EXP_EVENT_LOCKSTEP 0 (unitXu n)
    let s := s.onUnit n fun u => { u with lastDisagree := some s.clk.ticks }
    match u.lastDisagree with
    | some t => if s.clk.ticks - t ≤ tenSeconds then s.unitFails n else s
    | none => s

/-- Unit `n`, which holds a row, finds the pool too full for it: it stalls (R138). -/
def State.poolCheck (s : State) (n : Nat) : State :=
  match s.units[n]? with
  | none => s
  | some u =>
    match u.row with
    | none => s
    | some q =>
      let free := (s.onUnit n fun u => { u with row := none }).poolUsed
      if s.poolBlocks < free + ((s.rowOf n q).map (·.need)).getD 0 then
        (s.onUnit n fun u => { u with stalled := true }).event Reg.EXP_EVENT Fld.EXP_EVENT_POOL_STALL
      else s.onUnit n fun u => { u with stalled := false }

/-- TILE_ROW_EXPAND (R120, R121, R138): unit `n` takes the next tile row; `disagreed` says that its
datapaths disagree on the way. -/
def execTileRowExpand (n : Fin 4) (disagreed : Bool) (s : State) : Host.Outcome State Fault Refusal :=
  match s.units[n.val]? with
  | none => .next s
  | some u =>
    match u.state, u.row with
    | .inService, none =>
      match s.nextRow n.val with
      | none => .next s
      | some q =>
        let s := s.onUnit n fun u => { u with row := some q }
        .next ((if disagreed then s.disagree n else s).poolCheck n)
    | .inService, some _ => .next ((if disagreed then s.disagree n else s).poolCheck n)
    | _, _ => .next s

/-- A unit in SHADOW has expanded the row alongside its owner (R122): 64 matches prove it, and it then waits for the swath
boundary; a mismatch before restarts its return. -/
def State.shadowRow (s : State) (n : Nat) (ok : Bool) : State :=
  s.onUnit n fun u =>
    match u.state with
    | .shadow => if 64 ≤ u.shadowed then u else if ok then { u with shadowed := min (u.shadowed + 1) 64 }
        else { u with state := .selftest, shadowed := 0 }
    | _ => u

/-- The survey's step estimate of a tile row (R140, R147). -/
def State.stepEstimate (s : State) (q : RowId) : Option Nat :=
  match s.surveys.find? fun v => v.layer == q.layer && v.swath == q.swath && v.done with
  | some v => v.steps[q.row]?
  | none => none

/-- TILE_ROW_EXPAND_DONE (R133 to R137, R147, R122): unit `n` completes its row in `steps` steps; the
units of `differ` that shadow it got another CRC. -/
def execTileRowExpandDone (n : Fin 4) (steps : Nat) (differ : List (Fin 4)) (s : State) :
    Host.Outcome State Fault Refusal :=
  match s.units[n.val]? with
  | none => .next s
  | some u =>
    match u.row with
    | none => .next s
    | some q =>
      if u.stalled then .next s
      else
        let s := s.onUnit n fun u => { u with row := none }
        let s : State := match s.rowOf n.val q with
          | some x => s.putRow (s.giveBlocks x)
          | none => s
        let pct := max (s.fld Reg.EXP_CFG Fld.EXP_CFG_THRASH_PCT) 1
        let s := match s.stepEstimate q with
          | some est =>
            if est * (100 + pct) < steps * 100 then
              (s.count Reg.EXP_THRASH_COUNT 1).raise .corrected Reg.EXP_EVENT Fld.EXP_EVENT_THRASH 0 (unitXu n)
            else s
          | none => s
        .next ((List.range 4).foldl (fun s k => s.shadowRow k (!(differ.map Fin.val).contains k)) s)

/-- POOL_STALL_END (R138): unit `n` continues if a freed block lets it. -/
def execPoolStallEnd (n : Fin 4) (s : State) : Host.Outcome State Fault Refusal :=
  match s.units[n.val]? with
  | some u => if u.stalled then .next (s.poolCheck n) else .next s
  | none => .next s

/-- The row's tiles that are neither committed nor blanked. -/
def State.rowUnresolved (s : State) (q : RowId) : List TileId :=
  ((s.rowCols q).map fun c => (⟨q.layer, q.swath, c, q.row⟩ : TileId)).filter fun t => (s.entry t).isNone

/-- TILE_ROW_LATE (R146): tile row `row` of the swath reaches its fire deadline unexpanded. The spec names no unit: the
record has that of the tile scheduler (DESIGN CHOICE, log entry 60). -/
def execTileRowLate (layer swath row : Nat) (s : State) : Host.Outcome State Fault Refusal :=
  let q : RowId := ⟨layer, swath, row⟩
  if (s.rows.any fun x => x.id == q) ∨ (s.rowUnresolved q).isEmpty then .next s
  else
    let s := ((s.dropRows (· == q)).count Reg.EXP_LATE_ROWS 1).raise .contained Reg.EXP_EVENT Fld.EXP_EVENT_LATE 0 unitVer
    .next ((s.rowUnresolved q).foldl (fun s t => s.blankTile t 3) s)

/-- Units of mask `m` are named by bit. -/
def unitsOf (m : Nat) : List Nat := (List.range 4).filter fun n => bit m n

/-- A write of EXP_UNIT_CTRL (R152). -/
def State.unitCtrl (s : State) (path : Path) (w : Word) : State :=
  let out := Fld.EXP_UNIT_CTRL_OUT.get w
  let ret := Fld.EXP_UNIT_CTRL_RETURN.get w
  let left := ((List.range 4).zip s.units).filter fun nu =>
    nu.2.state == .inService && !nu.2.outReq && !bit out nu.1
  let s := if out ≠ 0 ∧ left.isEmpty then s.accFlag path Reg.EXP_UNIT_CTRL .refused
    else (unitsOf out).foldl (fun s n => s.onUnit n fun u =>
      if u.state == .inService then { u with outReq := true } else u) s
  (unitsOf ret).foldl (fun s n => s.onUnit n fun u =>
    if u.state == .out && !bit (s.regN Reg.ACC_FROZEN_INT) (8 + n) then
      { u with state := .selftest, selftestFails := 0, shadowed := 0 } else u) s

/-- EXP_UNIT_OUT (R152): `w` is written to EXP_UNIT_CTRL over `path`. -/
def execExpUnitOut (path : Path) (w : Word) (s : State) : Host.Outcome State Fault Refusal :=
  .next (s.unitCtrl path w)

/-- EXP_UNIT_RETURN (R122, R152): `w` is written to EXP_UNIT_CTRL over `path`. -/
def execExpUnitReturn (path : Path) (w : Word) (s : State) : Host.Outcome State Fault Refusal :=
  .next (s.unitCtrl path w)

/-- EXP_UNIT_LEAVE (R122): at the swath boundary a unit commanded out leaves; its row goes to another. It stays OUT until
RETURN is written: R122 does not say that its return starts by itself (DESIGN CHOICE, log entry 60). -/
def execExpUnitLeave (n : Fin 4) (s : State) : Host.Outcome State Fault Refusal :=
  match s.units[n.val]? with
  | some u =>
    if u.outReq then
      .next ((s.onUnit n fun u => { u with
        state := .out, row := none, outReq := false, stalled := false }).event
          Reg.EXP_EVENT Fld.EXP_EVENT_UNIT_OUT)
    else .next s
  | none => .next s

/-- XU_SELFTEST_DONE (R122). -/
def execXuSelftestDone (n : Fin 4) (pass : Bool) (s : State) : Host.Outcome State Fault Refusal :=
  .next (s.onUnit n fun u =>
    match u.state with
    | .selftest =>
      if pass then { u with state := .shadow, shadowed := 0, selftestFails := 0 }
      else if u.selftestFails + 1 ≥ 3 then { u with state := .out, selftestFails := 3 }
      else { u with selftestFails := u.selftestFails + 1 }
    | _ => u)

/-- XU_REENTER (R122): at the swath boundary after the 64th match. -/
def execXuReenter (n : Fin 4) (s : State) : Host.Outcome State Fault Refusal :=
  .next (s.onUnit n fun u =>
    match u.state with
    | .shadow => if 64 ≤ u.shadowed then { u with state := .inService, shadowed := 0 } else u
    | _ => u)

/-- The default source of work of cluster `n`: the first unit in service of n, n XOR 1, n XOR 2, n XOR 3
(R122). -/
def State.defaultSource (s : State) (n : Nat) : Option Nat :=
  ((List.range 4).map fun k => n ^^^ k).find? fun u =>
    match s.units[u]? with
    | some x => x.state == .inService
    | none => false

/-- Codes of R151. -/
def UnitState.code : UnitState → Nat
  | .inService => 0 | .out => 1 | .selftest => 2 | .shadow => 3

/-- EXP_UNIT_STATUS (R151). -/
def State.unitStatus (s : State) : Nat :=
  sumBelow 4 fun n =>
    match s.units[n]? with
    | none => 0
    | some u =>
      let dual := (List.range 4).any fun c => c != n && s.defaultSource c == some n
      2 ^ (8 * n) * (u.state.code + 8 * b2n dual + 16 * (u.shadowed / 8))

/-! ### The cell cache (R127, R128) -/

/-- The set of a line: 6,144 sets of 16 ways (R127). -/
def cacheSet (line : Nat) : Nat := line % 6144

/-- Distinct elements, first occurrences kept. -/
def dedup (l : List Nat) : List Nat := (l.foldl (fun a x => if a.contains x then a else x :: a) []).reverse

/-- Line numbers of `n` bytes at address `a` (R127). -/
def linesOf (a n : Nat) : List Nat :=
  if n = 0 then [] else (List.range ((a + n - 1) / 256 - a / 256 + 1)).map fun i => a / 256 + i

/-- Every line of a cell: directory entry, phase table and body (R127, R128). -/
def wholeLines (base : Nat) (id : Nat) (c : Cell) : List Nat :=
  dedup (linesOf (base + 64 * id) 64 ++ linesOf (base + c.bodyAddr) c.bodyLen ++
    (if c.phases ≤ 1 then [] else linesOf (base + c.phaseAddr) (8 * c.phases)))

/-- The cell cache holds line `line`: it has data of a cell of the stream or of a layer in flight. Layer-body records are not
cached (R127). -/
def State.cellLine (s : State) (line : Nat) : Bool :=
  (s.parser.cur.cells ++ s.layers.flatMap (·.cells)).any fun c => (wholeLines s.lpBase c.1 c.2).contains line

/-- A line is used: it moves to the end of the list (R128). -/
def touch (l : List Nat) (a : Nat) : List Nat :=
  if l.contains a then (l.filter (· != a)) ++ [a] else l

/-- Line `line` is read from the cell cache with what a flip mask has left there: a line found uncorrectable is fetched from
DRAM again (R128, R512, R516). -/
def State.cacheRead (s : State) (line : Nat) : State :=
  let x := sramEcc (s.flipAt sramCellCache line) .clean
  let s := s.sramRead sramCellCache line x
  if x = .uncorrectable then (s.fetch 1 (256 * line) 256).2.2.unflip sramCellCache line else s

/-- CELL_CACHE_FILL (R127, R128): the cell line at DRAM line number `line` missed and is filled, replacing the
least recently used unpinned way of a full set. Other lines are read past the cache. `hits` are the lines used since the last fill. `ecc` says how the SRAM read of `row` went: the line of an
uncorrectable word is refetched here (R516). -/
def execCellCacheFill (line : Nat) (hits : List Nat) (row : Nat) (ecc : Ecc) (s : State) :
    Host.Outcome State Fault Refusal :=
  if ¬ s.cellLine line then .next s else
  let c := hits.foldl touch s.cache
  let s := hits.foldl (fun s l => s.cacheRead l) s
  let s := s.countPair Reg.EXP_MISS_LO 1
  let s := s.sramRead sramCellCache row ecc
  let c := c.filter (· != line)
  let same := c.filter fun x => cacheSet x == cacheSet line
  let c := if same.length < 16 then c
    else match same.find? fun x => !s.pins.contains x with
      | some v => c.filter (· != v)
      | none => c
  let s := s.flipHit 2 0 sramCellCache line
  .next { s with cache := c ++ [line] }

end Sys2Proof.Machine
end

