-- ==== Sys2Proof/Machine/Survey.lean ====
section
/-! DEFINITION. The density survey (R34, R139 to R145, R253) and the pins it sets (R128). -/

namespace Sys2Proof.Machine

open Sys2Proof.Bits

/-! ### The survey's walk (R139, R140) -/

/-- What the survey meets in a tile row. -/
inductive SurveyItem where
  /-- Steps of a record, a solved row, an instance or a primitive. -/
  | steps (n : Nat)
  /-- A primitive counted, with the box whose tile columns its bin writes count. -/
  | prim (p : Prim) (x : Xform) (box : Box)
  /-- An instance of a cell reached, with the section that the walk reads. -/
  | cell (id section_ : Nat)
  deriving DecidableEq, Repr

/-- Steps of a primitive (R140). -/
def primSteps : Prim → Nat
  | .poly _ v => 2 + divUp v.length 4
  | .patch .. => 4
  | _ => 2

/-- The section index that a cell selects (R71). -/
def Cell.sectionIdx (c : Cell) (zEff : Int) : Nat :=
  if c.phases ≤ 1 then 0 else selectSection zEff c.zOrigin c.zPeriod (c.sections.map (·.zStart))

/-- The items of a body in a context; `inst` is the clipped box of the instance it belongs to, none in the
layer body (R140). -/
def surveyWalk (cells : List (Nat × Cell)) (band : Box) :
    Nat → Option Box → Xform → Int → List Geo → List SurveyItem
  | 0, _, _, _, _ => []
  | fuel + 1, inst, x, z, body =>
    body.flatMap fun g =>
      match g with
      | .prim _ p _ =>
        match inst with
        | some b => [.steps (primSteps p), .prim p x b]
        | none =>
          if p.extent.meets band then [.steps (primSteps p), .prim p x p.extent] else []
      | .place c o tx ty dz arr st =>
        match Kv.get cells c with
        | none => [.steps 2]
        | some d =>
          let ctx := fun (ij : Nat × Nat) => childCtx band x d o (instXY tx ty st ij.1 ij.2)
          let rows := if arr then
              ((List.range st.nb).filter fun j => (List.range st.na).any fun i => (ctx (i, j)).isSome).length
            else 0
          [.steps 2, .steps rows] ++ st.insts.flatMap fun ij =>
            match ctx ij with
            | none => []
            | some y =>
              let sub := match d.section? (z - dz) with
                | none => []
                | some sec => surveyWalk cells band fuel (some y.clip) y (z - dz) sec.body
              [.steps 2, .cell c (d.sectionIdx (z - dz))] ++ sub

/-- The items of tile row `r`. -/
def surveyItems (t : List (Nat × Word)) (node : Nat) (l : Layer) (e : SwathEntry) (r : Nat) :
    List SurveyItem :=
  match (gridOf t l e).band l e (usedTcols t (usedPorts l.materials node e.materialMask)) r with
  | none => []
  | some band => surveyWalk l.cells band 17 none layerXform l.z l.geom

/-- A box spans tile column `c` of tile row `r` (R140). DEDUCED, log entry 78: along x it meets the union of the
tile's bin boxes, so that no write of R133 is left out of the estimate, which R140 calls an upper bound. -/
def Grid.spans (g : Grid) (l : Layer) (e : SwathEntry) (r : Nat) (b : Box) (c : Nat) : Bool :=
  match g.band l e [c] r with
  | none => false
  | some t => decide (t.xmin ≤ b.xmax) && decide (b.xmin ≤ t.xmax)

/-- Lines of a cell that a row needs when the walk reads section `k` of it (R140). -/
def cellLines (base : Nat) (id : Nat) (c : Cell) (k : Nat) : List Nat :=
  let dir := linesOf (base + 64 * id) 64
  if c.phases ≤ 1 then dir ++ linesOf (base + c.bodyAddr) c.bodyLen
  else
    let before := (c.sections.take k).foldl (fun n s => n + s.bytes) 0
    let here := ((c.sections[k]?).map (·.bytes)).getD 0
    dir ++ linesOf (base + c.phaseAddr) (8 * c.phases) ++
      linesOf (base + c.bodyAddr + before + 24) (here - 24)

/-- Cells with the number of tile rows the survey found each in (R128). -/
def cellRowCounts (items : List (List SurveyItem)) : List (Nat × Nat) :=
  items.foldl (fun acc row =>
    (dedup (row.filterMap fun i => match i with
      | .cell c _ => some c
      | _ => none)).foldl (fun a c => Kv.set a c (Kv.getD a c 0 + 1)) acc) []

/-- Insertion into an order: falling row count, then ascending cell (R128). -/
def insertPin (x : Nat × Nat) (l : List (Nat × Nat)) : List (Nat × Nat) :=
  insertBefore (fun x y => decide (y.2 < x.2 ∨ (y.2 = x.2 ∧ x.1 < y.1))) x l

/-- The lines pinned for a swath (R128): cells in more than 16 tile rows, whole, within PIN_MIB and at most
8 pinned ways of a set. -/
def pinLines (base limit : Nat) (cells : List (Nat × Cell)) (counts : List (Nat × Nat)) : List Nat :=
  ((counts.filter fun x => 16 < x.2).foldl (fun l x => insertPin x l) []).foldl (fun pins x =>
    match Kv.get cells x.1 with
    | none => pins
    | some c =>
      let new := pins ++ (wholeLines base x.1 c).filter fun a => !pins.contains a
      let crowded := new.any fun a => 8 < (new.filter fun b => cacheSet b == cacheSet a).length
      if limit < 256 * new.length ∨ crowded then pins else new) []

/-- The pin limit in bytes (R150). -/
def State.pinLimit (s : State) : Nat := min (s.fld Reg.EXP_CFG Fld.EXP_CFG_PIN_MIB) 12 * 2 ^ 20

/-- Steps of a tile row but for cache lines, and the distinct unpinned lines it needs (R140). -/
def rowSteps (g : Grid) (l : Layer) (e : SwathEntry) (cols : List Nat) (r base : Nat) (pins : List Nat)
    (items : List SurveyItem) : Nat × Nat :=
  let s := items.foldl (fun n i =>
    match i with
    | .steps k => n + k
    | .prim _ _ b => n + (cols.filter (g.spans l e r b)).length
    | .cell _ _ => n) 0
  let lines := dedup (items.flatMap fun i =>
    match i with
    | .cell id k => match Kv.get l.cells id with
      | some c => cellLines base id c k
      | none => []
    | _ => [])
  (s, (lines.filter fun a => !pins.contains a).length)

/-! ### Raster clocks (R141) -/

/-- Some used port runs a kernel in the layer (R34, R141). -/
def swathKernel (node : Nat) (l : Layer) (ports : List Nat) : Bool :=
  ports.any fun p => match portMaterial l.materials node p with
    | some m => (Kv.get l.kernels m.material).isSome
    | none => false

/-- A tile column holds a column whose material has a kernel (R160). -/
def tileKernel (t : List (Nat × Word)) (node : Nat) (l : Layer) (ports : List Nat) (c : Nat) : Bool :=
  swathKernel node l (ports.filter fun p =>
    hdrCols t p != 0 && hdrFirst t p < 2048 * (c + 1) && 2048 * c < hdrFirst t p + hdrCols t p)

/-- Clocks of tile (c, r) (R141). The spec says neither which box `the tile's box` of a PATCH is nor whether the clip cuts
its rectangles: the tile's layout box, widened by one pitch, and no clip (DESIGN CHOICE, log entry 60). -/
def tileClocks (g : Grid) (l : Layer) (e : SwathEntry) (r : Nat) (swK tileK : Bool) (items : List SurveyItem)
    (c : Nat) : Nat :=
  let base := if swK ∧ tileK then 2 ^ 18 / 2 else 2 ^ 18 / 4
  items.foldl (fun n i =>
    match i with
    | .prim p x b => if g.spans l e r b c then n + setupClocks p x (g.tileBox c r) else n
    | _ => n) base

/-- Cost factor of a tile row in UQ4.12, rounded up (R141). -/
def costFactor (t : List (Nat × Word)) (node : Nat) (l : Layer) (e : SwathEntry) (r : Nat)
    (items : List SurveyItem) : Nat :=
  let ports := usedPorts l.materials node e.materialMask
  let cols := usedTcols t ports
  let k := swathKernel node l ports
  let sum := cols.foldl (fun n c => n + tileClocks (gridOf t l e) l e r k (tileKernel t node l ports c) items c) 0
  divUp (4096 * sum) (cols.length * (if k then 2 ^ 17 else 2 ^ 16))

/-! ### Limits (R34, R142) -/

/-- An engine in service counts in the raster capacity. -/
def State.engineIn (s : State) (e : Nat) : Bool :=
  match s.ver.engines[e]? with
  | some x => x.svc == .inService
  | none => false

/-- Clock of cluster `n` in MHz (R181). -/
def State.clusterMhz (s : State) (n : Nat) : Nat := s.fld (Reg.CE_CL_STATUS n) Fld.CE_CL_STATUS_CLK_MHZ

/-- Verified raster capacity in pixels per second (R34 item 3). -/
def State.rasterCap (s : State) (p : Nat) : Nat :=
  sumBelow 40 fun e => if s.engineIn e then p * s.clusterMhz (e / 10) * 500000 else 0

/-- Columns of the used ports: the swath's pixels per line. -/
def lineColumns (t : List (Nat × Word)) (ports : List Nat) : Nat :=
  ports.foldl (fun n p => n + hdrCols t p) 0

/-- The line-rate limits of R34, in the LIMITER order of R154: RATE_REQ, code width, port, raster,
expansion. A limit that does not apply is none. -/
def State.rateLimits (s : State) (l : Layer) (e : SwathEntry) (cost sMax : Nat) : List (Option Nat) :=
  let t := s.bmap
  let ports := usedPorts l.materials s.node e.materialMask
  let width := fun p => ((portMaterial l.materials s.node p).map codeWidth).getD 1
  let portLim := ports.filterMap fun p =>
    let n := portBeams t p * width p
    if n = 0 then none else some (s.regN (Reg.HP_PORT_RATE p) * 1000000 / n)
  let p := if swathKernel s.node l ports then 2 else 4
  let den := 10 * (lineColumns t ports * cost)
  [if e.rateReq = 0 then none else some e.rateReq,
   some (if ports.any fun p => width p == 8 then 100000 else 200000),
   portLim.foldl (fun a x => match a with
     | none => some x
     | some y => some (min x y)) none,
   if den = 0 then none else some (9 * s.rasterCap p * 4096 / den),
   if sMax = 0 then none else some (9 * s.unitsIn * 100000000 * 128 / sMax)]

/-- The lowest limit, with the lowest LIMITER number on a tie (R154). -/
def lowest (l : List (Option Nat)) : Nat × Nat :=
  match (l.zipIdx.foldl (fun b x =>
    match x.1, b with
    | none, b => b
    | some v, none => some (v, x.2)
    | some v, some (w, i) => if v < w then some (v, x.2) else some (w, i)) (none : Option (Nat × Nat))) with
  | some r => r
  | none => (0, 0)

/-! ### Firing-buffer span (R251 to R253) -/

/-- Rows of the used ports. -/
def usedRows (t : List (Nat × Word)) (ports : List Nat) : List Nat :=
  (List.range (hdrNrow t)).filter fun r => ports.contains (rowPort t r)

/-- Greatest and least SCAN_OFS over rows (R251). -/
def ofsMax (t : List (Nat × Word)) (rows : List Nat) : Int :=
  (rows.map (rowOfs t)).foldl max ((rows.head?.map (rowOfs t)).getD 0)
def ofsMin (t : List (Nat × Word)) (rows : List Nat) : Int :=
  (rows.map (rowOfs t)).foldl min ((rows.head?.map (rowOfs t)).getD 0)

/-- Lag of row `r` in lines (R251). -/
def rowLag (t : List (Nat × Word)) (rows : List Nat) (reverse : Bool) (pitch r : Nat) : Nat :=
  divUp (if reverse then rowOfs t r - ofsMin t rows else ofsMax t rows - rowOfs t r).toNat pitch

/-- D_L: lines kept loaded beyond the front line at a line rate (R252). -/
def loadAhead (rate : Nat) : Nat := divUp (100 * rate) 1000000 + 2

/-- S_r: bytes of a row's segment (R253). -/
def segBytes (t : List (Nat × Word)) (width r : Nat) : Nat :=
  divUp (divUp ((rowBeams t r).length * width) 8) 64 * 64

/-- The firing-buffer need of a swath (R253). -/
def State.spanNeed (s : State) (l : Layer) (e : SwathEntry) (rate : Nat) : Nat :=
  let t := s.bmap
  let ports := usedPorts l.materials s.node e.materialMask
  let rows := usedRows t ports
  rows.foldl (fun n r =>
    let w := ((portMaterial l.materials s.node (rowPort t r)).map codeWidth).getD 1
    n + segBytes t w r * (rowLag t rows e.reverse l.job.pitch r + loadAhead rate)) 0

/-! ### Commands -/

/-- The next swath to survey in firing order (R139). -/
def State.nextSurvey (s : State) : Option (Nat × Nat) :=
  (s.openLayers.flatMap fun l => if l.stopped then [] else
    (((List.range l.plan.length).drop l.ended).map fun i => (l.seq, i))).find? fun q =>
      !s.surveys.any fun v => v.layer == q.1 && v.swath == q.2

/-- SURVEY_START (R139): the survey of the next swath starts once the previous one is complete. The model
surveys accepted layers only (log entry 23). -/
def execSurveyStart (s : State) : Host.Outcome State Fault Refusal :=
  if s.surveys.any fun v => !v.done then .next s
  else match s.nextSurvey with
    | none => .next s
    | some (q, i) =>
      let s : State := { s with surveys := s.surveys ++ [⟨q, i, false, [], 0, 0, 0, []⟩] }
      .next (s.setFld Reg.EXP_SURVEY_STATUS Fld.EXP_SURVEY_STATUS_BUSY 1)

/-- Estimated bin entries of tile column `c` (R144). -/
def estEntries (g : Grid) (l : Layer) (e : SwathEntry) (r : Nat) (items : List SurveyItem) (c : Nat) : Nat :=
  (items.filter fun i => match i with
    | .prim _ _ b => g.spans l e r b c
    | _ => false).length

/-- A tile row with the given bin sizes and transform entries is beyond the limits of R144. -/
def State.binsOver (s : State) (bins : List Nat) (xforms : Nat) : Bool :=
  bins.any (fun n => 1048576 < n) ||
    s.poolBlocks < 2 * (bins.foldl (fun n b => n + binBlocks b) 0 + divUp (32 * xforms) 1024)

/-- The tile, or the tile row as tile column 0xFF, that is beyond the limits of R144. -/
def State.binOverAt (s : State) (layer swath : Nat) (x : ExpandedRow) : Option TileId :=
  if s.binsOver (x.bins.map fun b => b.entries.length) x.xforms.length then
    match x.bins.find? fun b => 1048576 < b.entries.length with
    | some b => some ⟨layer, swath, b.tcol, x.id.row⟩
    | none => some ⟨layer, swath, 0xFF, x.id.row⟩
  else none

/-- What a survey finds (R140 to R144). -/
structure SurveyResult where
  steps : List Nat
  costs : List Nat
  misses : Nat
  counts : List (Nat × Nat)
  exact : Bool
  /-- The first tile or tile row beyond the limits. -/
  exceeds : Option TileId
  deriving DecidableEq, Repr

/-- The survey of swath entry `e`, number `v`, of layer `l`. -/
def State.surveyOf (s : State) (l : Layer) (v : Nat) (e : SwathEntry) : SurveyResult :=
  let t := s.bmap
  let g := gridOf t l e
  let cols := usedTcols t (usedPorts l.materials s.node e.materialMask)
  let rows := List.range e.tileRows
  let items := rows.map (surveyItems t s.node l e)
  let counts := cellRowCounts items
  let pins := pinLines s.lpBase s.pinLimit l.cells counts
  let sl := (rows.zip items).map fun ri => rowSteps g l e cols ri.1 s.lpBase pins ri.2
  let wide := (rows.zip items).filter fun ri =>
    s.binsOver (cols.map (estEntries g l e ri.1 ri.2))
      (1 + (ri.2.filter fun i => match i with
        | .cell _ _ => true
        | _ => false).length)
  let bad := wide.findSome? fun ri =>
    s.binOverAt l.seq v (expandRow t s.node l e 0 ⟨l.seq, v, ri.1⟩)
  ⟨sl.map fun x => x.1 + 200 * l.thrash * x.2,
   (rows.zip items).map fun ri => costFactor t s.node l e ri.1 ri.2,
   sl.foldl (fun n x => n + x.2) 0, counts, !wide.isEmpty, bad⟩

/-- The greatest element and its first index. -/
def maxAt (l : List Nat) : Nat × Nat :=
  l.zipIdx.foldl (fun b x => if b.1 < x.1 then x else b) (0, 0)

/-- A value for a 32-bit register: itself where it fits; where it does not, the spec states none and it is
a free value (log entry 24). -/
def State.fit32 (s : State) (v : Option Nat) : Nat × State :=
  match v with
  | some x => if x < 2 ^ 32 then (x, s) else s.free
  | none => s.free

/-- SURVEY_DONE (R139 to R144, R253): the running survey completes; its results are final, and the layer
stops before the swath on BIN_OVERFLOW or SPAN. DESIGN CHOICE, log entry 60: the error names the tile or the tile row in
the form that R645 gives a tile, and the unit of the tile scheduler, the spec naming none; a cost factor beyond UQ4.12 is shown modulo 2^16. -/
def execSurveyDone (s : State) : Host.Outcome State Fault Refusal :=
  match s.surveys.find? fun v => !v.done with
  | none => .next s
  | some v =>
    let drop := fun (s : State) =>
      { s with surveys := s.surveys.filter fun x => !(x.layer == v.layer && x.swath == v.swath) }
    let s := s.setFld Reg.EXP_SURVEY_STATUS Fld.EXP_SURVEY_STATUS_BUSY 0
    match s.layer v.layer with
    | none => .next (drop s)
    | some l =>
      match l.entry v.swath with
      | none => .next (drop s)
      | some e =>
        let r := s.surveyOf l v.swath e
        let (cost, row) := maxAt r.costs
        let sMax := (maxAt r.steps).1
        let used := !(usedPorts l.materials s.node e.materialMask).isEmpty
        let lims := s.rateLimits l e cost sMax
        let (rate, lim) := if used then lowest lims else (0, 0)
        let v' : Survey := ⟨v.layer, v.swath, true, r.steps, rate, lim, r.misses, r.counts⟩
        let s : State := { s with surveys := s.surveys.map fun x =>
          if x.layer == v.layer && x.swath == v.swath then v' else x }
        let (el, s) := s.fit32 ((lims[4]?).getD none)
        let s := s.setRegN Reg.EXP_SURVEY_EXP_LIMIT el
        let s := s.setRegN Reg.EXP_SURVEY_RATE rate
        let s := s.setRegN Reg.EXP_SURVEY_COST (cost % 65536)
        let s := s.setRegN Reg.EXP_SURVEY_ROW row
        let s := s.setRegN Reg.EXP_SURVEY_STEPS sMax
        let s := s.setFld Reg.EXP_SURVEY_STATUS Fld.EXP_SURVEY_STATUS_SWATH v.swath
        let s := s.setFld Reg.EXP_SURVEY_STATUS Fld.EXP_SURVEY_STATUS_LIMITER lim
        let s := s.setFld Reg.EXP_SURVEY_STATUS Fld.EXP_SURVEY_STATUS_EXACT (b2n r.exact)
        let s := s.setFld Reg.EXP_SURVEY_STATUS Fld.EXP_SURVEY_STATUS_THRASH_MULT (l.thrash - 1)
        match r.exceeds with
        | some t =>
          .next ((s.raiseInfo .stopping Reg.EXP_EVENT Fld.EXP_EVENT_OVERFLOW 0 unitVer (tileInfo t)).stopLayer v.layer)
        | none =>
          let need := s.spanNeed l e rate
          let s := s.setRegN Reg.GY_SPAN_BYTES need
          if 16777216 < need then
            .next ((s.raise .stopping Reg.GY_EVENT Fld.GY_EVENT_SPAN 0 unitGy).stopLayer v.layer)
          else .next s

/-- Pins of a swath take effect at its start; those of another end (R128). -/
def State.pinSwath (s : State) (layer idx : Nat) : State :=
  match s.layer layer, s.surveys.find? fun v => v.layer == layer && v.swath == idx with
  | some l, some v =>
    { s with pins := pinLines s.lpBase s.pinLimit l.cells v.cellRows }
  | _, _ => s

end Sys2Proof.Machine
end

