-- ==== Sys2Proof/Machine/Verify.lean ====
section
/-! DEFINITION. The tile scheduler, comparison, votes, commit and engine service (R26, R158 to R161, R174,
R184 to R209). -/

namespace Sys2Proof.Machine

open Sys2Proof.Bits

/-- A duration of `n` ns in 2^-16 ns. -/
def ns16 (n : Nat) : Nat := n * 65536

/-! ### Fire times and deadlines (R30, R194, R251) -/

/-- The nominal line rate of a swath: that in force (R266) while it runs, else its agreed rate. -/
def State.nominalRate (s : State) (w : Swath) : Nat :=
  match w.state with
  | .running => w.rate * s.fld Reg.GY_STATUS Fld.GY_STATUS_OVR / 1024
  | .draining => w.rate * s.fld Reg.GY_STATUS Fld.GY_STATUS_OVR / 1024
  | _ => w.rate

/-- tF of tile row `row` of a swath in 2^-16 ns (R30, R251): the start timestamp and the time to the row's
first line in firing order at the present line rate; 0 without a start timestamp. -/
def State.tFOf (s : State) (w : Swath) (row : Nat) : Nat :=
  match w.startAt, s.swEntry w with
  | some t, some e => t + ns16 (e.order (e.rowFirst row) * 1000000000) / max (s.nominalRate w) 1
  | _, _ => 0

/-- The fire-path lead, 100 µs, in 2^-16 ns (R30). -/
def fireLead : Nat := ns16 100000

/-- The fire deadline of a tile whose context holds `tF` has come (R194). -/
def State.late (s : State) (tF : Nat) : Bool := tF != 0 && tF - fireLead ≤ s.now16

/-! ### Engines and clusters (R155, R186, R196, R26) -/

/-- Cluster of an engine (R155). -/
def clusterOf (e : Nat) : Nat := e / 10

/-- Engine `e`. -/
def State.engine (s : State) (e : Nat) : Option Engine := s.ver.engines[e]?

/-- Service state of engine `e`. -/
def State.svc (s : State) (e : Nat) : Svc := ((s.engine e).map (·.svc)).getD .out

/-- The cluster takes no new tile: an AVS change is in progress (R26). -/
def State.avsBusy (s : State) (n : Nat) : Bool := s.flag (Reg.CE_CL_STATUS n) Fld.CE_CL_STATUS_AVS_BUSY

/-- A dose buffer is free for one new tile (R174, R186). -/
def Engine.free (x : Engine) : Bool :=
  x.dose.isNone && (x.parked.isNone || x.quant.isNone) &&
  (x.held.isNone || (x.parked.isNone && x.quant.isNone))

/-- Idle in the sense of R196: no unresolved result, no parked tile and none in the dose stages. -/
def Engine.idle (x : Engine) : Bool :=
  x.dose.isNone && x.parked.isNone && x.quant.isNone && x.held.isNone

/-- Engine `e` is in service, its cluster takes tiles and a dose buffer is free. -/
def State.canTake (s : State) (e : Nat) : Bool :=
  match s.engine e with
  | some x => x.svc == .inService && x.free && !s.avsBusy (clusterOf e)
  | none => false

/-- Tiles that wait or are worked on in the engines in service of cluster `n`: the work queued by which clusters are
compared (R184). A finished tile that an engine holds is no work. -/
def State.load (s : State) (n : Nat) : Nat :=
  sumBelow 10 fun i =>
    match s.engine (10 * n + i) with
    | some x => if x.svc == .inService then
        b2n x.dose.isSome + b2n x.parked.isSome + b2n x.quant.isSome else 0
    | none => 0

/-- Engines of cluster `n` that can take a role, but for those `bar` names. -/
def State.takers (s : State) (n : Nat) (bar : List Nat) : List Nat :=
  ((List.range 10).map fun i => 10 * n + i).filter fun e => s.canTake e && !bar.contains e

/-- The least loaded cluster of `l`, the lower number on a tie (R184). -/
def State.leastLoaded (s : State) (l : List Nat) : Option Nat :=
  l.foldl (fun b n =>
    match b with
    | none => some n
    | some m => if s.load n < s.load m then some n else some m) none

/-- `want` where it is one of `l`, else the first of `l`. -/
def pick (want : Nat) (l : List Nat) : Option Nat := if l.contains want then some want else l.head?

/-- Engines that abandoned role `r` of the tile (R158). -/
def TileCtx.barredFrom (c : TileCtx) (r : Role) : List Nat := (c.barred.filter fun x => x.1 == r).map Prod.snd

/-- The checker's engine (R184): in the least loaded cluster, other than the primary's, that has a free
engine in service. -/
def State.pickChecker (s : State) (c : TileCtx) (p want : Nat) : Option Nat :=
  let bar := p :: c.barredFrom .checker
  let cls := (List.range 4).filter fun n => n != clusterOf p && !(s.takers n bar).isEmpty
  match s.leastLoaded cls with
  | some n => pick want (s.takers n bar)
  | none => none

/-- The spare of cluster `n` (R42, R155). -/
def State.spareOf (s : State) (n : Nat) : Option Nat :=
  ((List.range 10).map fun i => 10 * n + i).find? fun e => s.svc e == .spare

/-- An engine that can take a vote on the tile of `c` (R196 rule 1, R209). One that has abandoned a vote of it does not get
that role again (R158). -/
def State.eligible (s : State) (c : TileCtx) (e : Nat) : Bool :=
  match s.engine e with
  | some x => x.idle && (x.svc == .inService || x.svc == .spare) && !s.avsBusy (clusterOf e) &&
      c.primary != some e && c.checker != some e && !c.voters.contains e && !c.barred.contains (.voter, e)
  | none => false

/-- The first eligible voter (R196 rule 1). -/
def State.voterFor (s : State) (c : TileCtx) : Option Nat :=
  let cls := (c.primary.toList ++ c.checker.toList).map clusterOf
  let spares := cls.filterMap s.spareOf
  match spares.find? (s.eligible c) with
  | some e => some e
  | none =>
    let other := (List.range 4).filter fun n => !cls.contains n
    let inCl := fun n => ((List.range 10).map fun i => 10 * n + i).filter fun e =>
      s.svc e == .inService && s.eligible c e
    match s.leastLoaded (other.filter fun n => !(inCl n).isEmpty) with
    | some n => (inCl n).head?
    | none =>
      match s.leastLoaded (cls.filter fun n => !(inCl n).isEmpty) with
      | some n => (inCl n).head?
      | none => none

/-! ### Giving roles (R174, R184 to R186, R196, R207) -/

/-- What was kept of task `k`, whose tile was committed under a shadow or blanked with a vote to come (R32, R207). -/
def State.keptWork (s : State) (k : Task) : Option Work := k.kept.or ((s.ctx k.tile).bind (·.kept))

/-- Task `k` may be quantised: the carry into its tile exists, or what it computes was kept (R174, R32). -/
def State.canQuantise (s : State) (k : Task) : Bool := (s.keptWork k).isSome || s.carryReady k.tile

/-- The tile in the dose stages of engine `e` goes to the second dose buffer if its carry does not exist
or the engine holds an unresolved result (R174, R186). -/
def State.parkCheck (s : State) (e : Nat) : State :=
  match s.engine e with
  | none => s
  | some x =>
    match x.dose, x.parked with
    | some k, none =>
      let wait := !s.canQuantise k
      if wait || x.held.isSome then
        let s := s.onEngine e fun x => { x with dose := none, parked := some k }
        if wait then s.count Reg.CE_PARK_WAITS 1 else s
      else s
    | _, _ => s

/-- Engine `e` starts rasterising tile `t` in role `r`. -/
def State.startRole (s : State) (t : TileId) (e : Nat) (r : Role) : State :=
  let kernel := (((s.ctx t).bind (·.kept)).map (·.kernel)).getD (s.kernelMode t)
  (s.onEngine e fun x => { x with dose := some ⟨t, r, kernel, none⟩, lastTile := t }).parkCheck e

/-- A vote on tile `t` starts on the first eligible voter; with none it waits (R196, R209). -/
def State.startVote (s : State) (t : TileId) : State :=
  match s.ctx t with
  | none => s
  | some c =>
    match s.voterFor c with
    | none => s
    | some e =>
      (s.onCtx t fun c => { c with voters := c.voters ++ [e], votes := min (c.votes + 1) 3, lastVoter := some e }).startRole
        t e .voter

/-- The tile has a primary and a checker whose results are in. -/
def TileCtx.manned (c : TileCtx) : Bool :=
  (c.primary.bind c.resultOf).isSome && (c.checker.bind c.resultOf).isSome

/-- The tile is in a vote and none runs. -/
def TileCtx.wantsVote (c : TileCtx) : Bool :=
  c.phase == .vote && c.voters.all fun e => c.results.any fun r => r.1 == e

/-- The tiles of row `q` that are not resolved start again on bins that another unit expands (R137, R196 rule
5): their contexts are kept, with the votes already run, and their roles given anew. -/
def State.redoRow (s : State) (q : RowId) : State :=
  let mine := fun (c : TileCtx) => (⟨c.id.layer, c.id.swath, c.id.trow⟩ : RowId) == q && !c.blanked
  let s := (s.ver.ctxs.filter mine).foldl (fun s c => s.release c.id fun _ => true) s
  let fresh := fun (c : TileCtx) => { c with
    primary := none, checker := none, voters := [], results := [], phase := CtxPhase.raster
    writer := none, shadows := [] }
  let by_ := (s.rows.find? fun x => x.id == q).map (·.unit)
  { s with
    ver := { s.ver with ctxs := s.ver.ctxs.map fun c => if mine c then fresh c else c }
    units := s.units.mapIdx fun i u => if by_ = some i then { u with barred := q :: u.barred } else u
    rows := s.rows.filter fun x => x.id != q }

/-- The vote of engine `e` did not run. -/
def TileCtx.withoutVoter (c : TileCtx) (e : Nat) : TileCtx :=
  let l := c.voters.filter (· != e)
  { c with voters := l, votes := c.votes - 1, lastVoter := if c.votes ≤ 1 then none else l.getLast?.or c.lastVoter }

/-- MAX_VOTES in force (R211). -/
def State.maxVotes (s : State) : Nat := max (s.fld Reg.VER_CFG Fld.VER_CFG_MAX_VOTES) 1

/-- MAX_VOTES votes without agreement (R196 rules 4 and 5): logged as contained, and the row's bins are treated as
failed; a tile that was blanked before stays as it is (R32). -/
def State.noMajority (s : State) (t : TileId) : State :=
  match s.ctx t with
  | none => s
  | some c =>
    let s := s.logErr .contained 9 (errCode Fld.VER_EVENT_NO_MAJORITY 0) unitVer (tileInfo t)
    let s := if c.blanked then s.dropCtx t
      else
        let s := (s.count Reg.VER_NO_MAJORITY 1).event Reg.VER_EVENT Fld.VER_EVENT_NO_MAJORITY
        (s.onCtx t fun c => { c with phase := .raster }).blankTile t 2
    (s.freeHeld t).redoRow ⟨t.layer, t.swath, t.trow⟩

/-- The vote that tile `t` wants starts (R196, R204, R209): with a primary's and a checker's result in it is due; a role
given up is restarted first, but for a tile that was blanked, whose roles no engine restarts. -/
def State.voteOn (s : State) (t : TileId) : State :=
  match s.ctx t with
  | none => s
  | some c =>
    if ¬ c.wantsVote then s
    else if c.manned then s.startVote t
    else if ¬ c.blanked then s
    else if c.voters.length < s.maxVotes then s.startVote t else s.noMajority t

/-- Engine `e` gives up its role `r` in the tile of `c`, which it does not get again (R158). -/
def TileCtx.bar (c : TileCtx) (r : Role) (e : Nat) : TileCtx := { c with barred := (r, e) :: c.barred }

/-- Engine `e` abandons tile `t`: its role there goes to another engine (R158). -/
def State.abandon (s : State) (t : TileId) (e : Nat) (r : Role) : State :=
  let s := s.onEngine e fun x => { x with
    dose := if taskIs t (· == r) x.dose then none else x.dose
    parked := if taskIs t (· == r) x.parked then none else x.parked
    quant := if taskIs t (· == r) x.quant then none else x.quant }
  match r with
  | .shadow => s
  | .primary => s.onCtx t fun c => { c.bar .primary e with primary := none }
  | .checker => s.onCtx t fun c => { c.bar .checker e with checker := none }
  | .voter => (s.onCtx t fun c => (c.withoutVoter e).bar .voter e).voteOn t

/-- A word of row `row` of the tarn of engine `e` is read (R158, R516). -/
def State.tarnRead (s : State) (e row : Nat) (x : Ecc) : State :=
  let s := s.sramRead (sramTarn e) row x
  match x with
  | .clean => s
  | .corrected => s.count (Reg.CE_ENG_TARN_CORR e) 1
  | .uncorrectable => (s.count (Reg.CE_ENG_TARN_UNCORR e) 1).logErr .contained 8 (errCodeNone 0) e 0

/-- A bin block of tile `t` fails its CRC or names another tile: logged as contained, with EXP_EVENT.LOCKSTEP, and the
row is expanded again (R137, R153). The spec names no unit: the record has that of the unit that expanded the row (DESIGN
CHOICE, log entry 60). -/
def State.binBad (s : State) (t : TileId) : State :=
  let q : RowId := ⟨t.layer, t.swath, t.trow⟩
  let u := ((s.rows.find? fun x => x.id == q).map (·.unit)).getD 0
  (s.raise .contained Reg.EXP_EVENT Fld.EXP_EVENT_LOCKSTEP 0 (unitXu u)).redoRow q

/-- What engine `e` meets in tile `t` in role `r`, one after another (R137, R158, R159): a corrected error lets the tile go
on; the first other thing ends the engine's work on it. -/
def State.onHaps (s : State) (t : TileId) (e : Nat) (r : Role) : List Hap → State
  | [] => s
  | .tarnCorr row :: l => (s.tarnRead e row .corrected).onHaps t e r l
  | .tarnUncorr row :: _ => (s.tarnRead e row .uncorrectable).abandon t e r
  | .binCrc :: _ => s.binBad t
  | .binId :: _ => (s.count Reg.CE_BIN_ID_ERR 1).binBad t

/-- What a flip mask has left in the tarn of engine `e` (R158, R512). -/
def State.tarnFlip (s : State) (e : Nat) : List Hap :=
  match sramEcc (s.flipAt (sramTarn e) 0) .clean with
  | .clean => []
  | .corrected => [.tarnCorr 0]
  | .uncorrectable => [.tarnUncorr 0]

/-- The engine goes on with its tile after `h`. -/
def Hap.mild (h : Hap) : Bool :=
  match h with
  | .tarnCorr _ => true
  | _ => false

/-- A context for `t` (R203). -/
def State.newCtx (s : State) (t : TileId) (w : Swath) : State :=
  { s with ver := { s.ver with ctxs := s.ver.ctxs ++
      [⟨t, none, none, none, none, [], [], .raster, 0, none, none, [], none, s.tFOf w t.trow, false, [], none⟩] } }

/-- Contexts taken: those of tiles not blanked (R203). -/
def State.ctxUsed (s : State) : Nat := (s.ver.ctxs.filter fun c => !c.blanked).length

/-- Roles of the tile may be given: it is rasterised, or in a vote in which an engine that left had a part (R204). -/
def TileCtx.open_ (c : TileCtx) : Bool := !c.blanked && (c.phase == .raster || c.phase == .vote)

/-- The primary role of `t` is given to the engine wanted, where it can take it; where the checker stands already, as
when the role is given anew, only in another cluster than its own (R184, R203, R204). -/
def State.givePrimary (s : State) (t : TileId) (w : Swath) (e : Nat) : State :=
  match s.ctx t with
  | some c =>
    if c.primary.isNone ∧ c.open_ ∧ s.canTake e ∧ !c.barred.contains (.primary, e) ∧
        c.checker.map clusterOf ≠ some (clusterOf e) then
      (s.onCtx t fun c => { c with primary := some e, givenP := some e }).startRole t e .primary
    else s
  | none =>
    if 1024 ≤ s.ctxUsed then s.event Reg.VER_EVENT Fld.VER_EVENT_CTX_FULL
    else if s.canTake e then
      ((s.newCtx t w).onCtx t fun c => { c with primary := some e, givenP := some e }).startRole t e .primary
    else s

/-- A role of tile `t` is given (R184, R196, R207). A vote needs neither the tile's swath nor its bins (R32). -/
def State.giveRole (s : State) (t : TileId) (w : Option Swath) (e : Nat) (r : Role) : State :=
  match r, s.ctx t with
  | .primary, _ =>
    match w with
    | some w => s.givePrimary t w e
    | none => s
  | .checker, some c =>
    match c.primary with
    | some p =>
      if c.checker.isNone ∧ c.open_ then
        match s.pickChecker c p e with
        | some e => (s.onCtx t fun c => { c with checker := some e, givenC := some e }).startRole t e .checker
        | none => s
      else s
    | none => s
  | .voter, some _ => s.voteOn t
  | .shadow, some _ =>
    match s.engine e with
    | some x => if x.svc = .shadow ∧ x.idle ∧ ¬ s.avsBusy (clusterOf e) then s.startRole t e .shadow else s
    | none => s
  | _, none => s

/-- The engine that works on tile `t` in role `r` now. -/
def State.worker (s : State) (t : TileId) (r : Role) : Option Nat :=
  findBelow 40 fun e => match s.engine e with
    | some x => taskIs t (· == r) x.dose || taskIs t (· == r) x.parked
    | none => false

/-- The tile can be dispatched: its swath is captured, its row expanded and it is not resolved (R231,
R203). -/
def State.dispatchable (s : State) (t : TileId) : Bool :=
  (s.entry t).isNone && s.rows.any fun x => x.id == ⟨t.layer, t.swath, t.trow⟩ && x.live.contains t.tcol

/-- TILE_DISPATCH (R184, R203): role `r` of tile `t` goes to engine `e` (for a checker and a voter, to the
one that R184 and R196 name; `e` chooses among free engines of the checker's cluster). -/
def execTileDispatch (t : TileId) (e : Fin 40) (r : Role) (s : State) : Host.Outcome State Fault Refusal :=
  let w := s.swath t.layer t.swath
  if r = .voter ∨ (w.isSome ∧ s.dispatchable t) then
    let had := s.worker t r
    let s := s.giveRole t w e r
    match had, s.worker t r with
    | none, some e => .next (s.flipHit 1 e (sramTarn e) 0)
    | _, _ => .next s
  else .next s

/-- Clusters other than `n` have an engine free for the primary role of the tile of `c`. -/
def State.freeElsewhere (s : State) (c : TileCtx) (n : Nat) : Bool :=
  (List.range 4).any fun k => k != n && !(s.takers k (c.barredFrom .primary)).isEmpty

/-- CHECKER_WAIT_TIMEOUT (R185): 20 µs have passed and no other cluster has an engine free for the checker, or for a
primary given anew. -/
def execCheckerWaitTimeout (t : TileId) (e : Fin 40) (s : State) : Host.Outcome State Fault Refusal :=
  match s.ctx t with
  | none => .next s
  | some c =>
    if ¬ c.open_ ∨ ¬ s.flag Reg.VER_CFG Fld.VER_CFG_SAME_CL_OK then .next s
    else match c.primary, c.checker with
      | some p, none =>
        if (s.pickChecker c p e).isSome then .next s
        else match pick e (s.takers (clusterOf p) (p :: c.barredFrom .checker)) with
          | none => .next s
          | some e => .next (((s.event Reg.VER_EVENT Fld.VER_EVENT_SAME_CLUSTER).onCtx t fun c =>
              { c with checker := some e, givenC := some e }).startRole t e .checker)
      | none, some k =>
        if s.freeElsewhere c (clusterOf k) then .next s
        else match pick e (s.takers (clusterOf k) (k :: c.barredFrom .primary)) with
          | none => .next s
          | some e => .next (((s.event Reg.VER_EVENT Fld.VER_EVENT_SAME_CLUSTER).onCtx t fun c =>
              { c with primary := some e, givenP := some e }).startRole t e .primary)
      | _, _ => .next s

/-- PARKED_TILE_QUANTISE (R174, R186, R32): the parked tile of engine `e` is quantised once its carry exists and
the engine holds no unresolved result; a tile in the dose stages may then park in its turn. -/
def execParkedTileQuantise (e : Fin 40) (s : State) : Host.Outcome State Fault Refusal :=
  match s.engine e.val with
  | none => .next s
  | some x =>
    match x.parked with
    | none => .next s
    | some k =>
      if x.held.isNone ∧ x.quant.isNone ∧ s.canQuantise k then
        .next ((s.onEngine e fun x => { x with parked := none, quant := some k }).parkCheck e)
      else .next s

/-! ### Service (R204 to R208) -/

/-- What the departure of engine `e` makes of a context (R204): its role is given up, to be restarted elsewhere. A
result not yet compared is discarded; one that a vote has compared stays for the charge of its loss. A tile that `e`
itself was to write goes back to the comparison, and one that another engine writes needs nothing more of `e`
(DEDUCED, log entry 61). -/
def TileCtx.without (c : TileCtx) (e : Nat) : TileCtx :=
  let give := fun (c : TileCtx) => { c with
    primary := if c.primary = some e then none else c.primary
    checker := if c.checker = some e then none else c.checker }
  match c.phase with
  | .raster => { give c with results := c.results.filter fun r => r.1 != e }
  | .vote =>
    if c.voters.contains e ∧ (c.resultOf e).isNone then c.withoutVoter e else if c.blanked then c else give c
  | _ =>
    if c.writer = some e then
      { give c with
        phase := if c.voters.isEmpty then .raster else .vote
        voters := c.voters.filter (· != e), results := c.results.filter fun r => r.1 != e, writer := none }
    else c

/-- Engine `e` leaves its tiles (R204). -/
def State.dropRoles (s : State) (e : Nat) : State :=
  let fix := fun (c : TileCtx) => c.without e
  let s := s.onEngine e fun x => { x with dose := none, parked := none, quant := none, held := none }
  { s with ver := { s.ver with ctxs := s.ver.ctxs.map fix } }

/-- Votes that wait for an engine try again (R209). -/
def State.retryVotes (s : State) : State :=
  (s.ver.ctxs.filter (·.wantsVote)).foldl (fun s c => s.voteOn c.id) s

/-- An OUT that waits finds the engine in SELFTEST: it is ignored and flagged (R208, R209). -/
def State.outIgnored (s : State) (e : Nat) (dest : Svc) : State :=
  match (s.engine e).bind (·.outReq), dest with
  | some p, .selftest => s.accFlag p Reg.VER_ENG_CTRL .refused
  | _, _ => s

/-- Engine `e` leaves service for `dest` (R204 to R206): a departure from IN_SERVICE asks for a spare. -/
def State.engineLeaves (s : State) (e : Nat) (dest : Svc) : State :=
  let was := s.svc e
  let s := s.outIgnored e dest
  let s := (s.onEngine e fun x => { x with
    svc := dest, outReq := none, lossAt := none, shadowN := 0, stFails := 0 }).dropRoles e
  let s := s.raise .degraded Reg.VER_EVENT Fld.VER_EVENT_ENG_OUT 0 e
  let s : State := if was = .inService then
      { s with ver := { s.ver with promote := s.ver.promote ++ [clusterOf e] } } else s
  s.retryVotes

/-- Loss window in 2^-16 ns (R204, R211). -/
def State.lossWindow (s : State) : Nat :=
  ns16 (max (s.fld Reg.VER_CFG Fld.VER_CFG_LOSS_WIN_S) 1 * 1000000000)

/-- Engine `e` loses a vote (R204). -/
def State.loss (s : State) (e : Nat) : State :=
  match s.engine e with
  | none => s
  | some x =>
    let s := s.onEngine e fun x => { x with losses := min (x.losses + 1) 255 }
    match x.svc with
    | .inService | .spare =>
      match x.lossAt with
      | some a =>
        if s.now16 ≤ a + s.lossWindow then s.engineLeaves e .selftest
        else s.onEngine e fun x => { x with lossAt := some s.now16 }
      | none => s.onEngine e fun x => { x with lossAt := some s.now16 }
    | _ => s

/-! ### Comparison, votes and the start of a commit (R186, R192, R196, R249) -/

/-- Two results agree (R186). -/
def RasterResult.agrees (a b : RasterResult) : Bool := a.signature == b.signature && a.crc == b.crc

/-- The first pair found to agree, in the order of R196 rule 3; its first member is the writer. -/
def TileCtx.decide (c : TileCtx) : Option (Nat × RasterResult) :=
  let rs := c.order.filterMap fun e => (c.resultOf e).map fun r => (e, r)
  rs.find? fun x => rs.any fun y => x.1 != y.1 && x.2.agrees y.2

/-- A pair of results of tile `t` agrees: losers are charged, and the tile, unless it was blanked or its
deadline has come, is streamed (R192, R196, R209). No vote of it runs or waits any more. -/
def State.decided (s : State) (t : TileId) (writer : Nat) (r : RasterResult) : State :=
  match s.ctx t with
  | none => s
  | some c =>
    let losers := (c.results.filter fun x => !x.2.agrees r).map Prod.fst
    if c.blanked then losers.foldl (fun s e => s.loss e) ((s.freeHeld t).dropCtx t)
    else
      let s := s.onCtx t fun c => { c with writer := some writer, phase := .commit }
      let s := losers.foldl (fun s e => s.loss e) s
      if s.late c.tF then s.blankTile t 1 else s.stream t

/-- A mismatch of tile `t`: counted, logged, and a vote starts at once (R196). So does one after a stream mismatch whose
tile has had MAX_VOTES votes: R192 starts it, R211 limits the votes of a tile, and the spec does not say which holds (DESIGN
CHOICE, log entry 61). -/
def State.mismatch (s : State) (t : TileId) : State :=
  let s := (s.count Reg.VER_MISMATCHES 1).raiseInfo .contained Reg.VER_EVENT Fld.VER_EVENT_MISMATCH 0 unitVer
    (tileInfo t)
  (s.onCtx t fun c => { c with phase := .vote, writer := none }).startVote t

/-- A late vote is counted (R32, R209). -/
def State.lateVote (s : State) (c : TileCtx) : State :=
  if c.blanked then (s.count Reg.VER_VOTES_LATE 1).event Reg.VER_EVENT Fld.VER_EVENT_VOTE_LATE else s

/-- The comparators act on the results of tile `t`, the latest from engine `e` (R186, R196). A vote without agreement
waits for a role that is given anew (R204) before another follows; a blanked tile's roles are not given anew. -/
def State.judge (s : State) (t : TileId) (e : Nat) : State :=
  match s.ctx t with
  | none => s
  | some c =>
    match c.phase with
    | .raster =>
      match c.primary, c.primary.bind c.resultOf, c.checker.bind c.resultOf with
      | some p, some a, some b => if a.agrees b then s.decided t p a else s.mismatch t
      | _, _, _ => s
    | .vote =>
      if c.wantsVote then
        let s := if c.voters.contains e then s.lateVote c else s
        match c.decide with
        | some (w, r) => s.decided t w r
        | none =>
          if ¬ c.manned ∧ ¬ c.blanked then s
          else if c.voters.length < s.maxVotes then s.startVote t else s.noMajority t
      else s
    | _ => s

/-! ### Shadow engines (R207) -/

/-- Engine `e` in SHADOW disagreed on a tile: SELFTEST, counting as a failure (R206). -/
def State.shadowFails (s : State) (e : Nat) : State :=
  s.onEngine e fun x =>
    let n := min (x.stFails + 1) 3
    { x with svc := if n ≥ 3 then .out else .selftest, shadowN := 0, stFails := n, dose := none, parked := none,
             quant := none, held := none }

/-- Engine `e`'s shadow result `r` of a tile committed as `c` is compared (R207). -/
def State.shadowCompare (s : State) (e : Nat) (r c : RasterResult) : State :=
  if s.svc e ≠ .shadow then s
  else if r.agrees c then s.onEngine e fun x => { x with shadowN := min (x.shadowN + 1) 16 }
  else s.shadowFails e

/-! ### Results, commits and blanks as commands -/

/-- What task `k` gives: what was kept of its tile, or what the reference model gives (R162, R32, R207). -/
def State.work (s : State) (k : Task) : Option Work := (s.keptWork k).or (s.modelWork k.tile)

/-- The task whose codes engine `e` delivers next: the tile being quantised, or the one in the dose stages
whose carry exists (R174, R186). -/
def State.deliverable (s : State) (e : Nat) : Option Task :=
  match s.engine e with
  | none => none
  | some x =>
    if x.held.isSome then none
    else match x.quant, x.dose with
      | some k, _ => some k
      | none, some k => if s.canQuantise k then some k else none
      | none, none => none

/-- The tile that engine `e` works on: the one being quantised, in the dose stages, or parked. -/
def State.working (s : State) (e : Nat) : Option Task :=
  (s.engine e).bind fun x => x.quant.or (x.dose.or x.parked)

/-- Engine `e` delivers `r` for task `k` (R178, R186, R207): it holds the result until the tile is resolved. The clocks of
a tile that it abandons or lets go before count nowhere: R178 does not say whether CE_ENG_BUSY takes them (DESIGN CHOICE,
log entry 61). -/
def State.deliver (s : State) (e : Nat) (k : Task) (r : RasterResult) (clocks : Nat) : State :=
  let s := s.onEngine e fun x => { x with
    quant := if x.quant = some k then none else x.quant
    dose := if x.quant ≠ some k ∧ x.dose = some k then none else x.dose
    held := if k.role = .shadow ∨ (s.ctx k.tile).all (·.blanked) then none else some k }
  let s := (s.countPair (Reg.CE_ENG_TILES_LO e) 1).countPair (Reg.CE_ENG_BUSY_LO e) clocks
  let s := s.setRegN (Reg.CE_ENG_LAST_CLK e) clocks
  let s := match k.role with
    | .shadow =>
      match k.kept with
      | some c => s.shadowCompare e r c.result
      | none => s.onCtx k.tile fun c => { c with shadows := c.shadows ++ [(e, r)] }
    | _ => (s.onCtx k.tile fun c => { c with results := c.results ++ [(e, r)] }).judge k.tile e
  s.parkCheck e

/-- What an engine delivers for tile `t` with the codes and carry `u` that it computed where the model gives `r`: its
signature and CRC-64 are those of its own output (R186). Every code committed is the model's (R162): an upset that would
agree with the model's result or with another engine's is none (DEDUCED, log entry 61). -/
def State.errs (s : State) (t : TileId) (r : RasterResult) (u : List (List Nat) × List Int) : RasterResult :=
  let w := s.tileWidth t
  let x : RasterResult := { r with
    codes := u.1, cout := u.2, signature := signature (s.regN Reg.VER_SALT) t u.1 u.2
    crc := Crc.crc64 (canonical t w r.codes.length u.1 u.2) }
  if x.agrees r ∨ ((s.ctx t).any fun c => c.results.any fun y => x.agrees y.2) = true then r else x

/-- Engine `e` has finished its tile (R160, R161, R186): what the reference model gives, or `upset` where the engine
errs, after `passes` extra passes of `extra` clocks together. -/
def State.rasterDone (s : State) (e : Nat) (upset : Option (List (List Nat) × List Int)) (passes extra : Nat) : State :=
  match s.deliverable e with
  | none => s
  | some k =>
    match s.work k with
    | none => s
    | some w =>
      let r := match upset with
        | some u => s.errs k.tile w.result u
        | none => w.result
      let parked := ((s.engine e).bind (·.quant)) == some k
      s.deliver e k r (w.clocks + (if passes = 0 then 0 else extra) + (if parked then 16384 else 0))

/-- Engine `e` reads the bin of its tile from DRAM, as the requester of its cluster (R137, R503, R506): whether a word was
uncorrectable. A tile whose result is kept needs its bin no more. -/
def State.binFetch (s : State) (e : Nat) (t : TileId) : Bool × State :=
  match s.rows.find? fun x => x.id == ⟨t.layer, t.swath, t.trow⟩ with
  | none => (false, s)
  | some x => (s.binSpans x t.tcol).foldl (fun b p =>
      let (bad, _, s) := b.2.fetch (2 + clusterOf e) p.1 p.2
      (b.1 || bad, s)) (false, s)

/-- RASTER_DONE (R158, R159, R161, R186): engine `e` delivers its tile, in whichever role it has it; `hs` is what it meets
on the way, with which it may abandon the tile instead, beside what a flip mask has left in its tarn and what DRAM gives it
of the tile's bin. Extra passes count either way. -/
def execRasterDone (e : Fin 40) (upset : Option (List (List Nat) × List Int)) (hs : List Hap) (passes extra : Nat)
    (s : State) : Host.Outcome State Fault Refusal :=
  match s.working e.val with
  | none => .next s
  | some k =>
    let hs := s.tarnFlip e ++ hs
    let (lost, u) := s.binFetch e k.tile
    let hs := if lost then hs ++ [.binCrc] else hs
    let through := hs.all (·.mild)
    if through ∧ (s.deliverable e.val).isNone then .next s
    else
      let s := ((u.unflip (sramTarn e) 0).count Reg.CE_XOVF passes).onHaps k.tile e k.role hs
      .next (if through then s.rasterDone e upset passes extra else s)

/-- RING_SPACE_FREE (R248, R249): the ring space of tile `t`, all of whose lines every row has passed, is
freed, and writers that wait proceed. -/
def execRingSpaceFree (t : TileId) (s : State) : Host.Outcome State Fault Refusal :=
  match s.entry t, s.swath t.layer t.swath with
  | some c, some w =>
    match s.swEntry w with
    | none => .next s
    | some e =>
      let last := e.order (e.rowLast t.trow)
      let passed := w.rows.all fun r => r.past s.bmap (last + 1)
      if passed ∧ ¬ c.freed then
        .next (s.putEntry { c with freed := true }).wakeWriters
      else .next s
  | _, _ => .next s

/-- The counts of a committed tile (R173, R175, R176, R178). -/
def State.countTile (s : State) (r : RasterResult) : State :=
  ((s.countPair Reg.CE_KSAT_LO r.ksat).countPair Reg.CE_CSAT_LO r.csat).count Reg.CE_TAKEOVER_LOST r.lost

/-- VER_MARGIN_MIN takes a commit of the current swath (R210). -/
def State.margin (s : State) (t : TileId) (tF : Nat) : State :=
  match s.curSwath with
  | some w =>
    if w.layer = t.layer ∧ w.idx = t.swath ∧ tF ≠ 0 then
      let m := (tF - fireLead - s.now16) / ns16 1000
      s.setRegN Reg.VER_MARGIN_MIN (min m (s.regN Reg.VER_MARGIN_MIN))
    else s
  | none => s

/-- The VOTED marks of a committed tile, one for each used port it meets (R197, R556). -/
def State.votedEntries (s : State) (t : TileId) (votes : Nat) : State :=
  match s.swath t.layer t.swath with
  | none => s
  | some w => w.ports.foldl (fun s p =>
      let m := s.bmap
      let a := max (hdrFirst m p) (2048 * t.tcol)
      let z := min (hdrFirst m p + hdrCols m p) (2048 * t.tcol + 2048)
      if z ≤ a then s
      else s.swathEv t.layer t.swath ⟨16, votes, p, 0xFF, 0xFFFF, 128 * t.trow,
        128 * t.trow + s.tileLines t - 1, a, z - 1⟩) s

/-- Tile `t` is committed (R190, R192, R195, R207). -/
def State.commit (s : State) (c : TileCtx) (e : Nat) (r : RasterResult) : State :=
  let t := c.id
  let ent : CommitEntry :=
    { id := t, w := s.tileWidth t, committed := true, cause := 0, lines := s.tileLines t, votes := c.votes
      signature := r.signature, crc := r.crc, addr := c.slot.getD 0, primary := c.givenP.getD 0xFF
      checker := c.givenC.getD 0xFF, voter := c.lastVoter.getD 0xFF, writer := e
      commitNs := s.tNs, carry := r.cout, codes := r.codes, freed := false, firstLoaded := false
      verdict := false, got := [], ix := 0 }
  let s := ((s.storeEntry ent).countPair Reg.VER_COMMITS_LO 1).countTile r
  let s := s.margin t c.tF
  let s := if c.votes = 0 then s else s.votedEntries t c.votes
  let s := s.keepShadows t ⟨r, s.rasterClocks t, s.kernelMode t⟩
  let s := (((s.freeBins t).freeHeld t).dropCtx t)
  c.shadows.foldl (fun s x => s.shadowCompare x.1 x.2 r) s

/-- The committed string as a block of the STAGING point (R540). -/
def State.stagingBlock (s : State) (c : TileCtx) (r : RasterResult) : SnoopBlock :=
  let a := c.slot.getD 0
  ⟨pointStaging, 0, [], canonical c.id (s.tileWidth c.id) (s.tileLines c.id) r.codes r.cout, r.crc, a,
    c.id.trow, a⟩

/-- The packed codes of a result with the bytes that `flips` changes on the way to the ring: offset and difference. -/
def streamed (w : Nat) (r : RasterResult) (flips : List (Nat × Byte)) : List Byte :=
  flips.foldl (fun b f => b.set (f.1 % b.length) (nth b (f.1 % b.length) 0 ^^^ f.2)) (r.codes.flatMap (packLine w))

/-- The role of engine `e` in the tile of `c`. -/
def TileCtx.roleOf (c : TileCtx) (e : Nat) : Role :=
  if c.primary = some e then .primary else if c.checker = some e then .checker else .voter

/-- Engine `e`, the writer of tile `t`, meets an uncorrectable word of its tarn while it streams: it abandons the tile, and
its role goes to another engine (R158). -/
def State.writerGone (s : State) (t : TileId) (e : Nat) : State :=
  let s := s.onCtx t fun c => (c.without e).bar (c.roleOf e) e
  (s.onEngine e fun x => { x with held := if taskIs t (fun _ => true) x.held then none else x.held }).voteOn t

/-- COMMIT_ACK (R158, R192, R194): the entry of tile `t` is acknowledged. `tarn` are words that the writer reads from its
tarn in error: row and outcome. `flips` changes bytes of its stream: its CRC-64 then differs from the agreed one, which is
a mismatch. A change that leaves the CRC is none (R162; DEDUCED, log entry 61). -/
def execCommitAck (t : TileId) (flips : List (Nat × Byte)) (tarn : List (Nat × Ecc)) (s : State) :
    Host.Outcome State Fault Refusal :=
  match s.ctx t with
  | none => .next s
  | some c =>
    match c.phase, c.writer, c.writer.bind c.resultOf with
    | .commit, some e, some r =>
      let x := sramEcc (s.flipAt (sramTarn e) 0) .clean
      let tarn := if x = .clean then tarn else (0, x) :: tarn
      let s := tarn.foldl (fun s x => s.tarnRead e x.1 x.2) (s.unflip (sramTarn e) 0)
      if tarn.any fun x => x.2 == .uncorrectable then .next (s.writerGone t e) else
      let w := s.tileWidth t
      let bs := streamed w r flips
      let k := s.stagingBlock c r
      let k : SnoopBlock := if flips.isEmpty then k else { k with
        bytes := canonical t w r.codes.length [] [] ++ bs ++ r.cout.flatMap fun c => toLE 2 (twos 16 c) }
      let torn := !flips.isEmpty && Crc.crc64 k.bytes != r.crc
      let bad := torn || s.snoopBad k
      let s := if torn then s.store (2 + clusterOf e) (c.slot.getD 0) bs else s
      let s := s.snoop k
      if bad then .next (s.mismatch t)
      else if s.late c.tF then .next (s.blankTile t 1)
      else .next (s.commit c e r)
    | _, _, _ => .next s

/-- FIRE_DEADLINE (R200): the fire deadline of tile `t` comes and it is neither committed nor blanked. -/
def execFireDeadline (t : TileId) (s : State) : Host.Outcome State Fault Refusal :=
  match s.swath t.layer t.swath with
  | none => .next s
  | some w =>
    if w.startAt.isSome ∧ (s.unresolved w).contains t then .next (s.blankTile t 1) else .next s

/-- A spare takes the place of an engine that has left cluster `n` (R205). -/
def State.promoteSpare (s : State) (n : Nat) : State :=
  if s.ver.promote.contains n then
    let s : State := { s with ver := { s.ver with promote := s.ver.promote.erase n } }
    match s.spareOf n <|> (List.range 4).findSome? s.spareOf with
    | some e => (s.onEngine e fun x => { x with svc := .inService }).raise .degraded Reg.VER_EVENT
        Fld.VER_EVENT_PROMOTE 0 e
    | none => s
  else s

/-- SPARE_PROMOTE (R205): the tile-row boundary comes for a departure from cluster `n`. -/
def execSparePromote (n : Fin 4) (s : State) : Host.Outcome State Fault Refusal := .next (s.promoteSpare n)

/-- Engines IN_SERVICE. -/
def State.enginesIn (s : State) : Nat := (s.ver.engines.filter fun x => x.svc == .inService).length

/-- Engines IN_SERVICE that no OUT waits for. -/
def State.staying (s : State) : Nat :=
  (s.ver.engines.filter fun x => x.svc == .inService && x.outReq.isNone).length

/-- VER_ENG_OUT (R206, R208): CMD OUT is written to VER_ENG_CTRL for engine `n` over `path`. -/
def execVerEngOut (path : Path) (n : Fin 64) (s : State) : Host.Outcome State Fault Refusal :=
  match s.engine n.val with
  | none => .next s
  | some x =>
    let ask : State := s.onEngine n fun x => { x with outReq := some path }
    let refuse := s.accFlag path Reg.VER_ENG_CTRL .refused
    match x.svc with
    | .inService => if x.outReq.isSome then .next s else if s.staying < 5 then .next refuse else .next ask
    | .spare => if x.outReq.isSome then .next s else if s.staying < 4 then .next refuse else .next ask
    | _ => .next refuse

/-- VER_ENG_RETURN (R206, R208): CMD RETURN is written to VER_ENG_CTRL for engine `n`. -/
def execVerEngReturn (n : Fin 64) (s : State) : Host.Outcome State Fault Refusal :=
  match s.engine n.val with
  | some x =>
    if x.svc = .out then
      .next (s.onEngine n fun x => { x with svc := .selftest, stFails := 0, shadowN := 0 })
    else .next s
  | none => .next s

/-- ENG_OUT_APPLY (R205, R206): the tile-row boundary comes for a commanded OUT of engine `e`, and with it for the
promotion of its cluster's spare. -/
def execEngOutApply (e : Fin 40) (s : State) : Host.Outcome State Fault Refusal :=
  match s.engine e.val with
  | some x =>
    if x.outReq.isSome ∧ (x.svc = .inService ∨ x.svc = .spare) then
      let t := s.engineLeaves e .out
      .next (if x.svc = .inService then t.promoteSpare (clusterOf e) else t)
    else .next s
  | none => .next s

/-- ENG_SELFTEST_DONE (R206): the self-test of engine `e` ends. -/
def execEngSelftestDone (e : Fin 40) (pass : Bool) (s : State) : Host.Outcome State Fault Refusal :=
  match s.engine e.val with
  | some x =>
    if x.svc = .selftest then
      if pass then .next (s.onEngine e fun x => { x with svc := .shadow, shadowN := 0, stFails := 0 })
      else
        let n := min (x.stFails + 1) 3
        .next (s.onEngine e fun x => { x with stFails := n, svc := if n ≥ 3 then .out else .selftest })
    else .next s
  | none => .next s

/-- Engines IN_SERVICE of cluster `n`. -/
def State.clusterIn (s : State) (n : Nat) : Nat :=
  ((List.range 10).filter fun i => s.svc (10 * n + i) == .inService).length

/-- ENG_SHADOW_RETURN (R206): the tile-row boundary after 16 matching shadow tiles of engine `e`. -/
def execEngShadowReturn (e : Fin 40) (s : State) : Host.Outcome State Fault Refusal :=
  match s.engine e.val with
  | some x =>
    if x.svc = .shadow ∧ 16 ≤ x.shadowN then
      let dest : Svc := if s.clusterIn (clusterOf e) < 9 then .inService else .spare
      .next ((s.onEngine e fun x => { x with svc := dest, shadowN := 0, dose := none, parked := none, quant := none }).event
        Reg.VER_EVENT Fld.VER_EVENT_ENG_BACK)
    else .next s
  | none => .next s

/-! ### AVS (R26, R182) -/

/-- The ceiling of cluster `n` in MHz (R182, R617). -/
def State.avsTop (s : State) (n : Nat) : Nat :=
  if s.flag Reg.HM_STATUS Fld.HM_STATUS_THROTTLE then 800
  else min (max (s.fld (Reg.CE_CL_CFG n) Fld.CE_CL_CFG_MAX_MHZ) 800) 1050

/-- A change of cluster `n` to `mhz`, within its ceiling, begins (R26). A request that finds a change of the cluster in
progress is dropped: the spec gives it no effect and no queue (DESIGN CHOICE, log entry 61). -/
def State.avsBegin (s : State) (n mhz : Nat) : State :=
  if s.avsBusy n then s
  else
    let s : State := { s with ver := { s.ver with
      avs := s.ver.avs ++ [(n, min (max mhz 800) (s.avsTop n), s.clk.ticks)] } }
    s.setFld (Reg.CE_CL_STATUS n) Fld.CE_CL_STATUS_AVS_BUSY 1

/-- AVS_CHANGE_REQUEST (R26, R182): cluster `n` is to run at `mhz`, within its ceiling. -/
def execAvsChangeRequest (n : Fin 4) (mhz : Nat) (s : State) : Host.Outcome State Fault Refusal :=
  .next (s.avsBegin n mhz)

/-- The AVS change of cluster `n` is over. -/
def State.avsEnd (s : State) (n : Nat) : State :=
  ({ s with ver := { s.ver with avs := s.ver.avs.filter fun a => a.1 != n } }).setFld
    (Reg.CE_CL_STATUS n) Fld.CE_CL_STATUS_AVS_BUSY 0

/-- The clock of cluster `n` is `mhz` (R181). -/
def State.setClk (s : State) (n mhz : Nat) : State := s.setFld (Reg.CE_CL_STATUS n) Fld.CE_CL_STATUS_CLK_MHZ mhz

/-- The clusters run at the AVS points their ceilings allow, as the step into RUN brings them (R599; which point a
cluster is brought to is not stated: DESIGN CHOICE, log entry 61). -/
def State.clocksUp (s : State) : State := (List.range 4).foldl (fun s n => (s.avsEnd n).setClk n (s.avsTop n)) s

/-- The clusters stand at their lowest AVS point, as in IDLE (R26, R595, R599). -/
def State.clocksLow (s : State) : State := (List.range 4).foldl (fun s n => (s.avsEnd n).setClk n 800) s

/-- An engine of cluster `n` is in the midst of a tile: in the dose stages, parked or being quantised. -/
def State.clusterBusy (s : State) (n : Nat) : Bool :=
  (List.range 10).any fun i => match s.engine (10 * n + i) with
    | some x => x.dose.isSome || x.parked.isSome || x.quant.isSome
    | none => false

/-- AVS_SETTLED (R26): the new point settles, once every engine has completed its tile. -/
def execAvsSettled (n : Fin 4) (s : State) : Host.Outcome State Fault Refusal :=
  match s.ver.avs.find? fun a => a.1 == n.val with
  | none => .next s
  | some (_, mhz, _) =>
    if s.clusterBusy n.val then .next s
    else .next (((s.avsEnd n).setClk n mhz).count
      (Reg.CE_CL_AVS_CHANGES n.val) 1).retryVotes

/-- AVS_CHANGE_ABANDON (R26): 50 µs pass and the point has not settled. The spec numbers no unit for a cluster (R644):
the record names block CE and the unit of the verification and tile scheduler (DESIGN CHOICE, log entry 61). -/
def execAvsChangeAbandon (n : Fin 4) (s : State) : Host.Outcome State Fault Refusal :=
  if s.avsBusy n.val then
    .next (((s.avsEnd n).count (Reg.CE_CL_AVS_ABANDON n.val) 1).logErr .corrected 8 (errCodeNone 0)
      unitVer 0).retryVotes
  else .next s

end Sys2Proof.Machine
end

