-- ==== Sys2Proof/Machine/HeadCore.lean ====
section
/-! DEFINITION. What head ports share: frames, delivery, hand-overs, lost heads and port states (R285 to
R298, R307, R308, R314, R317 to R320). -/

namespace Sys2Proof.Machine

open Sys2Proof.Bits

/-! ### Lines that do not fire (R262) -/

/-- INFO of line events and of head ports (R645). -/
def lineInfo (line row head : Nat) : Nat := line % 2 ^ 32 + 2 ^ 32 * (row % 65536) + 2 ^ 48 * (head % 8)

/-- The row-line has been counted MISSED. -/
def Swath.missedOnce (w : Swath) (row line : Nat) : Bool := w.missedAt.contains (row, line)

/-- A row-line of a swath is MISSED (R262), for `head` or, with 0xFF, for every head. It counts once, however many heads
miss it. -/
def State.missed (s : State) (layer swath port head row line cause : Nat) : State :=
  let again := ((s.swath layer swath).map fun w => w.missedOnce row line).getD false
  let s := s.swathEv layer swath ⟨3, cause, port, head, row, line, line, 0, 0xFFFFFFFF⟩
  if again then s
  else
    let s := s.onSwath layer swath fun w => { w with missedAt := (row, line) :: w.missedAt }
    (s.count Reg.GY_MISSED 1).raiseInfo .contained Reg.GY_EVENT Fld.GY_EVENT_MISSED cause unitGy
      (lineInfo line row head)

/-- Every row of command `c` is MISSED at its head. -/
def State.cmdMissed (s : State) (p : Nat) (c : FireCmd) (cause : Nat) : State :=
  c.rows.foldl (fun s r => s.missed c.layer c.swath p c.head r.row r.line cause) s

/-! ### Sideband requests (R291, R309) -/

/-- Request `r` goes to head `h` (R292). -/
def State.sbSend (s : State) (p h : Nat) (r : SbReq) : State :=
  let s := s.sendFrame p h 7 (toLE 1 r.op ++ [0] ++ toLE 2 r.offset ++ toLE 2 r.length ++ [0, 0])
  s.onHead p h fun x => { x with sb := some { r with sends := r.sends + 1 } }

/-- Request `r` for head `h`: sent, or behind the one in flight. A port that goes to LS or LD starts no request (R418). -/
def State.sbAsk (s : State) (p h : Nat) (r : SbReq) : State :=
  if (s.headLink p h).sb.isNone ∧ ¬ s.headShut p then s.sbSend p h r
  else s.onHead p h fun x => { x with sbQueue := x.sbQueue ++ [r] }

/-- The requests of one full identity read (R292, R309): four of 1,024 bytes. -/
def identReqs : List SbReq := (List.range 4).map fun (i : Nat) => ⟨1, 1024 * i, 1024, 0⟩

/-- Head `h`'s identity memory is read in full. -/
def State.askIdent (s : State) (p h : Nat) : State :=
  let s := s.onHead p h fun x => { x with ident := [] }
  identReqs.foldl (fun s r => s.sbAsk p h r) s

/-- The next request that waits for head `h` goes, where none is in flight. -/
def State.sbKick (s : State) (p h : Nat) : State :=
  match (s.headLink p h).sb, (s.headLink p h).sbQueue with
  | none, r :: t => if s.headShut p then s else (s.onHead p h fun x => { x with sbQueue := t }).sbSend p h r
  | _, _ => s

/-- The request in flight is over; the next waiting one goes. A port that waits for quiet may have reached it (R418). -/
def State.sbNext (s : State) (p h : Nat) : State :=
  ((s.onHead p h fun x => { x with sb := none }).sbKick p h).pwrCheck (5 + p)

/-- Head port `p` carries frames again: what has come meanwhile goes out (R418). -/
def State.headUnpark (s : State) (p : Nat) : State :=
  let fs := (s.port p).parked
  let s := fs.foldl (fun s fr => s.sendHead p fr) (s.onPort p fun x => { x with parked := [] })
  (List.range 8).foldl (fun s h => s.sbKick p h) s

/-! ### Hand-overs (R297, R314) -/

/-- The material of port `p` in layer `l`. -/
def State.portMat (s : State) (l : Layer) (p : Nat) : Option MaterialRec :=
  portMaterial l.materials s.node p

/-- Code bytes of `n` beams at `w` bits, padded to 4 (R293). -/
def codeBytes4 (n w : Nat) : Nat := divUp (divUp (n * w) 8) 4 * 4

/-- B of R297 for port `p` at code width `w`. -/
def linkBytes (t : List (Nat × Word)) (p w : Nat) : Nat :=
  (List.range 8).foldl (fun n h => (headRows t p h).foldl (fun n r =>
    n + 52 + codeBytes4 (headRow t r h).length w) n) 0

/-- CMD_LEAD in ns (R258, R278). -/
def State.cmdLeadNs (s : State) : Nat :=
  min (max (s.fld Reg.GY_CFG Fld.GY_CFG_CMD_LEAD_US) 4) 50 * 1000

/-- Q_P of R297 in ns; none while the port has no rate. -/
def State.linkTime (s : State) (p w : Nat) : Option Nat :=
  let r := s.regN (Reg.HP_PORT_RATE p)
  if r = 0 then none else some (divUp (linkBytes s.bmap p w * 8000) r)

/-- The WAVE_CRC of head `h`: over the payload it holds (R312). -/
def State.waveCrc (s : State) (p h : Nat) : Nat := Crc.crc32c (s.headLink p h).wave

/-- LOCAL numbers of the beams of head `h` captured DEAD, ascending (R292). -/
def deadLocals (t : List (Nat × Word)) (st : List (Nat × Nat)) (p h : Nat) : List Nat :=
  let bs := (st.filter fun x => x.2 % 4 == 2).map (·.1)
  let bs := bs.filter fun b => (beamE t b).port == p && (beamE t b).head == h
  (sortX (bs.map fun b => (((beamE t b).index : Int), 0))).map fun x => x.1.toNat

/-- One send more to head `h`. -/
def HandOver.sentTo (o : HandOver) (h : Nat) : HandOver := { o with sends := Kv.set o.sends h (Kv.getD o.sends h 0 + 1) }

/-- The hand-over `o` goes to head `h`: WAVE when the head's set changed or `again` asks for it, then HANDOVER
(R314). -/
def State.sendHandOver (s : State) (p h : Nat) (o : HandOver) (again : Bool) : State :=
  match s.layer o.layer, s.swath o.layer o.swath with
  | some l, some w =>
    let held := (s.headLink p h).wave
    let pay := match s.portMat l p with
      | some m => wavePayload (Kv.getD s.hp.waves.active m.waveSet (List.replicate 4096 0)) o.hoId
          (s.ident p h 7 1 % 16)
      | none => held
    let changed := pay.drop 2 != held.drop 2
    let s := if changed then s.onHead p h fun x => { x with wave := pay } else s
    let s := if changed || again then s.sendFrame p h 5 (s.headLink p h).wave else s
    let dead := deadLocals s.bmap w.status p h
    let s := s.sendFrame p h 6 (toLE 2 o.hoId ++ toLE 2 o.swath ++ toLE 4 o.layer ++ toLE 4 (s.waveCrc p h) ++
      toLE 4 dead.length ++ dead.flatMap (toLE 2))
    s.onPort p fun x => { x with hos := x.hos.map fun y => if y.hoId = o.hoId then y.sentTo h else y }
  | _, _ => s

/-- Hand-over `o` goes to every head of port `p` for the first time. -/
def State.sendHandOvers (s : State) (p : Nat) (o : HandOver) : State :=
  (s.headsOf p).foldl (fun s h => s.sendHandOver p h o false) s

/-- Heads that the beam map names on port `p` (R308, R320). -/
def State.mapHeads (s : State) (p : Nat) : Nat :=
  (List.range (hdrNbeam s.bmap)).foldl (fun n b =>
    let e := beamE s.bmap b
    if e.port = p then max n (e.head + 1) else n) 0

/-- Every head that the beam map names on port `p` is there (R308). -/
def State.chainWhole (s : State) (p : Nat) : Bool := (List.range (s.mapHeads p)).all fun h => s.headPresent p h

/-- The port has acknowledged the hand-over of a swath (R314, R35). -/
def State.portAcked (s : State) (p layer swath : Nat) : Bool :=
  (s.port p).hos.any fun o => o.layer == layer && o.swath == swath && s.hoDone p o

/-- The link budget of a swath on port `p` (R297): HP_BUDGET_NS takes Q_P, and true where it is too long. -/
def State.budget (s : State) (l : Layer) (p : Nat) : Bool × State :=
  match s.portMat l p with
  | none => (false, s)
  | some m =>
    match s.linkTime p (codeWidth m) with
    | none => (false, s)
    | some q => (decide (s.cmdLeadNs - 2100 < q), s.setRegN (Reg.HP_BUDGET_NS p) q)

/-- LINK_BUDGET stops layer `q` (R297). -/
def State.budgetStop (s : State) (p q : Nat) : State :=
  let s := s.onPort p fun x => { x with hos := x.hos.map fun o =>
    if o.layer == q then { o with refused := true } else o }
  (s.raiseInfo .stopping Reg.HP_EVENT Fld.HP_EVENT_BUDGET 0 (unitHp p) 0).stopLayer q

/-! ### Port states (R308, R317, R320) -/

/-- TIME_LOCK of port `p` (R303): every head of its chain, those enumerated, is there, LOCKED and near enough. -/
def State.timeLock (s : State) (p : Nat) : Bool :=
  let lim := max (s.fld Reg.HP_CFG Fld.HP_CFG_RESID_PS) 1
  (List.range 8).all fun h => (s.portHeads p ≤ h && !s.headPresent p h) ||
    (s.headPresent p h && s.flag (Reg.HP_HEAD_INFO p h) Fld.HP_HEAD_INFO_LOCKED &&
      decide ((s.headLink p h).resid.natAbs ≤ lim))

/-- HP_PORT_STATUS shows TIME_LOCK (R303, R324, R326). -/
def State.timeShow (s : State) (p : Nat) : State :=
  let lock := s.timeLock p
  let old := s.flag (Reg.HP_PORT_STATUS p) Fld.HP_PORT_STATUS_TIME_LOCK
  let s := s.setFld (Reg.HP_PORT_STATUS p) Fld.HP_PORT_STATUS_TIME_LOCK (b2n lock)
  if s.portState p = 6 ∧ old ∧ ¬ lock then s.event Reg.HP_EVENT Fld.HP_EVENT_TIME_UNLOCK else s

/-- A narrowing is over once every head that is left has echoed it: what has waited goes out (R317). -/
def State.narrowCheck (s : State) (p : Nat) : State :=
  match (s.port p).narrow with
  | none => s
  | some (_, seen) =>
    if ((s.headsOf p).all fun h => seen.contains h) = true then
      ((s.port p).held.foldl (fun s fr => s.sendOn (5 + p) fr)
        (s.onPort p fun x => { x with narrow := none, held := [] })).pwrCheck (5 + p)
    else s

/-- Head `h` of port `p` and every head beyond it are lost (R308). -/
def State.headsLost (s : State) (p h : Nat) : State :=
  let lost := (s.headsOf p).filter fun x => h ≤ x
  if lost.isEmpty then s else
  let x := s.port p
  let dropped := x.queue.filter fun c => lost.contains c.head
  let flying := (x.sentFrames.filter fun f => lost.contains f.head && decide (s.now16 < f.cmd.fire)).map (·.cmd)
  let s := s.onPort p fun x => { x with
    queue := x.queue.filter fun c => !lost.contains c.head
    sentFrames := x.sentFrames.filter fun f => !lost.contains f.head }
  let s := (dropped ++ flying).foldl (fun s c => s.cmdMissed p c 6) s
  let s := lost.foldl (fun s h =>
    (s.setFld (Reg.HP_HEAD_INFO p h) Fld.HP_HEAD_INFO_PRESENT 0).onHead p h fun x =>
      { x with sb := none, sbQueue := [] }) s
  let s : State := { s with gy := { s.gy with temps := s.gy.temps.filter fun t =>
    !(lost.contains (t.1 % 8) && t.1 / 8 == p) } }
  let s := (s.timeShow p).narrowCheck p
  s.raiseInfo .stopping Reg.HP_EVENT Fld.HP_EVENT_HEAD_LOST 0 (unitHp p) (lineInfo 0 0 h)

/-- Head `h` of port `p` is lost in service: from READY the port goes to ENUM when it may, and from a state
before READY at once (R308, R320). -/
def State.headLost (s : State) (p h : Nat) : State :=
  let st := s.portState p
  let s := s.headsLost p h
  if st = 6 then (s.onPort p fun x => { x with toEnum := true, afterLoss := true, attempts := 0 }).toEnumCheck p
  else if 3 ≤ st ∧ st ≤ 5 then s.enterEnum p
  else s

/-- R_P in Mbit/s for a lane mask (R288). -/
def rateOf (mask : Nat) : Nat :=
  match (List.range 4).foldl (fun n i => n + b2n (bit mask i)) 0 with
  | 4 => 38000
  | 3 => 28500
  | 2 => 19000
  | _ => 0

/-- Port `p` runs on lane mask `m` (R288, R326). -/
def State.setLanes (s : State) (p m : Nat) : State :=
  let s := (s.setFld (Reg.HP_PORT_STATUS p) Fld.HP_PORT_STATUS_LANES m).setRegN (Reg.HP_PORT_RATE p) (rateOf m)
  s.setFld (Reg.HP_PORT_STATUS p) Fld.HP_PORT_STATUS_DEGRADED (b2n (m % 16 != 15))

/-- Lanes trained on every segment of port `p`: those of its first segment and of every segment that a head
reports beyond it (R317). -/
def State.commonLanes (s : State) (p : Nat) : Nat :=
  let hs := s.headsOf p
  (hs.dropLast).foldl (fun m h => m &&& (s.headLink p h).segLanes) ((s.port p).trained % 16)

/-- The port limit of R288 on a swath's line rate, where its port carries beams. -/
def State.portLimit (s : State) (l : Layer) (p : Nat) : Option Nat :=
  match s.portMat l p with
  | some m =>
    let n := portBeams s.bmap p * codeWidth m
    if n = 0 then none else some (s.regN (Reg.HP_PORT_RATE p) * 1000000 / n)
  | none => none

/-- A captured swath whose surveyed rate exceeds the limit of a port at its present width is surveyed again
with it (R318). -/
def State.resurvey (s : State) (w : Swath) : State :=
  match s.layer w.layer with
  | none => s
  | some l =>
    let lim := w.ports.filterMap (s.portLimit l)
    let rate := lim.foldl min w.rate
    if rate = w.rate then s
    else
      let s := s.onSwath w.layer w.idx fun x => { x with rate := rate }
      { s with surveys := s.surveys.map fun v =>
          if v.layer == w.layer && v.swath == w.idx then { v with rate := rate, limiter := 2 } else v }

/-- LWIDTH with mask `m` goes out 16 times on every lane of port `p` still trained, and the heads' echoes are awaited
(R289, R317). -/
def State.sendLwidth (s : State) (p m : Nat) : State :=
  (s.setOn (5 + p) ((s.port p).trained % 16) (setsOf 16 (setLwidth m))).onPort p fun x => { x with narrow := some (m, []) }

/-- A captured swath on port `p`, not yet acknowledged, is surveyed and its link time checked at the new width (R297,
R318). -/
def State.recheck (s : State) (p : Nat) (w : Swath) : State :=
  let s := s.resurvey w
  match s.layer w.layer with
  | none => s
  | some l =>
    let (bad, s) := s.budget l p
    if bad then s.budgetStop p l.seq else s

/-- Port `p` narrows to mask `m` (R317): LWIDTH goes out, the rate changes at once, and sending resumes when
every head has echoed. A mask of fewer than two lanes faults the port. -/
def State.narrowTo (s : State) (p m : Nat) : State :=
  let s := s.setLanes p m
  if rateOf m = 0 then (s.headsLost p 0).portFault p 1
  else
    let s := (s.sendLwidth p m).raiseInfo .degraded Reg.HP_EVENT Fld.HP_EVENT_DEGRADE 0 (unitHp p) 0
    (s.gy.swaths.filter fun w => w.state == .captured && w.ports.contains p &&
      !s.portAcked p w.layer w.idx).foldl (fun s w => s.recheck p w) s

/-- The lanes of port `p` have changed: a chain with fewer common lanes than its mask narrows, in any state but
DISABLED (R317, R320), once a narrowing in progress has completed (R425). -/
def State.laneCheck (s : State) (p : Nat) : State :=
  let m := s.lanes p &&& s.commonLanes p
  if s.portState p ≠ 0 ∧ m ≠ s.lanes p ∧ (s.port p).narrow.isNone then (s.narrowTo p m).narrowCheck p else s

/-- Lanes re-admitted join at a capture at which no swath using the port is ARMED or RUNNING (R319). -/
def State.widen (s : State) (p : Nat) : State :=
  let m := s.lanes p ||| s.commonLanes p
  if s.portState p = 6 ∧ m ≠ s.lanes p ∧ (s.port p).narrow.isNone ∧ ¬ s.portSwath p SwathState.live then
    (((s.setLanes p m).sendLwidth p m).event Reg.HP_EVENT Fld.HP_EVENT_WIDEN).event
      Reg.LN_EVENT Fld.LN_EVENT_LANE_BACK
  else s

/-- Port `p` enters LOAD (R295, R320): row maps go to every head, and hand-overs of captured swaths. With
none to acknowledge it is READY. -/
def State.rowMaps (s : State) (p : Nat) : State :=
  let t := s.bmap
  (s.headsOf p).foldl (fun s h => (headRows t p h).foldl (fun s r =>
    let bs := headRow t r h
    s.sendFrame p h 4 (toLE 2 r ++ toLE 2 bs.length ++ bs.flatMap fun b => toLE 2 (beamE t b).index)) s) s

/-- Port `p` enters LOAD: row maps, and every hand-over of a swath in flight anew. -/
def State.enterLoad (s : State) (p : Nat) : State :=
  let hos := (s.hosOpen p).map fun o => { o with acked := [], sends := [] }
  let s := ((s.setPortState p 5).rowMaps p).onPort p fun x => { x with hos := hos }
  ((s.port p).hos.foldl (fun s o => s.sendHandOvers p o) s).loadCheck p

end Sys2Proof.Machine
end

