-- ==== Sys2Proof/Machine/Paths.lean ====
section
/-! DEFINITION. The LO latches and staging of each register path (R15, R16, R668). -/

namespace Sys2Proof.Machine

open Sys2Proof.Bits

/-- The path whose set of latches a path uses: the image uses the management port's (R668). -/
def Path.key : Path → Path
  | .image => .mgmt
  | p => p

/-- The latches and staged halves of path `p`. -/
def State.pathSt (s : State) (p : Path) : PathSt :=
  (s.paths.find? fun x => x.path == p.key).getD ⟨p.key, [], []⟩

/-- The state with the latches of path `p` changed by `f`. -/
def State.onPath (s : State) (p : Path) (f : PathSt → PathSt) : State :=
  { s with paths := s.paths.filter (fun x => x.path != p.key) ++ [f (s.pathSt p)] }

/-- A write of the LO half at `a` stages it (R15). -/
def State.stageLo (s : State) (p : Path) (a : Nat) (w : Word) : State :=
  s.onPath p fun x => { x with staged := Kv.set x.staged a w }

/-- The low half that a write of HI commits for the pair at `a`: staged, else the low half that stands
(R15). -/
def State.stagedLo (s : State) (p : Path) (a : Nat) : Word :=
  (Kv.get (s.pathSt p).staged a).getD (s.reg a)

/-- The staged half of the pair at `a` is used up. -/
def State.unstage (s : State) (p : Path) (a : Nat) : State :=
  s.onPath p fun x => { x with staged := Kv.del x.staged a }

/-- A write of the HI half commits the pair whose LO is at `a` (R15). -/
def State.commitPair (s : State) (p : Path) (a : Nat) (hi : Word) : State :=
  let lo := s.stagedLo p a
  ((s.unstage p a).setReg a lo).setReg (a + 4) hi

/-- A read of LO at `a` latches the HI half `hi` (R15). -/
def State.latchHi (s : State) (p : Path) (a : Nat) (hi : Word) : State :=
  s.onPath p fun x => { x with latch := Kv.set x.latch (a + 4) hi }

/-- A read of HI at `a`: the latched half once, else `now` (R15). -/
def State.readHi (s : State) (p : Path) (a : Nat) (now : Word) : Word × State :=
  match Kv.get (s.pathSt p).latch a with
  | some w => (w, s.onPath p fun x => { x with latch := Kv.del x.latch a })
  | none => (now, s)

end Sys2Proof.Machine
end

