-- ==== Sys2Proof/Machine/Slots.lean ====
section
/-! DEFINITION. The timed-action table (R347 to R353). -/

namespace Sys2Proof.Machine

open Sys2Proof.Bits

/-- ST of slot `n` (R367). -/
def State.slotSt (s : State) (n : Nat) : Nat := s.fld (Reg.TA_SLOT_STATE n) Fld.TA_SLOT_STATE_ST

/-- A slot is ARMED or DISPATCHED. -/
def State.slotsBusy (s : State) : Bool := (List.range 256).any fun n => s.slotSt n == 1 || s.slotSt n == 2

/-- The timestamp of slot `n`, flat; FRAC bits [9:0] are ignored (R348). -/
def State.slotTime (s : State) (n : Nat) : Nat :=
  flat (s.pair (Reg.TA_SLOT_SEC_LO n)) (s.regN (Reg.TA_SLOT_NS n))
    (s.fld (Reg.TA_SLOT_CTL n) Fld.TA_SLOT_CTL_FRAC / 1024 * 1024)

/-- The code of slot `n`. -/
def State.slotCode (s : State) (n : Nat) : Nat := s.fld (Reg.TA_SLOT_CTL n) Fld.TA_SLOT_CTL_CODE

/-- Slot `n` enters state `st` (R367). -/
def State.setSlot (s : State) (n st : Nat) : State :=
  s.setFld (Reg.TA_SLOT_STATE n) Fld.TA_SLOT_STATE_ST st

/-- The lead of an action in 2^-16 ns (R348). -/
def leadOf (code : Nat) : Nat :=
  (match code with | 1 => 2000 | 2 => 1000 | 3 => 200 | 4 => 1000 | 5 => 1000 | _ => 100) * 65536

/-- The code is valid in slot `n` (R348). -/
def codeValid (code n : Nat) : Bool := 1 ≤ code && code ≤ 7 && (3 ≤ code || 128 ≤ n)

/-- Arming of slot `n` would fail (R350). -/
def State.armFails (s : State) (n : Nat) : Bool :=
  let st := s.slotSt n
  st == 1 || st == 2 || decide (999999999 < s.regN (Reg.TA_SLOT_NS n)) || !codeValid (s.slotCode n) n

/-- Slot `n` is armed (R350); where it is late it is dispatched at once, and acts its lead after now, on the
first tap. -/
def State.armSlot (s : State) (n : Nat) : State :=
  let l := leadOf (s.slotCode n)
  let s := s.setFld (Reg.TA_SLOT_STATE n) Fld.TA_SLOT_STATE_LATE_US 0
  if s.slotTime n < s.now16 + l then
    let act := divUp (s.now16 + l) 1024 * 1024
    let s : State := { s with due := s.due ++ [⟨n, act, true⟩] }
    let s := (s.setSlot n 2).count Reg.TA_LATE 1
    let s := s.setRegN Reg.TA_LAST_LATE (n + 256 * s.slotCode n)
    s.raise .corrected Reg.TA_EVENT Fld.TA_EVENT_LATE 0 unitTa
  else s.setSlot n 1

/-- Firmware arms one of its slots for time `t` (R347): none free, and TA_EVENT.FULL is set. -/
def State.fwArm (s : State) (t code arg0 arg1 : Nat) : Bool × State :=
  match (List.range 128).find? fun i => s.slotSt (128 + i) != 1 && s.slotSt (128 + i) != 2 with
  | none => (false, s.event Reg.TA_EVENT Fld.TA_EVENT_FULL)
  | some i =>
    let n := 128 + i
    let s := s.setPair (Reg.TA_SLOT_SEC_LO n) (t / 65536 / 1000000000)
    let s := s.setRegN (Reg.TA_SLOT_NS n) (t / 65536 % 1000000000)
    let s := s.setRegN (Reg.TA_SLOT_CTL n) (t % 65536 + 65536 * code)
    let s := (s.setRegN (Reg.TA_SLOT_ARG0 n) arg0).setRegN (Reg.TA_SLOT_ARG1 n) arg1
    (true, s.armSlot n)

/-- The slot dispatched next (R349, R351): the earliest instant of dispatch, then the lowest number. -/
def State.nextSlot (s : State) : Option Nat :=
  (List.range 256).foldl (fun b n =>
    if s.slotSt n = 1 then
      match b with
      | none => some n
      | some m =>
        if s.slotTime n + leadOf (s.slotCode m) < s.slotTime m + leadOf (s.slotCode n) then some n else some m
    else b) none

/-- Slot `n`, ARMED, is dispatched to act at its timestamp (R349). -/
def State.dispatch (s : State) (n : Nat) : State :=
  ({ s with due := s.due ++ [⟨n, s.slotTime n, false⟩] } : State).setSlot n 2

/-- TA_DISPATCH (R349): the counter reaches the instant of the slot dispatched next. -/
def execTaDispatch (s : State) : Host.Outcome State Fault Refusal :=
  if ¬ s.clk.pllLocked then .next s
  else match s.nextSlot with
    | none => .next s
    | some n => .next ((s.runTo (s.slotTime n - leadOf (s.slotCode n))).dispatch n)

/-- TA_DISARM (R352): TA_CTRL with OP DISARM for slot `n`. In the tick of its dispatch the slot is dispatched. -/
def execTaDisarm (path : Path) (n : Fin 256) (s : State) : Host.Outcome State Fault Refusal :=
  if 128 ≤ n.val then .next (s.accFlag path Reg.TA_CTRL .owner)
  else match s.slotSt n with
    | 1 =>
      if s.clk.pllLocked ∧ s.slotTime n ≤ s.now16 + leadOf (s.slotCode n) then
        .next ((s.dispatch n).event Reg.TA_EVENT Fld.TA_EVENT_DISARM_FAIL)
      else .next (s.setSlot n 0)
    | 2 => .next (s.event Reg.TA_EVENT Fld.TA_EVENT_DISARM_FAIL)
    | _ => .next s

/-- Action `d` acts before `e`: by instant, and at one instant in slot order (R351). -/
def TaDue.before (d e : TaDue) : Bool := decide (d.act < e.act ∨ (d.act = e.act ∧ d.slot < e.slot))

/-- `d` in its place of a list of actions. -/
def dueInsert (d : TaDue) (l : List TaDue) : List TaDue := insertBefore TaDue.before d l

/-- The dispatched actions in the order in which they act (R351). -/
def State.dueOrder (s : State) : List TaDue := s.due.foldl (fun l d => dueInsert d l) []

/-- The dispatched action with code `code` that acts first (R351). -/
def State.dueAction (s : State) (code : Nat) : Option TaDue :=
  s.dueOrder.find? fun d => s.slotCode d.slot == code

/-- Actions of the firmware that wait for a slot take those that are free, the oldest first (R347). -/
def State.armWaiting (s : State) : Nat → State
  | 0 => s
  | n + 1 =>
    match s.fab.waits with
    | [] => s
    | w :: ws =>
      let (ok, t) := s.fwArm w.time w.code w.arg0 w.arg1
      if ok then ({ t with fab := { t.fab with waits := ws } } : State).armWaiting n else s

/-- The firmware arms one of its slots for time `t`, or waits for one (R347). -/
def State.fwArmOrWait (s : State) (t code arg0 arg1 : Nat) : State :=
  let (ok, s) := s.fwArm t code arg0 arg1
  if ok then s else { s with fab := { s.fab with waits := s.fab.waits ++ [⟨t, code, arg0, arg1⟩] } }

/-- The target reports action `d` (R349, R350): done, or refused. -/
def State.endAction (s : State) (d : TaDue) (ok : Bool) : State :=
  let s : State := { s with due := s.due.erase d }
  let s :=
    if ok then
      if d.late then
        (s.setSlot d.slot 4).setFld (Reg.TA_SLOT_STATE d.slot) Fld.TA_SLOT_STATE_LATE_US
          (min ((d.act - s.slotTime d.slot) / 65536000) 0xFFFF)
      else s.setSlot d.slot 3
    else
      ((s.setSlot d.slot 5).setFld (Reg.TA_SLOT_STATE d.slot) Fld.TA_SLOT_STATE_LATE_US 0).event Reg.TA_EVENT
        Fld.TA_EVENT_FAILED
  s.armWaiting s.fab.waits.length

/-- Action `d` acts at its instant: `f` is its effect on ARG0 and ARG1, with whether the target accepts it. A target that
reports `first` does so before the effect (R355). -/
def State.actDue (s : State) (d : TaDue) (first : Bool) (f : State → Nat → Nat → Bool × State) : State :=
  let s := s.runTo d.act
  if s.now16 < d.act then s
  else if first then
    let (ok, t) := f (s.endAction d true) (s.regN (Reg.TA_SLOT_ARG0 d.slot)) (s.regN (Reg.TA_SLOT_ARG1 d.slot))
    if ok then t else t.endAction d false
  else
    let (ok, s) := f s (s.regN (Reg.TA_SLOT_ARG0 d.slot)) (s.regN (Reg.TA_SLOT_ARG1 d.slot))
    s.endAction d ok

/-- GLB_GPIO_OUT is written in this cycle: the write comes after a GPIO_SET of the cycle, and governs (R685). -/
def State.gpioWritten (s : State) : Bool := s.mgt.gpioAt.any fun x => x.1 == s.clk.ticks

/-- GPIO_SET drives the masked outputs (R348, R482). -/
def State.gpioSet (s : State) (arg0 arg1 : Nat) : Bool × State :=
  (true, (List.range 16).foldl (fun s i =>
    if bit arg0 i ∧ bit (s.regN Reg.GLB_GPIO_DIR) i ∧ ¬ s.pinOwned i ∧ ¬ s.gpioWritten then
      (s.setFld Reg.GLB_GPIO_OUT ⟨i, 1⟩ (b2n (bit arg1 i))).emit (.pin i (b2n (bit arg1 i)))
    else s) s)

/-- PPS_OUT_PULSE (R354): the counter reaches NS 0 of the next second. -/
def execPpsOutPulse (s : State) : Host.Outcome State Fault Refusal :=
  if ¬ s.flag Reg.TB_CFG Fld.TB_CFG_PPS_OUT_EN ∨ s.tq = 0 ∨ ¬ s.clk.pllLocked then .next s
  else
    let t := (s.nowNs / 1000000000 + 1) * 1000000000 * 65536
    .next ((s.runTo t).emit (.pinPulse 255 t 100000000))

end Sys2Proof.Machine
end

