-- ==== Sys2Proof/Machine/Geyser.lean ====
section
/-! DEFINITION. The firing sequencer: line loads, stage check, position state, fire events, strobes, swath
starts, ends and stops, head temperature (R248 to R275). -/

namespace Sys2Proof.Machine

open Sys2Proof.Bits

/-! ### Loading lines (R252 to R255) -/

/-- Rows of a swath's used ports have this lag (R251). -/
def State.lagOf (s : State) (w : Swath) (l : Layer) (e : SwathEntry) (r : Nat) : Nat :=
  rowLag s.bmap (w.rows.map (·.row)) e.reverse l.job.pitch r

/-- The front line, counted in firing order (R251). -/
def State.front (s : State) (w : Swath) (l : Layer) (e : SwathEntry) : Nat :=
  ((w.rows.filter fun r => s.lagOf w l e r.row == 0).map (·.next)).foldl min e.lines

/-- `n` codes of `w` bits packed from bit 0 upward. -/
def unpackCodes (w : Nat) (bs : List Byte) (n : Nat) : List Nat :=
  (List.range n).map fun i => bits (nth bs (i * w / 8) 0).toNat (i * w % 8) w

/-- Where line `n` of a committed tile lies in the ring: address and bytes (R189). -/
def CommitEntry.lineAt (c : CommitEntry) (n : Nat) : Nat × Nat :=
  (c.addr + (n - 128 * c.id.trow) * 256 * c.w, 256 * c.w)

/-- Codes of line `n` of a committed tile as the ring gives them (R189). -/
def State.ringLine (s : State) (c : CommitEntry) (n : Nat) : List Nat :=
  unpackCodes c.w (s.dataAt (c.lineAt n).1 (c.lineAt n).2) 2048

/-- The tile fired after `t` in its column has been dispatched or is resolved: it has the carry of `t`. -/
def State.carryPassed (s : State) (e : SwathEntry) (t : TileId) : Bool :=
  let k := e.rowPos t.trow + 1
  let u : TileId := { t with trow := e.rowAt k }
  decide (k < e.tileRows) && ((s.ctx u).isSome || (s.entry u).isSome)

/-- Tile `t` is blanked STAGE_CRC (R202): the carry already passed stands. -/
def State.stageBlank (s : State) (e : SwathEntry) (t : TileId) : State :=
  let carry := if s.carryPassed e t then ((s.entry t).map (·.carry)).getD [] else []
  let s := s.blankQuiet t 4
  let s := match s.entry t with
    | some c => s.putEntry { c with carry := carry, firstLoaded := true }
    | none => s
  (s.logErr .contained 9 (errCode Fld.VER_EVENT_BLANK 4) unitVer (tileInfo t)).event Reg.VER_EVENT
    Fld.VER_EVENT_STAGE_CRC

/-- The stage check of tile `t` at its first line (R254): the entry as DRAM gives it; `bad` says that the read met an
entry that fails its CRC or names another tile. -/
def State.stageCheck (s : State) (e : SwathEntry) (t : TileId) (bad : Bool) : State :=
  match s.entry t with
  | none =>
    let s := ((s.count Reg.GY_CLAIMS 1).event Reg.GY_EVENT Fld.GY_EVENT_CLAIM).blankTile t 1
    match s.entry t with
    | some c => s.putEntry { c with firstLoaded := true }
    | none => s
  | some c =>
    let (lost, _, s) := if c.committed ∧ c.ix < tableSize then s.fetch 6 (commitAddr c.ix) 4160 else (false, [], s)
    if bad || lost || !s.entrySound c then (s.stageBlank e t).blankEntries t 4
    else s.putEntry { c with firstLoaded := true }

/-- Codes of line `n` over the columns of tile `t`; none for a tile that is blanked. -/
def State.lineOf (s : State) (t : TileId) (n : Nat) : Option (List Nat) :=
  match s.entry t with
  | some c => if c.committed then some (s.ringLine c n) else none
  | none => none

/-- The lines of tile row `trow` that a row has not yet come to, as a range (R255). -/
def verdictRest (e : SwathEntry) (trow next : Nat) : Option (Nat × Nat) :=
  let ks := (List.range (e.rowLines trow)).map fun i => e.order (128 * trow + i)
  match (ks.filter fun k => next ≤ k).map e.line with
  | [] => none
  | a :: t => some (t.foldl min a, t.foldl max a)

/-- The verdict on tile `t` is bad (R255): events not issued fire zero codes and are recorded as a blank,
events issued are marked, and the entry is rewritten. -/
def State.verdictBad (s : State) (w : Swath) (e : SwathEntry) (t : TileId) : State :=
  let m := s.bmap
  let s := s.stageBlank e t
  let s := s.onSwath w.layer w.idx fun w => { w with segs := w.segs.map fun g =>
    if g.2.1 / 128 = t.trow then
      (g.1, g.2.1, g.2.2.filter fun x => !(decide ((beamCol m x.1).toNat / 2048 = t.tcol)))
    else g }
  w.rows.foldl (fun s r =>
    let a := max (hdrFirst m r.port) (2048 * t.tcol)
    let z := min (hdrFirst m r.port + hdrCols m r.port) (2048 * t.tcol + 2048)
    if z ≤ a then s
    else
      let s := match verdictRest e t.trow r.next with
        | some (x, y) => (r.heads m).foldl (fun s h =>
            s.swathEv w.layer w.idx ⟨1, 4, r.port, h, r.row, x, y, a, z - 1⟩) s
        | none => s
      (w.issued.filter fun i => i.row == r.row && i.line / 128 == t.trow).foldl (fun s i =>
        i.heads.foldl (fun s h => s.swathEv w.layer w.idx ⟨18, 0, r.port, h, r.row, i.line, i.line, a, z - 1⟩) s) s) s

/-- Tile `t` gives line `n`, kept for its verdict, which falls due at its last line (R255). -/
def State.takeLine (s : State) (w : Swath) (e : SwathEntry) (t : TileId) (n : Nat) : State :=
  match s.entry t, s.lineOf t n with
  | some c, some codes =>
    let c := { c with got := Kv.set c.got n codes }
    let s := s.putEntry c
    if n = e.rowLast t.trow then
      if Crc.crc64 (canonical c.id c.w c.lines (c.got.map (·.2)) (s.entryCarry c)) = c.crc then
        s.putEntry { c with verdict := true, got := [] }
      else s.verdictBad w e t
    else s
  | _, _ => s

/-- Geyser reads line `n` of tile `t` from the ring (R252): an uncorrectable word is a bad verdict on the tile (R255, R506). -/
def State.readLine (s : State) (w : Swath) (e : SwathEntry) (t : TileId) (n : Nat) : State :=
  match s.entry t with
  | some c =>
    if c.committed then
      let (bad, _, s) := s.fetch 6 (c.lineAt n).1 (c.lineAt n).2
      if bad then s.verdictBad w e t else s
    else s
  | none => s

/-- The regions of the ring and of the table that line `n` of tile `t` is read from are initialised (R510). -/
def State.lineReady (s : State) (t : TileId) (n : Nat) : Bool :=
  match s.entry t with
  | some c => !c.committed || (s.ready (c.lineAt n).1 (c.lineAt n).2 && s.ready (commitAddr c.ix) 4160)
  | none => true

/-- The columns of port `p`, each with its code on a line. -/
def portCodes (t : List (Nat × Word)) (p : Nat) (code : Nat → Nat) : List Nat :=
  (List.range (hdrCols t p)).map fun i => code (hdrFirst t p + i)

/-- LINES of a DATA block (R552). -/
def blockLines (stride : Nat) : Nat := min 128 (max 1 (65536 / stride))

/-- Line `n` joins the DATA block of port `p` (R552). -/
def State.recLine (s : State) (w : Swath) (l : Layer) (e : SwathEntry) (p n : Nat) (code : Nat → Nat) : State :=
  match s.portMat l p with
  | none => s
  | some m =>
    let stride := s.recStride l p
    if stride = 0 then s else
      let bs := packLine (codeWidth m) (portCodes s.bmap p code)
      let bs := bs ++ List.replicate (stride - bs.length) 0
      let d : DataAcc := match ((s.swath w.layer w.idx).map (·.data)).getD [] |>.find? fun d => d.port == p with
        | some d => { d with lines := d.lines + 1, bytes := d.bytes ++ bs }
        | none => ⟨p, n, 1, bs⟩
      let s := s.onSwath w.layer w.idx fun w => { w with data := w.data.filter (fun x => x.port != p) ++ [d] }
      if d.lines = blockLines stride ∨ n = e.rowLast (n / 128) then
        s.flushData w.layer w.idx (fun _ => stride) d
      else s

/-- Where the segment of row `r` and line `n` lies in the firing buffer: the spec numbers no place of it (DESIGN CHOICE, log
entry 49). -/
def segPlace (r n : Nat) : Nat := r * 2 ^ 32 + n % 2 ^ 32

/-- The segments of line `n`, the `k`-th fired (R252, R233): for each row with an event of that line left, the nonzero
codes of its beams. -/
def lineSegs (t : List (Nat × Word)) (w : Swath) (k n : Nat) (code : Nat → Nat) :
    List (Nat × Nat × List (Nat × Nat)) :=
  (w.rows.filter fun r => !r.dead t && decide (r.next ≤ k)).map fun r => (r.row, n, (rowBeams t r.row).filterMap fun b =>
    let c := if fires t w.ports w.status b then code (beamCol t b).toNat else 0
    if c = 0 then none else some (b, c))

/-- Tiles of line `n` of swath `w`, one for each tile column of its used ports. -/
def State.lineTiles (s : State) (w : Swath) (n : Nat) : List TileId :=
  (usedTcols s.bmap w.ports).map fun c => (⟨w.layer, w.idx, c, n / 128⟩ : TileId)

/-- Geyser loads the `k`-th line of swath `w` (R252 to R255). -/
def State.loadLine (s : State) (w : Swath) (l : Layer) (e : SwathEntry) (k : Nat) (bad : List Nat) : State :=
  let n := e.line k
  let tiles := s.lineTiles w n
  let s := if n = e.rowFirst (n / 128) then
      tiles.foldl (fun s t => s.stageCheck e t (bad.contains t.tcol)) s
    else s
  let s := tiles.foldl (fun s t => s.readLine w e t n) s
  let codes := tiles.filterMap fun t => (s.lineOf t n).map fun c => (t.tcol, c)
  let code := fun col => match codes.find? fun c => c.1 == col / 2048 with
    | some c => nth c.2 (col % 2048) 0
    | none => 0
  let segs := lineSegs s.bmap w k n code
  let s := s.onSwath w.layer w.idx fun w => { w with loaded := k + 1, segs := w.segs ++ segs }
  let s := segs.foldl (fun s g => s.flipHit 3 0 sramFiring (segPlace g.1 g.2.1)) s
  let s := tiles.foldl (fun s t => s.takeLine w e t n) s
  w.ports.foldl (fun s p => s.recLine w l e p n code) s

/-! ### Auxiliary moves (R441) -/

/-- The next swath of the module: the oldest in flight, if it has not started; else, within job `job`, the
next to be captured. -/
def State.nextSwath (s : State) (job : Option Nat) : Option (Layer × Nat) :=
  match s.curSwath with
  | some w => if w.state.running' then none else (s.layer w.layer).map fun l => (l, w.idx)
  | none =>
    match s.jobLayers.find? fun l => !l.stopped && l.captured < l.plan.length with
    | some l => if job = some l.job.no then some (l, l.captured) else none
    | none => none

/-- The AUX_MOVE chain of the next swath starts, once (R441): at the end boundary of the previous swath, or at
the capture of a job's first swath. -/
def State.auxNext (s : State) (job : Option Nat) : State :=
  match s.nextSwath job with
  | none => s
  | some (l, i) =>
    if s.gy.auxOf = some (l.seq, i) then s
    else
      let s : State := { s with gy := { s.gy with auxOf := some (l.seq, i) } }
      match l.entry i with
      | none => s
      | some e => if e.auxMove = 0 then s else s.startChain 0 e.auxMove true

/-- The job of the swath that `w` belongs to. -/
def State.jobOf (s : State) (w : Swath) : Option Nat := (s.layer w.layer).map (·.job.no)

/-- What follows where a command has written record blocks, or made the swath in flight leave the field: the check of
R562 and the next swath's AUX_MOVE (R441). `old` is the state before. -/
def State.settleStop (old s : State) : State :=
  let s := s.recFullCheck
  (old.stoppable 1).foldl (fun s w =>
    if (s.swath w.layer w.idx).isSome then s else s.auxNext (old.jobOf w)) s

/-! ### Loading -/

/-- The swath that loads lines: the oldest in flight, once its start is known (R252, R30). -/
def State.loading (s : State) : Option Swath :=
  match s.curSwath with
  | some w => if w.state.live then some w else none
  | none => none

/-- LINE_LOAD (R252, R510): the next line is loaded where it lies within D_L of the front; one in a region not yet initialised
waits. `bad` names the tile
columns whose commit entry fails its CRC or names another tile (R254). -/
def execLineLoad (bad : List Nat) (s : State) : Host.Outcome State Fault Refusal :=
  match s.loading with
  | none => .next s
  | some w =>
    match s.layer w.layer, s.swEntry w with
    | some l, some e =>
      let n := e.line w.loaded
      if w.loaded < e.lines ∧ w.loaded ≤ s.front w l e + loadAhead (s.nominalRate w) ∧
          (s.lineTiles w n).all (s.lineReady · n) then
        .next (s.settleStop (s.loadLine w l e w.loaded bad))
      else .next s
    | _, _ => .next s

/-! ### Position state and fire time (R256, R257) -/

/-- N of R256. -/
def State.vwin (s : State) : Nat := min (max (s.fld Reg.GY_CFG Fld.GY_CFG_VWIN) 4) 64

/-- A valid sample of axis S: raw position `raw` at `ts` (R256). -/
def State.posValid (s : State) (raw : Int) (ts : Nat) : State :=
  let p := wrapS 64 (raw - s.pairS Reg.GY_SCAN_ZERO_LO)
  let o := s.gy.pos
  let win := if o.valid then o.window else []
  let m := min win.length s.vwin
  let v := match m with
    | 0 => 0
    | j + 1 => wrapS 64 (divT ((p - nth win j p) * 65536) (100 * m))
  let s : State := { s with gy := { s.gy with pos := ⟨true, p, ts, v, (p :: win).take 64⟩ } }
  (s.setPairS Reg.GY_POS_LO p).setPairS Reg.GY_VEL_LO v

/-- An invalid sample reaches Geyser: the state is invalid and a swath ARMED or RUNNING stops (R256, R271). -/
def State.posInvalid (s : State) : State :=
  ({ s with gy := { s.gy with pos := { s.gy.pos with valid := false, window := [] } } }).stopFiring 2

/-- Result of R257. -/
inductive Aim where
  | wait | missed
  | at_ (taps : Int)
  deriving DecidableEq, Repr

/-- GY_VMIN in LU per ns with 32 fraction bits (R257). -/
def State.vminQ32 (s : State) : Nat := min (max (s.regN Reg.GY_VMIN) 1) 100000 * 256 * 2 ^ 32 / 1000000000

/-- GY_PORT_LAT of port `p` in force (R276). -/
def State.portLat (s : State) (p : Nat) : Int := clamp (signed 32 (s.regN (Reg.GY_PORT_LAT p))) (-65536) 65536

/-- DELAY of row `r` (R277). -/
def State.rowDelay (s : State) (r : Nat) : Nat := bits (s.tbl (0x01B00000 + 2 * r / 4 * 4)).toNat (16 * (r % 2)) 10

/-- `fire_taps` of R257 for row `r` of port `port` and line `n`; a result wraps at its type s64 (R10). -/
def State.fireTaps (s : State) (l : Layer) (e : SwathEntry) (r n port : Nat) : Aim :=
  let y := wrapS 64 ((e.yOrigin + (n * l.job.pitch : Nat) - rowOfs s.bmap r) * 65536)
  let v := s.gy.pos.v
  let d := wrapS 64 (y - s.gy.pos.p)
  if (!e.reverse && decide (d ≤ 0)) || (e.reverse && decide (0 ≤ d)) then .missed
  else if decide (0 < d) != decide (0 < v) || v.natAbs < s.vminQ32 then .wait
  else
    let f := wrapS 64 (divT (d * 2 ^ 32) v)
    .at_ (wrapS 64 (sar (wrapS 64 (f + 512)) 10 + s.portLat port + s.rowDelay r))

/-! ### Issue (R258 to R262) -/

/-- The code of each beam of a row on a head, in ROWMAP order. -/
def headCodes (seg : List (Nat × Nat)) (bs : List Nat) : List Nat :=
  bs.map fun b => match seg.find? fun x => x.1 == b with
    | some x => x.2
    | none => 0

/-- The tiles that supply the codes of a row on a head, each with its CRC64 (R293). -/
def State.tagsOf (s : State) (w : Swath) (n : Nat) (bs : List Nat) : List (TileId × Nat) :=
  let m := s.bmap
  let cols := dedup ((bs.filter fun b => fires m w.ports w.status b).map fun b => (beamCol m b).toNat / 2048)
  cols.filterMap fun c => (s.entry ⟨w.layer, w.idx, c, n / 128⟩).map fun t => (t.id, t.crc)

/-- A TAG: the XOR of the CRC64 values of the tiles, each taken once (R293, R294). -/
def tagXor : List (TileId × Nat) → Nat
  | [] => 0
  | a :: t => if t.any (fun b => b.1 == a.1) then tagXor t else a.2 ^^^ tagXor t

/-- TAG of a FIRE or DOSE frame. -/
def FireCmd.tag (c : FireCmd) : Nat := tagXor (c.rows.flatMap (·.tags))

/-- A command joins its port's queue in the order of fire times; rows that share a pulse share one DOSE frame
(R261, R294, R298). -/
def queueCmd (c : FireCmd) : List FireCmd → List FireCmd
  | [] => [c]
  | a :: t =>
    if c.dose ∧ a.dose ∧ a.head = c.head ∧ a.fire = c.fire ∧ a.hoId = c.hoId then
      { a with rows := a.rows ++ c.rows } :: t
    else if c.fire < a.fire then c :: a :: t
    else a :: queueCmd c t

/-- Port `p` fires in strobe mode (R260). -/
def State.strobe (s : State) (p : Nat) : Bool := bit (s.fld Reg.GY_CFG Fld.GY_CFG_STROBE) p

/-- HO_ID of a swath on port `p` (R314). -/
def State.hoIdOf (s : State) (p : Nat) (w : Swath) : Nat :=
  match (s.port p).hos.find? fun o => o.layer == w.layer && o.swath == w.idx with
  | some o => o.hoId
  | none => w.hoId

/-- A pulse takes its place in the order of fire times (R261). -/
def insertDue (d : Nat × Nat) (l : List (Nat × Nat)) : List (Nat × Nat) := insertBefore (fun x y => decide (x.2 < y.2)) d l

/-- Row `r` leaves line `n` and its segment behind (R252, R258). -/
def Swath.rowOn (w : Swath) (r n : Nat) : Swath :=
  { w with
    rows := w.rows.map fun x => if x.row == r then { x with next := x.next + 1 } else x
    segs := w.segs.filter fun g => !(g.1 == r && g.2.1 == n) }

/-- An event of row `r` is issued for fire time `fire` (R258, R260): a command for each live head of the row. With no
head to send to, nothing is issued: each lost head has MISSED its part. `gone` says that an SRAM error took the row's
segment (R516). -/
def State.issueRow (s : State) (w : Swath) (l : Layer) (e : SwathEntry) (r : RowSt) (gone : Bool) (fire : Nat) : State :=
  let n := e.line r.next
  let m := s.bmap
  let bitsW := ((s.portMat l r.port).map codeWidth).getD 1
  let absent := gone || decide (w.loaded ≤ r.next)
  let live := r.live m
  let sent := live.any fun h => s.headPresent r.port h
  let seg := if gone then [] else match w.segs.find? fun g => g.1 == r.row && g.2.1 == n with
    | some g => g.2.2
    | none => []
  let dose := s.strobe r.port
  let s := if absent && sent then
      let s := (r.heads m).foldl (fun s h =>
        s.swathEv w.layer w.idx ⟨2, 0, r.port, h, r.row, n, n, 0, 0xFFFFFFFF⟩) s
      (s.count Reg.GY_UNDERRUNS 1).raiseInfo .contained Reg.GY_EVENT Fld.GY_EVENT_UNDERRUN 0 unitGy
        (lineInfo n r.row 0xFF)
    else s
  let s := live.foldl (fun s h =>
    let bs := headRow m r.row h
    if ¬ s.headPresent r.port h then s.missed w.layer w.idx r.port h r.row n 6
    else
      let codes := headCodes seg bs
      let zero := codes.all (· == 0)
      let row : FireRow := ⟨r.row, n, bitsW, zero, bs.length, if zero then [] else packLine bitsW codes,
        if zero then [] else s.tagsOf w n bs⟩
      let c : FireCmd := ⟨h, w.layer, w.idx, s.hoIdOf r.port w, fire, dose, [row]⟩
      s.onPort r.port fun x => { x with queue := queueCmd c x.queue }) s
  if ¬ sent then s.onSwath w.layer w.idx fun w => w.rowOn r.row n
  else
    let s := if dose ∧ ¬ s.gy.due.contains (r.port, fire) then
        { s with gy := { s.gy with due := insertDue (r.port, fire) s.gy.due } } else s
    s.onSwath w.layer w.idx fun w =>
      let w := w.rowOn r.row n
      { w with
        rows := w.rows.map fun x => if x.row == r.row then { x with lastFire := some fire, delay := some (s.rowDelay r.row) } else x
        issued := w.issued ++ [⟨r.row, n, fire, r.heads m⟩]
        lastFire := some (max fire (w.lastFire.getD 0))
        lastTick := s.clk.ticks }

/-- The next event of row `r` is MISSED and the row moves to its next line (R258); an event of no live head has its
outcome already (R274). -/
def State.missRow (s : State) (w : Swath) (e : SwathEntry) (r : RowSt) : State :=
  let n := e.line r.next
  ((r.heads s.bmap).foldl (fun s h => s.missed w.layer w.idx r.port h r.row n 0) s).onSwath w.layer w.idx fun w =>
    w.rowOn r.row n

/-- The segment of row `row` and line `n` is read from the firing buffer and freed: whether a flip mask has made it
uncorrectable (R252, R512, R516). -/
def State.segRead (s : State) (row n : Nat) : Bool × State :=
  let x := sramEcc (s.flipAt sramFiring (segPlace row n)) .clean
  (x == .uncorrectable, (s.sramRead sramFiring row x).unflip sramFiring (segPlace row n))

/-- Row `row` of the swath is evaluated at `now` (R258, R259); rows `gone` have lost their segment (R516). -/
def State.evalRow (s : State) (gone : List Nat) (layer idx row now : Nat) : State :=
  match s.swath layer idx, s.layer layer with
  | some w, some l =>
    match w.rows.find? fun r => r.row == row, l.entry idx with
    | some r, some e =>
      if w.state ≠ .running ∨ e.lines ≤ r.next then s
      else
        let n := e.line r.next
        match s.fireTaps l e row n r.port with
        | .wait => s
        | .missed => s.missRow w e r
        | .at_ taps =>
          let fire0 := tsAdd s.gy.pos.ts (taps * 1024)
          let gap := ns16 (eventSpacing (((s.portMat l r.port).map codeWidth).getD 1))
          let fire := match r.lastFire with
            | some p => max fire0 (p + gap)
            | none => fire0
          let d := tsDiff fire now
          if d < (ns16 2000 : Nat) then s.missRow w e r
          else if (ns16 s.cmdLeadNs : Nat) < d then s
          else
            let s := if fire = fire0 ∨ r.dead s.bmap = true then s
              else (s.count Reg.GY_RATE_CLAMPS 1).raiseInfo .corrected Reg.GY_EVENT Fld.GY_EVENT_RATE_CLAMP 0
                unitGy (lineInfo n row 0xFF)
            let (lost, s) := s.segRead row n
            s.issueRow w l e r (lost || gone.contains row) fire
    | _, _ => s
  | _, _ => s

/-- A RUNNING swath every one of whose events has an outcome or is issued is DRAINING (R268); a port that has lost a
head may enter ENUM then (R308). -/
def State.drainCheck (s : State) (layer idx : Nat) : State :=
  match s.swath layer idx with
  | none => s
  | some w =>
    match s.swEntry w with
    | none => s
    | some e =>
      if w.state = .running ∧ (w.rows.all fun r => r.past s.bmap e.lines) then
        (s.onSwath layer idx fun w => { w with state := .draining }).toEnumChecks
      else s

/-- Every row of the running swath is evaluated once, at `now` (R258); rows `gone` have lost their segment. -/
def State.evalRows (s : State) (gone : List Nat) (now : Nat) : State :=
  match s.gy.swaths.find? fun w => w.state == .running with
  | none => s
  | some w =>
    if s.gy.pos.valid then
      (w.rows.foldl (fun s r => s.evalRow gone w.layer w.idx r.row now) s).drainCheck w.layer w.idx
    else s

/-- STROBE_PULSE (R261): the next pulse of port `p` rises at its fire time, or later where the spacing asks for
it. -/
def execStrobePulse (p : Fin 6) (s : State) : Host.Outcome State Fault Refusal :=
  match s.gy.due.find? fun d => d.1 == p.val with
  | none => .next s
  | some (p, fire) =>
    let s := s.runTo fire
    if s.gy.estop ∨ s.now16 < fire then .next s
    else
      let width := max (s.fld Reg.GY_CFG Fld.GY_CFG_STROBE_W) 8
      let rise := match Kv.get s.gy.pulses p with
        | some r => max fire (r + ns16 (width + 10))
        | none => fire
      let s : State := { s with gy := { s.gy with
        due := s.gy.due.erase (p, fire), pulses := Kv.set s.gy.pulses p rise } }
      let s := s.emit (.pulse p rise width)
      if rise = fire then .next s
      else
        let s := (s.count Reg.GY_STROBE_SLIPS 1).event Reg.GY_EVENT Fld.GY_EVENT_STROBE_SLIP
        .next (s.setRegN Reg.GY_SLIP_MAX (max (s.regN Reg.GY_SLIP_MAX) ((rise - fire) / 1024)))

/-! ### Start, end and stop of a swath (R268, R270, R271) -/

/-- The swath that is ARMED starts (R268, R270, R128, R442). The misses measured in it are those counted from here to its
end, whatever swath the row belongs to: R145 does not say which they are (DESIGN CHOICE, log entry 60). -/
def State.swathStart (s : State) (w : Swath) : State :=
  match s.layer w.layer, s.swEntry w with
  | some l, some e =>
    let s := s.onSwath w.layer w.idx fun w => { w with
      state := .running, lastTick := s.clk.ticks, misses0 := s.pair Reg.EXP_MISS_LO }
    let s := s.setFld Reg.GY_STATUS Fld.GY_STATUS_OVR 1024
    let s := (s.setRegN Reg.GY_LEAD_MIN_US 0xFFFFFFFF).setRegN Reg.VER_MARGIN_MIN 0xFFFFFFFF
    let s := ((s.setRegN Reg.GY_SLIP_MAX 0).setRegN Reg.GY_SWATH_LAYER w.layer).setRegN Reg.GY_SWATH_IDX w.idx
    let s := s.setRegN Reg.GY_RATE_HZ w.rate
    let s := w.ports.foldl (fun s p => s.setFld (Reg.HP_HO_ID p) ⟨0, 16⟩ (s.hoIdOf p w)) s
    let s : State := { s with gy := { s.gy with ovrs := [], period := 0 } }
    let s := (s.pinSwath w.layer w.idx).scanStart w l e
    s.drainCheck w.layer w.idx
  | _, _ => s

/-- SWATH_START acts (R308, R348, R349): the swath it names starts, or the action fails where it is not ARMED or a port
of it is not READY (log entry 65). -/
def State.startAction (s : State) (layer arg1 : Nat) : Bool × State :=
  match s.swath layer (arg1 % 65536) with
  | some w =>
    if w.state = .armed ∧ (w.ports.all fun p => s.portState p == 6) = true then (true, s.swathStart w) else (false, s)
  | none => (false, s)

/-- SWATH_END_BOUNDARY (R268, R270): the latest issued fire time of the DRAINING swath has passed. -/
def execSwathEndBoundary (s : State) : Host.Outcome State Fault Refusal :=
  match s.gy.swaths.find? fun w => w.state == .draining with
  | none => .next s
  | some w =>
    let endAt := w.lastFire.getD (w.startAt.getD 0)
    let s := s.runTo endAt
    if s.now16 < endAt then .next s
    else .next (s.settleStop (s.swathLeave w.layer w.idx endAt 0))

/-- STOP_SWATH (R271, R280): GY_CTRL.STOP_SWATH is written 1. -/
def execStopSwath (s : State) : Host.Outcome State Fault Refusal :=
  .next (s.settleStop (s.stopFiring 3))

/-- SWATH_STALL (R271): no event of the RUNNING swath has been issued for 2 s. -/
def execSwathStall (s : State) : Host.Outcome State Fault Refusal :=
  match s.gy.swaths.find? fun w => w.state == .running with
  | some w => .next (s.settleStop (s.stopSwath w 4))
  | none => .next s

/-! ### Head temperature (R272 to R274) -/

/-- SOFT, RESUME and HARD of a head (R272): the lower of the identity value and the port's field. -/
def State.tempLimits (s : State) (p h : Nat) : Int × Int × Int :=
  let f := fun (fld : Field) (off : Nat) =>
    let a := s.fld (Reg.GY_PORT_TEMP p) fld
    let b := s.ident p h off 1
    if a = 0 then b else min a b
  let soft : Int := f Fld.GY_PORT_TEMP_SOFT_C 23
  let resume : Int := f Fld.GY_PORT_TEMP_RESUME_C 24
  (soft, if soft ≤ resume then soft - 5 else resume, f Fld.GY_PORT_TEMP_HARD_C 25)

/-- Rows of swath `w` with beams on head `h` of port `p` that still fire there. -/
def State.hotRows (s : State) (w : Swath) (p h : Nat) : List RowSt :=
  w.rows.filter fun r => r.port == p && (r.live s.bmap).contains h

/-- Head `h` is hard-stopped in rows `gone` of the swath; a row left with no live head needs no segment more (R252, R274). -/
def Swath.hardStop (w : Swath) (t : List (Nat × Word)) (gone : List Nat) (h : Nat) : Swath :=
  let stop := fun (r : RowSt) => if gone.contains r.row then { r with hard := h :: r.hard } else r
  let w : Swath := { w with rows := w.rows.map stop }
  { w with segs := w.segs.filter fun g => !(w.rows.any fun r => r.row == g.1 && r.dead t) }

/-- The rows of swath `w` stop firing on head `h` of port `p`: each row's next event is its stop line (R274). -/
def State.stopLines (s : State) (w : Swath) (p h : Nat) (stale : Bool) : State :=
  match s.swEntry w with
  | none => s
  | some e =>
    let rows := s.hotRows w p h
    let s := rows.foldl (fun s r => match rowRest e r.next with
      | some (a, z) => s.swathEv w.layer w.idx ⟨4, b2n stale, p, h, r.row, a, z, 0, 0xFFFFFFFF⟩
      | none => s) s
    (s.onSwath w.layer w.idx fun x => x.hardStop s.bmap (rows.map (·.row)) h).drainCheck w.layer w.idx

/-- The swaths whose rows a hard stop on port `p` ends: those that fire or will fire, a swath that is CAPTURED being
held instead (R268, R273, R274). -/
def State.hotSwaths (s : State) (p : Nat) : List Swath :=
  s.gy.swaths.filter fun w => w.ports.contains p && (w.state == .ready || w.state == .armed || w.state == .running)

/-- A head whose report is stale has not reported at or below RESUME any more (R273, R274). -/
def State.warmHead (s : State) (p h : Nat) : State :=
  { s with gy := { s.gy with temps := s.gy.temps.map fun t => if t.1 = p * 8 + h then (t.1, { t.2 with cool := false }) else t } }

/-- A head stops at the next line of each of its rows, and its port is held (R274). `fresh` says that the head's
report before did not stop it; a head already stopped stops nothing more. -/
def State.hardStop (s : State) (p h : Nat) (stale fresh : Bool) : State :=
  let ws := (s.hotSwaths p).filter fun w => !(s.hotRows w p h).isEmpty
  if ws.isEmpty && !fresh then s
  else
    let s := ws.foldl (fun s w => s.stopLines w p h stale) s
    let s := (s.setFld (Reg.GY_PORT_STATUS p) Fld.GY_PORT_STATUS_TEMP_STATE (if ws.isEmpty then 1 else 2)).setFld
      (Reg.GY_PORT_STATUS p) Fld.GY_PORT_STATUS_TIMEOUT (b2n stale)
    let s := s.count (Reg.GY_PORT_HARD_STOPS p) 1
    let s := if stale then (s.event Reg.GY_EVENT Fld.GY_EVENT_TEMP_TIMEOUT).warmHead p h else s
    s.raiseInfo .stopping Reg.GY_EVENT Fld.GY_EVENT_TEMP_HARD (b2n stale) unitGy
      (lineInfo 0 0 h)

/-- The hottest head of port `p`, as GY_PORT_STATUS shows it (R284). -/
def State.showHot (s : State) (p : Nat) : State :=
  let ts := s.gy.temps.filter fun t => t.1 / 8 == p
  match ts with
  | [] => s
  | a :: l =>
    let top := l.foldl (fun b t => if b.2.t < t.2.t then t else b) a
    (s.setFld (Reg.GY_PORT_STATUS p) Fld.GY_PORT_STATUS_HOT_HEAD (top.1 % 8)).setFld (Reg.GY_PORT_STATUS p)
      Fld.GY_PORT_STATUS_HOT_C (clamp (sar top.2.t 4) 0 255).toNat

/-- A temperature report of head `h` of port `p`, in 1/16 °C (R272 to R274, R283). -/
def State.tempReport (s : State) (p h : Nat) (t : Int) : State :=
  let (soft, resume, hard) := s.tempLimits p h
  let was := ((Kv.get s.gy.temps (p * 8 + h)).map (·.hard)).getD false
  let hot := decide (16 * hard < t)
  let s : State := { s with gy := { s.gy with
    temps := Kv.set s.gy.temps (p * 8 + h) ⟨t, s.clk.ticks, decide (t ≤ 16 * resume), hot⟩ } }
  let s := s.showHot p
  let s := if hot then s.hardStop p h false (!was) else s
  let st := s.fld (Reg.GY_PORT_STATUS p) Fld.GY_PORT_STATUS_TEMP_STATE
  let s := if 16 * soft < t ∧ st = 0 then
      (s.setFld (Reg.GY_PORT_STATUS p) Fld.GY_PORT_STATUS_TEMP_STATE 1).event Reg.GY_EVENT Fld.GY_EVENT_TEMP_SOFT
    else s
  if s.fld (Reg.GY_PORT_STATUS p) Fld.GY_PORT_STATUS_TEMP_STATE = 1 ∧ s.portCool p = true then
    s.setFld (Reg.GY_PORT_STATUS p) Fld.GY_PORT_STATUS_TEMP_STATE 0
  else s

/-- HEAD_TEMP_STALE (R274): the report of head `h` of port `p` is older than 100 ms while a swath that uses the
port is RUNNING. -/
def execHeadTempStale (p : Fin 6) (h : Fin 8) (s : State) : Host.Outcome State Fault Refusal :=
  let running := s.gy.swaths.any fun w => w.ports.contains p.val && w.state == .running
  if s.headPresent p h ∧ running = true then .next (s.hardStop p h true false) else .next s

/-! ### Capture (R231, R269, R297, R313, R314, R551 to R554) -/

/-- Beams whose shadow status is not GOOD (R231). -/
def State.shadowStatus (s : State) : List (Nat × Nat) :=
  (List.range (hdrNbeam s.bmap)).filterMap fun b =>
    let st := (beamE s.tables b).status
    if st % 4 = 0 then none else some (b, st)

/-- The shadow waveform set `n` is sampled (R313). -/
def State.sampleWave (s : State) (n : Nat) : State :=
  match Kv.get s.hp.waves.shadow n, Kv.get s.hp.waves.active n with
  | none, some _ => s
  | none, none =>
    { s with hp := { s.hp with waves := { s.hp.waves with active := Kv.set s.hp.waves.active n (s.waveCopy n) } } }
  | some b, _ =>
    let s : State := { s with hp := { s.hp with waves := { s.hp.waves with
      active := Kv.set s.hp.waves.active n b
      shadow := Kv.del s.hp.waves.shadow n } } }
    s.setFld Reg.HP_WAVE_STATUS Fld.HP_WAVE_STATUS_PENDING
      (s.fld Reg.HP_WAVE_STATUS Fld.HP_WAVE_STATUS_PENDING &&& (0xFFFF ^^^ 2 ^ n))

/-- Capture entries of a swath (R554). -/
def State.captureEntries (s : State) (ports : List Nat) (st : List (Nat × Nat)) : List Byte :=
  (List.range (hdrNcol s.bmap)).flatMap fun k =>
    let (sel, f) := colSel s.bmap ports st k
    if sel = 1 then toLE 4 (f + 2 ^ 18) ++ toLE 4 k
    else if sel = 2 then toLE 4 (2 ^ 19) ++ toLE 4 k
    else []

/-- CAPTURE blocks of at most 8,192 entries (R551). -/
def State.captureBlocks (s : State) (layer idx : Nat) (bs : List Byte) : Nat → State
  | 0 => s
  | n + 1 => if bs.isEmpty then s
    else (s.putBlock 3 0 0xFF layer idx 0 0 0 (bs.take 65536)).captureBlocks layer idx (bs.drop 65536) n

/-- A TAKEOVER column of the swath has no valid target (R236). -/
def State.noTarget (s : State) (l : Layer) (ports : List Nat) (st : List (Nat × Nat)) : Bool :=
  (usedTcols s.bmap ports).any fun c =>
    let cols := tileCols s.bmap s.node l ports st c
    cols.zipIdx.any fun x => !x.1.absent && !x.1.live && (validTargets cols x.2).isEmpty

/-- Materials of a swath that are bound on the module. -/
def State.swathMats (s : State) (l : Layer) (e : SwathEntry) : List MaterialRec :=
  ((List.range 16).filter fun m => bit e.materialMask m && !(boundPorts l.materials s.node m).isEmpty).filterMap
    (appliedMaterial l.materials s.node)

/-- The BM_CAP registers show a capture (R232, R241). -/
def State.showCapture (s : State) (layer idx : Nat) (ports : List Nat) (st : List (Nat × Nat)) : State :=
  let sel := (List.range (hdrNcol s.bmap)).map fun k => (colSel s.bmap ports st k).1
  let beams := fun (v : Nat) => (st.filter fun e => e.2 % 4 == v).length
  let cols := fun (v : Nat) => (sel.filter (· == v)).length
  let s := (s.setRegN Reg.BM_CAP_LAYER layer).setRegN Reg.BM_CAP_SWATH (idx % 65536)
  let s := (s.setRegN Reg.BM_CAP_DEAD (beams 2)).setRegN Reg.BM_CAP_WEAK (beams 1)
  (s.setRegN Reg.BM_CAP_TAKEOVER (cols 2)).setRegN Reg.BM_CAP_TWIN (cols 1)

/-- The swath takes its place in the field, captured (R231, R268). -/
def State.enterSwath (s : State) (l : Layer) (e : SwathEntry) (v : Survey) : State :=
  let ports := usedPorts l.materials s.node e.materialMask
  let st := s.shadowStatus
  let rows := (usedRows s.bmap ports).map fun r => (⟨r, rowPort s.bmap r, 0, none, [], none⟩ : RowSt)
  let hoId := (ports.head?.map fun p => (s.port p).hoNext).getD 0
  let w : Swath := ⟨l.seq, l.captured, .captured, ports, st, s.clk.ticks, s.tNs, hoId, v.rate, 0, none, rows, 0, [],
    [], [], none, s.clk.ticks, 0, 0, 0, [], [], 0, 0, 0, true⟩
  let s : State := { s with
    gy := { s.gy with swaths := s.gy.swaths ++ [w] }
    beams := { s.beams with view := some ⟨ports, st, s.bmap.filter fun x => inBeamMap x.1⟩ } }
  (s.showCapture l.seq l.captured ports st).onLayer l.seq fun l => { l with captured := l.captured + 1 }

/-- The record of a captured swath opens (R551, R553): its SWATH block and CAPTURE blocks. START_NS is not
known at capture, nor the agreed rate where other modules take part, and the spec states no value for them: they are
free. -/
def State.openSwathRec (s : State) (l : Layer) (e : SwathEntry) (w : Swath) : State :=
  let s := s.openRecord l
  let (start, s) := s.free
  let (rate, s) := if s.fab.ids.length ≤ 1 then (w.rate, s) else s.free
  let s := s.putBlock 2 0 0xFF w.layer w.idx 0 0 0 (e.bytes ++ toLE 4 rate ++ toLE 2 w.hoId ++ [0, 0] ++
    toLE 8 start ++ toLE 1 s.tq ++ List.replicate 7 0)
  let cs := s.captureEntries w.ports w.status
  s.captureBlocks w.layer w.idx cs (cs.length / 65536 + 1)

/-- Port `p` takes the swath's hand-over (R314): its HO_ID, and frames to every head. -/
def State.handOver (s : State) (w : Swath) (p : Nat) : State :=
  let o : HandOver := ⟨(s.port p).hoNext, w.layer, w.idx, [], [], false⟩
  let s := s.onPort p fun x => { x with hoNext := (x.hoNext + 1) % 65536, hos := s.hosOpen p ++ [o] }
  if s.portState p = 5 ∨ s.portState p = 6 then s.sendHandOvers p o else s

/-- The link budget of a swath is checked on each of its ports; the first that fails stops the layer (R297). -/
def State.budgetChecks (s : State) (l : Layer) (w : Swath) : State :=
  w.ports.foldl (fun s p =>
    let (bad, s) := s.budget l p
    if bad ∧ (s.swath w.layer w.idx).isSome then s.budgetStop p l.seq else s) s

/-- The swath of entry `e` of layer `l` is captured (R231, R269). -/
def State.captureSwath (s : State) (l : Layer) (e : SwathEntry) (v : Survey) : State :=
  let i := l.captured
  let s := s.setFld Reg.BM_STATUS Fld.BM_STATUS_SHADOW_PENDING 0
  let ports := usedPorts l.materials s.node e.materialMask
  let s := ports.foldl (fun s p => s.widen p) s
  let mats := s.swathMats l e
  let s := mats.foldl (fun s m => s.sampleWave m.waveSet) s
  let s := s.enterSwath l e v
  match s.swath l.seq i with
  | none => s
  | some w =>
    let s := s.resurvey w
    let w := (s.swath l.seq i).getD w
    let s := if s.noTarget l ports w.status then s.event Reg.BM_EVENT Fld.BM_EVENT_NO_TARGET else s
    let s := s.openSwathRec l e w
    let s := ports.foldl (fun s p => s.handOver w p) s
    let long := mats.any s.waveLong
    let s := s.budgetChecks l w
    if long then
      (s.raiseInfo .stopping Reg.HP_EVENT Fld.HP_EVENT_WAVE_FAULT 0 (unitHp (ports.head?.getD 0)) 0).stopLayer l.seq
    else
      let s := match usedTcols s.bmap ports with
        | [] => s
        | c :: _ =>
          let t : TileId := ⟨l.seq, i, c, e.rowAt 0⟩
          match s.swath l.seq i, (List.range 40).find? s.canTake with
          | some w, some n => if s.dispatchable t then s.givePrimary t w n else s
          | _, _ => s
      s.auxNext (some l.job.no)

end Sys2Proof.Machine
end

