-- ==== Sys2Proof/Machine/Stepper.lean ====
section
/-! DEFINITION. The stepper outputs: pulses, bands and the stall check (R452 to R455, R481). -/

namespace Sys2Proof.Machine

open Sys2Proof.Bits

/-! ### Pulses (R452, R453) -/

/-- STEP width and least period of stepper `k` in ns (R453, R467). -/
def State.stepW (s : State) (k : Nat) : Nat := 10 * max (s.fld (Reg.STP_CFG k) Fld.STP_CFG_STEP_W) 10
def State.stepPeriod (s : State) (k : Nat) : Nat := max (2 * s.stepW k) 500

/-- µu of one pulse of stepper `k` (R452). -/
def State.stepUnit (s : State) (k : Nat) : Nat := 128 / 2 ^ s.fld (Reg.STP_STATUS k) Fld.STP_STATUS_CODE

/-- The set-point has passed position `c` before the sample in which it goes from `a` to `b`. -/
def crossedBefore (a b c : Int) : Bool := a == b || decide ((c - a) * (b - a) < 0)

/-- ns into a sample at which a set-point that goes from `a` to `b` crosses position `c`, on the 5 ns grid; which way an instant
off the grid is quantised is free (R452). -/
def crossNs (a b c : Int) (r : Nat) : Nat :=
  if a = b then 0
  else
    let num := 20000 * (c - a)
    let den := 5 * (b - a)
    5 * (num.tdiv den).toNat + (if num.tmod den = 0 then 0 else 5 * (r % 2))

/-- The pulses of stepper `k` that rise before TB tick `lim`, at most `fuel` of them (R452, R453), where the segment of the
set-point is played from tick `t0` on. Nothing is emitted while a change of band waits on an aligned position (R455). -/
def State.stepPulses (s : State) (k t0 lim : Nat) : Nat → State
  | 0 => s
  | fuel + 1 =>
    let x := k + 2
    let g := s.gen x
    let u := s.stepUnit k
    let pos := s.stepPos x
    let n := (sar g.p 16 - pos).fdiv u
    if n = 0 ∨ (g.toBand.isSome ∧ pos % 128 = 0) then s
    else
      let neg := decide (n < 0)
      let edge := if neg then pos else pos + u
      let (r, s) := s.free
      let t := t0 + crossNs g.prevP g.p (edge * 65536) r
      let w := s.stepW k
      let dirOk := if neg = g.negDir then 0 else g.pulseEnd + 10 * s.fld (Reg.STP_CFG k) Fld.STP_CFG_DIR_SETUP
      let rise := max t (max g.ready dirOk)
      if lim ≤ rise then s
      else
        let s := if t < rise ∨ crossedBefore g.prevP g.p (edge * 65536) then
            (s.count (Reg.STP_STEP_DELAYS k) 1).event (Reg.STP_EVENT k) Fld.STP_EVENT_STEP_DELAY
          else s
        let s := s.onGen x fun g => { g with negDir := neg, ready := rise + s.stepPeriod k, pulseEnd := rise + w }
        let s := s.setPairS (Reg.STP_STEP_POS_LO k) (if neg then pos - u else pos + u)
        let s := s.emit (.step k (s.fld (Reg.STP_STATUS k) Fld.STP_STATUS_CODE) (s.nowNs + rise - s.clk.ticks) w
          (s.flag (Reg.STP_CFG k) Fld.STP_CFG_STEP_INV) (neg == s.flag (Reg.STP_CFG k) Fld.STP_CFG_DIR_INV))
        s.stepPulses k t0 lim fuel

/-- Stepper `k` plays its segment, which began at TB tick `t0`, up to tick `lim`. -/
def State.stepUntil (s : State) (k t0 lim : Nat) : State :=
  if s.flag (Reg.STP_STATUS k) Fld.STP_STATUS_EN then s.stepPulses k t0 (min lim (t0 + 20000)) 64 else s

/-- Stepper `k` follows the set-point of the sample that began at TB tick `t0` to its end (R452, R453): what is left for want
of time is caught up, and a catch-up longer than one sample is reported. -/
def State.stepFollow (s : State) (t0 k : Nat) : State :=
  let x := k + 2
  if ¬ s.flag (Reg.STP_STATUS k) Fld.STP_STATUS_EN then s
  else
    let s := s.stepUntil k t0 (t0 + 20000)
    let h := s.gen x
    let held := (h.toBand.isSome && s.stepPos x % 128 == 0) || s.flag (Reg.STP_STATUS k) Fld.STP_STATUS_MS_SETTLING
    let left := (sar h.p 16 - s.stepPos x).fdiv (s.stepUnit k) != 0
    let n := if left && !held then h.behind + 1 else 0
    let s := s.onGen x fun h => { h with behind := n }
    if n = 2 then s.raise .corrected (Reg.STP_EVENT k) Fld.STP_EVENT_RATE_LIMIT 0 (unitAxis x) else s

/-! ### Bands (R455) -/

/-- The change of band of stepper `k` that the velocity set-point makes due (R455). A change that stays due came due once. -/
def State.bandDue (s : State) (k : Nat) : State :=
  let x := k + 2
  let b := s.fld (Reg.STP_STATUS k) Fld.STP_STATUS_BAND
  let v := (s.gen x).v.natAbs
  let top := (s.topBand k).getD 0
  let keep := 100 - s.fld (Reg.STP_CFG k) Fld.STP_CFG_HYST_PCT
  let dest := if b < top ∧ (s.bandE k b).1 * 65536 ≤ v then some (b + 1)
    else if 0 < b ∧ v * 100 < (s.bandE k (b - 1)).1 * 65536 * keep then some (b - 1)
    else none
  match dest with
  | some c =>
    let due := match (s.gen x).toBand with
      | some (e, t) => if e = c then t else s.clk.ticks
      | none => s.clk.ticks
    (s.onGen x fun g => { g with toBand := some (c, due) }).setFld (Reg.STP_STATUS k) Fld.STP_STATUS_ALIGN_WAIT 1
  | none => s

/-- BAND_CHANGE_APPLY (R455): the change that is due takes effect on an aligned step position, outside the MS setup of an
earlier one: right after the pulse that landed there, or when it came due if the axis stood there. The next pulse comes
MS_SETUP_US later or after (R453, R467). -/
def execBandChangeApply (k : Fin 4) (s : State) : Host.Outcome State Fault Refusal :=
  match (s.gen (k + 2)).toBand with
  | none => .next s
  | some (b, due) =>
    if s.stepPos (k + 2) % 128 ≠ 0 ∨ s.flag (Reg.STP_STATUS k) Fld.STP_STATUS_MS_SETTLING ∨
        ¬ s.flag (Reg.STP_STATUS k) Fld.STP_STATUS_EN then .next s
    else
      let settled := max (s.gen (k + 2)).pulseEnd due + 1000 * s.fld (Reg.STP_CFG k) Fld.STP_CFG_MS_SETUP_US
      let s := s.onGen (k + 2) fun g => { g with toBand := none, ready := max g.ready settled, msEnd := settled }
      let s := (s.setFld (Reg.STP_STATUS k) Fld.STP_STATUS_BAND b).setFld (Reg.STP_STATUS k)
        Fld.STP_STATUS_CODE (s.bandE k b).2
      let s := (s.setFld (Reg.STP_STATUS k) Fld.STP_STATUS_ALIGN_WAIT 0).setFld (Reg.STP_STATUS k)
        Fld.STP_STATUS_MS_SETTLING 1
      .next ((s.count (Reg.STP_BAND_CHANGES k) 1).event (Reg.STP_EVENT k) Fld.STP_EVENT_BAND_CHANGE)

/-- MS_SETUP_END (R455, R467): MS_SETUP_US have passed since the change of the code of stepper `k`. -/
def execMsSetupEnd (k : Fin 4) (s : State) : Host.Outcome State Fault Refusal :=
  .next (if s.clk.ticks < (s.gen (k + 2)).msEnd then s else s.setFld (Reg.STP_STATUS k) Fld.STP_STATUS_MS_SETTLING 0)

/-! ### Stall (R481) -/

/-- The stall check of stepper axis `x` (R481). -/
def State.stallCheck (s : State) (x : Nat) : State :=
  let far : Bool := decide (s.regN (Reg.FB_AX_STALL_LIM x) * 65536 < (s.stepPos x * 65536 - s.rawOf x (s.fbCount x)).natAbs)
  if s.fbSrc x = 2 ∧ s.flag (Reg.FB_AX_CFG x) Fld.FB_AX_CFG_STALL_EN ∧ far then
    (s.raise .stopping (Reg.FB_AX_EVENT x) Fld.FB_AX_EVENT_STALL 0 (unitAxis x)).feedbackFault x
  else s

end Sys2Proof.Machine
end

