-- ==== Sys2Proof/Machine/Axis.lean ====
section
/-! DEFINITION. Axis commands and writes of motion parameters (R438 to R462). -/

namespace Sys2Proof.Machine

open Sys2Proof.Bits

/-- AXIS_START (R438, R459): MP_AX_CTRL command START through axis `x`, written over `path`. -/
def execAxisStart (path : Path) (x : Fin 6) (move : Fin 1024) (s : State) : Host.Outcome State Fault Refusal :=
  if s.homesLive move then .next (s.accFlag path (Reg.MP_AX_CTRL x) .refused) else .next (s.startChain x move false)

/-- Homing of axis `x` ends by a STOP (R458). -/
def State.homeStopped (s : State) (x : Nat) (after : After) : State :=
  let s := (s.setFld (Reg.MP_AX_STATUS x) Fld.MP_AX_STATUS_HOME_STATE 0).setFld (Reg.MP_AX_STATUS x)
    Fld.MP_AX_STATUS_HOMED 0
  let (_, a, j) := s.limitSet x (s.fld (Reg.MP_AX_HOME_CFG x) Fld.MP_AX_HOME_CFG_LSET)
  (s.stopGen x (under a (s.regN (Reg.MP_AX_AMAX x))) (under j (s.regN (Reg.MP_AX_JMAX x))) after).setAx x 5 0

/-- A STOP after which axis `x` becomes `after` (R448, R458). An axis that already stops keeps its stop. -/
def State.cmdStop (s : State) (x : Nat) (after : After) : State :=
  if s.homing x then s.homeStopped x after
  else if s.axState x = 2 ∨ s.axState x = 3 then s.stopAxis x after
  else s

/-- AXIS_STOP (R448): MP_AX_CTRL command STOP. -/
def execAxisStop (x : Fin 6) (s : State) : Host.Outcome State Fault Refusal :=
  .next (s.cmdStop x .idle)

/-- AXIS_HOME (R458, R459): MP_AX_CTRL command HOME. -/
def execAxisHome (path : Path) (x : Fin 6) (s : State) : Host.Outcome State Fault Refusal :=
  if x.val = 0 ∧ s.swathLive then .next (s.accFlag path (Reg.MP_AX_CTRL x) .refused)
  else if s.axState x ≠ 1 then .next (s.refuse x (if s.moving x then 1 else 5))
  else .next (s.startHome x)

/-- The pads of axis `x` are no longer held (R604). -/
def State.releasePads (s : State) (x : Nat) : State :=
  let f := if x < 2 then Fld.PWR_HOLD_AOUT else Fld.PWR_HOLD_STP
  let i := if x < 2 then x else x - 2
  s.setFld Reg.PWR_HOLD f (s.fld Reg.PWR_HOLD f &&& (2 ^ f.width - 1 - 2 ^ i))

/-- The set-point of axis `x` takes the measured position, for a stepper the step position, and its servo starts
clear (R460, R486). -/
def State.adopt (s : State) (x : Nat) : State :=
  let p := if 2 ≤ x then s.stepPos x * 65536 else s.measured x
  let s := s.onGen x fun g => { g with
    mode := .idle, after := .idle, p := p, v := 0, a := 0, prevP := p, behind := 0, entry := 0
    aux := false, scan := none }
  let s := (s.setPairS (Reg.MP_AX_CMD_POS_LO x) p).setPairS (Reg.MP_AX_CMD_VEL_LO x) 0
  s.onServo x fun v => { v with
    integ := 0, bq0 := ⟨0, 0, 0, 0⟩, bq1 := ⟨0, 0, 0, 0⟩, fbPrev := s.rawOf x (s.fbCount x), ferr := 0 }

/-- AXIS_ENABLE (R435, R454, R460, R486, R626): MP_AX_CTRL command ENABLE. A DISABLED axis that the module drives
becomes IDLE while ESTOP_N is high; a stepper with an invalid band table stays DISABLED with cause BAND, and an axis
whose converters are still to be calibrated refuses, as every axis does before the lock (R583, R585). -/
def execAxisEnable (x : Fin 6) (s : State) : Host.Outcome State Fault Refusal :=
  if s.axState x ≠ 0 ∨ s.gy.estop ∨ ¬ s.flag (Reg.MP_AX_CFG x) Fld.MP_AX_CFG_ENABLE then .next s
  else if ¬ s.locked ∨ (s.cal.first.any fun t => decide (32 + 2 * x.val ≤ t ∧ t < 34 + 2 * x.val)) = true then .next (s.refuse x 5)
  else if 2 ≤ x.val ∧ ¬ s.bandsOk (x - 2) then
    .next (s.setFld (Reg.MP_AX_STATUS x) Fld.MP_AX_STATUS_FAULT 6)
  else
    let s := ((s.adopt x).releasePads x).setFld (Reg.MP_AX_STATUS x) Fld.MP_AX_STATUS_FAULT 0
    let s := (((s.setAx x 1 0).setSv x 1).setEn x true).milestoneNow 9
    let s := if 2 ≤ x.val then
        let b := s.fld (Reg.STP_STATUS (x - 2)) Fld.STP_STATUS_BAND
        s.setFld (Reg.STP_STATUS (x - 2)) Fld.STP_STATUS_CODE (s.bandE (x - 2) b).2
      else s
    .next (if s.fbState x = 1 then s.feedbackFault x else s)

/-- AXIS_DISABLE (R462): MP_AX_CTRL command DISABLE. A moving axis stops first. -/
def execAxisDisable (x : Fin 6) (s : State) : Host.Outcome State Fault Refusal :=
  if s.axState x = 5 then .next (s.onGen x fun g => { g with after := .disabled })
  else if s.moving x then .next (s.cmdStop x .disabled)
  else .next (s.disableAxis x)

/-- AXIS_CLEAR (R457, R462): MP_AX_CTRL command CLEAR leaves FAULT. An axis whose feedback is still in FAULT stays
(R477). -/
def execAxisClear (x : Fin 6) (s : State) : Host.Outcome State Fault Refusal :=
  if s.axState x ≠ 6 ∨ s.fbState x = 1 then .next s
  else
    let s := (s.adopt x).setFld (Reg.MP_AX_STATUS x) Fld.MP_AX_STATUS_FAULT 0
    .next ((s.setAx x 1 0).setSv x 1)

/-! ### Writes of V, A, J and OVR (R446, R447) -/

/-- The write of a motion parameter is kept for the next move; during a PATH it sets PATH_HELD (R447). -/
def State.paramKept (s : State) (x : Nat) (f : Gen → Gen) : State :=
  let s := s.onGen x f
  if s.axState x = 3 then s.event (Reg.MP_AX_EVENT x) Fld.MP_AX_EVENT_PATH_HELD else s

/-- MP_AX_V of axis `x` is written (R446, R447). -/
def State.writeV (s : State) (x : Nat) (w : Word) : State :=
  let s := s.setReg (Reg.MP_AX_V x) w
  match (s.gen x).mode with
  | .move .. | .hold .. | .decel .. => s
  | _ => s.paramKept x fun g => { g with keepV := true }

/-- A of the running move becomes the MP_AX_A that stands. -/
def State.takeA (s : State) (x : Nat) : State :=
  let a := s.aLim x
  (s.onGen x fun g => { g with aUse := a, keepA := false }).setFld (Reg.MP_AX_STATUS x) Fld.MP_AX_STATUS_DEFER 0

/-- MP_AX_A of axis `x` is written (R446, R447). -/
def State.writeA (s : State) (x : Nat) (w : Word) : State :=
  let s := s.setReg (Reg.MP_AX_A x) w
  let g := s.gen x
  match g.mode with
  | .move .. | .hold .. => s.takeA x
  | .decel dir _ t =>
    let a := s.aLim x
    if g.aUse < a then ((s.takeA x).onGen x fun g => { g with mode := .hold dir t }).setAx x (s.axState x) 1
    else if a = g.aUse then s.takeA x
    else if stopDist g.v.natAbs 0 a g.jUse ≤ (t - g.p).natAbs then (s.takeA x).planDecel x dir t
    else
      let s := (s.setFld (Reg.MP_AX_STATUS x) Fld.MP_AX_STATUS_DEFER 1).event (Reg.MP_AX_EVENT x)
        Fld.MP_AX_EVENT_ACCEL_DEFERRED
      s.onGen x fun g => { g with keepA := true }
  | _ => s.paramKept x fun g => { g with keepA := true }

/-- MP_AX_J of axis `x` is written: in force from the next move (R446). -/
def State.writeJ (s : State) (x : Nat) (w : Word) : State :=
  (s.setReg (Reg.MP_AX_J x) w).onGen x fun g => { g with keepJ := true }

/-- MP_AX_OVR of axis `x` is written; a PATH is not scaled by it (R447). -/
def State.writeOvr (s : State) (x : Nat) (w : Word) : State :=
  let s := s.setReg (Reg.MP_AX_OVR x) w
  if s.axState x = 3 then s.event (Reg.MP_AX_EVENT x) Fld.MP_AX_EVENT_PATH_HELD else s

/-- MOTION_PARAM_WRITE (R446): a write of MP_AX_V (0), MP_AX_A (1) or MP_AX_OVR (2) of axis `x`. -/
def execMotionParamWrite (x : Fin 6) (which : Fin 3) (w : Word) (s : State) :
    Host.Outcome State Fault Refusal :=
  match which.val with
  | 0 => .next (s.writeV x w)
  | 1 => .next (s.writeA x w)
  | _ => .next (s.writeOvr x w)

end Sys2Proof.Machine
end

