-- ==== Sys2Proof/Machine/Inputs.lean ====
section
/-! DEFINITION. Limit and home inputs (R456 to R458, R460, R465). -/

namespace Sys2Proof.Machine

open Sys2Proof.Bits

/-- Input `i` of axis `x`: 0 POS, 1 NEG, 2 HOME. -/
def State.pin (s : State) (x i : Nat) : PinRun := (s.motion.pins[3 * x + i]?).getD ⟨false, 0, 0⟩
def State.setPin (s : State) (x i : Nat) (r : PinRun) : State :=
  { s with motion := { s.motion with pins := s.motion.pins.set (3 * x + i) r } }

/-- The input is active at level `high` (R465). -/
def State.pinActive (s : State) (x i : Nat) (high : Bool) : Bool :=
  let f := if i = 0 then Fld.MP_AX_INPUT_CFG_POS_LOW else if i = 1 then Fld.MP_AX_INPUT_CFG_NEG_LOW else Fld.MP_AX_INPUT_CFG_HOME_LOW
  high != s.flag (Reg.MP_AX_INPUT_CFG x) f

/-- QUAL_US of axis `x` in ns: above 10,000 it acts as 10,000 (R456, R465). -/
def State.qualNs (s : State) (x : Nat) : Nat := 1000 * min (s.fld (Reg.MP_AX_INPUT_CFG x) Fld.MP_AX_INPUT_CFG_QUAL_US) 10000

/-- A bit of MP_AX_INPUTS field `f` of axis `x` becomes `on`. -/
def State.putInput (s : State) (f : Field) (x i : Nat) (on : Bool) : State :=
  let v := s.fld (Reg.MP_AX_INPUTS x) f
  s.setFld (Reg.MP_AX_INPUTS x) f (v - b2n (bit v i) * 2 ^ i + b2n on * 2 ^ i)

/-- RAW of axis `x` shows the active levels (R465). -/
def State.showRaw (s : State) (x : Nat) : State :=
  (List.range 3).foldl (fun s i => s.putInput Fld.MP_AX_INPUTS_RAW x i (s.pinActive x i (s.pin x i).high)) s

/-- Input `i` of axis `x` has qualified, its run begun at position `pos` (R456 to R458, R460). -/
def State.qualify (s : State) (x i : Nat) (active : Bool) (pos : Int) : State :=
  let s := s.putInput Fld.MP_AX_INPUTS_QUAL x i active
  if s.homing x then s.homeInput x i active pos
  else if ¬ active then s
  else if s.startsToward x i then s.refuseFresh x
  else s.limitCheck x

/-- The run of input `i` of axis `x` has lasted until TB tick `t`: it qualifies if it has lasted QUAL_US (R456). -/
def State.pinLasts (s : State) (x i t : Nat) : State :=
  let r := s.pin x i
  let on := s.pinActive x i r.high
  if s.qual x i = on ∨ t < r.since + s.qualNs x then s else s.qualify x i on r.pos

/-- The position captured `ns` after the tick before the latest, at TB tick `t` (R456, R470): for a stepper the step position,
its pulses played up to there. -/
def State.captureAt (s : State) (x ns t : Nat) : Int × State :=
  if x < 2 then (s.rawAt x ns, s)
  else
    let s := match s.motion.lastServo with
      | some t0 => s.stepUntil (x - 2) t0 t
      | none => s
    (s.stepPos x * 65536, s)

/-- The level of input `i` of axis `x` changes at TB tick `t` (R456): an active run that ends before it qualifies counts. -/
def State.pinTurns (s : State) (x i ns t : Nat) (high : Bool) : State :=
  let r := s.pin x i
  let s := if s.pinActive x i r.high ∧ t < r.since + s.qualNs x then s.count (Reg.MP_AX_CHATTER x) 1 else s
  let (pos, s) := s.captureAt x ns t
  (s.setPin x i ⟨high, t, pos⟩).showRaw x

/-- INPUT_QUALIFY (R456 to R458): a 200 MHz sample of input `i` of axis `x`, the `k`-th after the tick before the latest, finds
it `high`. A run that has lasted QUAL_US by then qualifies. -/
def execInputQualify (x : Fin 6) (i : Fin 3) (k : Fin 20) (high : Bool) (s : State) : Host.Outcome State Fault Refusal :=
  let t := max (s.motion.tickAt - 100 + 5 * k) (s.pin x i).since
  let u := s.pinLasts x i t
  .next (State.settleStop s (if high = (s.pin x i).high then u else (u.pinTurns x i (5 * k) t high).pinLasts x i t))

end Sys2Proof.Machine
end

