-- ==== Sys2Proof/Machine/Estop.lean ====
section
/-! DEFINITION. ESTOP_N (R41, R271, R304, R306, R460, R491). -/

namespace Sys2Proof.Machine

open Sys2Proof.Bits

/-- Head port `p` drives its active lanes: it is neither down nor in FAULT (R326). -/
def State.portUp (s : State) (p : Nat) : Bool := 2 ≤ s.portState p && s.portState p ≤ 6

/-- An ESTOP set goes out on the active lanes of every head port; during a narrowing, on every lane still trained (R304,
R321). -/
def State.estopSets (s : State) : State :=
  (List.range 6).foldl (fun s p =>
    let m := if (s.port p).narrow.isSome then (s.port p).trained % 16 else s.lanes p
    if s.portUp p then s.setOn (5 + p) m setEstop else s) s

/-- A running injection of servo axis `x` is stopped by the module (R489, R491). -/
def State.injAbort (s : State) (x : Nat) : State :=
  if s.flag (Reg.SV_AX_STATUS x) Fld.SV_AX_STATUS_INJ then
    ((s.onServo x fun v => { v with inj := none, injStart := false, injStop := false }).setFld
      (Reg.SV_AX_STATUS x) Fld.SV_AX_STATUS_INJ 0).event (Reg.SV_AX_EVENT x) Fld.SV_AX_EVENT_INJ_ABORT
  else s.onServo x fun v => { v with injStart := false }

/-- ESTOP acts on axis `x` (R460): it is DISABLED, homing ends, a stepper loses HOMED. -/
def State.estopAxis (s : State) (x : Nat) : State :=
  let was := s.axState x
  let s := if s.homing x then s.setFld (Reg.MP_AX_STATUS x) Fld.MP_AX_STATUS_HOME_STATE 0 else s
  let s := s.disableAxis x
  let s := if was = 0 then s else s.setFld (Reg.MP_AX_STATUS x) Fld.MP_AX_STATUS_FAULT 7
  if x < 2 then (s.injAbort x).setSv x 3 else s.setFld (Reg.MP_AX_STATUS x) Fld.MP_AX_STATUS_HOMED 0

/-- ESTOP (R41, R271, R304, R460): ESTOP_N has qualified low. -/
def execEstop (s : State) : Host.Outcome State Fault Refusal :=
  if s.gy.estop then .next s
  else
    let old := s
    let s : State := { s with gy := { s.gy with
      estop := true, estopHigh := none, estopAt := s.now16, due := [] } }
    let s := (s.setFld Reg.GY_STATUS Fld.GY_STATUS_ESTOP 1).estopSets
    let s := (List.range 6).foldl (fun s p => s.onPort p fun x => { x with queue := [] }) s
    let s := (List.range 6).foldl (fun s x => s.estopAxis x) s
    .next (State.settleStop old (s.stopFiring 1))

/-- ESTOP_SET_REPEAT (R304): 1 µs has passed since the latest ESTOP sets. -/
def execEstopSetRepeat (s : State) : Host.Outcome State Fault Refusal :=
  .next (if s.gy.estop then s.estopSets else s)

/-- ESTOP_RELEASE (R306, R460): ESTOP_N has qualified high. -/
def execEstopRelease (s : State) : Host.Outcome State Fault Refusal :=
  if ¬ s.gy.estop then .next s
  else
    let s : State := { s with gy := { s.gy with estop := false, estopHigh := some s.clk.ticks } }
    let s := s.setFld Reg.GY_STATUS Fld.GY_STATUS_ESTOP 0
    .next ((List.range 2).foldl (fun s x =>
      if bit (s.fld Reg.PWR_HOLD Fld.PWR_HOLD_AOUT) x then s else s.setSv x 0) s)

/-- HEAD_RESUME_SEND (R306): ESTOP_N has been high for 1 ms. While a swath is RUNNING, the RESUME waits. -/
def execHeadResumeSend (s : State) : Host.Outcome State Fault Refusal :=
  if s.gy.estopHigh.isNone ∨ (s.gy.swaths.any fun w => w.state == .running) = true then .next s
  else
    let s : State := { s with gy := { s.gy with estopHigh := none } }
    .next ((List.range 6).foldl (fun s p => if s.portUp p then s.sendFrame p 255 9 [0, 0, 0, 0] else s) s)

end Sys2Proof.Machine
end

