-- ==== Sys2Proof/Machine/Faults.lean ====
section
/-! DEFINITION. The fatal stop, control cores, and what firmware and the host do with the error log (R639 to
R667). -/

namespace Sys2Proof.Machine

open Sys2Proof.Bits

/-! ### The fatal stop (R641, R642) -/

/-- Every axis is DISABLED, homing ended and injections stopped (R460, R641). -/
def State.disableAll (s : State) : State :=
  (List.range 6).foldl (fun s x =>
    let s := if s.homing x then s.setFld (Reg.MP_AX_STATUS x) Fld.MP_AX_STATUS_HOME_STATE 0 else s
    let s := s.disableAxis x
    if x < 2 then s.injAbort x else s) s

/-- The levels that stepper `k` drives, or holds while its axis is not enabled: STEP inactive, EN deasserted, DIR and MS
as they were last driven (R435, R453, R604, R467). -/
def State.stepLevels (s : State) (k : Nat) : StepLevels :=
  let on := fun (f : Field) => s.flag (Reg.STP_CFG k) f
  ⟨on Fld.STP_CFG_STEP_INV, s.flag (Reg.STP_STATUS k) Fld.STP_STATUS_EN != on Fld.STP_CFG_EN_INV,
    (s.gen (k + 2)).negDir == on Fld.STP_CFG_DIR_INV, s.fld (Reg.STP_STATUS k) Fld.STP_STATUS_CODE⟩

/-- The GPIO pins that are outputs, with their levels (R681, R682): a compare unit's pin is none (R482). -/
def State.gpioLevels (s : State) : List (Nat × Bool) :=
  ((List.range 16).filter fun i => bit (s.regN Reg.GLB_GPIO_DIR) i && !s.pinOwned i).map fun i => (i, bit (s.regN Reg.GLB_GPIO_OUT) i)

/-- The pads of R604 are held: the AON island latches the levels of those that are not held yet, and AOUT is at 0 V (R496). -/
def State.holdPads (s : State) : State :=
  let step := (List.range 4).map fun k =>
    if bit (s.fld Reg.PWR_HOLD Fld.PWR_HOLD_STP) k then nth s.pw.heldStep k (s.stepLevels k) else s.stepLevels k
  let gpio := if s.flag Reg.PWR_HOLD Fld.PWR_HOLD_GPIO then s.pw.heldGpio else s.gpioLevels
  let s := ({ s with pw := { s.pw with heldStep := step, heldGpio := gpio } } : State).setRegN Reg.PWR_HOLD 0xFF
  (s.setSv 0 3).setSv 1 3

/-- The fatal stop (R641): the swath that fires is stopped, every axis is DISABLED and the pads are held.
ERR_STATUS.FATAL, which bars READY, and the fatal store are the record's (`State.logErr`). -/
def State.fatalStop (s : State) : State :=
  (State.settleStop s (s.stopFiring 3)).disableAll.holdPads

/-- A fatal error that sets flag `f` of EVENT register `ev` (R640, R641). -/
def State.fatal (s : State) (ev : Nat) (f : Field) (cause unit : Nat) : State :=
  (s.raise .fatal ev f cause unit).fatalStop

/-- A fatal error that sets no flag. -/
def State.fatalBare (s : State) (ev cause unit : Nat) : State :=
  (s.logErr .fatal (ev / 65536) (errCodeNone cause) unit (s.infoOf ev)).fatalStop

/-- CONTROL_STATE_DISAGREEMENT (R642): the copies of control state disagree in unit `u`: 0 Geyser, 1 the
Wellspring counter, 2 the regulators, 3 to 18 DRAM channels 0 to 15. -/
def execControlStateDisagreement (u : Fin 19) (s : State) : Host.Outcome State Fault Refusal :=
  .next (match u.val with
    | 0 => s.fatalBare Reg.GY_EVENT 0 unitGy
    | 1 => (s.logErr .fatal 1 (errCodeNone 0) unitCounter 0).fatalStop
    | 2 => s.fatalBare Reg.PWR_EVENT 0 unitReg
    | k + 3 => s.fatalBare Reg.DC_EVENT 0 (unitDram k))

/-! ### Control cores (R657 to R660) -/

/-- Service state of core `n` (R665). -/
def State.coreSt (s : State) (n : Nat) : Nat := s.fld (Reg.ERR_CORE_STAT n) Fld.ERR_CORE_STAT_STATE

/-- Role of core `n`; 15 none. -/
def State.coreRole (s : State) (n : Nat) : Nat := s.fld (Reg.ERR_CORE_STAT n) Fld.ERR_CORE_STAT_ROLE

/-- Core `n` in state `st` with role `r`. -/
def State.setCore (s : State) (n st r : Nat) : State :=
  (s.setFld (Reg.ERR_CORE_STAT n) Fld.ERR_CORE_STAT_STATE st).setFld (Reg.ERR_CORE_STAT n)
    Fld.ERR_CORE_STAT_ROLE r

/-- Cores in state `st`. -/
def State.coresIn (s : State) (st : Nat) : List Nat := (List.range 12).filter fun n => s.coreSt n == st

/-- The core that runs role `r`. -/
def State.coreOf (s : State) (r : Nat) : Option Nat := (s.coresIn 0).find? fun n => s.coreRole n == r

/-- The role of a shadow core that checks role `r` starts its count again (R663). -/
def State.shadowRestart (s : State) (r : Nat) : State :=
  s.cores.shadowOf.foldl (fun s e =>
    if e.2 = r then s.setFld (Reg.ERR_CORE_STAT e.1) Fld.ERR_CORE_STAT_SHADOW_N 0 else s) s

/-- Role `r` leaves its core (R659): onto the lowest spare, else onto role 9's core, whose work pauses. -/
def State.roleMove (s : State) (r : Nat) : State :=
  match s.coresIn 1 with
  | n :: _ => s.setCore n 0 r
  | [] =>
    let s := s.setFld Reg.ERR_STATUS Fld.ERR_STATUS_BG_PAUSED 1
    if r = 9 then s
    else match s.coreOf 9 with
      | some n =>
        let s := s.setCore n 0 r
        { s with cores := { s.cores with displaced := [r] } }
      | none => s

/-- A hand-over ends ABORTED (R590): its moved roles go back at the layer boundaries that follow. -/
def State.handAbort (s : State) : State :=
  match s.boot.hand with
  | none => s
  | some h =>
    if h.abort then s
    else
      let hand := if h.moves = 0 then none else some { h with abort := true, due := false }
      let s : State := { s with boot := { s.boot with hand := hand } }
      let s := (s.setFld Reg.CFG_UPD_STATUS Fld.CFG_UPD_STATUS_HANDOVER 0).setFld Reg.CFG_UPD_STATUS
        Fld.CFG_UPD_STATUS_BUSY 0
      (s.setFld Reg.CFG_UPD_STATUS Fld.CFG_UPD_STATUS_RESULT 7).event Reg.CFG_EVENT Fld.CFG_EVENT_UPD_FAIL

/-- A layer boundary that core `n` waits for is still to come. -/
def State.awaitBoundary (s : State) (n : Nat) : State :=
  { s with cores := { s.cores with bound := s.cores.bound.filter (· != n) } }

/-- Core `n`, IN_SERVICE or SPARE, leaves service with `cause` (R657 to R660): 1 WATCHDOG, 2 MEMORY, 3
FREEZE, 4 HOST, 5 SELFTEST. A failure with role 9 already displaced is fatal (R659). -/
def State.coreLeaves (s : State) (n cause : Nat) : State :=
  if s.coreSt n > 1 then s
  else
    let r := s.coreRole n
    let paused := s.bgPaused
    let s := (s.setCore n (if cause = 3 then 5 else 2) 15).setFld (Reg.ERR_CORE_STAT n)
      Fld.ERR_CORE_STAT_CAUSE cause
    let s := s.setFld (Reg.ERR_CORE_STAT n) Fld.ERR_CORE_STAT_SHADOW_N 0
    let drop := s.cores.outReq.filter (· != n)
    let s : State := { s with cores := { s.cores with outReq := drop } }
    let s := if r < 10 then (s.roleMove r).shadowRestart r else s
    if cause = 4 then s.event Reg.ERR_EVENT Fld.ERR_EVENT_CORE_OUT
    else if paused then (s.fatal Reg.ERR_EVENT Fld.ERR_EVENT_CORE_OUT cause (40 + n)).handAbort
    else (s.raise .degraded Reg.ERR_EVENT Fld.ERR_EVENT_CORE_OUT cause (40 + n)).handAbort

/-- CORE_WATCHDOG_TIMEOUT (R657): core `n` has given no heartbeat for 100 µs. -/
def execCoreWatchdogTimeout (n : Fin 12) (s : State) : Host.Outcome State Fault Refusal :=
  .next (s.coreLeaves n 1)

/-- A self-test of core `n` has failed (R660): the third failure in a row takes it OUT. -/
def State.coreFails (s : State) (n : Nat) : State :=
  let k := s.fld (Reg.ERR_CORE_STAT n) Fld.ERR_CORE_STAT_ST_FAILS + 1
  let s := s.setFld (Reg.ERR_CORE_STAT n) Fld.ERR_CORE_STAT_ST_FAILS (min k 3)
  s.setFld (Reg.ERR_CORE_STAT n) Fld.ERR_CORE_STAT_STATE (if 3 ≤ k then 4 else 2)

/-- Core `n` in SHADOW has compared a checkpoint (R660); the boundary that the 16th match waits for is the next.
A mismatch that is the third failure in a row takes the core OUT, as a self-test would (DEDUCED, log entry 76). -/
def State.coreShadow (s : State) (n : Nat) (ok : Bool) : State :=
  let r := Reg.ERR_CORE_STAT n
  if s.coreSt n ≠ 3 then s
  else if ok then
    let k := s.fld r Fld.ERR_CORE_STAT_SHADOW_N
    let s := s.setFld r Fld.ERR_CORE_STAT_SHADOW_N (min (k + 1) 16)
    if k = 15 then s.awaitBoundary n else s
  else
    (s.coreFails n).setFld r Fld.ERR_CORE_STAT_SHADOW_N 0

/-- A word of core `n`'s memory is read (R516, R657): an uncorrectable one takes the core out. -/
def State.coreWord (s : State) (n row : Nat) (e : Ecc) : State :=
  let s := s.sramRead (sramCore n) row e
  match e with
  | .uncorrectable => s.coreLeaves n 2
  | _ => s

/-- CHECKPOINT_TIMER (R512, R657, R660): every role writes its checkpoint, having read what a flip mask left in core memory; the
shadow cores of `bad` find another
CRC; `words` are words of core memory read as core, row and outcome. -/
def execCheckpointTimer (bad : List (Fin 12)) (words : List (Fin 12 × Nat × Ecc)) (s : State) :
    Host.Outcome State Fault Refusal :=
  let n := s.fld Reg.MI_FLIP_CTRL Fld.MI_FLIP_CTRL_UNIT
  let old := s.sram.flips.filter fun f => sramCore 0 ≤ f.1 && decide (f.1 < sramDescriptors)
  let s := old.foldl (fun s f => (s.unflip f.1 f.2.1).coreWord (f.1 - sramCore 0) f.2.1 (sramEcc f.2.2 .clean)) s
  let s := if n < 12 then s.flipHit 4 n (sramCore n) 0 else s
  let s := (List.range 12).foldl (fun s n => s.coreShadow n (!(bad.map Fin.val).contains n)) s
  .next (words.foldl (fun s w => s.coreWord w.1 w.2.1 w.2.2) s)

/-- ERR_CORE_OUT (R658, R660): ERR_CORE_CTRL OUT names core `n` over `path`; it leaves at the next layer
boundary. A planned move, during which no such command is refused, is a hand-over's (R590). -/
def execErrCoreOut (path : Path) (n : Fin 16) (s : State) : Host.Outcome State Fault Refusal :=
  if 12 ≤ n.val ∨ 1 < s.coreSt n ∨ s.cores.outReq.contains n.val = true then .next s
  else
    let left := (s.coresIn 0).length + (s.coresIn 1).length - s.cores.outReq.length - 1
    if left < 10 ∧ s.boot.hand.isNone = true then .next (s.accFlag path Reg.ERR_CORE_CTRL .refused)
    else
      let s := s.awaitBoundary n
      .next { s with cores := { s.cores with outReq := s.cores.outReq ++ [n.val] } }

/-- ERR_CORE_RETURN (R660): ERR_CORE_CTRL RETURN names core `n`. -/
def execErrCoreReturn (n : Fin 16) (s : State) : Host.Outcome State Fault Refusal :=
  if 12 ≤ n.val ∨ s.coreSt n ≠ 4 then .next s
  else .next ((s.setFld (Reg.ERR_CORE_STAT n) Fld.ERR_CORE_STAT_STATE 2).setFld (Reg.ERR_CORE_STAT n)
    Fld.ERR_CORE_STAT_ST_FAILS 0)

/-- The lowest role that no shadow core checks. -/
def State.freeShadowRole (s : State) : Nat :=
  (findBelow 10 fun r => !(s.cores.shadowOf.any fun e => e.2 == r)).getD 0

/-- CORE_SELFTEST_DONE (R660): the 50 ms self-test of core `n` ends. A spare's periodic test that fails takes
the core out of service (R657). -/
def execCoreSelftestDone (n : Fin 12) (pass : Bool) (s : State) : Host.Outcome State Fault Refusal :=
  if s.coreSt n ≠ 2 then .next s
  else
    let periodic := s.cores.periodic.contains n.val
    let others := s.cores.periodic.filter (· != n.val)
    let s : State := { s with cores := { s.cores with
      periodic := others, lastTest := Kv.set s.cores.lastTest n.val s.clk.ticks } }
    match periodic, pass with
    | true, true => .next (s.setCore n 1 15)
    | true, false =>
      let s := s.setFld (Reg.ERR_CORE_STAT n) Fld.ERR_CORE_STAT_CAUSE 5
      .next ((s.coreFails n).raise .degraded Reg.ERR_EVENT Fld.ERR_EVENT_CORE_OUT 5 (40 + n)).handAbort
    | false, true =>
      let r := s.freeShadowRole
      let keep := s.cores.shadowOf.filter fun e => e.1 != n.val
      let s : State := { s with cores := { s.cores with shadowOf := keep ++ [(n.val, r)] } }
      .next ((s.setFld (Reg.ERR_CORE_STAT n) Fld.ERR_CORE_STAT_STATE 3).setFld (Reg.ERR_CORE_STAT n)
        Fld.ERR_CORE_STAT_SHADOW_N 0)
    | false, false => .next (s.coreFails n)

/-- SPARE_SELFTEST_TIMER (R660): 3,600 s have passed since the latest self-test of spare `n`; deferred while a
hand-over runs. -/
def execSpareSelftestTimer (n : Fin 12) (s : State) : Host.Outcome State Fault Refusal :=
  if s.coreSt n ≠ 1 ∨ s.boot.hand.isSome = true then .next s
  else
    let s := s.setFld (Reg.ERR_CORE_STAT n) Fld.ERR_CORE_STAT_STATE 2
    .next { s with cores := { s.cores with periodic := s.cores.periodic ++ [n.val] } }

/-! ### The log (R646 to R650) -/

/-- Detection time of a record in 2^-16 ns. -/
def ErrRec.at16 (r : ErrRec) : Nat := r.tNs * 65536 + r.tFrac

/-- Ascending (T_NS, T_FRAC, SEQ) (R649). -/
def recBefore (a b : ErrRec) : Bool := a.at16 < b.at16 || (a.at16 == b.at16 && a.seq < b.seq)

/-- The record firmware takes next (R649): the earliest it has not processed that is at least 1 µs old. -/
def State.nextRecord (s : State) : Option RingEntry :=
  let ready := (s.log.ring.map (·.2)).filter fun e =>
    !e.processed && decide (e.record.at16 + 1000 * 65536 ≤ s.now16)
  ready.foldl (fun b e => match b with
    | none => some e
    | some x => if recBefore e.record x.record then some e else some x) none

/-- ERR_RECORD_PROCESS (R646, R649): firmware processes one record, and acknowledges it where its class is
AUTO_ACK_MAX or lower. -/
def execErrRecordProcess (s : State) : Host.Outcome State Fault Refusal :=
  match s.nextRecord with
  | none => .next s
  | some e =>
    let k := e.record.seq % 256
    .next ({ s with log := { s.log with ring := Kv.set s.log.ring k { e with processed := true } } } : State).autoAck

/-- ERR_ACK (R646, R663): a record that is not open is refused. -/
def execErrAck (path : Path) (w : Word) (s : State) : Host.Outcome State Fault Refusal :=
  match s.openAt w.toNat with
  | none => .next (s.accFlag path Reg.ERR_ACK .refused)
  | some _ => .next (s.ackSeq w.toNat)

/-- ERR_ACK_UPTO (R646, R664): every open record from the oldest to this SEQ. -/
def execErrAckUpto (w : Word) (s : State) : Host.Outcome State Fault Refusal :=
  match s.openSeqs with
  | [] => .next s
  | o :: os =>
    let d := fun (q : Nat) => (q + 2 ^ 32 - o) % 2 ^ 32
    let lim := d w.toNat
    if 2 ^ 31 ≤ lim then .next s
    else .next (((o :: os).filter fun q => decide (d q ≤ lim)).foldl (fun s q => s.ackSeq q) s)

/-! ### Freezes (R653 to R655) -/

/-- Node `k`, or internal master `m` as 1024 + `m`, violates its grants at this tick. -/
def State.violNow (s : State) (k : Nat) : State :=
  { s with fab := { s.fab with violAt := Kv.set s.fab.violAt k s.clk.ticks } }

/-- The latest violation of `k` is of this tick. -/
def State.violatesNow (s : State) (k : Nat) : Bool := Kv.get s.fab.violAt k == some s.clk.ticks

/-- The write of a master is a violation (R654): it freezes the master, or only counts where it is frozen. -/
def State.violation (s : State) (m req addr : Nat) : State :=
  let s := (s.count Reg.ACC_VIOLATIONS 1).violNow (1024 + m)
  if bit (s.regN Reg.ACC_FROZEN_INT) m then s
  else
    let s := s.setRegN Reg.ACC_FROZEN_INT (s.regN Reg.ACC_FROZEN_INT ||| 2 ^ m)
    let s := (s.setPair Reg.ACC_VIOL_ADDR_LO addr).setRegN Reg.ACC_VIOL_INFO (m + 1024 + 2048 + 65536 * req)
    s.raiseInfo .contained Reg.ACC_EVENT Fld.ACC_EVENT_VIOLATION 0 unitAcc
      (addr % 2 ^ 48 + 2 ^ 48 * m + 2 ^ 58)

end Sys2Proof.Machine
end

