-- ==== Sys2Proof/Machine/Dram.lean ====
section
/-! DEFINITION. The commands of the DRAM: requests and the writes of internal masters, flushes, windows, scrubbing and
retirement (R497 to R521, R653, R654). -/

namespace Sys2Proof.Machine

open Sys2Proof.Bits

/-- Role 9 runs again, and takes up the mirroring and the retirements that waited (R657, R659). -/
def State.bgResume (s : State) : State :=
  let q := s.dram.policyWait
  let s := s.setFld Reg.ERR_STATUS Fld.ERR_STATUS_BG_PAUSED 0
  q.foldl (fun s p => s.retirePage p) ({ s with dram := { s.dram with policyWait := [] } } : State).mirrorDue

/-- CORE_SPARE_RETURN (R659, R660): core `n` has 16 matches and the layer boundary after them has come. A paused role 9
takes it first. -/
def execCoreSpareReturn (n : Fin 12) (s : State) : Host.Outcome State Fault Refusal :=
  if s.coreSt n ≠ 3 ∨ s.fld (Reg.ERR_CORE_STAT n) Fld.ERR_CORE_STAT_SHADOW_N ≠ 16 ∨ ¬ s.cores.bound.contains n.val then
    .next s
  else
    let keep := s.cores.shadowOf.filter fun e => e.1 != n.val
    let paused := s.bgPaused
    let s := s.setFld (Reg.ERR_CORE_STAT n) Fld.ERR_CORE_STAT_ST_FAILS 0
    let s : State := { s with cores := { s.cores with shadowOf := keep } }
    let s := s.event Reg.ERR_EVENT Fld.ERR_EVENT_CORE_BACK
    if paused then
      let s : State := { s with cores := { s.cores with displaced := [] } }
      .next (s.setCore n 0 9).bgResume
    else .next (s.setCore n 1 15)

/-! ### Flushes -/

/-- MERGE_FLUSH (R507): the entry of the line at `line` has aged 128 cycles, or a flush of it is due. -/
def execMergeFlush (line : Nat) (s : State) : Host.Outcome State Fault Refusal :=
  match s.dram.merge.find? fun e => e.line == line with
  | some e => .next (s.flushEntry e)
  | none => .next s


/-! ### Requests -/

/-- Content of the parser dropped as under R110, CAUSE unchanged (R506). -/
def State.dropOpenLayer (s : State) : State :=
  let whole := s.parser.saved.lastCheck.isNone
  let n := if whole then s.parser.cur.accepted else s.parser.cur.accepted - s.parser.saved.accepted
  let resume := match s.parser.saved.lastCheck with
    | some q => (q + 1) % 2 ^ 32
    | none => 0
  let ofs := s.parser.cur.ofs
  let s := (s.setRegN Reg.EXP_ZLS_RESUME_SEQ resume).count Reg.EXP_ZLS_WITHDRAWN n
  let s : State := { s with parser := { s.parser with cur := { s.parser.saved with state := .halted, ofs := ofs } } }
  s.showParser

/-- An uncorrectable word for the expansion units or the parser in layer `q` (R506). -/
def State.layerWord (s : State) (q : Nat) : State :=
  let s := s.logErr .stopping 7 (errCodeNone 0) unitParser
    (s.regN Reg.EXP_ZLS_FAULT_SEQ + 2 ^ 32 * s.fld Reg.EXP_ZLS_STATUS Fld.EXP_ZLS_STATUS_CAUSE)
  if (s.layer q).isSome then s.stopLayer q else s.dropOpenLayer

/-- The tile whose staged codes or commit entry lie at `a` (R189, R248). -/
def State.stagedAt (s : State) (a : Nat) : Option TileId :=
  (s.ver.entries.find? fun c => !c.freed && ((c.committed && decide (c.addr ≤ a ∧ a < c.addr + codeBytes c.lines c.w)) ||
    decide (commitAddr c.ix ≤ a ∧ a < commitAddr c.ix + 4160))).map (·.id)

/-- An uncorrectable word of the staging ring or the commit table blanks its tile (R506): before its first line is loaded
from that line on, later as a bad verdict does (R254, R255). -/
def State.stagedBad (s : State) (t : TileId) : State :=
  match s.swath t.layer t.swath, s.entry t with
  | some w, some c =>
    match s.swEntry w with
    | none => s
    | some e =>
      if ¬ c.committed ∨ c.verdict then s
      else if c.firstLoaded then s.verdictBad w e t
      else (s.stageBlank e t).blankEntries t 4
  | _, _ => s

/-- The stored block of the record in which `a` lies, which no re-read has found good yet. -/
def State.blockAt (s : State) (a : Nat) : Option StoredBlock :=
  s.blocks.find? fun b => (s.recSpans b.ofs (40 + divUp (rd (s.recRead b.ofs 40) 28 4) 8 * 8)).any fun x =>
    decide (x.1 ≤ a ∧ a < x.1 + x.2)

/-- An uncorrectable word reaches requester `req` at `a` (R506): `unit` is the layer of requester 1, the engine of requesters
2 to 5 and the core of requester 8. Descriptor reads of the ingest DMA and fabric READs have their outcome in their own
commands (R377, R532). -/
def State.uncorrTo (s : State) (req unit a : Nat) : State :=
  match req with
  | 1 => s.layerWord unit
  | 2 | 3 | 4 | 5 =>
    if clusterOf unit + 2 = req then
      match s.working unit with
      | some k => s.binBad k.tile
      | none => s
    else s
  | 6 =>
    match s.stagedAt a with
    | some t => State.settleStop s (s.stagedBad t)
    | none => s
  | 7 =>
    match s.blockAt a with
    | some b => s.blockLost b
    | none => s
  | 8 => s.coreLeaves unit 2
  | _ => s

/-- A read is served: its words are decoded for requester `req` (R505), which acts on an uncorrectable one (R506). -/
def State.serveRead (s : State) (req unit a n : Nat) : State :=
  let (bad, _, s) := s.fetch req a n
  if bad then s.uncorrTo req unit (8 * (((s.badWords a n).find? fun w => 2 ≤ eccKind (s.errOf w)).getD (a / 8))) else s

/-- Words whose stored bits flip: 8-byte word and bits (R505). -/
def State.upset (s : State) (l : List (Nat × Nat)) : State :=
  l.foldl (fun s u => s.setErr u.1 (s.errOf u.1 ^^^ (u.2 % 2 ^ 72))) s

/-- The controller closes the rows that stand open in the banks of the addresses `l`, to refresh them or for its own ends:
when it does so is open (R497). -/
def State.shutRows (s : State) (l : List Nat) : State :=
  let bs := l.map fun a => (s.groupOf a).1
  let o := s.dram.rowOpen.filter fun e => !bs.contains e.1
  { s with dram := { s.dram with rowOpen := o } }

/-- A request held is due: its region is initialised (R510) and its requester's gap is over (R504). -/
def State.dueReq (s : State) (h : HeldReq) : Bool :=
  s.ready h.addr h.data.length && !s.gapped (h.req % 16) h.addr h.data.length

/-- A request that is due is served; another waits on, behind those before it. -/
def State.serveReq (s : State) (h : HeldReq) : State :=
  if s.dueReq h then
    if 16 ≤ h.req then s.dramWrite (h.req - 16) h.addr h.data else s.serveRead h.req h.unit h.addr h.data.length
  else
    let q := s.dram.held ++ [h]
    { s with dram := { s.dram with held := q } }

/-- Requests that waited are served in order, as far as they are due (R504, R510). -/
def State.serveAll (s : State) : State :=
  let q := s.dram.held
  q.foldl (fun s h => s.serveReq h) { s with dram := { s.dram with held := [] } }

/-- DRAM_READ (R502, R504 to R506, R510): requester `req` reads `len` bytes at `addr`. `upsets` are the bits that have flipped
in stored words since their writes, `shut` addresses in banks whose open row the controller has closed. -/
def execDramRead (req : Fin 11) (unit addr len : Nat) (upsets : List (Nat × Nat)) (shut : List Nat) (s : State) :
    Host.Outcome State Fault Refusal :=
  if dramEnd < addr + len then .fault .noSuchAddress
  else .next (((s.upset upsets).shutRows shut).serveAll.serveReq ⟨req, unit, addr, List.replicate len 0⟩)

/-- The spans of DRAM an internal master may write (R653), as (first, end). -/
def State.grantsOf (s : State) (m : Nat) : List (Nat × Nat) :=
  let base := fun a => s.pair (Reg.CFG_AREA_BASE_LO a)
  if m < 8 then
    (List.range 4).map fun w =>
      (s.pair (Reg.ING_WIN_BASE_LO w) / 4096 * 4096, min (s.pair (Reg.ING_WIN_LIMIT_LO w) / 4096 * 4096) dramEnd)
  else if m < 12 then [(base 1, base 2)]
  else
    let cells := (s.parser.cur.job.map (·.cellCount)).getD 0
    [(base 4, dramEnd), (base 0, base 0 + 64 * cells)]

/-- `[a, a + n)` lies wholly in one span. -/
def inSpan (gs : List (Nat × Nat)) (a n : Nat) : Bool := gs.any fun g => g.1 ≤ a && a + n ≤ g.2

/-- What a freeze does to its master beyond ACC (R653): the channel is FROZEN, the unit leaves service, the core
is FROZEN and its role moves. -/
def State.freezeMaster (s : State) (m : Nat) : State :=
  if m < 8 then
    (s.setFld (Reg.ING_CH_STATUS m) Fld.ING_CH_STATUS_STATE 5).event Reg.ING_EVENT Fld.ING_EVENT_FREEZE
  else if m < 12 then
    (s.onUnit (m - 8) fun u => { u with
      state := .out, row := none, outReq := false, stalled := false }).event Reg.EXP_EVENT Fld.EXP_EVENT_UNIT_OUT
  else s.coreLeaves (m - 12) 3

/-- Requester ID of an internal master (R503). -/
def masterReq (m : Nat) : Nat := if m < 8 then 0 else if m < 12 then 1 else 8

/-- DRAM_WRITE (R507, R510, R512, R653, R654): requester `req` writes `data` at `addr`; where an internal master
of R653 writes, `master` names it, and a write outside its grant is not executed, wherever it points. -/
def execDramWrite (req : Fin 11) (master : Option (Fin 24)) (addr : Nat) (data : List Byte) (shut : List Nat)
    (s : State) : Host.Outcome State Fault Refusal :=
  let bad := match master with
    | some m => !inSpan (s.grantsOf m) addr data.length
    | none => false
  match bad, master with
  | true, some m =>
    let had := bit (s.regN Reg.ACC_FROZEN_INT) m
    let s := s.violation m (masterReq m) addr
    .next (if had then s else s.freezeMaster m)
  | _, _ =>
    if dramEnd < addr + data.length then .fault .noSuchAddress
    else .next ((s.shutRows shut).serveAll.serveReq ⟨req + 16, 0, addr, data⟩)

/-- RH_WINDOW_RESET (R504): a window of WINDOW_MS begins: no requester is throttled, and those that waited go on. -/
def execRhWindowReset (s : State) : Host.Outcome State Fault Refusal :=
  let s : State := { s with dram := { s.dram with trackers := [], throttled := [] } }
  .next s.showThrottle.serveAll

/-! ### Scrubbing (R511) -/

/-- The scrubber opens the rows of in-bank group `q` in every bank; a read of a row with a write in its queue is in order
(R502, R511). -/
def State.scrubRows (s : State) (q : Nat) : State :=
  let s := (s.dram.writes.filter fun x => (groupRows q).contains x.2).foldl (fun s x => s.readOrder x) s
  banksInOrder.foldl (fun s b => s.openGroup 10 b q) s

/-- SCRUB_STEP (R511, R517): the scrubber reads the next in-bank group of every bank, and writes corrected words
back; a pending partial write of a word flushes before its read. `upsets` are bits that have flipped in stored
words. -/
def execScrubStep (upsets : List (Nat × Nat)) (s : State) : Host.Outcome State Fault Refusal :=
  let q := s.regN Reg.MI_SCRUB_POS
  let s := (s.upset upsets).scrubRows q
  let ws := (s.dram.errs.filter fun e => (s.groupOf (8 * e.1)).2 == q).map (·.1)
  let s := ws.foldl (fun s w =>
    let s := s.flushRange (8 * w) 8
    let k := eccKind (s.errOf w)
    let s := s.readWord 10 w
    if k = 1 then s.rewriteWord w 255 0 else s) s
  if q + 1 < 466033 then .next (s.setRegN Reg.MI_SCRUB_POS (q + 1))
  else .next (((s.setRegN Reg.MI_SCRUB_POS 0).count Reg.MI_SCRUB_PASSES 1).event Reg.MI_EVENT
    Fld.MI_EVENT_SCRUB_PASS)

/-! ### Retirement (R513 to R515) -/

/-- PAGE_RETIRE (R514): `w` is written to MI_REMAP_CTRL. -/
def execPageRetire (w : Word) (s : State) : Host.Outcome State Fault Refusal :=
  let p := Fld.MI_REMAP_CTRL_PAGE.get w
  if Fld.MI_REMAP_CTRL_OP.get w = 1 ∧ p ≤ 0xDFFFFF then .next (s.retirePage p) else .next s

/-- The words of a page as its copy leaves them (R513): corrected, or poison. -/
def State.copyWord (s : State) (w : Nat) : State :=
  match eccKind (s.errOf w) with
  | 0 => s.rewriteWord w 255 0
  | 1 => (s.readWord 10 w).rewriteWord w 255 0
  | _ => ((s.readWord 10 w).propagated 10 w).rewriteWord w 255 poison

/-- PAGE_COPY_DONE (R513, R517): the last line is copied; a copy in a region not yet initialised waits. -/
def execPageCopyDone (s : State) : Host.Outcome State Fault Refusal :=
  match s.dram.copying with
  | none => .next s
  | some (n, p) =>
    if ¬ s.inited (4096 * p) then .next s
    else
      let ch := (s.groupOf (4096 * p)).1 % 16
      let s := (s.badWords (4096 * p) 4096).foldl (fun s w => s.copyWord w) ((s.flushRange (4096 * p) 4096).openRows 10 (4096 * p) 4096)
      let s := (s.setTbl (remapBase + 4 * n) (BitVec.ofNat 32 (2 ^ 31 + p))).openRows 10 (4096 * p) 4096
      let s := s.setFld Reg.MI_STATUS Fld.MI_STATUS_REMAP_USED (s.fld Reg.MI_STATUS Fld.MI_STATUS_REMAP_USED + 1)
      let s := s.setFld Reg.MI_STATUS Fld.MI_STATUS_COPY_BUSY 0
      let s := s.raiseInfo .degraded Reg.MI_EVENT Fld.MI_EVENT_PAGE_RETIRED 0 (unitDram ch) (4096 * p)
      let s := s.stateWrite ⟨2, toLE 2 n ++ [0, 0] ++ toLE 4 p⟩
      let q := s.dram.copyQueue
      let s : State := { s with dram := { s.dram with copying := none, copyQueue := [] } }
      .next (q.foldl (fun s p => s.retirePage p) s)

/-- MI_BANK_STATUS shows the lists (R521). -/
def State.showBanks (s : State) : State :=
  (s.setFld Reg.MI_BANK_STATUS Fld.MI_BANK_STATUS_RETIRED s.dram.retired.length).setFld Reg.MI_BANK_STATUS
    Fld.MI_BANK_STATUS_PENDING s.dram.pendingBanks.length

/-- The bank a write of MI_BANK_RETIRE names, as channel + 16 × bank. -/
def bankOf (w : Word) : Nat := Fld.MI_BANK_RETIRE_CHANNEL.get w + 16 * Fld.MI_BANK_RETIRE_BANK.get w

/-- BANK_RETIRE_REQUEST (R515): at most three banks, retired and pending together. -/
def execBankRetireRequest (path : Path) (w : Word) (s : State) : Host.Outcome State Fault Refusal :=
  let b := bankOf w
  if Fld.MI_BANK_RETIRE_OP.get w ≠ 1 ∨ (s.dram.retired ++ s.dram.pendingBanks).contains b = true then .next s
  else if 3 ≤ s.dram.retired.length + s.dram.pendingBanks.length then
    .next (s.accFlag path Reg.MI_BANK_RETIRE .refused)
  else
    let ps := s.dram.pendingBanks ++ [b]
    let s : State := { s with dram := { s.dram with pendingBanks := ps } }
    let s := s.showBanks.raise .degraded Reg.MI_EVENT Fld.MI_EVENT_BANK_PENDING 0 (unitDram (b % 16))
    .next (s.stateWrite ⟨1, [BitVec.ofNat 8 (b % 16), BitVec.ofNat 8 (b / 16), 1, 0, 0, 0, 0, 0]⟩)

/-- BANK_RETIRE_CANCEL (R515): a pending request is withdrawn. -/
def execBankRetireCancel (w : Word) (s : State) : Host.Outcome State Fault Refusal :=
  let b := bankOf w
  if Fld.MI_BANK_RETIRE_OP.get w ≠ 2 ∨ s.dram.pendingBanks.contains b = false then .next s
  else
    let ps := s.dram.pendingBanks.filter (· != b)
    let s : State := { s with dram := { s.dram with pendingBanks := ps } }
    .next (s.showBanks.stateWrite ⟨1, [BitVec.ofNat 8 (b % 16), BitVec.ofNat 8 (b / 16), 2, 0, 0, 0, 0, 0]⟩)

/-! ### Flip mask and training (R512, R519) -/

/-- FLIP_ARM (R512): `w` is written to MI_FLIP_CTRL. -/
def execFlipArm (w : Word) (s : State) : Host.Outcome State Fault Refusal :=
  .next (s.setRegN Reg.MI_FLIP_CTRL (w.toNat % 1024))

/-- DRAM_TRAINING_DONE (R519, R583): the channels of `ok` have trained; any other fails, which is fatal. -/
def execDramTrainingDone (ok : BitVec 16) (us : Nat) (s : State) : Host.Outcome State Fault Refusal :=
  let s := s.setFld Reg.DC_STATUS Fld.DC_STATUS_TRAINED ok.toNat
  if ok.toNat = 65535 then .next ((s.setFld Reg.DC_STATUS Fld.DC_STATUS_ALL_TRAINED 1).milestone 3 us)
  else
    let s := s.setFld Reg.DC_STATUS Fld.DC_STATUS_TRAIN_FAIL 1
    let c := (findBelow 16 fun c => !bit ok.toNat c).getD 0
    .next (s.fatal Reg.DC_EVENT Fld.DC_EVENT_TRAIN_FAIL 0 (unitDram c))

end Sys2Proof.Machine
end

