-- ==== Sys2Proof/Machine/FabLink.lean ====
section
/-! DEFINITION. Fabric ports: frames, credits, retry, routing, multicast, receipt (R368 to R376, R381 to R386). -/

namespace Sys2Proof.Machine

open Sys2Proof.Bits

/-! ### State access -/

/-- The state with fabric port `p` changed by `f`. -/
def State.onFport (s : State) (p : Nat) (f : FabPort → FabPort) : State :=
  match s.fab.ports[p]? with
  | some x => { s with fab := { s.fab with ports := s.fab.ports.set p (f x) } }
  | none => s

/-- This module is the fabric root. -/
def State.isRoot (s : State) : Bool := s.flag Reg.FAB_STATUS Fld.FAB_STATUS_ROOT

/-- The root's serial number. -/
def State.rootSerial (s : State) : Nat := s.pair Reg.FAB_ROOT_SERIAL_LO

/-! ### The topology graph (R378, R381, R386) -/

/-- The UP ports of an entry, each with its neighbour's serial number and the neighbour's port. -/
def TopoEntry.links (e : TopoEntry) : List (Nat × Nat × Nat) :=
  e.ports.zipIdx.filterMap fun x => if x.1.2.2 = 3 ∧ x.1.1 ≠ 0 then some (x.2, x.1.1, x.1.2.1) else none

/-- Distances to the modules of `done`, grown by whole layers from `front`. -/
def bfs (db : List TopoEntry) : Nat → List (Nat × Nat) → List Nat → Nat → List (Nat × Nat)
  | 0, done, _, _ => done
  | n + 1, done, front, k =>
    let layer := (db.filter fun e => !(done.any fun d => d.1 == e.serial) &&
      e.links.any fun l => front.contains l.2.1).map (·.serial)
    if layer.isEmpty then done else bfs db n (done ++ layer.map fun x => (x, k)) layer (k + 1)

/-- Hop counts of every module to the module with serial number `dest`. -/
def distTo (db : List TopoEntry) (dest : Nat) : List (Nat × Nat) := bfs db db.length [(dest, 0)] [dest] 1

/-- The distance of `v` in such a list. -/
def distIn (l : List (Nat × Nat)) (v : Nat) : Option Nat := (l.find? fun x => x.1 == v).map (·.2)

/-- Order of preference of ports (R381): distance, neighbour serial, port number. -/
def pickLess (a b : Nat × Nat × Nat) : Bool :=
  decide (a.1 < b.1) || (a.1 == b.1 && (decide (a.2.1 < b.2.1) || (a.2.1 == b.2.1 && decide (a.2.2 < b.2.2))))

/-- `x` in its place of a list of choices. -/
def pickInsert (x : Nat × Nat × Nat) (l : List (Nat × Nat × Nat)) : List (Nat × Nat × Nat) := insertBefore pickLess x l

/-- The ports of an entry by which the module with distances `d` can be reached, best first: distance of the
neighbour, its serial number, port. -/
def TopoEntry.choices (e : TopoEntry) (d : List (Nat × Nat)) : List (Nat × Nat × Nat) :=
  (e.links.filterMap fun l => (distIn d l.2.1).map fun k => (k, l.2.1, l.1)).foldl
    (fun a x => pickInsert x a) []

/-- This module's entry in the database. -/
def State.ownTopo (s : State) : Option TopoEntry := s.fab.db.find? fun e => e.serial == s.serial

/-- The serial number that holds ID `n` (R379). -/
def State.serialOf (s : State) (n : Nat) : Option Nat :=
  (s.fab.ids.find? fun x => x.2 == some n).map (·.1)

/-- The ID of serial number `v`. -/
def State.idOf (s : State) (v : Nat) : Option Nat := (s.fab.ids.find? fun x => x.1 == v).bind (·.2)

/-- IDs of the modules in the database. -/
def State.present (s : State) : List Nat := s.fab.db.filterMap fun e => s.idOf e.serial

/-- Route table entry of node `n` (R381): DIST and up to three ports in order, each with its neighbour's
distance. -/
def State.route (s : State) (n : Nat) : Option (Nat × List (Nat × Nat)) :=
  match s.serialOf n, s.ownTopo with
  | some v, some e =>
    let d := distTo s.fab.db v
    match distIn d s.serial with
    | none => none
    | some own =>
      let c := (e.choices d).filter fun x => decide (x.1 ≤ own)
      some (own, (c.take 3).map fun x => (x.2.2, x.1))
  | _, _ => none

/-- The port on which a frame to node `n` leaves, and its ALT mark (R381). -/
def State.routePort (s : State) (n : Nat) (alt : Bool) : Option (Nat × Bool) :=
  match s.route n with
  | none => none
  | some (own, c) =>
    match c.find? fun x => s.fpState x.1 == 3 && (!alt || decide (x.2 < own)) with
    | some x => some (x.1, alt || x.2 == own)
    | none => none

/-- The parent of a module on the root tree, and its port toward it (R386). -/
def parentOf (db : List TopoEntry) (d : List (Nat × Nat)) (v : Nat) : Option (Nat × Nat) :=
  match db.find? fun e => e.serial == v with
  | some e => ((e.choices d).head?).map fun x => (x.2.1, x.2.2)
  | none => none

/-- This module's port toward the root; none at the root. -/
def State.upPort (s : State) : Option Nat :=
  if s.isRoot then none
  else (parentOf s.fab.db (distTo s.fab.db s.rootSerial) s.serial).map (·.2)

/-- The neighbour on UP port `p` is a child on the root tree. -/
def State.isChild (s : State) (p : Nat) : Bool :=
  let x := s.fport p
  s.fpState p == 3 &&
    parentOf s.fab.db (distTo s.fab.db s.rootSerial) x.neigh == some (s.serial, x.neighPort)

/-- The child port of this module beyond which module `v` lies, following the tree from `v`. -/
def State.beyond (s : State) (d : List (Nat × Nat)) : Nat → Nat → Option Nat
  | 0, _ => none
  | n + 1, v =>
    match parentOf s.fab.db d v with
    | none => none
    | some (w, q) =>
      if w = s.serial then
        (List.range 4).find? fun p => (s.fport p).neigh == v && (s.fport p).neighPort == q && s.fpState p == 3
      else s.beyond d n w

/-- Node `n` is a member of group `g` (R386, R398). -/
def State.inGroup (s : State) (g n : Nat) : Bool :=
  g == 0 || bit (s.tbl (0x01D00000 + 0x80 * g + n / 32 * 4)).toNat (n % 32)

/-- The tree ports on which a frame to group `g` leaves, but for `from_` (R386). -/
def State.treePorts (s : State) (g from_ : Nat) : List Nat :=
  let d := distTo s.fab.db s.rootSerial
  let ms := (s.present.filter fun n => n != s.node && s.inGroup g n).filterMap s.serialOf
  let via := ms.map fun v => (s.beyond d s.fab.db.length v).getD (s.upPort.getD 4)
  (List.range 4).filter fun p => p != from_ && via.contains p && s.fpState p == 3

/-! ### Sending (R371 to R373, R376) -/

/-- Traffic class of a type. -/
def classOf (ty : Nat) : Nat := ty / 16

/-- Credits of a class's buffer (R372, R376). -/
def classCredits (c : Nat) : Nat := nth [32, 128, 384, 160, 64] c 0

/-- Credits a frame takes (R372). -/
def FabFrame.credits (f : FabFrame) : Nat := divUp (20 + f.pay.length) 64

/-- The bytes of a frame on a link, with its CRC (R375). -/
def FabFrame.bytes (f : FabFrame) (lseq : Nat) : List Byte :=
  let b := toLE 1 f.ty ++ toLE 1 f.flags ++ toLE 2 f.dst ++ toLE 2 f.src ++ toLE 2 f.pay.length ++ toLE 2 lseq ++
    toLE 1 f.ttl ++ toLE 1 f.flow ++ toLE 4 f.arg ++ f.pay
  b ++ toLE 4 (Crc.crc32c b)

/-- Credits of class `c` that port `p` may spend (R372). -/
def FabPort.avail (x : FabPort) (c : Nat) : Nat :=
  (classCredits c + 65536 - Kv.getD x.spent c 0 + Kv.getD x.returned c 0) % 65536

/-- Bytes in the retry buffer. -/
def FabPort.retryBytes (x : FabPort) : Nat := x.retry.foldl (fun n f => n + 20 + f.2.pay.length) 0

/-- A frame addressed to the neighbour only. -/
def FabFrame.linkLocal (f : FabFrame) : Bool := f.dst == 0xFFFF && !bit f.flags 0

/-- A frame that port `p` in state `st` may send now. -/
def FabPort.ready (x : FabPort) (st : Nat) (f : FabFrame) : Bool :=
  (st == 3 || (st == 2 && f.linkLocal)) && decide (f.credits ≤ x.avail (classOf f.ty)) &&
    decide (x.retryBytes + 20 + f.pay.length ≤ 32768)

/-- The class sent next (R376): the highest with a frame ready, but for BULK or TUNNEL that has waited through
31 frames. -/
def FabPort.nextClass (x : FabPort) (st : Nat) : Option Nat :=
  let ok := fun (c : Nat) => ((x.queue.find? fun f => classOf f.ty == c).any fun f => x.ready st f : Bool)
  if 31 ≤ x.passedBulk ∧ ok 3 = true then some 3
  else if 31 ≤ x.passedTunnel ∧ ok 4 = true then some 4
  else findBelow 5 ok

/-- The port after it has sent a frame of class `c`. -/
def FabPort.passed (x : FabPort) (c : Nat) : FabPort :=
  let waits := fun k => x.queue.any fun f => classOf f.ty == k
  { x with
    passedBulk := if c < 3 ∧ waits 3 then x.passedBulk + 1 else 0
    passedTunnel := if c < 4 ∧ waits 4 then x.passedTunnel + 1 else 0 }

/-- Port `p` sends what it can (R372, R373, R376). -/
def State.pump (s : State) (p : Nat) : Nat → State
  | 0 => s
  | n + 1 =>
    let x := s.fport p
    match x.nextClass (s.fpState p) with
    | none => s
    | some c =>
      match x.queue.find? fun f => classOf f.ty == c with
      | none => s
      | some f =>
        let s := s.sendOn (p + 1) (f.bytes x.txSeq)
        let s := s.onFport p fun x => ({ x with
          queue := x.queue.erase f
          retry := x.retry ++ [(x.txSeq, f)]
          txSeq := (x.txSeq + 1) % 65536
          spent := Kv.set x.spent c ((Kv.getD x.spent c 0 + f.credits) % 65536) } : FabPort).passed c
        s.pump p n

/-- Port `p` carries frames: it has a lane, none of its lanes sleeps, and no LWIDTH of it awaits its answer (R317, R369,
R417, R418). -/
def State.fabOpen (s : State) (p : Nat) : Bool :=
  (s.fport p).mask != 0 && !(s.fport p).narrow && !s.asleep (8 + 2 * p) 2

/-- Port `p` sends what it can of its queue. -/
def State.pumpAll (s : State) (p : Nat) : State :=
  if s.fabOpen p then s.pump p (s.fport p).queue.length else s

/-- A frame joins the queue of port `p`; while the port asks for LS or LD it waits apart (R418). -/
def State.fabQueue (s : State) (p : Nat) (f : FabFrame) : State :=
  if s.asking (p + 1) then s.onFport p fun x => { x with parked := x.parked ++ [f] }
  else (s.onFport p fun x => { x with queue := x.queue ++ [f] }).pumpAll p

/-- FAB_CFG.TTL, at least 8 (R399). -/
def State.fabTtl (s : State) : Nat := max (s.fld Reg.FAB_CFG Fld.FAB_CFG_TTL) 8

/-- This module's ID as SRC; 0xFFFF without one (R375). -/
def State.fabSrc' (s : State) : Nat :=
  if s.flag Reg.FAB_STATUS Fld.FAB_STATUS_ID_VALID then s.node else 0xFFFF

/-- Frame `f` is one of this module's that a NAK may name by type, destination, flow and ARG and that nothing else keeps:
not a request, whose flow keeps it (R384), nor layout, which the replay ring keeps (R386). -/
def State.nakable (s : State) (f : FabFrame) : Bool :=
  s.flag Reg.FAB_STATUS Fld.FAB_STATUS_ID_VALID && f.src == s.node && f.dst != 0xFFFF && !bit f.flags 0 && f.ty != 0x20 &&
    f.ty != 0x31 && f.ty != 0x40 && !(f.ty == 0x30 && bit f.flags 2)

/-- A copy of frame `f` is kept for a NAK (R385): the latest 64 are (DESIGN CHOICE, log entry 66). -/
def State.keepSent (s : State) (f : FabFrame) : State :=
  if s.nakable f then
    let old := s.fab.sent.filter fun x => !(x.ty == f.ty && x.dst == f.dst && x.flow == f.flow && x.arg == f.arg)
    { s with fab := { s.fab with sent := (f :: old).take 64 } }
  else s

/-- A unicast frame takes its route; without a usable port it is held (R381). To this module it arrives as its
own command. -/
def State.routeFrame (s : State) (f : FabFrame) : State :=
  let s := s.keepSent f
  if f.dst = s.node ∧ s.flag Reg.FAB_STATUS Fld.FAB_STATUS_ID_VALID then s.emit (.own (f.bytes 0))
  else match s.routePort f.dst (bit f.flags 1) with
    | some (p, alt) =>
      s.fabQueue p { f with flags := if alt then f.flags ||| 2 else f.flags }
    | none => { s with fab := { s.fab with held := s.fab.held ++ [f] } }

/-- A frame this module originates for node `dst`. -/
def State.fabTo (s : State) (ty dst arg : Nat) (pay : List Byte) : State :=
  s.routeFrame ⟨ty, 0, dst, s.fabSrc', s.fabTtl, 0xFF, arg, pay⟩

/-- The port by which a request of this module leaves; none in ISOLATED (R379). -/
def State.askPort (s : State) (dst : Nat) : Option (Nat × Bool) := if s.fabState = 4 then none else s.routePort dst false

/-- Request `f` takes its route and opens a flow on the port it leaves by; without a free flow of its 64 it waits for
one (R384), and without a usable port it is held like any frame (R381). -/
def State.fabAsk (s : State) (f : FabFrame) : State :=
  match s.askPort f.dst with
  | none => { s with fab := { s.fab with held := s.fab.held ++ [f] } }
  | some (p, _) =>
    match findBelow 64 fun i => !((s.fport p).flows.any fun w => w.id == i) with
    | some i =>
      let f := { f with flow := i }
      (s.onFport p fun x => { x with flows := x.flows ++ [⟨i, f, false⟩] }).routeFrame f
    | none => { s with fab := { s.fab with asks := s.fab.asks ++ [f] } }

/-- A request of this module that has opened no flow yet (R384). -/
def State.noFlow (s : State) (f : FabFrame) : Bool :=
  f.src == s.fabSrc' && f.flow == 0xFF && (f.ty == 0x31 || f.ty == 0x40 || (f.ty == 0x30 && bit f.flags 2))

/-- A frame that was held, or has waited, takes its route (R381). -/
def State.sendHeld (s : State) (f : FabFrame) : State := if s.noFlow f then s.fabAsk f else s.routeFrame f

/-- Requests that waited for a flow ask again (R384). -/
def State.askAgain (s : State) : State :=
  let fs := s.fab.asks
  fs.foldl (fun s f => s.fabAsk f) { s with fab := { s.fab with asks := [] } }

/-- A request of this module to node `dst`, under the next request tag. -/
def State.fabRequest (s : State) (ty dst : Nat) (pay : List Byte) : State :=
  let t := s.fab.askTag
  let s : State := { s with fab := { s.fab with askTag := (t + 1) % 2 ^ 32 } }
  s.fabAsk ⟨ty, 0, dst, s.fabSrc', s.fabTtl, 0xFF, t, pay⟩

/-- A frame this module multicasts to group `g` (R386); it comes to this module too unless it is ING. -/
def State.fabCast (s : State) (ty g arg : Nat) (pay : List Byte) : State :=
  let f : FabFrame := ⟨ty, 1, g, s.fabSrc', s.fabTtl, 0xFF, arg, pay⟩
  let s := (s.treePorts g 4).foldl (fun s p => s.fabQueue p f) s
  if ty ≠ 0x20 ∧ s.inGroup g s.node then s.emit (.own (f.bytes 0)) else s

/-- A frame to the neighbour on port `p`. -/
def State.fabNear (s : State) (p ty : Nat) (pay : List Byte) : State :=
  s.fabQueue p ⟨ty, 0, 0xFFFF, s.fabSrc', s.fabTtl, 0xFF, 0, pay⟩

/-- Frame `f` is answered with NAK `st`: 1 RETRY_LATER, 2 NO_ROUTE, 3 TTL (R377, R381, R382, R385). The frame of a module
without an ID has no node to answer. -/
def State.fabNak (s : State) (f : FabFrame) (st : Nat) : State :=
  if 1023 < f.src then s
  else s.fabTo 0x19 f.src 0 (toLE 1 st ++ toLE 1 f.ty ++ toLE 2 f.dst ++ toLE 1 f.flow ++ [0, 0, 0] ++ toLE 4 f.arg)

/-! ### Receipt (R372, R373, R375, R382, R396) -/

/-- The types of R377. -/
def fabTypes : List Nat :=
  [0x01, 0x10, 0x11, 0x12, 0x13, 0x14, 0x15, 0x16, 0x17, 0x18, 0x19, 0x1A, 0x20, 0x30, 0x31, 0x32, 0x33, 0x40,
    0x41]

/-- The bytes from a frame's header to its CRC make a good frame (R375), CRC and LEN included. -/
def fabGood (fr : List Byte) : Bool :=
  let n := rd fr 6 2
  let flags := rd fr 1 1
  let dst := rd fr 2 2
  let ty := rd fr 0 1
  decide (20 ≤ fr.length ∧ fr.length = 20 + n ∧ n % 4 = 0 ∧ n ≤ (if ty / 16 = 0 then 64 else 2048) ∧ flags < 8) &&
    fabTypes.contains ty && (if bit flags 0 then decide (dst < 64) else decide (dst < 1024) || dst == 0xFFFF) &&
    Crc.crc32c (fr.take (fr.length - 4)) == rd fr (fr.length - 4) 4

/-- The frame that the bytes spell. -/
def fabParse (fr : List Byte) : FabFrame :=
  ⟨rd fr 0 1, rd fr 1 1, rd fr 2 2, rd fr 4 2, rd fr 10 1, rd fr 11 1, rd fr 12 4, (fr.drop 16).take (rd fr 6 2)⟩

/-- A LACK goes out on port `p` (R371): the last LSEQ in order, and NAK. -/
def State.sendLack (s : State) (p : Nat) (nak : Bool) : State :=
  s.setTime (p + 1) (setLack (((s.fport p).rxNext + 65535) % 65536) nak)

/-- A CREDIT for class `c` goes out on port `p`. -/
def State.sendCredit (s : State) (p c : Nat) : State :=
  s.setTime (p + 1) (setCredit c (Kv.getD (s.fport p).rxTotal c 0))

/-- `n` credits of class `c` return on port `p`: their frame has left the receive buffer (R372). -/
def State.returnCredit (s : State) (p c n : Nat) : State :=
  (s.onFport p fun x => { x with rxTotal := Kv.set x.rxTotal c ((Kv.getD x.rxTotal c 0 + n) % 65536) }).sendCredit p c

/-- A frame received on port `p` is rejected (R373). -/
def State.fabReject (s : State) (p : Nat) : State := (s.count (Reg.FAB_PORT_CRC_ERR p) 1).sendLack p true

/-- Node `n` is frozen at this module (R396). -/
def State.frozen (s : State) (n : Nat) : Bool := bit (s.regN (Reg.FAB_FROZEN (n / 32))) (n % 32)

/-- The TTL of frame `f` has reached 0 (R382). -/
def State.fabExpire (s : State) (f : FabFrame) : State :=
  ((s.count Reg.FAB_TTL_DROPS 1).event Reg.FAB_EVENT Fld.FAB_EVENT_TTL).fabNak f 3

/-- Node `n` is not READY as far as this module knows: it has come since the database last settled (R385; DEDUCED, log entry
66). -/
def State.notReady (s : State) (n : Nat) : Bool :=
  match s.serialOf n with
  | some v => s.fab.fresh.contains v
  | none => false

/-- A transit frame goes on with one hop less (R375, R382), unless its destination is not yet READY (R385). -/
def State.transit (s : State) (f : FabFrame) : State :=
  if f.ttl ≤ 1 then s.fabExpire f
  else if s.notReady f.dst ∧ (s.routePort f.dst (bit f.flags 1)).isSome then s.fabNak f 1
  else s.routeFrame { f with ttl := f.ttl - 1 }

/-- A multicast frame goes on along the tree, where the tree goes on (R382, R386). -/
def State.transitCast (s : State) (p : Nat) (f : FabFrame) : State :=
  let qs := s.treePorts f.dst p
  if qs = [] then s
  else if f.ttl ≤ 1 then s.fabExpire f
  else qs.foldl (fun s q => s.fabQueue q { f with ttl := f.ttl - 1 }) s

/-- Frame `f` addressed to this module is taken by `k`, unless its source is frozen (R396) or the module has no
part in it (R379). -/
def State.fabDeliver (s : State) (f : FabFrame) (k : State → FabFrame → State) : State :=
  if f.src < 1024 ∧ s.frozen f.src ∧ classOf f.ty ≠ 0 ∧ classOf f.ty ≠ 4 then s.count Reg.FAB_FROZEN_DROPS 1
  else if s.fabState = 4 ∧ f.ty ≠ 0x10 ∧ f.ty ≠ 0x11 then s
  else k s f

/-! ### The replay ring of an entry (R386, R582) -/

/-- Sequence number `a` is `b` or later, modulo 2^32. -/
def seqGe (a b : Nat) : Bool := decide ((a + 2 ^ 32 - b) % 2 ^ 32 < 2 ^ 31)

/-- FAB_CFG.ING_GROUP. -/
def State.ingGroup (s : State) : Nat := s.fld Reg.FAB_CFG Fld.FAB_CFG_ING_GROUP

/-- The members whose acknowledgement the entry waits for. -/
def State.mcMembers (s : State) : List Nat := s.present.filter fun n => n != s.node && s.inGroup s.ingGroup n

/-- The replay ring drops what every member present has acknowledged. -/
def State.replayTrim (s : State) : State :=
  let ms := s.mcMembers
  { s with fab := { s.fab with replay := s.fab.replay.filter fun x =>
    !(ms.all fun n => match Kv.get s.fab.acks n with
      | some a => seqGe a x.1
      | none => false) } }

/-- Base of the replay ring in the firmware reserve (R582). -/
def replayBase : Nat := 0xDC0000000 + 64 * 2 ^ 20

/-- Bytes of the replay ring: 16 to 512 MiB (R399). -/
def State.replaySize (s : State) : Nat :=
  min (max (s.fld Reg.FAB_XFER_CFG Fld.FAB_XFER_CFG_REPLAY_MIB) 16) 512 * 2 ^ 20

/-- Where `n` bytes go in the ring: after the newest frame, or at its start, short of the oldest (how frames lie in the
ring is not stated: DESIGN CHOICE, log entry 67). -/
def State.replayPlace (s : State) (n : Nat) : Option Nat :=
  match s.fab.replay.head?, s.fab.replay.getLast? with
  | some (_, f, _), some (_, a, k) =>
    let a := a + k
    if f < a then if a + n ≤ s.replaySize then some a else if n < f then some 0 else none
    else if a + n < f then some a else none
  | _, _ => if n ≤ s.replaySize then some 0 else none

/-- The ING frame with MSEQ `q` is kept for replay (R386). -/
def State.replayKeep (s : State) (q : Nat) (pay : List Byte) : State :=
  match s.replayPlace pay.length with
  | none => s
  | some a =>
    let s := s.store 9 (replayBase + a) pay
    { s with fab := { s.fab with replay := s.fab.replay ++ [(q, a, pay.length)] } }

/-- A frame is read from the ring for one member, to which it goes with MC 0 (R386). -/
def State.replayFrame (s : State) (dst : Nat) (x : Nat × Nat × Nat) : FabFrame × State :=
  let (_, pay, s) := s.fetch 9 (replayBase + x.2.1) x.2.2
  (⟨0x20, 0, dst, s.fabSrc', s.fabTtl, 0xFF, x.1, pay⟩, s)

/-- The ring has room for every frame that the ingest receive buffer may bring, 32 KiB of them (R386, R526). -/
def State.replayFits (s : State) : Bool := (s.replayPlace 32768).isSome

/-- Fabric port `p` has LAYOUT credit for the largest ING frame beside those that wait (R372, R386). -/
def State.layoutCredit (s : State) (p : Nat) : Bool :=
  let x := s.fport p
  let waits := (x.queue.filter fun f => classOf f.ty == 2).foldl (fun n f => n + f.credits) 0
  decide (waits + 32 ≤ x.avail 2)

/-! ### Receipt of a frame -/

/-- Where a good frame goes: to this module, onward, or both. -/
def State.fabDispatch (s : State) (p : Nat) (f : FabFrame) (k : State → FabFrame → State) : State :=
  if bit f.flags 0 then
    let s := if p < 4 then s.transitCast p f else s
    if s.inGroup f.dst s.node ∧ s.flag Reg.FAB_STATUS Fld.FAB_STATUS_ID_VALID then s.fabDeliver f k else s
  else if f.dst = 0xFFFF then s.fabDeliver f k
  else if f.dst = s.node ∧ s.flag Reg.FAB_STATUS Fld.FAB_STATUS_ID_VALID then s.fabDeliver f k
  else s.transit f

/-- A frame of type `ty` may come in on a fabric port that sends NOT_READY (R407): TOPO and ASSIGN, by which the fabric
becomes READY (R378, R585; DEDUCED, log entry 80). -/
def discovers (ty : Nat) : Bool := ty == 0x10 || ty == 0x11

/-- A frame of type `ty`, from its header to its CRC, comes in on port `p`, 4 being this module itself: link
checks and acknowledgement, then `k` where it is addressed here, then its credits, unless it stays in the buffer
(R538). A port without a lane carries nothing (R417), and one that sends NOT_READY discards (R407). -/
def State.fabRx (s : State) (p : Nat) (fr : List Byte) (ty : Nat) (k : State → FabFrame → State) : State :=
  if rd fr 0 1 ≠ ty then s
  else if p = 4 then if fabGood fr then s.fabDispatch 4 (fabParse fr) k else s
  else if ¬ s.locked ∨ (s.nrReason (p + 1) ≠ 0 ∧ ¬ discovers ty) then s.nrDiscard (8 + 2 * p) 2
  else if s.fpState p < 2 ∨ (s.fport p).mask = 0 then s
  else if ¬ fabGood fr ∨ rd fr 8 2 ≠ (s.fport p).rxNext then s.fabReject p
  else
    let f := fabParse fr
    let c := classOf f.ty
    let held := s.ing.layoutHeld.length
    let s := s.onFport p fun x => { x with rxNext := (x.rxNext + 1) % 65536 }
    let s := (s.sendLack p false).fabDispatch p f k
    if held < s.ing.layoutHeld.length then s else s.returnCredit p c f.credits

end Sys2Proof.Machine
end

