-- ==== Sys2Proof/Machine/FabBar.lean ====
section
/-! DEFINITION. Barriers and swath starts over the fabric, the rate governor and its exchange, fabric timed
actions (R35, R264 to R268, R387 to R390, R394). -/

namespace Sys2Proof.Machine

open Sys2Proof.Bits

/-! ### The staging lead (R33, R264) -/

/-- The staging lead of a swath in µs at line rate `rate`: none when every tile is resolved (R264). -/
def State.stagingLead (s : State) (w : Swath) (l : Layer) (e : SwathEntry) (rate : Nat) : Option Nat :=
  match (s.unresolved w).map fun t => e.order (e.rowFirst t.trow) with
  | [] => none
  | a :: t =>
    let u := t.foldl min a
    let f := s.front w l e
    some ((max u f - min u f) * 1000000 / max rate 1)

/-- The effective low-water in µs at line rate `rate` (R33). -/
def State.lowWater (s : State) (l : Layer) (rate : Nat) : Nat :=
  max (max (s.fld Reg.GY_GOV_CFG Fld.GY_GOV_CFG_LOW_WATER_US) 1)
    (l.job.leadUs + divUp (128 * 1000000) (max rate 1))

/-- MIN_OVR (R279). -/
def State.minOvr (s : State) : Nat := min (max (s.fld Reg.GY_GOV_CFG Fld.GY_GOV_CFG_MIN_OVR) 1) 1024

/-! ### Barrier records (R387) -/

/-- A barrier record. -/
def barRecord (kind flags driver layer swath crc rate t : Nat) : List Byte :=
  toLE 1 kind ++ toLE 1 flags ++ toLE 2 driver ++ toLE 4 layer ++ toLE 2 swath ++ [0, 0] ++ toLE 4 crc ++
    toLE 4 rate ++ toLE 4 (t / 65536 % 1000000000) ++ toLE 8 (t / 65536 / 1000000000) ++
    toLE 2 (t % 65536 / 1024 * 1024) ++ [0, 0]

def barKind (b : List Byte) : Nat := rd b 0 1
/-- The arrival's module drives axis S. -/
def barDriver (b : List Byte) : Bool := bit (rd b 1 1) 0
/-- The arrival carries a release already received (R389). -/
def barHeld (b : List Byte) : Bool := bit (rd b 1 1) 1
def barNode (b : List Byte) : Nat := rd b 2 2
def barLayer (b : List Byte) : Nat := rd b 4 4
def barSwath (b : List Byte) : Nat := rd b 8 2
def barCrc (b : List Byte) : Nat := rd b 12 4
def barRate (b : List Byte) : Nat := rd b 16 4
def barTime (b : List Byte) : Nat := flat (rd b 24 8) (rd b 20 4) (rd b 32 2)

/-- The state with the fabric's own data changed by `f`. -/
def State.onFab (s : State) (f : Fabric → Fabric) : State := { s with fab := f s.fab }

/-! ### The participant (R35, R268, R388, R389) -/

/-- The pending arrival goes to the root (R388). After a root change one that has been released says so, whatever has
become of its swath (R389, R397). -/
def State.sendArrival (s : State) : State :=
  match s.fab.pend, s.idOf s.rootSerial with
  | some d, some root =>
    let waits := s.gy.swaths.any fun w => w.layer == d.layer && w.idx == d.swath &&
      (w.state == .ready || w.state == .armed)
    let pay := match d.start with
      | none => d.pay
      | some t => barRecord (barKind d.pay) (rd d.pay 1 1 ||| 2) (barNode d.pay) (barLayer d.pay) (barSwath d.pay)
          (barCrc d.pay) (barRate d.pay) t
    if waits ∨ d.start.isSome then s.fabTo 0x12 root d.id pay else s
  | _, _ => s

/-- The swath before `w` in firing order is DRAINING or gone, and its end boundary then (R268, R388). -/
def State.prevEnd (s : State) (w : Swath) : Option Nat :=
  match (s.gy.swaths.takeWhile fun x => !(x.layer == w.layer && x.idx == w.idx)).getLast? with
  | none => some (s.gy.lastEnd.getD 0)
  | some x => if x.state = .draining then some (x.lastFire.getD (x.startAt.getD 0)) else none

/-- A captured swath may be reported ready (R35, R253, R268, R308, R562, R585, R590, R617,
R641). -/
def State.mayReport (s : State) (w : Swath) (l : Layer) (e : SwathEntry) : Bool :=
  let lead := match s.stagingLead w l e w.rate with
    | none => true
    | some n => decide (2 * s.lowWater l w.rate ≤ n)
  lead && (w.ports.all fun p => s.portAcked p w.layer w.idx && s.portState p == 6 && s.chainWhole p) &&
    (w.ports.all fun p => s.fld (Reg.GY_PORT_STATUS p) Fld.GY_PORT_STATUS_TEMP_STATE == 0) &&
    decide (s.spanNeed l e w.rate ≤ 16777216) && (s.prevEnd w).isSome &&
    !s.flag Reg.CMP_STATUS Fld.CMP_STATUS_FULL && !l.stopped && s.fabState == 3 &&
    !s.flag Reg.ERR_STATUS Fld.ERR_STATUS_FATAL && !s.flag Reg.HM_STATUS Fld.HM_STATUS_SWATH_HOLD && !((s.boot.hand.map (·.due)).getD false) &&
    (!s.flag (Reg.MP_AX_CFG 0) Fld.MP_AX_CFG_ENABLE || s.axState 0 != 0)

/-- SWATH_READY (R268, R388): the oldest captured swath is reported ready for barrier `bar`. -/
def execSwathReady (bar : Nat) (s : State) : Host.Outcome State Fault Refusal :=
  match s.gy.swaths.find? fun w => w.state == .captured with
  | none => .next s
  | some w =>
    match s.layer w.layer, s.swEntry w with
    | some l, some e =>
      if s.mayReport w l e then
        let rate := if w.ports.isEmpty then 0 else w.rate
        let t := max ((s.prevEnd w).getD 0 + ns16 (e.dwellUs * 1000)) s.now16
        let drv := b2n (s.flag (Reg.MP_AX_CFG 0) Fld.MP_AX_CFG_ENABLE)
        let pay := barRecord 1 drv 0 w.layer w.idx l.planCrc rate (divUp t 1024 * 1024)
        let s := s.onSwath w.layer w.idx fun w => { w with state := .ready, barrier := bar % 2 ^ 32 }
        let s := s.onFab fun f => { f with pend := some ⟨bar % 2 ^ 32, w.layer, w.idx, pay, none, false⟩ }
        .next s.sendArrival
      else .next s
    | _, _ => .next s

/-- BAR_ARRIVE_RESEND (R388, R389): 10 ms have passed without a release or an abort, of a new root where the root has
changed. -/
def execBarArriveResend (s : State) : Host.Outcome State Fault Refusal :=
  match s.fab.pend with
  | some d => if d.start.isNone ∨ d.again then .next s.sendArrival else .next s
  | none => .next s

/-! ### The root (R388, R389) -/

/-- Barrier `id` is aborted at the root with `cause`, naming `node` (R388). -/
def State.barAbort (s : State) (id cause node : Nat) : State :=
  let s := s.onFab fun f => { f with arrivals := f.arrivals.filter fun a => a.id != id }
  s.fabCast 0x14 0 id (toLE 1 cause ++ [0] ++ toLE 2 node)

/-- The arrivals of a complete barrier, in node order. -/
def State.arrived (s : State) (id : Nat) : List (Nat × List Byte) :=
  s.fab.members.filterMap fun n =>
    (s.fab.arrivals.find? fun a => a.id == id && a.node == n).map fun a => (n, a.pay)

/-- The barrier is released with record `pay` (R388). -/
def State.barRelease (s : State) (id : Nat) (pay : List Byte) : State :=
  let s := s.onFab fun f => { f with
    arrivals := f.arrivals.filter fun a => a.id != id
    released := ((id, pay) :: f.released).take 64 }
  (s.setRegN Reg.FAB_BAR_LAST id).fabCast 0x13 0 id pay

/-- The start the root gives (R388, R389), in 2^-16 ns: that of an arrival with HELD; else the latest of the
earliest starts and now with the release margin, up to a tap. -/
def State.barStart (s : State) (as : List (Nat × List Byte)) : Nat :=
  match as.find? fun a => barHeld a.2 with
  | some a => barTime a.2
  | none =>
    let t := as.foldl (fun m a => max m (barTime a.2))
      (s.now16 + ns16 (max (s.fld Reg.FAB_BAR_CFG Fld.FAB_BAR_CFG_REL_US) 100 * 1000))
    divUp t 1024 * 1024

/-- The agreed rate (R143, R388). -/
def State.barRateOf (s : State) (as : List (Nat × List Byte)) (layer swath : Nat) : Nat :=
  match (as.map fun a => barRate a.2).filter (· != 0) with
  | a :: t => t.foldl min a
  | [] =>
    let r := ((s.layer layer).bind fun l => (l.entry swath).map (·.rateReq)).getD 0
    if r = 0 then 200000 else r

/-- A complete barrier is judged (R388). With no driver at all no node is named by the rule: the value is free. -/
def State.barJudge (s : State) (id : Nat) : State :=
  let as := s.arrived id
  match as with
  | [] => s
  | (_, b) :: _ =>
    if barKind b = 0 then
      s.barRelease id (barRecord 0 0 0 (barLayer b) (barSwath b) 0 0 (s.barStart as))
    else
      match as.find? fun a => barCrc a.2 != barCrc b with
      | some a => s.barAbort id 1 a.1
      | none =>
        match as.filter fun a => barDriver a.2 with
        | [d] =>
          s.barRelease id (barRecord 1 0 d.1 (barLayer b) (barSwath b) (barCrc b)
            (s.barRateOf as (barLayer b) (barSwath b)) (s.barStart as))
        | _ :: d :: _ => s.barAbort id 4 d.1
        | [] =>
          let (v, s) := s.free
          s.barAbort id 4 (v % 1024)

/-- The lowest participant without an arrival for `id` (R388). -/
def State.barMissing (s : State) (id : Nat) : Option Nat :=
  s.fab.members.find? fun n => !(s.fab.arrivals.any fun a => a.id == id && a.node == n)

/-- A barrier with an arrival is released or aborted once that can be decided (R388). -/
def State.barCheck (s : State) (id : Nat) : State :=
  match s.fab.members.find? fun n => !s.present.contains n with
  | some n => s.barAbort id 2 n
  | none => if (s.barMissing id).isNone then s.barJudge id else s

/-- `n` in its place of a rising list. -/
def insNat (n : Nat) : List Nat → List Nat
  | [] => [n]
  | a :: t => if n < a then n :: a :: t else a :: insNat n t

/-- The participants are formed at a job's first barrier (R388): the modules with an ID in the database that are READY as far
as the root knows. -/
def State.formMembers (s : State) (layer : Nat) : State :=
  let job := match s.layer layer with
    | some l => some l.job.no
    | none => s.fab.job
  if job = s.fab.job ∧ s.fab.members ≠ [] then s
  else
    let ms := (s.present.filter fun n => !s.notReady n).foldl (fun l n => insNat n l) []
    (s.onFab fun f => { f with members := ms, job := job }).setFld Reg.FAB_NODES Fld.FAB_NODES_MEMBERS ms.length

/-- The root takes an arrival (R388, R389). One for a barrier already released is answered with the release. -/
def State.takeArrival (s : State) (f : FabFrame) : State :=
  if ¬ s.isRoot then s
  else match Kv.get s.fab.released f.arg with
    | some pay => s.fabTo 0x13 f.src f.arg pay
    | none =>
      let s := s.formMembers (barLayer f.pay)
      if s.fab.arrivals.any fun a => a.id == f.arg && a.node == f.src then s
      else (s.onFab fun g => { g with arrivals := g.arrivals ++ [⟨f.arg, f.src, f.pay⟩] }).barCheck f.arg

/-- BAR_ARRIVE_FRAME (R388). -/
def execBarArriveFrame (p : Fin 5) (fr : List Byte) (s : State) : Host.Outcome State Fault Refusal :=
  .next (s.fabRx p fr 0x12 State.takeArrival)

/-- BAR_TIMEOUT (R388): BAR_TO_S has passed since the first arrival for barrier `bar`. -/
def execBarTimeout (bar : Nat) (s : State) : Host.Outcome State Fault Refusal :=
  if s.isRoot ∧ s.fld Reg.FAB_BAR_CFG Fld.FAB_BAR_CFG_BAR_TO_S ≠ 0 ∧ (s.fab.arrivals.any fun a => a.id == bar) then
    match s.barMissing bar with
    | some n => .next (s.barAbort bar 3 n)
    | none => .next s
  else .next s

/-! ### Release and abort at the participant (R388) -/

/-- The EXP_SURVEY registers show swath `w`: its survey is the latest final one (R154). -/
def State.surveyShown (s : State) (w : Swath) : Bool :=
  match (s.surveys.filter (·.done)).getLast? with
  | some v => v.layer == w.layer && v.swath == w.idx
  | none => false

/-- The survey registers of a swath whose agreed rate is `rate`, its own being `w.rate` (R143, R149). A module with no used
port in it has no rate of its own; which LIMITER it then shows is not stated, and the model shows FABRIC (DESIGN CHOICE, log
entry 60). -/
def State.showAgreed (s : State) (w : Swath) (rate : Nat) : State :=
  if s.surveyShown w then
    let s := s.setRegN Reg.EXP_SURVEY_RATE rate
    if rate < w.rate ∨ w.ports.isEmpty then s.setFld Reg.EXP_SURVEY_STATUS Fld.EXP_SURVEY_STATUS_LIMITER 5 else s
  else s

/-- A READY swath is ARMED for start `t` at the agreed rate (R30, R143, R268, R388); false where no slot is free. -/
def State.armSwath (s : State) (w : Swath) (t rate : Nat) : Bool × State :=
  let (ok, s) := s.fwArm t 1 w.layer w.idx
  if ok then
    let s := s.showAgreed w rate
    let s := s.onSwath w.layer w.idx fun w => { w with state := .armed, startAt := some t, rate := rate }
    match s.swath w.layer w.idx with
    | none => (true, s)
    | some w =>
      let s : State := { s with ver := { s.ver with ctxs := s.ver.ctxs.map fun c =>
        if c.id.layer = w.layer ∧ c.id.swath = w.idx then { c with tF := s.tFOf w c.id.trow } else c } }
      (true, s.injAbort 0)
  else (false, s)

/-- A release reaches this participant (R383, R388); the root that has sent it needs no further arrival (R389). -/
def State.takeRelease (s : State) (f : FabFrame) : State :=
  let s := s.onFab fun g => { g with pend := g.pend.map fun d => if d.id = f.arg then { d with again := false } else d }
  if s.fab.armed.contains f.arg then s
  else
    let t := barTime f.pay
    let done := fun (s : State) => (s.onFab fun g => { g with
      armed := (f.arg :: g.armed).take 64
      driver := barNode f.pay
      pend := g.pend.map fun d => if d.id = f.arg then { d with start := some t } else d }).setRegN
        Reg.FAB_BAR_LAST f.arg
    if barKind f.pay = 0 then
      ((s.fwArmOrWait t 2 f.arg 0).onFab fun g => { g with armed := (f.arg :: g.armed).take 64 }).setRegN
        Reg.FAB_BAR_LAST f.arg
    else match s.swath (barLayer f.pay) (barSwath f.pay) with
      | none => s
      | some w =>
        if w.state = .ready then
          let (ok, s) := s.armSwath w t (barRate f.pay)
          if ok then done s else s
        else s

/-- BAR_RELEASE_FRAME (R388). -/
def execBarReleaseFrame (p : Fin 5) (fr : List Byte) (s : State) : Host.Outcome State Fault Refusal :=
  .next (s.fabRx p fr 0x13 State.takeRelease)

/-- The layer that an abort of barrier `id` stops: that of the pending arrival; else that of the next swath,
which is the one the others wait for (DEDUCED, log entry 45). -/
def State.barLayerOf (s : State) (id : Nat) : Option Nat :=
  match s.fab.pend with
  | some d => if d.id = id then some d.layer else none
  | none =>
    match s.gy.swaths.find? fun w => w.state == .captured || w.state == .ready with
    | some w => some w.layer
    | none => (s.jobLayers.find? fun l => !l.stopped && l.captured < l.plan.length).map (·.seq)

/-- An abort reaches this participant (R388, R271). -/
def State.takeAbort (s : State) (f : FabFrame) : State :=
  let cause := rd f.pay 0 1
  let q := s.barLayerOf f.arg
  let s := (s.setFld Reg.FAB_BAR_ABORT Fld.FAB_BAR_ABORT_CAUSE cause).setFld Reg.FAB_BAR_ABORT
    Fld.FAB_BAR_ABORT_NODE (rd f.pay 2 2)
  let s := s.raise .stopping Reg.FAB_EVENT Fld.FAB_EVENT_BAR_ABORT cause unitFabric
  let s := s.onFab fun g => { g with pend := g.pend.filter fun d => d.id != f.arg }
  match q with
  | some q => s.stopLayer q
  | none => s

/-- BAR_ABORT_FRAME (R388). -/
def execBarAbortFrame (p : Fin 5) (fr : List Byte) (s : State) : Host.Outcome State Fault Refusal :=
  .next (s.fabRx p fr 0x14 State.takeAbort)

/-! ### The rate governor (R264 to R267, R390) -/

/-- The override applied becomes `v` (R266, R267): the nominal rate, and on a lowering the tF of every unresolved
tile dispatched, which never comes earlier (R30). -/
def State.applyOvr (s : State) (w : Swath) (v : Nat) : State :=
  let old := s.fld Reg.GY_STATUS Fld.GY_STATUS_OVR
  let s := (s.setFld Reg.GY_STATUS Fld.GY_STATUS_OVR v).setRegN Reg.GY_RATE_HZ (w.rate * v / 1024)
  if v < old then
    match s.layer w.layer, s.swEntry w with
    | some l, some e =>
      let f := s.front w l e
      let rate := max (s.nominalRate w) 1
      let now := s.now16
      { s with ver := { s.ver with ctxs := s.ver.ctxs.map fun c =>
        if c.id.layer = w.layer ∧ c.id.swath = w.idx then
          { c with tF := max c.tF (now + ns16 ((e.order (e.rowFirst c.id.trow) - f) * 1000000000) / rate) }
        else c } }
    | _, _ => s
  else s

/-- This module's own OVR in the swath that runs: 1,024 at its start (R265). -/
def State.ownOvr (s : State) : Nat :=
  match s.gy.ovrs.find? fun x => x.1 == s.node with
  | some x => x.2.1
  | none => 1024

/-- Node `n` has sent `v` in the present governor period. -/
def State.noteOvr (s : State) (n v : Nat) : State :=
  { s with gy := { s.gy with ovrs := (s.gy.ovrs.filter fun x => x.1 != n) ++ [(n, v, s.gy.period)] } }

/-- The other participants of the swath, as this module knows them (R388). -/
def State.others (s : State) : List Nat :=
  (if s.fab.members = [] then s.present else s.fab.members).filter (· != s.node)

/-- The next OVR from the lead (R265). -/
def nextOvr (ovr minOvr lw : Nat) : Option Nat → Nat
  | none => min (ovr + 1) 1024
  | some lead =>
    if 2 * lead < lw then max (ovr - 8) minOvr
    else if lead < lw then max (ovr - 1) minOvr
    else if 2 * lw ≤ lead then min (ovr + 1) 1024
    else ovr

/-- The GOV frame of this module (R377, R390). -/
def State.govPay (s : State) (w : Swath) (ovr applied : Nat) : List Byte :=
  toLE 4 w.layer ++ toLE 2 w.idx ++ toLE 2 ovr ++ toLE 2 applied ++ [0, 0] ++ toLE 4 s.gy.period

/-- The least OVR that the driver applies (R267), with true where a participant is silent. -/
def State.leastOvr (s : State) (own : Nat) : Nat × Bool :=
  s.others.foldl (fun (v, miss) n =>
    match s.gy.ovrs.find? fun x => x.1 == n with
    | some x => if s.gy.period ≤ x.2.2 + 1 then (min v x.2.1, miss) else (min v s.minOvr, true)
    | none => if 1 ≤ s.gy.period then (min v s.minOvr, true) else (v, miss)) (own, false)

/-- GOVERNOR_PERIOD (R264 to R267, R390). -/
def execGovernorPeriod (s : State) : Host.Outcome State Fault Refusal :=
  match s.gy.swaths.find? fun w => w.state == .running with
  | none => .next s
  | some w =>
    match s.layer w.layer, s.swEntry w with
    | some l, some e =>
      let rate := s.nominalRate w
      let lead := s.stagingLead w l e rate
      let us := lead.getD 0xFFFFFFFF
      let lw := s.lowWater l rate
      let low := decide (us < lw)
      let s := (s.setRegN Reg.GY_LEAD_US us).setRegN Reg.GY_LEAD_MIN_US (min us (s.regN Reg.GY_LEAD_MIN_US))
      let s := s.setFld Reg.GY_STATUS Fld.GY_STATUS_GOV_LOW (b2n low)
      let own := s.ownOvr
      let ovr := nextOvr own s.minOvr lw lead
      let s := if ovr < own then s.event Reg.GY_EVENT Fld.GY_EVENT_GOV_LOWER else s
      let s := if ovr = s.minOvr ∧ low then s.event Reg.GY_EVENT Fld.GY_EVENT_GOV_FLOOR else s
      let s := s.noteOvr s.node ovr
      let s := if s.fab.driver = s.node then
          let (v, miss) := s.leastOvr ovr
          let s := if miss then s.event Reg.GY_EVENT Fld.GY_EVENT_OVR_MISSING else s
          (s.applyOvr w v).fabCast 0x15 0 0 (s.govPay w ovr v)
        else s.fabTo 0x15 s.fab.driver 0 (s.govPay w ovr 0)
      .next { s with gy := { s.gy with period := s.gy.period + 1 } }
    | _, _ => .next s

/-- A GOV frame for the swath that runs (R267, R390). -/
def State.takeGov (s : State) (f : FabFrame) : State :=
  match s.gy.swaths.find? fun w => w.state == .running with
  | none => s
  | some w =>
    if rd f.pay 0 4 ≠ w.layer ∨ rd f.pay 4 2 ≠ w.idx then s
    else
      let applied := rd f.pay 8 2
      if applied = 0 then s.noteOvr f.src (rd f.pay 6 2)
      else if f.src = s.fab.driver ∧ f.src ≠ s.node then s.applyOvr w (min applied 1024)
      else s

/-- GOV_FRAME (R390). -/
def execGovFrame (p : Fin 5) (fr : List Byte) (s : State) : Host.Outcome State Fault Refusal :=
  .next (s.fabRx p fr 0x15 State.takeGov)

/-! ### Fabric timed actions (R394) -/

/-- A TIMED frame: firmware arms the action; a second copy of the same action ID is discarded, and
one that cannot be armed fails (R350). A module that becomes root numbers its actions after the latest it has seen (log
entry 68). -/
def State.takeTimed (s : State) (f : FabFrame) : State :=
  let seen := s.fab.actions.contains f.arg
  let s := s.onFab fun g => { g with actionId := if seqGe f.arg g.actionId then (f.arg + 1) % 2 ^ 32 else g.actionId }
  if seen then s
  else if 999999999 < rd f.pay 4 4 ∨ ¬ codeValid (rd f.pay 0 1) 128 then
    (s.event Reg.TA_EVENT Fld.TA_EVENT_FAILED).accFlag .firmware Reg.TA_CTRL .refused
  else
    let t := flat (rd f.pay 8 8) (rd f.pay 4 4) (rd f.pay 16 2 / 1024 * 1024)
    let s := s.fwArmOrWait t (rd f.pay 0 1) (rd f.pay 20 4) (rd f.pay 24 4)
    s.onFab fun g => { g with actions := (f.arg :: g.actions).take 128 }

/-- The TIMED payload of slot `n` with ARG0 `arg0` (R377). -/
def State.timedPay (s : State) (n arg0 : Nat) : List Byte :=
  let t := s.slotTime n
  toLE 1 (s.slotCode n) ++ [0, 0, 0] ++ toLE 4 (t / 65536 % 1000000000) ++ toLE 8 (t / 65536 / 1000000000) ++
    toLE 2 (t % 65536) ++ [0, 0] ++ toLE 4 arg0 ++ toLE 4 (s.regN (Reg.TA_SLOT_ARG1 n))

/-- ARG0 with which the action that `path` arms in slot `n` of the root goes to the other modules, none where it stays here
(R342, R394): a DOMAIN_SWITCH goes with KEEP, and HANDOVER, CAL_APPLY and POWER as they are where the firmware arms them.
Which of its actions the firmware makes coincide is not stated: DESIGN CHOICE, log entry 68. -/
def State.publishArg (s : State) (path : Path) (n : Nat) : Option Nat :=
  let a := s.regN (Reg.TA_SLOT_ARG0 n)
  match s.slotCode n with
  | 6 => if a % 4 = 3 then none else some 3
  | 3 => if path = .firmware then some a else none
  | 4 => if path = .firmware then some a else none
  | 5 => if path = .firmware then some a else none
  | _ => none

/-- The root publishes the action in slot `n`, armed over `path` (R342, R394). Its own copy is discarded as already armed
(R383). How action IDs run is not stated: DESIGN CHOICE, log entry 68. -/
def State.publishTimed (s : State) (path : Path) (n : Nat) : State :=
  match s.publishArg path n with
  | some a =>
    if s.isRoot ∧ 1 < s.present.length then
      let id := s.fab.actionId
      let s := s.onFab fun g => { g with
        actionId := (id + 1) % 2 ^ 32
        actions := (id :: g.actions).take 128 }
      s.fabCast 0x16 0 id (s.timedPay n a)
    else s
  | none => s

/-- TA_ARM (R347, R350): TA_CTRL with OP ARM for slot `n`. -/
def execTaArm (path : Path) (n : Fin 256) (s : State) : Host.Outcome State Fault Refusal :=
  if 128 ≤ n.val then .next (s.accFlag path Reg.TA_CTRL .owner)
  else if s.armFails n then
    .next ((s.event Reg.TA_EVENT Fld.TA_EVENT_FAILED).accFlag path Reg.TA_CTRL .refused)
  else .next ((s.armSlot n).publishTimed path n)

/-- TIMED_FRAME (R394). -/
def execTimedFrame (p : Fin 5) (fr : List Byte) (s : State) : Host.Outcome State Fault Refusal :=
  .next (s.fabRx p fr 0x16 State.takeTimed)

end Sys2Proof.Machine
end

