-- ==== Sys2Proof/Machine/FabTopo.lean ====
section
/-! DEFINITION. Fabric links, discovery, election, node IDs and the frames that wait for a route (R371 to R374,
R378 to R382). -/

namespace Sys2Proof.Machine

open Sys2Proof.Bits

/-! ### The topology database (R377, R378) -/

/-- The payload of a TOPO frame. -/
def TopoEntry.bytes (e : TopoEntry) : List Byte :=
  toLE 8 e.serial ++ toLE 1 e.priority ++ [0] ++ toLE 2 e.fixedId ++ toLE 4 e.version ++
    e.ports.flatMap fun x => toLE 8 x.1 ++ toLE 1 x.2.1 ++ toLE 1 x.2.2 ++ [0, 0]

/-- The entry that a TOPO payload spells. -/
def topoParse (b : List Byte) : TopoEntry :=
  ⟨rd b 0 8, rd b 8 1, rd b 10 2, rd b 12 4, (List.range 4).map fun i =>
    (rd b (16 + 12 * i) 8, rd b (24 + 12 * i) 1, rd b (25 + 12 * i) 1)⟩

/-- This module's TOPO with the given VERSION. -/
def State.makeTopo (s : State) (version : Nat) : TopoEntry :=
  ⟨s.serial, s.fld Reg.FAB_CFG Fld.FAB_CFG_PRIORITY,
    if s.flag Reg.FAB_FIXED_ID Fld.FAB_FIXED_ID_EN then s.fld Reg.FAB_FIXED_ID Fld.FAB_FIXED_ID_ID else 0xFFFF,
    version, (List.range 4).map fun p => ((s.fport p).neigh, (s.fport p).neighPort, s.fpState p)⟩

/-- Entry `e` in its place of the database. -/
def topoPut (e : TopoEntry) (db : List TopoEntry) : List TopoEntry := db.filter (·.serial != e.serial) ++ [e]

/-- Frames that were held find their new route; those without one stay held (R381). -/
def State.retryHeld (s : State) : State :=
  let fs := s.fab.held
  (fs.foldl (fun s f => s.sendHeld f) (s.onFab fun g => { g with held := [] })).askAgain

/-- Part of the table from entry `first`, as an ASSIGN payload (R377). -/
def State.assignPay (s : State) (l : List (Nat × Nat)) (first : Nat) : List Byte :=
  let part := (l.drop first).take 126
  toLE 8 s.rootSerial ++ toLE 4 s.fab.epoch ++ toLE 2 l.length ++ toLE 2 first ++ toLE 2 part.length ++ [0, 0] ++
    part.flatMap fun x => toLE 8 x.1 ++ toLE 2 x.2 ++ [0, 0, 0, 0, 0, 0]

/-- The root floods the table (R378). -/
def State.floodAssign (s : State) : State :=
  let l := s.fab.ids.filterMap fun x => x.2.map fun n => (x.1, n)
  (List.range (divUp l.length 126)).foldl (fun s k =>
    (List.range 4).foldl (fun s p =>
      if s.fpState p = 3 then s.fabNear p 0x11 (s.assignPay l (126 * k)) else s) s) s

/-- The topology database has changed (R378, R380, R398). The root floods the table it holds anew, so that a module that
joins holds it before it could be elected (R379; DESIGN CHOICE, log entry 66). -/
def State.dbChanged (s : State) : State :=
  let s := (s.count Reg.FAB_TOPO_CHANGES 1).event Reg.FAB_EVENT Fld.FAB_EVENT_TOPO_CHANGE
  let s := if s.fabState = 2 then s.setFld Reg.FAB_STATUS Fld.FAB_STATUS_STATE 1 else s
  let s := (s.onFab fun g => { g with parts := [] }).retryHeld
  if s.isRoot then s.floodAssign else s

/-- Entry `e` is stored; a difference beside VERSION is a change of the database, and a module not in it has come. -/
def State.storeTopo (s : State) (e : TopoEntry) : State :=
  let same := s.fab.db.any fun x => decide ({ x with version := e.version } = e)
  let known := s.fab.db.any fun x => x.serial == e.serial
  let s := s.onFab fun g => { g with
    db := topoPut e g.db
    fresh := if known || e.serial == s.serial then g.fresh else e.serial :: g.fresh }
  if same then s else s.dbChanged

/-- The module sends its own TOPO, VERSION incremented, on every port in HELLO or UP (R378). -/
def State.sendTopo (s : State) : State :=
  if s.fabState = 0 then s
  else
    let v := (s.fab.version + 1) % 2 ^ 32
    let e := s.makeTopo v
    let s := (s.onFab fun g => { g with version := v }).storeTopo e
    (List.range 4).foldl (fun s p => if 2 ≤ s.fpState p then s.fabNear p 0x10 e.bytes else s) s

/-- Fabric port `p` enters state `st`, and TOPO tells of it (R374, R378). -/
def State.setFport (s : State) (p st : Nat) : State :=
  (s.setFld (Reg.FAB_PORT_STATUS p) Fld.FAB_PORT_STATUS_STATE st).sendTopo

/-- Layout frames in the buffer of fabric port `p` are held without it: its credits start anew (R372, R538). -/
def State.unbuffer (s : State) (p : Nat) : State :=
  { s with ing := { s.ing with layoutHeld := s.ing.layoutHeld.map fun x => (x.1, if x.2.1 = p then 4 else x.2.1, x.2.2) } }

/-! ### A port goes DOWN (R373, R374, R382) -/

/-- Fabric port `p` goes DOWN: its unicast frames take other routes; TIME, link-local and multicast frames are
discarded. -/
def State.fabDown (s : State) (p : Nat) : State :=
  if s.fpState p = 0 then s
  else
    let x := s.fport p
    let fs := (x.retry.map (·.2) ++ x.queue).filter fun f =>
      classOf f.ty != 0 && f.dst != 0xFFFF && !bit f.flags 0
    let s := s.event Reg.FAB_EVENT Fld.FAB_EVENT_LINK_DOWN
    let s := s.onFport p fun x => { FabPort.empty with mask := x.mask, flows := x.flows }
    let s := (s.setFld (Reg.FAB_PORT_STATUS p) Fld.FAB_PORT_STATUS_WIDTH 0).setFld (Reg.FAB_PORT_NEIGH p)
      Fld.FAB_PORT_NEIGH_PORT 0
    let s := (s.unbuffer p).setFport p 0
    fs.foldl (fun s f => s.routeFrame f) s

/-- Everything not acknowledged is sent again on port `p` (R373), unless its first frame has been resent 8 times:
then the port goes DOWN. -/
def State.fabResend (s : State) (p : Nat) : State :=
  let x := s.fport p
  if x.retry = [] ∨ ¬ s.fabOpen p then s
  else if 8 ≤ x.resends then s.fabDown p
  else
    let s := x.retry.foldl (fun s f => s.sendOn (p + 1) (f.2.bytes f.1)) s
    let s := s.count (Reg.FAB_PORT_RESENDS p) x.retry.length
    s.onFport p fun x => { x with resends := x.resends + 1 }

/-! ### Ordered sets (R371 to R374) -/

/-- A port in HELLO with 16 HELLO sets in a row and its neighbour's TOPO is UP (R374). -/
def State.helloCheck (s : State) (p : Nat) : State :=
  let x := s.fport p
  if s.fpState p = 2 ∧ 16 ≤ x.helloRun ∧ x.topoSeen then (s.setFport p 3).pumpAll p else s

/-- HELLO_SET (R371, R374): a HELLO set of the neighbour's port `num`. One whose complement differs ends the
run. -/
def execHelloSet (p : Fin 4) (num st comp : Byte) (s : State) : Host.Outcome State Fault Refusal :=
  if s.fpState p < 2 then .next s
  else if num.toNat + comp.toNat ≠ 255 ∨ 3 < num.toNat ∨ 3 < st.toNat then
    .next (s.onFport p fun x => { x with helloRun := 0 })
  else
    let s := s.onFport p fun x => { x with helloRun := min (x.helloRun + 1) 16, neighPort := num.toNat }
    .next ((s.setFld (Reg.FAB_PORT_NEIGH p) Fld.FAB_PORT_NEIGH_PORT num.toNat).helloCheck p)

/-- HELLO_SEND (R371): 10 µs without a frame sent. -/
def execHelloSend (p : Fin 4) (s : State) : Host.Outcome State Fault Refusal :=
  if s.fpState p < 2 then .next s
  else .next (s.setTime (p.val + 1) (setHello p.val (s.fpState p)))

/-- Fabric port `p` has sent no LACK and CREDIT for 100 µs (R371). -/
def State.keepFab (s : State) (p : Nat) : State :=
  if s.fpState p < 2 then s
  else (List.range 5).foldl (fun s c => s.sendCredit p c) (s.sendLack p false)

/-- Fabric port `p` has had no acknowledgement for 10 µs (R373). -/
def State.resendFab (s : State) (p : Nat) : State := if s.fpState p < 2 then s else s.fabResend p

/-- Fabric port `p` has received nothing for 100 µs (R373). A port in LS or LD is silent by rule (R418) and
stays. -/
def State.silentFab (s : State) (p : Nat) : State :=
  if s.fpState p < 2 ∨ s.asleep (8 + 2 * p) 2 then s else s.fabDown p

/-! ### TOPO (R378) -/

/-- A TOPO frame received on port `p`: the first since the port reached HELLO is its neighbour's own. -/
def State.takeTopo (p : Nat) (s : State) (f : FabFrame) : State :=
  let e := topoParse f.pay
  if f.pay.length ≠ 64 ∨ s.fabState = 0 then s
  else
    let s : State := if p < 4 ∧ (s.fport p).topoSeen = false then
        (s.onFport p fun x => { x with topoSeen := true, neigh := e.serial }).helloCheck p
      else s
    let old := s.fab.db.any fun x => x.serial == e.serial && decide (e.version ≤ x.version)
    if e.serial = s.serial ∨ old = true then s
    else
      let s := s.storeTopo e
      (List.range 4).foldl (fun s q =>
        if q ≠ p ∧ s.fpState q = 3 then s.fabNear q 0x10 f.pay else s) s

/-- TOPO_FRAME (R378). -/
def execTopoFrame (p : Fin 5) (fr : List Byte) (s : State) : Host.Outcome State Fault Refusal :=
  .next (s.fabRx p fr 0x10 (State.takeTopo p.val))

/-- TOPO_REFRESH (R378): 100 ms since the latest own TOPO. -/
def execTopoRefresh (s : State) : Host.Outcome State Fault Refusal := .next s.sendTopo

/-- TOPO_ENTRY_EXPIRE (R378, R386, R388): the entry of module `serial` has not been refreshed for 300 ms; the
barriers it takes part in are aborted at the root. -/
def execTopoEntryExpire (serial : Nat) (s : State) : Host.Outcome State Fault Refusal :=
  if serial = s.serial ∨ ¬ (s.fab.db.any fun e => e.serial == serial) then .next s
  else
    let s := s.onFab fun g => { g with db := g.db.filter fun e => e.serial != serial }
    let s := match s.idOf serial with
      | none => s
      | some n =>
        let s := (s.onFab fun g => { g with acks := g.acks.filter fun a => a.1 != n }).replayTrim
        if s.isRoot ∧ s.fab.members.contains n then
          (dedup (s.fab.arrivals.map Arrival.id)).foldl (fun s id => s.barAbort id 2 n) s
        else s
    .next s.dbChanged

/-! ### Node IDs (R379, R380) -/

/-- The fabric ports send what they now send between frames: IDLE once the fabric is READY (R407, R585). -/
def State.fillFab (s : State) : State := [1, 2, 3, 4].foldl (fun s q => s.fill q) s

/-- The module takes the ID that the table gives it (R380); where it has none once the table is `whole`, it is
ISOLATED (R379). -/
def State.takeId (s : State) (whole : Bool) : State :=
  let st := s.fabState
  match s.idOf s.serial with
  | some n =>
    let s := (s.setFld Reg.FAB_STATUS Fld.FAB_STATUS_NODE_ID n).setFld Reg.FAB_STATUS Fld.FAB_STATUS_ID_VALID 1
    if st = 2 ∨ st = 4 then ((s.setFld Reg.FAB_STATUS Fld.FAB_STATUS_STATE 3).milestoneNow 6).fillFab else s
  | none =>
    if st = 2 ∧ whole then
      let s := (s.setFld Reg.FAB_STATUS Fld.FAB_STATUS_STATE 4).setFld Reg.FAB_STATUS Fld.FAB_STATUS_ID_VALID 0
      s.raise .stopping Reg.FAB_EVENT Fld.FAB_EVENT_ISOLATED 0 unitFabric
    else s

/-- FAB_ROOT shows the root's ID and priority. -/
def State.showRoot (s : State) : State :=
  let pr := ((s.fab.db.find? fun e => e.serial == s.rootSerial).map (·.priority)).getD 0
  (s.setFld Reg.FAB_ROOT Fld.FAB_ROOT_ROOT_ID ((s.idOf s.rootSerial).getD 0)).setFld Reg.FAB_ROOT
    Fld.FAB_ROOT_ROOT_PRIORITY pr

/-- The modules without an ID, in ascending serial order. -/
def State.unnamed (s : State) : List TopoEntry :=
  ((s.fab.db.filter fun e => (s.idOf e.serial).isNone).foldl (fun l e => insNat e.serial l) []).filterMap fun v =>
    s.fab.db.find? fun e => e.serial == v

/-- ID `n` is not in the table. -/
def idFree (t : List (Nat × Option Nat)) (n : Nat) : Bool := !(t.any fun x => x.2 == some n)

/-- The table with serial `v` given `n`. -/
def idPut (t : List (Nat × Option Nat)) (v : Nat) (n : Option Nat) : List (Nat × Option Nat) :=
  t.filter (·.1 != v) ++ [(v, n)]

/-- The assignment (R379): fixed IDs first, then the lowest free ones; true where a fixed ID was taken. -/
def State.assignIds (s : State) : List (Nat × Option Nat) × Bool :=
  let es := s.unnamed
  let (t, bad) := (es.filter (·.fixedId < 1024)).foldl (fun (t, bad) e =>
    if idFree t e.fixedId then (idPut t e.serial (some e.fixedId), bad) else (idPut t e.serial none, true))
    (s.fab.ids, false)
  ((es.filter fun e => 1024 ≤ e.fixedId).foldl (fun t e =>
    idPut t e.serial (findBelow 1024 (idFree t))) t, bad)

/-- The root computes and floods the IDs (R378, R379). -/
def State.rootAssign (s : State) : State :=
  let (t, bad) := s.assignIds
  let s := if bad then s.event Reg.FAB_EVENT Fld.FAB_EVENT_ID_CONFLICT else s
  let s := if t = s.fab.ids then s else s.onFab fun g => { g with ids := t, epoch := (g.epoch + 1) % 2 ^ 32 }
  (s.floodAssign.takeId true).showRoot

/-- An entry wins the election over another (R378). -/
def TopoEntry.wins (a b : TopoEntry) : Bool :=
  decide (a.priority < b.priority) || (a.priority == b.priority && decide (a.serial < b.serial))

/-- The root is the time root: it is no hop from it (R392, R400). -/
def State.rootTime (s : State) : State :=
  let s := s.onFab fun g => { g with hops := 0 }
  (s.setFld Reg.FAB_TIME_STATUS Fld.FAB_TIME_STATUS_HOPS 0).setFld Reg.FAB_STATUS Fld.FAB_STATUS_TIME_FAR 0

/-- The root is computed from the entries `db` (R378, R380, R389). EPOCH counts the tables of one root: that of a new one
starts the comparison anew. What the root floods from now on is a table of the fabric as it has settled: copies of it go on
and are judged though they came before (log entry 66). -/
def State.electFrom (s : State) (db : List TopoEntry) : State :=
  let s := s.onFab fun g => { g with parts := [], fresh := [] }
  match db with
  | [] => s
  | a :: l =>
    let r := l.foldl (fun b e => if e.wins b then e else b) a
    let new := decide (r.serial ≠ s.rootSerial)
    let s := s.setPair Reg.FAB_ROOT_SERIAL_LO r.serial
    let s := s.setFld Reg.FAB_STATUS Fld.FAB_STATUS_ROOT (b2n (r.serial == s.serial))
    let s := if new then
        (s.event Reg.FAB_EVENT Fld.FAB_EVENT_ROOT_CHANGE).onFab fun g => { g with
          arrivals := [], released := [], members := [], job := none
          pend := g.pend.map fun d => { d with again := d.start.isSome }
          epoch := if r.serial = s.serial then g.epoch else 0 }
      else s
    let s := if r.serial = s.serial then s.rootTime.rootAssign else (s.takeId false).showRoot
    if new then s.sendArrival else s

/-- The root is computed from the database. -/
def State.elect (s : State) : State := s.electFrom s.fab.db

/-- SETTLE_TIMEOUT (R378, R380): SETTLE_MS without a change of the database. -/
def execSettleTimeout (s : State) : Host.Outcome State Fault Refusal :=
  let st := s.fabState
  if st = 0 ∨ st = 2 then .next s
  else if st = 1 then .next (s.setFld Reg.FAB_STATUS Fld.FAB_STATUS_STATE 2).elect
  else .next s.elect

/-- LONE_ROOT_TIMEOUT (R378): 100 ms since image load with no port UP. The module is its own root, whatever neighbours it
has heard of on ports not yet UP. -/
def execLoneRootTimeout (s : State) : Host.Outcome State Fault Refusal :=
  if s.fabState = 1 ∧ ((List.range 4).all fun p => s.fpState p != 3) then
    let e := s.makeTopo s.fab.version
    .next (((s.onFab fun g => { g with db := topoPut e g.db }).setFld Reg.FAB_STATUS Fld.FAB_STATUS_STATE 2).electFrom
      [e])
  else .next s

/-- The part of a table that an ASSIGN payload spells (R377). -/
def assignParse (b : List Byte) : AssignPart :=
  ⟨rd b 0 8, rd b 8 4, rd b 12 2,
    (List.range (rd b 16 2)).map fun i => (rd b (20 + 16 * i) 8, some (rd b (28 + 16 * i) 2))⟩

/-- Entries of table `b` whose module table `a` does not name and whose ID is free join it (R379). -/
def idsJoin (a b : List (Nat × Option Nat)) : List (Nat × Option Nat) :=
  b.foldl (fun t x =>
    if (t.any fun y => y.1 == x.1) then t
    else match x.2 with
      | some n => if idFree t n then t ++ [x] else t
      | none => t) a

/-- This module's table names no other module. -/
def State.loneTable (s : State) : Bool := s.fab.ids.all fun x => x.1 == s.serial

/-- The whole table `t` of another root and EPOCH `epoch` reaches the root: where it holds no table of a fabric it takes
that one, so that the IDs in use stay (R379); else the modules its own does not name join it. The IDs are computed
anew where it has settled. -/
def State.rootMerge (s : State) (t : List (Nat × Option Nat)) (epoch : Nat) : State :=
  let m := if s.loneTable then idsJoin t s.fab.ids else idsJoin s.fab.ids t
  let s := s.onFab fun g => { g with
    ids := m
    epoch := if m = g.ids then g.epoch else (max g.epoch epoch + 1) % 2 ^ 32 }
  if 3 ≤ s.fabState then s.rootAssign else s

/-- A whole table has come (R379, R380): that of the root elected gives this module its ID; a module that still
discovers keeps a copy. -/
def State.takeTable (s : State) (root epoch : Nat) (t : List (Nat × Option Nat)) : State :=
  if s.isRoot then if root = s.serial then s else s.rootMerge t epoch
  else if s.fabState = 1 then s.onFab fun g => { g with ids := t, epoch := epoch }
  else if root = s.rootSerial ∧ s.fab.epoch ≤ epoch then
    ((s.onFab fun g => { g with ids := t, epoch := epoch }).takeId true).showRoot
  else s

/-- The part `a` of a table, received on port `p` with payload `pay`, is new: it is stored and passed on (R378, R379). -/
def State.newPart (s : State) (p : Nat) (a : AssignPart) (pay : List Byte) : State :=
  let s := s.onFab fun g => { g with parts := g.parts ++ [a] }
  (List.range 4).foldl (fun s q => if q ≠ p ∧ s.fpState q = 3 then s.fabNear q 0x11 pay else s) s

/-- An ASSIGN frame received on port `p` (R378 to R380): a part not seen since the database last changed or settled is
passed on, and with its last part a table is whole. In SETTLE any copy of a table tells. -/
def State.takeAssign (p : Nat) (s : State) (f : FabFrame) : State :=
  let a := assignParse f.pay
  let seen := s.fab.parts.contains a
  if s.fabState = 0 ∨ (seen = true ∧ s.fabState ≠ 2) then s
  else
    let s := if seen then s else s.newPart p a f.pay
    let t := (s.fab.parts.filter fun x => x.root == a.root && x.epoch == a.epoch).flatMap (·.ids)
    if a.total ≤ t.length then s.takeTable a.root a.epoch t else s

/-- ASSIGN_FRAME (R379). -/
def execAssignFrame (p : Fin 5) (fr : List Byte) (s : State) : Host.Outcome State Fault Refusal :=
  .next (s.fabRx p fr 0x11 (State.takeAssign p.val))

/-- Request `f` of this module, which found no route, fails as one that had no response (R384; DESIGN CHOICE, log entry
66). -/
def State.askFails (s : State) (f : FabFrame) : State :=
  let s : State := { s with ing := { s.ing with remote := s.ing.remote.filter fun r => r.1 != f.arg } }
  (s.count Reg.FAB_REQ_FAIL 1).raise .contained Reg.FAB_EVENT Fld.FAB_EVENT_REQ_FAIL 0 unitFabric

/-- ROUTE_HOLD_TIMEOUT (R381): the frame held longest has waited 2 ms. -/
def execRouteHoldTimeout (s : State) : Host.Outcome State Fault Refusal :=
  match s.fab.held with
  | [] => .next s
  | f :: t =>
    let s := s.onFab fun g => { g with held := t }
    if (if s.noFlow f then s.askPort f.dst else s.routePort f.dst (bit f.flags 1)).isSome then .next (s.sendHeld f)
    else .next ((if s.noFlow f then s.askFails f else s).fabNak f 2)

end Sys2Proof.Machine
end

