-- ==== Sys2Proof/Machine/MgtFrame.lean ====
section
/-! DEFINITION. The form of management frames and what makes one acceptable (R669 to R673). -/

namespace Sys2Proof.Machine

open Sys2Proof.Bits

/-- The `n` bytes at `off` as a number, most significant byte first (R8, R669). -/
def rdBE (bs : List Byte) (off n : Nat) : Nat := ofBE ((bs.drop off).take n)

/-! ### Operations (R671) -/

/-- The head of the operation at the start of `b`: OP, COUNT, ADDR; and bytes of request data that follow. -/
def opCode (b : List Byte) : Nat := rdBE b 0 1
def opCount (b : List Byte) : Nat := rdBE b 2 2
def opAddr (b : List Byte) : Nat := rdBE b 4 4
def opData (b : List Byte) : Nat := if opCode b = 2 ∨ opCode b = 4 then 4 * opCount b else 0

/-- The head is well formed, and its data is there. -/
def opGood (b : List Byte) : Bool :=
  let n := opCount b
  decide (8 + opData b ≤ b.length) && rdBE b 1 1 == 0 &&
    (match opCode b with
      | 1 => n == 1
      | 2 => n == 1
      | 3 => decide (1 ≤ n ∧ n ≤ 357)
      | 4 => decide (1 ≤ n ∧ n ≤ 357)
      | _ => false)

/-- Bytes of response data of the operation. -/
def opReply (b : List Byte) : Nat :=
  if opGood b ∧ (opCode b = 1 ∨ opCode b = 3) then 4 * opCount b else 0

/-- Bytes of the response's operations. -/
def opsReply : Nat → List Byte → Nat
  | 0, _ => 0
  | n + 1, b => 8 + opReply b + opsReply n (b.drop (8 + opData b))

/-! ### Requests (R670, R673) -/

/-- Fields of a management header. -/
def mgtAuth (fr : List Byte) : Bool := bit (rdBE fr 2 1) 0
def mgtKeyId (fr : List Byte) : Nat := rdBE fr 3 1
def mgtNops (fr : List Byte) : Nat := rdBE fr 5 1
def mgtLen (fr : List Byte) : Nat := rdBE fr 6 2
def mgtSession (fr : List Byte) : Nat := rdBE fr 8 8
def mgtSeq (fr : List Byte) : Nat := rdBE fr 16 8
def mgtTag (fr : List Byte) : Nat := rdBE fr 24 4

/-- The HMAC's bytes, where it follows. -/
def macBytes (fr : List Byte) : Nat := if mgtAuth fr then 32 else 0

/-- The form of R673 step 1 holds. -/
def mgtForm (fr : List Byte) : Bool :=
  decide (32 ≤ fr.length ∧ 32 + mgtLen fr + macBytes fr ≤ fr.length ∧ 32 + mgtLen fr + macBytes fr ≤ 1500 ∧
    rdBE fr 0 1 = 1 ∧ rdBE fr 1 1 = 1 ∧ rdBE fr 2 1 < 2 ∧ rdBE fr 4 1 = 0 ∧ 1 ≤ mgtNops fr ∧ mgtNops fr ≤ 64 ∧
    rdBE fr 28 4 = 0)

/-- Key `k`, where it is set. -/
def State.mgtKey (s : State) (k : Nat) : Option (List Byte) := Kv.get s.mgt.keys k

/-- The request is authenticated as it says (R673 step 2). -/
def State.mgtTrust (s : State) (fr : List Byte) : Bool :=
  if mgtAuth fr then
    let n := 32 + mgtLen fr
    match s.mgtKey (mgtKeyId fr) with
    | some k => Crc.hmac k (fr.take n) == (fr.drop n).take 32
    | none => false
  else !s.flag Reg.MGT_CFG Fld.MGT_CFG_AUTH_REQ

/-- The last accepted request of requester `key`: 0 the management port, n + 1 node n. -/
def State.keptOf (s : State) (key : Nat) : Kept :=
  (s.mgt.kept.find? fun x => x.key == key).getD ⟨key, 0, 0, []⟩

/-- The MAC address of the module as a number, octet 1 first (R683). -/
def State.mac (s : State) : Nat := s.regN Reg.MGT_MAC_HI % 65536 * 2 ^ 32 + s.regN Reg.MGT_MAC_LO

/-- Destination and EtherType of an Ethernet frame; a tagged frame has the tag's type here (R669). -/
def ethDst (eth : List Byte) : Nat := rdBE eth 0 6
def ethType (eth : List Byte) : Nat := rdBE eth 12 2

/-- The management port accepts the frame (R669); PTP frames come by multicast too (R335). -/
def State.ethTaken (s : State) (eth : List Byte) : Bool :=
  decide (14 ≤ eth.length) &&
    ((ethType eth == 0x88B5 && ethDst eth == s.mac) ||
      (ethType eth == 0x88F7 && (ethDst eth == s.mac || ethDst eth == 0x011B19000000)))

/-- The request `fr` of requester `key` passes every check of R673, and is run. -/
def State.mgtAccepts (s : State) (key : Nat) (fr : List Byte) : Bool :=
  let k := s.keptOf key
  mgtForm fr && s.mgtTrust fr && mgtSession fr == s.pair Reg.MGT_SESSION_LO && decide (k.seq < mgtSeq fr) &&
    decide (32 + opsReply (mgtNops fr) ((fr.drop 32).take (mgtLen fr)) + macBytes fr ≤ 1500)

/-- The words that the `n` operations of `b` write: address and word. -/
def opsWords : Nat → List Byte → List (Nat × Word)
  | 0, _ => []
  | n + 1, b =>
    (if opGood b then (List.range (opData b / 4)).map fun i =>
      (opAddr b + 4 * i, BitVec.ofNat 32 (rdBE b (8 + 4 * i) 4)) else []) ++ opsWords n (b.drop (8 + opData b))

end Sys2Proof.Machine
end

