-- ==== Sys2Proof/Machine/Timebase.lean ====
section
/-! DEFINITION. The Wellspring counter, the time domains and their servo (R327 to R346). -/

namespace Sys2Proof.Machine

open Sys2Proof.Bits

/-! ### The counter (R329 to R331, R344, R345) -/

/-- The counter is restored at AON count `c1` (R345). -/
def State.restoreTime (s : State) (c1 : Nat) : State :=
  let c := s.clk
  let dc := (c1 + 2 ^ 64 - c.deepC0) % 2 ^ 64
  let e := signed 64 ((dc * s.pair Reg.TB_AON_RATIO_LO + 32768) / 65536)
  let t := tsAdd c.deepT0 e
  let s : State := { s with clk := { c with
    count := t * 2 ^ 12, slewRem := 0, pllLocked := true, everSet := !c.deepInvalid, restored := true
    stepWait := false, deepHeld := false, wakeAt := some c1, aonAt := none } }
  s.setRegN Reg.TB_HOLD_NS (min (divUp e.toNat (65536 * 1000000) + 40) (2 ^ 32 - 1))

/-- TB_PLL_LOCK (R331, R345): the TB PLL locks, at AON count `c1`. After DEEP the counter is restored; otherwise it
starts at zero. -/
def execTbPllLock (c1 : Nat) (s : State) : Host.Outcome State Fault Refusal :=
  if s.clk.pllLocked then .next s
  else if s.clk.deepHeld then .next (s.restoreTime c1)
  else .next { s with clk := { s.clk with
    count := 0, ticks := 0, slewRem := 0, pllLocked := true, everSet := false, restored := false
    stepWait := false, aonAt := none } }

/-- A path of the management host: the servo registers are its own in host mode (R330, R339). -/
def Path.host : Path → Bool
  | .mgmt => true
  | .tunnel _ => true
  | .spi => true
  | .image => true
  | _ => false

/-- The servo is in host mode (R339). -/
def State.hostServo (s : State) : Bool := s.flag Reg.TB_CFG Fld.TB_CFG_SERVO

/-- TB_INCR_WRITE (R330): only the owner of the servo mode writes TB_INCR. -/
def execTbIncrWrite (path : Path) (w : Word) (s : State) : Host.Outcome State Fault Refusal :=
  if path.host = s.hostServo then .next (s.setReg Reg.TB_INCR w)
  else .next (s.accFlag path Reg.TB_INCR .owner)

/-- slew_rem saturated to its span (R329, R339). -/
def satSlew (x : Int) : Int := clamp x (-(2 ^ 63 : Nat)) ((2 ^ 63 : Nat) - 1)

/-- `d` units of 2^-28 ns are added to slew_rem. A slew that starts so runs at TB_SLEW_RATE. -/
def State.addSlew (s : State) (d : Int) : State :=
  let k := if s.clk.slewRem = 0 then slewStepOf (s.regN Reg.TB_SLEW_RATE) else s.clk.slewK
  { s with clk := { s.clk with slewRem := satSlew (s.clk.slewRem + d), slewK := k } }

/-- What TB_ADJ has added to slew_rem in this tick (R356). -/
def State.adjOf (s : State) : Int :=
  match s.clk.adjNow with
  | some (t, d) => if t = s.clk.ticks then d else 0
  | none => 0

/-- TB_ADJ_COMMIT (R339): TB_ADJ_HI is written. -/
def execTbAdjCommit (path : Path) (w : Word) (s : State) : Host.Outcome State Fault Refusal :=
  if ¬ s.hostServo then .next ((s.unstage path Reg.TB_ADJ_LO).accFlag path Reg.TB_ADJ_HI .owner)
  else
    let s := s.commitPair path Reg.TB_ADJ_LO w
    let d := s.pairS Reg.TB_ADJ_LO * 4096
    let s : State := { s with clk := { s.clk with adjNow := some (s.clk.ticks, s.adjOf + d) } }
    .next (s.addSlew d)

/-- AON cycles of 10 s (R344). -/
def aonWindow : Nat := 500000000

/-- AON_RATIO_LEARN (R344): the AON count reaches `c`. Where 10 s of AON cycles have passed since the mark before, their
timebase time gives the ratio; the mark moves here. No ratio is learned within 10 s of a wake. -/
def execAonRatioLearn (c : BitVec 64) (s : State) : Host.Outcome State Fault Refusal :=
  let since := fun (x : Nat) => (c.toNat + 2 ^ 64 - x) % 2 ^ 64
  let early : Bool := match s.clk.wakeAt with
    | some w => decide (since w < aonWindow)
    | none => false
  if ¬ s.clk.pllLocked then .next s
  else
    let u : State := { s with clk := { s.clk with aonAt := some (c.toNat, s.now16) } }
    match s.clk.aonAt with
    | some (c0, t0) =>
      if early = false ∧ since c0 = aonWindow then
        .next (u.setPair Reg.TB_AON_RATIO_LO (((s.now16 - t0) * 65536 + aonWindow / 2) / aonWindow))
      else .next u
    | none => .next u

/-- SLEW_COMPLETE (R329): the counter runs until slew_rem is zero. -/
def execSlewComplete (s : State) : Host.Outcome State Fault Refusal :=
  .next (s.elapse (divUp s.clk.slewRem.natAbs (max s.clk.slewK 1)))

/-! ### Domains (R334 to R341, R343) -/

/-- A domain before its first sample. -/
def Domain.empty : Domain := ⟨[], 0, 0, false, 0, none, none, none, none, 0, none, 0⟩

/-- Domain `d`. -/
def State.dom (s : State) (d : Nat) : Domain := (s.doms[d]?).getD Domain.empty

/-- The state with domain `d` changed by `f`. -/
def State.onDom (s : State) (d : Nat) (f : Domain → Domain) : State :=
  match s.doms[d]? with
  | some x => { s with doms := s.doms.set d (f x) }
  | none => s

/-- Domain `d` enters state `st` (R362). -/
def State.setDom (s : State) (d st : Nat) : State :=
  s.setFld (Reg.TB_DOM_STATUS d) Fld.TB_DOM_STATUS_STATE st

/-- SRC of domain `d` (R361). -/
def State.domSrc (s : State) (d : Nat) : Nat := s.fld (Reg.TB_DOM_CFG d) Fld.TB_DOM_CFG_SRC

/-- The latest offset of domain `d` in 2^-16 ns. -/
def State.domOfs (s : State) (d : Nat) : Int := s.pairS (Reg.TB_DOM_OFS_LO d)

/-- LOCK_NS of domain `d` in 2^-16 ns. -/
def State.lockWin (s : State) (d : Nat) : Nat :=
  max (s.fld (Reg.TB_DOM_CFG d) Fld.TB_DOM_CFG_LOCK_NS) 1 * 65536

/-- The tracked offset at tick `t` (R338) as a fraction with a positive denominator: the least-squares line
through the samples; none where there is no sample. -/
def tracked (l : List (Nat × Int)) (t : Nat) : Option (Int × Int) :=
  match l with
  | [] => none
  | _ =>
    let n : Int := l.length
    let x := fun (p : Nat × Int) => (p.1 : Int) - (t : Int)
    let sx := l.foldl (fun a p => a + x p) 0
    let sy := l.foldl (fun a p => a + p.2) 0
    let sxx := l.foldl (fun a p => a + x p * x p) 0
    let sxy := l.foldl (fun a p => a + x p * p.2) 0
    let den := n * sxx - sx * sx
    if den = 0 then some (sy, n) else some (sy * sxx - sx * sxy, den)

/-- `ofs` lies within `w` of the tracked offset. -/
def within (l : List (Nat × Int)) (t : Nat) (ofs : Int) (w : Nat) : Bool :=
  match tracked l t with
  | none => false
  | some (a, b) => decide ((ofs * b - a).natAbs ≤ w * b.natAbs)

/-- The register words that the command writes: TA_ARM stands for its word of TA_CTRL (R350, R366). -/
def State.cmdWords (s : State) : Instr → List (Nat × Word)
  | .taArm _ n => [(Reg.TA_CTRL, Fld.TA_CTRL_OP.put 1 (Fld.TA_CTRL_SLOT.put n 0))]
  | .registerWrite a ws _ => ws.map fun x => (a, x.2)
  | .accUnfreeze _ w => [(Reg.ACC_UNFREEZE, w)]
  | .spiWrite a bs => (List.range (bs.length / 4)).map fun i => (a.toNat + 4 * i, BitVec.ofNat 32 (rdBE bs (4 * i) 4))
  | .mgtRequest eth =>
    let fr := eth.drop 14
    if s.ethTaken eth && ethType eth == 0x88B5 && s.mgtAccepts 0 fr then
      opsWords (mgtNops fr) ((fr.drop 32).take (mgtLen fr)) else []
  | _ => []

/-- Among the words `l`, written in order, is one that arms a slot (R350): the slot stands as those before it leave it. -/
def State.armsIn (s : State) : List (Nat × Word) → Bool
  | [] => false
  | (a, w) :: l =>
    let n := Fld.TA_CTRL_SLOT.get w
    let o := a - Reg.TA_SLOT_SEC_LO 0
    if a = Reg.TA_CTRL ∧ Fld.TA_CTRL_OP.get w = 1 ∧ n < 128 ∧ s.armFails n = false then true
    else if Reg.TA_SLOT_SEC_LO 0 ≤ a ∧ o / 0x20 < 128 ∧ o % 0x20 < 0x18 ∧ s.slotSt (o / 0x20) ≠ 1 ∧
        s.slotSt (o / 0x20) ≠ 2 then (s.setReg a w).armsIn l
    else s.armsIn l

/-- A command that waits in the queue arms a slot in this tick (R356; DEDUCED, log entry 68). -/
def State.armsNow (s : State) : Bool :=
  s.armsIn (s.queued.flatMap s.cmdWords)

/-- The conditions of a step (R343): no slot pending, no swath ARMED or RUNNING. A slot armed in this tick wins
(R356). -/
def State.stepFree (s : State) : Bool := !s.slotsBusy && !s.swathLive && !s.armsNow

/-- The counter steps by the selected domain's latest offset (R343). The offsets of both domains are measured
from the counter and move with it, and the mark of R344 with its count. -/
def State.stepNow (s : State) : State :=
  let d := s.domOfs s.sel
  let s : State := { s with
    clk := { s.clk with
      count := tsAdd s.now16 d * 2 ^ 12 + s.clk.count % 2 ^ 12, slewRem := 0, stepWait := false
      aonAt := s.clk.aonAt.map fun x => (x.1, tsAdd x.2 d) }
    doms := s.doms.map fun x => { x with samples := x.samples.map fun p => (p.1, p.2 - d) } }
  (s.count Reg.TB_STEPS 1).logErr .corrected 1 (errCodeNone 0) unitCounter 0

/-- A step of case 1 or 3 of R343: at once, or when its conditions hold. -/
def State.stepOrWait (s : State) : State :=
  if s.stepFree then s.stepNow else { s with clk := { s.clk with stepWait := true } }

/-- The selection becomes `d` with slew step `k` (R340): 0 A, 1 B, 2 FREE. A LOCKED domain sets the counter (R333); an
offset beyond the span of slew_rem is stepped (R343); an adjustment of this tick is added after (R356). -/
def State.switchTo (s : State) (d rate : Nat) : State :=
  let k := slewStepOf (if rate = 0 then s.regN Reg.TB_SLEW_RATE else rate)
  let ofs := s.domOfs d * 4096
  let far := decide (d < 2) && ofs != satSlew ofs
  let rem := if d < 2 ∧ far = false then ofs else 0
  let known := s.clk.everSet || (decide (d < 2) && s.domState d == 2)
  let s : State := { s with clk := { s.clk with slewRem := satSlew (rem + s.adjOf), slewK := k, everSet := known } }
  let s := (s.setFld Reg.TB_STATUS Fld.TB_STATUS_SEL d).count Reg.TB_SWITCHES 1
  if far then s.stepOrWait else s

/-- DOMAIN_SWITCH (R340, R342): a domain that is not LOCKED is refused; KEEP changes no selection, and marks the
start of the root's slew. -/
def State.domainSwitch (s : State) (arg0 arg1 : Nat) : Bool × State :=
  match arg0 % 4 with
  | 3 => (true, { s.count Reg.TB_SWITCHES 1 with clk := { s.clk with fabTq := 3 } })
  | 2 => (true, s.switchTo 2 arg1)
  | d => if s.domState d = 2 then (true, s.switchTo d arg1) else (false, s)

/-- DOMAIN_SWITCH actions whose instant has come act before anything else of this tick (R356). -/
def State.switchesDue (s : State) : State :=
  (s.dueOrder.filter fun d => s.slotCode d.slot == 6 && decide (d.act ≤ s.now16)).foldl
    (fun s d => s.actDue d false State.domainSwitch) s

/-- Failover (R341): the selected domain `d` has entered LOST. -/
def State.failover (s : State) (d : Nat) : State :=
  if s.flag Reg.TB_CFG Fld.TB_CFG_AUTO_FO ∧ s.sel = d ∧ s.domState (1 - d) = 2 then s.switchTo (1 - d) 0
  else s

/-- Domain `d` enters LOST (R338, R341). -/
def State.domLost (s : State) (d : Nat) : State :=
  (((s.setDom d 3).count (Reg.TB_DOM_LOSSES d) 1).onDom d fun x => { x with samples := [], good := 0, bad := 0 }).failover
    d

/-- The selected domain has become LOCKED (R333, R341, R343): the counter is set, by a step where its offset
exceeds STEP_US, else by a slew. `tq` is the quality before. -/
def State.selLocked (s : State) (d tq : Nat) : State :=
  let ofs := s.domOfs d
  let s : State := { s with clk := { s.clk with everSet := true, restored := false } }
  let lim := max (s.fld Reg.TB_CFG Fld.TB_CFG_STEP_US) 1 * 1000 * 65536
  if ((tq = 0 ∨ tq = 2) ∧ lim < ofs.natAbs) ∨ ofs * 4096 ≠ satSlew (ofs * 4096) then s.stepOrWait
  else s.addSlew (ofs * 4096)

/-- Domain `d` becomes LOCKED. -/
def State.domLocked (s : State) (d : Nat) : State :=
  let tq := s.tq
  let s := s.setDom d 2
  let s := if s.sel = d then s.selLocked d tq else s
  { s with clk := { s.clk with restored := false } }

/-- Firmware steers to the selected domain (R339): how far a sample moves TB_INCR and slew_rem is not stated and
is free, TB_INCR within its limits and slew_rem toward the domain's offset. An offset beyond the span of
slew_rem is stepped (R343). -/
def State.steer (s : State) (d : Nat) : State :=
  let ofs := s.domOfs d * 4096
  if ofs ≠ satSlew ofs then s.stepOrWait
  else if s.hostServo then s
  else
    let (fi, s) := s.free
    let (fs, s) := s.free
    let s := s.setRegN Reg.TB_INCR (0x0FFF8000 + fi % 0x10001)
    let gap := ofs - s.clk.slewRem
    let part : Int := (fs % (gap.natAbs + 1) : Nat)
    if part = 0 then s else s.addSlew (if 0 ≤ gap then part else -part)

/-- A valid sample joins those of domain `d` (R338). -/
def State.keepSample (s : State) (d : Nat) (ofs : Int) : State :=
  s.onDom d fun x => { x with samples := ((s.clk.ticks, ofs) :: x.samples).take 8 }

/-- A domain in ACQUIRE locks when it may (R338): after 8 samples in a row, and for PPS once TB_PPS_SEC is
written. -/
def State.acquireCheck (s : State) (d : Nat) : State :=
  if s.domState d = 1 ∧ 8 ≤ (s.dom d).good ∧
      (s.domSrc d ≠ 3 ∨ s.flag Reg.TB_STATUS Fld.TB_STATUS_PPS_SEC_SET) then s.domLocked d
  else s

/-- A valid offset sample of domain `d`, in 2^-16 ns (R334, R338). The frequency the module shows is that of `freq`, the
TREF_IN count (R336); else it is not given a formula and is free. -/
def State.domSample (s : State) (d : Nat) (ofs : Int) (freq : Option Nat) : State :=
  let s := s.switchesDue
  let ofs := clamp ofs (-(2 ^ 63 : Nat)) ((2 ^ 63 : Nat) - 1)
  let t := s.clk.ticks
  let x := s.dom d
  let s := (s.setPairS (Reg.TB_DOM_OFS_LO d) ofs).count (Reg.TB_DOM_SAMPLES d) 1
  let (f, s) := match freq with
    | some f => (f, s)
    | none => s.free
  let s := (s.setRegN (Reg.TB_DOM_FREQ d) f).onDom d fun x => { x with valid := true, at_ := t }
  match s.domState d with
  | 1 =>
    let good := if within x.samples t ofs (s.lockWin d) then x.good + 1 else 0
    ((s.keepSample d ofs).onDom d fun x => { x with good := good }).acquireCheck d
  | 2 =>
    if within x.samples t ofs (10 * s.lockWin d) then
      let s := (s.keepSample d ofs).onDom d fun x => { x with bad := 0 }
      if s.sel = d then s.steer d else s
    else if 4 ≤ x.bad + 1 then s.domLost d
    else s.onDom d fun x => { x with bad := x.bad + 1 }
  | 3 =>
    (s.setDom d 1).onDom d fun x => { x with samples := [(t, ofs)], good := 0, bad := 0 }
  | _ => s

/-- DOMAIN_SAMPLE_TIMEOUT (R338, R341): domain `d` has had no valid sample for 3 s. -/
def execDomainSampleTimeout (d : Fin 2) (s : State) : Host.Outcome State Fault Refusal :=
  let s := s.switchesDue
  .next (if s.domState d = 2 then s.domLost d else s)

/-- TB_STEP_CMD (R343, R360): TB_CTRL.STEP is written 1. -/
def execTbStepCmd (path : Path) (s : State) : Host.Outcome State Fault Refusal :=
  if ¬ s.hostServo then .next (s.accFlag path Reg.TB_CTRL .owner)
  else if s.sel < 2 ∧ (s.dom s.sel).valid ∧ s.stepFree then .next s.stepNow
  else .next (s.accFlag path Reg.TB_CTRL .refused)

/-- STEP_APPLY (R343): a waiting step is applied once its conditions hold. -/
def execStepApply (s : State) : Host.Outcome State Fault Refusal :=
  .next (if s.clk.stepWait ∧ s.sel < 2 ∧ s.stepFree then s.stepNow else s)

/-! ### PPS (R336) -/

/-- A stamp of now to one tap: `phase` counts taps within the present ns (R24). -/
def State.tapStamp (s : State) (phase : Nat) : Nat := s.now16 / 65536 * 65536 + 1024 * phase

/-- TB_PPS_SEC_WRITE (R336, R357): TB_PPS_SEC_HI is written. -/
def execTbPpsSecWrite (path : Path) (w : Word) (s : State) : Host.Outcome State Fault Refusal :=
  let s := (s.commitPair path Reg.TB_PPS_SEC_LO w).setFld Reg.TB_STATUS Fld.TB_STATUS_PPS_SEC_SET 1
  .next ((List.range 2).foldl (fun s d => if s.domSrc d = 3 then s.acquireCheck d else s) s)

/-- PPS_IN_EDGE (R336): a rising edge; `tref` cycles of TREF_IN in the second before, 100 ppb each (DEDUCED, log entry
68). -/
def execPpsInEdge (phase : Fin 64) (tref : Nat) (s : State) : Host.Outcome State Fault Refusal :=
  let stamp : Int := s.tapStamp phase
  let edge : Int := flat (s.pair Reg.TB_PPS_SEC_LO) 0 0
  let good := decide (9999900 ≤ tref ∧ tref ≤ 10000100)
  let s := (List.range 2).foldl (fun s d =>
    if s.domSrc d ≠ 3 ∨ s.domState d = 0 then s
    else if s.flag (Reg.TB_DOM_CFG d) Fld.TB_DOM_CFG_TREF then
      let s := s.setFld (Reg.TB_DOM_STATUS d) Fld.TB_DOM_STATUS_TREF_OK (b2n good)
      if good then s.domSample d (edge - stamp) (some (twos 32 (((tref : Int) - 10000000) * 100))) else s
    else s.domSample d (edge - stamp) none) s
  .next (s.setPair Reg.TB_PPS_SEC_LO (s.pair Reg.TB_PPS_SEC_LO + 1))

/-! ### PTP (R335) -/

/-- The time domains that a PTP message of domainNumber `n` belongs to: both follow their source in parallel (R334). Without
the management lane none has samples (R424). -/
def State.ptpDoms (s : State) (n : Nat) : List Nat :=
  (List.range 2).filter fun d => s.mgtLink && s.domSrc d == 1 && s.fld (Reg.TB_DOM_CFG d) Fld.TB_DOM_CFG_PTP_DOM == n &&
    s.domState d != 0

/-- Announce `a` is better than `b` by the dataset comparison of IEEE 1588 (R335; PRESUMED, log entry 40). -/
def Announce.better (a b : Announce) : Bool :=
  let key := fun (x : Announce) =>
    [x.priority1, x.clockClass, x.accuracy, x.variance, x.priority2, x.gm, x.steps, x.source]
  match ((key a).zip (key b)).find? fun p => p.1 != p.2 with
  | some p => decide (p.1 < p.2)
  | none => false

/-- Domain `d` takes an Announce: the best master by dataset comparison (R335). -/
def State.announce (s : State) (a : Announce) (d : Nat) : State :=
  let take := match (s.dom d).master with
    | none => true
    | some m => m.source == a.source || a.better m
  if take then s.onDom d fun x => { x with
    master := some a
    sync := if (x.master.map (·.source)) = some a.source then x.sync else none }
  else s

/-- PTP_ANNOUNCE (R335): the latest one's UTC offset is shown. -/
def execPtpAnnounce (n : Fin 256) (a : Announce) (s : State) : Host.Outcome State Fault Refusal :=
  match s.ptpDoms n with
  | [] => .next s
  | ds => .next (ds.foldl (fun s d => s.announce a d) (s.setRegN Reg.TB_UTC_OFS (twos 16 a.utcOfs + 65536)))

/-- TB_DOM_ASYM of domain `d` in 2^-16 ns, to the nearest unit. -/
def State.domAsym (s : State) (d : Nat) : Int :=
  divHalfUp (signed 32 (s.regN (Reg.TB_DOM_ASYM d)) * 65536) 1000

/-- A Sync whose t1, t2 and correction are known gives a sample (R335). `t2 − t1 − correction − mean path delay +
ASYM` is counter less source; the domain's offset is source less counter (R334; DEDUCED, log entry 41). -/
def State.ptpSample (s : State) (d : Nat) (t1 t2 corr : Int) : State :=
  let s := s.onDom d fun x => { x with down := some (t2 - t1 - corr), sync := none }
  s.domSample d (-(t2 - t1 - corr - (s.dom d).mpd + s.domAsym d)) none

/-- A message of the domain's master, and not of another port. -/
def State.fromMaster (s : State) (d source : Nat) : Bool :=
  match (s.dom d).master with
  | some m => m.source == source
  | none => false

/-- Domain `d` takes a Sync that arrived at `t2` (R335). Syncs beyond 128 a second are passed over; the free-running
ticks tell. -/
def State.ptpSync (s : State) (source seq : Nat) (twoStep : Bool) (t1 corr t2 : Int) (d : Nat) : State :=
  let soon : Bool := match (s.dom d).usedAt with
    | some u => decide (s.clk.ticks < u + 7812500)
    | none => false
  if soon = true ∨ ¬ s.fromMaster d source then s
  else
    let s := (s.setFld (Reg.TB_DOM_STATUS d) Fld.TB_DOM_STATUS_TWO_STEP (b2n twoStep)).onDom d fun x =>
      { x with usedAt := some s.clk.ticks }
    if twoStep then s.onDom d fun x => { x with sync := some ⟨source, seq, t2, corr⟩ }
    else s.ptpSample d t1 t2 corr

/-- PTP_SYNC (R335): a Sync of port `source` with its origin time and correction, flat. -/
def execPtpSync (n : Fin 256) (source seq : Nat) (twoStep : Bool) (t1 corr : Int) (phase : Fin 64) (s : State) :
    Host.Outcome State Fault Refusal :=
  let t2 : Int := s.tapStamp phase
  .next ((s.ptpDoms n).foldl (fun s d => s.ptpSync source seq twoStep t1 corr t2 d) s)

/-- Domain `d` takes a Follow_Up (R335). -/
def State.followUp (s : State) (source seq : Nat) (t1 corr : Int) (d : Nat) : State :=
  match (s.dom d).sync with
  | some p => if p.source = source ∧ p.seq = seq then s.ptpSample d t1 p.t2 (p.corr + corr) else s
  | none => s

/-- PTP_FOLLOW_UP (R335): completes the two-step Sync of its source and sequence number. -/
def execPtpFollowUp (n : Fin 256) (source seq : Nat) (t1 corr : Int) (s : State) :
    Host.Outcome State Fault Refusal :=
  .next ((s.ptpDoms n).foldl (fun s d => s.followUp source seq t1 corr d) s)

/-- MGT_MAC, octet 1 first (R680). -/
def State.ownMac (s : State) : List Byte := toBE 2 (s.regN Reg.MGT_MAC_HI) ++ toBE 4 (s.regN Reg.MGT_MAC_LO)

/-- A Delay_Req frame (R335), from its destination address on: the message layout is IEEE 1588's (PRESUMED, log entry
40). -/
def State.delayReq (s : State) (d seq : Nat) : List Byte :=
  [0x01, 0x1B, 0x19, 0, 0, 0] ++ s.ownMac ++ [0x88, 0xF7] ++ [1, 0x12] ++ toBE 2 44 ++ toBE 1 (s.fld (Reg.TB_DOM_CFG d) Fld.TB_DOM_CFG_PTP_DOM) ++ List.replicate 15 0 ++
    toBE 8 s.serial ++ toBE 2 1 ++ toBE 2 seq ++ [1, 0x7F] ++ List.replicate 10 0

/-- DELAY_REQ_SEND (R335): the next Delay_Req of domain `d` leaves. -/
def execDelayReqSend (d : Fin 2) (phase : Fin 64) (s : State) : Host.Outcome State Fault Refusal :=
  if s.domSrc d ≠ 1 ∨ s.domState d = 0 ∨ (s.dom d).master.isNone ∨ ¬ s.mgtLink then .next s
  else
    let q := ((s.dom d).dreqSeq + 1) % 65536
    let t3 : Int := s.tapStamp phase
    let s := s.emit (.ptp d (s.delayReq d q))
    .next (s.onDom d fun x => { x with dreqSeq := q, t3 := some t3 })

/-- Domain `d` takes a Delay_Resp (R335): the answer to its latest Delay_Req. -/
def State.delayResp (s : State) (source seq : Nat) (t4 corr : Int) (d : Nat) : State :=
  let x := s.dom d
  match x.t3, x.down with
  | some t3, some down =>
    if seq = x.dreqSeq ∧ s.fromMaster d source then
      s.onDom d fun x => { x with mpd := (down + (t4 - t3 - corr)).fdiv 2, t3 := none }
    else s
  | _, _ => s

/-- PTP_DELAY_RESP (R335): `mine` says that it names this module's port. -/
def execPtpDelayResp (n : Fin 256) (source seq : Nat) (mine : Bool) (t4 corr : Int) (s : State) :
    Host.Outcome State Fault Refusal :=
  .next (if mine then (s.ptpDoms n).foldl (fun s d => s.delayResp source seq t4 corr d) s else s)

end Sys2Proof.Machine
end

