-- ==== Sys2Proof/Machine/FabTime.lean ====
section
/-! DEFINITION. Fabric time, layout multicast acknowledgement and replay, NAKs and freeze notices (R383, R385,
R386, R391 to R393, R396). -/

namespace Sys2Proof.Machine

open Sys2Proof.Bits

/-! ### Fabric time (R391, R392) -/

/-- Mark `m` of upstream port `p` changed by `f`; at most 16 marks are kept. -/
def State.onMark (s : State) (p m : Nat) (f : FabMark → FabMark) : State :=
  s.onFport p fun x =>
    let old := ((x.marks.find? fun k => k.1 == m).map (·.2)).getD ⟨none, 0, none⟩
    { x with marks := ((m, f old) :: x.marks.filter fun k => k.1 != m).take 16 }

/-- FTMARK_RECEIVE (R391): mark `m` arrives. A child answers it `held` ns later; a parent keeps t4. -/
def execFtmarkReceive (p : Fin 4) (m : Byte) (phase : Fin 64) (held : Fin 10001) (phase2 : Fin 64) (s : State) :
    Host.Outcome State Fault Refusal :=
  let t := s.tapStamp phase.val
  if s.fpState p ≠ 3 ∨ s.fabState = 4 then .next s
  else if s.upPort = some p.val then
    let t3 := s.tapStamp phase2.val + ns16 held.val
    let s := s.onMark p m.toNat fun k => { k with t2 := t, t3 := some t3 }
    .next (s.setTime (p.val + 1) (setMark m.toNat))
  else if s.isChild p then .next (s.onFport p fun x => { x with t4 := some (m.toNat, t) })
  else .next s

/-- FTMARK_PERIOD (R379, R391, R419): PERIOD_US has passed; FTMARK and TSYNC go out on every tree port toward a child that is
not in LS or LD. An ISOLATED module has no part in it. Until a
child's mark has come, T4_MARK names the mark not yet sent, for which a child has no times (DESIGN CHOICE, log
entry 46). -/
def execFtmarkPeriod (phases : List (Fin 64)) (s : State) : Host.Outcome State Fault Refusal :=
  .next ((List.range 4).foldl (fun s p =>
    if s.isChild p ∧ ¬ s.asleep (8 + 2 * p) 2 ∧ s.fabState ≠ 4 then
      let t1 := s.tapStamp ((phases.map Fin.val).getD p 0)
      let s := s.onFport p fun x => { x with mark := (x.mark + 1) % 256, t1 := t1 }
      let x := s.fport p
      let s := s.setTime (p + 1) (setMark x.mark)
      let (m4, t4) := x.t4.getD ((x.mark + 1) % 256, 0)
      let hops := if s.isRoot then 0 else s.fab.hops
      s.fabNear p 0x01 (toLE 1 x.mark ++ toLE 1 hops ++ toLE 1 s.tq ++ toLE 1 m4 ++ toLE 2 (t1 % 65536) ++
        toLE 2 (t4 % 65536) ++ toLE 8 (t1 / 65536) ++ toLE 8 (t4 / 65536) ++ toLE 8 s.rootSerial)
    else s) s)

/-- FAB_PORT_ASYM in 2^-17 ns, to the nearest unit (R393). -/
def State.fabAsym (s : State) (p : Nat) : Int :=
  divHalfUp (signed 32 (s.regN (Reg.FAB_PORT_ASYM p)) * 131072) 1000

/-- The delay sample of mark `m`, whose t4 has returned (R392); a mark gives one. -/
def State.delaySample (s : State) (p m t4 : Nat) : State :=
  match (s.fport p).marks.find? fun k => k.1 == m with
  | some (_, ⟨some t1, t2, some t3⟩) =>
    let d : Int := (tsDiff t4 t1 - tsDiff t3 t2) + s.fabAsym p
    let s := s.onMark p m fun k => { k with t3 := none }
    let s := s.onFport p fun x => { x with delays := (d :: x.delays).take 16 }
    let ds := (s.fport p).delays
    s.setRegN (Reg.FAB_PORT_DELAY p) (twos 32 (divHalfUp (ds.foldl (· + ·) 0) (2048 * ds.length)))
  | _ => s

/-- An offset of fabric time reaches every domain that follows it (R337). -/
def State.fabOffset (s : State) (ofs : Int) : State :=
  [0, 1].foldl (fun s d => if s.domSrc d = 2 then s.domSample d ofs none else s) s

/-- A TSYNC on the upstream port `p` (R391, R392). -/
def State.takeTsync (p : Nat) (s : State) (f : FabFrame) : State :=
  if s.upPort ≠ some p ∨ f.pay.length ≠ 32 then s
  else
    let m := rd f.pay 0 1
    let hops := rd f.pay 1 1 + 1
    let t1 := rd f.pay 8 8 * 65536 + rd f.pay 4 2
    let t4 := rd f.pay 16 8 * 65536 + rd f.pay 6 2
    let s : State := { s with fab := { s.fab with hops := hops }, clk := { s.clk with fabTq := rd f.pay 2 1 } }
    let s := (s.setFld Reg.FAB_TIME_STATUS Fld.FAB_TIME_STATUS_HOPS (min hops 15)).setFld Reg.FAB_TIME_STATUS
      Fld.FAB_TIME_STATUS_ROOT_TQ (rd f.pay 2 1)
    let far := s.flag Reg.FAB_STATUS Fld.FAB_STATUS_TIME_FAR
    let s := s.setFld Reg.FAB_STATUS Fld.FAB_STATUS_TIME_FAR (b2n (decide (8 < hops)))
    let s := if 8 < hops ∧ far = false then s.event Reg.FAB_EVENT Fld.FAB_EVENT_TIME_FAR else s
    let s := if ((s.fport p).marks.any fun k => k.1 == m) then s.onMark p m fun k => { k with t1 := some t1 } else s
    let s := s.delaySample p (rd f.pay 3 1) t4
    match (s.fport p).marks.find? fun k => k.1 == m with
    | some k =>
      if (s.fport p).delays.isEmpty then s
      else s.fabOffset (tsDiff t1 k.2.t2 + 1024 * signed 32 (s.regN (Reg.FAB_PORT_DELAY p)))
    | none => s

/-- TSYNC_FRAME (R392). -/
def execTsyncFrame (p : Fin 5) (fr : List Byte) (s : State) : Host.Outcome State Fault Refusal :=
  .next (s.fabRx p fr 0x01 (State.takeTsync p.val))

/-! ### Layout multicast (R386) -/

/-- MC_NAK at the entry: the ring from the MSEQ named goes to that member alone. -/
def State.takeMcNak (s : State) (f : FabFrame) : State :=
  if rd f.pay 0 1 ≠ s.ingGroup then s
  else (s.fab.replay.filter fun x => seqGe x.1 (rd f.pay 4 4)).foldl (fun s x =>
    let (g, s) := s.replayFrame f.src x
    s.routeFrame g) s

/-- MC_NAK_FRAME (R386). -/
def execMcNakFrame (p : Fin 5) (fr : List Byte) (s : State) : Host.Outcome State Fault Refusal :=
  .next (s.fabRx p fr 0x18 State.takeMcNak)

/-- The member acknowledges what it has in order of `r`. -/
def State.mcAck (s : State) (r : McRx) : State :=
  let s := s.onFab fun g => { g with rx := g.rx.map fun x => if x.src = r.src then { x with unacked := 0 } else x }
  s.fabTo 0x17 r.src 0 (toLE 1 r.group ++ [0, 0, 0] ++ toLE 4 ((r.next + 2 ^ 32 - 1) % 2 ^ 32))

/-- MC_ACK_TIMER (R386): 200 µs with a frame not acknowledged. -/
def execMcAckTimer (s : State) : Host.Outcome State Fault Refusal :=
  .next ((s.fab.rx.filter fun r => 0 < r.unacked).foldl State.mcAck s)

/-! ### NAK and FROZEN (R385, R396) -/

/-- The frame that a NAK of node `src` answers, where this module still has it: a request by its flow, a layout
frame by its MSEQ, any other by the copy kept (R385). -/
def State.nakedFrame (s : State) (src : Nat) (pay : List Byte) : Option FabFrame × State :=
  let ty := rd pay 1 1
  let arg := rd pay 8 4
  if ty = 0x20 then
    match s.fab.replay.find? fun x => x.1 == arg with
    | some x =>
      let (g, s) := s.replayFrame src x
      (some g, s)
    | none => (none, s)
  else
    (((s.fab.ports.flatMap fun x => x.flows.map (·.frame)) ++ s.fab.sent).find? fun w =>
      w.ty == ty && w.arg == arg && w.flow == rd pay 4 1 && w.dst == rd pay 2 2, s)

/-- A NAK (R385): it is counted, and after RETRY_LATER the frame waits for its resend. -/
def State.takeNak (s : State) (f : FabFrame) : State :=
  let s := (s.count Reg.FAB_NAKS 1).event Reg.FAB_EVENT Fld.FAB_EVENT_NAK
  if rd f.pay 0 1 = 1 then
    let (x, s) := s.nakedFrame f.src f.pay
    s.onFab fun g => { g with later := g.later ++ x.toList }
  else s

/-- NAK_FRAME (R385). -/
def execNakFrame (p : Fin 5) (fr : List Byte) (s : State) : Host.Outcome State Fault Refusal :=
  .next (s.fabRx p fr 0x19 State.takeNak)

/-- RETRY_LATER_RESEND (R385): 1 ms after RETRY_LATER the frame that waits longest is sent again. -/
def execRetryLaterResend (s : State) : Host.Outcome State Fault Refusal :=
  match s.fab.later with
  | [] => .next s
  | f :: t => .next ((s.onFab fun g => { g with later := t }).routeFrame f)

/-- FROZEN_FRAME (R396): another module has frozen this one. -/
def execFrozenFrame (p : Fin 5) (fr : List Byte) (s : State) : Host.Outcome State Fault Refusal :=
  .next (s.fabRx p fr 0x1A fun s _ => s.event Reg.FAB_EVENT Fld.FAB_EVENT_FROZEN_BY)

end Sys2Proof.Machine
end

