-- ==== Sys2Proof/Machine/CalTarget.lean ====
section
/-! DEFINITION. Calibration targets, and how a calibration begins, is rejected and ends (R620 to R622, R626). -/

namespace Sys2Proof.Machine

open Sys2Proof.Bits

/-- The state with the calibration data changed by `f`. -/
def State.onCal (s : State) (f : Cal → Cal) : State := { s with cal := f s.cal }

/-- The classes of R620. -/
inductive CalClass where
  | temp | volt | feedback | firing | lane | nothing
  deriving DecidableEq, Repr

/-- Class of target `t`. -/
def calClass (t : Nat) : CalClass :=
  if t ≤ 7 ∨ t = 12 ∨ t = 13 then .temp
  else if 16 ≤ t ∧ t ≤ 31 then .volt
  else if 32 ≤ t ∧ t ≤ 35 then .feedback
  else if 40 ≤ t ∧ t ≤ 45 then .firing
  else if 64 ≤ t ∧ t ≤ 104 then .lane
  else .nothing

/-- Tolerances of a class, by value. -/
def calTol : CalClass → List Nat
  | .temp => [4]
  | .volt => [20]
  | .feedback => [32, 32, 500, 349]
  | .firing => [1]
  | .lane => [2]
  | .nothing => []

/-- A field of CAL_TGT_STATUS of target `t`. -/
def State.tgt (s : State) (t : Nat) (f : Field) : Nat := s.fld (Reg.CAL_TGT_STATUS t) f
def State.setTgt (s : State) (t : Nat) (f : Field) (v : Nat) : State := s.setFld (Reg.CAL_TGT_STATUS t) f v

/-- Target `t` calibrates. -/
def State.calBusy (s : State) (t : Nat) : Bool := s.tgt t Fld.CAL_TGT_STATUS_BUSY != 0

/-- TCAL as HM_TCAL shows it (R627). -/
def State.tcal (s : State) : Int := signed 16 (s.regN Reg.HM_TCAL)

/-- The axis of a converter target, and whether the converter is in service. -/
def convAxis (t : Nat) : Nat := (t - 32) / 2
def State.convInService (s : State) (t : Nat) : Bool :=
  s.fld (Reg.FB_AX_STATUS (convAxis t)) Fld.FB_AX_STATUS_CONV == t % 2

/-- The converter target of axis `x` in service, and the idle one. -/
def State.convOf (s : State) (x : Nat) : Nat := 32 + 2 * x + s.fld (Reg.FB_AX_STATUS x) Fld.FB_AX_STATUS_CONV
def State.convIdle (s : State) (x : Nat) : Nat := 33 + 2 * x - s.fld (Reg.FB_AX_STATUS x) Fld.FB_AX_STATUS_CONV

/-- The STALE flags of HM_STATUS follow the channels. -/
def State.showStale (s : State) : State :=
  let any := fun (l : List Nat) => b2n (l.any fun c => s.flag (Reg.HM_CH_STATUS c) Fld.HM_CH_STATUS_STALE)
  let v := any ((List.range 16).map (16 + ·))
  (s.setFld Reg.HM_STATUS Fld.HM_STATUS_STALE_T (any (List.range 16))).setFld Reg.HM_STATUS Fld.HM_STATUS_STALE_V v

/-- CAL_STATUS follows the targets (R638). -/
def State.showCal (s : State) : State :=
  let any := fun (l : List Nat) => b2n (l.any fun t => s.calBusy t)
  let sens := (List.range 32).filter fun t => calClass t == .temp || calClass t == .volt
  let done := (sens.all fun t => s.regN (Reg.CAL_TGT_COUNT t) != 0 || s.tgt t Fld.CAL_TGT_STATUS_CAL_FAIL != 0) &&
    s.cal.first.isEmpty
  let s := (s.setFld Reg.CAL_STATUS Fld.CAL_STATUS_SENS_BUSY (any sens)).setFld Reg.CAL_STATUS
    Fld.CAL_STATUS_CONV_S_BUSY (any [32, 33])
  let s := s.setFld Reg.CAL_STATUS Fld.CAL_STATUS_CONV_C_BUSY (any [34, 35])
  if done ∧ s.locked then s.setFld Reg.CAL_STATUS Fld.CAL_STATUS_FIRST_DONE 1 else s

/-- Target `t` begins to calibrate. Three rejections ended the calibration before it, so its count starts anew; a count
that an abandoned calibration left stands (R621, R633: DEDUCED, log entry 76). -/
def State.calBegin (s : State) (t : Nat) : State :=
  let s := s.setTgt t Fld.CAL_TGT_STATUS_BUSY 1
  let s := if s.tgt t Fld.CAL_TGT_STATUS_FAILS = 3 then s.setTgt t Fld.CAL_TGT_STATUS_FAILS 0 else s
  let s := match calClass t with
    | .temp | .volt => (s.setFld (Reg.HM_CH_STATUS t) Fld.HM_CH_STATUS_STALE 1).showStale
    | _ => s
  s.showCal

/-- Target `t` no longer calibrates. -/
def State.calEnd (s : State) (t : Nat) : State :=
  let s := s.setTgt t Fld.CAL_TGT_STATUS_BUSY 0
  let s := match calClass t with
    | .temp | .volt => (s.setFld (Reg.HM_CH_STATUS t) Fld.HM_CH_STATUS_STALE 0).showStale
    | _ => s
  s.showCal

/-- An attempt on target `t` is rejected (R621). A converter that fails for good leaves its axis on the values in
force (R626). -/
def State.calReject (s : State) (t : Nat) : State :=
  let n := s.tgt t Fld.CAL_TGT_STATUS_FAILS + 1
  let s := ((s.count Reg.CAL_REJECTS 1).event Reg.CAL_EVENT Fld.CAL_EVENT_REJECT).setTgt t
    Fld.CAL_TGT_STATUS_FAILS (min n 3)
  if n < 3 then s
  else
    let s := (s.setTgt t Fld.CAL_TGT_STATUS_CAL_FAIL 1).raise .degraded Reg.CAL_EVENT Fld.CAL_EVENT_FAIL 0 unitCal
    let s := if calClass t = .feedback then
        s.onCal fun k => { k with
          first := k.first.filter fun u => convAxis u != convAxis t
          second := k.second.filter (· != convAxis t) }
      else s
    s.calEnd t

/-- The calibration of target `t` is abandoned, which counts as a rejected attempt (R633). -/
def State.calAbandon (s : State) (t : Nat) : State := if s.calBusy t then (s.calReject t).calEnd t else s

end Sys2Proof.Machine
end

