-- ==== Sys2Proof/Machine/HeadPort.lean ====
section
/-! DEFINITION. Commands of the head ports: time marks, upstream frames, sending, timeouts, sideband requests
and waveform commits (R300 to R325). -/

namespace Sys2Proof.Machine

open Sys2Proof.Bits

/-- A lane event now, stamped to one tap: `phase` is the word-clock phase in taps (R24). -/
def State.laneStamp (s : State) (phase : Nat) : Nat := s.now16 / 65536 * 65536 + 1024 * phase

/-! ### Time marks (R300, R301) -/

/-- DELAY[h] of a port in taps (R301, R326). -/
def State.headDelay (s : State) (p h : Nat) : Nat := s.fld (Reg.HP_HEAD_DELAY p h) Fld.HP_HEAD_DELAY_DELAY

/-- The head after `h` in turn among `hs`; 0xFF where there is none (R301). -/
def nextHead (hs : List Nat) (h : Nat) : Nat :=
  match hs.find? fun x => h < x with
  | some x => x
  | none => hs.head?.getD 0xFF

/-- TMARK_PERIOD (R300): port `p` sends a TMARK and its TIME frame. `phase` is the phase of its departure. -/
def execTmarkPeriod (p : Fin 6) (phase : Fin 64) (s : State) : Host.Outcome State Fault Refusal :=
  let p := p.val
  if s.portState p < 4 ∨ s.portState p = 7 ∨ s.asleep (16 + 4 * p) 4 then .next s
  else
    let x := s.port p
    let mark := (x.mark + 1) % 256
    let t1 := s.laneStamp phase
    let hs := s.headsOf p
    let named := nextHead hs x.echoHead
    let s := (s.onPort p fun x => { x with mark := mark, t1 := t1, echoHead := named, t4 := none }).setOn (5 + p)
      (timeLane (s.lanes p)) (setMark mark)
    .next (s.sendFrame p 255 3 (toLE 1 mark ++ toLE 1 named ++ [0, 0, 0, 0, 0, 0] ++ toLE 8 (t1 / 65536 % 2 ^ 64) ++
      toLE 2 (t1 % 65536) ++ [0, 0] ++ (List.range 8).flatMap fun h => toLE 4 (s.headDelay p h)))

/-- HEAD_TMARK_UP (R301): an upstream TMARK carrying `mark` arrives on port `p` at `phase`. -/
def execHeadTmarkUp (p : Fin 6) (mark : Byte) (phase : Fin 64) (s : State) : Host.Outcome State Fault Refusal :=
  let x := s.port p.val
  if x.echoHead < 8 ∧ mark.toNat = x.mark then
    .next (s.onPort p fun x => { x with t4 := some (s.laneStamp phase) })
  else .next s

/-! ### Upstream frames (R290, R291) -/

/-- An upstream frame of port `p` from its header to its CRC: type `ty` with at least `n` bytes of payload. A
wrong CRC or length is counted and the frame discarded (R291). A port that is in none of the states in which R320 has it
talk to its heads sends NOT_READY and discards what arrives (R407; DEDUCED, log entry 80). -/
def State.upFrame (s : State) (p : Nat) (fr : List Byte) (ty n : Nat)
    (k : State → Nat → List Byte → State) : State :=
  let body := fr.take (fr.length - 4)
  if s.portState p < 2 ∨ s.portState p = 7 then s.nrDiscard (16 + 4 * p) 4
  else if fr.length < 12 ∨ Crc.crc32c body ≠ rd fr (fr.length - 4) 4 ∨ body.length ≠ 8 + 4 * rd fr 2 2 then
    (s.count (Reg.HP_FRAME_ERR p) 1).event Reg.HP_EVENT Fld.HP_EVENT_FRAME_ERR
  else
    let h := rd fr 1 1
    if rd fr 0 1 ≠ ty ∨ 8 ≤ h ∨ body.length < 8 + n ∨ (ty ≠ 0x88 ∧ ¬ s.headPresent p h) then s
    else k (s.onHead p h fun x => { x with seqUp := some (rd fr 4 2) }) h (body.drop 8)

/-- A time of the link in 2^-16 ns (R292). -/
def linkTime16 (ns frac : Nat) : Nat := ns * 65536 + frac

/-- ECHO_FRAME (R301): t2 and t3 of the named head give a delay sample. -/
def execEchoFrame (p : Fin 6) (fr : List Byte) (s : State) : Host.Outcome State Fault Refusal :=
  let p := p.val
  .next (s.upFrame p fr 0x83 24 fun s h b =>
    let x := s.port p
    match x.t4 with
    | none => s
    | some t4 =>
      if h ≠ x.echoHead ∨ rd b 0 1 ≠ x.mark then s
      else
        let t2 := linkTime16 (rd b 8 8) (rd b 4 2)
        let t3 := linkTime16 (rd b 16 8) (rd b 6 2)
        let held := wrapS 80 ((t3 : Int) - t2)
        let d := tsDiff t4 x.t1 - held
        let ds := (d :: (s.headLink p h).delays).take 16
        let mean := divHalfUp (ds.foldl (· + ·) 0) (2048 * ds.length : Nat)
        let s := (s.onHead p h fun x => { x with delays := ds }).onPort p fun x => { x with t4 := none }
        s.setFld (Reg.HP_HEAD_DELAY p h) Fld.HP_HEAD_DELAY_DELAY (twos 24 mean))

/-- The hand-over `o` to head `h` is sent again, or the head is lost after three sends (R314). -/
def State.hoRetry (s : State) (p h : Nat) (o : HandOver) : State :=
  if 3 ≤ Kv.getD o.sends h 0 then s.headLost p h
  else (s.event Reg.HP_EVENT Fld.HP_EVENT_HO_RETRY).sendHandOver p h o true

/-- HO_ACK_FRAME (R314). -/
def execHoAckFrame (p : Fin 6) (fr : List Byte) (s : State) : Host.Outcome State Fault Refusal :=
  let p := p.val
  .next (s.upFrame p fr 0x86 8 fun s h b =>
    let id := rd b 0 2
    match (s.port p).hos.find? fun o => o.hoId == id && !o.refused with
    | none => s
    | some o =>
      if o.acked.contains h then s
      else if rd b 4 4 ≠ s.waveCrc p h then s.hoRetry p h o
      else
        let s := s.onPort p fun x => { x with hos := x.hos.map fun y =>
          if y.hoId == id then { y with acked := h :: y.acked } else y }
        let s := if s.hoDone p { o with acked := h :: o.acked } then s.setFld (Reg.HP_HO_ID p) ⟨16, 16⟩ id else s
        s.loadCheck p)

/-! ### Identity memories (R309, R310, R229) -/

/-- The beam that (port, head, LOCAL) names in the map (R315). -/
def State.beamOf (s : State) (p h loc : Nat) : Option Nat :=
  (List.range (hdrNbeam s.bmap)).find? fun b =>
    let e := beamE s.bmap b
    e.port == p && e.head == h && e.index == loc

/-- The registers of head `h` show its identity memory (R322, R326). -/
def State.showIdent (s : State) (p h : Nat) (b : List Byte) : State :=
  let a := Reg.HP_HEAD_INFO p h
  let s := ((s.setFld a Fld.HP_HEAD_INFO_TYPE (rd b 4 2)).setFld a Fld.HP_HEAD_INFO_RANK (rd b 7 1)).setFld a
    Fld.HP_HEAD_INFO_CLASS (rd b 6 1)
  let s := s.setFld a Fld.HP_HEAD_INFO_MAX_BITS (rd b 22 1)
  (s.setRegN (Reg.HP_HEAD_SERIAL_LO p h) (rd b 8 4)).setRegN (Reg.HP_HEAD_SERIAL_HI p h) (rd b 12 4)

/-- TIME is over once TIME_LOCK reads 1 (R320). -/
def State.timeCheck (s : State) (p : Nat) : State :=
  let lock := s.timeLock p
  let s := s.timeShow p
  if s.portState p = 4 ∧ lock then s.enterLoad p else s

/-- The identity memory `b` of head `h` has been read with a good CRC (R309, R310, R229, R320). -/
def State.identGood (s : State) (p h : Nat) (b : List Byte) : State :=
  let s := ((s.setTblBytes (identAddr p h) b).showIdent p h b).onHead p h fun x => { x with identTries := 0 }
  let s := (List.range (min (rd b 32 2) 944)).foldl (fun s i =>
    if rd b (258 + 4 * i) 1 % 2 = 1 then
      match s.beamOf p h (rd b (256 + 4 * i) 2) with
      | some k => s.markUnusable k
      | none => s
    else s) s
  if s.portState p = 3 ∧ (s.headsOf p).all fun h => (s.headLink p h).ident.length == 4096 then
    (s.setPortState p 4).timeCheck p
  else s

/-- A full identity memory is judged by its CRC (R309). -/
def State.identJudge (s : State) (p h : Nat) : State :=
  let x := s.headLink p h
  if x.ident.length < 4096 then s
  else if Crc.crc32c (x.ident.take 4092) = rd x.ident 4092 4 then s.identGood p h x.ident
  else if 2 ≤ x.identTries then s.portFault p 3
  else (s.onHead p h fun x => { x with identTries := x.identTries + 1 }).askIdent p h

/-- SB_RSP_FRAME (R292, R309, R316). -/
def execSbRspFrame (p : Fin 6) (fr : List Byte) (s : State) : Host.Outcome State Fault Refusal :=
  let p := p.val
  .next (s.upFrame p fr 0x87 8 fun s h b =>
    let op := rd b 0 1
    let st := rd b 1 1
    let mine := match (s.headLink p h).sb with
      | some r => r.op == op && r.offset == rd b 2 2
      | none => false
    let s := if mine then s.sbNext p h else s
    let x := s.headLink p h
    if op = 1 ∧ st = 0 ∧ rd b 2 2 = x.ident.length ∧ x.ident.length < 4096 then
      let got := (b.drop 8).take (min (rd b 4 2) (4096 - x.ident.length))
      (s.onHead p h fun x => { x with ident := x.ident ++ got }).identJudge p h
    else s)

/-- Heads that have answered ENUM, once the chain's end is known (R292). -/
def Port.counted (x : Port) : Option Nat :=
  let n := x.enumSeen.foldl (fun n h => max n (h + 1)) 0
  if (x.enumEnd ∨ n = 8) ∧ (List.range n).all fun h => x.enumSeen.contains h then some n else none

/-- Heads that have answered ENUM without a gap from head 0: what lies beyond the first that has not answered is lost with
it (R308). -/
def Port.answered (x : Port) : Nat := ((List.range 8).takeWhile fun h => x.enumSeen.contains h).length

/-- ENUM has found `n` heads on port `p`: those there were before and are found no more are lost (R308, R326). -/
def State.headsFound (s : State) (p n : Nat) : State :=
  let s := (s.headsLost p n).setFld (Reg.HP_PORT_STATUS p) Fld.HP_PORT_STATUS_HEADS n
  ((List.range n).foldl (fun s h => s.setFld (Reg.HP_HEAD_INFO p h) Fld.HP_HEAD_INFO_PRESENT 1) s).timeShow p

/-- Port `p` has counted `n` heads in ENUM (R320). -/
def State.enumDone (s : State) (p n : Nat) : State :=
  let s := s.headsFound p n
  let x := s.port p
  if x.afterLoss ∧ n < s.mapHeads p then
    if 2 ≤ x.enumShort then s.portFault p 5
    else s.onPort p fun x => { x with enumShort := x.enumShort + 1 }
  else
    let s := s.setPortState p 3
    let s := (List.range 8).foldl (fun s h => s.onHead p h fun y =>
      { y with sb := none, sbQueue := [], ident := [], identTries := 0, delays := [], wave := [], segLanes := 15 }) s
    (List.range n).foldl (fun s h => s.askIdent p h) s

/-- ENUM_RSP_FRAME (R292, R320). -/
def execEnumRspFrame (p : Fin 6) (fr : List Byte) (s : State) : Host.Outcome State Fault Refusal :=
  let p := p.val
  .next (s.upFrame p fr 0x88 4 fun s _ b =>
    let k := rd b 0 1
    if s.portState p ≠ 2 ∨ 8 ≤ k ∨ (s.port p).counted.isSome = true then s
    else
      let s := s.onPort p fun x => { x with
        enumSeen := if x.enumSeen.contains k then x.enumSeen else x.enumSeen ++ [k]
        enumEnd := x.enumEnd || rd b 1 1 == 0 }
      match (s.port p).counted with
      | some n => s.enumDone p n
      | none => s)

/-! ### Telemetry and exceptions (R230, R307, R315) -/

/-- A telemetry entry that names no beam or cannot be classified (R315). -/
def State.unmapped (s : State) (p : Nat) : State :=
  (s.count (Reg.HP_TELEM_UNMAPPED p) 1).event Reg.HP_EVENT Fld.HP_EVENT_TELEM_UNMAPPED

/-- Nominal current of beam LOCAL `loc` of a head, in units of 0.1 µA (R309, R310). -/
def State.nominal (s : State) (p h loc : Nat) : Nat :=
  let n := min (s.ident p h 32 2) 944
  let pct := match (List.range n).find? fun i => s.ident p h (256 + 4 * i) 2 == loc with
    | some i => s.ident p h (259 + 4 * i) 1
    | none => 100
  s.ident p h 20 2 * (if pct = 0 then 100 else pct)

/-- One entry of a TELEM payload (R315). -/
def State.telemEntry (s : State) (p h kind : Nat) (b : List Byte) : State :=
  match kind with
  | 1 => s.tempReport p h (rdS b 0 2)
  | 2 =>
    match s.beamOf p h (rd b 0 2) with
    | some k => if rd b 2 1 ≤ 2 then s.report k (rd b 2 1) else s.unmapped p
    | none => s.unmapped p
  | 3 =>
    match s.beamOf p h (rd b 0 2) with
    | some k =>
      let nom := s.nominal p h (rd b 0 2)
      if nom = 0 then s.unmapped p else s.report k (s.currentClass (rd b 2 2 * 100) nom)
    | none => s.unmapped p
  | _ => s.unmapped p

/-- TELEM_FRAME (R315). -/
def execTelemFrame (p : Fin 6) (fr : List Byte) (s : State) : Host.Outcome State Fault Refusal :=
  let p := p.val
  .next (s.upFrame p fr 0x8B 4 fun s h b =>
    let n := min (rd b 2 2) ((b.length - 4) / 4)
    (List.range n).foldl (fun s i => s.telemEntry p h (rd b 0 1) ((b.drop (4 + 4 * i)).take 4)) s)

/-- An EXC names no command that the port sent to that head (R307). -/
def State.excNone (s : State) (p : Nat) : State :=
  (s.count (Reg.HP_FRAME_ERR p) 1).event Reg.HP_EVENT Fld.HP_EVENT_FRAME_ERR

/-- The outcome of an EXC of head `h` for row `r` of command `c` (R305, R307). -/
def State.excRow (s : State) (p h reason : Nat) (c : FireCmd) (r : FireRow) : State :=
  if reason = 4 then
    if s.gy.estopAt ≤ c.fire then
      (s.swathEv c.layer c.swath ⟨19, 0, p, h, r.row, r.line, r.line, 0, 0xFFFFFFFF⟩).event Reg.HP_EVENT
        Fld.HP_EVENT_ESTOP_FIRED
    else s
  else if reason = 1 ∨ reason = 2 ∨ reason = 3 ∨ reason = 5 then
    s.missed c.layer c.swath p h r.row r.line reason
  else s

/-- The command that an EXC of head `h` names and its rows concerned (R307): by REF_SEQ and by LINE and ROW; else by
REF_SEQ, for NO_FRAME by LINE and ROW, the latest of those due by now; else by the other. LOST concerns every row of the frame, and so does a REF_SEQ whose
LINE and ROW name none of them. -/
def State.excNames (s : State) (p h reason seq line row : Nat) : Option (FireCmd × List FireRow) :=
  let at_ := fun (f : SentFrame) => f.cmd.rows.filter fun r => r.line == line && r.row == row
  let fs := (s.port p).sentFrames.filter fun f => f.head == h
  let bySeq := fs.find? fun f => f.seq == seq
  let lines := (fs.filter fun f => !(at_ f).isEmpty).reverse
  let byLine := (lines.find? fun f => decide (f.cmd.fire ≤ s.now16)).or lines.head?
  let both := fs.find? fun f => f.seq == seq && !(at_ f).isEmpty
  let f := both.or (if reason = 3 then byLine.or bySeq else bySeq.or byLine)
  f.map fun f => (f.cmd, if reason = 2 ∨ (at_ f).isEmpty then f.cmd.rows else at_ f)

/-- EXC_FRAME (R305, R307). -/
def execExcFrame (p : Fin 6) (fr : List Byte) (s : State) : Host.Outcome State Fault Refusal :=
  let p := p.val
  .next (s.settleStop (s.upFrame p fr 0x8C 24 fun s h b =>
    let s := (s.count (Reg.HP_EXC p) 1).event Reg.HP_EVENT Fld.HP_EVENT_EXC
    let reason := rd b 0 1
    match s.excNames p h reason (rd b 2 2) (rd b 4 4) (rd b 8 2) with
    | none => s.excNone p
    | some (c, rows) =>
      let s := if c.tag = rd b 16 8 then s else s.excNone p
      rows.foldl (fun s r => s.excRow p h reason c r) s).closeDue)

/-- SEQ `a` comes after SEQ `b` (R291, R298). -/
def seqAfter (a b : Nat) : Bool :=
  decide (0 < (a + 65536 - b) % 65536 ∧ (a + 65536 - b) % 65536 < 32768)

/-- STATUS_FRAME (R298, R303, R317). -/
def execStatusFrame (p : Fin 6) (fr : List Byte) (s : State) : Host.Outcome State Fault Refusal :=
  let p := p.val
  .next (s.upFrame p fr 0x8D 24 fun s h b =>
    let resid := rdS b 2 2
    let s := s.onHead p h fun x => { x with
      queueFree := 1024 * rd b 8 2, lastSeq := rd b 6 2, segLanes := rd b 1 1 % 16, resid := resid }
    let s := s.onPort p fun x => { x with sentFrames := x.sentFrames.map fun f =>
      if f.head = h then { f with after := f.after && seqAfter f.seq (rd b 6 2) } else f }
    let s := (s.setFld (Reg.HP_HEAD_INFO p h) Fld.HP_HEAD_INFO_LOCKED (rd b 0 1 % 2)).setFld
      (Reg.HP_HEAD_DELAY p h) Fld.HP_HEAD_DELAY_RESID (min 255 (resid.natAbs / 4))
    (s.timeCheck p).laneCheck p)

/-! ### The end of a beam-map edit (R237, R239, R295) -/

/-- EDIT_VALIDATION_DONE (R237, R239): a validation that EDIT_COMMIT started ends. -/
def execEditValidationDone (s : State) : Host.Outcome State Fault Refusal :=
  if s.beams.validating then
    let old := s.bmap
    let s : State := { s with beams := { s.beams with validating := false } }
    let s := s.validateMap
    if s.flag Reg.BM_STATUS Fld.BM_STATUS_VALID then
      let s := s.countStatus old (hdrNbeam s.tables)
      let s := ({ s with beams := { s.beams with saved := none } } : State).setFld Reg.BM_STATUS Fld.BM_STATUS_EDIT 0
      .next ((List.range 6).foldl (fun s p => if s.portState p = 5 ∨ s.portState p = 6 then s.rowMaps p else s) s)
    else .next s
  else .next s

/-! ### Sending commands (R293, R294, R298) -/

/-- Code bytes of a command (R293). -/
def FireCmd.bytes (c : FireCmd) : Nat := c.rows.foldl (fun n r => n + codeBytes4 r.codes.length 8) 0

/-- Room that head `h` has for code bytes (R298). -/
def State.headRoom (s : State) (p h : Nat) : Nat :=
  let after := (s.port p).sentFrames.filter fun f => f.head == h && f.after
  (s.headLink p h).queueFree - after.foldl (fun n f => n + f.cmd.bytes) 0

/-- A row's codes, padded to whole words. -/
def FireRow.padded (r : FireRow) : List Byte :=
  r.codes ++ List.replicate (codeBytes4 r.codes.length 8 - r.codes.length) 0

/-- Type and payload of a FIRE or DOSE frame (R293, R294). -/
def FireCmd.payload (c : FireCmd) : Nat × List Byte :=
  if c.dose then
    (2, toLE 2 c.hoId ++ toLE 2 c.rows.length ++ toLE 4 ((c.rows.head?.map (·.line)).getD 0) ++
      toLE 8 c.tag ++
      c.rows.flatMap fun r => toLE 2 r.row ++ toLE 1 r.bits ++ toLE 1 (b2n r.zero) ++ toLE 4 r.count ++ r.padded)
  else
    (1, c.rows.flatMap fun r =>
      toLE 8 (c.fire / 65536 % 2 ^ 64) ++ toLE 2 (c.fire % 65536) ++ toLE 2 c.hoId ++ toLE 4 r.line ++ toLE 2 r.row ++
      toLE 1 r.bits ++ toLE 1 (b2n r.zero) ++ toLE 4 r.count ++ toLE 8 (tagXor r.tags) ++ r.padded)

/-- The command arrives in time (R298): now + (52 + C) / R_P + 1.0 µs + SETUP_NS is not past its fire time. -/
def State.inTime (s : State) (p : Nat) (c : FireCmd) : Bool :=
  let r := s.regN (Reg.HP_PORT_RATE p)
  r != 0 && decide (s.now16 + divUp ((52 + c.bytes) * 8000 * 65536) r + ns16 (1000 + s.ident p c.head 28 2) ≤ c.fire)

/-- FIRE_FRAME_SEND (R298): port `p` starts its next command, drops it as MISSED, or waits for room. `upset`
lets the frame leave with a wrong CRC. -/
def execFireFrameSend (p : Fin 6) (upset : Bool) (s : State) : Host.Outcome State Fault Refusal :=
  let p := p.val
  match (s.port p).queue with
  | [] => .next s
  | c :: rest =>
    if (s.port p).narrow.isSome ∨ s.gy.estop then .next s
    else if s.headRoom p c.head < c.bytes then .next s
    else
      let s := s.onPort p fun x => { x with queue := rest }
      if s.inTime p c then
        let seq := s.seqTo p c.head
        let (ty, pay) := c.payload
        let s := s.sendFrameU p c.head ty pay upset
        .next (s.onPort p fun x =>
          let old := x.sentFrames.filter fun f => !(f.head == c.head && f.seq == seq)
          { x with sentFrames := old ++ [⟨c.head, seq, c, true⟩] })
      else
        let r := c.rows.head?
        let s := (s.count (Reg.HP_LATE_DROPS p) 1).raiseInfo .contained Reg.HP_EVENT Fld.HP_EVENT_LATE_DROP 0
          (unitHp p) (lineInfo ((r.map (·.line)).getD 0) ((r.map (·.row)).getD 0) c.head)
        .next (s.cmdMissed p c 7)

/-! ### Timeouts (R291, R308, R314, R320) -/

/-- SB_REQ_TIMEOUT (R291): the request in flight to head `h` has had no answer for 1 ms. -/
def execSbReqTimeout (p : Fin 6) (h : Fin 8) (s : State) : Host.Outcome State Fault Refusal :=
  match (s.headLink p h).sb with
  | none => .next s
  | some r => if 3 ≤ r.sends then .next (s.headLost p h) else .next (s.sbSend p h r)

/-- HEAD_STATUS_TIMEOUT (R308): no STATUS from head `h` for 1 ms. -/
def execHeadStatusTimeout (p : Fin 6) (h : Fin 8) (s : State) : Host.Outcome State Fault Refusal :=
  if s.headPresent p h then .next (s.headLost p h) else .next s

/-- HO_ACK_TIMEOUT (R314): head `h` has not acknowledged a hand-over for 10 ms. -/
def execHoAckTimeout (p : Fin 6) (h : Fin 8) (s : State) : Host.Outcome State Fault Refusal :=
  if s.headPresent p h then
    match (s.hosOpen p).find? fun o => !o.refused && !o.acked.contains h.val && Kv.getD o.sends h.val 0 != 0 with
    | some o => .next (s.hoRetry p h o)
    | none => .next s
  else .next s

/-- ENUM_RETRY (R320): no more answers come to ENUM. Heads that have answered are counted, though the last of them
reports more beyond; with none at all, the port is judged by its map; and too few after a loss are asked for again. -/
def execEnumRetry (p : Fin 6) (s : State) : Host.Outcome State Fault Refusal :=
  let p := p.val
  let n := (s.port p).answered
  if s.portState p ≠ 2 then .next s
  else if (s.port p).counted.isSome then .next (s.sendEnum p)
  else if n = 0 then
    let s := s.headsFound p 0
    if hdrCols s.bmap p ≠ 0 then .next (s.portFault p 2)
    else if portBeams s.bmap p = 0 then .next (s.setPortState p 6)
    else .next (s.sendEnum p)
  else
    let s := s.enumDone p n
    .next (if s.portState p = 2 then s.sendEnum p else s)

/-- PORT_TIME_TIMEOUT (R320): 50 ms in TIME without TIME_LOCK. -/
def execPortTimeTimeout (p : Fin 6) (s : State) : Host.Outcome State Fault Refusal :=
  if s.portState p = 4 then .next (s.portFault p 4) else .next s

/-- TIME_LOCK_LOSS (R320): TIME_LOCK has read 0 for 1 ms on a READY port. -/
def execTimeLockLoss (p : Fin 6) (s : State) : Host.Outcome State Fault Refusal :=
  if s.portState p = 6 ∧ ¬ s.flag (Reg.HP_PORT_STATUS p) Fld.HP_PORT_STATUS_TIME_LOCK then
    .next ((s.onPort p fun x => { x with toEnum := true, afterLoss := true, attempts := 0 }).toEnumCheck p)
  else .next s

/-- LWIDTH_ECHO (R317): head `h` echoes LWIDTH; with every head's echo the port resumes. -/
def execLwidthEcho (p : Fin 6) (h : Fin 8) (s : State) : Host.Outcome State Fault Refusal :=
  match (s.port p).narrow with
  | none => .next s
  | some (m, seen) =>
    let seen := if seen.contains h.val then seen else h.val :: seen
    .next (((s.onPort p fun x => { x with narrow := some (m, seen) }).narrowCheck p).laneCheck p)

/-! ### Register commands (R313, R320, R325) -/

/-- A port in LINK whose first segment has at least two lanes trained goes to ENUM on them (R320). -/
def State.linkCheck (s : State) (p : Nat) : State :=
  let m := (s.port p).trained % 16
  if s.portState p = 1 ∧ rateOf m ≠ 0 then (s.setLanes p m).enterEnum p else s

/-- HP_PORT_RESTART (R320, R321): RESTART is written to HP_PORT_CTRL of port `p` over `path`. -/
def execHpPortRestart (path : Path) (p : Fin 6) (s : State) : Host.Outcome State Fault Refusal :=
  if s.portState p = 7 then
    .next (((s.onPort p fun x => { x with afterLoss := false, attempts := 0, enumShort := 0 }).setPortState p 1).linkCheck p)
  else .next (s.accFlag path (Reg.HP_PORT_CTRL p) .refused)

/-- HP_SB_CMD with operation `op` (R325): request `r` goes to the head or heads that `w` names. -/
def State.sbCmd (s : State) (w : Word) (ask : State → Nat → Nat → State) : State :=
  let p := Fld.HP_SB_CMD_PORT.get w
  if 6 ≤ p then s
  else
    let hs := if Fld.HP_SB_CMD_ALL.get w = 1 then s.headsOf p
      else (s.headsOf p).filter fun h => h == Fld.HP_SB_CMD_HEAD.get w
    hs.foldl (fun s h => ask s p h) s

/-- SB_IDENTITY_REREAD (R325): `w` is the HP_SB_CMD word, whose OP is 1. -/
def execSbIdentityReread (w : Word) (s : State) : Host.Outcome State Fault Refusal :=
  .next (s.sbCmd w fun s p h => s.askIdent p h)

/-- SB_NOZZLE_CHECK (R316, R325): OP 2. -/
def execSbNozzleCheck (w : Word) (s : State) : Host.Outcome State Fault Refusal :=
  .next (s.sbCmd w fun s p h => s.sbAsk p h ⟨2, 0, 0, 0⟩)

/-- SB_TELEMETRY_POLL (R325): OP 3. -/
def execSbTelemetryPoll (w : Word) (s : State) : Host.Outcome State Fault Refusal :=
  .next (s.sbCmd w fun s p h => s.sbAsk p h ⟨3, 0, 0, 0⟩)

/-- WAVE_COMMIT (R313, R325): HP_WAVE_CTRL is written with COMMIT and the set `w` names, over `path`. -/
def execWaveCommit (path : Path) (w : Word) (s : State) : Host.Outcome State Fault Refusal :=
  if s.flag Reg.HP_WAVE_STATUS Fld.HP_WAVE_STATUS_BUSY then .next (s.accFlag path Reg.HP_WAVE_CTRL .refused)
  else
    let s : State := { s with hp := { s.hp with waves := { s.hp.waves with
      checking := some (Fld.HP_WAVE_CTRL_SET.get w) } } }
    .next (s.setFld Reg.HP_WAVE_STATUS Fld.HP_WAVE_STATUS_BUSY 1)

/-- WAVE_VALIDATION_DONE (R313): the validation of a set's copy ends. -/
def execWaveValidationDone (s : State) : Host.Outcome State Fault Refusal :=
  match s.hp.waves.checking with
  | none => .next s
  | some n =>
    let s : State := { s with hp := { s.hp with waves := { s.hp.waves with checking := none } } }
    let s := (s.setFld Reg.HP_WAVE_STATUS Fld.HP_WAVE_STATUS_BUSY 0).setFld Reg.HP_WAVE_STATUS
      Fld.HP_WAVE_STATUS_ERR_SET n
    let b := s.waveCopy n
    match waveFault b with
    | some c => .next ((s.setFld Reg.HP_WAVE_STATUS Fld.HP_WAVE_STATUS_ERR c).event Reg.HP_EVENT
        Fld.HP_EVENT_WAVE_FAULT)
    | none =>
      let s : State := { s with hp := { s.hp with waves := { s.hp.waves with
        shadow := Kv.set s.hp.waves.shadow n b } } }
      .next ((s.setFld Reg.HP_WAVE_STATUS Fld.HP_WAVE_STATUS_ERR 0).setFld Reg.HP_WAVE_STATUS
        Fld.HP_WAVE_STATUS_PENDING (s.fld Reg.HP_WAVE_STATUS Fld.HP_WAVE_STATUS_PENDING ||| 2 ^ n))

end Sys2Proof.Machine
end

