-- ==== Sys2Proof/Machine/Lanes.lean ====
section
/-! DEFINITION. Serial lanes: training, the active-lane masks, LS and LD, failure and return (R402 to R425). -/

namespace Sys2Proof.Machine

open Sys2Proof.Bits

/-! ### Lanes and their ports (R402). Ports here are 0 ingest, 1 to 4 fabric, 5 to 10 heads, 11 management. -/

/-- Lane `n` takes stored state `st`; its calibration, which only TRAIN runs, is over (R625). -/
def State.setLane (s : State) (n st : Nat) : State :=
  (s.setFld (Reg.LN_LANE_STATUS n) Fld.LN_LANE_STATUS_STATE st).setTgt (64 + n) Fld.CAL_TGT_STATUS_BUSY 0

/-- LN_LANE_STATUS.STATE of lane `n` (R415). -/
def State.laneSt (s : State) (n : Nat) : Nat :=
  let st := s.laneRaw n
  if st = 3 ∧ s.inMask n then 4 else st

/-- Lane `n`. -/
def State.lane (s : State) (n : Nat) : Lane := (s.ln.lanes[n]?).getD ⟨0, 0, false, false, 0, false, [], false, 0⟩

/-- The state with lane `n` changed by `f`. -/
def State.onLane (s : State) (n : Nat) (f : Lane → Lane) : State :=
  match s.ln.lanes[n]? with
  | some x => { s with ln := { s.ln with lanes := s.ln.lanes.set n (f x) } }
  | none => s

/-- Port `q` is in use: its mask is not to change but by LWIDTH (R423, R425). -/
def State.laneUse (s : State) (q : Nat) : Bool :=
  if q = 0 then s.flag Reg.ING_STATUS Fld.ING_STATUS_READY && s.portMask 0 != 0
  else if q < 5 then decide (2 ≤ s.fpState (q - 1)) && s.portMask q != 0
  else if q < 11 then decide (2 ≤ s.portState (q - 5) ∧ s.portState (q - 5) ≤ 6)
  else s.portMask 11 != 0

/-- Least width of port `q` in use (R317, R369, R417). -/
def portMin (q : Nat) : Nat := if 5 ≤ q ∧ q < 11 then 2 else 1

/-- The mask of a port that is not a head port becomes `m` (R416, R432). -/
def State.setMask (s : State) (q m : Nat) : State :=
  if q = 0 then s.setFld Reg.ING_STATUS Fld.ING_STATUS_LANES m
  else if q < 5 then
    (s.onFport (q - 1) fun x => { x with mask := m }).setFld (Reg.FAB_PORT_STATUS (q - 1))
      Fld.FAB_PORT_STATUS_WIDTH (maskCount m)
  else if q = 11 then { s with ln := { s.ln with mgtMask := some m } }
  else s

/-- Whether an LWIDTH of ingest or fabric port `q` awaits its answer becomes `b`. -/
def State.setNarrow (s : State) (q : Nat) (b : Bool) : State :=
  if q = 0 then { s with ing := { s.ing with narrow := b } }
  else s.onFport (q - 1) fun x => { x with narrow := b }

/-- LWIDTH with mask `m` goes out 16 times on every lane of ingest or fabric port `q` still trained (R317, R369, R417). -/
def State.sendWidth (s : State) (q m : Nat) : State := s.setOn q (s.standby q) (setsOf 16 (setLwidth m))

/-- A lane of port `q`'s mask is in LS or LD. -/
def State.maskSleeps (s : State) (q : Nat) : Bool :=
  (lanesOf q).any fun n => s.inMask n && (s.laneRaw n == 5 || s.laneRaw n == 6)

/-- The state with its ingest part changed by `f`. -/
def State.onIng (s : State) (f : Ingest → Ingest) : State := { s with ing := f s.ing }

/-- An upstream frame goes out (R524): header, payload and CRC. It is kept until it is acknowledged (R373). -/
def State.ingPut (s : State) (ty ch arg : Nat) (pay : List Byte) : State :=
  let q := s.ing.txSeq
  let b := toLE 1 ty ++ toLE 1 ch ++ toLE 2 pay.length ++ toLE 2 q ++ [0, 0] ++ toLE 8 arg ++ pay
  let fr := b ++ toLE 4 (Crc.crc32c b)
  let s := s.onIng fun g => { g with txSeq := (q + 1) % 65536, retry := g.retry ++ [(q, fr)] }
  if s.ing.narrow ∨ s.portMask 0 = 0 ∨ s.maskSleeps 0 then
    s.onIng fun g => { g with upHeld := g.upHeld ++ [fr] }
  else s.sendOn 0 fr

/-- Bytes in the ingest port's retry buffer. -/
def Ingest.retryBytes (g : Ingest) : Nat := g.retry.foldl (fun n f => n + f.2.length) 0

/-- Upstream frames go out in order while the 8 KiB retry buffer has room (R373, R522). -/
def State.ingPump (s : State) : Nat → State
  | 0 => s
  | n + 1 =>
    match s.ing.upQueue with
    | [] => s
    | (ty, ch, arg, pay) :: rest =>
      if 8192 < s.ing.retryBytes + 20 + pay.length then s
      else ((s.onIng fun g => { g with upQueue := rest }).ingPut ty ch arg pay).ingPump n

/-- Ingest or fabric port `q` has a lane again, or its LWIDTH is answered: what has waited goes out (R317, R417). -/
def State.carry (s : State) (q : Nat) : State :=
  if 1 ≤ q then s.pumpAll (q - 1)
  else if s.ing.narrow ∨ s.portMask 0 = 0 ∨ s.maskSleeps 0 then s
  else s.ing.upHeld.foldl (fun s fr => s.sendOn 0 fr) { s with ing := { s.ing with upHeld := [] } }

/-- A port that changes from mask `old` to mask `m` has narrowed to one lane: where it is a fabric port, that is flagged
(R401). -/
def State.degrade (s : State) (q old m : Nat) : State :=
  if 1 ≤ q ∧ maskCount m = 1 ∧ 1 < maskCount old then s.event Reg.FAB_EVENT Fld.FAB_EVENT_LINK_DEGRADE else s

/-- Ingest or fabric port `q` takes mask `m` and sends LWIDTH; frames wait for the answer. With no lane left it carries
nothing until one returns (R317, R369, R417); a port not in use has no frames to divide. -/
def State.widthTo (s : State) (q m : Nat) : State :=
  let old := s.portMask q
  let used := s.laneUse q
  let s := s.setMask q m
  if m = 0 ∨ ¬ used then s.setNarrow q false
  else ((s.sendWidth q m).setNarrow q true).degrade q old m

/-! ### Leaving and joining a mask (R317, R369, R416, R417, R423) -/

/-- Lanes of ingest or fabric port `q` in its mask that are not trained leave it. Where an LWIDTH awaits its answer, or the
port is in LS or LD, they leave it after that (R425). -/
def State.maskCheck (s : State) (q : Nat) : State :=
  let m := s.portMask q &&& s.standby q
  if 5 ≤ q ∨ m = s.portMask q ∨ s.narrowing q ∨ s.maskSleeps q then s else s.widthTo q m

/-- The lanes `ls` of port `q` leave its mask, and the port narrows. -/
def State.masksOut (s : State) (q : Nat) (ls : List Nat) : State :=
  let s := ls.foldl (fun s n => s.onLane n fun x => { x with proven := false }) s
  if q < 5 then s.maskCheck q
  else if q < 11 then
    (ls.foldl (fun s n => s.onPort (q - 5) fun x => { x with trained := x.trained &&& (15 ^^^ 2 ^ laneIn n) })
      s).laneCheck (q - 5)
  else if ls.isEmpty ∨ s.ln.mgtMask.isNone then s
  else s.setMask 11 0

/-- Lane `n` leaves its port's mask, and the port narrows. -/
def State.maskOut (s : State) (n : Nat) : State := s.masksOut (lanePort n) [n]

/-- Fabric port `p` has trained a lane (R374, R416): it is in HELLO, on every lane trained. -/
def State.fabTrained (s : State) (p : Nat) : State :=
  if s.fpState p = 1 then
    let s := if s.locked then (s.setMask (p + 1) (s.standby (p + 1))).setNarrow (p + 1) false else s
    s.setFport p 2
  else if 2 ≤ s.fpState p ∧ s.portMask (p + 1) = 0 ∧ s.locked then
    (s.setMask (p + 1) (s.standby (p + 1))).carry (p + 1)
  else s

/-- A lane that has trained sends IDLE, or NOT_READY in its place (R407, R411), and the management lane its configuration
(R424). -/
def State.laneIdle (s : State) (n : Nat) : State := s.setOn (lanePort n) (2 ^ laneIn n) (s.idleFlow (lanePort n))

/-- The management port becomes ready, or has no mask yet: it takes its lane, where that is in STANDBY (R416). -/
def State.formMgt (s : State) : State :=
  if s.regN (Reg.CFG_MILESTONE 5) ≠ 0 ∧ s.ln.mgtMask.isNone ∧ s.standby 11 ≠ 0 then s.setMask 11 (s.standby 11) else s

/-- Lane `n` has completed training: STANDBY (R411, R416). A port that has waited for a lane takes it at once. -/
def State.laneTrained (s : State) (n : Nat) : State :=
  let q := lanePort n
  let used := s.laneUse q
  let s := (s.setLane n 3).setFld (Reg.LN_LANE_STATUS n) Fld.LN_LANE_STATUS_BACKGROUND 0
  let s := (s.onLane n fun x => { x with proven := false }).laneIdle n
  if q = 0 then
    if s.flag Reg.ING_STATUS Fld.ING_STATUS_READY ∧ s.portMask 0 = 0 then (s.setMask 0 (s.standby 0)).carry 0 else s
  else if q < 5 then s.fabTrained (q - 1)
  else if q < 11 then
    if used then s
    else (s.onPort (q - 5) fun x => { x with trained := x.trained ||| 2 ^ laneIn n }).linkCheck (q - 5)
  else s.formMgt

/-! ### Training and failure (R411 to R414, R417, R421, R422) -/

/-- TABLE_CTLE of lane `n`. -/
def State.tableCtle (s : State) (n : Nat) : Nat := s.fld (Reg.LN_LANE_EQ n) Fld.LN_LANE_EQ_TABLE_CTLE

/-- KIND of the TS sets of a lane (R413). -/
def laneKind (n : Nat) : Nat := if n < 8 then 0 else if n < 16 then 1 else 2

/-- A TS1 or TS2 set of a lane (R404, R413). -/
def setTs (ty lane kind flags step seq : Nat) : List Chr :=
  let bs := [ty, lane, kind, flags, step, seq]
  .k 28 5 :: (bs.map dNum ++ [dNum ((bs.foldl (fun a b => a ^^^ (b % 256)) 0) ^^^ 255)])

/-- TS sets that lane `n` has sent since its training began: one takes eight slots of 0.8 ns (R403, R413). Where the count
starts is not stated: DESIGN CHOICE, log entry 64. -/
def State.tsSent (s : State) (n : Nat) : Nat := (s.clk.ticks - (s.lane n).trainAt) * 10 / 64

/-- From now on lane `n`, in training, sends TS2 sets, or TS1, and SEQ counts on (R411, R413). -/
def State.sendTsAs (s : State) (n : Nat) (two : Bool) : State :=
  if n = 40 then s
  else
    let x := s.lane n
    s.setOn (lanePort n) (2 ^ laneIn n) (setTs (if two then 0xB2 else 0xB1) (laneIn n) (laneKind n)
      (b2n x.passed + 2 * b2n s.locked) x.step (s.tsSent n))

/-- What lane `n`, in training, sends: TS1, with ACK once it has passed, and TS2 after it once it has received ACK too
(R411). -/
def State.sendTs (s : State) (n : Nat) : State :=
  let s := s.sendTsAs n false
  if (s.lane n).passed ∧ (s.lane n).gotAck then s.sendTsAs n true else s

/-- Lane `n` starts to train, at the first step of the ladder (R412). A fabric port that is DOWN is in TRAIN then, and where
another lane of it is trained, in HELLO (R374). -/
def State.enterTrain (s : State) (n : Nat) : State :=
  let q := lanePort n
  let others := (lanesOf q).any fun i => i != n && s.laneSt i == 4
  let s := (s.setLane n 2).setFld (Reg.LN_LANE_STATUS n) Fld.LN_LANE_STATUS_BACKGROUND (b2n others)
  let s := (s.onLane n fun x => ⟨0, 0, false, false, 0, false, x.fails, false, s.clk.ticks⟩).sendTs n
  let s := s.setFld (Reg.LN_LANE_EQ n) Fld.LN_LANE_EQ_CTLE (s.tableCtle n)
  let s := (s.setTgt (64 + n) Fld.CAL_TGT_STATUS_FAILS 0).calBegin (64 + n)
  if 1 ≤ q ∧ q < 5 ∧ s.fpState (q - 1) = 0 then
    let s := s.setFport (q - 1) 1
    if s.standby q = 0 then s else s.fabTrained (q - 1)
  else s

/-- Training of port `q` ends without enough lanes (R320, R374), or every lane of it has failed (R421). -/
def State.trainEnds (s : State) (q : Nat) : State :=
  let some_ := fun (l : List Nat) => (lanesOf q).any fun n => l.contains (s.laneRaw n)
  if 1 ≤ q ∧ q < 5 then
    let p := q - 1
    if s.fpState p = 1 ∧ ¬ some_ [2, 3, 5, 6] then s.fabDown p
    else if 2 ≤ s.fpState p ∧ ¬ some_ [1, 2, 3, 5, 6] then s.fabDown p
    else s
  else if 5 ≤ q ∧ q < 11 ∧ s.portState (q - 5) = 1 ∧ ¬ some_ [1, 2] ∧ rateOf ((s.port (q - 5)).trained % 16) = 0 then
    s.portFault (q - 5) 1
  else s

/-- Lane `n` enters FAILED with cause `c` (R415, R421, R422, R424). -/
def State.laneFailed (s : State) (n c : Nat) : State :=
  let s := (s.setLane n 7).setFld (Reg.LN_LANE_STATUS n) Fld.LN_LANE_STATUS_CAUSE c
  let s := (s.setFld (Reg.LN_LANE_STATUS n) Fld.LN_LANE_STATUS_BACKGROUND 0).count (Reg.LN_LANE_FAILS n) 1
  let s := s.raise .degraded Reg.LN_EVENT Fld.LN_EVENT_LANE_FAILED c (unitLane n)
  let now := s.clk.ticks
  let s := s.onLane n fun x => { x with fails := (now :: x.fails).take 3 }
  let fs := (s.lane n).fails
  let s := if fs.length = 3 ∧ (fs.all fun t => now ≤ t + 3600000000000) ∧
      ¬ s.flag (Reg.LN_LANE_STATUS n) Fld.LN_LANE_STATUS_HELD then
      (s.setFld (Reg.LN_LANE_STATUS n) Fld.LN_LANE_STATUS_HELD 1).raise .degraded Reg.LN_EVENT Fld.LN_EVENT_HELD 0
        (unitLane n)
    else s
  let s := if n = 40 then s.raise .degraded Reg.LN_EVENT Fld.LN_EVENT_MGT_FALLBACK 0 (unitLane n) else s
  s.trainEnds (lanePort n)

/-- CTLE of ladder step `k` for table value `c` (R412); none where it lies outside 0 to 15. -/
def ladderCtle (c k : Nat) : Option Nat :=
  let x : Int := (c : Int) + nth [(0 : Int), 1, -1, 2, -2] (k % 5) 0
  if 0 ≤ x ∧ x ≤ 15 then some x.toNat else none

/-- The present ladder step of lane `n` fails (R411, R412). -/
def State.stepFails (s : State) (n : Nat) : State :=
  let k := (s.lane n).step
  match (List.range 10).find? fun j => decide (k < j) && (ladderCtle (s.tableCtle n) j).isSome with
  | some j =>
    let s := (s.onLane n fun x => { x with step := j, ts1 := 0, passed := false, gotAck := false, ts2 := 0 }).sendTs n
    s.setFld (Reg.LN_LANE_EQ n) Fld.LN_LANE_EQ_CTLE ((ladderCtle (s.tableCtle n) j).getD 0)
  | none => s.laneFailed n 1

/-- Energy on a lane of port `q`, which has asked for LD: the port leaves LD as soon as it has entered it (R425). -/
def State.energyIn (s : State) (q : Nat) : State :=
  { s with ln := { s.ln with pwr := s.ln.pwr.map fun r =>
    if r.port = q ∧ r.sent ∧ r.kind = 2 then { r with energy := true } else r } }

/-- Port `q` wakes on the WAKE pattern only (R420, R429). -/
def State.wakeOnly (s : State) (q : Nat) : Bool := bit (s.regN Reg.LN_WAKE_CFG) q

/-- LANE_ENERGY_DETECT (R415, R425): energy above the threshold for 1 µs. -/
def execLaneEnergyDetect (n : Fin 41) (s : State) : Host.Outcome State Fault Refusal :=
  let q := lanePort n
  if s.laneRaw n = 1 then .next (s.enterTrain n)
  else if s.inMask n ∧ ¬ s.wakeOnly q then .next (s.energyIn q)
  else .next s

/-- LANE_ENERGY_LOSS (R415): no energy for 100 µs during training. -/
def execLaneEnergyLoss (n : Fin 41) (s : State) : Host.Outcome State Fault Refusal :=
  if s.laneRaw n = 2 then
    .next (((s.setLane n 1).setFld (Reg.LN_LANE_STATUS n) Fld.LN_LANE_STATUS_BACKGROUND 0).trainEnds (lanePort n))
  else .next s

/-- TS_SET_RECEIVE (R411, R413, R414): bytes 1 to 7 of a TS set on lane `n`; `inverted` tells of data seen inverted
against RX_INV, `skew` is the skew between the port's lanes in slots. -/
def execTsSetReceive (n : Fin 40) (ts : List Byte) (inverted : Bool) (skew : Nat) (s : State) :
    Host.Outcome State Fault Refusal :=
  let n := n.val
  if s.laneRaw n ≠ 2 then .next s
  else if inverted then .next (s.laneFailed n 3)
  else
    let x := s.lane n
    let chk := decide (ts.length = 7 ∧ (ts.foldl (fun (a : Nat) (b : Byte) => a ^^^ b.toNat) 0) = 255)
    let kind := rd ts 0 1
    if chk = false ∨ (kind ≠ 0xB1 ∧ kind ≠ 0xB2) then
      if x.passed then .next (s.onLane n fun x => { x with ts2 := 0 })
      else if 64 ≤ x.ts1 then .next (s.stepFails n)
      else .next (s.onLane n fun x => { x with ts1 := 0 })
    else if rd ts 1 1 ≠ laneIn n ∨ rd ts 2 1 ≠ laneKind n then .next (s.laneFailed n 2)
    else if kind = 0xB1 then
      let ack := bit (rd ts 3 1) 0
      let s := s.onLane n fun x => { x with
        ts1 := min (x.ts1 + 1) 64
        gotAck := x.gotAck || ack
        ts2 := 0 }
      .next (if x.passed ∧ ack ∧ x.gotAck = false then s.sendTs n else s)
    else if x.passed ∧ x.gotAck then
      if x.ts2 < 15 then .next (s.onLane n fun x => { x with ts2 := x.ts2 + 1 })
      else if 16 < skew then .next (s.laneFailed n 4)
      else .next (s.laneTrained n)
    else if x.ts1 < 64 then .next (s.onLane n fun x => { x with ts1 := 0 })
    else .next s

/-- TRAIN_STEP_TIMEOUT (R411, R412): 20 µs without alignment and 64 TS1 sets. -/
def execTrainStepTimeout (n : Fin 41) (s : State) : Host.Outcome State Fault Refusal :=
  if s.laneRaw n = 2 ∧ (s.lane n).ts1 < 64 ∧ (s.lane n).passed = false then .next (s.stepFails n) else .next s

/-- TRAIN_DWELL_DONE (R411, R424): the dwell has ended without an error; the step passes. On the management lane
that is the whole of training. -/
def execTrainDwellDone (n : Fin 41) (s : State) : Host.Outcome State Fault Refusal :=
  let n := n.val
  if s.laneRaw n ≠ 2 ∨ ((s.lane n).ts1 < 64 ∧ n ≠ 40) then .next s
  else
    let s := s.setFld (Reg.LN_LANE_EQ n) Fld.LN_LANE_EQ_STEP (s.lane n).step
    let s := s.onLane n fun x => { x with passed := true }
    if n = 40 then .next (s.laneTrained n) else .next (s.sendTs n)

/-- Lanes `ls` of port `q` leave L0 to retrain, by one LWIDTH (R417, R425). -/
def State.lanesDepart (s : State) (q : Nat) (ls : List Nat) : State :=
  (ls.foldl (fun s n =>
    let s := (s.count (Reg.LN_LANE_RETRAINS n) 1).raise .degraded Reg.LN_EVENT Fld.LN_EVENT_LANE_OUT 0 (unitLane n)
    s.enterTrain n) s).masksOut q ls

/-- ERRORED_CHARACTER (R403, R411, R423, R424, R428): an errored character on lane `n`. In the dwell, which is the whole
of a step on the management lane, it fails the step; before and after, the TS sets counted are no longer consecutive.
In L0 it counts. The proof of a STANDBY lane starts anew, which its completion reports. -/
def execErroredCharacter (n : Fin 41) (s : State) : Host.Outcome State Fault Refusal :=
  let st := s.laneSt n
  let x := s.lane n
  if st = 4 then .next (s.count (Reg.LN_LANE_ERRS n) 1)
  else if st ≠ 2 then .next s
  else if x.passed then .next (s.onLane n fun x => { x with ts2 := 0 })
  else if 64 ≤ x.ts1 ∨ n.val = 40 then .next (s.stepFails n)
  else .next (s.onLane n fun x => { x with ts1 := 0 })

/-- LANE_ERROR_LIMIT (R417, R425): lane `n` has had more than ERR_LIMIT errored characters within 1 ms, and so have the
lanes `also` of its port in the same window. -/
def execLaneErrorLimit (n : Fin 41) (also : Byte) (s : State) : Host.Outcome State Fault Refusal :=
  let q := lanePort n
  let ls := (lanesOf q).filter fun i => (i == n.val || bit also.toNat (laneIn i)) && s.laneSt i == 4
  if ls = [] then .next s else .next (s.lanesDepart q ls)

/-- CDR_LOCK_LOSS (R417). -/
def execCdrLockLoss (n : Fin 41) (s : State) : Host.Outcome State Fault Refusal :=
  if s.laneSt n = 4 then .next (s.lanesDepart (lanePort n) [n.val]) else .next s

/-- LANE_RETRY_TIMER (R422): RETRY_S since lane `n` entered FAILED. -/
def execLaneRetryTimer (n : Fin 41) (s : State) : Host.Outcome State Fault Refusal :=
  if s.laneRaw n = 7 ∧ s.flag (Reg.LN_LANE_STATUS n) Fld.LN_LANE_STATUS_HELD = false then .next (s.enterTrain n)
  else .next s

/-- STANDBY_PROOF_DONE (R423): STANDBY_MS without an errored character. -/
def execStandbyProofDone (n : Fin 41) (s : State) : Host.Outcome State Fault Refusal :=
  let q := lanePort n
  if s.laneSt n ≠ 3 then .next s
  else
    let s := s.onLane n fun x => { x with proven := true }
    if 5 ≤ q ∧ q < 11 then
      .next (s.onPort (q - 5) fun x => { x with trained := x.trained ||| 2 ^ laneIn n })
    else .next s

/-- A proven lane of a port in use joins at the port's boundary (R319, R369, R423, R424). -/
def State.laneAdmit (s : State) (n : Nat) : State :=
  let q := lanePort n
  if s.laneSt n ≠ 3 ∨ (s.lane n).proven = false then s
  else if 5 ≤ q ∧ q < 11 then s.widen (q - 5)
  else if q < 5 ∧ s.laneUse q ∧ s.narrowing q = false then
    (s.widthTo q (s.portMask q ||| 2 ^ laneIn n)).event Reg.LN_EVENT Fld.LN_EVENT_LANE_BACK
  else if q = 11 ∧ s.ln.mgtMask.isSome then (s.setMask 11 1).event Reg.LN_EVENT Fld.LN_EVENT_LANE_BACK
  else s

/-- LANE_ADMIT (R319, R369, R423, R424): the port's boundary comes, and a proven lane joins. -/
def execLaneAdmit (n : Fin 41) (s : State) : Host.Outcome State Fault Refusal := .next (s.laneAdmit n)

/-! ### Commands (R425, R432) -/

/-- Taking lane `n` out would leave its port, in use, below its least width (R425). -/
def State.laneNeeded (s : State) (n : Nat) : Bool :=
  let q := lanePort n
  s.laneUse q && s.inMask n && s.laneRaw n != 7 && decide (maskCount (s.portMask q) ≤ portMin q)

/-- LANE_RETRAIN (R415, R425, R432): CMD RETRAIN. -/
def execLaneRetrain (path : Path) (n : Fin 41) (s : State) : Host.Outcome State Fault Refusal :=
  if s.laneRaw n = 7 then
    .next ((s.setFld (Reg.LN_LANE_STATUS n) Fld.LN_LANE_STATUS_HELD 0).enterTrain n)
  else if s.laneSt n ≠ 4 then .next s
  else if s.laneNeeded n then .next (s.accFlag path (Reg.LN_LANE_CTRL n) .refused)
  else .next ((s.enterTrain n).maskOut n)

/-- LANE_OUT (R415, R425, R432): CMD OUT. -/
def execLaneOut (path : Path) (n : Fin 41) (s : State) : Host.Outcome State Fault Refusal :=
  if s.laneRaw n = 8 then .next s
  else if s.laneNeeded n then .next (s.accFlag path (Reg.LN_LANE_CTRL n) .refused)
  else .next ((s.laneFailed n 5).maskOut n)

/-! ### LS and LD (R418, R419) -/

/-- Active lanes of port `q`, all in L0. -/
def State.awake (s : State) (q : Nat) : Bool :=
  s.portMask q != 0 && (lanesOf q).all fun n => !s.inMask n || s.laneRaw n == 3

/-- What came on port `q` while it asked for LS or LD, or slept, takes its place behind what waits there, and goes out where
the port carries frames (R418). -/
def State.unpark (s : State) (q : Nat) : State :=
  if q = 0 then
    let s := s.onIng fun g => { g with upQueue := g.upQueue ++ g.upParked, upParked := [] }
    s.ingPump s.ing.upQueue.length
  else if q < 5 then
    (s.onFport (q - 1) fun x => { x with queue := x.queue ++ x.parked, parked := [] }).pumpAll (q - 1)
  else if q < 11 then s.headUnpark (q - 5)
  else s

/-- The request of port `q` has ended: the port sends new frames again, where it is awake. -/
def State.endReq (s : State) (q : Nat) : State := (s.dropReq q).unpark q

/-- Port `q` asks for LS or LD (R418). A lane whose admission is due joins first (R425). -/
def State.askPwr (s : State) (q kind : Nat) (alone : Bool) : State :=
  if s.awake q then
    let s := if q < 5 then (lanesOf q).foldl (fun s n => s.laneAdmit n) s else s
    let s := s.dropReq q
    ({ s with ln := { s.ln with pwr := ⟨q, kind, false, alone, false⟩ :: s.ln.pwr } } : State).pwrCheck q
  else s

/-- FAB_LWIDTH (R317, R369, R417): LWIDTH sets with mask `m` come in on fabric port `p`, or with 4 on the ingest port.
They answer this side's own, and frames go on; else the mask is taken and LWIDTH sent back. A lane joins only where
it is trained and proven here too. -/
def execFabLwidth (p : Fin 5) (m : Byte) (s : State) : Host.Outcome State Fault Refusal :=
  let q := if p.val = 4 then 0 else p.val + 1
  let old := s.portMask q
  let proven := (lanesOf q).foldl (fun a n => if s.laneRaw n = 3 ∧ (s.lane n).proven then a ||| 2 ^ laneIn n else a) 0
  let new := m.toNat &&& (old ||| proven)
  if ¬ s.laneUse q ∨ new = 0 then .next s
  else if s.narrowing q then .next (((((s.setMask q (old &&& new)).setNarrow q false).carry q).maskCheck q).pwrCheck q)
  else if m.toNat = old then .next s
  else
    let s := (s.setMask q new).sendWidth q new
    let s := s.degrade q old new
    if new &&& old ≠ new then .next (s.event Reg.LN_EVENT Fld.LN_EVENT_LANE_BACK) else .next s

/-- The lanes of port `q` beside its mask resume training (R418). -/
def State.resumeTrain (s : State) (q : Nat) : State :=
  (lanesOf q).foldl (fun s n => if s.laneRaw n = 6 ∧ ¬ s.inMask n then s.enterTrain n else s) s

/-- Port `q` is back in L0: its frames go out. -/
def State.portAwake (s : State) (q : Nat) : State :=
  let s := s.maskCheck q
  if s.awake q then
    let s := (s.fill q).resumeTrain q
    if q = 0 then (s.carry 0).unpark 0
    else if q < 5 then ((s.fabTrained (q - 1)).carry q).unpark q
    else if q < 11 then (s.toEnumCheck (q - 5)).unpark q
    else s
  else s

/-- Port `q` starts to leave LS or LD (R419, R420): from LS it is in L0 within 1 µs; from LD the WAKE pattern goes
out where this side asks, and each lane locks. -/
def State.wakePort (s : State) (q : Nat) (ask : Bool) : State :=
  let s := (lanesOf q).foldl (fun s n =>
    if s.inMask n ∧ s.laneRaw n = 5 then s.setLane n 3
    else if s.inMask n ∧ s.laneRaw n = 6 ∧ (s.lane n).exiting = false then
      let s := s.onLane n fun x => { x with exiting := true }
      if ask then s.emit (.wake n) else s
    else s) s
  s.portAwake q

/-- Port `q` enters LS or LD (R418): its other lanes that are not failed or unused go to LD. Energy on the way into LD ends
it at once (R425). -/
def State.enterPwr (s : State) (q kind : Nat) : State :=
  let back := decide (kind = 2) && (s.pwrReq q).any fun r => r.energy
  let s := (lanesOf q).foldl (fun s n =>
    if s.laneRaw n = 0 ∨ 7 ≤ s.laneRaw n then s
    else s.setLane n (if s.inMask n then 4 + kind else 6)) s
  let s := s.endReq q
  if back then s.wakePort q false else s

/-- A request by LN_LANE_CTRL.PWR for the port of lane `n`; a head port in use by a swath refuses (R418). The management lane
has none of the sets of R404 by which a partner would agree (R424): its port's request is refused, at once for want of a
partner to wait for (DEDUCED, log entry 64). -/
def State.cmdPwr (s : State) (path : Path) (n kind : Nat) : State :=
  let q := lanePort n
  if q = 11 then if s.awake 11 then s.event Reg.LN_EVENT Fld.LN_EVENT_PWR_REFUSED else s
  else if 5 ≤ q ∧ (s.gy.swaths.any fun w => w.ports.contains (q - 5)) then
    s.accFlag path (Reg.LN_LANE_CTRL n) .refused
  else s.askPwr q kind false

/-- A LACK set on fabric port `p` (R373): frames up to `lseq` are acknowledged; with NAK the rest is sent again.
A port that waits for quiet before LS or LD may have reached it (R418). -/
def State.lackFab (s : State) (p lseq : Nat) (nak : Bool) : State :=
  if s.fpState p < 2 then s
  else
    let x := s.fport p
    let s := if x.retry.any fun f => f.1 == lseq then
        s.onFport p fun x => { x with
          retry := (x.retry.dropWhile fun f => f.1 != lseq).drop 1
          resends := 0 }
      else s
    let s := if nak then s.fabResend p else s
    (s.pumpAll p).pwrCheck (p + 1)

/-- LANE_PWR_LS (R418, R432): PWR 1. -/
def execLanePwrLs (path : Path) (n : Fin 41) (s : State) : Host.Outcome State Fault Refusal :=
  .next (s.cmdPwr path n 1)

/-- LANE_PWR_LD (R418, R432): PWR 2. -/
def execLanePwrLd (path : Path) (n : Fin 41) (s : State) : Host.Outcome State Fault Refusal :=
  .next (s.cmdPwr path n 2)

/-- LANE_PWR_EXIT (R419, R432): PWR 3. -/
def execLanePwrExit (n : Fin 41) (s : State) : Host.Outcome State Fault Refusal :=
  .next (s.wakePort (lanePort n) true)

/-- EI sets of `kind` come in on port `q` (R418, R425): the answer to this side's request, or the partner's own
request, which is answered. Where LS and LD cross, both enter LS. -/
def State.eiIn (s : State) (q kind : Nat) : State :=
  if ¬ s.awake q then s
  else match s.pwrReq q with
    | some r => if r.sent then s.enterPwr q (min r.kind kind) else (s.sendEi q kind).enterPwr q kind
    | none => (s.sendEi q kind).enterPwr q kind

/-- EI_LS_RECEIVE (R418). -/
def execEiLsReceive (q : Fin 11) (s : State) : Host.Outcome State Fault Refusal := .next (s.eiIn q 1)

/-- EI_LD_RECEIVE (R418). -/
def execEiLdReceive (q : Fin 11) (s : State) : Host.Outcome State Fault Refusal := .next (s.eiIn q 2)

/-- PWR_HANDSHAKE_TIMEOUT (R418, R599, R605, R610): no answer within 10 µs. A port that a power step puts to LD
goes alone; any other stays in L0. -/
def execPwrHandshakeTimeout (q : Fin 11) (s : State) : Host.Outcome State Fault Refusal :=
  match s.pwrReq q with
  | some r =>
    if r.sent then
      let s := s.event Reg.LN_EVENT Fld.LN_EVENT_PWR_REFUSED
      if r.alone then .next (s.enterPwr q r.kind) else .next (s.endReq q)
    else .next s
  | none => .next s

/-- LD_EXIT_LOCK (R419): PLL and symbol lock of lane `n` on the kept step. After DEEP the port takes the lane as one
that has trained (R606). -/
def execLdExitLock (n : Fin 41) (s : State) : Host.Outcome State Fault Refusal :=
  if s.laneRaw n = 6 ∧ (s.lane n).exiting then
    let known := s.inMask n
    let s := (s.setLane n 3).onLane n fun x => { x with exiting := false }
    .next (if known then s.portAwake (lanePort n) else s.laneTrained n)
  else .next s

/-- LD_EXIT_TIMEOUT (R415, R419): no symbol lock within 20 µs. -/
def execLdExitTimeout (n : Fin 41) (s : State) : Host.Outcome State Fault Refusal :=
  if s.laneRaw n = 6 ∧ (s.lane n).exiting then
    .next (((s.enterTrain n).maskOut n).portAwake (lanePort n))
  else .next s

/-- STRAP_CHANGE (R408, R425): the BOARD_ID straps read `v`. After the latch that is flagged and nothing else. -/
def execStrapChange (v : Fin 16) (s : State) : Host.Outcome State Fault Refusal :=
  let old := s.fld Reg.LN_STATUS Fld.LN_STATUS_STRAPS
  let s := s.setFld Reg.LN_STATUS Fld.LN_STATUS_STRAPS v.val
  if s.regN (Reg.CFG_MILESTONE 0) ≠ 0 ∧ old ≠ v.val then .next (s.event Reg.LN_EVENT Fld.LN_EVENT_STRAP_CHANGE)
  else .next s

end Sys2Proof.Machine
end

