-- ==== Sys2Proof/Machine/Ingest.lean ====
section
/-! DEFINITION. The ingest link, its channels, and layout from the fabric (R386, R395, R396, R522 to R538). -/

namespace Sys2Proof.Machine

open Sys2Proof.Bits

/-! ### Violations of fabric peers (R395, R396) -/

/-- A grant entry allows node `n` an access of `len` bytes at `a`: `layout` for ING processing, else WRITE or READ;
`wr` for a write (R395). -/
def State.granted (s : State) (n a len : Nat) (layout wr : Bool) : Bool :=
  (List.range 64).any fun g =>
    let c := Reg.FAB_GRANT_CTL g
    s.flag c Fld.FAB_GRANT_CTL_EN && (s.flag c Fld.FAB_GRANT_CTL_ANY || s.fld c Fld.FAB_GRANT_CTL_NODE == n) &&
      (if layout then s.flag c Fld.FAB_GRANT_CTL_LAYOUT else s.flag c Fld.FAB_GRANT_CTL_BULK) &&
      (if wr then s.flag c Fld.FAB_GRANT_CTL_WR else s.flag c Fld.FAB_GRANT_CTL_RD) &&
      decide (s.pair (Reg.FAB_GRANT_BASE_LO g) / 4096 * 4096 ≤ a ∧
        a + len ≤ min (s.pair (Reg.FAB_GRANT_LIMIT_LO g) / 4096 * 4096) dramEnd)

/-- A violation by node `n` (R396): it is frozen here and told so. `cls` is the class of its frame. -/
def State.fabViolation (s : State) (n cls a : Nat) (wr : Bool) : State :=
  let r := Reg.FAB_FROZEN (n / 32)
  let s := (s.setRegN r (s.regN r ||| 2 ^ (n % 32))).violNow n
  let s := ((s.count Reg.ACC_VIOLATIONS 1).setPair Reg.ACC_VIOL_ADDR_LO a).setRegN Reg.ACC_VIOL_INFO
    (n % 1024 + 2048 * b2n wr + 65536 * cls)
  let s := s.raiseInfo .contained Reg.FAB_EVENT Fld.FAB_EVENT_FREEZE 0 unitFabric
    (a % 2 ^ 48 + 2 ^ 48 * (n % 1024) + 2 ^ 58 * b2n wr)
  s.fabTo 0x1A n 0 (toLE 2 n ++ [0, 0])

/-! ### The link (R371 to R373, R522 to R526) -/

/-- Channel `c` beside its registers. -/
def State.chan (s : State) (c : Nat) : Channel := (s.ing.chans[c]?).getD ⟨none, false, 0, [], []⟩

/-- The state with channel `c` changed by `f`. -/
def State.onChan (s : State) (c : Nat) (f : Channel → Channel) : State :=
  match s.ing.chans[c]? with
  | some x => s.onIng fun g => { g with chans := g.chans.set c (f x) }
  | none => s

/-- ING_CH_STATUS.STATE of channel `c`: 0 IDLE, 1 PENDING, 2 RUNNING, 3 PARKED, 4 HALTED, 5 FROZEN (R545). -/
def State.chSt (s : State) (c : Nat) : Nat := s.fld (Reg.ING_CH_STATUS c) Fld.ING_CH_STATUS_STATE

/-- Channel `c` takes state `st`. -/
def State.setCh (s : State) (c st : Nat) : State := s.setFld (Reg.ING_CH_STATUS c) Fld.ING_CH_STATUS_STATE st

/-- The RUNNING channel. -/
def State.runCh (s : State) : Option Nat := (List.range 8).find? fun c => s.chSt c == 2

/-- ING_STATUS shows the RUNNING channel (R534, R545). -/
def State.showRun (s : State) : State :=
  match s.runCh with
  | some c => (s.setFld Reg.ING_STATUS Fld.ING_STATUS_RUN_CH c).setFld Reg.ING_STATUS Fld.ING_STATUS_RUN_VALID 1
  | none => s.setFld Reg.ING_STATUS Fld.ING_STATUS_RUN_VALID 0

/-- The ingest port no longer sends NOT_READY (R585). -/
def State.ingReady (s : State) : Bool := s.flag Reg.ING_STATUS Fld.ING_STATUS_READY

/-- An upstream frame: it goes out behind those that wait, or while the port asks for LS or LD waits apart (R418). -/
def State.ingSend (s : State) (ty ch arg : Nat) (pay : List Byte) : State :=
  if s.asking 0 then s.onIng fun g => { g with upParked := g.upParked ++ [(ty, ch, arg, pay)] }
  else
    let s := s.onIng fun g => { g with upQueue := g.upQueue ++ [(ty, ch, arg, pay)] }
    s.ingPump s.ing.upQueue.length

/-- REC_DATA goes up as far as its credits of class 0x20 allow (R564). -/
def State.recPump (s : State) : Nat → State
  | 0 => s
  | n + 1 =>
    match s.ing.upWait with
    | [] => s
    | (arg, pay) :: rest =>
      let c := divUp (20 + pay.length) 64
      if (s.ing.upTotal + 65536 - s.ing.upSpent) % 65536 < c then s
      else
        let s := s.ingSend 0x83 0xFF arg pay
        (s.onIng fun g => { g with upWait := rest, upSpent := (g.upSpent + c) % 65536 }).recPump n

/-- REC_DATA with STATUS `st` of node `node` (R564): `len` bytes from stream offset `ofs`, with their data or
without. -/
def State.recData (s : State) (st node ofs len : Nat) (data : List Byte) : State :=
  let pay := toLE 1 st ++ [0] ++ toLE 2 node ++ toLE 4 len ++ data
  let s := s.onIng fun g => { g with upWait := g.upWait ++ [(ofs, pay)] }
  s.recPump s.ing.upWait.length

/-- This module takes part in ingest only as a member: it sends no CH_EVENT and no STATUS (R538). -/
def State.ingMember (s : State) : Bool := !s.fab.rx.isEmpty && !s.flag Reg.FAB_CFG Fld.FAB_CFG_ING_FWD

/-- CH_EVENT (R525): KIND 1 DONE, 2 PARKED, 3 HALTED, 4 FROZEN. -/
def State.chEvent (s : State) (c kind addr bytes crc : Nat) : State :=
  if s.ingMember then s
  else
    let r := Reg.ING_CH_STATUS c
    s.ingSend 0x81 c addr (toLE 1 kind ++ toLE 1 (s.fld r Fld.ING_CH_STATUS_CAUSE) ++
      toLE 2 (s.fld r Fld.ING_CH_STATUS_TAG) ++ toLE 4 bytes ++ toLE 8 crc)

/-- Credits that frames carrying `n` bytes of DATA take (R526). -/
def dataCredits (n : Nat) : Nat := n / 1984 * 32 + if n % 1984 = 0 then 0 else divUp (20 + n % 1984) 64

/-- The parser takes no bytes (R84, R126). -/
def State.parserStalled (s : State) : Bool :=
  s.parser.lpStall || s.parser.headsWait || decide (2 ≤ s.fld Reg.PWR_STATUS Fld.PWR_STATUS_CUR)

/-- Channel `c` waits for its region (R531). -/
def State.initWait (s : State) (c : Nat) : Bool := s.flag (Reg.ING_CH_STATUS c) Fld.ING_CH_STATUS_INIT_WAIT

/-- Channel `c` can take bytes of the descriptor it executes: how many it still expects (R526). -/
def State.chRoom (s : State) (c : Nat) : Nat :=
  match (s.chan c).desc with
  | some d =>
    if s.chSt c ≠ 2 ∨ s.initWait c ∨ (bit d.flags 0 ∧ s.parserStalled) then 0 else d.len - (s.chan c).taken
  | none => 0

/-- This module passes on what its ingest port accepts (R386); in ISOLATED it takes no part in that (R379). -/
def State.forwards (s : State) : Bool := s.flag Reg.FAB_CFG Fld.FAB_CFG_ING_FWD && s.fabState != 4

/-- An entry may return ingest credits: the replay ring has room, and every tree port on which its frames leave has
LAYOUT credit (R386). -/
def State.replayRoom (s : State) : Bool :=
  !s.forwards ||
    (s.replayFits && (s.treePorts s.ingGroup 4).all fun p => s.layoutCredit p)

/-- A CREDIT set of class `k` goes up the ingest port. -/
def State.ingCredit (s : State) (k : Nat) : State := s.setTime 0 (setCredit k (Kv.getD s.ing.granted k 0))

/-- DATA credits of channel `c` are granted as far as its buffer and its descriptor allow (R526). -/
def State.grantData (s : State) (c : Nat) : State :=
  let k := 16 + c
  let t := Kv.getD s.ing.rxTotal k 0 + min 448 (dataCredits (s.chRoom c))
  if ¬ s.ingReady ∨ ¬ s.replayRoom ∨ s.chRoom c = 0 ∨ t ≤ Kv.getD s.ing.granted k 0 then s
  else (s.onIng fun g => { g with granted := Kv.set g.granted k t }).ingCredit k

/-- Credits after any change of the channels. -/
def State.grantAll (s : State) : State := (List.range 8).foldl (fun s c => s.grantData c) s

/-- The credits of a CONTROL frame return (R526). -/
def State.grantControl (s : State) : State :=
  if s.replayRoom then
    (s.onIng fun g => { g with granted := Kv.set g.granted 0 (Kv.getD g.rxTotal 0 0) }).ingCredit 0
  else s

/-- An entry's ring or tree ports have room again: the credits held back return (R386). -/
def State.entryGrants (s : State) : State :=
  if s.ingReady ∧ s.forwards ∧ s.replayRoom then
    let s := if Kv.getD s.ing.granted 0 0 = Kv.getD s.ing.rxTotal 0 0 then s else s.grantControl
    s.grantAll
  else s

/-- MC_ACK at the entry. -/
def State.takeMcAck (s : State) (f : FabFrame) : State :=
  if rd f.pay 0 1 ≠ s.ingGroup then s
  else
    ({ s with fab := { s.fab with acks := Kv.set s.fab.acks f.src (rd f.pay 4 4) } } : State).replayTrim.entryGrants

/-- MC_ACK_FRAME (R386). -/
def execMcAckFrame (p : Fin 5) (fr : List Byte) (s : State) : Host.Outcome State Fault Refusal :=
  .next (s.fabRx p fr 0x17 State.takeMcAck)

/-- A LACK goes up (R371): the last LSEQ in order, and NAK. -/
def State.ingLack (s : State) (nak : Bool) : State :=
  s.setTime 0 (setLack ((s.ing.rxNext + 65535) % 65536) nak)

/-- LEN that a type admits (R525). -/
def ingLenOk (ty n : Nat) : Bool :=
  match ty with
  | 1 => decide (64 ≤ n ∧ n ≤ 1984 ∧ n % 64 = 0)
  | 2 => decide (8 ≤ n ∧ n ≤ 1984 ∧ n % 8 = 0)
  | 4 => n == 4
  | 3 => n == 0
  | 5 => n == 0
  | 6 => n == 8
  | _ => false

/-- CH, ARG and OP that a type admits (R525). -/
def ingFieldsOk (fr : List Byte) : Bool :=
  let ch := rd fr 1 1
  match rd fr 0 1 with
  | 1 => decide (ch < 8)
  | 2 => rd fr 8 8 % 8 == 0
  | 3 => decide (ch < 8)
  | 4 => decide (ch < 8) && decide (1 ≤ rd fr 16 1 ∧ rd fr 16 1 ≤ 4) && rd fr 17 3 == 0
  | 6 =>
    let n := rd fr 20 4
    rd fr 8 8 % 8 == 0 && decide (1 ≤ rd fr 16 1 ∧ rd fr 16 1 ≤ 3) && rd fr 17 1 == 0 &&
      (rd fr 16 1 != 1 || decide (8 ≤ n ∧ n ≤ 16777216 ∧ n % 8 = 0))
  | _ => true

/-- The bytes from header to CRC make a good frame (R524). -/
def ingGood (fr : List Byte) : Bool :=
  let n := rd fr 2 2
  decide (fr.length = 20 + n) && ingLenOk (rd fr 0 1) n && rd fr 6 2 == 0 && ingFieldsOk fr &&
    Crc.crc32c (fr.take (fr.length - 4)) == rd fr (fr.length - 4) 4

/-- Frame `fr` comes in on the ingest port: link checks, then `k` (R373, R407, R524). Without a lane the port takes nothing
(R417, R421). -/
def State.ingRx (s : State) (fr : List Byte) (k : State → State) : State :=
  if ¬ s.ingReady then s.nrDiscard 0 8
  else if s.portMask 0 = 0 then s
  else if ¬ ingGood fr ∨ rd fr 4 2 ≠ s.ing.rxNext then s.ingLack true
  else
    let cls := if rd fr 0 1 = 1 then 16 + rd fr 1 1 else 0
    let s := s.onIng fun g => { g with
      rxNext := (g.rxNext + 1) % 65536
      rxTotal := Kv.set g.rxTotal cls (Kv.getD g.rxTotal cls 0 + divUp fr.length 64) }
    let s := k (s.ingLack false)
    if cls = 0 then s.grantControl else s.grantAll

/-- Every active lane of the ingest port retrains (R415, R522). -/
def State.retrainIng (s : State) : State :=
  let ls := (lanesOf 0).filter fun n => s.laneSt n == 4
  (ls.foldl (fun s n => s.enterTrain n) s).masksOut 0 ls

/-- Everything not acknowledged goes up again (R373); after 8 resends in a row the lanes retrain instead of the
port going DOWN (R522). -/
def State.ingResend (s : State) : State :=
  if s.ing.retry = [] ∨ s.ing.narrow ∨ s.portMask 0 = 0 then s
  else if 8 ≤ s.ing.resends then
    (s.onIng fun g => { g with resends := 0 }).retrainIng
  else
    (s.ing.retry.foldl (fun s f => s.sendOn 0 f.2) s).onIng fun g => { g with resends := g.resends + 1 }

/-- CREDIT_SET (R372, R564): the latest total returned for class `c` on fabric port `p`, or with 4 on the ingest port,
whose only upstream class is 0x20. -/
def execCreditSet (p : Fin 5) (c : Byte) (total : BitVec 16) (s : State) : Host.Outcome State Fault Refusal :=
  if p.val = 4 then
    if c.toNat ≠ 0x20 ∨ ¬ s.ingReady then .next s
    else
      let s := s.onIng fun g => { g with upTotal := total.toNat }
      .next (s.recPump s.ing.upWait.length)
  else if s.fpState p < 2 ∨ 5 ≤ c.toNat then .next s
  else
    .next ((s.onFport p fun x => { x with returned := Kv.set x.returned c.toNat total.toNat }).pumpAll p).entryGrants

/-- LACK_SET (R373): frames up to `lseq` are acknowledged on fabric port `p`, or with 4 on the ingest port. -/
def execLackSet (p : Fin 5) (lseq : BitVec 16) (nak : Bool) (s : State) : Host.Outcome State Fault Refusal :=
  if p.val < 4 then .next (s.lackFab p lseq.toNat nak)
  else
    let s := if s.ing.retry.any fun f => f.1 == lseq.toNat then
        s.onIng fun g => { g with
          retry := (g.retry.dropWhile fun f => f.1 != lseq.toNat).drop 1
          resends := 0 }
      else s
    let s := if nak then s.ingResend else s
    .next ((s.ingPump s.ing.upQueue.length).pwrCheck 0)

/-- LINK_RESEND_TIMEOUT (R373, R522): 10 µs have passed without acknowledgement. -/
def execLinkResendTimeout (p : Fin 5) (s : State) : Host.Outcome State Fault Refusal :=
  if p.val < 4 then .next (s.resendFab p) else .next s.ingResend

/-- LINK_SILENCE_TIMEOUT (R373, R522): 100 µs have passed with nothing received. -/
def execLinkSilenceTimeout (p : Fin 5) (s : State) : Host.Outcome State Fault Refusal :=
  if p.val < 4 then .next (s.silentFab p)
  else if s.asleep 0 8 ∨ ¬ s.ingReady then .next s
  else .next s.retrainIng

/-- LINK_KEEPALIVE (R371): 100 µs without LACK and CREDIT. -/
def execLinkKeepalive (p : Fin 5) (s : State) : Host.Outcome State Fault Refusal :=
  if p.val < 4 then .next (s.keepFab p)
  else if ¬ s.ingReady then .next s
  else
    let s := s.ingLack false
    .next ((0 :: (List.range 8).map (16 + ·)).foldl (fun s k => s.ingCredit k) s.grantControl.grantAll)

/-! ### Descriptors and channels (R528 to R535) -/

/-- ING_DESC_BASE. -/
def State.descBase (s : State) : Nat := s.pair Reg.ING_DESC_BASE_LO

/-- Bytes of the descriptor area: 1 to 64 MiB (R545). -/
def State.descSize (s : State) : Nat := min (max (s.fld Reg.ING_CFG Fld.ING_CFG_DESC_MIB) 1) 64 * 2 ^ 20

/-- `[a, a + n)` lies in the descriptor area. -/
def State.inDesc (s : State) (a n : Nat) : Bool := s.descBase ≤ a && a + n ≤ s.descBase + s.descSize

/-- Channel `c` halts with `cause` (R530, R532): FAIL_ADDR and DIR are latched. -/
def State.chHalt (s : State) (c cause addr : Nat) (wr : Bool) : State :=
  let r := Reg.ING_CH_STATUS c
  let s := ((s.setCh c 4).setFld r Fld.ING_CH_STATUS_CAUSE cause).setFld r Fld.ING_CH_STATUS_DIR (b2n wr)
  let s := (s.setFld r Fld.ING_CH_STATUS_INIT_WAIT 0).setPair (Reg.ING_CH_FAIL_LO c) addr
  let s := s.onChan c fun x => { x with desc := none, fetch := false, taken := 0, snoop := [], snoopers := [] }
  let s := s.raiseInfo .contained Reg.ING_EVENT Fld.ING_EVENT_HALT cause (unitIng c) addr
  (s.chEvent c 3 (s.pair (Reg.ING_CH_CUR_LO c)) 0 0).showRun

/-- Channel `c` joins those PENDING in tick `now`: behind those of earlier ticks, and by number among those of its own
(R534). -/
def joinOrder (c now : Nat) (l : List (Nat × Nat)) : List (Nat × Nat) :=
  insertBefore (fun x y => y.2 == x.2 && decide (x.1 < y.1)) (c, now) l

/-- Channel `c` becomes PENDING (R534). -/
def State.chPend (s : State) (c addr : Nat) : State :=
  let now := s.clk.ticks
  ((s.setCh c 1).setPair (Reg.ING_CH_CUR_LO c) addr).onIng fun g => { g with
    order := joinOrder c now (g.order.filter fun e => e.1 != c) }

/-- `reread` of R535. An uncorrectable word is a bus error (R532). -/
def State.chReread (s : State) (c : Nat) : State :=
  let tail := s.pair (Reg.ING_CH_CUR_LO c)
  let (bad, bs, s) := s.fetch 0 (tail + 24) 8
  if bad then s.chHalt c 6 tail false
  else
    let nw := ofLE bs
    if nw % 2 = 0 then s.chPend c (nw / 32 * 32)
    else (s.count (Reg.ING_CH_SPURIOUS c) 1).event Reg.ING_EVENT Fld.ING_EVENT_SPURIOUS

/-- `on_doorbell` of R535. -/
def State.chDoorbell (s : State) (c : Nat) : State :=
  match s.chSt c with
  | 3 => s.chReread c
  | 1 => s.setFld (Reg.ING_CH_STATUS c) Fld.ING_CH_STATUS_DB_PEND 1
  | 2 => s.setFld (Reg.ING_CH_STATUS c) Fld.ING_CH_STATUS_DB_PEND 1
  | _ => s

/-- A command that no row of R533 admits is flagged. One that came by frame has no PATH code of R667 and is
flagged under firmware's (log entry 52). -/
def State.chRefuse (s : State) (path : Option Path) (c : Nat) : State :=
  s.accFlag (path.getD .firmware) (Reg.ING_CH_CTRL c) .refused

/-- START of channel `c` at head `a` (R533). -/
def State.chStart (s : State) (path : Option Path) (c a : Nat) : State :=
  if s.chSt c ≠ 0 then s.chRefuse path c
  else if a % 32 = 0 ∧ s.inDesc a 32 then s.chPend c a
  else (s.setPair (Reg.ING_CH_CUR_LO c) a).chHalt c 4 a false

/-- Internal master `i` is no longer frozen (R655): a channel enters HALTED, which sends its CH_EVENT (R533), and a core its
self-test. -/
def State.unfreeze (s : State) (i : Nat) : State :=
  if 24 ≤ i ∨ ¬ bit (s.regN Reg.ACC_FROZEN_INT) i ∨ s.violatesNow (1024 + i) then s
  else
    let s := (s.setRegN Reg.ACC_FROZEN_INT (s.regN Reg.ACC_FROZEN_INT - 2 ^ i)).event Reg.ACC_EVENT
      Fld.ACC_EVENT_UNFREEZE
    if i < 8 then
      let s := ((s.setCh i 4).setFld (Reg.ING_CH_STATUS i) Fld.ING_CH_STATUS_CAUSE 5).event Reg.ING_EVENT
        Fld.ING_EVENT_HALT
      s.chEvent i 3 (s.pair (Reg.ING_CH_CUR_LO i)) 0 0
    else if i < 12 then s
    else (s.setFld (Reg.ERR_CORE_STAT (i - 12)) Fld.ERR_CORE_STAT_STATE 2).setFld
      (Reg.ERR_CORE_STAT (i - 12)) Fld.ERR_CORE_STAT_ST_FAILS 0

/-- A command of this tick unfreezes channel `c` (R543; DEDUCED, log entry 72: what waits in the queue before the counter
runs on belongs to the same cycle). -/
def State.unfreezeNow (s : State) (c : Nat) : Bool :=
  (s.queued.flatMap s.cmdWords).any fun x =>
    x.1 == Reg.ACC_UNFREEZE && Fld.ACC_UNFREEZE_KIND.get x.2 != 0 && Fld.ACC_UNFREEZE_INDEX.get x.2 == c

/-- RESTART of channel `c` (R533): after an unfreeze of the same cycle (R543). -/
def State.chRestart (s : State) (path : Option Path) (c : Nat) : State :=
  let s := if s.chSt c = 5 ∧ s.unfreezeNow c then s.unfreeze c else s
  if s.chSt c ≠ 4 then s.chRefuse path c else s.chPend c (s.pair (Reg.ING_CH_CUR_LO c))

/-- A bus error of this tick that waits in the queue (R543). -/
def State.busErrNow (s : State) : Option (Bool × Nat) :=
  s.queued.findSome? fun c => match c with
    | .dmaBusError wr addr => some (wr, addr)
    | _ => none

/-- Channel `c` meets a bus error: of a descriptor read, or with `wr` of its write of line `addr` (R532). -/
def State.busErr (s : State) (c : Nat) (wr : Bool) (addr : Nat) : State :=
  s.chHalt c 6 (if wr then addr else s.pair (Reg.ING_CH_CUR_LO c)) wr

/-- ABORT of channel `c` (R533): after a bus error of the same cycle (R543). -/
def State.chAbort (s : State) (path : Option Path) (c : Nat) : State :=
  let s := match s.busErrNow with
    | some (wr, addr) => if s.chSt c = 2 then s.busErr c wr addr else s
    | none => s
  if s.chSt c = 0 ∨ s.chSt c = 5 then s.chRefuse path c
  else
    let s := (s.setCh c 0).setFld (Reg.ING_CH_STATUS c) Fld.ING_CH_STATUS_INIT_WAIT 0
    let s := s.onIng fun g => { g with order := g.order.filter fun e => e.1 != c }
    (s.onChan c fun x => { x with desc := none, fetch := false, taken := 0, snoop := [], snoopers := [] }).showRun

/-- A descriptor's fields (R529). -/
def descOf (b : List Byte) : Desc := ⟨rd b 0 8, rd b 8 8, rd b 16 4, rd b 20 2, rd b 22 2, rd b 24 8⟩

/-- Check of R530 that descriptor `d` of channel `c` fails first; 0 where none. -/
def State.descFault (s : State) (c : Nat) (d : Desc) : Nat :=
  let stream := bit d.flags 0
  if d.src % 64 ≠ 0 ∨ (¬ stream ∧ d.dst % 64 ≠ 0) ∨ d.len % 64 ≠ 0 ∨ (stream ∧ d.dst ≠ 0) then 1
  else if d.len = 0 then 2
  else if 4 ≤ d.flags ∨ d.next / 2 % 16 ≠ 0 then 3
  else if d.next % 2 = 0 ∧ ¬ s.inDesc (d.next / 32 * 32) 32 then 4
  else if ¬ stream ∧ inSpan (s.grantsOf c) d.dst d.len = false then 5
  else 0

/-- CHANNEL_RUN (R534): with no channel RUNNING the first PENDING one starts. -/
def State.chRun (s : State) : State :=
  match s.runCh, s.ing.order with
  | none, (c, _) :: cs =>
    let s := s.onIng fun g => { g with order := cs }
    ((s.setCh c 2).onChan c fun x => { x with fetch := true, desc := none, taken := 0, snoop := [], snoopers := [] }).showRun
  | _, _ => s

/-- The RUNNING channel fetches its descriptor and checks it (R530 to R533); one in a region not yet initialised it
waits for (R510). -/
def State.descFetch (s : State) : State :=
  match s.runCh with
  | none => s
  | some c =>
    let a := s.pair (Reg.ING_CH_CUR_LO c)
    if (s.chan c).fetch = false ∨ (a + 32 ≤ dramEnd ∧ ¬ s.inited (a + 31)) then s
    else
      let (bad, bs, s) := if dramEnd < a + 32 then (true, [], s) else s.fetch 0 a 32
      if bad then s.chHalt c 6 a false
      else
        let d := descOf bs
        let r := Reg.ING_CH_STATUS c
        let s := s.setFld r Fld.ING_CH_STATUS_TAG d.tag
        match s.descFault c d with
        | 0 =>
          let s := s.onChan c fun x => { x with desc := some d, fetch := false, taken := 0, snoop := [], snoopers := [] }
          let s := (s.setPair (Reg.ING_CH_SOFS_LO c) d.src).setFld r Fld.ING_CH_STATUS_CAUSE 0
          if ¬ bit d.flags 0 ∧ ¬ s.inited (d.dst + d.len - 1) then
            (s.setFld r Fld.ING_CH_STATUS_INIT_WAIT 1).event Reg.ING_EVENT Fld.ING_EVENT_INIT_WAIT
          else s.grantData c
        | 5 =>
          let s := (s.setFld r Fld.ING_CH_STATUS_CAUSE 5).setPair (Reg.ING_CH_FAIL_LO c) a
          let s := s.onChan c fun x => { x with desc := none, fetch := false, taken := 0, snoop := [], snoopers := [] }
          let s := (s.setFld r Fld.ING_CH_STATUS_DIR 0).violation c 0 d.dst
          ((s.freezeMaster c).chEvent c 4 a 0 0).showRun
        | k => s.chHalt c k a false

/-- `on_complete` of R535, with R531's count and event. -/
def State.descComplete (s : State) : State :=
  match s.runCh with
  | none => s
  | some c =>
    match (s.chan c).desc with
    | none => s
    | some d =>
      if (s.chan c).taken < d.len then s
      else
        let a := s.pair (Reg.ING_CH_CUR_LO c)
        let us := (s.chan c).snoopers
        let s := s.snoopBy us ⟨pointIngest, c, [], (s.chan c).snoop, 0, d.dst, d.tag, d.dst⟩
        let crc := match us with
          | x :: _ => s.pair (Reg.CRC_U_VAL_LO x.1)
          | [] => 0
        let s := s.count (Reg.ING_CH_DONE c) 1
        let s := if bit d.flags 1 then s.chEvent c 1 a d.len crc else s
        let s := s.onChan c fun x => { x with desc := none, taken := 0, snoop := [], snoopers := [] }
        if d.next % 2 = 0 then
          (s.setPair (Reg.ING_CH_CUR_LO c) (d.next / 32 * 32)).onChan c fun x => { x with fetch := true }
        else
          let s := (s.setCh c 3).event Reg.ING_EVENT Fld.ING_EVENT_PARK
          let s := if s.flag Reg.ING_CFG Fld.ING_CFG_PARK_EVT then s.chEvent c 2 a 0 0 else s
          let db := s.flag (Reg.ING_CH_STATUS c) Fld.ING_CH_STATUS_DB_PEND
          let s := if db then (s.setFld (Reg.ING_CH_STATUS c) Fld.ING_CH_STATUS_DB_PEND 0).chReread c else s
          s.showRun

/-! ### Frames (R525, R527, R528) -/

/-- R527 accepts the DATA frame. -/
def State.dataOk (s : State) (fr : List Byte) : Bool :=
  let c := rd fr 1 1
  match (s.chan c).desc with
  | some d =>
    s.chSt c == 2 && !s.initWait c && rd fr 8 8 == s.pair (Reg.ING_CH_SOFS_LO c) &&
      decide (rd fr 2 2 ≤ d.len - (s.chan c).taken)
  | none => false

/-- A DATA frame (R527, R531): `src` is the entry it comes from, where the fabric brought it (R395, R538). The
records that STREAM bytes spell come as record commands of their own. The credits of a discarded frame return, whatever
its channel does. -/
def State.takeData (s : State) (src : Option Nat) (fr : List Byte) : State :=
  let c := rd fr 1 1
  let n := rd fr 2 2
  let bs := (fr.drop 16).take n
  match s.dataOk fr, (s.chan c).desc with
  | true, some d =>
    let a := d.dst + (rd fr 8 8 - d.src)
    let mem := !bit d.flags 0
    let bad := match src with
      | some e => mem && !s.granted e a n true true
      | none => false
    if bad then s.fabViolation (src.getD 0) 2 a true
    else
      let us := if !mem then [] else if (s.chan c).taken = 0 then s.snoopersOf pointIngest c else (s.chan c).snoopers
      let s := if mem then s.dramWrite 0 a bs else s
      let s := s.setPair (Reg.ING_CH_SOFS_LO c) (rd fr 8 8 + n)
      s.onChan c fun x => { x with
        taken := x.taken + n
        snoop := if us.isEmpty then [] else x.snoop ++ bs
        snoopers := us }
  | _, _ =>
    let s := (s.count Reg.ING_DISCARDS 1).raiseInfo .contained Reg.ING_EVENT Fld.ING_EVENT_DISCARD 0 (unitIng c)
      (s.pair (Reg.ING_CH_FAIL_LO c))
    if src.isSome ∨ ¬ s.replayRoom then s
    else
      let k := 16 + c
      (s.onIng fun g => { g with granted := Kv.set g.granted k (Kv.getD g.granted k 0 + divUp (20 + n) 64) }).ingCredit k

/-- A DESC_WR frame (R528). No channel applies to it: its error has the unit of channel 0 (log entry 52). -/
def State.takeDescWr (s : State) (src : Option Nat) (fr : List Byte) : State :=
  let a := rd fr 8 8
  let n := rd fr 2 2
  let bad := match src with
    | some e => !s.granted e a n true true
    | none => false
  if ¬ s.inDesc a n then
    s.raiseInfo .contained Reg.ING_EVENT Fld.ING_EVENT_DESC_RANGE 0 (unitIng 0) a
  else if bad then s.fabViolation (src.getD 0) 2 a true
  else s.dramWrite 0 a ((fr.drop 16).take n)

/-- A CH_CMD frame (R525, R533): START, RESTART, ABORT, or ZLS_RESUME, which acts as EXP_ZLS_CTRL.RESUME. R525 gives no other OP an effect. -/
def State.takeChCmd (s : State) (fr : List Byte) : State :=
  let c := rd fr 1 1
  match rd fr 16 1 with
  | 1 => s.chStart none c (rd fr 8 8)
  | 2 => s.chRestart none c
  | 3 => s.chAbort none c
  | 4 => s.zlsCtrl (Fld.EXP_ZLS_CTRL_RESUME.put 1 0)
  | _ => s

/-- A frame of the ingest port, or of an entry, is processed by its type. -/
def State.takeIngest (s : State) (src : Option Nat) (fr : List Byte) : State :=
  match rd fr 0 1 with
  | 1 => s.takeData src fr
  | 2 => s.takeDescWr src fr
  | 3 => s.chDoorbell (rd fr 1 1)
  | 4 => s.takeChCmd fr
  | _ => s

/-- An entry passes an accepted frame on as ING, with LSEQ 0 (R386, R538). -/
def State.ingForward (s : State) (fr : List Byte) : State :=
  if s.forwards then
    let pay := fr.take 4 ++ [0, 0] ++ (fr.drop 6).take (10 + rd fr 2 2)
    let q := s.fab.mseq
    let s := (s.onFab fun g => { g with mseq := (q + 1) % 2 ^ 32 }).replayKeep q pay
    let s := s.fabCast 0x20 s.ingGroup q pay
    let s := if s.replayFits then s else s.event Reg.FAB_EVENT Fld.FAB_EVENT_REPLAY_FULL
    s.replayTrim
  else s

/-! ### Layout from the fabric (R386, R538) -/

/-- A member cannot yet take the DATA frame (R526, R538): its channel waits to run, has its descriptor to fetch or
to complete, waits for its region, or feeds a stalled parser. -/
def State.mustHold (s : State) (fr : List Byte) : Bool :=
  let c := rd fr 1 1
  rd fr 0 1 == 1 && (s.chSt c == 1 || (s.chSt c == 2 && (match (s.chan c).desc with
    | none => true
    | some d => s.initWait c || (bit d.flags 0 && s.parserStalled) || (s.chan c).taken == d.len)))

/-- Frames held are processed in order as far as they can be, and their LAYOUT credits return (R538). -/
def State.drainHeld (s : State) : Nat → State
  | 0 => s
  | n + 1 =>
    match s.ing.layoutHeld with
    | [] => s
    | (e, p, fr) :: rest =>
      if s.mustHold fr then s
      else
        let s := (s.onIng fun g => { g with layoutHeld := rest }).takeIngest (some e) fr
        let s := if p < 4 then s.returnCredit p 2 (divUp (20 + fr.length) 64) else s
        s.drainHeld n

/-- What follows any change of the channels: credits, and frames held. -/
def State.chSettle (s : State) : State := (s.drainHeld s.ing.layoutHeld.length).grantAll

/-- The DRAM destination of an ING frame is not initialised (R385, R538): that of a DESC_WR, or of DATA of a MEMORY
descriptor that waits for its region (R531). -/
def State.ingUninit (s : State) (fr : List Byte) : Bool :=
  match rd fr 0 1 with
  | 1 => s.chSt (rd fr 1 1) == 2 && s.initWait (rd fr 1 1)
  | 2 => s.inDesc (rd fr 8 8) (rd fr 2 2) && !(s.inited (rd fr 8 8) && s.inited (rd fr 8 8 + rd fr 2 2 - 1))
  | _ => false

/-- An ING frame delivered here (R386): processed when its MSEQ is the next, discarded when it is old, and NAKed
when it leaves a gap, at most once per 100 µs. -/
def State.takeIng (p : Nat) (s : State) (f : FabFrame) : State :=
  let g := if bit f.flags 0 then f.dst else 0
  let r := (s.fab.rx.find? fun r => r.src == f.src).getD ⟨f.src, g, 0, 0, none⟩
  let put := fun (s : State) (r : McRx) =>
    s.onFab fun b => { b with rx := (b.rx.filter fun x => x.src != r.src) ++ [r] }
  if f.arg = r.next then
    if s.ingUninit f.pay then (put s r).fabNak f 1
    else
      let r : McRx := { r with next := (r.next + 1) % 2 ^ 32, unacked := r.unacked + 1 }
      let s := put s r
      let s := if s.ing.layoutHeld.isEmpty && !s.mustHold f.pay then s.takeIngest (some f.src) f.pay
        else s.onIng fun b => { b with layoutHeld := b.layoutHeld ++ [(f.src, p, f.pay)] }
      if 256 ≤ r.unacked then s.mcAck r else s
  else if seqGe f.arg r.next then
    let ok := match r.nakAt with
      | some t => decide (t + 100000 ≤ s.clk.ticks)
      | none => true
    if ok then
      let now := s.clk.ticks
      let s := s.event Reg.FAB_EVENT Fld.FAB_EVENT_MC_GAP
      (put s { r with nakAt := some now }).fabTo 0x18 f.src 0 (toLE 1 r.group ++ [0, 0, 0] ++ toLE 4 r.next)
    else s
  else s

/-- ING_FRAME (R386, R538). -/
def execIngFrame (p : Fin 5) (fr : List Byte) (s : State) : Host.Outcome State Fault Refusal :=
  .next (s.fabRx p fr 0x20 (State.takeIng p.val))

/-! ### Commands -/

/-- DATA_FRAME (R527, R538): an entry forwards what it accepts. -/
def execDataFrame (fr : List Byte) (s : State) : Host.Outcome State Fault Refusal :=
  if rd fr 0 1 ≠ 1 then .next s
  else .next (s.ingRx fr fun s => if s.dataOk fr then (s.takeData none fr).ingForward fr else s.takeData none fr)

/-- DESC_WR_FRAME (R528, R538): one that is discarded is not forwarded. -/
def execDescWrFrame (fr : List Byte) (s : State) : Host.Outcome State Fault Refusal :=
  if rd fr 0 1 ≠ 2 then .next s
  else .next (s.ingRx fr fun s =>
    if s.inDesc (rd fr 8 8) (rd fr 2 2) then (s.takeDescWr none fr).ingForward fr else s.takeDescWr none fr)

/-- DOORBELL (R535): a frame, or DOORBELL of ING_CH_CTRL. -/
def execDoorbell (x : ChanBy) (s : State) : Host.Outcome State Fault Refusal :=
  match x with
  | .frame fr =>
    if rd fr 0 1 ≠ 3 then .next s
    else .next (s.ingRx fr fun s => (s.chDoorbell (rd fr 1 1)).ingForward fr)
  | .reg _ c => .next (s.chDoorbell c).chSettle

/-- A CH_CMD frame with OP `op` (R533). -/
def State.chFrame (s : State) (op : Nat) (fr : List Byte) : State :=
  if rd fr 0 1 ≠ 4 ∨ rd fr 16 1 ≠ op then s else s.ingRx fr fun s => (s.takeChCmd fr).ingForward fr

/-- CH_START (R533): by CH_CMD, or OP START of ING_CH_CTRL at ING_CH_HEAD. -/
def execChStart (x : ChanBy) (s : State) : Host.Outcome State Fault Refusal :=
  match x with
  | .frame fr => .next (s.chFrame 1 fr)
  | .reg path c => .next (s.chStart (some path) c (s.pair (Reg.ING_CH_HEAD_LO c))).chSettle

/-- CH_RESTART (R533). -/
def execChRestart (x : ChanBy) (s : State) : Host.Outcome State Fault Refusal :=
  match x with
  | .frame fr => .next (s.chFrame 2 fr)
  | .reg path c => .next (s.chRestart (some path) c).chSettle

/-- CH_ABORT (R533). -/
def execChAbort (x : ChanBy) (s : State) : Host.Outcome State Fault Refusal :=
  match x with
  | .frame fr => .next (s.chFrame 3 fr)
  | .reg path c => .next (s.chAbort (some path) c).chSettle

/-- ZLS_RESUME (R113, R525): a write of EXP_ZLS_CTRL, its RESUME bit taken as 1, or a CH_CMD frame. -/
def execZlsResume (x : ResumeBy) (s : State) : Host.Outcome State Fault Refusal :=
  match x with
  | .reg w => .next (s.zlsCtrl (Fld.EXP_ZLS_CTRL_RESUME.put 1 w))
  | .frame fr => .next (s.chFrame 4 fr)

/-- A channel's entry of STATUS (R525). -/
def State.chEntry (s : State) (c : Nat) : List Byte :=
  let r := Reg.ING_CH_STATUS c
  toLE 1 (s.chSt c) ++ toLE 1 (s.fld r Fld.ING_CH_STATUS_CAUSE) ++ toLE 2 (s.fld r Fld.ING_CH_STATUS_TAG) ++
    [0, 0, 0, 0] ++ toLE 8 (s.pair (Reg.ING_CH_SOFS_LO c))

/-- STATUS_REQ (R525). -/
def execStatusReq (fr : List Byte) (s : State) : Host.Outcome State Fault Refusal :=
  if rd fr 0 1 ≠ 5 then .next s
  else .next (s.ingRx fr fun s =>
    if s.ingMember then s
    else s.ingSend 0x82 0xFF 0 (toLE 1 (s.fld Reg.EXP_ZLS_STATUS Fld.EXP_ZLS_STATUS_STATE) ++
      toLE 1 (s.fld Reg.EXP_ZLS_STATUS Fld.EXP_ZLS_STATUS_CAUSE) ++ [0, 0] ++
      toLE 4 (s.regN Reg.EXP_ZLS_RESUME_SEQ) ++ (List.range 8).flatMap s.chEntry))

/-- ACC_UNFREEZE (R655): `w` is written over `path`. A violation in the cycle of the unfreeze leaves the node or master frozen
(R396). -/
def execAccUnfreeze (path : Path) (w : Word) (s : State) : Host.Outcome State Fault Refusal :=
  let i := Fld.ACC_UNFREEZE_INDEX.get w
  if Fld.ACC_UNFREEZE_KIND.get w = 0 then
    if path = .tunnel i then
      .next ((s.accFlag path Reg.ACC_UNFREEZE .self).event Reg.ACC_EVENT Fld.ACC_EVENT_UNFREEZE_REFUSED)
    else
      let r := Reg.FAB_FROZEN (i / 32)
      if bit (s.regN r) (i % 32) ∧ ¬ s.violatesNow i then
        .next ((s.setRegN r (s.regN r - 2 ^ (i % 32))).event Reg.ACC_EVENT Fld.ACC_EVENT_UNFREEZE)
      else .next s
  else .next (s.unfreeze i)

/-- CHANNEL_RUN (R534). -/
def execChannelRun (s : State) : Host.Outcome State Fault Refusal := .next s.chRun.chSettle

/-- DESC_FETCH (R516, R530, R531, R532): the word of row `row` of the descriptor caches reads as `ecc` says; an entry
found uncorrectable is fetched again, with the same outcome. -/
def execDescFetch (row : Nat) (ecc : Ecc) (s : State) : Host.Outcome State Fault Refusal :=
  .next (s.sramRead sramDescriptors row ecc).descFetch.chSettle

/-- DESC_COMPLETE (R531, R535). -/
def execDescComplete (s : State) : Host.Outcome State Fault Refusal := .next s.descComplete.chSettle

/-- DMA_BUS_ERROR (R532): the controllers answer a descriptor read, or with `wr` a channel write of line `addr`,
with an error. -/
def execDmaBusError (wr : Bool) (addr : Nat) (s : State) : Host.Outcome State Fault Refusal :=
  match s.runCh with
  | none => .next s
  | some c => .next (s.busErr c wr addr).chSettle

/-- The ingest port is ready once the region of the descriptor area is initialised (R585). -/
def State.ingOpen (s : State) : State :=
  if s.locked ∧ s.inited (s.descBase) ∧ ¬ s.ingReady then
    let s := s.setFld Reg.ING_STATUS Fld.ING_STATUS_READY 1
    let s := (if s.portMask 0 = 0 then s.setMask 0 (s.standby 0) else s).fill 0
    let s := s.onIng fun g => { g with granted := Kv.set g.granted 0 (Kv.getD g.rxTotal 0 0) }
    s.ingCredit 0
  else s

/-- Channels that wait for their region continue once it is initialised (R531). -/
def State.initWaitEnd (s : State) : State :=
  (List.range 8).foldl (fun s c =>
    match (s.chan c).desc with
    | some d =>
      if s.initWait c ∧ s.inited (d.dst + d.len - 1) then
        (s.setFld (Reg.ING_CH_STATUS c) Fld.ING_CH_STATUS_INIT_WAIT 0).grantData c
      else s
    | none => s) s

/-- The image copy in the firmware reserve (R582). DESIGN CHOICE, log entry 74: sections lie one behind the other in the
order of their reading, each on a 4 KiB boundary. -/
def imageCopy : Nat := 0xDF4400000

/-- Sections with the addresses of their copies from `a` onward. -/
def copyPlaces (a : Nat) : List (Sect × List Byte) → List (Nat × Sect × List Byte)
  | [] => []
  | e :: l => (a, e) :: copyPlaces (a + divUp e.2.length 4096 * 4096) l

/-- The image copy is written once the reserve is initialised (R510, R582). -/
def State.putCopy (s : State) : State :=
  if s.inited imageCopy then (copyPlaces imageCopy s.boot.copy).foldl (fun s e => s.store 8 e.1 e.2.2) s else s

/-- INIT_REGION_DONE (R509, R510, R531, R582, R585): the next 1 GiB region, or after the last the spare pool, is
written with zero data, `us` µs after VIN good. -/
def execInitRegionDone (us : Nat) (s : State) : Host.Outcome State Fault Refusal :=
  let r := s.initRegions
  if ¬ s.flag Reg.DC_STATUS Fld.DC_STATUS_ALL_TRAINED ∨ ¬ s.locked then .next s
  else if r < 56 then
    let s := s.setPair Reg.MI_INIT_MAP_LO (s.pair Reg.MI_INIT_MAP_LO ||| 2 ^ r)
    let s := s.clearMem (2 ^ 30 * r) (2 ^ 30)
    let s := (s.setFld Reg.MI_STATUS Fld.MI_STATUS_INIT_REGIONS (r + 1)).serveAll.initWaitEnd.mirrorDue
    let s := if r = 55 then s.putCopy.ingOpen else s
    .next s.chSettle
  else if s.flag Reg.MI_STATUS Fld.MI_STATUS_SPARE_INIT then .next s
  else .next ((s.setFld Reg.MI_STATUS Fld.MI_STATUS_SPARE_INIT 1).milestone 8 us)

/-! ### WRITE and READ of fabric peers (R384, R395) -/

/-- A response to `f`. -/
def State.fabReply (s : State) (f : FabFrame) (ty : Nat) (pay : List Byte) : State :=
  s.routeFrame ⟨ty, 0, f.src, s.fabSrc', s.fabTtl, f.flow, f.arg, pay⟩

/-- A WRITE (R385, R395): ADDR and data. -/
def State.takeWrite (s : State) (f : FabFrame) : State :=
  let a := rd f.pay 0 8
  let bs := f.pay.drop 8
  let ack := bit f.flags 2
  if bs.length = 0 ∨ bs.length % 8 ≠ 0 ∨ a % 8 ≠ 0 then s
  else if ¬ s.granted f.src a bs.length false true then s.fabViolation f.src 3 a true
  else if ¬ s.inited (a + bs.length - 1) then
    if ack then s.fabReply f 0x33 [1, 0, 0, 0] else s.fabNak f 1
  else
    let s := s.dramWrite 9 a bs
    if ack then s.fabReply f 0x33 [0, 0, 0, 0] else s

/-- WRITE_FRAME (R395). -/
def execWriteFrame (p : Fin 5) (fr : List Byte) (s : State) : Host.Outcome State Fault Refusal :=
  .next (s.fabRx p fr 0x30 State.takeWrite)

/-- A READ (R385, R395, R506). -/
def State.takeRead (s : State) (f : FabFrame) : State :=
  let a := rd f.pay 0 8
  let n := rd f.pay 8 4
  if f.pay.length ≠ 16 ∨ n = 0 ∨ n % 8 ≠ 0 ∨ 2040 < n ∨ a % 8 ≠ 0 then s
  else if ¬ s.granted f.src a n false false then s.fabViolation f.src 3 a false
  else if ¬ s.inited (a + n - 1) then s.fabReply f 0x32 [1, 0, 0, 0, 0, 0, 0, 0]
  else
    let (bad, bs, s) := s.fetch 9 a n
    let d := if bad then List.replicate n 0 else bs
    s.fabReply f 0x32 (toLE 8 (if bad then 2 else 0) ++ d)

/-- READ_FRAME (R395). -/
def execReadFrame (p : Fin 5) (fr : List Byte) (s : State) : Host.Outcome State Fault Refusal :=
  .next (s.fabRx p fr 0x31 State.takeRead)

/-- The answer of another module to a part of a READ goes up (R565). -/
def State.recArrived (s : State) (f : FabFrame) : State :=
  match s.ing.remote.find? fun r => r.1 == f.arg && r.2.1 == f.src with
  | none => s
  | some (t, node, ofs, len) =>
    let s := s.onIng fun g => { g with remote := g.remote.filter fun r => r.1 != t }
    s.recData (rd f.pay 0 1) node ofs len (f.pay.drop 8)

/-- A response `f` closes its flow, unless it says RETRY_LATER: then the request waits for its resend and its timer
starts again (R384, R385). A response for no open flow is discarded (R383). -/
def State.takeResponse (s : State) (f : FabFrame) : State :=
  let mine := fun (w : Flow) => w.id == f.flow && w.frame.arg == f.arg && w.frame.dst == f.src
  match (s.fab.ports.flatMap (·.flows)).find? mine with
  | none => s
  | some w =>
    if rd f.pay 0 1 = 1 then s.onFab fun g => { g with later := g.later ++ [w.frame] }
    else
      let s := s.onFab fun g => { g with
        ports := g.ports.map fun x => { x with flows := x.flows.filter fun w => !mine w } }
      (if f.ty = 0x32 then s.recArrived f else s).askAgain

/-- READ_RSP_FRAME (R384). -/
def execReadRspFrame (p : Fin 5) (fr : List Byte) (s : State) : Host.Outcome State Fault Refusal :=
  .next (s.fabRx p fr 0x32 State.takeResponse)

/-- WACK_FRAME (R384). -/
def execWackFrame (p : Fin 5) (fr : List Byte) (s : State) : Host.Outcome State Fault Refusal :=
  .next (s.fabRx p fr 0x33 State.takeResponse)

/-- FLOW_TIMEOUT (R384): flow `id` of port `p` has had no response within REQ_TO_MS. -/
def execFlowTimeout (p : Fin 4) (id : Fin 64) (s : State) : Host.Outcome State Fault Refusal :=
  match (s.fport p).flows.find? fun w => w.id == id.val with
  | none => .next s
  | some w =>
    if w.resent then
      let s := s.onFport p fun x => { x with flows := x.flows.filter fun w => w.id != id.val }
      let s := s.onIng fun g => { g with remote := g.remote.filter fun r => r.1 != w.frame.arg }
      .next ((s.count Reg.FAB_REQ_FAIL 1).raise .contained Reg.FAB_EVENT Fld.FAB_EVENT_REQ_FAIL 0 (unitFab p)).askAgain
    else
      let s := s.onFport p fun x => { x with
        flows := x.flows.map fun w => if w.id == id.val then { w with resent := true } else w }
      .next (s.routeFrame w.frame)

/-! ### Frames rejected on a link (R291, R373, R524) -/

/-- FRAME_CRC_ERROR (R291, R373, R375, R524): a frame with a bad CRC, an LSEQ gap or an inadmissible field comes in on
link `q`: 0 ingest, 1 to 4 fabric, 5 to 10 head ports. -/
def execFrameCrcError (q : Fin 11) (s : State) : Host.Outcome State Fault Refusal :=
  if q.val = 0 then .next (if s.ingReady then s.ingLack true else s.nrDiscard 0 8)
  else if q.val < 5 then
    let p := q.val - 1
    if ¬ s.locked then .next (s.nrDiscard (8 + 2 * p) 2)
    else if s.fpState p < 2 then .next s
    else .next (s.fabReject p)
  else if s.portState (q.val - 5) = 0 then .next s
  else .next (s.excNone (q.val - 5))

end Sys2Proof.Machine
end

