-- ==== Sys2Proof/Machine/RecPort.lean ====
section
/-! DEFINITION. The record as the layout server reads and releases it, its closing, and its verification (R558,
R561, R564 to R566). -/

namespace Sys2Proof.Machine

open Sys2Proof.Bits

/-! ### Release (R564) -/

/-- The release offset moves to `ofs` where that lies between it and the write offset; otherwise it stays (R564). -/
def State.recRelease (s : State) (ofs : Nat) : State :=
  if s.pair Reg.CMP_REC_RELEASE_LO ≤ ofs ∧ ofs ≤ s.pair Reg.CMP_WRITE_OFS_LO then
    (s.setPair Reg.CMP_REC_RELEASE_LO ofs).recFullCheck
  else s

/-- A write of CMP_REC_RELEASE_HI over `path` commits the pair under the rule of R564. -/
def State.releaseCommit (s : State) (path : Path) (w : Word) : State :=
  let lo := (s.stagedLo path Reg.CMP_REC_RELEASE_LO).toNat
  (s.unstage path Reg.CMP_REC_RELEASE_LO).recRelease (lo + 2 ^ 32 * w.toNat)

/-- REC_RELEASE_COMMIT (R567): CMP_REC_RELEASE_HI is written `w` over `path`. -/
def execRecReleaseCommit (path : Path) (w : Word) (s : State) : Host.Outcome State Fault Refusal :=
  .next (s.releaseCommit path w)

/-! ### Reads (R564) -/

/-- `n` held bytes from offset `o` are read for the ingest port and go up in one frame (R506, R564). -/
def State.recChunk (s : State) (node o n : Nat) : State :=
  if ¬ s.recReady o n then s.recData 1 node o n []
  else
    let (bad, bs, s) := s.recFetch 0 o n
    if bad then s.recData 2 node o n [] else s.recData 0 node o n bs

/-- `f` on successive parts of at most 1,976 bytes of the `n` bytes from `o`, `k` parts at most. -/
def State.inParts (s : State) (f : State → Nat → Nat → State) (o n : Nat) : Nat → State
  | 0 => s
  | k + 1 =>
    if n = 0 then s
    else
      let c := min n 1976
      (f s o c).inParts f (o + c) (n - c) k

/-- A READ of the record of this module (R564): parts released, held and beyond, in offset order. -/
def State.recReadHere (s : State) (node o n : Nat) : State :=
  let rel := s.pair Reg.CMP_REC_RELEASE_LO
  let wr := s.pair Reg.CMP_WRITE_OFS_LO
  let a := min n (rel - o)
  let b := min (n - a) (wr - (o + a))
  let s := if a = 0 then s else s.recData 3 node o a []
  let s := s.inParts (fun s o c => s.recChunk node o c) (o + a) b (b / 1976 + 1)
  if a + b = n then s else s.recData 4 node (o + a + b) (n - a - b) []

/-- A READ of the record of another module: fabric READs of its region (R565). -/
def State.recReadFar (s : State) (node o n : Nat) : State :=
  s.inParts (fun s o c => (s.recSpans o c).foldl (fun s x =>
    let k := (x.1 + s.recSize - s.recAddr o) % s.recSize
    let t := s.fab.askTag
    let s := s.onIng fun g => { g with remote := g.remote ++ [(t, node, o + k, x.2)] }
    s.fabRequest 0x31 node (toLE 8 x.1 ++ toLE 4 x.2 ++ [0, 0, 0, 0])) s) o n (n / 1976 + 1)

/-- A REC_REQ with OP `op` comes in on the ingest port (R564). -/
def State.recReq (s : State) (op : Nat) (fr : List Byte) (k : State → Nat → Nat → State) : State :=
  if rd fr 0 1 ≠ 6 ∨ rd fr 16 1 ≠ op then s
  else s.ingRx fr fun s => k s (rd fr 18 2) (rd fr 8 8)

/-- NODE of a REC_REQ names this module. -/
def State.recHere (s : State) (node : Nat) : Bool := node == s.node

/-- An entry carries requests for other modules (R565). -/
def State.isEntry (s : State) : Bool := s.flag Reg.FAB_CFG Fld.FAB_CFG_ING_FWD

/-- REC_REQ_READ (R564, R565). -/
def execRecReqRead (fr : List Byte) (s : State) : Host.Outcome State Fault Refusal :=
  .next (s.recReq 1 fr fun s node o =>
    if s.recHere node then s.recReadHere node o (rd fr 20 4)
    else if s.isEntry then s.recReadFar node o (rd fr 20 4) else s)

/-- The management request that moves another module's release offset (R565, R670, R671): SESSION, SEQ and TAG, which
no rule gives the entry, are free values. -/
def releaseFrame (session seq tag ofs : Nat) : List Byte :=
  let be := fun (n v : Nat) => (toLE n v).reverse
  [1, 1, 0, 0, 0, 2] ++ be 2 24 ++ be 8 session ++ be 8 seq ++ be 4 tag ++ be 4 0 ++
    [2, 0] ++ be 2 1 ++ be 4 Reg.CMP_REC_RELEASE_LO ++ be 4 ofs ++
    [2, 0] ++ be 2 1 ++ be 4 Reg.CMP_REC_RELEASE_HI ++ be 4 (ofs / 2 ^ 32)

/-- REC_REQ_RELEASE (R564, R565). -/
def execRecReqRelease (fr : List Byte) (s : State) : Host.Outcome State Fault Refusal :=
  .next (s.recReq 2 fr fun s node o =>
    if s.recHere node then s.recRelease o
    else if s.isEntry then
      let (a, s) := s.free
      let (b, s) := s.free
      let (c, s) := s.free
      s.fabRequest 0x40 node (releaseFrame a b c o)
    else s)

/-- REC_REQ_INDEX (R564): the index of this module, in two frames. -/
def execRecReqIndex (fr : List Byte) (s : State) : Host.Outcome State Fault Refusal :=
  .next (s.recReq 3 fr fun s node _ =>
    if s.recHere node then
      let b := s.tblBytes (recIndex 0) 2048
      (s.recData 0 node 0 1976 (b.take 1976)).recData 0 node 1976 72 (b.drop 1976)
    else s)

/-! ### Closing and verification (R558, R561) -/

/-- The open record whose layer ended first. -/
def firstEnded (rs : List LayerRec) : Option LayerRec :=
  rs.foldl (fun b r =>
    match r.endAt, b.bind (·.endAt) with
    | some t, some u => if t < u then some r else b
    | some _, none => some r
    | none, _ => b) none

/-- LAYER_END_WRITE (R558, R566): 1 ms has passed since the last swath of the layer whose record ended first. -/
def execLayerEndWrite (s : State) : Host.Outcome State Fault Refusal :=
  match firstEnded s.recs with
  | none => .next s
  | some r => .next (s.settleStop (s.endRecord r.layer))

/-- RECORD_VERIFY_DONE (R506, R510, R561): the oldest stored block is read back, decoded and compared; a block in a region
not yet initialised waits. -/
def execRecordVerifyDone (s : State) : Host.Outcome State Fault Refusal :=
  match s.blocks with
  | [] => .next s
  | b :: rest =>
    if ¬ s.recReady b.ofs 40 then .next s
    else
      let (badH, h, s) := s.recFetch 7 b.ofs 40
      let n := rd h 28 4
      if badH then .next (s.blockLost b)
      else
        let (bad, all, s) := s.recFetch 7 (b.ofs + 40) (divUp n 8 * 8)
        let stored := all.take n
        let data := if bit (rd h 1 1) 0 then some stored else Codec.decode stored (rd h 20 4) (rd h 24 4)
        let got := data.getD []
        let crc := rd h 32 4
        let s := s.snoop ⟨pointStored, 0, [], got, crc, s.recAddr b.ofs, rd h 4 4, s.recAddr b.ofs⟩
        if ¬ bad ∧ data.isSome = true ∧ Crc.crc32c got = crc then .next { s with blocks := rest }
        else .next (s.blockLost b)

end Sys2Proof.Machine
end

