-- ==== Sys2Proof/Machine/Angle.lean ====
section
/-! DEFINITION. Sines, and the angle and amplitude of an analogue source (R471, R473, R489). -/

namespace Sys2Proof.Machine

open Sys2Proof.Bits

/-- sin(π θ / 2^31) × 2^60 for θ in the first quadrant, by its series. -/
def sineQuad (th : Nat) : Int :=
  -- x = π θ / 2^31 in 2^60
  let x : Int := (th * 3622009729038561421 / 2 ^ 31 : Nat)
  let x2 := sar (x * x) 60
  let p := fun (acc : Int) (d : Nat) => 2 ^ 60 - sar (x2 * acc) 60 / d
  let acc := [20 * 21, 18 * 19, 16 * 17, 14 * 15, 12 * 13, 10 * 11, 8 * 9, 6 * 7, 4 * 5, 2 * 3].foldl p (2 ^ 60)
  sar (x * acc) 60

/-- sin(2π θ / 2^32) × 2^60. -/
def sineAt (th : Nat) : Int :=
  let q := th % 2 ^ 32
  let h := q % 2 ^ 31
  let v := sineQuad (if h ≤ 2 ^ 30 then h else 2 ^ 31 - h)
  if q < 2 ^ 31 then v else -v

/-- The vector (`c`, `s`), which is not 0, turned back into the first quadrant: the quadrant, and the vector there. -/
def quadrant (s c : Int) : Nat × Int × Int :=
  if 0 < c ∧ 0 ≤ s then (0, s, c) else if c ≤ 0 ∧ 0 < s then (1, -c, s) else if c < 0 ∧ s ≤ 0 then (2, -s, -c) else (3, c, -s)

/-- How far the angle of (`c`, `s`) in the first quadrant lies beyond `k` of 4,096, as a cross product. -/
def beyondAngle (s c : Int) (k : Nat) : Int := s * sineAt ((1024 - k) * 2 ^ 20) - c * sineAt (k * 2 ^ 20)

/-- The greatest `k` from `lo` to `lo + 2^n - 1` whose angle the vector reaches, given that it reaches `lo`. -/
def angleFrom (s c : Int) : Nat → Nat → Nat
  | 0, lo => lo
  | n + 1, lo => if 0 ≤ beyondAngle s c (lo + 2 ^ n) then angleFrom s c n (lo + 2 ^ n) else angleFrom s c n lo

/-- A 12-bit angle within ±1 count of 4,096 × atan2(s, c) / 2π (R471): one of the counts that are, by the free value `r`. The
vector 0 has no angle, and any is taken. -/
def phiOf (x : Int × Int) (r : Nat) : Nat :=
  if x = (0, 0) then r % 4096
  else
    let (q, s, c) := quadrant x.1 x.2
    let k := angleFrom s c 10 0
    let near := if beyondAngle s c k = 0 then 4095 + r % 3 else 4096 + r % 2
    (1024 * q + k + near) % 4096

/-- The change of angle between two ticks, taken as the shorter way round (R471). -/
def angleStep (old new : Nat) : Int := (((new + 6144 - old) % 4096 : Nat) : Int) - 2048

/-- Two angles differ by at most 4 counts (R472). -/
def anglesAgree (a b : Nat) : Bool := decide ((angleStep a b).natAbs ≤ 4)

/-- s² + c² against the nominal 0.5 V peak squared, in percent rounded down (R473). -/
def amplitude (x : Int × Int) : Nat := 100 * (x.1 * x.1 + x.2 * x.2).toNat / 500000 ^ 2

/-- The coefficients of converter target `t`. -/
def State.coef (s : State) (t : Nat) : Coef := (s.cal.coefs[t - 32]?).getD ⟨[0, 0, 0, 0], [0, 0, 0, 0], [0, 0, 0, 0], 256⟩

/-- The values s and c that converter target `t` delivers for a conversion, the set in force applied (R471, R628). -/
def State.convValue (s : State) (t : Nat) (x : Int × Int) : Int × Int :=
  if (s.coef t).now.all (· == 0) then x else Config.corrected (s.coef t).now x

/-- The angle that converter target `t` gives for a conversion. -/
def State.convAngle (s : State) (t : Nat) (x : Int × Int) : Nat × State :=
  let (r, s) := s.free
  (phiOf (s.convValue t x) r, s)

end Sys2Proof.Machine
end

