-- ==== Sys2Proof/Machine/Feedback.lean ====
section
/-! DEFINITION. Feedback sources, their faults, the index and the compare units (R468 to R484). -/

namespace Sys2Proof.Machine

open Sys2Proof.Bits

/-! ### Faults (R471 to R477) -/

/-- A deferred index shift of axis `x` is dropped (R480). -/
def State.dropShift (s : State) (x : Nat) : State :=
  (s.onFb x fun f => { f with shift := none }).setFld (Reg.FB_AX_STATUS x) Fld.FB_AX_STATUS_DEFERRED 0

/-- The source of axis `x` enters FAULT with cause `c` (R476, R477). -/
def State.fbFault (s : State) (x c : Nat) : State :=
  if s.fbState x = 1 ∨ s.fbState x = 3 then s
  else
    let s := (s.setFld (Reg.FB_AX_STATUS x) Fld.FB_AX_STATUS_STATE 1).setFld (Reg.FB_AX_STATUS x)
      Fld.FB_AX_STATUS_CAUSE c
    let s := (s.count (Reg.FB_AX_FAULTS x) 1).dropShift x
    let s := if c = 4 then s.event (Reg.FB_AX_EVENT x) Fld.FB_AX_EVENT_OVERSPEED else s
    let s := s.raise .stopping (Reg.FB_AX_EVENT x) Fld.FB_AX_EVENT_FAULT c (unitAxis x)
    let s := if x < 2 ∧ s.axState x ≠ 0 then s.setFld (Reg.SV_AX_STATUS x) Fld.SV_AX_STATUS_FCAUSE 1 else s
    let s := s.feedbackFault x
    if x = 0 then s.posInvalid else s

/-- The angle of a source before its first conversion. -/
def noAngle : Nat := 4096

/-- Axis `x` takes the angle `phi` (R471): the first one is the reference, a step beyond 1,024 counts is
OVERSPEED, and nothing is counted in FAULT. -/
def State.takeAngle (s : State) (x phi : Nat) : State :=
  let old := ((s.motion.fbs[x]?).map (·.phi)).getD noAngle
  let s := s.onFb x fun f => { f with phi := phi }
  if old = noAngle ∨ s.fbState x = 1 then s
  else
    let d := angleStep old phi
    if 1024 < d.natAbs then s.fbFault x 4 else s.setCount x (s.fbCount x + d)

/-- The amplitude of axis `x` in percent, rounded down (R473; log entry 33). -/
def State.takeAmp (s : State) (x amp : Nat) : State :=
  let s := s.setFld (Reg.FB_AX_AN_STATUS x) Fld.FB_AX_AN_STATUS_AMP (min amp 255)
  let good := s.fld (Reg.FB_AX_AN_CFG x) Fld.FB_AX_AN_CFG_AMP_LO ≤ amp ∧
    amp ≤ s.fld (Reg.FB_AX_AN_CFG x) Fld.FB_AX_AN_CFG_AMP_HI
  let n := if good then 0 else ((s.motion.fbs[x]?).map (·.ampBad)).getD 0 + 1
  let s := s.onFb x fun f => { f with ampBad := n }
  if 4 ≤ n then s.fbFault x 2 else s

/-- The converter in service of axis `x` has failed at the latest tick (R472): the idle one, where it is calibrated and lies at
this tick within 4 counts of the angle of the one in service, takes over. DESIGN CHOICE (log entry 33): where that one still
delivers nothing, its latest angle is compared. -/
def State.convTakeover (s : State) (x : Nat) (now idle : Option (Int × Int)) : State :=
  let s := s.onFb x fun f => { f with convLost := false }
  let old := ((s.motion.fbs[x]?).map (·.phi)).getD noAngle
  let (cur, s) := match now with
    | some v => s.convAngle (s.convOf x) v
    | none => (old, s)
  let (alt, s) := match idle with
    | some v => s.convAngle (s.convIdle x) v
    | none => (noAngle, s)
  let amp := (idle.map fun v => amplitude (s.convValue (s.convIdle x) v)).getD 0
  if idle.isSome ∧ (cur = noAngle ∨ anglesAgree cur alt) ∧ s.flag (Reg.FB_AX_AN_STATUS x) Fld.FB_AX_AN_STATUS_ALT_READY then
    let s := s.setFld (Reg.FB_AX_STATUS x) Fld.FB_AX_STATUS_CONV
      (1 - s.fld (Reg.FB_AX_STATUS x) Fld.FB_AX_STATUS_CONV)
    let s := s.setFld (Reg.FB_AX_AN_STATUS x) Fld.FB_AX_AN_STATUS_ALT_READY 0
    let s := s.raise .corrected (Reg.FB_AX_EVENT x) Fld.FB_AX_EVENT_CONV_SWITCH 5 (unitAxis x)
    (s.takeAmp x amp).takeAngle x alt
  else s.fbFault x 5

/-- CONVERTER fault of axis `x` (R472): the idle converter is judged at the next tick, its calibration abandoned (R633). -/
def State.convFault (s : State) (x : Nat) : State :=
  if s.fbState x = 1 then s else (s.onFb x fun f => { f with convLost := true }).calAbandon (s.convIdle x)

/-- The sample of an analogue axis at a tick (R471 to R473). -/
def State.tickAnalogue (s : State) (x : Nat) (p : FbSample) : State :=
  let lost := ((s.motion.fbs[x]?).map (·.convLost)).getD false
  match p with
  | .angle now idle =>
    if lost then s.convTakeover x now idle
    else match now with
      | some v =>
        let (phi, s) := s.convAngle (s.convOf x) v
        (s.takeAmp x (amplitude (s.convValue (s.convOf x) v))).takeAngle x phi
      | none => s.convFault x
  | _ => if lost then s.convTakeover x none none else s.convFault x

/-- The place of a state (A, B) in the sequence in which A leads B (R474). -/
def quadPlace : Bool × Bool → Nat
  | (false, false) => 0
  | (true, false) => 1
  | (true, true) => 2
  | (false, true) => 3

/-- The counts of a change of (A, B): none for an illegal transition (R474). -/
def quadStep (old new : Bool × Bool) : Option Int :=
  match (quadPlace new + 4 - quadPlace old) % 4 with
  | 0 => some 0
  | 1 => some 1
  | 3 => some (-1)
  | _ => none

/-- The levels `ab` of a digital source `f` at TB tick `t`: the source after them, the counts, and whether they are an
OVERSPEED fault: an illegal transition, or a counted edge less than 25 ns after the one before (R474). -/
def takeLevels (f : FbAxis) (t : Nat) (ab : Bool × Bool) : FbAxis × Int × Bool :=
  match f.ab with
  | none => ({ f with ab := some ab }, 0, false)
  | some old =>
    match quadStep old ab with
    | none => ({ f with ab := some ab, edgeAt := some t }, 0, true)
    | some d =>
      if d = 0 then (f, 0, false)
      else ({ f with ab := some ab, edgeAt := some t }, d, f.edgeAt.any fun e => decide (t < e + 25))

/-- Axis `x` takes one change of the levels of a digital source, `ns` after the previous tick (R474). -/
def State.takeEdge (s : State) (x ns : Nat) (ab : Bool × Bool) : State :=
  match s.motion.fbs[x]? with
  | none => s
  | some f =>
    let (f', d, bad) := takeLevels f (s.clk.ticks - 100 + ns) ab
    let s := s.onFb x fun _ => f'
    let s := if bad then s.fbFault x 4 else if s.fbState x = 1 ∨ d = 0 then s else s.setCount x (s.fbCount x + d)
    s.onFb x fun f => { f with steps := f.steps ++ [(ns, s.fbCount x, ab)] }

/-- The edges of a digital axis up to a tick (R474). -/
def State.tickDigital (s : State) (x : Nat) (p : FbSample) : State :=
  match p with
  | .edges l => l.foldl (fun s c => s.takeEdge x c.1 c.2) s
  | _ => s

/-- The source of axis `x` samples at a tick (R470), once it is enabled (R469). -/
def State.tickAxis (s : State) (x : Nat) (p : FbSample) : State :=
  if s.fbState x = 3 then s
  else
    let s := s.onFb x fun f => { f with was := s.fbCount x, abWas := f.ab, steps := [] }
    match s.fbSrc x with
    | 1 => s.tickAnalogue x p
    | 2 => s.tickDigital x p
    | _ => s

/-! ### Compare units (R482 to R484) -/

/-- Compare unit `u` changed by `f`. -/
def State.onCmp (s : State) (u : Nat) (f : Cmp → Cmp) : State :=
  { s with motion := { s.motion with cmps := s.motion.cmps.modify u f } }

/-- The state with compare unit `u` remembering position `p`. -/
def State.cmpSeen (s : State) (u : Nat) (p : Option Int) : State :=
  s.onCmp u fun c => { c with last := p }

/-- A pulse of `w` ns rises on the pin of unit `u` at `t` (R482); one that overlaps the latest keeps the pin high until the later
of the two ends (R706). -/
def State.cmpPulse (s : State) (u t w : Nat) : State :=
  let e := t + w * 65536
  (s.onCmp u fun c =>
    { c with pulse := if t < c.pulse.2 then (c.pulse.1, max c.pulse.2 e) else (t, e) }).emit
      (.pinPulse (s.fld (Reg.FB_CMP_CFG u) Fld.FB_CMP_CFG_PIN) t w)

/-- The axis of unit `u`, its presented position and its direction of motion. -/
def State.cmpAxis (s : State) (u : Nat) : Nat := s.fld (Reg.FB_CMP_CFG u) Fld.FB_CMP_CFG_AXIS
def State.cmpPos (s : State) (u : Nat) : Int := s.pairS (Reg.FB_AX_PRES_LO (s.cmpAxis u))
def State.cmpDirn (s : State) (u : Nat) : Int :=
  if s.flag (Reg.FB_AX_STATUS (s.cmpAxis u)) Fld.FB_AX_STATUS_DIRN then -1 else 1

/-- Unit `u` shows state `st`. -/
def State.setCmp (s : State) (u st : Nat) : State :=
  s.setFld (Reg.FB_CMP_STATUS u) Fld.FB_CMP_STATUS_STATE st

/-- Unit `u` re-arms at the target that stands (R484, R483): where the position has not reached it, it waits; where it has and
LATE_FIRE is 0, it is behind. DESIGN CHOICE (log entry 33): a unit fires at most once a tick (R482, R484), so a target that is
equal, or late with LATE_FIRE 1, fires at the next evaluation. -/
def State.cmpRearm (s : State) (u : Nat) : State :=
  let p := s.cmpPos u
  let d := (s.pairS (Reg.FB_CMP_TARGET_LO u) - p) * s.cmpDirn u
  let s := s.setFld (Reg.FB_CMP_STATUS u) Fld.FB_CMP_STATUS_BEHIND 0
  if 0 < d then s.cmpSeen u (some p)
  else if d = 0 ∨ s.flag (Reg.FB_CMP_CFG u) Fld.FB_CMP_CFG_LATE_FIRE then s.cmpSeen u none
  else (s.setFld (Reg.FB_CMP_STATUS u) Fld.FB_CMP_STATUS_BEHIND 1).cmpSeen u (some p)

/-- Unit `u` fires in the latest tick, whose timestamp it latches (R482, R484). `up` is the direction of the crossing, 0 where there was none. -/
def State.cmpFire (s : State) (u : Nat) (late : Bool) (up : Int) : State :=
  let s := s.setPair (Reg.FB_CMP_TS_LO u) (s.motion.tickNow / 65536 % 2 ^ 64)
  let s := (s.count (Reg.FB_CMP_FIRES u) 1).setFld (Reg.FB_CMP_STATUS u) Fld.FB_CMP_STATUS_LATE (b2n late)
  let s := if s.flag (Reg.FB_CMP_CFG u) Fld.FB_CMP_CFG_PIN_EN ∧ ¬ s.flag Reg.PWR_HOLD Fld.PWR_HOLD_GPIO then
      s.cmpPulse u (s.motion.tickNow + 250 * 65536) (10 * max (s.fld (Reg.FB_CMP_CFG u) Fld.FB_CMP_CFG_PULSE_W) 1)
    else s
  if s.flag (Reg.FB_CMP_CFG u) Fld.FB_CMP_CFG_REPEAT then
    let t := s.pairS (Reg.FB_CMP_TARGET_LO u)
    let step := s.pairS (Reg.FB_CMP_STEP_LO u)
    let extra : Nat := if 0 < step * up then ((s.cmpPos u - t) * up).toNat / step.natAbs else 0
    let s := (s.setPairS (Reg.FB_CMP_TARGET_LO u) (t + step * (1 + extra : Nat))).count
      (Reg.FB_CMP_SKIPS u) extra
    let n := s.regN (Reg.FB_CMP_COUNT u)
    if n ≠ 0 ∧ n ≤ s.regN (Reg.FB_CMP_FIRES u) then s.setCmp u 3 else s.cmpRearm u
  else s.setCmp u 3

/-- The first evaluation of unit `u` (R483). -/
def State.cmpFirst (s : State) (u : Nat) : State :=
  let p := s.cmpPos u
  let d := (s.pairS (Reg.FB_CMP_TARGET_LO u) - p) * s.cmpDirn u
  let s := s.setCmp u 1
  if d = 0 then s.cmpFire u false 0
  else if 0 < d then s.cmpSeen u (some p)
  else if s.flag (Reg.FB_CMP_CFG u) Fld.FB_CMP_CFG_LATE_FIRE then s.cmpFire u true 0
  else (s.setFld (Reg.FB_CMP_STATUS u) Fld.FB_CMP_STATUS_BEHIND 1).cmpSeen u (some p)

/-- The crossing of target `t` between positions `l` and `p` in a unit's direction (R482): 0 where there is
none. -/
def crossing (dir : Nat) (l p t : Int) : Int :=
  if dir ≠ 2 ∧ l < t ∧ t ≤ p then 1 else if dir ≠ 1 ∧ t < l ∧ p ≤ t then -1 else 0

/-- DIR of unit `u`: 0 either, 1 positive, 2 negative. -/
def State.cmpDir (s : State) (u : Nat) : Nat := s.fld (Reg.FB_CMP_CFG u) Fld.FB_CMP_CFG_DIR % 3

/-- Unit `u` is evaluated at a tick (R482, R483): it holds while its axis is not OK, and a crossing that
happened meanwhile is none. -/
def State.cmpTick (s : State) (u : Nat) : State :=
  let st := s.fld (Reg.FB_CMP_STATUS u) Fld.FB_CMP_STATUS_STATE
  if st ≠ 1 ∧ st ≠ 2 then s
  else if s.fbState (s.cmpAxis u) ≠ 0 then s.setCmp u 2
  else
    let p := s.cmpPos u
    match (s.motion.cmps[u]?).bind (·.last) with
    | none => s.cmpFirst u
    | some l =>
      if st = 2 then (s.setCmp u 1).cmpSeen u (some p)
      else
        let up := crossing (s.cmpDir u) l p (s.pairS (Reg.FB_CMP_TARGET_LO u))
        if up = 0 then s.cmpSeen u (some p) else s.cmpFire u false up

/-- CMP_ARM (R483, R494): FB_CMP_CTRL ARM. -/
def execCmpArm (path : Path) (u : Fin 8) (s : State) : Host.Outcome State Fault Refusal :=
  let st := s.fld (Reg.FB_CMP_STATUS u) Fld.FB_CMP_STATUS_STATE
  if 5 < s.cmpAxis u ∨ st = 1 ∨ st = 2 then .next (s.accFlag path (Reg.FB_CMP_CTRL u) .refused)
  else
    let s := ((s.setRegN (Reg.FB_CMP_FIRES u) 0).setRegN (Reg.FB_CMP_SKIPS u) 0).setRegN (Reg.FB_CMP_STATUS u) 0
    let s := s.cmpSeen u none
    .next (if s.fbState (s.cmpAxis u) = 0 then s.cmpFirst u else s.setCmp u 2)

/-- CMP_DISARM (R494): FB_CMP_CTRL DISARM. -/
def execCmpDisarm (u : Fin 8) (s : State) : Host.Outcome State Fault Refusal := .next (s.setCmp u 0)

/-! ### The feedback tick (R25, R470) -/

/-- A word of an SRAM array with no command of its own is read (R516): an uncorrectable one costs the firing buffer a
segment, the retry buffer's frame is resent by the link, and in the other arrays it is fatal. -/
def State.tickWord (s : State) (x : TickWord × Ecc) : State :=
  let lost := fun (s : State) (a row : Nat) =>
    if x.2 = .uncorrectable then
      (s.raiseInfo .fatal Reg.MI_EVENT Fld.MI_EVENT_SRAM_UNCORR 0 unitSram (2 ^ 32 * a + row % 2 ^ 32)).fatalStop
    else s
  match x.1 with
  | .firing _ row => s.sramRead sramFiring row x.2
  | .retry p row =>
    let s := s.sramRead sramRetry row x.2
    if x.2 = .uncorrectable then (if p.val < 4 then s.resendFab p else s.ingResend) else s
  | .actions row => lost (s.sramRead sramActions row x.2) sramActions row
  | .errorLog row => lost (s.sramRead sramErrorLog row x.2) sramErrorLog row

/-- Rows of the swath whose segment an uncorrectable word of the firing buffer takes away (R516). -/
def lostSegs (ws : List (TickWord × Ecc)) : List Nat :=
  ws.filterMap fun x => match x with
    | (.firing r _, .uncorrectable) => some r
    | _ => none

/-- FEEDBACK_TICK (R471): every source samples at the next 10 MHz tick; Geyser has the state `lat` ns later and
evaluates every row; the compare units are evaluated. `sram` are SRAM words read on the way (R516). -/
def execFeedbackTick (samples : List FbSample) (lat : Fin 501) (sram : List (TickWord × Ecc)) (s : State) : Host.Outcome State Fault Refusal :=
  if ¬ s.clk.pllLocked then .next s
  else
    let old := s
    let s := s.elapse (100 - s.clk.ticks % 100)
    let s : State := { s with motion := { s.motion with tickAt := s.clk.ticks, tickNow := s.now16 } }
    let s := (List.range 6).foldl (fun s x => s.tickAxis x (nth samples x .off)) s
    let s := if s.fbState 0 = 0 then s.posValid (s.pairS (Reg.FB_AX_RAW_LO 0)) s.now16 else s.posInvalid
    let s := sram.foldl (fun s x => s.tickWord x) s
    let s := s.evalRows (lostSegs sram) (s.now16 + lat.val * 65536)
    let s := (List.range 8).foldl (fun s u => s.cmpTick u) s
    .next (State.settleStop old s)

/-- WIRE_FAULT (R475): both wires of the pairs `pairs` (bit 0 A, 1 B, 2 Z) at one level for 200 ns. Only the
pairs of the source in use are checked, Z where Z_EN is 1. -/
def execWireFault (x : Fin 6) (pairs : Fin 8) (s : State) : Host.Outcome State Fault Refusal :=
  let z := if s.flag (Reg.FB_AX_CFG x) Fld.FB_AX_CFG_Z_EN then 4 else 0
  let m := pairs.val &&& (match s.fbSrc x with | 2 => 3 + z | 1 => z | _ => 0)
  if m = 0 ∨ s.fbState x = 3 then .next s
  else .next (State.settleStop s ((s.setFld (Reg.FB_AX_STATUS x) Fld.FB_AX_STATUS_WIRE m).fbFault x 1))

/-- COMMON_MODE_MEASURE (R473): the lowest and highest level of the four wires, in 50 mV units. -/
def execCommonModeMeasure (x : Fin 2) (lo hi : Fin 256) (s : State) : Host.Outcome State Fault Refusal :=
  if s.fbSrc x ≠ 1 ∨ s.fbState x = 3 then .next s
  else
    let old := s
    let s := (s.setFld (Reg.FB_AX_AN_STATUS x) Fld.FB_AX_AN_STATUS_CM_MIN lo).setFld (Reg.FB_AX_AN_STATUS x)
      Fld.FB_AX_AN_STATUS_CM_MAX hi
    let bad := lo.val < s.fld (Reg.FB_AX_AN_CFG x) Fld.FB_AX_AN_CFG_CM_LO ∨
      s.fld (Reg.FB_AX_AN_CFG x) Fld.FB_AX_AN_CFG_CM_HI < hi.val
    let n := if bad then ((s.motion.fbs[x.val]?).map (·.cmBad)).getD 0 + 1 else 0
    let s := s.onFb x fun f => { f with cmBad := n }
    .next (State.settleStop old (if 2 ≤ n then s.fbFault x 3 else s))

/-- FEEDBACK_FAULT_CLEAR (R476): 1 ms has passed without a fault condition on axis `x`. -/
def execFeedbackFaultClear (x : Fin 6) (s : State) : Host.Outcome State Fault Refusal :=
  if s.fbState x ≠ 1 then .next s
  else .next ((s.onFb x fun f => { f with ampBad := 0, cmBad := 0, convLost := false }).setFld
    (Reg.FB_AX_STATUS x) Fld.FB_AX_STATUS_STATE 2)

/-! ### The index (R479, R480) -/

/-- The captured count less the nearest expected one (R480); halfway, the lower is taken. -/
def State.indexDelta (s : State) (x : Nat) (cap : Int) : Int :=
  let ref := s.pairS (Reg.FB_AX_IDX_REF_LO x)
  let per : Int := s.regN (Reg.FB_AX_IDX_PERIOD x)
  if per = 0 then cap - ref
  else
    let r := (cap - ref) % per
    if 2 * r ≤ per then r else r - per

/-- A shift of −`d` is due on axis `x` (R480): on axis S it waits while a swath is ARMED or RUNNING. -/
def State.dueShift (s : State) (x : Nat) (d : Int) (unref : Bool) : State :=
  if x = 0 ∧ s.swathLive then
    let s := s.onFb x fun f => { f with shift := some (d, unref) }
    (s.setFld (Reg.FB_AX_STATUS x) Fld.FB_AX_STATUS_DEFERRED 1).event (Reg.FB_AX_EVENT x)
      Fld.FB_AX_EVENT_INDEX_DEFERRED
  else s.applyShift x d unref

/-- An index at count `cap` is judged (R480). -/
def State.judgeIndex (s : State) (x : Nat) (cap : Int) : State :=
  let st := s.fbState x
  if ¬ s.flag (Reg.FB_AX_STATUS x) Fld.FB_AX_STATUS_IDX_LEARNED ∨ (st ≠ 0 ∧ st ≠ 2) then s
  else
    let d := s.indexDelta x cap
    let far := decide (s.fld (Reg.FB_AX_CFG x) Fld.FB_AX_CFG_IDX_TOL < d.natAbs)
    let s := if far then s.raise .contained (Reg.FB_AX_EVENT x) Fld.FB_AX_EVENT_INDEX_MISMATCH 0 (unitAxis x) else s
    if st = 2 then s.dueShift x d true
    else if far ∧ s.flag (Reg.FB_AX_CFG x) Fld.FB_AX_CFG_IDX_CORR then s.dueShift x d false
    else s

/-- Homing of axis `x` takes the first index after its latch edge, or with REF 3 the first of all (R458). -/
def State.homeIndex (s : State) (x : Nat) (cap : Int) : State :=
  let h := s.fld (Reg.MP_AX_STATUS x) Fld.MP_AX_STATUS_HOME_STATE
  let take := fun (s : State) =>
    (s.onGen x fun g => { g with indexCount := cap }).setPairS (Reg.MP_AX_HOME_CAP_LO x) (s.rawOf x cap)
  if ¬ s.homing x then s
  else match (s.gen x).mode, (s.gen x).after with
    | .seek .., _ => if h = 4 ∨ (h = 3 ∧ s.homeRef x = 3) then (take s).homeStop x 5 else s
    | .stop _, .home 4 => (take s).onGen x fun g => { g with after := .home 5 }
    | _, _ => s

/-- INDEX_EVENT (R479, R480, R491): an edge of Z, `ns` after the tick before the latest, whose samples the latest tick has
judged; it rises or falls. The active edge is the index, behind the gate of A and B where that is on. -/
def execIndexEvent (x : Fin 6) (ns : Fin 100) (rise : Bool) (s : State) : Host.Outcome State Fault Refusal :=
  if s.fbSrc x = 0 ∨ s.fbState x = 3 ∨ ¬ s.flag (Reg.FB_AX_CFG x) Fld.FB_AX_CFG_Z_EN ∨
      rise = s.flag (Reg.FB_AX_CFG x) Fld.FB_AX_CFG_Z_LOW ∨
      (s.fbSrc x = 2 ∧ s.flag (Reg.FB_AX_CFG x) Fld.FB_AX_CFG_Z_GATE ∧ s.levelsAt x ns ≠ some (true, true)) then .next s
  else
    let cap := s.countAt x ns
    let s := s.setPairS (Reg.FB_AX_IDX_CAP_LO x) cap
    .next ((s.homeIndex x cap).judgeIndex x cap)

/-- IDX_REF_COMMIT (R479, R15): FB_AX_IDX_REF_HI of axis `x` is written `w`. -/
def execIdxRefCommit (path : Path) (x : Fin 6) (w : Word) (s : State) : Host.Outcome State Fault Refusal :=
  .next ((s.commitPair path (Reg.FB_AX_IDX_REF_LO x) w).setFld (Reg.FB_AX_STATUS x)
    Fld.FB_AX_STATUS_IDX_LEARNED 1)

end Sys2Proof.Machine
end

