-- ==== Sys2Proof/Machine/Cal.lean ====
section
/-! DEFINITION. The points and trims of calibration targets, interpolation, ramps, and what an accepted measurement does
(R621 to R632). -/

namespace Sys2Proof.Machine

open Sys2Proof.Bits

/-! ### Points (R627 to R629, R637) -/

/-- Address of point `k` of target `t`. -/
def pointAddr (t k : Nat) : Nat := 0x01E40000 + 0x100 * t + 32 * k

/-- Point `k` of target `t`: TEMP and V0 to V3. -/
def State.calPoint (s : State) (t k : Nat) : Int × List Int :=
  (signed 16 (s.tbl (pointAddr t k)).toNat,
   (List.range 4).map fun i => signed 32 (s.tbl (pointAddr t k + 4 + 4 * i)).toNat)

/-- The points of target `t` in use. -/
def State.calPoints (s : State) (t : Nat) : List (Int × List Int) :=
  (List.range (s.tgt t Fld.CAL_TGT_STATUS_POINTS)).map fun k => s.calPoint t k

/-- SRC of point `k`: 0 image, 1 learned. -/
def State.calSrc (s : State) (t k : Nat) : Nat := bits (s.tbl (pointAddr t k)).toNat 24 8

/-- The 32 bytes of a point entry (R637). -/
def pointBytes (x : Int × List Int) (src : Nat) : List Byte :=
  toLE 2 (twos 16 x.1) ++ toLE 1 1 ++ toLE 1 src ++
    ((List.range 4).flatMap fun i => toLE 4 (twos 32 (nth x.2 i 0))) ++ List.replicate 12 0

/-- Target `t` has the points `ps`, each with its SRC. -/
def State.setPoints (s : State) (t : Nat) (ps : List ((Int × List Int) × Nat)) : State :=
  let s := (List.range 8).foldl (fun s k =>
    let b := match ps[k]? with
      | some (x, src) => pointBytes x src
      | none => List.replicate 32 0
    s.setTblBytes (pointAddr t k) b) s
  s.setTgt t Fld.CAL_TGT_STATUS_POINTS (min ps.length 8)

/-- The points of target `t` with their SRC. -/
def State.calEntries (s : State) (t : Nat) : List ((Int × List Int) × Nat) :=
  (s.calPoints t).zipIdx.map fun e => (e.1, s.calSrc t e.2)

/-- The step of `interp` between two points (R628). No value here leaves the s64 in which R10 has it computed. -/
def interpMid (t : Int) (a b : Int × Int) : Int :=
  let d := b.1 - a.1
  a.2 + (2 * ((b.2 - a.2) * (t - a.1)) + d).fdiv (2 * d)

/-- `interp` of R628 from the point `a` on, where `a.1 < t`. -/
def interpFrom (t : Int) (a : Int × Int) : List (Int × Int) → Int
  | [] => a.2
  | b :: l => if b.1 ≤ t then interpFrom t b l else interpMid t a b

/-- `interp` of R628 over points (TEMP, value). -/
def interp (t : Int) : List (Int × Int) → Int
  | [] => 0
  | a :: l => if t ≤ a.1 then a.2 else interpFrom t a l

/-- Value `i` of target `t` over its points. -/
def State.calInterp (s : State) (t i : Nat) : Int := interp s.tcal ((s.calPoints t).map fun x => (x.1, nth x.2 i 0))

/-- Where a result at temperature `t` goes in the points (R629): the place, and whether that point keeps its TEMP;
or none for a new point. -/
def pointPlace (ts : List Int) (t : Int) : Option (Nat × Bool) :=
  let near := ts.zipIdx.foldl (fun (b : Option (Nat × Nat)) x =>
    let d := (x.1 - t).natAbs
    match b with
    | some (e, _) => if d < e then some (d, x.2) else b
    | none => some (d, x.2)) none
  match near with
  | some (d, k) => if d ≤ 80 then some (k, true) else if ts.length < 8 then none else some (k, false)
  | none => none

/-- A point in its place by rising TEMP. -/
def insertPoint (x : (Int × List Int) × Nat) (l : List ((Int × List Int) × Nat)) : List ((Int × List Int) × Nat) :=
  insertBefore (fun x y => decide (x.1.1 < y.1.1)) x l

/-- A result `v` accepted at `t` is stored in the points of target `tg` (R629). A point whose TEMP becomes `t`
moves to its place. The index it has then, and the state. -/
def State.storePoint (s : State) (tg : Nat) (t : Int) (v : List Int) : Nat × State :=
  let es := s.calEntries tg
  let new := match pointPlace (es.map fun e => e.1.1) t with
    | some (k, true) => es.set k (((es.map fun e => e.1.1).getD k t, v), 1)
    | some (k, false) => insertPoint ((t, v), 1) (es.eraseIdx k)
    | none => insertPoint ((t, v), 1) es
  let at_ := match pointPlace (es.map fun e => e.1.1) t with
    | some (k, true) => k
    | _ => (new.findIdx? fun e => e.1.1 == t).getD 0
  (at_, s.setPoints tg new)

/-- A CAL record of point `k` of target `t` goes to the state area; 0xFF for a firing V0 (R629). -/
def State.calRecord (s : State) (t k point : Nat) : State :=
  s.stateWrite ⟨4, toLE 2 t ++ toLE 1 point ++ List.replicate 5 0 ++ s.tblBytes (pointAddr t k) 32⟩

/-- V0 of every point of firing target `t` becomes `v` (R624). -/
def State.setFiringV0 (s : State) (t : Nat) (v : Int) : State :=
  s.setPoints t ((s.calEntries t).map fun e => ((e.1.1, e.1.2.set 0 v), 1))

/-! ### Modes and ramps (R630, R631) -/

/-- The values that the mode of target `t` gives. -/
def State.calGoal (s : State) (t : Nat) : List Int :=
  if s.tgt t Fld.CAL_TGT_STATUS_MODE = 2 then (s.calPoint t (s.tgt t Fld.CAL_TGT_STATUS_FIXED_POINT)).2
  else (List.range 4).map fun i => s.calInterp t i

/-- Converter target `t` has the coefficients `c`. -/
def State.setCoef (s : State) (t : Nat) (c : Coef) : State :=
  (s.onCal fun k => { k with coefs := k.coefs.set (t - 32) c }).setTgt t Fld.CAL_TGT_STATUS_RAMP (b2n (c.step != 256))

/-- The target values of converter `t` have changed to `g` (R630): a ramp in service, at once when idle. -/
def State.retarget (s : State) (t : Nat) (g : List Int) : State :=
  let c := s.coef t
  if s.convInService t then
    if c.goal = g then s else s.setCoef t ⟨c.now, c.now, g, 0⟩
  else s.setCoef t ⟨g, g, g, 256⟩

/-- Step `j` of a ramp (R630). -/
def rampValue (c0 c1 : Int) (j : Nat) : Int := c0 + divT ((c1 - c0) * (j : Int)) 256

/-- One servo sample of the ramp of converter `t` (R486, R630). -/
def State.rampSample (s : State) (t : Nat) : State :=
  let c := s.coef t
  if 256 ≤ c.step then s
  else
    let j := c.step + 1
    s.setCoef t ⟨List.zipWith (fun a b => rampValue a b j) c.start c.goal, c.start, c.goal, j⟩

/-- Firing target `t` has points and trims (R628). -/
def State.firingSet (s : State) (t : Nat) : Bool :=
  s.tgt t Fld.CAL_TGT_STATUS_POINTS != 0 && s.cal.trims.contains (t - 40)

/-- Target `t` in its default mode: INTERP where points exist (R631). -/
def State.modeInterp (s : State) (t : Nat) : State :=
  let on := match calClass t with
    | .firing => s.firingSet t
    | _ => s.tgt t Fld.CAL_TGT_STATUS_POINTS != 0
  let s := s.setTgt t Fld.CAL_TGT_STATUS_MODE (b2n on)
  if calClass t = .feedback then s.retarget t (s.calGoal t) else s

/-- The mode of target `t` becomes FIXED on point `k`, or INTERP where none (R631); false where it cannot. -/
def State.setMode (s : State) (t : Nat) (k : Option Nat) : Bool × State :=
  match calClass t with
  | .feedback | .firing =>
    match k with
    | none => (true, s.modeInterp t)
    | some k =>
      if s.tgt t Fld.CAL_TGT_STATUS_POINTS ≤ k ∨ (calClass t = .firing ∧ ¬ s.firingSet t) then (false, s)
      else
        let s := (s.setTgt t Fld.CAL_TGT_STATUS_MODE 2).setTgt t Fld.CAL_TGT_STATUS_FIXED_POINT k
        (true, if calClass t = .feedback then s.retarget t (s.calGoal t) else s)
  | _ => (false, s)

/-! ### At start (R629, R632) -/

/-- A CAL record of the state area is applied by the rules of its acceptance (R629). -/
def State.calReplay (s : State) (r : StRec) : State :=
  let t := rd r.pay 0 2
  let b := r.pay.drop 8
  let v := (List.range 4).map fun i => signed 32 (rd b (4 + 4 * i) 4)
  if rd r.pay 2 1 = 0xFF then
    if calClass t = .firing then s.setFiringV0 t (nth v 0 0) else s
  else if calClass t = .feedback then (s.storePoint t (signed 16 (rd b 0 2)) v).2
  else s

/-- Every feedback and firing target takes its default mode, and the converters go to the values it gives (R630, R631). -/
def State.calModes (s : State) : State :=
  ([32, 33, 34, 35, 40, 41, 42, 43, 44, 45] : List Nat).foldl (fun s t =>
    s.modeInterp t) s

/-- The CAL records of the state area are replayed in their order (R629). -/
def State.calStart (s : State) : State :=
  (((liveRecs (s.stRecs s.stDev)).filter fun r => r.ty == 4).foldl (fun s r => s.calReplay r) s).calModes

/-! ### A calibration begins and ends (R621 to R623) -/

/-- The calibration of target `t` is accepted, its values in place (R621). -/
def State.calAccepted (s : State) (t : Nat) : State :=
  let s := (s.count Reg.CAL_ACCEPTS 1).event Reg.CAL_EVENT Fld.CAL_EVENT_ACCEPT
  let s := (s.setTgt t Fld.CAL_TGT_STATUS_FAILS 0).setTgt t Fld.CAL_TGT_STATUS_CAL_FAIL 0
  let s := (s.count (Reg.CAL_TGT_COUNT t) 1).setPair (Reg.CAL_TGT_TS_LO t) s.tNs
  (s.setRegN (Reg.CAL_TGT_TEMP t) (twos 16 s.tcal + 65536 * s.tq)).calEnd t

/-- The result `v` of converter target `t` (R623, R629): stored, taken, and a swap requested after the first of
the pair. -/
def State.convAccept (s : State) (t : Nat) (v : List Int) : State :=
  let x := convAxis t
  let (k, s) := s.storePoint t s.tcal v
  let s := s.calRecord t k k
  let s := if s.tgt t Fld.CAL_TGT_STATUS_MODE = 0 then s.setTgt t Fld.CAL_TGT_STATUS_MODE 1 else s
  let s := (s.retarget t v).setFld (Reg.FB_AX_AN_STATUS x) Fld.FB_AX_AN_STATUS_ALT_READY 1
  let again := s.cal.second.contains x
  s.onCal fun c => { c with
    first := c.first.filter (· != t)
    second := c.second.filter (· != x)
    swaps := if again then c.swaps else (c.swaps.filter (· != x)) ++ [x] }

/-- The idle converter of axis `x` begins to calibrate, if its source is analogue and neither converter does. -/
def State.convBegin (s : State) (x : Nat) : State :=
  if s.fbSrc x = 1 ∧ ¬ s.calBusy (32 + 2 * x) ∧ ¬ s.calBusy (33 + 2 * x) then s.calBegin (s.convIdle x) else s

/-- Both converters of every analogue axis are to be calibrated before motion (R626, R633). -/
def State.convFirst (s : State) : State :=
  (List.range 2).foldl (fun s x =>
    if s.fbSrc x = 1 then
      (s.onCal fun c => { c with first := (c.first.filter fun t => convAxis t != x) ++ [32 + 2 * x, 33 + 2 * x] }).convBegin x
    else s) s

/-- The channels restart at NORMAL with their counts cleared (R615, R633). -/
def State.hmRestart (s : State) : State :=
  let s : State := { s with hm := State.reset.hm }
  let s := (List.range 56).foldl (fun s c =>
    (s.setFld (Reg.HM_CH_STATUS c) Fld.HM_CH_STATUS_LEVEL 0).setFld (Reg.HM_CH_STATUS c) Fld.HM_CH_STATUS_SIDE 0) s
  let s := (List.range 4).foldl (fun s i => s.setRegN (Reg.HM_LEVEL i) 0) s
  [Fld.HM_STATUS_WORST, Fld.HM_STATUS_THROTTLE, Fld.HM_STATUS_SWATH_HOLD, Fld.HM_STATUS_WORST_CH].foldl
    (fun s f => s.setFld Reg.HM_STATUS f 0) s

end Sys2Proof.Machine
end

