-- ==== Sys2Proof/Machine/Levels.lean ====
section
/-! DEFINITION. Fumarole channels, their levels and what the levels bring (R613 to R617). -/

namespace Sys2Proof.Machine

open Sys2Proof.Bits

/-! ### Channels (R613 to R616) -/

/-- Class of channel `c` (R613): 0 temperature, 1 voltage, 2 ring oscillator, 3 unused. -/
def hmClass (c : Nat) : Nat := if c < 14 then 0 else if c < 16 then 3 else if c < 32 then 1 else 2

/-- Persistence in samples (R614). -/
def hmPersist (c : Nat) : Nat :=
  if c < 8 then 4 else if c < 12 then 1 else if c < 14 then 2 else if c < 32 then 4 else 1

/-- The limit register of level `l`, 0 WARN to 2 SHUT. -/
def hmLimits (c l : Nat) : Nat :=
  if l = 0 then Reg.HM_CH_WARN c else if l = 1 then Reg.HM_CH_CRIT c else Reg.HM_CH_SHUT c

/-- HI and LO limits of level `l`; none where disabled (R616, R618). -/
def State.hmHi (s : State) (c l : Nat) : Option Int :=
  let v := s.regN (hmLimits c l) / 65536
  if v = 0x7FFF then none else some (signed 16 v)
def State.hmLo (s : State) (c l : Nat) : Option Int :=
  let v := s.regN (hmLimits c l) % 65536
  if v = 0x8000 then none else some (signed 16 v)

/-- The action code of level `l` (R617). -/
def State.hmAct (s : State) (c l : Nat) : Nat :=
  s.fld (Reg.HM_CH_CFG c) (if l = 0 then Fld.HM_CH_CFG_WARN_ACT else if l = 1 then Fld.HM_CH_CFG_CRIT_ACT
    else Fld.HM_CH_CFG_SHUT_ACT)

/-- The hysteresis of channel `c` in the unit it compares (R616). -/
def State.hmHyst (s : State) (c : Nat) : Int :=
  let h := bits (s.regN Reg.HM_CFG) (8 * hmClass c) 8
  if hmClass c = 1 ∧ s.flag (Reg.HM_CH_CFG c) Fld.HM_CH_CFG_COMPARE then 10 * h else h

/-- Channel `c`. -/
def State.hmChan (s : State) (c : Nat) : HmChan :=
  (s.hm[c]?).getD ⟨[0, 0, 0], [0, 0, 0], [false, false, false]⟩

/-- Highest level whose condition holds: 0 NORMAL to 3 SHUT. -/
def HmChan.level (x : HmChan) : Nat :=
  if nth x.held 2 false then 3 else if nth x.held 1 false then 2 else if nth x.held 0 false then 1 else 0

/-- Level `l` of a channel judges the quantity `q` (R616): samples beyond, samples inside, and whether it holds. -/
def State.hmJudge (s : State) (c l : Nat) (x : HmChan) (q : Int) : Nat × Nat × Bool :=
  let h := s.hmHyst c
  let hi := s.hmHi c l
  let lo := s.hmLo c l
  let beyond := (match hi with | some v => decide (v < q) | none => false) ||
    (match lo with | some v => decide (q < v) | none => false)
  let inside := (match hi with | some v => decide (q ≤ v - h) | none => true) &&
    (match lo with | some v => decide (v + h ≤ q) | none => true)
  let a := if beyond then min (nth x.beyond l 0 + 1) (hmPersist c) else 0
  let b := if inside then min (nth x.inside l 0 + 1) (hmPersist c) else 0
  (a, b, if hmPersist c ≤ a then true else if hmPersist c ≤ b then false else nth x.held l false)

/-- Channel `c` takes the quantity `q`. -/
def State.hmTake (s : State) (c : Nat) (q : Int) : HmChan :=
  let x := s.hmChan c
  let r := (List.range 3).map fun l => s.hmJudge c l x q
  ⟨r.map (·.1), r.map (·.2.1), r.map (·.2.2)⟩

/-! ### What the levels bring (R616, R617) -/

/-- LEVEL of channel `c`. -/
def State.hmLevel (s : State) (c : Nat) : Nat := s.fld (Reg.HM_CH_STATUS c) Fld.HM_CH_STATUS_LEVEL

/-- Some channel is at a level whose action, or that of a level below it, is `a`. -/
def State.hmActs (s : State) (a : Nat) : Bool :=
  (List.range 56).any fun c => (List.range (s.hmLevel c)).any fun l => s.hmAct c l == a

/-- HM_LEVEL and the worst level of HM_STATUS follow the channels. -/
def State.showLevels (s : State) : State :=
  let s := (List.range 4).foldl (fun s i =>
    s.setRegN (Reg.HM_LEVEL i) (sumBelow 16 fun j => 4 ^ j * s.hmLevel (16 * i + j))) s
  let w := (List.range 56).foldl (fun m c => max m (s.hmLevel c)) 0
  let ch := (findBelow 56 fun c => s.hmLevel c == w).getD 0
  (s.setFld Reg.HM_STATUS Fld.HM_STATUS_WORST w).setFld Reg.HM_STATUS Fld.HM_STATUS_WORST_CH ch

/-- The cap of R617 comes or goes. -/
def State.throttleCheck (s : State) : State :=
  let on := s.hmActs 1
  let was := s.flag Reg.HM_STATUS Fld.HM_STATUS_THROTTLE
  let s := s.setFld Reg.HM_STATUS Fld.HM_STATUS_THROTTLE (b2n on)
  if on ∧ ¬ was then
    let s := s.event Reg.HM_EVENT Fld.HM_EVENT_THROTTLE_ON
    (List.range 4).foldl (fun s n =>
      if 800 < s.fld (Reg.CE_CL_STATUS n) Fld.CE_CL_STATUS_CLK_MHZ then s.avsBegin n 800 else s) s
  else if was ∧ ¬ on then s.event Reg.HM_EVENT Fld.HM_EVENT_THROTTLE_OFF
  else s

/-- The swath hold of R617. -/
def State.holdCheck (s : State) : State := s.setFld Reg.HM_STATUS Fld.HM_STATUS_SWATH_HOLD (b2n (s.hmActs 2))

/-! ### Channels that are not valid (R615) -/

/-- Channel `c` has no power, or its DRAM package refreshes itself, in power state `st` (R595, R605, R613, R615). The ring
oscillators stand in the order in which R613 names their islands (DEDUCED, log entry 76). -/
def hmUnpowered (st c : Nat) : Bool :=
  if st = 2 then decide ((1 ≤ c ∧ c ≤ 4) ∨ (17 ≤ c ∧ c ≤ 20) ∨ (32 ≤ c ∧ c ≤ 47) ∨ c = 52)
  else if st = 3 then decide (c < 12 ∨ (16 ≤ c ∧ c ≤ 20) ∨ (22 ≤ c ∧ c ≤ 23) ∨ (28 ≤ c ∧ c ≤ 30) ∨ 32 ≤ c)
  else decide (st = 4)

/-- The channels `cs` are not valid: each is held at NORMAL, with its counts at zero (R615). -/
def State.hmInvalid (s : State) (cs : List Nat) : State :=
  if cs.isEmpty then s
  else
    let s := cs.foldl (fun s c =>
      let s := (s.setFld (Reg.HM_CH_STATUS c) Fld.HM_CH_STATUS_VALID 0).setFld (Reg.HM_CH_STATUS c)
        Fld.HM_CH_STATUS_LEVEL 0
      { s with hm := s.hm.set c ⟨[0, 0, 0], [0, 0, 0], [false, false, false]⟩ }) s
    s.showLevels.throttleCheck.holdCheck

end Sys2Proof.Machine
end

