-- ==== Sys2Proof/Machine/P256.lean ====
section
/-! DEFINITION. ECDSA P-256 verification with SHA-256, as FIPS 186-5 defines it (R575). -/

namespace Sys2Proof.P256

open Sys2Proof.Bits

/-- The prime of the field, the order of the base point, the coefficient b and the base point of P-256. -/
def p : Nat := 0xffffffff00000001000000000000000000000000ffffffffffffffffffffffff
def n : Nat := 0xffffffff00000000ffffffffffffffffbce6faada7179e84f3b9cac2fc632551
def b : Nat := 0x5ac635d8aa3a93e7b3ebbd55769886bc651d06b0cc53b0f63bce3c3e27d2604b
def gx : Nat := 0x6b17d1f2e12c4247f8bce6e563a440f277037d812deb33a0f4a13945d898c296
def gy : Nat := 0x4fe342e2fe1a7f9b8ee7eb4a7c0f9e162bce33576b315ececbb6406837bf51f5

/-- `x ^ e mod m` for an exponent below 2 ^ `k`. -/
def powMod (m : Nat) : Nat → Nat → Nat → Nat
  | 0, _, _ => 1
  | k + 1, x, e =>
    let h := powMod m k (x * x % m) (e / 2)
    if e % 2 = 1 then x * h % m else h

/-- The inverse of `x` modulo the prime `m`. -/
def inv (m x : Nat) : Nat := powMod m 256 x (m - 2)

/-- A point of the curve; none is the point at infinity. -/
abbrev Pt := Option (Nat × Nat)

/-- The point on the line of slope `l` through (x1, y1) and the point with abscissa x2, reflected. -/
def chord (l x1 y1 x2 : Nat) : Pt :=
  let x3 := (l * l + 2 * p - x1 - x2) % p
  some (x3, (l * (x1 + p - x3) + p - y1) % p)

/-- The sum of two points. -/
def add (u v : Pt) : Pt :=
  match u, v with
  | none, v => v
  | u, none => u
  | some (x1, y1), some (x2, y2) =>
    if x1 = x2 then
      if (y1 + y2) % p = 0 then none
      else chord ((3 * x1 * x1 + p - 3) * inv p (2 * y1 % p) % p) x1 y1 x1
    else chord ((y2 + p - y1) * inv p ((x2 + p - x1) % p) % p) x1 y1 x2

/-- `k` times the point `q`, for a `k` below 2 ^ fuel. -/
def mul (q : Pt) : Nat → Nat → Pt
  | 0, _ => none
  | f + 1, k =>
    if k = 0 then none
    else
      let h := mul q f (k / 2)
      let d := add h h
      if k % 2 = 1 then add d q else d

/-- (x, y) is a point of the curve. -/
def onCurve (x y : Nat) : Bool := decide (x < p) && decide (y < p) && y * y % p == (x * x * x + p * 3 - 3 * x + b) % p

/-- The signature (r, s) of the message `m` holds under the public key (x, y). -/
def verify (x y r s : Nat) (m : List Byte) : Bool :=
  let e := ofBE (Crc.sha256 m)
  if onCurve x y && decide (0 < r ∧ r < n ∧ 0 < s ∧ s < n) then
    let w := inv n s
    match add (mul (some (gx, gy)) 256 (e * w % n)) (mul (some (x, y)) 256 (r * w % n)) with
    | some (x3, _) => x3 % n == r
    | none => false
  else false

end Sys2Proof.P256
end

