-- ==== Sys2Proof/Machine/Image.lean ====
section
/-! DEFINITION. The configuration flash and the Maar image: layout, header, section table, signature and
checks (R570 to R577). -/

namespace Sys2Proof.Machine

open Sys2Proof.Bits

/-- `n` bytes from offset `a` of a store whose unlisted bytes are erased, the listed ones from `a` onward. -/
def flashGo (l : List (Nat × Byte)) (a : Nat) : Nat → List Byte
  | 0 => []
  | n + 1 =>
    match l with
    | (k, v) :: t => if k = a then v :: flashGo t (a + 1) n else 0xFF :: flashGo l (a + 1) n
    | [] => 0xFF :: flashGo [] (a + 1) n

/-- `n` bytes of a flash store from offset `a`. -/
def flashAt (l : List (Nat × Byte)) (a n : Nat) : List Byte := flashGo (l.dropWhile fun e => decide (e.1 < a)) a n

/-- The bytes `bs` at `a` as flash lists them: erased bytes left out. -/
def flashList (a : Nat) : List Byte → List (Nat × Byte)
  | [] => []
  | b :: bs => if b = 0xFF then flashList (a + 1) bs else (a, b) :: flashList (a + 1) bs

/-- A flash store whose bytes from `a` below `e` are `bs` and then erased. -/
def flashPut (l : List (Nat × Byte)) (a e : Nat) (bs : List Byte) : List (Nat × Byte) :=
  (l.filter fun x => decide (x.1 < a)) ++ flashList a bs ++ l.filter fun x => decide (e ≤ x.1)

/-- Bytes of the image slot (R571). -/
def slotBytes : Nat := 0x8000000

/-- Header of the image in a slot, and its section table (R572, R573). -/
def imgHead (l : List (Nat × Byte)) : List Byte := flashAt l 0 256
def imgTable (l : List (Nat × Byte)) (n : Nat) : List Byte := flashAt l 256 (64 * n)

/-- A section table entry (R573). -/
def sectOf (b : List Byte) : Sect := ⟨rd b 0 2, rd b 4 4, rd b 8 4, rd b 16 8, (b.drop 32).take 32⟩

/-- The sections of a table of `n` entries. -/
def sectsOf (tab : List Byte) (n : Nat) : List Sect := (List.range n).map fun i => sectOf (tab.drop (64 * i))

/-- SIGNED and HOST_LOCK of a header (R572). -/
def imgSigned (hd : List Byte) : Bool := bit (rd hd 6 2) 0
def imgHostLock (hd : List Byte) : Bool := bit (rd hd 6 2) 1

/-- No two spans (offset, bytes) share a byte. -/
def disjointFrom (x : Nat × Nat) (l : List (Nat × Nat)) : Bool :=
  l.all fun y => decide (x.1 + x.2 ≤ y.1 ∨ y.1 + y.2 ≤ x.1)

def disjoint : List (Nat × Nat) → Bool
  | [] => true
  | x :: l => disjointFrom x l && disjoint l

/-- No TYPE below 0x8000 twice. -/
def typesOnce : List Sect → Bool
  | [] => true
  | x :: l => (decide (0x8000 ≤ x.ty) || !(l.any fun y => y.ty == x.ty)) && typesOnce l

/-- Section types of R574 by name. -/
def sectFirmware : Nat := 1
def sectEq : Nat := 2
def sectSpares : Nat := 3
def sectRegs : Nat := 4
def sectFabric : Nat := 5
def sectMotion : Nat := 6
def sectBeamMap : Nat := 7
def sectWave : Nat := 8
def sectCal : Nat := 9

/-- The structure checks of cause 5 hold (R573, R577). -/
def structureOk (hd : List Byte) (l : List (Nat × Byte)) : Bool :=
  let len := rd hd 12 4
  let n := rd hd 22 2
  let sig := rd hd 32 4
  if len % 4096 = 0 ∧ 0 < len ∧ len ≤ slotBytes ∧ 1 ≤ n ∧ n ≤ 64 then
    let ss := sectsOf (imgTable l n) n
    let own := ss.map fun x => (x.ofs, x.len)
    let spans := (0, 256 + 64 * n) :: (if imgSigned hd then (sig, 128) :: own else own)
    ((sig == 0) == !imgSigned hd) && (ss.all fun x => x.ofs % 4096 == 0 && decide (1 ≤ x.len)) &&
      (spans.all fun x => decide (x.1 + x.2 ≤ len)) && disjoint spans && typesOnce ss &&
      ss.any fun x => x.ty == sectFirmware
  else false

/-- The signature checks of cause 6 hold (R575, R577), with the hash `key` enforced. -/
def signatureOk (hd : List Byte) (l : List (Nat × Byte)) (key : Option (List Byte)) : Bool :=
  if imgSigned hd then
    let b := flashAt l (rd hd 32 4) 128
    let at32 := fun i => (b.drop (32 * i)).take 32
    (match key with
      | some k => Crc.sha256 (at32 0 ++ at32 1) == k
      | none => true) &&
    P256.verify (ofBE (at32 0)) (ofBE (at32 1)) (ofBE (at32 2)) (ofBE (at32 3)) (flashAt l 0 (256 + 64 * rd hd 22 2))
  else key.isNone

/-- The cause of R577 that the header, the table and the signature block of a slot give; 0 for none. -/
def State.headCause (s : State) (l : List (Nat × Byte)) : Nat :=
  let hd := imgHead l
  if rd hd 0 4 ≠ 0x5241414D ∨ rd hd 4 2 ≠ 1 then 2
  else if rd hd 248 8 ≠ Crc.crc64 (hd.take 248) then 3
  else if rd hd 8 2 ≠ 0x8260 ∨ bits (s.regN Reg.GLB_DEVICE_ID) 8 8 < rd hd 10 1 then 4
  else if ¬ structureOk hd l then 5
  else if ¬ signatureOk hd l s.boot.key then 6
  else 0

/-- The cause that a section's bytes give (R576, R577); 0 for none. -/
def sectCause (signed : Bool) (x : Sect) (bs : List Byte) : Nat :=
  if Crc.crc64 bs ≠ x.crc then 7
  else if signed ∧ Crc.sha256 bs ≠ x.digest then 8
  else 0

/-- The sections of an image, in the order of its table. -/
def imgSects (l : List (Nat × Byte)) : List Sect :=
  let n := rd (imgHead l) 22 2
  sectsOf (imgTable l n) n

/-- A type that the module reads (R574). -/
def readType (t : Nat) : Bool := decide (1 ≤ t ∧ t ≤ 9)

/-- The order in which sections are read (R576). -/
def sectOrder : List Nat :=
  [sectEq, sectFirmware, sectSpares, sectRegs, sectFabric, sectMotion, sectBeamMap, sectWave, sectCal]

/-- Every check of R577 but that firmware runs, on the image of device store `l`; the first cause that fails. -/
def State.checkImage (s : State) (l : List (Nat × Byte)) : Nat :=
  match s.headCause l with
  | 0 =>
    let ss := imgSects l
    let order := sectOrder.filterMap fun t => ss.find? fun x => x.ty == t
    let bad := order.filterMap fun x =>
      match sectCause (imgSigned (imgHead l)) x (flashAt l x.ofs x.len) with
      | 0 => none
      | c => some c
    bad.headD 0
  | c => c

/-- The flash store of device `d`. -/
def State.flash (s : State) (d : Nat) : List (Nat × Byte) := s.boot.flash.getD d []

end Sys2Proof.Machine
end

