-- ==== Sys2Proof/Machine/Setup.lean ====
section
/-! DEFINITION. Supply and reset (R578, R584, R701), the configuration lock and the DRAM areas (R580 to R582),
new images and hand-over (R588 to R590), and the OTP key hash (R591). -/

namespace Sys2Proof.Machine

open Sys2Proof.Bits

/-- The state with the start-up data changed by `f`. -/
def State.onBoot (s : State) (f : Boot → Boot) : State := { s with boot := f s.boot }

/-! ### Reset -/

/-- The registers that the input monitor keeps: the fatal store and HM_SHUT_CAUSE (R619, R652). -/
def keptRegs : List Nat := Reg.HM_SHUT_CAUSE :: (List.range 8).map Reg.ERR_LAST_FATAL

/-- What an interrupted PROGRAM leaves in its flash: its sectors erased and a part of the chunk, how much a free
value, programmed (R589). -/
def State.tornProgram (s : State) : State :=
  match s.boot.upd with
  | some u =>
    if u.bad = 0 then
      let (n, s) := s.free
      let e := u.ofs + divUp u.chunk.length 4096 * 4096
      let f := flashPut (s.flash u.dev) u.ofs e (u.chunk.take (n % (u.chunk.length + 1)))
      s.onBoot fun b => { b with flash := b.flash.set u.dev f }
    else s
  | none => s

/-- The key registers of a module whose hash is programmed (R591). -/
def State.showKey (s : State) : State :=
  match s.boot.otp with
  | some k =>
    let s := (List.range 8).foldl (fun s i => s.setRegN (Reg.CFG_OTP_HASH i) (rd k (4 * i) 4)) s
    (s.setFld Reg.CFG_OTP_STATUS Fld.CFG_OTP_STATUS_KEY_SET 1).setFld Reg.CFG_STATUS Fld.CFG_STATUS_KEY_SET 1
  | none => s

/-- The machine in internal reset (R584), or without its rails: the flash, the OTP hash, the input monitor's
registers, the level of ESTOP_N and what waits or has been sent stand; all else is as after reset. -/
def State.wholeReset (s : State) (ph : Phase) : State :=
  let s := s.tornProgram
  let t := State.reset
  let u : State := { t with
    pending := s.pending
    sent := s.sent
    freeCount := s.freeCount
    gy := { t.gy with estop := s.gy.estop }
    boot := { t.boot with
      phase := ph
      flash := s.boot.flash
      halves := s.boot.halves
      otp := s.boot.otp
      key := s.boot.otp } }
  let u := keptRegs.foldl (fun u a => u.setReg a (s.reg a)) u
  (if s.gy.estop then u.setFld Reg.GY_STATUS Fld.GY_STATUS_ESTOP 1 else u).showKey

/-- The supply or a rail is on: the module can be reset. In OFF only the input monitor is (R595, R608). -/
def State.powered (s : State) : Bool := s.boot.phase != .unpowered

/-- VIN_GOOD (R583, R701): VIN rises through 4.30 V, and the regulators come up. -/
def execVinGood (s : State) : Host.Outcome State Fault Refusal :=
  .next (if s.powered then s else s.wholeReset .reset)

/-- VIN_LOSS (R346, R701): VIN falls through 4.10 V, and every rail is removed. `dead`: VIN falls below 3.0 V too,
and the input monitor loses what it keeps. -/
def execVinLoss (dead : Bool) (s : State) : Host.Outcome State Fault Refusal :=
  let s := s.wholeReset .unpowered
  .next (if dead then keptRegs.foldl (fun s a => s.setRegN a 0) s else s)

/-- VIN_OVERVOLTAGE (R701): VIN above 21.0 V; every rail is removed until the next VIN good. -/
def execVinOvervoltage (s : State) : Host.Outcome State Fault Refusal := .next (s.wholeReset .unpowered)

/-- RESET_N (R584, R704): the pin has been low for `ns`. A pulse from 100 ns to 1 µs resets or does not, a free
value. It also leaves OFF (R608). -/
def execResetN (ns : Nat) (s : State) : Host.Outcome State Fault Refusal :=
  if ns < 100 ∨ (¬ s.powered ∧ s.fld Reg.PWR_STATUS Fld.PWR_STATUS_CUR ≠ 4) then .next s
  else if ns < 1000 then
    let (n, s) := s.free
    .next (if n % 2 = 0 then s else s.wholeReset .reset)
  else .next (s.wholeReset .reset)

/-- RAIL_FAULT (R584, R652): rail `vm` leaves regulation; the fatal store of the input monitor holds it. -/
def execRailFault (vm : Fin 56) (s : State) : Host.Outcome State Fault Refusal :=
  if ¬ s.powered then .next s
  else
    let r : ErrRec := ⟨5, 0x14, errCodeNone vm, unitReg, s.tq * 4, s.tFrac, 0, 0, s.tNs, s.infoOf Reg.PWR_EVENT⟩
    .next ((s.fatalStore r).wholeReset .reset)

/-- CFG_RESTART (R584, R592): CFG_CTRL with RESTART acts as RESET_N, with CODE 0x5A. -/
def execCfgRestart (w : Word) (s : State) : Host.Outcome State Fault Refusal :=
  .next (if Fld.CFG_CTRL_RESTART.get w = 1 ∧ Fld.CFG_CTRL_CODE.get w = 0x5A then s.wholeReset .reset else s)

/-! ### The equalisation table (R408 to R410) -/

/-- The default table of board `ix` (R410). -/
def eqDefault (ix : Nat) : List Byte :=
  toLE 2 1 ++ toLE 1 ix ++ List.replicate 13 0 ++ ((List.range 41).flatMap fun _ => ([0, 4, 6, 0] : List Byte)) ++
    List.replicate 76 0

/-- Table `b` can be used at place `ix` (R409): it is present, and its fields lie in their ranges. -/
def eqOk (b : List Byte) (ix : Nat) : Bool :=
  rd b 0 2 == 1 && rd b 2 1 == ix && (List.range 41).all fun n =>
    decide (rd b (16 + 4 * n) 1 ≤ 7 ∧ rd b (17 + 4 * n) 1 ≤ 15 ∧ rd b (18 + 4 * n) 1 ≤ 15)

/-- Lane `n` takes its entry of table `b` and leaves OFF, or is UNUSED. -/
def State.eqLane (s : State) (b : List Byte) (n : Nat) : State :=
  let e := 16 + 4 * n
  let a := Reg.LN_LANE_EQ n
  let s := if n = 40 then s
    else (s.setFld a Fld.LN_LANE_EQ_PRE (rd b e 1)).setFld a Fld.LN_LANE_EQ_POST (rd b (e + 1) 1)
  let s := (s.setFld a Fld.LN_LANE_EQ_CTLE (rd b (e + 2) 1)).setFld a Fld.LN_LANE_EQ_TABLE_CTLE (rd b (e + 2) 1)
  s.setLane n (if bit (rd b (e + 3) 1) 2 then 8 else 1)

/-- The EQ section `bs`, empty where absent, is applied: table BOARD_ID, or the default in its place. -/
def State.applyEq (s : State) (bs : List Byte) : State :=
  let ix := s.fld Reg.LN_STATUS Fld.LN_STATUS_BOARD_ID
  let t := (bs.drop (256 * ix)).take 256
  let ok := eqOk t ix
  let b := if ok then t else eqDefault ix
  let s := s.setTblBytes 0x01E00000 b
  let s := if ok then s
    else (s.setFld Reg.LN_STATUS Fld.LN_STATUS_EQ_DEFAULT 1).raise .corrected Reg.LN_EVENT Fld.LN_EVENT_EQ_DEFAULT 0
      unitCfg
  (List.range 41).foldl (fun s n => s.eqLane b n) s

/-! ### A failed image (R577, R578) -/

/-- Every lane sends NOT_READY with reason IMAGE, and the management lane Offline (R578). Lanes whose EQ section has not
been reached train under the default entry (R581). -/
def State.rescueLanes (s : State) : State :=
  let s := if s.laneRaw 0 = 0 then s.applyEq [] else s
  (List.range 12).foldl (fun s q => s.fill q) (s.setFld Reg.ING_STATUS Fld.ING_STATUS_READY 0)

/-- The image in use fails with `cause` in section `i` (R578): the primary gives way to the golden device, and
golden to RESCUE. -/
def State.imageFail (s : State) (cause i : Nat) : State :=
  if s.flag Reg.CFG_STATUS Fld.CFG_STATUS_SOURCE then
    let s := (s.setFld Reg.CFG_FAIL Fld.CFG_FAIL_GOLD_CAUSE cause).setFld Reg.CFG_FAIL Fld.CFG_FAIL_GOLD_SECT i
    let s := (s.onBoot fun b => { b with phase := .rescue, todo := [], rest := [], fwWait := false }).setFld
      Reg.CFG_STATUS Fld.CFG_STATUS_STATE 4
    (s.fatalBare Reg.CFG_EVENT cause unitCfg).rescueLanes
  else
    let s := (s.wholeReset .reset).setFld Reg.CFG_STATUS Fld.CFG_STATUS_SOURCE 1
    let s := (s.setFld Reg.CFG_FAIL Fld.CFG_FAIL_PRI_CAUSE cause).setFld Reg.CFG_FAIL Fld.CFG_FAIL_PRI_SECT i
    s.raise .degraded Reg.CFG_EVENT Fld.CFG_EVENT_GOLDEN_USED cause unitCfg

/-- Index of a section in the table of the image in use. -/
def State.sectIndex (s : State) (ty : Nat) : Nat := (s.boot.sects.findIdx? fun x => x.ty == ty).getD 0

/-- FIRMWARE_START_TIMEOUT (R577): firmware does not report running within 20 ms. -/
def execFirmwareStartTimeout (s : State) : Host.Outcome State Fault Refusal :=
  .next (if s.boot.fwWait ∧ s.boot.phase = .load then s.imageFail 9 (s.sectIndex sectFirmware) else s)

/-- The image in use has a section of type `ty`. -/
def State.hasSect (s : State) (ty : Nat) : Bool := s.boot.sects.any fun x => x.ty == ty

/-- The fabric's settings are in place, and it looks for its neighbours (R380, R581). -/
def State.fabDiscover (s : State) : State :=
  if s.fld Reg.FAB_STATUS Fld.FAB_STATUS_STATE = 0 then s.setFld Reg.FAB_STATUS Fld.FAB_STATUS_STATE 1 else s

/-- Firmware reports running, `us` µs after VIN good (R583). -/
def State.firmwareRuns (s : State) (us : Nat) : State :=
  if s.boot.fwWait then
    let s := ((s.onBoot fun b => { b with fwWait := false }).setFld Reg.CFG_STATUS Fld.CFG_STATUS_STATE 1).milestone 2 us
    if s.hasSect sectFabric then s else s.fabDiscover
  else s

/-! ### The lock (R580, R582) -/

/-- Sizes in MiB of record region, staging ring and bin pool in force. -/
def State.areaMib (s : State) : Nat × Nat × Nat :=
  (s.recSize / 2 ^ 20, s.ringSize / 2 ^ 20, s.poolBlocks / 1024)

/-- Sizes that leave the layer program region below 4,096 MiB take their reset values (R582). -/
def State.layoutCheck (s : State) : State :=
  let (r, g, p) := s.areaMib
  if 56320 < r + g + p + 4096 then
    let s := [Reg.CMP_REC_MIB, Reg.GY_RING_MIB, Reg.EXP_BINPOOL_SIZE].foldl
      (fun s a => s.setReg a (RegMap.resetWord a)) s
    (s.setFld Reg.CFG_STATUS Fld.CFG_STATUS_LAYOUT_DEFAULT 1).logErr .degraded 0x19 (errCodeNone 0) unitCfg
      (s.infoOf Reg.CFG_EVENT)
  else s

/-- The DRAM areas are placed (R582). -/
def State.placeAreas (s : State) : State :=
  let s := s.layoutCheck
  let (r, g, p) := s.areaMib
  let mib := 2 ^ 20
  let s := (s.setPair (Reg.CFG_AREA_BASE_LO 4) 0xDC0000000).setPair Reg.ING_DESC_BASE_LO 0xDC0000000
  let s := (s.setPair (Reg.CFG_AREA_BASE_LO 3) ((56320 - r) * mib)).setPair Reg.CMP_REC_BASE_LO ((56320 - r) * mib)
  let s := s.setPair (Reg.CFG_AREA_BASE_LO 2) ((56320 - r - g) * mib)
  let s := s.setPair (Reg.CFG_AREA_BASE_LO 1) ((56320 - r - g - p) * mib)
  (s.setPair (Reg.CFG_AREA_BASE_LO 0) 0).setRegN Reg.EXP_LP_SIZE (56320 - r - g - p)

/-- Time domain `d` starts with the lock (R338). -/
def State.domStart (s : State) (d : Nat) : State :=
  if s.domState d = 0 ∧ s.domSrc d ≠ 0 then s.setDom d 1 else s

/-- The source of axis `x` starts with the lock, at count 0 (R469, R476). -/
def State.fbStart (s : State) (x : Nat) : State :=
  if s.fbSrc x = 0 then s
  else
    let s := (s.onFb x fun _ => ⟨0, 0, noAngle, 0, 0, false, none, none, none, 0, none, []⟩).showCount x 0 0 false
    s.setFld (Reg.FB_AX_STATUS x) Fld.FB_AX_STATUS_STATE 2

/-- The band table of stepper `k` is checked (R454). -/
def State.bandCheck (s : State) (k : Nat) : State :=
  if s.bandsOk k then s else s.setFld (Reg.MP_AX_STATUS (k + 2)) Fld.MP_AX_STATUS_FAULT 6

/-- Head port `p` follows its PORT_EN bit once the image is loaded (R320). -/
def State.portEnable (s : State) (p : Nat) : State :=
  let on := bit (s.fld Reg.HP_CFG Fld.HP_CFG_PORT_EN) p
  if s.locked ∧ on ∧ s.portState p = 0 then (s.setPortState p 1).linkCheck p
  else if ¬ on ∧ s.portState p ≠ 0 ∧ ¬ (s.gy.swaths.any fun w => w.ports.contains p) = true then s.setPortState p 0
  else s

/-- Every head port follows its PORT_EN bit. -/
def State.portEnables (s : State) : State := (List.range 6).foldl (fun s p => s.portEnable p) s

/-- The configuration locks, `us` µs after VIN good (R580): RWL registers freeze, the DRAM areas are placed, and
what takes effect at the lock does. -/
def State.lockNow (s : State) (us : Nat) : State :=
  let s : State := { s with locked := true }
  let s := s.onBoot fun b => { b with phase := .run, lockHeld := false }
  let s := (s.setFld Reg.CFG_STATUS Fld.CFG_STATUS_LOCKED 1).setFld Reg.CFG_STATUS Fld.CFG_STATUS_STATE 3
  let s := (s.milestone 4 us).placeAreas
  let k := s.fld Reg.TB_CFG Fld.TB_CFG_SEL_INIT
  let s := s.setFld Reg.TB_STATUS Fld.TB_STATUS_SEL (if k = 3 then 2 else k)
  let s := (s.domStart 0).domStart 1
  let s := (List.range 6).foldl (fun s x => (s.fbStart x).showRaw x) s
  let s := (List.range 4).foldl (fun s k => s.bandCheck k) s
  let s := (List.range 4).foldl (fun s p =>
    if 2 ≤ s.fpState p then s.setMask (p + 1) (s.standby (p + 1)) else s) s
  let s := if s.hasSect sectCal ∨ s.pw.canary then s else s.calStart
  let s := s.clocksLow.portEnables
  ((List.range 11).foldl (fun s q => s.fill q) s).convFirst.showCal

/-- CONFIG_LOCK (R580, R583): the lock point has come, `us` µs after VIN good: MOTION is applied and DRAM has
trained. The management port is ready at `mgt`. With HOST_LOCK 1 the lock waits for LOCK. -/
def execConfigLock (us mgt : Nat) (s : State) : Host.Outcome State Fault Refusal :=
  if s.locked ∨ s.boot.phase ≠ .load ∨ s.boot.sects = [] ∨ s.boot.todo ≠ [] ∨
      ¬ s.flag Reg.DC_STATUS Fld.DC_STATUS_ALL_TRAINED then .next s
  else
    let s := ((s.firmwareRuns us).milestone 5 mgt).formMgt.fill 11
    if s.flag Reg.CFG_STATUS Fld.CFG_STATUS_HOST_LOCK ∧ ¬ s.boot.lockHeld then
      .next (s.setFld Reg.CFG_STATUS Fld.CFG_STATUS_STATE 2)
    else .next (s.lockNow us)

/-- CFG_LOCK (R580, R592): LOCK is written over `path`, `us` µs after VIN good. Before the lock point it is held;
with HOST_LOCK 0, or after the lock, it is ignored and flagged. -/
def execCfgLock (path : Path) (us : Nat) (s : State) : Host.Outcome State Fault Refusal :=
  if s.locked ∨ ¬ s.flag Reg.CFG_STATUS Fld.CFG_STATUS_HOST_LOCK then .next (s.accFlag path Reg.CFG_CTRL .refused)
  else if s.fld Reg.CFG_STATUS Fld.CFG_STATUS_STATE = 2 then .next (s.lockNow us)
  else .next (s.onBoot fun b => { b with lockHeld := true })

/-! ### New images (R588, R589) -/

/-- The staging window (R588). -/
def stagingWindow : Nat := 0x02000000

/-- An update operation runs. -/
def State.updBusy (s : State) : Bool := s.flag Reg.CFG_UPD_STATUS Fld.CFG_UPD_STATUS_BUSY

/-- Update operation `op` ends with RESULT `r` (R594). -/
def State.updEnd (s : State) (op r : Nat) : State :=
  let s := (s.setFld Reg.CFG_UPD_STATUS Fld.CFG_UPD_STATUS_LAST_OP op).setFld Reg.CFG_UPD_STATUS
    Fld.CFG_UPD_STATUS_RESULT r
  s.event Reg.CFG_EVENT (if r = 0 then Fld.CFG_EVENT_UPD_DONE else Fld.CFG_EVENT_UPD_FAIL)

/-- Update operation `op` begins. -/
def State.updBegin (s : State) (op : Nat) : State :=
  (s.setFld Reg.CFG_UPD_STATUS Fld.CFG_UPD_STATUS_LAST_OP op).setFld Reg.CFG_UPD_STATUS Fld.CFG_UPD_STATUS_BUSY 1

/-- UPD_PROGRAM (R588, R592): CFG_UPD_CTRL `w` with OP PROGRAM. The range and the CODE are judged as it begins;
UPD_PROGRAM_DONE ends it. -/
def execUpdProgram (w : Word) (s : State) : Host.Outcome State Fault Refusal :=
  if s.updBusy then .next (s.updEnd 1 1)
  else
    let dev := Fld.CFG_UPD_CTRL_DEV.get w
    let ofs := s.regN Reg.CFG_UPD_OFS
    let len := s.regN Reg.CFG_UPD_LEN
    let bad := if slotBytes < ofs + len ∨ ofs % 65536 ≠ 0 ∨ len % 256 ≠ 0 ∨ 1048576 < len then 2
      else if dev = 1 ∧ Fld.CFG_UPD_CTRL_CODE.get w ≠ 0x60 then 6 else 0
    let chunk := if bad = 0 then s.tblBytes stagingWindow len else []
    let s := s.onBoot fun b => { b with upd := some ⟨dev, ofs, chunk, bad⟩ }
    .next (s.updBegin 1)

/-- UPD_PROGRAM_DONE (R588): the sectors are erased, the chunk programmed and read back; `diffs` are bytes that read
back otherwise, as offset in the chunk and value. -/
def execUpdProgramDone (diffs : List (Nat × Byte)) (s : State) : Host.Outcome State Fault Refusal :=
  match s.boot.upd with
  | none => .next s
  | some u =>
    let s := (s.onBoot fun b => { b with upd := none }).setFld Reg.CFG_UPD_STATUS Fld.CFG_UPD_STATUS_BUSY 0
    if u.bad ≠ 0 then .next (s.updEnd 1 u.bad)
    else
      let bs := diffs.foldl (fun l d => l.set d.1 d.2) u.chunk
      let f := flashPut (s.flash u.dev) u.ofs (u.ofs + divUp u.chunk.length 4096 * 4096) bs
      let s := s.onBoot fun b => { b with
        flash := b.flash.set u.dev f
        checked := b.checked && u.dev != 0 }
      .next (s.updEnd 1 (if bs = u.chunk then 0 else 3))

/-- UPD_CHECK (R589, R592): CFG_UPD_CTRL `w` with OP CHECK; `readFail`, a read does not complete. -/
def execUpdCheck (w : Word) (readFail : Bool) (s : State) : Host.Outcome State Fault Refusal :=
  if s.updBusy then .next (s.updEnd 2 1)
  else
    let dev := Fld.CFG_UPD_CTRL_DEV.get w
    let c := if readFail then 1 else s.checkImage (s.flash dev)
    let s := s.setFld Reg.CFG_UPD_STATUS Fld.CFG_UPD_STATUS_CHECK_CAUSE c
    let s := if dev = 0 then s.onBoot fun b => { b with checked := c == 0 } else s
    .next (s.updEnd 2 (if c = 0 then 0 else 4))

/-! ### Hand-over (R590) -/

/-- The two spare cores load and check the new FIRMWARE in about 121 ms (R590); in ticks of 1 ns. DESIGN CHOICE
(log entry 69): exactly. -/
def firmwareLoadTicks : Nat := 121000000

/-- UPD_HANDOVER (R590): OP HANDOVER. -/
def execUpdHandover (s : State) : Host.Outcome State Fault Refusal :=
  if s.updBusy ∨ s.boot.hand.isSome = true then .next (s.updEnd 3 1)
  else if ¬ s.boot.checked then .next (s.updEnd 3 4)
  else if rd (imgHead (s.flash 0)) 20 2 ≠ s.boot.iface then .next (s.updEnd 3 5)
  else if (s.coresIn 1).length < 2 then .next (s.updEnd 3 1)
  else
    let s := s.onBoot fun b => { b with hand := some ⟨0, false, false, s.clk.ticks + firmwareLoadTicks⟩ }
    let s := (s.updBegin 3).setFld Reg.CFG_UPD_STATUS Fld.CFG_UPD_STATUS_HANDOVER 1
    .next (s.setFld Reg.CFG_UPD_STATUS Fld.CFG_UPD_STATUS_ROLES_MOVED 0)

/-- UPD_ABORT_HANDOVER (R590): OP ABORT_HANDOVER ends the hand-over that runs. -/
def execUpdAbortHandover (s : State) : Host.Outcome State Fault Refusal :=
  if s.flag Reg.CFG_UPD_STATUS Fld.CFG_UPD_STATUS_HANDOVER then
    .next (s.handAbort.setFld Reg.CFG_UPD_STATUS Fld.CFG_UPD_STATUS_LAST_OP 4)
  else .next s

/-- Role `r` moves onto core `n`, and its core becomes SPARE. -/
def State.swapRole (s : State) (r n : Nat) : State :=
  match s.coreOf r with
  | some c => ((s.setCore c 1 15).setCore n 0 r).shadowRestart r
  | none => s

/-- The `k`-th pair of roles moves onto the spare cores; with one spare, the second takes the core that the first
has left. -/
def State.movePair (s : State) (k : Nat) : State :=
  match s.coresIn 1, s.coreOf (2 * k) with
  | a :: b :: _, _ => (s.swapRole (2 * k) a).swapRole (2 * k + 1) b
  | [a], some c => (s.swapRole (2 * k) a).swapRole (2 * k + 1) c
  | _, _ => s

/-- The sections beside FIRMWARE of two images differ by CRC (R590). -/
def partialDiff (a b : List Sect) : Bool :=
  let keys := fun (l : List Sect) => (l.filter fun x => x.ty != sectFirmware).map fun x => (x.ty, x.crc)
  !((keys a).all fun x => (keys b).contains x) || !((keys b).all fun x => (keys a).contains x)

/-- The hand-over is complete (R590). -/
def State.handDone (s : State) : State :=
  let f := s.flash 0
  let hd := imgHead f
  let new := (imgSects f).filter fun x => x.ty == sectFirmware
  let s := s.onBoot fun b => { b with
    hand := none
    iface := rd hd 20 2
    copy := new.map (fun x => (x, flashAt f x.ofs x.len)) ++ b.copy.filter fun e => e.1.ty != sectFirmware
    sects := b.sects.map fun x => if x.ty == sectFirmware then new.headD x else x }
  let s := (s.putCopy.setRegN Reg.GLB_FW_VERSION (rd hd 16 4)).setFld Reg.CFG_UPD_STATUS Fld.CFG_UPD_STATUS_HANDOVER 0
  let s := (s.setFld Reg.CFG_UPD_STATUS Fld.CFG_UPD_STATUS_BUSY 0).setFld Reg.CFG_UPD_STATUS
    Fld.CFG_UPD_STATUS_PARTIAL (b2n (partialDiff s.boot.sects (imgSects f)))
  (s.event Reg.CFG_EVENT Fld.CFG_EVENT_HANDOVER_DONE).updEnd 3 0

/-- No swath is captured or later, so that a move happens at once (R590). -/
def State.noSwath (s : State) : Bool := s.gy.swaths.isEmpty

/-- Cores that ERR_CORE_CTRL OUT has named leave at the layer boundary, or at once with no swath captured or later
(R590, R658). -/
def State.outRequests (s : State) : State :=
  (s.cores.outReq.filter fun n => s.cores.bound.contains n || s.noSwath).foldl (fun s n => s.coreLeaves n 4) s

/-- The hand-over `h` may move its next pair (R590): its firmware is loaded, and the layer boundary has come or no
swath is captured or later. -/
def State.mayMove (s : State) (h : FwMove) : Bool := decide (h.loaded ≤ s.clk.ticks) && (h.due || s.noSwath)

/-- HANDOVER_ROLE_MOVE (R590, R658): the moves that the layer boundary lets happen. -/
def execHandoverRoleMove (s : State) : Host.Outcome State Fault Refusal :=
  let s := s.outRequests
  match s.boot.hand with
  | none => .next s
  | some h =>
    if ¬ s.mayMove h then .next s
    else
      if h.abort then
        let s := s.movePair (h.moves - 1)
        let s := s.onBoot fun b => { b with
          hand := if h.moves ≤ 1 then none else some ⟨h.moves - 1, true, false, h.loaded⟩ }
        .next (s.setFld Reg.CFG_UPD_STATUS Fld.CFG_UPD_STATUS_ROLES_MOVED (2 * (h.moves - 1)))
      else
        let s := (s.movePair h.moves).setFld Reg.CFG_UPD_STATUS Fld.CFG_UPD_STATUS_ROLES_MOVED (2 * (h.moves + 1))
        if 4 ≤ h.moves then .next s.handDone
        else .next (s.onBoot fun b => { b with hand := some ⟨h.moves + 1, false, false, h.loaded⟩ })

/-! ### OTP (R591) -/

/-- OTP_PROGRAM (R591): CFG_OTP_CTRL `w`. -/
def execOtpProgram (w : Word) (s : State) : Host.Outcome State Fault Refusal :=
  if Fld.CFG_OTP_CTRL_OP.get w ≠ 1 ∨ Fld.CFG_OTP_CTRL_CODE.get w ≠ 0x3C then .next s
  else
    let st := s.fld Reg.EXP_ZLS_STATUS Fld.EXP_ZLS_STATUS_STATE
    if s.boot.otp.isSome = true ∨ s.boot.otpNext.isSome = true ∨ (st ≠ 0 ∧ st ≠ 5) then
      .next (s.setFld Reg.CFG_OTP_STATUS Fld.CFG_OTP_STATUS_FAIL 1)
    else
      let k := (List.range 8).flatMap fun i => toLE 4 (s.regN (Reg.CFG_OTP_HASH i))
      let s := s.onBoot fun b => { b with otpNext := some k }
      .next ((s.setFld Reg.CFG_OTP_STATUS Fld.CFG_OTP_STATUS_FAIL 0).setFld Reg.CFG_OTP_STATUS
        Fld.CFG_OTP_STATUS_BUSY 1)

/-- OTP_PROGRAM_DONE (R591): about 50 ms later the hash is programmed, or programming has failed. -/
def execOtpProgramDone (ok : Bool) (s : State) : Host.Outcome State Fault Refusal :=
  match s.boot.otpNext with
  | none => .next s
  | some k =>
    let s := s.setFld Reg.CFG_OTP_STATUS Fld.CFG_OTP_STATUS_BUSY 0
    if ok then .next (s.onBoot fun b => { b with otp := some k, otpNext := none }).showKey
    else .next ((s.onBoot fun b => { b with otpNext := none }).setFld Reg.CFG_OTP_STATUS
      Fld.CFG_OTP_STATUS_FAIL 1)

end Sys2Proof.Machine
end

