-- ==== Sys2Proof/Machine/Power.lean ====
section
/-! DEFINITION. Power states, requests, steps, core voltage, DEEP and wake (R595 to R612), and the capture of a
swath (R269), which waits for RUN. -/

namespace Sys2Proof.Machine

open Sys2Proof.Bits

/-- The state with the power data changed by `f`. -/
def State.onPw (s : State) (f : Power → Power) : State := { s with pw := f s.pw }

/-- Current state, target and pending request of PWR_STATUS (R595, R612). -/
def State.pwrCur (s : State) : Nat := s.fld Reg.PWR_STATUS Fld.PWR_STATUS_CUR
def State.pwrTarget (s : State) : Nat := s.fld Reg.PWR_STATUS Fld.PWR_STATUS_TARGET
def State.pwrPending (s : State) : Nat := s.fld Reg.PWR_STATUS Fld.PWR_STATUS_PENDING
def State.pwrBusy (s : State) : Bool := s.flag Reg.PWR_STATUS Fld.PWR_STATUS_BUSY

/-- A VCORE request of `mv` goes out (R600); VM0 to VM4 are not valid until it ends (R615). -/
def State.askVcore (s : State) (mv : Nat) : State :=
  ((s.onPw fun p => { p with vreq := some mv, vok := false }).setFld Reg.PWR_VCORE Fld.PWR_VCORE_REQ_MV mv).hmInvalid
    [16, 17, 18, 19, 20]

/-! ### Step conditions (R597, R598) -/

/-- The REFUSE cause of the step from `a` to `b`; 0 where it may start. -/
def State.stepCause (s : State) (a b : Nat) : Nat :=
  if b = 4 ∨ b < a then 0
  else if a ≤ 1 ∧ ¬ s.gy.swaths.isEmpty then 1
  else if a = 1 ∧ ¬ s.ver.ctxs.isEmpty then 2
  else if a = 2 then
    let st := s.fld Reg.EXP_ZLS_STATUS Fld.EXP_ZLS_STATUS_STATE
    if st ≠ 0 ∧ st ≠ 5 then 3
    else if ((List.range 8).any fun c => s.chSt c == 1 || s.chSt c == 2) = true then 4
    else if ((List.range 6).any fun x => decide (1 < s.axState x)) = true then 5
    else if s.updBusy ∨ s.boot.hand.isSome = true then 6
    else if s.dram.copying.isSome = true then 7
    else 0
  else 0

/-! ### DEEP (R605, R606) -/

/-- A lane of port `q` starts to leave LD, on the mask it knows or, after DEEP, on its kept step alone. -/
def State.leaveLd (s : State) (q : Nat) : State :=
  if s.portMask q ≠ 0 then s.wakePort q true
  else (lanesOf q).foldl (fun s n =>
    if s.laneRaw n = 6 then (s.onLane n fun x => { x with exiting := true }).emit (.wake n) else s) s

/-- Slots ARMED or DISPATCHED are cleared (R355). -/
def State.clearSlots (s : State) : State :=
  if s.slotsBusy then
    let s := (List.range 256).foldl (fun s n => if s.slotSt n = 1 ∨ s.slotSt n = 2 then s.setSlot n 6 else s) s
    ({ s with due := [] } : State).event Reg.TA_EVENT Fld.TA_EVENT_DEEP_CLEARED
  else s

/-- GLB_STATUS as its sources stand (R682). -/
def State.glbStatus (s : State) : Nat :=
  s.fld Reg.CFG_STATUS Fld.CFG_STATUS_STATE + 16 * s.pwrCur + 128 * b2n (s.flag Reg.ERR_STATUS Fld.ERR_STATUS_FATAL) +
    256 * b2n s.alert + 512 * s.tq

/-- A register of a timed-action slot that is CLEARED: the AON memory takes slots in other states (R605). -/
def State.slotLost (s : State) (a : Nat) : Bool :=
  decide (0x28000 ≤ a ∧ a < 0x2A000 ∧ a % 32 ≠ 0x18) && s.slotSt ((a - 0x28000) / 32) == 6

/-- Registers that keep their value through DEEP: identity, lanes, DRAM, the record, power, health, calibration,
the error log, configuration and management blocks, the timed-action slots and the learned ratio (R605, R606). -/
def deepKeeps (a : Nat) : Bool :=
  [0x00, 0x04, 0x11, 0x12, 0x13, 0x14, 0x15, 0x16, 0x17, 0x19, 0x1A].contains (a / 0x10000) ||
    decide (0x28000 ≤ a ∧ a < 0x2A000) || a == Reg.TB_AON_RATIO_LO || a == Reg.TB_AON_RATIO_HI

/-- Table windows that last through DEEP, as DRAM and the image copy keep them: the equalisation table in force (R410), the
page remap table, the layer index and the calibration points and trims. -/
def deepTables (a : Nat) : Bool := decide (0x01E00000 ≤ a ∧ a < 0x01F00000)

/-- Every lane of port `q` that could run goes to LD; a request that its partner has not answered was refused (R418, R605,
R610). -/
def State.laneLd (s : State) (q : Nat) : State :=
  let s := if (s.pwrReq q).isSome then s.event Reg.LN_EVENT Fld.LN_EVENT_PWR_REFUSED else s
  ((lanesOf q).foldl (fun s n => if s.laneRaw n = 0 ∨ 7 ≤ s.laneRaw n then s else s.setLane n 6) s).endReq q

/-- The error-log ring is copied to the mirror (R605). -/
def State.mirrorRing (s : State) : State :=
  if ¬ s.inited errMirror then s
  else s.ringSeqs.foldl (fun s q => match s.ringAt q with
    | some e => s.mirrorRec e.record
    | none => s) s

/-- DEEP is entered at AON count `aon` (R344, R605): what the rails lose is as after reset; DRAM, the AON memory and
what has been written into the reserve stand, and so does the selection, by which TQ is told after the wake (R345). -/
def State.enterDeep (s : State) (aon : Nat) : State :=
  let s := ((List.range 12).foldl (fun s q => s.laneLd q) s).mirrorRing.clearSlots
  let s := (List.range 105).foldl (fun s t => if s.calBusy t then s.calEnd t else s) (s.flipsKeep fun _ => false)
  let t := State.reset
  let clk : Clock := { s.clk with
    deepT0 := s.now16, deepC0 := aon, deepInvalid := s.tq == 0, deepHeld := true, pllLocked := false, slewRem := 0 }
  let u : State := { s with
    regs := s.regs.filter fun e => deepKeeps e.1 && !s.slotLost e.1
    tables := s.tables.filter fun e => deepTables e.1
    locked := false
    paths := []
    cores := t.cores
    units := t.units
    rows := []
    surveys := []
    parser := t.parser
    ver := t.ver
    beams := t.beams
    gy := { t.gy with estop := s.gy.estop }
    cache := []
    pins := []
    motion := t.motion
    clk := clk
    hp := t.hp
    doms := t.doms
    due := []
    fab := t.fab
    ing := t.ing }
  let u := u.setFld Reg.TB_STATUS Fld.TB_STATUS_SEL s.sel
  let u := if s.gy.estop then u.setFld Reg.GY_STATUS Fld.GY_STATUS_ESTOP 1 else u
  (u.setRegN Reg.GLB_STATUS s.glbStatus).count Reg.PWR_DEEP_COUNT 1

/-! ### Steps (R599) -/

/-- The step from `a` to `b` starts. -/
def State.stepStart (s : State) (a b : Nat) : State :=
  let s := s.onPw fun p => { p with step := some (a, b), vreq := none, vok := true }
  if b = 4 then s.disableAll.holdPads
  else match a, b with
    | 0, _ => s.clocksLow.askVcore 750
    | 1, 0 => s.askVcore 850
    | 1, _ =>
      let s := (List.range 6).foldl (fun s p => s.askPwr (5 + p) 2 true) s
      let s := s.flipsKeep fun a => decide (sramFiring < a)
      let s : State := { s with cache := [], pins := [], gy := { s.gy with pos := State.reset.gy.pos } }
      (s.setFld Reg.PWR_HOLD Fld.PWR_HOLD_FIRE 1).askVcore 700
    | 2, 1 => s.askVcore 750
    | 2, _ =>
      let s := s.disableAll.holdPads.clearSlots
      let s := (List.range 5).foldl (fun s q => s.askPwr q 2 true) s
      s.onPw fun p => { p with canary := true }
    | _, _ => s.askVcore 700

/-- Head port `p` leaves LD, and where it was in service passes through ENUM again (R599, R610). -/
def State.headWake (s : State) (p : Nat) : State :=
  let s := if 2 ≤ s.portState p ∧ s.portState p ≤ 6 then s.onPort p fun x => { x with toEnum := true } else s
  s.leaveLd (5 + p)

/-- What the step in progress does once its voltage is acknowledged: on the way up from HOLD the head ports leave LD
(R599). -/
def State.stepVolt (s : State) : State := if s.pw.step = some (2, 1) then (List.range 6).foldl (fun s p => s.headWake p) s
  else s

/-- The transition is over: done, refused or abandoned. TARGET shows the state held (the example of R603). -/
def State.stepNone (s : State) : State :=
  let s := s.onPw fun p => { p with step := none, vreq := none, vok := false }
  (s.setFld Reg.PWR_STATUS Fld.PWR_STATUS_BUSY 0).setFld Reg.PWR_STATUS Fld.PWR_STATUS_TARGET s.pwrCur

/-- The rest of a transition that was asked for over the running path is refused with `c` (R597). -/
def State.pwrRefuse (s : State) (path : Path) (c : Nat) : State :=
  ((s.event Reg.PWR_EVENT Fld.PWR_EVENT_REFUSED).setFld Reg.PWR_STATUS Fld.PWR_STATUS_REFUSE c).accFlag path
    Reg.PWR_CTRL .refused

/-- The next step of the transition starts, or its condition refuses the rest (R597); whether it started. -/
def State.nextStep (s : State) : Bool × State :=
  let a := s.pwrCur
  let t := s.pwrTarget
  let b := if t = 4 then 4 else if a < t then a + 1 else a - 1
  match s.stepCause a b with
  | 0 => (true, s.stepStart a b)
  | c => (false, s.stepNone.pwrRefuse s.pw.path c)

/-- A transition to `t` starts (R603). -/
def State.pwrStart (s : State) (path : Path) (t : Nat) : Bool × State :=
  let s := (s.setFld Reg.PWR_STATUS Fld.PWR_STATUS_TARGET t).setFld Reg.PWR_STATUS Fld.PWR_STATUS_BUSY 1
  (s.onPw fun p => { p with path := path }).nextStep

/-- A transition has ended, and the pending request starts (R603). -/
def State.pwrPend (s : State) : State :=
  let p := s.pwrPending
  let path := s.pw.pendPath
  let s := s.setFld Reg.PWR_STATUS Fld.PWR_STATUS_PENDING 7
  if p = 7 ∨ p = s.pwrCur then s
  else if s.flag Reg.PWR_STATUS Fld.PWR_STATUS_LOCKOUT ∧ p ≠ 4 then s.pwrRefuse path 8
  else (s.pwrStart path p).2

/-! ### Requests (R602, R603) -/

/-- A request for state `t` over `path` is queued (R603); false where the lockout of R601 fails it. -/
def State.pwrQueue (s : State) (path : Path) (t : Nat) : Bool × State :=
  if s.flag Reg.PWR_STATUS Fld.PWR_STATUS_LOCKOUT ∧ t ≠ 4 then (false, s.pwrRefuse path 8)
  else if ¬ s.pwrBusy then
    if t = s.pwrCur then (true, s.event Reg.PWR_EVENT Fld.PWR_EVENT_DONE)
    else
      let (ok, s) := s.pwrStart path t
      (true, if ok then s else s.pwrPend)
  else if t = s.pwrTarget then (true, s)
  else if s.pwrPending = 4 then (true, s.event Reg.PWR_EVENT Fld.PWR_EVENT_OVERWRITTEN)
  else
    let s := if s.pwrPending = 7 then s else s.event Reg.PWR_EVENT Fld.PWR_EVENT_OVERWRITTEN
    (true, (s.onPw fun p => { p with pendPath := path }).setFld Reg.PWR_STATUS Fld.PWR_STATUS_PENDING t)

/-- A request for state code `t` with `code` over `path` (R602). -/
def State.pwrRequest (s : State) (path : Path) (t code : Nat) : Bool × State :=
  if 5 ≤ t ∨ (t = 4 ∧ code ≠ 0xA5) then (false, s.accFlag path Reg.PWR_CTRL .refused)
  else s.pwrQueue path t

/-- WAKE_STATE in force (R612). -/
def State.wakeState (s : State) : Nat := if s.fld Reg.PWR_CFG Fld.PWR_CFG_WAKE_STATE = 2 then 2 else 1

/-- A wake event with source `src` and lane `lane` is qualified (R609, R610). Of two in one AON cycle, here 40 TB ticks
(log entry 75), SOURCE shows the lower code. -/
def State.wakeEvent (s : State) (src lane : Nat) : State :=
  let c := s.pwrCur
  if c ≤ 1 then s.event Reg.PWR_EVENT Fld.PWR_EVENT_WAKE_IGNORED
  else if 4 ≤ c then s
  else
    let was := s.fld Reg.PWR_WAKE_STATUS Fld.PWR_WAKE_STATUS_SOURCE
    let s := if was ≠ 0 ∧ was ≤ src ∧ s.pw.wokeAt = s.clk.ticks / 40 then s
      else s.setRegN Reg.PWR_WAKE_STATUS (src + 16 * lane)
    let s := s.onPw fun p => { p with wokeAt := s.clk.ticks / 40 }
    let s := s.event Reg.PWR_EVENT Fld.PWR_EVENT_WAKE
    (s.pwrQueue .firmware (if c = 3 ∨ s.pw.step = some (2, 3) then s.wakeState else 1)).2

/-- POWER acts (R348, R602, R603). -/
def State.powerAct (s : State) (arg0 _arg1 : Nat) : Bool × State := s.pwrRequest .action (arg0 % 8) (bits arg0 8 8)

/-- POWER actions whose instant has come are taken, before a PWR_CTRL write of the cycle (R610). -/
def State.powerDue (s : State) : State :=
  (s.dueOrder.filter fun d => s.slotCode d.slot == 5 && decide (d.act ≤ s.now16)).foldl (fun s d =>
    if s.due.contains d then s.actDue d true State.powerAct else s) s

/-- PWR_REQUEST (R602, R603, R609, R610): PWR_CTRL is written `w` over `path`. In DEEP the write over the SPI target is a
wake event too; in OFF nothing runs (R595, R608). -/
def execPwrRequest (path : Path) (w : Word) (s : State) : Host.Outcome State Fault Refusal :=
  if s.pwrCur = 4 then .next s else
  let s := s.powerDue
  let t := Fld.PWR_CTRL_REQ.get w
  let code := Fld.PWR_CTRL_CODE.get w
  let off := decide (Fld.PWR_CTRL_GO.get w = 1 ∧ t = 4 ∧ code = 0xA5)
  let s := if s.pwrCur = 3 ∧ path = .spi ∧ ¬ off then s.wakeEvent 5 0 else s
  if Fld.PWR_CTRL_GO.get w = 0 then .next s else .next (s.pwrRequest path t code).2

/-- IDLE_AFTER_TIMEOUT (R596): IDLE_AFTER_MS have passed in RUN with no swath captured. -/
def execIdleAfterTimeout (s : State) : Host.Outcome State Fault Refusal :=
  if s.pwrCur = 0 ∧ s.fld Reg.PWR_CFG Fld.PWR_CFG_IDLE_AFTER_MS ≠ 0 ∧ s.gy.swaths.isEmpty then
    .next (s.pwrQueue .firmware 1).2
  else .next s

/-- WAKE_PIN (R609, R612): WAKE`i` has been at `high` for `us` µs: enabled, at its active level, and for QUAL_US at least, it is
a wake event. -/
def execWakePin (i : Fin 2) (high : Bool) (us : Nat) (s : State) : Host.Outcome State Fault Refusal :=
  .next (if bit (s.fld Reg.PWR_WAKE_CFG Fld.PWR_WAKE_CFG_PIN_EN) i ∧
      bit (s.fld Reg.PWR_WAKE_CFG Fld.PWR_WAKE_CFG_PIN_HIGH) i = high ∧
      s.fld Reg.PWR_WAKE_CFG Fld.PWR_WAKE_CFG_QUAL_US ≤ us then s.wakeEvent (1 + i.val) 0 else s)

/-- WAKE_TIMER (R609): PWR_WAKE_TIMER ms have passed in DEEP. -/
def execWakeTimer (s : State) : Host.Outcome State Fault Refusal :=
  .next (if s.pwrCur = 3 ∧ s.regN Reg.PWR_WAKE_TIMER ≠ 0 then s.wakeEvent 4 0 else s)

/-- WAKE_PATTERN_DETECT (R419, R420, R425, R609): activity on lane `n`, or with `full` a complete WAKE pattern, while the port
sleeps. In LS the receiver runs, and any activity ends it; the wake mode is the detector's, for LD (R419, R425; DEDUCED, log
entry 64). On the way into LD the port leaves it at once. -/
def execWakePatternDetect (n : Fin 41) (full : Bool) (s : State) : Host.Outcome State Fault Refusal :=
  let q := lanePort n
  if ¬ s.asleep (portLanes q).1 (portLanes q).2 then
    .next (if s.wakeOnly q ∧ ¬ full then s else s.energyIn q)
  else if s.wakeOnly q ∧ ¬ full ∧ s.laneRaw n ≠ 5 then .next (s.event Reg.LN_EVENT Fld.LN_EVENT_WAKE_NOISE)
  else
    let on := bit (s.regN Reg.PWR_WAKE_CFG) (12 + q)
    let c := s.pwrCur
    let s := if c = 3 then s else s.wakePort q false
    if on ∧ (c ≠ 2 ∨ (5 ≤ q ∧ q < 11)) then .next (s.wakeEvent 3 n) else .next s

/-! ### Voltage and completion (R599 to R601) -/

/-- VCORE_POLL (R600): READ_VOUT reads `mv`, and STATUS_WORD shows a fault or none. -/
def execVcorePoll (mv : Nat) (fault : Bool) (s : State) : Host.Outcome State Fault Refusal :=
  match s.pw.vreq with
  | none => .next s
  | some r =>
    if s.pw.vok ∨ fault ∨ r < 50 * (mv - r) ∨ r < 50 * (r - mv) then .next s
    else
      let s := s.onPw fun p => { p with vok := true, fails := 0 }
      .next ((s.setFld Reg.PWR_VCORE Fld.PWR_VCORE_ACK_MV r).setRegN (Reg.HM_CH_REF 16) r).stepVolt

/-- What an abandoned step has done is undone: the module stays in the state before it (R601). -/
def State.stepUndo (s : State) : State :=
  if s.pw.step = some (0, 1) then s.clocksUp
  else if s.pw.step = some (1, 2) then
    let asleep := (List.range 6).filter fun p => s.asleep (16 + 4 * p) 4
    let s := (List.range 6).foldl (fun s p => s.endReq (5 + p)) s
    let s := asleep.foldl (fun s p => s.headWake p) s
    s.setFld Reg.PWR_HOLD Fld.PWR_HOLD_FIRE 0
  else s

/-- VCORE_TIMEOUT (R601): 2 ms without an acknowledgement. -/
def execVcoreTimeout (s : State) : Host.Outcome State Fault Refusal :=
  if s.pw.vreq.isNone ∨ s.pw.vok then .next s
  else
    let k := s.pw.fails + 1
    let s := s.setFld Reg.PWR_VCORE Fld.PWR_VCORE_REQ_MV (s.fld Reg.PWR_VCORE Fld.PWR_VCORE_ACK_MV)
    let s := (s.stepUndo.stepNone.onPw fun p => { p with fails := k }).count Reg.PWR_VREQ_FAILS 1
    if 3 ≤ k then
      .next ((s.setFld Reg.PWR_STATUS Fld.PWR_STATUS_LOCKOUT 1).fatal Reg.PWR_EVENT Fld.PWR_EVENT_VREQ_TIMEOUT 0
        unitPower).pwrPend
    else .next (s.raise .degraded Reg.PWR_EVENT Fld.PWR_EVENT_VREQ_TIMEOUT 0 unitPower).pwrPend

/-- State `b` is reached (R599): in RUN the clusters run at their AVS points, in IDLE they stand at their lowest (R595). -/
def State.stepReach (s : State) (b : Nat) : State :=
  let s := (s.setFld Reg.PWR_STATUS Fld.PWR_STATUS_CUR b).count Reg.PWR_TRANSITIONS 1
  let s := s.onPw fun p => { p with step := none, vreq := none }
  let s := if b = 0 then s.clocksUp else if b = 1 then s.clocksLow else s
  let s := s.hmInvalid ((List.range 56).filter (hmUnpowered b))
  if b = s.pwrTarget then
    let s := if b = 0 then s.setFld Reg.PWR_STATUS Fld.PWR_STATUS_CAPTURE_WAIT 0 else s
    (s.stepNone.event Reg.PWR_EVENT Fld.PWR_EVENT_DONE).pwrPend
  else
    let (ok, s) := s.nextStep
    if ok then s else s.pwrPend

/-- PWR_STEP_DONE (R597, R599, R603, R605, R608): the step in progress completes, once its voltage is acknowledged
and, on the way out of DEEP, DRAM is retrained. `aon`: the AON count. -/
def execPwrStepDone (aon : Nat) (s : State) : Host.Outcome State Fault Refusal :=
  match s.pw.step with
  | none => .next s
  | some (a, b) =>
    if ¬ s.pw.vok ∨ (a = 3 ∧ b = 2 ∧ s.pw.canary) then .next s
    else if b = 4 then
      let s := s.wholeReset .unpowered
      .next ((s.setFld Reg.PWR_STATUS Fld.PWR_STATUS_CUR 4).setFld Reg.PWR_STATUS Fld.PWR_STATUS_TARGET 4)
    else if b = 3 then .next ((s.enterDeep aon).stepReach 3)
    else
      let s := if a = 2 then (s.setFld Reg.PWR_HOLD Fld.PWR_HOLD_FIRE 0).hmRestart.convFirst
        else if a = 3 then s.hmRestart.convFirst
        else if b = 2 then (List.range 6).foldl (fun s p => s.laneLd (5 + p)) s
        else s
      .next (s.stepReach b).chSettle

/-! ### Capture (R269, R596) -/

/-- The swath whose capture is due under R269, apart from the power state. -/
def State.captureDue (s : State) : Option (Layer × SwathEntry × Survey) :=
  match s.jobLayers.find? fun l => !l.stopped && decide (l.captured < l.plan.length) with
  | none => none
  | some l =>
    let others := s.gy.swaths.any fun w => !w.state.running' || s.jobOf w != some l.job.no
    if others ∨ ¬ s.flag Reg.BM_STATUS Fld.BM_STATUS_VALID ∨ s.flag Reg.BM_STATUS Fld.BM_STATUS_EDIT then none
    else match l.entry l.captured, s.surveys.find? fun v => v.layer == l.seq && v.swath == l.captured && v.done with
      | some e, some v => some (l, e, v)
      | _, _ => none

/-- The module is in RUN, and does not leave it. -/
def State.inRun (s : State) : Bool :=
  s.pwrCur == 0 && (match s.pw.step with
    | some _ => false
    | none => true)

/-- SWATH_CAPTURE (R231, R269, R596): the capture tick, or outside RUN a capture that waits for it. -/
def execSwathCapture (s : State) : Host.Outcome State Fault Refusal :=
  match s.captureDue with
  | none => .next s
  | some (l, e, v) =>
    if s.inRun then .next (s.settleStop ((s.setFld Reg.PWR_STATUS Fld.PWR_STATUS_CAPTURE_WAIT 0).captureSwath l e v))
    else
      let s := s.setFld Reg.PWR_STATUS Fld.PWR_STATUS_CAPTURE_WAIT 1
      if s.flag Reg.PWR_CFG Fld.PWR_CFG_AUTO_RUN then .next (s.pwrQueue .firmware 0).2 else .next s

end Sys2Proof.Machine
end

