-- ==== Sys2Proof/Machine/Health.lean ====
section
/-! DEFINITION. Fumarole samples and the actions of levels (R614 to R619), and the calibration commands, timers and
results (R621 to R631). -/

namespace Sys2Proof.Machine

open Sys2Proof.Bits

/-! ### Samples (R614 to R617, R619) -/

/-- Channel `c` enters level `n` (1 to 3) from level `old` with the quantity `q` (R616, R617, R619). -/
def State.hmEnter (s : State) (c old n : Nat) (q : Int) : State :=
  let side := b2n (match s.hmLo c (n - 1) with | some v => decide (q < v) | none => false)
  let s := (s.setFld (Reg.HM_CH_STATUS c) Fld.HM_CH_STATUS_LEVEL n).setFld (Reg.HM_CH_STATUS c)
    Fld.HM_CH_STATUS_SIDE side
  let info := twos 16 q + 65536 * n + 2 ^ 18 * side
  let stop := (List.range n).any fun l => decide (old ≤ l) && s.hmAct c l == 2
  let off := (List.range n).any fun l => decide (old ≤ l) && s.hmAct c l == 3
  let s := s.showLevels.throttleCheck.holdCheck
  let s := if n = 1 then s.raiseInfo .corrected Reg.HM_EVENT Fld.HM_EVENT_WARN 0 (unitHm c) info
    else if n = 2 then
      s.raiseInfo (if s.hmAct c 1 = 2 then .stopping else .degraded) Reg.HM_EVENT Fld.HM_EVENT_CRIT 0 (unitHm c) info
    else (s.raiseInfo .fatal Reg.HM_EVENT Fld.HM_EVENT_SHUT 0 (unitHm c) info).fatalStop.setRegN Reg.HM_SHUT_CAUSE
      (c + 64 * side + 128 + 256 * twos 16 q)
  let s := if stop then s.settleStop (s.stopFiring 3) else s
  if off then (s.pwrRequest .firmware 4 0xA5).2 else s

/-- Channel `c` holds `x` and stands at its level, having compared `q`. -/
def State.hmSettle (s : State) (c : Nat) (x : HmChan) (q : Int) : State :=
  let old := s.hmLevel c
  let s : State := { s with hm := s.hm.set c x }
  if old < x.level then s.hmEnter c old x.level q
  else if x.level < old then
    let s := s.setFld (Reg.HM_CH_STATUS c) Fld.HM_CH_STATUS_LEVEL x.level
    (s.showLevels.throttleCheck.holdCheck).event Reg.HM_EVENT Fld.HM_EVENT_CLEAR
  else s

/-- DEV of the value `v` against the reference `r` (R614). Where the rule gives none (a reference of 0, or a result
that is no s16) it is free. -/
def State.hmDev (s : State) (v r : Int) : Int × State :=
  let d := divHalfUp (1000 * (v - r)) r.natAbs
  if r = 0 ∨ d < -32768 ∨ 32767 < d then
    let (x, s) := s.freeI
    (wrapS 16 x, s)
  else (d, s)

/-- Sample `v` of channel `c` with its accepted offset V0 applied (R620, R622). -/
def State.hmOffset (s : State) (c : Nat) (v : BitVec 16) : BitVec 16 :=
  match (s.calPoints c).head? with
  | some p => if hmClass c = 2 ∨ nth p.2 0 0 = 0 then v else Config.offsetSample c (nth p.2 0 0) v
  | none => v

/-- HM_SAMPLE (R614 to R617, R619, R622): channel `c` measures `v`, or delivers none while its rail, island or
package is off. `rail`: the present nominal of VM1 to VM4. -/
def execHmSample (c : Fin 56) (valid : Bool) (v rail : BitVec 16) (s : State) : Host.Outcome State Fault Refusal :=
  let st := Reg.HM_CH_STATUS c
  let off := hmUnpowered s.pwrCur c || decide (16 ≤ c.val ∧ c.val ≤ 20) && s.pw.vreq.isSome && !s.pw.vok
  if hmClass c = 3 ∨ s.flag st Fld.HM_CH_STATUS_STALE then .next s
  else if ¬ valid ∨ off then .next (s.hmInvalid [c.val])
  else
    let v := s.hmOffset c v
    let s := s.setFld st Fld.HM_CH_STATUS_VALID 1
    let s := if c.val = 16 then s.setRegN (Reg.HM_CH_REF c) (s.fld Reg.PWR_VCORE Fld.PWR_VCORE_ACK_MV)
      else if 17 ≤ c.val ∧ c.val ≤ 20 then s.setRegN (Reg.HM_CH_REF c) rail.toNat else s
    let value : Int := if hmClass c = 2 then (v.toNat : Int) else v.toInt
    let r : Int := if hmClass c = 2 then ((s.regN (Reg.HM_CH_REF c) : Nat) : Int) else signed 16 (s.regN (Reg.HM_CH_REF c))
    let (dev, s) := if hmClass c = 0 ∨ c.val = 31 then (0, s) else s.hmDev value r
    let s := s.setRegN (Reg.HM_CH_VALUE c) (v.toNat + 65536 * twos 16 dev)
    let q := if s.flag (Reg.HM_CH_CFG c) Fld.HM_CH_CFG_COMPARE then value else dev
    let x := if s.flag (Reg.HM_CH_CFG c) Fld.HM_CH_CFG_EN then s.hmTake c q
      else ⟨[0, 0, 0], [0, 0, 0], [false, false, false]⟩
    .next (s.hmSettle c x q)

/-! ### Calibration commands and timers (R626, R627, R631, R638) -/

/-- Converters follow TCAL (R628, R630, R631). -/
def State.followTcal (s : State) : State :=
  (List.range 4).foldl (fun s i =>
    let t := 32 + i
    if s.tgt t Fld.CAL_TGT_STATUS_MODE = 1 then s.retarget t (s.calGoal t) else s) s

/-- TCAL has moved from the idle converter's latest acceptance by more than CONV_DT, which 0 makes 1 (R626, R638). -/
def State.convMoved (s : State) (x : Nat) : Bool :=
  let t := s.convIdle x
  let dt := 4 * max (s.fld Reg.CAL_CFG Fld.CAL_CFG_CONV_DT) 1
  s.regN (Reg.CAL_TGT_COUNT t) != 0 &&
    decide (dt < (s.tcal - signed 16 (s.regN (Reg.CAL_TGT_TEMP t))).natAbs)

/-- A calibration of the schedule begins, while role 9 runs (R626, R657, R659). -/
def State.convDue (s : State) (x : Nat) : State := if s.bgPaused then s else s.convBegin x

/-- TCAL_UPDATE (R626, R627, R630): TCAL is recomputed from the die sensors that are VALID and not STALE. -/
def execTcalUpdate (s : State) : Host.Outcome State Fault Refusal :=
  let ok := (List.range 8).filter fun c =>
    s.flag (Reg.HM_CH_STATUS c) Fld.HM_CH_STATUS_VALID && !s.flag (Reg.HM_CH_STATUS c) Fld.HM_CH_STATUS_STALE
  if ok.isEmpty then .next (s.setFld Reg.HM_TCAL ⟨16, 1⟩ 0)
  else
    let sum := ok.foldl (fun (a : Int) c => a + signed 16 (s.regN (Reg.HM_CH_VALUE c))) 0
    let s := (s.setRegN Reg.HM_TCAL (twos 16 (sum.fdiv ok.length) + 65536)).followTcal
    .next ((List.range 2).foldl (fun s x => if s.convMoved x then s.convDue x else s) s)

/-- A sensor of the class of target `t` calibrates already (R622). -/
def State.sensorBusy (s : State) (t : Nat) : Bool :=
  (List.range 32).any fun u => calClass u == calClass t && s.calBusy u

/-- CAL_RUN (R626): CAL_CTRL `w` with OP RUN over `path`. A sensor that cannot become STALE beside another of its class
(R622), and a converter in service (R623), are refused as a busy target is (DESIGN CHOICE, log entry 76). -/
def execCalRun (path : Path) (w : Word) (s : State) : Host.Outcome State Fault Refusal :=
  let t := Fld.CAL_CTRL_TARGET.get w
  let no : Host.Outcome State Fault Refusal := .next (s.accFlag path Reg.CAL_CTRL .refused)
  if s.calBusy t then no
  else match calClass t with
    | .lane | .nothing => no
    | .temp | .volt => if s.sensorBusy t then no else .next (s.calBegin t)
    | .feedback => if s.convInService t then no else .next (s.calBegin t)
    | .firing => if s.strobe (t - 40) then .next (s.calBegin t) else no

/-- CAL_FIX (R631, R638): CAL_CTRL `w` with OP FIX. -/
def execCalFix (path : Path) (w : Word) (s : State) : Host.Outcome State Fault Refusal :=
  let (ok, t) := s.setMode (Fld.CAL_CTRL_TARGET.get w) (some (Fld.CAL_CTRL_POINT.get w))
  .next (if ok then t else s.accFlag path Reg.CAL_CTRL .refused)

/-- CAL_INTERP (R631, R638): CAL_CTRL `w` with OP INTERP. -/
def execCalInterp (path : Path) (w : Word) (s : State) : Host.Outcome State Fault Refusal :=
  let (ok, t) := s.setMode (Fld.CAL_CTRL_TARGET.get w) none
  .next (if ok then t else s.accFlag path Reg.CAL_CTRL .refused)

/-- CAL_CLEAR_FAIL (R638): CAL_CTRL `w` with OP CLEAR_FAIL. -/
def execCalClearFail (w : Word) (s : State) : Host.Outcome State Fault Refusal :=
  let t := Fld.CAL_CTRL_TARGET.get w
  .next (if t ≤ 104 then s.setTgt t Fld.CAL_TGT_STATUS_CAL_FAIL 0 else s)

/-- CAL_APPLY acts (R348, R631). -/
def State.calApply (s : State) (t k : Nat) : Bool × State :=
  if k ≠ 0xFF ∧ 8 ≤ k then (false, s)
  else
    let (ok, u) := s.setMode t (if k = 0xFF then none else some k)
    if ok then (true, u.event Reg.CAL_EVENT Fld.CAL_EVENT_APPLY) else (false, s)

/-- The temperature sensors that calibrate, in channel order (R620). -/
def tempTargets : List Nat := [0, 1, 2, 3, 4, 5, 6, 7, 12, 13]

/-- SENSOR_CAL_TIMER (R622, R626): the next temperature sensor and the next voltage monitor calibrate, while role 9
runs (R657, R659). -/
def execSensorCalTimer (s : State) : Host.Outcome State Fault Refusal :=
  if s.bgPaused then .next s else
  let t := nth tempTargets (s.cal.nextT % 10) 0
  let v := 16 + s.cal.nextV % 16
  let s := if s.sensorBusy t then s
    else (s.calBegin t).onCal fun c => { c with nextT := (c.nextT + 1) % 10 }
  .next (if s.sensorBusy v then s else (s.calBegin v).onCal fun c => { c with nextV := (c.nextV + 1) % 16 })

/-- CONV_CAL_TIMER (R623, R626): CONV_S have passed for axis `x`. -/
def execConvCalTimer (x : Fin 2) (s : State) : Host.Outcome State Fault Refusal := .next (s.convDue x)

/-- FIRING_CAL_TIMER (R624, R626): each strobe-mode port with a mode other than OFF measures. -/
def execFiringCalTimer (s : State) : Host.Outcome State Fault Refusal :=
  .next ((List.range 6).foldl (fun s p =>
    if ¬ s.bgPaused ∧ s.strobe p ∧ s.tgt (40 + p) Fld.CAL_TGT_STATUS_MODE ≠ 0 ∧ ¬ s.calBusy (40 + p) then s.calBegin (40 + p) else s) s)

/-! ### Results (R621 to R625) -/

/-- Two measurements agree within the tolerance of their class in every value. -/
def calAgree (k : CalClass) (a b : List Int) : Bool :=
  (calTol k).zipIdx.all fun x => decide ((nth a x.2 0 - nth b x.2 0).natAbs ≤ x.1)

/-- The mean of two measurements, halves up, as V0 to V3. -/
def calMean (k : CalClass) (a b : List Int) : List Int :=
  (List.range 4).map fun i => if i < (calTol k).length then divHalfUp (nth a i 0 + nth b i 0) 2 else 0

/-- V0 in force on firing target `t`: of the fixed point, or interpolated (R628, R631). -/
def State.firingV0 (s : State) (t : Nat) : Int :=
  if s.tgt t Fld.CAL_TGT_STATUS_MODE = 2 then nth (s.calPoint t (s.tgt t Fld.CAL_TGT_STATUS_FIXED_POINT)).2 0 0
  else s.calInterp t 0

/-- The accepted values `v` of target `t` come into force (R622 to R625). The old V0 of a firing target is the one in force
(DEDUCED, log entry 76). -/
def State.calTake (s : State) (t : Nat) (v : List Int) : State :=
  match calClass t with
  | .temp | .volt | .lane => s.setPoints t [((s.tcal, v), 1)]
  | .feedback => s.convAccept t v
  | .firing =>
    if (s.calPoints t).isEmpty then s
    else (s.setFiringV0 t (s.firingV0 t - nth v 0 0)).calRecord t 0 0xFF
  | .nothing => s

/-- CAL_MEASURE_DONE (R621 to R625): the two measurements of an attempt on target `t`. -/
def execCalMeasureDone (t : Fin 105) (m1 m2 : List Int) (s : State) : Host.Outcome State Fault Refusal :=
  let k := calClass t
  if ¬ s.calBusy t then .next s
  else if calAgree k m1 m2 then .next ((s.calTake t (calMean k m1 m2)).calAccepted t)
  else .next (s.calReject t)

/-- The latest tick has found the amplitude of axis `x` bad for the fourth time or more (R473, R491). -/
def State.ampFault (s : State) (x : Nat) : Bool := 4 ≤ ((s.motion.fbs[x]?).map (·.ampBad)).getD 0

/-- CONVERTER_SWAP (R472, R491, R623): a requested swap of axis `x` comes to the latest tick, at which both converters convert:
the one in service `now`, the idle one `idle`. -/
def execConverterSwap (x : Fin 2) (now idle : Int × Int) (s : State) : Host.Outcome State Fault Refusal :=
  if ¬ s.cal.swaps.contains x.val = true then .next s
  else if (x.val = 0 ∧ s.swathLive) ∨ (x.val = 1 ∧ 1 < s.axState 1) then
    .next (s.event Reg.CAL_EVENT Fld.CAL_EVENT_SWAP_WAIT)
  else
    let s := s.onCal fun c => { c with swaps := c.swaps.filter (· != x.val) }
    let (a, s) := s.convAngle (s.convOf x) now
    let (b, s) := s.convAngle (s.convIdle x) idle
    if ¬ anglesAgree a b ∨ s.ampFault x then .next (s.event (Reg.FB_AX_EVENT x) Fld.FB_AX_EVENT_SWAP_REFUSED)
    else
      let s := s.setFld (Reg.FB_AX_STATUS x) Fld.FB_AX_STATUS_CONV
        (1 - s.fld (Reg.FB_AX_STATUS x) Fld.FB_AX_STATUS_CONV)
      let known := b2n (s.regN (Reg.CAL_TGT_COUNT (s.convIdle x)) != 0)
      let s := (s.setFld (Reg.FB_AX_AN_STATUS x) Fld.FB_AX_AN_STATUS_ALT_READY known).event Reg.CAL_EVENT
        Fld.CAL_EVENT_SWAP
      .next ((s.onCal fun c => { c with second := c.second ++ [x.val] }).convBegin x)

/-- Row trim `r` of point `k` of port `p` (R637). -/
def State.trim (s : State) (p k r : Nat) : Nat :=
  bits (s.tbl (0x01E80000 + 0x10000 * p + 0x2000 * k + 2 * r / 4 * 4)).toNat (16 * (r % 2)) 16

/-- DELAY_T of row `r` of port `p` (R624). -/
def State.delayGoal (s : State) (p r : Nat) : Nat :=
  let t := 40 + p
  let v := if s.tgt t Fld.CAL_TGT_STATUS_MODE = 2 then
      let k := s.tgt t Fld.CAL_TGT_STATUS_FIXED_POINT
      (s.trim p k r : Int)
    else interp s.tcal ((s.calPoints t).zipIdx.map fun x => (x.1.1, (s.trim p x.2 r : Int)))
  (clamp (v + s.firingV0 t) 0 1023).toNat

/-- DELAY of row `r` holds `d` (R277). -/
def State.setDelay (s : State) (r d : Nat) : State :=
  let a := 0x01B00000 + 2 * r / 4 * 4
  s.setTbl a ((⟨16 * (r % 2), 16⟩ : Field).put d (s.tbl a))

/-- 10 µs have passed since the latest change of DELAY of row `r` (R624). -/
def State.stepSpaced (s : State) (r : Nat) : Bool := (Kv.get s.cal.stepAt r).all fun t => decide (t + 10000 ≤ s.clk.ticks)

/-- DELAY of row `r` of port `p` may become `d` now (R624): while a swath on the port is RUNNING, a tap at most from the
DELAY of the row's latest event; before its first event, or with no swath RUNNING, 10 µs after its latest change. -/
def State.mayDelay (s : State) (p r d : Nat) : Bool :=
  match s.gy.swaths.find? fun w => w.state == .running && w.ports.contains p with
  | some w =>
    match (w.rows.find? fun x => x.row == r).bind (·.delay) with
    | some e => decide (d ≤ e + 1 ∧ e ≤ d + 1)
    | none => s.stepSpaced r
  | none => s.stepSpaced r

/-- DELAY of row `r` takes the calibrated value `d` now. -/
def State.stepDelay (s : State) (p r d : Nat) : State :=
  if s.mayDelay p r d then
    (s.setDelay r d).onCal fun c => { c with stepAt := Kv.set c.stepAt r s.clk.ticks }
  else s

/-- FIRING_DELAY_STEP (R624): DELAY of row `r` moves one tap toward its target. -/
def execFiringDelayStep (r : Fin 4096) (s : State) : Host.Outcome State Fault Refusal :=
  let p := rowPort s.bmap r
  let t := 40 + p
  if 6 ≤ p ∨ s.tgt t Fld.CAL_TGT_STATUS_MODE = 0 ∨ ¬ s.firingSet t then .next s
  else
    let d := s.rowDelay r
    let g := s.delayGoal p r
    .next (if d < g then s.stepDelay p r (d + 1) else if g < d then s.stepDelay p r (d - 1) else s)

end Sys2Proof.Machine
end

