-- ==== Sys2Proof/Machine/Servo.lean ====
section
/-! DEFINITION. The 50 kHz sample: the servo law, injection and capture (R435, R485 to R491). -/

namespace Sys2Proof.Machine

open Sys2Proof.Bits

/-! ### Injection (R489) -/

/-- The value of SINE of amplitude `a` at phase `ph`: the rounded value, or one beside it (R489). -/
def sineValue (a : Int) (ph r : Nat) : Int := sar (2 * a * sineAt ph + 2 ^ 60) 61 + (r % 3 : Nat) - 1

/-- The next state of the 15-bit sequence x^15 + x^14 + 1 (R489). -/
def prbsNext (l : Nat) : Nat := (2 * l + (if bit l 14 = bit l 13 then 0 else 1)) % 32768

/-- A pending START or STOP of the injection of servo axis `x` acts at this sample (R489). -/
def State.injSample (s : State) (x : Nat) : State :=
  match s.motion.servos[x]? with
  | none => s
  | some v =>
    if v.injStop then
      (s.onServo x fun v => { v with inj := none, injStop := false, injStart := false }).setFld
        (Reg.SV_AX_STATUS x) Fld.SV_AX_STATUS_INJ 0
    else if v.injStart then
      (s.onServo x fun v => { v with inj := some ⟨0, 0, 1⟩, injStart := false }).setFld
        (Reg.SV_AX_STATUS x) Fld.SV_AX_STATUS_INJ 1
    else s

/-- The injection value of servo axis `x` at this sample, and the injection stepped on (R489). -/
def State.injValue (s : State) (x : Nat) : Int × State :=
  match (s.motion.servos[x]?).bind (·.inj) with
  | none => (0, s)
  | some j =>
    let a := signed 32 (s.regN (Reg.SV_AX_INJ_AMP x))
    let j' : Inj := ⟨j.k + 1, (j.ph + s.regN (Reg.SV_AX_INJ_FREQ x)) % 2 ^ 32, prbsNext j.lfsr⟩
    let step := fun (s : State) => s.onServo x fun v => { v with inj := some j' }
    match s.fld (Reg.SV_AX_INJ_CFG x) Fld.SV_AX_INJ_CFG_SIGNAL with
    | 1 =>
      let (r, s) := s.free
      (sineValue a j.ph r, step s)
    | 2 => (if bit j.lfsr 0 then a else -a, step s)
    | 3 => (a, step s)
    | _ => (0, step s)

/-! ### The law (R485 to R488) -/

/-- A biquad section of servo axis `x` (R485): its output and its memory. -/
def State.biquad (s : State) (x sec : Nat) (m : Biquad) (i : Int) : Int × Biquad :=
  let c := fun (n : Nat) => signed 32 (s.regN (Reg.SV_AX_BQ x sec n))
  let t := c 0 * i + c 1 * m.x1 + c 2 * m.x2 - c 3 * m.y1 - c 4 * m.y2
  let y := clamp (wrapS 64 (sar (t + 2 ^ 29) 30)) (-(2 ^ 40 : Nat)) (2 ^ 40 : Nat)
  (y, ⟨i, m.x1, y, m.y1⟩)

/-- A coefficient ramp of servo axis `x` runs in this sample (R488, R630). -/
def State.rampRuns (s : State) (x : Nat) : Bool := (s.coef (32 + 2 * x)).step < 256 || (s.coef (33 + 2 * x)).step < 256

/-- ns of the law of servo axis `x` (R488). -/
def State.lawNs (s : State) (x : Nat) : Nat := if s.flag (Reg.SV_AX_STATUS x) Fld.SV_AX_STATUS_INJ then 360 else 300

/-- The delay of a load of servo axis `x` in ns (R488). The law of C follows that of S. DESIGN CHOICE (log entry 33): an axis
without a source takes its feedback term anywhere in the budget's span, by the free value `r`. -/
def State.dacDelay (s : State) (x r : Nat) : Nat :=
  let fb := match s.fbSrc x with
    | 1 => 210
    | 2 => 20
    | _ => 20 + r % 191
  fb + (if s.rampRuns x then 190 else 0) + s.lawNs 0 + (if x = 0 then 0 else s.lawNs 1) + 280

/-- The load of DAC code `o` of servo axis `x` (R486, R488). -/
def State.dacLoad (s : State) (x : Nat) (o : Int) : State :=
  let (r, s) := s.free
  let d := s.dacDelay x r
  let s := (s.setRegN (Reg.SV_AX_OUT x) (twos 32 o)).setPair (Reg.SV_AX_OUT_TS_LO x) ((s.nowNs + d) % 2 ^ 64)
  let top := max d (s.regN (Reg.SV_AX_OUT_DLY x) / 65536)
  let s := s.setRegN (Reg.SV_AX_OUT_DLY x) (d + 65536 * top)
  s.emit (.dac x (if s.flag (Reg.SV_AX_CFG x) Fld.SV_AX_CFG_INVERT then -o else o))

/-- A following error (R487). -/
def State.followFault (s : State) (x : Nat) : State :=
  let s := s.setFld (Reg.SV_AX_STATUS x) Fld.SV_AX_STATUS_FCAUSE 2
  let s := (s.raise .stopping (Reg.SV_AX_EVENT x) Fld.SV_AX_EVENT_FOLLOW 2 (unitAxis x)).feedbackFault x
  if x = 0 then s.stopFiring 2 else s

/-- `servo_sample` of R485 for servo axis `x`, with injection `inj`. -/
def State.servoLaw (s : State) (x : Nat) (inj : Int) : State :=
  match s.motion.servos[x]? with
  | none => s
  | some v =>
    let g := s.gen x
    let k := fun (a : Nat) => signed 32 (s.regN a)
    let atOut := s.flag (Reg.SV_AX_INJ_CFG x) Fld.SV_AX_INJ_CFG_POINT
    let fb := s.rawOf x (s.fbCount x)
    let e := wrapS 64 (g.p + (if atOut then 0 else inj * 65536) - fb)
    let acc := k (Reg.SV_AX_KP x) * e + k (Reg.SV_AX_KI x) * v.integ - k (Reg.SV_AX_KD x) * wrapS 64 (fb - v.fbPrev) +
      k (Reg.SV_AX_KV x) * g.v + k (Reg.SV_AX_KA x) * g.a
    let u := wrapS 64 (sar (acc + 2 ^ 39) 40 + k (Reg.SV_AX_OFS x) + (if atOut then inj else 0))
    let (y0, b0) := s.biquad x 0 v.bq0 u
    let (y, b1) := s.biquad x 1 v.bq1 y0
    let lim : Int := max (s.fld (Reg.SV_AX_CFG x) Fld.SV_AX_CFG_OUT_LIM) 1
    let o := clamp y (-lim) lim
    let il : Int := s.regN (Reg.SV_AX_ILIM x) * 65536
    let integ := if o = y then clamp (wrapS 64 (v.integ + e)) (-il) il else v.integ
    let ferr := s.regN (Reg.SV_AX_FERR x)
    let n := if ferr ≠ 0 ∧ ferr * 65536 < e.natAbs then v.ferr + 1 else 0
    let s := s.onServo x fun v => { v with integ := integ, bq0 := b0, bq1 := b1, fbPrev := fb, ferr := n }
    let s := s.setFld (Reg.SV_AX_STATUS x) Fld.SV_AX_STATUS_SAT (b2n (o != y))
    let s := if o = y then s else s.event (Reg.SV_AX_EVENT x) Fld.SV_AX_EVENT_SAT
    let s := (s.dacLoad x o).setPairS (Reg.SV_AX_ERR_LO x) e
    let s := if s.moving x then
        s.setRegN (Reg.SV_AX_ERR_PEAK x) (max (s.regN (Reg.SV_AX_ERR_PEAK x)) (min (e.natAbs / 65536) 0xFFFFFFFF))
      else s
    if max (s.fld (Reg.SV_AX_CFG x) Fld.SV_AX_CFG_FERR_N) 1 ≤ n then s.followFault x else s

/-! ### Capture (R490) -/

/-- The state with the capture unit changed by `f`, and its status. -/
def State.onCap (s : State) (f : Capture → Capture) : State :=
  let s : State := { s with motion := { s.motion with cap := f s.motion.cap } }
  s.setFld Reg.SV_CAP_STATUS Fld.SV_CAP_STATUS_RUNNING (b2n s.motion.cap.running)

/-- The 32 bytes of a capture record (R490). -/
def capBytes (t : Nat) (sp fb out inj : Int) : List Byte :=
  toLE 8 t ++ toLE 8 (twos 64 sp) ++ toLE 8 (twos 64 fb) ++ toLE 4 (twos 32 out) ++
    toLE 4 (twos 32 (clamp inj (-(2 ^ 31 : Nat)) ((2 ^ 31 : Nat) - 1)))

/-- The capture unit at a sample whose injection value on its axis is `inj` (R490). -/
def State.capSample (s : State) (x : Nat) (inj : Int) : State :=
  let c := s.motion.cap
  let first := ((s.motion.servos[x]?).bind (·.inj)).any fun j => j.k == 1
  if ¬ c.running ∨ (c.waitInj ∧ ¬ first) then s
  else if 0 < c.skip then s.onCap fun c => { c with skip := c.skip - 1 }
  else
    let i := s.fld Reg.SV_CAP_STATUS Fld.SV_CAP_STATUS_RECORDS
    let atOut := s.flag (Reg.SV_AX_INJ_CFG x) Fld.SV_AX_INJ_CFG_POINT
    let sp := (s.gen x).p + (if atOut then 0 else inj * 65536)
    let b := capBytes s.tNs sp (s.rawOf x (s.fbCount x)) (signed 32 (s.regN (Reg.SV_AX_OUT x)))
      (if atOut then inj else inj * 65536)
    let s := (s.setTblBytes (0x01FE0000 + 0x20 * i) b).setFld Reg.SV_CAP_STATUS Fld.SV_CAP_STATUS_RECORDS (i + 1)
    if 4096 ≤ i + 1 then
      ((s.onCap fun _ => ⟨false, false, 0⟩).setFld Reg.SV_CAP_STATUS Fld.SV_CAP_STATUS_DONE 1).event
        (Reg.SV_AX_EVENT x) Fld.SV_AX_EVENT_CAP_DONE
    else
      let dec := s.fld Reg.SV_CAP_CFG Fld.SV_CAP_CFG_DEC
      s.onCap fun c => { c with waitInj := false, skip := dec }

/-- Servo axis `x` at a sample: injection, then the law where it runs, and 0 V where it does not (R477, R486), then the
capture of its axis. -/
def State.servoAxis (s : State) (x : Nat) : State :=
  let s := s.injSample x
  let (inj, s) := s.injValue x
  let s := if s.fld (Reg.SV_AX_STATUS x) Fld.SV_AX_STATUS_STATE = 1 ∧ s.axState x ≠ 0 ∧ s.axState x ≠ 6 then
      s.servoLaw x inj
    else s.aoutZero x
  if s.fld Reg.SV_CAP_CFG Fld.SV_CAP_CFG_AXIS = x then s.capSample x inj else s

/-- TB ticks to the next sample instant, every 200th feedback tick (R485); 0 where one is due now. -/
def State.sampleTicks (s : State) : Nat :=
  let r := s.clk.ticks % 20000
  if r = 0 ∧ s.motion.lastServo ≠ some s.clk.ticks then 0 else 20000 - r

/-- SERVO_SAMPLE (R435, R444, R452, R485): the next 50 kHz sample. -/
def execServoSample (s : State) : Host.Outcome State Fault Refusal :=
  if ¬ s.clk.pllLocked then .next s
  else
    let old := s
    let s := s.elapse s.sampleTicks
    let t0 := s.motion.lastServo.getD (s.clk.ticks - 20000)
    let s : State := { s with motion := { s.motion with lastServo := some s.clk.ticks } }
    let s := (List.range 4).foldl (fun s k => s.stepFollow t0 k) s
    let s := (List.range 6).foldl (fun s x =>
      if s.flag (Reg.MP_AX_CFG x) Fld.MP_AX_CFG_ENABLE then s.genSample x else s) s
    let s := (List.range 4).foldl (fun s k => (s.bandDue k).stallCheck (k + 2)) s
    let s := (List.range 2).foldl (fun s x => s.servoAxis x) s
    .next (State.settleStop old ((List.range 4).foldl (fun s i => s.rampSample (32 + i)) s))

/-- INJ_START (R489): SV_AX_INJ_CTRL START. -/
def execInjStart (path : Path) (x : Fin 2) (s : State) : Host.Outcome State Fault Refusal :=
  if x.val = 0 ∧ s.swathLive then .next (s.accFlag path (Reg.SV_AX_INJ_CTRL x) .refused)
  else .next (s.onServo x fun v => { v with injStart := true, injStop := false })

/-- INJ_STOP (R489): SV_AX_INJ_CTRL STOP. -/
def execInjStop (x : Fin 2) (s : State) : Host.Outcome State Fault Refusal :=
  .next (s.onServo x fun v => { v with injStop := true })

/-- A capture starts, at once or with the next injection (R490). -/
def State.capStart (s : State) (path : Path) (wait : Bool) : State :=
  if s.motion.cap.running then s.accFlag path Reg.SV_CAP_CTRL .refused
  else (s.setRegN Reg.SV_CAP_STATUS 0).onCap fun _ => ⟨true, wait, 0⟩

/-- CAPTURE_START (R490): SV_CAP_CTRL START. -/
def execCaptureStart (path : Path) (s : State) : Host.Outcome State Fault Refusal := .next (s.capStart path false)

/-- CAPTURE_START_WITH_INJ (R490): SV_CAP_CTRL START_WITH_INJ. -/
def execCaptureStartWithInj (path : Path) (s : State) : Host.Outcome State Fault Refusal :=
  .next (s.capStart path true)

end Sys2Proof.Machine
end

