-- ==== Sys2Proof/Machine/View.lean ====
section
/-! DEFINITION. What a register or a table window reads: the register file, and what the module shows of its own
state (R12, R680). -/

namespace Sys2Proof.Machine

open Sys2Proof.Bits

/-- Index of `a` in `n` registers from `base`, `stride` apart. -/
def arrayIx (a base n stride : Nat) : Option Nat :=
  if base ≤ a ∧ (a - base) % stride = 0 ∧ (a - base) / stride < n then some ((a - base) / stride) else none

/-- Ones among the low `n` bits of `v`. -/
def ones (n v : Nat) : Nat := sumBelow n fun i => b2n (bit v i)

/-! ### Registers that show state held elsewhere -/

/-- GLB (R21, R682): in DEEP the mirrors keep what they held. -/
def State.viewGlb (s : State) (a : Nat) : Option Nat :=
  if a = Reg.GLB_STATUS then
    some (if s.pwrCur = 3 then (Fld.GLB_STATUS_PWR_CUR.put 3 (s.reg a)).toNat else s.glbStatus)
  else none

/-- TB (R332, R357 to R362). -/
def State.viewTb (s : State) (a : Nat) : Option Nat :=
  let ns := s.nowNs
  let sec := ns / 1000000000
  let slew := twos 64 (divT s.clk.slewRem 4096)
  if a = Reg.TB_STATUS then
    let w := Fld.TB_STATUS_TQ.put s.tq (s.reg a)
    let w := Fld.TB_STATUS_SLEWING.put (b2n (s.clk.slewRem != 0)) w
    some (Fld.TB_STATUS_STEP_WAIT.put (b2n s.clk.stepWait) w).toNat
  else if a = Reg.TB_NOW_SEC_LO then some sec
  else if a = Reg.TB_NOW_SEC_HI then some (sec / 2 ^ 32)
  else if a = Reg.TB_NOW_NS then some (ns % 1000000000)
  else if a = Reg.TB_NOW_FRAC then some (s.tFrac + 65536 * s.tq)
  else if a = Reg.TB_TICKS_LO then some s.clk.ticks
  else if a = Reg.TB_TICKS_HI then some (s.clk.ticks / 2 ^ 32)
  else if a = Reg.TB_SLEW_REM_LO then some slew
  else if a = Reg.TB_SLEW_REM_HI then some (slew / 2 ^ 32)
  else match arrayIx a (Reg.TB_DOM_STATUS 0) 2 0x40 with
    | some d =>
      let x := s.dom d
      let age := if x.valid then min ((s.clk.ticks - x.at_) / 1000000) 0xFFFF else 0
      some (Fld.TB_DOM_STATUS_AGE_MS.put age (s.reg a)).toNat
    | none => none

/-- TA_STATUS (R364). -/
def State.viewTa (s : State) (a : Nat) : Option Nat :=
  if a = Reg.TA_STATUS then
    let n := fun (k : Nat) => ((List.range 128).filter fun i => s.slotSt (k + i) == 1 || s.slotSt (k + i) == 2).length
    let next := match s.nextSlot with
      | some i => 65536 * i + 2 ^ 24
      | none => 0
    some (n 0 + 256 * n 128 + next)
  else none

/-- FAB (R400). -/
def State.viewFab (s : State) (a : Nat) : Option Nat :=
  if a = Reg.FAB_TIME_STATUS then some (Fld.FAB_TIME_STATUS_UP_PORT.put (s.upPort.getD 15) (s.reg a)).toNat
  else if a = Reg.FAB_NODES then some (Fld.FAB_NODES_PRESENT.put s.present.length (s.reg a)).toNat
  else match arrayIx a (Reg.FAB_PORT_STATUS 0) 4 0x40 with
    | some p =>
      let w := Fld.FAB_PORT_STATUS_UPSTREAM.put (b2n (s.upPort == some p)) (s.reg a)
      let w := Fld.FAB_PORT_STATUS_CHILD.put (b2n (s.isChild p)) w
      some (Fld.FAB_PORT_STATUS_FLOWS.put (s.fport p).flows.length w).toNat
    | none => match arrayIx a (Reg.FAB_PORT_NEIGH 0) 4 0x40 with
      | some p =>
        let x := s.fport p
        some ((if x.neigh = 0 then none else s.idOf x.neigh).getD 0xFFFF + 65536 * (x.neighPort % 4))
      | none => none

/-- Internal reset is released: until then the lane, CE and VER registers hold their reset values (R178, R210, R432, R583). -/
def State.released (s : State) : Bool := s.boot.phase != .reset && s.boot.phase != .unpowered

/-- LN (R430, R432). -/
def State.viewLn (s : State) (a : Nat) : Option Nat :=
  let all := List.range 41
  let failed := all.foldl (fun m n => if s.laneSt n = 7 then m + 2 ^ n else m) 0
  if a = Reg.LN_STATUS then
    let w := Fld.LN_STATUS_LANES_L0.put (all.filter fun n => s.laneSt n == 4).length (s.reg a)
    some (Fld.LN_STATUS_LANES_FAILED.put (ones 41 failed) w).toNat
  else if a = Reg.LN_FAILED_0 then some failed
  else if a = Reg.LN_FAILED_1 then some (failed / 2 ^ 32)
  else if ¬ s.released then none
  else match arrayIx a (Reg.LN_LANE_STATUS 0) 41 0x40 with
    | some n =>
      let st := s.laneSt n
      let w := Fld.LN_LANE_STATUS_STATE.put st (s.reg a)
      let w := Fld.LN_LANE_STATUS_IN_MASK.put (b2n (s.inMask n)) w
      let w := Fld.LN_LANE_STATUS_NOT_READY.put (b2n ((st == 3 || st == 4) && s.nrReason (lanePort n) != 0)) w
      some (Fld.LN_LANE_STATUS_PORT_LANE.put (laneIn n) w).toNat
    | none => none

/-- EXP (R149, R151). The bin pool is placed at the lock (R582). -/
def State.viewExp (s : State) (a : Nat) : Option Nat :=
  if a = Reg.EXP_UNIT_STATUS then some s.unitStatus
  else if a = Reg.EXP_LP_FREE then some (s.lpFree / 2 ^ 20)
  else if a = Reg.EXP_POOL_FREE then some (if ¬ s.locked then 0 else (s.poolBlocks - s.poolUsed) / 1024)
  else none

/-- SVC of R179. -/
def Svc.code : Svc → Nat
  | .inService => 0 | .spare => 1 | .selftest => 2 | .shadow => 3 | .out => 4

/-- ROLE of R179; a shadow engine's extra role is a checker's (R207). -/
def Role.code : Role → Nat
  | .primary => 1 | .checker => 2 | .voter => 3 | .shadow => 2

/-- CE (R178 to R181). With no tile in the dose stages CE_ENG_LAYER, CE_ENG_TILE and CE_ENG_TROW keep the latest one: R178
does not say what they read then (DESIGN CHOICE, log entry 61). -/
def State.viewCe (s : State) (a : Nat) : Option Nat :=
  if ¬ s.released then none
  else match arrayIx a (Reg.CE_CL_STATUS 0) 4 0x40 with
  | some n =>
    let mine := (s.ver.engines.drop (10 * n)).take 10
    let w := Fld.CE_CL_STATUS_ENG_IN.put (mine.filter fun e => e.svc == .inService).length (s.reg a)
    some (Fld.CE_CL_STATUS_SPARE.put ((mine.findIdx? fun e => e.svc == .spare).getD 15) w).toNat
  | none =>
    let off := a - Reg.CE_ENG_STATUS 0
    match s.ver.engines[off / 0x400]? with
    | none => none
    | some e =>
      let i := off / 0x400
      match off % 0x400 with
      | 0 => some (e.svc.code + 8 * ((e.dose.map fun t => t.role.code).getD 0) +
          32 * b2n (e.dose.any fun t => t.kernel) + 64 * b2n e.parked.isSome + 256 * (i / 10) + 4096 * (i % 10))
      | 4 => some e.lastTile.layer
      | 8 => some (e.lastTile.swath % 65536 + 65536 * (e.lastTile.tcol % 256))
      | 12 => some e.lastTile.trow
      | _ => none

/-- A loss of engine `e` lies inside the current loss window (R216). -/
def State.lossArmed (s : State) (e : Engine) : Bool :=
  match e.lossAt with
  | some a => decide (s.now16 ≤ a + s.lossWindow)
  | none => false

/-- VER (R212, R216). -/
def State.viewVer (s : State) (a : Nat) : Option Nat :=
  if ¬ s.released then none
  else if a = Reg.VER_STATUS then
    let n := fun (v : Svc) => (s.ver.engines.filter fun e => e.svc == v).length
    some ((s.ver.ctxs.filter fun c => !c.blanked).length + 65536 * n .inService + 2 ^ 24 * n .spare)
  else match arrayIx a (Reg.VER_ENG_REC 0) 40 4 with
    | some i =>
      (s.ver.engines[i]?).map fun e =>
        min e.losses 255 + 256 * min e.shadowN 16 + 8192 * min e.stFails 3 + 32768 * b2n (s.lossArmed e)
    | none => none

/-- GY_STATUS (R281). -/
def State.viewGy (s : State) (a : Nat) : Option Nat :=
  if a = Reg.GY_STATUS then
    let st := fun (i : Nat) => ((s.gy.swaths[i]?).map fun w => w.state.code).getD 0
    some (Fld.GY_STATUS_NEXT_STATE.put (st 1) (Fld.GY_STATUS_CUR_STATE.put (st 0) (s.reg a))).toNat
  else none

/-- CMP_STATUS (R568). The record region is placed at the lock (R582). -/
def State.viewCmp (s : State) (a : Nat) : Option Nat :=
  if a = Reg.CMP_STATUS then
    let w := Fld.CMP_STATUS_OPEN.put (b2n !s.recs.isEmpty) (s.reg a)
    some (Fld.CMP_STATUS_FREE_GIB.put (if s.locked then min (s.recFree / 2 ^ 27) 0xFFFF else 0) w).toNat
  else none

/-- ERR (R646, R648, R651, R665). -/
def State.viewErr (s : State) (a : Nat) : Option Nat :=
  let opn := s.log.ring.filter fun e => e.2.isOpen
  if a = Reg.ERR_STATUS then
    let w := Fld.ERR_STATUS_OPEN.put opn.length (s.reg a)
    let w := Fld.ERR_STATUS_OPEN_CLASS.put (opn.foldl (fun m e => max m e.2.record.cls) 0) w
    let w := Fld.ERR_STATUS_RING_FULL.put (b2n !s.log.ringWait.isEmpty) w
    some (Fld.ERR_STATUS_ALERT.put (b2n s.alert) w).toNat
  else if a = Reg.ERR_OLDEST_OPEN then some (s.openSeqs.headD 0)
  else none

/-- ACC_STATUS (R667). -/
def State.viewAcc (s : State) (a : Nat) : Option Nat :=
  if a = Reg.ACC_STATUS then
    some (ones 24 (s.regN Reg.ACC_FROZEN_INT) + 65536 * sumBelow 32 fun i => ones 32 (s.regN (Reg.FAB_FROZEN i)))
  else none

/-- The management port serves requests (R585): it has become ready, and its lane is in L0 (R417, R424). -/
def State.mgtReady (s : State) : Bool :=
  s.mgtLink && s.regN (Reg.CFG_MILESTONE 5) != 0 && (s.boot.phase == .load || s.boot.phase == .run) && decide (s.pwrCur < 3)

/-- MGT_STATUS (R424, R684). -/
def State.viewMgt (s : State) (a : Nat) : Option Nat :=
  if a = Reg.MGT_STATUS then
    let key := fun (k : Nat) => (Kv.get s.mgt.keys k).isSome
    some (b2n (s.laneSt 40 == 4) + 2 * b2n s.mgtReady + 4 * b2n (key 0) + 8 * b2n (key 1) + 16 * b2n (s.laneSt 40 == 7))
  else none

/-- The word a register reads, effects of the read aside (R12). A write-only register reads 0. -/
def State.viewReg (s : State) (a : Nat) : Word :=
  let v := match a / 0x10000 with
    | 0 => s.viewGlb a
    | 1 => s.viewTb a
    | 2 => s.viewTa a
    | 3 => s.viewFab a
    | 4 => s.viewLn a
    | 7 => s.viewExp a
    | 8 => s.viewCe a
    | 9 => s.viewVer a
    | 11 => s.viewGy a
    | 19 => s.viewCmp a
    | 23 => s.viewErr a
    | 24 => s.viewAcc a
    | 26 => s.viewMgt a
    | _ => none
  match v with
  | some n => BitVec.ofNat 32 n
  | none =>
    match RegMap.find a with
    | some (d, _) => if d.access = .wo then 0 else s.reg a
    | none => 0

/-- STATUS_LED`k` (R682): 0 off, 1 on, 2 blinking at 2 Hz. -/
def State.led (s : State) (k : Nat) : Nat :=
  match bits (s.regN Reg.GLB_LED) (2 * k) 2 with
  | 0 =>
    match k with
    | 0 =>
      if s.boot.phase = .unpowered then 0
      else if s.boot.phase = .rescue ∨ s.pwrCur = 1 ∨ s.pwrCur = 2 then 2
      else b2n (s.pwrCur == 0)
    | 1 => b2n s.alert
    | _ => b2n (s.gy.swaths.any fun w => w.state == .running)
  | 1 => 0
  | 2 => 1
  | _ => 2

/-- PGOOD is high: every rail is in regulation (R583, R584, R608, R694). -/
def State.pgood (s : State) : Bool := s.boot.phase != .unpowered

/-! ### Table windows (R680) -/

/-- Word `o` (a byte offset) of a byte list. -/
def wordAt (b : List Byte) (o : Nat) : Word := BitVec.ofNat 32 (rd b o 4)

/-- A transfer curve's window: 4,097 u16 of material `m`. -/
def State.curveWord (s : State) (m o : Nat) : Word :=
  match s.shown with
  | none => 0
  | some x =>
    let v := fun (k : Nat) => if 4096 < k then 0 else match Kv.get x.curves m with
      | some c => nth c k 0
      | none => defaultCurve k
    BitVec.ofNat 32 (v (o / 2) + 65536 * v (o / 2 + 1))

/-- A kernel's window: KW, KH and 49 coefficients of material `m`. -/
def State.kernelBytes (s : State) (m : Nat) : List Byte :=
  match s.shown.bind fun x => Kv.get x.kernels m with
  | some k => toLE 1 k.kw ++ toLE 1 k.kh ++ [0, 0] ++ k.coef.flatMap fun c => toLE 2 (twos 16 c)
  | none => []

/-- The route table entry of node `n` (R398). -/
def State.routeBytes (s : State) (n : Nat) : List Byte :=
  match s.route n with
  | some (d, c) =>
    let p := fun (i : Nat) => ((c.drop i).head?.map (·.1)).getD 0xFF
    toLE 1 d ++ toLE 1 (p 0) ++ toLE 1 (p 1) ++ toLE 1 (p 2)
  | none => [0xFF, 0xFF, 0xFF, 0xFF]

/-- The cell-cache window at `o` (R680): which way holds which line of its set is not stated, so a way reads a
line of its set, or 0 where the set has ways that are not valid, by the free choice `r`. -/
def State.cacheWord (s : State) (o r : Nat) : Word :=
  let set := o / 0x1000
  let ls := s.cache.filter fun l => l % 6144 == set
  if ls.isEmpty then 0
  else
    let n := if ls.length < 16 then ls.length + 1 else ls.length
    match ls[r % n]? with
    | some l => wordAt (s.ldBytes (256 * l + o % 256) 4) 0
    | none => 0

/-- A compare unit drives GPIO`i` high now (R482, R706). -/
def State.cmpHigh (s : State) (i : Nat) : Bool :=
  (List.range 8).any fun u =>
    s.flag (Reg.FB_CMP_CFG u) Fld.FB_CMP_CFG_PIN_EN && s.fld (Reg.FB_CMP_CFG u) Fld.FB_CMP_CFG_PIN == i &&
      (s.motion.cmps[u]?).any fun c => decide (c.pulse.1 ≤ s.now16 ∧ s.now16 < c.pulse.2)

/-- Levels of the GPIO pins (R681): outputs as the module drives or holds them (R604), a compare unit's pin by its pulses
(R482), all others by the free choice `r`. -/
def State.gpioIn (s : State) (r : Nat) : Word :=
  let dir := s.regN Reg.GLB_GPIO_DIR
  let out := s.regN Reg.GLB_GPIO_OUT
  BitVec.ofNat 32 ((List.range 16).foldl (fun m i =>
    let lv := if s.flag Reg.PWR_HOLD Fld.PWR_HOLD_GPIO then
        ((s.pw.heldGpio.find? fun e => e.1 == i).map (·.2)).getD (bit r i)
      else if s.pinOwned i then s.cmpHigh i else if bit dir i then bit out i else bit r i
    m + b2n lv * 2 ^ i) 0)

/-- The bits of the table word at `a` that its table gives a meaning: the others are reserved and read 0 (R13, R218
to R221, R277, R311, R437, R439, R449, R454). -/
def tblMask (a : Nat) : Word :=
  if 0x01400000 ≤ a ∧ a < 0x01800000 then (if a % 16 = 8 then 0xFF83FFFF else 0xFFFFFFFF)
  else if 0x01A00000 ≤ a ∧ a < 0x01A08000 then (if a % 8 = 4 then 0x000000FF else 0xFFFFFFFF)
  else if 0x01A09000 ≤ a ∧ a < 0x01A09050 then
    (if a % 0x100 = 20 ∨ a % 0x100 = 72 ∨ a % 0x100 = 76 then 0 else 0xFFFFFFFF)
  else if 0x01B00000 ≤ a ∧ a < 0x01B02000 then 0x03FF03FF
  else if 0x01C00000 ≤ a ∧ a < 0x01C10000 then
    let o := a % 0x1000
    if o = 0 then 0x0000FFFF
    else if o = 4 then 0
    else if o < 40 then 0xFFFFFFFF
    else if o < 64 then 0
    else if o < 320 then 0xFFFFFFFF
    else if 1344 ≤ o then 0
    else if o % 64 = 0 then 0x000000FF
    else if o % 64 < 16 then 0
    else 0xFFFFFFFF
  else if 0x01F00000 ≤ a ∧ a < 0x01FC0000 then
    (if a % 0x20 = 4 ∨ 24 ≤ a % 0x20 then 0 else 0xFFFFFFFF)
  else if 0x01FC0000 ≤ a ∧ a < 0x01FC8000 then
    (match a % 0x20 / 4 with
      | 0 => 0x00FFFFFF
      | 2 => 0x0000FFFF
      | 3 => 0
      | 6 => 0
      | 7 => 0
      | _ => 0xFFFFFFFF)
  else if 0x01FC8000 ≤ a ∧ a < 0x01FC8600 then (if a % 16 = 12 then 0 else 0xFFFFFFFF)
  else if 0x01FCC000 ≤ a ∧ a < 0x01FCC100 then (if a % 8 = 4 then 0x000000FF else 0xFFFFFFFF)
  else 0xFFFFFFFF

/-- The word a table window reads, `a` being in one. -/
def State.viewTbl (s : State) (a : Nat) : Word :=
  if a < 0x01040000 then s.curveWord ((a - 0x01000000) / 0x4000) (a % 0x4000)
  else if a < 0x01040800 then wordAt (s.kernelBytes ((a - 0x01040000) / 128)) (a % 128)
  else if 0x01800000 ≤ a ∧ a < 0x01A00000 then
    let k := (a - 0x01800000) / 8
    if k < hdrNcol s.viewMap then BitVec.ofNat 32 (s.colView k / (if a % 8 = 0 then 1 else 2 ^ 32)) else 0
  else if 0x01C10000 ≤ a ∧ a < 0x01C40000 then
    let k := (a - 0x01C10000) / 0x1000
    if s.headPresent (k / 8) (k % 8) then s.tbl a else 0
  else if 0x01D00000 ≤ a ∧ a < 0x01D00080 then 0xFFFFFFFF
  else if 0x01D10000 ≤ a ∧ a < 0x01D12000 then wordAt (s.routeBytes ((a - 0x01D10000) / 8)) (a % 8)
  else if 0x02100000 ≤ a ∧ a < 0x02102000 then
    match Kv.get s.log.ring ((a - 0x02100000) / 32) with
    | some e => wordAt e.record.bytes (a % 32)
    | none => 0
  else if 0x02102000 ≤ a ∧ a < 0x02104000 then
    match Kv.get s.log.slots ((a - 0x02102000) / 32) with
    | some e => wordAt e.bytes (a % 32)
    | none => 0
  else s.tbl a &&& tblMask a

/-- The table windows of R680: first and last address, and the block they belong to. -/
def windows : List (Nat × Nat × Nat) :=
  [(0x01000000, 0x0103FFFF, 7), (0x01040000, 0x010407FF, 7), (0x01400000, 0x01A0904F, 10),
   (0x01B00000, 0x01B01FFF, 11), (0x01C00000, 0x01C0FFFF, 12), (0x01C10000, 0x01C3FFFF, 12),
   (0x01D00000, 0x01D11FFF, 3), (0x01E00000, 0x01E000FF, 4), (0x01E10000, 0x01E13FFF, 18),
   (0x01E20000, 0x01E207FF, 19), (0x01E40000, 0x01E468FF, 22), (0x01E80000, 0x01EDFFFF, 22),
   (0x01F00000, 0x01FBFFFF, 13), (0x01FC0000, 0x01FCC0FF, 13), (0x01FE0000, 0x01FFFFFF, 16),
   (0x02000000, 0x020FFFFF, 25), (0x02100000, 0x02103FFF, 23), (0x03000000, 0x047FFFFF, 7)]

/-- The block of address `a`: that of a register, or of the table window it lies in (R13, R680). -/
def blockOf (a : Nat) : Option Nat :=
  if a < 0x001B0000 then some (a / 0x10000)
  else (windows.find? fun w => decide (w.1 ≤ a ∧ a ≤ w.2.1)).map (·.2.2)

/-- Block `b` answers an access (R578, R585, R609): AON and CTRL first, the others once firmware runs, the
windows of RESCUE and of DEEP, and no block that HOLD powers down. -/
def State.blockReady (s : State) (b : Nat) : Bool :=
  match s.boot.phase with
  | .unpowered => false
  | .reset => false
  | .load => [0, 20, 21, 22, 23, 24, 25].contains b || s.fld Reg.CFG_STATUS Fld.CFG_STATUS_STATE != 0
  | .rescue => [0, 23, 25].contains b
  | .run =>
    match s.pwrCur with
    | 2 => !([8, 10, 11, 19].contains b)
    | 3 => b == 0 || b == 20
    | _ => true

end Sys2Proof.Machine
end

