-- ==== Sys2Proof/Machine/Bus.lean ====
section
/-! DEFINITION. Register and table accesses over a path (R12 to R16, R668, R672, R677 to R681), REGISTER_WRITE,
MGT_KEY_COMMIT and HANDOVER_ACTION. -/

namespace Sys2Proof.Machine

open Sys2Proof.Bits

/-! ### Who may access what (R13, R585, R672, R677) -/

/-- A path from outside the module. -/
def Path.outside : Path → Bool
  | .mgmt => true
  | .tunnel _ => true
  | .spi => true
  | _ => false

/-- OSTATUS of an access to `a` over `p`, the access aside (R672). -/
def State.access (s : State) (p : Path) (a : Nat) : OStatus :=
  if a % 4 ≠ 0 then .align
  else match blockOf a with
    | none => .noBlock
    | some b => if p.outside && !s.blockReady b then .notReady else .ok

/-- A write that MGT_CFG.SPI_RO leaves to the SPI target (R677). -/
def spiMay (a : Nat) : Bool :=
  a / 0x10000 == 0x14 || a == Reg.ERR_ACK || a == Reg.ERR_ACK_UPTO || a == Reg.CFG_CTRL ||
    (arrayIx a (Reg.MGT_KEY0 0) 16 4).isSome || (arrayIx a Reg.CFG_UPD_CTRL 4 4).isSome ||
    decide (stagingWindow ≤ a ∧ a < stagingWindow + 0x100000)

/-! ### Reads -/

/-- A read of TB_NOW_SEC_LO latches the other three registers of the instant (R332). -/
def State.latchNow (s : State) (p : Path) : State :=
  [Reg.TB_NOW_SEC_HI, Reg.TB_NOW_NS, Reg.TB_NOW_FRAC].foldl
    (fun t a => t.onPath p fun x => { x with latch := Kv.set x.latch a (s.viewReg a) }) s

/-- Register `a` is read over `p` (R12, R15, R332). -/
def State.readReg (s : State) (p : Path) (a : Nat) : Word × State :=
  let w := s.viewReg a
  if a = Reg.TB_NOW_SEC_LO then (w, s.latchNow p)
  else if a = Reg.TB_NOW_SEC_HI ∨ a = Reg.TB_NOW_NS ∨ a = Reg.TB_NOW_FRAC then s.readHi p a w
  else if a = Reg.GLB_GPIO_IN then
    let (r, s) := s.free
    (s.gpioIn r, s)
  else if RegMap.isLo a then (w, s.latchHi p a (s.viewReg (a + 4)))
  else if RegMap.isLo (a - 4) then s.readHi p a w
  else (w, s)

/-- The word at table address `a` is read. -/
def State.readTbl (s : State) (a : Nat) : Word × State :=
  if 0x03000000 ≤ a then
    let (r, s) := s.free
    (s.cacheWord (a - 0x03000000) r, s)
  else (s.viewTbl a, s)

/-- A read of `a` over `p`: OSTATUS, the word, 0 where the read fails, and the state after it (R671, R672). -/
def State.busRead (s : State) (p : Path) (a : Nat) : OStatus × Word × State :=
  match s.access p a with
  | .ok => (.ok, if a < 0x01000000 then s.readReg p a else s.readTbl a)
  | st => (st, 0, s)

/-! ### Plain register writes (R12, R15) -/

/-- `new` under mask `m`, `old` elsewhere. -/
def under32 (m old new : Nat) : Nat := (old &&& (0xFFFFFFFF ^^^ m)) ||| (new &&& m)

/-- The bits of the array `d` that a write may store now: RWL fields only before the lock (R12). -/
def State.writable (s : State) (d : RegMap.RegDesc) : Nat := d.rw ||| (if s.locked then 0 else d.rwl)

/-- A write to a register with RWL fields is flagged after the lock (R12). -/
def State.lockFlag (s : State) (p : Path) (a : Nat) (d : RegMap.RegDesc) : State :=
  if s.locked && d.rwl != 0 then s.accFlag p a .locked else s

/-- A write by the access codes of the register's fields (R12): RW and RWL bits are stored, W1C bits cleared. -/
def State.plainWrite (s : State) (p : Path) (a : Nat) (w : Word) (d : RegMap.RegDesc) : State :=
  let v := under32 (s.writable d) (s.regN a) w.toNat
  (s.setRegN a (v &&& (0xFFFFFFFF ^^^ (w.toNat &&& d.w1c)))).lockFlag p a d

/-- A write of the LO half of a pair (R15). -/
def State.loWrite (s : State) (p : Path) (a : Nat) (w : Word) (d : RegMap.RegDesc) : State :=
  if s.writable d = 0 then s.lockFlag p a d else s.stageLo p a w

/-- A write of the HI half of the pair whose LO is at `a` (R15). -/
def State.hiWrite (s : State) (p : Path) (a : Nat) (w : Word) (d : RegMap.RegDesc) : State :=
  let m := s.writable d
  if m = 0 then s.lockFlag p (a + 4) d
  else s.commitPair p a (BitVec.ofNat 32 (under32 m (s.regN (a + 4)) w.toNat))

/-- A write of register `a`, which has no effect beyond what its access codes say. -/
def State.fieldWrite (s : State) (p : Path) (a : Nat) (w : Word) : State :=
  match RegMap.find a with
  | none => s
  | some (d, _) =>
    match d.access with
    | .ro => s
    | .roh => s
    | .wo => s
    | _ =>
      if RegMap.isLo a then s.loWrite p a w d
      else if RegMap.isLo (a - 4) then s.hiWrite p (a - 4) w d
      else s.plainWrite p a w d

/-- The word that register `a`, holding `w0`, holds after a write of `w` that its access codes allow (R12). -/
def State.stored (s : State) (a : Nat) (w0 w : Word) : Word :=
  match RegMap.find a with
  | none => w0
  | some (d, _) => BitVec.ofNat 32 (under32 (s.writable d) w0.toNat w.toNat)

/-- The flag of a write to `a` that the lock makes void in part or in whole (R12). -/
def State.lockFlagAt (s : State) (p : Path) (a : Nat) : State :=
  match RegMap.find a with
  | none => s
  | some (d, _) => s.lockFlag p a d

/-! ### Shadowed groups (R18, R679) -/

/-- The shadow group of register `a`. -/
def shadowGroup (a : Nat) : Option Nat :=
  let servo := fun (x : Nat) =>
    (arrayIx a (Reg.SV_AX_KP x) 7 4).isSome || (arrayIx a (Reg.SV_AX_BQ x 0 0) 10 4).isSome
  if servo 0 then some 1
  else if servo 1 then some 2
  else if (arrayIx a (Reg.GY_PORT_LAT 0) 6 0x10).isSome then some 3
  else if (arrayIx a (Reg.GY_PORT_TEMP 0) 6 0x10).isSome then some 4
  else if a = Reg.BM_POLICY then some 5
  else if [Reg.HM_CH_WARN 0, Reg.HM_CH_CRIT 0, Reg.HM_CH_CFG 0].any fun b => (arrayIx a b 56 0x20).isSome then some 6
  else none

/-- The group of `a`, where it is shadowed (MGT_SHADOW_EN). -/
def State.shadowed (s : State) (a : Nat) : Option Nat :=
  (shadowGroup a).filter fun g => bit (s.regN Reg.MGT_SHADOW_EN) g

/-- The word register `a` will hold at its HANDOVER: that of the latest write held for it, else its own. -/
def State.heldWord (s : State) (a : Nat) : Word :=
  match (s.mgt.shadow.filter fun e => e.1 == a).getLast? with
  | some e => e.2.1
  | none => s.reg a

/-- A write over `p` of a shadowed register waits for the HANDOVER of its group. Bits that the lock protects are
not held, and the write is flagged (R12). -/
def State.shadowWrite (s : State) (p : Path) (g a : Nat) (w : Word) : State :=
  let s : State := { s with mgt := { s.mgt with
    shadow := s.mgt.shadow ++ [(a, s.stored a (s.heldWord a) w, s.clk.ticks)] } }
  (s.setRegN Reg.MGT_SHADOW_PEND (s.regN Reg.MGT_SHADOW_PEND ||| 2 ^ g)).lockFlagAt p a

/-- A held write that a HANDOVER of group `g` at this tick applies: one of the tick itself waits for the next
(R18, R685). -/
def State.handsOver (s : State) (g : Nat) (e : Nat × Word × Nat) : Bool :=
  shadowGroup e.1 == some g && e.2.2 != s.clk.ticks

/-- The effect of HANDOVER for group `g` (R348, R679): its shadows take effect. -/
def State.handover (s : State) (g _arg1 : Nat) : Bool × State :=
  if g = 0 ∨ 6 < g then (false, s)
  else if ¬ bit (s.regN Reg.MGT_SHADOW_EN) g then (true, s)
  else
    let mine := s.mgt.shadow.filter (s.handsOver g)
    let rest := s.mgt.shadow.filter fun e => !s.handsOver g e
    let s : State := { s with mgt := { s.mgt with shadow := rest } }
    let s := mine.foldl (fun s e => s.setReg e.1 e.2.1) s
    let s := if g = 6 then s.throttleCheck.holdCheck else s
    (true, s.setFld Reg.MGT_SHADOW_PEND ⟨g, 1⟩ (b2n (rest.any fun e => shadowGroup e.1 == some g)))

/-! ### Keys (R678) -/

/-- A key write is allowed: over SPI, in the image, or in a frame authenticated with the other key (`auth`). -/
def keyAllowed (p : Path) (auth : Option Nat) (k : Nat) : Bool :=
  match p with
  | .spi => true
  | .image => true
  | .mgmt => auth == some (1 - k)
  | .tunnel _ => auth == some (1 - k)
  | _ => false

/-- MGT_KEY`k`_`i` is written (R678). The write of word 7 commits the key. -/
def State.keyWrite (s : State) (p : Path) (auth : Option Nat) (k i : Nat) (w : Word) : State :=
  let a := if k = 0 then Reg.MGT_KEY0 i else Reg.MGT_KEY1 i
  if ¬ keyAllowed p auth k then s.accFlag p a .refused
  else
    let st := Kv.set s.mgt.keyStage (8 * k + i) w
    let s : State := { s with mgt := { s.mgt with keyStage := st } }
    if i ≠ 7 then s
    else
      let key := (List.range 8).flatMap fun j => (toLE 4 (Kv.getD st (8 * k + j) 0#32).toNat).reverse
      let s : State := { s with mgt := { s.mgt with keys := Kv.set s.mgt.keys k key } }
      s.event Reg.MGT_EVENT Fld.MGT_EVENT_KEY_CHANGE

/-- MGT_KEY_COMMIT (R678): word 7 of key `k` is written over `path`, in a frame authenticated with key `auth` where it
comes in one. -/
def execMgtKeyCommit (path : Path) (auth : Option (Fin 2)) (k : Fin 2) (w : Word) (s : State) :
    Host.Outcome State Fault Refusal :=
  .next (s.keyWrite path (auth.map Fin.val) k 7 w)

/-! ### Command registers -/

/-- The state a meaning leaves: those called here always answer a next state. -/
def State.after (s : State) (o : Host.Outcome State Fault Refusal) : State :=
  match o with
  | .next t => t
  | _ => s

/-- One of the meanings of a command field, by its code. -/
def State.pick (s : State) (l : List (Host.Outcome State Fault Refusal)) (code : Nat) : State :=
  match code with
  | 0 => s
  | n + 1 => match l[n]? with
    | some o => s.after o
    | none => s

/-- TB_CTRL and the writes that the counter's rules govern (R330, R339, R343, R357). -/
def State.tbWrite (s : State) (p : Path) (a : Nat) (w : Word) : Option State :=
  if a = Reg.TB_INCR then some (s.after (execTbIncrWrite p w s))
  else if a = Reg.TB_CTRL then some (s.pick [execTbStepCmd p s] (Fld.TB_CTRL_STEP.get w))
  else if a = Reg.TB_ADJ_LO then some (if s.hostServo then s.stageLo p a w else s.accFlag p a .owner)
  else if a = Reg.TB_ADJ_HI then some (s.after (execTbAdjCommit p w s))
  else if a = Reg.TB_PPS_SEC_HI then some (s.after (execTbPpsSecWrite p w s))
  else none

/-- Why a write over `p` of a slot register at `a` is refused (R347, R352), an image entry being a write of the management
port (R579); none where it is not, or `a` is none. -/
def State.slotRefusal (s : State) (p : Path) (a : Nat) : Option FlagReason :=
  let o := a - Reg.TA_SLOT_SEC_LO 0
  let n := o / 0x20
  if a < Reg.TA_SLOT_SEC_LO 0 ∨ 256 ≤ n ∨ 0x18 ≤ o % 0x20 then none
  else if 128 ≤ n ∧ (p.outside || p == .image) = true then some .owner
  else if s.slotSt n = 1 ∨ s.slotSt n = 2 then some .refused
  else none

/-- TA_CTRL, and writes of slots (R347, R352, R366). -/
def State.taWrite (s : State) (p : Path) (a : Nat) (w : Word) : Option State :=
  if a = Reg.TA_CTRL then
    let n := Fld.TA_CTRL_SLOT.get w
    if 128 ≤ n then some (s.accFlag p a .owner)
    else some (s.pick [execTaArm p (Fin.ofNat 256 n) s, execTaDisarm p (Fin.ofNat 256 n) s] (Fld.TA_CTRL_OP.get w))
  else (s.slotRefusal p a).map fun r => s.accFlag p a r

/-- LN_LANE_CTRL (R432): CMD, then PWR. -/
def State.lnWrite (s : State) (p : Path) (a : Nat) (w : Word) : Option State :=
  (arrayIx a (Reg.LN_LANE_CTRL 0) 41 0x40).map fun n =>
    let n := Fin.ofNat 41 n
    let s := s.pick [execLaneRetrain p n s, execLaneOut p n s] (Fld.LN_LANE_CTRL_CMD.get w)
    s.pick [execLanePwrLs p n s, execLanePwrLd p n s, execLanePwrExit n s] (Fld.LN_LANE_CTRL_PWR.get w)

/-- ING_CH_CTRL (R533, R545): OP, then DOORBELL. -/
def State.ingWrite (s : State) (p : Path) (a : Nat) (w : Word) : Option State :=
  (arrayIx a (Reg.ING_CH_CTRL 0) 8 0x40).map fun c =>
    let c := Fin.ofNat 8 c
    let s := s.pick [execChStart (.reg p c) s, execChRestart (.reg p c) s, execChAbort (.reg p c) s]
      (Fld.ING_CH_CTRL_OP.get w)
    s.pick [execDoorbell (.reg p c) s] (Fld.ING_CH_CTRL_DOORBELL.get w)

/-- CRC_U_CTRL, and CRC_U_CFG of a claimed unit (R542). -/
def State.crcWrite (s : State) (p : Path) (a : Nat) (w : Word) : Option State :=
  match arrayIx a (Reg.CRC_U_CTRL 0) 4 0x40 with
  | some u =>
    let u := Fin.ofNat 4 u
    some (s.pick [execCrcUnitEnable p u s, execCrcUnitDisable p u s] (Fld.CRC_U_CTRL_OP.get w))
  | none =>
    match arrayIx a (Reg.CRC_U_CFG 0) 4 0x40 with
    | some u => if s.flag (Reg.CRC_U_STATUS u) Fld.CRC_U_STATUS_CLAIMED then some (s.accFlag p a .owner) else none
    | none => none

/-- EXP_ZLS_CTRL and EXP_UNIT_CTRL (R119, R152). -/
def State.expWrite (s : State) (p : Path) (a : Nat) (w : Word) : Option State :=
  if a = Reg.EXP_ZLS_CTRL then some (s.zlsCtrl w)
  else if a = Reg.EXP_UNIT_CTRL then some (s.unitCtrl p w)
  else none

/-- VER_ENG_CTRL (R214). -/
def State.verWrite (s : State) (p : Path) (a : Nat) (w : Word) : Option State :=
  if a = Reg.VER_ENG_CTRL then
    let e := Fin.ofNat 64 (Fld.VER_ENG_CTRL_ENGINE.get w)
    some (s.pick [execVerEngOut p e s, execVerEngReturn e s] (Fld.VER_ENG_CTRL_CMD.get w))
  else none

/-- BM_CTRL and BM_BEAM_CMD (R239, R243, R245). -/
def State.bmWrite (s : State) (p : Path) (a : Nat) (w : Word) : Option State :=
  if a = Reg.BM_CTRL then
    if bmCtrlMany w then some (s.accFlag p a .refused)
    else if Fld.BM_CTRL_EDIT_OPEN.get w = 1 then some (s.after (execEditOpen p w s))
    else if Fld.BM_CTRL_EDIT_COMMIT.get w = 1 then some (s.after (execEditCommit p w s))
    else if Fld.BM_CTRL_EDIT_CANCEL.get w = 1 then some (s.after (execEditCancel p w s))
    else some s
  else if a = Reg.BM_BEAM_CMD then some (s.after (execBeamCmd p w s))
  else none

/-- A write of HP_CFG that clears PORT_EN of a port which a captured swath uses (R321). -/
def State.portHeld (s : State) (w : Word) : Bool :=
  let off := (List.range 6).filter fun p =>
    bit (s.fld Reg.HP_CFG Fld.HP_CFG_PORT_EN) p && !bit (Fld.HP_CFG_PORT_EN.get w) p
  s.gy.swaths.any fun x => x.ports.any fun p => off.contains p

/-- HP_CFG, HP_SB_CMD, HP_WAVE_CTRL and HP_PORT_CTRL (R320, R321, R325). -/
def State.hpWrite (s : State) (p : Path) (a : Nat) (w : Word) : Option State :=
  if a = Reg.HP_CFG then
    if ¬ s.locked ∧ s.portHeld w then some (s.accFlag p a .refused)
    else some (s.fieldWrite p a w).portEnables
  else if a = Reg.HP_SB_CMD then
    some (s.pick [execSbIdentityReread w s, execSbNozzleCheck w s, execSbTelemetryPoll w s] (Fld.HP_SB_CMD_OP.get w))
  else if a = Reg.HP_WAVE_CTRL then some (s.pick [execWaveCommit p w s] (Fld.HP_WAVE_CTRL_COMMIT.get w))
  else (arrayIx a (Reg.HP_PORT_CTRL 0) 6 0x100).map fun n =>
    s.pick [execHpPortRestart p (Fin.ofNat 6 n) s] (Fld.HP_PORT_CTRL_RESTART.get w)

/-- MP_AX_CTRL (R462). -/
def State.axisCmd (s : State) (p : Path) (x : Fin 6) (w : Word) : State :=
  s.pick [execAxisStart p x (Fin.ofNat 1024 (Fld.MP_AX_CTRL_MOVE.get w)) s, execAxisStop x s, execAxisHome p x s,
    execAxisEnable x s, execAxisDisable x s, execAxisClear x s] (Fld.MP_AX_CTRL_CMD.get w)

/-- MP_AX_CTRL, V, A, J and OVR, and the target of a move that runs (R443, R446, R447, R462). -/
def State.mpWrite (s : State) (p : Path) (a : Nat) (w : Word) : Option State :=
  let x := (a - Reg.MP_AX_CFG 0) / 0x100
  if 6 ≤ x then none
  else if a = Reg.MP_AX_CTRL x then some (s.axisCmd p (Fin.ofNat 6 x) w)
  else if a = Reg.MP_AX_V x then some (s.writeV x w)
  else if a = Reg.MP_AX_A x then some (s.writeA x w)
  else if a = Reg.MP_AX_J x then some (s.writeJ x w)
  else if a = Reg.MP_AX_OVR x then some (s.writeOvr x w)
  else if (a = Reg.MP_AX_TARGET_LO x ∨ a = Reg.MP_AX_TARGET_HI x) ∧ s.moving x = true then some (s.accFlag p a .refused)
  else none

/-- The register at `a` belongs to a compare unit that is armed, which protects it (R485). -/
def State.cmpHeld (s : State) (a : Nat) : Bool :=
  let u := (a - Reg.FB_CMP_CFG 0) / 0x40
  let st := s.fld (Reg.FB_CMP_STATUS u) Fld.FB_CMP_STATUS_STATE
  decide (Reg.FB_CMP_CFG 0 ≤ a ∧ u < 8 ∧ a < Reg.FB_CMP_COUNT u ∧ (st = 1 ∨ st = 2))

/-- FB_CMP_CTRL, the registers an armed unit protects, and FB_AX_IDX_REF (R479, R485, R494). -/
def State.fbWrite (s : State) (p : Path) (a : Nat) (w : Word) : Option State :=
  match arrayIx a (Reg.FB_AX_IDX_REF_HI 0) 6 0x100 with
  | some x => some (s.after (execIdxRefCommit p (Fin.ofNat 6 x) w s))
  | none =>
    let u := (a - Reg.FB_CMP_CFG 0) / 0x40
    if a < Reg.FB_CMP_CFG 0 ∨ 8 ≤ u then none
    else if a = Reg.FB_CMP_CTRL u then
      let u := Fin.ofNat 8 u
      some (s.pick [execCmpArm p u s, execCmpDisarm u s] (Fld.FB_CMP_CTRL_OP.get w))
    else if s.cmpHeld a then some (s.accFlag p a .refused)
    else none

/-- SV_AX_INJ_CTRL, SV_CAP_CTRL, and SV_CAP_CFG while a capture runs (R489, R490, R496). -/
def State.svWrite (s : State) (p : Path) (a : Nat) (w : Word) : Option State :=
  if a = Reg.SV_CAP_CTRL then
    some (s.pick [execCaptureStart p s, execCaptureStartWithInj p s] (Fld.SV_CAP_CTRL_OP.get w))
  else if a = Reg.SV_CAP_CFG ∧ s.motion.cap.running = true then some (s.accFlag p a .refused)
  else (arrayIx a (Reg.SV_AX_INJ_CTRL 0) 2 0x100).map fun x =>
    let x := Fin.ofNat 2 x
    s.pick [execInjStart p x s, execInjStop x s] (Fld.SV_AX_INJ_CTRL_OP.get w)

/-- MI_REMAP_CTRL, MI_BANK_RETIRE and MI_FLIP_CTRL (R512, R514, R515). -/
def State.miWrite (s : State) (p : Path) (a : Nat) (w : Word) : Option State :=
  if a = Reg.MI_REMAP_CTRL then some (s.after (execPageRetire w s))
  else if a = Reg.MI_BANK_RETIRE then
    some (s.pick [execBankRetireRequest p w s, execBankRetireCancel w s] (Fld.MI_BANK_RETIRE_OP.get w))
  else if a = Reg.MI_FLIP_CTRL then some (s.after (execFlipArm w s))
  else none

/-- HM_CH_REF of VM0 to VM4 follows its rail, and writes are ignored (R634); after the lock they are flagged as
well, the register being RWL (R12). The actions that HM_CH_CFG gives apply at once to a channel at its level (R617). -/
def State.hmWrite (s : State) (p : Path) (a : Nat) (w : Word) : Option State :=
  match arrayIx a (Reg.HM_CH_REF 16) 5 0x20 with
  | some _ => some (s.lockFlagAt p a)
  | none => (arrayIx a (Reg.HM_CH_CFG 0) 56 0x20).bind fun _ =>
    if (s.shadowed a).isSome then none else some (s.fieldWrite p a w).throttleCheck.holdCheck

/-- CAL_CTRL (R638). -/
def State.calWrite (s : State) (p : Path) (a : Nat) (w : Word) : Option State :=
  if a = Reg.CAL_CTRL then
    some (s.pick [execCalRun p w s, execCalFix p w s, execCalInterp p w s, execCalClearFail w s]
      (Fld.CAL_CTRL_OP.get w))
  else none

/-- ERR_ACK, ERR_ACK_UPTO, ERR_CFG and ERR_CORE_CTRL (R646, R660, R663, R665). -/
def State.errWrite (s : State) (p : Path) (a : Nat) (w : Word) : Option State :=
  if a = Reg.ERR_ACK then some (s.after (execErrAck p w s))
  else if a = Reg.ERR_ACK_UPTO then some (s.after (execErrAckUpto w s))
  else if a = Reg.ERR_CFG then some (s.fieldWrite p a w).autoAck
  else if a = Reg.ERR_CORE_CTRL then
    let n := Fin.ofNat 16 (Fld.ERR_CORE_CTRL_CORE.get w)
    some (s.pick [execErrCoreOut p n s, execErrCoreReturn n s] (Fld.ERR_CORE_CTRL_CMD.get w))
  else none

/-- CFG_CTRL, CFG_UPD_CTRL, CFG_OTP_CTRL, and the hash registers once they are programmed (R580, R584, R588 to R591,
R594). A LOCK that takes effect takes its AON time from a free value. -/
def State.cfgWrite (s : State) (p : Path) (a : Nat) (w : Word) : Option State :=
  if a = Reg.CFG_CTRL then
    let s := if Fld.CFG_CTRL_LOCK.get w = 1 then
        let (us, s) := s.free
        s.after (execCfgLock p us s)
      else s
    some (s.after (execCfgRestart w s))
  else if a = Reg.CFG_UPD_CTRL then
    some (s.pick [execUpdProgram w s, execUpdCheck w false s, execUpdHandover s, execUpdAbortHandover s]
      (Fld.CFG_UPD_CTRL_OP.get w))
  else if a = Reg.CFG_OTP_CTRL then some (s.after (execOtpProgram w s))
  else if (arrayIx a (Reg.CFG_OTP_HASH 0) 8 4).isSome ∧ s.boot.otp.isSome then some s
  else none

/-- The keys (R678). -/
def State.mgtWrite (s : State) (p : Path) (auth : Option Nat) (a : Nat) (w : Word) : Option State :=
  (arrayIx a (Reg.MGT_KEY0 0) 16 4).map fun i => s.keyWrite p auth (i / 8) (i % 8) w

/-- Levels of the GPIO outputs that `t` drives and `s` did not, or otherwise (R681, R682). A GPIO of a compare unit
ignores its bit, and held pads keep their level (R604). -/
def State.drivePins (s t : State) : State :=
  if t.flag Reg.PWR_HOLD Fld.PWR_HOLD_GPIO then t
  else (List.range 16).foldl (fun u i =>
    let out := fun (x : State) => if bit (x.regN Reg.GLB_GPIO_DIR) i then some (bit (x.regN Reg.GLB_GPIO_OUT) i)
      else none
    match out t with
    | some v => if out s = some v ∨ t.pinOwned i then u else u.emit (.pin i (b2n v))
    | none => u) t

/-- GLB_GPIO_DIR and GLB_GPIO_OUT (R682). -/
def State.glbWrite (s : State) (p : Path) (a : Nat) (w : Word) : Option State :=
  if a = Reg.GLB_GPIO_DIR then some (s.drivePins (s.fieldWrite p a w))
  else if a = Reg.GLB_GPIO_OUT then
    let t := s.drivePins (s.fieldWrite p a w)
    some { t with mgt := { t.mgt with gpioAt := some (t.clk.ticks, t.reg a) } }
  else none

/-- A write to a register that does more than its access codes say; none for any other register. -/
def State.ruleWrite (s : State) (p : Path) (auth : Option Nat) (a : Nat) (w : Word) : Option State :=
  match a / 0x10000 with
  | 0 => s.glbWrite p a w
  | 1 => s.tbWrite p a w
  | 2 => s.taWrite p a w
  | 4 => s.lnWrite p a w
  | 5 => s.ingWrite p a w
  | 6 => s.crcWrite p a w
  | 7 => s.expWrite p a w
  | 9 => s.verWrite p a w
  | 10 => s.bmWrite p a w
  | 11 => if a = Reg.GY_CTRL then some (s.pick [execStopSwath s] (Fld.GY_CTRL_STOP_SWATH.get w)) else none
  | 12 => s.hpWrite p a w
  | 13 => s.mpWrite p a w
  | 15 => s.fbWrite p a w
  | 16 => s.svWrite p a w
  | 18 => s.miWrite p a w
  | 19 => if a = Reg.CMP_REC_RELEASE_HI then some (s.releaseCommit p w) else none
  | 20 => if a = Reg.PWR_CTRL then some (s.after (execPwrRequest p w s)) else none
  | 21 => s.hmWrite p a w
  | 22 => s.calWrite p a w
  | 23 => s.errWrite p a w
  | 24 => if a = Reg.ACC_UNFREEZE then some (s.after (execAccUnfreeze p w s)) else none
  | 25 => s.cfgWrite p a w
  | 26 => s.mgtWrite p auth a w
  | _ => none

/-- A write to a register over `p`; `auth` names the key that authenticated its frame. -/
def State.regWrite (s : State) (p : Path) (auth : Option Nat) (a : Nat) (w : Word) : State :=
  match s.ruleWrite p auth a w with
  | some t => t
  | none =>
    match s.shadowed a with
    | some g => s.shadowWrite p g a w
    | none => s.fieldWrite p a w

/-! ### Table writes (R222, R277, R311, R398, R437, R449, R588, R680) -/

/-- Move-table entries of the chains that run. -/
def State.runningEntries (s : State) : List Nat :=
  (List.range 6).flatMap fun x =>
    let g := s.gen x
    if g.entry = 0 then [] else (s.chain 6 [] g.head).getD []

/-- Segment `k` of axis `x` belongs to a PATH of a chain that runs. -/
def State.segRuns (s : State) (x k : Nat) : Bool :=
  s.runningEntries.any fun i =>
    let e := s.moveE i
    e.kind == 3 && e.axis == x && decide (e.first ≤ k ∧ k < e.first + e.count)

/-- `w` is written to table address `a` where `ok`, and ignored and flagged otherwise. -/
def State.tblIf (s : State) (p : Path) (a : Nat) (w : Word) (ok : Bool) : State :=
  if ok then s.setTbl a (w &&& tblMask a) else s.accFlag p a .table

/-- A write to the table window at `a`. Windows that are read only ignore it. -/
def State.tblWrite (s : State) (p : Path) (a : Nat) (w : Word) : State :=
  if inBeamMap a then s.tblIf p a w (s.flag Reg.BM_STATUS Fld.BM_STATUS_EDIT)
  else if 0x01800000 ≤ a ∧ a < 0x01A00000 then s.tblIf p a w false
  else if 0x01B00000 ≤ a ∧ a < 0x01B02000 then s.setTbl a (w &&& tblMask a)
  else if 0x01C00000 ≤ a ∧ a < 0x01C10000 then s.setTbl a (w &&& tblMask a)
  else if 0x01D00080 ≤ a ∧ a < 0x01D02000 then (if s.locked then s else s.setTbl a w)
  else if 0x01F00000 ≤ a ∧ a < 0x01FC0000 then
    let o := a - 0x01F00000
    s.tblIf p a w (!s.segRuns (o / 0x20000) (o % 0x20000 / 0x20))
  else if 0x01FC0000 ≤ a ∧ a < 0x01FC8000 then
    s.tblIf p a w (!s.runningEntries.contains ((a - 0x01FC0000) / 0x20))
  else if (0x01FC8000 ≤ a ∧ a < 0x01FC8600) ∨ (0x01FCC000 ≤ a ∧ a < 0x01FCC100) then s.setTbl a (w &&& tblMask a)
  else if stagingWindow ≤ a ∧ a < stagingWindow + 0x100000 then s.setTbl a w
  else s

/-! ### Accesses -/

/-- A write of `a` over `p`: OSTATUS and the state after it (R672, R677). -/
def State.busWrite (s : State) (p : Path) (auth : Option Nat) (a : Nat) (w : Word) : OStatus × State :=
  match s.access p a with
  | .ok =>
    (.ok, if p = .spi ∧ s.flag Reg.MGT_CFG Fld.MGT_CFG_SPI_RO ∧ ¬ spiMay a then s.accFlag p a .refused
      else if a < 0x01000000 then s.regWrite p auth a w
      else s.tblWrite p a w)
  | st => (st, s)

/-- The order of R668 among paths that commit a pair in one cycle. The table names no order for a timed action or
the firmware: DESIGN CHOICE, log entry 2, they come after the paths it names. -/
def Path.rank : Path → Nat
  | .mgmt => 0
  | .image => 0
  | .tunnel n => 1 + n
  | .spi => 65536
  | .action => 65537
  | .firmware => 65538

/-- The write that takes effect among commits of one cycle (R668). -/
def firstRank : List (Path × Word) → Option (Path × Word)
  | [] => none
  | x :: l => match firstRank l with
    | some y => if y.1.rank < x.1.rank then some y else some x
    | none => some x

/-- Path `p` reports outcome `st` for a word it wrote (R16, R672); the SPI target keeps it for STATUS, as that of a
transaction of one word (R676). -/
def State.answer (s : State) (p : Path) (st : OStatus) : State :=
  if p.outside then
    let s : State := if p = .spi then { s with mgt := { s.mgt with spiStatus := st, spiWords := 1 } } else s
    s.emit (.status p st)
  else s

/-- The commit of `p` for the pair at `a` loses: its staged half goes, and its path reports DISCARDED (R16, R668). -/
def State.loseCommit (s : State) (a : Nat) (p : Path) : State := (s.unstage p a).answer p .discarded

/-- The write of the HI half at `a` over `p` is a commit: the access is done, the register stores or acts on bits of it, and
no rule ignores it (R12, R15, R339, R352, R485, R677). -/
def State.commits (s : State) (p : Path) (a : Nat) : Bool :=
  s.access p a == .ok && !(p == .spi && s.flag Reg.MGT_CFG Fld.MGT_CFG_SPI_RO && !spiMay a) &&
    (match RegMap.find a with
      | some (d, _) => d.access == .wo || s.writable d != 0
      | none => false) &&
    !(a == Reg.TB_ADJ_HI && !s.hostServo) && (s.slotRefusal p a).isNone && !s.cmpHeld a

/-- A write of one cycle: it acts, and its path reports the outcome. -/
def State.wordWrite (s : State) (a : Nat) (x : Path × Word) : State :=
  let r := s.busWrite x.1 none a x.2
  r.2.answer x.1 r.1

/-- The writes `ws` of the HI half at `a` in one cycle: of those that commit the pair one takes effect (R668). -/
def State.pairWrites (s : State) (a : Nat) (ws : List (Path × Word)) : State :=
  let cs := ws.filter fun x => s.commits x.1 a
  let s := (ws.filter fun x => !s.commits x.1 a).foldl (fun s x => s.wordWrite a x) s
  match firstRank cs with
  | none => s
  | some x => ((cs.filter fun y => y.1 != x.1).foldl (fun s y => s.loseCommit (a - 4) y.1) s).wordWrite a x

/-- The event bits `hw` of register `a` that hardware sets in the cycle of a write stay set (R14). -/
def State.hwSets (s : State) (a : Nat) (hw : Word) : State :=
  match RegMap.find a with
  | some (d, _) => s.setRegN a (s.regN a ||| (hw.toNat &&& d.w1c))
  | none => s

/-- REGISTER_WRITE (R12, R14, R16, R668): the writes `ws` reach the register or table word at `a` in one cycle, in
which hardware sets the event bits `hw` of the register. Of several commits of a pair one takes effect; other writes
act in their order. -/
def execRegisterWrite (a : Nat) (ws : List (Path × Word)) (hw : Word) (s : State) :
    Host.Outcome State Fault Refusal :=
  .next ((if RegMap.isLo (a - 4) ∧ a < 0x01000000 then s.pairWrites a ws
    else ws.foldl (fun s x => s.wordWrite a x) s).hwSets a hw)

end Sys2Proof.Machine
end

