-- ==== Sys2Proof/Machine/Actions.lean ====
section
/-! DEFINITION. Timed actions at their instant, in the order of R351 (R348 to R356). -/

namespace Sys2Proof.Machine

open Sys2Proof.Bits

/-- BARRIER acts (R348, R388). The barrier is firmware's; beyond the slot's end the spec gives the action no effect. -/
def State.barrierAct (s : State) (_arg0 _arg1 : Nat) : Bool × State := (true, s)

/-- The effect of an action with code `code` on ARG0 and ARG1, and whether its target accepts it (R348). -/
def State.actEffect (code : Nat) : State → Nat → Nat → Bool × State :=
  match code with
  | 1 => State.startAction
  | 2 => State.barrierAct
  | 3 => State.handover
  | 4 => State.calApply
  | 5 => State.powerAct
  | 6 => State.domainSwitch
  | _ => State.gpioSet

/-- Action `d` acts, unless an action before it has cleared its slot. A POWER action is DONE before what it requests
begins (R355). -/
def State.actOne (s : State) (d : TaDue) : State :=
  let c := s.slotCode d.slot
  if s.due.contains d then s.actDue d (c == 5) (State.actEffect c) else s

/-- The next action with code `code` acts at its instant, after every action that acts before it (R351). -/
def State.actOn (s : State) (code : Nat) : State :=
  match s.dueAction code with
  | none => s
  | some d => (s.dueOrder.filter fun e => e.before d || e == d).foldl State.actOne s

/-- SWATH_START_ACTION (R268, R270, R348). -/
def execSwathStartAction (s : State) : Host.Outcome State Fault Refusal := .next (s.actOn 1)

/-- BARRIER_ACTION (R348, R388). -/
def execBarrierAction (s : State) : Host.Outcome State Fault Refusal := .next (s.actOn 2)

/-- HANDOVER_ACTION (R348, R679). -/
def execHandoverAction (s : State) : Host.Outcome State Fault Refusal := .next (s.actOn 3)

/-- CAL_APPLY_ACTION (R348, R631). -/
def execCalApplyAction (s : State) : Host.Outcome State Fault Refusal := .next (s.actOn 4)

/-- POWER_ACTION (R348, R602, R603). -/
def execPowerAction (s : State) : Host.Outcome State Fault Refusal := .next (s.actOn 5)

/-- DOMAIN_SWITCH (R340, R342). -/
def execDomainSwitch (s : State) : Host.Outcome State Fault Refusal := .next (s.actOn 6)

/-- GPIO_SET (R348, R351). -/
def execGpioSet (s : State) : Host.Outcome State Fault Refusal := .next (s.actOn 7)

end Sys2Proof.Machine
end

