-- ==== Sys2Proof/Machine/Startup.lean ====
section
/-! DEFINITION. The start: release of internal reset, the sections of the image (R570 to R587, R408 to R410, R632),
and the wake from DEEP (R605 to R607). -/

namespace Sys2Proof.Machine

open Sys2Proof.Bits

/-! ### The state area at start (R515, R516, R586) -/

/-- A half that is read carries another module's serial number, and is ignored: one of the device read first, or, that
having no valid half, of the other. -/
def State.stSerial (s : State) : State :=
  let d := 1 - s.fld Reg.CFG_STATUS Fld.CFG_STATUS_SOURCE
  let alien := fun (d : Nat) => (List.range 2).any fun h =>
    (s.boot.halves.getD (2 * d + h) none).any fun x => x.serial != s.pair Reg.GLB_SERIAL_LO
  if alien d ∨ ((s.halfOf d).isNone ∧ alien (1 - d)) then s.event Reg.CFG_EVENT Fld.CFG_EVENT_SERIAL_MISMATCH else s

/-- One live record is taken: a retired bank, a remapped page, or a repaired row. -/
def State.stTake (s : State) (r : StRec) : State :=
  match r.ty with
  | 1 => { s with dram := { s.dram with retired := s.dram.retired ++ [rd r.pay 0 1 + 16 * rd r.pay 1 1] } }
  | 2 =>
    let s := s.setTbl (remapBase + 4 * rd r.pay 0 2) (BitVec.ofNat 32 (2 ^ 31 + rd r.pay 4 4))
    s.setFld Reg.MI_STATUS Fld.MI_STATUS_REMAP_USED (s.fld Reg.MI_STATUS Fld.MI_STATUS_REMAP_USED + 1)
  | 3 =>
    let a := rd r.pay 0 2
    let n := Kv.getD s.sram.used a 0
    if sramSpares a ≤ n then
      let p := s.sram.pending ++ [a * 2 ^ 32 + rd r.pay 4 4]
      let s : State := { s with sram := { s.sram with pending := p } }
      s.setFld Reg.MI_SRAM_ROWS Fld.MI_SRAM_ROWS_PENDING p.length
    else
      let s : State := { s with sram := { s.sram with used := Kv.set s.sram.used a (n + 1) } }
      s.setFld Reg.MI_SRAM_ROWS Fld.MI_SRAM_ROWS_USED (s.fld Reg.MI_SRAM_ROWS Fld.MI_SRAM_ROWS_USED + 1)
  | _ => s

/-- The state area is read. -/
def State.stStart (s : State) : State :=
  let s := s.stSerial
  let d := s.stDev
  if (s.halfOf d).isNone then
    ((s.setFld Reg.CFG_STATUS Fld.CFG_STATUS_STATE_EMPTY 1).logErr .degraded 0x19 (errCodeNone 0) unitCfg
      (s.infoOf Reg.CFG_EVENT)).showState
  else (((liveRecs (s.stRecs d)).foldl (fun s r => s.stTake r) s).showBanks).showState

/-! ### Sections (R574, R579, R632) -/

/-- Firmware claims check units 0 and 1 (R542). -/
def State.claimCrc (s : State) : State :=
  [(0, 1, 1), (1, 2, 2)].foldl (fun s u =>
    let s := (s.setFld (Reg.CRC_U_CFG u.1) Fld.CRC_U_CFG_SNOOP u.2.1).setFld (Reg.CRC_U_CFG u.1) Fld.CRC_U_CFG_POLY
      u.2.2
    (s.setFld (Reg.CRC_U_STATUS u.1) Fld.CRC_U_STATUS_CLAIMED 1).setFld (Reg.CRC_U_STATUS u.1)
      Fld.CRC_U_STATUS_ENABLED 1) s

/-- Roles 0 to 9 run on cores 0 to 9, and cores 10 and 11 are spare (R42, R657). -/
def State.startCores (s : State) : State :=
  (List.range 12).foldl (fun s n => if n < 10 then s.setCore n 0 n else s.setCore n 1 15) s

/-- FIRMWARE passes and firmware starts (R576). -/
def State.applyFirmware (s : State) : State :=
  let s := s.setRegN Reg.GLB_FW_VERSION (rd (imgHead (s.flash (s.fld Reg.CFG_STATUS Fld.CFG_STATUS_SOURCE))) 16 4)
  (s.startCores.claimCrc.stStart).onBoot fun b => { b with fwWait := true }

/-- SPARES `bs` names the spare of each cluster (R155). -/
def State.applySpares (s : State) (bs : List Byte) : State :=
  (List.range 40).foldl (fun s e =>
    let k := min (rd bs (e / 10) 1) 9
    s.onEngine e fun x => { x with svc := if e % 10 = k then .spare else .inService }) s

/-- Addresses that the entries of section type `ty` may name (R574). -/
def entryMay (ty a : Nat) : Bool :=
  let b := a / 0x10000
  if ty = sectFabric then b == 3 || decide (0x01D00000 ≤ a ∧ a < 0x01D02000)
  else if ty = sectMotion then
    decide (13 ≤ b ∧ b ≤ 16) || decide (0x01F00000 ≤ a ∧ a < 0x01FCC100) || decide (0x01FE0000 ≤ a ∧ a < 0x02000000)
  else true

/-- One entry of a section of type `ty` (R579). -/
def State.applyEntry (s : State) (ty a : Nat) (w : Word) : State :=
  let (st, t) := s.busWrite .image none a w
  if entryMay ty a ∧ st = .ok then t
  else (s.count Reg.CFG_SKIPPED 1).event Reg.CFG_EVENT Fld.CFG_EVENT_ENTRY_SKIP

/-- The entries of a section of type `ty`, in list order. -/
def State.applyEntries (s : State) (ty : Nat) (bs : List Byte) : State :=
  (List.range (bs.length / 8)).foldl (fun s i =>
    s.applyEntry ty (rd bs (8 * i) 4) (BitVec.ofNat 32 (rd bs (8 * i + 4) 4))) s

/-- The BEAMMAP section is loaded and validated (R217, R238), and sets every STATUS byte (R229 item 1). -/
def State.applyBeamMap (s : State) (bs : List Byte) : State :=
  let old := s.tables
  let s := s.setTblBytes beamHdrAddr (bs.take 80)
  let nb := 16 * hdrNbeam s.tables
  let nr := 8 * hdrNrow s.tables
  let nw := 16 * hdrNwset s.tables
  let s := s.setTblBytes 0x01400000 (((bs.drop 80).take nb).take 0x400000)
  let s := s.setTblBytes 0x01A00000 (((bs.drop (80 + nb)).take nr).take 0x8000)
  let s := s.setTblBytes 0x01A08000 (((bs.drop (80 + nb + nr)).take nw).take 0x1000)
  (s.countStatus old (hdrNbeam s.tables)).validateMap

/-- A calibration record or trim block is skipped (R632). -/
def State.imgSkip (s : State) : State := s.event Reg.CAL_EVENT Fld.CAL_EVENT_IMG_SKIP

/-- A point record of the CAL section, 40 bytes (R632). -/
def State.calImagePoint (s : State) (b : List Byte) : State :=
  let t := rd b 0 2
  let k := rd b 2 1
  let temp := signed 16 (rd b 8 2)
  let v := (List.range 4).map fun i => signed 32 (rd b (12 + 4 * i) 4)
  let es := s.calEntries t
  let ok := match calClass t with
    | .nothing => false
    | .feedback | .firing => decide (k = es.length ∧ k < 8) && es.all fun e => decide (e.1.1 < temp)
    | _ => decide (k = 0) && es.isEmpty
  if ok then s.setPoints t (es ++ [((temp, v), 0)]) else s.imgSkip

/-- A trim block of the CAL section, 8,200 bytes (R632). -/
def State.calImageTrim (s : State) (b : List Byte) : State :=
  let p := rd b 0 1
  let k := rd b 1 1
  let rows := b.drop 8
  if p < 6 ∧ k < 8 ∧ (List.range 4096).all (fun r => decide (rd rows (2 * r) 2 ≤ 1023)) = true then
    (s.setTblBytes (0x01E80000 + 0x10000 * p + 0x2000 * k) (rows.take 8192)).onCal fun c =>
      { c with trims := if c.trims.contains p then c.trims else c.trims ++ [p] }
  else s.imgSkip

/-- The CAL section, and then the records of the state area (R629, R632). -/
def State.applyCal (s : State) (bs : List Byte) : State :=
  let np := min (rd bs 0 4) ((bs.length - 16) / 40)
  let s := (List.range np).foldl (fun s i => s.calImagePoint ((bs.drop (16 + 40 * i)).take 40)) s
  let bs := bs.drop (16 + 40 * rd bs 0 4)
  let nt := min (rd bs 4 4) (bs.length / 8200)
  ((List.range nt).foldl (fun s i => s.calImageTrim ((bs.drop (8200 * i)).take 8200)) s).calStart

/-- A section of type `ty` with the bytes `bs` is applied (R574). -/
def State.applySect (s : State) (ty : Nat) (bs : List Byte) : State :=
  match ty with
  | 1 => s.applyFirmware
  | 2 => s.applyEq bs
  | 3 => s.applySpares bs
  | 4 => s.applyEntries ty bs
  | 5 => (s.applyEntries ty bs).fabDiscover
  | 6 => s.applyEntries ty bs
  | 7 => s.applyBeamMap bs
  | 8 => s.setTblBytes 0x01C00000 (bs.take 65536)
  | 9 => s.applyCal bs
  | _ => s

/-! ### The start (R576 to R578, R583) -/

/-- Device the image comes from. -/
def State.source (s : State) : Nat := s.fld Reg.CFG_STATUS Fld.CFG_STATUS_SOURCE

/-- The header of the image is accepted (R572, R576): what it shows, and what is to be read. -/
def State.imageAccept (s : State) (us : Nat) : State :=
  let f := s.flash s.source
  let hd := imgHead f
  let ss := imgSects f
  let have_ := fun (l : List Nat) => l.filter fun t => ss.any fun x => x.ty == t
  let s := (s.milestone 1 us).setPair Reg.CFG_BUILD_LO (rd hd 24 8)
  let s := s.setFld Reg.CFG_STATUS Fld.CFG_STATUS_SIGNED (b2n (imgSigned hd))
  let s := s.setFld Reg.CFG_STATUS Fld.CFG_STATUS_HOST_LOCK (b2n (imgHostLock hd))
  let s := s.onBoot fun b => { b with
    sects := ss
    todo := have_ [sectEq, sectFirmware, sectSpares, sectRegs, sectFabric, sectMotion]
    rest := have_ [sectBeamMap, sectWave, sectCal]
    iface := rd hd 20 2
    copy := [] }
  let s := if ss.any (fun x => decide (x.ty = 0 ∨ (9 < x.ty ∧ x.ty < 0x8000))) = true then
      s.event Reg.CFG_EVENT Fld.CFG_EVENT_SECT_SKIP
    else s
  if s.hasSect sectEq then s else s.applyEq []

/-- INTERNAL_RESET_RELEASE (R408, R576, R583, R673): internal reset is released `us` µs after VIN good with the straps
at `straps`, the session value is drawn, and the header is read by `us1`; `readFail`: a read does not complete. -/
def execInternalResetRelease (straps : Fin 16) (readFail : Bool) (us us1 : Nat) (s : State) :
    Host.Outcome State Fault Refusal :=
  if s.boot.phase ≠ .reset then .next s
  else
    let s := (s.onBoot fun b => { b with phase := .load }).milestone 0 us
    let (n, s) := s.free
    let s := s.setPair Reg.MGT_SESSION_LO n
    let s := (s.setFld Reg.LN_STATUS Fld.LN_STATUS_BOARD_ID straps.val).setFld Reg.LN_STATUS Fld.LN_STATUS_STRAPS
      straps.val
    if readFail then .next (s.imageFail 1 0)
    else match s.headCause (s.flash s.source) with
      | 0 => .next (s.imageAccept us1)
      | c => .next (s.imageFail c 0)

/-- The section that is read next, before the lock or after it (R576). -/
def State.nextSect (s : State) : Option Sect :=
  let ty := match s.boot.phase with
    | .load => s.boot.todo.head?
    | .run => if s.locked then s.boot.rest.head? else none
    | _ => none
  ty.bind fun t => s.boot.sects.find? fun x => x.ty == t

/-- Section `x` has passed its checks with the bytes `bs`: it goes into the image copy, and is applied. -/
def State.sectPass (s : State) (x : Sect) (bs : List Byte) : State :=
  let s := s.onBoot fun b => { b with
    todo := b.todo.filter (· != x.ty)
    rest := b.rest.filter (· != x.ty)
    copy := b.copy ++ [(x, bs)] }
  s.putCopy.applySect x.ty bs

/-- IMAGE_SECTION_READ (R576 to R578): the next section arrives, `us` µs after VIN good; `readFail`: its read does not
complete. The sections after FIRMWARE are read once firmware runs. -/
def execImageSectionRead (readFail : Bool) (us : Nat) (s : State) : Host.Outcome State Fault Refusal :=
  match s.nextSect with
  | none => .next s
  | some x =>
    let bs := flashAt (s.flash s.source) x.ofs x.len
    let cause := if readFail then 1 else sectCause (s.flag Reg.CFG_STATUS Fld.CFG_STATUS_SIGNED) x bs
    if cause ≠ 0 then .next (s.imageFail cause (s.sectIndex x.ty))
    else .next ((s.firmwareRuns us).sectPass x bs)

/-! ### The wake from DEEP (R606, R607) -/

/-- AON registers that the reset of a failed restore leaves (R607). -/
def aonKeeps (a : Nat) : Bool :=
  (a / 0x10000 == 0x14 && !([Reg.PWR_STATUS, Reg.PWR_HOLD, Reg.PWR_VCORE].contains a)) || a == Reg.LN_WAKE_CFG ||
    a == Reg.TB_AON_RATIO_LO || a == Reg.TB_AON_RATIO_HI

/-- The canary has failed (R607). -/
def State.canaryFail (s : State) : State :=
  let t := s.wholeReset .reset
  let u := (s.regs.filter fun e => aonKeeps e.1).foldl (fun u e => u.setReg e.1 e.2) t
  let u : State := { u with clk := s.clk }
  u.raise .degraded Reg.PWR_EVENT Fld.PWR_EVENT_DEEP_RESTORE_FAIL 0 unitPower

/-- Firmware and the sections are applied again from the image copy, and the configuration locks (R606). -/
def State.wakeApply (s : State) : State :=
  let s := s.claimCrc
  let s := (copyPlaces imageCopy s.boot.copy).foldl (fun s e =>
    let (_, bs, s) := if s.inited imageCopy then s.fetch 8 e.1 e.2.2.length else (false, e.2.2, s)
    if [sectSpares, sectRegs, sectFabric, sectMotion, sectBeamMap, sectWave].contains e.2.1.ty then
      s.applySect e.2.1.ty bs
    else s) s
  let s := (List.range 4).foldl (fun s p => s.setFport p 1) s.fabDiscover
  let s := s.lockNow 0
  let s := [0, 1, 2, 3, 4, 11].foldl (fun s q => s.leaveLd q) s
  (s.ingOpen.onPw fun p => { p with canary := false }).setFld Reg.PWR_HOLD Fld.PWR_HOLD_GPIO 0

/-- WAKE_DRAM_RETRAINED (R606, R607): after a wake DRAM is retrained, and the canary is read: `ok`, its CRC holds. -/
def execWakeDramRetrained (ok : Bool) (s : State) : Host.Outcome State Fault Refusal :=
  if s.pw.step ≠ some (3, 2) ∨ ¬ s.pw.canary then .next s
  else .next (if ok then s.wakeApply else s.canaryFail)

end Sys2Proof.Machine
end

