-- ==== Sys2Proof/Machine/Mgmt.lean ====
section
/-! DEFINITION. Management frames, the tunnel and the SPI target (R668 to R678). -/

namespace Sys2Proof.Machine

open Sys2Proof.Bits

/-- The state with the management data changed by `f`. -/
def State.onMgt (s : State) (f : Mgt → Mgt) : State := { s with mgt := f s.mgt }

/-- The code of an outcome (R672). -/
def OStatus.code : OStatus → Nat
  | .ok => 0
  | .noBlock => 1
  | .notReady => 2
  | .align => 3
  | .discarded => 4

/-- The first outcome that is not OK. -/
def OStatus.first (a b : OStatus) : OStatus := if a = .ok then b else a

/-! ### Words -/

/-- Poll bytes before a word of the SPI target, 64 at most: how many is free (R676). -/
def State.polls (s : State) : List Byte × State :=
  let (n, s) := s.free
  (List.replicate (n % 65) 0xFF, s)

/-- `n` words are read from `a` over `p`: the first outcome not OK, what is sent for each word, and the state. The SPI target
sends poll bytes, the outcome and the word (R676). -/
def State.readWords (s : State) (p : Path) (tag : Bool) : Nat → Nat → OStatus × List Byte × State
  | _, 0 => (.ok, [], s)
  | a, n + 1 =>
    let (st, w, s) := s.busRead p a
    let (ps, s) := if tag then s.polls else ([], s)
    let (st', bs, s) := s.readWords p tag (a + 4) n
    (st.first st', ps ++ (if tag then toBE 1 st.code else []) ++ toBE 4 w.toNat ++ bs, s)

/-- `n` words of `bs` are written from `a` over `p`: the first outcome not OK, and the state. -/
def State.writeWords (s : State) (p : Path) (auth : Option Nat) (bs : List Byte) : Nat → Nat → OStatus × State
  | _, 0 => (.ok, s)
  | a, n + 1 =>
    let (st, s) := s.busWrite p auth a (BitVec.ofNat 32 (rdBE bs 0 4))
    let (st', s) := s.writeWords p auth (bs.drop 4) (a + 4) n
    (st.first st', s)

/-! ### Operations (R671) -/

/-- The operation at the start of `b` runs over `p`: its part of the response, and the state. -/
def State.runOp (s : State) (p : Path) (auth : Option Nat) (b : List Byte) : List Byte × State :=
  let head := fun (st : OStatus) => toBE 1 (opCode b) ++ toBE 1 st.code ++ toBE 2 (opCount b) ++ toBE 4 (opAddr b)
  if ¬ opGood b then (head .align, s)
  else if opCode b = 1 ∨ opCode b = 3 then
    let (st, d, s) := s.readWords p false (opAddr b) (opCount b)
    (head st ++ d, s)
  else
    let (st, s) := s.writeWords p auth (b.drop 8) (opAddr b) (opCount b)
    (head st, s)

/-- `n` operations run in order. -/
def State.runOps (s : State) (p : Path) (auth : Option Nat) : Nat → List Byte → List Byte × State
  | 0, _ => ([], s)
  | n + 1, b =>
    let (r, s) := s.runOp p auth b
    let (rs, s) := s.runOps p auth n (b.drop (8 + opData b))
    (r ++ rs, s)

/-- The response to `fr` with frame status `st`, `n` operations and their bytes (R670). -/
def State.mgtReply (s : State) (fr : List Byte) (st n : Nat) (ops : List Byte) : List Byte :=
  let key := if mgtAuth fr then s.mgtKey (mgtKeyId fr) else none
  let b := toBE 1 1 ++ toBE 1 2 ++ toBE 1 (b2n key.isSome) ++ toBE 1 (mgtKeyId fr) ++ toBE 1 st ++ toBE 1 n ++
    toBE 2 ops.length ++ toBE 8 (s.pair Reg.MGT_SESSION_LO) ++ toBE 8 (mgtSeq fr) ++ toBE 4 (mgtTag fr) ++ toBE 4 0 ++ ops
  match key with
  | some k => b ++ Crc.hmac k b
  | none => b

/-- Requester `x.key` has `x` as its last accepted request. -/
def State.keep (s : State) (x : Kept) : State :=
  s.onMgt fun m => { m with kept := m.kept.filter (fun y => y.key != x.key) ++ [x] }

/-- A request that passed every check is accepted and run over `p` (R673 step 7). A restart among its operations
leaves no response. -/
def State.mgtRun (s : State) (key : Nat) (p : Path) (fr : List Byte) : Option (List Byte) × State :=
  let auth := if mgtAuth fr then some (mgtKeyId fr) else none
  let s := (s.keep ⟨key, mgtSeq fr, mgtTag fr, []⟩).count Reg.MGT_REQUESTS 1
  let s := if key = 0 then s.setPair Reg.MGT_SEQ_LO (mgtSeq fr) else s
  let (ops, t) := s.runOps p auth (mgtNops fr) ((fr.drop 32).take (mgtLen fr))
  if t.boot.phase = .reset ∨ t.boot.phase = .unpowered then (none, t)
  else
    let r := s.mgtReply fr 0 (mgtNops fr) ops
    (some r, t.keep ⟨key, mgtSeq fr, mgtTag fr, r⟩)

/-- A request of requester `key` over `p` is handled (R673): its response, if any, and the state. -/
def State.mgtServe (s : State) (key : Nat) (p : Path) (fr : List Byte) : Option (List Byte) × State :=
  let k := s.keptOf key
  if ¬ mgtForm fr then (none, (s.count Reg.MGT_DROPS 1).event Reg.MGT_EVENT Fld.MGT_EVENT_MALFORMED)
  else if ¬ s.mgtTrust fr then
    (none, (s.count Reg.MGT_AUTH_FAILS 1).raise .contained Reg.MGT_EVENT Fld.MGT_EVENT_AUTH_FAIL 0 unitAcc)
  else if mgtSession fr ≠ s.pair Reg.MGT_SESSION_LO then
    (some (s.mgtReply fr 2 0 []), s.event Reg.MGT_EVENT Fld.MGT_EVENT_SESSION)
  else if mgtSeq fr = k.seq ∧ mgtTag fr = k.tag ∧ k.response ≠ [] then (some k.response, s)
  else if mgtSeq fr ≤ k.seq then (some (s.mgtReply fr 3 0 []), s.event Reg.MGT_EVENT Fld.MGT_EVENT_SEQ_OLD)
  else if 1500 < 32 + opsReply (mgtNops fr) ((fr.drop 32).take (mgtLen fr)) + macBytes fr then
    (some (s.mgtReply fr 4 0 []), s)
  else s.mgtRun key p fr

/-- Requests of the management port in hand: the one that is handled and those queued behind it, by when each will have been
answered (R674). -/
def State.mgtInHand (s : State) : List Nat := s.mgt.busy.filter fun t => decide (s.clk.ticks < t)

/-- A request joins those in hand (R674): it is answered after them and within 100 µs of its last byte, a free instant. -/
def State.mgtJoin (s : State) : State :=
  let l := s.mgtInHand
  let now := s.clk.ticks
  let (n, s) := s.free
  s.onMgt fun m => { m with busy := l ++ [max (l.getLastD now) (now + n % 100001)] }

/-- MGT_REQUEST (R669, R673, R674, R685): the Ethernet frame `eth` comes in on the management port, which handles one request
and queues 8. Its accesses are made at its arrival (log entry 68); a response that finds the lane failed is lost. A PTP frame is no request: the commands of chapter 10 take it (R335). -/
def execMgtRequest (eth : List Byte) (s : State) : Host.Outcome State Fault Refusal :=
  if ¬ s.mgtReady then .next s
  else if ¬ s.ethTaken eth then .next (s.count Reg.MGT_DROPS 1)
  else if ethType eth = 0x88F7 then .next s
  else if 9 ≤ s.mgtInHand.length then .next ((s.count Reg.MGT_DROPS 1).event Reg.MGT_EVENT Fld.MGT_EVENT_DROP)
  else
    let (r, s) := s.mgtJoin.mgtServe 0 .mgmt (eth.drop 14)
    .next (match r with
      | some b => if s.mgtReady then s.emit (.mgt b) else s
      | none => s)

/-! ### The tunnel (R383, R384, R675) -/

/-- Response `b` to the tunnel frame `f` goes out and is kept. -/
def State.tunReply (s : State) (f : FabFrame) (b : List Byte) : State :=
  let s := s.onMgt fun m =>
    let l := (m.tunnel.filter fun x => !(x.1 == f.src && x.2.1 == f.arg)) ++ [(f.src, f.arg, b)]
    { m with tunnel := l.drop (l.length - 64) }
  s.fabReply f 0x41 b

/-- A tunnelled request `f` (R383, R675). -/
def State.takeTunReq (s : State) (f : FabFrame) : State :=
  match s.mgt.tunnel.find? fun x => x.1 == f.src && x.2.1 == f.arg with
  | some x => s.fabReply f 0x41 x.2.2
  | none =>
    if ¬ s.flag Reg.MGT_CFG Fld.MGT_CFG_TUN_EN then s.tunReply f (s.mgtReply f.pay 5 0 [])
    else
      let (r, s) := s.mgtServe (f.src + 1) (.tunnel f.src) f.pay
      match r with
      | some b => s.tunReply f b
      | none => s

/-- TUN_REQ_FRAME (R675). -/
def execTunReqFrame (p : Fin 5) (fr : List Byte) (s : State) : Host.Outcome State Fault Refusal :=
  .next (s.fabRx p fr 0x40 State.takeTunReq)

/-- A tunnelled response closes its flow (R384); for a closed flow it is discarded (R383). -/
def State.takeTunRsp (s : State) (f : FabFrame) : State :=
  let mine := fun (w : Flow) => w.id == f.flow && w.frame.arg == f.arg && w.frame.dst == f.src
  if (s.fab.ports.flatMap (·.flows)).any mine then
    (s.onFab fun g => { g with
      ports := g.ports.map fun x => { x with flows := x.flows.filter fun w => !mine w } }).askAgain
  else s

/-- TUN_RSP_FRAME (R384, R675). -/
def execTunRspFrame (p : Fin 5) (fr : List Byte) (s : State) : Host.Outcome State Fault Refusal :=
  .next (s.fabRx p fr 0x41 State.takeTunRsp)

/-! ### The SPI target (R676, R677) -/

/-- The SPI target serves (R583, R585, R676). -/
def State.spiServes (s : State) : Bool := s.boot.phase != .unpowered && s.boot.phase != .reset

/-- The transaction that STATUS tells of: its first outcome not OK, and words completed. -/
def State.spiDone (s : State) (st : OStatus) (n : Nat) : State :=
  s.onMgt fun m => { m with spiStatus := st, spiWords := n % 65536 }

/-- SPI_READ (R676): `n` words are clocked out from `a`. -/
def execSpiRead (a : Word) (n : Nat) (s : State) : Host.Outcome State Fault Refusal :=
  if ¬ s.spiServes then .next s
  else
    let (st, bs, s) := s.readWords .spi true a.toNat n
    .next ((s.spiDone st n).emit (.spi bs))

/-- SPI_WRITE (R676): the bytes `bs` are clocked in for `a` and onward; a word cut short is not executed. -/
def execSpiWrite (a : Word) (bs : List Byte) (s : State) : Host.Outcome State Fault Refusal :=
  if ¬ s.spiServes then .next s
  else
    let (st, s) := s.writeWords .spi none bs a.toNat (bs.length / 4)
    .next (s.spiDone st (bs.length / 4))

/-- SPI_STATUS (R676). -/
def execSpiStatus (s : State) : Host.Outcome State Fault Refusal :=
  if ¬ s.spiServes then .next s
  else .next (s.emit (.spi (toBE 1 s.mgt.spiStatus.code ++ toBE 2 s.mgt.spiWords)))

end Sys2Proof.Machine
end

