-- ==== Sys2Proof/Machine/Dispatch.lean ====
section
/-! DEFINITION. The meaning of every command, one arm for each constructor of `Instr`. -/

namespace Sys2Proof.Machine

def exec (i : Instr) (s : State) : Host.Outcome State Fault Refusal :=
  match i with
  | .registerWrite a ws hw => Sys2Proof.Machine.execRegisterWrite a ws hw s
  | .avsChangeRequest n mhz => Sys2Proof.Machine.execAvsChangeRequest n mhz s
  | .avsSettled n => Sys2Proof.Machine.execAvsSettled n s
  | .avsChangeAbandon n => Sys2Proof.Machine.execAvsChangeAbandon n s
  | .estop => Sys2Proof.Machine.execEstop s
  | .estopSetRepeat => Sys2Proof.Machine.execEstopSetRepeat s
  | .estopRelease => Sys2Proof.Machine.execEstopRelease s
  | .headResumeSend => Sys2Proof.Machine.execHeadResumeSend s
  | .jobRecord rest => Sys2Proof.Machine.execJobRecord rest s
  | .layerRecord rest => Sys2Proof.Machine.execLayerRecord rest s
  | .headsWaitEnd => Sys2Proof.Machine.execHeadsWaitEnd s
  | .cellBegin rest => Sys2Proof.Machine.execCellBegin rest s
  | .cellEnd rest => Sys2Proof.Machine.execCellEnd rest s
  | .lattice rest => Sys2Proof.Machine.execLattice rest s
  | .place rest => Sys2Proof.Machine.execPlace rest s
  | .array rest => Sys2Proof.Machine.execArray rest s
  | .poly rest => Sys2Proof.Machine.execPoly rest s
  | .trap rest => Sys2Proof.Machine.execTrap rest s
  | .rect rest => Sys2Proof.Machine.execRect rest s
  | .disc rest => Sys2Proof.Machine.execDisc rest s
  | .patch rest => Sys2Proof.Machine.execPatch rest s
  | .material rest => Sys2Proof.Machine.execMaterial rest s
  | .dosecurve rest => Sys2Proof.Machine.execDosecurve rest s
  | .kernel rest => Sys2Proof.Machine.execKernel rest s
  | .field rest => Sys2Proof.Machine.execField rest s
  | .swathplan rest => Sys2Proof.Machine.execSwathplan rest s
  | .checkRecord rest => Sys2Proof.Machine.execCheckRecord rest s
  | .endRecord rest => Sys2Proof.Machine.execEndRecord rest s
  | .extensionRecord sub rest => Sys2Proof.Machine.execExtensionRecord sub rest s
  | .lpSpaceFreed => Sys2Proof.Machine.execLpSpaceFreed s
  | .zlsResume x => Sys2Proof.Machine.execZlsResume x s
  | .abortJob w => Sys2Proof.Machine.execAbortJob w s
  | .tileRowExpand n disagreed => Sys2Proof.Machine.execTileRowExpand n disagreed s
  | .tileRowExpandDone n steps differ => Sys2Proof.Machine.execTileRowExpandDone n steps differ s
  | .poolStallEnd n => Sys2Proof.Machine.execPoolStallEnd n s
  | .tileRowLate layer swath row => Sys2Proof.Machine.execTileRowLate layer swath row s
  | .expUnitOut path w => Sys2Proof.Machine.execExpUnitOut path w s
  | .expUnitLeave n => Sys2Proof.Machine.execExpUnitLeave n s
  | .expUnitReturn path w => Sys2Proof.Machine.execExpUnitReturn path w s
  | .xuSelftestDone n pass => Sys2Proof.Machine.execXuSelftestDone n pass s
  | .xuReenter n => Sys2Proof.Machine.execXuReenter n s
  | .surveyStart => Sys2Proof.Machine.execSurveyStart s
  | .surveyDone => Sys2Proof.Machine.execSurveyDone s
  | .cellCacheFill line hits row ecc => Sys2Proof.Machine.execCellCacheFill line hits row ecc s
  | .tileDispatch t e r => Sys2Proof.Machine.execTileDispatch t e r s
  | .parkedTileQuantise e => Sys2Proof.Machine.execParkedTileQuantise e s
  | .rasterDone e upset hs passes extra => Sys2Proof.Machine.execRasterDone e upset hs passes extra s
  | .checkerWaitTimeout t e => Sys2Proof.Machine.execCheckerWaitTimeout t e s
  | .ringSpaceFree t => Sys2Proof.Machine.execRingSpaceFree t s
  | .commitAck t flips tarn => Sys2Proof.Machine.execCommitAck t flips tarn s
  | .fireDeadline t => Sys2Proof.Machine.execFireDeadline t s
  | .sparePromote n => Sys2Proof.Machine.execSparePromote n s
  | .verEngOut path n => Sys2Proof.Machine.execVerEngOut path n s
  | .verEngReturn n => Sys2Proof.Machine.execVerEngReturn n s
  | .engOutApply e => Sys2Proof.Machine.execEngOutApply e s
  | .engSelftestDone e pass => Sys2Proof.Machine.execEngSelftestDone e pass s
  | .engShadowReturn e => Sys2Proof.Machine.execEngShadowReturn e s
  | .beamCmd path w => Sys2Proof.Machine.execBeamCmd path w s
  | .editOpen path w => Sys2Proof.Machine.execEditOpen path w s
  | .editCommit path w => Sys2Proof.Machine.execEditCommit path w s
  | .editCancel path w => Sys2Proof.Machine.execEditCancel path w s
  | .editValidationDone => Sys2Proof.Machine.execEditValidationDone s
  | .swathCapture => Sys2Proof.Machine.execSwathCapture s
  | .lineLoad bad => Sys2Proof.Machine.execLineLoad bad s
  | .feedbackTick samples lat sram => Sys2Proof.Machine.execFeedbackTick samples lat sram s
  | .strobePulse p => Sys2Proof.Machine.execStrobePulse p s
  | .governorPeriod => Sys2Proof.Machine.execGovernorPeriod s
  | .swathReady bar => Sys2Proof.Machine.execSwathReady bar s
  | .swathStartAction => Sys2Proof.Machine.execSwathStartAction s
  | .swathEndBoundary => Sys2Proof.Machine.execSwathEndBoundary s
  | .stopSwath => Sys2Proof.Machine.execStopSwath s
  | .swathStall => Sys2Proof.Machine.execSwathStall s
  | .headTempStale p h => Sys2Proof.Machine.execHeadTempStale p h s
  | .tmarkPeriod p phase => Sys2Proof.Machine.execTmarkPeriod p phase s
  | .headTmarkUp p mark phase => Sys2Proof.Machine.execHeadTmarkUp p mark phase s
  | .echoFrame p fr => Sys2Proof.Machine.execEchoFrame p fr s
  | .hoAckFrame p fr => Sys2Proof.Machine.execHoAckFrame p fr s
  | .sbRspFrame p fr => Sys2Proof.Machine.execSbRspFrame p fr s
  | .enumRspFrame p fr => Sys2Proof.Machine.execEnumRspFrame p fr s
  | .telemFrame p fr => Sys2Proof.Machine.execTelemFrame p fr s
  | .excFrame p fr => Sys2Proof.Machine.execExcFrame p fr s
  | .statusFrame p fr => Sys2Proof.Machine.execStatusFrame p fr s
  | .fireFrameSend p upset => Sys2Proof.Machine.execFireFrameSend p upset s
  | .sbReqTimeout p h => Sys2Proof.Machine.execSbReqTimeout p h s
  | .headStatusTimeout p h => Sys2Proof.Machine.execHeadStatusTimeout p h s
  | .hoAckTimeout p h => Sys2Proof.Machine.execHoAckTimeout p h s
  | .enumRetry p => Sys2Proof.Machine.execEnumRetry p s
  | .portTimeTimeout p => Sys2Proof.Machine.execPortTimeTimeout p s
  | .timeLockLoss p => Sys2Proof.Machine.execTimeLockLoss p s
  | .lwidthEcho p h => Sys2Proof.Machine.execLwidthEcho p h s
  | .hpPortRestart path p => Sys2Proof.Machine.execHpPortRestart path p s
  | .sbIdentityReread w => Sys2Proof.Machine.execSbIdentityReread w s
  | .sbNozzleCheck w => Sys2Proof.Machine.execSbNozzleCheck w s
  | .sbTelemetryPoll w => Sys2Proof.Machine.execSbTelemetryPoll w s
  | .waveCommit path w => Sys2Proof.Machine.execWaveCommit path w s
  | .waveValidationDone => Sys2Proof.Machine.execWaveValidationDone s
  | .tbPllLock c1 => Sys2Proof.Machine.execTbPllLock c1 s
  | .tbIncrWrite path w => Sys2Proof.Machine.execTbIncrWrite path w s
  | .tbStepCmd path => Sys2Proof.Machine.execTbStepCmd path s
  | .tbAdjCommit path w => Sys2Proof.Machine.execTbAdjCommit path w s
  | .tbPpsSecWrite path w => Sys2Proof.Machine.execTbPpsSecWrite path w s
  | .slewComplete => Sys2Proof.Machine.execSlewComplete s
  | .ptpAnnounce n a => Sys2Proof.Machine.execPtpAnnounce n a s
  | .ptpSync n source seq twoStep t1 corr phase => Sys2Proof.Machine.execPtpSync n source seq twoStep t1 corr phase s
  | .ptpFollowUp n source seq t1 corr => Sys2Proof.Machine.execPtpFollowUp n source seq t1 corr s
  | .delayReqSend d phase => Sys2Proof.Machine.execDelayReqSend d phase s
  | .ptpDelayResp n source seq mine t4 corr => Sys2Proof.Machine.execPtpDelayResp n source seq mine t4 corr s
  | .ppsInEdge phase tref => Sys2Proof.Machine.execPpsInEdge phase tref s
  | .domainSampleTimeout d => Sys2Proof.Machine.execDomainSampleTimeout d s
  | .stepApply => Sys2Proof.Machine.execStepApply s
  | .taArm path n => Sys2Proof.Machine.execTaArm path n s
  | .taDisarm path n => Sys2Proof.Machine.execTaDisarm path n s
  | .taDispatch => Sys2Proof.Machine.execTaDispatch s
  | .barrierAction => Sys2Proof.Machine.execBarrierAction s
  | .handoverAction => Sys2Proof.Machine.execHandoverAction s
  | .calApplyAction => Sys2Proof.Machine.execCalApplyAction s
  | .powerAction => Sys2Proof.Machine.execPowerAction s
  | .domainSwitch => Sys2Proof.Machine.execDomainSwitch s
  | .gpioSet => Sys2Proof.Machine.execGpioSet s
  | .ppsOutPulse => Sys2Proof.Machine.execPpsOutPulse s
  | .aonRatioLearn c => Sys2Proof.Machine.execAonRatioLearn c s
  | .helloSet p num st comp => Sys2Proof.Machine.execHelloSet p num st comp s
  | .helloSend p => Sys2Proof.Machine.execHelloSend p s
  | .linkKeepalive p => Sys2Proof.Machine.execLinkKeepalive p s
  | .lackSet p lseq nak => Sys2Proof.Machine.execLackSet p lseq nak s
  | .creditSet p c total => Sys2Proof.Machine.execCreditSet p c total s
  | .fabLwidth p m => Sys2Proof.Machine.execFabLwidth p m s
  | .linkResendTimeout p => Sys2Proof.Machine.execLinkResendTimeout p s
  | .linkSilenceTimeout p => Sys2Proof.Machine.execLinkSilenceTimeout p s
  | .topoFrame p fr => Sys2Proof.Machine.execTopoFrame p fr s
  | .topoRefresh => Sys2Proof.Machine.execTopoRefresh s
  | .topoEntryExpire serial => Sys2Proof.Machine.execTopoEntryExpire serial s
  | .settleTimeout => Sys2Proof.Machine.execSettleTimeout s
  | .loneRootTimeout => Sys2Proof.Machine.execLoneRootTimeout s
  | .assignFrame p fr => Sys2Proof.Machine.execAssignFrame p fr s
  | .routeHoldTimeout => Sys2Proof.Machine.execRouteHoldTimeout s
  | .tsyncFrame p fr => Sys2Proof.Machine.execTsyncFrame p fr s
  | .ftmarkReceive p m phase held phase2 => Sys2Proof.Machine.execFtmarkReceive p m phase held phase2 s
  | .ftmarkPeriod phases => Sys2Proof.Machine.execFtmarkPeriod phases s
  | .barArriveFrame p fr => Sys2Proof.Machine.execBarArriveFrame p fr s
  | .barArriveResend => Sys2Proof.Machine.execBarArriveResend s
  | .barReleaseFrame p fr => Sys2Proof.Machine.execBarReleaseFrame p fr s
  | .barAbortFrame p fr => Sys2Proof.Machine.execBarAbortFrame p fr s
  | .barTimeout bar => Sys2Proof.Machine.execBarTimeout bar s
  | .govFrame p fr => Sys2Proof.Machine.execGovFrame p fr s
  | .timedFrame p fr => Sys2Proof.Machine.execTimedFrame p fr s
  | .mcAckFrame p fr => Sys2Proof.Machine.execMcAckFrame p fr s
  | .mcNakFrame p fr => Sys2Proof.Machine.execMcNakFrame p fr s
  | .mcAckTimer => Sys2Proof.Machine.execMcAckTimer s
  | .nakFrame p fr => Sys2Proof.Machine.execNakFrame p fr s
  | .retryLaterResend => Sys2Proof.Machine.execRetryLaterResend s
  | .frozenFrame p fr => Sys2Proof.Machine.execFrozenFrame p fr s
  | .ingFrame p fr => Sys2Proof.Machine.execIngFrame p fr s
  | .writeFrame p fr => Sys2Proof.Machine.execWriteFrame p fr s
  | .readFrame p fr => Sys2Proof.Machine.execReadFrame p fr s
  | .readRspFrame p fr => Sys2Proof.Machine.execReadRspFrame p fr s
  | .wackFrame p fr => Sys2Proof.Machine.execWackFrame p fr s
  | .flowTimeout p id => Sys2Proof.Machine.execFlowTimeout p id s
  | .tunReqFrame p fr => Sys2Proof.Machine.execTunReqFrame p fr s
  | .tunRspFrame p fr => Sys2Proof.Machine.execTunRspFrame p fr s
  | .laneEnergyDetect n => Sys2Proof.Machine.execLaneEnergyDetect n s
  | .laneEnergyLoss n => Sys2Proof.Machine.execLaneEnergyLoss n s
  | .tsSetReceive n ts inverted skew => Sys2Proof.Machine.execTsSetReceive n ts inverted skew s
  | .trainStepTimeout n => Sys2Proof.Machine.execTrainStepTimeout n s
  | .trainDwellDone n => Sys2Proof.Machine.execTrainDwellDone n s
  | .laneErrorLimit n a => Sys2Proof.Machine.execLaneErrorLimit n a s
  | .cdrLockLoss n => Sys2Proof.Machine.execCdrLockLoss n s
  | .laneRetryTimer n => Sys2Proof.Machine.execLaneRetryTimer n s
  | .standbyProofDone n => Sys2Proof.Machine.execStandbyProofDone n s
  | .laneAdmit n => Sys2Proof.Machine.execLaneAdmit n s
  | .laneRetrain path n => Sys2Proof.Machine.execLaneRetrain path n s
  | .laneOut path n => Sys2Proof.Machine.execLaneOut path n s
  | .lanePwrLs path n => Sys2Proof.Machine.execLanePwrLs path n s
  | .lanePwrLd path n => Sys2Proof.Machine.execLanePwrLd path n s
  | .lanePwrExit n => Sys2Proof.Machine.execLanePwrExit n s
  | .eiLsReceive q => Sys2Proof.Machine.execEiLsReceive q s
  | .eiLdReceive q => Sys2Proof.Machine.execEiLdReceive q s
  | .pwrHandshakeTimeout q => Sys2Proof.Machine.execPwrHandshakeTimeout q s
  | .ldExitLock n => Sys2Proof.Machine.execLdExitLock n s
  | .ldExitTimeout n => Sys2Proof.Machine.execLdExitTimeout n s
  | .wakePatternDetect n full => Sys2Proof.Machine.execWakePatternDetect n full s
  | .strapChange v => Sys2Proof.Machine.execStrapChange v s
  | .axisStart path x move => Sys2Proof.Machine.execAxisStart path x move s
  | .axisStop x => Sys2Proof.Machine.execAxisStop x s
  | .axisHome path x => Sys2Proof.Machine.execAxisHome path x s
  | .axisEnable x => Sys2Proof.Machine.execAxisEnable x s
  | .axisDisable x => Sys2Proof.Machine.execAxisDisable x s
  | .axisClear x => Sys2Proof.Machine.execAxisClear x s
  | .motionParamWrite x which w => Sys2Proof.Machine.execMotionParamWrite x which w s
  | .servoSample => Sys2Proof.Machine.execServoSample s
  | .bandChangeApply k => Sys2Proof.Machine.execBandChangeApply k s
  | .msSetupEnd k => Sys2Proof.Machine.execMsSetupEnd k s
  | .inputQualify x j k high => Sys2Proof.Machine.execInputQualify x j k high s
  | .indexEvent x ns rise => Sys2Proof.Machine.execIndexEvent x ns rise s
  | .wireFault x pairs => Sys2Proof.Machine.execWireFault x pairs s
  | .commonModeMeasure x lo hi => Sys2Proof.Machine.execCommonModeMeasure x lo hi s
  | .feedbackFaultClear x => Sys2Proof.Machine.execFeedbackFaultClear x s
  | .converterSwap x now idle => Sys2Proof.Machine.execConverterSwap x now idle s
  | .idxRefCommit path x w => Sys2Proof.Machine.execIdxRefCommit path x w s
  | .cmpArm path u => Sys2Proof.Machine.execCmpArm path u s
  | .cmpDisarm u => Sys2Proof.Machine.execCmpDisarm u s
  | .injStart path x => Sys2Proof.Machine.execInjStart path x s
  | .injStop x => Sys2Proof.Machine.execInjStop x s
  | .captureStart path => Sys2Proof.Machine.execCaptureStart path s
  | .captureStartWithInj path => Sys2Proof.Machine.execCaptureStartWithInj path s
  | .dramTrainingDone ok us => Sys2Proof.Machine.execDramTrainingDone ok us s
  | .dramRead req unit addr len upsets shut => Sys2Proof.Machine.execDramRead req unit addr len upsets shut s
  | .dramWrite req master addr data shut => Sys2Proof.Machine.execDramWrite req master addr data shut s
  | .mergeFlush line => Sys2Proof.Machine.execMergeFlush line s
  | .rhWindowReset => Sys2Proof.Machine.execRhWindowReset s
  | .scrubStep upsets => Sys2Proof.Machine.execScrubStep upsets s
  | .initRegionDone us => Sys2Proof.Machine.execInitRegionDone us s
  | .pageRetire w => Sys2Proof.Machine.execPageRetire w s
  | .pageCopyDone => Sys2Proof.Machine.execPageCopyDone s
  | .bankRetireRequest path w => Sys2Proof.Machine.execBankRetireRequest path w s
  | .bankRetireCancel w => Sys2Proof.Machine.execBankRetireCancel w s
  | .flipArm w => Sys2Proof.Machine.execFlipArm w s
  | .dataFrame fr => Sys2Proof.Machine.execDataFrame fr s
  | .descWrFrame fr => Sys2Proof.Machine.execDescWrFrame fr s
  | .doorbell x => Sys2Proof.Machine.execDoorbell x s
  | .chStart x => Sys2Proof.Machine.execChStart x s
  | .chRestart x => Sys2Proof.Machine.execChRestart x s
  | .chAbort x => Sys2Proof.Machine.execChAbort x s
  | .statusReq fr => Sys2Proof.Machine.execStatusReq fr s
  | .channelRun => Sys2Proof.Machine.execChannelRun s
  | .descFetch row ecc => Sys2Proof.Machine.execDescFetch row ecc s
  | .descComplete => Sys2Proof.Machine.execDescComplete s
  | .dmaBusError wr addr => Sys2Proof.Machine.execDmaBusError wr addr s
  | .crcUnitEnable path u => Sys2Proof.Machine.execCrcUnitEnable path u s
  | .crcUnitDisable path u => Sys2Proof.Machine.execCrcUnitDisable path u s
  | .recReqRead fr => Sys2Proof.Machine.execRecReqRead fr s
  | .recReqRelease fr => Sys2Proof.Machine.execRecReqRelease fr s
  | .recReqIndex fr => Sys2Proof.Machine.execRecReqIndex fr s
  | .recReleaseCommit path w => Sys2Proof.Machine.execRecReleaseCommit path w s
  | .layerEndWrite => Sys2Proof.Machine.execLayerEndWrite s
  | .recordVerifyDone => Sys2Proof.Machine.execRecordVerifyDone s
  | .vinGood => Sys2Proof.Machine.execVinGood s
  | .vinLoss dead => Sys2Proof.Machine.execVinLoss dead s
  | .vinOvervoltage => Sys2Proof.Machine.execVinOvervoltage s
  | .resetN ns => Sys2Proof.Machine.execResetN ns s
  | .railFault vm => Sys2Proof.Machine.execRailFault vm s
  | .internalResetRelease straps readFail us us1 => Sys2Proof.Machine.execInternalResetRelease straps readFail us us1 s
  | .imageSectionRead readFail us => Sys2Proof.Machine.execImageSectionRead readFail us s
  | .firmwareStartTimeout => Sys2Proof.Machine.execFirmwareStartTimeout s
  | .configLock us mgt => Sys2Proof.Machine.execConfigLock us mgt s
  | .cfgLock path us => Sys2Proof.Machine.execCfgLock path us s
  | .cfgRestart w => Sys2Proof.Machine.execCfgRestart w s
  | .updProgram w => Sys2Proof.Machine.execUpdProgram w s
  | .updProgramDone diffs => Sys2Proof.Machine.execUpdProgramDone diffs s
  | .updCheck w readFail => Sys2Proof.Machine.execUpdCheck w readFail s
  | .updHandover => Sys2Proof.Machine.execUpdHandover s
  | .updAbortHandover => Sys2Proof.Machine.execUpdAbortHandover s
  | .handoverRoleMove => Sys2Proof.Machine.execHandoverRoleMove s
  | .otpProgram w => Sys2Proof.Machine.execOtpProgram w s
  | .otpProgramDone ok => Sys2Proof.Machine.execOtpProgramDone ok s
  | .pwrRequest path w => Sys2Proof.Machine.execPwrRequest path w s
  | .pwrStepDone aon => Sys2Proof.Machine.execPwrStepDone aon s
  | .vcorePoll mv fault => Sys2Proof.Machine.execVcorePoll mv fault s
  | .vcoreTimeout => Sys2Proof.Machine.execVcoreTimeout s
  | .idleAfterTimeout => Sys2Proof.Machine.execIdleAfterTimeout s
  | .wakePin k high us => Sys2Proof.Machine.execWakePin k high us s
  | .wakeTimer => Sys2Proof.Machine.execWakeTimer s
  | .wakeDramRetrained ok => Sys2Proof.Machine.execWakeDramRetrained ok s
  | .hmSample c valid v rail => Sys2Proof.Machine.execHmSample c valid v rail s
  | .tcalUpdate => Sys2Proof.Machine.execTcalUpdate s
  | .calRun path w => Sys2Proof.Machine.execCalRun path w s
  | .calFix path w => Sys2Proof.Machine.execCalFix path w s
  | .calInterp path w => Sys2Proof.Machine.execCalInterp path w s
  | .calClearFail w => Sys2Proof.Machine.execCalClearFail w s
  | .sensorCalTimer => Sys2Proof.Machine.execSensorCalTimer s
  | .convCalTimer x => Sys2Proof.Machine.execConvCalTimer x s
  | .firingCalTimer => Sys2Proof.Machine.execFiringCalTimer s
  | .calMeasureDone t m1 m2 => Sys2Proof.Machine.execCalMeasureDone t m1 m2 s
  | .firingDelayStep r => Sys2Proof.Machine.execFiringDelayStep r s
  | .errRecordProcess => Sys2Proof.Machine.execErrRecordProcess s
  | .errAck path w => Sys2Proof.Machine.execErrAck path w s
  | .errAckUpto w => Sys2Proof.Machine.execErrAckUpto w s
  | .coreWatchdogTimeout n => Sys2Proof.Machine.execCoreWatchdogTimeout n s
  | .checkpointTimer bad words => Sys2Proof.Machine.execCheckpointTimer bad words s
  | .errCoreOut path n => Sys2Proof.Machine.execErrCoreOut path n s
  | .errCoreReturn n => Sys2Proof.Machine.execErrCoreReturn n s
  | .coreSelftestDone n pass => Sys2Proof.Machine.execCoreSelftestDone n pass s
  | .coreSpareReturn n => Sys2Proof.Machine.execCoreSpareReturn n s
  | .spareSelftestTimer n => Sys2Proof.Machine.execSpareSelftestTimer n s
  | .accUnfreeze path w => Sys2Proof.Machine.execAccUnfreeze path w s
  | .mgtRequest eth => Sys2Proof.Machine.execMgtRequest eth s
  | .spiRead a n => Sys2Proof.Machine.execSpiRead a n s
  | .spiWrite a bs => Sys2Proof.Machine.execSpiWrite a bs s
  | .spiStatus => Sys2Proof.Machine.execSpiStatus s
  | .mgtKeyCommit path auth k w => Sys2Proof.Machine.execMgtKeyCommit path auth k w s
  | .unsupportedRecord code rest => Sys2Proof.Machine.execUnsupportedRecord code rest s
  | .frameCrcError q => Sys2Proof.Machine.execFrameCrcError q s
  | .erroredCharacter n => Sys2Proof.Machine.execErroredCharacter n s
  | .controlStateDisagreement u => Sys2Proof.Machine.execControlStateDisagreement u s

end Sys2Proof.Machine
end

