-- ==== Sys2Proof/Machine/Step.lean ====
section
/-! DEFINITION. One step of the block: the command at the front of the queue, or one tick of the Wellspring
counter. -/

namespace Sys2Proof.Machine

/-- The machine with its queue holding `q`. -/
def State.withPending (s : State) (q : List Instr) : State := { s with pending := q }

/-- One step: the command at the front of the queue runs on the state whose queue is the rest. On an empty
queue the block's 1.0 GHz clock gives one tick (R329; log entry 2). -/
def step (s : State) : Host.Outcome State Fault Refusal :=
  match s.pending with
  | [] => .next (s.elapse 1)
  | c :: q => exec c (s.withPending q)

/-- `s` with the command that the word spells put at the front of its queue (none: unchanged). -/
def State.withFetchWord (s : State) (nbits w : Nat) : State :=
  match decodeTableWord nbits w with
  | some c => s.withPending (c :: s.pending)
  | none => s

end Sys2Proof.Machine
end

