-- ==== Sys2Proof/Safety.lean ====
section
/-! DEFINITION. What counts as a safe state in the terms the statements use: every store of the machine in its
canonical form and every bank of units with its number of units; and the parts of the state a frame names. -/

namespace Sys2Proof.Safety

open Sys2Proof.Machine

/-- A sparse store is canonical: its keys rise strictly and no entry holds what an unlisted key reads as. -/
def canon {α : Type} [DecidableEq α] (d : Nat → α) (l : List (Nat × α)) : Bool :=
  Kv.sorted l && l.all fun e => decide (e.2 ≠ d e.1)

/-- Memory in its canonical form: addresses rise strictly and no byte listed is 0 (R509). -/
def Memory.wf (m : List Host.Cell) : Bool := canon (fun _ => (0 : Byte)) m

/-- DRAM is canonical. -/
def memWf (s : State) : Bool := Memory.wf s.mem

/-- The register file is canonical. -/
def regsWf (s : State) : Bool := canon RegMap.resetWord s.regs

/-- The table windows are canonical. -/
def tablesWf (s : State) : Bool := canon (fun _ => (0 : Word)) s.tables

/-- The module has the units the spec counts: 4 expansion units, 40 engines, 56 Fumarole channels, 2 time domains
(R334), 41 lanes, 6 axes with their feedback sources, 8 compare units (R482), 2 servo loops, 6 head ports, 4 fabric
ports (R368) and 8 ingest channels (spec/00_scope.md, spec/01_architecture.md). -/
def unitsOk (s : State) : Bool :=
  s.units.length == 4 && s.ver.engines.length == 40 && s.hm.length == 56 && s.doms.length == 2 &&
  s.ln.lanes.length == 41 && s.motion.gens.length == 6 && s.motion.fbs.length == 6 && s.motion.cmps.length == 8 &&
  s.motion.servos.length == 2 && s.hp.ports.length == 6 && s.fab.ports.length == 4 && s.ing.chans.length == 8

/-- The OTP key hash is programmed once: while it stands, none is being programmed (R591). -/
def otpOk (s : State) : Bool := s.boot.otp.isNone || s.boot.otpNext.isNone

/-- The invariant of every step. -/
def Inv (s : State) : Prop :=
  memWf s = true ∧ regsWf s = true ∧ tablesWf s = true ∧ unitsOk s = true ∧ otpOk s = true

/-- The parts of the state: one for each field, the held level of ESTOP_N (R304), and where the
start stands (R583). -/
inductive Part where
  | pending | regs | tables | mem | freeCount | locked | paths | log | cores | mgt | layers | lpBytes | units | rows
  | surveys | clk | parser | ver | beams | gy | recs | blocks | hm | cal | shown | sram | cache | pins
  | motion | sent | hp | doms | due | fab | ln | dram | ing | boot | pw | estop | phase
  deriving DecidableEq, Repr

/-- Part `p` is the same in `a` and `b`. -/
def Part.same (p : Part) (a b : State) : Prop :=
  match p with
  | .pending => b.pending = a.pending
  | .regs => b.regs = a.regs
  | .tables => b.tables = a.tables
  | .mem => b.mem = a.mem
  | .freeCount => b.freeCount = a.freeCount
  | .locked => b.locked = a.locked
  | .paths => b.paths = a.paths
  | .log => b.log = a.log
  | .cores => b.cores = a.cores
  | .mgt => b.mgt = a.mgt
  | .layers => b.layers = a.layers
  | .lpBytes => b.lpBytes = a.lpBytes
  | .units => b.units = a.units
  | .rows => b.rows = a.rows
  | .surveys => b.surveys = a.surveys
  | .clk => b.clk = a.clk
  | .parser => b.parser = a.parser
  | .ver => b.ver = a.ver
  | .beams => b.beams = a.beams
  | .gy => b.gy = a.gy
  | .recs => b.recs = a.recs
  | .blocks => b.blocks = a.blocks
  | .hm => b.hm = a.hm
  | .cal => b.cal = a.cal
  | .shown => b.shown = a.shown
  | .sram => b.sram = a.sram
  | .cache => b.cache = a.cache
  | .pins => b.pins = a.pins
  | .motion => b.motion = a.motion
  | .sent => b.sent = a.sent
  | .hp => b.hp = a.hp
  | .doms => b.doms = a.doms
  | .due => b.due = a.due
  | .fab => b.fab = a.fab
  | .ln => b.ln = a.ln
  | .dram => b.dram = a.dram
  | .ing => b.ing = a.ing
  | .boot => b.boot = a.boot
  | .pw => b.pw = a.pw
  | .estop => b.gy.estop = a.gy.estop
  | .phase => b.boot.phase = a.boot.phase

end Sys2Proof.Safety
end

