-- ==== Sys2Proof/Claims.lean ====
section
/-! DEFINITION. The words the statements are made of: a command that completes, the records and frames a command takes,
the state after a reset, and the parts of the state each command may change. -/

namespace Sys2Proof.Safety

open Sys2Proof.Machine Sys2Proof.Bits

/-- Command `c` completes on `s` in a state with `P`. -/
def Next (c : Instr) (s : State) (P : State → Prop) : Prop := ∃ t, exec c s = .next t ∧ P t

/-- `t` is the machine in a new internal reset, or without its rails, in phase `ph` (R584): nothing configured, nothing
in DRAM, no layer, no swath and an empty ring of the error log; the OTP key hash (R591) and the level of ESTOP_N stand. -/
abbrev WasReset (s : State) (ph : Phase) (t : State) : Prop :=
  t.boot.phase = ph ∧ t.locked = false ∧ t.mem = [] ∧ t.layers = [] ∧ t.gy.swaths = [] ∧ t.log = State.reset.log ∧
  t.boot.otp = s.boot.otp ∧ t.gy.estop = s.gy.estop

/-- The parser takes record `b` of type `k` in its job (R54, R84, R110, R111, R126): it waits for nothing, a context
that admits records is open, no check of R111 fails, the binding of a first LAYER holds and the layer program region
has room. -/
abbrev Takes (s : State) (k : Nat) (b : List Byte) : Prop :=
  let u := s.snoop (s.recordBlock k b)
  s.parser.headsWait = false ∧ s.parser.lpStall = false ∧ 2 ≤ recLen b ∧
  (s.parser.cur.state = .prologue ∨ s.parser.cur.state = .cell ∨ s.parser.cur.state = .layer ∨
    s.parser.cur.state = .between) ∧
  u.recordFault s.parser.cur k b = 0 ∧
  (k = typeLayer → s.parser.cur.lastLayer = none → u.binding s.parser.cur.materials = .ok) ∧
  (u.lpPlace s.parser.cur k b).isSome = true

/-- Where the parser writes record `b` of type `k` (R123). -/
def recPlace (s : State) (k : Nat) (b : List Byte) : Nat :=
  ((s.snoop (s.recordBlock k b)).lpPlace s.parser.cur k b).getD 0

/-- The parser at the first record of a job (R54). -/
def jobOpens (s : State) : State := { s with parser := { s.parser with cur := Content.fresh, saved := Content.fresh } }

/-- `fr` is a well-formed upstream frame of type `ty` from head `h` of port `p` with payload `b` of `n` bytes or more: its
CRC and length hold, the port is in ENUM or later, and the head is present unless the frame answers ENUM (R290, R291). -/
abbrev HeadFrame (s : State) (p : Nat) (fr : List Byte) (ty n h : Nat) (b : List Byte) : Prop :=
  let body := fr.take (fr.length - 4)
  12 ≤ fr.length ∧ Crc.crc32c body = rd fr (fr.length - 4) 4 ∧ body.length = 8 + 4 * rd fr 2 2 ∧
  rd fr 0 1 = ty ∧ rd fr 1 1 = h ∧ h < 8 ∧ b = body.drop 8 ∧ 8 + n ≤ body.length ∧
  2 ≤ s.portState p ∧ s.portState p ≠ 7 ∧ (ty ≠ 0x88 → s.headPresent p h = true) ∧ (s.port p).heads.length = 8

/-- `fr` is a frame of type `ty` that port `p`, 4 being the module itself, takes for this module; it spells `f` (R371 to
R375, R379, R382, R396, R407, R417): it is good, next in order on a port that is up, has a lane and sends no NOT_READY
that bars it, addressed to the neighbour or to this node, and its source is not frozen. -/
abbrev FabFrameIn (s : State) (p : Nat) (fr : List Byte) (ty : Nat) (f : FabFrame) : Prop :=
  f = fabParse fr ∧ fabGood fr = true ∧ f.ty = ty ∧ bit f.flags 0 = false ∧
  (f.dst = 0xFFFF ∨ f.dst = s.node ∧ s.flag Reg.FAB_STATUS Fld.FAB_STATUS_ID_VALID = true) ∧
  (f.src < 1024 → s.frozen f.src = true → classOf ty = 0 ∨ classOf ty = 4) ∧
  (s.fabState = 4 → ty = 0x10 ∨ ty = 0x11) ∧
  (p ≠ 4 → s.locked = true ∧ 2 ≤ s.fpState p ∧ rd fr 8 2 = (s.fport p).rxNext ∧ (s.fport p).mask ≠ 0 ∧
    (s.nrReason (p + 1) = 0 ∨ ty = 0x10 ∨ ty = 0x11))

/-- Port `p` has counted a frame in its order and has acknowledged it (R371, R373). -/
def fabIn (s : State) (p : Nat) : State :=
  if p = 4 then s
  else (s.onFport p fun x => { x with rxNext := (x.rxNext + 1) % 65536 }).sendLack p false

/-- `t` after port `p` has returned the credits of `f` (R372), unless taking `f` in `s` has left it in the receive
buffer (R538). -/
def fabOut (s : State) (p : Nat) (f : FabFrame) (t : State) : State :=
  if p = 4 ∨ s.ing.layoutHeld.length < t.ing.layoutHeld.length then t else t.returnCredit p (classOf f.ty) f.credits

/-- `fr` is a good ingest frame of type `ty` that is next in order on a ready ingest port with a lane (R373, R417, R524). -/
abbrev IngFrameIn (s : State) (fr : List Byte) (ty : Nat) : Prop :=
  s.ingReady = true ∧ s.portMask 0 ≠ 0 ∧ ingGood fr = true ∧ rd fr 0 1 = ty ∧ rd fr 4 2 = s.ing.rxNext

/-- The ingest port has counted and acknowledged frame `fr` of credit class `cls`. -/
def ingIn (s : State) (fr : List Byte) (cls : Nat) : State :=
  (s.onIng fun g => { g with
    rxNext := (g.rxNext + 1) % 65536
    rxTotal := Kv.set g.rxTotal cls (Kv.getD g.rxTotal cls 0 + divUp fr.length 64) }).ingLack false

/-- The geometry of the open body: of the section of the open cell that records enter, or of the open layer. -/
def openBody (p : Content) : List Geo :=
  match p.openCell with
  | some o => (o.sections.getLast?.map (·.body)).getD []
  | none => (p.openLayer.map (·.geom)).getD []

/-- A body is open (R54). -/
abbrev bodyOpen (p : Content) : Prop := p.openCell.isSome = true ∨ p.openLayer.isSome = true

/-- Dispatched action `d` is the next of code `c`; its instant has come, and no other action acts before it (R351). -/
abbrev ActsNow (s : State) (c : Nat) (d : TaDue) : Prop :=
  s.dueAction c = some d ∧ (s.dueOrder.filter fun e => e.before d || e == d) = [d] ∧ d.act ≤ s.now16

/-- What engine `e` has read when it delivers task `k` after `n` extra passes: the tile's bin, and a flipped word of its
tarn (R137, R161, R512). -/
def tileRead (s : State) (e : Nat) (k : Task) (n : Nat) : State :=
  ((s.binFetch e k.tile).2.unflip (sramTarn e) 0).count Reg.CE_XOVF n

/-- Every part of the state. -/
def allParts : List Part :=
  [.pending, .regs, .tables, .mem, .freeCount, .locked, .paths, .log, .cores, .mgt, .layers, .lpBytes,
   .units, .rows, .surveys, .clk, .parser, .ver, .beams, .gy, .recs, .blocks, .hm, .cal, .shown, .sram,
   .cache, .pins, .motion, .sent, .hp, .doms, .due, .fab, .ln, .dram, .ing, .boot, .pw, .estop, .phase]

/-- What a command may change: a next state of it differs from the state before in these parts alone. -/
def parts : Instr → List Part
  | .tbIncrWrite .. | .strapChange .. | .msSetupEnd .. | .cmpDisarm .. | .flipArm .. | .crcUnitEnable .. |
  .calRun .. | .calClearFail .. | .convCalTimer .. | .firingCalTimer | .errCoreReturn .. =>
    [.regs]
  | .xuSelftestDone .. | .xuReenter .. =>
    [.units]
  | .slewComplete =>
    [.clk]
  | .verEngReturn .. | .engSelftestDone .. =>
    [.ver]
  | .injStop .. =>
    [.motion]
  | .estopSetRepeat | .helloSend .. | .spiStatus =>
    [.sent]
  | .headTmarkUp .. =>
    [.hp]
  | .ptpDelayResp .. =>
    [.doms]
  | .idxRefCommit .. =>
    [.regs, .paths]
  | .errCoreOut .. | .spareSelftestTimer .. =>
    [.regs, .cores]
  | .mgtKeyCommit .. =>
    [.regs, .mgt]
  | .poolStallEnd .. | .expUnitOut .. | .expUnitLeave .. | .expUnitReturn .. =>
    [.regs, .units]
  | .surveyStart =>
    [.regs, .surveys]
  | .tbPllLock .. | .aonRatioLearn .. =>
    [.regs, .clk]
  | .avsChangeRequest .. | .parkedTileQuantise .. | .checkerWaitTimeout .. | .verEngOut .. | .engShadowReturn .. =>
    [.regs, .ver]
  | .editOpen .. | .editCommit .. =>
    [.regs, .beams]
  | .tcalUpdate | .calFix .. | .calInterp .. | .sensorCalTimer =>
    [.regs, .cal]
  | .axisStart .. | .axisStop .. | .axisHome .. | .axisClear .. | .motionParamWrite .. | .bandChangeApply .. |
  .feedbackFaultClear .. | .injStart .. | .captureStart .. | .captureStartWithInj .. =>
    [.regs, .motion]
  | .waveCommit .. | .waveValidationDone =>
    [.regs, .hp]
  | .ptpAnnounce .. =>
    [.regs, .doms]
  | .taDisarm .. =>
    [.regs, .due]
  | .updProgram .. | .updProgramDone .. | .updCheck .. | .updHandover | .updAbortHandover | .otpProgram .. |
  .otpProgramDone .. =>
    [.regs, .boot]
  | .firingDelayStep .. =>
    [.tables, .cal]
  | .ppsOutPulse =>
    [.clk, .sent]
  | .delayReqSend .. =>
    [.sent, .doms]
  | .ftmarkReceive .. | .ftmarkPeriod .. | .barArriveResend | .barTimeout .. | .mcAckTimer | .retryLaterResend =>
    [.sent, .fab]
  | .linkKeepalive .. =>
    [.sent, .ing]
  | .standbyProofDone .. =>
    [.hp, .ln]
  | .editCancel .. =>
    [.regs, .tables, .beams]
  | .converterSwap .. =>
    [.regs, .freeCount, .cal]
  | .tbAdjCommit .. =>
    [.regs, .paths, .clk]
  | .tileRowExpand .. =>
    [.regs, .log, .units]
  | .sparePromote .. =>
    [.regs, .log, .ver]
  | .indexEvent .. =>
    [.regs, .log, .motion]
  | .frameCrcError .. =>
    [.regs, .log, .sent]
  | .echoFrame .. =>
    [.regs, .log, .hp]
  | .pageRetire .. =>
    [.regs, .log, .dram]
  | .taDispatch =>
    [.regs, .clk, .due]
  | .crcUnitDisable .. =>
    [.regs, .parser, .ing]
  | .estopRelease =>
    [.regs, .gy, .estop]
  | .axisDisable .. | .cmpArm .. =>
    [.regs, .motion, .sent]
  | .helloSet .. | .topoRefresh | .topoEntryExpire .. =>
    [.regs, .sent, .fab]
  | .accUnfreeze .. =>
    [.regs, .sent, .ing]
  | .bankRetireCancel .. =>
    [.regs, .dram, .boot]
  | .swathReady .. =>
    [.gy, .sent, .fab]
  | .creditSet .. =>
    [.sent, .fab, .ing]
  | .errRecordProcess | .errAck .. | .errAckUpto .. =>
    [.regs, .mem, .log, .dram]
  | .axisEnable .. =>
    [.regs, .freeCount, .log, .motion]
  | .portTimeTimeout .. =>
    [.regs, .freeCount, .sent, .hp]
  | .coreSelftestDone .. =>
    [.regs, .log, .cores, .boot]
  | .tbStepCmd .. | .stepApply =>
    [.regs, .log, .clk, .doms]
  | .tmarkPeriod .. | .sbIdentityReread .. | .sbNozzleCheck .. | .sbTelemetryPoll .. =>
    [.regs, .log, .sent, .hp]
  | .topoFrame .. | .frozenFrame .. | .tunRspFrame .. =>
    [.regs, .log, .sent, .fab]
  | .statusReq .. | .recReqIndex .. =>
    [.regs, .log, .sent, .ing]
  | .bankRetireRequest .. =>
    [.regs, .log, .dram, .boot]
  | .strobePulse .. =>
    [.regs, .clk, .gy, .sent]
  | .spiRead .. =>
    [.freeCount, .paths, .mgt, .sent]
  | .calMeasureDone .. =>
    [.regs, .tables, .log, .cal, .boot]
  | .coreSpareReturn .. =>
    [.regs, .mem, .log, .cores, .dram]
  | .mergeFlush .. =>
    [.regs, .mem, .log, .sent, .dram]
  | .timeLockLoss .. | .hpPortRestart .. =>
    [.regs, .freeCount, .log, .sent, .hp]
  | .settleTimeout | .loneRootTimeout | .assignFrame .. | .barArriveFrame .. =>
    [.regs, .freeCount, .log, .sent, .fab]
  | .tbPpsSecWrite .. =>
    [.regs, .paths, .log, .clk, .doms]
  | .editValidationDone =>
    [.regs, .log, .beams, .sent, .hp]
  | .headResumeSend =>
    [.regs, .log, .gy, .sent, .hp]
  | .taArm .. | .timedFrame .. =>
    [.regs, .log, .sent, .due, .fab]
  | .routeHoldTimeout | .mcAckFrame .. | .readRspFrame .. | .wackFrame .. | .flowTimeout .. =>
    [.regs, .log, .sent, .fab, .ing]
  | .governorPeriod =>
    [.regs, .ver, .gy, .sent, .fab]
  | .fabLwidth .. | .laneEnergyDetect .. | .laneRetryTimer .. =>
    [.regs, .sent, .fab, .ln, .ing]
  | .scrubStep .. =>
    [.regs, .mem, .freeCount, .log, .sent, .dram]
  | .ringSpaceFree .. =>
    [.regs, .mem, .log, .ver, .sent, .dram]
  | .writeFrame .. =>
    [.regs, .mem, .log, .sent, .fab, .dram]
  | .laneEnergyLoss .. =>
    [.regs, .freeCount, .sent, .hp, .fab, .ing]
  | .domainSampleTimeout .. =>
    [.regs, .log, .clk, .doms, .due, .fab]
  | .govFrame .. =>
    [.regs, .log, .ver, .gy, .sent, .fab]
  | .laneAdmit .. | .lanePwrLs .. | .lanePwrLd .. =>
    [.regs, .sent, .hp, .fab, .ln, .ing]
  | .pageCopyDone =>
    [.regs, .tables, .mem, .log, .sent, .dram, .boot]
  | .mcNakFrame .. | .nakFrame .. | .readFrame .. =>
    [.regs, .mem, .freeCount, .log, .sent, .fab, .dram]
  | .tileRowExpandDone .. =>
    [.regs, .mem, .log, .units, .rows, .sent, .dram]
  | .dataFrame .. | .descWrFrame .. =>
    [.regs, .mem, .log, .sent, .fab, .dram, .ing]
  | .ptpSync .. | .ptpFollowUp .. | .ppsInEdge .. =>
    [.regs, .freeCount, .log, .clk, .doms, .due, .fab]
  | .recReqRead .. =>
    [.regs, .mem, .freeCount, .log, .sent, .fab, .dram, .ing]
  | .tsyncFrame .. =>
    [.regs, .freeCount, .log, .clk, .sent, .doms, .due, .fab]
  | .tsSetReceive .. | .trainStepTimeout .. | .trainDwellDone .. | .lanePwrExit .. | .eiLsReceive .. |
  .eiLdReceive .. | .pwrHandshakeTimeout .. | .ldExitLock .. | .erroredCharacter .. =>
    [.regs, .freeCount, .log, .sent, .hp, .fab, .ln, .ing]
  | .barReleaseFrame .. =>
    [.regs, .log, .ver, .gy, .motion, .sent, .due, .fab]
  | .cellCacheFill .. =>
    [.regs, .mem, .freeCount, .log, .sram, .cache, .sent, .dram, .boot]
  | .jobRecord .. | .layerRecord .. | .headsWaitEnd | .cellBegin .. | .cellEnd .. | .lattice .. | .place .. |
  .array .. | .poly .. | .trap .. | .rect .. | .disc .. | .patch .. | .material .. | .dosecurve .. |
  .kernel .. | .field .. | .swathplan .. | .checkRecord .. | .endRecord .. | .extensionRecord .. |
  .lpSpaceFreed | .unsupportedRecord .. =>
    [.regs, .mem, .log, .layers, .lpBytes, .parser, .shown, .sent, .dram]
  | .vcorePoll .. =>
    [.regs, .freeCount, .log, .sent, .hp, .fab, .ln, .ing, .pw]
  | .recordVerifyDone =>
    [.regs, .tables, .mem, .freeCount, .log, .gy, .recs, .blocks, .sent, .dram]
  | .beamCmd .. =>
    [.regs, .tables, .mem, .log, .beams, .gy, .recs, .blocks, .sent, .dram]
  | .fireFrameSend .. =>
    [.regs, .tables, .mem, .log, .gy, .recs, .blocks, .sent, .hp, .dram]
  | .headTempStale .. =>
    [.regs, .tables, .mem, .freeCount, .log, .gy, .recs, .blocks, .sent, .hp, .dram]
  | .fireDeadline .. =>
    [.regs, .tables, .mem, .log, .rows, .ver, .gy, .recs, .blocks, .sent, .dram]
  | .telemFrame .. =>
    [.regs, .tables, .mem, .freeCount, .log, .beams, .gy, .recs, .blocks, .sent, .hp, .dram]
  | .hoAckFrame .. | .enumRspFrame .. | .sbReqTimeout .. | .headStatusTimeout .. | .hoAckTimeout .. |
  .enumRetry .. =>
    [.regs, .tables, .mem, .freeCount, .log, .gy, .recs, .blocks, .sent, .hp, .ln, .dram]
  | .avsSettled .. | .avsChangeAbandon .. | .tileRowLate .. | .engOutApply .. =>
    [.regs, .tables, .mem, .log, .units, .rows, .ver, .gy, .recs, .blocks, .sent, .dram]
  | .sbRspFrame .. =>
    [.regs, .tables, .mem, .freeCount, .log, .beams, .gy, .recs, .blocks, .sent, .hp, .ln, .dram]
  | .tileDispatch .. =>
    [.regs, .tables, .mem, .log, .units, .rows, .ver, .gy, .recs, .blocks, .sram, .sent, .dram]
  | .commitAck .. =>
    [.regs, .tables, .mem, .log, .units, .rows, .ver, .gy, .recs, .blocks, .sram, .sent, .dram,
      .boot]
  | .configLock .. | .cfgLock .. =>
    [.regs, .tables, .freeCount, .locked, .log, .ver, .cal, .motion, .sent, .hp, .fab, .ln, .boot,
      .phase]
  | .rasterDone .. =>
    [.regs, .tables, .mem, .freeCount, .log, .units, .rows, .ver, .gy, .recs, .blocks, .sram, .sent,
      .dram, .boot]
  | .idleAfterTimeout | .wakePin .. | .wakeTimer =>
    [.regs, .ver, .gy, .hm, .sram, .cache, .pins, .motion, .sent, .hp, .due, .fab, .ln, .ing, .pw]
  | .wakePatternDetect .. =>
    [.regs, .freeCount, .log, .ver, .gy, .hm, .sram, .cache, .pins, .motion, .sent, .hp, .due, .fab,
      .ln, .ing, .pw]
  | .pwrRequest .. =>
    [.regs, .log, .clk, .ver, .gy, .hm, .sram, .cache, .pins, .motion, .sent, .hp, .due, .fab, .ln,
      .ing, .pw]
  | .surveyDone | .stopSwath | .swathStall | .excFrame .. | .inputQualify .. | .wireFault .. |
  .commonModeMeasure .. | .layerEndWrite =>
    [.regs, .tables, .mem, .freeCount, .log, .cores, .layers, .lpBytes, .units, .rows, .surveys,
      .ver, .gy, .recs, .blocks, .pins, .motion, .sent, .hp, .dram, .boot]
  | .recReleaseCommit .. =>
    [.regs, .tables, .mem, .freeCount, .paths, .log, .cores, .layers, .lpBytes, .units, .rows,
      .surveys, .ver, .gy, .recs, .blocks, .pins, .motion, .sent, .hp, .dram, .boot]
  | .swathEndBoundary =>
    [.regs, .tables, .mem, .freeCount, .log, .cores, .layers, .lpBytes, .units, .rows, .surveys,
      .clk, .ver, .gy, .recs, .blocks, .pins, .motion, .sent, .hp, .dram, .boot]
  | .lineLoad .. =>
    [.regs, .tables, .mem, .freeCount, .log, .cores, .layers, .lpBytes, .units, .rows, .surveys,
      .ver, .gy, .recs, .blocks, .sram, .pins, .motion, .sent, .hp, .dram, .boot]
  | .barAbortFrame .. =>
    [.regs, .tables, .mem, .freeCount, .log, .cores, .layers, .lpBytes, .units, .rows, .surveys,
      .ver, .gy, .recs, .blocks, .pins, .motion, .sent, .hp, .fab, .dram, .boot]
  | .statusFrame .. | .lwidthEcho .. =>
    [.regs, .tables, .mem, .freeCount, .log, .cores, .layers, .lpBytes, .units, .rows, .surveys,
      .ver, .gy, .recs, .blocks, .pins, .motion, .sent, .hp, .ln, .dram, .boot]
  | .dramTrainingDone .. | .handoverRoleMove | .coreWatchdogTimeout .. | .controlStateDisagreement .. =>
    [.regs, .tables, .mem, .freeCount, .log, .cores, .layers, .lpBytes, .units, .rows, .surveys,
      .ver, .gy, .recs, .blocks, .pins, .motion, .sent, .hp, .dram, .boot, .pw]
  | .estop =>
    [.regs, .tables, .mem, .freeCount, .log, .cores, .layers, .lpBytes, .units, .rows, .surveys,
      .ver, .gy, .recs, .blocks, .pins, .motion, .sent, .hp, .dram, .boot, .estop]
  | .servoSample =>
    [.regs, .tables, .mem, .freeCount, .log, .cores, .layers, .lpBytes, .units, .rows, .surveys,
      .clk, .ver, .gy, .recs, .blocks, .cal, .pins, .motion, .sent, .hp, .dram, .boot]
  | .abortJob .. =>
    [.regs, .tables, .mem, .freeCount, .log, .cores, .layers, .lpBytes, .units, .rows, .surveys,
      .parser, .ver, .gy, .recs, .blocks, .shown, .pins, .motion, .sent, .hp, .dram, .boot]
  | .dramRead .. | .rhWindowReset =>
    [.regs, .tables, .mem, .freeCount, .log, .cores, .layers, .lpBytes, .units, .rows, .surveys,
      .parser, .ver, .gy, .recs, .blocks, .pins, .motion, .sent, .hp, .dram, .boot, .pw]
  | .checkpointTimer .. =>
    [.regs, .tables, .mem, .freeCount, .log, .cores, .layers, .lpBytes, .units, .rows, .surveys,
      .ver, .gy, .recs, .blocks, .sram, .pins, .motion, .sent, .hp, .dram, .boot, .pw]
  | .recReqRelease .. =>
    [.regs, .tables, .mem, .freeCount, .log, .cores, .layers, .lpBytes, .units, .rows, .surveys,
      .ver, .gy, .recs, .blocks, .pins, .motion, .sent, .hp, .fab, .dram, .ing, .boot]
  | .dramWrite .. =>
    [.regs, .tables, .mem, .freeCount, .log, .cores, .layers, .lpBytes, .units, .rows, .surveys,
      .parser, .ver, .gy, .recs, .blocks, .pins, .motion, .sent, .hp, .fab, .dram, .boot, .pw]
  | .lackSet .. | .linkResendTimeout .. | .linkSilenceTimeout .. | .laneErrorLimit .. | .cdrLockLoss .. |
  .laneRetrain .. | .laneOut .. | .ldExitTimeout .. =>
    [.regs, .tables, .mem, .freeCount, .log, .cores, .layers, .lpBytes, .units, .rows, .surveys,
      .ver, .gy, .recs, .blocks, .pins, .motion, .sent, .hp, .fab, .ln, .dram, .ing, .boot]
  | .zlsResume .. | .ingFrame .. | .doorbell .. | .chStart .. | .chRestart .. | .chAbort .. | .channelRun |
  .descComplete | .dmaBusError .. =>
    [.regs, .tables, .mem, .freeCount, .log, .cores, .layers, .lpBytes, .units, .rows, .surveys,
      .parser, .ver, .gy, .recs, .blocks, .shown, .pins, .motion, .sent, .hp, .fab, .dram, .ing,
      .boot]
  | .descFetch .. =>
    [.regs, .tables, .mem, .freeCount, .log, .cores, .layers, .lpBytes, .units, .rows, .surveys,
      .parser, .ver, .gy, .recs, .blocks, .shown, .sram, .pins, .motion, .sent, .hp, .fab, .dram,
      .ing, .boot, .pw]
  | .initRegionDone .. =>
    [.regs, .tables, .mem, .freeCount, .log, .cores, .layers, .lpBytes, .units, .rows, .surveys,
      .parser, .ver, .gy, .recs, .blocks, .shown, .pins, .motion, .sent, .hp, .fab, .ln, .dram,
      .ing, .boot, .pw]
  | .feedbackTick .. =>
    [.regs, .tables, .mem, .freeCount, .log, .cores, .layers, .lpBytes, .units, .rows, .surveys,
      .clk, .ver, .gy, .recs, .blocks, .cal, .sram, .pins, .motion, .sent, .hp, .fab, .ln, .dram,
      .ing, .boot, .pw]
  | .vcoreTimeout | .hmSample .. =>
    [.regs, .tables, .mem, .freeCount, .log, .cores, .layers, .lpBytes, .units, .rows, .surveys,
      .ver, .gy, .recs, .blocks, .hm, .sram, .cache, .pins, .motion, .sent, .hp, .due, .fab, .ln,
      .dram, .ing, .boot, .pw]
  | .swathCapture =>
    allParts.filter fun p => !([.pending, .locked, .paths, .mgt, .clk, .parser, .cal, .shown, .doms, .estop, .phase].contains p)
  | .swathStartAction | .barrierAction | .handoverAction | .calApplyAction | .powerAction | .domainSwitch |
  .gpioSet =>
    allParts.filter fun p => !([.pending, .locked, .paths, .parser, .beams, .shown, .estop, .phase].contains p)
  | .vinGood | .vinLoss .. | .vinOvervoltage | .resetN .. | .railFault .. | .cfgRestart .. =>
    allParts.filter fun p => !([.pending, .sent, .estop].contains p)
  | .registerWrite .. | .tunReqFrame .. | .internalResetRelease .. | .imageSectionRead .. |
  .firmwareStartTimeout | .pwrStepDone .. | .wakeDramRetrained .. | .mgtRequest .. | .spiWrite .. =>
    allParts.filter fun p => !([.pending, .estop].contains p)

end Sys2Proof.Safety
end

