-- ==== Sys2Proof/Certificates/Slice0/Obligations.lean ====
section
/-! DEFINITION. The statements about the block: each `Obligations.<Name>` is a proposition over the
model, and `OBLIGATIONS.json` says which rules of the spec it formalises. -/

open Sys2Proof Sys2Proof.Bits Sys2Proof.Machine Sys2Proof.Safety

/-- A step takes the command at the front of the queue and is `exec` of it on the state whose queue
holds the rest. The queue is the model's own (log entry 2). Rests on: spec/00_scope.md. -/
def Obligations.StepRunsFront : Prop :=
  ∀ (c : Instr) (q : List Instr) (s : State),
      s.pending = c :: q →
      step s = exec c (s.withPending q)

/-- With no command waiting the block idles for one tick of the Wellspring clock: the model's choice
(log entry 2), with what R329 says one tick does. Rests on: R329. -/
def Obligations.IdleStepTicks : Prop :=
  ∀ (s : State),
      s.pending = [] →
      step s = .next (s.elapse 1)

/-- State.reset has canonical stores, every unit the spec counts and no OTP programming in progress.
Rests on: spec/00_scope.md, R509. -/
def Obligations.ResetMeetsInvariant : Prop :=
  Inv State.reset

/-- From every state that meets the invariant, a step that answers a next state answers one that meets
it: DRAM, registers and tables stay in canonical form, every bank of units keeps its number of
units, and the OTP key hash is never programmed over. Rests on: spec/00_scope.md, R509, R591. -/
def Obligations.StepKeepsInvariant : Prop :=
  ∀ (s t : State),
      Inv s → step s = .next t →
      Inv t

/-- From every state that meets the invariant, no step changes an OTP key hash that stands. Rests on:
R591. -/
def Obligations.OtpHashStays : Prop :=
  ∀ (s t : State) (k : List Byte),
      Inv s → s.boot.otp = some k → step s = .next t →
      t.boot.otp = some k

/-- Frame of every command: a next state differs from the state before only in the parts `parts` lists
for the command. The queue is in no list, and memory is in the list of those commands only whose
effect stores to DRAM. Rests on: spec/95_what_each_step_holds.md. -/
def Obligations.CommandsTouchTheirParts : Prop :=
  ∀ (c : Instr) (s t : State) (p : Part),
      exec c s = .next t → p ∉ parts c →
      p.same s t

/-- The counter of the model's own free values (log entry 3) never goes back. Rests on:
spec/00_scope.md. -/
def Obligations.FreeValuesOnce : Prop :=
  ∀ (c : Instr) (s t : State),
      exec c s = .next t →
      s.freeCount ≤ t.freeCount

/-- Every command other than DRAM_READ and DRAM_WRITE answers a next state in every state. Those two
answer one when their address lies in the 56 GiB of R497, and DRAM_WRITE of an internal master of R653
answers one also when it points outside that master's grant (R654). Rests on: R497, R500, R654. -/
def Obligations.OnlyAbsentDramStops : Prop :=
  ∀ (c : Instr) (s : State),
      (∀ r u a n k l, c = .dramRead r u a n k l → a + n ≤ dramEnd) →
      (∀ r m a d k, c = .dramWrite r m a d k →
        a + d.length ≤ dramEnd ∨ ∃ x : Fin 24, m = some x ∧ inSpan (s.grantsOf x) a d.length = false) →
      ∃ t, exec c s = .next t

/-- An access of the module's own that reaches beyond the exposed 56 GiB stops, where no grant of R653
has turned it away before: the spec gives no memory there. Rests on: R497, R500. -/
def Obligations.AbsentDramFaults : Prop :=
  (∀ (r : Fin 11) (u a n : Nat) (k : List (Nat × Nat)) (l : List Nat) (s : State),
      dramEnd < a + n →
      exec (.dramRead r u a n k l) s = .fault .noSuchAddress) ∧
  (∀ (r : Fin 11) (m : Option (Fin 24)) (a : Nat) (d : List Byte) (k : List Nat) (s : State),
      dramEnd < a + d.length →
      (∀ x : Fin 24, m = some x → inSpan (s.grantsOf x) a d.length = true) →
      exec (.dramWrite r m a d k) s = .fault .noSuchAddress)

/-- A write over one path of a register with no rule of its own, in a block that is ready and outside
the shadowed groups, completes with OK, and event bits that hardware sets in the same cycle stay set:
writable bits take the written value, W1C bits written 1 are cleared and every other bit stays; a
register that stores no written bit is unchanged; a LO half is staged; a HI half commits both halves.
Rests on: R12, R13, R14, R15, R668. -/
def Obligations.RegisterWritesTakeEffect : Prop :=
  (∀ (a : Nat) (p : Path) (w hw : Word) (d : RegMap.RegDesc) (k : Nat) (s : State),
      s.access p a = .ok → a < 0x01000000 →
      (p = .spi → s.flag Reg.MGT_CFG Fld.MGT_CFG_SPI_RO = true → spiMay a = true) →
      s.ruleWrite p none a w = none → s.shadowed a = none → RegMap.find a = some (d, k) →
      (d.access = .rw ∨ d.access = .w1c) →
      RegMap.isLo a = false → RegMap.isLo (a - 4) = false → d.rwl = 0 →
      exec (.registerWrite a [(p, w)] hw) s = .next
      (((s.setRegN a (under32 d.rw (s.regN a) w.toNat &&& (0xFFFFFFFF ^^^ (w.toNat &&& d.w1c)))).answer p .ok).hwSets a hw)) ∧
  (∀ (a : Nat) (p : Path) (w hw : Word) (d : RegMap.RegDesc) (k : Nat) (s : State),
      s.access p a = .ok → a < 0x01000000 →
      (p = .spi → s.flag Reg.MGT_CFG Fld.MGT_CFG_SPI_RO = true → spiMay a = true) →
      s.ruleWrite p none a w = none → s.shadowed a = none → RegMap.find a = some (d, k) →
      (d.access = .ro ∨ d.access = .roh ∨ d.access = .wo) →
      exec (.registerWrite a [(p, w)] hw) s = .next ((s.answer p .ok).hwSets a hw)) ∧
  (∀ (a : Nat) (p : Path) (w hw : Word) (d : RegMap.RegDesc) (k : Nat) (s : State),
      s.access p a = .ok → a < 0x01000000 →
      (p = .spi → s.flag Reg.MGT_CFG Fld.MGT_CFG_SPI_RO = true → spiMay a = true) →
      s.ruleWrite p none a w = none → s.shadowed a = none → RegMap.find a = some (d, k) →
      d.access = .rw → RegMap.isLo a = true → RegMap.isLo (a - 4) = false → s.writable d ≠ 0 →
      exec (.registerWrite a [(p, w)] hw) s = .next (((s.stageLo p a w).answer p .ok).hwSets a hw)) ∧
  (∀ (a : Nat) (p : Path) (w hw : Word) (d : RegMap.RegDesc) (k : Nat) (s : State),
      s.access p a = .ok → a < 0x01000000 →
      (p = .spi → s.flag Reg.MGT_CFG Fld.MGT_CFG_SPI_RO = true → spiMay a = true) →
      s.ruleWrite p none a w = none → s.shadowed a = none → RegMap.find a = some (d, k) →
      d.access = .rw → RegMap.isLo a = false → RegMap.isLo (a - 4) = true → s.writable d ≠ 0 →
      exec (.registerWrite a [(p, w)] hw) s = .next
      (((s.commitPair p (a - 4) (BitVec.ofNat 32 (under32 (s.writable d) (s.regN a) w.toNat))).answer p .ok).hwSets a hw))

/-- For each record type named: when the parser takes the record (Takes: no check of R111 fails, and the
layer program region has room), the command completes; the next SEQ expected is SEQ + 1, and the record
has its effect on the open cell, layer or job: CELL_BEGIN opens its cell with its id and phases; LATTICE
begins a section; PLACE, ARRAY, TRAP, RECT and DISC add an item with the fields at the offsets the rule
gives to the open body; MATERIAL, DOSECURVE and KERNEL give a material, a curve or a kernel; SWATHPLAN
gives the plan of the open layer; LAYER opens a body with its LAYER_SEQ and Z; END ends the job. Rests
on: R50, R61, R66, R67, R69, R76, R77, R78, R82, R85, R88, R93. -/
def Obligations.StreamRecordsTaken : Prop :=
  (∀ (rest : List Byte) (s : State) (b : List Byte),
      b = BitVec.ofNat 8 typeCellBegin :: rest → Takes s typeCellBegin b →
      Next (.cellBegin rest) s fun t =>
      t.parser.cur.expSeq = (recSeq b + 1) % 2 ^ 32 ∧ t.parser.cur.state = .cell ∧
      t.parser.cur.openCell.map (·.id) = some (rd b 8 4) ∧ t.parser.cur.openCell.map (·.phases) = some (rd b 12 2)) ∧
  (∀ (rest : List Byte) (s : State) (b : List Byte),
      b = BitVec.ofNat 8 typeLattice :: rest → Takes s typeLattice b →
      Next (.lattice rest) s fun t =>
      t.parser.cur.expSeq = (recSeq b + 1) % 2 ^ 32 ∧ t.parser.cur.openCell.map (fun o => o.sections.length) =
      s.parser.cur.openCell.map (fun o => o.sections.length + 1)) ∧
  (∀ (rest : List Byte) (s : State) (b : List Byte),
      b = BitVec.ofNat 8 typePlace :: rest → Takes s typePlace b → bodyOpen s.parser.cur →
      Next (.place rest) s fun t =>
      t.parser.cur.expSeq = (recSeq b + 1) % 2 ^ 32 ∧ openBody t.parser.cur = openBody s.parser.cur ++
      [.place (rd b 8 4) (rd b 12 1 % 8) (rdS b 16 4) (rdS b 20 4) (rdS b 24 4) false ⟨1, 1, 0, 0, 0, 0⟩]) ∧
  (∀ (rest : List Byte) (s : State) (b : List Byte),
      b = BitVec.ofNat 8 typeArray :: rest → Takes s typeArray b → bodyOpen s.parser.cur →
      Next (.array rest) s fun t =>
      t.parser.cur.expSeq = (recSeq b + 1) % 2 ^ 32 ∧ openBody t.parser.cur = openBody s.parser.cur ++
      [.place (rd b 8 4) (rd b 12 1 % 8) (rdS b 16 4) (rdS b 20 4) (rdS b 24 4) true
        ⟨rd b 28 4, rd b 32 4, rdS b 36 4, rdS b 40 4, rdS b 44 4, rdS b 48 4⟩]) ∧
  (∀ (rest : List Byte) (s : State) (b : List Byte),
      b = BitVec.ofNat 8 typeTrap :: rest → Takes s typeTrap b → bodyOpen s.parser.cur →
      Next (.trap rest) s fun t =>
      t.parser.cur.expSeq = (recSeq b + 1) % 2 ^ 32 ∧ openBody t.parser.cur = openBody s.parser.cur ++ [.prim (rd b 8 1)
      (.trap (recFlag2 b) (rdS b 12 4) (rdS b 16 4) (rdS b 20 4) (rdS b 24 4) (rdS b 28 4) (rdS b 32 4))
      (recPlace s typeTrap b)]) ∧
  (∀ (rest : List Byte) (s : State) (b : List Byte),
      b = BitVec.ofNat 8 typeRect :: rest → Takes s typeRect b → bodyOpen s.parser.cur →
      Next (.rect rest) s fun t =>
      t.parser.cur.expSeq = (recSeq b + 1) % 2 ^ 32 ∧ openBody t.parser.cur = openBody s.parser.cur ++
      [.prim (rd b 8 1) (.rect (rdS b 12 4) (rdS b 16 4) (rdS b 20 4) (rdS b 24 4)) (recPlace s typeRect b)]) ∧
  (∀ (rest : List Byte) (s : State) (b : List Byte),
      b = BitVec.ofNat 8 typeDisc :: rest → Takes s typeDisc b → bodyOpen s.parser.cur →
      Next (.disc rest) s fun t =>
      t.parser.cur.expSeq = (recSeq b + 1) % 2 ^ 32 ∧ openBody t.parser.cur = openBody s.parser.cur ++
      [.prim (rd b 8 1) (.disc (rdS b 12 4) (rdS b 16 4) (rd b 20 4) (rd b 24 4)) (recPlace s typeDisc b)]) ∧
  (∀ (rest : List Byte) (s : State) (b : List Byte),
      b = BitVec.ofNat 8 typeMaterial :: rest → Takes s typeMaterial b →
      Next (.material rest) s fun t =>
      t.parser.cur.expSeq = (recSeq b + 1) % 2 ^ 32 ∧ t.parser.cur.materials = s.parser.cur.materials ++
      [⟨rd b 8 1, rd b 9 1, rd b 10 1 % 64, rd b 11 1 % 4, rd b 12 1, rd b 14 2, rd b 16 8⟩]) ∧
  (∀ (rest : List Byte) (s : State) (b : List Byte),
      b = BitVec.ofNat 8 typeCurve :: rest → Takes s typeCurve b →
      Next (.dosecurve rest) s fun t =>
      t.parser.cur.expSeq = (recSeq b + 1) % 2 ^ 32 ∧ t.parser.cur.curves =
      Kv.set s.parser.cur.curves (rd b 8 1) ((List.range 4097).map fun i => rd b (16 + 2 * i) 2)) ∧
  (∀ (rest : List Byte) (s : State) (b : List Byte),
      b = BitVec.ofNat 8 typeKernel :: rest → Takes s typeKernel b →
      Next (.kernel rest) s fun t =>
      t.parser.cur.expSeq = (recSeq b + 1) % 2 ^ 32 ∧ t.parser.cur.kernels =
      if rd b 9 1 = 0 then Kv.del s.parser.cur.kernels (rd b 8 1)
      else Kv.set s.parser.cur.kernels (rd b 8 1) ⟨rd b 9 1, rd b 10 1,
        (List.range (rd b 9 1 * rd b 10 1)).map fun i => rdS b (16 + 2 * i) 2⟩) ∧
  (∀ (rest : List Byte) (s : State) (b : List Byte),
      b = BitVec.ofNat 8 typeSwathplan :: rest → Takes s typeSwathplan b →
      s.parser.cur.openLayer.isSome = true →
      Next (.swathplan rest) s fun t =>
      t.parser.cur.expSeq = (recSeq b + 1) % 2 ^ 32 ∧ t.parser.cur.openLayer.map (·.plan) =
      some ((List.range (rd b 8 2)).map (swathAt b)) ∧ t.parser.cur.openLayer.map (·.stage) = some .geometry) ∧
  (∀ (rest : List Byte) (s : State) (b : List Byte),
      b = BitVec.ofNat 8 typeLayer :: rest → Takes s typeLayer b →
      s.parser.cur.job.isSome = true →
      Next (.layerRecord rest) s fun t =>
      t.parser.cur.expSeq = (recSeq b + 1) % 2 ^ 32 ∧ t.parser.cur.state = .layer ∧
      t.parser.cur.openLayer.map (·.seq) = some (rd b 8 4) ∧ t.parser.cur.openLayer.map (·.z) = some (rdS b 12 4)) ∧
  (∀ (rest : List Byte) (s : State) (b : List Byte),
      b = BitVec.ofNat 8 typeEnd :: rest → Takes s typeEnd b →
      Next (.endRecord rest) s fun t =>
      t.parser.cur.expSeq = (recSeq b + 1) % 2 ^ 32 ∧ t.parser.cur.state = .ended)

/-- When the parser takes them: POLY, PATCH and FIELD without MORE and not themselves a continuation add
their whole item to the open body or layer; POLY and PATCH with MORE wait for their continuation, and
the open body stays; a POLY continuation without MORE adds the polygon of all its vertices. CELL_END
closes its cell and defines it under its id with its sections and its box. Rests on: R49, R62, R73, R79,
R90. -/
def Obligations.StreamContinuationsTaken : Prop :=
  (∀ (rest : List Byte) (s : State) (b : List Byte),
      b = BitVec.ofNat 8 typePoly :: rest → Takes s typePoly b → bodyOpen s.parser.cur →
      s.parser.cur.cont = none → recMore b = false →
      Next (.poly rest) s fun t =>
      t.parser.cur.expSeq = (recSeq b + 1) % 2 ^ 32 ∧ t.parser.cur.cont = none ∧
      openBody t.parser.cur = openBody s.parser.cur ++ [.prim (rd b 8 1) (.poly (recFlag2 b) (polyVerts b))
        (recPlace s typePoly b)]) ∧
  (∀ (rest : List Byte) (s : State) (b : List Byte),
      b = BitVec.ofNat 8 typePoly :: rest → Takes s typePoly b → bodyOpen s.parser.cur →
      s.parser.cur.cont = none → recMore b = true →
      Next (.poly rest) s fun t =>
      t.parser.cur.expSeq = (recSeq b + 1) % 2 ^ 32 ∧
      t.parser.cur.cont = some (.poly (rd b 8 1) (recFlag2 b) (rd b 10 2) (polyVerts b) (recPlace s typePoly b)) ∧
      openBody t.parser.cur = openBody s.parser.cur) ∧
  (∀ (rest : List Byte) (s : State) (b : List Byte) (m n a : Nat) (eo : Bool) (v : List (Int × Int)),
      b = BitVec.ofNat 8 typePoly :: rest → Takes s typePoly b → bodyOpen s.parser.cur →
      s.parser.cur.cont = some (.poly m eo n v a) → recMore b = false →
      Next (.poly rest) s fun t =>
      t.parser.cur.expSeq = (recSeq b + 1) % 2 ^ 32 ∧ t.parser.cur.cont = none ∧
      openBody t.parser.cur = openBody s.parser.cur ++
      [.prim (rd b 8 1) (.poly (recFlag2 b) (v ++ polyVerts b)) a]) ∧
  (∀ (rest : List Byte) (s : State) (b : List Byte),
      b = BitVec.ofNat 8 typePatch :: rest → Takes s typePatch b → bodyOpen s.parser.cur →
      s.parser.cur.cont = none → recMore b = true →
      Next (.patch rest) s fun t =>
      t.parser.cur.expSeq = (recSeq b + 1) % 2 ^ 32 ∧ t.parser.cur.cont = some (.patch (rd b 8 1) (rd b 9 1)
      (rd b 10 2) (rd b 12 2) (rdS b 16 4) (rdS b 20 4) (rd b 24 4) (rd b 28 4) (recFlag2 b) (rd b 32 4)
      ((b.drop 40).take (rd b 36 4)) (recPlace s typePatch b)) ∧ openBody t.parser.cur = openBody s.parser.cur) ∧
  (∀ (rest : List Byte) (s : State) (b : List Byte),
      b = BitVec.ofNat 8 typePatch :: rest → Takes s typePatch b → bodyOpen s.parser.cur →
      s.parser.cur.cont = none → recMore b = false →
      Next (.patch rest) s fun t =>
      t.parser.cur.expSeq = (recSeq b + 1) % 2 ^ 32 ∧ t.parser.cur.cont = none ∧
      openBody t.parser.cur = openBody s.parser.cur ++ [.prim (rd b 8 1) (.patch (2 ^ rd b 9 1) (rd b 10 2) (rd b 12 2)
        (rdS b 16 4) (rdS b 20 4) (rd b 24 4) (rd b 28 4)
        ((patchImage (recFlag2 b) (rd b 9 1) (rd b 10 2) (rd b 12 2) ((b.drop 40).take (rd b 36 4))).getD []))
        (recPlace s typePatch b)]) ∧
  (∀ (rest : List Byte) (s : State) (b : List Byte),
      b = BitVec.ofNat 8 typeField :: rest → Takes s typeField b →
      s.parser.cur.openLayer.isSome = true → s.parser.cur.cont = none → recMore b = false →
      Next (.field rest) s fun t =>
      t.parser.cur.expSeq = (recSeq b + 1) % 2 ^ 32 ∧ t.parser.cur.openLayer.map (·.fields) = s.parser.cur.openLayer.map
      (·.fields ++ [(rd b 8 1, ⟨rd b 12 2, rd b 14 2, rdS b 16 4, rdS b 20 4, rd b 24 4, rd b 28 4,
        (List.range (rd b 36 4)).map fun i => rd b (40 + 2 * i) 2⟩)])) ∧
  (∀ (rest : List Byte) (s : State) (b : List Byte) (o : OpenCell),
      b = BitVec.ofNat 8 typeCellEnd :: rest → Takes s typeCellEnd b →
      s.parser.cur.openCell = some o →
      Next (.cellEnd rest) s fun t =>
      t.parser.cur.expSeq = (recSeq b + 1) % 2 ^ 32 ∧ t.parser.cur.openCell = none ∧
      t.parser.cur.state = (if s.parser.cur.cellFromBetween then .between else .prologue) ∧
      (Kv.get t.parser.cur.cells o.id).map (·.sections) =
        some (if o.phases = 1 ∧ o.sections.isEmpty then [⟨0, [], 0⟩] else o.sections) ∧
      (Kv.get t.parser.cur.cells o.id).map (·.box) = some o.box)

/-- A JOB record with SEQ 0 in IDLE or ENDED that passes its checks opens its job in the prologue, with
the fields at the offsets R58 gives; a CHECK of scope 1 that is taken closes its layer body, which joins
the accepted layers, and is the state a later halt returns to; an extension record that is taken changes
no open body; a record of an undefined type, and a RECT record with a wrong CRC in a cell, halt the
parser; ABORT_JOB in a job none of whose layers waits, with nothing held, returns the parser to IDLE,
and in IDLE or ENDED changes nothing; RESUME of a HALTED parser enters HUNT; a held LAYER record is
taken when HEADS_WAIT ends and a held RECT record when space is freed, and with nothing held back for
that cause those two commands change nothing. Rests on: R58, R84, R100, R102, R109, R111, R113, R115,
R126. -/
def Obligations.StreamJobLifecycle : Prop :=
  (∀ (rest : List Byte) (s u : State) (b : List Byte),
      b = BitVec.ofNat 8 typeJob :: rest → s.parser.headsWait = false → s.parser.lpStall = false →
      (s.parser.cur.state = .idle ∨ s.parser.cur.state = .ended) → recSeq b = 0 → 2 ≤ recLen b →
      u = jobOpens (s.snoop (s.recordBlock typeJob b)) →
      u.recordFault Content.fresh typeJob b = 0 → (u.lpPlace Content.fresh typeJob b).isSome = true →
      Next (.jobRecord rest) s fun t => t.parser.cur.state = .prologue ∧
      t.parser.cur.job = some ⟨rd b 9 1, if rd b 10 2 = 0 then 2000 else rd b 10 2, rd b 12 4, rd b 16 8, rd b 24 4,
        s.parser.jobs⟩ ∧ t.parser.cur.expSeq = 1) ∧
  (∀ (rest : List Byte) (s : State) (b : List Byte) (l : Layer),
      b = BitVec.ofNat 8 typeCheck :: rest → Takes s typeCheck b → rd b 8 1 = 1 →
      s.parser.cur.openLayer = some l →
      Next (.checkRecord rest) s fun t => t.parser.cur.state = .between ∧ t.parser.cur.openLayer = none ∧
      t.layers.map (·.seq) = s.layers.map (·.seq) ++ [l.seq] ∧ t.parser.saved = t.parser.cur) ∧
  (∀ (sub : Fin 16) (rest : List Byte) (s : State) (b : List Byte),
      b = BitVec.ofNat 8 (0x60 + sub.val) :: rest → Takes s (0x60 + sub.val) b →
      Next (.extensionRecord sub rest) s fun t => t.parser.cur.expSeq = (recSeq b + 1) % 2 ^ 32 ∧
      t.parser.cur.accepted = s.parser.cur.accepted + 1 ∧ openBody t.parser.cur = openBody s.parser.cur) ∧
  (∀ (code : Byte) (rest : List Byte) (s : State) (b : List Byte),
      b = code :: rest → code.toNat ∉ definedTypes → isExt code.toNat = false →
      s.parser.headsWait = false → s.parser.lpStall = false →
      (s.parser.cur.state = .prologue ∨ s.parser.cur.state = .cell ∨ s.parser.cur.state = .layer ∨ s.parser.cur.state = .between) →
      Next (.unsupportedRecord code rest) s fun t => t.parser.cur.state = .halted) ∧
  (∀ (rest : List Byte) (s : State) (b : List Byte),
      b = BitVec.ofNat 8 typeRect :: rest → s.parser.headsWait = false →
      s.parser.lpStall = false → s.parser.cur.state = .cell → 2 ≤ recLen b → recCrcOk b = false →
      Next (.rect rest) s fun t => t.parser.cur.state = .halted ∧ t.layers = s.layers) ∧
  (∀ (w : Word) (s : State),
      s.parser.cur.state ≠ .idle → s.parser.cur.state ≠ .ended → s.parser.held = [] →
      (s.layers.all fun l => !(s.parser.cur.job.any fun j => j.no == l.job.no)) = true →
      Next (.abortJob w) s fun t => t.parser.cur.state = .idle ∧ t.parser.cur.job = none ∧ t.layers = s.layers) ∧
  (∀ (w : Word) (s : State),
      (s.parser.cur.state = .idle ∨ s.parser.cur.state = .ended) →
      exec (.abortJob w) s = .next s) ∧
  (∀ (w : Word) (s : State),
      s.parser.cur.state = .halted → Fld.EXP_ZLS_CTRL_ABORT_JOB.get w = 0 →
      Next (.zlsResume (.reg w)) s fun t => t.parser.cur.state = .hunt ∧ t.parser.held = [] ∧
      t.parser.headsWait = false ∧ t.parser.lpStall = false) ∧
  (∀ (b : List Byte) (s u : State),
      s.parser.headsWait = true → s.parser.held = [(typeLayer, b)] →
      (u = { s with parser := { s.parser with headsWait := false, lpStall := false, held := [] } }) →
      2 ≤ recLen b → s.parser.cur.state = .prologue → s.parser.cur.job.isSome = true →
      u.recordFault s.parser.cur typeLayer b = 0 →
      (s.parser.cur.lastLayer = none → u.binding s.parser.cur.materials = .ok) →
      (u.lpPlace s.parser.cur typeLayer b).isSome = true →
      Next .headsWaitEnd s fun t => t.parser.headsWait = false ∧ t.parser.cur.state = .layer ∧
      t.parser.cur.openLayer.map (·.seq) = some (rd b 8 4)) ∧
  (∀ (b : List Byte) (s u : State),
      s.parser.lpStall = true → s.parser.held = [(typeRect, b)] →
      (u = { s with parser := { s.parser with headsWait := false, lpStall := false, held := [] } }) →
      2 ≤ recLen b → s.parser.cur.state = .cell → bodyOpen s.parser.cur →
      u.recordFault s.parser.cur typeRect b = 0 → (u.lpPlace s.parser.cur typeRect b).isSome = true →
      Next .lpSpaceFreed s fun t => t.parser.lpStall = false ∧ openBody t.parser.cur = openBody s.parser.cur ++
      [.prim (rd b 8 1) (.rect (rdS b 12 4) (rdS b 16 4) (rdS b 20 4) (rdS b 24 4))
        ((u.lpPlace s.parser.cur typeRect b).getD 0)]) ∧
  (∀ (s : State),
      s.parser.headsWait = false →
      exec .headsWaitEnd s = .next s) ∧
  (∀ (s : State),
      s.parser.lpStall = false →
      exec .lpSpaceFreed s = .next s)

/-- A free unit in service takes the next tile row in firing order, and a unit whose two datapaths
disagree for the first time keeps its row; a unit that ends a row frees it, and a row that has tiles
still to come joins the expanded rows with its blocks of the pool; a stalled unit whose row fits the
pool again goes on; a row that is late leaves every unit; OUT of a unit in service is noted for the
boundary while another unit stays, and refused where none would; at the boundary the unit is OUT; RETURN
starts SELFTEST; a pass starts SHADOW and a third failure holds OUT; 64 matches bring the unit back into
service. Rests on: R120, R121, R122, R133, R138, R146, R152. -/
def Obligations.ExpansionUnitsServe : Prop :=
  (∀ (s : State) (n : Fin 4) (u : ExpUnit) (q : RowId),
      s.units[n.val]? = some u → u.state = .inService → u.row = none → s.nextRow n.val = some q →
      Next (.tileRowExpand n false) s fun t => (t.units[n.val]?).bind (·.row) = some q) ∧
  (∀ (s : State) (n : Fin 4) (u : ExpUnit) (q : RowId),
      s.units[n.val]? = some u → u.state = .inService → u.row = some q → u.lastDisagree = none →
      Next (.tileRowExpand n true) s fun t =>
      (t.units[n.val]?).map (fun x => (x.row, x.lastDisagree)) = some (some q, some s.clk.ticks)) ∧
  (∀ (s v : State) (n : Fin 4) (u : ExpUnit) (q : RowId) (x : ExpandedRow) (k : Nat) (d : List (Fin 4)),
      s.units[n.val]? = some u → u.row = some q → u.stalled = false →
      v = (s.onUnit n.val fun u => { u with row := none }) →
      v.rowOf n.val q = some x → x.live.isEmpty = false →
      Next (.tileRowExpandDone n k d) s fun t =>
      t.rows = s.rows ++ [v.giveBlocks x] ∧ (t.units[n.val]?).bind (·.row) = none) ∧
  (∀ (s : State) (n : Fin 4) (u : ExpUnit) (q : RowId),
      s.units[n.val]? = some u → u.stalled = true → u.row = some q →
      ((s.onUnit n.val fun u => { u with row := none }).poolUsed + ((s.rowOf n.val q).map (·.need)).getD 0 ≤ s.poolBlocks) →
      Next (.poolStallEnd n) s fun t => t.units[n.val]? = some { u with stalled := false }) ∧
  (∀ (l w r : Nat) (s : State),
      ((s.rows.any fun x => x.id == ⟨l, w, r⟩) = false) →
      (s.rowUnresolved ⟨l, w, r⟩).isEmpty = false →
      Next (.tileRowLate l w r) s fun t => ∀ u ∈ t.units, u.row ≠ some ⟨l, w, r⟩) ∧
  (∀ (s : State) (p : Path) (n : Fin 4) (w : Word),
      Fld.EXP_UNIT_CTRL_OUT.get w = 2 ^ n.val → Fld.EXP_UNIT_CTRL_RETURN.get w = 0 →
      (∃ k u, k ≠ n.val ∧ s.units[k]? = some u ∧ u.state = .inService ∧ u.outReq = false) →
      s.units.length = 4 → (s.units[n.val]?).map (·.state) = some .inService →
      Next (.expUnitOut p w) s fun t => (t.units[n.val]?).map (·.outReq) = some true) ∧
  (∀ (s : State) (p : Path) (w : Word),
      Fld.EXP_UNIT_CTRL_OUT.get w ≠ 0 → Fld.EXP_UNIT_CTRL_RETURN.get w = 0 →
      (((List.range 4).zip s.units).all fun x =>
        bit (Fld.EXP_UNIT_CTRL_OUT.get w) x.1 || x.2.state != .inService || x.2.outReq) = true →
      exec (.expUnitOut p w) s = .next (s.accFlag p Reg.EXP_UNIT_CTRL .refused)) ∧
  (∀ (s : State) (n : Fin 4) (u : ExpUnit),
      s.units[n.val]? = some u → u.outReq = true →
      exec (.expUnitLeave n) s = .next ((s.onUnit n fun u => { u with
      state := .out, row := none, outReq := false, stalled := false }).event Reg.EXP_EVENT Fld.EXP_EVENT_UNIT_OUT)) ∧
  (∀ (s : State) (n : Fin 4) (u : ExpUnit) (p : Path) (w : Word),
      s.units[n.val]? = some u → u.state = .out → Fld.EXP_UNIT_CTRL_OUT.get w = 0 →
      Fld.EXP_UNIT_CTRL_RETURN.get w = 2 ^ n.val →
      bit (s.regN Reg.ACC_FROZEN_INT) (8 + n.val) = false →
      Next (.expUnitReturn p w) s fun t => t.units[n.val]? = some { u with state := .selftest, selftestFails := 0, shadowed := 0 }) ∧
  (∀ (s : State) (n : Fin 4) (u : ExpUnit),
      s.units[n.val]? = some u → u.state = .selftest →
      Next (.xuSelftestDone n true) s fun t => t = { s with units := s.units.set n.val { u with state := .shadow, shadowed := 0, selftestFails := 0 } }) ∧
  (∀ (s : State) (n : Fin 4) (u : ExpUnit),
      s.units[n.val]? = some u → u.state = .selftest →
      Next (.xuSelftestDone n false) s fun t => t = { s with units := s.units.set n.val (if u.selftestFails + 1 ≥ 3
      then { u with state := .out, selftestFails := 3 } else { u with selftestFails := u.selftestFails + 1 }) }) ∧
  (∀ (s : State) (n : Fin 4) (u : ExpUnit),
      s.units[n.val]? = some u → u.state = .shadow → 64 ≤ u.shadowed →
      exec (.xuReenter n) s = .next { s with units := s.units.set n.val { u with state := .inService, shadowed := 0 } })

/-- A survey starts on the next swath in firing order once none runs, and the busy flag rises; when a
survey within the limits ends it is marked done with its step estimates and cell counts; a cell-cache
miss brings the line in as the most recently used and leaves the pins. Rests on: R127, R128, R139, R142.
-/
def Obligations.SurveysAndCellCache : Prop :=
  (∀ (s : State) (q i : Nat),
      (∀ v ∈ s.surveys, v.done = true) → s.nextSurvey = some (q, i) →
      exec .surveyStart s = .next (({ s with surveys := s.surveys ++ [⟨q, i, false, [], 0, 0, 0, []⟩] } : State).setFld
      Reg.EXP_SURVEY_STATUS Fld.EXP_SURVEY_STATUS_BUSY 1)) ∧
  (∀ (s u : State) (v : Survey) (l : Layer) (e : SwathEntry),
      Inv s → (s.surveys.find? (fun v => !v.done) = some v) → s.layer v.layer = some l →
      l.entry v.swath = some e → u = s.setFld Reg.EXP_SURVEY_STATUS Fld.EXP_SURVEY_STATUS_BUSY 0 →
      (u.surveyOf l v.swath e).exceeds = none →
      (∀ r ≤ 200000, s.spanNeed l e r ≤ 16777216) →
      Next .surveyDone s fun t => ∃ x ∈ t.surveys, x.layer = v.layer ∧ x.swath = v.swath ∧ x.done = true ∧
      x.steps = (u.surveyOf l v.swath e).steps ∧ x.cellRows = (u.surveyOf l v.swath e).counts) ∧
  (∀ (line : Nat) (hits : List Nat) (row : Nat) (x : Ecc) (s : State),
      Next (.cellCacheFill line hits row x) s fun t => t.cache.getLast? = some line ∧ t.pins = s.pins)

/-- OUT of an engine in service is noted for the tile-row boundary while at least five stay, of a spare
while at least four stay, and refused and flagged otherwise; a second OUT changes nothing; at the
boundary the engine is OUT, and the spare of its cluster takes its place; RETURN of an OUT engine starts
SELFTEST with its failures cleared; a pass enters SHADOW, the third failure OUT; after 16 matches the
engine is in service, or spare where its cluster has nine in service; a spare of the cluster, or else of
another, is promoted for a departure. Rests on: R205, R206, R207, R208. -/
def Obligations.EnginesServe : Prop :=
  (∀ (s : State) (n : Fin 64) (x : Engine) (p : Path),
      s.engine n.val = some x → (x.svc = .inService ∧ 5 ≤ s.staying ∨ x.svc = .spare ∧ 4 ≤ s.staying) →
      x.outReq = none →
      exec (.verEngOut p n) s = .next (s.onEngine n.val fun x => { x with outReq := some p })) ∧
  (∀ (s : State) (n : Fin 64) (x : Engine) (p : Path),
      s.engine n.val = some x →
      (x.svc = .inService ∧ x.outReq = none ∧ s.staying < 5 ∨ x.svc = .spare ∧ x.outReq = none ∧ s.staying < 4 ∨
        x.svc = .out ∨ x.svc = .selftest ∨ x.svc = .shadow) →
      exec (.verEngOut p n) s = .next (s.accFlag p Reg.VER_ENG_CTRL .refused)) ∧
  (∀ (s : State) (n : Fin 64) (x : Engine) (p : Path),
      s.engine n.val = some x → (x.svc = .inService ∨ x.svc = .spare) → x.outReq.isSome = true →
      exec (.verEngOut p n) s = .next s) ∧
  (∀ (s : State) (n : Fin 64) (x : Engine),
      s.engine n.val = some x → x.svc = .out →
      exec (.verEngReturn n) s = .next (s.onEngine n.val fun x => { x with svc := .selftest, stFails := 0, shadowN := 0 })) ∧
  (∀ (s : State) (e : Fin 40) (x : Engine),
      s.engine e.val = some x → x.outReq.isSome = true → (x.svc = .inService ∨ x.svc = .spare) →
      Next (.engOutApply e) s fun t => t.svc e.val = .out) ∧
  (∀ (s : State) (e : Fin 40) (x : Engine) (k : Nat),
      s.engine e.val = some x → x.outReq.isSome = true → x.svc = .inService →
      s.spareOf (clusterOf e.val) = some k →
      Next (.engOutApply e) s fun t => t.svc e.val = .out ∧ t.svc k = .inService) ∧
  (∀ (s : State) (e : Fin 40) (x : Engine),
      s.engine e.val = some x → x.svc = .selftest →
      exec (.engSelftestDone e true) s = .next (s.onEngine e.val fun x => { x with svc := .shadow, shadowN := 0, stFails := 0 })) ∧
  (∀ (s : State) (e : Fin 40) (x : Engine),
      s.engine e.val = some x → x.svc = .selftest →
      exec (.engSelftestDone e false) s = .next (s.onEngine e.val fun x => { x with
      stFails := min (x.stFails + 1) 3, svc := if min (x.stFails + 1) 3 ≥ 3 then .out else .selftest })) ∧
  (∀ (s : State) (e : Fin 40) (x : Engine),
      s.engine e.val = some x → x.svc = .shadow → 16 ≤ x.shadowN →
      Next (.engShadowReturn e) s fun t => t.svc e.val = if s.clusterIn (clusterOf e.val) < 9 then .inService else .spare) ∧
  (∀ (s : State) (n : Fin 4) (e : Nat) (x : Engine),
      s.ver.promote.contains n.val = true →
      (s.spareOf n.val <|> (List.range 4).findSome? s.spareOf) = some e → s.engine e = some x →
      Next (.sparePromote n) s fun t => t.svc e = .inService ∧ t.ver.promote = s.ver.promote.erase n.val)

/-- A requested change holds the cluster, keeping the clock sought between 800 MHz and the greatest;
once settled with no engine at work the change ends; abandoned, it ends too. A second request while
one runs has no effect. Rests on: R26, R182. -/
def Obligations.AvsChanges : Prop :=
  (∀ (s : State) (n : Fin 4) (mhz : Nat),
      s.avsBusy n.val = false →
      Next (.avsChangeRequest n mhz) s fun t => t.ver.avs = s.ver.avs ++ [(n.val, min (max mhz 800) (s.avsTop n.val), s.clk.ticks)]) ∧
  (∀ (s : State) (n : Fin 4) (mhz : Nat),
      s.avsBusy n.val = true →
      exec (.avsChangeRequest n mhz) s = .next s) ∧
  (∀ (s : State) (n : Fin 4) (mhz k : Nat),
      (s.ver.avs.find? (fun a => a.1 == n.val) = some (n.val, mhz, k)) →
      s.clusterBusy n.val = false →
      Next (.avsSettled n) s fun t => t.ver.avs = s.ver.avs.filter fun a => a.1 != n.val) ∧
  (∀ (s : State) (n : Fin 4),
      s.avsBusy n.val = true →
      Next (.avsChangeAbandon n) s fun t => t.ver.avs = s.ver.avs.filter fun a => a.1 != n.val)

/-- The scheduler gives a dispatchable tile a context and its primary, its context a checker of another
cluster, and a tile in a vote its next voter; a result the primary delivers is kept by its engine until
its partner delivers; two results that agree name their writer, and two that differ start a vote; a
parked tile is quantised once its carry is there; a checker or a primary of its partner's own cluster is
taken after the wait where it is allowed; an acknowledged commit in time makes the tile committed with
the writer's codes, carry and signature, and one that a check unit finds wrong goes to a vote; ring
space of a passed tile is freed once; a tile unresolved at its fire deadline is blanked with cause 1.
Rests on: R155, R160, R174, R184, R185, R186, R192, R196, R200, R248. -/
def Obligations.TilesAreRasterisedAndCommitted : Prop :=
  (∀ (s : State) (k : TileId) (e : Fin 40) (w : Swath),
      s.swath k.layer k.swath = some w → s.dispatchable k = true → s.ctx k = none →
      s.ctxUsed < 1024 → s.canTake e.val = true → s.worker k .primary = none →
      Next (.tileDispatch k e .primary) s fun t => (t.ctx k).bind (·.primary) = some e.val) ∧
  (∀ (s : State) (k : TileId) (e : Fin 40) (w : Swath) (c : TileCtx) (p n : Nat),
      s.swath k.layer k.swath = some w → s.dispatchable k = true → s.ctx k = some c → c.primary = some p →
      c.checker = none → c.open_ = true → s.pickChecker c p e.val = some n →
      Next (.tileDispatch k e .checker) s fun t => (t.ctx k).bind (·.checker) = some n) ∧
  (∀ (s : State) (k : TileId) (e : Fin 40) (c : TileCtx) (n : Nat),
      s.ctx k = some c → c.wantsVote = true →
      (c.manned = true ∨ c.blanked = true ∧ c.voters.length < s.maxVotes) → s.voterFor c = some n →
      Next (.tileDispatch k e .voter) s fun t => (t.ctx k).map (·.voters) = some (c.voters ++ [n])) ∧
  (∀ (s u : State) (e : Fin 40) (k : Task) (w : Work) (x y : Nat) (c d : TileCtx),
      s.deliverable e.val = some k → k.role = .primary → s.tarnFlip e.val = [] →
      (s.binFetch e.val k.tile).1 = false → u = tileRead s e.val k x → u.deliverable e.val = some k →
      u.work k = some w → u.ctx k.tile = some c → c.phase = .raster → c.blanked = false →
      (d = { c with results := c.results ++ [(e.val, w.result)] }) → d.checker.bind d.resultOf = none →
      Next (.rasterDone e none [] x y) s fun t =>
      (t.ctx k.tile).map (·.results) = some (c.results ++ [(e.val, w.result)]) ∧ (t.engine e.val).bind (·.held) = some k) ∧
  (∀ (s u : State) (e : Fin 40) (k : Task) (w : Work) (b : RasterResult) (x y : Nat) (c d : TileCtx),
      s.deliverable e.val = some k → k.role = .primary → s.tarnFlip e.val = [] →
      (s.binFetch e.val k.tile).1 = false → u = tileRead s e.val k x → u.deliverable e.val = some k →
      u.work k = some w → u.ctx k.tile = some c → c.phase = .raster → c.primary = some e.val → c.resultOf e.val = none →
      (d = { c with results := c.results ++ [(e.val, w.result)] }) → d.checker.bind d.resultOf = some b →
      w.result.agrees b = true → c.blanked = false → u.late c.tF = false →
      Next (.rasterDone e none [] x y) s fun t => (t.ctx k.tile).bind (·.writer) = some e.val) ∧
  (∀ (s u : State) (e : Fin 40) (k : Task) (w : Work) (b : RasterResult) (x y : Nat) (c d : TileCtx),
      s.deliverable e.val = some k → k.role = .primary → s.tarnFlip e.val = [] →
      (s.binFetch e.val k.tile).1 = false → u = tileRead s e.val k x → u.deliverable e.val = some k →
      u.work k = some w → u.ctx k.tile = some c → c.phase = .raster → c.primary = some e.val → c.resultOf e.val = none →
      (d = { c with results := c.results ++ [(e.val, w.result)] }) → d.checker.bind d.resultOf = some b →
      w.result.agrees b = false → c.blanked = false →
      Next (.rasterDone e none [] x y) s fun t => (t.ctx k.tile).map (·.phase) = some .vote) ∧
  (∀ (s : State) (e : Fin 40) (x : Engine) (k : Task),
      s.engine e.val = some x → x.parked = some k → x.held = none → x.quant = none →
      s.canQuantise k = true →
      Next (.parkedTileQuantise e) s fun t => (t.engine e.val).bind (·.quant) = some k) ∧
  (∀ (s : State) (k : TileId) (e : Fin 40) (c : TileCtx) (p n : Nat),
      s.ctx k = some c → c.primary = some p → c.checker = none → c.open_ = true →
      s.pickChecker c p e.val = none → s.flag Reg.VER_CFG Fld.VER_CFG_SAME_CL_OK = true →
      pick e.val (s.takers (clusterOf p) (p :: c.barredFrom .checker)) = some n →
      Next (.checkerWaitTimeout k e) s fun t => (t.ctx k).bind (·.checker) = some n) ∧
  (∀ (s : State) (k : TileId) (e : Fin 40) (c : TileCtx) (q n : Nat),
      s.ctx k = some c → c.primary = none → c.checker = some q → c.open_ = true →
      s.freeElsewhere c (clusterOf q) = false → s.flag Reg.VER_CFG Fld.VER_CFG_SAME_CL_OK = true →
      pick e.val (s.takers (clusterOf q) (q :: c.barredFrom .primary)) = some n →
      Next (.checkerWaitTimeout k e) s fun t => (t.ctx k).bind (·.primary) = some n) ∧
  (∀ (s : State) (k : TileId) (c : TileCtx) (e : Nat) (r : RasterResult),
      s.ctx k = some c → c.phase = .commit → c.writer = some e → c.resultOf e = some r →
      s.tarnFlip e = [] → s.snoopBad (s.stagingBlock c r) = false → s.late c.tF = false →
      Next (.commitAck k [] []) s fun t =>
      t.ctx k = none ∧ (t.entry k).map (fun x => (x.committed, x.carry, x.codes, x.signature)) =
      some (true, r.cout, r.codes, r.signature)) ∧
  (∀ (s : State) (k : TileId) (c : TileCtx) (e : Nat) (r : RasterResult),
      s.ctx k = some c → c.phase = .commit → c.writer = some e → c.resultOf e = some r →
      s.tarnFlip e = [] → s.snoopBad (s.stagingBlock c r) = true →
      Next (.commitAck k [] []) s fun t => (t.ctx k).map (·.phase) = some .vote) ∧
  (∀ (s : State) (k : TileId) (c : CommitEntry) (w : Swath) (e : SwathEntry),
      s.entry k = some c → s.swath k.layer k.swath = some w → s.swEntry w = some e →
      (w.rows.all fun r => r.past s.bmap (e.order (e.rowLast k.trow) + 1)) = true → c.freed = false →
      Next (.ringSpaceFree k) s fun t => (t.entry k).map (·.freed) = some true) ∧
  (∀ (s : State) (k : TileId) (w : Swath),
      s.swath k.layer k.swath = some w → w.startAt.isSome = true →
      (s.unresolved w).contains k = true →
      Next (.fireDeadline k) s fun t => (t.entry k).map (fun x => (x.committed, x.cause)) = some (false, 1))

/-- A qualified low on ESTOP_N is held from its instant on; with no swath in flight it leaves every axis
DISABLED and every head port's queue empty, and the swaths that wait stay. While it is held an ESTOP set
goes out again on every lane of the head ports that are up, and otherwise ESTOP_SET_REPEAT changes
nothing. Its release ends it, notes the time and leaves motion as it is. RESUME goes out on every head
port that is up once no swath is RUNNING and the wait is then over; without a wait, or while a swath is
RUNNING, HEAD_RESUME_SEND changes nothing. Rests on: R41, R304, R306, R321, R460. -/
def Obligations.EstopHaltsAxesAndHeads : Prop :=
  (∀ (s : State),
      s.gy.estop = false →
      Next .estop s fun t => t.gy.estop = true ∧ t.gy.estopHigh = none ∧ t.gy.estopAt = s.now16) ∧
  (∀ (s : State) (x p : Fin 6),
      Inv s → s.gy.estop = false → s.stoppable 1 = [] →
      Next .estop s fun t => t.axState x.val = 0 ∧ (t.port p.val).queue = [] ∧ t.gy.swaths = s.gy.swaths) ∧
  (∀ (s : State),
      s.gy.estop = true →
      exec .estopSetRepeat s = .next ((List.range 6).foldl (fun s p =>
      if s.portUp p then s.setOn (5 + p)
        (if (s.port p).narrow.isSome then (s.port p).trained % 16 else s.lanes p) setEstop else s) s)) ∧
  (∀ (s : State),
      s.gy.estop = false →
      exec .estopSetRepeat s = .next s ∧ exec .estopRelease s = .next s) ∧
  (∀ (s : State),
      s.gy.estop = true →
      Next .estopRelease s fun t => t.gy.estop = false ∧ t.gy.estopHigh = some s.clk.ticks ∧ t.motion = s.motion) ∧
  (∀ (s : State),
      s.gy.estopHigh.isSome = true → (∀ w ∈ s.gy.swaths, w.state ≠ .running) →
      exec .headResumeSend s = .next ((List.range 6).foldl (fun s p =>
      if s.portUp p then s.sendFrame p 255 9 [0, 0, 0, 0] else s) { s with gy := { s.gy with estopHigh := none } })) ∧
  (∀ (s : State),
      (s.gy.estopHigh = none ∨ (s.gy.swaths.any fun w => w.state == .running) = true) →
      exec .headResumeSend s = .next s)

/-- An edit opens only with the parser IDLE or ENDED, no swath captured and no edit open, keeps the map
in force, and is refused and flagged otherwise; COMMIT of an open edit starts validation and changes
nothing without one; CANCEL puts the kept map back and closes the edit; a validation that finds no fault
closes the edit and leaves the edited map; a beam command of STATUS LIVE on a beam of the map, with no
telemetry report of its cycle, clears its counts and leaves its status LIVE with the LOCK it sets, and
one on a beam outside the map is refused and flagged. Rests on: R229, R237, R239, R240, R245. -/
def Obligations.BeamMapEdits : Prop :=
  (∀ (s : State) (p : Path) (w : Word),
      bmCtrlMany (Fld.BM_CTRL_EDIT_OPEN.put 1 w) = false → s.editMayOpen = true →
      Next (.editOpen p w) s fun t => t.beams.saved = some (s.tables.filter fun x => inBeamMap x.1,
      s.flag Reg.BM_STATUS Fld.BM_STATUS_VALID) ∧ t.tables = s.tables) ∧
  (∀ (s : State) (p : Path) (w : Word),
      s.editMayOpen = false →
      exec (.editOpen p w) s = .next (s.accFlag p Reg.BM_CTRL .refused)) ∧
  (∀ (s : State) (p : Path) (w : Word),
      bmCtrlMany (Fld.BM_CTRL_EDIT_COMMIT.put 1 w) = false →
      s.flag Reg.BM_STATUS Fld.BM_STATUS_EDIT = true →
      exec (.editCommit p w) s = .next { s with beams := { s.beams with validating := true } }) ∧
  (∀ (s : State) (p : Path) (w : Word),
      bmCtrlMany (Fld.BM_CTRL_EDIT_COMMIT.put 1 w) = false →
      s.flag Reg.BM_STATUS Fld.BM_STATUS_EDIT = false →
      exec (.editCommit p w) s = .next s) ∧
  (∀ (s : State) (p : Path) (w : Word) (m : List (Nat × Word)) (v : Bool),
      bmCtrlMany (Fld.BM_CTRL_EDIT_CANCEL.put 1 w) = false → s.beams.saved = some (m, v) →
      Next (.editCancel p w) s fun t => t.beams.saved = none ∧ t.beams.validating = false ∧
      t.tables = m.foldl (fun l x => Kv.put l x.1 x.2 0) (s.tables.filter fun x => !inBeamMap x.1)) ∧
  (∀ (s : State),
      s.beams.validating = true → validate s.tables = none → Inv s →
      Next .editValidationDone s fun t => t.beams.validating = false ∧ t.beams.saved = none ∧ t.tables = s.tables) ∧
  (∀ (s : State) (p : Path) (w : Word),
      Fld.BM_BEAM_CMD_BEAM.get w < hdrNbeam s.tables → Fld.BM_BEAM_CMD_STATUS.get w = 0 →
      Fld.BM_BEAM_CMD_LOCKOP.get w = 1 → s.repNow (Fld.BM_BEAM_CMD_BEAM.get w) = none → Inv s →
      Next (.beamCmd p w) s fun t => Kv.getD t.beams.fails (Fld.BM_BEAM_CMD_BEAM.get w) 0 = 0 ∧
      (beamE t.tables (Fld.BM_BEAM_CMD_BEAM.get w)).status / 128 = 1 ∧
      (beamE t.tables (Fld.BM_BEAM_CMD_BEAM.get w)).status % 4 = 0) ∧
  (∀ (s : State) (p : Path) (w : Word),
      hdrNbeam s.tables ≤ Fld.BM_BEAM_CMD_BEAM.get w →
      exec (.beamCmd p w) s = .next (s.accFlag p Reg.BM_BEAM_CMD .refused))

/-- ENABLE of a unit that is not claimed sets its ENABLED bit, in GENERATE mode, at a point that fixes
no polynomial and in CHECK mode with the polynomial of its point; in CHECK mode with another polynomial
at such a point it is flagged REFUSED. DISABLE of a unit that is not claimed clears the bit and takes
the unit out of the blocks in progress. A claimed unit stays, and either write is flagged OWNER. Rests
on: R540, R542, R547. -/
def Obligations.CheckUnitsEnable : Prop :=
  (∀ (s : State) (p : Path) (u : Fin 4) (k : Nat),
      s.flag (Reg.CRC_U_STATUS u.val) Fld.CRC_U_STATUS_CLAIMED = false →
      k = s.fld (Reg.CRC_U_CFG u.val) Fld.CRC_U_CFG_SNOOP →
      (s.flag (Reg.CRC_U_CFG u.val) Fld.CRC_U_CFG_MODE = true ∨ k % 7 = 0 ∨
        pointPoly k = some (s.fld (Reg.CRC_U_CFG u.val) Fld.CRC_U_CFG_POLY)) →
      exec (.crcUnitEnable p u) s = .next (s.setFld (Reg.CRC_U_STATUS u.val) Fld.CRC_U_STATUS_ENABLED 1)) ∧
  (∀ (s : State) (p : Path) (u : Fin 4) (k : Nat),
      s.flag (Reg.CRC_U_STATUS u.val) Fld.CRC_U_STATUS_CLAIMED = false →
      k = s.fld (Reg.CRC_U_CFG u.val) Fld.CRC_U_CFG_SNOOP →
      s.flag (Reg.CRC_U_CFG u.val) Fld.CRC_U_CFG_MODE = false → k % 7 ≠ 0 →
      pointPoly k ≠ some (s.fld (Reg.CRC_U_CFG u.val) Fld.CRC_U_CFG_POLY) →
      exec (.crcUnitEnable p u) s = .next (s.accFlag p (Reg.CRC_U_CTRL u.val) .refused)) ∧
  (∀ (s : State) (p : Path) (u : Fin 4),
      s.flag (Reg.CRC_U_STATUS u.val) Fld.CRC_U_STATUS_CLAIMED = false →
      exec (.crcUnitDisable p u) s = .next
      ((s.setFld (Reg.CRC_U_STATUS u.val) Fld.CRC_U_STATUS_ENABLED 0).dropSnooper u.val)) ∧
  (∀ (s : State) (p : Path) (u : Fin 4),
      s.flag (Reg.CRC_U_STATUS u.val) Fld.CRC_U_STATUS_CLAIMED = true →
      exec (.crcUnitEnable p u) s = .next (s.accFlag p (Reg.CRC_U_CTRL u.val) .owner) ∧
      exec (.crcUnitDisable p u) s = .next (s.accFlag p (Reg.CRC_U_CTRL u.val) .owner))

/-- VIN good with the module unpowered, RESET_N low for 1 µs or more with the module powered or in OFF,
a rail fault with it powered, and CFG_CTRL.RESTART with its CODE put the module in internal reset; VIN
loss and overvoltage remove the rails. Memory, layers, swaths and the ring of the error log are then as
after reset and the configuration is not locked; the OTP key hash and the level of ESTOP_N stand. A
pulse on RESET_N from 100 ns to 1 µs resets or has no effect, by a free value (log entry 3), and one
below 100 ns has none; RESET_N with the module unpowered and not in OFF, VIN good with it powered, a
rail fault without power, and RESTART at 0 or without its CODE have none either. Rests on: R346, R583,
R584, R591, R592, R608, R652, R701, R704. -/
def Obligations.ResetsOfTheModule : Prop :=
  (∀ (s : State),
      s.boot.phase = .unpowered →
      Next .vinGood s (WasReset s .reset)) ∧
  (∀ (dead : Bool) (s : State),
      Next (.vinLoss dead) s (WasReset s .unpowered)) ∧
  (∀ (s : State),
      Next .vinOvervoltage s (WasReset s .unpowered)) ∧
  (∀ (ns : Nat) (s : State),
      1000 ≤ ns → s.boot.phase ≠ .unpowered →
      Next (.resetN ns) s (WasReset s .reset)) ∧
  (∀ (ns : Nat) (s : State),
      ns < 100 →
      exec (.resetN ns) s = .next s) ∧
  (∀ (vm : Fin 56) (s : State),
      s.boot.phase ≠ .unpowered →
      Next (.railFault vm) s (WasReset s .reset)) ∧
  (∀ (w : Word) (s : State),
      Fld.CFG_CTRL_RESTART.get w = 1 → Fld.CFG_CTRL_CODE.get w = 0x5A →
      Next (.cfgRestart w) s (WasReset s .reset)) ∧
  (∀ (w : Word) (s : State),
      Fld.CFG_CTRL_CODE.get w ≠ 0x5A →
      exec (.cfgRestart w) s = .next s) ∧
  (∀ (s : State),
      s.boot.phase ≠ .unpowered →
      exec .vinGood s = .next s) ∧
  (∀ (ns : Nat) (s : State),
      1000 ≤ ns → s.fld Reg.PWR_STATUS Fld.PWR_STATUS_CUR = 4 →
      Next (.resetN ns) s (WasReset s .reset)) ∧
  (∀ (ns : Nat) (s : State),
      100 ≤ ns → ns < 1000 → s.boot.phase ≠ .unpowered →
      Next (.resetN ns) s fun t => WasReset s .reset t ∨ t = s.free.2) ∧
  (∀ (ns : Nat) (s : State),
      s.boot.phase = .unpowered → s.fld Reg.PWR_STATUS Fld.PWR_STATUS_CUR ≠ 4 →
      exec (.resetN ns) s = .next s) ∧
  (∀ (vm : Fin 56) (s : State),
      s.boot.phase = .unpowered →
      exec (.railFault vm) s = .next s) ∧
  (∀ (w : Word) (s : State),
      Fld.CFG_CTRL_RESTART.get w = 0 →
      exec (.cfgRestart w) s = .next s)

/-- At the release of internal reset an image whose header, table and signature pass gives the section
table and the register-interface version, and one that fails on the golden device too leaves the module
in RESCUE. The next section to read, where it is SPARES or WAVE and its CRC and digest hold, joins the
image copy and is read no more; a section of any type whose read fails on the golden device leaves the
module in RESCUE. Firmware that does not report in time fails the image, with the golden device to
RESCUE. With the image's sections applied and DRAM trained the configuration locks and the module runs,
at the lock point without HOST_LOCK, and at LOCK in state 2 with HOST_LOCK; LOCK before that state is
held. Rests on: R572, R576, R577, R578, R580, R582, R583, R592. -/
def Obligations.StartUpRunsTheImage : Prop :=
  (∀ (straps : Fin 16) (us us1 : Nat) (s : State),
      Inv s → s.boot.phase = .reset → s.headCause (s.flash s.source) = 0 →
      Next (.internalResetRelease straps false us us1) s fun t => t.boot.phase = .load ∧
      t.boot.sects = imgSects (s.flash s.source) ∧ t.boot.iface = Bits.rd (imgHead (s.flash s.source)) 20 2 ∧ t.boot.copy = []) ∧
  (∀ (straps : Fin 16) (us us1 : Nat) (s : State),
      Inv s → s.boot.phase = .reset → s.flag Reg.CFG_STATUS Fld.CFG_STATUS_SOURCE = true →
      s.headCause (s.flash s.source) ≠ 0 →
      Next (.internalResetRelease straps false us us1) s fun t => t.boot.phase = .rescue) ∧
  (∀ (us : Nat) (s : State) (x : Sect),
      s.nextSect = some x → x.ty = sectSpares ∨ x.ty = sectWave →
      sectCause (s.flag Reg.CFG_STATUS Fld.CFG_STATUS_SIGNED) x (flashAt (s.flash s.source) x.ofs x.len) = 0 →
      Next (.imageSectionRead false us) s fun t => t.boot.copy = s.boot.copy ++ [(x, flashAt (s.flash s.source) x.ofs x.len)] ∧
      t.boot.todo = s.boot.todo.filter (· != x.ty) ∧ t.boot.rest = s.boot.rest.filter (· != x.ty)) ∧
  (∀ (us : Nat) (s : State) (x : Sect),
      s.nextSect = some x → s.flag Reg.CFG_STATUS Fld.CFG_STATUS_SOURCE = true →
      Next (.imageSectionRead true us) s fun t => t.boot.phase = .rescue) ∧
  (∀ (s : State),
      s.boot.fwWait = true → s.boot.phase = .load →
      s.flag Reg.CFG_STATUS Fld.CFG_STATUS_SOURCE = true →
      Next .firmwareStartTimeout s fun t => t.boot.phase = .rescue) ∧
  (∀ (us mgt : Nat) (s : State),
      Inv s → s.locked = false → s.boot.phase = .load → s.boot.sects ≠ [] → s.boot.todo = [] →
      s.flag Reg.DC_STATUS Fld.DC_STATUS_ALL_TRAINED = true →
      s.flag Reg.CFG_STATUS Fld.CFG_STATUS_HOST_LOCK = false →
      Next (.configLock us mgt) s fun t => t.locked = true ∧ t.boot.phase = .run) ∧
  (∀ (p : Path) (us : Nat) (s : State),
      s.locked = false → s.flag Reg.CFG_STATUS Fld.CFG_STATUS_HOST_LOCK = true →
      s.fld Reg.CFG_STATUS Fld.CFG_STATUS_STATE = 2 →
      Next (.cfgLock p us) s fun t => t.locked = true ∧ t.boot.phase = .run) ∧
  (∀ (p : Path) (us : Nat) (s : State),
      s.locked = false → s.flag Reg.CFG_STATUS Fld.CFG_STATUS_HOST_LOCK = true →
      s.fld Reg.CFG_STATUS Fld.CFG_STATUS_STATE ≠ 2 →
      exec (.cfgLock p us) s = .next (s.onBoot fun b => { b with lockHeld := true }))

/-- PROGRAM of the primary in range keeps the chunk until it is done, and a chunk that reads back right
is then in the flash, erased to the end of its last sector; CHECK of the primary whose reads complete
notes whether its image passed. After a CHECK that passed, with the interface version in use and two
spare cores, a hand-over starts and loads firmware for 121 ms (log entry 69); once loaded, at its layer
boundary or with no swath captured, it moves one pair of roles, and the fifth pair ends it.
ABORT_HANDOVER turns a hand-over that has moved pairs back, pair by pair, and ends one that has moved
none. OTP programming, with the hash not programmed and the layer stream idle, takes the eight hash
words; where it succeeds they are the key hash, and where it fails the hash stands. Rests on: R588,
R589, R590, R591, R592. -/
def Obligations.UpdatesAndHandOver : Prop :=
  (∀ (w : Word) (s : State),
      s.updBusy = false → s.regN Reg.CFG_UPD_OFS + s.regN Reg.CFG_UPD_LEN ≤ slotBytes →
      s.regN Reg.CFG_UPD_OFS % 65536 = 0 → s.regN Reg.CFG_UPD_LEN % 256 = 0 →
      s.regN Reg.CFG_UPD_LEN ≤ 1048576 → Fld.CFG_UPD_CTRL_DEV.get w = 0 →
      Next (.updProgram w) s fun t => t.boot = { s.boot with upd := some ⟨0, s.regN Reg.CFG_UPD_OFS,
      s.tblBytes stagingWindow (s.regN Reg.CFG_UPD_LEN), 0⟩ }) ∧
  (∀ (s : State) (u : UpdOp),
      s.boot.upd = some u → u.bad = 0 →
      Next (.updProgramDone []) s fun t => t.boot.upd = none ∧ t.boot.otp = s.boot.otp ∧
      t.boot.flash = s.boot.flash.set u.dev
        (flashPut (s.flash u.dev) u.ofs (u.ofs + Bits.divUp u.chunk.length 4096 * 4096) u.chunk)) ∧
  (∀ (w : Word) (s : State),
      s.updBusy = false → Fld.CFG_UPD_CTRL_DEV.get w = 0 →
      Next (.updCheck w false) s fun t => t.boot.checked = (s.checkImage (s.flash 0) == 0)) ∧
  (∀ (s : State),
      s.updBusy = false → s.boot.hand = none → s.boot.checked = true →
      Bits.rd (imgHead (s.flash 0)) 20 2 = s.boot.iface → 2 ≤ (s.coresIn 1).length →
      Next .updHandover s fun t => t.boot = { s.boot with hand := some ⟨0, false, false, s.clk.ticks + firmwareLoadTicks⟩ }) ∧
  (∀ (s : State) (m l : Nat) (d : Bool),
      s.flag Reg.CFG_UPD_STATUS Fld.CFG_UPD_STATUS_HANDOVER = true →
      s.boot.hand = some ⟨m + 1, false, d, l⟩ →
      Next .updAbortHandover s fun t => t.boot.hand = some ⟨m + 1, true, false, l⟩) ∧
  (∀ (s : State) (l : Nat) (d : Bool),
      s.flag Reg.CFG_UPD_STATUS Fld.CFG_UPD_STATUS_HANDOVER = true →
      s.boot.hand = some ⟨0, false, d, l⟩ →
      Next .updAbortHandover s fun t => t.boot.hand = none) ∧
  (∀ (s : State) (m l : Nat) (d : Bool),
      s.cores.outReq = [] → s.boot.hand = some ⟨m, false, d, l⟩ → m < 4 → l ≤ s.clk.ticks →
      d = true ∨ s.noSwath = true →
      Next .handoverRoleMove s fun t => t.boot.hand = some ⟨m + 1, false, false, l⟩) ∧
  (∀ (s : State) (l : Nat) (d : Bool),
      s.cores.outReq = [] → s.boot.hand = some ⟨4, false, d, l⟩ → l ≤ s.clk.ticks →
      d = true ∨ s.noSwath = true →
      Next .handoverRoleMove s fun t => t.boot.hand = none) ∧
  (∀ (s : State) (m l : Nat) (d : Bool),
      s.cores.outReq = [] → s.boot.hand = some ⟨m + 2, true, d, l⟩ → l ≤ s.clk.ticks →
      d = true ∨ s.noSwath = true →
      Next .handoverRoleMove s fun t => t.boot.hand = some ⟨m + 1, true, false, l⟩) ∧
  (∀ (w : Word) (s : State),
      Fld.CFG_OTP_CTRL_OP.get w = 1 → Fld.CFG_OTP_CTRL_CODE.get w = 0x3C → s.boot.otp = none →
      s.boot.otpNext = none → s.fld Reg.EXP_ZLS_STATUS Fld.EXP_ZLS_STATUS_STATE = 0 →
      Next (.otpProgram w) s fun t => t.boot = { s.boot with
      otpNext := some ((List.range 8).flatMap fun i => Bits.toLE 4 (s.regN (Reg.CFG_OTP_HASH i))) }) ∧
  (∀ (s : State) (k : List Byte),
      s.boot.otpNext = some k →
      Next (.otpProgramDone true) s fun t => t.boot = { s.boot with otp := some k, otpNext := none }) ∧
  (∀ (s : State) (k : List Byte),
      s.boot.otpNext = some k →
      Next (.otpProgramDone false) s fun t => t.boot = { s.boot with otpNext := none })

/-- With no POWER action due, a request for IDLE in RUN with no swath in flight asks for 750 mV and
starts the step, and a request code above OFF is refused and flagged; a POWER action that acts and asks
for IDLE, and IDLE_AFTER, start the same step. A voltage within 2 % and no fault is an acknowledgement,
which clears the count of timeouts; a reading with a fault is none; a timeout before the third, with no
request pending, abandons the step and counts. The step from RUN to IDLE as the target, acknowledged,
ends the transition, and a step to OFF removes the rails. A wake pin in HOLD and the wake timer in DEEP
start the step up, a wake pin in RUN or IDLE is noted and ignored, and a pin that is not enabled, not at
its active level or not for QUAL_US does nothing; in OFF no request is taken. A wake pattern, or activity
where the port is in LS or asks for no pattern, wakes a sleeping port alone where it is no wake event, and
activity on a port in LD that asks for the full pattern is noise. DRAM retrained after DEEP restores the module where the canary
holds, and resets it where it fails. The swath due is captured in RUN, and outside RUN without AUTO_RUN
it waits. Rests on: R231, R420, R597, R599, R600, R601, R602, R603, R606, R607, R608, R609. -/
def Obligations.PowerStepsAndWake : Prop :=
  (∀ (p : Path) (w : Word) (s : State),
      Inv s → s.pwrBusy = false → s.flag Reg.PWR_STATUS Fld.PWR_STATUS_LOCKOUT = false →
      s.dueAction 5 = none → Fld.PWR_CTRL_GO.get w = 1 → Fld.PWR_CTRL_REQ.get w = 1 → s.pwrCur = 0 →
      s.gy.swaths = [] →
      Next (.pwrRequest p w) s fun t => t.pw.step = some (0, 1) ∧ t.pw.vreq = some 750 ∧ t.pw.vok = false) ∧
  (∀ (p : Path) (w : Word) (s : State),
      s.dueAction 5 = none → Fld.PWR_CTRL_GO.get w = 1 → 5 ≤ Fld.PWR_CTRL_REQ.get w → s.pwrCur ≠ 3 →
      s.pwrCur ≠ 4 →
      exec (.pwrRequest p w) s = .next (s.accFlag p Reg.PWR_CTRL .refused)) ∧
  (∀ (p : Path) (w : Word) (s : State),
      s.pwrCur = 4 →
      exec (.pwrRequest p w) s = .next s) ∧
  (∀ (s : State) (d : TaDue),
      Inv s → ActsNow s 5 d → s.fab.waits = [] → d.late = false → s.regN (Reg.TA_SLOT_ARG0 d.slot) = 1 → s.pwrBusy = false →
      s.flag Reg.PWR_STATUS Fld.PWR_STATUS_LOCKOUT = false → s.pwrCur = 0 → s.gy.swaths = [] →
      Next .powerAction s fun t => t.pw.step = some (0, 1) ∧ t.pw.vreq = some 750) ∧
  (∀ (s : State),
      Inv s → s.pwrBusy = false → s.flag Reg.PWR_STATUS Fld.PWR_STATUS_LOCKOUT = false →
      s.pwrCur = 0 → s.fld Reg.PWR_CFG Fld.PWR_CFG_IDLE_AFTER_MS ≠ 0 → s.gy.swaths = [] →
      Next .idleAfterTimeout s fun t => t.pw.step = some (0, 1) ∧ t.pw.vreq = some 750) ∧
  (∀ (s : State) (mv r : Nat),
      s.pw.vreq = some r → s.pw.vok = false → 50 * (mv - r) ≤ r → 50 * (r - mv) ≤ r →
      Next (.vcorePoll mv false) s fun t => t.pw = { s.pw with vok := true, fails := 0 }) ∧
  (∀ (mv : Nat) (s : State),
      exec (.vcorePoll mv true) s = .next s) ∧
  (∀ (s : State) (r : Nat),
      Inv s → s.pw.vreq = some r → s.pw.vok = false → s.pw.fails < 2 → s.pwrPending = 7 →
      Next .vcoreTimeout s fun t => t.pw.step = none ∧ t.pw.vreq = none ∧ t.pw.fails = s.pw.fails + 1) ∧
  (∀ (aon : Nat) (s : State),
      Inv s → s.pw.step = some (0, 1) → s.pw.vok = true → s.pwrTarget = 1 → s.pwrPending = 7 →
      Next (.pwrStepDone aon) s fun t => t.pw.step = none ∧ t.pw.vreq = none) ∧
  (∀ (aon a : Nat) (s : State),
      s.pw.step = some (a, 4) → s.pw.vok = true →
      Next (.pwrStepDone aon) s (WasReset s .unpowered)) ∧
  (∀ (i : Fin 2) (h : Bool) (us : Nat) (s : State),
      Inv s → s.pwrBusy = false → s.flag Reg.PWR_STATUS Fld.PWR_STATUS_LOCKOUT = false →
      Bits.bit (s.fld Reg.PWR_WAKE_CFG Fld.PWR_WAKE_CFG_PIN_EN) i = true → s.pwrCur = 2 →
      Bits.bit (s.fld Reg.PWR_WAKE_CFG Fld.PWR_WAKE_CFG_PIN_HIGH) i = h →
      s.fld Reg.PWR_WAKE_CFG Fld.PWR_WAKE_CFG_QUAL_US ≤ us → s.pw.step = none →
      Next (.wakePin i h us) s fun t => t.pw.step = some (2, 1) ∧ t.pw.vreq = some 750) ∧
  (∀ (i : Fin 2) (h : Bool) (us : Nat) (s : State),
      Bits.bit (s.fld Reg.PWR_WAKE_CFG Fld.PWR_WAKE_CFG_PIN_EN) i = true → s.pwrCur ≤ 1 →
      Bits.bit (s.fld Reg.PWR_WAKE_CFG Fld.PWR_WAKE_CFG_PIN_HIGH) i = h →
      s.fld Reg.PWR_WAKE_CFG Fld.PWR_WAKE_CFG_QUAL_US ≤ us →
      exec (.wakePin i h us) s = .next (s.event Reg.PWR_EVENT Fld.PWR_EVENT_WAKE_IGNORED)) ∧
  (∀ (i : Fin 2) (h : Bool) (us : Nat) (s : State),
      (Bits.bit (s.fld Reg.PWR_WAKE_CFG Fld.PWR_WAKE_CFG_PIN_EN) i = false ∨
        Bits.bit (s.fld Reg.PWR_WAKE_CFG Fld.PWR_WAKE_CFG_PIN_HIGH) i ≠ h ∨
        us < s.fld Reg.PWR_WAKE_CFG Fld.PWR_WAKE_CFG_QUAL_US) →
      exec (.wakePin i h us) s = .next s) ∧
  (∀ (s : State),
      Inv s → s.pwrBusy = false → s.flag Reg.PWR_STATUS Fld.PWR_STATUS_LOCKOUT = false →
      s.pwrCur = 3 → s.regN Reg.PWR_WAKE_TIMER ≠ 0 →
      Next .wakeTimer s fun t => t.pw.step = some (3, 2) ∧ t.pw.vreq = some 700) ∧
  (∀ (n : Fin 41) (full : Bool) (s : State),
      s.asleep (portLanes (lanePort n)).1 (portLanes (lanePort n)).2 = true →
      (full = true ∨ Bits.bit (s.regN Reg.LN_WAKE_CFG) (lanePort n) = false ∨ s.laneRaw n = 5) →
      Bits.bit (s.regN Reg.PWR_WAKE_CFG) (12 + lanePort n) = false → s.pwrCur ≠ 3 →
      exec (.wakePatternDetect n full) s = .next (s.wakePort (lanePort n) false)) ∧
  (∀ (n : Fin 41) (s : State),
      s.asleep (portLanes (lanePort n)).1 (portLanes (lanePort n)).2 = true →
      Bits.bit (s.regN Reg.LN_WAKE_CFG) (lanePort n) = true → s.laneRaw n ≠ 5 →
      exec (.wakePatternDetect n false) s = .next (s.event Reg.LN_EVENT Fld.LN_EVENT_WAKE_NOISE)) ∧
  (∀ (ok : Bool) (s : State),
      s.pw.step = some (3, 2) → s.pw.canary = true →
      Next (.wakeDramRetrained ok) s fun t => t.pw.canary = false ∧ (ok = true → t.locked = true ∧ t.boot.phase = .run) ∧
      (ok = false → t.locked = false ∧ t.boot.phase = .reset)) ∧
  (∀ (s : State) (l : Layer) (e : SwathEntry) (v : Survey),
      s.captureDue = some (l, e, v) → s.inRun = true →
      exec .swathCapture s = .next
      (s.settleStop ((s.setFld Reg.PWR_STATUS Fld.PWR_STATUS_CAPTURE_WAIT 0).captureSwath l e v))) ∧
  (∀ (s : State) (l : Layer) (e : SwathEntry) (v : Survey),
      s.captureDue = some (l, e, v) → Inv s → s.inRun = false →
      s.flag Reg.PWR_CFG Fld.PWR_CFG_AUTO_RUN = false →
      exec .swathCapture s = .next (s.setFld Reg.PWR_STATUS Fld.PWR_STATUS_CAPTURE_WAIT 1))

/-- The due line of the swath in work is loaded where all it needs is there. A start action that acts starts its armed swath where
its ports are READY, and is done; it fails, with nothing started, where no such swath is in flight or a
port is not READY (log entry 65). A draining swath leaves at the boundary after its latest fire;
STOP_SWATH stops the swath in flight, and a stall the running one. A stale temperature of a present head
stops the head's rows while a swath that uses the port runs, and has no effect otherwise. A due strobe
is given once, STROBE_W long and 8 ns at least, at its fire time or later, and not while ESTOP_N is low.
Rests on: R41, R251, R252, R258, R261, R263, R270, R271, R273, R274, R441. -/
def Obligations.FiringSwaths : Prop :=
  (∀ (bad : List Nat) (s : State) (w : Swath) (l : Layer) (e : SwathEntry),
      s.loading = some w → s.layer w.layer = some l → s.swEntry w = some e → w.loaded < e.lines →
      w.loaded ≤ s.front w l e + loadAhead (s.nominalRate w) →
      ((s.lineTiles w (e.line w.loaded)).all fun t => s.lineReady t (e.line w.loaded)) = true →
      exec (.lineLoad bad) s = .next (s.settleStop (s.loadLine w l e w.loaded bad))) ∧
  (∀ (p : Fin 6) (s : State) (fire : Nat),
      (s.gy.due.find? (fun d => d.1 == p.val) = some (p.val, fire)) → s.gy.estop = false →
      fire ≤ s.now16 →
      Next (.strobePulse p) s fun t => ∃ rise, fire ≤ rise ∧
      t.sent = .pulse p.val rise (max (s.fld Reg.GY_CFG Fld.GY_CFG_STROBE_W) 8) :: s.sent ∧
      Kv.get t.gy.pulses p.val = some rise ∧ t.gy.due = s.gy.due.erase (p.val, fire)) ∧
  (∀ (p : Fin 6) (s : State),
      s.gy.estop = true →
      Next (.strobePulse p) s fun t => t.sent = s.sent ∧ t.gy = s.gy) ∧
  (∀ (s : State) (d : TaDue) (w : Swath),
      ActsNow s 1 d →
      s.swath (s.regN (Reg.TA_SLOT_ARG0 d.slot)) (s.regN (Reg.TA_SLOT_ARG1 d.slot) % 65536) = some w →
      w.state = .armed → (w.ports.all fun p => s.portState p == 6) = true →
      exec .swathStartAction s = .next ((s.swathStart w).endAction d true)) ∧
  (∀ (s : State) (d : TaDue),
      ActsNow s 1 d → s.fab.waits = [] →
      (∀ w, s.swath (s.regN (Reg.TA_SLOT_ARG0 d.slot)) (s.regN (Reg.TA_SLOT_ARG1 d.slot) % 65536) = some w →
        w.state ≠ .armed ∨ (w.ports.all fun p => s.portState p == 6) = false) →
      Next .swathStartAction s fun t => t.due = s.due.erase d ∧ t.gy = s.gy) ∧
  (∀ (s : State) (w : Swath) (f : Nat),
      (s.gy.swaths.find? (fun w => w.state == .draining) = some w) → w.lastFire = some f →
      f ≤ s.now16 →
      exec .swathEndBoundary s = .next (s.settleStop (s.swathLeave w.layer w.idx f 0))) ∧
  (∀ (s : State) (w : Swath),
      s.stoppable 3 = [w] →
      exec .stopSwath s = .next (s.settleStop (s.stopSwath w 3))) ∧
  (∀ (s : State) (w : Swath),
      (s.gy.swaths.find? (fun w => w.state == .running) = some w) →
      exec .swathStall s = .next (s.settleStop (s.stopSwath w 4))) ∧
  (∀ (p : Fin 6) (h : Fin 8) (s : State),
      s.headPresent p h = true → (s.gy.swaths.any fun w => w.ports.contains p.val && w.state == .running) = true →
      exec (.headTempStale p h) s = .next (s.hardStop p h true false)) ∧
  (∀ (p : Fin 6) (h : Fin 8) (s : State),
      s.headPresent p h = false ∨ (s.gy.swaths.any fun w => w.ports.contains p.val && w.state == .running) = false →
      exec (.headTempStale p h) s = .next s)

/-- A port in TIME, LOAD or READY and awake sends the next time mark and names the next head; an
upstream mark that answers it is stamped; the named head's echo clears the stamp and gives a delay
sample. HO_ACK with the right CRC joins the acknowledgements of its hand-over; the response to a
sideband write ends the request in flight, and the next one waiting goes; a head found in ENUM is noted
while the chain is not complete; TELEM of kind 1 with one entry gives the head's temperature. EXC acts
on the rows it names of the command it names, and one to a head with no frame sent is an error; STATUS
gives the head's queue room, lock and residual. A frame with a wrong CRC changes the port's error count
and flag alone. In the states without an exchange with the heads every frame is discarded and counted
as one that came against NOT_READY (log entry 80). Rests on: R230, R290, R291, R298, R300, R301, R307, R309, R314, R315, R320, R407. -/
def Obligations.HeadFramesTaken : Prop :=
  (∀ (p : Fin 6) (ph : Fin 64) (s : State),
      Inv s → 4 ≤ s.portState p → s.portState p ≠ 7 → s.asleep (16 + 4 * p.val) 4 = false →
      Next (.tmarkPeriod p ph) s fun t => (t.port p).mark = ((s.port p).mark + 1) % 256 ∧ (t.port p).t1 = s.laneStamp ph ∧
      (t.port p).echoHead = nextHead (s.headsOf p) (s.port p).echoHead ∧ (t.port p).t4 = none) ∧
  (∀ (p : Fin 6) (m : Byte) (ph : Fin 64) (s : State),
      Inv s → (s.port p).echoHead < 8 → m.toNat = (s.port p).mark →
      Next (.headTmarkUp p m ph) s fun t => (t.port p).t4 = some (s.laneStamp ph)) ∧
  (∀ (p : Fin 6) (fr : List Byte) (s : State) (h : Nat) (b : List Byte) (t4 : Nat),
      Inv s → HeadFrame s p fr 0x83 24 h b → (s.port p).t4 = some t4 → h = (s.port p).echoHead →
      Bits.rd b 0 1 = (s.port p).mark →
      Next (.echoFrame p fr) s fun t => (t.port p).t4 = none ∧ (t.headLink p h).delays.head? =
      some (tsDiff t4 (s.port p).t1 - Bits.wrapS 80 ((linkTime16 (Bits.rd b 16 8) (Bits.rd b 6 2) : Int) -
        linkTime16 (Bits.rd b 8 8) (Bits.rd b 4 2)))) ∧
  (∀ (p : Fin 6) (fr : List Byte) (s : State) (h : Nat) (b : List Byte) (o : HandOver),
      Inv s → HeadFrame s p fr 0x86 8 h b →
      ((s.port p).hos.find? (fun o => o.hoId == Bits.rd b 0 2 && !o.refused) = some o) →
      h ∉ o.acked → Bits.rd b 4 4 = s.waveCrc p h →
      Next (.hoAckFrame p fr) s fun t => (t.port p).hos = (s.port p).hos.map fun y =>
      if y.hoId == Bits.rd b 0 2 then { y with acked := h :: y.acked } else y) ∧
  (∀ (p : Fin 6) (fr : List Byte) (s : State) (h : Nat) (b : List Byte) (r : SbReq),
      Inv s → HeadFrame s p fr 0x87 8 h b → Bits.rd b 0 1 = 2 → (s.headLink p h).sb = some r →
      r.op = 2 → r.offset = Bits.rd b 2 2 → (s.headLink p h).sbQueue = [] →
      Next (.sbRspFrame p fr) s fun t => (t.headLink p h).sb = none ∧ (t.headLink p h).ident = (s.headLink p h).ident) ∧
  (∀ (p : Fin 6) (fr : List Byte) (s : State) (h : Nat) (b : List Byte) (r q : SbReq) (l : List SbReq),
      Inv s → HeadFrame s p fr 0x87 8 h b → Bits.rd b 0 1 = 2 → (s.headLink p h).sb = some r →
      r.op = 2 → r.offset = Bits.rd b 2 2 → (s.headLink p h).sbQueue = q :: l → s.headShut p = false →
      Next (.sbRspFrame p fr) s fun t => (t.headLink p h).sb = some { q with sends := q.sends + 1 } ∧ (t.headLink p h).sbQueue = l) ∧
  (∀ (p : Fin 6) (fr : List Byte) (s : State) (h : Nat) (b : List Byte) (k : Nat),
      Inv s → HeadFrame s p fr 0x88 4 h b → k = Bits.rd b 0 1 → k < 8 → s.portState p = 2 →
      k ∉ (s.port p).enumSeen →
      (({ s.port p with enumSeen := (s.port p).enumSeen ++ [k], enumEnd := (s.port p).enumEnd || Bits.rd b 1 1 == 0 } : Port).counted = none) →
      Next (.enumRspFrame p fr) s fun t => (t.port p).enumSeen = (s.port p).enumSeen ++ [k]) ∧
  (∀ (p : Fin 6) (fr : List Byte) (s : State) (h : Nat) (b : List Byte),
      HeadFrame s p fr 0x8B 4 h b → 8 ≤ b.length → Bits.rd b 0 1 = 1 → Bits.rd b 2 2 = 1 →
      s.hotSwaths p = [] →
      Next (.telemFrame p fr) s fun t => (Kv.get t.gy.temps (p.val * 8 + h)).map (·.t) = some (Bits.rdS b 4 2) ∧
      (Kv.get t.gy.temps (p.val * 8 + h)).map (·.tick) = some s.clk.ticks) ∧
  (∀ (p : Fin 6) (fr : List Byte) (s : State) (h : Nat) (b : List Byte),
      HeadFrame s p fr 0x8C 24 h b → ((s.port p).sentFrames.all fun f => f.head != h) = true →
      exec (.excFrame p fr) s = .next (s.settleStop ((((s.onHead p h fun x => { x with seqUp := some (Bits.rd fr 4 2) }).count
      (Reg.HP_EXC p) 1).event Reg.HP_EVENT Fld.HP_EVENT_EXC).excNone p).closeDue)) ∧
  (∀ (p : Fin 6) (fr : List Byte) (s : State) (h : Nat) (b : List Byte) (u : State) (c : FireCmd) (rs : List FireRow),
      HeadFrame s p fr 0x8C 24 h b →
      u = ((s.onHead p h fun x => { x with seqUp := some (Bits.rd fr 4 2) }).count (Reg.HP_EXC p) 1).event
        Reg.HP_EVENT Fld.HP_EVENT_EXC →
      u.excNames p h (Bits.rd b 0 1) (Bits.rd b 2 2) (Bits.rd b 4 4) (Bits.rd b 8 2) = some (c, rs) →
      c.tag = Bits.rd b 16 8 →
      exec (.excFrame p fr) s = .next (s.settleStop (rs.foldl (fun t r => t.excRow p h (Bits.rd b 0 1) c r) u).closeDue)) ∧
  (∀ (p : Fin 6) (fr : List Byte) (s : State) (h : Nat) (b : List Byte) (u : State),
      HeadFrame s p fr 0x8D 24 h b →
      (u = ((s.onHead p h fun x => { x with seqUp := some (Bits.rd fr 4 2) }).onHead p h fun x => { x with
      queueFree := 1024 * Bits.rd b 8 2, lastSeq := Bits.rd b 6 2, segLanes := Bits.rd b 1 1 % 16, resid := Bits.rdS b 2 2 }).onPort p
      fun x => { x with sentFrames := x.sentFrames.map fun f =>
        if f.head = h then { f with after := f.after && seqAfter f.seq (Bits.rd b 6 2) } else f }) →
      exec (.statusFrame p fr) s = .next ((((u.setFld (Reg.HP_HEAD_INFO p h) Fld.HP_HEAD_INFO_LOCKED (Bits.rd b 0 1 % 2)).setFld
      (Reg.HP_HEAD_DELAY p h) Fld.HP_HEAD_DELAY_RESID (min 255 ((Bits.rdS b 2 2).natAbs / 4))).timeCheck p).laneCheck p)) ∧
  (∀ (p : Fin 6) (fr : List Byte) (s : State),
      2 ≤ s.portState p → s.portState p ≠ 7 →
      Crc.crc32c (fr.take (fr.length - 4)) ≠ Bits.rd fr (fr.length - 4) 4 →
      exec (.statusFrame p fr) s = .next ((s.count (Reg.HP_FRAME_ERR p) 1).event Reg.HP_EVENT Fld.HP_EVENT_FRAME_ERR) ∧
      exec (.echoFrame p fr) s = exec (.statusFrame p fr) s ∧ exec (.telemFrame p fr) s = exec (.statusFrame p fr) s ∧
      exec (.hoAckFrame p fr) s = exec (.statusFrame p fr) s ∧ exec (.sbRspFrame p fr) s = exec (.statusFrame p fr) s ∧
      exec (.enumRspFrame p fr) s = exec (.statusFrame p fr) s) ∧
  (∀ (p : Fin 6) (fr : List Byte) (s : State),
      s.portState p < 2 ∨ s.portState p = 7 →
      exec (.statusFrame p fr) s = .next (s.nrDiscard (16 + 4 * p) 4) ∧
      exec (.echoFrame p fr) s = exec (.statusFrame p fr) s ∧ exec (.telemFrame p fr) s = exec (.statusFrame p fr) s ∧
      exec (.hoAckFrame p fr) s = exec (.statusFrame p fr) s ∧ exec (.sbRspFrame p fr) s = exec (.statusFrame p fr) s ∧
      exec (.enumRspFrame p fr) s = exec (.statusFrame p fr) s)

/-- The front fire command leaves its queue when its head has room, and none does while ESTOP_N is low.
A sideband request without answer is sent again before its third send; a present head without STATUS is
lost; a hand-over without the acknowledgement of a present head is sent again or the head lost. An
enumeration that has found too few heads starts over; one whose chain shows no end counts the heads that
have answered, and with none of them a port the map uses is in FAULT with cause 2; a port that finds no time lock in TIME is in FAULT with
cause 4; time lock lost in READY starts ENUM when the port may. A narrowing notes each head's echo and
ends with the last one, where no further lane is missing, with nothing held back. PORT_RESTART in FAULT
clears the attempts, and outside it is refused. Rests on: R293, R294, R298, R308, R311, R317, R320. -/
def Obligations.HeadPortsServe : Prop :=
  (∀ (p : Fin 6) (up : Bool) (s : State) (c : FireCmd) (l : List FireCmd),
      Inv s → (s.port p).queue = c :: l → (s.port p).narrow = none → s.gy.estop = false →
      c.bytes ≤ s.headRoom p c.head →
      Next (.fireFrameSend p up) s fun t => (t.port p).queue = l) ∧
  (∀ (p : Fin 6) (up : Bool) (s : State),
      s.gy.estop = true →
      exec (.fireFrameSend p up) s = .next s) ∧
  (∀ (p : Fin 6) (h : Fin 8) (s : State) (r : SbReq),
      Inv s → (s.port p).heads.length = 8 → (s.headLink p h).sb = some r → r.sends < 3 →
      Next (.sbReqTimeout p h) s fun t => (t.headLink p h).sb = some { r with sends := r.sends + 1 }) ∧
  (∀ (p : Fin 6) (h : Fin 8) (s : State),
      s.headPresent p h = true →
      exec (.headStatusTimeout p h) s = .next (s.headLost p h)) ∧
  (∀ (p : Fin 6) (h : Fin 8) (s : State) (o : HandOver),
      s.headPresent p h = true →
      ((s.hosOpen p).find? (fun o => !o.refused && !o.acked.contains h.val && Kv.getD o.sends h.val 0 != 0) = some o) →
      exec (.hoAckTimeout p h) s = .next (s.hoRetry p h o)) ∧
  (∀ (p : Fin 6) (s : State),
      Inv s → s.portState p = 2 → (s.port p).counted.isSome = true →
      Next (.enumRetry p) s fun t => (t.port p).enumSeen = [] ∧ (t.port p).enumEnd = false) ∧
  (∀ (p : Fin 6) (s : State),
      Inv s → s.portState p = 2 → (s.port p).counted = none → (s.port p).answered ≠ 0 →
      (s.port p).afterLoss = false →
      Next (.enumRetry p) s fun t => t.portState p = 3 ∧
      t.fld (Reg.HP_PORT_STATUS p) Fld.HP_PORT_STATUS_HEADS = (s.port p).answered) ∧
  (∀ (p : Fin 6) (s : State),
      s.portState p = 2 → (s.port p).answered = 0 → hdrCols s.bmap p ≠ 0 →
      exec (.enumRetry p) s = .next ((s.headsFound p 0).portFault p 2)) ∧
  (∀ (p : Fin 6) (s : State),
      Inv s → s.portState p = 4 →
      Next (.portTimeTimeout p) s fun t => t.portState p = 7 ∧ t.fld (Reg.HP_PORT_STATUS p) Fld.HP_PORT_STATUS_FAULT_CAUSE = 4) ∧
  (∀ (p : Fin 6) (s : State),
      s.portState p = 6 → s.flag (Reg.HP_PORT_STATUS p) Fld.HP_PORT_STATUS_TIME_LOCK = false →
      exec (.timeLockLoss p) s = .next ((s.onPort p fun x =>
      { x with toEnum := true, afterLoss := true, attempts := 0 }).toEnumCheck p)) ∧
  (∀ (p : Fin 6) (h : Fin 8) (s : State) (m : Nat) (l : List Nat),
      Inv s → (s.port p).narrow = some (m, l) → (∀ x ∈ s.headsOf p, x = h.val ∨ x ∈ l) →
      s.lanes p &&& s.commonLanes p = s.lanes p →
      Next (.lwidthEcho p h) s fun t => (t.port p).narrow = none ∧ (t.port p).held = [] ∧
      (t.port p).queue = (s.port p).queue) ∧
  (∀ (p : Fin 6) (h : Fin 8) (s : State) (m : Nat) (l : List Nat) (k : Nat),
      Inv s → (s.port p).narrow = some (m, l) → h.val ∉ l → k ∈ s.headsOf p → k ≠ h.val → k ∉ l →
      exec (.lwidthEcho p h) s = .next (s.onPort p fun x => { x with narrow := some (m, h.val :: l) })) ∧
  (∀ (a : Path) (p : Fin 6) (s : State),
      Inv s → s.portState p = 7 →
      Next (.hpPortRestart a p) s fun t => (t.port p).afterLoss = false ∧ (t.port p).attempts = 0 ∧ (t.port p).enumShort = 0) ∧
  (∀ (a : Path) (p : Fin 6) (s : State),
      s.portState p ≠ 7 →
      exec (.hpPortRestart a p) s = .next (s.accFlag a (Reg.HP_PORT_CTRL p) .refused))

/-- HP_SB_CMD with ALL 0 asks a present head that has no request in flight: for its identity anew, for a
nozzle check or for its telemetry. A waveform set committed is validated once, and a commit during a
validation is refused and flagged; a good set becomes its shadow copy, a bad one leaves the shadow
copies as they are. Rests on: R309, R310, R313, R325. -/
def Obligations.SidebandAndWaveforms : Prop :=
  (∀ (w : Word) (s : State) (p : Fin 6) (h : Fin 8),
      Inv s → p.val = Fld.HP_SB_CMD_PORT.get w → Fld.HP_SB_CMD_ALL.get w = 0 →
      h.val = Fld.HP_SB_CMD_HEAD.get w → s.headPresent p h = true → (s.port p).heads.length = 8 →
      (s.headLink p h).sb = none → s.headShut p = false →
      Next (.sbIdentityReread w) s fun t => (t.headLink p h).ident = [] ∧ (t.headLink p h).sb = some ⟨1, 0, 1024, 1⟩) ∧
  (∀ (w : Word) (s : State) (p : Fin 6) (h : Fin 8),
      Inv s → p.val = Fld.HP_SB_CMD_PORT.get w → Fld.HP_SB_CMD_ALL.get w = 0 →
      h.val = Fld.HP_SB_CMD_HEAD.get w → s.headPresent p h = true → (s.port p).heads.length = 8 →
      (s.headLink p h).sb = none → s.headShut p = false →
      Next (.sbNozzleCheck w) s fun t => (t.headLink p h).sb = some ⟨2, 0, 0, 1⟩) ∧
  (∀ (w : Word) (s : State) (p : Fin 6) (h : Fin 8),
      Inv s → p.val = Fld.HP_SB_CMD_PORT.get w → Fld.HP_SB_CMD_ALL.get w = 0 →
      h.val = Fld.HP_SB_CMD_HEAD.get w → s.headPresent p h = true → (s.port p).heads.length = 8 →
      (s.headLink p h).sb = none → s.headShut p = false →
      Next (.sbTelemetryPoll w) s fun t => (t.headLink p h).sb = some ⟨3, 0, 0, 1⟩) ∧
  (∀ (a : Path) (w : Word) (s : State),
      s.flag Reg.HP_WAVE_STATUS Fld.HP_WAVE_STATUS_BUSY = false →
      Next (.waveCommit a w) s fun t => t.hp.waves.checking = some (Fld.HP_WAVE_CTRL_SET.get w) ∧ t.hp.ports = s.hp.ports) ∧
  (∀ (a : Path) (w : Word) (s : State),
      s.flag Reg.HP_WAVE_STATUS Fld.HP_WAVE_STATUS_BUSY = true →
      exec (.waveCommit a w) s = .next (s.accFlag a Reg.HP_WAVE_CTRL .refused)) ∧
  (∀ (s : State) (n : Nat),
      s.hp.waves.checking = some n → waveFault (s.waveCopy n) = none →
      Next .waveValidationDone s fun t => t.hp.waves.checking = none ∧
      t.hp.waves.shadow = Kv.set s.hp.waves.shadow n (s.waveCopy n) ∧ t.hp.waves.active = s.hp.waves.active) ∧
  (∀ (s : State) (n c : Nat),
      s.hp.waves.checking = some n → waveFault (s.waveCopy n) = some c →
      Next .waveValidationDone s fun t => t.hp.waves.checking = none ∧ t.hp.waves.shadow = s.hp.waves.shadow)

/-- A feedback tick takes a locked clock to the next 100 ns, and without a lock there is none. A fault
of the wires of a pair that is checked faults the axis with cause 1. A common-mode measurement within
its limits clears the count of bad ones, and the second in a row outside them faults the axis with cause
3. A clear returns a faulted axis to state 2. The active edge of Z captures the count of its instant, behind
the gate of A and B where that is on, homing and a learned reference aside; the other edge has no effect; a written reference is learned. ARM of a compare unit in IDLE or DONE
whose axis is not valid waits in state 2 with its counts zero; ARM of an armed unit or for no axis is
refused and flagged; DISARM ends it. Rests on: R25, R469, R470, R471, R473, R475, R476, R479, R482,
R483, R494. -/
def Obligations.FeedbackServes : Prop :=
  (∀ (l : List FbSample) (k : Fin 501) (r : List (TickWord × Ecc)) (s : State),
      s.clk.pllLocked = true →
      Next (.feedbackTick l k r) s fun t => t.clk = (s.elapse (100 - s.clk.ticks % 100)).clk ∧
      t.motion.tickAt = t.clk.ticks) ∧
  (∀ (l : List FbSample) (k : Fin 501) (r : List (TickWord × Ecc)) (s : State),
      s.clk.pllLocked = false →
      exec (.feedbackTick l k r) s = .next s) ∧
  (∀ (x : Fin 6) (k : Fin 8) (m z : Nat) (s : State),
      z = (if s.flag (Reg.FB_AX_CFG x) Fld.FB_AX_CFG_Z_EN then 4 else 0) →
      (s.fbSrc x = 2 ∧ m = k.val &&& (3 + z) ∨ s.fbSrc x = 1 ∧ m = k.val &&& z) → m ≠ 0 → s.fbState x ≠ 3 →
      exec (.wireFault x k) s = .next
      (State.settleStop s ((s.setFld (Reg.FB_AX_STATUS x) Fld.FB_AX_STATUS_WIRE m).fbFault x 1))) ∧
  (∀ (x : Fin 6) (k : Fin 8) (z : Nat) (s : State),
      z = (if s.flag (Reg.FB_AX_CFG x) Fld.FB_AX_CFG_Z_EN then 4 else 0) →
      (s.fbSrc x = 0 ∨ s.fbState x = 3 ∨ s.fbSrc x = 2 ∧ k.val &&& (3 + z) = 0 ∨ s.fbSrc x = 1 ∧ k.val &&& z = 0) →
      exec (.wireFault x k) s = .next s) ∧
  (∀ (x : Fin 2) (lo hi : Fin 256) (s : State) (u : State),
      s.fbSrc x = 1 → s.fbState x ≠ 3 →
      u = (s.setFld (Reg.FB_AX_AN_STATUS x) Fld.FB_AX_AN_STATUS_CM_MIN lo).setFld (Reg.FB_AX_AN_STATUS x)
      Fld.FB_AX_AN_STATUS_CM_MAX hi →
      u.fld (Reg.FB_AX_AN_CFG x) Fld.FB_AX_AN_CFG_CM_LO ≤ lo.val →
      hi.val ≤ u.fld (Reg.FB_AX_AN_CFG x) Fld.FB_AX_AN_CFG_CM_HI →
      exec (.commonModeMeasure x lo hi) s = .next (s.settleStop (u.onFb x fun f => { f with cmBad := 0 }))) ∧
  (∀ (x : Fin 2) (lo hi : Fin 256) (s : State) (u : State) (f : FbAxis),
      s.fbSrc x = 1 → s.fbState x ≠ 3 →
      u = (s.setFld (Reg.FB_AX_AN_STATUS x) Fld.FB_AX_AN_STATUS_CM_MIN lo).setFld (Reg.FB_AX_AN_STATUS x)
      Fld.FB_AX_AN_STATUS_CM_MAX hi →
      (lo.val < u.fld (Reg.FB_AX_AN_CFG x) Fld.FB_AX_AN_CFG_CM_LO ∨
        u.fld (Reg.FB_AX_AN_CFG x) Fld.FB_AX_AN_CFG_CM_HI < hi.val) → s.motion.fbs[x.val]? = some f →
      f.cmBad = 1 →
      exec (.commonModeMeasure x lo hi) s = .next
      (s.settleStop ((u.onFb x fun f => { f with cmBad := 2 }).fbFault x 3))) ∧
  (∀ (x : Fin 6) (s : State),
      Inv s → s.fbState x = 1 →
      Next (.feedbackFaultClear x) s fun t => t.fbState x = 2 ∧ t.motion.gens = s.motion.gens) ∧
  (∀ (x : Fin 6) (s : State),
      s.fbState x ≠ 1 →
      exec (.feedbackFaultClear x) s = .next s) ∧
  (∀ (x : Fin 6) (ns : Fin 100) (rise : Bool) (s : State),
      Inv s → (s.fbSrc x = 1 ∨ s.fbSrc x = 2 ∧ (s.flag (Reg.FB_AX_CFG x) Fld.FB_AX_CFG_Z_GATE = false ∨
        s.levelsAt x ns = some (true, true))) → s.fbState x ≠ 3 →
      s.flag (Reg.FB_AX_CFG x) Fld.FB_AX_CFG_Z_EN = true →
      rise = (!s.flag (Reg.FB_AX_CFG x) Fld.FB_AX_CFG_Z_LOW) → s.homing x = false →
      s.flag (Reg.FB_AX_STATUS x) Fld.FB_AX_STATUS_IDX_LEARNED = false →
      exec (.indexEvent x ns rise) s = .next (s.setPairS (Reg.FB_AX_IDX_CAP_LO x) (s.countAt x ns))) ∧
  (∀ (x : Fin 6) (ns : Fin 100) (rise : Bool) (s : State),
      (s.fbSrc x = 0 ∨ s.fbState x = 3 ∨ s.flag (Reg.FB_AX_CFG x) Fld.FB_AX_CFG_Z_EN = false ∨
        rise = s.flag (Reg.FB_AX_CFG x) Fld.FB_AX_CFG_Z_LOW) →
      exec (.indexEvent x ns rise) s = .next s) ∧
  (∀ (p : Path) (x : Fin 6) (w : Word) (s : State),
      Inv s →
      Next (.idxRefCommit p x w) s fun t => t.reg (Reg.FB_AX_IDX_REF_LO x + 4) = w ∧
      t.reg (Reg.FB_AX_IDX_REF_LO x) = s.stagedLo p (Reg.FB_AX_IDX_REF_LO x) ∧ t.flag (Reg.FB_AX_STATUS x) Fld.FB_AX_STATUS_IDX_LEARNED = true) ∧
  (∀ (p : Path) (u : Fin 8) (s : State),
      Inv s → s.cmpAxis u ≤ 5 → s.fld (Reg.FB_CMP_STATUS u) Fld.FB_CMP_STATUS_STATE ≠ 1 →
      s.fld (Reg.FB_CMP_STATUS u) Fld.FB_CMP_STATUS_STATE ≠ 2 →
      s.fbState (s.cmpAxis u) ≠ 0 →
      Next (.cmpArm p u) s fun t => t.fld (Reg.FB_CMP_STATUS u) Fld.FB_CMP_STATUS_STATE = 2 ∧
      t.regN (Reg.FB_CMP_FIRES u) = 0 ∧ t.regN (Reg.FB_CMP_SKIPS u) = 0) ∧
  (∀ (p : Path) (u : Fin 8) (s : State),
      (5 < s.cmpAxis u ∨ s.fld (Reg.FB_CMP_STATUS u) Fld.FB_CMP_STATUS_STATE = 1 ∨
        s.fld (Reg.FB_CMP_STATUS u) Fld.FB_CMP_STATUS_STATE = 2) →
      exec (.cmpArm p u) s = .next (s.accFlag p (Reg.FB_CMP_CTRL u) .refused)) ∧
  (∀ (u : Fin 8) (s : State),
      Inv s →
      Next (.cmpDisarm u) s fun t => t.fld (Reg.FB_CMP_STATUS u) Fld.FB_CMP_STATUS_STATE = 0 ∧ t.motion = s.motion)

/-- The oldest captured swath that may report becomes READY with its barrier and sends its arrival, and
one that may not stays; a pending arrival without a start, or one that a new root has not
had, goes out again. At the root an arrival counts
once, and one for a released barrier is answered with its release. A release arms its ready swath, once,
where a slot is free, and names the driver; one of a firmware barrier gives firmware its instant. An
abort ends the pending arrival, and stops the layer of its barrier where the module has it; at the time
limit the root aborts a barrier with the lowest participant missing. A barrier action that acts ends.
Rests on: R388, R389. -/
def Obligations.BarriersServe : Prop :=
  (∀ (k : Nat) (s : State) (w : Swath) (l : Layer) (e : SwathEntry) (rate t : Nat),
      (s.gy.swaths.find? (fun w => w.state == .captured) = some w) → s.layer w.layer = some l →
      s.swEntry w = some e → s.mayReport w l e = true →
      (rate = if w.ports.isEmpty then 0 else w.rate) →
      t = max ((s.prevEnd w).getD 0 + ns16 (e.dwellUs * 1000)) s.now16 →
      exec (.swathReady k) s = .next (((s.onSwath w.layer w.idx fun w => { w with state := .ready, barrier := k % 2 ^ 32 }).onFab fun f =>
      { f with pend := some ⟨k % 2 ^ 32, w.layer, w.idx, barRecord 1 (Bits.b2n (s.flag (Reg.MP_AX_CFG 0) Fld.MP_AX_CFG_ENABLE)) 0 w.layer w.idx
        l.planCrc rate (Bits.divUp t 1024 * 1024), none, false⟩ }).sendArrival)) ∧
  (∀ (k : Nat) (s : State) (w : Swath) (l : Layer) (e : SwathEntry),
      (s.gy.swaths.find? (fun w => w.state == .captured) = some w) → s.layer w.layer = some l →
      s.swEntry w = some e → s.mayReport w l e = false →
      exec (.swathReady k) s = .next s) ∧
  (∀ (s : State) (d : Pend),
      s.fab.pend = some d → (d.start = none ∨ d.again = true) →
      exec .barArriveResend s = .next s.sendArrival) ∧
  (∀ (s : State),
      s.fab.pend = none ∨ (∃ d t, s.fab.pend = some d ∧ d.start = some t ∧ d.again = false) →
      exec .barArriveResend s = .next s) ∧
  (∀ (p : Fin 5) (fr : List Byte) (s u : State) (f : FabFrame) (v : State),
      FabFrameIn s p fr 0x12 f → u = fabIn s p → u.isRoot = true →
      Kv.get u.fab.released f.arg = none → v = u.formMembers (barLayer f.pay) →
      ((v.fab.arrivals.any fun a => a.id == f.arg && a.node == f.src) = false) →
      exec (.barArriveFrame p fr) s = .next (fabOut s p f
      ((v.onFab fun g => { g with arrivals := g.arrivals ++ [⟨f.arg, f.src, f.pay⟩] }).barCheck f.arg))) ∧
  (∀ (p : Fin 5) (fr : List Byte) (s u : State) (f : FabFrame) (b : List Byte),
      FabFrameIn s p fr 0x12 f → u = fabIn s p → u.isRoot = true →
      Kv.get u.fab.released f.arg = some b →
      exec (.barArriveFrame p fr) s = .next (fabOut s p f (u.fabTo 0x13 f.src f.arg b))) ∧
  (∀ (p : Fin 5) (fr : List Byte) (s u : State) (f : FabFrame) (v : State) (w : Swath),
      FabFrameIn s p fr 0x13 f → u = fabIn s p → f.arg ∉ u.fab.armed → barKind f.pay ≠ 0 →
      u.swath (barLayer f.pay) (barSwath f.pay) = some w → w.state = .ready →
      u.armSwath w (barTime f.pay) (barRate f.pay) = (true, v) →
      Next (.barReleaseFrame p fr) s fun t => t.fab.armed.head? = some f.arg ∧ t.fab.driver = barNode f.pay ∧ t.gy = v.gy ∧ t.due = v.due) ∧
  (∀ (p : Fin 5) (fr : List Byte) (s u : State) (f : FabFrame),
      FabFrameIn s p fr 0x13 f → u = fabIn s p → f.arg ∈ u.fab.armed →
      exec (.barReleaseFrame p fr) s = .next (fabOut s p f u)) ∧
  (∀ (p : Fin 5) (fr : List Byte) (s u : State) (f : FabFrame),
      FabFrameIn s p fr 0x13 f → u = fabIn s p → f.arg ∉ u.fab.armed → barKind f.pay = 0 →
      Next (.barReleaseFrame p fr) s fun t => t.fab.armed.head? = some f.arg ∧
      t.due = (u.fwArmOrWait (barTime f.pay) 2 f.arg 0).due) ∧
  (∀ (p : Fin 5) (fr : List Byte) (s u v : State) (f : FabFrame) (q : Nat),
      FabFrameIn s p fr 0x14 f → u = fabIn s p → u.barLayerOf f.arg = some q →
      v = ((((u.setFld Reg.FAB_BAR_ABORT Fld.FAB_BAR_ABORT_CAUSE (Bits.rd f.pay 0 1)).setFld Reg.FAB_BAR_ABORT
        Fld.FAB_BAR_ABORT_NODE (Bits.rd f.pay 2 2)).raise .stopping Reg.FAB_EVENT Fld.FAB_EVENT_BAR_ABORT
        (Bits.rd f.pay 0 1) unitFabric).onFab fun g => { g with pend := g.pend.filter fun d => d.id != f.arg }) →
      exec (.barAbortFrame p fr) s = .next (fabOut s p f (v.stopLayer q))) ∧
  (∀ (p : Fin 5) (fr : List Byte) (s u : State) (f : FabFrame),
      FabFrameIn s p fr 0x14 f → u = fabIn s p → u.barLayerOf f.arg = none →
      Next (.barAbortFrame p fr) s fun t => t.fab.pend = u.fab.pend.filter (fun d => d.id != f.arg) ∧ t.layers = s.layers) ∧
  (∀ (k n : Nat) (s : State),
      s.isRoot = true → s.fld Reg.FAB_BAR_CFG Fld.FAB_BAR_CFG_BAR_TO_S ≠ 0 →
      ((s.fab.arrivals.any fun a => a.id == k) = true) → s.barMissing k = some n →
      exec (.barTimeout k) s = .next (s.barAbort k 3 n)) ∧
  (∀ (s : State) (d : TaDue),
      ActsNow s 2 d →
      exec .barrierAction s = .next (s.endAction d true))

/-- With a swath running a governor period counts, and with none it does not. A GOV frame of the running
swath without an applied value notes its sender's value, and one of the driver with a value applies it.
A timed action with a valid code and time is armed once; it waits where no slot is free, and fails where
its code or time is not valid, its number noted (log entry 68). Rests on: R264, R266, R347, R350, R390, R394. -/
def Obligations.GovernorAndTimedFrames : Prop :=
  (∀ (s : State) (w : Swath) (l : Layer) (e : SwathEntry),
      (s.gy.swaths.find? (fun w => w.state == .running) = some w) → s.layer w.layer = some l →
      s.swEntry w = some e →
      Next .governorPeriod s fun t => t.gy.period = s.gy.period + 1 ∧ t.gy.swaths = s.gy.swaths) ∧
  (∀ (s : State),
      (s.gy.swaths.find? (fun w => w.state == .running) = none) →
      exec .governorPeriod s = .next s) ∧
  (∀ (p : Fin 5) (fr : List Byte) (s u : State) (f : FabFrame) (w : Swath),
      FabFrameIn s p fr 0x15 f → u = fabIn s p →
      (u.gy.swaths.find? (fun w => w.state == .running) = some w) → Bits.rd f.pay 0 4 = w.layer →
      Bits.rd f.pay 4 2 = w.idx → Bits.rd f.pay 8 2 = 0 →
      exec (.govFrame p fr) s = .next (fabOut s p f (u.noteOvr f.src (Bits.rd f.pay 6 2)))) ∧
  (∀ (p : Fin 5) (fr : List Byte) (s u : State) (f : FabFrame) (w : Swath),
      FabFrameIn s p fr 0x15 f → u = fabIn s p →
      (u.gy.swaths.find? (fun w => w.state == .running) = some w) → Bits.rd f.pay 0 4 = w.layer →
      Bits.rd f.pay 4 2 = w.idx → Bits.rd f.pay 8 2 ≠ 0 → f.src = u.fab.driver → f.src ≠ u.node →
      exec (.govFrame p fr) s = .next (fabOut s p f (u.applyOvr w (min (Bits.rd f.pay 8 2) 1024)))) ∧
  (∀ (p : Fin 5) (fr : List Byte) (s u : State) (f : FabFrame) (v : State),
      FabFrameIn s p fr 0x16 f → u = fabIn s p → f.arg ∉ u.fab.actions →
      Bits.rd f.pay 4 4 ≤ 999999999 → codeValid (Bits.rd f.pay 0 1) 128 = true →
      u.fwArm (flat (Bits.rd f.pay 8 8) (Bits.rd f.pay 4 4) (Bits.rd f.pay 16 2 / 1024 * 1024)) (Bits.rd f.pay 0 1)
      (Bits.rd f.pay 20 4) (Bits.rd f.pay 24 4) = (true, v) →
      Next (.timedFrame p fr) s fun t => t.fab.actions.head? = some f.arg ∧ t.due = v.due) ∧
  (∀ (p : Fin 5) (fr : List Byte) (s u : State) (f : FabFrame) (v : State),
      FabFrameIn s p fr 0x16 f → u = fabIn s p → f.arg ∉ u.fab.actions →
      Bits.rd f.pay 4 4 ≤ 999999999 → codeValid (Bits.rd f.pay 0 1) 128 = true →
      u.fwArm (flat (Bits.rd f.pay 8 8) (Bits.rd f.pay 4 4) (Bits.rd f.pay 16 2 / 1024 * 1024)) (Bits.rd f.pay 0 1)
      (Bits.rd f.pay 20 4) (Bits.rd f.pay 24 4) = (false, v) →
      Next (.timedFrame p fr) s fun t => t.fab.actions.head? = some f.arg ∧ t.due = s.due ∧
      t.fab.waits = v.fab.waits ++ [⟨flat (Bits.rd f.pay 8 8) (Bits.rd f.pay 4 4) (Bits.rd f.pay 16 2 / 1024 * 1024),
        Bits.rd f.pay 0 1, Bits.rd f.pay 20 4, Bits.rd f.pay 24 4⟩]) ∧
  (∀ (p : Fin 5) (fr : List Byte) (s u : State) (f : FabFrame),
      FabFrameIn s p fr 0x16 f → (u = (fabIn s p).onFab fun g => { g with actionId := if seqGe f.arg g.actionId then (f.arg + 1) % 2 ^ 32 else g.actionId }) → f.arg ∉ s.fab.actions →
      (999999999 < Bits.rd f.pay 4 4 ∨ codeValid (Bits.rd f.pay 0 1) 128 = false) →
      exec (.timedFrame p fr) s = .next (fabOut s p f
      ((u.event Reg.TA_EVENT Fld.TA_EVENT_FAILED).accFlag .firmware Reg.TA_CTRL .refused))) ∧
  (∀ (p : Fin 5) (fr : List Byte) (s u : State) (f : FabFrame),
      FabFrameIn s p fr 0x16 f → (u = (fabIn s p).onFab fun g => { g with actionId := if seqGe f.arg g.actionId then (f.arg + 1) % 2 ^ 32 else g.actionId }) → f.arg ∈ s.fab.actions →
      exec (.timedFrame p fr) s = .next (fabOut s p f u))

/-- TB_PLL_LOCK starts the counter at zero, or restores the time held through DEEP; TB_INCR and TB_ADJ
act for the owning servo, and another owner's write is flagged; TB_ADJ adds to the slew, and a slew that
runs ends with nothing left. Ten seconds of AON cycles after the mark before, and no wake since, the AON
ratio is learned from the time they took; without a lock it is not. A step command of the host servo
takes the counter by the offset of the selected valid domain when nothing forbids a step, else it is
refused; a waiting step is made when free. Rests on: R327, R329, R330, R331, R332, R339, R341, R343,
R344, R345. -/
def Obligations.TimeIsKept : Prop :=
  (∀ (c : Nat) (s : State),
      s.clk.pllLocked = false → s.clk.deepHeld = false →
      Next (.tbPllLock c) s fun t => t.clk.pllLocked = true ∧ t.now16 = 0 ∧ t.clk.ticks = 0 ∧ t.clk.slewRem = 0 ∧ t.regs = s.regs) ∧
  (∀ (c : Nat) (s : State),
      s.clk.pllLocked = false → s.clk.deepHeld = true →
      exec (.tbPllLock c) s = .next (s.restoreTime c)) ∧
  (∀ (p : Path) (w : Word) (s : State),
      p.host = s.hostServo →
      exec (.tbIncrWrite p w) s = .next (s.setReg Reg.TB_INCR w)) ∧
  (∀ (p : Path) (w : Word) (s : State),
      p.host ≠ s.hostServo →
      exec (.tbIncrWrite p w) s = .next (s.accFlag p Reg.TB_INCR .owner)) ∧
  (∀ (p : Path) (w : Word) (s u : State),
      s.hostServo = true → u = s.commitPair p Reg.TB_ADJ_LO w →
      Next (.tbAdjCommit p w) s fun t => t.clk.slewRem = satSlew (s.clk.slewRem + u.pairS Reg.TB_ADJ_LO * 4096) ∧ t.regs = u.regs) ∧
  (∀ (p : Path) (w : Word) (s : State),
      s.hostServo = false →
      exec (.tbAdjCommit p w) s = .next ((s.unstage p Reg.TB_ADJ_LO).accFlag p Reg.TB_ADJ_HI .owner)) ∧
  (∀ (c : BitVec 64) (c0 t0 : Nat) (s : State),
      s.clk.pllLocked = true → s.clk.wakeAt = none → s.clk.aonAt = some (c0, t0) →
      (c.toNat + 2 ^ 64 - c0) % 2 ^ 64 = aonWindow →
      exec (.aonRatioLearn c) s = .next (({ s with clk := { s.clk with aonAt := some (c.toNat, s.now16) } } : State).setPair
      Reg.TB_AON_RATIO_LO (((s.now16 - t0) * 65536 + aonWindow / 2) / aonWindow))) ∧
  (∀ (c : BitVec 64) (s : State),
      s.clk.pllLocked = false →
      exec (.aonRatioLearn c) s = .next s) ∧
  (∀ (s : State),
      s.clk.pllLocked = true → 0 < s.clk.slewK →
      Next .slewComplete s fun t => t.clk.slewRem = 0 ∧ t.regs = s.regs) ∧
  (∀ (p : Path) (s : State),
      s.hostServo = true → s.sel < 2 → (s.dom s.sel).valid = true → s.stepFree = true →
      Next (.tbStepCmd p) s fun t => t.now16 = tsAdd s.now16 (s.domOfs s.sel) ∧ t.clk.slewRem = 0) ∧
  (∀ (p : Path) (s : State),
      s.hostServo = true → (2 ≤ s.sel ∨ (s.dom s.sel).valid = false ∨ s.stepFree = false) →
      exec (.tbStepCmd p) s = .next (s.accFlag p Reg.TB_CTRL .refused)) ∧
  (∀ (p : Path) (s : State),
      s.hostServo = false →
      exec (.tbStepCmd p) s = .next (s.accFlag p Reg.TB_CTRL .owner)) ∧
  (∀ (s : State),
      s.clk.stepWait = true → s.sel < 2 → s.stepFree = true →
      Next .stepApply s fun t => t.now16 = tsAdd s.now16 (s.domOfs s.sel) ∧ t.clk.stepWait = false) ∧
  (∀ (s : State),
      (s.clk.stepWait = false ∨ 2 ≤ s.sel ∨ s.stepFree = false) →
      exec .stepApply s = .next s)

/-- A locked domain without samples is lost. TB_PPS_SEC written is in force, and counts up at each edge,
which is a sample of a PPS domain: with TREF by the count of TREF_IN where it is good, and none where it
is not. A first ANNOUNCE of its domainNumber gives a domain its master, one of a worse master changes
none. A SYNC of the master that is not too soon waits for its FOLLOW_UP or, one-step, is a sample; the
FOLLOW_UP of the pending SYNC is its sample, and without one it has no effect; the DELAY_RESP to the
latest request sets the mean path delay, and one for another port does not. DELAY_REQ goes out with the
next sequence number and is stamped. Without the management lane no sample is taken and no request
goes out. Rests on: R334, R335, R336, R337, R338, R357, R361, R424. -/
def Obligations.DomainsAndPtp : Prop :=
  (∀ (d : Fin 2) (s : State),
      s.dueAction 6 = none → s.domState d = 2 →
      exec (.domainSampleTimeout d) s = .next (s.domLost d)) ∧
  (∀ (d : Fin 2) (s : State),
      s.dueAction 6 = none → s.domState d ≠ 2 →
      exec (.domainSampleTimeout d) s = .next s) ∧
  (∀ (p : Path) (w : Word) (s : State),
      Inv s → (∀ d < 2, s.domSrc d ≠ 3) →
      exec (.tbPpsSecWrite p w) s = .next ((s.commitPair p Reg.TB_PPS_SEC_LO w).setFld Reg.TB_STATUS Fld.TB_STATUS_PPS_SEC_SET 1)) ∧
  (∀ (k : Fin 64) (n : Nat) (s : State),
      (∀ d < 2, s.domSrc d ≠ 3) →
      exec (.ppsInEdge k n) s = .next (s.setPair Reg.TB_PPS_SEC_LO (s.pair Reg.TB_PPS_SEC_LO + 1))) ∧
  (∀ (k : Fin 64) (n : Nat) (s u : State),
      s.domSrc 0 = 3 → s.domState 0 ≠ 0 → s.flag (Reg.TB_DOM_CFG 0) Fld.TB_DOM_CFG_TREF = false →
      u = s.domSample 0 ((flat (s.pair Reg.TB_PPS_SEC_LO) 0 0 : Int) - s.tapStamp k) none →
      u.domSrc 1 ≠ 3 →
      exec (.ppsInEdge k n) s = .next (u.setPair Reg.TB_PPS_SEC_LO (u.pair Reg.TB_PPS_SEC_LO + 1))) ∧
  (∀ (k : Fin 64) (n : Nat) (s u : State),
      s.domSrc 0 = 3 → s.domState 0 ≠ 0 → s.flag (Reg.TB_DOM_CFG 0) Fld.TB_DOM_CFG_TREF = true →
      9999900 ≤ n → n ≤ 10000100 →
      u = (s.setFld (Reg.TB_DOM_STATUS 0) Fld.TB_DOM_STATUS_TREF_OK 1).domSample 0 ((flat (s.pair Reg.TB_PPS_SEC_LO) 0 0 : Int) - s.tapStamp k)
        (some (Bits.twos 32 (((n : Int) - 10000000) * 100))) →
      u.domSrc 1 ≠ 3 →
      exec (.ppsInEdge k n) s = .next (u.setPair Reg.TB_PPS_SEC_LO (u.pair Reg.TB_PPS_SEC_LO + 1))) ∧
  (∀ (k : Fin 64) (n : Nat) (s u : State),
      s.domSrc 0 = 3 → s.domState 0 ≠ 0 → s.flag (Reg.TB_DOM_CFG 0) Fld.TB_DOM_CFG_TREF = true →
      n < 9999900 ∨ 10000100 < n →
      u = s.setFld (Reg.TB_DOM_STATUS 0) Fld.TB_DOM_STATUS_TREF_OK 0 →
      u.domSrc 1 ≠ 3 →
      exec (.ppsInEdge k n) s = .next (u.setPair Reg.TB_PPS_SEC_LO (u.pair Reg.TB_PPS_SEC_LO + 1))) ∧
  (∀ (n : Fin 256) (a : Announce) (s : State) (d : Nat),
      Inv s → d ∈ s.ptpDoms n → (s.dom d).master = none →
      Next (.ptpAnnounce n a) s fun t => (t.dom d).master = some a ∧ t.regN Reg.TB_UTC_OFS = (Bits.twos 16 a.utcOfs + 65536) % 2 ^ 32) ∧
  (∀ (n : Fin 256) (a m : Announce) (s : State) (d : Nat),
      s.ptpDoms n = [d] → (s.dom d).master = some m → m.source ≠ a.source → a.better m = false →
      Next (.ptpAnnounce n a) s fun t => t.doms = s.doms) ∧
  (∀ (n : Fin 256) (a q : Nat) (t1 c : Int) (k : Fin 64) (s : State) (d : Nat),
      Inv s → d ∈ s.ptpDoms n → ((s.dom d).usedAt.all fun u => decide (u + 7812500 ≤ s.clk.ticks)) = true →
      s.fromMaster d a = true →
      Next (.ptpSync n a q true t1 c k) s fun t => (t.dom d).sync = some ⟨a, q, s.tapStamp k, c⟩ ∧
      (t.dom d).usedAt = some s.clk.ticks) ∧
  (∀ (n : Fin 256) (a q : Nat) (t1 c : Int) (k : Fin 64) (s : State) (d : Nat),
      s.ptpDoms n = [d] → ((s.dom d).usedAt.all fun u => decide (u + 7812500 ≤ s.clk.ticks)) = true →
      s.fromMaster d a = true →
      exec (.ptpSync n a q false t1 c k) s = .next (((s.setFld (Reg.TB_DOM_STATUS d) Fld.TB_DOM_STATUS_TWO_STEP 0).onDom d fun x =>
      { x with usedAt := some s.clk.ticks }).ptpSample d t1 (s.tapStamp k) c)) ∧
  (∀ (n : Fin 256) (a q : Nat) (t1 c : Int) (s : State) (d : Nat) (y : PendingSync),
      s.ptpDoms n = [d] → (s.dom d).sync = some y → y.source = a → y.seq = q →
      exec (.ptpFollowUp n a q t1 c) s = .next (s.ptpSample d t1 y.t2 (y.corr + c))) ∧
  (∀ (n : Fin 256) (a q : Nat) (t1 c : Int) (s : State) (d : Nat),
      s.ptpDoms n = [d] → (s.dom d).sync = none →
      exec (.ptpFollowUp n a q t1 c) s = .next s) ∧
  (∀ (d : Fin 2) (k : Fin 64) (s : State) (m : Announce),
      Inv s → s.domSrc d = 1 → s.domState d ≠ 0 → (s.dom d).master = some m → s.mgtLink = true →
      Next (.delayReqSend d k) s fun t => (t.dom d).t3 = some (s.tapStamp k : Int) ∧ (t.dom d).dreqSeq = ((s.dom d).dreqSeq + 1) % 65536 ∧
      t.sent.head? = some (.ptp d (s.delayReq d (((s.dom d).dreqSeq + 1) % 65536)))) ∧
  (∀ (n : Fin 256) (a : Nat) (t4 c t3 w : Int) (s : State) (d : Nat),
      Inv s → d ∈ s.ptpDoms n → (s.dom d).t3 = some t3 → (s.dom d).down = some w →
      s.fromMaster d a = true →
      Next (.ptpDelayResp n a (s.dom d).dreqSeq true t4 c) s fun t => (t.dom d).mpd = (w + (t4 - t3 - c)).fdiv 2 ∧ (t.dom d).t3 = none) ∧
  (∀ (n : Fin 256) (a q : Nat) (t4 c : Int) (s : State),
      exec (.ptpDelayResp n a q false t4 c) s = .next s) ∧
  (∀ (n : Fin 256) (a q : Nat) (m : Bool) (t1 c : Int) (k : Fin 64) (d : Fin 2) (s : State),
      s.mgtLink = false →
      exec (.ptpSync n a q m t1 c k) s = .next s ∧ exec (.delayReqSend d k) s = .next s)

/-- ARM of a free host slot with a valid code and time arms it, or late dispatches it at once; a slot of
firmware is OWNER and a bad one FAILED. DISARM of an armed slot frees it, in the tick of its dispatch or
after it has no effect but its flag. The slot whose instant of dispatch comes first is dispatched and
becomes due. Of the actions due the one that acts now ends its slot as its effect reports: domain
switch, GPIO, hand-over and calibration; a slot ends DONE or FAILED. The PPS output gives its pulse at
the next whole second. The last word of a management key commits the key over a path that may write it,
and over another path no key changes. Rests on: R347, R348, R349, R350, R351, R352, R354, R631, R678,
R679. -/
def Obligations.SlotsAndActions : Prop :=
  (∀ (p : Path) (n : Fin 256) (s : State),
      Inv s → n.val < 128 → s.armFails n = false →
      s.now16 + leadOf (s.slotCode n) ≤ s.slotTime n →
      Next (.taArm p n) s fun t => t.slotSt n = 1 ∧ t.due = s.due) ∧
  (∀ (p : Path) (n : Fin 256) (s : State),
      Inv s → n.val < 128 → s.armFails n = false → s.slotTime n < s.now16 + leadOf (s.slotCode n) →
      Next (.taArm p n) s fun t => t.slotSt n = 2 ∧
      t.due = s.due ++ [⟨n, Bits.divUp (s.now16 + leadOf (s.slotCode n)) 1024 * 1024, true⟩]) ∧
  (∀ (p : Path) (n : Fin 256) (s : State),
      128 ≤ n.val →
      exec (.taArm p n) s = .next (s.accFlag p Reg.TA_CTRL .owner) ∧ exec (.taDisarm p n) s = .next (s.accFlag p Reg.TA_CTRL .owner)) ∧
  (∀ (p : Path) (n : Fin 256) (s : State),
      n.val < 128 → s.armFails n = true →
      exec (.taArm p n) s = .next ((s.event Reg.TA_EVENT Fld.TA_EVENT_FAILED).accFlag p Reg.TA_CTRL .refused)) ∧
  (∀ (p : Path) (n : Fin 256) (s : State),
      Inv s → n.val < 128 → s.slotSt n = 1 →
      s.clk.pllLocked = false ∨ s.now16 + leadOf (s.slotCode n) < s.slotTime n →
      Next (.taDisarm p n) s fun t => t.slotSt n = 0 ∧ t.due = s.due) ∧
  (∀ (p : Path) (n : Fin 256) (s : State),
      n.val < 128 → s.slotSt n = 1 → s.clk.pllLocked = true → s.slotTime n ≤ s.now16 + leadOf (s.slotCode n) →
      exec (.taDisarm p n) s = .next ((s.dispatch n).event Reg.TA_EVENT Fld.TA_EVENT_DISARM_FAIL)) ∧
  (∀ (p : Path) (n : Fin 256) (s : State),
      n.val < 128 → s.slotSt n = 2 →
      exec (.taDisarm p n) s = .next (s.event Reg.TA_EVENT Fld.TA_EVENT_DISARM_FAIL)) ∧
  (∀ (n : Nat) (s : State),
      Inv s → s.clk.pllLocked = true → s.nextSlot = some n →
      Next .taDispatch s fun t => t.slotSt n = 2 ∧ t.due = s.due ++ [⟨n, s.slotTime n, false⟩]) ∧
  (∀ (s : State),
      s.nextSlot = none ∨ s.clk.pllLocked = false →
      exec .taDispatch s = .next s) ∧
  (∀ (s u : State) (d : TaDue) (ok : Bool),
      ActsNow s 6 d →
      s.domainSwitch (s.regN (Reg.TA_SLOT_ARG0 d.slot)) (s.regN (Reg.TA_SLOT_ARG1 d.slot)) = (ok, u) →
      exec .domainSwitch s = .next (u.endAction d ok)) ∧
  (∀ (s u : State) (d : TaDue) (ok : Bool),
      ActsNow s 7 d →
      s.gpioSet (s.regN (Reg.TA_SLOT_ARG0 d.slot)) (s.regN (Reg.TA_SLOT_ARG1 d.slot)) = (ok, u) →
      exec .gpioSet s = .next (u.endAction d ok)) ∧
  (∀ (s u : State) (d : TaDue) (ok : Bool),
      ActsNow s 3 d →
      s.handover (s.regN (Reg.TA_SLOT_ARG0 d.slot)) (s.regN (Reg.TA_SLOT_ARG1 d.slot)) = (ok, u) →
      exec .handoverAction s = .next (u.endAction d ok)) ∧
  (∀ (s u : State) (d : TaDue) (ok : Bool),
      ActsNow s 4 d →
      s.calApply (s.regN (Reg.TA_SLOT_ARG0 d.slot)) (s.regN (Reg.TA_SLOT_ARG1 d.slot)) = (ok, u) →
      exec .calApplyAction s = .next (u.endAction d ok)) ∧
  (∀ (s : State),
      s.dueAction 6 = none →
      exec .domainSwitch s = .next s) ∧
  (∀ (s : State) (d : TaDue),
      Inv s → d.late = false → s.fab.waits = [] →
      (s.endAction d true).slotSt d.slot = 3 ∧ (s.endAction d false).slotSt d.slot = 5 ∧ (s.endAction d true).due = s.due.erase d) ∧
  (∀ (s : State),
      s.flag Reg.TB_CFG Fld.TB_CFG_PPS_OUT_EN = true → s.tq ≠ 0 → s.clk.pllLocked = true →
      Next .ppsOutPulse s fun t => t.sent = .pinPulse 255 ((s.nowNs / 1000000000 + 1) * 1000000000 * 65536) 100000000 :: s.sent ∧ t.regs = s.regs) ∧
  (∀ (p : Path) (a : Option (Fin 2)) (k : Fin 2) (w : Word) (s : State),
      keyAllowed p (a.map Fin.val) k = true →
      Next (.mgtKeyCommit p a k w) s fun t => t.mgt.keyStage = Kv.set s.mgt.keyStage (8 * k + 7) w ∧ t.mgt.keys = Kv.set s.mgt.keys k
      ((List.range 8).flatMap fun j => (toLE 4 (Kv.getD t.mgt.keyStage (8 * k + j) 0#32).toNat).reverse)) ∧
  (∀ (p : Path) (a : Option (Fin 2)) (k : Fin 2) (w : Word) (s : State),
      keyAllowed p (a.map Fin.val) k = false →
      Next (.mgtKeyCommit p a k w) s fun t => t.mgt.keys = s.mgt.keys)

/-- A sample that is not valid, or of a channel without power, clears its channel's counts; a valid one
of a powered temperature channel with EN and COMPARE is compared and settles. With no valid die sensor
TCAL is not valid; else it is the mean of those valid and not STALE, which the converters follow, and
where none has moved too far no converter calibrates. Rests on: R613, R614, R615, R616, R617, R626,
R627, R630. -/
def Obligations.HealthIsWatched : Prop :=
  (∀ (c : Fin 56) (g : Bool) (v r : BitVec 16) (s : State),
      hmClass c ≠ 3 → s.flag (Reg.HM_CH_STATUS c) Fld.HM_CH_STATUS_STALE = false →
      (g = false ∨ hmUnpowered s.pwrCur c = true) →
      Next (.hmSample c g v r) s fun t => t.hm = s.hm.set c ⟨[0, 0, 0], [0, 0, 0], [false, false, false]⟩) ∧
  (∀ (c : Fin 56) (v r : BitVec 16) (s u : State),
      hmClass c = 0 → s.flag (Reg.HM_CH_STATUS c) Fld.HM_CH_STATUS_STALE = false →
      hmUnpowered s.pwrCur c = false →
      u = (s.setFld (Reg.HM_CH_STATUS c) Fld.HM_CH_STATUS_VALID 1).setRegN (Reg.HM_CH_VALUE c) v.toNat →
      u.flag (Reg.HM_CH_CFG c) Fld.HM_CH_CFG_COMPARE = true →
      u.flag (Reg.HM_CH_CFG c) Fld.HM_CH_CFG_EN = true →
      exec (.hmSample c true v r) s = .next (u.hmSettle c (u.hmTake c v.toInt) v.toInt)) ∧
  (∀ (s : State),
      (∀ c < 8, s.flag (Reg.HM_CH_STATUS c) Fld.HM_CH_STATUS_VALID = false) →
      exec .tcalUpdate s = .next (s.setFld Reg.HM_TCAL ⟨16, 1⟩ 0)) ∧
  (∀ (s u : State) (l : List Nat),
      (l = (List.range 8).filter (fun c => s.flag (Reg.HM_CH_STATUS c) Fld.HM_CH_STATUS_VALID && !s.flag (Reg.HM_CH_STATUS c) Fld.HM_CH_STATUS_STALE)) →
      l ≠ [] →
      u = State.followTcal (s.setRegN Reg.HM_TCAL (Bits.twos 16
        ((l.foldl (fun (a : Int) c => a + Bits.signed 16 (s.regN (Reg.HM_CH_VALUE c))) 0).fdiv l.length) + 65536)) →
      u.convMoved 0 = false → u.convMoved 1 = false →
      exec .tcalUpdate s = .next u)

/-- RUN of a target that can calibrate and is not busy, with its class or converter free, begins its
calibration, and of another is refused and flagged. FIX sets the mode where its point exists and is
refused where not; INTERP sets the default mode of a converter or a firing target and is refused of
another; CLEAR_FAIL clears. While role 9 runs the timers begin the next sensor, the idle converter of an
analogue axis and the ports in strobe mode; while it is paused they begin none. Two measurements that
agree are taken and others rejected. A converter swap that is requested waits for its axis, is refused
where the converters disagree, or makes the idle converter the one in service. The DELAY of a row moves
one tap toward its goal when it may, and stays where it may not or is there. Rests on: R472, R621, R622,
R623, R624, R625, R626, R628, R631, R638, R657. -/
def Obligations.CalibrationServes : Prop :=
  (∀ (p : Path) (w : Word) (s : State) (n : Nat),
      n = Fld.CAL_CTRL_TARGET.get w → s.calBusy n = false → calClass n ≠ .lane → calClass n ≠ .nothing →
      (calClass n = .temp ∨ calClass n = .volt → s.sensorBusy n = false) →
      (calClass n = .feedback → s.convInService n = false) → (calClass n = .firing → s.strobe (n - 40) = true) →
      exec (.calRun p w) s = .next (s.calBegin n)) ∧
  (∀ (p : Path) (w : Word) (s : State) (n : Nat),
      n = Fld.CAL_CTRL_TARGET.get w →
      (s.calBusy n = true ∨ calClass n = .lane ∨ calClass n = .nothing ∨
        (calClass n = .temp ∨ calClass n = .volt) ∧ s.sensorBusy n = true ∨
        calClass n = .feedback ∧ s.convInService n = true ∨ calClass n = .firing ∧ s.strobe (n - 40) = false) →
      exec (.calRun p w) s = .next (s.accFlag p Reg.CAL_CTRL .refused)) ∧
  (∀ (p : Path) (w : Word) (s u : State),
      s.setMode (Fld.CAL_CTRL_TARGET.get w) (some (Fld.CAL_CTRL_POINT.get w)) = (true, u) →
      exec (.calFix p w) s = .next u) ∧
  (∀ (p : Path) (w : Word) (s u : State),
      s.setMode (Fld.CAL_CTRL_TARGET.get w) (some (Fld.CAL_CTRL_POINT.get w)) = (false, u) →
      exec (.calFix p w) s = .next (s.accFlag p Reg.CAL_CTRL .refused)) ∧
  (∀ (p : Path) (w : Word) (s : State),
      (calClass (Fld.CAL_CTRL_TARGET.get w) = .feedback ∨ calClass (Fld.CAL_CTRL_TARGET.get w) = .firing) →
      exec (.calInterp p w) s = .next (s.modeInterp (Fld.CAL_CTRL_TARGET.get w))) ∧
  (∀ (p : Path) (w : Word) (s : State),
      calClass (Fld.CAL_CTRL_TARGET.get w) ≠ .feedback → calClass (Fld.CAL_CTRL_TARGET.get w) ≠ .firing →
      exec (.calInterp p w) s = .next (s.accFlag p Reg.CAL_CTRL .refused)) ∧
  (∀ (w : Word) (s : State) (n : Nat),
      n = Fld.CAL_CTRL_TARGET.get w → Inv s → n ≤ 104 →
      Next (.calClearFail w) s fun t => t.tgt n Fld.CAL_TGT_STATUS_CAL_FAIL = 0 ∧ t.cal = s.cal) ∧
  (∀ (s : State),
      s.bgPaused = false → s.sensorBusy (nth tempTargets (s.cal.nextT % 10) 0) = false →
      Next .sensorCalTimer s fun t => t.cal.nextT = (s.cal.nextT + 1) % 10 ∧ t.hm = s.hm) ∧
  (∀ (x : Fin 2) (s : State),
      s.bgPaused = false → s.fbSrc x = 1 → s.calBusy (32 + 2 * x) = false → s.calBusy (33 + 2 * x) = false →
      exec (.convCalTimer x) s = .next (s.calBegin (s.convIdle x))) ∧
  (∀ (p : Fin 6) (s : State),
      Inv s → s.bgPaused = false → (∀ q < 6, s.strobe q = true ↔ q = p.val) →
      s.tgt (40 + p) Fld.CAL_TGT_STATUS_MODE ≠ 0 → s.calBusy (40 + p) = false →
      exec .firingCalTimer s = .next (s.calBegin (40 + p))) ∧
  (∀ (x : Fin 2) (s : State),
      s.bgPaused = true →
      exec .sensorCalTimer s = .next s ∧ exec (.convCalTimer x) s = .next s ∧ exec .firingCalTimer s = .next s) ∧
  (∀ (n : Fin 105) (a b : List Int) (s : State),
      s.calBusy n = true → calAgree (calClass n) a b = true →
      exec (.calMeasureDone n a b) s = .next ((s.calTake n (calMean (calClass n) a b)).calAccepted n)) ∧
  (∀ (n : Fin 105) (a b : List Int) (s : State),
      s.calBusy n = true → calAgree (calClass n) a b = false →
      exec (.calMeasureDone n a b) s = .next (s.calReject n)) ∧
  (∀ (x : Fin 2) (m n : Int × Int) (s u v : State) (a b : Nat),
      x.val ∈ s.cal.swaps → (x.val = 0 → s.swathLive = false) → (x.val = 1 → s.axState 1 ≤ 1) →
      (s.onCal fun c => { c with swaps := c.swaps.filter (· != x.val) }).convAngle (s.convOf x) m = (a, u) →
      u.convAngle (s.convIdle x) n = (b, v) →
      anglesAgree a b = true → v.ampFault x = false →
      Next (.converterSwap x m n) s fun t => x.val ∈ t.cal.second ∧ x.val ∉ t.cal.swaps) ∧
  (∀ (x : Fin 2) (m n : Int × Int) (s u v : State) (a b : Nat),
      x.val ∈ s.cal.swaps → (x.val = 0 → s.swathLive = false) → (x.val = 1 → s.axState 1 ≤ 1) →
      (s.onCal fun c => { c with swaps := c.swaps.filter (· != x.val) }).convAngle (s.convOf x) m = (a, u) →
      u.convAngle (s.convIdle x) n = (b, v) →
      (anglesAgree a b = false ∨ v.ampFault x = true) →
      Next (.converterSwap x m n) s fun t => t.cal.second = s.cal.second ∧ x.val ∉ t.cal.swaps) ∧
  (∀ (x : Fin 2) (m n : Int × Int) (s : State),
      x.val ∈ s.cal.swaps → (x.val = 0 ∧ s.swathLive = true ∨ x.val = 1 ∧ 1 < s.axState 1) →
      exec (.converterSwap x m n) s = .next (s.event Reg.CAL_EVENT Fld.CAL_EVENT_SWAP_WAIT)) ∧
  (∀ (r : Fin 4096) (s : State) (p : Nat),
      p = rowPort s.bmap r → p < 6 → s.tgt (40 + p) Fld.CAL_TGT_STATUS_MODE ≠ 0 →
      s.firingSet (40 + p) = true → s.rowDelay r < s.delayGoal p r →
      s.mayDelay p r (s.rowDelay r + 1) = true →
      exec (.firingDelayStep r) s = .next ((s.setDelay r (s.rowDelay r + 1)).onCal fun c =>
        { c with stepAt := Kv.set c.stepAt r s.clk.ticks })) ∧
  (∀ (r : Fin 4096) (s : State) (p : Nat),
      p = rowPort s.bmap r → p < 6 → s.tgt (40 + p) Fld.CAL_TGT_STATUS_MODE ≠ 0 →
      s.firingSet (40 + p) = true → s.delayGoal p r < s.rowDelay r →
      s.mayDelay p r (s.rowDelay r - 1) = true →
      exec (.firingDelayStep r) s = .next ((s.setDelay r (s.rowDelay r - 1)).onCal fun c =>
        { c with stepAt := Kv.set c.stepAt r s.clk.ticks })) ∧
  (∀ (r : Fin 4096) (s : State) (p : Nat),
      p = rowPort s.bmap r → p < 6 → s.tgt (40 + p) Fld.CAL_TGT_STATUS_MODE ≠ 0 →
      s.firingSet (40 + p) = true →
      (s.rowDelay r < s.delayGoal p r → s.mayDelay p r (s.rowDelay r + 1) = false) →
      (s.delayGoal p r < s.rowDelay r → s.mayDelay p r (s.rowDelay r - 1) = false) →
      exec (.firingDelayStep r) s = .next s)

/-- A good HELLO counts toward 16 and gives the neighbour port, and with 16 in a row and the neighbour's
TOPO the port is UP; a bad one ends the run. HELLO goes out on a port in HELLO or later, and on no
other. From a port whose neighbour's TOPO has come, a newer TOPO of another module is stored and
forwarded on the other ports that are UP, and an old one or this module's own has no effect; the own
TOPO goes out with its version raised, once the image has given the fabric a state. An entry that
expires leaves the database, with its acknowledgements where it has an ID; the own entry does not
expire. Rests on: R371, R374, R376, R378, R386. -/
def Obligations.HelloAndTopology : Prop :=
  (∀ (p : Fin 4) (a b c : Byte) (s : State),
      Inv s → 2 ≤ s.fpState p → a.toNat ≤ 3 → b.toNat ≤ 3 → a.toNat + c.toNat = 255 →
      (s.fport p).helloRun < 15 →
      Next (.helloSet p a b c) s fun t => (t.fport p).helloRun = (s.fport p).helloRun + 1 ∧
      t.fld (Reg.FAB_PORT_NEIGH p) Fld.FAB_PORT_NEIGH_PORT = a.toNat) ∧
  (∀ (p : Fin 4) (a b c : Byte) (s : State),
      Inv s → s.fpState p = 2 → a.toNat ≤ 3 → b.toNat ≤ 3 → a.toNat + c.toNat = 255 →
      15 ≤ (s.fport p).helloRun → (s.fport p).topoSeen = true →
      Next (.helloSet p a b c) s fun t => t.fpState p = 3 ∧ t.fld (Reg.FAB_PORT_NEIGH p) Fld.FAB_PORT_NEIGH_PORT = a.toNat) ∧
  (∀ (p : Fin 4) (a b c : Byte) (s : State),
      Inv s → 2 ≤ s.fpState p → a.toNat + c.toNat ≠ 255 →
      Next (.helloSet p a b c) s fun t => (t.fport p).helloRun = 0 ∧ t.regs = s.regs) ∧
  (∀ (p : Fin 4) (s : State),
      2 ≤ s.fpState p →
      exec (.helloSend p) s = .next (s.setTime (p.val + 1) (setHello p.val (s.fpState p)))) ∧
  (∀ (p : Fin 4) (s : State),
      s.fpState p < 2 →
      exec (.helloSend p) s = .next s) ∧
  (∀ (p : Fin 5) (fr : List Byte) (s u : State) (f : FabFrame) (e : TopoEntry) (v : State),
      FabFrameIn s p fr 0x10 f → u = fabIn s p → f.pay.length = 64 → u.fabState ≠ 0 →
      e = topoParse f.pay → ((p.val < 4 → (u.fport p).topoSeen = true)) → e.serial ≠ u.serial →
      ((u.fab.db.any fun x => x.serial == e.serial && decide (e.version ≤ x.version)) = false) →
      v = u.storeTopo e →
      exec (.topoFrame p fr) s = .next (fabOut s p f ((List.range 4).foldl (fun t q =>
      if q ≠ p.val ∧ t.fpState q = 3 then t.fabNear q 0x10 f.pay else t) v))) ∧
  (∀ (p : Fin 5) (fr : List Byte) (s u : State) (f : FabFrame) (e : TopoEntry),
      FabFrameIn s p fr 0x10 f → u = fabIn s p → e = topoParse f.pay →
      ((p.val < 4 → (u.fport p).topoSeen = true)) →
      (e.serial = u.serial ∨ (u.fab.db.any fun x => x.serial == e.serial && decide (e.version ≤ x.version)) = true) →
      exec (.topoFrame p fr) s = .next (fabOut s p f u)) ∧
  (∀ (s : State),
      s.fabState = 0 →
      exec .topoRefresh s = .next s) ∧
  (∀ (s : State) (e : TopoEntry),
      s.fabState ≠ 0 → e = s.makeTopo ((s.fab.version + 1) % 2 ^ 32) →
      exec .topoRefresh s = .next ((List.range 4).foldl (fun t p => if 2 ≤ t.fpState p then t.fabNear p 0x10 e.bytes else t)
      ((s.onFab fun g => { g with version := (s.fab.version + 1) % 2 ^ 32 }).storeTopo e))) ∧
  (∀ (k : Nat) (s : State),
      k ≠ s.serial → ((s.fab.db.any fun e => e.serial == k) = true) → s.idOf k = none →
      exec (.topoEntryExpire k) s = .next (s.onFab fun g => { g with db := g.db.filter fun e => e.serial != k }).dbChanged) ∧
  (∀ (k : Nat) (s : State),
      k = s.serial →
      exec (.topoEntryExpire k) s = .next s) ∧
  (∀ (k n : Nat) (s : State),
      k ≠ s.serial → ((s.fab.db.any fun e => e.serial == k) = true) → s.idOf k = some n → s.isRoot = false →
      exec (.topoEntryExpire k) s = .next (((s.onFab fun g => { g with
        db := g.db.filter (fun e => e.serial != k), acks := g.acks.filter fun a => a.1 != n }).replayTrim).dbChanged))

/-- The settle timeout elects a root from a topology that settles or has settled; a module with no port
UP becomes its own root. A part of an ASSIGN not seen before is kept, and the table comes into force
once it is whole; one seen before, or before the image, has no effect. The frame held longest without a
route goes out when it has one, and else is answered NO_ROUTE, a request of this module failing. Rests
on: R378, R379, R380, R381, R384. -/
def Obligations.RootsAndNodeIds : Prop :=
  (∀ (s : State),
      s.fabState = 1 →
      exec .settleTimeout s = .next (s.setFld Reg.FAB_STATUS Fld.FAB_STATUS_STATE 2).elect) ∧
  (∀ (s : State),
      (s.fabState = 0 ∨ s.fabState = 2) →
      exec .settleTimeout s = .next s) ∧
  (∀ (s : State),
      3 ≤ s.fabState →
      exec .settleTimeout s = .next s.elect) ∧
  (∀ (s : State),
      Inv s → s.fabState = 1 → (∀ p < 4, s.fpState p ≠ 3) →
      Next .loneRootTimeout s fun t => t.rootSerial = s.serial ∧ Fld.FAB_STATUS_ROOT.get (t.reg Reg.FAB_STATUS) = 1 ∧
        t = ((s.onFab fun g => { g with db := topoPut (s.makeTopo s.fab.version) g.db }).setFld Reg.FAB_STATUS
          Fld.FAB_STATUS_STATE 2).electFrom [s.makeTopo s.fab.version]) ∧
  (∀ (s : State),
      (s.fabState ≠ 1 ∨ ∃ p < 4, s.fpState p = 3) →
      exec .loneRootTimeout s = .next s) ∧
  (∀ (p : Fin 5) (fr : List Byte) (s u : State) (f : FabFrame) (a : AssignPart),
      FabFrameIn s p fr 0x11 f → u = fabIn s p → u.fabState ≠ 0 → a = assignParse f.pay → a ∉ u.fab.parts →
      (((u.fab.parts ++ [a]).filter fun x => x.root == a.root && x.epoch == a.epoch).flatMap (·.ids)).length < a.total →
      Next (.assignFrame p fr) s fun t => t.fab.parts = u.fab.parts ++ [a] ∧ t.fab.ids = u.fab.ids) ∧
  (∀ (p : Fin 5) (fr : List Byte) (s u v : State) (f : FabFrame) (a : AssignPart) (l : List (Nat × Option Nat)),
      FabFrameIn s p fr 0x11 f → u = fabIn s p → u.fabState ≠ 0 → a = assignParse f.pay → a ∉ u.fab.parts →
      l = ((u.fab.parts ++ [a]).filter fun x => x.root == a.root && x.epoch == a.epoch).flatMap (·.ids) →
      a.total ≤ l.length →
      v = (List.range 4).foldl (fun t q => if q ≠ p.val ∧ t.fpState q = 3 then t.fabNear q 0x11 f.pay else t)
        (u.onFab fun g => { g with parts := g.parts ++ [a] }) →
      exec (.assignFrame p fr) s = .next (fabOut s p f (v.takeTable a.root a.epoch l))) ∧
  (∀ (p : Fin 5) (fr : List Byte) (s u : State) (f : FabFrame),
      FabFrameIn s p fr 0x11 f → u = fabIn s p → (u.fabState = 0 ∨ assignParse f.pay ∈ u.fab.parts) →
      exec (.assignFrame p fr) s = .next (fabOut s p f u)) ∧
  (∀ (s : State) (f : FabFrame) (l : List FabFrame) (u : State),
      s.fab.held = f :: l → u = (s.onFab fun g => { g with held := l }) →
      (u.routePort f.dst (Bits.bit f.flags 1)).isSome = true →
      exec .routeHoldTimeout s = .next (u.sendHeld f)) ∧
  (∀ (s : State) (f : FabFrame) (l : List FabFrame) (u : State),
      s.fab.held = f :: l → u = (s.onFab fun g => { g with held := l }) →
      u.routePort f.dst (Bits.bit f.flags 1) = none →
      exec .routeHoldTimeout s = .next ((if u.noFlow f then u.askFails f else u).fabNak f 2))

/-- On an UP port a mark from the parent is stamped and answered, and one from a child is stamped; one
on any other port has no effect. Each period marks every child and stamps its mark. TSYNC of the parent
gives hops and time quality, another has no effect. A multicast acknowledgement of the ingest group is
kept, a multicast NAK is answered with what the ring keeps from the frame it names on, and either for
another group has no effect; what is unacknowledged is acknowledged. A NAK counts and is flagged, and
after RETRY_LATER the frame it names waits, and is sent again later; FROZEN is flagged. Rests on: R377,
R385, R386, R391, R392, R396. -/
def Obligations.FabricTimeAndMulticast : Prop :=
  (∀ (p : Fin 4) (m : Byte) (a b : Fin 64) (k : Fin 10001) (s : State),
      s.fpState p = 3 → s.upPort = some p.val →
      exec (.ftmarkReceive p m a k b) s = .next ((s.onMark p m.toNat fun x => { x with
      t2 := s.tapStamp a, t3 := some (s.tapStamp b + ns16 k.val) }).setTime (p.val + 1) (setMark m.toNat))) ∧
  (∀ (p : Fin 4) (m : Byte) (a b : Fin 64) (k : Fin 10001) (s : State),
      s.fpState p = 3 → s.upPort ≠ some p.val → s.isChild p = true → p.val < s.fab.ports.length →
      Next (.ftmarkReceive p m a k b) s fun t => (t.fport p).t4 = some (m.toNat, s.tapStamp a) ∧ t.sent = s.sent) ∧
  (∀ (p : Fin 4) (m : Byte) (a b : Fin 64) (k : Fin 10001) (s : State),
      (s.fpState p ≠ 3 ∨ s.upPort ≠ some p.val ∧ s.isChild p = false) →
      exec (.ftmarkReceive p m a k b) s = .next s) ∧
  (∀ (l : List (Fin 64)) (s : State) (p : Fin 4),
      Inv s → s.isChild p = true →
      Next (.ftmarkPeriod l) s fun t => (t.fport p).mark = ((s.fport p).mark + 1) % 256 ∧ (t.fport p).t1 = s.tapStamp ((l.map Fin.val).getD p 0)) ∧
  (∀ (l : List (Fin 64)) (s : State),
      (∀ q < 4, s.isChild q = false) →
      exec (.ftmarkPeriod l) s = .next s) ∧
  (∀ (p : Fin 5) (fr : List Byte) (s u : State) (f : FabFrame),
      FabFrameIn s p fr 0x01 f → u = fabIn s p → u.upPort = some p.val → f.pay.length = 32 →
      Next (.tsyncFrame p fr) s fun t => t.fab.hops = Bits.rd f.pay 1 1 + 1 ∧ t.clk.fabTq = Bits.rd f.pay 2 1) ∧
  (∀ (p : Fin 5) (fr : List Byte) (s u : State) (f : FabFrame),
      FabFrameIn s p fr 0x01 f → u = fabIn s p → (u.upPort ≠ some p.val ∨ f.pay.length ≠ 32) →
      exec (.tsyncFrame p fr) s = .next (fabOut s p f u)) ∧
  (∀ (p : Fin 5) (fr : List Byte) (s u : State) (f : FabFrame),
      FabFrameIn s p fr 0x17 f → u = fabIn s p → Bits.rd f.pay 0 1 = u.ingGroup →
      Next (.mcAckFrame p fr) s fun t => t.fab.acks = Kv.set u.fab.acks f.src (Bits.rd f.pay 4 4) ∧ t.mem = s.mem) ∧
  (∀ (p : Fin 5) (fr : List Byte) (s u : State) (f : FabFrame),
      FabFrameIn s p fr 0x18 f → u = fabIn s p → Bits.rd f.pay 0 1 = u.ingGroup →
      exec (.mcNakFrame p fr) s = .next (fabOut s p f ((u.fab.replay.filter fun x => seqGe x.1 (Bits.rd f.pay 4 4)).foldl (fun t x =>
      (t.replayFrame f.src x).2.routeFrame (t.replayFrame f.src x).1) u))) ∧
  (∀ (p : Fin 5) (fr : List Byte) (s u : State) (f : FabFrame) (ty : Nat),
      ty = 0x17 ∨ ty = 0x18 → FabFrameIn s p fr ty f → u = fabIn s p → Bits.rd f.pay 0 1 ≠ u.ingGroup →
      (if ty = 0x17 then exec (.mcAckFrame p fr) s else exec (.mcNakFrame p fr) s) = .next (fabOut s p f u)) ∧
  (∀ (s : State) (r : McRx),
      s.fab.rx = [r] → 0 < r.unacked →
      exec .mcAckTimer s = .next ((s.onFab fun g => { g with rx := [{ r with unacked := 0 }] }).fabTo 0x17 r.src 0
      (toLE 1 r.group ++ [0, 0, 0] ++ toLE 4 ((r.next + 2 ^ 32 - 1) % 2 ^ 32)))) ∧
  (∀ (s : State),
      (s.fab.rx.all fun r => r.unacked == 0) = true →
      exec .mcAckTimer s = .next s) ∧
  (∀ (p : Fin 5) (fr : List Byte) (s u : State) (f : FabFrame) (v w : State) (x : FabFrame),
      FabFrameIn s p fr 0x19 f → u = fabIn s p →
      v = (u.count Reg.FAB_NAKS 1).event Reg.FAB_EVENT Fld.FAB_EVENT_NAK → Bits.rd f.pay 0 1 = 1 →
      v.nakedFrame f.src f.pay = (some x, w) →
      Next (.nakFrame p fr) s fun t => t.fab.later = s.fab.later ++ [x] ∧ t.regs = w.regs) ∧
  (∀ (p : Fin 5) (fr : List Byte) (s u : State) (f : FabFrame),
      FabFrameIn s p fr 0x19 f → u = fabIn s p → Bits.rd f.pay 0 1 ≠ 1 →
      exec (.nakFrame p fr) s = .next (fabOut s p f ((u.count Reg.FAB_NAKS 1).event Reg.FAB_EVENT Fld.FAB_EVENT_NAK))) ∧
  (∀ (s : State) (f : FabFrame) (l : List FabFrame),
      s.fab.later = f :: l →
      exec .retryLaterResend s = .next ((s.onFab fun g => { g with later := l }).routeFrame f)) ∧
  (∀ (p : Fin 5) (fr : List Byte) (s u : State) (f : FabFrame),
      FabFrameIn s p fr 0x1A f → u = fabIn s p →
      exec (.frozenFrame p fr) s = .next (fabOut s p f (u.event Reg.FAB_EVENT Fld.FAB_EVENT_FROZEN_BY)))

/-- A CREDIT set for a class of a fabric port in HELLO or later, or for class 0x20 of a ready ingest
port, takes the latest total, and what waits for it goes out. A LACK of the oldest frame kept on a link
drops it, and with NAK all that is left goes out again. Without acknowledgement all frames kept are sent
again, eight times at most on a fabric port that is open, which then goes DOWN, and so does one that
hears nothing and is awake; a silent ingest port retrains. A keepalive sends LACK and every CREDIT. A
frame with a bad CRC is answered with NAK, counted on a head port, and discarded on a port that sends
NOT_READY. A request that times out is sent once more and then given up, and those that wait for its
flow ask again. Rests on: R291, R371, R372, R373, R384, R407, R522. -/
def Obligations.LinksAcknowledge : Prop :=
  (∀ (c : Byte) (w : BitVec 16) (s : State),
      c.toNat = 0x20 → s.ingReady = true →
      exec (.creditSet 4 c w) s = .next ((s.onIng fun g => { g with upTotal := w.toNat }).recPump s.ing.upWait.length)) ∧
  (∀ (p : Fin 4) (c : Byte) (w : BitVec 16) (s : State),
      2 ≤ s.fpState p → c.toNat < 5 →
      exec (.creditSet p.castSucc c w) s = .next ((s.onFport p fun x => { x with
      returned := Kv.set x.returned c.toNat w.toNat }).pumpAll p).entryGrants) ∧
  (∀ (p : Fin 4) (w : BitVec 16) (f : FabFrame) (l : List (Nat × FabFrame)) (k : Bool) (s u : State),
      2 ≤ s.fpState p → (s.fport p).retry = (w.toNat, f) :: l →
      u = (s.onFport p fun x => { x with retry := l, resends := 0 }) →
      exec (.lackSet p.castSucc w k) s = .next (((if k then u.fabResend p else u).pumpAll p).pwrCheck (p.val + 1))) ∧
  (∀ (w : BitVec 16) (b : List Byte) (l : List (Nat × List Byte)) (k : Bool) (s u : State),
      s.ing.retry = (w.toNat, b) :: l → u = (s.onIng fun g => { g with retry := l, resends := 0 }) →
      exec (.lackSet 4 w k) s = .next (((if k then u.ingResend else u).ingPump
        (if k then u.ingResend else u).ing.upQueue.length).pwrCheck 0)) ∧
  (∀ (p : Fin 4) (s : State) (x : FabPort),
      x = s.fport p → 2 ≤ s.fpState p → s.fabOpen p = true → x.retry ≠ [] → x.resends < 8 →
      exec (.linkResendTimeout p.castSucc) s = .next (((x.retry.foldl (fun t f => t.sendOn (p.val + 1) (f.2.bytes f.1)) s).count
      (Reg.FAB_PORT_RESENDS p) x.retry.length).onFport p fun x => { x with resends := x.resends + 1 })) ∧
  (∀ (p : Fin 4) (s : State),
      2 ≤ s.fpState p → s.fabOpen p = true → (s.fport p).retry ≠ [] → 8 ≤ (s.fport p).resends →
      exec (.linkResendTimeout p.castSucc) s = .next (s.fabDown p)) ∧
  (∀ (p : Fin 4) (s : State),
      2 ≤ s.fpState p → s.asleep (8 + 2 * p.val) 2 = false →
      exec (.linkSilenceTimeout p.castSucc) s = .next (s.fabDown p)) ∧
  (∀ (p : Fin 4) (s : State),
      s.fpState p < 2 →
      exec (.linkSilenceTimeout p.castSucc) s = .next s ∧ exec (.linkResendTimeout p.castSucc) s = .next s ∧
      exec (.linkKeepalive p.castSucc) s = .next s) ∧
  (∀ (p : Fin 4) (s : State),
      2 ≤ s.fpState p →
      exec (.linkKeepalive p.castSucc) s = .next ((List.range 5).foldl (fun t c => t.sendCredit p c) (s.sendLack p false))) ∧
  (∀ (s : State),
      s.ingReady = true → s.asleep 0 8 = false →
      exec (.linkSilenceTimeout 4) s = .next s.retrainIng) ∧
  (∀ (s : State),
      s.ing.retry ≠ [] → s.ing.narrow = false → s.portMask 0 ≠ 0 → s.ing.resends < 8 →
      exec (.linkResendTimeout 4) s = .next
      ((s.ing.retry.foldl (fun t f => t.sendOn 0 f.2) s).onIng fun g => { g with resends := g.resends + 1 })) ∧
  (∀ (s u : State),
      s.ingReady = true → u = (s.ingLack false).grantControl.grantAll →
      exec (.linkKeepalive 4) s = .next ((0 :: (List.range 8).map (16 + ·)).foldl (fun t k => t.ingCredit k) u)) ∧
  (∀ (s : State),
      s.ingReady = true →
      exec (.frameCrcError 0) s = .next (s.setTime 0 (setLack ((s.ing.rxNext + 65535) % 65536) true))) ∧
  (∀ (s : State),
      s.ingReady = false →
      exec (.frameCrcError 0) s = .next (s.nrDiscard 0 8) ∧ exec (.linkKeepalive 4) s = .next s ∧
      exec (.linkSilenceTimeout 4) s = .next s) ∧
  (∀ (q : Fin 11) (p : Nat) (s : State),
      q.val = p + 1 → p < 4 → s.locked = false →
      exec (.frameCrcError q) s = .next (s.nrDiscard (8 + 2 * p) 2)) ∧
  (∀ (q : Fin 11) (p : Nat) (s : State),
      q.val = p + 5 → s.portState p ≠ 0 →
      exec (.frameCrcError q) s = .next ((s.count (Reg.HP_FRAME_ERR p) 1).event Reg.HP_EVENT Fld.HP_EVENT_FRAME_ERR)) ∧
  (∀ (q : Fin 11) (p : Nat) (s : State),
      q.val = p + 1 → p < 4 → s.locked = true → 2 ≤ s.fpState p →
      exec (.frameCrcError q) s = .next ((s.count (Reg.FAB_PORT_CRC_ERR p) 1).sendLack p true)) ∧
  (∀ (p : Fin 4) (k : Fin 64) (s : State) (w : Flow),
      ((s.fport p).flows.find? (fun w => w.id == k.val) = some w) → w.resent = false →
      exec (.flowTimeout p k) s = .next ((s.onFport p fun x => { x with
      flows := x.flows.map fun w => if w.id == k.val then { w with resent := true } else w }).routeFrame w.frame)) ∧
  (∀ (p : Fin 4) (k : Fin 64) (s : State) (w : Flow),
      ((s.fport p).flows.find? (fun w => w.id == k.val) = some w) → w.resent = true →
      exec (.flowTimeout p k) s = .next ((((s.onFport p fun x => { x with flows := x.flows.filter fun w => w.id != k.val }).onIng fun g =>
      { g with remote := g.remote.filter fun r => r.1 != w.frame.arg }).count Reg.FAB_REQ_FAIL 1).raise .contained
      Reg.FAB_EVENT Fld.FAB_EVENT_REQ_FAIL 0 (unitFab p)).askAgain)

/-- An ingest frame that is good and in order on a ready port is counted and acknowledged; one that is
not is answered with LACK and NAK. DATA of the descriptor in work moves its channel's offset on, goes to
DRAM for a MEMORY descriptor, and is passed on; other DATA is discarded, counted and logged, and its
credits return while the ring has room. A DESC_WR in the descriptor area is written and passed on,
another is logged. A doorbell and a channel command act on their channel and are passed on; STATUS_REQ
is answered, but not by a mere member. An ING frame of the fabric that was seen before is ignored, one
that leaves a gap is NAKed, and the first of a source is taken where the module can take it. Passing on
is the entry's, with FAB_CFG.ING_FWD. Rests on: R386, R407, R524, R525, R526, R527, R528, R529, R535,
R538. -/
def Obligations.IngestFramesTaken : Prop :=
  (∀ (s u v : State) (fr : List Byte) (c n : Nat) (d : Desc),
      IngFrameIn s fr 1 → u = ingIn s fr (16 + c) → c = Bits.rd fr 1 1 → n = Bits.rd fr 2 2 →
      u.dataOk fr = true → (u.chan c).desc = some d → Bits.bit d.flags 0 = true →
      v = (u.setPair (Reg.ING_CH_SOFS_LO c) (Bits.rd fr 8 8 + n)) →
      exec (.dataFrame fr) s = .next ((v.onChan c fun x => { x with
      taken := x.taken + n, snoop := [], snoopers := [] }).ingForward fr).grantAll) ∧
  (∀ (s u v : State) (fr bs : List Byte) (c n : Nat) (d : Desc) (us : List (Nat × Word)),
      IngFrameIn s fr 1 → u = ingIn s fr (16 + c) → c = Bits.rd fr 1 1 → n = Bits.rd fr 2 2 →
      bs = (fr.drop 16).take n → u.dataOk fr = true → (u.chan c).desc = some d → Bits.bit d.flags 0 = false →
      us = (if (u.chan c).taken = 0 then u.snoopersOf pointIngest c else (u.chan c).snoopers) →
      v = ((u.dramWrite 0 (d.dst + (Bits.rd fr 8 8 - d.src)) bs).setPair (Reg.ING_CH_SOFS_LO c) (Bits.rd fr 8 8 + n)) →
      exec (.dataFrame fr) s = .next ((v.onChan c fun x => { x with
      taken := x.taken + n, snoop := if us.isEmpty then [] else x.snoop ++ bs, snoopers := us }).ingForward fr).grantAll) ∧
  (∀ (s u : State) (fr : List Byte) (c : Nat),
      IngFrameIn s fr 1 → c = Bits.rd fr 1 1 → u = ingIn s fr (16 + c) → u.dataOk fr = false →
      u.replayRoom = false →
      exec (.dataFrame fr) s = .next ((u.count Reg.ING_DISCARDS 1).raiseInfo .contained Reg.ING_EVENT
      Fld.ING_EVENT_DISCARD 0 (unitIng c) (u.pair (Reg.ING_CH_FAIL_LO c))).grantAll) ∧
  (∀ (s u : State) (fr : List Byte) (c k : Nat),
      IngFrameIn s fr 1 → c = Bits.rd fr 1 1 → u = ingIn s fr (16 + c) → u.dataOk fr = false →
      u.replayRoom = true → k = divUp (20 + Bits.rd fr 2 2) 64 →
      exec (.dataFrame fr) s = .next ((((u.count Reg.ING_DISCARDS 1).raiseInfo .contained Reg.ING_EVENT
      Fld.ING_EVENT_DISCARD 0 (unitIng c) (u.pair (Reg.ING_CH_FAIL_LO c))).onIng fun g => { g with
      granted := Kv.set g.granted (16 + c) (Kv.getD g.granted (16 + c) 0 + k) }).ingCredit (16 + c)).grantAll) ∧
  (∀ (s u : State) (fr : List Byte),
      IngFrameIn s fr 2 → u = ingIn s fr 0 → u.inDesc (Bits.rd fr 8 8) (Bits.rd fr 2 2) = false →
      exec (.descWrFrame fr) s = .next (u.raiseInfo .contained Reg.ING_EVENT Fld.ING_EVENT_DESC_RANGE 0 (unitIng 0)
      (Bits.rd fr 8 8)).grantControl) ∧
  (∀ (s : State) (fr : List Byte),
      s.ingReady = true → (ingGood fr = false ∨ Bits.rd fr 4 2 ≠ s.ing.rxNext) →
      (Bits.rd fr 0 1 = 1 → exec (.dataFrame fr) s = .next (s.ingLack true)) ∧
      (Bits.rd fr 0 1 = 2 → exec (.descWrFrame fr) s = .next (s.ingLack true)) ∧
      (Bits.rd fr 0 1 = 3 → exec (.doorbell (.frame fr)) s = .next (s.ingLack true)) ∧
      (Bits.rd fr 0 1 = 5 → exec (.statusReq fr) s = .next (s.ingLack true))) ∧
  (∀ (s u : State) (fr : List Byte),
      IngFrameIn s fr 2 → u = ingIn s fr 0 → u.inDesc (Bits.rd fr 8 8) (Bits.rd fr 2 2) = true →
      exec (.descWrFrame fr) s = .next (((u.dramWrite 0 (Bits.rd fr 8 8) ((fr.drop 16).take (Bits.rd fr 2 2))).ingForward fr).grantControl)) ∧
  (∀ (s u : State) (fr : List Byte),
      IngFrameIn s fr 3 → u = ingIn s fr 0 →
      exec (.doorbell (.frame fr)) s = .next (((u.chDoorbell (Bits.rd fr 1 1)).ingForward fr).grantControl)) ∧
  (∀ (s u : State) (fr : List Byte),
      IngFrameIn s fr 4 → u = ingIn s fr 0 →
      (Bits.rd fr 16 1 = 1 → exec (.chStart (.frame fr)) s = .next ((u.takeChCmd fr).ingForward fr).grantControl) ∧
      (Bits.rd fr 16 1 = 2 → exec (.chRestart (.frame fr)) s = .next ((u.takeChCmd fr).ingForward fr).grantControl) ∧
      (Bits.rd fr 16 1 = 3 → exec (.chAbort (.frame fr)) s = .next ((u.takeChCmd fr).ingForward fr).grantControl)) ∧
  (∀ (s u : State) (fr : List Byte),
      IngFrameIn s fr 5 → u = ingIn s fr 0 → u.ingMember = true →
      exec (.statusReq fr) s = .next u.grantControl) ∧
  (∀ (s u : State) (fr : List Byte),
      IngFrameIn s fr 5 → u = ingIn s fr 0 → u.ingMember = false →
      exec (.statusReq fr) s = .next (u.ingSend 0x82 0xFF 0 (toLE 1 (u.fld Reg.EXP_ZLS_STATUS Fld.EXP_ZLS_STATUS_STATE) ++
      toLE 1 (u.fld Reg.EXP_ZLS_STATUS Fld.EXP_ZLS_STATUS_CAUSE) ++ [0, 0] ++ toLE 4 (u.regN Reg.EXP_ZLS_RESUME_SEQ) ++
      (List.range 8).flatMap u.chEntry)).grantControl) ∧
  (∀ (p : Fin 5) (fr : List Byte) (s u : State) (f : FabFrame) (r : McRx),
      FabFrameIn s p fr 0x20 f → u = fabIn s p →
      (u.fab.rx.find? (fun r => r.src == f.src) = some r) → f.arg ≠ r.next →
      seqGe f.arg r.next = false →
      exec (.ingFrame p fr) s = .next (fabOut s p f u)) ∧
  (∀ (p : Fin 5) (fr : List Byte) (s u : State) (f : FabFrame) (r : McRx),
      FabFrameIn s p fr 0x20 f → u = fabIn s p →
      (u.fab.rx.find? (fun r => r.src == f.src) = some r) → f.arg ≠ r.next →
      seqGe f.arg r.next = true → r.nakAt = none →
      exec (.ingFrame p fr) s = .next (fabOut s p f (((u.event Reg.FAB_EVENT Fld.FAB_EVENT_MC_GAP).onFab fun b => { b with
      rx := (b.rx.filter fun x => x.src != r.src) ++ [{ r with nakAt := some u.clk.ticks }] }).fabTo 0x18 f.src 0 (toLE 1 r.group ++ [0, 0, 0] ++ toLE 4 r.next)))) ∧
  (∀ (p : Fin 5) (fr : List Byte) (s u : State) (f : FabFrame) (v : State),
      FabFrameIn s p fr 0x20 f → u = fabIn s p → u.fab.rx = [] → f.arg = 0 →
      u.ingUninit f.pay = false → u.ing.layoutHeld = [] → u.mustHold f.pay = false →
      (v = u.onFab fun b => { b with rx := [⟨f.src, 0, 1, 1, none⟩] }) →
      exec (.ingFrame p fr) s = .next (fabOut s p f (v.takeIngest (some f.src) f.pay)))

/-- A doorbell of a pending or running channel stays pending. START of an idle channel with an aligned
address in the descriptor area makes it pending, one with an address that is not aligned halts it with
cause 4, and a busy one is refused; RESTART of a halted channel and ABORT of a channel in work act and
otherwise, FROZEN apart, are refused. The first pending channel runs when none does. A running one
fetches its descriptor from initialised DRAM that reads well: one that passes the checks is its work,
one that fails is its cause to halt. Once all its bytes came, with no check unit on it and no event
asked for, it goes on to the next descriptor or parks. A bus error halts the channel. Regions are
initialised in order, and what waits for them is served; after the last the image copy is written and
the port opens. Rests on: R509, R518, R529, R530, R531, R532, R533, R534, R535, R582. -/
def Obligations.ChannelsServe : Prop :=
  (∀ (p : Path) (c : Fin 8) (s : State),
      (s.chSt c = 1 ∨ s.chSt c = 2) →
      exec (.doorbell (.reg p c)) s = .next (s.setFld (Reg.ING_CH_STATUS c) Fld.ING_CH_STATUS_DB_PEND 1).chSettle) ∧
  (∀ (p : Path) (c : Fin 8) (s : State) (a : Nat),
      s.chSt c = 0 → a = s.pair (Reg.ING_CH_HEAD_LO c) → a % 32 = 0 → s.inDesc a 32 = true →
      exec (.chStart (.reg p c)) s = .next (((s.setCh c 1).setPair (Reg.ING_CH_CUR_LO c) a).onIng fun g => { g with
      order := joinOrder c s.clk.ticks (g.order.filter fun e => e.1 != c.val) }).chSettle) ∧
  (∀ (p : Path) (c : Fin 8) (s : State) (a : Nat),
      s.chSt c = 0 → a = s.pair (Reg.ING_CH_HEAD_LO c) → a % 32 ≠ 0 →
      exec (.chStart (.reg p c)) s = .next ((s.setPair (Reg.ING_CH_CUR_LO c) a).chHalt c 4 a false).chSettle) ∧
  (∀ (p : Path) (c : Fin 8) (s : State),
      s.chSt c ≠ 0 →
      exec (.chStart (.reg p c)) s = .next (s.accFlag p (Reg.ING_CH_CTRL c) .refused).chSettle) ∧
  (∀ (p : Path) (c : Fin 8) (s : State),
      s.chSt c = 4 →
      exec (.chRestart (.reg p c)) s = .next (s.chPend c (s.pair (Reg.ING_CH_CUR_LO c))).chSettle) ∧
  (∀ (p : Path) (c : Fin 8) (s : State),
      s.chSt c ≠ 4 →
      exec (.chRestart (.reg p c)) s = .next (s.accFlag p (Reg.ING_CH_CTRL c) .refused).chSettle) ∧
  (∀ (p : Path) (c : Fin 8) (s : State),
      (s.chSt c = 1 ∨ s.chSt c = 2 ∨ s.chSt c = 3 ∨ s.chSt c = 4) →
      exec (.chAbort (.reg p c)) s = .next (((((s.setCh c 0).setFld (Reg.ING_CH_STATUS c) Fld.ING_CH_STATUS_INIT_WAIT 0).onIng fun g =>
      { g with order := g.order.filter fun e => e.1 != c.val }).onChan c fun x => { x with
      desc := none, fetch := false, taken := 0, snoop := [], snoopers := [] }).showRun).chSettle) ∧
  (∀ (p : Path) (c : Fin 8) (s : State),
      s.chSt c = 0 →
      exec (.chAbort (.reg p c)) s = .next (s.accFlag p (Reg.ING_CH_CTRL c) .refused).chSettle) ∧
  (∀ (s : State) (c n : Nat) (l : List (Nat × Nat)),
      s.runCh = none → s.ing.order = (c, n) :: l →
      exec .channelRun s = .next ((((s.onIng fun g => { g with order := l }).setCh c 2).onChan c fun x => { x with
      fetch := true, desc := none, taken := 0, snoop := [], snoopers := [] }).showRun).chSettle) ∧
  (∀ (k : Nat) (e : Ecc) (x s u : State) (c a : Nat) (bs : List Byte) (d : Desc),
      s = x.sramRead sramDescriptors k e →
      s.runCh = some c → (s.chan c).fetch = true → a = s.pair (Reg.ING_CH_CUR_LO c) →
      s.inited (a + 31) = true → a + 32 ≤ dramEnd → s.fetch 0 a 32 = (false, bs, u) → d = descOf bs →
      (u.setFld (Reg.ING_CH_STATUS c) Fld.ING_CH_STATUS_TAG d.tag).descFault c d = 0 →
      Bits.bit d.flags 0 = true →
      exec (.descFetch k e) x = .next ((((((u.setFld (Reg.ING_CH_STATUS c) Fld.ING_CH_STATUS_TAG d.tag).onChan c fun x => { x with
      desc := some d, fetch := false, taken := 0, snoop := [], snoopers := [] }).setPair (Reg.ING_CH_SOFS_LO c) d.src).setFld
      (Reg.ING_CH_STATUS c) Fld.ING_CH_STATUS_CAUSE 0).grantData c).chSettle)) ∧
  (∀ (k : Nat) (e : Ecc) (x s u v : State) (c a : Nat) (bs : List Byte) (d : Desc) (cause : Nat),
      s = x.sramRead sramDescriptors k e →
      s.runCh = some c → (s.chan c).fetch = true → a = s.pair (Reg.ING_CH_CUR_LO c) →
      s.inited (a + 31) = true → a + 32 ≤ dramEnd → s.fetch 0 a 32 = (false, bs, v) → d = descOf bs →
      u = v.setFld (Reg.ING_CH_STATUS c) Fld.ING_CH_STATUS_TAG d.tag →
      u.descFault c d = cause → cause ≠ 0 → cause ≠ 5 →
      exec (.descFetch k e) x = .next (u.chHalt c cause a false).chSettle) ∧
  (∀ (s : State),
      s.runCh = none →
      (∀ k, exec (.descFetch k .clean) s = .next s.chSettle) ∧ exec .descComplete s = .next s.chSettle ∧ ∀ w a, exec (.dmaBusError w a) s = .next s) ∧
  (∀ (s : State) (c : Nat) (d : Desc),
      s.runCh = some c → (s.chan c).desc = some d → d.len ≤ (s.chan c).taken →
      (s.chan c).snoopers = [] → Bits.bit d.flags 1 = false → d.next % 2 = 0 →
      exec .descComplete s = .next ((((s.count (Reg.ING_CH_DONE c) 1).onChan c fun x => { x with desc := none, taken := 0, snoop := [], snoopers := [] }).setPair
      (Reg.ING_CH_CUR_LO c) (d.next / 32 * 32)).onChan c fun x => { x with fetch := true }).chSettle) ∧
  (∀ (s : State) (c : Nat) (d : Desc),
      s.runCh = some c → (s.chan c).desc = some d → d.len ≤ (s.chan c).taken →
      (s.chan c).snoopers = [] → Bits.bit d.flags 1 = false → d.next % 2 = 1 →
      s.flag Reg.ING_CFG Fld.ING_CFG_PARK_EVT = false →
      s.flag (Reg.ING_CH_STATUS c) Fld.ING_CH_STATUS_DB_PEND = false →
      exec .descComplete s = .next (((((s.count (Reg.ING_CH_DONE c) 1).onChan c fun x => { x with desc := none, taken := 0, snoop := [], snoopers := [] }).setCh
      c 3).event Reg.ING_EVENT Fld.ING_EVENT_PARK).showRun).chSettle) ∧
  (∀ (a : Nat) (s : State) (c : Nat),
      s.runCh = some c →
      exec (.dmaBusError true a) s = .next (s.chHalt c 6 a true).chSettle ∧
      exec (.dmaBusError false a) s = .next (s.chHalt c 6 (s.pair (Reg.ING_CH_CUR_LO c)) false).chSettle) ∧
  (∀ (k : Nat) (s : State),
      s.flag Reg.DC_STATUS Fld.DC_STATUS_ALL_TRAINED = true → s.locked = true →
      s.initRegions = 56 → s.flag Reg.MI_STATUS Fld.MI_STATUS_SPARE_INIT = false →
      exec (.initRegionDone k) s = .next ((s.setFld Reg.MI_STATUS Fld.MI_STATUS_SPARE_INIT 1).milestone 8 k)) ∧
  (∀ (k : Nat) (s u : State),
      s.flag Reg.DC_STATUS Fld.DC_STATUS_ALL_TRAINED = true → s.locked = true → s.initRegions = 55 →
      u = s.setPair Reg.MI_INIT_MAP_LO (s.pair Reg.MI_INIT_MAP_LO ||| 2 ^ 55) →
      exec (.initRegionDone k) s = .next (u.setFld Reg.MI_STATUS Fld.MI_STATUS_INIT_REGIONS 56).serveAll.initWaitEnd.mirrorDue.putCopy.ingOpen.chSettle) ∧
  (∀ (k r : Nat) (s u : State),
      s.flag Reg.DC_STATUS Fld.DC_STATUS_ALL_TRAINED = true → s.locked = true →
      r = s.initRegions → r < 55 →
      u = s.setPair Reg.MI_INIT_MAP_LO (s.pair Reg.MI_INIT_MAP_LO ||| 2 ^ r) →
      exec (.initRegionDone k) s = .next (u.setFld Reg.MI_STATUS Fld.MI_STATUS_INIT_REGIONS (r + 1)).serveAll.initWaitEnd.mirrorDue.chSettle)

/-- A granted WRITE of whole words to initialised DRAM stores its bytes; to DRAM not initialised it is
told RETRY_LATER, by WACK or NAK as it asks. A granted READ of them that finds no uncorrectable word is
answered with them, and with RETRY_LATER before they are initialised; a request without grant is a
violation of its node. A WACK closes its flow and those that wait ask again; a READ_RSP of RETRY_LATER
keeps its request for later, and one of no open flow is discarded. Rests on: R383, R384, R385, R395,
R396. -/
def Obligations.FabricPeersServed : Prop :=
  (∀ (p : Fin 5) (fr : List Byte) (s u : State) (f : FabFrame),
      FabFrameIn s p fr 0x30 f → u = fabIn s p → 8 ≤ (f.pay.drop 8).length →
      (f.pay.drop 8).length % 8 = 0 → Bits.rd f.pay 0 8 % 8 = 0 →
      u.granted f.src (Bits.rd f.pay 0 8) (f.pay.drop 8).length false true = true →
      u.inited (Bits.rd f.pay 0 8 + (f.pay.drop 8).length - 1) = true →
      Bits.bit f.flags 2 = false →
      exec (.writeFrame p fr) s = .next (fabOut s p f (u.dramWrite 9 (Bits.rd f.pay 0 8) (f.pay.drop 8)))) ∧
  (∀ (p : Fin 5) (fr : List Byte) (s u : State) (f : FabFrame),
      FabFrameIn s p fr 0x30 f → u = fabIn s p → 8 ≤ (f.pay.drop 8).length →
      (f.pay.drop 8).length % 8 = 0 → Bits.rd f.pay 0 8 % 8 = 0 →
      u.granted f.src (Bits.rd f.pay 0 8) (f.pay.drop 8).length false true = false →
      exec (.writeFrame p fr) s = .next (fabOut s p f (u.fabViolation f.src 3 (Bits.rd f.pay 0 8) true))) ∧
  (∀ (p : Fin 5) (fr : List Byte) (s u : State) (f : FabFrame) (a : Nat) (bs : List Byte),
      FabFrameIn s p fr 0x30 f → u = fabIn s p → a = Bits.rd f.pay 0 8 → bs = f.pay.drop 8 →
      8 ≤ bs.length → bs.length % 8 = 0 → a % 8 = 0 → u.granted f.src a bs.length false true = true →
      u.inited (a + bs.length - 1) = false →
      exec (.writeFrame p fr) s = .next (fabOut s p f
      (if Bits.bit f.flags 2 then u.fabReply f 0x33 [1, 0, 0, 0] else u.fabNak f 1))) ∧
  (∀ (p : Fin 5) (fr : List Byte) (s u : State) (f : FabFrame) (a n : Nat),
      FabFrameIn s p fr 0x31 f → u = fabIn s p → f.pay.length = 16 → a = Bits.rd f.pay 0 8 →
      n = Bits.rd f.pay 8 4 → 0 < n → n % 8 = 0 → n ≤ 2040 → a % 8 = 0 →
      (u.granted f.src a n false false = false →
        exec (.readFrame p fr) s = .next (fabOut s p f (u.fabViolation f.src 3 a false))) ∧
      (u.granted f.src a n false false = true → u.inited (a + n - 1) = false →
        exec (.readFrame p fr) s = .next (fabOut s p f (u.fabReply f 0x32 [1, 0, 0, 0, 0, 0, 0, 0])))) ∧
  (∀ (p : Fin 5) (fr : List Byte) (s u : State) (f : FabFrame) (a n : Nat) (bs : List Byte) (v : State),
      FabFrameIn s p fr 0x31 f → u = fabIn s p → f.pay.length = 16 → a = Bits.rd f.pay 0 8 →
      n = Bits.rd f.pay 8 4 → 0 < n → n % 8 = 0 → n ≤ 2040 → a % 8 = 0 →
      u.granted f.src a n false false = true → u.inited (a + n - 1) = true →
      u.fetch 9 a n = (false, bs, v) →
      exec (.readFrame p fr) s = .next (fabOut s p f (v.fabReply f 0x32 (toLE 8 0 ++ bs)))) ∧
  (∀ (p : Fin 5) (fr : List Byte) (s u : State) (f : FabFrame),
      FabFrameIn s p fr 0x31 f → u = fabIn s p → f.pay.length ≠ 16 →
      exec (.readFrame p fr) s = .next (fabOut s p f u)) ∧
  (∀ (p : Fin 5) (fr : List Byte) (s u : State) (f : FabFrame) (w : Flow),
      FabFrameIn s p fr 0x33 f → u = fabIn s p →
      ((u.fab.ports.flatMap (·.flows)).find? (fun w => w.id == f.flow && w.frame.arg == f.arg && w.frame.dst == f.src) = some w) →
      Bits.rd f.pay 0 1 ≠ 1 →
      exec (.wackFrame p fr) s = .next (fabOut s p f (u.onFab fun g => { g with ports := g.ports.map fun x => { x with
      flows := x.flows.filter fun w => !(w.id == f.flow && w.frame.arg == f.arg && w.frame.dst == f.src) } }).askAgain)) ∧
  (∀ (p : Fin 5) (fr : List Byte) (s u : State) (f : FabFrame) (w : Flow),
      FabFrameIn s p fr 0x32 f → u = fabIn s p →
      ((u.fab.ports.flatMap (·.flows)).find? (fun w => w.id == f.flow && w.frame.arg == f.arg && w.frame.dst == f.src) = some w) →
      Bits.rd f.pay 0 1 = 1 →
      exec (.readRspFrame p fr) s = .next (fabOut s p f (u.onFab fun g => { g with later := g.later ++ [w.frame] }))) ∧
  (∀ (p : Fin 5) (fr : List Byte) (s u : State) (f : FabFrame),
      FabFrameIn s p fr 0x32 f → u = fabIn s p →
      ((u.fab.ports.flatMap (·.flows)).find? (fun w => w.id == f.flow && w.frame.arg == f.arg && w.frame.dst == f.src) = none) →
      exec (.readRspFrame p fr) s = .next (fabOut s p f u))

/-- A tunnel request is refused while tunnelling is off, else served as management and answered, and a
repeated one gets the same answer; a tunnel response closes its flow, and those that wait ask again. A
request at the management port is served when the port is ready, counted when it is not for this module,
and dropped when one is handled and eight wait; a PTP frame is none, and a response waits for a lane. The SPI target, once it serves, reads and writes words and gives its
status. Rests on: R384, R585, R669, R673, R674, R675, R676. -/
def Obligations.ManagementServed : Prop :=
  (∀ (p : Fin 5) (fr : List Byte) (s u : State) (f : FabFrame) (b : List Byte) (v : State),
      FabFrameIn s p fr 0x40 f → u = fabIn s p →
      (u.mgt.tunnel.find? (fun x => x.1 == f.src && x.2.1 == f.arg) = none) →
      u.flag Reg.MGT_CFG Fld.MGT_CFG_TUN_EN = true →
      u.mgtServe (f.src + 1) (.tunnel f.src) f.pay = (some b, v) →
      exec (.tunReqFrame p fr) s = .next (fabOut s p f (v.tunReply f b))) ∧
  (∀ (p : Fin 5) (fr : List Byte) (s u : State) (f : FabFrame),
      FabFrameIn s p fr 0x40 f → u = fabIn s p →
      (u.mgt.tunnel.find? (fun x => x.1 == f.src && x.2.1 == f.arg) = none) →
      u.flag Reg.MGT_CFG Fld.MGT_CFG_TUN_EN = false →
      exec (.tunReqFrame p fr) s = .next (fabOut s p f (u.tunReply f (u.mgtReply f.pay 5 0 [])))) ∧
  (∀ (p : Fin 5) (fr : List Byte) (s u : State) (f : FabFrame) (x : Nat × Nat × List Byte),
      FabFrameIn s p fr 0x40 f → u = fabIn s p →
      (u.mgt.tunnel.find? (fun x => x.1 == f.src && x.2.1 == f.arg) = some x) →
      exec (.tunReqFrame p fr) s = .next (fabOut s p f (u.fabReply f 0x41 x.2.2))) ∧
  (∀ (p : Fin 5) (fr : List Byte) (s u : State) (f : FabFrame),
      FabFrameIn s p fr 0x41 f → u = fabIn s p →
      ((u.fab.ports.flatMap (·.flows)).any (fun w => w.id == f.flow && w.frame.arg == f.arg && w.frame.dst == f.src) = true) →
      exec (.tunRspFrame p fr) s = .next (fabOut s p f (u.onFab fun g => { g with ports := g.ports.map fun x => { x with
      flows := x.flows.filter fun w => !(w.id == f.flow && w.frame.arg == f.arg && w.frame.dst == f.src) } }).askAgain)) ∧
  (∀ (fr : List Byte) (o : Option (List Byte)) (s u : State),
      s.mgtReady = true → s.ethTaken fr = true → ethType fr ≠ 0x88F7 → s.mgtInHand.length < 9 →
      s.mgtJoin.mgtServe 0 .mgmt (fr.drop 14) = (o, u) →
      exec (.mgtRequest fr) s = .next (match o with
        | some b => if u.mgtReady then u.emit (.mgt b) else u
        | none => u)) ∧
  (∀ (fr : List Byte) (s : State),
      s.mgtReady = true → s.ethTaken fr = true → ethType fr ≠ 0x88F7 → 9 ≤ s.mgtInHand.length →
      exec (.mgtRequest fr) s = .next ((s.count Reg.MGT_DROPS 1).event Reg.MGT_EVENT Fld.MGT_EVENT_DROP)) ∧
  (∀ (fr : List Byte) (s : State),
      s.mgtReady = true → s.ethTaken fr = false →
      exec (.mgtRequest fr) s = .next (s.count Reg.MGT_DROPS 1)) ∧
  (∀ (fr : List Byte) (s : State),
      (s.mgtReady = false ∨ s.ethTaken fr = true ∧ ethType fr = 0x88F7) →
      exec (.mgtRequest fr) s = .next s) ∧
  (∀ (a : Word) (n : Nat) (s u : State) (st : OStatus) (b : List Byte),
      s.spiServes = true → s.readWords .spi true a.toNat n = (st, b, u) →
      exec (.spiRead a n) s = .next ((u.spiDone st n).emit (.spi b))) ∧
  (∀ (a : Word) (b : List Byte) (s u : State) (st : OStatus),
      s.spiServes = true → s.writeWords .spi none b a.toNat (b.length / 4) = (st, u) →
      exec (.spiWrite a b) s = .next (u.spiDone st (b.length / 4))) ∧
  (∀ (s : State),
      s.spiServes = false →
      exec .spiStatus s = .next s ∧ ∀ (a : Word) (n : Nat) (b : List Byte),
      exec (.spiRead a n) s = .next s ∧ exec (.spiWrite a b) s = .next s) ∧
  (∀ (s : State),
      s.spiServes = true →
      exec .spiStatus s = .next (s.emit (.spi (toBE 1 s.mgt.spiStatus.code ++ toBE 2 s.mgt.spiWords))))

/-- Energy on a lane in ENERGY starts its training, and its loss in training ends it. A TS1 set of the
lane and its kind counts, up to 64, takes an acknowledgement and starts the count of TS2 sets anew; one
of another lane or kind fails the lane, and so does one seen inverted. After a passed step and an
acknowledgement TS2 sets count, and the sixteenth trains the lane, or fails it where it is skewed by
more than 16 slots. A step without 64 TS1 sets in time fails its candidate; a dwell passes its step,
which trains the management lane. Rests on: R411, R412, R413, R414, R415, R424. -/
def Obligations.LanesTrain : Prop :=
  (∀ (n : Fin 41) (s : State),
      s.laneRaw n = 1 →
      exec (.laneEnergyDetect n) s = .next (s.enterTrain n)) ∧
  (∀ (n : Fin 41) (s : State),
      s.laneRaw n ≠ 1 →
      exec (.laneEnergyDetect n) s = .next s) ∧
  (∀ (n : Fin 41) (s : State),
      s.laneRaw n = 2 →
      exec (.laneEnergyLoss n) s = .next (((s.setLane n 1).setFld (Reg.LN_LANE_STATUS n) Fld.LN_LANE_STATUS_BACKGROUND 0).trainEnds (lanePort n))) ∧
  (∀ (n : Fin 40) (ts : List Byte) (k : Nat) (s u : State) (ack : Bool),
      s.laneRaw n = 2 → ts.length = 7 →
      (ts.foldl (fun (a : Nat) (b : Byte) => a ^^^ b.toNat) 0 = 255) → Bits.rd ts 1 1 = laneIn n →
      Bits.rd ts 2 1 = laneKind n → Bits.rd ts 0 1 = 0xB1 → ack = Bits.bit (Bits.rd ts 3 1) 0 →
      u = (s.onLane n fun x => { x with ts1 := min (x.ts1 + 1) 64, gotAck := x.gotAck || ack, ts2 := 0 }) →
      exec (.tsSetReceive n ts false k) s = .next
      (if (s.lane n).passed = true ∧ ack = true ∧ (s.lane n).gotAck = false then u.sendTs n else u)) ∧
  (∀ (n : Fin 40) (ts : List Byte) (k : Nat) (s : State),
      s.laneRaw n = 2 → ts.length = 7 →
      (ts.foldl (fun (a : Nat) (b : Byte) => a ^^^ b.toNat) 0 = 255) → (Bits.rd ts 0 1 = 0xB1 ∨ Bits.rd ts 0 1 = 0xB2) →
      (Bits.rd ts 1 1 ≠ laneIn n ∨ Bits.rd ts 2 1 ≠ laneKind n) →
      exec (.tsSetReceive n ts false k) s = .next (s.laneFailed n 2)) ∧
  (∀ (n : Fin 40) (ts : List Byte) (k : Nat) (s : State),
      s.laneRaw n = 2 → ts.length = 7 →
      (ts.foldl (fun (a : Nat) (b : Byte) => a ^^^ b.toNat) 0 = 255) → Bits.rd ts 1 1 = laneIn n →
      Bits.rd ts 2 1 = laneKind n → Bits.rd ts 0 1 = 0xB2 → (s.lane n).passed = true →
      (s.lane n).gotAck = true → (s.lane n).ts2 < 15 →
      exec (.tsSetReceive n ts false k) s = .next (s.onLane n fun x => { x with ts2 := x.ts2 + 1 })) ∧
  (∀ (n : Fin 40) (ts : List Byte) (k : Nat) (s : State),
      s.laneRaw n = 2 → ts.length = 7 →
      (ts.foldl (fun (a : Nat) (b : Byte) => a ^^^ b.toNat) 0 = 255) → Bits.rd ts 1 1 = laneIn n →
      Bits.rd ts 2 1 = laneKind n → Bits.rd ts 0 1 = 0xB2 → (s.lane n).passed = true →
      (s.lane n).gotAck = true → 15 ≤ (s.lane n).ts2 → k ≤ 16 →
      exec (.tsSetReceive n ts false k) s = .next (s.laneTrained n)) ∧
  (∀ (n : Fin 40) (ts : List Byte) (k : Nat) (s : State),
      s.laneRaw n = 2 → ts.length = 7 →
      (ts.foldl (fun (a : Nat) (b : Byte) => a ^^^ b.toNat) 0 = 255) → Bits.rd ts 1 1 = laneIn n →
      Bits.rd ts 2 1 = laneKind n → Bits.rd ts 0 1 = 0xB2 → (s.lane n).passed = true →
      (s.lane n).gotAck = true → 15 ≤ (s.lane n).ts2 → 16 < k →
      exec (.tsSetReceive n ts false k) s = .next (s.laneFailed n 4)) ∧
  (∀ (n : Fin 40) (ts : List Byte) (k : Nat) (s : State),
      s.laneRaw n = 2 →
      exec (.tsSetReceive n ts true k) s = .next (s.laneFailed n 3)) ∧
  (∀ (n : Fin 41) (s : State),
      s.laneRaw n = 2 → (s.lane n).ts1 < 64 → (s.lane n).passed = false →
      exec (.trainStepTimeout n) s = .next (s.stepFails n)) ∧
  (∀ (n : Fin 41) (s u : State),
      s.laneRaw n = 2 → (64 ≤ (s.lane n).ts1 ∨ n.val = 40) →
      u = ((s.setFld (Reg.LN_LANE_EQ n) Fld.LN_LANE_EQ_STEP (s.lane n).step).onLane n fun x => { x with passed := true }) →
      exec (.trainDwellDone n) s = .next (if n.val = 40 then u.laneTrained n else u.sendTs n))

/-- An errored character counts on a serving lane; in training it fails the step in its dwell, and else
starts the count of TS sets anew. The error limit, of one lane or of several at once, and lock loss take
serving lanes out to retrain, by one LWIDTH. A failed lane not held trains again. A standby lane is
proven, and then joins its port, which sends LWIDTH, or widens where it is a head port. An LWIDTH that
answers this side's own is taken, and the port goes on; another that narrows the port is taken and sent
back, and where it leaves one lane it raises LINK_DEGRADE. RETRAIN and OUT act, and are refused where a
port in use needs the lane. Rests on: R317, R319, R369, R415, R417, R422, R423, R425, R432. -/
def Obligations.LanesServeAndLeave : Prop :=
  (∀ (n : Fin 41) (s : State),
      s.laneSt n = 4 →
      exec (.erroredCharacter n) s = .next (s.count (Reg.LN_LANE_ERRS n) 1)) ∧
  (∀ (n : Fin 41) (s : State) (x : Lane),
      s.laneSt n = 2 → x = s.lane n →
      exec (.erroredCharacter n) s = .next (if x.passed = true then s.onLane n fun x => { x with ts2 := 0 }
      else if 64 ≤ x.ts1 ∨ n.val = 40 then s.stepFails n else s.onLane n fun x => { x with ts1 := 0 })) ∧
  (∀ (n : Fin 41) (a : Byte) (s : State) (l : List Nat),
      l = ((lanesOf (lanePort n)).filter fun i => (i == n.val || Bits.bit a.toNat (laneIn i)) && s.laneSt i == 4) →
      exec (.laneErrorLimit n a) s = .next (if l = [] then s else s.lanesDepart (lanePort n) l)) ∧
  (∀ (n : Fin 41) (s : State),
      s.laneSt n = 4 →
      exec (.cdrLockLoss n) s = .next (s.lanesDepart (lanePort n) [n.val])) ∧
  (∀ (n : Fin 41) (s : State),
      s.laneRaw n = 7 → s.flag (Reg.LN_LANE_STATUS n) Fld.LN_LANE_STATUS_HELD = false →
      exec (.laneRetryTimer n) s = .next (s.enterTrain n)) ∧
  (∀ (n : Fin 41) (s : State),
      s.laneSt n = 3 → (lanePort n < 5 ∨ lanePort n = 11) →
      exec (.standbyProofDone n) s = .next (s.onLane n fun x => { x with proven := true })) ∧
  (∀ (n : Fin 41) (p : Nat) (s : State),
      s.laneSt n = 3 → lanePort n = p + 5 → p < 6 →
      exec (.standbyProofDone n) s = .next ((s.onLane n fun x => { x with proven := true }).onPort p fun x => { x with
      trained := x.trained ||| 2 ^ laneIn n })) ∧
  (∀ (n : Fin 41) (s : State) (m : Nat),
      lanePort n < 5 → s.laneSt n = 3 → (s.lane n).proven = true → s.laneUse (lanePort n) = true →
      s.narrowing (lanePort n) = false → m = s.portMask (lanePort n) ||| 2 ^ laneIn n →
      exec (.laneAdmit n) s = .next ((s.widthTo (lanePort n) m).event Reg.LN_EVENT Fld.LN_EVENT_LANE_BACK)) ∧
  (∀ (n : Fin 41) (s : State) (p : Nat),
      lanePort n = p + 5 → p < 6 → s.laneSt n = 3 → (s.lane n).proven = true →
      exec (.laneAdmit n) s = .next (s.widen p)) ∧
  (∀ (p : Fin 4) (m : Byte) (s : State) (old : Nat),
      s.laneUse (p + 1) = true → old = s.portMask (p + 1) → m.toNat &&& old = m.toNat →
      m.toNat ≠ 0 → s.narrowing (p + 1) = true →
      exec (.fabLwidth p.castSucc m) s = .next (((((s.setMask (p + 1) m.toNat).setNarrow (p + 1) false).carry (p + 1)).maskCheck
      (p + 1)).pwrCheck (p + 1))) ∧
  (∀ (p : Fin 4) (m : Byte) (s : State) (old : Nat),
      s.laneUse (p + 1) = true → old = s.portMask (p + 1) → m.toNat &&& old = m.toNat →
      m.toNat ≠ 0 → m.toNat ≠ old → maskCount m.toNat = 1 → s.narrowing (p + 1) = false →
      exec (.fabLwidth p.castSucc m) s = .next (((s.setMask (p + 1) m.toNat).sendWidth (p + 1) m.toNat).event Reg.FAB_EVENT
      Fld.FAB_EVENT_LINK_DEGRADE)) ∧
  (∀ (a : Path) (n : Fin 41) (s : State),
      s.laneRaw n = 7 →
      exec (.laneRetrain a n) s = .next ((s.setFld (Reg.LN_LANE_STATUS n) Fld.LN_LANE_STATUS_HELD 0).enterTrain n)) ∧
  (∀ (a : Path) (n : Fin 41) (s : State),
      s.laneSt n = 4 → s.laneNeeded n = false → s.laneRaw n ≠ 7 →
      exec (.laneRetrain a n) s = .next ((s.enterTrain n).maskOut n)) ∧
  (∀ (a : Path) (n : Fin 41) (s : State),
      s.laneSt n = 4 → s.laneNeeded n = true →
      exec (.laneRetrain a n) s = .next (s.accFlag a (Reg.LN_LANE_CTRL n) .refused) ∧
      (s.laneRaw n = 3 → exec (.laneOut a n) s = .next (s.accFlag a (Reg.LN_LANE_CTRL n) .refused))) ∧
  (∀ (a : Path) (n : Fin 41) (s : State),
      s.laneRaw n ≠ 8 → s.laneNeeded n = false →
      exec (.laneOut a n) s = .next ((s.laneFailed n 5).maskOut n))

/-- A command for LS or LD asks for it on the lane's port; it does nothing on the management lane, and
is refused on a head port that a swath uses. An exit wakes the port. EI sets on an awake port without a
request of its own are answered and take it down, and those that answer its own take it to the shallower
of the two; on a port that is not awake they do nothing. A handshake without answer is dropped and
flagged, and a port that goes alone goes all the same. Lock after LD serves again, or trains a lane that
its port does not know, and without it the lane retrains. The straps are shown, and a change after the
start is an event. Rests on: R408, R415, R418, R419, R425, R432, R599, R606. -/
def Obligations.LanesSleepAndWake : Prop :=
  (∀ (a : Path) (n : Fin 41) (s : State),
      lanePort n = 11 →
      exec (.lanePwrLs a n) s = .next s ∧ exec (.lanePwrLd a n) s = .next s) ∧
  (∀ (a : Path) (n : Fin 41) (s : State) (p : Nat),
      lanePort n = p + 5 → p < 6 → (s.gy.swaths.any fun w => w.ports.contains p) = true →
      exec (.lanePwrLs a n) s = .next (s.accFlag a (Reg.LN_LANE_CTRL n) .refused) ∧
      exec (.lanePwrLd a n) s = .next (s.accFlag a (Reg.LN_LANE_CTRL n) .refused)) ∧
  (∀ (a : Path) (n : Fin 41) (s : State) (q : Nat),
      q = lanePort n → q < 11 → (q < 5 ∨ s.gy.swaths = []) →
      exec (.lanePwrLs a n) s = .next (s.askPwr q 1 false) ∧ exec (.lanePwrLd a n) s = .next (s.askPwr q 2 false)) ∧
  (∀ (n : Fin 41) (s : State),
      exec (.lanePwrExit n) s = .next (s.wakePort (lanePort n) true)) ∧
  (∀ (q : Fin 11) (s : State),
      s.awake q = true → s.pwrReq q = none →
      exec (.eiLsReceive q) s = .next ((s.sendEi q 1).enterPwr q 1)) ∧
  (∀ (q : Fin 11) (s : State),
      s.awake q = true → s.pwrReq q = none →
      exec (.eiLdReceive q) s = .next ((s.sendEi q 2).enterPwr q 2)) ∧
  (∀ (q : Fin 11) (s : State) (r : PwrReq),
      s.awake q = true → s.pwrReq q = some r → r.sent = true →
      exec (.eiLsReceive q) s = .next (s.enterPwr q (min r.kind 1)) ∧
      exec (.eiLdReceive q) s = .next (s.enterPwr q (min r.kind 2))) ∧
  (∀ (q : Fin 11) (s : State),
      s.awake q = false →
      exec (.eiLsReceive q) s = .next s ∧ exec (.eiLdReceive q) s = .next s) ∧
  (∀ (q : Fin 11) (s : State) (r : PwrReq),
      s.pwrReq q = some r → r.sent = true → r.alone = false →
      exec (.pwrHandshakeTimeout q) s = .next ((s.event Reg.LN_EVENT Fld.LN_EVENT_PWR_REFUSED).endReq q)) ∧
  (∀ (q : Fin 11) (s : State) (r : PwrReq),
      s.pwrReq q = some r → r.sent = true → r.alone = true →
      exec (.pwrHandshakeTimeout q) s = .next ((s.event Reg.LN_EVENT Fld.LN_EVENT_PWR_REFUSED).enterPwr q r.kind)) ∧
  (∀ (n : Fin 41) (s : State),
      s.laneRaw n = 6 → (s.lane n).exiting = true → s.inMask n = false →
      exec (.ldExitLock n) s = .next (((s.setLane n 3).onLane n fun x => { x with exiting := false }).laneTrained n)) ∧
  (∀ (n : Fin 41) (s : State),
      s.laneRaw n = 6 → (s.lane n).exiting = true → s.inMask n = true →
      exec (.ldExitLock n) s = .next (((s.setLane n 3).onLane n fun x => { x with exiting := false }).portAwake (lanePort n))) ∧
  (∀ (n : Fin 41) (s : State),
      s.laneRaw n = 6 → (s.lane n).exiting = true →
      exec (.ldExitTimeout n) s = .next (((s.enterTrain n).maskOut n).portAwake (lanePort n))) ∧
  (∀ (v : Fin 16) (s : State),
      s.regN (Reg.CFG_MILESTONE 0) = 0 →
      exec (.strapChange v) s = .next (s.setFld Reg.LN_STATUS Fld.LN_STATUS_STRAPS v.val)) ∧
  (∀ (v : Fin 16) (s u : State),
      u = s.setFld Reg.LN_STATUS Fld.LN_STATUS_STRAPS v.val → u.regN (Reg.CFG_MILESTONE 0) ≠ 0 →
      s.fld Reg.LN_STATUS Fld.LN_STATUS_STRAPS ≠ v.val →
      exec (.strapChange v) s = .next (u.event Reg.LN_EVENT Fld.LN_EVENT_STRAP_CHANGE))

/-- START begins every enabled entry of a chain that no check refuses; a chain that one refuses is
refused with its cause, and a missing one with cause 3. STOP of a moving axis stops it, and ends a
homing. HOME of an idle axis starts the search and otherwise is refused, with a flag on axis S while a
swath is live, as is a START of a chain that would home it. ENABLE of a disabled axis with its enable set, after the lock, with no converter left to
calibrate and ESTOP_N high, takes it to IDLE at its measured position, and to FAULT where its feedback
is in FAULT; a stepper's band table must be valid. DISABLE takes an axis at rest to DISABLED, and one
that moves after a stop; CLEAR leaves FAULT once no
feedback fault stands. Rests on: R438, R440, R448, R454, R458, R459, R460, R462,
R477, R486. -/
def Obligations.AxesServe : Prop :=
  (∀ (p : Path) (x : Fin 6) (m : Fin 1024) (s : State) (l k : List Nat),
      s.homesLive m = false → s.chain 6 [] m = some l →
      (k = l.filter (fun i => s.flag (Reg.MP_AX_CFG (s.moveE i).axis) Fld.MP_AX_CFG_ENABLE)) →
      (∀ i ∈ k, s.entryRefusal (s.moveE i) = 0) →
      exec (.axisStart p x m) s = .next (k.foldl (fun t j => t.startEntry false m j) s)) ∧
  (∀ (p : Path) (x : Fin 6) (m : Fin 1024) (s : State) (l k : List Nat) (c : Nat),
      s.homesLive m = false → s.chain 6 [] m = some l →
      (k = l.filter (fun i => s.flag (Reg.MP_AX_CFG (s.moveE i).axis) Fld.MP_AX_CFG_ENABLE)) →
      ((k.map fun i => s.entryRefusal (s.moveE i)).find? (· != 0) = some c) →
      exec (.axisStart p x m) s = .next (s.refuse x c)) ∧
  (∀ (p : Path) (x : Fin 6) (m : Fin 1024) (s : State),
      s.homesLive m = false → s.chain 6 [] m = none →
      exec (.axisStart p x m) s = .next (s.refuse x 3)) ∧
  (∀ (p : Path) (x : Fin 6) (m : Fin 1024) (s : State),
      s.homesLive m = true →
      exec (.axisStart p x m) s = .next (s.accFlag p (Reg.MP_AX_CTRL x) .refused)) ∧
  (∀ (x : Fin 6) (s : State),
      s.homing x = false → (s.axState x = 2 ∨ s.axState x = 3) →
      exec (.axisStop x) s = .next (s.stopAxis x .idle)) ∧
  (∀ (x : Fin 6) (s : State),
      s.homing x = true →
      exec (.axisStop x) s = .next (s.homeStopped x .idle)) ∧
  (∀ (x : Fin 6) (s : State),
      s.homing x = false → s.axState x ≠ 2 → s.axState x ≠ 3 →
      exec (.axisStop x) s = .next s) ∧
  (∀ (p : Path) (s : State),
      s.swathLive = true →
      exec (.axisHome p 0) s = .next (s.accFlag p (Reg.MP_AX_CTRL 0) .refused)) ∧
  (∀ (p : Path) (x : Fin 6) (s : State),
      (x.val ≠ 0 ∨ s.swathLive = false) → s.axState x = 1 →
      exec (.axisHome p x) s = .next (s.startHome x)) ∧
  (∀ (p : Path) (x : Fin 6) (s : State),
      (x.val ≠ 0 ∨ s.swathLive = false) → s.axState x ≠ 1 →
      exec (.axisHome p x) s = .next (s.refuse x (if s.moving x then 1 else 5))) ∧
  (∀ (x : Fin 6) (s u : State),
      x.val < 2 → s.axState x = 0 → s.gy.estop = false → s.locked = true →
      s.flag (Reg.MP_AX_CFG x) Fld.MP_AX_CFG_ENABLE = true → s.cal.first = [] →
      u = (((((((s.adopt x).releasePads x).setFld (Reg.MP_AX_STATUS x) Fld.MP_AX_STATUS_FAULT 0).setAx x 1 0).setSv x 1).setEn x true).milestoneNow 9) →
      exec (.axisEnable x) s = .next (if u.fbState x = 1 then u.feedbackFault x else u)) ∧
  (∀ (x : Fin 6) (s u v : State) (k : Nat),
      x.val = k + 2 → s.axState x = 0 → s.gy.estop = false → s.locked = true →
      s.flag (Reg.MP_AX_CFG x) Fld.MP_AX_CFG_ENABLE = true → s.cal.first = [] → s.bandsOk k = true →
      u = (((((((s.adopt x).releasePads x).setFld (Reg.MP_AX_STATUS x) Fld.MP_AX_STATUS_FAULT 0).setAx x 1 0).setSv x 1).setEn x true).milestoneNow 9) →
      v = u.setFld (Reg.STP_STATUS k) Fld.STP_STATUS_CODE (u.bandE k (u.fld (Reg.STP_STATUS k) Fld.STP_STATUS_BAND)).2 →
      exec (.axisEnable x) s = .next (if v.fbState x = 1 then v.feedbackFault x else v)) ∧
  (∀ (x : Fin 6) (s : State) (k : Nat),
      x.val = k + 2 → s.axState x = 0 → s.gy.estop = false → s.locked = true →
      s.flag (Reg.MP_AX_CFG x) Fld.MP_AX_CFG_ENABLE = true → s.cal.first = [] → s.bandsOk k = false →
      exec (.axisEnable x) s = .next (s.setFld (Reg.MP_AX_STATUS x) Fld.MP_AX_STATUS_FAULT 6)) ∧
  (∀ (x : Fin 6) (s : State),
      s.axState x = 0 → s.gy.estop = false → s.flag (Reg.MP_AX_CFG x) Fld.MP_AX_CFG_ENABLE = true → s.locked = false →
      exec (.axisEnable x) s = .next (s.refuse x 5)) ∧
  (∀ (x : Fin 6) (s : State),
      (s.gy.estop = true ∨ s.flag (Reg.MP_AX_CFG x) Fld.MP_AX_CFG_ENABLE = false) →
      exec (.axisEnable x) s = .next s) ∧
  (∀ (x : Fin 6) (s : State),
      (s.axState x = 0 ∨ s.axState x = 1 ∨ s.axState x = 6) →
      exec (.axisDisable x) s = .next ((((((s.genIdle x).setAx x 0 0).setSv x (s.svRest x)).setEn x false).aoutZero x))) ∧
  (∀ (x : Fin 6) (s : State),
      s.homing x = false → (s.axState x = 2 ∨ s.axState x = 3) →
      exec (.axisDisable x) s = .next (s.stopAxis x .disabled)) ∧
  (∀ (x : Fin 6) (s : State),
      s.axState x = 5 →
      exec (.axisDisable x) s = .next (s.onGen x fun g => { g with after := .disabled })) ∧
  (∀ (x : Fin 6) (s : State),
      s.axState x = 6 → s.fbState x ≠ 1 →
      exec (.axisClear x) s = .next ((((s.adopt x).setFld (Reg.MP_AX_STATUS x) Fld.MP_AX_STATUS_FAULT 0).setAx x 1 0).setSv x 1)) ∧
  (∀ (x : Fin 6) (s : State),
      (s.axState x ≠ 6 ∨ s.fbState x = 1) →
      exec (.axisClear x) s = .next s)

/-- A write of OVR is stored, and of V too; V and A act at once in a move or while the velocity is held,
A raised in a planned stop ends it, and A lowered there beyond what the way left allows is deferred; on
an axis at rest V and A are kept for the next move. A due band change on an aligned step position takes
effect, holds the next pulse back by MS_SETUP_US and sets MS_SETTLING until that has passed. A level of an
input that has lasted QUAL_US qualifies, and one that has not does nothing yet; a change of level starts a
run where it is, shown in RAW, and an active run too short to qualify is counted. A qualified input of
homing is homing's, and one of the limit in the direction of motion stops the axis. Rests on: R446, R447, R455, R456, R457, R458, R465, R467, R470. -/
def Obligations.AxisParametersAndInputs : Prop :=
  (∀ (x : Fin 6) (w : Word) (s : State),
      exec (.motionParamWrite x 2 w) s = .next (if (s.setReg (Reg.MP_AX_OVR x) w).axState x = 3
      then (s.setReg (Reg.MP_AX_OVR x) w).event (Reg.MP_AX_EVENT x) Fld.MP_AX_EVENT_PATH_HELD
      else s.setReg (Reg.MP_AX_OVR x) w)) ∧
  (∀ (x : Fin 6) (w : Word) (s : State),
      ((∃ d t, (s.gen x).mode = .move d t) ∨ (∃ d t, (s.gen x).mode = .hold d t)) →
      exec (.motionParamWrite x 0 w) s = .next (s.setReg (Reg.MP_AX_V x) w) ∧
      exec (.motionParamWrite x 1 w) s = .next ((s.setReg (Reg.MP_AX_A x) w).takeA x)) ∧
  (∀ (x : Fin 6) (w : Word) (s u : State) (g : Gen) (dir : Bool) (n : List (Int × Int × Int)) (d : Int),
      u = s.setReg (Reg.MP_AX_A x) w → g = u.gen x → g.mode = .decel dir n d → g.aUse < u.aLim x →
      exec (.motionParamWrite x 0 w) s = .next (s.setReg (Reg.MP_AX_V x) w) ∧
      exec (.motionParamWrite x 1 w) s = .next (((u.takeA x).onGen x fun g => { g with
      mode := .hold dir d }).setAx x ((u.takeA x).axState x) 1)) ∧
  (∀ (x : Fin 6) (w : Word) (s u : State) (g : Gen) (dir : Bool) (n : List (Int × Int × Int)) (d : Int),
      u = s.setReg (Reg.MP_AX_A x) w → g = u.gen x → g.mode = .decel dir n d → u.aLim x < g.aUse →
      (d - g.p).natAbs < stopDist g.v.natAbs 0 (u.aLim x) g.jUse →
      exec (.motionParamWrite x 1 w) s = .next (((u.setFld (Reg.MP_AX_STATUS x) Fld.MP_AX_STATUS_DEFER 1).event
      (Reg.MP_AX_EVENT x) Fld.MP_AX_EVENT_ACCEL_DEFERRED).onGen x fun g => { g with keepA := true })) ∧
  (∀ (x : Fin 6) (w : Word) (s : State),
      (s.gen x).mode = .idle →
      exec (.motionParamWrite x 0 w) s = .next ((s.setReg (Reg.MP_AX_V x) w).paramKept x fun g => { g with keepV := true }) ∧
      exec (.motionParamWrite x 1 w) s = .next ((s.setReg (Reg.MP_AX_A x) w).paramKept x fun g => { g with keepA := true })) ∧
  (∀ (k : Fin 4) (b due n : Nat) (s u : State),
      (s.gen (k.val + 2)).toBand = some (b, due) → s.stepPos (k.val + 2) % 128 = 0 →
      s.flag (Reg.STP_STATUS k) Fld.STP_STATUS_MS_SETTLING = false →
      s.flag (Reg.STP_STATUS k) Fld.STP_STATUS_EN = true →
      n = max (s.gen (k.val + 2)).pulseEnd due + 1000 * s.fld (Reg.STP_CFG k) Fld.STP_CFG_MS_SETUP_US →
      u = ((s.onGen (k.val + 2) fun g => { g with toBand := none, ready := max g.ready n, msEnd := n }).setFld
        (Reg.STP_STATUS k) Fld.STP_STATUS_BAND b) →
      exec (.bandChangeApply k) s = .next (((((u.setFld (Reg.STP_STATUS k) Fld.STP_STATUS_CODE (u.bandE k b).2).setFld
      (Reg.STP_STATUS k) Fld.STP_STATUS_ALIGN_WAIT 0).setFld (Reg.STP_STATUS k) Fld.STP_STATUS_MS_SETTLING 1).count
      (Reg.STP_BAND_CHANGES k) 1).event (Reg.STP_EVENT k) Fld.STP_EVENT_BAND_CHANGE)) ∧
  (∀ (k : Fin 4) (s : State),
      ((s.gen (k.val + 2)).toBand = none ∨ s.stepPos (k.val + 2) % 128 ≠ 0) →
      exec (.bandChangeApply k) s = .next s) ∧
  (∀ (k : Fin 4) (s : State),
      (s.gen (k.val + 2)).msEnd ≤ s.clk.ticks →
      exec (.msSetupEnd k) s = .next (s.setFld (Reg.STP_STATUS k) Fld.STP_STATUS_MS_SETTLING 0)) ∧
  (∀ (k : Fin 4) (s : State),
      s.clk.ticks < (s.gen (k.val + 2)).msEnd →
      exec (.msSetupEnd k) s = .next s) ∧
  (∀ (x : Fin 6) (i : Fin 3) (k : Fin 20) (b a : Bool) (t : Nat) (s : State),
      b = (s.pin x i).high → a = s.pinActive x i b →
      t = max (s.motion.tickAt - 100 + 5 * k.val) (s.pin x i).since →
      (s.qual x i = a ∨ t < (s.pin x i).since + s.qualNs x) →
      exec (.inputQualify x i k b) s = .next (State.settleStop s s)) ∧
  (∀ (x : Fin 6) (i : Fin 3) (k : Fin 20) (b a : Bool) (t : Nat) (s u : State),
      b = (s.pin x i).high → a = s.pinActive x i b →
      t = max (s.motion.tickAt - 100 + 5 * k.val) (s.pin x i).since →
      s.qual x i ≠ a → (s.pin x i).since + s.qualNs x ≤ t → u = s.putInput Fld.MP_AX_INPUTS_QUAL x i a →
      u.homing x = true →
      exec (.inputQualify x i k b) s = .next (State.settleStop s (u.homeInput x i a (s.pin x i).pos))) ∧
  (∀ (x : Fin 6) (i : Fin 3) (k : Fin 20) (b : Bool) (t : Nat) (s u : State),
      b = (s.pin x i).high → s.pinActive x i b = true →
      t = max (s.motion.tickAt - 100 + 5 * k.val) (s.pin x i).since →
      s.qual x i = false → (s.pin x i).since + s.qualNs x ≤ t → u = s.putInput Fld.MP_AX_INPUTS_QUAL x i true →
      u.homing x = false → u.startsToward x i = false → (u.axState x = 2 ∨ u.axState x = 3) →
      (∀ f, (u.gen x).after ≠ .fault f) → (i.val = 0 ∧ 0 < (u.gen x).v ∨ i.val = 1 ∧ (u.gen x).v < 0) →
      u.qual x i = true →
      exec (.inputQualify x i k b) s = .next (State.settleStop s (u.limitStop x))) ∧
  (∀ (x : Fin 6) (i : Fin 3) (k : Fin 20) (b : Bool) (t : Nat) (s u : State),
      b = (s.pin x i).high →
      t = max (s.motion.tickAt - 100 + 5 * k.val) (s.pin x i).since →
      s.qual x i ≠ s.pinActive x i b → (s.pin x i).since + s.qualNs x ≤ t →
      u = s.putInput Fld.MP_AX_INPUTS_QUAL x i (s.pinActive x i b) →
      u.homing x = false → u.moving x = false → (u.gen x).fresh = false →
      exec (.inputQualify x i k b) s = .next (State.settleStop s u)) ∧
  (∀ (x : Fin 6) (i : Fin 3) (k : Fin 20) (b : Bool) (t : Nat) (s u : State),
      x.val < 2 → b ≠ (s.pin x i).high →
      t = max (s.motion.tickAt - 100 + 5 * k.val) (s.pin x i).since →
      (s.qual x i = s.pinActive x i (s.pin x i).high ∨ t < (s.pin x i).since + s.qualNs x) →
      u = (if s.pinActive x i (s.pin x i).high = true ∧ t < (s.pin x i).since + s.qualNs x then s.count (Reg.MP_AX_CHATTER x) 1
        else s) →
      0 < ((u.setPin x i ⟨b, t, u.rawAt x (5 * k.val)⟩).showRaw x).qualNs x →
      exec (.inputQualify x i k b) s = .next (State.settleStop s ((u.setPin x i ⟨b, t, u.rawAt x (5 * k.val)⟩).showRaw x)))

/-- A servo sample takes the clock to the next 50 kHz sample; in it the steppers' positions follow,
every enabled axis has its set-point, the bands and stalls of the steppers and the two servos are
served, and the ramps of their outputs step. Without the clock neither it nor a feedback tick does
anything. Injection starts and stops at the next sample; a start is refused on axis 0 while a swath is
live. A capture, at once or with the next injection, starts unless one runs. Rests on: R435, R444, R485,
R489, R490. -/
def Obligations.ServoAndCaptureServe : Prop :=
  (∀ (s e a b c : State),
      s.clk.pllLocked = true → e = s.elapse s.sampleTicks →
      a = (List.range 4).foldl (fun t k => t.stepFollow (e.motion.lastServo.getD (e.clk.ticks - 20000)) k) { e with motion := { e.motion with lastServo := some e.clk.ticks } } →
      b = (List.range 6).foldl (fun t x => if t.flag (Reg.MP_AX_CFG x) Fld.MP_AX_CFG_ENABLE then t.genSample x else t) a →
      c = (List.range 2).foldl (fun t x => t.servoAxis x) ((List.range 4).foldl (fun t k => (t.bandDue k).stallCheck (k + 2)) b) →
      exec .servoSample s = .next (State.settleStop s ((List.range 4).foldl (fun t i => t.rampSample (32 + i)) c))) ∧
  (∀ (s : State),
      s.clk.pllLocked = false →
      exec .servoSample s = .next s ∧ ∀ l k m, exec (.feedbackTick l k m) s = .next s) ∧
  (∀ (p : Path) (x : Fin 2) (s : State),
      (x.val ≠ 0 ∨ s.swathLive = false) →
      exec (.injStart p x) s = .next (s.onServo x fun v => { v with injStart := true, injStop := false })) ∧
  (∀ (p : Path) (s : State),
      s.swathLive = true →
      exec (.injStart p 0) s = .next (s.accFlag p (Reg.SV_AX_INJ_CTRL 0) .refused)) ∧
  (∀ (x : Fin 2) (s : State),
      exec (.injStop x) s = .next (s.onServo x fun v => { v with injStop := true })) ∧
  (∀ (p : Path) (s : State),
      s.motion.cap.running = false →
      exec (.captureStart p) s = .next ((s.setRegN Reg.SV_CAP_STATUS 0).onCap fun _ => ⟨true, false, 0⟩)) ∧
  (∀ (p : Path) (s : State),
      s.motion.cap.running = false →
      exec (.captureStartWithInj p) s = .next ((s.setRegN Reg.SV_CAP_STATUS 0).onCap fun _ => ⟨true, true, 0⟩)) ∧
  (∀ (p : Path) (s : State),
      s.motion.cap.running = true →
      exec (.captureStart p) s = .next (s.accFlag p Reg.SV_CAP_CTRL .refused) ∧
      exec (.captureStartWithInj p) s = .next (s.accFlag p Reg.SV_CAP_CTRL .refused))

/-- A write of initialised DRAM, by a master whose grants hold it or by none, is merged;
with nothing waiting, no errors in the cells and no flip armed it stores its bytes and no others, the
mirror of the error log apart. A read takes the bits that have flipped and is served. Both are served
after those that have come due, and wait for their region and for the gap of a throttled requester; a
write outside its master's
grants is a violation, and freezes the master. Rests on: R497, R500, R502, R506, R507, R510, R653, R654.
-/
def Obligations.DramServes : Prop :=
  (∀ (r : Fin 11) (a : Nat) (d : List Byte) (s : State),
      Inv s → a + d.length ≤ dramEnd → d ≠ [] → s.dueReq ⟨r + 16, 0, a, d⟩ = true → s.dram.held = [] →
      s.dram.errs = [] → s.flag Reg.MI_FLIP_CTRL Fld.MI_FLIP_CTRL_ARM = false →
      Next (.dramWrite r none a d []) s fun t => ∀ x, (x < errMirror ∨ errMirror + 2 ^ 25 ≤ x) → t.ld x =
      if a ≤ x ∧ x < a + d.length then (d[x - a]?).getD 0 else s.ld x) ∧
  (∀ (r : Fin 11) (w : Option (Fin 24)) (a : Nat) (d : List Byte) (k : List Nat) (s u : State),
      (∀ m, w = some m → inSpan (s.grantsOf m) a d.length = true) →
      a + d.length ≤ dramEnd → u = (s.shutRows k).serveAll → u.dueReq ⟨r + 16, 0, a, d⟩ = true →
      exec (.dramWrite r w a d k) s = .next (u.dramWrite r a d)) ∧
  (∀ (r : Fin 11) (w : Option (Fin 24)) (a : Nat) (d : List Byte) (k : List Nat) (s u : State),
      (∀ m, w = some m → inSpan (s.grantsOf m) a d.length = true) →
      a + d.length ≤ dramEnd → u = (s.shutRows k).serveAll → u.dueReq ⟨r + 16, 0, a, d⟩ = false →
      exec (.dramWrite r w a d k) s = .next { u with dram := { u.dram with held := u.dram.held ++ [⟨r + 16, 0, a, d⟩] } }) ∧
  (∀ (r : Fin 11) (m : Fin 24) (a : Nat) (d : List Byte) (k : List Nat) (s : State),
      inSpan (s.grantsOf m) a d.length = false →
      exec (.dramWrite r (some m) a d k) s = .next (if Bits.bit (s.regN Reg.ACC_FROZEN_INT) m then s.violation m (masterReq m) a
      else (s.violation m (masterReq m) a).freezeMaster m)) ∧
  (∀ (r : Fin 11) (q a n : Nat) (us : List (Nat × Nat)) (k : List Nat) (s u : State),
      a + n ≤ dramEnd → u = ((s.upset us).shutRows k).serveAll → u.dueReq ⟨r, q, a, List.replicate n 0⟩ = true →
      exec (.dramRead r q a n us k) s = .next (u.serveRead r q a n)) ∧
  (∀ (r : Fin 11) (q a n : Nat) (us : List (Nat × Nat)) (k : List Nat) (s u : State),
      a + n ≤ dramEnd → u = ((s.upset us).shutRows k).serveAll → u.dueReq ⟨r, q, a, List.replicate n 0⟩ = false →
      exec (.dramRead r q a n us k) s = .next { u with dram := { u.dram with
      held := u.dram.held ++ [⟨r, q, a, List.replicate n 0⟩] } })

/-- A merge entry is flushed; a new disturbance window clears its counters; a scrub step reads the words
in error of its group, after a pending write of them, writes corrected ones back, and moves on or wraps
and counts its pass. A page asked for is copied to a free entry, or waits for the copy that runs, and a
finished copy of initialised DRAM makes its entry, is logged and recorded, and starts those that waited.
A bank's retirement is pending at the next start, unless three are, and may be withdrawn. The flip mask
is armed. Training of all channels is shown, and a failure of one is fatal. Rests on: R504, R507, R511,
R512, R513, R514, R515, R519. -/
def Obligations.DramUpkeep : Prop :=
  (∀ (l : Nat) (s : State) (e : Merge),
      (s.dram.merge.find? (fun e => e.line == l) = some e) →
      exec (.mergeFlush l) s = .next (s.flushEntry e)) ∧
  (∀ (s u : State),
      u = { s with dram := { s.dram with trackers := [], throttled := [] } } →
      exec .rhWindowReset s = .next (u.setRegN Reg.DC_THROTTLED 0)) ∧
  (∀ (us : List (Nat × Nat)) (s u v : State) (q : Nat) (ws : List Nat),
      u = us.foldl (fun t x => t.setErr x.1 (t.errOf x.1 ^^^ (x.2 % 2 ^ 72))) s → q = s.regN Reg.MI_SCRUB_POS →
      ws = (u.dram.errs.filter fun e => (u.groupOf (8 * e.1)).2 == q).map (·.1) →
      v = ws.foldl (fun t w => if eccKind ((t.flushRange (8 * w) 8).errOf w) = 1
      then ((t.flushRange (8 * w) 8).readWord 10 w).setErr w 0 else (t.flushRange (8 * w) 8).readWord 10 w) u →
      (q < 466032 → exec (.scrubStep us) s = .next (v.setRegN Reg.MI_SCRUB_POS (q + 1))) ∧
      (q = 466032 → exec (.scrubStep us) s = .next (((v.setRegN Reg.MI_SCRUB_POS 0).count Reg.MI_SCRUB_PASSES 1).event
        Reg.MI_EVENT Fld.MI_EVENT_SCRUB_PASS))) ∧
  (∀ (w : Word) (s : State) (p n : Nat),
      Fld.MI_REMAP_CTRL_OP.get w = 1 → p = Fld.MI_REMAP_CTRL_PAGE.get w → p ≤ 0xDFFFFF →
      s.slotOf p = none → p ∉ s.dram.copyQueue → s.dram.copying = none → s.freeSlot = some n →
      exec (.pageRetire w) s = .next (({ s with dram := { s.dram with copying := some (n, p) } } : State).setFld
      Reg.MI_STATUS Fld.MI_STATUS_COPY_BUSY 1)) ∧
  (∀ (w : Word) (s : State) (p : Nat) (c : Nat × Nat),
      Fld.MI_REMAP_CTRL_OP.get w = 1 → p = Fld.MI_REMAP_CTRL_PAGE.get w → p ≤ 0xDFFFFF →
      s.slotOf p = none → p ∉ s.dram.copyQueue → s.dram.copying = some c → c.2 ≠ p →
      exec (.pageRetire w) s = .next { s with dram := { s.dram with copyQueue := s.dram.copyQueue ++ [p] } }) ∧
  (∀ (w : Word) (s : State),
      (Fld.MI_REMAP_CTRL_OP.get w ≠ 1 ∨ 0xDFFFFF < Fld.MI_REMAP_CTRL_PAGE.get w) →
      exec (.pageRetire w) s = .next s) ∧
  (∀ (s u x v w : State) (n p : Nat),
      s.dram.copying = some (n, p) → s.inited (4096 * p) = true →
      u = (s.badWords (4096 * p) 4096).foldl (fun t w => t.copyWord w) ((s.flushRange (4096 * p) 4096).openRows 10 (4096 * p) 4096) →
      x = (u.setTbl (remapBase + 4 * n) (BitVec.ofNat 32 (2 ^ 31 + p))).openRows 10 (4096 * p) 4096 →
      v = ((x.setFld Reg.MI_STATUS Fld.MI_STATUS_REMAP_USED (x.fld Reg.MI_STATUS Fld.MI_STATUS_REMAP_USED + 1)).setFld
      Reg.MI_STATUS Fld.MI_STATUS_COPY_BUSY 0) →
      w = ((v.raiseInfo .degraded Reg.MI_EVENT Fld.MI_EVENT_PAGE_RETIRED 0 (unitDram ((s.groupOf (4096 * p)).1 % 16))
      (4096 * p)).stateWrite ⟨2, toLE 2 n ++ [0, 0] ++ toLE 4 p⟩) →
      exec .pageCopyDone s = .next (w.dram.copyQueue.foldl (fun t p => t.retirePage p)
      { w with dram := { w.dram with copying := none, copyQueue := [] } })) ∧
  (∀ (s : State) (n p : Nat),
      (s.dram.copying = none ∨ s.dram.copying = some (n, p) ∧ s.inited (4096 * p) = false) →
      exec .pageCopyDone s = .next s) ∧
  (∀ (q : Path) (w : Word) (s u : State) (b : Nat),
      Fld.MI_BANK_RETIRE_OP.get w = 1 → b = bankOf w → b ∉ s.dram.retired ++ s.dram.pendingBanks →
      s.dram.retired.length + s.dram.pendingBanks.length < 3 →
      u = { s with dram := { s.dram with pendingBanks := s.dram.pendingBanks ++ [b] } } →
      exec (.bankRetireRequest q w) s = .next ((u.showBanks.raise .degraded Reg.MI_EVENT Fld.MI_EVENT_BANK_PENDING 0
      (unitDram (b % 16))).stateWrite ⟨1, [BitVec.ofNat 8 (b % 16), BitVec.ofNat 8 (b / 16), 1, 0, 0, 0, 0, 0]⟩)) ∧
  (∀ (q : Path) (w : Word) (s : State),
      Fld.MI_BANK_RETIRE_OP.get w = 1 → bankOf w ∉ s.dram.retired ++ s.dram.pendingBanks →
      3 ≤ s.dram.retired.length + s.dram.pendingBanks.length →
      exec (.bankRetireRequest q w) s = .next (s.accFlag q Reg.MI_BANK_RETIRE .refused)) ∧
  (∀ (w : Word) (s u : State) (b : Nat),
      Fld.MI_BANK_RETIRE_OP.get w = 2 → b = bankOf w → b ∈ s.dram.pendingBanks →
      u = { s with dram := { s.dram with pendingBanks := s.dram.pendingBanks.filter (· != b) } } →
      exec (.bankRetireCancel w) s = .next (u.showBanks.stateWrite
      ⟨1, [BitVec.ofNat 8 (b % 16), BitVec.ofNat 8 (b / 16), 2, 0, 0, 0, 0, 0]⟩)) ∧
  (∀ (w : Word) (s : State),
      exec (.flipArm w) s = .next (s.setRegN Reg.MI_FLIP_CTRL (w.toNat % 1024))) ∧
  (∀ (k : Nat) (s : State),
      exec (.dramTrainingDone 0xFFFF k) s = .next (((s.setFld Reg.DC_STATUS Fld.DC_STATUS_TRAINED 65535).setFld
      Reg.DC_STATUS Fld.DC_STATUS_ALL_TRAINED 1).milestone 3 k)) ∧
  (∀ (m : BitVec 16) (k c : Nat) (s : State),
      m.toNat ≠ 65535 → (findBelow 16 fun c => !Bits.bit m.toNat c) = some c →
      exec (.dramTrainingDone m k) s = .next (((s.setFld Reg.DC_STATUS Fld.DC_STATUS_TRAINED m.toNat).setFld
      Reg.DC_STATUS Fld.DC_STATUS_TRAIN_FAIL 1).fatal Reg.DC_EVENT Fld.DC_EVENT_TRAIN_FAIL 0 (unitDram c)))

/-- A READ, RELEASE or INDEX of the record port for this node is answered from its record, releases it
or gives its index; an entry carries READ and RELEASE on to another node, and no module else serves
them. A release committed by a register between what is released and what is written is taken, another
is not. The record of the layer that ended first is closed. The oldest block to verify is read back: one
that reads, decodes and checks is good, another is marked missing, in its record or in the index. Rests
on: R556, R558, R560, R561, R563, R564, R565, R567. -/
def Obligations.RecordPortServes : Prop :=
  (∀ (s u : State) (fr : List Byte) (n : Nat),
      IngFrameIn s fr 6 → Bits.rd fr 16 1 = 1 → u = ingIn s fr 0 → n = Bits.rd fr 18 2 → 
      (n = u.node → exec (.recReqRead fr) s = .next (u.recReadHere n (Bits.rd fr 8 8) (Bits.rd fr 20 4)).grantControl) ∧
      (n ≠ u.node → u.flag Reg.FAB_CFG Fld.FAB_CFG_ING_FWD = true →
        exec (.recReqRead fr) s = .next (u.recReadFar n (Bits.rd fr 8 8) (Bits.rd fr 20 4)).grantControl) ∧
      (n ≠ u.node → u.flag Reg.FAB_CFG Fld.FAB_CFG_ING_FWD = false → exec (.recReqRead fr) s = .next u.grantControl)) ∧
  (∀ (s u u1 u2 u3 : State) (fr : List Byte) (n a b c : Nat),
      IngFrameIn s fr 6 → Bits.rd fr 16 1 = 2 → u = ingIn s fr 0 → n = Bits.rd fr 18 2 → 
      (a, u1) = u.free → (b, u2) = u1.free → (c, u3) = u2.free →
      (n = u.node → exec (.recReqRelease fr) s = .next (u.recRelease (Bits.rd fr 8 8)).grantControl) ∧
      (n ≠ u.node → u.flag Reg.FAB_CFG Fld.FAB_CFG_ING_FWD = true →
        exec (.recReqRelease fr) s = .next (u3.fabRequest 0x40 n (releaseFrame a b c (Bits.rd fr 8 8))).grantControl) ∧
      (n ≠ u.node → u.flag Reg.FAB_CFG Fld.FAB_CFG_ING_FWD = false → exec (.recReqRelease fr) s = .next u.grantControl)) ∧
  (∀ (s u : State) (fr b : List Byte) (n : Nat),
      IngFrameIn s fr 6 → Bits.rd fr 16 1 = 3 → u = ingIn s fr 0 → n = Bits.rd fr 18 2 → 
      b = u.tblBytes (recIndex 0) 2048 →
      (n = u.node → exec (.recReqIndex fr) s = .next ((u.recData 0 n 0 1976 (b.take 1976)).recData 0 n 1976 72
        (b.drop 1976)).grantControl) ∧
      (n ≠ u.node → exec (.recReqIndex fr) s = .next u.grantControl)) ∧
  (∀ (p : Path) (w : Word) (s u : State) (o : Nat),
      u = s.unstage p Reg.CMP_REC_RELEASE_LO →
      o = (s.stagedLo p Reg.CMP_REC_RELEASE_LO).toNat + 2 ^ 32 * w.toNat →
      u.pair Reg.CMP_REC_RELEASE_LO ≤ o → o ≤ u.pair Reg.CMP_WRITE_OFS_LO →
      exec (.recReleaseCommit p w) s = .next (u.setPair Reg.CMP_REC_RELEASE_LO o).recFullCheck) ∧
  (∀ (p : Path) (w : Word) (s u : State) (o : Nat),
      u = s.unstage p Reg.CMP_REC_RELEASE_LO →
      o = (s.stagedLo p Reg.CMP_REC_RELEASE_LO).toNat + 2 ^ 32 * w.toNat →
      (o < u.pair Reg.CMP_REC_RELEASE_LO ∨ u.pair Reg.CMP_WRITE_OFS_LO < o) →
      exec (.recReleaseCommit p w) s = .next u) ∧
  (∀ (s : State) (r : LayerRec),
      firstEnded s.recs = some r → s.reportNow = false →
      exec .layerEndWrite s = .next (s.settleStop (s.closeRecord r.layer))) ∧
  (∀ (s : State) (r : LayerRec),
      firstEnded s.recs = some r → s.reportNow = true →
      exec .layerEndWrite s = .next (s.settleStop { s with recs := s.recs.map fun x =>
        if x.layer == r.layer then { x with due := true } else x })) ∧
  (∀ (s : State),
      firstEnded s.recs = none →
      exec .layerEndWrite s = .next s) ∧
  (∀ (s : State),
      s.blocks = [] →
      exec .recordVerifyDone s = .next s) ∧
  (∀ (s z f u v : State) (b : StoredBlock) (l : List StoredBlock) (h : List Byte) (d : Option (List Byte)) (sp : List (Nat × Nat)),
      s.blocks = b :: l → z = { s with blocks := l } → h = z.recRead b.ofs 40 →
      sp = z.recSpans (b.ofs + 40) (divUp (Bits.rd h 28 4) 8 * 8) → f = sp.foldl (fun t x => t.flushRange x.1 x.2) z →
      u = sp.foldl (fun t x => t.serveRead 7 0 x.1 x.2) f →
      d = (if Bits.bit (Bits.rd h 1 1) 0 then some (u.recRead (b.ofs + 40) (Bits.rd h 28 4))
      else Codec.decode (u.recRead (b.ofs + 40) (Bits.rd h 28 4)) (Bits.rd h 20 4) (Bits.rd h 24 4)) →
      v = u.snoop ⟨pointStored, 0, [], d.getD [], Bits.rd h 32 4, u.recAddr b.ofs, Bits.rd h 4 4, u.recAddr b.ofs⟩ →
      ((sp.any fun x => f.uncorr x.1 x.2) = false → d.isSome = true → Crc.crc32c (d.getD []) = Bits.rd h 32 4 →
        exec .recordVerifyDone s = .next v) ∧
      (((sp.any fun x => f.uncorr x.1 x.2) = true ∨ d = none ∨ Crc.crc32c (d.getD []) ≠ Bits.rd h 32 4) →
        ∀ w, w = ((v.markMissing b.ofs h).onSwath b.layer b.swath fun w => { w with missing := w.missing + 1 }).blockMissing b.layer →
        exec .recordVerifyDone s = .next (if (w.recs.any fun r => r.layer == b.layer) = true then w else w.indexMissing b.layer)))

/-- Firmware processes the earliest record at least 1 µs old that it has not processed, and then
acknowledges every open record processed whose class is AUTO_ACK_MAX or lower. ERR_ACK acknowledges an
open record, whose mirror is then due and whose entry is free, and is else refused; ERR_ACK_UPTO
acknowledges every open record from the oldest to the one it names. Rests on: R646, R647, R648, R649,
R650, R663, R664. -/
def Obligations.ErrorLogServes : Prop :=
  (∀ (s u : State) (e : RingEntry) (l : List Nat),
      s.nextRecord = some e →
      u = { s with log := { s.log with ring := Kv.set s.log.ring (e.record.seq % 256) { e with processed := true } } } →
      l = (u.openSeqs.filter fun q => (u.openAt q).any fun e => e.processed &&
      decide (e.record.cls ≤ min (u.fld Reg.ERR_CFG Fld.ERR_CFG_AUTO_ACK_MAX) 3)) →
      exec .errRecordProcess s = .next (l.foldl (fun t q => t.ackSeq q) u)) ∧
  (∀ (s : State),
      s.nextRecord = none →
      exec .errRecordProcess s = .next s) ∧
  (∀ (p : Path) (w : Word) (s u : State) (e : RingEntry),
      s.openAt w.toNat = some e →
      u = { s with log := { s.log with ring := Kv.set s.log.ring (w.toNat % 256) { e with
      record := { e.record with rflags := e.record.rflags ||| rflagAcked }, isOpen := false } } } →
      exec (.errAck p w) s = .next (u.mirrorDue.promote e.record.unit)) ∧
  (∀ (p : Path) (w : Word) (s : State),
      s.openAt w.toNat = none →
      exec (.errAck p w) s = .next (s.accFlag p Reg.ERR_ACK .refused)) ∧
  (∀ (w : Word) (s : State) (o n : Nat) (l : List Nat),
      s.openSeqs = o :: l → n = (w.toNat + 2 ^ 32 - o) % 2 ^ 32 → n < 2 ^ 31 →
      exec (.errAckUpto w) s = .next (((o :: l).filter fun q => decide ((q + 2 ^ 32 - o) % 2 ^ 32 ≤ n)).foldl (fun t q => t.ackSeq q) s)) ∧
  (∀ (w : Word) (s : State),
      (s.openSeqs = [] ∨ ∃ o l, s.openSeqs = o :: l ∧ 2 ^ 31 ≤ (w.toNat + 2 ^ 32 - o) % 2 ^ 32) →
      exec (.errAckUpto w) s = .next s)

/-- A watchdog makes its core leave, with cause 1; a core out of service stays. At a checkpoint each
shadow core compares, and the words of core memory read are judged. OUT waits for the layer boundary,
and is refused where fewer than ten cores would be left and no hand-over runs. RETURN of a core out of
service starts its self-test, which proves it as a shadow core or fails it; a spare is tested at times
and is spare again, or leaves. A core with 16 matches that has seen the boundary is spare, or takes role
9 where that is paused. UNFREEZE of a frozen node or master that violates nothing in that cycle frees
it, but never by the node itself. Control state that disagrees is fatal. Rests on: R396, R642, R654,
R655, R657, R658, R659, R660, R661. -/
def Obligations.CoresAndFreezesServe : Prop :=
  (∀ (n : Fin 12) (s : State),
      exec (.coreWatchdogTimeout n) s = .next (s.coreLeaves n 1)) ∧
  (∀ (n : Fin 12) (s : State),
      1 < s.coreSt n →
      exec (.coreWatchdogTimeout n) s = .next s) ∧
  (∀ (l : List (Fin 12)) (ws : List (Fin 12 × Nat × Ecc)) (n : Nat) (s u : State),
      (s.sram.flips.filter fun f => sramCore 0 ≤ f.1 && decide (f.1 < sramDescriptors)) = [] →
      n = s.fld Reg.MI_FLIP_CTRL Fld.MI_FLIP_CTRL_UNIT →
      u = (if n < 12 then s.flipHit 4 n (sramCore n) 0 else s) →
      exec (.checkpointTimer l ws) s = .next (ws.foldl (fun t w => t.coreWord w.1 w.2.1 w.2.2)
      ((List.range 12).foldl (fun t n => t.coreShadow n (!(l.map Fin.val).contains n)) u))) ∧
  (∀ (p : Path) (n : Fin 16) (s u : State),
      n.val < 12 → s.coreSt n ≤ 1 → n.val ∉ s.cores.outReq →
      (s.cores.outReq.length + 11 ≤ (s.coresIn 0).length + (s.coresIn 1).length ∨ s.boot.hand.isSome = true) →
      u = s.awaitBoundary n →
      exec (.errCoreOut p n) s = .next { u with cores := { u.cores with outReq := u.cores.outReq ++ [n.val] } }) ∧
  (∀ (p : Path) (n : Fin 16) (s : State),
      n.val < 12 → s.coreSt n ≤ 1 → n.val ∉ s.cores.outReq →
      (s.coresIn 0).length + (s.coresIn 1).length < s.cores.outReq.length + 11 → s.boot.hand = none →
      exec (.errCoreOut p n) s = .next (s.accFlag p Reg.ERR_CORE_CTRL .refused)) ∧
  (∀ (n : Fin 16) (s : State),
      n.val < 12 → s.coreSt n = 4 →
      exec (.errCoreReturn n) s = .next ((s.setFld (Reg.ERR_CORE_STAT n) Fld.ERR_CORE_STAT_STATE 2).setFld
      (Reg.ERR_CORE_STAT n) Fld.ERR_CORE_STAT_ST_FAILS 0)) ∧
  (∀ (n : Fin 12) (s u : State),
      s.coreSt n = 2 → n.val ∈ s.cores.periodic → u = { s with cores := { s.cores with periodic := s.cores.periodic.filter (· != n.val), lastTest := Kv.set s.cores.lastTest n.val s.clk.ticks } } →
      exec (.coreSelftestDone n true) s = .next (u.setCore n 1 15) ∧
      exec (.coreSelftestDone n false) s = .next ((((u.setFld (Reg.ERR_CORE_STAT n) Fld.ERR_CORE_STAT_CAUSE 5).coreFails
      n).raise .degraded Reg.ERR_EVENT Fld.ERR_EVENT_CORE_OUT 5 (40 + n)).handAbort)) ∧
  (∀ (n : Fin 12) (s u v : State),
      s.coreSt n = 2 → n.val ∉ s.cores.periodic → u = { s with cores := { s.cores with periodic := s.cores.periodic.filter (· != n.val), lastTest := Kv.set s.cores.lastTest n.val s.clk.ticks } } →
      v = { u with cores := { u.cores with
      shadowOf := (u.cores.shadowOf.filter fun e => e.1 != n.val) ++ [(n.val, u.freeShadowRole)] } } →
      exec (.coreSelftestDone n true) s = .next ((v.setFld (Reg.ERR_CORE_STAT n) Fld.ERR_CORE_STAT_STATE 3).setFld
      (Reg.ERR_CORE_STAT n) Fld.ERR_CORE_STAT_SHADOW_N 0) ∧
      exec (.coreSelftestDone n false) s = .next (u.coreFails n)) ∧
  (∀ (n : Fin 12) (s : State),
      s.coreSt n ≠ 2 →
      exec (.coreSelftestDone n true) s = .next s ∧ exec (.coreSelftestDone n false) s = .next s) ∧
  (∀ (n : Fin 12) (s u v : State),
      s.coreSt n = 3 → s.fld (Reg.ERR_CORE_STAT n) Fld.ERR_CORE_STAT_SHADOW_N = 16 → n.val ∈ s.cores.bound →
      u = s.setFld (Reg.ERR_CORE_STAT n) Fld.ERR_CORE_STAT_ST_FAILS 0 →
      v = (({ u with cores := { u.cores with shadowOf := s.cores.shadowOf.filter fun e => e.1 != n.val } } : State).event
      Reg.ERR_EVENT Fld.ERR_EVENT_CORE_BACK) →
      exec (.coreSpareReturn n) s = .next (if s.bgPaused = true
      then (({ v with cores := { v.cores with displaced := [] } } : State).setCore n 0 9).bgResume else v.setCore n 1 15)) ∧
  (∀ (n : Fin 12) (s : State),
      (s.coreSt n ≠ 3 ∨ n.val ∉ s.cores.bound) →
      exec (.coreSpareReturn n) s = .next s) ∧
  (∀ (n : Fin 12) (s u : State),
      s.coreSt n = 1 → s.boot.hand = none → u = s.setFld (Reg.ERR_CORE_STAT n) Fld.ERR_CORE_STAT_STATE 2 →
      exec (.spareSelftestTimer n) s = .next { u with cores := { u.cores with periodic := u.cores.periodic ++ [n.val] } }) ∧
  (∀ (p : Path) (w : Word) (s : State) (i r : Nat),
      i = Fld.ACC_UNFREEZE_INDEX.get w → Fld.ACC_UNFREEZE_KIND.get w = 0 → p ≠ .tunnel i →
      r = Reg.FAB_FROZEN (i / 32) → Bits.bit (s.regN r) (i % 32) = true → s.violatesNow i = false →
      exec (.accUnfreeze p w) s = .next ((s.setRegN r (s.regN r - 2 ^ (i % 32))).event Reg.ACC_EVENT Fld.ACC_EVENT_UNFREEZE)) ∧
  (∀ (w : Word) (s : State) (i : Nat),
      i = Fld.ACC_UNFREEZE_INDEX.get w → Fld.ACC_UNFREEZE_KIND.get w = 0 →
      exec (.accUnfreeze (.tunnel i) w) s = .next ((s.accFlag (.tunnel i) Reg.ACC_UNFREEZE .self).event Reg.ACC_EVENT
      Fld.ACC_EVENT_UNFREEZE_REFUSED)) ∧
  (∀ (p : Path) (w : Word) (s u : State) (i : Nat),
      i = Fld.ACC_UNFREEZE_INDEX.get w → Fld.ACC_UNFREEZE_KIND.get w ≠ 0 → i < 24 →
      Bits.bit (s.regN Reg.ACC_FROZEN_INT) i = true → s.violatesNow (1024 + i) = false →
      u = ((s.setRegN Reg.ACC_FROZEN_INT (s.regN Reg.ACC_FROZEN_INT - 2 ^ i)).event Reg.ACC_EVENT Fld.ACC_EVENT_UNFREEZE) →
      (i < 8 → ∀ v, v = (((u.setCh i 4).setFld (Reg.ING_CH_STATUS i) Fld.ING_CH_STATUS_CAUSE 5).event Reg.ING_EVENT
        Fld.ING_EVENT_HALT) → exec (.accUnfreeze p w) s = .next (v.chEvent i 3 (v.pair (Reg.ING_CH_CUR_LO i)) 0 0)) ∧
      (8 ≤ i → i < 12 → exec (.accUnfreeze p w) s = .next u) ∧
      (12 ≤ i → exec (.accUnfreeze p w) s = .next ((u.setFld (Reg.ERR_CORE_STAT (i - 12)) Fld.ERR_CORE_STAT_STATE 2).setFld
        (Reg.ERR_CORE_STAT (i - 12)) Fld.ERR_CORE_STAT_ST_FAILS 0))) ∧
  (∀ (k : Fin 16) (s : State),
      exec (.controlStateDisagreement 0) s = .next (s.fatalBare Reg.GY_EVENT 0 unitGy) ∧
      exec (.controlStateDisagreement 1) s = .next (s.logErr .fatal 1 (errCodeNone 0) unitCounter 0).fatalStop ∧
      exec (.controlStateDisagreement 2) s = .next (s.fatalBare Reg.PWR_EVENT 0 unitReg) ∧
      exec (.controlStateDisagreement ⟨k + 3, by omega⟩) s = .next (s.fatalBare Reg.DC_EVENT 0 (unitDram k)))

/-- In a layer, a material with no DOSECURVE in effect has ENTRY[k] = min(16 k, 65535) for every k.
Rests on: R86. -/
def Obligations.DefaultDoseCurve : Prop :=
  ∀ (l : Layer) (m k : Nat),
      Kv.get l.curves m = none →
      l.dose m k = min (16 * k) 65535

/-- When the TB PLL first locks after power or RESET_N, seconds, nanoseconds and FRAC are 0, the time
quality is INVALID and TB_TICKS is 0; from then on TB_TICKS counts every tick, whatever the
increment and the slew, and no steering command changes it. Rests on: R331. -/
def Obligations.CounterStartsAtLock : Prop :=
  (∀ (c : Nat) (s : State),
      s.clk.pllLocked = false → s.clk.deepHeld = false →
      Next (.tbPllLock c) s fun t => t.now16 = 0 ∧ t.tq = 0 ∧ t.clk.ticks = 0 ∧ t.clk.pllLocked = true) ∧
  (∀ (n : Nat) (s : State),
      s.clk.pllLocked = true →
      (s.elapse n).clk.ticks = (s.clk.ticks + n) % 2 ^ 64) ∧
  (∀ (p : Path) (w : Word) (s t : State),
      (exec (.tbStepCmd p) s = .next t ∨ exec (.tbIncrWrite p w) s = .next t ∨ exec (.tbAdjCommit p w) s = .next t ∨ exec .stepApply s = .next t) →
      t.clk.ticks = s.clk.ticks)

/-- Reading LO latches HI for the next read of HI through that path; HI read with no LO read before it
shows its current value; writing LO only stages; writing HI commits both halves, the low half
unchanged when none is staged. Rests on: R15. -/
def Obligations.PairsLatchAndStage : Prop :=
  (∀ (p : Path) (a : Nat) (s v : State),
      RegMap.isLo a = true → RegMap.isLo (a + 4) = false → a ≠ Reg.GLB_GPIO_IN →
      a + 4 ≠ Reg.GLB_GPIO_IN → a + 4 ≠ Reg.TB_NOW_SEC_LO →
      v.pathSt p = (s.readReg p a).2.pathSt p →
      (s.readReg p a).1 = s.viewReg a ∧ (v.readReg p (a + 4)).1 = s.viewReg (a + 4)) ∧
  (∀ (p : Path) (a : Nat) (s : State),
      RegMap.isLo a = true → RegMap.isLo (a + 4) = false → a ≠ Reg.GLB_GPIO_IN →
      a + 4 ≠ Reg.GLB_GPIO_IN → a + 4 ≠ Reg.TB_NOW_SEC_LO →
      Kv.get (s.pathSt p).latch (a + 4) = none →
      (s.readReg p (a + 4)).1 = s.viewReg (a + 4)) ∧
  (∀ (p : Path) (a : Nat) (w : Word) (s : State),
      (s.stageLo p a w).regs = s.regs) ∧
  (∀ (p : Path) (a : Nat) (lo hi : Word) (s : State),
      Inv s →
      ((s.stageLo p a lo).commitPair p a hi).reg a = lo ∧ ((s.stageLo p a lo).commitPair p a hi).reg (a + 4) = hi) ∧
  (∀ (p : Path) (a : Nat) (hi : Word) (s : State),
      Inv s → Kv.get (s.pathSt p).staged a = none →
      (s.commitPair p a hi).reg a = s.reg a ∧ (s.commitPair p a hi).reg (a + 4) = hi)

/-- One tick of the TB clock adds TB_INCR and the slew step to SUB, carries whole nanoseconds into NS
and a whole second into SEC, and takes the step off slew_rem. Rests on: R329, R330, R340. -/
def Obligations.TickAdvancesTheCounter : Prop :=
  ∀ (s t : State) (r : Nat) (step : Int) (sub ns sec x : Nat),
      s.clk.pllLocked = true → s.clk.slewK = slewStepOf r → t = s.elapse 1 →
      (step = if 0 < s.clk.slewRem then min s.clk.slewRem s.clk.slewK else max s.clk.slewRem (-(s.clk.slewK : Int))) →
      sub = s.clk.count % 2 ^ 28 → ns = s.clk.count / 2 ^ 28 % 1000000000 →
      sec = s.clk.count / 2 ^ 28 / 1000000000 →
      x = (((sub + s.tbIncr : Nat) : Int) + step).toNat →
      t.clk.slewRem = s.clk.slewRem - step ∧ t.clk.count % 2 ^ 28 = x % 2 ^ 28 ∧
      t.clk.count / 2 ^ 28 % 1000000000 = (if 1000000000 ≤ ns + x / 2 ^ 28 then ns + x / 2 ^ 28 - 1000000000 else ns + x / 2 ^ 28) ∧
      t.clk.count / 2 ^ 28 / 1000000000 = (if 1000000000 ≤ ns + x / 2 ^ 28 then sec + 1 else sec) % 2 ^ 64
end

