-- ==== Sys2Proof/Laws/Kv.lean ====
section
/-! SUPPORT. Sparse stores: what a write leaves at its key and at every other key, and that writing and filtering keep
the canonical form. -/

set_option linter.unusedTactic false
set_option linter.unreachableTactic false
set_option Elab.async false

namespace Sys2Proof.Laws

open Sys2Proof Sys2Proof.Safety

variable {α : Type}

/-- A write keeps the keys rising. -/
theorem sorted_set {l : List (Nat × α)} {k : Nat} {v : α} (h : Kv.sorted l = true) : Kv.sorted (Kv.set l k v) = true := by
  rw [Kv.sorted, decide_eq_true_eq] at h ⊢
  refine List.pairwise_append.2 ⟨h.filter _, List.pairwise_cons.2 ⟨fun y hy => ?_, h.filter _⟩, fun x hx y hy => ?_⟩
  · simpa using (List.mem_filter.1 hy).2
  · have hx : x.1 < k := by simpa using (List.mem_filter.1 hx).2
    rcases List.mem_cons.1 hy with rfl | hy
    · exact hx
    · exact hx.trans (by simpa using (List.mem_filter.1 hy).2)

/-- Filtering keeps the keys rising. -/
theorem sorted_filter {l : List (Nat × α)} {p : Nat × α → Bool} (h : Kv.sorted l = true) :
    Kv.sorted (l.filter p) = true := by
  rw [Kv.sorted, decide_eq_true_eq] at h ⊢
  exact h.filter p

theorem mem_set {l : List (Nat × α)} {k : Nat} {v : α} {e : Nat × α} (h : e ∈ Kv.set l k v) :
    e = (k, v) ∨ e ∈ l := by
  simp only [Kv.set, List.mem_append, List.mem_cons, List.mem_filter] at h
  tauto

/-- The key written reads as the value written. -/
theorem get_set_same {l : List (Nat × α)} {k : Nat} {v : α} : Kv.get (Kv.set l k v) k = some v := by
  have e : (l.filter (·.1 < k)).find? (·.1 == k) = none := by
    simp only [List.find?_eq_none, List.mem_filter, beq_iff_eq]
    rintro x ⟨-, hx⟩ rfl
    simp at hx
  simp [Kv.get, Kv.set, List.find?_append, e]

/-- A filter that keeps whatever has key `j` does not change what `j` reads as. -/
theorem get_filter {l : List (Nat × α)} {j : Nat} {p : Nat × α → Bool} (h : ∀ e, e.1 = j → p e = true) :
    Kv.get (l.filter p) j = Kv.get l j := by
  unfold Kv.get
  rw [List.find?_filter]
  congr 2
  funext e
  rcases eq_or_ne e.1 j with q | q
  · simp only [h e q, true_and, Bool.decide_eq_true]
  · simp [beq_false_of_ne q]

/-- Every other key reads as before. -/
theorem get_set_other {l : List (Nat × α)} {k j : Nat} {v : α} (h : j ≠ k) :
    Kv.get (Kv.set l k v) j = Kv.get l j := by
  have split {a b : List (Nat × α)} : Kv.get (a ++ b) j = (Kv.get a j).or (Kv.get b j) := by
    unfold Kv.get
    rw [List.find?_append]
    cases a.find? (·.1 == j) <;> rfl
  have skip {b : List (Nat × α)} : Kv.get ((k, v) :: b) j = Kv.get b j := by
    simp [Kv.get, Ne.symm h]
  have none_ {p : Nat × α → Bool} (g : ∀ e, e.1 = j → p e = false) : Kv.get (l.filter p) j = none := by
    simp only [Kv.get, Option.map_eq_none_iff, List.find?_eq_none, List.mem_filter, beq_iff_eq]
    rintro e ⟨-, he⟩ q
    simp [g e q] at he
  unfold Kv.set
  rw [split, skip]
  rcases Nat.lt_or_gt_of_ne h with q | q
  · rw [get_filter (p := fun e => decide (e.1 < k)) (by rintro e rfl; simpa using q),
      none_ (p := fun e => decide (k < e.1)) (by rintro e rfl; simpa using q.le), Option.or_none]
  · rw [none_ (p := fun e => decide (e.1 < k)) (by rintro e rfl; simpa using q.le),
      get_filter (p := fun e => decide (k < e.1)) (by rintro e rfl; simpa using q), Option.none_or]

/-- A key that is taken out reads as nothing. -/
theorem get_del_same {l : List (Nat × α)} {k : Nat} : Kv.get (Kv.del l k) k = none := by
  simp [Kv.get, Kv.del, List.find?_eq_none]

/-- Every other key reads as before. -/
theorem get_del_other {l : List (Nat × α)} {k j : Nat} (hj : j ≠ k) : Kv.get (Kv.del l k) j = Kv.get l j :=
  get_filter fun e h => by simpa [h] using hj

variable [DecidableEq α]

/-- A write keeps the canonical form. -/
theorem canon_put {d : Nat → α} {l : List (Nat × α)} {k : Nat} {v : α} (h : canon d l = true) :
    canon d (Kv.put l k v (d k)) = true := by
  obtain ⟨hs, hd⟩ := Bool.and_eq_true_iff.1 h
  rw [List.all_eq_true] at hd
  unfold Kv.put
  split_ifs with hv
  · exact Bool.and_eq_true_iff.2 ⟨sorted_filter hs, List.all_eq_true.2 fun e he => hd e (List.mem_filter.1 he).1⟩
  · refine Bool.and_eq_true_iff.2 ⟨sorted_set hs, List.all_eq_true.2 fun e he => ?_⟩
    rcases mem_set he with rfl | he
    · exact decide_eq_true hv
    · exact hd e he

/-- Filtering keeps the canonical form. -/
theorem canon_filter {d : Nat → α} {l : List (Nat × α)} {p : Nat × α → Bool} (h : canon d l = true) :
    canon d (l.filter p) = true := by
  obtain ⟨hs, hd⟩ := Bool.and_eq_true_iff.1 h
  exact Bool.and_eq_true_iff.2 ⟨sorted_filter hs,
    List.all_eq_true.2 fun e he => List.all_eq_true.1 hd e (List.mem_filter.1 he).1⟩

/-- The key written reads as the value written. -/
theorem getD_put_same {l : List (Nat × α)} {k : Nat} {v d : α} : Kv.getD (Kv.put l k v d) k d = v := by
  unfold Kv.getD Kv.put
  split_ifs with hv
  · simp [get_del_same, hv]
  · simp [get_set_same]

/-- Every other key reads as before. -/
theorem getD_put_other {l : List (Nat × α)} {k j : Nat} {v d e : α} (hj : j ≠ k) :
    Kv.getD (Kv.put l k v d) j e = Kv.getD l j e := by
  unfold Kv.getD Kv.put
  split_ifs
  · rw [get_del_other hj]
  · rw [get_set_other hj]

end Sys2Proof.Laws
end

