-- ==== Sys2Proof/Laws/Keeps.lean ====
section
/-! SUPPORT. What an operation can do to the state, said once: `Keeps F a b` says that from `a` to `b` only the parts
in `F` change, that the invariant is kept, that no free value is taken twice and that a programmed OTP stays. -/

set_option linter.unusedTactic false
set_option linter.unreachableTactic false
set_option Elab.async false

namespace Sys2Proof.Laws

open Sys2Proof.Machine Sys2Proof.Safety

/-- From `a` to `b` only parts in `F` change, and what every operation keeps is kept. -/
structure Keeps (F : Part → Prop) (a b : State) : Prop where
  same : ∀ p, ¬ F p → p.same a b
  inv : Inv a → Inv b
  free : a.freeCount ≤ b.freeCount
  otp : Inv a → ∀ k, a.boot.otp = some k → b.boot.otp = some k

/-- `Keeps` of the next state, where there is one. -/
def KeepsOut (F : Part → Prop) (a : State) (o : Host.Outcome State Fault Refusal) : Prop :=
  ∀ t, o = .next t → Keeps F a t

/-- `Keeps` of the state an option holds. -/
def KeepsOpt (F : Part → Prop) (a : State) (o : Option State) : Prop := ∀ t, o = some t → Keeps F a t

variable {F : Part → Prop} {a s t : State}

theorem Keeps.refl : Keeps F a a := ⟨fun p _ => by cases p <;> rfl, id, Nat.le_refl _, fun _ _ h => h⟩

theorem Part.same_trans {p : Part} {b : State} (h : p.same a s) (g : p.same s b) : p.same a b := by
  cases p <;> exact Eq.trans g h

theorem Keeps.trans {b : State} (h : Keeps F a s) (g : Keeps F s b) : Keeps F a b :=
  ⟨fun p hp => Part.same_trans (h.same p hp) (g.same p hp), fun i => g.inv (h.inv i), Nat.le_trans h.free g.free,
    fun i k hk => g.otp (h.inv i) k (h.otp i k hk)⟩

@[simp ↓] theorem keepsOut_next : KeepsOut F a (.next t) ↔ Keeps F a t := by
  simp [KeepsOut]

@[simp ↓] theorem keepsOut_fault {f : Fault} : KeepsOut F a (.fault f) := by
  simp [KeepsOut]

@[simp ↓] theorem keepsOut_refused {f : Refusal} : KeepsOut F a (.refused f) := by
  simp [KeepsOut]

@[simp ↓] theorem keepsOpt_some : KeepsOpt F a (some t) ↔ Keeps F a t := by
  simp [KeepsOpt]

@[simp ↓] theorem keepsOpt_none : KeepsOpt F a none := by
  simp [KeepsOpt]

@[simp ↓] theorem keeps_ite {c : Prop} [Decidable c] (h : Keeps F a s) (g : Keeps F a t) :
    Keeps F a (if c then s else t) := by
  split <;> assumption

@[simp ↓] theorem keepsOut_ite {c : Prop} [Decidable c] {o q : Host.Outcome State Fault Refusal}
    (h : KeepsOut F a o) (g : KeepsOut F a q) : KeepsOut F a (if c then o else q) := by
  split <;> assumption

@[simp ↓] theorem keepsOpt_ite {c : Prop} [Decidable c] {o q : Option State}
    (h : KeepsOpt F a o) (g : KeepsOpt F a q) : KeepsOpt F a (if c then o else q) := by
  split <;> assumption

@[simp ↓] theorem keepsOpt_map {α : Type} {o : Option α} {f : α → State} (h : ∀ x, Keeps F a (f x)) :
    KeepsOpt F a (o.map f) := by
  cases o <;> simp [h]

@[simp ↓] theorem keeps_foldl {α : Type} {f : State → α → State} {l : List α} (h : Keeps F a s)
    (g : ∀ t x, Keeps F a t → Keeps F a (f t x)) : Keeps F a (l.foldl f s) :=
  List.foldlRecOn l f h fun t ht x _ => g t x ht

/-- A change of the parts in `F` that touches nothing else `Keeps` names. -/
theorem Keeps.upd {b : State} (h : Keeps F a s) (hs : ∀ p, ¬ F p → p.same s b) (hi : Inv s → Inv b)
    (hf : s.freeCount ≤ b.freeCount) (ho : Inv s → ∀ k, s.boot.otp = some k → b.boot.otp = some k) : Keeps F a b :=
  h.trans ⟨hs, hi, hf, ho⟩

/-! ### Records with one part changed -/

@[simp ↓] theorem keeps_locked {x} (h : Keeps F a s) (hF : F .locked) : Keeps F a { s with locked := x } :=
  h.upd (fun p hp => by cases p <;> first | rfl | exact absurd hF hp) id (Nat.le_refl _) fun _ _ h => h

@[simp ↓] theorem keeps_paths {x} (h : Keeps F a s) (hF : F .paths) : Keeps F a { s with paths := x } :=
  h.upd (fun p hp => by cases p <;> first | rfl | exact absurd hF hp) id (Nat.le_refl _) fun _ _ h => h

@[simp ↓] theorem keeps_log {x} (h : Keeps F a s) (hF : F .log) : Keeps F a { s with log := x } :=
  h.upd (fun p hp => by cases p <;> first | rfl | exact absurd hF hp) id (Nat.le_refl _) fun _ _ h => h

@[simp ↓] theorem keeps_cores {x} (h : Keeps F a s) (hF : F .cores) : Keeps F a { s with cores := x } :=
  h.upd (fun p hp => by cases p <;> first | rfl | exact absurd hF hp) id (Nat.le_refl _) fun _ _ h => h

@[simp ↓] theorem keeps_mgt {x} (h : Keeps F a s) (hF : F .mgt) : Keeps F a { s with mgt := x } :=
  h.upd (fun p hp => by cases p <;> first | rfl | exact absurd hF hp) id (Nat.le_refl _) fun _ _ h => h

@[simp ↓] theorem keeps_layers {x} (h : Keeps F a s) (hF : F .layers) : Keeps F a { s with layers := x } :=
  h.upd (fun p hp => by cases p <;> first | rfl | exact absurd hF hp) id (Nat.le_refl _) fun _ _ h => h

@[simp ↓] theorem keeps_lpBytes {x} (h : Keeps F a s) (hF : F .lpBytes) : Keeps F a { s with lpBytes := x } :=
  h.upd (fun p hp => by cases p <;> first | rfl | exact absurd hF hp) id (Nat.le_refl _) fun _ _ h => h

@[simp ↓] theorem keeps_rows {x} (h : Keeps F a s) (hF : F .rows) : Keeps F a { s with rows := x } :=
  h.upd (fun p hp => by cases p <;> first | rfl | exact absurd hF hp) id (Nat.le_refl _) fun _ _ h => h

@[simp ↓] theorem keeps_surveys {x} (h : Keeps F a s) (hF : F .surveys) : Keeps F a { s with surveys := x } :=
  h.upd (fun p hp => by cases p <;> first | rfl | exact absurd hF hp) id (Nat.le_refl _) fun _ _ h => h

@[simp ↓] theorem keeps_clk {x} (h : Keeps F a s) (hF : F .clk) : Keeps F a { s with clk := x } :=
  h.upd (fun p hp => by cases p <;> first | rfl | exact absurd hF hp) id (Nat.le_refl _) fun _ _ h => h

@[simp ↓] theorem keeps_parser {x} (h : Keeps F a s) (hF : F .parser) : Keeps F a { s with parser := x } :=
  h.upd (fun p hp => by cases p <;> first | rfl | exact absurd hF hp) id (Nat.le_refl _) fun _ _ h => h

@[simp ↓] theorem keeps_beams {x} (h : Keeps F a s) (hF : F .beams) : Keeps F a { s with beams := x } :=
  h.upd (fun p hp => by cases p <;> first | rfl | exact absurd hF hp) id (Nat.le_refl _) fun _ _ h => h

@[simp ↓] theorem keeps_gy {x} (h : Keeps F a s) (hF : F .gy) (hx : F .estop ∨ x.estop = s.gy.estop) :
    Keeps F a { s with gy := x } :=
  h.upd (fun p hp => by cases p <;> first | rfl | exact absurd hF hp | exact hx.resolve_left hp) id (Nat.le_refl _)
    fun _ _ h => h

@[simp ↓] theorem keeps_recs {x} (h : Keeps F a s) (hF : F .recs) : Keeps F a { s with recs := x } :=
  h.upd (fun p hp => by cases p <;> first | rfl | exact absurd hF hp) id (Nat.le_refl _) fun _ _ h => h

@[simp ↓] theorem keeps_blocks {x} (h : Keeps F a s) (hF : F .blocks) : Keeps F a { s with blocks := x } :=
  h.upd (fun p hp => by cases p <;> first | rfl | exact absurd hF hp) id (Nat.le_refl _) fun _ _ h => h

@[simp ↓] theorem keeps_cal {x} (h : Keeps F a s) (hF : F .cal) : Keeps F a { s with cal := x } :=
  h.upd (fun p hp => by cases p <;> first | rfl | exact absurd hF hp) id (Nat.le_refl _) fun _ _ h => h

@[simp ↓] theorem keeps_shown {x} (h : Keeps F a s) (hF : F .shown) : Keeps F a { s with shown := x } :=
  h.upd (fun p hp => by cases p <;> first | rfl | exact absurd hF hp) id (Nat.le_refl _) fun _ _ h => h

@[simp ↓] theorem keeps_sram {x} (h : Keeps F a s) (hF : F .sram) : Keeps F a { s with sram := x } :=
  h.upd (fun p hp => by cases p <;> first | rfl | exact absurd hF hp) id (Nat.le_refl _) fun _ _ h => h

@[simp ↓] theorem keeps_cache {x} (h : Keeps F a s) (hF : F .cache) : Keeps F a { s with cache := x } :=
  h.upd (fun p hp => by cases p <;> first | rfl | exact absurd hF hp) id (Nat.le_refl _) fun _ _ h => h

@[simp ↓] theorem keeps_pins {x} (h : Keeps F a s) (hF : F .pins) : Keeps F a { s with pins := x } :=
  h.upd (fun p hp => by cases p <;> first | rfl | exact absurd hF hp) id (Nat.le_refl _) fun _ _ h => h

@[simp ↓] theorem keeps_sent {x} (h : Keeps F a s) (hF : F .sent) : Keeps F a { s with sent := x } :=
  h.upd (fun p hp => by cases p <;> first | rfl | exact absurd hF hp) id (Nat.le_refl _) fun _ _ h => h

@[simp ↓] theorem keeps_due {x} (h : Keeps F a s) (hF : F .due) : Keeps F a { s with due := x } :=
  h.upd (fun p hp => by cases p <;> first | rfl | exact absurd hF hp) id (Nat.le_refl _) fun _ _ h => h

@[simp ↓] theorem keeps_dram {x} (h : Keeps F a s) (hF : F .dram) : Keeps F a { s with dram := x } :=
  h.upd (fun p hp => by cases p <;> first | rfl | exact absurd hF hp) id (Nat.le_refl _) fun _ _ h => h

@[simp ↓] theorem keeps_pw {x} (h : Keeps F a s) (hF : F .pw) : Keeps F a { s with pw := x } :=
  h.upd (fun p hp => by cases p <;> first | rfl | exact absurd hF hp) id (Nat.le_refl _) fun _ _ h => h

@[simp ↓] theorem keeps_freeCount {x} (h : Keeps F a s) (hF : F .freeCount) (hx : s.freeCount ≤ x) :
    Keeps F a { s with freeCount := x } :=
  h.upd (fun p hp => by cases p <;> first | rfl | exact absurd hF hp) id hx fun _ _ h => h

@[simp ↓] theorem keeps_boot {x} (h : Keeps F a s) (hF : F .boot) (hx : x.otp = s.boot.otp)
    (hy : x.otpNext = s.boot.otpNext) (hz : F .phase ∨ x.phase = s.boot.phase) : Keeps F a { s with boot := x } :=
  h.upd (fun p hp => by cases p <;> first | rfl | exact absurd hF hp | exact hz.resolve_left hp)
    (fun i => ⟨i.1, i.2.1, i.2.2.1, i.2.2.2.1, by simpa [otpOk, hx, hy] using i.2.2.2.2⟩) (Nat.le_refl _)
    fun _ _ h => hx.trans h

theorem keeps_mem {x} (h : Keeps F a s) (hF : F .mem) (hx : Memory.wf s.mem = true → Memory.wf x = true) :
    Keeps F a { s with mem := x } :=
  h.upd (fun p hp => by cases p <;> first | rfl | exact absurd hF hp) (fun i => ⟨hx i.1, i.2⟩) (Nat.le_refl _)
    fun _ _ h => h

theorem keeps_regs {x} (h : Keeps F a s) (hF : F .regs)
    (hx : canon RegMap.resetWord s.regs = true → canon RegMap.resetWord x = true) :
    Keeps F a { s with regs := x } :=
  h.upd (fun p hp => by cases p <;> first | rfl | exact absurd hF hp) (fun i => ⟨i.1, hx i.2.1, i.2.2⟩)
    (Nat.le_refl _) fun _ _ h => h

theorem keeps_tables {x} (h : Keeps F a s) (hF : F .tables)
    (hx : canon (fun _ => (0 : Word)) s.tables = true → canon (fun _ => (0 : Word)) x = true) :
    Keeps F a { s with tables := x } :=
  h.upd (fun p hp => by cases p <;> first | rfl | exact absurd hF hp) (fun i => ⟨i.1, i.2.1, hx i.2.2.1, i.2.2.2⟩)
    (Nat.le_refl _) fun _ _ h => h

/-- A change that keeps the number of units. -/
theorem keeps_units_of {b : State} (h : Keeps F a s) (hs : ∀ p, ¬ F p → p.same s b)
    (hr : b.regs = s.regs) (ht : b.tables = s.tables) (hm : b.mem = s.mem) (hu : unitsOk b = unitsOk s)
    (hf : b.freeCount = s.freeCount) (ho : b.boot = s.boot) : Keeps F a b :=
  h.upd hs (fun i => ⟨by simpa [memWf, hm] using i.1, by simpa [regsWf, hr] using i.2.1,
    by simpa [tablesWf, ht] using i.2.2.1, hu.trans i.2.2.2.1, by simpa [otpOk, ho] using i.2.2.2.2⟩) hf.ge
    fun _ _ h => by rw [ho]; exact h

@[simp ↓] theorem keeps_units {x} (h : Keeps F a s) (hF : F .units) (h0 : x.length = s.units.length) :
    Keeps F a { s with units := x } :=
  keeps_units_of h (fun p hp => by cases p <;> first | rfl | exact absurd hF hp) rfl rfl rfl (by simp [unitsOk,
    h0]) rfl rfl

@[simp ↓] theorem keeps_ver {x} (h : Keeps F a s) (hF : F .ver) (h0 : x.engines.length = s.ver.engines.length) :
    Keeps F a { s with ver := x } :=
  keeps_units_of h (fun p hp => by cases p <;> first | rfl | exact absurd hF hp) rfl rfl rfl (by simp [unitsOk,
    h0]) rfl rfl

@[simp ↓] theorem keeps_hm {x} (h : Keeps F a s) (hF : F .hm) (h0 : x.length = s.hm.length) :
    Keeps F a { s with hm := x } :=
  keeps_units_of h (fun p hp => by cases p <;> first | rfl | exact absurd hF hp) rfl rfl rfl (by simp [unitsOk,
    h0]) rfl rfl

@[simp ↓] theorem keeps_doms {x} (h : Keeps F a s) (hF : F .doms) (h0 : x.length = s.doms.length) :
    Keeps F a { s with doms := x } :=
  keeps_units_of h (fun p hp => by cases p <;> first | rfl | exact absurd hF hp) rfl rfl rfl (by simp [unitsOk,
    h0]) rfl rfl

@[simp ↓] theorem keeps_ln {x} (h : Keeps F a s) (hF : F .ln) (h0 : x.lanes.length = s.ln.lanes.length) :
    Keeps F a { s with ln := x } :=
  keeps_units_of h (fun p hp => by cases p <;> first | rfl | exact absurd hF hp) rfl rfl rfl (by simp [unitsOk,
    h0]) rfl rfl

@[simp ↓] theorem keeps_motion {x} (h : Keeps F a s) (hF : F .motion) (h0 : x.gens.length = s.motion.gens.length)
    (h1 : x.fbs.length = s.motion.fbs.length) (h2 : x.cmps.length = s.motion.cmps.length) (h3 : x.servos.length =
    s.motion.servos.length) :
    Keeps F a { s with motion := x } :=
  keeps_units_of h (fun p hp => by cases p <;> first | rfl | exact absurd hF hp) rfl rfl rfl (by simp [unitsOk, h0,
    h1, h2, h3]) rfl rfl

@[simp ↓] theorem keeps_hp {x} (h : Keeps F a s) (hF : F .hp) (h0 : x.ports.length = s.hp.ports.length) :
    Keeps F a { s with hp := x } :=
  keeps_units_of h (fun p hp => by cases p <;> first | rfl | exact absurd hF hp) rfl rfl rfl (by simp [unitsOk,
    h0]) rfl rfl

@[simp ↓] theorem keeps_fab {x} (h : Keeps F a s) (hF : F .fab) (h0 : x.ports.length = s.fab.ports.length) :
    Keeps F a { s with fab := x } :=
  keeps_units_of h (fun p hp => by cases p <;> first | rfl | exact absurd hF hp) rfl rfl rfl (by simp [unitsOk,
    h0]) rfl rfl

@[simp ↓] theorem keeps_ing {x} (h : Keeps F a s) (hF : F .ing) (h0 : x.chans.length = s.ing.chans.length) :
    Keeps F a { s with ing := x } :=
  keeps_units_of h (fun p hp => by cases p <;> first | rfl | exact absurd hF hp) rfl rfl rfl (by simp [unitsOk,
    h0]) rfl rfl

/-- Several parts changed at once. -/
@[simp ↓ low] theorem keeps_many {x0 x1 x2 x3 x4 x5 x6 x7 x8 x9 x10 x11 x12 x13 x14 x15 x16 x17 x18 x19 x20 x21 x22
    x23 x24 x25 x26} (h : Keeps F a s) (h0 : F .locked ∨ x0 = s.locked) (h1 : F .paths ∨ x1 = s.paths) (h2 : F .log
    ∨ x2 = s.log) (h3 : F .cores ∨ x3 = s.cores) (h4 : F .mgt ∨ x4 = s.mgt) (h5 : F .layers ∨ x5 = s.layers) (h6 :
    F .lpBytes ∨ x6 = s.lpBytes) (h7 : F .rows ∨ x7 = s.rows) (h8 : F .surveys ∨ x8 = s.surveys) (h9 : F .clk ∨ x9
    = s.clk) (h10 : F .parser ∨ x10 = s.parser) (h11 : F .ver ∨ x11 = s.ver) (h12 : F .beams ∨ x12 = s.beams) (h13
    : F .gy ∨ x13 = s.gy) (h14 : F .recs ∨ x14 = s.recs) (h15 : F .blocks ∨ x15 = s.blocks) (h16 : F .cal ∨ x16 =
    s.cal) (h17 : F .shown ∨ x17 = s.shown) (h18 : F .sram ∨ x18 = s.sram) (h19 : F .cache ∨ x19 = s.cache) (h20 :
    F .pins ∨ x20 = s.pins) (h21 : F .sent ∨ x21 = s.sent) (h22 : F .doms ∨ x22 = s.doms) (h23 : F .due ∨ x23 =
    s.due) (h24 : F .fab ∨ x24 = s.fab) (h25 : F .dram ∨ x25 = s.dram) (h26 : F .pw ∨ x26 = s.pw) (hx : F .estop ∨
    x13.estop = s.gy.estop) (l0 : x11.engines.length = s.ver.engines.length) (l1 : x22.length = s.doms.length) (l2
    : x24.ports.length = s.fab.ports.length) :
    Keeps F a { s with
      locked := x0, paths := x1, log := x2, cores := x3, mgt := x4, layers := x5, lpBytes := x6,
      rows := x7, surveys := x8, clk := x9, parser := x10, ver := x11, beams := x12, gy := x13, recs
      := x14, blocks := x15, cal := x16, shown := x17, sram := x18, cache := x19, pins := x20, sent
      := x21, doms := x22, due := x23, fab := x24, dram := x25, pw := x26 } := by
  refine keeps_units_of h (fun p hp => ?_) rfl rfl rfl (by simp [unitsOk, l0, l1, l2]) rfl rfl
  cases p <;> first | rfl | exact Or.resolve_left ‹_› hp

/-- The parts a layer leaves with. -/
@[simp ↓ low] theorem keeps_leave {x0 x1 x2 x3 x4 x5} (h : Keeps F a s) (h0 : F .layers ∨ x0 = s.layers) (h1 : F
    .lpBytes ∨ x1 = s.lpBytes) (h2 : F .surveys ∨ x2 = s.surveys) (h3 : F .rows ∨ x3 = s.rows) (h4 : F .units ∨ x4
    = s.units) (h5 : F .recs ∨ x5 = s.recs) (l0 : x4.length = s.units.length) :
    Keeps F a { s with
      layers := x0, lpBytes := x1, surveys := x2, rows := x3, units := x4, recs := x5 } := by
  refine keeps_units_of h (fun p hp => ?_) rfl rfl rfl (by simp [unitsOk, l0]) rfl rfl
  cases p <;> first | rfl | exact Or.resolve_left ‹_› hp

/-- The parts a row starts again with. -/
@[simp ↓ low] theorem keeps_redo {x0 x1 x2} (h : Keeps F a s) (h0 : F .ver ∨ x0 = s.ver) (h1 : F .units ∨ x1 =
    s.units) (h2 : F .rows ∨ x2 = s.rows) (l0 : x1.length = s.units.length) (l1 : x0.engines.length =
    s.ver.engines.length) :
    Keeps F a { s with
      ver := x0, units := x1, rows := x2 } := by
  refine keeps_units_of h (fun p hp => ?_) rfl rfl rfl (by simp [unitsOk, l0, l1]) rfl rfl
  cases p <;> first | rfl | exact Or.resolve_left ‹_› hp

/-- The parts a unit of the snooper is in. -/
@[simp ↓ low] theorem keeps_snoop {x0 x1} (h : Keeps F a s) (h0 : F .ing ∨ x0 = s.ing) (h1 : F .parser ∨ x1 =
    s.parser) (l0 : x0.chans.length = s.ing.chans.length) :
    Keeps F a { s with
      ing := x0, parser := x1 } := by
  refine keeps_units_of h (fun p hp => ?_) rfl rfl rfl (by simp [unitsOk, l0]) rfl rfl
  cases p <;> first | rfl | exact Or.resolve_left ‹_› hp

end Sys2Proof.Laws
end

