-- ==== Sys2Proof/Laws/KeepsOps.lean ====
section
/-! SUPPORT. What the operations of Sys2Proof/Machine/Ops.lean can change: one lemma each. -/

set_option linter.unusedTactic false
set_option linter.unreachableTactic false
set_option Elab.async false

namespace Sys2Proof.Laws

open Sys2Proof.Machine Sys2Proof.Safety

variable {F : Part → Prop} {a s : State}

@[simp ↓] theorem setReg_keeps {y1 : Nat} {w : Word} (h : Keeps F a s) (hF : F .regs) :
    Keeps F a (s.setReg y1 w) := keeps_regs h (by simpa using hF) canon_put

@[simp ↓] theorem setRegN_keeps {y1 : Nat} {v : Nat} (h : Keeps F a s) (hF : F .regs) :
    Keeps F a (s.setRegN y1 v) := by
  unfold State.setRegN
  simp (maxDischargeDepth := 60) [h, hF]

@[simp ↓] theorem setFld_keeps {y1 : Nat} {f : Field} {v : Nat} (h : Keeps F a s) (hF : F .regs) :
    Keeps F a (s.setFld y1 f v) := by
  unfold State.setFld
  simp (maxDischargeDepth := 60) [h, hF]

@[simp ↓] theorem count_keeps {y1 : Nat} {n : Nat} (h : Keeps F a s) (hF : F .regs) :
    Keeps F a (s.count y1 n) := by
  unfold State.count
  simp (maxDischargeDepth := 60) [h, hF]

@[simp ↓] theorem countFld_keeps {y1 : Nat} {f : Field} {n : Nat} (h : Keeps F a s) (hF : F .regs) :
    Keeps F a (s.countFld y1 f n) := by
  unfold State.countFld
  simp (maxDischargeDepth := 60) [h, hF]

@[simp ↓] theorem setPair_keeps {y1 : Nat} {v : Nat} (h : Keeps F a s) (hF : F .regs) :
    Keeps F a (s.setPair y1 v) := by
  unfold State.setPair
  simp (maxDischargeDepth := 60) [h, hF]

@[simp ↓] theorem setPairS_keeps {y1 : Nat} {v : Int} (h : Keeps F a s) (hF : F .regs) :
    Keeps F a (s.setPairS y1 v) := by
  unfold State.setPairS
  simp (maxDischargeDepth := 60) [h, hF]

@[simp ↓] theorem countPair_keeps {y1 : Nat} {n : Nat} (h : Keeps F a s) (hF : F .regs) :
    Keeps F a (s.countPair y1 n) := by
  unfold State.countPair
  simp (maxDischargeDepth := 60) [h, hF]

@[simp ↓] theorem emit_keeps {o : Out} (h : Keeps F a s) (hF : F .sent) :
    Keeps F a (s.emit o) := by
  unfold State.emit
  simp (maxDischargeDepth := 60) [h, hF]

@[simp ↓] theorem st_keeps {y1 : Nat} {b : Byte} (h : Keeps F a s) (hF : F .mem) :
    Keeps F a (s.st y1 b) := keeps_mem h (by simpa using hF) (canon_put (d := fun _ => 0))

@[simp ↓] theorem poke_keeps {y1 : Nat} {y2 : List Byte} (h : Keeps F a s) (hF : F .mem) :
    Keeps F a (s.poke y1 y2) := by
    induction y2 generalizing s y1 with
  | nil => exact h
  | cons b bs ih => exact ih (by simp [h, hF])

@[simp ↓] theorem setErr_keeps {w : Nat} {m : Nat} (h : Keeps F a s) (hF : F .dram) :
    Keeps F a (s.setErr w m) := by
  unfold State.setErr
  simp (maxDischargeDepth := 60) [h, hF]

@[simp ↓] theorem flipDram_keeps {y1 : Nat} (h : Keeps F a s) (hF : F .regs ∧ F .dram) :
    Keeps F a (s.flipDram y1) := by
  unfold State.flipDram
  simp (maxDischargeDepth := 60) [h, hF]

@[simp ↓] theorem takeBytes_keeps {y1 : Nat} {bs : List Byte} (h : Keeps F a s) (hF : F .mem ∧ F .dram) :
    Keeps F a (s.takeBytes y1 bs) := by
  unfold State.takeBytes
  simp (maxDischargeDepth := 60) [h, hF]

@[simp ↓] theorem stBytes_keeps {y1 : Nat} {bs : List Byte} (h : Keeps F a s) (hF : F .regs ∧ F .mem ∧ F .dram) :
    Keeps F a (s.stBytes y1 bs) := by
  unfold State.stBytes
  simp (maxDischargeDepth := 60) [h, hF]

@[simp ↓] theorem clearMem_keeps {y1 : Nat} {n : Nat} (h : Keeps F a s) (hF : F .mem ∧ F .dram) :
    Keeps F a (s.clearMem y1 n) :=
  keeps_dram (keeps_mem h hF.1 fun i => canon_filter i) hF.2

@[simp ↓] theorem setTbl_keeps {y1 : Nat} {w : Word} (h : Keeps F a s) (hF : F .tables) :
    Keeps F a (s.setTbl y1 w) := keeps_tables h (by simpa using hF) (canon_put (d := fun _ => 0))

@[simp ↓] theorem setTblBytes_keeps {y1 : Nat} {bs : List Byte} (h : Keeps F a s) (hF : F .tables) :
    Keeps F a (s.setTblBytes y1 bs) := by
  unfold State.setTblBytes
  simp (maxDischargeDepth := 60) +contextual [h, hF]

@[simp ↓] theorem free_keeps (h : Keeps F a s) (hF : F .freeCount) :
    Keeps F a (s.free).2 := by
  unfold State.free
  simp (maxDischargeDepth := 60) [h, hF]

@[simp ↓] theorem freeI_keeps (h : Keeps F a s) (hF : F .freeCount) :
    Keeps F a (s.freeI).2 := by
  unfold State.freeI
  simp (maxDischargeDepth := 60) [h, hF]

@[simp ↓] theorem milestone_keeps {m : Nat} {us : Nat} (h : Keeps F a s) (hF : F .regs) :
    Keeps F a (s.milestone m us) := by
  unfold State.milestone
  simp (maxDischargeDepth := 60) [h, hF]

@[simp ↓] theorem milestoneNow_keeps {m : Nat} (h : Keeps F a s) (hF : F .regs ∧ F .freeCount) :
    Keeps F a (s.milestoneNow m) := by
  unfold State.milestoneNow
  simp (maxDischargeDepth := 60) [h, hF]

@[simp ↓] theorem elapse_keeps {n : Nat} (h : Keeps F a s) (hF : F .clk) :
    Keeps F a (s.elapse n) := by
  unfold State.elapse
  simp (maxDischargeDepth := 60) [h, hF]

@[simp ↓] theorem runTo_keeps {t : Nat} (h : Keeps F a s) (hF : F .clk) :
    Keeps F a (s.runTo t) := by
  unfold State.runTo
  simp (maxDischargeDepth := 60) [h, hF]

end Sys2Proof.Laws
end

