-- ==== Sys2Proof/Laws/KeepsStateArea.lean ====
section
/-! SUPPORT. What the operations of Sys2Proof/Machine/StateArea.lean can change: one lemma each. -/

set_option linter.unusedTactic false
set_option linter.unreachableTactic false
set_option Elab.async false

namespace Sys2Proof.Laws

open Sys2Proof.Machine Sys2Proof.Safety

variable {F : Part → Prop} {a s : State}

@[simp ↓] theorem setHalf_keeps {d : Nat} {y2 : Nat} {x : Option StHalf} (h : Keeps F a s) (hF : F .boot) :
    Keeps F a (s.setHalf d y2 x) := by
  unfold State.setHalf
  simp (maxDischargeDepth := 60) [h, hF]

@[simp ↓] theorem appendRec_keeps {d : Nat} {r : StRec} (h : Keeps F a s) (hF : F .boot) :
    Keeps F a (s.appendRec d r) := by
  unfold State.appendRec
  simp (maxDischargeDepth := 60) [h, hF]

@[simp ↓] theorem showState_keeps (h : Keeps F a s) (hF : F .regs) :
    Keeps F a (s.showState) := by
  unfold State.showState
  dsimp only
  repeat' first
    | (simp (maxDischargeDepth := 60) +contextual [h, hF]; done)
    | split
    | (rename_i e; obtain rfl := congrArg Prod.snd e)

@[simp ↓] theorem stateWrite_keeps {r : StRec} (h : Keeps F a s) (hF : F .regs ∧ F .boot) :
    Keeps F a (s.stateWrite r) := by
  unfold State.stateWrite
  simp (maxDischargeDepth := 60) [h, hF]

end Sys2Proof.Laws
end

