-- ==== Sys2Proof/Laws/KeepsFlags.lean ====
section
/-! SUPPORT. What the operations of Sys2Proof/Machine/Flags.lean can change: one lemma each. -/

set_option linter.unusedTactic false
set_option linter.unreachableTactic false
set_option Elab.async false

namespace Sys2Proof.Laws

open Sys2Proof.Machine Sys2Proof.Safety

variable {F : Part → Prop} {a s : State}

@[simp ↓] theorem event_keeps {y1 : Nat} {f : Field} (h : Keeps F a s) (hF : F .regs) :
    Keeps F a (s.event y1 f) := by
  unfold State.event
  simp (maxDischargeDepth := 60) [h, hF]

@[simp ↓] theorem accFlag_keeps {p : Path} {addr : Nat} {r : FlagReason} (h : Keeps F a s) (hF : F .regs) :
    Keeps F a (s.accFlag p addr r) := by
  unfold State.accFlag
  simp (maxDischargeDepth := 60) [h, hF]

@[simp ↓] theorem ringEnter_keeps {r : ErrRec} (h : Keeps F a s) (hF : F .regs ∧ F .log) :
    Keeps F a (s.ringEnter r) := by
  unfold State.ringEnter
  simp (maxDischargeDepth := 60) [h, hF]

@[simp ↓] theorem slotFill_keeps {r : ErrRec} {ringFull : Bool} (h : Keeps F a s) (hF : F .regs ∧ F .log) :
    Keeps F a (s.slotFill r ringFull) := by
  unfold State.slotFill
  simp (maxDischargeDepth := 60) [h, hF]

@[simp ↓] theorem slotCount_keeps {o : ErrRec} {r : ErrRec} (h : Keeps F a s) (hF : F .regs ∧ F .log) :
    Keeps F a (s.slotCount o r) := by
  unfold State.slotCount
  simp (maxDischargeDepth := 60) [h, hF]

@[simp ↓] theorem fatalStore_keeps {r : ErrRec} (h : Keeps F a s) (hF : F .regs) :
    Keeps F a (s.fatalStore r) := by
  unfold State.fatalStore
  simp (maxDischargeDepth := 60) +contextual [h, hF]

@[simp ↓] theorem logErr_keeps {c : Cls} {block : Nat} {code : Nat} {unit : Nat} {info : Nat} (h : Keeps F a s) (hF
    : F .regs ∧ F .log) :
    Keeps F a (s.logErr c block code unit info) := by
  unfold State.logErr
  dsimp only
  repeat' first
    | (simp (maxDischargeDepth := 60) +contextual [h, hF]; done)
    | split
    | (rename_i e; obtain rfl := congrArg Prod.snd e)

@[simp ↓] theorem raise_keeps {c : Cls} {ev : Nat} {f : Field} {cause : Nat} {unit : Nat} (h : Keeps F a s) (hF : F
    .regs ∧ F .log) :
    Keeps F a (s.raise c ev f cause unit) := by
  unfold State.raise
  simp (maxDischargeDepth := 60) [h, hF]

@[simp ↓] theorem raiseInfo_keeps {c : Cls} {ev : Nat} {f : Field} {cause : Nat} {unit : Nat} {info : Nat} (h :
    Keeps F a s) (hF : F .regs ∧ F .log) :
    Keeps F a (s.raiseInfo c ev f cause unit info) := by
  unfold State.raiseInfo
  simp (maxDischargeDepth := 60) [h, hF]

@[simp ↓] theorem mirrorRec_keeps {r : ErrRec} (h : Keeps F a s) (hF : F .regs ∧ F .mem ∧ F .dram) :
    Keeps F a (s.mirrorRec r) := by
  unfold State.mirrorRec
  simp (maxDischargeDepth := 60) [h, hF]

@[simp ↓] theorem ringDrain_keeps {y1 : Nat} (h : Keeps F a s) (hF : F .regs ∧ F .log) :
    Keeps F a (s.ringDrain y1) := by
  induction y1 generalizing s <;> unfold State.ringDrain <;> try dsimp only
  all_goals repeat' first
    | (simp (maxDischargeDepth := 60) +contextual [*]; done)
    | split
    | (rename_i e; obtain rfl := congrArg Prod.snd e)

@[simp ↓] theorem promote_keeps {u : Nat} (h : Keeps F a s) (hF : F .regs ∧ F .log) :
    Keeps F a (s.promote u) := by
  unfold State.promote
  (repeat' split) <;> simp (maxDischargeDepth := 60) +contextual [h, hF]

@[simp ↓] theorem mirrorSeq_keeps {q : Nat} (h : Keeps F a s) (hF : F .regs ∧ F .mem ∧ F .log ∧ F .dram) :
    Keeps F a (s.mirrorSeq q) := by
  unfold State.mirrorSeq
  (repeat' split) <;> simp (maxDischargeDepth := 60) +contextual [h, hF]

@[simp ↓] theorem mirrorDue_keeps (h : Keeps F a s) (hF : F .regs ∧ F .mem ∧ F .log ∧ F .dram) :
    Keeps F a (s.mirrorDue) := by
  unfold State.mirrorDue
  simp (maxDischargeDepth := 60) +contextual [h, hF]

@[simp ↓] theorem ackSeq_keeps {q : Nat} (h : Keeps F a s) (hF : F .regs ∧ F .mem ∧ F .log ∧ F .dram) :
    Keeps F a (s.ackSeq q) := by
  unfold State.ackSeq
  (repeat' split) <;> simp (maxDischargeDepth := 60) +contextual [h, hF]

@[simp ↓] theorem autoAck_keeps (h : Keeps F a s) (hF : F .regs ∧ F .mem ∧ F .log ∧ F .dram) :
    Keeps F a (s.autoAck) := by
  unfold State.autoAck
  simp (maxDischargeDepth := 60) +contextual [h, hF]

@[simp ↓] theorem unflip_keeps {y1 : Nat} {at_ : Nat} (h : Keeps F a s) (hF : F .sram) :
    Keeps F a (s.unflip y1 at_) := by
  unfold State.unflip
  simp (maxDischargeDepth := 60) [h, hF]

@[simp ↓] theorem flipsKeep_keeps {keep : Nat → Bool} (h : Keeps F a s) (hF : F .sram) :
    Keeps F a (s.flipsKeep keep) := by
  unfold State.flipsKeep
  simp (maxDischargeDepth := 60) [h, hF]

@[simp ↓] theorem flipHit_keeps {target : Nat} {unit : Nat} {y3 : Nat} {at_ : Nat} (h : Keeps F a s) (hF : F .regs
    ∧ F .sram) :
    Keeps F a (s.flipHit target unit y3 at_) := by
  unfold State.flipHit
  simp (maxDischargeDepth := 60) [h, hF]

@[simp ↓] theorem sramMark_keeps {y1 : Nat} {row : Nat} (h : Keeps F a s) (hF : F .regs ∧ F .log ∧ F .sram ∧ F
    .boot) :
    Keeps F a (s.sramMark y1 row) := by
  unfold State.sramMark
  simp (maxDischargeDepth := 60) [h, hF]

@[simp ↓] theorem sramRead_keeps {y1 : Nat} {row : Nat} {e : Ecc} (h : Keeps F a s) (hF : F .regs ∧ F .log ∧ F
    .sram ∧ F .boot) :
    Keeps F a (s.sramRead y1 row e) := by
  unfold State.sramRead
  (repeat' split) <;> simp (maxDischargeDepth := 60) +contextual [h, hF]

end Sys2Proof.Laws
end

