-- ==== Sys2Proof/Laws/KeepsDramCore.lean ====
section
/-! SUPPORT. What the operations of Sys2Proof/Machine/DramCore.lean can change: one lemma each. -/

set_option linter.unusedTactic false
set_option linter.unreachableTactic false
set_option Elab.async false

namespace Sys2Proof.Laws

open Sys2Proof.Machine Sys2Proof.Safety

variable {F : Part → Prop} {a s : State}

@[simp ↓] theorem lastErr_keeps {req : Nat} {word : Nat} {kind : Nat} (h : Keeps F a s) (hF : F .regs) :
    Keeps F a (s.lastErr req word kind) := by
  unfold State.lastErr
  simp (maxDischargeDepth := 60) [h, hF]

@[simp ↓] theorem startCopy_keeps {p : Nat} (h : Keeps F a s) (hF : F .regs ∧ F .log ∧ F .dram) :
    Keeps F a (s.startCopy p) := by
  unfold State.startCopy
  (repeat' split) <;> simp (maxDischargeDepth := 60) +contextual [h, hF]

@[simp ↓] theorem retirePage_keeps {p : Nat} (h : Keeps F a s) (hF : F .regs ∧ F .log ∧ F .dram) :
    Keeps F a (s.retirePage p) := by
  unfold State.retirePage
  simp (maxDischargeDepth := 60) [h, hF]

@[simp ↓] theorem policyRetire_keeps {p : Nat} (h : Keeps F a s) (hF : F .regs ∧ F .log ∧ F .dram) :
    Keeps F a (s.policyRetire p) := by
  unfold State.policyRetire
  simp (maxDischargeDepth := 60) [h, hF]

@[simp ↓] theorem corrPolicy_keeps {w : Nat} (h : Keeps F a s) (hF : F .regs ∧ F .log ∧ F .dram) :
    Keeps F a (s.corrPolicy w) := by
  unfold State.corrPolicy
  simp (maxDischargeDepth := 60) [h, hF]

@[simp ↓] theorem readWord_keeps {req : Nat} {w : Nat} (h : Keeps F a s) (hF : F .regs ∧ F .log ∧ F .dram) :
    Keeps F a (s.readWord req w) := by
  unfold State.readWord
  (repeat' split) <;> simp (maxDischargeDepth := 60) +contextual [h, hF]

@[simp ↓] theorem rewriteWord_keeps {w : Nat} {kept : Nat} {e : Nat} (h : Keeps F a s) (hF : F .mem ∧ F .dram) :
    Keeps F a (s.rewriteWord w kept e) := by
  unfold State.rewriteWord
  simp (maxDischargeDepth := 60) [h, hF]

@[simp ↓] theorem propagated_keeps {req : Nat} {w : Nat} (h : Keeps F a s) (hF : F .regs ∧ F .log ∧ F .dram) :
    Keeps F a (s.propagated req w) := by
  unfold State.propagated
  simp (maxDischargeDepth := 60) [h, hF]

@[simp ↓] theorem showThrottle_keeps (h : Keeps F a s) (hF : F .regs) :
    Keeps F a (s.showThrottle) := by
  unfold State.showThrottle
  simp (maxDischargeDepth := 60) [h, hF]

@[simp ↓] theorem activate_keeps {req : Nat} {b : Nat} {row : Nat} (h : Keeps F a s) (hF : F .regs ∧ F .log ∧ F
    .sent ∧ F .dram) :
    Keeps F a (s.activate req b row) := by
  unfold State.activate
  simp (maxDischargeDepth := 60) [h, hF]

@[simp ↓] theorem openRow_keeps {req : Nat} {b : Nat} {row : Nat} (h : Keeps F a s) (hF : F .regs ∧ F .log ∧ F
    .sent ∧ F .dram) :
    Keeps F a (s.openRow req b row) := by
  unfold State.openRow
  simp (maxDischargeDepth := 60) [h, hF]

@[simp ↓] theorem openGroup_keeps {req : Nat} {b : Nat} {q : Nat} (h : Keeps F a s) (hF : F .regs ∧ F .log ∧ F
    .sent ∧ F .dram) :
    Keeps F a (s.openGroup req b q) := by
  unfold State.openGroup
  simp (maxDischargeDepth := 60) +contextual [h, hF]

@[simp ↓] theorem openRows_keeps {req : Nat} {y2 : Nat} {n : Nat} (h : Keeps F a s) (hF : F .regs ∧ F .log ∧ F
    .sent ∧ F .dram) :
    Keeps F a (s.openRows req y2 n) := by
  unfold State.openRows
  simp (maxDischargeDepth := 60) +contextual [h, hF]

@[simp ↓] theorem written_keeps {x : Nat × Nat} (h : Keeps F a s) (hF : F .dram) :
    Keeps F a (s.written x) := by
  unfold State.written
  simp (maxDischargeDepth := 60) [h, hF]

@[simp ↓] theorem waits_keeps {x : Nat × Nat} (h : Keeps F a s) (hF : F .freeCount ∧ F .dram) :
    Keeps F a (s.waits x).2 := by
  unfold State.waits
  dsimp only
  repeat' first
    | (simp (maxDischargeDepth := 60) +contextual [h, hF]; done)
    | split
    | (rename_i e; obtain rfl := congrArg Prod.snd e)

@[simp ↓] theorem readOrder_keeps {x : Nat × Nat} (h : Keeps F a s) (hF : F .regs ∧ F .freeCount ∧ F .dram) :
    Keeps F a (s.readOrder x) := by
  unfold State.readOrder
  (repeat' split) <;> simp (maxDischargeDepth := 60) +contextual [h, hF]

@[simp ↓] theorem queueWrite_keeps {l : Nat} (h : Keeps F a s) (hF : F .dram) :
    Keeps F a (s.queueWrite l) := by
  unfold State.queueWrite
  simp (maxDischargeDepth := 60) [h, hF]

@[simp ↓] theorem flushEntry_keeps {e : Merge} (h : Keeps F a s) (hF : F .regs ∧ F .mem ∧ F .log ∧ F .sent ∧ F
    .dram) :
    Keeps F a (s.flushEntry e) := by
  unfold State.flushEntry
  extract_lets rest d s1 s2 s3
  have h2 : Keeps F a s2 := by simp (maxDischargeDepth := 60) [s2, s1, d, h, hF]
  clear_value s2
  have h3 : Keeps F a s3 := keeps_foldl h2 fun t x ht => by
    dsimp only
    repeat' first
      | (simp (maxDischargeDepth := 60) [ht, hF]; done)
      | split
  clear_value s3
  split <;> simp (maxDischargeDepth := 60) [h3, hF]

@[simp ↓] theorem flushRange_keeps {y1 : Nat} {n : Nat} (h : Keeps F a s) (hF : F .regs ∧ F .mem ∧ F .log ∧ F .sent
    ∧ F .dram) :
    Keeps F a (s.flushRange y1 n) := by
  unfold State.flushRange
  simp (maxDischargeDepth := 60) +contextual [h, hF]

@[simp ↓] theorem mergeLine_keeps {req : Nat} {l : Nat} {mask : Nat} (h : Keeps F a s) (hF : F .regs ∧ F .mem ∧ F
    .log ∧ F .sent ∧ F .dram) :
    Keeps F a (s.mergeLine req l mask) := by
  unfold State.mergeLine
  (repeat' split) <;> simp (maxDischargeDepth := 60) +contextual [h, hF]

@[simp ↓] theorem dramWrite_keeps {req : Nat} {y2 : Nat} {bs : List Byte} (h : Keeps F a s) (hF : F .regs ∧ F .mem
    ∧ F .log ∧ F .sent ∧ F .dram) :
    Keeps F a (s.dramWrite req y2 bs) := by
  unfold State.dramWrite
  simp (maxDischargeDepth := 60) +contextual [h, hF]

@[simp ↓] theorem fetch_keeps {req : Nat} {y2 : Nat} {n : Nat} (h : Keeps F a s) (hF : F .regs ∧ F .mem ∧ F
    .freeCount ∧ F .log ∧ F .sent ∧ F .dram) :
    Keeps F a (s.fetch req y2 n).2.2 := by
  unfold State.fetch
  simp (maxDischargeDepth := 60) +contextual [h, hF]

@[simp ↓] theorem store_keeps {req : Nat} {y2 : Nat} {bs : List Byte} (h : Keeps F a s) (hF : F .regs ∧ F .mem ∧ F
    .log ∧ F .sent ∧ F .dram) :
    Keeps F a (s.store req y2 bs) := by
  unfold State.store
  simp (maxDischargeDepth := 60) [h, hF]

end Sys2Proof.Laws
end

