-- ==== Sys2Proof/Laws/KeepsOperands.lean ====
section
/-! SUPPORT. What the operations of Sys2Proof/Machine/Operands.lean can change: one lemma each. -/

set_option linter.unusedTactic false
set_option linter.unreachableTactic false
set_option Elab.async false

namespace Sys2Proof.Laws

open Sys2Proof.Machine Sys2Proof.Safety

variable {F : Part → Prop} {a s : State}

@[simp ↓] theorem onLayer_keeps {q : Nat} {f : Layer → Layer} (h : Keeps F a s) (hF : F .layers) :
    Keeps F a (s.onLayer q f) := by
  unfold State.onLayer
  simp (maxDischargeDepth := 60) [h, hF]

@[simp ↓] theorem onSwath_keeps {layer : Nat} {idx : Nat} {f : Swath → Swath} (h : Keeps F a s) (hF : F .gy) :
    Keeps F a (s.onSwath layer idx f) := by
  unfold State.onSwath
  simp (maxDischargeDepth := 60) [h, hF]

end Sys2Proof.Laws
end

