-- ==== Sys2Proof/Laws/KeepsRecord.lean ====
section
/-! SUPPORT. What the operations of Sys2Proof/Machine/Record.lean can change: one lemma each. -/

set_option linter.unusedTactic false
set_option linter.unreachableTactic false
set_option Elab.async false

namespace Sys2Proof.Laws

open Sys2Proof.Machine Sys2Proof.Safety

variable {F : Part → Prop} {a s : State}

@[simp ↓] theorem recWrite_keeps {o : Nat} {bs : List Byte} (h : Keeps F a s) (hF : F .regs ∧ F .mem ∧ F .log ∧ F
    .sent ∧ F .dram) :
    Keeps F a (s.recWrite o bs) := by
  unfold State.recWrite
  simp (maxDischargeDepth := 60) [h, hF]

@[simp ↓] theorem recFetch_keeps {req o n : Nat} (h : Keeps F a s) (hF : F .regs ∧ F .mem ∧ F .freeCount ∧ F .log ∧
    F .sent ∧ F .dram) :
    Keeps F a (s.recFetch req o n).2.2 := by
  unfold State.recFetch
  exact List.foldlRecOn (motive := fun (x : Bool × List Byte × State) => Keeps F a x.2.2) _ _ h fun x hx p _ => by
    dsimp only
    exact fetch_keeps hx (by simp [hF])

@[simp ↓] theorem setIndex_keeps {slot : Nat} {layer : Nat} {st : Nat} {swaths : Nat} {first : Nat} {endO : Nat}
    {missing : Nat} (h : Keeps F a s) (hF : F .tables) :
    Keeps F a (s.setIndex slot layer st swaths first endO missing) := by
  unfold State.setIndex
  simp (maxDischargeDepth := 60) [h, hF]

@[simp ↓] theorem showRec_keeps {layer : Nat} (h : Keeps F a s) (hF : F .tables) :
    Keeps F a (s.showRec layer) := by
  unfold State.showRec
  (repeat' split) <;> simp (maxDischargeDepth := 60) +contextual [h, hF]

@[simp ↓] theorem blockMissing_keeps {q : Nat} (h : Keeps F a s) (hF : F .regs ∧ F .tables ∧ F .log ∧ F .recs) :
    Keeps F a (s.blockMissing q) := by
  unfold State.blockMissing
  simp (maxDischargeDepth := 60) [h, hF]

@[simp ↓] theorem putBlock_keeps {kind : Nat} {flags : Nat} {port : Nat} {layer : Nat} {swath : Nat} {lines : Nat}
    {first : Nat} {stride : Nat} {data : List Byte} (h : Keeps F a s) (hF : F .regs ∧ F .tables ∧ F .mem ∧ F .log ∧
    F .gy ∧ F .recs ∧ F .blocks ∧ F .sent ∧ F .dram) :
    Keeps F a (s.putBlock kind flags port layer swath lines first stride data) := by
  unfold State.putBlock
  split
  · exact h
  · extract_lets ofs limit crc
    split
    extract_lets fits fl body all s1 s2 s3 s4
    have h1 : Keeps F a s1 := by unfold s1; simp (maxDischargeDepth := 60) [h, hF]
    have h2 : Keeps F a s2 := by unfold s2; clear_value s1; simp (maxDischargeDepth := 60) [h1, hF]
    have h3 : Keeps F a s3 := by unfold s3; clear_value s2; simp (maxDischargeDepth := 60) [h2, hF]
    unfold s4
    clear_value s3
    simp (maxDischargeDepth := 60) [h3, hF]

@[simp ↓] theorem markMissing_keeps {o : Nat} {y2 : List Byte} (h : Keeps F a s) (hF : F .regs ∧ F .mem ∧ F .log ∧
    F .sent ∧ F .dram) :
    Keeps F a (s.markMissing o y2) := by
  unfold State.markMissing
  simp (maxDischargeDepth := 60) [h, hF]

@[simp ↓] theorem indexMissing_keeps {q : Nat} (h : Keeps F a s) (hF : F .tables) :
    Keeps F a (s.indexMissing q) := by
  unfold State.indexMissing
  dsimp only
  repeat' first
    | (simp (maxDischargeDepth := 60) +contextual [h, hF]; done)
    | split
    | (rename_i e; obtain rfl := congrArg Prod.snd e)

@[simp ↓] theorem blockLost_keeps {b : StoredBlock} (h : Keeps F a s) (hF : F .regs ∧ F .tables ∧ F .mem ∧ F .log ∧
    F .gy ∧ F .recs ∧ F .blocks ∧ F .sent ∧ F .dram) :
    Keeps F a (s.blockLost b) := by
  unfold State.blockLost
  simp (maxDischargeDepth := 60) [h, hF]

@[simp ↓] theorem flushEvs_keeps {layer : Nat} {idx : Nat} (h : Keeps F a s) (hF : F .regs ∧ F .tables ∧ F .mem ∧ F
    .log ∧ F .gy ∧ F .recs ∧ F .blocks ∧ F .sent ∧ F .dram) :
    Keeps F a (s.flushEvs layer idx) := by
  unfold State.flushEvs
  (repeat' split) <;> simp (maxDischargeDepth := 60) +contextual [h, hF]

@[simp ↓] theorem swathEv_keeps {layer : Nat} {idx : Nat} {e : EvEntry} (h : Keeps F a s) (hF : F .regs ∧ F .tables
    ∧ F .mem ∧ F .log ∧ F .gy ∧ F .recs ∧ F .blocks ∧ F .sent ∧ F .dram) :
    Keeps F a (s.swathEv layer idx e) := by
  unfold State.swathEv
  (repeat' split) <;> simp (maxDischargeDepth := 60) +contextual [h, hF]

@[simp ↓] theorem openRecord_keeps {l : Layer} (h : Keeps F a s) (hF : F .regs ∧ F .tables ∧ F .mem ∧ F .log ∧ F
    .gy ∧ F .recs ∧ F .blocks ∧ F .sent ∧ F .dram) :
    Keeps F a (s.openRecord l) := by
  unfold State.openRecord
  simp (maxDischargeDepth := 60) [h, hF]

@[simp ↓] theorem flushData_keeps {layer : Nat} {idx : Nat} {strideOf : Nat → Nat} {d : DataAcc} (h : Keeps F a s)
    (hF : F .regs ∧ F .tables ∧ F .mem ∧ F .log ∧ F .gy ∧ F .recs ∧ F .blocks ∧ F .sent ∧ F .dram) :
    Keeps F a (s.flushData layer idx strideOf d) := by
  unfold State.flushData
  simp (maxDischargeDepth := 60) [h, hF]

@[simp ↓] theorem closeSwathRec_keeps {layer : Nat} {idx : Nat} {endNs : Nat} {cause : Nat} (h : Keeps F a s) (hF :
    F .regs ∧ F .tables ∧ F .mem ∧ F .log ∧ F .gy ∧ F .recs ∧ F .blocks ∧ F .sent ∧ F .dram) :
    Keeps F a (s.closeSwathRec layer idx endNs cause) := by
  unfold State.closeSwathRec
  dsimp only
  repeat' first
    | (simp (maxDischargeDepth := 60) +contextual [h, hF]; done)
    | split
    | (rename_i e; obtain rfl := congrArg Prod.snd e)

@[simp ↓] theorem closeRecord_keeps {layer : Nat} (h : Keeps F a s) (hF : F .regs ∧ F .tables ∧ F .mem ∧ F .log ∧ F
    .gy ∧ F .recs ∧ F .blocks ∧ F .sent ∧ F .dram) :
    Keeps F a (s.closeRecord layer) := by
  unfold State.closeRecord
  (repeat' split) <;> simp (maxDischargeDepth := 60) +contextual [h, hF]

@[simp ↓] theorem endRecord_keeps {q : Nat} (h : Keeps F a s) (hF : F .regs ∧ F .tables ∧ F .mem ∧ F .log ∧ F .gy ∧
    F .recs ∧ F .blocks ∧ F .sent ∧ F .dram) :
    Keeps F a (s.endRecord q) := by
  unfold State.endRecord
  simp (maxDischargeDepth := 60) [h, hF]

@[simp ↓] theorem closeDue_keeps (h : Keeps F a s) (hF : F .regs ∧ F .tables ∧ F .mem ∧ F .log ∧ F .gy ∧ F .recs ∧
    F .blocks ∧ F .sent ∧ F .dram) :
    Keeps F a (s.closeDue) := by
  unfold State.closeDue
  simp (maxDischargeDepth := 60) +contextual [h, hF]

end Sys2Proof.Laws
end

