-- ==== Sys2Proof/Laws/KeepsBeamMap.lean ====
section
/-! SUPPORT. What the operations of Sys2Proof/Machine/BeamMap.lean can change: one lemma each. -/

set_option linter.unusedTactic false
set_option linter.unreachableTactic false
set_option Elab.async false

namespace Sys2Proof.Laws

open Sys2Proof.Machine Sys2Proof.Safety

variable {F : Part → Prop} {a s : State}

/-- Writing entries of 0-default tables one by one keeps them canonical. -/
theorem canon_foldl_put {t l : List (Nat × Word)} (h : canon (fun _ => (0 : Word)) l = true) :
    canon (fun _ => (0 : Word)) (t.foldl (fun l x => Kv.put l x.1 x.2 0) l) = true := by
  induction t generalizing l with
  | nil => exact h
  | cons x t ih => exact ih (canon_put (d := fun _ => 0) h)

@[simp ↓] theorem countStatus_keeps {old : List (Nat × Word)} {n : Nat} (h : Keeps F a s) (hF : F .regs) :
    Keeps F a (s.countStatus old n) := by
  unfold State.countStatus
  (repeat' split) <;> simp (maxDischargeDepth := 60) +contextual [h, hF]

@[simp ↓] theorem showHeader_keeps (h : Keeps F a s) (hF : F .regs) :
    Keeps F a (s.showHeader) := by
  unfold State.showHeader
  simp (maxDischargeDepth := 60) +contextual [h, hF]

@[simp ↓] theorem validateMap_keeps (h : Keeps F a s) (hF : F .regs ∧ F .log ∧ F .beams) :
    Keeps F a (s.validateMap) := by
  unfold State.validateMap
  (repeat' split) <;> simp (maxDischargeDepth := 60) +contextual [h, hF]

@[simp ↓] theorem lateDead_keeps {b : Nat} (h : Keeps F a s) (hF : F .regs ∧ F .tables ∧ F .mem ∧ F .log ∧ F .gy ∧
    F .recs ∧ F .blocks ∧ F .sent ∧ F .dram) :
    Keeps F a (s.lateDead b) := by
  unfold State.lateDead
  try dsimp only
  repeat' first
    | (simp (maxDischargeDepth := 60) +contextual [*]; done)
    | (refine keeps_foldl ?_ fun t x ht => ?_)
    | split
    | (rename_i e; obtain rfl := congrArg Prod.snd e)

@[simp ↓] theorem putStatusByte_keeps {b : Nat} {v : Nat} (h : Keeps F a s) (hF : F .tables) :
    Keeps F a (s.putStatusByte b v) := by
  unfold State.putStatusByte
  simp (maxDischargeDepth := 60) [h, hF]

@[simp ↓] theorem statusChanged_keeps (h : Keeps F a s) (hF : F .regs) :
    Keeps F a (s.statusChanged) := by
  unfold State.statusChanged
  simp (maxDischargeDepth := 60) [h, hF]

@[simp ↓] theorem setStatus_keeps {b : Nat} {v : Nat} (h : Keeps F a s) (hF : F .regs ∧ F .tables ∧ F .mem ∧ F .log
    ∧ F .gy ∧ F .recs ∧ F .blocks ∧ F .sent ∧ F .dram) :
    Keeps F a (s.setStatus b v) := by
  unfold State.setStatus
  simp (maxDischargeDepth := 60) [h, hF]

@[simp ↓] theorem setFails_keeps {b : Nat} {f : Nat} {p : Nat} (h : Keeps F a s) (hF : F .beams) :
    Keeps F a (s.setFails b f p) := by
  unfold State.setFails
  simp (maxDischargeDepth := 60) [h, hF]

@[simp ↓] theorem report_keeps {b : Nat} {r : Nat} (h : Keeps F a s) (hF : F .regs ∧ F .tables ∧ F .mem ∧ F .log ∧
    F .beams ∧ F .gy ∧ F .recs ∧ F .blocks ∧ F .sent ∧ F .dram) :
    Keeps F a (s.report b r) := by
  unfold State.report
  (repeat' split) <;> simp (maxDischargeDepth := 60) +contextual [h, hF]

@[simp ↓] theorem unreport_keeps {u : RepUndo} (h : Keeps F a s) (hF : F .regs ∧ F .tables ∧ F .beams ∧ F .gy) :
    Keeps F a (s.unreport u) := by
  unfold State.unreport
  extract_lets s1 s2 s3 rest late s4 _ s5
  have h1 : Keeps F a s1 := keeps_foldl h fun t x ht => by split <;> simp (maxDischargeDepth := 60) [ht, hF]
  clear_value s1
  have h2 : Keeps F a s2 := by simp (maxDischargeDepth := 60) [s2, h1, hF]
  clear_value s2
  have h3 : Keeps F a s3 := by simp (maxDischargeDepth := 60) [s3, h2, hF]
  clear_value s3
  have h4 : Keeps F a s4 := by simp (maxDischargeDepth := 60) [s4, h3, hF]
  clear_value s4
  simp (maxDischargeDepth := 60) [s5, h4, hF]

@[simp ↓] theorem markUnusable_keeps {b : Nat} (h : Keeps F a s) (hF : F .regs ∧ F .tables ∧ F .mem ∧ F .log ∧ F
    .beams ∧ F .gy ∧ F .recs ∧ F .blocks ∧ F .sent ∧ F .dram) :
    Keeps F a (s.markUnusable b) := by
  unfold State.markUnusable
  extract_lets mark s1
  have h1 : Keeps F a s1 := setStatus_keeps h (by simp [hF])
  clear_value s1 mark
  split
  · refine keeps_ite (keeps_beams h1 (by simp [hF])) (statusChanged_keeps (keeps_beams h1 (by simp [hF])) (by simp [hF]))
  · exact h1

@[simp ↓] theorem execBeamCmd_keeps {path : Path} {w : Word} (h : Keeps F a s) (hF : F .regs ∧ F .tables ∧ F .mem ∧
    F .log ∧ F .beams ∧ F .gy ∧ F .recs ∧ F .blocks ∧ F .sent ∧ F .dram) :
    KeepsOut F a (execBeamCmd path w s) := by
  unfold execBeamCmd
  dsimp only
  repeat' first
    | (simp (maxDischargeDepth := 60) +contextual [h, hF]; done)
    | split
    | (rename_i e; obtain rfl := congrArg Prod.snd e)

@[simp ↓] theorem execEditOpen_keeps {path : Path} {w : Word} (h : Keeps F a s) (hF : F .regs ∧ F .beams) :
    KeepsOut F a (execEditOpen path w s) := by
  unfold execEditOpen
  simp (maxDischargeDepth := 60) [h, hF]

@[simp ↓] theorem execEditCommit_keeps {path : Path} {w : Word} (h : Keeps F a s) (hF : F .regs ∧ F .beams) :
    KeepsOut F a (execEditCommit path w s) := by
  unfold execEditCommit
  simp (maxDischargeDepth := 60) [h, hF]

@[simp ↓] theorem execEditCancel_keeps {path : Path} {w : Word} (h : Keeps F a s) (hF : F .regs ∧ F .tables ∧ F
    .beams) :
    KeepsOut F a (execEditCancel path w s) := by
  unfold execEditCancel
  dsimp only
  split
  · simp (maxDischargeDepth := 60) [h, hF]
  · split
    · simp [h]
    · rename_i t v _
      have h1 := keeps_tables h hF.2.1 fun i => canon_foldl_put (t := t) (canon_filter (p := fun x => !inBeamMap x.1) i)
      have h2 := keeps_beams (x := { s.beams with saved := none, validating := false }) h1 hF.2.2
      exact keepsOut_next.2 (setFld_keeps (setFld_keeps h2 hF.1) hF.1)

end Sys2Proof.Laws
end

