-- ==== Sys2Proof/Laws/KeepsCrcUnits.lean ====
section
/-! SUPPORT. What the operations of Sys2Proof/Machine/CrcUnits.lean can change: one lemma each. -/

set_option linter.unusedTactic false
set_option linter.unreachableTactic false
set_option Elab.async false

namespace Sys2Proof.Laws

open Sys2Proof.Machine Sys2Proof.Safety

variable {F : Part → Prop} {a s : State}

@[simp ↓] theorem snoopUnit_keeps {x : Nat × Word} {k : SnoopBlock} (h : Keeps F a s) (hF : F .regs) :
    Keeps F a (s.snoopUnit x k) := by
  unfold State.snoopUnit
  simp (maxDischargeDepth := 60) [h, hF]

@[simp ↓] theorem snoopBy_keeps {us : List (Nat × Word)} {k : SnoopBlock} (h : Keeps F a s) (hF : F .regs) :
    Keeps F a (s.snoopBy us k) := by
  unfold State.snoopBy
  simp (maxDischargeDepth := 60) +contextual [h, hF]

@[simp ↓] theorem snoop_keeps {k : SnoopBlock} (h : Keeps F a s) (hF : F .regs) :
    Keeps F a (s.snoop k) := by
  unfold State.snoop
  simp (maxDischargeDepth := 60) +contextual [h, hF]

@[simp ↓] theorem dropSnooper_keeps {u : Nat} (h : Keeps F a s) (hF : F .parser ∧ F .ing) :
    Keeps F a (s.dropSnooper u) := by
  unfold State.dropSnooper
  simp (maxDischargeDepth := 60) [h, hF]

@[simp ↓] theorem execCrcUnitEnable_keeps {path : Path} {u : Fin 4} (h : Keeps F a s) (hF : F .regs) :
    KeepsOut F a (execCrcUnitEnable path u s) := by
  unfold execCrcUnitEnable
  simp (maxDischargeDepth := 60) [h, hF]

@[simp ↓] theorem execCrcUnitDisable_keeps {path : Path} {u : Fin 4} (h : Keeps F a s) (hF : F .regs ∧ F .parser ∧
    F .ing) :
    KeepsOut F a (execCrcUnitDisable path u s) := by
  unfold execCrcUnitDisable
  simp (maxDischargeDepth := 60) [h, hF]

end Sys2Proof.Laws
end

