-- ==== Sys2Proof/Laws/KeepsFbCore.lean ====
section
/-! SUPPORT. What the operations of Sys2Proof/Machine/FbCore.lean can change: one lemma each. -/

set_option linter.unusedTactic false
set_option linter.unreachableTactic false
set_option Elab.async false

namespace Sys2Proof.Laws

open Sys2Proof.Machine Sys2Proof.Safety

variable {F : Part → Prop} {a s : State}

@[simp ↓] theorem onGen_keeps {x : Nat} {f : Gen → Gen} (h : Keeps F a s) (hF : F .motion) :
    Keeps F a (s.onGen x f) := by
  unfold State.onGen
  (repeat' split) <;> simp (maxDischargeDepth := 60) +contextual [h, hF]

@[simp ↓] theorem onFb_keeps {x : Nat} {f : FbAxis → FbAxis} (h : Keeps F a s) (hF : F .motion) :
    Keeps F a (s.onFb x f) := by
  unfold State.onFb
  (repeat' split) <;> simp (maxDischargeDepth := 60) +contextual [h, hF]

@[simp ↓] theorem onServo_keeps {x : Nat} {f : Servo → Servo} (h : Keeps F a s) (hF : F .motion) :
    Keeps F a (s.onServo x f) := by
  unfold State.onServo
  (repeat' split) <;> simp (maxDischargeDepth := 60) +contextual [h, hF]

@[simp ↓] theorem showCount_keeps {x : Nat} {c : Int} {pres : Int} {neg : Bool} (h : Keeps F a s) (hF : F .regs ∧ F
    .motion) :
    Keeps F a (s.showCount x c pres neg) := by
  unfold State.showCount
  simp (maxDischargeDepth := 60) [h, hF]

@[simp ↓] theorem setCount_keeps {x : Nat} {c : Int} (h : Keeps F a s) (hF : F .regs ∧ F .motion) :
    Keeps F a (s.setCount x c) := by
  unfold State.setCount
  simp (maxDischargeDepth := 60) [h, hF]

@[simp ↓] theorem shiftSetpoint_keeps {x : Nat} {d : Int} (h : Keeps F a s) (hF : F .regs ∧ F .motion) :
    Keeps F a (s.shiftSetpoint x d) := by
  unfold State.shiftSetpoint
  simp (maxDischargeDepth := 60) [h, hF]

@[simp ↓] theorem moveCount_keeps {x : Nat} {n : Int} (h : Keeps F a s) (hF : F .regs ∧ F .motion) :
    Keeps F a (s.moveCount x n) := by
  unfold State.moveCount
  simp (maxDischargeDepth := 60) [h, hF]

@[simp ↓] theorem shiftCount_keeps {x : Nat} {n : Int} (h : Keeps F a s) (hF : F .regs ∧ F .motion) :
    Keeps F a (s.shiftCount x n) := by
  unfold State.shiftCount
  simp (maxDischargeDepth := 60) [h, hF]

@[simp ↓] theorem applyShift_keeps {x : Nat} {delta : Int} {unref : Bool} (h : Keeps F a s) (hF : F .regs ∧ F
    .motion) :
    Keeps F a (s.applyShift x delta unref) := by
  unfold State.applyShift
  simp (maxDischargeDepth := 60) [h, hF]

@[simp ↓] theorem deferredShift_keeps (h : Keeps F a s) (hF : F .regs ∧ F .motion) :
    Keeps F a (s.deferredShift) := by
  unfold State.deferredShift
  (repeat' split) <;> simp (maxDischargeDepth := 60) +contextual [h, hF]

end Sys2Proof.Laws
end

