-- ==== Sys2Proof/Laws/KeepsLinkOut.lean ====
section
/-! SUPPORT. What the operations of Sys2Proof/Machine/LinkOut.lean can change: one lemma each. -/

set_option linter.unusedTactic false
set_option linter.unreachableTactic false
set_option Elab.async false

namespace Sys2Proof.Laws

open Sys2Proof.Machine Sys2Proof.Safety

variable {F : Part → Prop} {a s : State}

@[simp ↓] theorem dropReq_keeps {q : Nat} (h : Keeps F a s) (hF : F .ln) :
    Keeps F a (s.dropReq q) := by
  unfold State.dropReq
  simp (maxDischargeDepth := 60) [h, hF]

@[simp ↓] theorem sendOn_keeps {q : Nat} {fr : List Byte} (h : Keeps F a s) (hF : F .sent) :
    Keeps F a (s.sendOn q fr) := by
  unfold State.sendOn
  simp (maxDischargeDepth := 60) [h, hF]

@[simp ↓] theorem setOn_keeps {q : Nat} {m : Nat} {cs : List Chr} (h : Keeps F a s) (hF : F .sent) :
    Keeps F a (s.setOn q m cs) := by
  unfold State.setOn
  simp (maxDischargeDepth := 60) [h, hF]

@[simp ↓] theorem setTime_keeps {q : Nat} {cs : List Chr} (h : Keeps F a s) (hF : F .sent) :
    Keeps F a (s.setTime q cs) := by
  unfold State.setTime
  simp (maxDischargeDepth := 60) [h, hF]

@[simp ↓] theorem fill_keeps {q : Nat} (h : Keeps F a s) (hF : F .sent) :
    Keeps F a (s.fill q) := by
  unfold State.fill
  simp (maxDischargeDepth := 60) [h, hF]

end Sys2Proof.Laws
end

