-- ==== Sys2Proof/Laws/KeepsHeadFrame.lean ====
section
/-! SUPPORT. What the operations of Sys2Proof/Machine/HeadFrame.lean can change: one lemma each. -/

set_option linter.unusedTactic false
set_option linter.unreachableTactic false
set_option Elab.async false

namespace Sys2Proof.Laws

open Sys2Proof.Machine Sys2Proof.Safety

variable {F : Part → Prop} {a s : State}

@[simp ↓] theorem onPort_keeps {p : Nat} {f : Port → Port} (h : Keeps F a s) (hF : F .hp) :
    Keeps F a (s.onPort p f) := by
  unfold State.onPort
  (repeat' split) <;> simp (maxDischargeDepth := 60) +contextual [h, hF]

@[simp ↓] theorem onHead_keeps {p : Nat} {y2 : Nat} {f : HeadLink → HeadLink} (h : Keeps F a s) (hF : F .hp) :
    Keeps F a (s.onHead p y2 f) := by
  unfold State.onHead
  simp (maxDischargeDepth := 60) [h, hF]

@[simp ↓] theorem setPortState_keeps {p : Nat} {st : Nat} (h : Keeps F a s) (hF : F .regs ∧ F .freeCount ∧ F .sent)
    :
    Keeps F a (s.setPortState p st) := by
  unfold State.setPortState
  simp (maxDischargeDepth := 60) [h, hF]

@[simp ↓] theorem nrDiscard_keeps {n : Nat} {k : Nat} (h : Keeps F a s) (hF : F .regs ∧ F .log) :
    Keeps F a (s.nrDiscard n k) := by
  unfold State.nrDiscard
  (repeat' split) <;> simp (maxDischargeDepth := 60) +contextual [h, hF]

@[simp ↓] theorem sendHead_keeps {p : Nat} {fr : List Byte} (h : Keeps F a s) (hF : F .sent ∧ F .hp) :
    Keeps F a (s.sendHead p fr) := by
  unfold State.sendHead
  simp (maxDischargeDepth := 60) [h, hF]

@[simp ↓] theorem sendFrameU_keeps {p : Nat} {head : Nat} {ty : Nat} {pay : List Byte} {upset : Bool} (h : Keeps F
    a s) (hF : F .regs ∧ F .log ∧ F .sent ∧ F .hp) :
    Keeps F a (s.sendFrameU p head ty pay upset) := by
  unfold State.sendFrameU
  simp (maxDischargeDepth := 60) [h, hF]

@[simp ↓] theorem sendFrame_keeps {p : Nat} {head : Nat} {ty : Nat} {pay : List Byte} (h : Keeps F a s) (hF : F
    .regs ∧ F .log ∧ F .sent ∧ F .hp) :
    Keeps F a (s.sendFrame p head ty pay) := by
  unfold State.sendFrame
  simp (maxDischargeDepth := 60) [h, hF]

@[simp ↓] theorem sendEi_keeps {q : Nat} {kind : Nat} (h : Keeps F a s) (hF : F .sent) :
    Keeps F a (s.sendEi q kind) := by
  unfold State.sendEi
  simp (maxDischargeDepth := 60) +contextual [h, hF]

@[simp ↓] theorem pwrCheck_keeps {q : Nat} (h : Keeps F a s) (hF : F .sent ∧ F .ln) :
    Keeps F a (s.pwrCheck q) := by
  unfold State.pwrCheck
  (repeat' split) <;> simp (maxDischargeDepth := 60) +contextual [h, hF]

@[simp ↓] theorem portFault_keeps {p : Nat} {c : Nat} (h : Keeps F a s) (hF : F .regs ∧ F .freeCount ∧ F .sent ∧ F
    .hp) :
    Keeps F a (s.portFault p c) := by
  unfold State.portFault
  simp (maxDischargeDepth := 60) [h, hF]

@[simp ↓] theorem sendEnum_keeps {p : Nat} (h : Keeps F a s) (hF : F .regs ∧ F .log ∧ F .sent ∧ F .hp) :
    Keeps F a (s.sendEnum p) := by
  unfold State.sendEnum
  simp (maxDischargeDepth := 60) [h, hF]

@[simp ↓] theorem enterEnum_keeps {p : Nat} (h : Keeps F a s) (hF : F .regs ∧ F .freeCount ∧ F .log ∧ F .sent ∧ F
    .hp) :
    Keeps F a (s.enterEnum p) := by
  unfold State.enterEnum
  simp (maxDischargeDepth := 60) [h, hF]

@[simp ↓] theorem toEnumCheck_keeps {p : Nat} (h : Keeps F a s) (hF : F .regs ∧ F .freeCount ∧ F .log ∧ F .sent ∧ F
    .hp) :
    Keeps F a (s.toEnumCheck p) := by
  unfold State.toEnumCheck
  simp (maxDischargeDepth := 60) [h, hF]

@[simp ↓] theorem toEnumChecks_keeps (h : Keeps F a s) (hF : F .regs ∧ F .freeCount ∧ F .log ∧ F .sent ∧ F .hp) :
    Keeps F a (s.toEnumChecks) := by
  unfold State.toEnumChecks
  simp (maxDischargeDepth := 60) +contextual [h, hF]

@[simp ↓] theorem loadCheck_keeps {p : Nat} (h : Keeps F a s) (hF : F .regs ∧ F .freeCount ∧ F .sent ∧ F .hp) :
    Keeps F a (s.loadCheck p) := by
  unfold State.loadCheck
  simp (maxDischargeDepth := 60) [h, hF]

@[simp ↓] theorem loadChecks_keeps (h : Keeps F a s) (hF : F .regs ∧ F .freeCount ∧ F .sent ∧ F .hp) :
    Keeps F a (s.loadChecks) := by
  unfold State.loadChecks
  simp (maxDischargeDepth := 60) +contextual [h, hF]

@[simp ↓] theorem hardToHeld_keeps {p : Nat} (h : Keeps F a s) (hF : F .regs) :
    Keeps F a (s.hardToHeld p) := by
  unfold State.hardToHeld
  simp (maxDischargeDepth := 60) +contextual [h, hF]

@[simp ↓] theorem hardsToHeld_keeps (h : Keeps F a s) (hF : F .regs) :
    Keeps F a (s.hardsToHeld) := by
  unfold State.hardsToHeld
  simp (maxDischargeDepth := 60) +contextual [h, hF]

end Sys2Proof.Laws
end

