-- ==== Sys2Proof/Laws/KeepsRegion.lean ====
section
/-! SUPPORT. What the operations of Sys2Proof/Machine/Region.lean can change: one lemma each. -/

set_option linter.unusedTactic false
set_option linter.unreachableTactic false
set_option Elab.async false

namespace Sys2Proof.Laws

open Sys2Proof.Machine Sys2Proof.Safety

variable {F : Part → Prop} {a s : State}

@[simp ↓] theorem putCell_keeps {id : Nat} {d : Cell} (h : Keeps F a s) (hF : F .regs ∧ F .mem ∧ F .log ∧ F .sent ∧
    F .dram) :
    Keeps F a (s.putCell id d) := by
  unfold State.putCell
  simp (maxDischargeDepth := 60) [h, hF]

@[simp ↓] theorem undefCells_keeps {l : List (Nat × Cell)} (h : Keeps F a s) (hF : F .regs ∧ F .mem ∧ F .log ∧ F
    .sent ∧ F .dram) :
    Keeps F a (s.undefCells l) := by
  unfold State.undefCells
  simp (maxDischargeDepth := 60) +contextual [h, hF]

@[simp ↓] theorem putBin_keeps {q : RowId} {tcol : Nat} {y3 : List Nat} {y4 : List BinEntry} (h : Keeps F a s) (hF
    : F .regs ∧ F .mem ∧ F .log ∧ F .sent ∧ F .dram) :
    Keeps F a (s.putBin q tcol y3 y4) := by
  induction y3 generalizing s y4 with
  | nil => exact h
  | cons k t ih =>
    cases t with
    | nil => simp (maxDischargeDepth := 60) [State.putBin, h, hF]
    | cons k2 t => exact ih (by simp (maxDischargeDepth := 60) [h, hF])

@[simp ↓] theorem putTable_keeps {y1 : List Nat} {y2 : List Xform} (h : Keeps F a s) (hF : F .regs ∧ F .mem ∧ F
    .log ∧ F .sent ∧ F .dram) :
    Keeps F a (s.putTable y1 y2) := by
  induction y1 generalizing s y2 with
  | nil => exact h
  | cons k t ih => exact ih (by simp (maxDischargeDepth := 60) [h, hF])

end Sys2Proof.Laws
end

