-- ==== Sys2Proof/Laws/KeepsStaging.lean ====
section
/-! SUPPORT. What the operations of Sys2Proof/Machine/Staging.lean can change: one lemma each. -/

set_option linter.unusedTactic false
set_option linter.unreachableTactic false
set_option Elab.async false

namespace Sys2Proof.Laws

open Sys2Proof.Machine Sys2Proof.Safety

variable {F : Part → Prop} {a s : State}

@[simp ↓] theorem onEngine_keeps {e : Nat} {f : Engine → Engine} (h : Keeps F a s) (hF : F .ver) :
    Keeps F a (s.onEngine e f) := by
  unfold State.onEngine
  (repeat' split) <;> simp (maxDischargeDepth := 60) +contextual [h, hF]

@[simp ↓] theorem onCtx_keeps {t : TileId} {f : TileCtx → TileCtx} (h : Keeps F a s) (hF : F .ver) :
    Keeps F a (s.onCtx t f) := by
  unfold State.onCtx
  simp (maxDischargeDepth := 60) [h, hF]

@[simp ↓] theorem dropCtx_keeps {t : TileId} (h : Keeps F a s) (hF : F .ver) :
    Keeps F a (s.dropCtx t) := by
  unfold State.dropCtx
  simp (maxDischargeDepth := 60) [h, hF]

@[simp ↓] theorem putEntry_keeps {c : CommitEntry} (h : Keeps F a s) (hF : F .ver) :
    Keeps F a (s.putEntry c) := by
  unfold State.putEntry
  simp (maxDischargeDepth := 60) [h, hF]

@[simp ↓] theorem release_keeps {t : TileId} {p : Role → Bool} (h : Keeps F a s) (hF : F .ver) :
    Keeps F a (s.release t p) := by
  unfold State.release
  simp (maxDischargeDepth := 60) [h, hF]

@[simp ↓] theorem freeHeld_keeps {t : TileId} (h : Keeps F a s) (hF : F .ver) :
    Keeps F a (s.freeHeld t) := by
  unfold State.freeHeld
  simp (maxDischargeDepth := 60) [h, hF]

@[simp ↓] theorem keepShadows_keeps {t : TileId} {w : Work} (h : Keeps F a s) (hF : F .ver) :
    Keeps F a (s.keepShadows t w) := by
  unfold State.keepShadows
  simp (maxDischargeDepth := 60) [h, hF]

@[simp ↓] theorem freeBins_keeps {t : TileId} (h : Keeps F a s) (hF : F .rows) :
    Keeps F a (s.freeBins t) := by
  unfold State.freeBins
  simp (maxDischargeDepth := 60) [h, hF]

@[simp ↓] theorem storeEntry_keeps {c : CommitEntry} (h : Keeps F a s) (hF : F .regs ∧ F .mem ∧ F .log ∧ F .ver ∧ F
    .sent ∧ F .dram) :
    Keeps F a (s.storeEntry c) := by
  unfold State.storeEntry
  simp (maxDischargeDepth := 60) [h, hF]

@[simp ↓] theorem fillTable_keeps (h : Keeps F a s) (hF : F .regs ∧ F .mem ∧ F .log ∧ F .ver ∧ F .sent ∧ F .dram) :
    Keeps F a (s.fillTable) := by
  unfold State.fillTable
  simp (maxDischargeDepth := 60) +contextual [h, hF]

@[simp ↓] theorem stream_keeps {t : TileId} (h : Keeps F a s) (hF : F .regs ∧ F .mem ∧ F .log ∧ F .ver ∧ F .sent ∧
    F .dram) :
    Keeps F a (s.stream t) := by
  unfold State.stream
  dsimp only
  repeat' first
    | (simp (maxDischargeDepth := 60) +contextual [h, hF]; done)
    | split
    | (rename_i e; obtain rfl := congrArg Prod.snd e)

@[simp ↓] theorem wakeWriters_keeps (h : Keeps F a s) (hF : F .regs ∧ F .mem ∧ F .log ∧ F .ver ∧ F .sent ∧ F .dram)
    :
    Keeps F a (s.wakeWriters) := by
  unfold State.wakeWriters
  simp (maxDischargeDepth := 60) +contextual [h, hF]

end Sys2Proof.Laws
end

