-- ==== Sys2Proof/Laws/KeepsStops.lean ====
section
/-! SUPPORT. What the operations of Sys2Proof/Machine/Stops.lean can change: one lemma each. -/

set_option linter.unusedTactic false
set_option linter.unreachableTactic false
set_option Elab.async false

namespace Sys2Proof.Laws

open Sys2Proof.Machine Sys2Proof.Safety

variable {F : Part → Prop} {a s : State}

@[simp ↓] theorem blankEntries_keeps {t : TileId} {cause : Nat} (h : Keeps F a s) (hF : F .regs ∧ F .tables ∧ F
    .mem ∧ F .log ∧ F .gy ∧ F .recs ∧ F .blocks ∧ F .sent ∧ F .dram) :
    Keeps F a (s.blankEntries t cause) := by
  unfold State.blankEntries
  (repeat' split) <;> simp (maxDischargeDepth := 60) +contextual [h, hF]

@[simp ↓] theorem blankQuiet_keeps {t : TileId} {cause : Nat} (h : Keeps F a s) (hF : F .regs ∧ F .mem ∧ F .log ∧ F
    .rows ∧ F .ver ∧ F .sent ∧ F .dram) :
    Keeps F a (s.blankQuiet t cause) := by
  unfold State.blankQuiet
  dsimp only
  repeat' first
    | (simp (maxDischargeDepth := 60) +contextual [h, hF]; done)
    | split
    | (rename_i e; obtain rfl := congrArg Prod.snd e)

@[simp ↓] theorem blankTile_keeps {t : TileId} {cause : Nat} (h : Keeps F a s) (hF : F .regs ∧ F .tables ∧ F .mem ∧
    F .log ∧ F .rows ∧ F .ver ∧ F .gy ∧ F .recs ∧ F .blocks ∧ F .sent ∧ F .dram) :
    Keeps F a (s.blankTile t cause) := by
  unfold State.blankTile
  simp (maxDischargeDepth := 60) [h, hF]

@[simp ↓] theorem lpFullCheck_keeps (h : Keeps F a s) (hF : F .regs ∧ F .log) :
    Keeps F a (s.lpFullCheck) := by
  unfold State.lpFullCheck
  simp (maxDischargeDepth := 60) [h, hF]

@[simp ↓] theorem moveDue_keeps (h : Keeps F a s) (hF : F .cores ∧ F .boot) :
    Keeps F a (s.moveDue) := by
  unfold State.moveDue
  extract_lets waits c s1 b
  have h1 : Keeps F a s1 := keeps_cores h hF.1
  clear_value s1
  unfold b
  repeat' first
    | (simp (maxDischargeDepth := 60) [h1, hF]; done)
    | split

@[simp ↓] theorem leadInForce_keeps (h : Keeps F a s) (hF : F .regs) :
    Keeps F a (s.leadInForce) := by
  unfold State.leadInForce
  (repeat' split) <;> simp (maxDischargeDepth := 60) +contextual [h, hF]

@[simp ↓] theorem dropRows_keeps {p : RowId → Bool} (h : Keeps F a s) (hF : F .units ∧ F .rows) :
    Keeps F a (s.dropRows p) := by
  unfold State.dropRows
  simp (maxDischargeDepth := 60) [h, hF]

@[simp ↓] theorem layerLeave_keeps {q : Nat} (h : Keeps F a s) (hF : F .regs ∧ F .log ∧ F .cores ∧ F .layers ∧ F
    .lpBytes ∧ F .units ∧ F .rows ∧ F .surveys ∧ F .recs ∧ F .boot) :
    Keeps F a (s.layerLeave q) := by
  unfold State.layerLeave
  (repeat' split) <;> simp (maxDischargeDepth := 60) +contextual [h, hF]

@[simp ↓] theorem swathCacheEnd_keeps {layer : Nat} {idx : Nat} (h : Keeps F a s) (hF : F .layers ∧ F .pins) :
    Keeps F a (s.swathCacheEnd layer idx) := by
  unfold State.swathCacheEnd
  (repeat' split) <;> simp (maxDischargeDepth := 60) +contextual [h, hF]

@[simp ↓] theorem swathLeave_keeps {layer : Nat} {idx : Nat} {endAt : Nat} {cause : Nat} (h : Keeps F a s) (hF : F
    .regs ∧ F .tables ∧ F .mem ∧ F .freeCount ∧ F .log ∧ F .cores ∧ F .layers ∧ F .lpBytes ∧ F .units ∧ F .rows ∧ F
    .surveys ∧ F .ver ∧ F .gy ∧ F .recs ∧ F .blocks ∧ F .pins ∧ F .motion ∧ F .sent ∧ F .hp ∧ F .dram ∧ F .boot) :
    Keeps F a (s.swathLeave layer idx endAt cause) := by
  unfold State.swathLeave
  simp (maxDischargeDepth := 60) [h, hF]

@[simp ↓] theorem stopEntries_keeps {w : Swath} {e : SwathEntry} {cause : Nat} (h : Keeps F a s) (hF : F .regs ∧ F
    .tables ∧ F .mem ∧ F .log ∧ F .gy ∧ F .recs ∧ F .blocks ∧ F .sent ∧ F .dram) :
    Keeps F a (s.stopEntries w e cause) := by
  unfold State.stopEntries
  try dsimp only
  repeat' first
    | (simp (maxDischargeDepth := 60) +contextual [*]; done)
    | (refine keeps_foldl ?_ fun t x ht => ?_)
    | split
    | (rename_i e; obtain rfl := congrArg Prod.snd e)

@[simp ↓] theorem stopOne_keeps {w : Swath} {cause : Nat} (h : Keeps F a s) (hF : F .regs ∧ F .tables ∧ F .mem ∧ F
    .freeCount ∧ F .log ∧ F .cores ∧ F .layers ∧ F .lpBytes ∧ F .units ∧ F .rows ∧ F .surveys ∧ F .ver ∧ F .gy ∧ F
    .recs ∧ F .blocks ∧ F .pins ∧ F .motion ∧ F .sent ∧ F .hp ∧ F .dram ∧ F .boot) :
    Keeps F a (s.stopOne w cause) := by
  unfold State.stopOne
  (repeat' split) <;> simp (maxDischargeDepth := 60) +contextual [h, hF]

@[simp ↓] theorem stopLayer_keeps {q : Nat} (h : Keeps F a s) (hF : F .regs ∧ F .tables ∧ F .mem ∧ F .freeCount ∧ F
    .log ∧ F .cores ∧ F .layers ∧ F .lpBytes ∧ F .units ∧ F .rows ∧ F .surveys ∧ F .ver ∧ F .gy ∧ F .recs ∧ F
    .blocks ∧ F .pins ∧ F .motion ∧ F .sent ∧ F .hp ∧ F .dram ∧ F .boot) :
    Keeps F a (s.stopLayer q) := by
  unfold State.stopLayer
  simp (maxDischargeDepth := 60) +contextual [h, hF]

@[simp ↓] theorem stopSwath_keeps {w : Swath} {cause : Nat} (h : Keeps F a s) (hF : F .regs ∧ F .tables ∧ F .mem ∧
    F .freeCount ∧ F .log ∧ F .cores ∧ F .layers ∧ F .lpBytes ∧ F .units ∧ F .rows ∧ F .surveys ∧ F .ver ∧ F .gy ∧
    F .recs ∧ F .blocks ∧ F .pins ∧ F .motion ∧ F .sent ∧ F .hp ∧ F .dram ∧ F .boot) :
    Keeps F a (s.stopSwath w cause) := by
  unfold State.stopSwath
  simp (maxDischargeDepth := 60) [h, hF]

@[simp ↓] theorem stopFiring_keeps {cause : Nat} (h : Keeps F a s) (hF : F .regs ∧ F .tables ∧ F .mem ∧ F
    .freeCount ∧ F .log ∧ F .cores ∧ F .layers ∧ F .lpBytes ∧ F .units ∧ F .rows ∧ F .surveys ∧ F .ver ∧ F .gy ∧ F
    .recs ∧ F .blocks ∧ F .pins ∧ F .motion ∧ F .sent ∧ F .hp ∧ F .dram ∧ F .boot) :
    Keeps F a (s.stopFiring cause) := by
  unfold State.stopFiring
  (repeat' split) <;> simp (maxDischargeDepth := 60) +contextual [h, hF]

@[simp ↓] theorem recFullCheck_keeps (h : Keeps F a s) (hF : F .regs ∧ F .tables ∧ F .mem ∧ F .freeCount ∧ F .log ∧
    F .cores ∧ F .layers ∧ F .lpBytes ∧ F .units ∧ F .rows ∧ F .surveys ∧ F .ver ∧ F .gy ∧ F .recs ∧ F .blocks ∧ F
    .pins ∧ F .motion ∧ F .sent ∧ F .hp ∧ F .dram ∧ F .boot) :
    Keeps F a (s.recFullCheck) := by
  unfold State.recFullCheck
  simp (maxDischargeDepth := 60) [h, hF]

end Sys2Proof.Laws
end

