-- ==== Sys2Proof/Laws/KeepsMotion.lean ====
section
/-! SUPPORT. What the operations of Sys2Proof/Machine/Motion.lean can change: one lemma each. -/

set_option linter.unusedTactic false
set_option linter.unreachableTactic false
set_option Elab.async false

namespace Sys2Proof.Laws

open Sys2Proof.Machine Sys2Proof.Safety

variable {F : Part → Prop} {a s : State}

@[simp ↓] theorem setAx_keeps {x : Nat} {st : Nat} {ph : Nat} (h : Keeps F a s) (hF : F .regs) :
    Keeps F a (s.setAx x st ph) := by
  unfold State.setAx
  simp (maxDischargeDepth := 60) [h, hF]

@[simp ↓] theorem setSv_keeps {x : Nat} {st : Nat} (h : Keeps F a s) (hF : F .regs) :
    Keeps F a (s.setSv x st) := by
  unfold State.setSv
  simp (maxDischargeDepth := 60) [h, hF]

@[simp ↓] theorem setEn_keeps {x : Nat} {on : Bool} (h : Keeps F a s) (hF : F .regs) :
    Keeps F a (s.setEn x on) := by
  unfold State.setEn
  simp (maxDischargeDepth := 60) [h, hF]

@[simp ↓] theorem genStand_keeps {x : Nat} (h : Keeps F a s) (hF : F .motion) :
    Keeps F a (s.genStand x) := by
  unfold State.genStand
  simp (maxDischargeDepth := 60) [h, hF]

@[simp ↓] theorem genIdle_keeps {x : Nat} (h : Keeps F a s) (hF : F .motion) :
    Keeps F a (s.genIdle x) := by
  unfold State.genIdle
  simp (maxDischargeDepth := 60) [h, hF]

@[simp ↓] theorem aoutZero_keeps {x : Nat} (h : Keeps F a s) (hF : F .regs ∧ F .sent) :
    Keeps F a (s.aoutZero x) := by
  unfold State.aoutZero
  simp (maxDischargeDepth := 60) [h, hF]

@[simp ↓] theorem disableAxis_keeps {x : Nat} (h : Keeps F a s) (hF : F .regs ∧ F .motion ∧ F .sent) :
    Keeps F a (s.disableAxis x) := by
  unfold State.disableAxis
  simp (maxDischargeDepth := 60) [h, hF]

@[simp ↓] theorem faultAxis_keeps {x : Nat} {c : Nat} (h : Keeps F a s) (hF : F .regs ∧ F .motion) :
    Keeps F a (s.faultAxis x c) := by
  unfold State.faultAxis
  simp (maxDischargeDepth := 60) [h, hF]

@[simp ↓] theorem stopGen_keeps {x : Nat} {y2 : Nat} {j : Nat} {after : After} (h : Keeps F a s) (hF : F .motion) :
    Keeps F a (s.stopGen x y2 j after) := by
  unfold State.stopGen
  simp (maxDischargeDepth := 60) [h, hF]

@[simp ↓] theorem stopAxis_keeps {x : Nat} {after : After} (h : Keeps F a s) (hF : F .regs ∧ F .motion) :
    Keeps F a (s.stopAxis x after) := by
  unfold State.stopAxis
  simp (maxDischargeDepth := 60) [h, hF]

@[simp ↓] theorem homeFault_keeps {x : Nat} {c : Nat} (h : Keeps F a s) (hF : F .regs ∧ F .log ∧ F .motion) :
    Keeps F a (s.homeFault x c) := by
  unfold State.homeFault
  simp (maxDischargeDepth := 60) [h, hF]

@[simp ↓] theorem feedbackFault_keeps {x : Nat} (h : Keeps F a s) (hF : F .regs ∧ F .log ∧ F .motion) :
    Keeps F a (s.feedbackFault x) := by
  unfold State.feedbackFault
  simp (maxDischargeDepth := 60) [h, hF]

@[simp ↓] theorem limitStop_keeps {x : Nat} (h : Keeps F a s) (hF : F .regs ∧ F .tables ∧ F .mem ∧ F .freeCount ∧ F
    .log ∧ F .cores ∧ F .layers ∧ F .lpBytes ∧ F .units ∧ F .rows ∧ F .surveys ∧ F .ver ∧ F .gy ∧ F .recs ∧ F
    .blocks ∧ F .pins ∧ F .motion ∧ F .sent ∧ F .hp ∧ F .dram ∧ F .boot) :
    Keeps F a (s.limitStop x) := by
  unfold State.limitStop
  simp (maxDischargeDepth := 60) [h, hF]

@[simp ↓] theorem assign_keeps {x : Nat} (h : Keeps F a s) (hF : F .regs ∧ F .motion) :
    Keeps F a (s.assign x) := by
  unfold State.assign
  simp (maxDischargeDepth := 60) [h, hF]

@[simp ↓] theorem enterHome_keeps {x : Nat} {y2 : Nat} (h : Keeps F a s) (hF : F .regs ∧ F .motion) :
    Keeps F a (s.enterHome x y2) := by
  unfold State.enterHome
  (repeat' split) <;> simp (maxDischargeDepth := 60) +contextual [h, hF]

@[simp ↓] theorem startHome_keeps {x : Nat} (h : Keeps F a s) (hF : F .regs ∧ F .motion) :
    Keeps F a (s.startHome x) := by
  unfold State.startHome
  simp (maxDischargeDepth := 60) [h, hF]

@[simp ↓] theorem homeStop_keeps {x : Nat} {y2 : Nat} (h : Keeps F a s) (hF : F .regs ∧ F .motion) :
    Keeps F a (s.homeStop x y2) := by
  unfold State.homeStop
  simp (maxDischargeDepth := 60) [h, hF]

@[simp ↓] theorem homeCapture_keeps {x : Nat} {p : Int} {y3 : Nat} (h : Keeps F a s) (hF : F .regs ∧ F .motion) :
    Keeps F a (s.homeCapture x p y3) := by
  unfold State.homeCapture
  simp (maxDischargeDepth := 60) [h, hF]

@[simp ↓] theorem homeInput_keeps {x : Nat} {i : Nat} {active : Bool} {pos : Int} (h : Keeps F a s) (hF : F .regs ∧
    F .log ∧ F .motion) :
    Keeps F a (s.homeInput x i active pos) := by
  unfold State.homeInput
  dsimp only
  repeat' first
    | (simp (maxDischargeDepth := 60) +contextual [h, hF]; done)
    | split
    | (rename_i e; obtain rfl := congrArg Prod.snd e)

@[simp ↓] theorem beginMove_keeps {x : Nat} {st : Nat} {lims : Nat × Nat × Nat} {target : Int} (h : Keeps F a s)
    (hF : F .regs ∧ F .motion) :
    Keeps F a (s.beginMove x st lims target) := by
  unfold State.beginMove
  simp (maxDischargeDepth := 60) [h, hF]

@[simp ↓] theorem startEntry_keeps {aux : Bool} {hd : Nat} {i : Nat} (h : Keeps F a s) (hF : F .regs ∧ F .motion) :
    Keeps F a (s.startEntry aux hd i) := by
  unfold State.startEntry
  dsimp only
  repeat' first
    | (simp (maxDischargeDepth := 60) +contextual [h, hF]; done)
    | split
    | (rename_i e; obtain rfl := congrArg Prod.snd e)

@[simp ↓] theorem refuse_keeps {x : Nat} {c : Nat} (h : Keeps F a s) (hF : F .regs) :
    Keeps F a (s.refuse x c) := by
  unfold State.refuse
  simp (maxDischargeDepth := 60) [h, hF]

@[simp ↓] theorem startChain_keeps {x : Nat} {i : Nat} {aux : Bool} (h : Keeps F a s) (hF : F .regs ∧ F .motion) :
    Keeps F a (s.startChain x i aux) := by
  unfold State.startChain
  dsimp only
  repeat' first
    | (simp (maxDischargeDepth := 60) +contextual [h, hF]; done)
    | split
    | (rename_i e; obtain rfl := congrArg Prod.snd e)

@[simp ↓] theorem refuseFresh_keeps {x : Nat} (h : Keeps F a s) (hF : F .regs ∧ F .tables ∧ F .mem ∧ F .freeCount ∧
    F .log ∧ F .cores ∧ F .layers ∧ F .lpBytes ∧ F .units ∧ F .rows ∧ F .surveys ∧ F .ver ∧ F .gy ∧ F .recs ∧ F
    .blocks ∧ F .pins ∧ F .motion ∧ F .sent ∧ F .hp ∧ F .dram ∧ F .boot) :
    Keeps F a (s.refuseFresh x) := by
  unfold State.refuseFresh
  simp (maxDischargeDepth := 60) +contextual [h, hF]

@[simp ↓] theorem startScan_keeps {v : Nat} {t : Int} (h : Keeps F a s) (hF : F .regs ∧ F .tables ∧ F .mem ∧ F
    .freeCount ∧ F .log ∧ F .cores ∧ F .layers ∧ F .lpBytes ∧ F .units ∧ F .rows ∧ F .surveys ∧ F .ver ∧ F .gy ∧ F
    .recs ∧ F .blocks ∧ F .pins ∧ F .motion ∧ F .sent ∧ F .hp ∧ F .dram ∧ F .boot) :
    Keeps F a (s.startScan v t) := by
  unfold State.startScan
  simp (maxDischargeDepth := 60) [h, hF]

@[simp ↓] theorem scanStart_keeps {w : Swath} {l : Layer} {e : SwathEntry} (h : Keeps F a s) (hF : F .regs ∧ F
    .tables ∧ F .mem ∧ F .freeCount ∧ F .log ∧ F .cores ∧ F .layers ∧ F .lpBytes ∧ F .units ∧ F .rows ∧ F .surveys
    ∧ F .ver ∧ F .gy ∧ F .recs ∧ F .blocks ∧ F .pins ∧ F .motion ∧ F .sent ∧ F .hp ∧ F .dram ∧ F .boot) :
    Keeps F a (s.scanStart w l e) := by
  unfold State.scanStart
  simp (maxDischargeDepth := 60) +contextual [h, hF]

@[simp ↓] theorem takeRamp_keeps {x : Nat} {dir : Bool} {b : Int} (h : Keeps F a s) (hF : F .freeCount ∧ F .motion)
    :
    Keeps F a (s.takeRamp x dir b) := by
  unfold State.takeRamp
  simp (maxDischargeDepth := 60) [h, hF]

@[simp ↓] theorem stopStep_keeps {x : Nat} {dir : Bool} (h : Keeps F a s) (hF : F .freeCount ∧ F .motion) :
    Keeps F a (s.stopStep x dir).2 := by
  unfold State.stopStep
  simp (maxDischargeDepth := 60) [h, hF]

@[simp ↓] theorem planDecel_keeps {x : Nat} {dir : Bool} {t : Int} (h : Keeps F a s) (hF : F .regs ∧ F .motion) :
    Keeps F a (s.planDecel x dir t) := by
  unfold State.planDecel
  simp (maxDischargeDepth := 60) [h, hF]

@[simp ↓] theorem scanDue_keeps {scan : Option (Nat × Int)} (h : Keeps F a s) (hF : F .regs ∧ F .tables ∧ F .mem ∧
    F .freeCount ∧ F .log ∧ F .cores ∧ F .layers ∧ F .lpBytes ∧ F .units ∧ F .rows ∧ F .surveys ∧ F .ver ∧ F .gy ∧
    F .recs ∧ F .blocks ∧ F .pins ∧ F .motion ∧ F .sent ∧ F .hp ∧ F .dram ∧ F .boot) :
    Keeps F a (s.scanDue scan) := by
  unfold State.scanDue
  (repeat' split) <;> simp (maxDischargeDepth := 60) +contextual [h, hF]

@[simp ↓] theorem moveDone_keeps {x : Nat} {t : Int} (h : Keeps F a s) (hF : F .regs ∧ F .tables ∧ F .mem ∧ F
    .freeCount ∧ F .log ∧ F .cores ∧ F .layers ∧ F .lpBytes ∧ F .units ∧ F .rows ∧ F .surveys ∧ F .ver ∧ F .gy ∧ F
    .recs ∧ F .blocks ∧ F .pins ∧ F .motion ∧ F .sent ∧ F .hp ∧ F .dram ∧ F .boot) :
    Keeps F a (s.moveDone x t) := by
  unfold State.moveDone
  dsimp only
  repeat' first
    | (simp (maxDischargeDepth := 60) +contextual [h, hF]; done)
    | split
    | (rename_i e; obtain rfl := congrArg Prod.snd e)

@[simp ↓] theorem stopDone_keeps {x : Nat} (h : Keeps F a s) (hF : F .regs ∧ F .tables ∧ F .mem ∧ F .freeCount ∧ F
    .log ∧ F .cores ∧ F .layers ∧ F .lpBytes ∧ F .units ∧ F .rows ∧ F .surveys ∧ F .ver ∧ F .gy ∧ F .recs ∧ F
    .blocks ∧ F .pins ∧ F .motion ∧ F .sent ∧ F .hp ∧ F .dram ∧ F .boot) :
    Keeps F a (s.stopDone x) := by
  unfold State.stopDone
  dsimp only
  repeat' first
    | (simp (maxDischargeDepth := 60) +contextual [h, hF]; done)
    | split
    | (rename_i e; obtain rfl := congrArg Prod.snd e)

@[simp ↓] theorem homeParked_keeps {x : Nat} (h : Keeps F a s) (hF : F .regs ∧ F .tables ∧ F .mem ∧ F .freeCount ∧
    F .log ∧ F .cores ∧ F .layers ∧ F .lpBytes ∧ F .units ∧ F .rows ∧ F .surveys ∧ F .ver ∧ F .gy ∧ F .recs ∧ F
    .blocks ∧ F .pins ∧ F .motion ∧ F .sent ∧ F .hp ∧ F .dram ∧ F .boot) :
    Keeps F a (s.homeParked x) := by
  unfold State.homeParked
  simp (maxDischargeDepth := 60) [h, hF]

@[simp ↓] theorem pathSample_keeps {x : Nat} {seg : Nat} {last : Nat} {k : Nat} {p0 : Int} {v0 : Int} (h : Keeps F
    a s) (hF : F .regs ∧ F .tables ∧ F .mem ∧ F .freeCount ∧ F .log ∧ F .cores ∧ F .layers ∧ F .lpBytes ∧ F .units
    ∧ F .rows ∧ F .surveys ∧ F .ver ∧ F .gy ∧ F .recs ∧ F .blocks ∧ F .pins ∧ F .motion ∧ F .sent ∧ F .hp ∧ F .dram
    ∧ F .boot) :
    Keeps F a (s.pathSample x seg last k p0 v0) := by
  unfold State.pathSample
  simp (maxDischargeDepth := 60) [h, hF]

@[simp ↓] theorem decelSample_keeps {x : Nat} {dir : Bool} {plan : List (Int × Int × Int)} {t : Int} (h : Keeps F a
    s) (hF : F .regs ∧ F .tables ∧ F .mem ∧ F .freeCount ∧ F .log ∧ F .cores ∧ F .layers ∧ F .lpBytes ∧ F .units ∧
    F .rows ∧ F .surveys ∧ F .ver ∧ F .gy ∧ F .recs ∧ F .blocks ∧ F .pins ∧ F .motion ∧ F .sent ∧ F .hp ∧ F .dram ∧
    F .boot) :
    Keeps F a (s.decelSample x dir plan t) := by
  unfold State.decelSample
  dsimp only
  repeat' first
    | (simp (maxDischargeDepth := 60) +contextual [h, hF]; done)
    | split
    | (rename_i e; obtain rfl := congrArg Prod.snd e)

@[simp ↓] theorem beginDecel_keeps {x : Nat} {dir : Bool} {t : Int} (h : Keeps F a s) (hF : F .regs ∧ F .tables ∧ F
    .mem ∧ F .freeCount ∧ F .log ∧ F .cores ∧ F .layers ∧ F .lpBytes ∧ F .units ∧ F .rows ∧ F .surveys ∧ F .ver ∧ F
    .gy ∧ F .recs ∧ F .blocks ∧ F .pins ∧ F .motion ∧ F .sent ∧ F .hp ∧ F .dram ∧ F .boot) :
    Keeps F a (s.beginDecel x dir t) := by
  unfold State.beginDecel
  dsimp only
  repeat' first
    | (simp (maxDischargeDepth := 60) +contextual [h, hF]; done)
    | split
    | (rename_i e; obtain rfl := congrArg Prod.snd e)

@[simp ↓] theorem moveSample_keeps {x : Nat} {dir : Bool} {t : Int} (h : Keeps F a s) (hF : F .regs ∧ F .tables ∧ F
    .mem ∧ F .freeCount ∧ F .log ∧ F .cores ∧ F .layers ∧ F .lpBytes ∧ F .units ∧ F .rows ∧ F .surveys ∧ F .ver ∧ F
    .gy ∧ F .recs ∧ F .blocks ∧ F .pins ∧ F .motion ∧ F .sent ∧ F .hp ∧ F .dram ∧ F .boot) :
    Keeps F a (s.moveSample x dir t) := by
  unfold State.moveSample
  dsimp only
  repeat' first
    | (simp (maxDischargeDepth := 60) +contextual [h, hF]; done)
    | split
    | (rename_i e; obtain rfl := congrArg Prod.snd e)

@[simp ↓] theorem holdSample_keeps {x : Nat} {dir : Bool} {t : Int} (h : Keeps F a s) (hF : F .regs ∧ F .tables ∧ F
    .mem ∧ F .freeCount ∧ F .log ∧ F .cores ∧ F .layers ∧ F .lpBytes ∧ F .units ∧ F .rows ∧ F .surveys ∧ F .ver ∧ F
    .gy ∧ F .recs ∧ F .blocks ∧ F .pins ∧ F .motion ∧ F .sent ∧ F .hp ∧ F .dram ∧ F .boot) :
    Keeps F a (s.holdSample x dir t) := by
  unfold State.holdSample
  simp (maxDischargeDepth := 60) [h, hF]

@[simp ↓] theorem takeOvr_keeps {x : Nat} (h : Keeps F a s) (hF : F .regs) :
    Keeps F a (s.takeOvr x) := by
  unfold State.takeOvr
  simp (maxDischargeDepth := 60) [h, hF]

@[simp ↓] theorem limitCheck_keeps {x : Nat} (h : Keeps F a s) (hF : F .regs ∧ F .tables ∧ F .mem ∧ F .freeCount ∧
    F .log ∧ F .cores ∧ F .layers ∧ F .lpBytes ∧ F .units ∧ F .rows ∧ F .surveys ∧ F .ver ∧ F .gy ∧ F .recs ∧ F
    .blocks ∧ F .pins ∧ F .motion ∧ F .sent ∧ F .hp ∧ F .dram ∧ F .boot) :
    Keeps F a (s.limitCheck x) := by
  unfold State.limitCheck
  simp (maxDischargeDepth := 60) [h, hF]

@[simp ↓] theorem genSample_keeps {x : Nat} (h : Keeps F a s) (hF : F .regs ∧ F .tables ∧ F .mem ∧ F .freeCount ∧ F
    .log ∧ F .cores ∧ F .layers ∧ F .lpBytes ∧ F .units ∧ F .rows ∧ F .surveys ∧ F .ver ∧ F .gy ∧ F .recs ∧ F
    .blocks ∧ F .pins ∧ F .motion ∧ F .sent ∧ F .hp ∧ F .dram ∧ F .boot) :
    Keeps F a (s.genSample x) := by
  unfold State.genSample
  dsimp only
  repeat' first
    | (simp (maxDischargeDepth := 60) +contextual [h, hF]; done)
    | split
    | (rename_i e; obtain rfl := congrArg Prod.snd e)

end Sys2Proof.Laws
end

