-- ==== Sys2Proof/Laws/KeepsStream.lean ====
section
/-! SUPPORT. What the operations of Sys2Proof/Machine/Stream.lean can change: one lemma each. -/

set_option linter.unusedTactic false
set_option linter.unreachableTactic false
set_option Elab.async false

namespace Sys2Proof.Laws

open Sys2Proof.Machine Sys2Proof.Safety

variable {F : Part → Prop} {a s : State}

@[simp ↓] theorem snoopDigest_keeps {p : Content} {b : List Byte} (h : Keeps F a s) (hF : F .regs) :
    Keeps F a (s.snoopDigest p b) := by
  unfold State.snoopDigest
  simp (maxDischargeDepth := 60) [h, hF]

@[simp ↓] theorem showParser_keeps (h : Keeps F a s) (hF : F .regs) :
    Keeps F a (s.showParser) := by
  unfold State.showParser
  simp (maxDischargeDepth := 60) [h, hF]

@[simp ↓] theorem setContent_keeps {p : Content} (h : Keeps F a s) (hF : F .parser) :
    Keeps F a (s.setContent p) := by
  unfold State.setContent
  simp (maxDischargeDepth := 60) [h, hF]

@[simp ↓] theorem halt_keeps {cause : Nat} {b : List Byte} (h : Keeps F a s) (hF : F .regs ∧ F .mem ∧ F .log ∧ F
    .parser ∧ F .sent ∧ F .dram) :
    Keeps F a (s.halt cause b) := by
  unfold State.halt
  simp (maxDischargeDepth := 60) [h, hF]

@[simp ↓] theorem discardRecord_keeps {b : List Byte} (h : Keeps F a s) (hF : F .regs ∧ F .parser) :
    Keeps F a (s.discardRecord b) := by
  unfold State.discardRecord
  simp (maxDischargeDepth := 60) [h, hF]

@[simp ↓] theorem hold_keeps {c : Nat} {b : List Byte} (h : Keeps F a s) (hF : F .parser) :
    Keeps F a (s.hold c b) := by
  unfold State.hold
  simp (maxDischargeDepth := 60) [h, hF]

@[simp ↓] theorem acceptLayer_keeps {l : Layer} (h : Keeps F a s) (hF : F .regs ∧ F .layers ∧ F .lpBytes ∧ F
    .shown) :
    Keeps F a (s.acceptLayer l) := by
  unfold State.acceptLayer
  simp (maxDischargeDepth := 60) [h, hF]

@[simp ↓] theorem storeRecord_keeps {q : Content} {addr : Nat} {c : Nat} {b : List Byte} (h : Keeps F a s) (hF : F
    .regs ∧ F .mem ∧ F .log ∧ F .sent ∧ F .dram) :
    Keeps F a (s.storeRecord q addr c b) := by
  unfold State.storeRecord
  (repeat' split) <;> simp (maxDischargeDepth := 60) +contextual [h, hF]

@[simp ↓] theorem acceptRecord_keeps {p : Content} {addr : Nat} {c : Nat} {b : List Byte} (h : Keeps F a s) (hF : F
    .regs ∧ F .mem ∧ F .log ∧ F .layers ∧ F .lpBytes ∧ F .parser ∧ F .shown ∧ F .sent ∧ F .dram) :
    Keeps F a (s.acceptRecord p addr c b) := by
  unfold State.acceptRecord
  dsimp only
  repeat' first
    | (simp (maxDischargeDepth := 60) +contextual [h, hF]; done)
    | split
    | (rename_i e; obtain rfl := congrArg Prod.snd e)

@[simp ↓] theorem takeOrHalt_keeps {p : Content} {c : Nat} {b : List Byte} (h : Keeps F a s) (hF : F .regs ∧ F .mem
    ∧ F .log ∧ F .layers ∧ F .lpBytes ∧ F .parser ∧ F .shown ∧ F .sent ∧ F .dram) :
    Keeps F a (s.takeOrHalt p c b) := by
  unfold State.takeOrHalt
  refine keeps_ite (halt_keeps (keeps_ite (snoopDigest_keeps h (by simp [hF])) h) (by simp [hF])) ?_
  generalize (if c = typeLayer ∧ p.lastLayer = none then s.binding p.materials else Binding.ok) = o
  cases o with
  | fail => exact halt_keeps h (by simp [hF])
  | wait => exact showParser_keeps (keeps_parser (hold_keeps h (by simp [hF])) (by simp [hF])) (by simp [hF])
  | ok =>
    generalize s.lpPlace p c b = r
    cases r with
    | none =>
      exact lpFullCheck_keeps (keeps_parser (event_keeps (hold_keeps h (by simp [hF])) (by simp [hF])) (by simp [hF]))
        (by simp [hF])
    | some _ => exact showParser_keeps (acceptRecord_keeps h (by simp [hF])) (by simp [hF])

@[simp ↓] theorem parseRecord_keeps {c : Nat} {b : List Byte} (h : Keeps F a s) (hF : F .regs ∧ F .mem ∧ F .log ∧ F
    .layers ∧ F .lpBytes ∧ F .parser ∧ F .shown ∧ F .sent ∧ F .dram) :
    Keeps F a (s.parseRecord c b) := by
  unfold State.parseRecord
  dsimp only
  repeat' first
    | (simp (maxDischargeDepth := 60) +contextual [h, hF]; done)
    | split
    | (rename_i e; obtain rfl := congrArg Prod.snd e)

@[simp ↓] theorem drain_keeps {y1 : Nat} (h : Keeps F a s) (hF : F .regs ∧ F .mem ∧ F .log ∧ F .layers ∧ F .lpBytes
    ∧ F .parser ∧ F .shown ∧ F .sent ∧ F .dram) :
    Keeps F a (s.drain y1) := by
  induction y1 generalizing s <;> unfold State.drain <;> try dsimp only
  all_goals repeat' first
    | (simp (maxDischargeDepth := 60) +contextual [*]; done)
    | split
    | (rename_i e; obtain rfl := congrArg Prod.snd e)

@[simp ↓] theorem feed_keeps {c : Nat} {rest : List Byte} (h : Keeps F a s) (hF : F .regs ∧ F .mem ∧ F .log ∧ F
    .layers ∧ F .lpBytes ∧ F .parser ∧ F .shown ∧ F .sent ∧ F .dram) :
    Keeps F a (s.feed c rest) := by
  unfold State.feed
  simp (maxDischargeDepth := 60) [h, hF]

@[simp ↓] theorem retake_keeps (h : Keeps F a s) (hF : F .regs ∧ F .mem ∧ F .log ∧ F .layers ∧ F .lpBytes ∧ F
    .parser ∧ F .shown ∧ F .sent ∧ F .dram) :
    Keeps F a (s.retake) := by
  unfold State.retake
  simp (maxDischargeDepth := 60) [h, hF]

@[simp ↓] theorem execJobRecord_keeps {rest : List Byte} (h : Keeps F a s) (hF : F .regs ∧ F .mem ∧ F .log ∧ F
    .layers ∧ F .lpBytes ∧ F .parser ∧ F .shown ∧ F .sent ∧ F .dram) :
    KeepsOut F a (execJobRecord rest s) := by
  unfold execJobRecord
  simp (maxDischargeDepth := 60) [h, hF]

@[simp ↓] theorem execLayerRecord_keeps {rest : List Byte} (h : Keeps F a s) (hF : F .regs ∧ F .mem ∧ F .log ∧ F
    .layers ∧ F .lpBytes ∧ F .parser ∧ F .shown ∧ F .sent ∧ F .dram) :
    KeepsOut F a (execLayerRecord rest s) := by
  unfold execLayerRecord
  simp (maxDischargeDepth := 60) [h, hF]

@[simp ↓] theorem execHeadsWaitEnd_keeps (h : Keeps F a s) (hF : F .regs ∧ F .mem ∧ F .log ∧ F .layers ∧ F .lpBytes
    ∧ F .parser ∧ F .shown ∧ F .sent ∧ F .dram) :
    KeepsOut F a (execHeadsWaitEnd s) := by
  unfold execHeadsWaitEnd
  simp (maxDischargeDepth := 60) [h, hF]

@[simp ↓] theorem execCellBegin_keeps {rest : List Byte} (h : Keeps F a s) (hF : F .regs ∧ F .mem ∧ F .log ∧ F
    .layers ∧ F .lpBytes ∧ F .parser ∧ F .shown ∧ F .sent ∧ F .dram) :
    KeepsOut F a (execCellBegin rest s) := by
  unfold execCellBegin
  simp (maxDischargeDepth := 60) [h, hF]

@[simp ↓] theorem execCellEnd_keeps {rest : List Byte} (h : Keeps F a s) (hF : F .regs ∧ F .mem ∧ F .log ∧ F
    .layers ∧ F .lpBytes ∧ F .parser ∧ F .shown ∧ F .sent ∧ F .dram) :
    KeepsOut F a (execCellEnd rest s) := by
  unfold execCellEnd
  simp (maxDischargeDepth := 60) [h, hF]

@[simp ↓] theorem execLattice_keeps {rest : List Byte} (h : Keeps F a s) (hF : F .regs ∧ F .mem ∧ F .log ∧ F
    .layers ∧ F .lpBytes ∧ F .parser ∧ F .shown ∧ F .sent ∧ F .dram) :
    KeepsOut F a (execLattice rest s) := by
  unfold execLattice
  simp (maxDischargeDepth := 60) [h, hF]

@[simp ↓] theorem execPlace_keeps {rest : List Byte} (h : Keeps F a s) (hF : F .regs ∧ F .mem ∧ F .log ∧ F .layers
    ∧ F .lpBytes ∧ F .parser ∧ F .shown ∧ F .sent ∧ F .dram) :
    KeepsOut F a (execPlace rest s) := by
  unfold execPlace
  simp (maxDischargeDepth := 60) [h, hF]

@[simp ↓] theorem execArray_keeps {rest : List Byte} (h : Keeps F a s) (hF : F .regs ∧ F .mem ∧ F .log ∧ F .layers
    ∧ F .lpBytes ∧ F .parser ∧ F .shown ∧ F .sent ∧ F .dram) :
    KeepsOut F a (execArray rest s) := by
  unfold execArray
  simp (maxDischargeDepth := 60) [h, hF]

@[simp ↓] theorem execPoly_keeps {rest : List Byte} (h : Keeps F a s) (hF : F .regs ∧ F .mem ∧ F .log ∧ F .layers ∧
    F .lpBytes ∧ F .parser ∧ F .shown ∧ F .sent ∧ F .dram) :
    KeepsOut F a (execPoly rest s) := by
  unfold execPoly
  simp (maxDischargeDepth := 60) [h, hF]

@[simp ↓] theorem execTrap_keeps {rest : List Byte} (h : Keeps F a s) (hF : F .regs ∧ F .mem ∧ F .log ∧ F .layers ∧
    F .lpBytes ∧ F .parser ∧ F .shown ∧ F .sent ∧ F .dram) :
    KeepsOut F a (execTrap rest s) := by
  unfold execTrap
  simp (maxDischargeDepth := 60) [h, hF]

@[simp ↓] theorem execRect_keeps {rest : List Byte} (h : Keeps F a s) (hF : F .regs ∧ F .mem ∧ F .log ∧ F .layers ∧
    F .lpBytes ∧ F .parser ∧ F .shown ∧ F .sent ∧ F .dram) :
    KeepsOut F a (execRect rest s) := by
  unfold execRect
  simp (maxDischargeDepth := 60) [h, hF]

@[simp ↓] theorem execDisc_keeps {rest : List Byte} (h : Keeps F a s) (hF : F .regs ∧ F .mem ∧ F .log ∧ F .layers ∧
    F .lpBytes ∧ F .parser ∧ F .shown ∧ F .sent ∧ F .dram) :
    KeepsOut F a (execDisc rest s) := by
  unfold execDisc
  simp (maxDischargeDepth := 60) [h, hF]

@[simp ↓] theorem execPatch_keeps {rest : List Byte} (h : Keeps F a s) (hF : F .regs ∧ F .mem ∧ F .log ∧ F .layers
    ∧ F .lpBytes ∧ F .parser ∧ F .shown ∧ F .sent ∧ F .dram) :
    KeepsOut F a (execPatch rest s) := by
  unfold execPatch
  simp (maxDischargeDepth := 60) [h, hF]

@[simp ↓] theorem execMaterial_keeps {rest : List Byte} (h : Keeps F a s) (hF : F .regs ∧ F .mem ∧ F .log ∧ F
    .layers ∧ F .lpBytes ∧ F .parser ∧ F .shown ∧ F .sent ∧ F .dram) :
    KeepsOut F a (execMaterial rest s) := by
  unfold execMaterial
  simp (maxDischargeDepth := 60) [h, hF]

@[simp ↓] theorem execDosecurve_keeps {rest : List Byte} (h : Keeps F a s) (hF : F .regs ∧ F .mem ∧ F .log ∧ F
    .layers ∧ F .lpBytes ∧ F .parser ∧ F .shown ∧ F .sent ∧ F .dram) :
    KeepsOut F a (execDosecurve rest s) := by
  unfold execDosecurve
  simp (maxDischargeDepth := 60) [h, hF]

@[simp ↓] theorem execKernel_keeps {rest : List Byte} (h : Keeps F a s) (hF : F .regs ∧ F .mem ∧ F .log ∧ F .layers
    ∧ F .lpBytes ∧ F .parser ∧ F .shown ∧ F .sent ∧ F .dram) :
    KeepsOut F a (execKernel rest s) := by
  unfold execKernel
  simp (maxDischargeDepth := 60) [h, hF]

@[simp ↓] theorem execField_keeps {rest : List Byte} (h : Keeps F a s) (hF : F .regs ∧ F .mem ∧ F .log ∧ F .layers
    ∧ F .lpBytes ∧ F .parser ∧ F .shown ∧ F .sent ∧ F .dram) :
    KeepsOut F a (execField rest s) := by
  unfold execField
  simp (maxDischargeDepth := 60) [h, hF]

@[simp ↓] theorem execSwathplan_keeps {rest : List Byte} (h : Keeps F a s) (hF : F .regs ∧ F .mem ∧ F .log ∧ F
    .layers ∧ F .lpBytes ∧ F .parser ∧ F .shown ∧ F .sent ∧ F .dram) :
    KeepsOut F a (execSwathplan rest s) := by
  unfold execSwathplan
  simp (maxDischargeDepth := 60) [h, hF]

@[simp ↓] theorem execCheckRecord_keeps {rest : List Byte} (h : Keeps F a s) (hF : F .regs ∧ F .mem ∧ F .log ∧ F
    .layers ∧ F .lpBytes ∧ F .parser ∧ F .shown ∧ F .sent ∧ F .dram) :
    KeepsOut F a (execCheckRecord rest s) := by
  unfold execCheckRecord
  simp (maxDischargeDepth := 60) [h, hF]

@[simp ↓] theorem execEndRecord_keeps {rest : List Byte} (h : Keeps F a s) (hF : F .regs ∧ F .mem ∧ F .log ∧ F
    .layers ∧ F .lpBytes ∧ F .parser ∧ F .shown ∧ F .sent ∧ F .dram) :
    KeepsOut F a (execEndRecord rest s) := by
  unfold execEndRecord
  simp (maxDischargeDepth := 60) [h, hF]

@[simp ↓] theorem execExtensionRecord_keeps {sub : Fin 16} {rest : List Byte} (h : Keeps F a s) (hF : F .regs ∧ F
    .mem ∧ F .log ∧ F .layers ∧ F .lpBytes ∧ F .parser ∧ F .shown ∧ F .sent ∧ F .dram) :
    KeepsOut F a (execExtensionRecord sub rest s) := by
  unfold execExtensionRecord
  simp (maxDischargeDepth := 60) [h, hF]

@[simp ↓] theorem execUnsupportedRecord_keeps {code : Byte} {rest : List Byte} (h : Keeps F a s) (hF : F .regs ∧ F
    .mem ∧ F .log ∧ F .layers ∧ F .lpBytes ∧ F .parser ∧ F .shown ∧ F .sent ∧ F .dram) :
    KeepsOut F a (execUnsupportedRecord code rest s) := by
  unfold execUnsupportedRecord
  simp (maxDischargeDepth := 60) [h, hF]

@[simp ↓] theorem execLpSpaceFreed_keeps (h : Keeps F a s) (hF : F .regs ∧ F .mem ∧ F .log ∧ F .layers ∧ F .lpBytes
    ∧ F .parser ∧ F .shown ∧ F .sent ∧ F .dram) :
    KeepsOut F a (execLpSpaceFreed s) := by
  unfold execLpSpaceFreed
  simp (maxDischargeDepth := 60) [h, hF]

@[simp ↓] theorem zlsResume_keeps (h : Keeps F a s) (hF : F .regs ∧ F .parser) :
    Keeps F a (s.zlsResume) := by
  unfold State.zlsResume
  (repeat' split) <;> simp (maxDischargeDepth := 60) +contextual [h, hF]

@[simp ↓] theorem abortLayer_keeps {l : Layer} (h : Keeps F a s) (hF : F .regs ∧ F .tables ∧ F .mem ∧ F .freeCount
    ∧ F .log ∧ F .cores ∧ F .layers ∧ F .lpBytes ∧ F .units ∧ F .rows ∧ F .surveys ∧ F .ver ∧ F .gy ∧ F .recs ∧ F
    .blocks ∧ F .pins ∧ F .motion ∧ F .sent ∧ F .hp ∧ F .dram ∧ F .boot) :
    Keeps F a (s.abortLayer l) := by
  unfold State.abortLayer
  simp (maxDischargeDepth := 60) +contextual [h, hF]

@[simp ↓] theorem abortJob_keeps (h : Keeps F a s) (hF : F .regs ∧ F .tables ∧ F .mem ∧ F .freeCount ∧ F .log ∧ F
    .cores ∧ F .layers ∧ F .lpBytes ∧ F .units ∧ F .rows ∧ F .surveys ∧ F .parser ∧ F .ver ∧ F .gy ∧ F .recs ∧ F
    .blocks ∧ F .shown ∧ F .pins ∧ F .motion ∧ F .sent ∧ F .hp ∧ F .dram ∧ F .boot) :
    Keeps F a (s.abortJob) := by
  unfold State.abortJob
  (repeat' split) <;> simp (maxDischargeDepth := 60) +contextual [h, hF]

@[simp ↓] theorem zlsCtrl_keeps {w : Word} (h : Keeps F a s) (hF : F .regs ∧ F .tables ∧ F .mem ∧ F .freeCount ∧ F
    .log ∧ F .cores ∧ F .layers ∧ F .lpBytes ∧ F .units ∧ F .rows ∧ F .surveys ∧ F .parser ∧ F .ver ∧ F .gy ∧ F
    .recs ∧ F .blocks ∧ F .shown ∧ F .pins ∧ F .motion ∧ F .sent ∧ F .hp ∧ F .dram ∧ F .boot) :
    Keeps F a (s.zlsCtrl w) := by
  unfold State.zlsCtrl
  simp (maxDischargeDepth := 60) [h, hF]

@[simp ↓] theorem execAbortJob_keeps {w : Word} (h : Keeps F a s) (hF : F .regs ∧ F .tables ∧ F .mem ∧ F .freeCount
    ∧ F .log ∧ F .cores ∧ F .layers ∧ F .lpBytes ∧ F .units ∧ F .rows ∧ F .surveys ∧ F .parser ∧ F .ver ∧ F .gy ∧ F
    .recs ∧ F .blocks ∧ F .shown ∧ F .pins ∧ F .motion ∧ F .sent ∧ F .hp ∧ F .dram ∧ F .boot) :
    KeepsOut F a (execAbortJob w s) := by
  unfold execAbortJob
  simp (maxDischargeDepth := 60) [h, hF]

end Sys2Proof.Laws
end

