-- ==== Sys2Proof/Laws/KeepsExpand.lean ====
section
/-! SUPPORT. What the operations of Sys2Proof/Machine/Expand.lean can change: one lemma each. -/

set_option linter.unusedTactic false
set_option linter.unreachableTactic false
set_option Elab.async false

namespace Sys2Proof.Laws

open Sys2Proof.Machine Sys2Proof.Safety

variable {F : Part → Prop} {a s : State}

@[simp ↓] theorem putRow_keeps {x : ExpandedRow} (h : Keeps F a s) (hF : F .regs ∧ F .mem ∧ F .log ∧ F .rows ∧ F
    .sent ∧ F .dram) :
    Keeps F a (s.putRow x) := by
  unfold State.putRow
  simp (maxDischargeDepth := 60) +contextual [h, hF]

@[simp ↓] theorem onUnit_keeps {n : Nat} {f : ExpUnit → ExpUnit} (h : Keeps F a s) (hF : F .units) :
    Keeps F a (s.onUnit n f) := by
  unfold State.onUnit
  (repeat' split) <;> simp (maxDischargeDepth := 60) +contextual [h, hF]

@[simp ↓] theorem unitFails_keeps {n : Nat} (h : Keeps F a s) (hF : F .regs ∧ F .log ∧ F .units) :
    Keeps F a (s.unitFails n) := by
  unfold State.unitFails
  simp (maxDischargeDepth := 60) [h, hF]

@[simp ↓] theorem disagree_keeps {n : Nat} (h : Keeps F a s) (hF : F .regs ∧ F .log ∧ F .units) :
    Keeps F a (s.disagree n) := by
  unfold State.disagree
  (repeat' split) <;> simp (maxDischargeDepth := 60) +contextual [h, hF]

@[simp ↓] theorem poolCheck_keeps {n : Nat} (h : Keeps F a s) (hF : F .regs ∧ F .units) :
    Keeps F a (s.poolCheck n) := by
  unfold State.poolCheck
  (repeat' split) <;> simp (maxDischargeDepth := 60) +contextual [h, hF]

@[simp ↓] theorem execTileRowExpand_keeps {n : Fin 4} {disagreed : Bool} (h : Keeps F a s) (hF : F .regs ∧ F .log ∧
    F .units) :
    KeepsOut F a (execTileRowExpand n disagreed s) := by
  unfold execTileRowExpand
  (repeat' split) <;> simp (maxDischargeDepth := 60) +contextual [h, hF]

@[simp ↓] theorem shadowRow_keeps {n : Nat} {ok : Bool} (h : Keeps F a s) (hF : F .units) :
    Keeps F a (s.shadowRow n ok) := by
  unfold State.shadowRow
  simp (maxDischargeDepth := 60) [h, hF]

@[simp ↓] theorem execTileRowExpandDone_keeps {n : Fin 4} {steps : Nat} {differ : List (Fin 4)} (h : Keeps F a s)
    (hF : F .regs ∧ F .mem ∧ F .log ∧ F .units ∧ F .rows ∧ F .sent ∧ F .dram) :
    KeepsOut F a (execTileRowExpandDone n steps differ s) := by
  unfold execTileRowExpandDone
  dsimp only
  repeat' first
    | (simp (maxDischargeDepth := 60) +contextual [h, hF]; done)
    | split
    | (rename_i e; obtain rfl := congrArg Prod.snd e)

@[simp ↓] theorem execPoolStallEnd_keeps {n : Fin 4} (h : Keeps F a s) (hF : F .regs ∧ F .units) :
    KeepsOut F a (execPoolStallEnd n s) := by
  unfold execPoolStallEnd
  (repeat' split) <;> simp (maxDischargeDepth := 60) +contextual [h, hF]

@[simp ↓] theorem execTileRowLate_keeps {layer : Nat} {swath : Nat} {row : Nat} (h : Keeps F a s) (hF : F .regs ∧ F
    .tables ∧ F .mem ∧ F .log ∧ F .units ∧ F .rows ∧ F .ver ∧ F .gy ∧ F .recs ∧ F .blocks ∧ F .sent ∧ F .dram) :
    KeepsOut F a (execTileRowLate layer swath row s) := by
  unfold execTileRowLate
  simp (maxDischargeDepth := 60) +contextual [h, hF]

@[simp ↓] theorem unitCtrl_keeps {path : Path} {w : Word} (h : Keeps F a s) (hF : F .regs ∧ F .units) :
    Keeps F a (s.unitCtrl path w) := by
  unfold State.unitCtrl
  simp (maxDischargeDepth := 60) +contextual [h, hF]

@[simp ↓] theorem execExpUnitOut_keeps {path : Path} {w : Word} (h : Keeps F a s) (hF : F .regs ∧ F .units) :
    KeepsOut F a (execExpUnitOut path w s) := by
  unfold execExpUnitOut
  simp (maxDischargeDepth := 60) [h, hF]

@[simp ↓] theorem execExpUnitReturn_keeps {path : Path} {w : Word} (h : Keeps F a s) (hF : F .regs ∧ F .units) :
    KeepsOut F a (execExpUnitReturn path w s) := by
  unfold execExpUnitReturn
  simp (maxDischargeDepth := 60) [h, hF]

@[simp ↓] theorem execExpUnitLeave_keeps {n : Fin 4} (h : Keeps F a s) (hF : F .regs ∧ F .units) :
    KeepsOut F a (execExpUnitLeave n s) := by
  unfold execExpUnitLeave
  (repeat' split) <;> simp (maxDischargeDepth := 60) +contextual [h, hF]

@[simp ↓] theorem execXuSelftestDone_keeps {n : Fin 4} {pass : Bool} (h : Keeps F a s) (hF : F .units) :
    KeepsOut F a (execXuSelftestDone n pass s) := by
  unfold execXuSelftestDone
  simp (maxDischargeDepth := 60) [h, hF]

@[simp ↓] theorem execXuReenter_keeps {n : Fin 4} (h : Keeps F a s) (hF : F .units) :
    KeepsOut F a (execXuReenter n s) := by
  unfold execXuReenter
  simp (maxDischargeDepth := 60) [h, hF]

@[simp ↓] theorem cacheRead_keeps {line : Nat} (h : Keeps F a s) (hF : F .regs ∧ F .mem ∧ F .freeCount ∧ F .log ∧ F
    .sram ∧ F .sent ∧ F .dram ∧ F .boot) :
    Keeps F a (s.cacheRead line) := by
  unfold State.cacheRead
  simp (maxDischargeDepth := 60) [h, hF]

@[simp ↓] theorem execCellCacheFill_keeps {line : Nat} {hits : List Nat} {row : Nat} {ecc : Ecc} (h : Keeps F a s)
    (hF : F .regs ∧ F .mem ∧ F .freeCount ∧ F .log ∧ F .sram ∧ F .cache ∧ F .sent ∧ F .dram ∧ F .boot) :
    KeepsOut F a (execCellCacheFill line hits row ecc s) := by
  unfold execCellCacheFill
  simp (maxDischargeDepth := 60) +contextual [h, hF]

end Sys2Proof.Laws
end

