-- ==== Sys2Proof/Laws/KeepsSurvey.lean ====
section
/-! SUPPORT. What the operations of Sys2Proof/Machine/Survey.lean can change: one lemma each. -/

set_option linter.unusedTactic false
set_option linter.unreachableTactic false
set_option Elab.async false

namespace Sys2Proof.Laws

open Sys2Proof.Machine Sys2Proof.Safety

variable {F : Part → Prop} {a s : State}

@[simp ↓] theorem execSurveyStart_keeps (h : Keeps F a s) (hF : F .regs ∧ F .surveys) :
    KeepsOut F a (execSurveyStart s) := by
  unfold execSurveyStart
  (repeat' split) <;> simp (maxDischargeDepth := 60) +contextual [h, hF]

@[simp ↓] theorem fit32_keeps {v : Option Nat} (h : Keeps F a s) (hF : F .freeCount) :
    Keeps F a (s.fit32 v).2 := by
  unfold State.fit32
  (repeat' split) <;> simp (maxDischargeDepth := 60) +contextual [h, hF]

@[simp ↓] theorem execSurveyDone_keeps (h : Keeps F a s) (hF : F .regs ∧ F .tables ∧ F .mem ∧ F .freeCount ∧ F .log
    ∧ F .cores ∧ F .layers ∧ F .lpBytes ∧ F .units ∧ F .rows ∧ F .surveys ∧ F .ver ∧ F .gy ∧ F .recs ∧ F .blocks ∧
    F .pins ∧ F .motion ∧ F .sent ∧ F .hp ∧ F .dram ∧ F .boot) :
    KeepsOut F a (execSurveyDone s) := by
  unfold execSurveyDone
  dsimp only
  repeat' first
    | (simp (maxDischargeDepth := 60) +contextual [h, hF]; done)
    | split
    | (rename_i e; obtain rfl := congrArg Prod.snd e)

@[simp ↓] theorem pinSwath_keeps {layer : Nat} {idx : Nat} (h : Keeps F a s) (hF : F .pins) :
    Keeps F a (s.pinSwath layer idx) := by
  unfold State.pinSwath
  (repeat' split) <;> simp (maxDischargeDepth := 60) +contextual [h, hF]

end Sys2Proof.Laws
end

