-- ==== Sys2Proof/Laws/KeepsVerify.lean ====
section
/-! SUPPORT. What the operations of Sys2Proof/Machine/Verify.lean can change: one lemma each. -/

set_option linter.unusedTactic false
set_option linter.unreachableTactic false
set_option Elab.async false

namespace Sys2Proof.Laws

open Sys2Proof.Machine Sys2Proof.Safety

variable {F : Part → Prop} {a s : State}

@[simp ↓] theorem parkCheck_keeps {e : Nat} (h : Keeps F a s) (hF : F .regs ∧ F .ver) :
    Keeps F a (s.parkCheck e) := by
  unfold State.parkCheck
  (repeat' split) <;> simp (maxDischargeDepth := 60) +contextual [h, hF]

@[simp ↓] theorem startRole_keeps {t : TileId} {e : Nat} {r : Role} (h : Keeps F a s) (hF : F .regs ∧ F .ver) :
    Keeps F a (s.startRole t e r) := by
  unfold State.startRole
  simp (maxDischargeDepth := 60) [h, hF]

@[simp ↓] theorem startVote_keeps {t : TileId} (h : Keeps F a s) (hF : F .regs ∧ F .ver) :
    Keeps F a (s.startVote t) := by
  unfold State.startVote
  (repeat' split) <;> simp (maxDischargeDepth := 60) +contextual [h, hF]

@[simp ↓] theorem redoRow_keeps {q : RowId} (h : Keeps F a s) (hF : F .units ∧ F .rows ∧ F .ver) :
    Keeps F a (s.redoRow q) := by
  unfold State.redoRow
  simp (maxDischargeDepth := 60) +contextual [h, hF]

@[simp ↓] theorem noMajority_keeps {t : TileId} (h : Keeps F a s) (hF : F .regs ∧ F .tables ∧ F .mem ∧ F .log ∧ F
    .units ∧ F .rows ∧ F .ver ∧ F .gy ∧ F .recs ∧ F .blocks ∧ F .sent ∧ F .dram) :
    Keeps F a (s.noMajority t) := by
  unfold State.noMajority
  (repeat' split) <;> simp (maxDischargeDepth := 60) +contextual [h, hF]

@[simp ↓] theorem voteOn_keeps {t : TileId} (h : Keeps F a s) (hF : F .regs ∧ F .tables ∧ F .mem ∧ F .log ∧ F
    .units ∧ F .rows ∧ F .ver ∧ F .gy ∧ F .recs ∧ F .blocks ∧ F .sent ∧ F .dram) :
    Keeps F a (s.voteOn t) := by
  unfold State.voteOn
  split
  · exact h
  · simp (maxDischargeDepth := 60) [h, hF]

@[simp ↓] theorem abandon_keeps {t : TileId} {e : Nat} {r : Role} (h : Keeps F a s) (hF : F .regs ∧ F .tables ∧ F
    .mem ∧ F .log ∧ F .units ∧ F .rows ∧ F .ver ∧ F .gy ∧ F .recs ∧ F .blocks ∧ F .sent ∧ F .dram) :
    Keeps F a (s.abandon t e r) := by
  unfold State.abandon
  (repeat' split) <;> simp (maxDischargeDepth := 60) +contextual [h, hF]

@[simp ↓] theorem tarnRead_keeps {e : Nat} {row : Nat} {x : Ecc} (h : Keeps F a s) (hF : F .regs ∧ F .log ∧ F .sram
    ∧ F .boot) :
    Keeps F a (s.tarnRead e row x) := by
  unfold State.tarnRead
  dsimp only
  repeat' first
    | (simp (maxDischargeDepth := 60) +contextual [h, hF]; done)
    | split
    | (rename_i e; obtain rfl := congrArg Prod.snd e)

@[simp ↓] theorem binBad_keeps {t : TileId} (h : Keeps F a s) (hF : F .regs ∧ F .log ∧ F .units ∧ F .rows ∧ F .ver)
    :
    Keeps F a (s.binBad t) := by
  unfold State.binBad
  simp (maxDischargeDepth := 60) [h, hF]

@[simp ↓] theorem onHaps_keeps {t : TileId} {e : Nat} {r : Role} {l : List Hap} (h : Keeps F a s) (hF : F .regs ∧ F
    .tables ∧ F .mem ∧ F .log ∧ F .units ∧ F .rows ∧ F .ver ∧ F .gy ∧ F .recs ∧ F .blocks ∧ F .sram ∧ F .sent ∧ F
    .dram ∧ F .boot) :
    Keeps F a (s.onHaps t e r l) := by
  induction l generalizing s with
  | nil => exact h
  | cons x l ih =>
    cases x with
    | tarnCorr row => exact ih (by simp (maxDischargeDepth := 60) [h, hF])
    | tarnUncorr row => simp (maxDischargeDepth := 60) [State.onHaps, h, hF]
    | binCrc => simp (maxDischargeDepth := 60) [State.onHaps, h, hF]
    | binId => simp (maxDischargeDepth := 60) [State.onHaps, h, hF]

@[simp ↓] theorem newCtx_keeps {t : TileId} {w : Swath} (h : Keeps F a s) (hF : F .ver) :
    Keeps F a (s.newCtx t w) := by
  unfold State.newCtx
  simp (maxDischargeDepth := 60) [h, hF]

@[simp ↓] theorem givePrimary_keeps {t : TileId} {w : Swath} {e : Nat} (h : Keeps F a s) (hF : F .regs ∧ F .ver) :
    Keeps F a (s.givePrimary t w e) := by
  unfold State.givePrimary
  (repeat' split) <;> simp (maxDischargeDepth := 60) +contextual [h, hF]

@[simp ↓] theorem giveRole_keeps {t : TileId} {w : Option Swath} {e : Nat} {r : Role} (h : Keeps F a s) (hF : F
    .regs ∧ F .tables ∧ F .mem ∧ F .log ∧ F .units ∧ F .rows ∧ F .ver ∧ F .gy ∧ F .recs ∧ F .blocks ∧ F .sent ∧ F
    .dram) :
    Keeps F a (s.giveRole t w e r) := by
  unfold State.giveRole
  (repeat' split) <;> simp (maxDischargeDepth := 60) +contextual [h, hF]

@[simp ↓] theorem execTileDispatch_keeps {t : TileId} {e : Fin 40} {r : Role} (h : Keeps F a s) (hF : F .regs ∧ F
    .tables ∧ F .mem ∧ F .log ∧ F .units ∧ F .rows ∧ F .ver ∧ F .gy ∧ F .recs ∧ F .blocks ∧ F .sram ∧ F .sent ∧ F
    .dram) :
    KeepsOut F a (execTileDispatch t e r s) := by
  unfold execTileDispatch
  dsimp only
  repeat' first
    | (simp (maxDischargeDepth := 60) +contextual [h, hF]; done)
    | split
    | (rename_i e; obtain rfl := congrArg Prod.snd e)

@[simp ↓] theorem execCheckerWaitTimeout_keeps {t : TileId} {e : Fin 40} (h : Keeps F a s) (hF : F .regs ∧ F .ver)
    :
    KeepsOut F a (execCheckerWaitTimeout t e s) := by
  unfold execCheckerWaitTimeout
  (repeat' split) <;> simp (maxDischargeDepth := 60) +contextual [h, hF]

@[simp ↓] theorem execParkedTileQuantise_keeps {e : Fin 40} (h : Keeps F a s) (hF : F .regs ∧ F .ver) :
    KeepsOut F a (execParkedTileQuantise e s) := by
  unfold execParkedTileQuantise
  (repeat' split) <;> simp (maxDischargeDepth := 60) +contextual [h, hF]

@[simp ↓] theorem dropRoles_keeps {e : Nat} (h : Keeps F a s) (hF : F .ver) :
    Keeps F a (s.dropRoles e) := by
  unfold State.dropRoles
  simp (maxDischargeDepth := 60) [h, hF]

@[simp ↓] theorem retryVotes_keeps (h : Keeps F a s) (hF : F .regs ∧ F .tables ∧ F .mem ∧ F .log ∧ F .units ∧ F
    .rows ∧ F .ver ∧ F .gy ∧ F .recs ∧ F .blocks ∧ F .sent ∧ F .dram) :
    Keeps F a (s.retryVotes) := by
  unfold State.retryVotes
  simp (maxDischargeDepth := 60) +contextual [h, hF]

@[simp ↓] theorem outIgnored_keeps {e : Nat} {dest : Svc} (h : Keeps F a s) (hF : F .regs) :
    Keeps F a (s.outIgnored e dest) := by
  unfold State.outIgnored
  (repeat' split) <;> simp (maxDischargeDepth := 60) +contextual [h, hF]

@[simp ↓] theorem engineLeaves_keeps {e : Nat} {dest : Svc} (h : Keeps F a s) (hF : F .regs ∧ F .tables ∧ F .mem ∧
    F .log ∧ F .units ∧ F .rows ∧ F .ver ∧ F .gy ∧ F .recs ∧ F .blocks ∧ F .sent ∧ F .dram) :
    Keeps F a (s.engineLeaves e dest) := by
  unfold State.engineLeaves
  try dsimp only
  repeat' first
    | (simp (maxDischargeDepth := 60) +contextual [*]; done)
    | (refine keeps_foldl ?_ fun t x ht => ?_)
    | split
    | (rename_i e; obtain rfl := congrArg Prod.snd e)

@[simp ↓] theorem loss_keeps {e : Nat} (h : Keeps F a s) (hF : F .regs ∧ F .tables ∧ F .mem ∧ F .log ∧ F .units ∧ F
    .rows ∧ F .ver ∧ F .gy ∧ F .recs ∧ F .blocks ∧ F .sent ∧ F .dram) :
    Keeps F a (s.loss e) := by
  unfold State.loss
  try dsimp only
  repeat' first
    | (simp (maxDischargeDepth := 60) +contextual [*]; done)
    | (refine keeps_foldl ?_ fun t x ht => ?_)
    | split
    | (rename_i e; obtain rfl := congrArg Prod.snd e)

@[simp ↓] theorem decided_keeps {t : TileId} {writer : Nat} {r : RasterResult} (h : Keeps F a s) (hF : F .regs ∧ F
    .tables ∧ F .mem ∧ F .log ∧ F .units ∧ F .rows ∧ F .ver ∧ F .gy ∧ F .recs ∧ F .blocks ∧ F .sent ∧ F .dram) :
    Keeps F a (s.decided t writer r) := by
  unfold State.decided
  (repeat' split) <;> simp (maxDischargeDepth := 60) +contextual [h, hF]

@[simp ↓] theorem mismatch_keeps {t : TileId} (h : Keeps F a s) (hF : F .regs ∧ F .log ∧ F .ver) :
    Keeps F a (s.mismatch t) := by
  unfold State.mismatch
  simp (maxDischargeDepth := 60) [h, hF]

@[simp ↓] theorem lateVote_keeps {c : TileCtx} (h : Keeps F a s) (hF : F .regs) :
    Keeps F a (s.lateVote c) := by
  unfold State.lateVote
  simp (maxDischargeDepth := 60) [h, hF]

@[simp ↓] theorem judge_keeps {t : TileId} {e : Nat} (h : Keeps F a s) (hF : F .regs ∧ F .tables ∧ F .mem ∧ F .log
    ∧ F .units ∧ F .rows ∧ F .ver ∧ F .gy ∧ F .recs ∧ F .blocks ∧ F .sent ∧ F .dram) :
    Keeps F a (s.judge t e) := by
  unfold State.judge
  (repeat' split) <;> simp (maxDischargeDepth := 60) +contextual [h, hF]

@[simp ↓] theorem shadowFails_keeps {e : Nat} (h : Keeps F a s) (hF : F .ver) :
    Keeps F a (s.shadowFails e) := by
  unfold State.shadowFails
  simp (maxDischargeDepth := 60) [h, hF]

@[simp ↓] theorem shadowCompare_keeps {e : Nat} {r : RasterResult} {c : RasterResult} (h : Keeps F a s) (hF : F
    .ver) :
    Keeps F a (s.shadowCompare e r c) := by
  unfold State.shadowCompare
  simp (maxDischargeDepth := 60) [h, hF]

@[simp ↓] theorem deliver_keeps {e : Nat} {k : Task} {r : RasterResult} {clocks : Nat} (h : Keeps F a s) (hF : F
    .regs ∧ F .tables ∧ F .mem ∧ F .log ∧ F .units ∧ F .rows ∧ F .ver ∧ F .gy ∧ F .recs ∧ F .blocks ∧ F .sent ∧ F
    .dram) :
    Keeps F a (s.deliver e k r clocks) := by
  unfold State.deliver
  dsimp only
  repeat' first
    | (simp (maxDischargeDepth := 60) +contextual [h, hF]; done)
    | split
    | (rename_i e; obtain rfl := congrArg Prod.snd e)

@[simp ↓] theorem rasterDone_keeps {e : Nat} {upset : Option (List (List Nat) × List Int)} {passes : Nat} {extra :
    Nat} (h : Keeps F a s) (hF : F .regs ∧ F .tables ∧ F .mem ∧ F .log ∧ F .units ∧ F .rows ∧ F .ver ∧ F .gy ∧ F
    .recs ∧ F .blocks ∧ F .sent ∧ F .dram) :
    Keeps F a (s.rasterDone e upset passes extra) := by
  unfold State.rasterDone
  (repeat' split) <;> simp (maxDischargeDepth := 60) +contextual [h, hF]

@[simp ↓] theorem binFetch_keeps {e : Nat} {t : TileId} (h : Keeps F a s) (hF : F .regs ∧ F .mem ∧ F .freeCount ∧ F
    .log ∧ F .sent ∧ F .dram) :
    Keeps F a (s.binFetch e t).2 := by
  unfold State.binFetch
  split
  · exact h
  · exact List.foldlRecOn (motive := fun (x : Bool × State) => Keeps F a x.2) _ _ h fun x hx p _ => by
      dsimp only
      exact fetch_keeps hx (by simp [hF])

@[simp ↓] theorem execRasterDone_keeps {e : Fin 40} {upset : Option (List (List Nat) × List Int)} {hs : List Hap}
    {passes : Nat} {extra : Nat} (h : Keeps F a s) (hF : F .regs ∧ F .tables ∧ F .mem ∧ F .freeCount ∧ F .log ∧ F
    .units ∧ F .rows ∧ F .ver ∧ F .gy ∧ F .recs ∧ F .blocks ∧ F .sram ∧ F .sent ∧ F .dram ∧ F .boot) :
    KeepsOut F a (execRasterDone e upset hs passes extra s) := by
  unfold execRasterDone
  dsimp only
  repeat' first
    | (simp (maxDischargeDepth := 60) +contextual [h, hF]; done)
    | split
    | (rename_i e; obtain rfl := congrArg Prod.snd e)

@[simp ↓] theorem execRingSpaceFree_keeps {t : TileId} (h : Keeps F a s) (hF : F .regs ∧ F .mem ∧ F .log ∧ F .ver ∧
    F .sent ∧ F .dram) :
    KeepsOut F a (execRingSpaceFree t s) := by
  unfold execRingSpaceFree
  (repeat' split) <;> simp (maxDischargeDepth := 60) +contextual [h, hF]

@[simp ↓] theorem countTile_keeps {r : RasterResult} (h : Keeps F a s) (hF : F .regs) :
    Keeps F a (s.countTile r) := by
  unfold State.countTile
  simp (maxDischargeDepth := 60) [h, hF]

@[simp ↓] theorem margin_keeps {t : TileId} {tF : Nat} (h : Keeps F a s) (hF : F .regs) :
    Keeps F a (s.margin t tF) := by
  unfold State.margin
  (repeat' split) <;> simp (maxDischargeDepth := 60) +contextual [h, hF]

@[simp ↓] theorem votedEntries_keeps {t : TileId} {votes : Nat} (h : Keeps F a s) (hF : F .regs ∧ F .tables ∧ F
    .mem ∧ F .log ∧ F .gy ∧ F .recs ∧ F .blocks ∧ F .sent ∧ F .dram) :
    Keeps F a (s.votedEntries t votes) := by
  unfold State.votedEntries
  (repeat' split) <;> simp (maxDischargeDepth := 60) +contextual [h, hF]

@[simp ↓] theorem commit_keeps {c : TileCtx} {e : Nat} {r : RasterResult} (h : Keeps F a s) (hF : F .regs ∧ F
    .tables ∧ F .mem ∧ F .log ∧ F .rows ∧ F .ver ∧ F .gy ∧ F .recs ∧ F .blocks ∧ F .sent ∧ F .dram) :
    Keeps F a (s.commit c e r) := by
  unfold State.commit
  simp (maxDischargeDepth := 60) +contextual [h, hF]

@[simp ↓] theorem writerGone_keeps {t : TileId} {e : Nat} (h : Keeps F a s) (hF : F .regs ∧ F .tables ∧ F .mem ∧ F
    .log ∧ F .units ∧ F .rows ∧ F .ver ∧ F .gy ∧ F .recs ∧ F .blocks ∧ F .sent ∧ F .dram) :
    Keeps F a (s.writerGone t e) := by
  unfold State.writerGone
  simp (maxDischargeDepth := 60) [h, hF]

@[simp ↓] theorem execCommitAck_keeps {t : TileId} {flips : List (Nat × Byte)} {tarn : List (Nat × Ecc)} (h : Keeps
    F a s) (hF : F .regs ∧ F .tables ∧ F .mem ∧ F .log ∧ F .units ∧ F .rows ∧ F .ver ∧ F .gy ∧ F .recs ∧ F .blocks
    ∧ F .sram ∧ F .sent ∧ F .dram ∧ F .boot) :
    KeepsOut F a (execCommitAck t flips tarn s) := by
  unfold execCommitAck
  (repeat' split) <;> simp (maxDischargeDepth := 60) +contextual [h, hF]

@[simp ↓] theorem execFireDeadline_keeps {t : TileId} (h : Keeps F a s) (hF : F .regs ∧ F .tables ∧ F .mem ∧ F .log
    ∧ F .rows ∧ F .ver ∧ F .gy ∧ F .recs ∧ F .blocks ∧ F .sent ∧ F .dram) :
    KeepsOut F a (execFireDeadline t s) := by
  unfold execFireDeadline
  (repeat' split) <;> simp (maxDischargeDepth := 60) +contextual [h, hF]

@[simp ↓] theorem promoteSpare_keeps {n : Nat} (h : Keeps F a s) (hF : F .regs ∧ F .log ∧ F .ver) :
    Keeps F a (s.promoteSpare n) := by
  unfold State.promoteSpare
  dsimp only
  repeat' first
    | (simp (maxDischargeDepth := 60) +contextual [h, hF]; done)
    | split
    | (rename_i e; obtain rfl := congrArg Prod.snd e)

@[simp ↓] theorem execSparePromote_keeps {n : Fin 4} (h : Keeps F a s) (hF : F .regs ∧ F .log ∧ F .ver) :
    KeepsOut F a (execSparePromote n s) := by
  unfold execSparePromote
  simp (maxDischargeDepth := 60) [h, hF]

@[simp ↓] theorem execVerEngOut_keeps {path : Path} {n : Fin 64} (h : Keeps F a s) (hF : F .regs ∧ F .ver) :
    KeepsOut F a (execVerEngOut path n s) := by
  unfold execVerEngOut
  (repeat' split) <;> simp (maxDischargeDepth := 60) +contextual [h, hF]

@[simp ↓] theorem execVerEngReturn_keeps {n : Fin 64} (h : Keeps F a s) (hF : F .ver) :
    KeepsOut F a (execVerEngReturn n s) := by
  unfold execVerEngReturn
  (repeat' split) <;> simp (maxDischargeDepth := 60) +contextual [h, hF]

@[simp ↓] theorem execEngOutApply_keeps {e : Fin 40} (h : Keeps F a s) (hF : F .regs ∧ F .tables ∧ F .mem ∧ F .log
    ∧ F .units ∧ F .rows ∧ F .ver ∧ F .gy ∧ F .recs ∧ F .blocks ∧ F .sent ∧ F .dram) :
    KeepsOut F a (execEngOutApply e s) := by
  unfold execEngOutApply
  try dsimp only
  repeat' first
    | (simp (maxDischargeDepth := 60) +contextual [*]; done)
    | (refine keeps_foldl ?_ fun t x ht => ?_)
    | split
    | (rename_i e; obtain rfl := congrArg Prod.snd e)

@[simp ↓] theorem execEngSelftestDone_keeps {e : Fin 40} {pass : Bool} (h : Keeps F a s) (hF : F .ver) :
    KeepsOut F a (execEngSelftestDone e pass s) := by
  unfold execEngSelftestDone
  (repeat' split) <;> simp (maxDischargeDepth := 60) +contextual [h, hF]

@[simp ↓] theorem execEngShadowReturn_keeps {e : Fin 40} (h : Keeps F a s) (hF : F .regs ∧ F .ver) :
    KeepsOut F a (execEngShadowReturn e s) := by
  unfold execEngShadowReturn
  (repeat' split) <;> simp (maxDischargeDepth := 60) +contextual [h, hF]

@[simp ↓] theorem avsBegin_keeps {n : Nat} {mhz : Nat} (h : Keeps F a s) (hF : F .regs ∧ F .ver) :
    Keeps F a (s.avsBegin n mhz) := by
  unfold State.avsBegin
  simp (maxDischargeDepth := 60) [h, hF]

@[simp ↓] theorem execAvsChangeRequest_keeps {n : Fin 4} {mhz : Nat} (h : Keeps F a s) (hF : F .regs ∧ F .ver) :
    KeepsOut F a (execAvsChangeRequest n mhz s) := by
  unfold execAvsChangeRequest
  simp (maxDischargeDepth := 60) [h, hF]

@[simp ↓] theorem avsEnd_keeps {n : Nat} (h : Keeps F a s) (hF : F .regs ∧ F .ver) :
    Keeps F a (s.avsEnd n) := by
  unfold State.avsEnd
  simp (maxDischargeDepth := 60) [h, hF]

@[simp ↓] theorem setClk_keeps {n : Nat} {mhz : Nat} (h : Keeps F a s) (hF : F .regs) :
    Keeps F a (s.setClk n mhz) := by
  unfold State.setClk
  simp (maxDischargeDepth := 60) [h, hF]

@[simp ↓] theorem clocksUp_keeps (h : Keeps F a s) (hF : F .regs ∧ F .ver) :
    Keeps F a (s.clocksUp) := by
  unfold State.clocksUp
  simp (maxDischargeDepth := 60) +contextual [h, hF]

@[simp ↓] theorem clocksLow_keeps (h : Keeps F a s) (hF : F .regs ∧ F .ver) :
    Keeps F a (s.clocksLow) := by
  unfold State.clocksLow
  simp (maxDischargeDepth := 60) +contextual [h, hF]

@[simp ↓] theorem execAvsSettled_keeps {n : Fin 4} (h : Keeps F a s) (hF : F .regs ∧ F .tables ∧ F .mem ∧ F .log ∧
    F .units ∧ F .rows ∧ F .ver ∧ F .gy ∧ F .recs ∧ F .blocks ∧ F .sent ∧ F .dram) :
    KeepsOut F a (execAvsSettled n s) := by
  unfold execAvsSettled
  (repeat' split) <;> simp (maxDischargeDepth := 60) +contextual [h, hF]

@[simp ↓] theorem execAvsChangeAbandon_keeps {n : Fin 4} (h : Keeps F a s) (hF : F .regs ∧ F .tables ∧ F .mem ∧ F
    .log ∧ F .units ∧ F .rows ∧ F .ver ∧ F .gy ∧ F .recs ∧ F .blocks ∧ F .sent ∧ F .dram) :
    KeepsOut F a (execAvsChangeAbandon n s) := by
  unfold execAvsChangeAbandon
  simp (maxDischargeDepth := 60) [h, hF]

end Sys2Proof.Laws
end

