-- ==== Sys2Proof/Laws/KeepsHeadCore.lean ====
section
/-! SUPPORT. What the operations of Sys2Proof/Machine/HeadCore.lean can change: one lemma each. -/

set_option linter.unusedTactic false
set_option linter.unreachableTactic false
set_option Elab.async false

namespace Sys2Proof.Laws

open Sys2Proof.Machine Sys2Proof.Safety

variable {F : Part → Prop} {a s : State}

@[simp ↓] theorem missed_keeps {layer : Nat} {swath : Nat} {port : Nat} {head : Nat} {row : Nat} {line : Nat}
    {cause : Nat} (h : Keeps F a s) (hF : F .regs ∧ F .tables ∧ F .mem ∧ F .log ∧ F .gy ∧ F .recs ∧ F .blocks ∧ F
    .sent ∧ F .dram) :
    Keeps F a (s.missed layer swath port head row line cause) := by
  unfold State.missed
  simp (maxDischargeDepth := 60) [h, hF]

@[simp ↓] theorem cmdMissed_keeps {p : Nat} {c : FireCmd} {cause : Nat} (h : Keeps F a s) (hF : F .regs ∧ F .tables
    ∧ F .mem ∧ F .log ∧ F .gy ∧ F .recs ∧ F .blocks ∧ F .sent ∧ F .dram) :
    Keeps F a (s.cmdMissed p c cause) := by
  unfold State.cmdMissed
  simp (maxDischargeDepth := 60) +contextual [h, hF]

@[simp ↓] theorem sbSend_keeps {p : Nat} {y2 : Nat} {r : SbReq} (h : Keeps F a s) (hF : F .regs ∧ F .log ∧ F .sent
    ∧ F .hp) :
    Keeps F a (s.sbSend p y2 r) := by
  unfold State.sbSend
  simp (maxDischargeDepth := 60) [h, hF]

@[simp ↓] theorem sbAsk_keeps {p : Nat} {y2 : Nat} {r : SbReq} (h : Keeps F a s) (hF : F .regs ∧ F .log ∧ F .sent ∧
    F .hp) :
    Keeps F a (s.sbAsk p y2 r) := by
  unfold State.sbAsk
  (repeat' split) <;> simp (maxDischargeDepth := 60) +contextual [h, hF]

@[simp ↓] theorem askIdent_keeps {p : Nat} {y2 : Nat} (h : Keeps F a s) (hF : F .regs ∧ F .log ∧ F .sent ∧ F .hp) :
    Keeps F a (s.askIdent p y2) := by
  unfold State.askIdent
  simp (maxDischargeDepth := 60) +contextual [h, hF]

@[simp ↓] theorem sbKick_keeps {p y2 : Nat} (h : Keeps F a s) (hF : F .regs ∧ F .log ∧ F .sent ∧ F .hp) :
    Keeps F a (s.sbKick p y2) := by
  unfold State.sbKick
  split
  · exact keeps_ite h (by simp (maxDischargeDepth := 60) [h, hF])
  · exact h

@[simp ↓] theorem sbNext_keeps {p : Nat} {y2 : Nat} (h : Keeps F a s) (hF : F .regs ∧ F .log ∧ F .sent ∧ F .hp ∧ F
    .ln) :
    Keeps F a (s.sbNext p y2) := by
  unfold State.sbNext
  (repeat' split) <;> simp (maxDischargeDepth := 60) +contextual [h, hF]

@[simp ↓] theorem headUnpark_keeps {p : Nat} (h : Keeps F a s) (hF : F .regs ∧ F .log ∧ F .sent ∧ F .hp) :
    Keeps F a (s.headUnpark p) := by
  unfold State.headUnpark
  simp (maxDischargeDepth := 60) +contextual [h, hF]

@[simp ↓] theorem sendHandOver_keeps {p : Nat} {y2 : Nat} {o : HandOver} {again : Bool} (h : Keeps F a s) (hF : F
    .regs ∧ F .log ∧ F .sent ∧ F .hp) :
    Keeps F a (s.sendHandOver p y2 o again) := by
  unfold State.sendHandOver
  (repeat' split) <;> simp (maxDischargeDepth := 60) +contextual [h, hF]

@[simp ↓] theorem sendHandOvers_keeps {p : Nat} {o : HandOver} (h : Keeps F a s) (hF : F .regs ∧ F .log ∧ F .sent ∧
    F .hp) :
    Keeps F a (s.sendHandOvers p o) := by
  unfold State.sendHandOvers
  simp (maxDischargeDepth := 60) +contextual [h, hF]

@[simp ↓] theorem budget_keeps {l : Layer} {p : Nat} (h : Keeps F a s) (hF : F .regs) :
    Keeps F a (s.budget l p).2 := by
  unfold State.budget
  (repeat' split) <;> simp (maxDischargeDepth := 60) +contextual [h, hF]

@[simp ↓] theorem budgetStop_keeps {p : Nat} {q : Nat} (h : Keeps F a s) (hF : F .regs ∧ F .tables ∧ F .mem ∧ F
    .freeCount ∧ F .log ∧ F .cores ∧ F .layers ∧ F .lpBytes ∧ F .units ∧ F .rows ∧ F .surveys ∧ F .ver ∧ F .gy ∧ F
    .recs ∧ F .blocks ∧ F .pins ∧ F .motion ∧ F .sent ∧ F .hp ∧ F .dram ∧ F .boot) :
    Keeps F a (s.budgetStop p q) := by
  unfold State.budgetStop
  simp (maxDischargeDepth := 60) [h, hF]

@[simp ↓] theorem timeShow_keeps {p : Nat} (h : Keeps F a s) (hF : F .regs) :
    Keeps F a (s.timeShow p) := by
  unfold State.timeShow
  simp (maxDischargeDepth := 60) [h, hF]

@[simp ↓] theorem narrowCheck_keeps {p : Nat} (h : Keeps F a s) (hF : F .sent ∧ F .hp ∧ F .ln) :
    Keeps F a (s.narrowCheck p) := by
  unfold State.narrowCheck
  (repeat' split) <;> simp (maxDischargeDepth := 60) +contextual [h, hF]

@[simp ↓] theorem headsLost_keeps {p : Nat} {y2 : Nat} (h : Keeps F a s) (hF : F .regs ∧ F .tables ∧ F .mem ∧ F
    .log ∧ F .gy ∧ F .recs ∧ F .blocks ∧ F .sent ∧ F .hp ∧ F .ln ∧ F .dram) :
    Keeps F a (s.headsLost p y2) := by
  unfold State.headsLost
  simp (maxDischargeDepth := 60) +contextual [h, hF]

@[simp ↓] theorem headLost_keeps {p : Nat} {y2 : Nat} (h : Keeps F a s) (hF : F .regs ∧ F .tables ∧ F .mem ∧ F
    .freeCount ∧ F .log ∧ F .gy ∧ F .recs ∧ F .blocks ∧ F .sent ∧ F .hp ∧ F .ln ∧ F .dram) :
    Keeps F a (s.headLost p y2) := by
  unfold State.headLost
  simp (maxDischargeDepth := 60) [h, hF]

@[simp ↓] theorem setLanes_keeps {p : Nat} {m : Nat} (h : Keeps F a s) (hF : F .regs) :
    Keeps F a (s.setLanes p m) := by
  unfold State.setLanes
  simp (maxDischargeDepth := 60) [h, hF]

@[simp ↓] theorem resurvey_keeps {w : Swath} (h : Keeps F a s) (hF : F .surveys ∧ F .gy) :
    Keeps F a (s.resurvey w) := by
  unfold State.resurvey
  (repeat' split) <;> simp (maxDischargeDepth := 60) +contextual [h, hF]

@[simp ↓] theorem sendLwidth_keeps {p : Nat} {m : Nat} (h : Keeps F a s) (hF : F .sent ∧ F .hp) :
    Keeps F a (s.sendLwidth p m) := by
  unfold State.sendLwidth
  simp (maxDischargeDepth := 60) [h, hF]

@[simp ↓] theorem recheck_keeps {p : Nat} {w : Swath} (h : Keeps F a s) (hF : F .regs ∧ F .tables ∧ F .mem ∧ F
    .freeCount ∧ F .log ∧ F .cores ∧ F .layers ∧ F .lpBytes ∧ F .units ∧ F .rows ∧ F .surveys ∧ F .ver ∧ F .gy ∧ F
    .recs ∧ F .blocks ∧ F .pins ∧ F .motion ∧ F .sent ∧ F .hp ∧ F .dram ∧ F .boot) :
    Keeps F a (s.recheck p w) := by
  unfold State.recheck
  dsimp only
  repeat' first
    | (simp (maxDischargeDepth := 60) +contextual [h, hF]; done)
    | split
    | (rename_i e; obtain rfl := congrArg Prod.snd e)

@[simp ↓] theorem narrowTo_keeps {p : Nat} {m : Nat} (h : Keeps F a s) (hF : F .regs ∧ F .tables ∧ F .mem ∧ F
    .freeCount ∧ F .log ∧ F .cores ∧ F .layers ∧ F .lpBytes ∧ F .units ∧ F .rows ∧ F .surveys ∧ F .ver ∧ F .gy ∧ F
    .recs ∧ F .blocks ∧ F .pins ∧ F .motion ∧ F .sent ∧ F .hp ∧ F .ln ∧ F .dram ∧ F .boot) :
    Keeps F a (s.narrowTo p m) := by
  unfold State.narrowTo
  simp (maxDischargeDepth := 60) +contextual [h, hF]

@[simp ↓] theorem laneCheck_keeps {p : Nat} (h : Keeps F a s) (hF : F .regs ∧ F .tables ∧ F .mem ∧ F .freeCount ∧ F
    .log ∧ F .cores ∧ F .layers ∧ F .lpBytes ∧ F .units ∧ F .rows ∧ F .surveys ∧ F .ver ∧ F .gy ∧ F .recs ∧ F
    .blocks ∧ F .pins ∧ F .motion ∧ F .sent ∧ F .hp ∧ F .ln ∧ F .dram ∧ F .boot) :
    Keeps F a (s.laneCheck p) := by
  unfold State.laneCheck
  simp (maxDischargeDepth := 60) [h, hF]

@[simp ↓] theorem widen_keeps {p : Nat} (h : Keeps F a s) (hF : F .regs ∧ F .sent ∧ F .hp) :
    Keeps F a (s.widen p) := by
  unfold State.widen
  simp (maxDischargeDepth := 60) +contextual [h, hF]

@[simp ↓] theorem rowMaps_keeps {p : Nat} (h : Keeps F a s) (hF : F .regs ∧ F .log ∧ F .sent ∧ F .hp) :
    Keeps F a (s.rowMaps p) := by
  unfold State.rowMaps
  simp (maxDischargeDepth := 60) +contextual [h, hF]

@[simp ↓] theorem enterLoad_keeps {p : Nat} (h : Keeps F a s) (hF : F .regs ∧ F .freeCount ∧ F .log ∧ F .sent ∧ F
    .hp) :
    Keeps F a (s.enterLoad p) := by
  unfold State.enterLoad
  simp (maxDischargeDepth := 60) +contextual [h, hF]

end Sys2Proof.Laws
end

