-- ==== Sys2Proof/Laws/KeepsPaths.lean ====
section
/-! SUPPORT. What the operations of Sys2Proof/Machine/Paths.lean can change: one lemma each. -/

set_option linter.unusedTactic false
set_option linter.unreachableTactic false
set_option Elab.async false

namespace Sys2Proof.Laws

open Sys2Proof.Machine Sys2Proof.Safety

variable {F : Part → Prop} {a s : State}

@[simp ↓] theorem onPath_keeps {p : Path} {f : PathSt → PathSt} (h : Keeps F a s) (hF : F .paths) :
    Keeps F a (s.onPath p f) := by
  unfold State.onPath
  simp (maxDischargeDepth := 60) [h, hF]

@[simp ↓] theorem stageLo_keeps {p : Path} {y2 : Nat} {w : Word} (h : Keeps F a s) (hF : F .paths) :
    Keeps F a (s.stageLo p y2 w) := by
  unfold State.stageLo
  simp (maxDischargeDepth := 60) [h, hF]

@[simp ↓] theorem unstage_keeps {p : Path} {y2 : Nat} (h : Keeps F a s) (hF : F .paths) :
    Keeps F a (s.unstage p y2) := by
  unfold State.unstage
  simp (maxDischargeDepth := 60) [h, hF]

@[simp ↓] theorem commitPair_keeps {p : Path} {y2 : Nat} {hi : Word} (h : Keeps F a s) (hF : F .regs ∧ F .paths) :
    Keeps F a (s.commitPair p y2 hi) := by
  unfold State.commitPair
  simp (maxDischargeDepth := 60) [h, hF]

@[simp ↓] theorem latchHi_keeps {p : Path} {y2 : Nat} {hi : Word} (h : Keeps F a s) (hF : F .paths) :
    Keeps F a (s.latchHi p y2 hi) := by
  unfold State.latchHi
  simp (maxDischargeDepth := 60) [h, hF]

@[simp ↓] theorem readHi_keeps {p : Path} {y2 : Nat} {now : Word} (h : Keeps F a s) (hF : F .paths) :
    Keeps F a (s.readHi p y2 now).2 := by
  unfold State.readHi
  (repeat' split) <;> simp (maxDischargeDepth := 60) +contextual [h, hF]

end Sys2Proof.Laws
end

