-- ==== Sys2Proof/Laws/KeepsSlots.lean ====
section
/-! SUPPORT. What the operations of Sys2Proof/Machine/Slots.lean can change: one lemma each. -/

set_option linter.unusedTactic false
set_option linter.unreachableTactic false
set_option Elab.async false

namespace Sys2Proof.Laws

open Sys2Proof.Machine Sys2Proof.Safety

variable {F : Part → Prop} {a s : State}

@[simp ↓] theorem setSlot_keeps {n : Nat} {st : Nat} (h : Keeps F a s) (hF : F .regs) :
    Keeps F a (s.setSlot n st) := by
  unfold State.setSlot
  simp (maxDischargeDepth := 60) [h, hF]

@[simp ↓] theorem armSlot_keeps {n : Nat} (h : Keeps F a s) (hF : F .regs ∧ F .log ∧ F .due) :
    Keeps F a (s.armSlot n) := by
  unfold State.armSlot
  simp (maxDischargeDepth := 60) [h, hF]

@[simp ↓] theorem fwArm_keeps {t : Nat} {code : Nat} {arg0 : Nat} {arg1 : Nat} (h : Keeps F a s) (hF : F .regs ∧ F
    .log ∧ F .due) :
    Keeps F a (s.fwArm t code arg0 arg1).2 := by
  unfold State.fwArm
  (repeat' split) <;> simp (maxDischargeDepth := 60) +contextual [h, hF]

@[simp ↓] theorem dispatch_keeps {n : Nat} (h : Keeps F a s) (hF : F .regs ∧ F .due) :
    Keeps F a (s.dispatch n) := by
  unfold State.dispatch
  simp (maxDischargeDepth := 60) [h, hF]

@[simp ↓] theorem execTaDispatch_keeps (h : Keeps F a s) (hF : F .regs ∧ F .clk ∧ F .due) :
    KeepsOut F a (execTaDispatch s) := by
  unfold execTaDispatch
  (repeat' split) <;> simp (maxDischargeDepth := 60) +contextual [h, hF]

@[simp ↓] theorem execTaDisarm_keeps {path : Path} {n : Fin 256} (h : Keeps F a s) (hF : F .regs ∧ F .due) :
    KeepsOut F a (execTaDisarm path n s) := by
  unfold execTaDisarm
  (repeat' split) <;> simp (maxDischargeDepth := 60) +contextual [h, hF]

@[simp ↓] theorem armWaiting_keeps {y1 : Nat} (h : Keeps F a s) (hF : F .regs ∧ F .log ∧ F .due ∧ F .fab) :
    Keeps F a (s.armWaiting y1) := by
  induction y1 generalizing s with
  | zero => exact h
  | succ n ih =>
    unfold State.armWaiting
    repeat' first
      | (simp (maxDischargeDepth := 60) +contextual [h, hF, ih]; done)
      | split
      | (rename_i e; obtain rfl := congrArg Prod.snd e)

@[simp ↓] theorem fwArmOrWait_keeps {t : Nat} {code : Nat} {arg0 : Nat} {arg1 : Nat} (h : Keeps F a s) (hF : F
    .regs ∧ F .log ∧ F .due ∧ F .fab) :
    Keeps F a (s.fwArmOrWait t code arg0 arg1) := by
  unfold State.fwArmOrWait
  simp (maxDischargeDepth := 60) [h, hF]

@[simp ↓] theorem endAction_keeps {d : TaDue} {ok : Bool} (h : Keeps F a s) (hF : F .regs ∧ F .log ∧ F .due ∧ F
    .fab) :
    Keeps F a (s.endAction d ok) := by
  unfold State.endAction
  simp (maxDischargeDepth := 60) [h, hF]

@[simp ↓] theorem actDue_keeps {d : TaDue} {first : Bool} {f : State → Nat → Nat → Bool × State} (h : Keeps F a s)
    (hF : F .regs ∧ F .log ∧ F .clk ∧ F .due ∧ F .fab) (hf : ∀ t x y, Keeps F a t → Keeps F a (f t x y).2) :
    Keeps F a (s.actDue d first f) := by
  unfold State.actDue
  dsimp only
  repeat' first
    | (simp (maxDischargeDepth := 60) +contextual [h, hF, hf]; done)
    | split
    | (rename_i e; obtain rfl := congrArg Prod.snd e)

@[simp ↓] theorem gpioSet_keeps {arg0 : Nat} {arg1 : Nat} (h : Keeps F a s) (hF : F .regs ∧ F .sent) :
    Keeps F a (s.gpioSet arg0 arg1).2 := by
  unfold State.gpioSet
  simp (maxDischargeDepth := 60) +contextual [h, hF]

@[simp ↓] theorem execPpsOutPulse_keeps (h : Keeps F a s) (hF : F .clk ∧ F .sent) :
    KeepsOut F a (execPpsOutPulse s) := by
  unfold execPpsOutPulse
  simp (maxDischargeDepth := 60) [h, hF]

end Sys2Proof.Laws
end

