-- ==== Sys2Proof/Laws/KeepsGeyser.lean ====
section
/-! SUPPORT. What the operations of Sys2Proof/Machine/Geyser.lean can change: one lemma each. -/

set_option linter.unusedTactic false
set_option linter.unreachableTactic false
set_option Elab.async false

namespace Sys2Proof.Laws

open Sys2Proof.Machine Sys2Proof.Safety

variable {F : Part → Prop} {a s : State}

@[simp ↓] theorem stageBlank_keeps {e : SwathEntry} {t : TileId} (h : Keeps F a s) (hF : F .regs ∧ F .mem ∧ F .log
    ∧ F .rows ∧ F .ver ∧ F .sent ∧ F .dram) :
    Keeps F a (s.stageBlank e t) := by
  unfold State.stageBlank
  dsimp only
  repeat' first
    | (simp (maxDischargeDepth := 60) +contextual [h, hF]; done)
    | split
    | (rename_i e; obtain rfl := congrArg Prod.snd e)

@[simp ↓] theorem stageCheck_keeps {e : SwathEntry} {t : TileId} {bad : Bool} (h : Keeps F a s) (hF : F .regs ∧ F
    .tables ∧ F .mem ∧ F .freeCount ∧ F .log ∧ F .rows ∧ F .ver ∧ F .gy ∧ F .recs ∧ F .blocks ∧ F .sent ∧ F .dram)
    :
    Keeps F a (s.stageCheck e t bad) := by
  unfold State.stageCheck
  dsimp only
  repeat' first
    | (simp (maxDischargeDepth := 60) +contextual [h, hF]; done)
    | split
    | (rename_i e; obtain rfl := congrArg Prod.snd e)

@[simp ↓] theorem verdictBad_keeps {w : Swath} {e : SwathEntry} {t : TileId} (h : Keeps F a s) (hF : F .regs ∧ F
    .tables ∧ F .mem ∧ F .log ∧ F .rows ∧ F .ver ∧ F .gy ∧ F .recs ∧ F .blocks ∧ F .sent ∧ F .dram) :
    Keeps F a (s.verdictBad w e t) := by
  unfold State.verdictBad
  extract_lets m s1 s2
  have hs2 : Keeps F a s2 := by simp (maxDischargeDepth := 60) [s1, s2, h, hF]
  clear_value s2
  refine keeps_foldl hs2 fun t x ht => ?_
  extract_lets lo hi s3
  refine keeps_ite ht ?_
  have hs3 : Keeps F a s3 := by
    unfold s3
    split
    · exact keeps_foldl ht fun t x ht => by simp (maxDischargeDepth := 60) [ht, hF]
    · exact ht
  clear_value s3
  exact keeps_foldl hs3 fun t x ht => keeps_foldl ht fun t x ht => by simp (maxDischargeDepth := 60) [ht, hF]

@[simp ↓] theorem takeLine_keeps {w : Swath} {e : SwathEntry} {t : TileId} {n : Nat} (h : Keeps F a s) (hF : F
    .regs ∧ F .tables ∧ F .mem ∧ F .log ∧ F .rows ∧ F .ver ∧ F .gy ∧ F .recs ∧ F .blocks ∧ F .sent ∧ F .dram) :
    Keeps F a (s.takeLine w e t n) := by
  unfold State.takeLine
  (repeat' split) <;> simp (maxDischargeDepth := 60) +contextual [h, hF]

@[simp ↓] theorem readLine_keeps {w : Swath} {e : SwathEntry} {t : TileId} {n : Nat} (h : Keeps F a s) (hF : F
    .regs ∧ F .tables ∧ F .mem ∧ F .freeCount ∧ F .log ∧ F .rows ∧ F .ver ∧ F .gy ∧ F .recs ∧ F .blocks ∧ F .sent ∧
    F .dram) :
    Keeps F a (s.readLine w e t n) := by
  unfold State.readLine
  dsimp only
  repeat' first
    | (simp (maxDischargeDepth := 60) +contextual [h, hF]; done)
    | split
    | (rename_i e; obtain rfl := congrArg Prod.snd e)

@[simp ↓] theorem recLine_keeps {w : Swath} {l : Layer} {e : SwathEntry} {p : Nat} {n : Nat} {code : Nat → Nat} (h
    : Keeps F a s) (hF : F .regs ∧ F .tables ∧ F .mem ∧ F .log ∧ F .gy ∧ F .recs ∧ F .blocks ∧ F .sent ∧ F .dram) :
    Keeps F a (s.recLine w l e p n code) := by
  unfold State.recLine
  (repeat' split) <;> simp (maxDischargeDepth := 60) +contextual [h, hF]

@[simp ↓] theorem loadLine_keeps {w : Swath} {l : Layer} {e : SwathEntry} {k : Nat} {bad : List Nat} (h : Keeps F a
    s) (hF : F .regs ∧ F .tables ∧ F .mem ∧ F .freeCount ∧ F .log ∧ F .rows ∧ F .ver ∧ F .gy ∧ F .recs ∧ F .blocks
    ∧ F .sram ∧ F .sent ∧ F .dram) :
    Keeps F a (s.loadLine w l e k bad) := by
  unfold State.loadLine
  simp (maxDischargeDepth := 60) +contextual [h, hF]

@[simp ↓] theorem auxNext_keeps {job : Option Nat} (h : Keeps F a s) (hF : F .regs ∧ F .gy ∧ F .motion) :
    Keeps F a (s.auxNext job) := by
  unfold State.auxNext
  (repeat' split) <;> simp (maxDischargeDepth := 60) +contextual [h, hF]

@[simp ↓] theorem settleStop_keeps {old : State} (h : Keeps F a s) (hF : F .regs ∧ F .tables ∧ F .mem ∧ F
    .freeCount ∧ F .log ∧ F .cores ∧ F .layers ∧ F .lpBytes ∧ F .units ∧ F .rows ∧ F .surveys ∧ F .ver ∧ F .gy ∧ F
    .recs ∧ F .blocks ∧ F .pins ∧ F .motion ∧ F .sent ∧ F .hp ∧ F .dram ∧ F .boot) :
    Keeps F a (old.settleStop s) := by
  unfold State.settleStop
  refine keeps_foldl (by simp (maxDischargeDepth := 60) [h, hF]) fun t x ht => ?_
  split <;> simp (maxDischargeDepth := 60) [ht, hF]

@[simp ↓] theorem execLineLoad_keeps {bad : List Nat} (h : Keeps F a s) (hF : F .regs ∧ F .tables ∧ F .mem ∧ F
    .freeCount ∧ F .log ∧ F .cores ∧ F .layers ∧ F .lpBytes ∧ F .units ∧ F .rows ∧ F .surveys ∧ F .ver ∧ F .gy ∧ F
    .recs ∧ F .blocks ∧ F .sram ∧ F .pins ∧ F .motion ∧ F .sent ∧ F .hp ∧ F .dram ∧ F .boot) :
    KeepsOut F a (execLineLoad bad s) := by
  unfold execLineLoad
  (repeat' split) <;> simp (maxDischargeDepth := 60) +contextual [h, hF]

@[simp ↓] theorem posValid_keeps {raw : Int} {ts : Nat} (h : Keeps F a s) (hF : F .regs ∧ F .gy) :
    Keeps F a (s.posValid raw ts) := by
  unfold State.posValid
  simp (maxDischargeDepth := 60) [h, hF]

@[simp ↓] theorem posInvalid_keeps (h : Keeps F a s) (hF : F .regs ∧ F .tables ∧ F .mem ∧ F .freeCount ∧ F .log ∧ F
    .cores ∧ F .layers ∧ F .lpBytes ∧ F .units ∧ F .rows ∧ F .surveys ∧ F .ver ∧ F .gy ∧ F .recs ∧ F .blocks ∧ F
    .pins ∧ F .motion ∧ F .sent ∧ F .hp ∧ F .dram ∧ F .boot) :
    Keeps F a (s.posInvalid) := by
  unfold State.posInvalid
  simp (maxDischargeDepth := 60) [h, hF]

@[simp ↓] theorem issueRow_keeps {w : Swath} {l : Layer} {e : SwathEntry} {r : RowSt} {gone : Bool} {fire : Nat} (h
    : Keeps F a s) (hF : F .regs ∧ F .tables ∧ F .mem ∧ F .log ∧ F .gy ∧ F .recs ∧ F .blocks ∧ F .sent ∧ F .hp ∧ F
    .dram) :
    Keeps F a (s.issueRow w l e r gone fire) := by
  unfold State.issueRow
  extract_lets n m bw absent live sent seg dose s0 s1 s2 g s3
  have h1 : Keeps F a s1 := by unfold s1 s0; simp (maxDischargeDepth := 60) +contextual [h, hF]
  clear_value s1
  have h2 : Keeps F a s2 := by
    unfold s2
    refine keeps_foldl h1 fun t x ht => ?_
    dsimp only
    repeat' first
      | (simp (maxDischargeDepth := 60) [ht, hF]; done)
      | split
  clear_value s2
  have h3 : Keeps F a s3 := by unfold s3; simp (maxDischargeDepth := 60) [h2, hF, g]
  clear_value s3
  simp (maxDischargeDepth := 60) [h2, h3, hF]

@[simp ↓] theorem missRow_keeps {w : Swath} {e : SwathEntry} {r : RowSt} (h : Keeps F a s) (hF : F .regs ∧ F
    .tables ∧ F .mem ∧ F .log ∧ F .gy ∧ F .recs ∧ F .blocks ∧ F .sent ∧ F .dram) :
    Keeps F a (s.missRow w e r) := by
  unfold State.missRow
  simp (maxDischargeDepth := 60) +contextual [h, hF]

@[simp ↓] theorem segRead_keeps {row : Nat} {n : Nat} (h : Keeps F a s) (hF : F .regs ∧ F .log ∧ F .sram ∧ F .boot)
    :
    Keeps F a (s.segRead row n).2 := by
  unfold State.segRead
  simp (maxDischargeDepth := 60) [h, hF]

@[simp ↓] theorem evalRow_keeps {gone : List Nat} {layer : Nat} {idx : Nat} {row : Nat} {now : Nat} (h : Keeps F a
    s) (hF : F .regs ∧ F .tables ∧ F .mem ∧ F .log ∧ F .gy ∧ F .recs ∧ F .blocks ∧ F .sram ∧ F .sent ∧ F .hp ∧ F
    .dram ∧ F .boot) :
    Keeps F a (s.evalRow gone layer idx row now) := by
  unfold State.evalRow
  dsimp only
  repeat' first
    | (simp (maxDischargeDepth := 60) +contextual [h, hF]; done)
    | split
    | (rename_i e; obtain rfl := congrArg Prod.snd e)

@[simp ↓] theorem drainCheck_keeps {layer : Nat} {idx : Nat} (h : Keeps F a s) (hF : F .regs ∧ F .freeCount ∧ F
    .log ∧ F .gy ∧ F .sent ∧ F .hp) :
    Keeps F a (s.drainCheck layer idx) := by
  unfold State.drainCheck
  (repeat' split) <;> simp (maxDischargeDepth := 60) +contextual [h, hF]

@[simp ↓] theorem evalRows_keeps {gone : List Nat} {now : Nat} (h : Keeps F a s) (hF : F .regs ∧ F .tables ∧ F .mem
    ∧ F .freeCount ∧ F .log ∧ F .gy ∧ F .recs ∧ F .blocks ∧ F .sram ∧ F .sent ∧ F .hp ∧ F .dram ∧ F .boot) :
    Keeps F a (s.evalRows gone now) := by
  unfold State.evalRows
  (repeat' split) <;> simp (maxDischargeDepth := 60) +contextual [h, hF]

@[simp ↓] theorem execStrobePulse_keeps {p : Fin 6} (h : Keeps F a s) (hF : F .regs ∧ F .clk ∧ F .gy ∧ F .sent) :
    KeepsOut F a (execStrobePulse p s) := by
  unfold execStrobePulse
  (repeat' split) <;> simp (maxDischargeDepth := 60) +contextual [h, hF]

@[simp ↓] theorem swathStart_keeps {w : Swath} (h : Keeps F a s) (hF : F .regs ∧ F .tables ∧ F .mem ∧ F .freeCount
    ∧ F .log ∧ F .cores ∧ F .layers ∧ F .lpBytes ∧ F .units ∧ F .rows ∧ F .surveys ∧ F .ver ∧ F .gy ∧ F .recs ∧ F
    .blocks ∧ F .pins ∧ F .motion ∧ F .sent ∧ F .hp ∧ F .dram ∧ F .boot) :
    Keeps F a (s.swathStart w) := by
  unfold State.swathStart
  (repeat' split) <;> simp (maxDischargeDepth := 60) +contextual [h, hF]

@[simp ↓] theorem startAction_keeps {layer : Nat} {arg1 : Nat} (h : Keeps F a s) (hF : F .regs ∧ F .tables ∧ F .mem
    ∧ F .freeCount ∧ F .log ∧ F .cores ∧ F .layers ∧ F .lpBytes ∧ F .units ∧ F .rows ∧ F .surveys ∧ F .ver ∧ F .gy
    ∧ F .recs ∧ F .blocks ∧ F .pins ∧ F .motion ∧ F .sent ∧ F .hp ∧ F .dram ∧ F .boot) :
    Keeps F a (s.startAction layer arg1).2 := by
  unfold State.startAction
  (repeat' split) <;> simp (maxDischargeDepth := 60) +contextual [h, hF]

@[simp ↓] theorem execSwathEndBoundary_keeps (h : Keeps F a s) (hF : F .regs ∧ F .tables ∧ F .mem ∧ F .freeCount ∧
    F .log ∧ F .cores ∧ F .layers ∧ F .lpBytes ∧ F .units ∧ F .rows ∧ F .surveys ∧ F .clk ∧ F .ver ∧ F .gy ∧ F
    .recs ∧ F .blocks ∧ F .pins ∧ F .motion ∧ F .sent ∧ F .hp ∧ F .dram ∧ F .boot) :
    KeepsOut F a (execSwathEndBoundary s) := by
  unfold execSwathEndBoundary
  (repeat' split) <;> simp (maxDischargeDepth := 60) +contextual [h, hF]

@[simp ↓] theorem execStopSwath_keeps (h : Keeps F a s) (hF : F .regs ∧ F .tables ∧ F .mem ∧ F .freeCount ∧ F .log
    ∧ F .cores ∧ F .layers ∧ F .lpBytes ∧ F .units ∧ F .rows ∧ F .surveys ∧ F .ver ∧ F .gy ∧ F .recs ∧ F .blocks ∧
    F .pins ∧ F .motion ∧ F .sent ∧ F .hp ∧ F .dram ∧ F .boot) :
    KeepsOut F a (execStopSwath s) := by
  unfold execStopSwath
  (repeat' split) <;> simp (maxDischargeDepth := 60) +contextual [h, hF]

@[simp ↓] theorem execSwathStall_keeps (h : Keeps F a s) (hF : F .regs ∧ F .tables ∧ F .mem ∧ F .freeCount ∧ F .log
    ∧ F .cores ∧ F .layers ∧ F .lpBytes ∧ F .units ∧ F .rows ∧ F .surveys ∧ F .ver ∧ F .gy ∧ F .recs ∧ F .blocks ∧
    F .pins ∧ F .motion ∧ F .sent ∧ F .hp ∧ F .dram ∧ F .boot) :
    KeepsOut F a (execSwathStall s) := by
  unfold execSwathStall
  (repeat' split) <;> simp (maxDischargeDepth := 60) +contextual [h, hF]

@[simp ↓] theorem stopLines_keeps {w : Swath} {p : Nat} {y3 : Nat} {stale : Bool} (h : Keeps F a s) (hF : F .regs ∧
    F .tables ∧ F .mem ∧ F .freeCount ∧ F .log ∧ F .gy ∧ F .recs ∧ F .blocks ∧ F .sent ∧ F .hp ∧ F .dram) :
    Keeps F a (s.stopLines w p y3 stale) := by
  unfold State.stopLines
  split
  · exact h
  · extract_lets rows s1
    have h1 : Keeps F a s1 := keeps_foldl h fun t x ht => by
      split <;> simp (maxDischargeDepth := 60) [ht, hF]
    clear_value s1
    simp (maxDischargeDepth := 60) [h1, hF]

@[simp ↓] theorem warmHead_keeps {p : Nat} {y2 : Nat} (h : Keeps F a s) (hF : F .gy) :
    Keeps F a (s.warmHead p y2) := by
  unfold State.warmHead
  simp (maxDischargeDepth := 60) [h, hF]

@[simp ↓] theorem hardStop_keeps {p : Nat} {y2 : Nat} {stale : Bool} {fresh : Bool} (h : Keeps F a s) (hF : F .regs
    ∧ F .tables ∧ F .mem ∧ F .freeCount ∧ F .log ∧ F .gy ∧ F .recs ∧ F .blocks ∧ F .sent ∧ F .hp ∧ F .dram) :
    Keeps F a (s.hardStop p y2 stale fresh) := by
  unfold State.hardStop
  simp (maxDischargeDepth := 60) +contextual [h, hF]

@[simp ↓] theorem showHot_keeps {p : Nat} (h : Keeps F a s) (hF : F .regs) :
    Keeps F a (s.showHot p) := by
  unfold State.showHot
  dsimp only
  repeat' first
    | (simp (maxDischargeDepth := 60) +contextual [h, hF]; done)
    | split
    | (rename_i e; obtain rfl := congrArg Prod.snd e)

@[simp ↓] theorem tempReport_keeps {p : Nat} {y2 : Nat} {t : Int} (h : Keeps F a s) (hF : F .regs ∧ F .tables ∧ F
    .mem ∧ F .freeCount ∧ F .log ∧ F .gy ∧ F .recs ∧ F .blocks ∧ F .sent ∧ F .hp ∧ F .dram) :
    Keeps F a (s.tempReport p y2 t) := by
  unfold State.tempReport
  simp (maxDischargeDepth := 60) [h, hF]

@[simp ↓] theorem execHeadTempStale_keeps {p : Fin 6} {y2 : Fin 8} (h : Keeps F a s) (hF : F .regs ∧ F .tables ∧ F
    .mem ∧ F .freeCount ∧ F .log ∧ F .gy ∧ F .recs ∧ F .blocks ∧ F .sent ∧ F .hp ∧ F .dram) :
    KeepsOut F a (execHeadTempStale p y2 s) := by
  unfold execHeadTempStale
  simp (maxDischargeDepth := 60) [h, hF]

@[simp ↓] theorem sampleWave_keeps {n : Nat} (h : Keeps F a s) (hF : F .regs ∧ F .hp) :
    Keeps F a (s.sampleWave n) := by
  unfold State.sampleWave
  (repeat' split) <;> simp (maxDischargeDepth := 60) +contextual [h, hF]

@[simp ↓] theorem captureBlocks_keeps {layer : Nat} {idx : Nat} {bs : List Byte} {y4 : Nat} (h : Keeps F a s) (hF :
    F .regs ∧ F .tables ∧ F .mem ∧ F .log ∧ F .gy ∧ F .recs ∧ F .blocks ∧ F .sent ∧ F .dram) :
    Keeps F a (s.captureBlocks layer idx bs y4) := by
  induction y4 generalizing s bs <;> unfold State.captureBlocks <;> try dsimp only
  all_goals repeat' first
    | (simp (maxDischargeDepth := 60) +contextual [*]; done)
    | split
    | (rename_i e; obtain rfl := congrArg Prod.snd e)

@[simp ↓] theorem showCapture_keeps {layer : Nat} {idx : Nat} {ports : List Nat} {st : List (Nat × Nat)} (h : Keeps
    F a s) (hF : F .regs) :
    Keeps F a (s.showCapture layer idx ports st) := by
  unfold State.showCapture
  simp (maxDischargeDepth := 60) [h, hF]

@[simp ↓] theorem enterSwath_keeps {l : Layer} {e : SwathEntry} {v : Survey} (h : Keeps F a s) (hF : F .regs ∧ F
    .layers ∧ F .beams ∧ F .gy) :
    Keeps F a (s.enterSwath l e v) := by
  unfold State.enterSwath
  simp (maxDischargeDepth := 60) [h, hF]

@[simp ↓] theorem openSwathRec_keeps {l : Layer} {e : SwathEntry} {w : Swath} (h : Keeps F a s) (hF : F .regs ∧ F
    .tables ∧ F .mem ∧ F .freeCount ∧ F .log ∧ F .gy ∧ F .recs ∧ F .blocks ∧ F .sent ∧ F .dram) :
    Keeps F a (s.openSwathRec l e w) := by
  unfold State.openSwathRec
  dsimp only
  repeat' first
    | (simp (maxDischargeDepth := 60) +contextual [h, hF]; done)
    | split
    | (rename_i e; obtain rfl := congrArg Prod.snd e)

@[simp ↓] theorem handOver_keeps {w : Swath} {p : Nat} (h : Keeps F a s) (hF : F .regs ∧ F .log ∧ F .sent ∧ F .hp)
    :
    Keeps F a (s.handOver w p) := by
  unfold State.handOver
  simp (maxDischargeDepth := 60) [h, hF]

@[simp ↓] theorem budgetChecks_keeps {l : Layer} {w : Swath} (h : Keeps F a s) (hF : F .regs ∧ F .tables ∧ F .mem ∧
    F .freeCount ∧ F .log ∧ F .cores ∧ F .layers ∧ F .lpBytes ∧ F .units ∧ F .rows ∧ F .surveys ∧ F .ver ∧ F .gy ∧
    F .recs ∧ F .blocks ∧ F .pins ∧ F .motion ∧ F .sent ∧ F .hp ∧ F .dram ∧ F .boot) :
    Keeps F a (s.budgetChecks l w) := by
  unfold State.budgetChecks
  simp (maxDischargeDepth := 60) +contextual [h, hF]

@[simp ↓] theorem captureSwath_keeps {l : Layer} {e : SwathEntry} {v : Survey} (h : Keeps F a s) (hF : F .regs ∧ F
    .tables ∧ F .mem ∧ F .freeCount ∧ F .log ∧ F .cores ∧ F .layers ∧ F .lpBytes ∧ F .units ∧ F .rows ∧ F .surveys
    ∧ F .ver ∧ F .beams ∧ F .gy ∧ F .recs ∧ F .blocks ∧ F .pins ∧ F .motion ∧ F .sent ∧ F .hp ∧ F .dram ∧ F .boot)
    :
    Keeps F a (s.captureSwath l e v) := by
  unfold State.captureSwath
  dsimp only
  repeat' first
    | (simp (maxDischargeDepth := 60) +contextual [h, hF]; done)
    | split
    | (rename_i e; obtain rfl := congrArg Prod.snd e)

end Sys2Proof.Laws
end

