-- ==== Sys2Proof/Laws/KeepsStepper.lean ====
section
/-! SUPPORT. What the operations of Sys2Proof/Machine/Stepper.lean can change: one lemma each. -/

set_option linter.unusedTactic false
set_option linter.unreachableTactic false
set_option Elab.async false

namespace Sys2Proof.Laws

open Sys2Proof.Machine Sys2Proof.Safety

variable {F : Part → Prop} {a s : State}

@[simp ↓] theorem stepPulses_keeps {k t0 lim n : Nat} (h : Keeps F a s) (hF : F .regs ∧ F .freeCount ∧ F .motion ∧
    F .sent) :
    Keeps F a (s.stepPulses k t0 lim n) := by
  induction n generalizing s with
  | zero => exact h
  | succ n ih =>
    unfold State.stepPulses
    extract_lets x g u pos d
    refine keeps_ite h ?_
    dsimp only
    refine keeps_ite (free_keeps h (by simp [hF])) (ih ?_)
    simp (maxDischargeDepth := 60) [h, hF]

@[simp ↓] theorem stepUntil_keeps {k : Nat} {t0 : Nat} {lim : Nat} (h : Keeps F a s) (hF : F .regs ∧ F .freeCount ∧
    F .motion ∧ F .sent) :
    Keeps F a (s.stepUntil k t0 lim) := by
  unfold State.stepUntil
  simp (maxDischargeDepth := 60) [h, hF]

@[simp ↓] theorem stepFollow_keeps {t0 : Nat} {k : Nat} (h : Keeps F a s) (hF : F .regs ∧ F .freeCount ∧ F .log ∧ F
    .motion ∧ F .sent) :
    Keeps F a (s.stepFollow t0 k) := by
  unfold State.stepFollow
  simp (maxDischargeDepth := 60) [h, hF]

@[simp ↓] theorem bandDue_keeps {k : Nat} (h : Keeps F a s) (hF : F .regs ∧ F .motion) :
    Keeps F a (s.bandDue k) := by
  unfold State.bandDue
  dsimp only
  repeat' first
    | (simp (maxDischargeDepth := 60) +contextual [h, hF]; done)
    | split
    | (rename_i e; obtain rfl := congrArg Prod.snd e)

@[simp ↓] theorem execBandChangeApply_keeps {k : Fin 4} (h : Keeps F a s) (hF : F .regs ∧ F .motion) :
    KeepsOut F a (execBandChangeApply k s) := by
  unfold execBandChangeApply
  (repeat' split) <;> simp (maxDischargeDepth := 60) +contextual [h, hF]

@[simp ↓] theorem execMsSetupEnd_keeps {k : Fin 4} (h : Keeps F a s) (hF : F .regs) :
    KeepsOut F a (execMsSetupEnd k s) := by
  unfold execMsSetupEnd
  simp (maxDischargeDepth := 60) [h, hF]

@[simp ↓] theorem stallCheck_keeps {x : Nat} (h : Keeps F a s) (hF : F .regs ∧ F .log ∧ F .motion) :
    Keeps F a (s.stallCheck x) := by
  unfold State.stallCheck
  simp (maxDischargeDepth := 60) [h, hF]

end Sys2Proof.Laws
end

