-- ==== Sys2Proof/Laws/KeepsAxis.lean ====
section
/-! SUPPORT. What the operations of Sys2Proof/Machine/Axis.lean can change: one lemma each. -/

set_option linter.unusedTactic false
set_option linter.unreachableTactic false
set_option Elab.async false

namespace Sys2Proof.Laws

open Sys2Proof.Machine Sys2Proof.Safety

variable {F : Part → Prop} {a s : State}

@[simp ↓] theorem execAxisStart_keeps {path : Path} {x : Fin 6} {move : Fin 1024} (h : Keeps F a s) (hF : F .regs ∧
    F .motion) :
    KeepsOut F a (execAxisStart path x move s) := by
  unfold execAxisStart
  simp (maxDischargeDepth := 60) [h, hF]

@[simp ↓] theorem homeStopped_keeps {x : Nat} {after : After} (h : Keeps F a s) (hF : F .regs ∧ F .motion) :
    Keeps F a (s.homeStopped x after) := by
  unfold State.homeStopped
  simp (maxDischargeDepth := 60) [h, hF]

@[simp ↓] theorem cmdStop_keeps {x : Nat} {after : After} (h : Keeps F a s) (hF : F .regs ∧ F .motion) :
    Keeps F a (s.cmdStop x after) := by
  unfold State.cmdStop
  simp (maxDischargeDepth := 60) [h, hF]

@[simp ↓] theorem execAxisStop_keeps {x : Fin 6} (h : Keeps F a s) (hF : F .regs ∧ F .motion) :
    KeepsOut F a (execAxisStop x s) := by
  unfold execAxisStop
  simp (maxDischargeDepth := 60) [h, hF]

@[simp ↓] theorem execAxisHome_keeps {path : Path} {x : Fin 6} (h : Keeps F a s) (hF : F .regs ∧ F .motion) :
    KeepsOut F a (execAxisHome path x s) := by
  unfold execAxisHome
  simp (maxDischargeDepth := 60) [h, hF]

@[simp ↓] theorem releasePads_keeps {x : Nat} (h : Keeps F a s) (hF : F .regs) :
    Keeps F a (s.releasePads x) := by
  unfold State.releasePads
  simp (maxDischargeDepth := 60) [h, hF]

@[simp ↓] theorem adopt_keeps {x : Nat} (h : Keeps F a s) (hF : F .regs ∧ F .motion) :
    Keeps F a (s.adopt x) := by
  unfold State.adopt
  simp (maxDischargeDepth := 60) [h, hF]

@[simp ↓] theorem execAxisEnable_keeps {x : Fin 6} (h : Keeps F a s) (hF : F .regs ∧ F .freeCount ∧ F .log ∧ F
    .motion) :
    KeepsOut F a (execAxisEnable x s) := by
  unfold execAxisEnable
  simp (maxDischargeDepth := 60) [h, hF]

@[simp ↓] theorem execAxisDisable_keeps {x : Fin 6} (h : Keeps F a s) (hF : F .regs ∧ F .motion ∧ F .sent) :
    KeepsOut F a (execAxisDisable x s) := by
  unfold execAxisDisable
  simp (maxDischargeDepth := 60) [h, hF]

@[simp ↓] theorem execAxisClear_keeps {x : Fin 6} (h : Keeps F a s) (hF : F .regs ∧ F .motion) :
    KeepsOut F a (execAxisClear x s) := by
  unfold execAxisClear
  simp (maxDischargeDepth := 60) [h, hF]

@[simp ↓] theorem paramKept_keeps {x : Nat} {f : Gen → Gen} (h : Keeps F a s) (hF : F .regs ∧ F .motion) :
    Keeps F a (s.paramKept x f) := by
  unfold State.paramKept
  simp (maxDischargeDepth := 60) [h, hF]

@[simp ↓] theorem writeV_keeps {x : Nat} {w : Word} (h : Keeps F a s) (hF : F .regs ∧ F .motion) :
    Keeps F a (s.writeV x w) := by
  unfold State.writeV
  dsimp only
  repeat' first
    | (simp (maxDischargeDepth := 60) +contextual [h, hF]; done)
    | split
    | (rename_i e; obtain rfl := congrArg Prod.snd e)

@[simp ↓] theorem takeA_keeps {x : Nat} (h : Keeps F a s) (hF : F .regs ∧ F .motion) :
    Keeps F a (s.takeA x) := by
  unfold State.takeA
  simp (maxDischargeDepth := 60) [h, hF]

@[simp ↓] theorem writeA_keeps {x : Nat} {w : Word} (h : Keeps F a s) (hF : F .regs ∧ F .motion) :
    Keeps F a (s.writeA x w) := by
  unfold State.writeA
  dsimp only
  repeat' first
    | (simp (maxDischargeDepth := 60) +contextual [h, hF]; done)
    | split
    | (rename_i e; obtain rfl := congrArg Prod.snd e)

@[simp ↓] theorem writeJ_keeps {x : Nat} {w : Word} (h : Keeps F a s) (hF : F .regs ∧ F .motion) :
    Keeps F a (s.writeJ x w) := by
  unfold State.writeJ
  simp (maxDischargeDepth := 60) [h, hF]

@[simp ↓] theorem writeOvr_keeps {x : Nat} {w : Word} (h : Keeps F a s) (hF : F .regs) :
    Keeps F a (s.writeOvr x w) := by
  unfold State.writeOvr
  simp (maxDischargeDepth := 60) [h, hF]

@[simp ↓] theorem execMotionParamWrite_keeps {x : Fin 6} {which : Fin 3} {w : Word} (h : Keeps F a s) (hF : F .regs
    ∧ F .motion) :
    KeepsOut F a (execMotionParamWrite x which w s) := by
  unfold execMotionParamWrite
  (repeat' split) <;> simp (maxDischargeDepth := 60) +contextual [h, hF]

end Sys2Proof.Laws
end

