-- ==== Sys2Proof/Laws/KeepsInputs.lean ====
section
/-! SUPPORT. What the operations of Sys2Proof/Machine/Inputs.lean can change: one lemma each. -/

set_option linter.unusedTactic false
set_option linter.unreachableTactic false
set_option Elab.async false

namespace Sys2Proof.Laws

open Sys2Proof.Machine Sys2Proof.Safety

variable {F : Part → Prop} {a s : State}

@[simp ↓] theorem setPin_keeps {x : Nat} {i : Nat} {r : PinRun} (h : Keeps F a s) (hF : F .motion) :
    Keeps F a (s.setPin x i r) := by
  unfold State.setPin
  simp (maxDischargeDepth := 60) [h, hF]

@[simp ↓] theorem putInput_keeps {f : Field} {x : Nat} {i : Nat} {on : Bool} (h : Keeps F a s) (hF : F .regs) :
    Keeps F a (s.putInput f x i on) := by
  unfold State.putInput
  simp (maxDischargeDepth := 60) [h, hF]

@[simp ↓] theorem showRaw_keeps {x : Nat} (h : Keeps F a s) (hF : F .regs) :
    Keeps F a (s.showRaw x) := by
  unfold State.showRaw
  simp (maxDischargeDepth := 60) +contextual [h, hF]

@[simp ↓] theorem qualify_keeps {x : Nat} {i : Nat} {active : Bool} {pos : Int} (h : Keeps F a s) (hF : F .regs ∧ F
    .tables ∧ F .mem ∧ F .freeCount ∧ F .log ∧ F .cores ∧ F .layers ∧ F .lpBytes ∧ F .units ∧ F .rows ∧ F .surveys
    ∧ F .ver ∧ F .gy ∧ F .recs ∧ F .blocks ∧ F .pins ∧ F .motion ∧ F .sent ∧ F .hp ∧ F .dram ∧ F .boot) :
    Keeps F a (s.qualify x i active pos) := by
  unfold State.qualify
  simp (maxDischargeDepth := 60) [h, hF]

@[simp ↓] theorem pinLasts_keeps {x : Nat} {i : Nat} {t : Nat} (h : Keeps F a s) (hF : F .regs ∧ F .tables ∧ F .mem
    ∧ F .freeCount ∧ F .log ∧ F .cores ∧ F .layers ∧ F .lpBytes ∧ F .units ∧ F .rows ∧ F .surveys ∧ F .ver ∧ F .gy
    ∧ F .recs ∧ F .blocks ∧ F .pins ∧ F .motion ∧ F .sent ∧ F .hp ∧ F .dram ∧ F .boot) :
    Keeps F a (s.pinLasts x i t) := by
  unfold State.pinLasts
  simp (maxDischargeDepth := 60) [h, hF]

@[simp ↓] theorem captureAt_keeps {x : Nat} {ns : Nat} {t : Nat} (h : Keeps F a s) (hF : F .regs ∧ F .freeCount ∧ F
    .motion ∧ F .sent) :
    Keeps F a (s.captureAt x ns t).2 := by
  unfold State.captureAt
  dsimp only
  repeat' first
    | (simp (maxDischargeDepth := 60) +contextual [h, hF]; done)
    | split
    | (rename_i e; obtain rfl := congrArg Prod.snd e)

@[simp ↓] theorem pinTurns_keeps {x : Nat} {i : Nat} {ns : Nat} {t : Nat} {high : Bool} (h : Keeps F a s) (hF : F
    .regs ∧ F .freeCount ∧ F .motion ∧ F .sent) :
    Keeps F a (s.pinTurns x i ns t high) := by
  unfold State.pinTurns
  simp (maxDischargeDepth := 60) [h, hF]

@[simp ↓] theorem execInputQualify_keeps {x : Fin 6} {i : Fin 3} {k : Fin 20} {high : Bool} (h : Keeps F a s) (hF :
    F .regs ∧ F .tables ∧ F .mem ∧ F .freeCount ∧ F .log ∧ F .cores ∧ F .layers ∧ F .lpBytes ∧ F .units ∧ F .rows ∧
    F .surveys ∧ F .ver ∧ F .gy ∧ F .recs ∧ F .blocks ∧ F .pins ∧ F .motion ∧ F .sent ∧ F .hp ∧ F .dram ∧ F .boot)
    :
    KeepsOut F a (execInputQualify x i k high s) := by
  unfold execInputQualify
  simp (maxDischargeDepth := 60) [h, hF]

end Sys2Proof.Laws
end

