-- ==== Sys2Proof/Laws/KeepsEstop.lean ====
section
/-! SUPPORT. What the operations of Sys2Proof/Machine/Estop.lean can change: one lemma each. -/

set_option linter.unusedTactic false
set_option linter.unreachableTactic false
set_option Elab.async false

namespace Sys2Proof.Laws

open Sys2Proof.Machine Sys2Proof.Safety

variable {F : Part → Prop} {a s : State}

@[simp ↓] theorem estopSets_keeps (h : Keeps F a s) (hF : F .sent) :
    Keeps F a (s.estopSets) := by
  unfold State.estopSets
  simp (maxDischargeDepth := 60) +contextual [h, hF]

@[simp ↓] theorem injAbort_keeps {x : Nat} (h : Keeps F a s) (hF : F .regs ∧ F .motion) :
    Keeps F a (s.injAbort x) := by
  unfold State.injAbort
  simp (maxDischargeDepth := 60) [h, hF]

@[simp ↓] theorem estopAxis_keeps {x : Nat} (h : Keeps F a s) (hF : F .regs ∧ F .motion ∧ F .sent) :
    Keeps F a (s.estopAxis x) := by
  unfold State.estopAxis
  simp (maxDischargeDepth := 60) [h, hF]

@[simp ↓] theorem execEstop_keeps (h : Keeps F a s) (hF : F .regs ∧ F .tables ∧ F .mem ∧ F .freeCount ∧ F .log ∧ F
    .cores ∧ F .layers ∧ F .lpBytes ∧ F .units ∧ F .rows ∧ F .surveys ∧ F .ver ∧ F .gy ∧ F .recs ∧ F .blocks ∧ F
    .pins ∧ F .motion ∧ F .sent ∧ F .hp ∧ F .dram ∧ F .boot ∧ F .estop) :
    KeepsOut F a (execEstop s) := by
  unfold execEstop
  simp (maxDischargeDepth := 60) +contextual [h, hF]

@[simp ↓] theorem execEstopSetRepeat_keeps (h : Keeps F a s) (hF : F .sent) :
    KeepsOut F a (execEstopSetRepeat s) := by
  unfold execEstopSetRepeat
  simp (maxDischargeDepth := 60) [h, hF]

@[simp ↓] theorem execEstopRelease_keeps (h : Keeps F a s) (hF : F .regs ∧ F .gy ∧ F .estop) :
    KeepsOut F a (execEstopRelease s) := by
  unfold execEstopRelease
  simp (maxDischargeDepth := 60) +contextual [h, hF]

@[simp ↓] theorem execHeadResumeSend_keeps (h : Keeps F a s) (hF : F .regs ∧ F .log ∧ F .gy ∧ F .sent ∧ F .hp) :
    KeepsOut F a (execHeadResumeSend s) := by
  unfold execHeadResumeSend
  simp (maxDischargeDepth := 60) +contextual [h, hF]

end Sys2Proof.Laws
end

