-- ==== Sys2Proof/Laws/KeepsFabLink.lean ====
section
/-! SUPPORT. What the operations of Sys2Proof/Machine/FabLink.lean can change: one lemma each. -/

set_option linter.unusedTactic false
set_option linter.unreachableTactic false
set_option Elab.async false

namespace Sys2Proof.Laws

open Sys2Proof.Machine Sys2Proof.Safety

variable {F : Part → Prop} {a s : State}

@[simp ↓] theorem onFport_keeps {p : Nat} {f : FabPort → FabPort} (h : Keeps F a s) (hF : F .fab) :
    Keeps F a (s.onFport p f) := by
  unfold State.onFport
  (repeat' split) <;> simp (maxDischargeDepth := 60) +contextual [h, hF]

@[simp ↓] theorem pump_keeps {p : Nat} {y2 : Nat} (h : Keeps F a s) (hF : F .sent ∧ F .fab) :
    Keeps F a (s.pump p y2) := by
  induction y2 generalizing s <;> unfold State.pump <;> try dsimp only
  all_goals repeat' first
    | (simp (maxDischargeDepth := 60) +contextual [*]; done)
    | split
    | (rename_i e; obtain rfl := congrArg Prod.snd e)

@[simp ↓] theorem pumpAll_keeps {p : Nat} (h : Keeps F a s) (hF : F .sent ∧ F .fab) :
    Keeps F a (s.pumpAll p) := by
  unfold State.pumpAll
  simp (maxDischargeDepth := 60) [h, hF]

@[simp ↓] theorem fabQueue_keeps {p : Nat} {f : FabFrame} (h : Keeps F a s) (hF : F .sent ∧ F .fab) :
    Keeps F a (s.fabQueue p f) := by
  unfold State.fabQueue
  simp (maxDischargeDepth := 60) [h, hF]

@[simp ↓] theorem keepSent_keeps {f : FabFrame} (h : Keeps F a s) (hF : F .fab) :
    Keeps F a (s.keepSent f) := by
  unfold State.keepSent
  simp (maxDischargeDepth := 60) [h, hF]

@[simp ↓] theorem routeFrame_keeps {f : FabFrame} (h : Keeps F a s) (hF : F .sent ∧ F .fab) :
    Keeps F a (s.routeFrame f) := by
  unfold State.routeFrame
  dsimp only
  repeat' first
    | (simp (maxDischargeDepth := 60) +contextual [h, hF]; done)
    | split
    | (rename_i e; obtain rfl := congrArg Prod.snd e)

@[simp ↓] theorem fabTo_keeps {ty : Nat} {dst : Nat} {arg : Nat} {pay : List Byte} (h : Keeps F a s) (hF : F .sent
    ∧ F .fab) :
    Keeps F a (s.fabTo ty dst arg pay) := by
  unfold State.fabTo
  simp (maxDischargeDepth := 60) [h, hF]

@[simp ↓] theorem fabAsk_keeps {f : FabFrame} (h : Keeps F a s) (hF : F .sent ∧ F .fab) :
    Keeps F a (s.fabAsk f) := by
  unfold State.fabAsk
  dsimp only
  repeat' first
    | (simp (maxDischargeDepth := 60) +contextual [h, hF]; done)
    | split
    | (rename_i e; obtain rfl := congrArg Prod.snd e)

@[simp ↓] theorem sendHeld_keeps {f : FabFrame} (h : Keeps F a s) (hF : F .sent ∧ F .fab) :
    Keeps F a (s.sendHeld f) := by
  unfold State.sendHeld
  simp (maxDischargeDepth := 60) [h, hF]

@[simp ↓] theorem askAgain_keeps (h : Keeps F a s) (hF : F .sent ∧ F .fab) :
    Keeps F a (s.askAgain) := by
  unfold State.askAgain
  simp (maxDischargeDepth := 60) +contextual [h, hF]

@[simp ↓] theorem fabRequest_keeps {ty : Nat} {dst : Nat} {pay : List Byte} (h : Keeps F a s) (hF : F .sent ∧ F
    .fab) :
    Keeps F a (s.fabRequest ty dst pay) := by
  unfold State.fabRequest
  simp (maxDischargeDepth := 60) [h, hF]

@[simp ↓] theorem fabCast_keeps {ty : Nat} {g : Nat} {arg : Nat} {pay : List Byte} (h : Keeps F a s) (hF : F .sent
    ∧ F .fab) :
    Keeps F a (s.fabCast ty g arg pay) := by
  unfold State.fabCast
  simp (maxDischargeDepth := 60) +contextual [h, hF]

@[simp ↓] theorem fabNear_keeps {p : Nat} {ty : Nat} {pay : List Byte} (h : Keeps F a s) (hF : F .sent ∧ F .fab) :
    Keeps F a (s.fabNear p ty pay) := by
  unfold State.fabNear
  simp (maxDischargeDepth := 60) [h, hF]

@[simp ↓] theorem fabNak_keeps {f : FabFrame} {st : Nat} (h : Keeps F a s) (hF : F .sent ∧ F .fab) :
    Keeps F a (s.fabNak f st) := by
  unfold State.fabNak
  simp (maxDischargeDepth := 60) [h, hF]

@[simp ↓] theorem sendLack_keeps {p : Nat} {nak : Bool} (h : Keeps F a s) (hF : F .sent) :
    Keeps F a (s.sendLack p nak) := by
  unfold State.sendLack
  simp (maxDischargeDepth := 60) [h, hF]

@[simp ↓] theorem sendCredit_keeps {p : Nat} {c : Nat} (h : Keeps F a s) (hF : F .sent) :
    Keeps F a (s.sendCredit p c) := by
  unfold State.sendCredit
  simp (maxDischargeDepth := 60) [h, hF]

@[simp ↓] theorem returnCredit_keeps {p : Nat} {c : Nat} {n : Nat} (h : Keeps F a s) (hF : F .sent ∧ F .fab) :
    Keeps F a (s.returnCredit p c n) := by
  unfold State.returnCredit
  simp (maxDischargeDepth := 60) [h, hF]

@[simp ↓] theorem fabReject_keeps {p : Nat} (h : Keeps F a s) (hF : F .regs ∧ F .sent) :
    Keeps F a (s.fabReject p) := by
  unfold State.fabReject
  simp (maxDischargeDepth := 60) [h, hF]

@[simp ↓] theorem fabExpire_keeps {f : FabFrame} (h : Keeps F a s) (hF : F .regs ∧ F .sent ∧ F .fab) :
    Keeps F a (s.fabExpire f) := by
  unfold State.fabExpire
  simp (maxDischargeDepth := 60) [h, hF]

@[simp ↓] theorem transit_keeps {f : FabFrame} (h : Keeps F a s) (hF : F .regs ∧ F .sent ∧ F .fab) :
    Keeps F a (s.transit f) := by
  unfold State.transit
  simp (maxDischargeDepth := 60) [h, hF]

@[simp ↓] theorem transitCast_keeps {p : Nat} {f : FabFrame} (h : Keeps F a s) (hF : F .regs ∧ F .sent ∧ F .fab) :
    Keeps F a (s.transitCast p f) := by
  unfold State.transitCast
  simp (maxDischargeDepth := 60) +contextual [h, hF]

@[simp ↓] theorem fabDeliver_keeps {f : FabFrame} {k : State → FabFrame → State} (h : Keeps F a s) (hF : F .regs)
    (hf : ∀ t x, Keeps F a t → Keeps F a (k t x)) :
    Keeps F a (s.fabDeliver f k) := by
  unfold State.fabDeliver
  simp (maxDischargeDepth := 60) [h, hF, hf]

@[simp ↓] theorem replayTrim_keeps (h : Keeps F a s) (hF : F .fab) :
    Keeps F a (s.replayTrim) := by
  unfold State.replayTrim
  simp (maxDischargeDepth := 60) [h, hF]

@[simp ↓] theorem replayKeep_keeps {q : Nat} {pay : List Byte} (h : Keeps F a s) (hF : F .regs ∧ F .mem ∧ F .log ∧
    F .sent ∧ F .fab ∧ F .dram) :
    Keeps F a (s.replayKeep q pay) := by
  unfold State.replayKeep
  (repeat' split) <;> simp (maxDischargeDepth := 60) +contextual [h, hF]

@[simp ↓] theorem replayFrame_keeps {dst : Nat} {x : Nat × Nat × Nat} (h : Keeps F a s) (hF : F .regs ∧ F .mem ∧ F
    .freeCount ∧ F .log ∧ F .sent ∧ F .dram) :
    Keeps F a (s.replayFrame dst x).2 := by
  unfold State.replayFrame
  simp (maxDischargeDepth := 60) [h, hF]

@[simp ↓] theorem fabDispatch_keeps {p : Nat} {f : FabFrame} {k : State → FabFrame → State} (h : Keeps F a s) (hF :
    F .regs ∧ F .sent ∧ F .fab) (hf : ∀ t x, Keeps F a t → Keeps F a (k t x)) :
    Keeps F a (s.fabDispatch p f k) := by
  unfold State.fabDispatch
  simp (maxDischargeDepth := 60) +contextual [h, hF, hf]

@[simp ↓] theorem fabRx_keeps {p : Nat} {fr : List Byte} {ty : Nat} {k : State → FabFrame → State} (h : Keeps F a
    s) (hF : F .regs ∧ F .log ∧ F .sent ∧ F .fab) (hf : ∀ t x, Keeps F a t → Keeps F a (k t x)) :
    Keeps F a (s.fabRx p fr ty k) := by
  unfold State.fabRx
  simp (maxDischargeDepth := 60) +contextual [h, hF, hf]

end Sys2Proof.Laws
end

