-- ==== Sys2Proof/Laws/KeepsFabBar.lean ====
section
/-! SUPPORT. What the operations of Sys2Proof/Machine/FabBar.lean can change: one lemma each. -/

set_option linter.unusedTactic false
set_option linter.unreachableTactic false
set_option Elab.async false

namespace Sys2Proof.Laws

open Sys2Proof.Machine Sys2Proof.Safety

variable {F : Part → Prop} {a s : State}

theorem keepsOut_period {n : Nat} (h : Keeps F a s) (hF : F .gy) :
    KeepsOut F a (.next { s with gy := { s.gy with period := n } }) := by
  simp [h, hF]

@[simp ↓] theorem onFab_keeps {f : Fabric → Fabric} (h : Keeps F a s) (hF : F .fab) (hf : (f s.fab).ports.length =
    s.fab.ports.length) :
    Keeps F a (s.onFab f) := keeps_fab h (by simpa using hF) hf

@[simp ↓] theorem sendArrival_keeps (h : Keeps F a s) (hF : F .sent ∧ F .fab) :
    Keeps F a (s.sendArrival) := by
  unfold State.sendArrival
  (repeat' split) <;> simp (maxDischargeDepth := 60) +contextual [h, hF]

@[simp ↓] theorem execSwathReady_keeps {bar : Nat} (h : Keeps F a s) (hF : F .gy ∧ F .sent ∧ F .fab) :
    KeepsOut F a (execSwathReady bar s) := by
  unfold execSwathReady
  (repeat' split) <;> simp (maxDischargeDepth := 60) +contextual [h, hF]

@[simp ↓] theorem execBarArriveResend_keeps (h : Keeps F a s) (hF : F .sent ∧ F .fab) :
    KeepsOut F a (execBarArriveResend s) := by
  unfold execBarArriveResend
  (repeat' split) <;> simp (maxDischargeDepth := 60) +contextual [h, hF]

@[simp ↓] theorem barAbort_keeps {id : Nat} {cause : Nat} {node : Nat} (h : Keeps F a s) (hF : F .sent ∧ F .fab) :
    Keeps F a (s.barAbort id cause node) := by
  unfold State.barAbort
  simp (maxDischargeDepth := 60) [h, hF]

@[simp ↓] theorem barRelease_keeps {id : Nat} {pay : List Byte} (h : Keeps F a s) (hF : F .regs ∧ F .sent ∧ F .fab)
    :
    Keeps F a (s.barRelease id pay) := by
  unfold State.barRelease
  simp (maxDischargeDepth := 60) [h, hF]

@[simp ↓] theorem barJudge_keeps {id : Nat} (h : Keeps F a s) (hF : F .regs ∧ F .freeCount ∧ F .sent ∧ F .fab) :
    Keeps F a (s.barJudge id) := by
  unfold State.barJudge
  dsimp only
  repeat' first
    | (simp (maxDischargeDepth := 60) +contextual [h, hF]; done)
    | split
    | (rename_i e; obtain rfl := congrArg Prod.snd e)

@[simp ↓] theorem barCheck_keeps {id : Nat} (h : Keeps F a s) (hF : F .regs ∧ F .freeCount ∧ F .sent ∧ F .fab) :
    Keeps F a (s.barCheck id) := by
  unfold State.barCheck
  (repeat' split) <;> simp (maxDischargeDepth := 60) +contextual [h, hF]

@[simp ↓] theorem formMembers_keeps {layer : Nat} (h : Keeps F a s) (hF : F .regs ∧ F .fab) :
    Keeps F a (s.formMembers layer) := by
  unfold State.formMembers
  simp (maxDischargeDepth := 60) [h, hF]

@[simp ↓] theorem takeArrival_keeps {f : FabFrame} (h : Keeps F a s) (hF : F .regs ∧ F .freeCount ∧ F .sent ∧ F
    .fab) :
    Keeps F a (s.takeArrival f) := by
  unfold State.takeArrival
  (repeat' split) <;> simp (maxDischargeDepth := 60) +contextual [h, hF]

@[simp ↓] theorem execBarArriveFrame_keeps {p : Fin 5} {fr : List Byte} (h : Keeps F a s) (hF : F .regs ∧ F
    .freeCount ∧ F .log ∧ F .sent ∧ F .fab) :
    KeepsOut F a (execBarArriveFrame p fr s) := by
  unfold execBarArriveFrame
  simp (maxDischargeDepth := 60) +contextual [h, hF]

@[simp ↓] theorem execBarTimeout_keeps {bar : Nat} (h : Keeps F a s) (hF : F .sent ∧ F .fab) :
    KeepsOut F a (execBarTimeout bar s) := by
  unfold execBarTimeout
  (repeat' split) <;> simp (maxDischargeDepth := 60) +contextual [h, hF]

@[simp ↓] theorem showAgreed_keeps {w : Swath} {rate : Nat} (h : Keeps F a s) (hF : F .regs) :
    Keeps F a (s.showAgreed w rate) := by
  unfold State.showAgreed
  simp (maxDischargeDepth := 60) [h, hF]

@[simp ↓] theorem armSwath_keeps {w : Swath} {t : Nat} {rate : Nat} (h : Keeps F a s) (hF : F .regs ∧ F .log ∧ F
    .ver ∧ F .gy ∧ F .motion ∧ F .due) :
    Keeps F a (s.armSwath w t rate).2 := by
  unfold State.armSwath
  dsimp only
  repeat' first
    | (simp (maxDischargeDepth := 60) +contextual [h, hF]; done)
    | split
    | (rename_i e; obtain rfl := congrArg Prod.snd e)

@[simp ↓] theorem takeRelease_keeps {f : FabFrame} (h : Keeps F a s) (hF : F .regs ∧ F .log ∧ F .ver ∧ F .gy ∧ F
    .motion ∧ F .due ∧ F .fab) :
    Keeps F a (s.takeRelease f) := by
  unfold State.takeRelease
  dsimp only
  repeat' first
    | (simp (maxDischargeDepth := 60) +contextual [h, hF]; done)
    | split
    | (rename_i e; obtain rfl := congrArg Prod.snd e)

@[simp ↓] theorem execBarReleaseFrame_keeps {p : Fin 5} {fr : List Byte} (h : Keeps F a s) (hF : F .regs ∧ F .log ∧
    F .ver ∧ F .gy ∧ F .motion ∧ F .sent ∧ F .due ∧ F .fab) :
    KeepsOut F a (execBarReleaseFrame p fr s) := by
  unfold execBarReleaseFrame
  simp (maxDischargeDepth := 60) +contextual [h, hF]

@[simp ↓] theorem takeAbort_keeps {f : FabFrame} (h : Keeps F a s) (hF : F .regs ∧ F .tables ∧ F .mem ∧ F
    .freeCount ∧ F .log ∧ F .cores ∧ F .layers ∧ F .lpBytes ∧ F .units ∧ F .rows ∧ F .surveys ∧ F .ver ∧ F .gy ∧ F
    .recs ∧ F .blocks ∧ F .pins ∧ F .motion ∧ F .sent ∧ F .hp ∧ F .fab ∧ F .dram ∧ F .boot) :
    Keeps F a (s.takeAbort f) := by
  unfold State.takeAbort
  dsimp only
  repeat' first
    | (simp (maxDischargeDepth := 60) +contextual [h, hF]; done)
    | split
    | (rename_i e; obtain rfl := congrArg Prod.snd e)

@[simp ↓] theorem execBarAbortFrame_keeps {p : Fin 5} {fr : List Byte} (h : Keeps F a s) (hF : F .regs ∧ F .tables
    ∧ F .mem ∧ F .freeCount ∧ F .log ∧ F .cores ∧ F .layers ∧ F .lpBytes ∧ F .units ∧ F .rows ∧ F .surveys ∧ F .ver
    ∧ F .gy ∧ F .recs ∧ F .blocks ∧ F .pins ∧ F .motion ∧ F .sent ∧ F .hp ∧ F .fab ∧ F .dram ∧ F .boot) :
    KeepsOut F a (execBarAbortFrame p fr s) := by
  unfold execBarAbortFrame
  simp (maxDischargeDepth := 60) +contextual [h, hF]

@[simp ↓] theorem applyOvr_keeps {w : Swath} {v : Nat} (h : Keeps F a s) (hF : F .regs ∧ F .ver) :
    Keeps F a (s.applyOvr w v) := by
  unfold State.applyOvr
  dsimp only
  repeat' first
    | (simp (maxDischargeDepth := 60) +contextual [h, hF]; done)
    | split
    | (rename_i e; obtain rfl := congrArg Prod.snd e)

@[simp ↓] theorem noteOvr_keeps {n : Nat} {v : Nat} (h : Keeps F a s) (hF : F .gy) :
    Keeps F a (s.noteOvr n v) := by
  unfold State.noteOvr
  simp (maxDischargeDepth := 60) [h, hF]

@[simp ↓] theorem execGovernorPeriod_keeps (h : Keeps F a s) (hF : F .regs ∧ F .ver ∧ F .gy ∧ F .sent ∧ F .fab) :
    KeepsOut F a (execGovernorPeriod s) := by
  unfold execGovernorPeriod
  dsimp only
  split
  · simp [h]
  · split
    · refine keepsOut_period ?_ (by simp [hF])
      repeat' first
        | (simp (maxDischargeDepth := 60) [h, hF]; done)
        | split
    · simp [h]

@[simp ↓] theorem takeGov_keeps {f : FabFrame} (h : Keeps F a s) (hF : F .regs ∧ F .ver ∧ F .gy) :
    Keeps F a (s.takeGov f) := by
  unfold State.takeGov
  (repeat' split) <;> simp (maxDischargeDepth := 60) +contextual [h, hF]

@[simp ↓] theorem execGovFrame_keeps {p : Fin 5} {fr : List Byte} (h : Keeps F a s) (hF : F .regs ∧ F .log ∧ F .ver
    ∧ F .gy ∧ F .sent ∧ F .fab) :
    KeepsOut F a (execGovFrame p fr s) := by
  unfold execGovFrame
  simp (maxDischargeDepth := 60) +contextual [h, hF]

@[simp ↓] theorem takeTimed_keeps {f : FabFrame} (h : Keeps F a s) (hF : F .regs ∧ F .log ∧ F .due ∧ F .fab) :
    Keeps F a (s.takeTimed f) := by
  unfold State.takeTimed
  simp (maxDischargeDepth := 60) [h, hF]

@[simp ↓] theorem publishTimed_keeps {path : Path} {n : Nat} (h : Keeps F a s) (hF : F .sent ∧ F .fab) :
    Keeps F a (s.publishTimed path n) := by
  unfold State.publishTimed
  dsimp only
  repeat' first
    | (simp (maxDischargeDepth := 60) +contextual [h, hF]; done)
    | split
    | (rename_i e; obtain rfl := congrArg Prod.snd e)

@[simp ↓] theorem execTaArm_keeps {path : Path} {n : Fin 256} (h : Keeps F a s) (hF : F .regs ∧ F .log ∧ F .sent ∧
    F .due ∧ F .fab) :
    KeepsOut F a (execTaArm path n s) := by
  unfold execTaArm
  simp (maxDischargeDepth := 60) [h, hF]

@[simp ↓] theorem execTimedFrame_keeps {p : Fin 5} {fr : List Byte} (h : Keeps F a s) (hF : F .regs ∧ F .log ∧ F
    .sent ∧ F .due ∧ F .fab) :
    KeepsOut F a (execTimedFrame p fr s) := by
  unfold execTimedFrame
  simp (maxDischargeDepth := 60) +contextual [h, hF]

end Sys2Proof.Laws
end

