-- ==== Sys2Proof/Laws/KeepsFabTopo.lean ====
section
/-! SUPPORT. What the operations of Sys2Proof/Machine/FabTopo.lean can change: one lemma each. -/

set_option linter.unusedTactic false
set_option linter.unreachableTactic false
set_option Elab.async false

namespace Sys2Proof.Laws

open Sys2Proof.Machine Sys2Proof.Safety

variable {F : Part → Prop} {a s : State}

@[simp ↓] theorem retryHeld_keeps (h : Keeps F a s) (hF : F .sent ∧ F .fab) :
    Keeps F a (s.retryHeld) := by
  unfold State.retryHeld
  simp (maxDischargeDepth := 60) +contextual [h, hF]

@[simp ↓] theorem floodAssign_keeps (h : Keeps F a s) (hF : F .sent ∧ F .fab) :
    Keeps F a (s.floodAssign) := by
  unfold State.floodAssign
  simp (maxDischargeDepth := 60) +contextual [h, hF]

@[simp ↓] theorem dbChanged_keeps (h : Keeps F a s) (hF : F .regs ∧ F .sent ∧ F .fab) :
    Keeps F a (s.dbChanged) := by
  unfold State.dbChanged
  simp (maxDischargeDepth := 60) [h, hF]

@[simp ↓] theorem storeTopo_keeps {e : TopoEntry} (h : Keeps F a s) (hF : F .regs ∧ F .sent ∧ F .fab) :
    Keeps F a (s.storeTopo e) := by
  unfold State.storeTopo
  simp (maxDischargeDepth := 60) [h, hF]

@[simp ↓] theorem sendTopo_keeps (h : Keeps F a s) (hF : F .regs ∧ F .sent ∧ F .fab) :
    Keeps F a (s.sendTopo) := by
  unfold State.sendTopo
  simp (maxDischargeDepth := 60) +contextual [h, hF]

@[simp ↓] theorem setFport_keeps {p : Nat} {st : Nat} (h : Keeps F a s) (hF : F .regs ∧ F .sent ∧ F .fab) :
    Keeps F a (s.setFport p st) := by
  unfold State.setFport
  simp (maxDischargeDepth := 60) [h, hF]

@[simp ↓] theorem unbuffer_keeps {p : Nat} (h : Keeps F a s) (hF : F .ing) :
    Keeps F a (s.unbuffer p) := by
  unfold State.unbuffer
  simp (maxDischargeDepth := 60) [h, hF]

@[simp ↓] theorem fabDown_keeps {p : Nat} (h : Keeps F a s) (hF : F .regs ∧ F .sent ∧ F .fab ∧ F .ing) :
    Keeps F a (s.fabDown p) := by
  unfold State.fabDown
  simp (maxDischargeDepth := 60) +contextual [h, hF]

@[simp ↓] theorem fabResend_keeps {p : Nat} (h : Keeps F a s) (hF : F .regs ∧ F .sent ∧ F .fab ∧ F .ing) :
    Keeps F a (s.fabResend p) := by
  unfold State.fabResend
  simp (maxDischargeDepth := 60) +contextual [h, hF]

@[simp ↓] theorem helloCheck_keeps {p : Nat} (h : Keeps F a s) (hF : F .regs ∧ F .sent ∧ F .fab) :
    Keeps F a (s.helloCheck p) := by
  unfold State.helloCheck
  simp (maxDischargeDepth := 60) [h, hF]

@[simp ↓] theorem execHelloSet_keeps {p : Fin 4} {num : Byte} {st : Byte} {comp : Byte} (h : Keeps F a s) (hF : F
    .regs ∧ F .sent ∧ F .fab) :
    KeepsOut F a (execHelloSet p num st comp s) := by
  unfold execHelloSet
  simp (maxDischargeDepth := 60) [h, hF]

@[simp ↓] theorem execHelloSend_keeps {p : Fin 4} (h : Keeps F a s) (hF : F .sent) :
    KeepsOut F a (execHelloSend p s) := by
  unfold execHelloSend
  simp (maxDischargeDepth := 60) [h, hF]

@[simp ↓] theorem keepFab_keeps {p : Nat} (h : Keeps F a s) (hF : F .sent) :
    Keeps F a (s.keepFab p) := by
  unfold State.keepFab
  simp (maxDischargeDepth := 60) +contextual [h, hF]

@[simp ↓] theorem resendFab_keeps {p : Nat} (h : Keeps F a s) (hF : F .regs ∧ F .sent ∧ F .fab ∧ F .ing) :
    Keeps F a (s.resendFab p) := by
  unfold State.resendFab
  simp (maxDischargeDepth := 60) [h, hF]

@[simp ↓] theorem silentFab_keeps {p : Nat} (h : Keeps F a s) (hF : F .regs ∧ F .sent ∧ F .fab ∧ F .ing) :
    Keeps F a (s.silentFab p) := by
  unfold State.silentFab
  simp (maxDischargeDepth := 60) [h, hF]

@[simp ↓] theorem takeTopo_keeps {p : Nat} {f : FabFrame} (h : Keeps F a s) (hF : F .regs ∧ F .sent ∧ F .fab) :
    Keeps F a (State.takeTopo p s f) := by
  unfold State.takeTopo
  simp (maxDischargeDepth := 60) +contextual [h, hF]

@[simp ↓] theorem execTopoFrame_keeps {p : Fin 5} {fr : List Byte} (h : Keeps F a s) (hF : F .regs ∧ F .log ∧ F
    .sent ∧ F .fab) :
    KeepsOut F a (execTopoFrame p fr s) := by
  unfold execTopoFrame
  try dsimp only
  repeat' first
    | (simp (maxDischargeDepth := 60) +contextual [*]; done)
    | (refine keeps_foldl ?_ fun t x ht => ?_)
    | split
    | (rename_i e; obtain rfl := congrArg Prod.snd e)

@[simp ↓] theorem execTopoRefresh_keeps (h : Keeps F a s) (hF : F .regs ∧ F .sent ∧ F .fab) :
    KeepsOut F a (execTopoRefresh s) := by
  unfold execTopoRefresh
  simp (maxDischargeDepth := 60) [h, hF]

@[simp ↓] theorem execTopoEntryExpire_keeps {serial : Nat} (h : Keeps F a s) (hF : F .regs ∧ F .sent ∧ F .fab) :
    KeepsOut F a (execTopoEntryExpire serial s) := by
  unfold execTopoEntryExpire
  dsimp only
  repeat' first
    | (simp (maxDischargeDepth := 60) +contextual [h, hF]; done)
    | split
    | (rename_i e; obtain rfl := congrArg Prod.snd e)

@[simp ↓] theorem fillFab_keeps (h : Keeps F a s) (hF : F .sent) :
    Keeps F a (s.fillFab) := by
  unfold State.fillFab
  simp (maxDischargeDepth := 60) [h, hF]

@[simp ↓] theorem takeId_keeps {whole : Bool} (h : Keeps F a s) (hF : F .regs ∧ F .freeCount ∧ F .log ∧ F .sent) :
    Keeps F a (s.takeId whole) := by
  unfold State.takeId
  (repeat' split) <;> simp (maxDischargeDepth := 60) +contextual [h, hF]

@[simp ↓] theorem showRoot_keeps (h : Keeps F a s) (hF : F .regs) :
    Keeps F a (s.showRoot) := by
  unfold State.showRoot
  simp (maxDischargeDepth := 60) [h, hF]

@[simp ↓] theorem rootAssign_keeps (h : Keeps F a s) (hF : F .regs ∧ F .freeCount ∧ F .log ∧ F .sent ∧ F .fab) :
    Keeps F a (s.rootAssign) := by
  unfold State.rootAssign
  simp (maxDischargeDepth := 60) [h, hF]

@[simp ↓] theorem rootTime_keeps (h : Keeps F a s) (hF : F .regs ∧ F .fab) :
    Keeps F a (s.rootTime) := by
  unfold State.rootTime
  simp (maxDischargeDepth := 60) [h, hF]

@[simp ↓] theorem electFrom_keeps {db : List TopoEntry} (h : Keeps F a s) (hF : F .regs ∧ F .freeCount ∧ F .log ∧ F
    .sent ∧ F .fab) :
    Keeps F a (s.electFrom db) := by
  unfold State.electFrom
  extract_lets s1
  have h1 : Keeps F a s1 := by simp (maxDischargeDepth := 60) [s1, h, hF]
  clear_value s1
  split
  · exact h1
  · extract_lets r new s2 s3 s4 s5
    have h3 : Keeps F a s3 := by simp (maxDischargeDepth := 60) [s3, s2, h1, hF]
    clear_value s3
    have h4 : Keeps F a s4 := by simp (maxDischargeDepth := 60) [s4, h3, hF]
    clear_value s4
    have h5 : Keeps F a s5 := by simp (maxDischargeDepth := 60) [s5, h4, hF]
    simp (maxDischargeDepth := 60) [h5, hF]

@[simp ↓] theorem elect_keeps (h : Keeps F a s) (hF : F .regs ∧ F .freeCount ∧ F .log ∧ F .sent ∧ F .fab) :
    Keeps F a (s.elect) := by
  unfold State.elect
  (repeat' split) <;> simp (maxDischargeDepth := 60) +contextual [h, hF]

@[simp ↓] theorem execSettleTimeout_keeps (h : Keeps F a s) (hF : F .regs ∧ F .freeCount ∧ F .log ∧ F .sent ∧ F
    .fab) :
    KeepsOut F a (execSettleTimeout s) := by
  unfold execSettleTimeout
  simp (maxDischargeDepth := 60) [h, hF]

@[simp ↓] theorem execLoneRootTimeout_keeps (h : Keeps F a s) (hF : F .regs ∧ F .freeCount ∧ F .log ∧ F .sent ∧ F
    .fab) :
    KeepsOut F a (execLoneRootTimeout s) := by
  unfold execLoneRootTimeout
  simp (maxDischargeDepth := 60) [h, hF]

@[simp ↓] theorem rootMerge_keeps {t : List (Nat × Option Nat)} {epoch : Nat} (h : Keeps F a s) (hF : F .regs ∧ F
    .freeCount ∧ F .log ∧ F .sent ∧ F .fab) :
    Keeps F a (s.rootMerge t epoch) := by
  unfold State.rootMerge
  simp (maxDischargeDepth := 60) [h, hF]

@[simp ↓] theorem takeTable_keeps {root : Nat} {epoch : Nat} {t : List (Nat × Option Nat)} (h : Keeps F a s) (hF :
    F .regs ∧ F .freeCount ∧ F .log ∧ F .sent ∧ F .fab) :
    Keeps F a (s.takeTable root epoch t) := by
  unfold State.takeTable
  simp (maxDischargeDepth := 60) [h, hF]

@[simp ↓] theorem newPart_keeps {p : Nat} {y2 : AssignPart} {pay : List Byte} (h : Keeps F a s) (hF : F .sent ∧ F
    .fab) :
    Keeps F a (s.newPart p y2 pay) := by
  unfold State.newPart
  simp (maxDischargeDepth := 60) +contextual [h, hF]

@[simp ↓] theorem takeAssign_keeps {p : Nat} {f : FabFrame} (h : Keeps F a s) (hF : F .regs ∧ F .freeCount ∧ F .log
    ∧ F .sent ∧ F .fab) :
    Keeps F a (State.takeAssign p s f) := by
  unfold State.takeAssign
  simp (maxDischargeDepth := 60) +contextual [h, hF]

@[simp ↓] theorem execAssignFrame_keeps {p : Fin 5} {fr : List Byte} (h : Keeps F a s) (hF : F .regs ∧ F .freeCount
    ∧ F .log ∧ F .sent ∧ F .fab) :
    KeepsOut F a (execAssignFrame p fr s) := by
  unfold execAssignFrame
  try dsimp only
  repeat' first
    | (simp (maxDischargeDepth := 60) +contextual [*]; done)
    | (refine keeps_foldl ?_ fun t x ht => ?_)
    | split
    | (rename_i e; obtain rfl := congrArg Prod.snd e)

@[simp ↓] theorem askFails_keeps {f : FabFrame} (h : Keeps F a s) (hF : F .regs ∧ F .log ∧ F .ing) :
    Keeps F a (s.askFails f) := by
  unfold State.askFails
  simp (maxDischargeDepth := 60) [h, hF]

@[simp ↓] theorem execRouteHoldTimeout_keeps (h : Keeps F a s) (hF : F .regs ∧ F .log ∧ F .sent ∧ F .fab ∧ F .ing)
    :
    KeepsOut F a (execRouteHoldTimeout s) := by
  unfold execRouteHoldTimeout
  (repeat' split) <;> simp (maxDischargeDepth := 60) +contextual [h, hF]

end Sys2Proof.Laws
end

