-- ==== Sys2Proof/Laws/KeepsTimebase.lean ====
section
/-! SUPPORT. What the operations of Sys2Proof/Machine/Timebase.lean can change: one lemma each. -/

set_option linter.unusedTactic false
set_option linter.unreachableTactic false
set_option Elab.async false

namespace Sys2Proof.Laws

open Sys2Proof.Machine Sys2Proof.Safety

variable {F : Part → Prop} {a s : State}

@[simp ↓] theorem restoreTime_keeps {c1 : Nat} (h : Keeps F a s) (hF : F .regs ∧ F .clk) :
    Keeps F a (s.restoreTime c1) := by
  unfold State.restoreTime
  simp (maxDischargeDepth := 60) [h, hF]

@[simp ↓] theorem execTbPllLock_keeps {c1 : Nat} (h : Keeps F a s) (hF : F .regs ∧ F .clk) :
    KeepsOut F a (execTbPllLock c1 s) := by
  unfold execTbPllLock
  simp (maxDischargeDepth := 60) [h, hF]

@[simp ↓] theorem execTbIncrWrite_keeps {path : Path} {w : Word} (h : Keeps F a s) (hF : F .regs) :
    KeepsOut F a (execTbIncrWrite path w s) := by
  unfold execTbIncrWrite
  simp (maxDischargeDepth := 60) [h, hF]

@[simp ↓] theorem addSlew_keeps {d : Int} (h : Keeps F a s) (hF : F .clk) :
    Keeps F a (s.addSlew d) := by
  unfold State.addSlew
  simp (maxDischargeDepth := 60) [h, hF]

@[simp ↓] theorem execTbAdjCommit_keeps {path : Path} {w : Word} (h : Keeps F a s) (hF : F .regs ∧ F .paths ∧ F
    .clk) :
    KeepsOut F a (execTbAdjCommit path w s) := by
  unfold execTbAdjCommit
  simp (maxDischargeDepth := 60) [h, hF]

@[simp ↓] theorem execAonRatioLearn_keeps {c : BitVec 64} (h : Keeps F a s) (hF : F .regs ∧ F .clk) :
    KeepsOut F a (execAonRatioLearn c s) := by
  unfold execAonRatioLearn
  (repeat' split) <;> simp (maxDischargeDepth := 60) +contextual [h, hF]

@[simp ↓] theorem execSlewComplete_keeps (h : Keeps F a s) (hF : F .clk) :
    KeepsOut F a (execSlewComplete s) := by
  unfold execSlewComplete
  simp (maxDischargeDepth := 60) [h, hF]

@[simp ↓] theorem onDom_keeps {d : Nat} {f : Domain → Domain} (h : Keeps F a s) (hF : F .doms) :
    Keeps F a (s.onDom d f) := by
  unfold State.onDom
  (repeat' split) <;> simp (maxDischargeDepth := 60) +contextual [h, hF]

@[simp ↓] theorem setDom_keeps {d : Nat} {st : Nat} (h : Keeps F a s) (hF : F .regs) :
    Keeps F a (s.setDom d st) := by
  unfold State.setDom
  simp (maxDischargeDepth := 60) [h, hF]

@[simp ↓] theorem stepNow_keeps (h : Keeps F a s) (hF : F .regs ∧ F .log ∧ F .clk ∧ F .doms) :
    Keeps F a (s.stepNow) := by
  unfold State.stepNow
  simp (maxDischargeDepth := 60) [h, hF]

@[simp ↓] theorem stepOrWait_keeps (h : Keeps F a s) (hF : F .regs ∧ F .log ∧ F .clk ∧ F .doms) :
    Keeps F a (s.stepOrWait) := by
  unfold State.stepOrWait
  simp (maxDischargeDepth := 60) [h, hF]

@[simp ↓] theorem switchTo_keeps {d : Nat} {rate : Nat} (h : Keeps F a s) (hF : F .regs ∧ F .log ∧ F .clk ∧ F
    .doms) :
    Keeps F a (s.switchTo d rate) := by
  unfold State.switchTo
  simp (maxDischargeDepth := 60) [h, hF]

@[simp ↓] theorem domainSwitch_keeps {arg0 : Nat} {arg1 : Nat} (h : Keeps F a s) (hF : F .regs ∧ F .log ∧ F .clk ∧
    F .doms) :
    Keeps F a (s.domainSwitch arg0 arg1).2 := by
  unfold State.domainSwitch
  (repeat' split) <;> simp (maxDischargeDepth := 60) +contextual [h, hF]

@[simp ↓] theorem switchesDue_keeps (h : Keeps F a s) (hF : F .regs ∧ F .log ∧ F .clk ∧ F .doms ∧ F .due ∧ F .fab)
    :
    Keeps F a (s.switchesDue) := by
  unfold State.switchesDue
  simp (maxDischargeDepth := 60) +contextual [h, hF]

@[simp ↓] theorem failover_keeps {d : Nat} (h : Keeps F a s) (hF : F .regs ∧ F .log ∧ F .clk ∧ F .doms) :
    Keeps F a (s.failover d) := by
  unfold State.failover
  simp (maxDischargeDepth := 60) [h, hF]

@[simp ↓] theorem domLost_keeps {d : Nat} (h : Keeps F a s) (hF : F .regs ∧ F .log ∧ F .clk ∧ F .doms) :
    Keeps F a (s.domLost d) := by
  unfold State.domLost
  simp (maxDischargeDepth := 60) [h, hF]

@[simp ↓] theorem selLocked_keeps {d : Nat} {tq : Nat} (h : Keeps F a s) (hF : F .regs ∧ F .log ∧ F .clk ∧ F .doms)
    :
    Keeps F a (s.selLocked d tq) := by
  unfold State.selLocked
  simp (maxDischargeDepth := 60) [h, hF]

@[simp ↓] theorem domLocked_keeps {d : Nat} (h : Keeps F a s) (hF : F .regs ∧ F .log ∧ F .clk ∧ F .doms) :
    Keeps F a (s.domLocked d) := by
  unfold State.domLocked
  simp (maxDischargeDepth := 60) [h, hF]

@[simp ↓] theorem steer_keeps {d : Nat} (h : Keeps F a s) (hF : F .regs ∧ F .freeCount ∧ F .log ∧ F .clk ∧ F .doms)
    :
    Keeps F a (s.steer d) := by
  unfold State.steer
  simp (maxDischargeDepth := 60) [h, hF]

@[simp ↓] theorem keepSample_keeps {d : Nat} {ofs : Int} (h : Keeps F a s) (hF : F .doms) :
    Keeps F a (s.keepSample d ofs) := by
  unfold State.keepSample
  simp (maxDischargeDepth := 60) [h, hF]

@[simp ↓] theorem acquireCheck_keeps {d : Nat} (h : Keeps F a s) (hF : F .regs ∧ F .log ∧ F .clk ∧ F .doms) :
    Keeps F a (s.acquireCheck d) := by
  unfold State.acquireCheck
  simp (maxDischargeDepth := 60) [h, hF]

@[simp ↓] theorem domSample_keeps {d : Nat} {ofs : Int} {freq : Option Nat} (h : Keeps F a s) (hF : F .regs ∧ F
    .freeCount ∧ F .log ∧ F .clk ∧ F .doms ∧ F .due ∧ F .fab) :
    Keeps F a (s.domSample d ofs freq) := by
  unfold State.domSample
  dsimp only
  repeat' first
    | (simp (maxDischargeDepth := 60) +contextual [h, hF]; done)
    | split
    | (rename_i e; obtain rfl := congrArg Prod.snd e)

@[simp ↓] theorem execDomainSampleTimeout_keeps {d : Fin 2} (h : Keeps F a s) (hF : F .regs ∧ F .log ∧ F .clk ∧ F
    .doms ∧ F .due ∧ F .fab) :
    KeepsOut F a (execDomainSampleTimeout d s) := by
  unfold execDomainSampleTimeout
  simp (maxDischargeDepth := 60) [h, hF]

@[simp ↓] theorem execTbStepCmd_keeps {path : Path} (h : Keeps F a s) (hF : F .regs ∧ F .log ∧ F .clk ∧ F .doms) :
    KeepsOut F a (execTbStepCmd path s) := by
  unfold execTbStepCmd
  simp (maxDischargeDepth := 60) [h, hF]

@[simp ↓] theorem execStepApply_keeps (h : Keeps F a s) (hF : F .regs ∧ F .log ∧ F .clk ∧ F .doms) :
    KeepsOut F a (execStepApply s) := by
  unfold execStepApply
  simp (maxDischargeDepth := 60) [h, hF]

@[simp ↓] theorem execTbPpsSecWrite_keeps {path : Path} {w : Word} (h : Keeps F a s) (hF : F .regs ∧ F .paths ∧ F
    .log ∧ F .clk ∧ F .doms) :
    KeepsOut F a (execTbPpsSecWrite path w s) := by
  unfold execTbPpsSecWrite
  simp (maxDischargeDepth := 60) +contextual [h, hF]

@[simp ↓] theorem execPpsInEdge_keeps {phase : Fin 64} {tref : Nat} (h : Keeps F a s) (hF : F .regs ∧ F .freeCount
    ∧ F .log ∧ F .clk ∧ F .doms ∧ F .due ∧ F .fab) :
    KeepsOut F a (execPpsInEdge phase tref s) := by
  unfold execPpsInEdge
  simp (maxDischargeDepth := 60) +contextual [h, hF]

@[simp ↓] theorem announce_keeps {y1 : Announce} {d : Nat} (h : Keeps F a s) (hF : F .doms) :
    Keeps F a (s.announce y1 d) := by
  unfold State.announce
  simp (maxDischargeDepth := 60) [h, hF]

@[simp ↓] theorem execPtpAnnounce_keeps {n : Fin 256} {y2 : Announce} (h : Keeps F a s) (hF : F .regs ∧ F .doms) :
    KeepsOut F a (execPtpAnnounce n y2 s) := by
  unfold execPtpAnnounce
  (repeat' split) <;> simp (maxDischargeDepth := 60) +contextual [h, hF]

@[simp ↓] theorem ptpSample_keeps {d : Nat} {t1 : Int} {t2 : Int} {corr : Int} (h : Keeps F a s) (hF : F .regs ∧ F
    .freeCount ∧ F .log ∧ F .clk ∧ F .doms ∧ F .due ∧ F .fab) :
    Keeps F a (s.ptpSample d t1 t2 corr) := by
  unfold State.ptpSample
  simp (maxDischargeDepth := 60) [h, hF]

@[simp ↓] theorem ptpSync_keeps {source : Nat} {seq : Nat} {twoStep : Bool} {t1 : Int} {corr : Int} {t2 : Int} {d :
    Nat} (h : Keeps F a s) (hF : F .regs ∧ F .freeCount ∧ F .log ∧ F .clk ∧ F .doms ∧ F .due ∧ F .fab) :
    Keeps F a (s.ptpSync source seq twoStep t1 corr t2 d) := by
  unfold State.ptpSync
  simp (maxDischargeDepth := 60) [h, hF]

@[simp ↓] theorem execPtpSync_keeps {n : Fin 256} {source : Nat} {seq : Nat} {twoStep : Bool} {t1 : Int} {corr :
    Int} {phase : Fin 64} (h : Keeps F a s) (hF : F .regs ∧ F .freeCount ∧ F .log ∧ F .clk ∧ F .doms ∧ F .due ∧ F
    .fab) :
    KeepsOut F a (execPtpSync n source seq twoStep t1 corr phase s) := by
  unfold execPtpSync
  (repeat' split) <;> simp (maxDischargeDepth := 60) +contextual [h, hF]

@[simp ↓] theorem followUp_keeps {source : Nat} {seq : Nat} {t1 : Int} {corr : Int} {d : Nat} (h : Keeps F a s) (hF
    : F .regs ∧ F .freeCount ∧ F .log ∧ F .clk ∧ F .doms ∧ F .due ∧ F .fab) :
    Keeps F a (s.followUp source seq t1 corr d) := by
  unfold State.followUp
  (repeat' split) <;> simp (maxDischargeDepth := 60) +contextual [h, hF]

@[simp ↓] theorem execPtpFollowUp_keeps {n : Fin 256} {source : Nat} {seq : Nat} {t1 : Int} {corr : Int} (h : Keeps
    F a s) (hF : F .regs ∧ F .freeCount ∧ F .log ∧ F .clk ∧ F .doms ∧ F .due ∧ F .fab) :
    KeepsOut F a (execPtpFollowUp n source seq t1 corr s) := by
  unfold execPtpFollowUp
  (repeat' split) <;> simp (maxDischargeDepth := 60) +contextual [h, hF]

@[simp ↓] theorem execDelayReqSend_keeps {d : Fin 2} {phase : Fin 64} (h : Keeps F a s) (hF : F .sent ∧ F .doms) :
    KeepsOut F a (execDelayReqSend d phase s) := by
  unfold execDelayReqSend
  simp (maxDischargeDepth := 60) [h, hF]

@[simp ↓] theorem delayResp_keeps {source : Nat} {seq : Nat} {t4 : Int} {corr : Int} {d : Nat} (h : Keeps F a s)
    (hF : F .doms) :
    Keeps F a (s.delayResp source seq t4 corr d) := by
  unfold State.delayResp
  dsimp only
  repeat' first
    | (simp (maxDischargeDepth := 60) +contextual [h, hF]; done)
    | split
    | (rename_i e; obtain rfl := congrArg Prod.snd e)

@[simp ↓] theorem execPtpDelayResp_keeps {n : Fin 256} {source : Nat} {seq : Nat} {mine : Bool} {t4 : Int} {corr :
    Int} (h : Keeps F a s) (hF : F .doms) :
    KeepsOut F a (execPtpDelayResp n source seq mine t4 corr s) := by
  unfold execPtpDelayResp
  simp (maxDischargeDepth := 60) +contextual [h, hF]

end Sys2Proof.Laws
end

