-- ==== Sys2Proof/Laws/KeepsFabTime.lean ====
section
/-! SUPPORT. What the operations of Sys2Proof/Machine/FabTime.lean can change: one lemma each. -/

set_option linter.unusedTactic false
set_option linter.unreachableTactic false
set_option Elab.async false

namespace Sys2Proof.Laws

open Sys2Proof.Machine Sys2Proof.Safety

variable {F : Part → Prop} {a s : State}

@[simp ↓] theorem onMark_keeps {p : Nat} {m : Nat} {f : FabMark → FabMark} (h : Keeps F a s) (hF : F .fab) :
    Keeps F a (s.onMark p m f) := by
  unfold State.onMark
  simp (maxDischargeDepth := 60) [h, hF]

@[simp ↓] theorem execFtmarkReceive_keeps {p : Fin 4} {m : Byte} {phase : Fin 64} {held : Fin 10001} {phase2 : Fin
    64} (h : Keeps F a s) (hF : F .sent ∧ F .fab) :
    KeepsOut F a (execFtmarkReceive p m phase held phase2 s) := by
  unfold execFtmarkReceive
  simp (maxDischargeDepth := 60) [h, hF]

@[simp ↓] theorem execFtmarkPeriod_keeps {phases : List (Fin 64)} (h : Keeps F a s) (hF : F .sent ∧ F .fab) :
    KeepsOut F a (execFtmarkPeriod phases s) := by
  unfold execFtmarkPeriod
  simp (maxDischargeDepth := 60) +contextual [h, hF]

@[simp ↓] theorem delaySample_keeps {p : Nat} {m : Nat} {t4 : Nat} (h : Keeps F a s) (hF : F .regs ∧ F .fab) :
    Keeps F a (s.delaySample p m t4) := by
  unfold State.delaySample
  (repeat' split) <;> simp (maxDischargeDepth := 60) +contextual [h, hF]

@[simp ↓] theorem fabOffset_keeps {ofs : Int} (h : Keeps F a s) (hF : F .regs ∧ F .freeCount ∧ F .log ∧ F .clk ∧ F
    .doms ∧ F .due ∧ F .fab) :
    Keeps F a (s.fabOffset ofs) := by
  unfold State.fabOffset
  simp (maxDischargeDepth := 60) [h, hF]

@[simp ↓] theorem takeTsync_keeps {p : Nat} {f : FabFrame} (h : Keeps F a s) (hF : F .regs ∧ F .freeCount ∧ F .log
    ∧ F .clk ∧ F .doms ∧ F .due ∧ F .fab) :
    Keeps F a (State.takeTsync p s f) := by
  unfold State.takeTsync
  split
  · exact h
  extract_lets m hops t1 t4 c1 f1 s1 s2 far s3 s4 s5 s6
  have hs1 : Keeps F a s1 := by
    unfold s1 f1 c1
    repeat' first
      | (simp (maxDischargeDepth := 60) +contextual [*]; done)
      | (refine keeps_foldl ?_ fun t x ht => ?_)
      | split
      | (rename_i e; obtain rfl := congrArg Prod.snd e)
  clear_value s1
  have hs2 : Keeps F a s2 := by
    unfold s2
    repeat' first
      | (simp (maxDischargeDepth := 60) +contextual [*]; done)
      | (refine keeps_foldl ?_ fun t x ht => ?_)
      | split
      | (rename_i e; obtain rfl := congrArg Prod.snd e)
  clear_value s2
  have hs3 : Keeps F a s3 := by
    unfold s3
    repeat' first
      | (simp (maxDischargeDepth := 60) +contextual [*]; done)
      | (refine keeps_foldl ?_ fun t x ht => ?_)
      | split
      | (rename_i e; obtain rfl := congrArg Prod.snd e)
  clear_value s3
  have hs4 : Keeps F a s4 := by
    unfold s4
    repeat' first
      | (simp (maxDischargeDepth := 60) +contextual [*]; done)
      | (refine keeps_foldl ?_ fun t x ht => ?_)
      | split
      | (rename_i e; obtain rfl := congrArg Prod.snd e)
  clear_value s4
  have hs5 : Keeps F a s5 := by
    unfold s5
    repeat' first
      | (simp (maxDischargeDepth := 60) +contextual [*]; done)
      | (refine keeps_foldl ?_ fun t x ht => ?_)
      | split
      | (rename_i e; obtain rfl := congrArg Prod.snd e)
  clear_value s5
  have hs6 : Keeps F a s6 := by
    unfold s6
    repeat' first
      | (simp (maxDischargeDepth := 60) +contextual [*]; done)
      | (refine keeps_foldl ?_ fun t x ht => ?_)
      | split
      | (rename_i e; obtain rfl := congrArg Prod.snd e)
  clear_value s6
  repeat' first
    | (simp (maxDischargeDepth := 60) +contextual [*]; done)
    | (refine keeps_foldl ?_ fun t x ht => ?_)
    | split
    | (rename_i e; obtain rfl := congrArg Prod.snd e)

@[simp ↓] theorem execTsyncFrame_keeps {p : Fin 5} {fr : List Byte} (h : Keeps F a s) (hF : F .regs ∧ F .freeCount
    ∧ F .log ∧ F .clk ∧ F .sent ∧ F .doms ∧ F .due ∧ F .fab) :
    KeepsOut F a (execTsyncFrame p fr s) := by
  unfold execTsyncFrame
  simp (maxDischargeDepth := 60) +contextual [h, hF]

@[simp ↓] theorem takeMcNak_keeps {f : FabFrame} (h : Keeps F a s) (hF : F .regs ∧ F .mem ∧ F .freeCount ∧ F .log ∧
    F .sent ∧ F .fab ∧ F .dram) :
    Keeps F a (s.takeMcNak f) := by
  unfold State.takeMcNak
  simp (maxDischargeDepth := 60) +contextual [h, hF]

@[simp ↓] theorem execMcNakFrame_keeps {p : Fin 5} {fr : List Byte} (h : Keeps F a s) (hF : F .regs ∧ F .mem ∧ F
    .freeCount ∧ F .log ∧ F .sent ∧ F .fab ∧ F .dram) :
    KeepsOut F a (execMcNakFrame p fr s) := by
  unfold execMcNakFrame
  simp (maxDischargeDepth := 60) +contextual [h, hF]

@[simp ↓] theorem mcAck_keeps {r : McRx} (h : Keeps F a s) (hF : F .sent ∧ F .fab) :
    Keeps F a (s.mcAck r) := by
  unfold State.mcAck
  simp (maxDischargeDepth := 60) [h, hF]

@[simp ↓] theorem execMcAckTimer_keeps (h : Keeps F a s) (hF : F .sent ∧ F .fab) :
    KeepsOut F a (execMcAckTimer s) := by
  unfold execMcAckTimer
  simp (maxDischargeDepth := 60) +contextual [h, hF]

@[simp ↓] theorem nakedFrame_keeps {src : Nat} {pay : List Byte} (h : Keeps F a s) (hF : F .regs ∧ F .mem ∧ F
    .freeCount ∧ F .log ∧ F .sent ∧ F .dram) :
    Keeps F a (s.nakedFrame src pay).2 := by
  unfold State.nakedFrame
  dsimp only
  repeat' first
    | (simp (maxDischargeDepth := 60) +contextual [h, hF]; done)
    | split
    | (rename_i e; obtain rfl := congrArg Prod.snd e)

@[simp ↓] theorem takeNak_keeps {f : FabFrame} (h : Keeps F a s) (hF : F .regs ∧ F .mem ∧ F .freeCount ∧ F .log ∧ F
    .sent ∧ F .fab ∧ F .dram) :
    Keeps F a (s.takeNak f) := by
  unfold State.takeNak
  dsimp only
  repeat' first
    | (simp (maxDischargeDepth := 60) +contextual [h, hF]; done)
    | split
    | (rename_i e; obtain rfl := congrArg Prod.snd e)

@[simp ↓] theorem execNakFrame_keeps {p : Fin 5} {fr : List Byte} (h : Keeps F a s) (hF : F .regs ∧ F .mem ∧ F
    .freeCount ∧ F .log ∧ F .sent ∧ F .fab ∧ F .dram) :
    KeepsOut F a (execNakFrame p fr s) := by
  unfold execNakFrame
  simp (maxDischargeDepth := 60) +contextual [h, hF]

@[simp ↓] theorem execRetryLaterResend_keeps (h : Keeps F a s) (hF : F .sent ∧ F .fab) :
    KeepsOut F a (execRetryLaterResend s) := by
  unfold execRetryLaterResend
  (repeat' split) <;> simp (maxDischargeDepth := 60) +contextual [h, hF]

@[simp ↓] theorem execFrozenFrame_keeps {p : Fin 5} {fr : List Byte} (h : Keeps F a s) (hF : F .regs ∧ F .log ∧ F
    .sent ∧ F .fab) :
    KeepsOut F a (execFrozenFrame p fr s) := by
  unfold execFrozenFrame
  simp (maxDischargeDepth := 60) +contextual [h, hF]

end Sys2Proof.Laws
end

