-- ==== Sys2Proof/Laws/KeepsCalTarget.lean ====
section
/-! SUPPORT. What the operations of Sys2Proof/Machine/CalTarget.lean can change: one lemma each. -/

set_option linter.unusedTactic false
set_option linter.unreachableTactic false
set_option Elab.async false

namespace Sys2Proof.Laws

open Sys2Proof.Machine Sys2Proof.Safety

variable {F : Part → Prop} {a s : State}

@[simp ↓] theorem onCal_keeps {f : Cal → Cal} (h : Keeps F a s) (hF : F .cal) :
    Keeps F a (s.onCal f) := by
  unfold State.onCal
  simp (maxDischargeDepth := 60) [h, hF]

@[simp ↓] theorem setTgt_keeps {t : Nat} {f : Field} {v : Nat} (h : Keeps F a s) (hF : F .regs) :
    Keeps F a (s.setTgt t f v) := by
  unfold State.setTgt
  simp (maxDischargeDepth := 60) [h, hF]

@[simp ↓] theorem showStale_keeps (h : Keeps F a s) (hF : F .regs) :
    Keeps F a (s.showStale) := by
  unfold State.showStale
  simp (maxDischargeDepth := 60) [h, hF]

@[simp ↓] theorem showCal_keeps (h : Keeps F a s) (hF : F .regs) :
    Keeps F a (s.showCal) := by
  unfold State.showCal
  simp (maxDischargeDepth := 60) [h, hF]

@[simp ↓] theorem calBegin_keeps {t : Nat} (h : Keeps F a s) (hF : F .regs) :
    Keeps F a (s.calBegin t) := by
  unfold State.calBegin
  (repeat' split) <;> simp (maxDischargeDepth := 60) +contextual [h, hF]

@[simp ↓] theorem calEnd_keeps {t : Nat} (h : Keeps F a s) (hF : F .regs) :
    Keeps F a (s.calEnd t) := by
  unfold State.calEnd
  (repeat' split) <;> simp (maxDischargeDepth := 60) +contextual [h, hF]

@[simp ↓] theorem calReject_keeps {t : Nat} (h : Keeps F a s) (hF : F .regs ∧ F .log ∧ F .cal) :
    Keeps F a (s.calReject t) := by
  unfold State.calReject
  simp (maxDischargeDepth := 60) [h, hF]

@[simp ↓] theorem calAbandon_keeps {t : Nat} (h : Keeps F a s) (hF : F .regs ∧ F .log ∧ F .cal) :
    Keeps F a (s.calAbandon t) := by
  unfold State.calAbandon
  simp (maxDischargeDepth := 60) [h, hF]

end Sys2Proof.Laws
end

