-- ==== Sys2Proof/Laws/KeepsAngle.lean ====
section
/-! SUPPORT. What the operations of Sys2Proof/Machine/Angle.lean can change: one lemma each. -/

set_option linter.unusedTactic false
set_option linter.unreachableTactic false
set_option Elab.async false

namespace Sys2Proof.Laws

open Sys2Proof.Machine Sys2Proof.Safety

variable {F : Part → Prop} {a s : State}

@[simp ↓] theorem convAngle_keeps {t : Nat} {x : Int × Int} (h : Keeps F a s) (hF : F .freeCount) :
    Keeps F a (s.convAngle t x).2 := by
  unfold State.convAngle
  simp (maxDischargeDepth := 60) [h, hF]

end Sys2Proof.Laws
end

