-- ==== Sys2Proof/Laws/KeepsFaults.lean ====
section
/-! SUPPORT. What the operations of Sys2Proof/Machine/Faults.lean can change: one lemma each. -/

set_option linter.unusedTactic false
set_option linter.unreachableTactic false
set_option Elab.async false

namespace Sys2Proof.Laws

open Sys2Proof.Machine Sys2Proof.Safety

variable {F : Part → Prop} {a s : State}

@[simp ↓] theorem disableAll_keeps (h : Keeps F a s) (hF : F .regs ∧ F .motion ∧ F .sent) :
    Keeps F a (s.disableAll) := by
  unfold State.disableAll
  simp (maxDischargeDepth := 60) +contextual [h, hF]

@[simp ↓] theorem holdPads_keeps (h : Keeps F a s) (hF : F .regs ∧ F .pw) :
    Keeps F a (s.holdPads) := by
  unfold State.holdPads
  simp (maxDischargeDepth := 60) [h, hF]

@[simp ↓] theorem fatalStop_keeps (h : Keeps F a s) (hF : F .regs ∧ F .tables ∧ F .mem ∧ F .freeCount ∧ F .log ∧ F
    .cores ∧ F .layers ∧ F .lpBytes ∧ F .units ∧ F .rows ∧ F .surveys ∧ F .ver ∧ F .gy ∧ F .recs ∧ F .blocks ∧ F
    .pins ∧ F .motion ∧ F .sent ∧ F .hp ∧ F .dram ∧ F .boot ∧ F .pw) :
    Keeps F a (s.fatalStop) := by
  unfold State.fatalStop
  simp (maxDischargeDepth := 60) [h, hF]

@[simp ↓] theorem fatal_keeps {ev : Nat} {f : Field} {cause : Nat} {unit : Nat} (h : Keeps F a s) (hF : F .regs ∧ F
    .tables ∧ F .mem ∧ F .freeCount ∧ F .log ∧ F .cores ∧ F .layers ∧ F .lpBytes ∧ F .units ∧ F .rows ∧ F .surveys
    ∧ F .ver ∧ F .gy ∧ F .recs ∧ F .blocks ∧ F .pins ∧ F .motion ∧ F .sent ∧ F .hp ∧ F .dram ∧ F .boot ∧ F .pw) :
    Keeps F a (s.fatal ev f cause unit) := by
  unfold State.fatal
  simp (maxDischargeDepth := 60) [h, hF]

@[simp ↓] theorem fatalBare_keeps {ev : Nat} {cause : Nat} {unit : Nat} (h : Keeps F a s) (hF : F .regs ∧ F .tables
    ∧ F .mem ∧ F .freeCount ∧ F .log ∧ F .cores ∧ F .layers ∧ F .lpBytes ∧ F .units ∧ F .rows ∧ F .surveys ∧ F .ver
    ∧ F .gy ∧ F .recs ∧ F .blocks ∧ F .pins ∧ F .motion ∧ F .sent ∧ F .hp ∧ F .dram ∧ F .boot ∧ F .pw) :
    Keeps F a (s.fatalBare ev cause unit) := by
  unfold State.fatalBare
  simp (maxDischargeDepth := 60) [h, hF]

@[simp ↓] theorem execControlStateDisagreement_keeps {u : Fin 19} (h : Keeps F a s) (hF : F .regs ∧ F .tables ∧ F
    .mem ∧ F .freeCount ∧ F .log ∧ F .cores ∧ F .layers ∧ F .lpBytes ∧ F .units ∧ F .rows ∧ F .surveys ∧ F .ver ∧ F
    .gy ∧ F .recs ∧ F .blocks ∧ F .pins ∧ F .motion ∧ F .sent ∧ F .hp ∧ F .dram ∧ F .boot ∧ F .pw) :
    KeepsOut F a (execControlStateDisagreement u s) := by
  unfold execControlStateDisagreement
  (repeat' split) <;> simp (maxDischargeDepth := 60) +contextual [h, hF]

@[simp ↓] theorem setCore_keeps {n : Nat} {st : Nat} {r : Nat} (h : Keeps F a s) (hF : F .regs) :
    Keeps F a (s.setCore n st r) := by
  unfold State.setCore
  simp (maxDischargeDepth := 60) [h, hF]

@[simp ↓] theorem shadowRestart_keeps {r : Nat} (h : Keeps F a s) (hF : F .regs) :
    Keeps F a (s.shadowRestart r) := by
  unfold State.shadowRestart
  simp (maxDischargeDepth := 60) +contextual [h, hF]

@[simp ↓] theorem roleMove_keeps {r : Nat} (h : Keeps F a s) (hF : F .regs ∧ F .cores) :
    Keeps F a (s.roleMove r) := by
  unfold State.roleMove
  dsimp only
  repeat' first
    | (simp (maxDischargeDepth := 60) +contextual [h, hF]; done)
    | split
    | (rename_i e; obtain rfl := congrArg Prod.snd e)

@[simp ↓] theorem handAbort_keeps (h : Keeps F a s) (hF : F .regs ∧ F .boot) :
    Keeps F a (s.handAbort) := by
  unfold State.handAbort
  (repeat' split) <;> simp (maxDischargeDepth := 60) +contextual [h, hF]

@[simp ↓] theorem awaitBoundary_keeps {n : Nat} (h : Keeps F a s) (hF : F .cores) :
    Keeps F a (s.awaitBoundary n) := by
  unfold State.awaitBoundary
  simp (maxDischargeDepth := 60) [h, hF]

@[simp ↓] theorem coreLeaves_keeps {n : Nat} {cause : Nat} (h : Keeps F a s) (hF : F .regs ∧ F .tables ∧ F .mem ∧ F
    .freeCount ∧ F .log ∧ F .cores ∧ F .layers ∧ F .lpBytes ∧ F .units ∧ F .rows ∧ F .surveys ∧ F .ver ∧ F .gy ∧ F
    .recs ∧ F .blocks ∧ F .pins ∧ F .motion ∧ F .sent ∧ F .hp ∧ F .dram ∧ F .boot ∧ F .pw) :
    Keeps F a (s.coreLeaves n cause) := by
  unfold State.coreLeaves
  simp (maxDischargeDepth := 60) [h, hF]

@[simp ↓] theorem execCoreWatchdogTimeout_keeps {n : Fin 12} (h : Keeps F a s) (hF : F .regs ∧ F .tables ∧ F .mem ∧
    F .freeCount ∧ F .log ∧ F .cores ∧ F .layers ∧ F .lpBytes ∧ F .units ∧ F .rows ∧ F .surveys ∧ F .ver ∧ F .gy ∧
    F .recs ∧ F .blocks ∧ F .pins ∧ F .motion ∧ F .sent ∧ F .hp ∧ F .dram ∧ F .boot ∧ F .pw) :
    KeepsOut F a (execCoreWatchdogTimeout n s) := by
  unfold execCoreWatchdogTimeout
  simp (maxDischargeDepth := 60) [h, hF]

@[simp ↓] theorem coreFails_keeps {n : Nat} (h : Keeps F a s) (hF : F .regs) :
    Keeps F a (s.coreFails n) := by
  unfold State.coreFails
  simp (maxDischargeDepth := 60) [h, hF]

@[simp ↓] theorem coreShadow_keeps {n : Nat} {ok : Bool} (h : Keeps F a s) (hF : F .regs ∧ F .cores) :
    Keeps F a (s.coreShadow n ok) := by
  unfold State.coreShadow
  simp (maxDischargeDepth := 60) [h, hF]

@[simp ↓] theorem coreWord_keeps {n : Nat} {row : Nat} {e : Ecc} (h : Keeps F a s) (hF : F .regs ∧ F .tables ∧ F
    .mem ∧ F .freeCount ∧ F .log ∧ F .cores ∧ F .layers ∧ F .lpBytes ∧ F .units ∧ F .rows ∧ F .surveys ∧ F .ver ∧ F
    .gy ∧ F .recs ∧ F .blocks ∧ F .sram ∧ F .pins ∧ F .motion ∧ F .sent ∧ F .hp ∧ F .dram ∧ F .boot ∧ F .pw) :
    Keeps F a (s.coreWord n row e) := by
  unfold State.coreWord
  (repeat' split) <;> simp (maxDischargeDepth := 60) +contextual [h, hF]

@[simp ↓] theorem execCheckpointTimer_keeps {bad : List (Fin 12)} {words : List (Fin 12 × Nat × Ecc)} (h : Keeps F
    a s) (hF : F .regs ∧ F .tables ∧ F .mem ∧ F .freeCount ∧ F .log ∧ F .cores ∧ F .layers ∧ F .lpBytes ∧ F .units
    ∧ F .rows ∧ F .surveys ∧ F .ver ∧ F .gy ∧ F .recs ∧ F .blocks ∧ F .sram ∧ F .pins ∧ F .motion ∧ F .sent ∧ F .hp
    ∧ F .dram ∧ F .boot ∧ F .pw) :
    KeepsOut F a (execCheckpointTimer bad words s) := by
  unfold execCheckpointTimer
  simp (maxDischargeDepth := 60) +contextual [h, hF]

@[simp ↓] theorem execErrCoreOut_keeps {path : Path} {n : Fin 16} (h : Keeps F a s) (hF : F .regs ∧ F .cores) :
    KeepsOut F a (execErrCoreOut path n s) := by
  unfold execErrCoreOut
  simp (maxDischargeDepth := 60) [h, hF]

@[simp ↓] theorem execErrCoreReturn_keeps {n : Fin 16} (h : Keeps F a s) (hF : F .regs) :
    KeepsOut F a (execErrCoreReturn n s) := by
  unfold execErrCoreReturn
  simp (maxDischargeDepth := 60) [h, hF]

@[simp ↓] theorem execCoreSelftestDone_keeps {n : Fin 12} {pass : Bool} (h : Keeps F a s) (hF : F .regs ∧ F .log ∧
    F .cores ∧ F .boot) :
    KeepsOut F a (execCoreSelftestDone n pass s) := by
  unfold execCoreSelftestDone
  dsimp only
  repeat' first
    | (simp (maxDischargeDepth := 60) +contextual [h, hF]; done)
    | split
    | (rename_i e; obtain rfl := congrArg Prod.snd e)

@[simp ↓] theorem execSpareSelftestTimer_keeps {n : Fin 12} (h : Keeps F a s) (hF : F .regs ∧ F .cores) :
    KeepsOut F a (execSpareSelftestTimer n s) := by
  unfold execSpareSelftestTimer
  simp (maxDischargeDepth := 60) [h, hF]

@[simp ↓] theorem execErrRecordProcess_keeps (h : Keeps F a s) (hF : F .regs ∧ F .mem ∧ F .log ∧ F .dram) :
    KeepsOut F a (execErrRecordProcess s) := by
  unfold execErrRecordProcess
  (repeat' split) <;> simp (maxDischargeDepth := 60) +contextual [h, hF]

@[simp ↓] theorem execErrAck_keeps {path : Path} {w : Word} (h : Keeps F a s) (hF : F .regs ∧ F .mem ∧ F .log ∧ F
    .dram) :
    KeepsOut F a (execErrAck path w s) := by
  unfold execErrAck
  (repeat' split) <;> simp (maxDischargeDepth := 60) +contextual [h, hF]

@[simp ↓] theorem execErrAckUpto_keeps {w : Word} (h : Keeps F a s) (hF : F .regs ∧ F .mem ∧ F .log ∧ F .dram) :
    KeepsOut F a (execErrAckUpto w s) := by
  unfold execErrAckUpto
  (repeat' split) <;> simp (maxDischargeDepth := 60) +contextual [h, hF]

@[simp ↓] theorem violNow_keeps {k : Nat} (h : Keeps F a s) (hF : F .fab) :
    Keeps F a (s.violNow k) := by
  unfold State.violNow
  simp (maxDischargeDepth := 60) [h, hF]

@[simp ↓] theorem violation_keeps {m : Nat} {req : Nat} {addr : Nat} (h : Keeps F a s) (hF : F .regs ∧ F .log ∧ F
    .fab) :
    Keeps F a (s.violation m req addr) := by
  unfold State.violation
  simp (maxDischargeDepth := 60) [h, hF]

end Sys2Proof.Laws
end

