-- ==== Sys2Proof/Laws/KeepsDram.lean ====
section
/-! SUPPORT. What the operations of Sys2Proof/Machine/Dram.lean can change: one lemma each. -/

set_option linter.unusedTactic false
set_option linter.unreachableTactic false
set_option Elab.async false

namespace Sys2Proof.Laws

open Sys2Proof.Machine Sys2Proof.Safety

variable {F : Part → Prop} {a s : State}

@[simp ↓] theorem bgResume_keeps (h : Keeps F a s) (hF : F .regs ∧ F .mem ∧ F .log ∧ F .dram) :
    Keeps F a (s.bgResume) := by
  unfold State.bgResume
  simp (maxDischargeDepth := 60) +contextual [h, hF]

@[simp ↓] theorem execCoreSpareReturn_keeps {n : Fin 12} (h : Keeps F a s) (hF : F .regs ∧ F .mem ∧ F .log ∧ F
    .cores ∧ F .dram) :
    KeepsOut F a (execCoreSpareReturn n s) := by
  unfold execCoreSpareReturn
  simp (maxDischargeDepth := 60) [h, hF]

@[simp ↓] theorem execMergeFlush_keeps {line : Nat} (h : Keeps F a s) (hF : F .regs ∧ F .mem ∧ F .log ∧ F .sent ∧ F
    .dram) :
    KeepsOut F a (execMergeFlush line s) := by
  unfold execMergeFlush
  (repeat' split) <;> simp (maxDischargeDepth := 60) +contextual [h, hF]

@[simp ↓] theorem dropOpenLayer_keeps (h : Keeps F a s) (hF : F .regs ∧ F .parser) :
    Keeps F a (s.dropOpenLayer) := by
  unfold State.dropOpenLayer
  simp (maxDischargeDepth := 60) [h, hF]

@[simp ↓] theorem layerWord_keeps {q : Nat} (h : Keeps F a s) (hF : F .regs ∧ F .tables ∧ F .mem ∧ F .freeCount ∧ F
    .log ∧ F .cores ∧ F .layers ∧ F .lpBytes ∧ F .units ∧ F .rows ∧ F .surveys ∧ F .parser ∧ F .ver ∧ F .gy ∧ F
    .recs ∧ F .blocks ∧ F .pins ∧ F .motion ∧ F .sent ∧ F .hp ∧ F .dram ∧ F .boot) :
    Keeps F a (s.layerWord q) := by
  unfold State.layerWord
  simp (maxDischargeDepth := 60) [h, hF]

@[simp ↓] theorem stagedBad_keeps {t : TileId} (h : Keeps F a s) (hF : F .regs ∧ F .tables ∧ F .mem ∧ F .log ∧ F
    .rows ∧ F .ver ∧ F .gy ∧ F .recs ∧ F .blocks ∧ F .sent ∧ F .dram) :
    Keeps F a (s.stagedBad t) := by
  unfold State.stagedBad
  (repeat' split) <;> simp (maxDischargeDepth := 60) +contextual [h, hF]

@[simp ↓] theorem uncorrTo_keeps {req : Nat} {unit : Nat} {y3 : Nat} (h : Keeps F a s) (hF : F .regs ∧ F .tables ∧
    F .mem ∧ F .freeCount ∧ F .log ∧ F .cores ∧ F .layers ∧ F .lpBytes ∧ F .units ∧ F .rows ∧ F .surveys ∧ F
    .parser ∧ F .ver ∧ F .gy ∧ F .recs ∧ F .blocks ∧ F .pins ∧ F .motion ∧ F .sent ∧ F .hp ∧ F .dram ∧ F .boot ∧ F
    .pw) :
    Keeps F a (s.uncorrTo req unit y3) := by
  unfold State.uncorrTo
  (repeat' split) <;> simp (maxDischargeDepth := 60) +contextual [h, hF]

@[simp ↓] theorem serveRead_keeps {req : Nat} {unit : Nat} {y3 : Nat} {n : Nat} (h : Keeps F a s) (hF : F .regs ∧ F
    .tables ∧ F .mem ∧ F .freeCount ∧ F .log ∧ F .cores ∧ F .layers ∧ F .lpBytes ∧ F .units ∧ F .rows ∧ F .surveys
    ∧ F .parser ∧ F .ver ∧ F .gy ∧ F .recs ∧ F .blocks ∧ F .pins ∧ F .motion ∧ F .sent ∧ F .hp ∧ F .dram ∧ F .boot
    ∧ F .pw) :
    Keeps F a (s.serveRead req unit y3 n) := by
  unfold State.serveRead
  simp (maxDischargeDepth := 60) +contextual [h, hF]

@[simp ↓] theorem upset_keeps {l : List (Nat × Nat)} (h : Keeps F a s) (hF : F .dram) :
    Keeps F a (s.upset l) := by
  unfold State.upset
  simp (maxDischargeDepth := 60) +contextual [h, hF]

@[simp ↓] theorem shutRows_keeps {l : List Nat} (h : Keeps F a s) (hF : F .dram) :
    Keeps F a (s.shutRows l) := by
  unfold State.shutRows
  simp (maxDischargeDepth := 60) [h, hF]

@[simp ↓] theorem serveReq_keeps {y1 : HeldReq} (h : Keeps F a s) (hF : F .regs ∧ F .tables ∧ F .mem ∧ F .freeCount
    ∧ F .log ∧ F .cores ∧ F .layers ∧ F .lpBytes ∧ F .units ∧ F .rows ∧ F .surveys ∧ F .parser ∧ F .ver ∧ F .gy ∧ F
    .recs ∧ F .blocks ∧ F .pins ∧ F .motion ∧ F .sent ∧ F .hp ∧ F .dram ∧ F .boot ∧ F .pw) :
    Keeps F a (s.serveReq y1) := by
  unfold State.serveReq
  simp (maxDischargeDepth := 60) [h, hF]

@[simp ↓] theorem serveAll_keeps (h : Keeps F a s) (hF : F .regs ∧ F .tables ∧ F .mem ∧ F .freeCount ∧ F .log ∧ F
    .cores ∧ F .layers ∧ F .lpBytes ∧ F .units ∧ F .rows ∧ F .surveys ∧ F .parser ∧ F .ver ∧ F .gy ∧ F .recs ∧ F
    .blocks ∧ F .pins ∧ F .motion ∧ F .sent ∧ F .hp ∧ F .dram ∧ F .boot ∧ F .pw) :
    Keeps F a (s.serveAll) := by
  unfold State.serveAll
  simp (maxDischargeDepth := 60) +contextual [h, hF]

@[simp ↓] theorem execDramRead_keeps {req : Fin 11} {unit : Nat} {addr : Nat} {len : Nat} {upsets : List (Nat ×
    Nat)} {shut : List Nat} (h : Keeps F a s) (hF : F .regs ∧ F .tables ∧ F .mem ∧ F .freeCount ∧ F .log ∧ F .cores
    ∧ F .layers ∧ F .lpBytes ∧ F .units ∧ F .rows ∧ F .surveys ∧ F .parser ∧ F .ver ∧ F .gy ∧ F .recs ∧ F .blocks ∧
    F .pins ∧ F .motion ∧ F .sent ∧ F .hp ∧ F .dram ∧ F .boot ∧ F .pw) :
    KeepsOut F a (execDramRead req unit addr len upsets shut s) := by
  unfold execDramRead
  simp (maxDischargeDepth := 60) +contextual [h, hF]

@[simp ↓] theorem freezeMaster_keeps {m : Nat} (h : Keeps F a s) (hF : F .regs ∧ F .tables ∧ F .mem ∧ F .freeCount
    ∧ F .log ∧ F .cores ∧ F .layers ∧ F .lpBytes ∧ F .units ∧ F .rows ∧ F .surveys ∧ F .ver ∧ F .gy ∧ F .recs ∧ F
    .blocks ∧ F .pins ∧ F .motion ∧ F .sent ∧ F .hp ∧ F .dram ∧ F .boot ∧ F .pw) :
    Keeps F a (s.freezeMaster m) := by
  unfold State.freezeMaster
  simp (maxDischargeDepth := 60) [h, hF]

@[simp ↓] theorem execDramWrite_keeps {req : Fin 11} {master : Option (Fin 24)} {addr : Nat} {data : List Byte}
    {shut : List Nat} (h : Keeps F a s) (hF : F .regs ∧ F .tables ∧ F .mem ∧ F .freeCount ∧ F .log ∧ F .cores ∧ F
    .layers ∧ F .lpBytes ∧ F .units ∧ F .rows ∧ F .surveys ∧ F .parser ∧ F .ver ∧ F .gy ∧ F .recs ∧ F .blocks ∧ F
    .pins ∧ F .motion ∧ F .sent ∧ F .hp ∧ F .fab ∧ F .dram ∧ F .boot ∧ F .pw) :
    KeepsOut F a (execDramWrite req master addr data shut s) := by
  unfold execDramWrite
  dsimp only
  repeat' first
    | (simp (maxDischargeDepth := 60) +contextual [h, hF]; done)
    | split
    | (rename_i e; obtain rfl := congrArg Prod.snd e)

@[simp ↓] theorem execRhWindowReset_keeps (h : Keeps F a s) (hF : F .regs ∧ F .tables ∧ F .mem ∧ F .freeCount ∧ F
    .log ∧ F .cores ∧ F .layers ∧ F .lpBytes ∧ F .units ∧ F .rows ∧ F .surveys ∧ F .parser ∧ F .ver ∧ F .gy ∧ F
    .recs ∧ F .blocks ∧ F .pins ∧ F .motion ∧ F .sent ∧ F .hp ∧ F .dram ∧ F .boot ∧ F .pw) :
    KeepsOut F a (execRhWindowReset s) := by
  unfold execRhWindowReset
  simp (maxDischargeDepth := 60) [h, hF]

@[simp ↓] theorem scrubRows_keeps {q : Nat} (h : Keeps F a s) (hF : F .regs ∧ F .freeCount ∧ F .log ∧ F .sent ∧ F
    .dram) :
    Keeps F a (s.scrubRows q) := by
  unfold State.scrubRows
  simp (maxDischargeDepth := 60) +contextual [h, hF]

@[simp ↓] theorem execScrubStep_keeps {upsets : List (Nat × Nat)} (h : Keeps F a s) (hF : F .regs ∧ F .mem ∧ F
    .freeCount ∧ F .log ∧ F .sent ∧ F .dram) :
    KeepsOut F a (execScrubStep upsets s) := by
  unfold execScrubStep
  simp (maxDischargeDepth := 60) +contextual [h, hF]

@[simp ↓] theorem execPageRetire_keeps {w : Word} (h : Keeps F a s) (hF : F .regs ∧ F .log ∧ F .dram) :
    KeepsOut F a (execPageRetire w s) := by
  unfold execPageRetire
  simp (maxDischargeDepth := 60) [h, hF]

@[simp ↓] theorem copyWord_keeps {w : Nat} (h : Keeps F a s) (hF : F .regs ∧ F .mem ∧ F .log ∧ F .dram) :
    Keeps F a (s.copyWord w) := by
  unfold State.copyWord
  (repeat' split) <;> simp (maxDischargeDepth := 60) +contextual [h, hF]

@[simp ↓] theorem execPageCopyDone_keeps (h : Keeps F a s) (hF : F .regs ∧ F .tables ∧ F .mem ∧ F .log ∧ F .sent ∧
    F .dram ∧ F .boot) :
    KeepsOut F a (execPageCopyDone s) := by
  unfold execPageCopyDone
  dsimp only
  repeat' first
    | (simp (maxDischargeDepth := 60) +contextual [h, hF]; done)
    | split
    | (rename_i e; obtain rfl := congrArg Prod.snd e)

@[simp ↓] theorem showBanks_keeps (h : Keeps F a s) (hF : F .regs) :
    Keeps F a (s.showBanks) := by
  unfold State.showBanks
  simp (maxDischargeDepth := 60) [h, hF]

@[simp ↓] theorem execBankRetireRequest_keeps {path : Path} {w : Word} (h : Keeps F a s) (hF : F .regs ∧ F .log ∧ F
    .dram ∧ F .boot) :
    KeepsOut F a (execBankRetireRequest path w s) := by
  unfold execBankRetireRequest
  simp (maxDischargeDepth := 60) [h, hF]

@[simp ↓] theorem execBankRetireCancel_keeps {w : Word} (h : Keeps F a s) (hF : F .regs ∧ F .dram ∧ F .boot) :
    KeepsOut F a (execBankRetireCancel w s) := by
  unfold execBankRetireCancel
  simp (maxDischargeDepth := 60) [h, hF]

@[simp ↓] theorem execFlipArm_keeps {w : Word} (h : Keeps F a s) (hF : F .regs) :
    KeepsOut F a (execFlipArm w s) := by
  unfold execFlipArm
  simp (maxDischargeDepth := 60) [h, hF]

@[simp ↓] theorem execDramTrainingDone_keeps {ok : BitVec 16} {us : Nat} (h : Keeps F a s) (hF : F .regs ∧ F
    .tables ∧ F .mem ∧ F .freeCount ∧ F .log ∧ F .cores ∧ F .layers ∧ F .lpBytes ∧ F .units ∧ F .rows ∧ F .surveys
    ∧ F .ver ∧ F .gy ∧ F .recs ∧ F .blocks ∧ F .pins ∧ F .motion ∧ F .sent ∧ F .hp ∧ F .dram ∧ F .boot ∧ F .pw) :
    KeepsOut F a (execDramTrainingDone ok us s) := by
  unfold execDramTrainingDone
  simp (maxDischargeDepth := 60) [h, hF]

end Sys2Proof.Laws
end

