-- ==== Sys2Proof/Laws/KeepsHeadPort.lean ====
section
/-! SUPPORT. What the operations of Sys2Proof/Machine/HeadPort.lean can change: one lemma each. -/

set_option linter.unusedTactic false
set_option linter.unreachableTactic false
set_option Elab.async false

namespace Sys2Proof.Laws

open Sys2Proof.Machine Sys2Proof.Safety

variable {F : Part → Prop} {a s : State}

@[simp ↓] theorem execTmarkPeriod_keeps {p : Fin 6} {phase : Fin 64} (h : Keeps F a s) (hF : F .regs ∧ F .log ∧ F
    .sent ∧ F .hp) :
    KeepsOut F a (execTmarkPeriod p phase s) := by
  unfold execTmarkPeriod
  simp (maxDischargeDepth := 60) [h, hF]

@[simp ↓] theorem execHeadTmarkUp_keeps {p : Fin 6} {mark : Byte} {phase : Fin 64} (h : Keeps F a s) (hF : F .hp) :
    KeepsOut F a (execHeadTmarkUp p mark phase s) := by
  unfold execHeadTmarkUp
  simp (maxDischargeDepth := 60) [h, hF]

@[simp ↓] theorem upFrame_keeps {p : Nat} {fr : List Byte} {ty : Nat} {n : Nat} {k : State → Nat → List Byte →
    State} (h : Keeps F a s) (hF : F .regs ∧ F .log ∧ F .hp) (hf : ∀ t x y, Keeps F a t → Keeps F a (k t x y)) :
    Keeps F a (s.upFrame p fr ty n k) := by
  unfold State.upFrame
  simp (maxDischargeDepth := 60) [h, hF, hf]

@[simp ↓] theorem execEchoFrame_keeps {p : Fin 6} {fr : List Byte} (h : Keeps F a s) (hF : F .regs ∧ F .log ∧ F
    .hp) :
    KeepsOut F a (execEchoFrame p fr s) := by
  unfold execEchoFrame
  try dsimp only
  try refine keepsOut_next.2 ?_
  repeat' first
    | (simp (maxDischargeDepth := 60) +contextual [*]; done)
    | (refine keeps_foldl ?_ fun t x ht => ?_)
    | (refine upFrame_keeps ?_ ?_ fun t x y ht => ?_)
    | split
    | (rename_i e; obtain rfl := congrArg Prod.snd e)

@[simp ↓] theorem hoRetry_keeps {p : Nat} {y2 : Nat} {o : HandOver} (h : Keeps F a s) (hF : F .regs ∧ F .tables ∧ F
    .mem ∧ F .freeCount ∧ F .log ∧ F .gy ∧ F .recs ∧ F .blocks ∧ F .sent ∧ F .hp ∧ F .ln ∧ F .dram) :
    Keeps F a (s.hoRetry p y2 o) := by
  unfold State.hoRetry
  simp (maxDischargeDepth := 60) [h, hF]

@[simp ↓] theorem execHoAckFrame_keeps {p : Fin 6} {fr : List Byte} (h : Keeps F a s) (hF : F .regs ∧ F .tables ∧ F
    .mem ∧ F .freeCount ∧ F .log ∧ F .gy ∧ F .recs ∧ F .blocks ∧ F .sent ∧ F .hp ∧ F .ln ∧ F .dram) :
    KeepsOut F a (execHoAckFrame p fr s) := by
  unfold execHoAckFrame
  try dsimp only
  try refine keepsOut_next.2 ?_
  repeat' first
    | (simp (maxDischargeDepth := 60) +contextual [*]; done)
    | (refine keeps_foldl ?_ fun t x ht => ?_)
    | (refine upFrame_keeps ?_ ?_ fun t x y ht => ?_)
    | split
    | (rename_i e; obtain rfl := congrArg Prod.snd e)

@[simp ↓] theorem showIdent_keeps {p : Nat} {y2 : Nat} {b : List Byte} (h : Keeps F a s) (hF : F .regs) :
    Keeps F a (s.showIdent p y2 b) := by
  unfold State.showIdent
  simp (maxDischargeDepth := 60) [h, hF]

@[simp ↓] theorem timeCheck_keeps {p : Nat} (h : Keeps F a s) (hF : F .regs ∧ F .freeCount ∧ F .log ∧ F .sent ∧ F
    .hp) :
    Keeps F a (s.timeCheck p) := by
  unfold State.timeCheck
  simp (maxDischargeDepth := 60) [h, hF]

@[simp ↓] theorem identGood_keeps {p : Nat} {y2 : Nat} {b : List Byte} (h : Keeps F a s) (hF : F .regs ∧ F .tables
    ∧ F .mem ∧ F .freeCount ∧ F .log ∧ F .beams ∧ F .gy ∧ F .recs ∧ F .blocks ∧ F .sent ∧ F .hp ∧ F .dram) :
    Keeps F a (s.identGood p y2 b) := by
  unfold State.identGood
  extract_lets s1 s2
  have hs1 : Keeps F a s1 := by
    unfold s1
    repeat' first
      | (simp (maxDischargeDepth := 60) +contextual [*]; done)
      | (refine keeps_foldl ?_ fun t x ht => ?_)
      | split
      | (rename_i e; obtain rfl := congrArg Prod.snd e)
  clear_value s1
  have hs2 : Keeps F a s2 := by
    unfold s2
    repeat' first
      | (simp (maxDischargeDepth := 60) +contextual [*]; done)
      | (refine keeps_foldl ?_ fun t x ht => ?_)
      | split
      | (rename_i e; obtain rfl := congrArg Prod.snd e)
  clear_value s2
  repeat' first
    | (simp (maxDischargeDepth := 60) +contextual [*]; done)
    | (refine keeps_foldl ?_ fun t x ht => ?_)
    | split
    | (rename_i e; obtain rfl := congrArg Prod.snd e)

@[simp ↓] theorem identJudge_keeps {p : Nat} {y2 : Nat} (h : Keeps F a s) (hF : F .regs ∧ F .tables ∧ F .mem ∧ F
    .freeCount ∧ F .log ∧ F .beams ∧ F .gy ∧ F .recs ∧ F .blocks ∧ F .sent ∧ F .hp ∧ F .dram) :
    Keeps F a (s.identJudge p y2) := by
  unfold State.identJudge
  simp (maxDischargeDepth := 60) [h, hF]

@[simp ↓] theorem execSbRspFrame_keeps {p : Fin 6} {fr : List Byte} (h : Keeps F a s) (hF : F .regs ∧ F .tables ∧ F
    .mem ∧ F .freeCount ∧ F .log ∧ F .beams ∧ F .gy ∧ F .recs ∧ F .blocks ∧ F .sent ∧ F .hp ∧ F .ln ∧ F .dram) :
    KeepsOut F a (execSbRspFrame p fr s) := by
  unfold execSbRspFrame
  simp (maxDischargeDepth := 60) +contextual [h, hF]

@[simp ↓] theorem headsFound_keeps {p : Nat} {n : Nat} (h : Keeps F a s) (hF : F .regs ∧ F .tables ∧ F .mem ∧ F
    .log ∧ F .gy ∧ F .recs ∧ F .blocks ∧ F .sent ∧ F .hp ∧ F .ln ∧ F .dram) :
    Keeps F a (s.headsFound p n) := by
  unfold State.headsFound
  (repeat' split) <;> simp (maxDischargeDepth := 60) +contextual [h, hF]

@[simp ↓] theorem enumDone_keeps {p : Nat} {n : Nat} (h : Keeps F a s) (hF : F .regs ∧ F .tables ∧ F .mem ∧ F
    .freeCount ∧ F .log ∧ F .gy ∧ F .recs ∧ F .blocks ∧ F .sent ∧ F .hp ∧ F .ln ∧ F .dram) :
    Keeps F a (s.enumDone p n) := by
  unfold State.enumDone
  simp (maxDischargeDepth := 60) +contextual [h, hF]

@[simp ↓] theorem execEnumRspFrame_keeps {p : Fin 6} {fr : List Byte} (h : Keeps F a s) (hF : F .regs ∧ F .tables ∧
    F .mem ∧ F .freeCount ∧ F .log ∧ F .gy ∧ F .recs ∧ F .blocks ∧ F .sent ∧ F .hp ∧ F .ln ∧ F .dram) :
    KeepsOut F a (execEnumRspFrame p fr s) := by
  unfold execEnumRspFrame
  try dsimp only
  try refine keepsOut_next.2 ?_
  repeat' first
    | (simp (maxDischargeDepth := 60) +contextual [*]; done)
    | (refine keeps_foldl ?_ fun t x ht => ?_)
    | (refine upFrame_keeps ?_ ?_ fun t x y ht => ?_)
    | split
    | (rename_i e; obtain rfl := congrArg Prod.snd e)

@[simp ↓] theorem unmapped_keeps {p : Nat} (h : Keeps F a s) (hF : F .regs) :
    Keeps F a (s.unmapped p) := by
  unfold State.unmapped
  simp (maxDischargeDepth := 60) [h, hF]

@[simp ↓] theorem telemEntry_keeps {p : Nat} {y2 : Nat} {kind : Nat} {b : List Byte} (h : Keeps F a s) (hF : F
    .regs ∧ F .tables ∧ F .mem ∧ F .freeCount ∧ F .log ∧ F .beams ∧ F .gy ∧ F .recs ∧ F .blocks ∧ F .sent ∧ F .hp ∧
    F .dram) :
    Keeps F a (s.telemEntry p y2 kind b) := by
  unfold State.telemEntry
  (repeat' split) <;> simp (maxDischargeDepth := 60) +contextual [h, hF]

@[simp ↓] theorem execTelemFrame_keeps {p : Fin 6} {fr : List Byte} (h : Keeps F a s) (hF : F .regs ∧ F .tables ∧ F
    .mem ∧ F .freeCount ∧ F .log ∧ F .beams ∧ F .gy ∧ F .recs ∧ F .blocks ∧ F .sent ∧ F .hp ∧ F .dram) :
    KeepsOut F a (execTelemFrame p fr s) := by
  unfold execTelemFrame
  simp (maxDischargeDepth := 60) +contextual [h, hF]

@[simp ↓] theorem excNone_keeps {p : Nat} (h : Keeps F a s) (hF : F .regs) :
    Keeps F a (s.excNone p) := by
  unfold State.excNone
  simp (maxDischargeDepth := 60) [h, hF]

@[simp ↓] theorem excRow_keeps {p : Nat} {y2 : Nat} {reason : Nat} {c : FireCmd} {r : FireRow} (h : Keeps F a s)
    (hF : F .regs ∧ F .tables ∧ F .mem ∧ F .log ∧ F .gy ∧ F .recs ∧ F .blocks ∧ F .sent ∧ F .dram) :
    Keeps F a (s.excRow p y2 reason c r) := by
  unfold State.excRow
  simp (maxDischargeDepth := 60) [h, hF]

@[simp ↓] theorem execExcFrame_keeps {p : Fin 6} {fr : List Byte} (h : Keeps F a s) (hF : F .regs ∧ F .tables ∧ F
    .mem ∧ F .freeCount ∧ F .log ∧ F .cores ∧ F .layers ∧ F .lpBytes ∧ F .units ∧ F .rows ∧ F .surveys ∧ F .ver ∧ F
    .gy ∧ F .recs ∧ F .blocks ∧ F .pins ∧ F .motion ∧ F .sent ∧ F .hp ∧ F .dram ∧ F .boot) :
    KeepsOut F a (execExcFrame p fr s) := by
  unfold execExcFrame
  dsimp only
  refine keepsOut_next.2 (settleStop_keeps (closeDue_keeps (upFrame_keeps h (by simp [hF])
    fun t x y ht => ?_) (by simp [hF])) (by simp [hF]))
  split
  · simp (maxDischargeDepth := 60) [ht, hF]
  · refine keeps_foldl (by split <;> simp (maxDischargeDepth := 60) [ht, hF]) fun t x ht => ?_
    simp (maxDischargeDepth := 60) [ht, hF]

@[simp ↓] theorem execStatusFrame_keeps {p : Fin 6} {fr : List Byte} (h : Keeps F a s) (hF : F .regs ∧ F .tables ∧
    F .mem ∧ F .freeCount ∧ F .log ∧ F .cores ∧ F .layers ∧ F .lpBytes ∧ F .units ∧ F .rows ∧ F .surveys ∧ F .ver ∧
    F .gy ∧ F .recs ∧ F .blocks ∧ F .pins ∧ F .motion ∧ F .sent ∧ F .hp ∧ F .ln ∧ F .dram ∧ F .boot) :
    KeepsOut F a (execStatusFrame p fr s) := by
  unfold execStatusFrame
  simp (maxDischargeDepth := 60) +contextual [h, hF]

@[simp ↓] theorem execEditValidationDone_keeps (h : Keeps F a s) (hF : F .regs ∧ F .log ∧ F .beams ∧ F .sent ∧ F
    .hp) :
    KeepsOut F a (execEditValidationDone s) := by
  unfold execEditValidationDone
  simp (maxDischargeDepth := 60) +contextual [h, hF]

@[simp ↓] theorem execFireFrameSend_keeps {p : Fin 6} {upset : Bool} (h : Keeps F a s) (hF : F .regs ∧ F .tables ∧
    F .mem ∧ F .log ∧ F .gy ∧ F .recs ∧ F .blocks ∧ F .sent ∧ F .hp ∧ F .dram) :
    KeepsOut F a (execFireFrameSend p upset s) := by
  unfold execFireFrameSend
  dsimp only
  repeat' first
    | (simp (maxDischargeDepth := 60) +contextual [h, hF]; done)
    | split
    | (rename_i e; obtain rfl := congrArg Prod.snd e)

@[simp ↓] theorem execSbReqTimeout_keeps {p : Fin 6} {y2 : Fin 8} (h : Keeps F a s) (hF : F .regs ∧ F .tables ∧ F
    .mem ∧ F .freeCount ∧ F .log ∧ F .gy ∧ F .recs ∧ F .blocks ∧ F .sent ∧ F .hp ∧ F .ln ∧ F .dram) :
    KeepsOut F a (execSbReqTimeout p y2 s) := by
  unfold execSbReqTimeout
  (repeat' split) <;> simp (maxDischargeDepth := 60) +contextual [h, hF]

@[simp ↓] theorem execHeadStatusTimeout_keeps {p : Fin 6} {y2 : Fin 8} (h : Keeps F a s) (hF : F .regs ∧ F .tables
    ∧ F .mem ∧ F .freeCount ∧ F .log ∧ F .gy ∧ F .recs ∧ F .blocks ∧ F .sent ∧ F .hp ∧ F .ln ∧ F .dram) :
    KeepsOut F a (execHeadStatusTimeout p y2 s) := by
  unfold execHeadStatusTimeout
  simp (maxDischargeDepth := 60) [h, hF]

@[simp ↓] theorem execHoAckTimeout_keeps {p : Fin 6} {y2 : Fin 8} (h : Keeps F a s) (hF : F .regs ∧ F .tables ∧ F
    .mem ∧ F .freeCount ∧ F .log ∧ F .gy ∧ F .recs ∧ F .blocks ∧ F .sent ∧ F .hp ∧ F .ln ∧ F .dram) :
    KeepsOut F a (execHoAckTimeout p y2 s) := by
  unfold execHoAckTimeout
  (repeat' split) <;> simp (maxDischargeDepth := 60) +contextual [h, hF]

@[simp ↓] theorem execEnumRetry_keeps {p : Fin 6} (h : Keeps F a s) (hF : F .regs ∧ F .tables ∧ F .mem ∧ F
    .freeCount ∧ F .log ∧ F .gy ∧ F .recs ∧ F .blocks ∧ F .sent ∧ F .hp ∧ F .ln ∧ F .dram) :
    KeepsOut F a (execEnumRetry p s) := by
  unfold execEnumRetry
  simp (maxDischargeDepth := 60) [h, hF]

@[simp ↓] theorem execPortTimeTimeout_keeps {p : Fin 6} (h : Keeps F a s) (hF : F .regs ∧ F .freeCount ∧ F .sent ∧
    F .hp) :
    KeepsOut F a (execPortTimeTimeout p s) := by
  unfold execPortTimeTimeout
  simp (maxDischargeDepth := 60) [h, hF]

@[simp ↓] theorem execTimeLockLoss_keeps {p : Fin 6} (h : Keeps F a s) (hF : F .regs ∧ F .freeCount ∧ F .log ∧ F
    .sent ∧ F .hp) :
    KeepsOut F a (execTimeLockLoss p s) := by
  unfold execTimeLockLoss
  simp (maxDischargeDepth := 60) [h, hF]

@[simp ↓] theorem execLwidthEcho_keeps {p : Fin 6} {y2 : Fin 8} (h : Keeps F a s) (hF : F .regs ∧ F .tables ∧ F
    .mem ∧ F .freeCount ∧ F .log ∧ F .cores ∧ F .layers ∧ F .lpBytes ∧ F .units ∧ F .rows ∧ F .surveys ∧ F .ver ∧ F
    .gy ∧ F .recs ∧ F .blocks ∧ F .pins ∧ F .motion ∧ F .sent ∧ F .hp ∧ F .ln ∧ F .dram ∧ F .boot) :
    KeepsOut F a (execLwidthEcho p y2 s) := by
  unfold execLwidthEcho
  (repeat' split) <;> simp (maxDischargeDepth := 60) +contextual [h, hF]

@[simp ↓] theorem linkCheck_keeps {p : Nat} (h : Keeps F a s) (hF : F .regs ∧ F .freeCount ∧ F .log ∧ F .sent ∧ F
    .hp) :
    Keeps F a (s.linkCheck p) := by
  unfold State.linkCheck
  simp (maxDischargeDepth := 60) [h, hF]

@[simp ↓] theorem execHpPortRestart_keeps {path : Path} {p : Fin 6} (h : Keeps F a s) (hF : F .regs ∧ F .freeCount
    ∧ F .log ∧ F .sent ∧ F .hp) :
    KeepsOut F a (execHpPortRestart path p s) := by
  unfold execHpPortRestart
  simp (maxDischargeDepth := 60) [h, hF]

@[simp ↓] theorem sbCmd_keeps {w : Word} {ask : State → Nat → Nat → State} (h : Keeps F a s) (hf : ∀ t x y, Keeps F
    a t → Keeps F a (ask t x y)) :
    Keeps F a (s.sbCmd w ask) := by
  unfold State.sbCmd
  simp (maxDischargeDepth := 60) +contextual [h, hf]

@[simp ↓] theorem execSbIdentityReread_keeps {w : Word} (h : Keeps F a s) (hF : F .regs ∧ F .log ∧ F .sent ∧ F .hp)
    :
    KeepsOut F a (execSbIdentityReread w s) := by
  unfold execSbIdentityReread
  simp (maxDischargeDepth := 60) +contextual [h, hF]

@[simp ↓] theorem execSbNozzleCheck_keeps {w : Word} (h : Keeps F a s) (hF : F .regs ∧ F .log ∧ F .sent ∧ F .hp) :
    KeepsOut F a (execSbNozzleCheck w s) := by
  unfold execSbNozzleCheck
  simp (maxDischargeDepth := 60) +contextual [h, hF]

@[simp ↓] theorem execSbTelemetryPoll_keeps {w : Word} (h : Keeps F a s) (hF : F .regs ∧ F .log ∧ F .sent ∧ F .hp)
    :
    KeepsOut F a (execSbTelemetryPoll w s) := by
  unfold execSbTelemetryPoll
  simp (maxDischargeDepth := 60) +contextual [h, hF]

@[simp ↓] theorem execWaveCommit_keeps {path : Path} {w : Word} (h : Keeps F a s) (hF : F .regs ∧ F .hp) :
    KeepsOut F a (execWaveCommit path w s) := by
  unfold execWaveCommit
  simp (maxDischargeDepth := 60) [h, hF]

@[simp ↓] theorem execWaveValidationDone_keeps (h : Keeps F a s) (hF : F .regs ∧ F .hp) :
    KeepsOut F a (execWaveValidationDone s) := by
  unfold execWaveValidationDone
  dsimp only
  repeat' first
    | (simp (maxDischargeDepth := 60) +contextual [h, hF]; done)
    | split
    | (rename_i e; obtain rfl := congrArg Prod.snd e)

end Sys2Proof.Laws
end

