-- ==== Sys2Proof/Laws/KeepsLanes.lean ====
section
/-! SUPPORT. What the operations of Sys2Proof/Machine/Lanes.lean can change: one lemma each. -/

set_option linter.unusedTactic false
set_option linter.unreachableTactic false
set_option Elab.async false

namespace Sys2Proof.Laws

open Sys2Proof.Machine Sys2Proof.Safety

variable {F : Part → Prop} {a s : State}

@[simp ↓] theorem setLane_keeps {n : Nat} {st : Nat} (h : Keeps F a s) (hF : F .regs) :
    Keeps F a (s.setLane n st) := by
  unfold State.setLane
  simp (maxDischargeDepth := 60) [h, hF]

@[simp ↓] theorem onLane_keeps {n : Nat} {f : Lane → Lane} (h : Keeps F a s) (hF : F .ln) :
    Keeps F a (s.onLane n f) := by
  unfold State.onLane
  (repeat' split) <;> simp (maxDischargeDepth := 60) +contextual [h, hF]

@[simp ↓] theorem setMask_keeps {q : Nat} {m : Nat} (h : Keeps F a s) (hF : F .regs ∧ F .fab ∧ F .ln) :
    Keeps F a (s.setMask q m) := by
  unfold State.setMask
  simp (maxDischargeDepth := 60) [h, hF]

@[simp ↓] theorem setNarrow_keeps {q : Nat} {b : Bool} (h : Keeps F a s) (hF : F .fab ∧ F .ing) :
    Keeps F a (s.setNarrow q b) := by
  unfold State.setNarrow
  simp (maxDischargeDepth := 60) [h, hF]

@[simp ↓] theorem sendWidth_keeps {q : Nat} {m : Nat} (h : Keeps F a s) (hF : F .sent) :
    Keeps F a (s.sendWidth q m) := by
  unfold State.sendWidth
  simp (maxDischargeDepth := 60) [h, hF]

@[simp ↓] theorem onIng_keeps {f : Ingest → Ingest} (h : Keeps F a s) (hF : F .ing) (hf : (f s.ing).chans.length =
    s.ing.chans.length) :
    Keeps F a (s.onIng f) := keeps_ing h (by simpa using hF) hf

@[simp ↓] theorem ingPut_keeps {ty : Nat} {ch : Nat} {arg : Nat} {pay : List Byte} (h : Keeps F a s) (hF : F .sent
    ∧ F .ing) :
    Keeps F a (s.ingPut ty ch arg pay) := by
  unfold State.ingPut
  simp (maxDischargeDepth := 60) [h, hF]

@[simp ↓] theorem ingPump_keeps {y1 : Nat} (h : Keeps F a s) (hF : F .sent ∧ F .ing) :
    Keeps F a (s.ingPump y1) := by
  induction y1 generalizing s with
  | zero => exact h
  | succ n ih =>
    unfold State.ingPump
    split
    · exact h
    · exact keeps_ite h (ih (by simp (maxDischargeDepth := 60) [h, hF]))

@[simp ↓] theorem carry_keeps {q : Nat} (h : Keeps F a s) (hF : F .sent ∧ F .fab ∧ F .ing) :
    Keeps F a (s.carry q) := by
  unfold State.carry
  simp (maxDischargeDepth := 60) +contextual [h, hF]

@[simp ↓] theorem degrade_keeps {q : Nat} {old : Nat} {m : Nat} (h : Keeps F a s) (hF : F .regs) :
    Keeps F a (s.degrade q old m) := by
  unfold State.degrade
  simp (maxDischargeDepth := 60) [h, hF]

@[simp ↓] theorem widthTo_keeps {q : Nat} {m : Nat} (h : Keeps F a s) (hF : F .regs ∧ F .sent ∧ F .fab ∧ F .ln ∧ F
    .ing) :
    Keeps F a (s.widthTo q m) := by
  unfold State.widthTo
  simp (maxDischargeDepth := 60) [h, hF]

@[simp ↓] theorem maskCheck_keeps {q : Nat} (h : Keeps F a s) (hF : F .regs ∧ F .sent ∧ F .fab ∧ F .ln ∧ F .ing) :
    Keeps F a (s.maskCheck q) := by
  unfold State.maskCheck
  simp (maxDischargeDepth := 60) [h, hF]

@[simp ↓] theorem masksOut_keeps {q : Nat} {ls : List Nat} (h : Keeps F a s) (hF : F .regs ∧ F .tables ∧ F .mem ∧ F
    .freeCount ∧ F .log ∧ F .cores ∧ F .layers ∧ F .lpBytes ∧ F .units ∧ F .rows ∧ F .surveys ∧ F .ver ∧ F .gy ∧ F
    .recs ∧ F .blocks ∧ F .pins ∧ F .motion ∧ F .sent ∧ F .hp ∧ F .fab ∧ F .ln ∧ F .dram ∧ F .ing ∧ F .boot) :
    Keeps F a (s.masksOut q ls) := by
  unfold State.masksOut
  simp (maxDischargeDepth := 60) +contextual [h, hF]

@[simp ↓] theorem maskOut_keeps {n : Nat} (h : Keeps F a s) (hF : F .regs ∧ F .tables ∧ F .mem ∧ F .freeCount ∧ F
    .log ∧ F .cores ∧ F .layers ∧ F .lpBytes ∧ F .units ∧ F .rows ∧ F .surveys ∧ F .ver ∧ F .gy ∧ F .recs ∧ F
    .blocks ∧ F .pins ∧ F .motion ∧ F .sent ∧ F .hp ∧ F .fab ∧ F .ln ∧ F .dram ∧ F .ing ∧ F .boot) :
    Keeps F a (s.maskOut n) := by
  unfold State.maskOut
  simp (maxDischargeDepth := 60) [h, hF]

@[simp ↓] theorem fabTrained_keeps {p : Nat} (h : Keeps F a s) (hF : F .regs ∧ F .sent ∧ F .fab ∧ F .ln ∧ F .ing) :
    Keeps F a (s.fabTrained p) := by
  unfold State.fabTrained
  simp (maxDischargeDepth := 60) [h, hF]

@[simp ↓] theorem laneIdle_keeps {n : Nat} (h : Keeps F a s) (hF : F .sent) :
    Keeps F a (s.laneIdle n) := by
  unfold State.laneIdle
  simp (maxDischargeDepth := 60) [h, hF]

@[simp ↓] theorem formMgt_keeps (h : Keeps F a s) (hF : F .regs ∧ F .fab ∧ F .ln) :
    Keeps F a (s.formMgt) := by
  unfold State.formMgt
  simp (maxDischargeDepth := 60) [h, hF]

@[simp ↓] theorem laneTrained_keeps {n : Nat} (h : Keeps F a s) (hF : F .regs ∧ F .freeCount ∧ F .log ∧ F .sent ∧ F
    .hp ∧ F .fab ∧ F .ln ∧ F .ing) :
    Keeps F a (s.laneTrained n) := by
  unfold State.laneTrained
  simp (maxDischargeDepth := 60) [h, hF]

@[simp ↓] theorem sendTsAs_keeps {n : Nat} {two : Bool} (h : Keeps F a s) (hF : F .sent) :
    Keeps F a (s.sendTsAs n two) := by
  unfold State.sendTsAs
  simp (maxDischargeDepth := 60) [h, hF]

@[simp ↓] theorem sendTs_keeps {n : Nat} (h : Keeps F a s) (hF : F .sent) :
    Keeps F a (s.sendTs n) := by
  unfold State.sendTs
  simp (maxDischargeDepth := 60) [h, hF]

@[simp ↓] theorem enterTrain_keeps {n : Nat} (h : Keeps F a s) (hF : F .regs ∧ F .sent ∧ F .fab ∧ F .ln ∧ F .ing) :
    Keeps F a (s.enterTrain n) := by
  unfold State.enterTrain
  simp (maxDischargeDepth := 60) [h, hF]

@[simp ↓] theorem trainEnds_keeps {q : Nat} (h : Keeps F a s) (hF : F .regs ∧ F .freeCount ∧ F .sent ∧ F .hp ∧ F
    .fab ∧ F .ing) :
    Keeps F a (s.trainEnds q) := by
  unfold State.trainEnds
  simp (maxDischargeDepth := 60) [h, hF]

@[simp ↓] theorem laneFailed_keeps {n : Nat} {c : Nat} (h : Keeps F a s) (hF : F .regs ∧ F .freeCount ∧ F .log ∧ F
    .sent ∧ F .hp ∧ F .fab ∧ F .ln ∧ F .ing) :
    Keeps F a (s.laneFailed n c) := by
  unfold State.laneFailed
  simp (maxDischargeDepth := 60) [h, hF]

@[simp ↓] theorem stepFails_keeps {n : Nat} (h : Keeps F a s) (hF : F .regs ∧ F .freeCount ∧ F .log ∧ F .sent ∧ F
    .hp ∧ F .fab ∧ F .ln ∧ F .ing) :
    Keeps F a (s.stepFails n) := by
  unfold State.stepFails
  dsimp only
  repeat' first
    | (simp (maxDischargeDepth := 60) +contextual [h, hF]; done)
    | split
    | (rename_i e; obtain rfl := congrArg Prod.snd e)

@[simp ↓] theorem energyIn_keeps {q : Nat} (h : Keeps F a s) (hF : F .ln) :
    Keeps F a (s.energyIn q) := by
  unfold State.energyIn
  simp (maxDischargeDepth := 60) [h, hF]

@[simp ↓] theorem execLaneEnergyDetect_keeps {n : Fin 41} (h : Keeps F a s) (hF : F .regs ∧ F .sent ∧ F .fab ∧ F
    .ln ∧ F .ing) :
    KeepsOut F a (execLaneEnergyDetect n s) := by
  unfold execLaneEnergyDetect
  simp (maxDischargeDepth := 60) [h, hF]

@[simp ↓] theorem execLaneEnergyLoss_keeps {n : Fin 41} (h : Keeps F a s) (hF : F .regs ∧ F .freeCount ∧ F .sent ∧
    F .hp ∧ F .fab ∧ F .ing) :
    KeepsOut F a (execLaneEnergyLoss n s) := by
  unfold execLaneEnergyLoss
  simp (maxDischargeDepth := 60) [h, hF]

@[simp ↓] theorem execTsSetReceive_keeps {n : Fin 40} {ts : List Byte} {inverted : Bool} {skew : Nat} (h : Keeps F
    a s) (hF : F .regs ∧ F .freeCount ∧ F .log ∧ F .sent ∧ F .hp ∧ F .fab ∧ F .ln ∧ F .ing) :
    KeepsOut F a (execTsSetReceive n ts inverted skew s) := by
  unfold execTsSetReceive
  simp (maxDischargeDepth := 60) [h, hF]

@[simp ↓] theorem execTrainStepTimeout_keeps {n : Fin 41} (h : Keeps F a s) (hF : F .regs ∧ F .freeCount ∧ F .log ∧
    F .sent ∧ F .hp ∧ F .fab ∧ F .ln ∧ F .ing) :
    KeepsOut F a (execTrainStepTimeout n s) := by
  unfold execTrainStepTimeout
  simp (maxDischargeDepth := 60) [h, hF]

@[simp ↓] theorem execTrainDwellDone_keeps {n : Fin 41} (h : Keeps F a s) (hF : F .regs ∧ F .freeCount ∧ F .log ∧ F
    .sent ∧ F .hp ∧ F .fab ∧ F .ln ∧ F .ing) :
    KeepsOut F a (execTrainDwellDone n s) := by
  unfold execTrainDwellDone
  simp (maxDischargeDepth := 60) [h, hF]

@[simp ↓] theorem lanesDepart_keeps {q : Nat} {ls : List Nat} (h : Keeps F a s) (hF : F .regs ∧ F .tables ∧ F .mem
    ∧ F .freeCount ∧ F .log ∧ F .cores ∧ F .layers ∧ F .lpBytes ∧ F .units ∧ F .rows ∧ F .surveys ∧ F .ver ∧ F .gy
    ∧ F .recs ∧ F .blocks ∧ F .pins ∧ F .motion ∧ F .sent ∧ F .hp ∧ F .fab ∧ F .ln ∧ F .dram ∧ F .ing ∧ F .boot) :
    Keeps F a (s.lanesDepart q ls) := by
  unfold State.lanesDepart
  simp (maxDischargeDepth := 60) +contextual [h, hF]

@[simp ↓] theorem execErroredCharacter_keeps {n : Fin 41} (h : Keeps F a s) (hF : F .regs ∧ F .freeCount ∧ F .log ∧
    F .sent ∧ F .hp ∧ F .fab ∧ F .ln ∧ F .ing) :
    KeepsOut F a (execErroredCharacter n s) := by
  unfold execErroredCharacter
  simp (maxDischargeDepth := 60) [h, hF]

@[simp ↓] theorem execLaneErrorLimit_keeps {n : Fin 41} {also : Byte} (h : Keeps F a s) (hF : F .regs ∧ F .tables ∧
    F .mem ∧ F .freeCount ∧ F .log ∧ F .cores ∧ F .layers ∧ F .lpBytes ∧ F .units ∧ F .rows ∧ F .surveys ∧ F .ver ∧
    F .gy ∧ F .recs ∧ F .blocks ∧ F .pins ∧ F .motion ∧ F .sent ∧ F .hp ∧ F .fab ∧ F .ln ∧ F .dram ∧ F .ing ∧ F
    .boot) :
    KeepsOut F a (execLaneErrorLimit n also s) := by
  unfold execLaneErrorLimit
  simp (maxDischargeDepth := 60) [h, hF]

@[simp ↓] theorem execCdrLockLoss_keeps {n : Fin 41} (h : Keeps F a s) (hF : F .regs ∧ F .tables ∧ F .mem ∧ F
    .freeCount ∧ F .log ∧ F .cores ∧ F .layers ∧ F .lpBytes ∧ F .units ∧ F .rows ∧ F .surveys ∧ F .ver ∧ F .gy ∧ F
    .recs ∧ F .blocks ∧ F .pins ∧ F .motion ∧ F .sent ∧ F .hp ∧ F .fab ∧ F .ln ∧ F .dram ∧ F .ing ∧ F .boot) :
    KeepsOut F a (execCdrLockLoss n s) := by
  unfold execCdrLockLoss
  simp (maxDischargeDepth := 60) [h, hF]

@[simp ↓] theorem execLaneRetryTimer_keeps {n : Fin 41} (h : Keeps F a s) (hF : F .regs ∧ F .sent ∧ F .fab ∧ F .ln
    ∧ F .ing) :
    KeepsOut F a (execLaneRetryTimer n s) := by
  unfold execLaneRetryTimer
  simp (maxDischargeDepth := 60) [h, hF]

@[simp ↓] theorem execStandbyProofDone_keeps {n : Fin 41} (h : Keeps F a s) (hF : F .hp ∧ F .ln) :
    KeepsOut F a (execStandbyProofDone n s) := by
  unfold execStandbyProofDone
  simp (maxDischargeDepth := 60) [h, hF]

@[simp ↓] theorem laneAdmit_keeps {n : Nat} (h : Keeps F a s) (hF : F .regs ∧ F .sent ∧ F .hp ∧ F .fab ∧ F .ln ∧ F
    .ing) :
    Keeps F a (s.laneAdmit n) := by
  unfold State.laneAdmit
  simp (maxDischargeDepth := 60) [h, hF]

@[simp ↓] theorem execLaneAdmit_keeps {n : Fin 41} (h : Keeps F a s) (hF : F .regs ∧ F .sent ∧ F .hp ∧ F .fab ∧ F
    .ln ∧ F .ing) :
    KeepsOut F a (execLaneAdmit n s) := by
  unfold execLaneAdmit
  simp (maxDischargeDepth := 60) [h, hF]

@[simp ↓] theorem execLaneRetrain_keeps {path : Path} {n : Fin 41} (h : Keeps F a s) (hF : F .regs ∧ F .tables ∧ F
    .mem ∧ F .freeCount ∧ F .log ∧ F .cores ∧ F .layers ∧ F .lpBytes ∧ F .units ∧ F .rows ∧ F .surveys ∧ F .ver ∧ F
    .gy ∧ F .recs ∧ F .blocks ∧ F .pins ∧ F .motion ∧ F .sent ∧ F .hp ∧ F .fab ∧ F .ln ∧ F .dram ∧ F .ing ∧ F
    .boot) :
    KeepsOut F a (execLaneRetrain path n s) := by
  unfold execLaneRetrain
  simp (maxDischargeDepth := 60) [h, hF]

@[simp ↓] theorem execLaneOut_keeps {path : Path} {n : Fin 41} (h : Keeps F a s) (hF : F .regs ∧ F .tables ∧ F .mem
    ∧ F .freeCount ∧ F .log ∧ F .cores ∧ F .layers ∧ F .lpBytes ∧ F .units ∧ F .rows ∧ F .surveys ∧ F .ver ∧ F .gy
    ∧ F .recs ∧ F .blocks ∧ F .pins ∧ F .motion ∧ F .sent ∧ F .hp ∧ F .fab ∧ F .ln ∧ F .dram ∧ F .ing ∧ F .boot) :
    KeepsOut F a (execLaneOut path n s) := by
  unfold execLaneOut
  simp (maxDischargeDepth := 60) [h, hF]

@[simp ↓] theorem unpark_keeps {q : Nat} (h : Keeps F a s) (hF : F .regs ∧ F .log ∧ F .sent ∧ F .hp ∧ F .fab ∧ F
    .ing) :
    Keeps F a (s.unpark q) := by
  unfold State.unpark
  simp (maxDischargeDepth := 60) [h, hF]

@[simp ↓] theorem endReq_keeps {q : Nat} (h : Keeps F a s) (hF : F .regs ∧ F .log ∧ F .sent ∧ F .hp ∧ F .fab ∧ F
    .ln ∧ F .ing) :
    Keeps F a (s.endReq q) := by
  unfold State.endReq
  simp (maxDischargeDepth := 60) [h, hF]

@[simp ↓] theorem askPwr_keeps {q : Nat} {kind : Nat} {alone : Bool} (h : Keeps F a s) (hF : F .regs ∧ F .sent ∧ F
    .hp ∧ F .fab ∧ F .ln ∧ F .ing) :
    Keeps F a (s.askPwr q kind alone) := by
  unfold State.askPwr
  simp (maxDischargeDepth := 60) +contextual [h, hF]

@[simp ↓] theorem execFabLwidth_keeps {p : Fin 5} {m : Byte} (h : Keeps F a s) (hF : F .regs ∧ F .sent ∧ F .fab ∧ F
    .ln ∧ F .ing) :
    KeepsOut F a (execFabLwidth p m s) := by
  unfold execFabLwidth
  simp (maxDischargeDepth := 60) [h, hF]

@[simp ↓] theorem resumeTrain_keeps {q : Nat} (h : Keeps F a s) (hF : F .regs ∧ F .sent ∧ F .fab ∧ F .ln ∧ F .ing)
    :
    Keeps F a (s.resumeTrain q) := by
  unfold State.resumeTrain
  simp (maxDischargeDepth := 60) +contextual [h, hF]

@[simp ↓] theorem portAwake_keeps {q : Nat} (h : Keeps F a s) (hF : F .regs ∧ F .freeCount ∧ F .log ∧ F .sent ∧ F
    .hp ∧ F .fab ∧ F .ln ∧ F .ing) :
    Keeps F a (s.portAwake q) := by
  unfold State.portAwake
  simp (maxDischargeDepth := 60) [h, hF]

@[simp ↓] theorem wakePort_keeps {q : Nat} {ask : Bool} (h : Keeps F a s) (hF : F .regs ∧ F .freeCount ∧ F .log ∧ F
    .sent ∧ F .hp ∧ F .fab ∧ F .ln ∧ F .ing) :
    Keeps F a (s.wakePort q ask) := by
  unfold State.wakePort
  simp (maxDischargeDepth := 60) +contextual [h, hF]

@[simp ↓] theorem enterPwr_keeps {q : Nat} {kind : Nat} (h : Keeps F a s) (hF : F .regs ∧ F .freeCount ∧ F .log ∧ F
    .sent ∧ F .hp ∧ F .fab ∧ F .ln ∧ F .ing) :
    Keeps F a (s.enterPwr q kind) := by
  unfold State.enterPwr
  simp (maxDischargeDepth := 60) +contextual [h, hF]

@[simp ↓] theorem cmdPwr_keeps {path : Path} {n : Nat} {kind : Nat} (h : Keeps F a s) (hF : F .regs ∧ F .sent ∧ F
    .hp ∧ F .fab ∧ F .ln ∧ F .ing) :
    Keeps F a (s.cmdPwr path n kind) := by
  unfold State.cmdPwr
  simp (maxDischargeDepth := 60) [h, hF]

@[simp ↓] theorem lackFab_keeps {p : Nat} {lseq : Nat} {nak : Bool} (h : Keeps F a s) (hF : F .regs ∧ F .sent ∧ F
    .fab ∧ F .ln ∧ F .ing) :
    Keeps F a (s.lackFab p lseq nak) := by
  unfold State.lackFab
  simp (maxDischargeDepth := 60) [h, hF]

@[simp ↓] theorem execLanePwrLs_keeps {path : Path} {n : Fin 41} (h : Keeps F a s) (hF : F .regs ∧ F .sent ∧ F .hp
    ∧ F .fab ∧ F .ln ∧ F .ing) :
    KeepsOut F a (execLanePwrLs path n s) := by
  unfold execLanePwrLs
  simp (maxDischargeDepth := 60) [h, hF]

@[simp ↓] theorem execLanePwrLd_keeps {path : Path} {n : Fin 41} (h : Keeps F a s) (hF : F .regs ∧ F .sent ∧ F .hp
    ∧ F .fab ∧ F .ln ∧ F .ing) :
    KeepsOut F a (execLanePwrLd path n s) := by
  unfold execLanePwrLd
  simp (maxDischargeDepth := 60) [h, hF]

@[simp ↓] theorem execLanePwrExit_keeps {n : Fin 41} (h : Keeps F a s) (hF : F .regs ∧ F .freeCount ∧ F .log ∧ F
    .sent ∧ F .hp ∧ F .fab ∧ F .ln ∧ F .ing) :
    KeepsOut F a (execLanePwrExit n s) := by
  unfold execLanePwrExit
  simp (maxDischargeDepth := 60) [h, hF]

@[simp ↓] theorem eiIn_keeps {q : Nat} {kind : Nat} (h : Keeps F a s) (hF : F .regs ∧ F .freeCount ∧ F .log ∧ F
    .sent ∧ F .hp ∧ F .fab ∧ F .ln ∧ F .ing) :
    Keeps F a (s.eiIn q kind) := by
  unfold State.eiIn
  (repeat' split) <;> simp (maxDischargeDepth := 60) +contextual [h, hF]

@[simp ↓] theorem execEiLsReceive_keeps {q : Fin 11} (h : Keeps F a s) (hF : F .regs ∧ F .freeCount ∧ F .log ∧ F
    .sent ∧ F .hp ∧ F .fab ∧ F .ln ∧ F .ing) :
    KeepsOut F a (execEiLsReceive q s) := by
  unfold execEiLsReceive
  simp (maxDischargeDepth := 60) [h, hF]

@[simp ↓] theorem execEiLdReceive_keeps {q : Fin 11} (h : Keeps F a s) (hF : F .regs ∧ F .freeCount ∧ F .log ∧ F
    .sent ∧ F .hp ∧ F .fab ∧ F .ln ∧ F .ing) :
    KeepsOut F a (execEiLdReceive q s) := by
  unfold execEiLdReceive
  simp (maxDischargeDepth := 60) [h, hF]

@[simp ↓] theorem execPwrHandshakeTimeout_keeps {q : Fin 11} (h : Keeps F a s) (hF : F .regs ∧ F .freeCount ∧ F
    .log ∧ F .sent ∧ F .hp ∧ F .fab ∧ F .ln ∧ F .ing) :
    KeepsOut F a (execPwrHandshakeTimeout q s) := by
  unfold execPwrHandshakeTimeout
  (repeat' split) <;> simp (maxDischargeDepth := 60) +contextual [h, hF]

@[simp ↓] theorem execLdExitLock_keeps {n : Fin 41} (h : Keeps F a s) (hF : F .regs ∧ F .freeCount ∧ F .log ∧ F
    .sent ∧ F .hp ∧ F .fab ∧ F .ln ∧ F .ing) :
    KeepsOut F a (execLdExitLock n s) := by
  unfold execLdExitLock
  simp (maxDischargeDepth := 60) [h, hF]

@[simp ↓] theorem execLdExitTimeout_keeps {n : Fin 41} (h : Keeps F a s) (hF : F .regs ∧ F .tables ∧ F .mem ∧ F
    .freeCount ∧ F .log ∧ F .cores ∧ F .layers ∧ F .lpBytes ∧ F .units ∧ F .rows ∧ F .surveys ∧ F .ver ∧ F .gy ∧ F
    .recs ∧ F .blocks ∧ F .pins ∧ F .motion ∧ F .sent ∧ F .hp ∧ F .fab ∧ F .ln ∧ F .dram ∧ F .ing ∧ F .boot) :
    KeepsOut F a (execLdExitTimeout n s) := by
  unfold execLdExitTimeout
  simp (maxDischargeDepth := 60) [h, hF]

@[simp ↓] theorem execStrapChange_keeps {v : Fin 16} (h : Keeps F a s) (hF : F .regs) :
    KeepsOut F a (execStrapChange v s) := by
  unfold execStrapChange
  simp (maxDischargeDepth := 60) [h, hF]

end Sys2Proof.Laws
end

