-- ==== Sys2Proof/Laws/KeepsIngest.lean ====
section
/-! SUPPORT. What the operations of Sys2Proof/Machine/Ingest.lean can change: one lemma each. -/

set_option linter.unusedTactic false
set_option linter.unreachableTactic false
set_option Elab.async false

namespace Sys2Proof.Laws

open Sys2Proof.Machine Sys2Proof.Safety

variable {F : Part → Prop} {a s : State}

@[simp ↓] theorem fabViolation_keeps {n : Nat} {cls : Nat} {y3 : Nat} {wr : Bool} (h : Keeps F a s) (hF : F .regs ∧
    F .log ∧ F .sent ∧ F .fab) :
    Keeps F a (s.fabViolation n cls y3 wr) := by
  unfold State.fabViolation
  simp (maxDischargeDepth := 60) [h, hF]

@[simp ↓] theorem onChan_keeps {c : Nat} {f : Channel → Channel} (h : Keeps F a s) (hF : F .ing) :
    Keeps F a (s.onChan c f) := by
  unfold State.onChan
  (repeat' split) <;> simp (maxDischargeDepth := 60) +contextual [h, hF]

@[simp ↓] theorem setCh_keeps {c : Nat} {st : Nat} (h : Keeps F a s) (hF : F .regs) :
    Keeps F a (s.setCh c st) := by
  unfold State.setCh
  simp (maxDischargeDepth := 60) [h, hF]

@[simp ↓] theorem showRun_keeps (h : Keeps F a s) (hF : F .regs) :
    Keeps F a (s.showRun) := by
  unfold State.showRun
  (repeat' split) <;> simp (maxDischargeDepth := 60) +contextual [h, hF]

@[simp ↓] theorem ingSend_keeps {ty : Nat} {ch : Nat} {arg : Nat} {pay : List Byte} (h : Keeps F a s) (hF : F .sent
    ∧ F .ing) :
    Keeps F a (s.ingSend ty ch arg pay) := by
  unfold State.ingSend
  simp (maxDischargeDepth := 60) [h, hF]

@[simp ↓] theorem recPump_keeps {y1 : Nat} (h : Keeps F a s) (hF : F .sent ∧ F .ing) :
    Keeps F a (s.recPump y1) := by
  induction y1 generalizing s <;> unfold State.recPump <;> try dsimp only
  all_goals repeat' first
    | (simp (maxDischargeDepth := 60) +contextual [*]; done)
    | split
    | (rename_i e; obtain rfl := congrArg Prod.snd e)

@[simp ↓] theorem recData_keeps {st : Nat} {node : Nat} {ofs : Nat} {len : Nat} {data : List Byte} (h : Keeps F a
    s) (hF : F .sent ∧ F .ing) :
    Keeps F a (s.recData st node ofs len data) := by
  unfold State.recData
  simp (maxDischargeDepth := 60) [h, hF]

@[simp ↓] theorem chEvent_keeps {c : Nat} {kind : Nat} {addr : Nat} {bytes : Nat} {crc : Nat} (h : Keeps F a s) (hF
    : F .sent ∧ F .ing) :
    Keeps F a (s.chEvent c kind addr bytes crc) := by
  unfold State.chEvent
  simp (maxDischargeDepth := 60) [h, hF]

@[simp ↓] theorem ingCredit_keeps {k : Nat} (h : Keeps F a s) (hF : F .sent) :
    Keeps F a (s.ingCredit k) := by
  unfold State.ingCredit
  simp (maxDischargeDepth := 60) [h, hF]

@[simp ↓] theorem grantData_keeps {c : Nat} (h : Keeps F a s) (hF : F .sent ∧ F .ing) :
    Keeps F a (s.grantData c) := by
  unfold State.grantData
  simp (maxDischargeDepth := 60) [h, hF]

@[simp ↓] theorem grantAll_keeps (h : Keeps F a s) (hF : F .sent ∧ F .ing) :
    Keeps F a (s.grantAll) := by
  unfold State.grantAll
  simp (maxDischargeDepth := 60) +contextual [h, hF]

@[simp ↓] theorem grantControl_keeps (h : Keeps F a s) (hF : F .sent ∧ F .ing) :
    Keeps F a (s.grantControl) := by
  unfold State.grantControl
  simp (maxDischargeDepth := 60) [h, hF]

@[simp ↓] theorem entryGrants_keeps (h : Keeps F a s) (hF : F .sent ∧ F .ing) :
    Keeps F a (s.entryGrants) := by
  unfold State.entryGrants
  simp (maxDischargeDepth := 60) [h, hF]

@[simp ↓] theorem takeMcAck_keeps {f : FabFrame} (h : Keeps F a s) (hF : F .sent ∧ F .fab ∧ F .ing) :
    Keeps F a (s.takeMcAck f) := by
  unfold State.takeMcAck
  simp (maxDischargeDepth := 60) [h, hF]

@[simp ↓] theorem execMcAckFrame_keeps {p : Fin 5} {fr : List Byte} (h : Keeps F a s) (hF : F .regs ∧ F .log ∧ F
    .sent ∧ F .fab ∧ F .ing) :
    KeepsOut F a (execMcAckFrame p fr s) := by
  unfold execMcAckFrame
  simp (maxDischargeDepth := 60) +contextual [h, hF]

@[simp ↓] theorem ingLack_keeps {nak : Bool} (h : Keeps F a s) (hF : F .sent) :
    Keeps F a (s.ingLack nak) := by
  unfold State.ingLack
  simp (maxDischargeDepth := 60) [h, hF]

@[simp ↓] theorem ingRx_keeps {fr : List Byte} {k : State → State} (h : Keeps F a s) (hF : F .regs ∧ F .log ∧ F
    .sent ∧ F .ing) (hf : ∀ t, Keeps F a t → Keeps F a (k t)) :
    Keeps F a (s.ingRx fr k) := by
  unfold State.ingRx
  simp (maxDischargeDepth := 60) [h, hF, hf]

@[simp ↓] theorem retrainIng_keeps (h : Keeps F a s) (hF : F .regs ∧ F .tables ∧ F .mem ∧ F .freeCount ∧ F .log ∧ F
    .cores ∧ F .layers ∧ F .lpBytes ∧ F .units ∧ F .rows ∧ F .surveys ∧ F .ver ∧ F .gy ∧ F .recs ∧ F .blocks ∧ F
    .pins ∧ F .motion ∧ F .sent ∧ F .hp ∧ F .fab ∧ F .ln ∧ F .dram ∧ F .ing ∧ F .boot) :
    Keeps F a (s.retrainIng) := by
  unfold State.retrainIng
  simp (maxDischargeDepth := 60) +contextual [h, hF]

@[simp ↓] theorem ingResend_keeps (h : Keeps F a s) (hF : F .regs ∧ F .tables ∧ F .mem ∧ F .freeCount ∧ F .log ∧ F
    .cores ∧ F .layers ∧ F .lpBytes ∧ F .units ∧ F .rows ∧ F .surveys ∧ F .ver ∧ F .gy ∧ F .recs ∧ F .blocks ∧ F
    .pins ∧ F .motion ∧ F .sent ∧ F .hp ∧ F .fab ∧ F .ln ∧ F .dram ∧ F .ing ∧ F .boot) :
    Keeps F a (s.ingResend) := by
  unfold State.ingResend
  simp (maxDischargeDepth := 60) +contextual [h, hF]

@[simp ↓] theorem execCreditSet_keeps {p : Fin 5} {c : Byte} {total : BitVec 16} (h : Keeps F a s) (hF : F .sent ∧
    F .fab ∧ F .ing) :
    KeepsOut F a (execCreditSet p c total s) := by
  unfold execCreditSet
  simp (maxDischargeDepth := 60) [h, hF]

@[simp ↓] theorem execLackSet_keeps {p : Fin 5} {lseq : BitVec 16} {nak : Bool} (h : Keeps F a s) (hF : F .regs ∧ F
    .tables ∧ F .mem ∧ F .freeCount ∧ F .log ∧ F .cores ∧ F .layers ∧ F .lpBytes ∧ F .units ∧ F .rows ∧ F .surveys
    ∧ F .ver ∧ F .gy ∧ F .recs ∧ F .blocks ∧ F .pins ∧ F .motion ∧ F .sent ∧ F .hp ∧ F .fab ∧ F .ln ∧ F .dram ∧ F
    .ing ∧ F .boot) :
    KeepsOut F a (execLackSet p lseq nak s) := by
  unfold execLackSet
  simp (maxDischargeDepth := 60) [h, hF]

@[simp ↓] theorem execLinkResendTimeout_keeps {p : Fin 5} (h : Keeps F a s) (hF : F .regs ∧ F .tables ∧ F .mem ∧ F
    .freeCount ∧ F .log ∧ F .cores ∧ F .layers ∧ F .lpBytes ∧ F .units ∧ F .rows ∧ F .surveys ∧ F .ver ∧ F .gy ∧ F
    .recs ∧ F .blocks ∧ F .pins ∧ F .motion ∧ F .sent ∧ F .hp ∧ F .fab ∧ F .ln ∧ F .dram ∧ F .ing ∧ F .boot) :
    KeepsOut F a (execLinkResendTimeout p s) := by
  unfold execLinkResendTimeout
  simp (maxDischargeDepth := 60) [h, hF]

@[simp ↓] theorem execLinkSilenceTimeout_keeps {p : Fin 5} (h : Keeps F a s) (hF : F .regs ∧ F .tables ∧ F .mem ∧ F
    .freeCount ∧ F .log ∧ F .cores ∧ F .layers ∧ F .lpBytes ∧ F .units ∧ F .rows ∧ F .surveys ∧ F .ver ∧ F .gy ∧ F
    .recs ∧ F .blocks ∧ F .pins ∧ F .motion ∧ F .sent ∧ F .hp ∧ F .fab ∧ F .ln ∧ F .dram ∧ F .ing ∧ F .boot) :
    KeepsOut F a (execLinkSilenceTimeout p s) := by
  unfold execLinkSilenceTimeout
  simp (maxDischargeDepth := 60) +contextual [h, hF]

@[simp ↓] theorem execLinkKeepalive_keeps {p : Fin 5} (h : Keeps F a s) (hF : F .sent ∧ F .ing) :
    KeepsOut F a (execLinkKeepalive p s) := by
  unfold execLinkKeepalive
  simp (maxDischargeDepth := 60) +contextual [h, hF]

@[simp ↓] theorem chHalt_keeps {c : Nat} {cause : Nat} {addr : Nat} {wr : Bool} (h : Keeps F a s) (hF : F .regs ∧ F
    .log ∧ F .sent ∧ F .ing) :
    Keeps F a (s.chHalt c cause addr wr) := by
  unfold State.chHalt
  simp (maxDischargeDepth := 60) [h, hF]

@[simp ↓] theorem chPend_keeps {c : Nat} {addr : Nat} (h : Keeps F a s) (hF : F .regs ∧ F .ing) :
    Keeps F a (s.chPend c addr) := by
  unfold State.chPend
  simp (maxDischargeDepth := 60) [h, hF]

@[simp ↓] theorem chReread_keeps {c : Nat} (h : Keeps F a s) (hF : F .regs ∧ F .mem ∧ F .freeCount ∧ F .log ∧ F
    .sent ∧ F .dram ∧ F .ing) :
    Keeps F a (s.chReread c) := by
  unfold State.chReread
  simp (maxDischargeDepth := 60) +contextual [h, hF]

@[simp ↓] theorem chDoorbell_keeps {c : Nat} (h : Keeps F a s) (hF : F .regs ∧ F .mem ∧ F .freeCount ∧ F .log ∧ F
    .sent ∧ F .dram ∧ F .ing) :
    Keeps F a (s.chDoorbell c) := by
  unfold State.chDoorbell
  (repeat' split) <;> simp (maxDischargeDepth := 60) +contextual [h, hF]

@[simp ↓] theorem chRefuse_keeps {path : Option Path} {c : Nat} (h : Keeps F a s) (hF : F .regs) :
    Keeps F a (s.chRefuse path c) := by
  unfold State.chRefuse
  simp (maxDischargeDepth := 60) [h, hF]

@[simp ↓] theorem chStart_keeps {path : Option Path} {c : Nat} {y3 : Nat} (h : Keeps F a s) (hF : F .regs ∧ F .log
    ∧ F .sent ∧ F .ing) :
    Keeps F a (s.chStart path c y3) := by
  unfold State.chStart
  simp (maxDischargeDepth := 60) [h, hF]

@[simp ↓] theorem unfreeze_keeps {i : Nat} (h : Keeps F a s) (hF : F .regs ∧ F .sent ∧ F .ing) :
    Keeps F a (s.unfreeze i) := by
  unfold State.unfreeze
  simp (maxDischargeDepth := 60) [h, hF]

@[simp ↓] theorem chRestart_keeps {path : Option Path} {c : Nat} (h : Keeps F a s) (hF : F .regs ∧ F .sent ∧ F
    .ing) :
    Keeps F a (s.chRestart path c) := by
  unfold State.chRestart
  simp (maxDischargeDepth := 60) [h, hF]

@[simp ↓] theorem busErr_keeps {c : Nat} {wr : Bool} {addr : Nat} (h : Keeps F a s) (hF : F .regs ∧ F .log ∧ F
    .sent ∧ F .ing) :
    Keeps F a (s.busErr c wr addr) := by
  unfold State.busErr
  simp (maxDischargeDepth := 60) [h, hF]

@[simp ↓] theorem chAbort_keeps {path : Option Path} {c : Nat} (h : Keeps F a s) (hF : F .regs ∧ F .log ∧ F .sent ∧
    F .ing) :
    Keeps F a (s.chAbort path c) := by
  unfold State.chAbort
  dsimp only
  repeat' first
    | (simp (maxDischargeDepth := 60) +contextual [h, hF]; done)
    | split
    | (rename_i e; obtain rfl := congrArg Prod.snd e)

@[simp ↓] theorem chRun_keeps (h : Keeps F a s) (hF : F .regs ∧ F .ing) :
    Keeps F a (s.chRun) := by
  unfold State.chRun
  (repeat' split) <;> simp (maxDischargeDepth := 60) +contextual [h, hF]

@[simp ↓] theorem descFetch_keeps (h : Keeps F a s) (hF : F .regs ∧ F .tables ∧ F .mem ∧ F .freeCount ∧ F .log ∧ F
    .cores ∧ F .layers ∧ F .lpBytes ∧ F .units ∧ F .rows ∧ F .surveys ∧ F .ver ∧ F .gy ∧ F .recs ∧ F .blocks ∧ F
    .pins ∧ F .motion ∧ F .sent ∧ F .hp ∧ F .fab ∧ F .dram ∧ F .ing ∧ F .boot ∧ F .pw) :
    Keeps F a (s.descFetch) := by
  unfold State.descFetch
  dsimp only
  repeat' first
    | (simp (maxDischargeDepth := 60) +contextual [h, hF]; done)
    | split
    | (rename_i e; obtain rfl := congrArg Prod.snd e)

@[simp ↓] theorem descComplete_keeps (h : Keeps F a s) (hF : F .regs ∧ F .mem ∧ F .freeCount ∧ F .log ∧ F .sent ∧ F
    .dram ∧ F .ing) :
    Keeps F a (s.descComplete) := by
  unfold State.descComplete
  (repeat' split) <;> simp (maxDischargeDepth := 60) +contextual [h, hF]

@[simp ↓] theorem takeData_keeps {src : Option Nat} {fr : List Byte} (h : Keeps F a s) (hF : F .regs ∧ F .mem ∧ F
    .log ∧ F .sent ∧ F .fab ∧ F .dram ∧ F .ing) :
    Keeps F a (s.takeData src fr) := by
  unfold State.takeData
  dsimp only
  repeat' first
    | (simp (maxDischargeDepth := 60) +contextual [h, hF]; done)
    | split
    | (rename_i e; obtain rfl := congrArg Prod.snd e)

@[simp ↓] theorem takeDescWr_keeps {src : Option Nat} {fr : List Byte} (h : Keeps F a s) (hF : F .regs ∧ F .mem ∧ F
    .log ∧ F .sent ∧ F .fab ∧ F .dram) :
    Keeps F a (s.takeDescWr src fr) := by
  unfold State.takeDescWr
  simp (maxDischargeDepth := 60) [h, hF]

@[simp ↓] theorem takeChCmd_keeps {fr : List Byte} (h : Keeps F a s) (hF : F .regs ∧ F .tables ∧ F .mem ∧ F
    .freeCount ∧ F .log ∧ F .cores ∧ F .layers ∧ F .lpBytes ∧ F .units ∧ F .rows ∧ F .surveys ∧ F .parser ∧ F .ver
    ∧ F .gy ∧ F .recs ∧ F .blocks ∧ F .shown ∧ F .pins ∧ F .motion ∧ F .sent ∧ F .hp ∧ F .dram ∧ F .ing ∧ F .boot)
    :
    Keeps F a (s.takeChCmd fr) := by
  unfold State.takeChCmd
  (repeat' split) <;> simp (maxDischargeDepth := 60) +contextual [h, hF]

@[simp ↓] theorem takeIngest_keeps {src : Option Nat} {fr : List Byte} (h : Keeps F a s) (hF : F .regs ∧ F .tables
    ∧ F .mem ∧ F .freeCount ∧ F .log ∧ F .cores ∧ F .layers ∧ F .lpBytes ∧ F .units ∧ F .rows ∧ F .surveys ∧ F
    .parser ∧ F .ver ∧ F .gy ∧ F .recs ∧ F .blocks ∧ F .shown ∧ F .pins ∧ F .motion ∧ F .sent ∧ F .hp ∧ F .fab ∧ F
    .dram ∧ F .ing ∧ F .boot) :
    Keeps F a (s.takeIngest src fr) := by
  unfold State.takeIngest
  (repeat' split) <;> simp (maxDischargeDepth := 60) +contextual [h, hF]

@[simp ↓] theorem ingForward_keeps {fr : List Byte} (h : Keeps F a s) (hF : F .regs ∧ F .mem ∧ F .log ∧ F .sent ∧ F
    .fab ∧ F .dram) :
    Keeps F a (s.ingForward fr) := by
  unfold State.ingForward
  simp (maxDischargeDepth := 60) [h, hF]

@[simp ↓] theorem drainHeld_keeps {y1 : Nat} (h : Keeps F a s) (hF : F .regs ∧ F .tables ∧ F .mem ∧ F .freeCount ∧
    F .log ∧ F .cores ∧ F .layers ∧ F .lpBytes ∧ F .units ∧ F .rows ∧ F .surveys ∧ F .parser ∧ F .ver ∧ F .gy ∧ F
    .recs ∧ F .blocks ∧ F .shown ∧ F .pins ∧ F .motion ∧ F .sent ∧ F .hp ∧ F .fab ∧ F .dram ∧ F .ing ∧ F .boot) :
    Keeps F a (s.drainHeld y1) := by
  induction y1 generalizing s <;> unfold State.drainHeld <;> try dsimp only
  all_goals repeat' first
    | (simp (maxDischargeDepth := 60) +contextual [*]; done)
    | split
    | (rename_i e; obtain rfl := congrArg Prod.snd e)

@[simp ↓] theorem chSettle_keeps (h : Keeps F a s) (hF : F .regs ∧ F .tables ∧ F .mem ∧ F .freeCount ∧ F .log ∧ F
    .cores ∧ F .layers ∧ F .lpBytes ∧ F .units ∧ F .rows ∧ F .surveys ∧ F .parser ∧ F .ver ∧ F .gy ∧ F .recs ∧ F
    .blocks ∧ F .shown ∧ F .pins ∧ F .motion ∧ F .sent ∧ F .hp ∧ F .fab ∧ F .dram ∧ F .ing ∧ F .boot) :
    Keeps F a (s.chSettle) := by
  unfold State.chSettle
  simp (maxDischargeDepth := 60) [h, hF]

@[simp ↓] theorem takeIng_keeps {p : Nat} {f : FabFrame} (h : Keeps F a s) (hF : F .regs ∧ F .tables ∧ F .mem ∧ F
    .freeCount ∧ F .log ∧ F .cores ∧ F .layers ∧ F .lpBytes ∧ F .units ∧ F .rows ∧ F .surveys ∧ F .parser ∧ F .ver
    ∧ F .gy ∧ F .recs ∧ F .blocks ∧ F .shown ∧ F .pins ∧ F .motion ∧ F .sent ∧ F .hp ∧ F .fab ∧ F .dram ∧ F .ing ∧
    F .boot) :
    Keeps F a (State.takeIng p s f) := by
  unfold State.takeIng
  simp (maxDischargeDepth := 60) [h, hF]

@[simp ↓] theorem execIngFrame_keeps {p : Fin 5} {fr : List Byte} (h : Keeps F a s) (hF : F .regs ∧ F .tables ∧ F
    .mem ∧ F .freeCount ∧ F .log ∧ F .cores ∧ F .layers ∧ F .lpBytes ∧ F .units ∧ F .rows ∧ F .surveys ∧ F .parser
    ∧ F .ver ∧ F .gy ∧ F .recs ∧ F .blocks ∧ F .shown ∧ F .pins ∧ F .motion ∧ F .sent ∧ F .hp ∧ F .fab ∧ F .dram ∧
    F .ing ∧ F .boot) :
    KeepsOut F a (execIngFrame p fr s) := by
  unfold execIngFrame
  simp (maxDischargeDepth := 60) +contextual [h, hF]

@[simp ↓] theorem execDataFrame_keeps {fr : List Byte} (h : Keeps F a s) (hF : F .regs ∧ F .mem ∧ F .log ∧ F .sent
    ∧ F .fab ∧ F .dram ∧ F .ing) :
    KeepsOut F a (execDataFrame fr s) := by
  unfold execDataFrame
  simp (maxDischargeDepth := 60) +contextual [h, hF]

@[simp ↓] theorem execDescWrFrame_keeps {fr : List Byte} (h : Keeps F a s) (hF : F .regs ∧ F .mem ∧ F .log ∧ F
    .sent ∧ F .fab ∧ F .dram ∧ F .ing) :
    KeepsOut F a (execDescWrFrame fr s) := by
  unfold execDescWrFrame
  simp (maxDischargeDepth := 60) +contextual [h, hF]

@[simp ↓] theorem execDoorbell_keeps {x : ChanBy} (h : Keeps F a s) (hF : F .regs ∧ F .tables ∧ F .mem ∧ F
    .freeCount ∧ F .log ∧ F .cores ∧ F .layers ∧ F .lpBytes ∧ F .units ∧ F .rows ∧ F .surveys ∧ F .parser ∧ F .ver
    ∧ F .gy ∧ F .recs ∧ F .blocks ∧ F .shown ∧ F .pins ∧ F .motion ∧ F .sent ∧ F .hp ∧ F .fab ∧ F .dram ∧ F .ing ∧
    F .boot) :
    KeepsOut F a (execDoorbell x s) := by
  unfold execDoorbell
  (repeat' split) <;> simp (maxDischargeDepth := 60) +contextual [h, hF]

@[simp ↓] theorem chFrame_keeps {op : Nat} {fr : List Byte} (h : Keeps F a s) (hF : F .regs ∧ F .tables ∧ F .mem ∧
    F .freeCount ∧ F .log ∧ F .cores ∧ F .layers ∧ F .lpBytes ∧ F .units ∧ F .rows ∧ F .surveys ∧ F .parser ∧ F
    .ver ∧ F .gy ∧ F .recs ∧ F .blocks ∧ F .shown ∧ F .pins ∧ F .motion ∧ F .sent ∧ F .hp ∧ F .fab ∧ F .dram ∧ F
    .ing ∧ F .boot) :
    Keeps F a (s.chFrame op fr) := by
  unfold State.chFrame
  simp (maxDischargeDepth := 60) +contextual [h, hF]

@[simp ↓] theorem execChStart_keeps {x : ChanBy} (h : Keeps F a s) (hF : F .regs ∧ F .tables ∧ F .mem ∧ F
    .freeCount ∧ F .log ∧ F .cores ∧ F .layers ∧ F .lpBytes ∧ F .units ∧ F .rows ∧ F .surveys ∧ F .parser ∧ F .ver
    ∧ F .gy ∧ F .recs ∧ F .blocks ∧ F .shown ∧ F .pins ∧ F .motion ∧ F .sent ∧ F .hp ∧ F .fab ∧ F .dram ∧ F .ing ∧
    F .boot) :
    KeepsOut F a (execChStart x s) := by
  unfold execChStart
  (repeat' split) <;> simp (maxDischargeDepth := 60) +contextual [h, hF]

@[simp ↓] theorem execChRestart_keeps {x : ChanBy} (h : Keeps F a s) (hF : F .regs ∧ F .tables ∧ F .mem ∧ F
    .freeCount ∧ F .log ∧ F .cores ∧ F .layers ∧ F .lpBytes ∧ F .units ∧ F .rows ∧ F .surveys ∧ F .parser ∧ F .ver
    ∧ F .gy ∧ F .recs ∧ F .blocks ∧ F .shown ∧ F .pins ∧ F .motion ∧ F .sent ∧ F .hp ∧ F .fab ∧ F .dram ∧ F .ing ∧
    F .boot) :
    KeepsOut F a (execChRestart x s) := by
  unfold execChRestart
  (repeat' split) <;> simp (maxDischargeDepth := 60) +contextual [h, hF]

@[simp ↓] theorem execChAbort_keeps {x : ChanBy} (h : Keeps F a s) (hF : F .regs ∧ F .tables ∧ F .mem ∧ F
    .freeCount ∧ F .log ∧ F .cores ∧ F .layers ∧ F .lpBytes ∧ F .units ∧ F .rows ∧ F .surveys ∧ F .parser ∧ F .ver
    ∧ F .gy ∧ F .recs ∧ F .blocks ∧ F .shown ∧ F .pins ∧ F .motion ∧ F .sent ∧ F .hp ∧ F .fab ∧ F .dram ∧ F .ing ∧
    F .boot) :
    KeepsOut F a (execChAbort x s) := by
  unfold execChAbort
  (repeat' split) <;> simp (maxDischargeDepth := 60) +contextual [h, hF]

@[simp ↓] theorem execZlsResume_keeps {x : ResumeBy} (h : Keeps F a s) (hF : F .regs ∧ F .tables ∧ F .mem ∧ F
    .freeCount ∧ F .log ∧ F .cores ∧ F .layers ∧ F .lpBytes ∧ F .units ∧ F .rows ∧ F .surveys ∧ F .parser ∧ F .ver
    ∧ F .gy ∧ F .recs ∧ F .blocks ∧ F .shown ∧ F .pins ∧ F .motion ∧ F .sent ∧ F .hp ∧ F .fab ∧ F .dram ∧ F .ing ∧
    F .boot) :
    KeepsOut F a (execZlsResume x s) := by
  unfold execZlsResume
  (repeat' split) <;> simp (maxDischargeDepth := 60) +contextual [h, hF]

@[simp ↓] theorem execStatusReq_keeps {fr : List Byte} (h : Keeps F a s) (hF : F .regs ∧ F .log ∧ F .sent ∧ F .ing)
    :
    KeepsOut F a (execStatusReq fr s) := by
  unfold execStatusReq
  simp (maxDischargeDepth := 60) +contextual [h, hF]

@[simp ↓] theorem execAccUnfreeze_keeps {path : Path} {w : Word} (h : Keeps F a s) (hF : F .regs ∧ F .sent ∧ F
    .ing) :
    KeepsOut F a (execAccUnfreeze path w s) := by
  unfold execAccUnfreeze
  simp (maxDischargeDepth := 60) [h, hF]

@[simp ↓] theorem execChannelRun_keeps (h : Keeps F a s) (hF : F .regs ∧ F .tables ∧ F .mem ∧ F .freeCount ∧ F .log
    ∧ F .cores ∧ F .layers ∧ F .lpBytes ∧ F .units ∧ F .rows ∧ F .surveys ∧ F .parser ∧ F .ver ∧ F .gy ∧ F .recs ∧
    F .blocks ∧ F .shown ∧ F .pins ∧ F .motion ∧ F .sent ∧ F .hp ∧ F .fab ∧ F .dram ∧ F .ing ∧ F .boot) :
    KeepsOut F a (execChannelRun s) := by
  unfold execChannelRun
  simp (maxDischargeDepth := 60) [h, hF]

@[simp ↓] theorem execDescFetch_keeps {row : Nat} {ecc : Ecc} (h : Keeps F a s) (hF : F .regs ∧ F .tables ∧ F .mem
    ∧ F .freeCount ∧ F .log ∧ F .cores ∧ F .layers ∧ F .lpBytes ∧ F .units ∧ F .rows ∧ F .surveys ∧ F .parser ∧ F
    .ver ∧ F .gy ∧ F .recs ∧ F .blocks ∧ F .shown ∧ F .sram ∧ F .pins ∧ F .motion ∧ F .sent ∧ F .hp ∧ F .fab ∧ F
    .dram ∧ F .ing ∧ F .boot ∧ F .pw) :
    KeepsOut F a (execDescFetch row ecc s) := by
  unfold execDescFetch
  simp (maxDischargeDepth := 60) [h, hF]

@[simp ↓] theorem execDescComplete_keeps (h : Keeps F a s) (hF : F .regs ∧ F .tables ∧ F .mem ∧ F .freeCount ∧ F
    .log ∧ F .cores ∧ F .layers ∧ F .lpBytes ∧ F .units ∧ F .rows ∧ F .surveys ∧ F .parser ∧ F .ver ∧ F .gy ∧ F
    .recs ∧ F .blocks ∧ F .shown ∧ F .pins ∧ F .motion ∧ F .sent ∧ F .hp ∧ F .fab ∧ F .dram ∧ F .ing ∧ F .boot) :
    KeepsOut F a (execDescComplete s) := by
  unfold execDescComplete
  simp (maxDischargeDepth := 60) [h, hF]

@[simp ↓] theorem execDmaBusError_keeps {wr : Bool} {addr : Nat} (h : Keeps F a s) (hF : F .regs ∧ F .tables ∧ F
    .mem ∧ F .freeCount ∧ F .log ∧ F .cores ∧ F .layers ∧ F .lpBytes ∧ F .units ∧ F .rows ∧ F .surveys ∧ F .parser
    ∧ F .ver ∧ F .gy ∧ F .recs ∧ F .blocks ∧ F .shown ∧ F .pins ∧ F .motion ∧ F .sent ∧ F .hp ∧ F .fab ∧ F .dram ∧
    F .ing ∧ F .boot) :
    KeepsOut F a (execDmaBusError wr addr s) := by
  unfold execDmaBusError
  (repeat' split) <;> simp (maxDischargeDepth := 60) +contextual [h, hF]

@[simp ↓] theorem ingOpen_keeps (h : Keeps F a s) (hF : F .regs ∧ F .sent ∧ F .fab ∧ F .ln ∧ F .ing) :
    Keeps F a (s.ingOpen) := by
  unfold State.ingOpen
  simp (maxDischargeDepth := 60) [h, hF]

@[simp ↓] theorem initWaitEnd_keeps (h : Keeps F a s) (hF : F .regs ∧ F .sent ∧ F .ing) :
    Keeps F a (s.initWaitEnd) := by
  unfold State.initWaitEnd
  try dsimp only
  repeat' first
    | (simp (maxDischargeDepth := 60) +contextual [*]; done)
    | (refine keeps_foldl ?_ fun t x ht => ?_)
    | split
    | (rename_i e; obtain rfl := congrArg Prod.snd e)

@[simp ↓] theorem putCopy_keeps (h : Keeps F a s) (hF : F .regs ∧ F .mem ∧ F .log ∧ F .sent ∧ F .dram) :
    Keeps F a (s.putCopy) := by
  unfold State.putCopy
  simp (maxDischargeDepth := 60) +contextual [h, hF]

@[simp ↓] theorem execInitRegionDone_keeps {us : Nat} (h : Keeps F a s) (hF : F .regs ∧ F .tables ∧ F .mem ∧ F
    .freeCount ∧ F .log ∧ F .cores ∧ F .layers ∧ F .lpBytes ∧ F .units ∧ F .rows ∧ F .surveys ∧ F .parser ∧ F .ver
    ∧ F .gy ∧ F .recs ∧ F .blocks ∧ F .shown ∧ F .pins ∧ F .motion ∧ F .sent ∧ F .hp ∧ F .fab ∧ F .ln ∧ F .dram ∧ F
    .ing ∧ F .boot ∧ F .pw) :
    KeepsOut F a (execInitRegionDone us s) := by
  unfold execInitRegionDone
  simp (maxDischargeDepth := 60) [h, hF]

@[simp ↓] theorem fabReply_keeps {f : FabFrame} {ty : Nat} {pay : List Byte} (h : Keeps F a s) (hF : F .sent ∧ F
    .fab) :
    Keeps F a (s.fabReply f ty pay) := by
  unfold State.fabReply
  simp (maxDischargeDepth := 60) [h, hF]

@[simp ↓] theorem takeWrite_keeps {f : FabFrame} (h : Keeps F a s) (hF : F .regs ∧ F .mem ∧ F .log ∧ F .sent ∧ F
    .fab ∧ F .dram) :
    Keeps F a (s.takeWrite f) := by
  unfold State.takeWrite
  simp (maxDischargeDepth := 60) [h, hF]

@[simp ↓] theorem execWriteFrame_keeps {p : Fin 5} {fr : List Byte} (h : Keeps F a s) (hF : F .regs ∧ F .mem ∧ F
    .log ∧ F .sent ∧ F .fab ∧ F .dram) :
    KeepsOut F a (execWriteFrame p fr s) := by
  unfold execWriteFrame
  simp (maxDischargeDepth := 60) +contextual [h, hF]

@[simp ↓] theorem takeRead_keeps {f : FabFrame} (h : Keeps F a s) (hF : F .regs ∧ F .mem ∧ F .freeCount ∧ F .log ∧
    F .sent ∧ F .fab ∧ F .dram) :
    Keeps F a (s.takeRead f) := by
  unfold State.takeRead
  simp (maxDischargeDepth := 60) +contextual [h, hF]

@[simp ↓] theorem execReadFrame_keeps {p : Fin 5} {fr : List Byte} (h : Keeps F a s) (hF : F .regs ∧ F .mem ∧ F
    .freeCount ∧ F .log ∧ F .sent ∧ F .fab ∧ F .dram) :
    KeepsOut F a (execReadFrame p fr s) := by
  unfold execReadFrame
  simp (maxDischargeDepth := 60) +contextual [h, hF]

@[simp ↓] theorem recArrived_keeps {f : FabFrame} (h : Keeps F a s) (hF : F .sent ∧ F .ing) :
    Keeps F a (s.recArrived f) := by
  unfold State.recArrived
  (repeat' split) <;> simp (maxDischargeDepth := 60) +contextual [h, hF]

@[simp ↓] theorem takeResponse_keeps {f : FabFrame} (h : Keeps F a s) (hF : F .sent ∧ F .fab ∧ F .ing) :
    Keeps F a (s.takeResponse f) := by
  unfold State.takeResponse
  dsimp only
  repeat' first
    | (simp (maxDischargeDepth := 60) +contextual [h, hF]; done)
    | split
    | (rename_i e; obtain rfl := congrArg Prod.snd e)

@[simp ↓] theorem execReadRspFrame_keeps {p : Fin 5} {fr : List Byte} (h : Keeps F a s) (hF : F .regs ∧ F .log ∧ F
    .sent ∧ F .fab ∧ F .ing) :
    KeepsOut F a (execReadRspFrame p fr s) := by
  unfold execReadRspFrame
  simp (maxDischargeDepth := 60) +contextual [h, hF]

@[simp ↓] theorem execWackFrame_keeps {p : Fin 5} {fr : List Byte} (h : Keeps F a s) (hF : F .regs ∧ F .log ∧ F
    .sent ∧ F .fab ∧ F .ing) :
    KeepsOut F a (execWackFrame p fr s) := by
  unfold execWackFrame
  simp (maxDischargeDepth := 60) +contextual [h, hF]

@[simp ↓] theorem execFlowTimeout_keeps {p : Fin 4} {id : Fin 64} (h : Keeps F a s) (hF : F .regs ∧ F .log ∧ F
    .sent ∧ F .fab ∧ F .ing) :
    KeepsOut F a (execFlowTimeout p id s) := by
  unfold execFlowTimeout
  (repeat' split) <;> simp (maxDischargeDepth := 60) +contextual [h, hF]

@[simp ↓] theorem execFrameCrcError_keeps {q : Fin 11} (h : Keeps F a s) (hF : F .regs ∧ F .log ∧ F .sent) :
    KeepsOut F a (execFrameCrcError q s) := by
  unfold execFrameCrcError
  simp (maxDischargeDepth := 60) [h, hF]

end Sys2Proof.Laws
end

