-- ==== Sys2Proof/Laws/KeepsFeedback.lean ====
section
/-! SUPPORT. What the operations of Sys2Proof/Machine/Feedback.lean can change: one lemma each. -/

set_option linter.unusedTactic false
set_option linter.unreachableTactic false
set_option Elab.async false

namespace Sys2Proof.Laws

open Sys2Proof.Machine Sys2Proof.Safety

variable {F : Part → Prop} {a s : State}

@[simp ↓] theorem dropShift_keeps {x : Nat} (h : Keeps F a s) (hF : F .regs ∧ F .motion) :
    Keeps F a (s.dropShift x) := by
  unfold State.dropShift
  simp (maxDischargeDepth := 60) [h, hF]

@[simp ↓] theorem fbFault_keeps {x : Nat} {c : Nat} (h : Keeps F a s) (hF : F .regs ∧ F .tables ∧ F .mem ∧ F
    .freeCount ∧ F .log ∧ F .cores ∧ F .layers ∧ F .lpBytes ∧ F .units ∧ F .rows ∧ F .surveys ∧ F .ver ∧ F .gy ∧ F
    .recs ∧ F .blocks ∧ F .pins ∧ F .motion ∧ F .sent ∧ F .hp ∧ F .dram ∧ F .boot) :
    Keeps F a (s.fbFault x c) := by
  unfold State.fbFault
  simp (maxDischargeDepth := 60) [h, hF]

@[simp ↓] theorem takeAngle_keeps {x : Nat} {phi : Nat} (h : Keeps F a s) (hF : F .regs ∧ F .tables ∧ F .mem ∧ F
    .freeCount ∧ F .log ∧ F .cores ∧ F .layers ∧ F .lpBytes ∧ F .units ∧ F .rows ∧ F .surveys ∧ F .ver ∧ F .gy ∧ F
    .recs ∧ F .blocks ∧ F .pins ∧ F .motion ∧ F .sent ∧ F .hp ∧ F .dram ∧ F .boot) :
    Keeps F a (s.takeAngle x phi) := by
  unfold State.takeAngle
  simp (maxDischargeDepth := 60) [h, hF]

@[simp ↓] theorem takeAmp_keeps {x : Nat} {amp : Nat} (h : Keeps F a s) (hF : F .regs ∧ F .tables ∧ F .mem ∧ F
    .freeCount ∧ F .log ∧ F .cores ∧ F .layers ∧ F .lpBytes ∧ F .units ∧ F .rows ∧ F .surveys ∧ F .ver ∧ F .gy ∧ F
    .recs ∧ F .blocks ∧ F .pins ∧ F .motion ∧ F .sent ∧ F .hp ∧ F .dram ∧ F .boot) :
    Keeps F a (s.takeAmp x amp) := by
  unfold State.takeAmp
  simp (maxDischargeDepth := 60) [h, hF]

@[simp ↓] theorem convTakeover_keeps {x : Nat} {now : Option (Int × Int)} {idle : Option (Int × Int)} (h : Keeps F
    a s) (hF : F .regs ∧ F .tables ∧ F .mem ∧ F .freeCount ∧ F .log ∧ F .cores ∧ F .layers ∧ F .lpBytes ∧ F .units
    ∧ F .rows ∧ F .surveys ∧ F .ver ∧ F .gy ∧ F .recs ∧ F .blocks ∧ F .pins ∧ F .motion ∧ F .sent ∧ F .hp ∧ F .dram
    ∧ F .boot) :
    Keeps F a (s.convTakeover x now idle) := by
  unfold State.convTakeover
  (repeat' split) <;> simp (maxDischargeDepth := 60) +contextual [h, hF]

@[simp ↓] theorem convFault_keeps {x : Nat} (h : Keeps F a s) (hF : F .regs ∧ F .log ∧ F .cal ∧ F .motion) :
    Keeps F a (s.convFault x) := by
  unfold State.convFault
  simp (maxDischargeDepth := 60) [h, hF]

@[simp ↓] theorem tickAnalogue_keeps {x : Nat} {p : FbSample} (h : Keeps F a s) (hF : F .regs ∧ F .tables ∧ F .mem
    ∧ F .freeCount ∧ F .log ∧ F .cores ∧ F .layers ∧ F .lpBytes ∧ F .units ∧ F .rows ∧ F .surveys ∧ F .ver ∧ F .gy
    ∧ F .recs ∧ F .blocks ∧ F .cal ∧ F .pins ∧ F .motion ∧ F .sent ∧ F .hp ∧ F .dram ∧ F .boot) :
    Keeps F a (s.tickAnalogue x p) := by
  unfold State.tickAnalogue
  dsimp only
  repeat' first
    | (simp (maxDischargeDepth := 60) +contextual [h, hF]; done)
    | split
    | (rename_i e; obtain rfl := congrArg Prod.snd e)

@[simp ↓] theorem takeEdge_keeps {x : Nat} {ns : Nat} {ab : Bool × Bool} (h : Keeps F a s) (hF : F .regs ∧ F
    .tables ∧ F .mem ∧ F .freeCount ∧ F .log ∧ F .cores ∧ F .layers ∧ F .lpBytes ∧ F .units ∧ F .rows ∧ F .surveys
    ∧ F .ver ∧ F .gy ∧ F .recs ∧ F .blocks ∧ F .pins ∧ F .motion ∧ F .sent ∧ F .hp ∧ F .dram ∧ F .boot) :
    Keeps F a (s.takeEdge x ns ab) := by
  unfold State.takeEdge
  (repeat' split) <;> simp (maxDischargeDepth := 60) +contextual [h, hF]

@[simp ↓] theorem tickDigital_keeps {x : Nat} {p : FbSample} (h : Keeps F a s) (hF : F .regs ∧ F .tables ∧ F .mem ∧
    F .freeCount ∧ F .log ∧ F .cores ∧ F .layers ∧ F .lpBytes ∧ F .units ∧ F .rows ∧ F .surveys ∧ F .ver ∧ F .gy ∧
    F .recs ∧ F .blocks ∧ F .pins ∧ F .motion ∧ F .sent ∧ F .hp ∧ F .dram ∧ F .boot) :
    Keeps F a (s.tickDigital x p) := by
  unfold State.tickDigital
  (repeat' split) <;> simp (maxDischargeDepth := 60) +contextual [h, hF]

@[simp ↓] theorem tickAxis_keeps {x : Nat} {p : FbSample} (h : Keeps F a s) (hF : F .regs ∧ F .tables ∧ F .mem ∧ F
    .freeCount ∧ F .log ∧ F .cores ∧ F .layers ∧ F .lpBytes ∧ F .units ∧ F .rows ∧ F .surveys ∧ F .ver ∧ F .gy ∧ F
    .recs ∧ F .blocks ∧ F .cal ∧ F .pins ∧ F .motion ∧ F .sent ∧ F .hp ∧ F .dram ∧ F .boot) :
    Keeps F a (s.tickAxis x p) := by
  unfold State.tickAxis
  dsimp only
  repeat' first
    | (simp (maxDischargeDepth := 60) +contextual [h, hF]; done)
    | split
    | (rename_i e; obtain rfl := congrArg Prod.snd e)

@[simp ↓] theorem onCmp_keeps {u : Nat} {f : Cmp → Cmp} (h : Keeps F a s) (hF : F .motion) :
    Keeps F a (s.onCmp u f) := by
  unfold State.onCmp
  simp (maxDischargeDepth := 60) [h, hF]

@[simp ↓] theorem cmpSeen_keeps {u : Nat} {p : Option Int} (h : Keeps F a s) (hF : F .motion) :
    Keeps F a (s.cmpSeen u p) := by
  unfold State.cmpSeen
  simp (maxDischargeDepth := 60) [h, hF]

@[simp ↓] theorem cmpPulse_keeps {u : Nat} {t : Nat} {w : Nat} (h : Keeps F a s) (hF : F .motion ∧ F .sent) :
    Keeps F a (s.cmpPulse u t w) := by
  unfold State.cmpPulse
  simp (maxDischargeDepth := 60) [h, hF]

@[simp ↓] theorem setCmp_keeps {u : Nat} {st : Nat} (h : Keeps F a s) (hF : F .regs) :
    Keeps F a (s.setCmp u st) := by
  unfold State.setCmp
  simp (maxDischargeDepth := 60) [h, hF]

@[simp ↓] theorem cmpRearm_keeps {u : Nat} (h : Keeps F a s) (hF : F .regs ∧ F .motion) :
    Keeps F a (s.cmpRearm u) := by
  unfold State.cmpRearm
  simp (maxDischargeDepth := 60) [h, hF]

@[simp ↓] theorem cmpFire_keeps {u : Nat} {late : Bool} {up : Int} (h : Keeps F a s) (hF : F .regs ∧ F .motion ∧ F
    .sent) :
    Keeps F a (s.cmpFire u late up) := by
  unfold State.cmpFire
  simp (maxDischargeDepth := 60) [h, hF]

@[simp ↓] theorem cmpFirst_keeps {u : Nat} (h : Keeps F a s) (hF : F .regs ∧ F .motion ∧ F .sent) :
    Keeps F a (s.cmpFirst u) := by
  unfold State.cmpFirst
  simp (maxDischargeDepth := 60) [h, hF]

@[simp ↓] theorem cmpTick_keeps {u : Nat} (h : Keeps F a s) (hF : F .regs ∧ F .motion ∧ F .sent) :
    Keeps F a (s.cmpTick u) := by
  unfold State.cmpTick
  (repeat' split) <;> simp (maxDischargeDepth := 60) +contextual [h, hF]

@[simp ↓] theorem execCmpArm_keeps {path : Path} {u : Fin 8} (h : Keeps F a s) (hF : F .regs ∧ F .motion ∧ F .sent)
    :
    KeepsOut F a (execCmpArm path u s) := by
  unfold execCmpArm
  simp (maxDischargeDepth := 60) [h, hF]

@[simp ↓] theorem execCmpDisarm_keeps {u : Fin 8} (h : Keeps F a s) (hF : F .regs) :
    KeepsOut F a (execCmpDisarm u s) := by
  unfold execCmpDisarm
  simp (maxDischargeDepth := 60) [h, hF]

@[simp ↓] theorem tickWord_keeps {x : TickWord × Ecc} (h : Keeps F a s) (hF : F .regs ∧ F .tables ∧ F .mem ∧ F
    .freeCount ∧ F .log ∧ F .cores ∧ F .layers ∧ F .lpBytes ∧ F .units ∧ F .rows ∧ F .surveys ∧ F .ver ∧ F .gy ∧ F
    .recs ∧ F .blocks ∧ F .sram ∧ F .pins ∧ F .motion ∧ F .sent ∧ F .hp ∧ F .fab ∧ F .ln ∧ F .dram ∧ F .ing ∧ F
    .boot ∧ F .pw) :
    Keeps F a (s.tickWord x) := by
  unfold State.tickWord
  (repeat' split) <;> simp (maxDischargeDepth := 60) +contextual [h, hF]

@[simp ↓] theorem execFeedbackTick_keeps {samples : List FbSample} {lat : Fin 501} {sram : List (TickWord × Ecc)}
    (h : Keeps F a s) (hF : F .regs ∧ F .tables ∧ F .mem ∧ F .freeCount ∧ F .log ∧ F .cores ∧ F .layers ∧ F
    .lpBytes ∧ F .units ∧ F .rows ∧ F .surveys ∧ F .clk ∧ F .ver ∧ F .gy ∧ F .recs ∧ F .blocks ∧ F .cal ∧ F .sram ∧
    F .pins ∧ F .motion ∧ F .sent ∧ F .hp ∧ F .fab ∧ F .ln ∧ F .dram ∧ F .ing ∧ F .boot ∧ F .pw) :
    KeepsOut F a (execFeedbackTick samples lat sram s) := by
  unfold execFeedbackTick
  simp (maxDischargeDepth := 60) +contextual [h, hF]

@[simp ↓] theorem execWireFault_keeps {x : Fin 6} {pairs : Fin 8} (h : Keeps F a s) (hF : F .regs ∧ F .tables ∧ F
    .mem ∧ F .freeCount ∧ F .log ∧ F .cores ∧ F .layers ∧ F .lpBytes ∧ F .units ∧ F .rows ∧ F .surveys ∧ F .ver ∧ F
    .gy ∧ F .recs ∧ F .blocks ∧ F .pins ∧ F .motion ∧ F .sent ∧ F .hp ∧ F .dram ∧ F .boot) :
    KeepsOut F a (execWireFault x pairs s) := by
  unfold execWireFault
  simp (maxDischargeDepth := 60) [h, hF]

@[simp ↓] theorem execCommonModeMeasure_keeps {x : Fin 2} {lo : Fin 256} {hi : Fin 256} (h : Keeps F a s) (hF : F
    .regs ∧ F .tables ∧ F .mem ∧ F .freeCount ∧ F .log ∧ F .cores ∧ F .layers ∧ F .lpBytes ∧ F .units ∧ F .rows ∧ F
    .surveys ∧ F .ver ∧ F .gy ∧ F .recs ∧ F .blocks ∧ F .pins ∧ F .motion ∧ F .sent ∧ F .hp ∧ F .dram ∧ F .boot) :
    KeepsOut F a (execCommonModeMeasure x lo hi s) := by
  unfold execCommonModeMeasure
  simp (maxDischargeDepth := 60) [h, hF]

@[simp ↓] theorem execFeedbackFaultClear_keeps {x : Fin 6} (h : Keeps F a s) (hF : F .regs ∧ F .motion) :
    KeepsOut F a (execFeedbackFaultClear x s) := by
  unfold execFeedbackFaultClear
  simp (maxDischargeDepth := 60) [h, hF]

@[simp ↓] theorem dueShift_keeps {x : Nat} {d : Int} {unref : Bool} (h : Keeps F a s) (hF : F .regs ∧ F .motion) :
    Keeps F a (s.dueShift x d unref) := by
  unfold State.dueShift
  simp (maxDischargeDepth := 60) [h, hF]

@[simp ↓] theorem judgeIndex_keeps {x : Nat} {cap : Int} (h : Keeps F a s) (hF : F .regs ∧ F .log ∧ F .motion) :
    Keeps F a (s.judgeIndex x cap) := by
  unfold State.judgeIndex
  simp (maxDischargeDepth := 60) [h, hF]

@[simp ↓] theorem homeIndex_keeps {x : Nat} {cap : Int} (h : Keeps F a s) (hF : F .regs ∧ F .motion) :
    Keeps F a (s.homeIndex x cap) := by
  unfold State.homeIndex
  (repeat' split) <;> simp (maxDischargeDepth := 60) +contextual [h, hF]

@[simp ↓] theorem execIndexEvent_keeps {x : Fin 6} {ns : Fin 100} {rise : Bool} (h : Keeps F a s) (hF : F .regs ∧ F
    .log ∧ F .motion) :
    KeepsOut F a (execIndexEvent x ns rise s) := by
  unfold execIndexEvent
  simp (maxDischargeDepth := 60) [h, hF]

@[simp ↓] theorem execIdxRefCommit_keeps {path : Path} {x : Fin 6} {w : Word} (h : Keeps F a s) (hF : F .regs ∧ F
    .paths) :
    KeepsOut F a (execIdxRefCommit path x w s) := by
  unfold execIdxRefCommit
  simp (maxDischargeDepth := 60) [h, hF]

end Sys2Proof.Laws
end

