-- ==== Sys2Proof/Laws/KeepsCal.lean ====
section
/-! SUPPORT. What the operations of Sys2Proof/Machine/Cal.lean can change: one lemma each. -/

set_option linter.unusedTactic false
set_option linter.unreachableTactic false
set_option Elab.async false

namespace Sys2Proof.Laws

open Sys2Proof.Machine Sys2Proof.Safety

variable {F : Part → Prop} {a s : State}

/-- The Fumarole channels at their reset value are as many as before. -/
theorem keeps_hm_reset (h : Keeps F a s) (hF : F .hm) : Keeps F a { s with hm := State.reset.hm } := by
  refine h.upd (fun p hp => by cases p <;> first | rfl | exact absurd hF hp) (fun i => ?_) (Nat.le_refl _) fun _ _ h => h
  have e : State.reset.hm.length = 56 := by decide
  obtain ⟨i1, i2, i3, i4, i5⟩ := i
  refine ⟨i1, i2, i3, ?_, i5⟩
  have l : s.hm.length = 56 := by simp_all [unitsOk]
  simpa [unitsOk, e, l] using i4

@[simp ↓] theorem setPoints_keeps {t : Nat} {ps : List ((Int × List Int) × Nat)} (h : Keeps F a s) (hF : F .regs ∧
    F .tables) :
    Keeps F a (s.setPoints t ps) := by
  unfold State.setPoints
  simp (maxDischargeDepth := 60) +contextual [h, hF]

@[simp ↓] theorem storePoint_keeps {tg : Nat} {t : Int} {v : List Int} (h : Keeps F a s) (hF : F .regs ∧ F .tables)
    :
    Keeps F a (s.storePoint tg t v).2 := by
  unfold State.storePoint
  simp (maxDischargeDepth := 60) [h, hF]

@[simp ↓] theorem calRecord_keeps {t : Nat} {k : Nat} {point : Nat} (h : Keeps F a s) (hF : F .regs ∧ F .boot) :
    Keeps F a (s.calRecord t k point) := by
  unfold State.calRecord
  simp (maxDischargeDepth := 60) [h, hF]

@[simp ↓] theorem setFiringV0_keeps {t : Nat} {v : Int} (h : Keeps F a s) (hF : F .regs ∧ F .tables) :
    Keeps F a (s.setFiringV0 t v) := by
  unfold State.setFiringV0
  simp (maxDischargeDepth := 60) [h, hF]

@[simp ↓] theorem setCoef_keeps {t : Nat} {c : Coef} (h : Keeps F a s) (hF : F .regs ∧ F .cal) :
    Keeps F a (s.setCoef t c) := by
  unfold State.setCoef
  simp (maxDischargeDepth := 60) [h, hF]

@[simp ↓] theorem retarget_keeps {t : Nat} {g : List Int} (h : Keeps F a s) (hF : F .regs ∧ F .cal) :
    Keeps F a (s.retarget t g) := by
  unfold State.retarget
  simp (maxDischargeDepth := 60) [h, hF]

@[simp ↓] theorem rampSample_keeps {t : Nat} (h : Keeps F a s) (hF : F .regs ∧ F .cal) :
    Keeps F a (s.rampSample t) := by
  unfold State.rampSample
  simp (maxDischargeDepth := 60) [h, hF]

@[simp ↓] theorem modeInterp_keeps {t : Nat} (h : Keeps F a s) (hF : F .regs ∧ F .cal) :
    Keeps F a (s.modeInterp t) := by
  unfold State.modeInterp
  simp (maxDischargeDepth := 60) [h, hF]

@[simp ↓] theorem setMode_keeps {t : Nat} {k : Option Nat} (h : Keeps F a s) (hF : F .regs ∧ F .cal) :
    Keeps F a (s.setMode t k).2 := by
  unfold State.setMode
  (repeat' split) <;> simp (maxDischargeDepth := 60) +contextual [h, hF]

@[simp ↓] theorem calReplay_keeps {r : StRec} (h : Keeps F a s) (hF : F .regs ∧ F .tables) :
    Keeps F a (s.calReplay r) := by
  unfold State.calReplay
  simp (maxDischargeDepth := 60) [h, hF]

@[simp ↓] theorem calModes_keeps (h : Keeps F a s) (hF : F .regs ∧ F .cal) :
    Keeps F a (s.calModes) := by
  unfold State.calModes
  simp (maxDischargeDepth := 60) [h, hF]

@[simp ↓] theorem calStart_keeps (h : Keeps F a s) (hF : F .regs ∧ F .tables ∧ F .cal) :
    Keeps F a (s.calStart) := by
  unfold State.calStart
  simp (maxDischargeDepth := 60) +contextual [h, hF]

@[simp ↓] theorem calAccepted_keeps {t : Nat} (h : Keeps F a s) (hF : F .regs) :
    Keeps F a (s.calAccepted t) := by
  unfold State.calAccepted
  simp (maxDischargeDepth := 60) [h, hF]

@[simp ↓] theorem convAccept_keeps {t : Nat} {v : List Int} (h : Keeps F a s) (hF : F .regs ∧ F .tables ∧ F .cal ∧
    F .boot) :
    Keeps F a (s.convAccept t v) := by
  unfold State.convAccept
  simp (maxDischargeDepth := 60) [h, hF]

@[simp ↓] theorem convBegin_keeps {x : Nat} (h : Keeps F a s) (hF : F .regs) :
    Keeps F a (s.convBegin x) := by
  unfold State.convBegin
  simp (maxDischargeDepth := 60) [h, hF]

@[simp ↓] theorem convFirst_keeps (h : Keeps F a s) (hF : F .regs ∧ F .cal) :
    Keeps F a (s.convFirst) := by
  unfold State.convFirst
  simp (maxDischargeDepth := 60) +contextual [h, hF]

@[simp ↓] theorem hmRestart_keeps (h : Keeps F a s) (hF : F .regs ∧ F .hm) :
    Keeps F a (s.hmRestart) := by
  unfold State.hmRestart
  extract_lets s1 s2 s3
  have hs1 : Keeps F a s1 := keeps_hm_reset h (by simp [hF])
  clear_value s1
  have hs2 : Keeps F a s2 := by
    unfold s2
    repeat' first
      | (simp (maxDischargeDepth := 60) +contextual [*]; done)
      | (refine keeps_foldl ?_ fun t x ht => ?_)
      | split
      | (rename_i e; obtain rfl := congrArg Prod.snd e)
  clear_value s2
  have hs3 : Keeps F a s3 := by
    unfold s3
    repeat' first
      | (simp (maxDischargeDepth := 60) +contextual [*]; done)
      | (refine keeps_foldl ?_ fun t x ht => ?_)
      | split
      | (rename_i e; obtain rfl := congrArg Prod.snd e)
  clear_value s3
  repeat' first
    | (simp (maxDischargeDepth := 60) +contextual [*]; done)
    | (refine keeps_foldl ?_ fun t x ht => ?_)
    | split
    | (rename_i e; obtain rfl := congrArg Prod.snd e)

end Sys2Proof.Laws
end

