-- ==== Sys2Proof/Laws/KeepsLevels.lean ====
section
/-! SUPPORT. What the operations of Sys2Proof/Machine/Levels.lean can change: one lemma each. -/

set_option linter.unusedTactic false
set_option linter.unreachableTactic false
set_option Elab.async false

namespace Sys2Proof.Laws

open Sys2Proof.Machine Sys2Proof.Safety

variable {F : Part → Prop} {a s : State}

@[simp ↓] theorem showLevels_keeps (h : Keeps F a s) (hF : F .regs) :
    Keeps F a (s.showLevels) := by
  unfold State.showLevels
  simp (maxDischargeDepth := 60) +contextual [h, hF]

@[simp ↓] theorem throttleCheck_keeps (h : Keeps F a s) (hF : F .regs ∧ F .ver) :
    Keeps F a (s.throttleCheck) := by
  unfold State.throttleCheck
  simp (maxDischargeDepth := 60) +contextual [h, hF]

@[simp ↓] theorem holdCheck_keeps (h : Keeps F a s) (hF : F .regs) :
    Keeps F a (s.holdCheck) := by
  unfold State.holdCheck
  simp (maxDischargeDepth := 60) [h, hF]

@[simp ↓] theorem hmInvalid_keeps {cs : List Nat} (h : Keeps F a s) (hF : F .regs ∧ F .ver ∧ F .hm) :
    Keeps F a (s.hmInvalid cs) := by
  unfold State.hmInvalid
  simp (maxDischargeDepth := 60) +contextual [h, hF]

end Sys2Proof.Laws
end

