-- ==== Sys2Proof/Laws/KeepsSetup.lean ====
section
/-! SUPPORT. What the operations of Sys2Proof/Machine/Setup.lean can change: one lemma each. -/

set_option linter.unusedTactic false
set_option linter.unreachableTactic false
set_option Elab.async false

namespace Sys2Proof.Laws

open Sys2Proof.Machine Sys2Proof.Safety

variable {F : Part → Prop} {a s : State}

/-- The banks of units after reset. -/
theorem unitsOk_reset : unitsOk State.reset = true := by decide

/-- The OTP key hash takes the hash that was being programmed. -/
theorem keeps_otpDone {k : List Byte} (h : Keeps F a s) (hF : F .boot) (hk : s.boot.otpNext = some k) :
    Keeps F a (s.onBoot fun b => { b with otp := some k, otpNext := none }) := by
  refine h.upd (fun p hp => by cases p <;> first | rfl | exact absurd hF hp)
    (fun i => ⟨i.1, i.2.1, i.2.2.1, i.2.2.2.1, rfl⟩) (Nat.le_refl _) fun i j hj => ?_
  have := i.2.2.2.2
  simp [otpOk, hk, hj] at this

/-- The programming of the OTP key hash ends without it. -/
theorem keeps_otpEnd (h : Keeps F a s) (hF : F .boot) :
    Keeps F a (s.onBoot fun b => { b with otpNext := none }) :=
  h.upd (fun p hp => by cases p <;> first | rfl | exact absurd hF hp)
    (fun i => ⟨i.1, i.2.1, i.2.2.1, i.2.2.2.1, by simp [otpOk, State.onBoot]⟩) (Nat.le_refl _) fun _ _ hj => hj

/-- The programming of the OTP key hash begins while none stands. -/
theorem keeps_otpBegin {k : List Byte} (h : Keeps F a s) (hF : F .boot) (hn : s.boot.otp = none) :
    Keeps F a (s.onBoot fun b => { b with otpNext := some k }) :=
  h.upd (fun p hp => by cases p <;> first | rfl | exact absurd hF hp)
    (fun i => ⟨i.1, i.2.1, i.2.2.1, i.2.2.2.1, by simp [otpOk, State.onBoot, hn]⟩) (Nat.le_refl _)
    fun _ _ hj => hj

@[simp ↓] theorem onBoot_keeps {f : Boot → Boot} (h : Keeps F a s) (hF : F .boot) (hf : (f s.boot).otp =
    s.boot.otp) (hg : (f s.boot).otpNext = s.boot.otpNext) (hz : F .phase ∨ (f s.boot).phase = s.boot.phase) :
    Keeps F a (s.onBoot f) := keeps_boot h (by simpa using hF) hf hg hz

@[simp ↓] theorem tornProgram_keeps (h : Keeps F a s) (hF : F .freeCount ∧ F .boot) :
    Keeps F a (s.tornProgram) := by
  unfold State.tornProgram
  repeat' first
    | (simp (maxDischargeDepth := 60) +contextual [h, hF]; done)
    | split
    | (rename_i e; obtain rfl := congrArg Prod.snd e)

@[simp ↓] theorem showKey_keeps (h : Keeps F a s) (hF : F .regs) :
    Keeps F a (s.showKey) := by
  unfold State.showKey
  (repeat' split) <;> simp (maxDischargeDepth := 60) +contextual [h, hF]

@[simp ↓] theorem wholeReset_keeps {ph : Phase} (h : Keeps F a s) (hF : ∀ p, p ≠ .pending → p ≠ .sent → p ≠ .estop
    → F p) :
    Keeps F a (s.wholeReset ph) := by
  unfold State.wholeReset
  extract_lets s1 t g b u1 u2
  have h1 : Keeps F a s1 := by unfold s1; simp (maxDischargeDepth := 60) [h, hF]
  have hu : Keeps F a u1 := by
    refine h1.upd (fun p hp => ?_) (fun i => ⟨rfl, rfl, rfl, unitsOk_reset, by simp [otpOk, u1, b, t, State.reset]⟩)
      (Nat.le_refl _) fun _ k hk => hk
    by_cases e : p = .pending
    · subst e; rfl
    · by_cases e' : p = .sent
      · subst e'; rfl
      · by_cases e'' : p = .estop
        · subst e''; rfl
        · exact absurd (hF p e e' e'') hp
  clear_value u1
  have hv : Keeps F a u2 := by
    unfold u2
    exact keeps_foldl hu fun t x ht => by simp (maxDischargeDepth := 60) [ht, hF]
  clear_value u2
  simp (maxDischargeDepth := 60) +contextual [hv, hF]

@[simp ↓] theorem execVinGood_keeps (h : Keeps F a s) (hF : ∀ p, p ≠ .pending → p ≠ .sent → p ≠ .estop → F p) :
    KeepsOut F a (execVinGood s) := by
  unfold execVinGood
  simp (maxDischargeDepth := 60) +contextual [h, hF]

@[simp ↓] theorem execVinLoss_keeps {dead : Bool} (h : Keeps F a s) (hF : ∀ p, p ≠ .pending → p ≠ .sent → p ≠
    .estop → F p) :
    KeepsOut F a (execVinLoss dead s) := by
  unfold execVinLoss
  simp (maxDischargeDepth := 60) +contextual [h, hF]

@[simp ↓] theorem execVinOvervoltage_keeps (h : Keeps F a s) (hF : ∀ p, p ≠ .pending → p ≠ .sent → p ≠ .estop → F
    p) :
    KeepsOut F a (execVinOvervoltage s) := by
  unfold execVinOvervoltage
  simp (maxDischargeDepth := 60) +contextual [h, hF]

@[simp ↓] theorem execResetN_keeps {ns : Nat} (h : Keeps F a s) (hF : ∀ p, p ≠ .pending → p ≠ .sent → p ≠ .estop →
    F p) :
    KeepsOut F a (execResetN ns s) := by
  unfold execResetN
  simp (maxDischargeDepth := 60) +contextual [h, hF]

@[simp ↓] theorem execRailFault_keeps {vm : Fin 56} (h : Keeps F a s) (hF : ∀ p, p ≠ .pending → p ≠ .sent → p ≠
    .estop → F p) :
    KeepsOut F a (execRailFault vm s) := by
  unfold execRailFault
  simp (maxDischargeDepth := 60) +contextual [h, hF]

@[simp ↓] theorem execCfgRestart_keeps {w : Word} (h : Keeps F a s) (hF : ∀ p, p ≠ .pending → p ≠ .sent → p ≠
    .estop → F p) :
    KeepsOut F a (execCfgRestart w s) := by
  unfold execCfgRestart
  simp (maxDischargeDepth := 60) +contextual [h, hF]

@[simp ↓] theorem eqLane_keeps {b : List Byte} {n : Nat} (h : Keeps F a s) (hF : F .regs) :
    Keeps F a (s.eqLane b n) := by
  unfold State.eqLane
  simp (maxDischargeDepth := 60) [h, hF]

@[simp ↓] theorem applyEq_keeps {bs : List Byte} (h : Keeps F a s) (hF : F .regs ∧ F .tables ∧ F .log) :
    Keeps F a (s.applyEq bs) := by
  unfold State.applyEq
  simp (maxDischargeDepth := 60) +contextual [h, hF]

@[simp ↓] theorem rescueLanes_keeps (h : Keeps F a s) (hF : F .regs ∧ F .tables ∧ F .log ∧ F .sent) :
    Keeps F a (s.rescueLanes) := by
  unfold State.rescueLanes
  simp (maxDischargeDepth := 60) +contextual [h, hF]

@[simp ↓] theorem imageFail_keeps {cause : Nat} {i : Nat} (h : Keeps F a s) (hF : ∀ p, p ≠ .pending → p ≠ .estop →
    F p) :
    Keeps F a (s.imageFail cause i) := by
  unfold State.imageFail
  simp (maxDischargeDepth := 60) +contextual [h, hF]

@[simp ↓] theorem execFirmwareStartTimeout_keeps (h : Keeps F a s) (hF : ∀ p, p ≠ .pending → p ≠ .estop → F p) :
    KeepsOut F a (execFirmwareStartTimeout s) := by
  unfold execFirmwareStartTimeout
  simp (maxDischargeDepth := 60) +contextual [h, hF]

@[simp ↓] theorem fabDiscover_keeps (h : Keeps F a s) (hF : F .regs) :
    Keeps F a (s.fabDiscover) := by
  unfold State.fabDiscover
  simp (maxDischargeDepth := 60) [h, hF]

@[simp ↓] theorem firmwareRuns_keeps {us : Nat} (h : Keeps F a s) (hF : F .regs ∧ F .boot) :
    Keeps F a (s.firmwareRuns us) := by
  unfold State.firmwareRuns
  simp (maxDischargeDepth := 60) [h, hF]

@[simp ↓] theorem layoutCheck_keeps (h : Keeps F a s) (hF : F .regs ∧ F .log) :
    Keeps F a (s.layoutCheck) := by
  unfold State.layoutCheck
  simp (maxDischargeDepth := 60) [h, hF]

@[simp ↓] theorem placeAreas_keeps (h : Keeps F a s) (hF : F .regs ∧ F .log) :
    Keeps F a (s.placeAreas) := by
  unfold State.placeAreas
  simp (maxDischargeDepth := 60) [h, hF]

@[simp ↓] theorem domStart_keeps {d : Nat} (h : Keeps F a s) (hF : F .regs) :
    Keeps F a (s.domStart d) := by
  unfold State.domStart
  simp (maxDischargeDepth := 60) [h, hF]

@[simp ↓] theorem fbStart_keeps {x : Nat} (h : Keeps F a s) (hF : F .regs ∧ F .motion) :
    Keeps F a (s.fbStart x) := by
  unfold State.fbStart
  simp (maxDischargeDepth := 60) [h, hF]

@[simp ↓] theorem bandCheck_keeps {k : Nat} (h : Keeps F a s) (hF : F .regs) :
    Keeps F a (s.bandCheck k) := by
  unfold State.bandCheck
  simp (maxDischargeDepth := 60) [h, hF]

@[simp ↓] theorem portEnable_keeps {p : Nat} (h : Keeps F a s) (hF : F .regs ∧ F .freeCount ∧ F .log ∧ F .sent ∧ F
    .hp) :
    Keeps F a (s.portEnable p) := by
  unfold State.portEnable
  simp (maxDischargeDepth := 60) [h, hF]

@[simp ↓] theorem portEnables_keeps (h : Keeps F a s) (hF : F .regs ∧ F .freeCount ∧ F .log ∧ F .sent ∧ F .hp) :
    Keeps F a (s.portEnables) := by
  unfold State.portEnables
  simp (maxDischargeDepth := 60) +contextual [h, hF]

@[simp ↓] theorem lockNow_keeps {us : Nat} (h : Keeps F a s) (hF : F .regs ∧ F .tables ∧ F .freeCount ∧ F .locked ∧
    F .log ∧ F .ver ∧ F .cal ∧ F .motion ∧ F .sent ∧ F .hp ∧ F .fab ∧ F .ln ∧ F .boot ∧ F .phase) :
    Keeps F a (s.lockNow us) := by
  unfold State.lockNow
  simp (maxDischargeDepth := 60) +contextual [h, hF]

@[simp ↓] theorem execConfigLock_keeps {us : Nat} {mgt : Nat} (h : Keeps F a s) (hF : F .regs ∧ F .tables ∧ F
    .freeCount ∧ F .locked ∧ F .log ∧ F .ver ∧ F .cal ∧ F .motion ∧ F .sent ∧ F .hp ∧ F .fab ∧ F .ln ∧ F .boot ∧ F
    .phase) :
    KeepsOut F a (execConfigLock us mgt s) := by
  unfold execConfigLock
  simp (maxDischargeDepth := 60) [h, hF]

@[simp ↓] theorem execCfgLock_keeps {path : Path} {us : Nat} (h : Keeps F a s) (hF : F .regs ∧ F .tables ∧ F
    .freeCount ∧ F .locked ∧ F .log ∧ F .ver ∧ F .cal ∧ F .motion ∧ F .sent ∧ F .hp ∧ F .fab ∧ F .ln ∧ F .boot ∧ F
    .phase) :
    KeepsOut F a (execCfgLock path us s) := by
  unfold execCfgLock
  simp (maxDischargeDepth := 60) [h, hF]

@[simp ↓] theorem updEnd_keeps {op : Nat} {r : Nat} (h : Keeps F a s) (hF : F .regs) :
    Keeps F a (s.updEnd op r) := by
  unfold State.updEnd
  simp (maxDischargeDepth := 60) [h, hF]

@[simp ↓] theorem updBegin_keeps {op : Nat} (h : Keeps F a s) (hF : F .regs) :
    Keeps F a (s.updBegin op) := by
  unfold State.updBegin
  simp (maxDischargeDepth := 60) [h, hF]

@[simp ↓] theorem execUpdProgram_keeps {w : Word} (h : Keeps F a s) (hF : F .regs ∧ F .boot) :
    KeepsOut F a (execUpdProgram w s) := by
  unfold execUpdProgram
  simp (maxDischargeDepth := 60) [h, hF]

@[simp ↓] theorem execUpdProgramDone_keeps {diffs : List (Nat × Byte)} (h : Keeps F a s) (hF : F .regs ∧ F .boot) :
    KeepsOut F a (execUpdProgramDone diffs s) := by
  unfold execUpdProgramDone
  (repeat' split) <;> simp (maxDischargeDepth := 60) +contextual [h, hF]

@[simp ↓] theorem execUpdCheck_keeps {w : Word} {readFail : Bool} (h : Keeps F a s) (hF : F .regs ∧ F .boot) :
    KeepsOut F a (execUpdCheck w readFail s) := by
  unfold execUpdCheck
  simp (maxDischargeDepth := 60) [h, hF]

@[simp ↓] theorem execUpdHandover_keeps (h : Keeps F a s) (hF : F .regs ∧ F .boot) :
    KeepsOut F a (execUpdHandover s) := by
  unfold execUpdHandover
  simp (maxDischargeDepth := 60) [h, hF]

@[simp ↓] theorem execUpdAbortHandover_keeps (h : Keeps F a s) (hF : F .regs ∧ F .boot) :
    KeepsOut F a (execUpdAbortHandover s) := by
  unfold execUpdAbortHandover
  simp (maxDischargeDepth := 60) [h, hF]

@[simp ↓] theorem swapRole_keeps {r : Nat} {n : Nat} (h : Keeps F a s) (hF : F .regs) :
    Keeps F a (s.swapRole r n) := by
  unfold State.swapRole
  (repeat' split) <;> simp (maxDischargeDepth := 60) +contextual [h, hF]

@[simp ↓] theorem movePair_keeps {k : Nat} (h : Keeps F a s) (hF : F .regs) :
    Keeps F a (s.movePair k) := by
  unfold State.movePair
  (repeat' split) <;> simp (maxDischargeDepth := 60) +contextual [h, hF]

@[simp ↓] theorem handDone_keeps (h : Keeps F a s) (hF : F .regs ∧ F .mem ∧ F .log ∧ F .sent ∧ F .dram ∧ F .boot) :
    Keeps F a (s.handDone) := by
  unfold State.handDone
  simp (maxDischargeDepth := 60) [h, hF]

@[simp ↓] theorem outRequests_keeps (h : Keeps F a s) (hF : F .regs ∧ F .tables ∧ F .mem ∧ F .freeCount ∧ F .log ∧
    F .cores ∧ F .layers ∧ F .lpBytes ∧ F .units ∧ F .rows ∧ F .surveys ∧ F .ver ∧ F .gy ∧ F .recs ∧ F .blocks ∧ F
    .pins ∧ F .motion ∧ F .sent ∧ F .hp ∧ F .dram ∧ F .boot ∧ F .pw) :
    Keeps F a (s.outRequests) := by
  unfold State.outRequests
  simp (maxDischargeDepth := 60) +contextual [h, hF]

@[simp ↓] theorem execHandoverRoleMove_keeps (h : Keeps F a s) (hF : F .regs ∧ F .tables ∧ F .mem ∧ F .freeCount ∧
    F .log ∧ F .cores ∧ F .layers ∧ F .lpBytes ∧ F .units ∧ F .rows ∧ F .surveys ∧ F .ver ∧ F .gy ∧ F .recs ∧ F
    .blocks ∧ F .pins ∧ F .motion ∧ F .sent ∧ F .hp ∧ F .dram ∧ F .boot ∧ F .pw) :
    KeepsOut F a (execHandoverRoleMove s) := by
  unfold execHandoverRoleMove
  dsimp only
  repeat' first
    | (simp (maxDischargeDepth := 60) +contextual [h, hF]; done)
    | split
    | (rename_i e; obtain rfl := congrArg Prod.snd e)

@[simp ↓] theorem execOtpProgram_keeps {w : Word} (h : Keeps F a s) (hF : F .regs ∧ F .boot) :
    KeepsOut F a (execOtpProgram w s) := by
  unfold execOtpProgram
  split
  · simp [h]
  · dsimp only
    split
    · simp [h, hF]
    · rename_i hn
      have hn : s.boot.otp = none := by
        cases e : s.boot.otp with
        | none => rfl
        | some k => simp [e] at hn
      exact keepsOut_next.2 (setFld_keeps (setFld_keeps (keeps_otpBegin h hF.2 hn) hF.1) hF.1)

@[simp ↓] theorem execOtpProgramDone_keeps {ok : Bool} (h : Keeps F a s) (hF : F .regs ∧ F .boot) :
    KeepsOut F a (execOtpProgramDone ok s) := by
  unfold execOtpProgramDone
  split
  · simp [h]
  · rename_i k hk
    have h1 := setFld_keeps (y1 := Reg.CFG_OTP_STATUS) (f := Fld.CFG_OTP_STATUS_BUSY) (v := 0) h hF.1
    dsimp only
    split
    · exact keepsOut_next.2 (showKey_keeps (keeps_otpDone h1 hF.2 hk) hF.1)
    · exact keepsOut_next.2 (setFld_keeps (keeps_otpEnd h1 hF.2) hF.1)

end Sys2Proof.Laws
end

