-- ==== Sys2Proof/Laws/KeepsPower.lean ====
section
/-! SUPPORT. What the operations of Sys2Proof/Machine/Power.lean can change: one lemma each. -/

set_option linter.unusedTactic false
set_option linter.unreachableTactic false
set_option Elab.async false

namespace Sys2Proof.Laws

open Sys2Proof.Machine Sys2Proof.Safety

variable {F : Part → Prop} {a s : State}

@[simp ↓] theorem onPw_keeps {f : Power → Power} (h : Keeps F a s) (hF : F .pw) :
    Keeps F a (s.onPw f) := by
  unfold State.onPw
  simp (maxDischargeDepth := 60) [h, hF]

@[simp ↓] theorem askVcore_keeps {mv : Nat} (h : Keeps F a s) (hF : F .regs ∧ F .ver ∧ F .hm ∧ F .pw) :
    Keeps F a (s.askVcore mv) := by
  unfold State.askVcore
  simp (maxDischargeDepth := 60) [h, hF]

@[simp ↓] theorem leaveLd_keeps {q : Nat} (h : Keeps F a s) (hF : F .regs ∧ F .freeCount ∧ F .log ∧ F .sent ∧ F .hp
    ∧ F .fab ∧ F .ln ∧ F .ing) :
    Keeps F a (s.leaveLd q) := by
  unfold State.leaveLd
  simp (maxDischargeDepth := 60) +contextual [h, hF]

@[simp ↓] theorem clearSlots_keeps (h : Keeps F a s) (hF : F .regs ∧ F .due) :
    Keeps F a (s.clearSlots) := by
  unfold State.clearSlots
  simp (maxDischargeDepth := 60) +contextual [h, hF]

@[simp ↓] theorem laneLd_keeps {q : Nat} (h : Keeps F a s) (hF : F .regs ∧ F .log ∧ F .sent ∧ F .hp ∧ F .fab ∧ F
    .ln ∧ F .ing) :
    Keeps F a (s.laneLd q) := by
  unfold State.laneLd
  simp (maxDischargeDepth := 60) +contextual [h, hF]

@[simp ↓] theorem mirrorRing_keeps (h : Keeps F a s) (hF : F .regs ∧ F .mem ∧ F .dram) :
    Keeps F a (s.mirrorRing) := by
  unfold State.mirrorRing
  refine keeps_ite h (keeps_foldl h fun t x ht => ?_)
  split <;> simp (maxDischargeDepth := 60) [ht, hF]

@[simp ↓] theorem enterDeep_keeps {aon : Nat} (h : Keeps F a s) (hF : F .regs ∧ F .tables ∧ F .mem ∧ F .locked ∧ F
    .paths ∧ F .log ∧ F .cores ∧ F .units ∧ F .rows ∧ F .surveys ∧ F .clk ∧ F .parser ∧ F .ver ∧ F .beams ∧ F .gy ∧
    F .sram ∧ F .cache ∧ F .pins ∧ F .motion ∧ F .sent ∧ F .hp ∧ F .doms ∧ F .due ∧ F .fab ∧ F .ln ∧ F .dram ∧ F
    .ing) :
    Keeps F a (s.enterDeep aon) := by
  unfold State.enterDeep
  extract_lets s1 s2 t clk0 clk g u1 u2 u3
  have h1 : Keeps F a s1 := by
    unfold s1
    refine clearSlots_keeps (mirrorRing_keeps (keeps_foldl h fun t x ht => ?_) (by simp [hF])) (by simp [hF])
    simp (maxDischargeDepth := 60) [ht, hF]
  clear_value s1
  have h2 : Keeps F a s2 := by
    unfold s2
    refine keeps_foldl (by simp (maxDischargeDepth := 60) [h1, hF]) fun t x ht => ?_
    simp (maxDischargeDepth := 60) [ht, hF]
  have hu : Keeps F a u1 := by
    refine h2.upd (fun p hp => ?_) (fun i => ⟨i.1, canon_filter i.2.1, canon_filter i.2.2.1, ?_, i.2.2.2.2⟩)
      (Nat.le_refl _) fun _ k hk => hk
    · cases p <;> first | rfl | exact absurd (by simp [hF]) hp
    · have := i.2.2.2.1
      simp only [unitsOk, Bool.and_eq_true, beq_iff_eq] at this ⊢
      simp [u1, t, State.reset, this]
  clear_value u1
  have hv : Keeps F a u2 := by
    unfold u2
    simp (maxDischargeDepth := 60) [hu, hF]
  clear_value u2
  have hw : Keeps F a u3 := by
    unfold u3
    simp (maxDischargeDepth := 60) [hv, hF]
  clear_value u3
  simp (maxDischargeDepth := 60) [hw, hF]

@[simp ↓] theorem stepStart_keeps {y1 : Nat} {b : Nat} (h : Keeps F a s) (hF : F .regs ∧ F .ver ∧ F .gy ∧ F .hm ∧ F
    .sram ∧ F .cache ∧ F .pins ∧ F .motion ∧ F .sent ∧ F .hp ∧ F .due ∧ F .fab ∧ F .ln ∧ F .ing ∧ F .pw) :
    Keeps F a (s.stepStart y1 b) := by
  unfold State.stepStart
  (repeat' split) <;> simp (maxDischargeDepth := 60) +contextual [h, hF]

@[simp ↓] theorem headWake_keeps {p : Nat} (h : Keeps F a s) (hF : F .regs ∧ F .freeCount ∧ F .log ∧ F .sent ∧ F
    .hp ∧ F .fab ∧ F .ln ∧ F .ing) :
    Keeps F a (s.headWake p) := by
  unfold State.headWake
  simp (maxDischargeDepth := 60) [h, hF]

@[simp ↓] theorem stepVolt_keeps (h : Keeps F a s) (hF : F .regs ∧ F .freeCount ∧ F .log ∧ F .sent ∧ F .hp ∧ F .fab
    ∧ F .ln ∧ F .ing) :
    Keeps F a (s.stepVolt) := by
  unfold State.stepVolt
  simp (maxDischargeDepth := 60) +contextual [h, hF]

@[simp ↓] theorem stepNone_keeps (h : Keeps F a s) (hF : F .regs ∧ F .pw) :
    Keeps F a (s.stepNone) := by
  unfold State.stepNone
  simp (maxDischargeDepth := 60) [h, hF]

@[simp ↓] theorem pwrRefuse_keeps {path : Path} {c : Nat} (h : Keeps F a s) (hF : F .regs) :
    Keeps F a (s.pwrRefuse path c) := by
  unfold State.pwrRefuse
  simp (maxDischargeDepth := 60) [h, hF]

@[simp ↓] theorem nextStep_keeps (h : Keeps F a s) (hF : F .regs ∧ F .ver ∧ F .gy ∧ F .hm ∧ F .sram ∧ F .cache ∧ F
    .pins ∧ F .motion ∧ F .sent ∧ F .hp ∧ F .due ∧ F .fab ∧ F .ln ∧ F .ing ∧ F .pw) :
    Keeps F a (s.nextStep).2 := by
  unfold State.nextStep
  dsimp only
  repeat' first
    | (simp (maxDischargeDepth := 60) +contextual [h, hF]; done)
    | split
    | (rename_i e; obtain rfl := congrArg Prod.snd e)

@[simp ↓] theorem pwrStart_keeps {path : Path} {t : Nat} (h : Keeps F a s) (hF : F .regs ∧ F .ver ∧ F .gy ∧ F .hm ∧
    F .sram ∧ F .cache ∧ F .pins ∧ F .motion ∧ F .sent ∧ F .hp ∧ F .due ∧ F .fab ∧ F .ln ∧ F .ing ∧ F .pw) :
    Keeps F a (s.pwrStart path t).2 := by
  unfold State.pwrStart
  simp (maxDischargeDepth := 60) [h, hF]

@[simp ↓] theorem pwrPend_keeps (h : Keeps F a s) (hF : F .regs ∧ F .ver ∧ F .gy ∧ F .hm ∧ F .sram ∧ F .cache ∧ F
    .pins ∧ F .motion ∧ F .sent ∧ F .hp ∧ F .due ∧ F .fab ∧ F .ln ∧ F .ing ∧ F .pw) :
    Keeps F a (s.pwrPend) := by
  unfold State.pwrPend
  simp (maxDischargeDepth := 60) [h, hF]

@[simp ↓] theorem pwrQueue_keeps {path : Path} {t : Nat} (h : Keeps F a s) (hF : F .regs ∧ F .ver ∧ F .gy ∧ F .hm ∧
    F .sram ∧ F .cache ∧ F .pins ∧ F .motion ∧ F .sent ∧ F .hp ∧ F .due ∧ F .fab ∧ F .ln ∧ F .ing ∧ F .pw) :
    Keeps F a (s.pwrQueue path t).2 := by
  unfold State.pwrQueue
  repeat' first
    | (simp (maxDischargeDepth := 60) +contextual [h, hF]; done)
    | split
    | (rename_i e; obtain rfl := congrArg Prod.snd e)

@[simp ↓] theorem pwrRequest_keeps {path : Path} {t : Nat} {code : Nat} (h : Keeps F a s) (hF : F .regs ∧ F .ver ∧
    F .gy ∧ F .hm ∧ F .sram ∧ F .cache ∧ F .pins ∧ F .motion ∧ F .sent ∧ F .hp ∧ F .due ∧ F .fab ∧ F .ln ∧ F .ing ∧
    F .pw) :
    Keeps F a (s.pwrRequest path t code).2 := by
  unfold State.pwrRequest
  (repeat' split) <;> simp (maxDischargeDepth := 60) +contextual [h, hF]

@[simp ↓] theorem wakeEvent_keeps {src : Nat} {lane : Nat} (h : Keeps F a s) (hF : F .regs ∧ F .ver ∧ F .gy ∧ F .hm
    ∧ F .sram ∧ F .cache ∧ F .pins ∧ F .motion ∧ F .sent ∧ F .hp ∧ F .due ∧ F .fab ∧ F .ln ∧ F .ing ∧ F .pw) :
    Keeps F a (s.wakeEvent src lane) := by
  unfold State.wakeEvent
  simp (maxDischargeDepth := 60) [h, hF]

@[simp ↓] theorem powerAct_keeps {arg0 : Nat} {yarg1 : Nat} (h : Keeps F a s) (hF : F .regs ∧ F .ver ∧ F .gy ∧ F
    .hm ∧ F .sram ∧ F .cache ∧ F .pins ∧ F .motion ∧ F .sent ∧ F .hp ∧ F .due ∧ F .fab ∧ F .ln ∧ F .ing ∧ F .pw) :
    Keeps F a (s.powerAct arg0 yarg1).2 := by
  unfold State.powerAct
  simp (maxDischargeDepth := 60) [h, hF]

@[simp ↓] theorem powerDue_keeps (h : Keeps F a s) (hF : F .regs ∧ F .log ∧ F .clk ∧ F .ver ∧ F .gy ∧ F .hm ∧ F
    .sram ∧ F .cache ∧ F .pins ∧ F .motion ∧ F .sent ∧ F .hp ∧ F .due ∧ F .fab ∧ F .ln ∧ F .ing ∧ F .pw) :
    Keeps F a (s.powerDue) := by
  unfold State.powerDue
  simp (maxDischargeDepth := 60) +contextual [h, hF]

@[simp ↓] theorem execPwrRequest_keeps {path : Path} {w : Word} (h : Keeps F a s) (hF : F .regs ∧ F .log ∧ F .clk ∧
    F .ver ∧ F .gy ∧ F .hm ∧ F .sram ∧ F .cache ∧ F .pins ∧ F .motion ∧ F .sent ∧ F .hp ∧ F .due ∧ F .fab ∧ F .ln ∧
    F .ing ∧ F .pw) :
    KeepsOut F a (execPwrRequest path w s) := by
  unfold execPwrRequest
  simp (maxDischargeDepth := 60) [h, hF]

@[simp ↓] theorem execIdleAfterTimeout_keeps (h : Keeps F a s) (hF : F .regs ∧ F .ver ∧ F .gy ∧ F .hm ∧ F .sram ∧ F
    .cache ∧ F .pins ∧ F .motion ∧ F .sent ∧ F .hp ∧ F .due ∧ F .fab ∧ F .ln ∧ F .ing ∧ F .pw) :
    KeepsOut F a (execIdleAfterTimeout s) := by
  unfold execIdleAfterTimeout
  simp (maxDischargeDepth := 60) [h, hF]

@[simp ↓] theorem execWakePin_keeps {i : Fin 2} {high : Bool} {us : Nat} (h : Keeps F a s) (hF : F .regs ∧ F .ver ∧
    F .gy ∧ F .hm ∧ F .sram ∧ F .cache ∧ F .pins ∧ F .motion ∧ F .sent ∧ F .hp ∧ F .due ∧ F .fab ∧ F .ln ∧ F .ing ∧
    F .pw) :
    KeepsOut F a (execWakePin i high us s) := by
  unfold execWakePin
  simp (maxDischargeDepth := 60) [h, hF]

@[simp ↓] theorem execWakeTimer_keeps (h : Keeps F a s) (hF : F .regs ∧ F .ver ∧ F .gy ∧ F .hm ∧ F .sram ∧ F .cache
    ∧ F .pins ∧ F .motion ∧ F .sent ∧ F .hp ∧ F .due ∧ F .fab ∧ F .ln ∧ F .ing ∧ F .pw) :
    KeepsOut F a (execWakeTimer s) := by
  unfold execWakeTimer
  simp (maxDischargeDepth := 60) [h, hF]

@[simp ↓] theorem execWakePatternDetect_keeps {n : Fin 41} {full : Bool} (h : Keeps F a s) (hF : F .regs ∧ F
    .freeCount ∧ F .log ∧ F .ver ∧ F .gy ∧ F .hm ∧ F .sram ∧ F .cache ∧ F .pins ∧ F .motion ∧ F .sent ∧ F .hp ∧ F
    .due ∧ F .fab ∧ F .ln ∧ F .ing ∧ F .pw) :
    KeepsOut F a (execWakePatternDetect n full s) := by
  unfold execWakePatternDetect
  simp (maxDischargeDepth := 60) [h, hF]

@[simp ↓] theorem execVcorePoll_keeps {mv : Nat} {fault : Bool} (h : Keeps F a s) (hF : F .regs ∧ F .freeCount ∧ F
    .log ∧ F .sent ∧ F .hp ∧ F .fab ∧ F .ln ∧ F .ing ∧ F .pw) :
    KeepsOut F a (execVcorePoll mv fault s) := by
  unfold execVcorePoll
  (repeat' split) <;> simp (maxDischargeDepth := 60) +contextual [h, hF]

@[simp ↓] theorem stepUndo_keeps (h : Keeps F a s) (hF : F .regs ∧ F .freeCount ∧ F .log ∧ F .ver ∧ F .sent ∧ F .hp
    ∧ F .fab ∧ F .ln ∧ F .ing) :
    Keeps F a (s.stepUndo) := by
  unfold State.stepUndo
  simp (maxDischargeDepth := 60) +contextual [h, hF]

@[simp ↓] theorem execVcoreTimeout_keeps (h : Keeps F a s) (hF : F .regs ∧ F .tables ∧ F .mem ∧ F .freeCount ∧ F
    .log ∧ F .cores ∧ F .layers ∧ F .lpBytes ∧ F .units ∧ F .rows ∧ F .surveys ∧ F .ver ∧ F .gy ∧ F .recs ∧ F
    .blocks ∧ F .hm ∧ F .sram ∧ F .cache ∧ F .pins ∧ F .motion ∧ F .sent ∧ F .hp ∧ F .due ∧ F .fab ∧ F .ln ∧ F
    .dram ∧ F .ing ∧ F .boot ∧ F .pw) :
    KeepsOut F a (execVcoreTimeout s) := by
  unfold execVcoreTimeout
  simp (maxDischargeDepth := 60) [h, hF]

@[simp ↓] theorem stepReach_keeps {b : Nat} (h : Keeps F a s) (hF : F .regs ∧ F .ver ∧ F .gy ∧ F .hm ∧ F .sram ∧ F
    .cache ∧ F .pins ∧ F .motion ∧ F .sent ∧ F .hp ∧ F .due ∧ F .fab ∧ F .ln ∧ F .ing ∧ F .pw) :
    Keeps F a (s.stepReach b) := by
  unfold State.stepReach
  simp (maxDischargeDepth := 60) [h, hF]

@[simp ↓] theorem execPwrStepDone_keeps {aon : Nat} (h : Keeps F a s) (hF : ∀ p, p ≠ .pending → p ≠ .estop → F p) :
    KeepsOut F a (execPwrStepDone aon s) := by
  unfold execPwrStepDone
  (repeat' split) <;> simp (maxDischargeDepth := 60) +contextual [h, hF]

@[simp ↓] theorem execSwathCapture_keeps (h : Keeps F a s) (hF : F .regs ∧ F .tables ∧ F .mem ∧ F .freeCount ∧ F
    .log ∧ F .cores ∧ F .layers ∧ F .lpBytes ∧ F .units ∧ F .rows ∧ F .surveys ∧ F .ver ∧ F .beams ∧ F .gy ∧ F
    .recs ∧ F .blocks ∧ F .hm ∧ F .sram ∧ F .cache ∧ F .pins ∧ F .motion ∧ F .sent ∧ F .hp ∧ F .due ∧ F .fab ∧ F
    .ln ∧ F .dram ∧ F .ing ∧ F .boot ∧ F .pw) :
    KeepsOut F a (execSwathCapture s) := by
  unfold execSwathCapture
  (repeat' split) <;> simp (maxDischargeDepth := 60) +contextual [h, hF]

end Sys2Proof.Laws
end

