-- ==== Sys2Proof/Laws/KeepsHealth.lean ====
section
/-! SUPPORT. What the operations of Sys2Proof/Machine/Health.lean can change: one lemma each. -/

set_option linter.unusedTactic false
set_option linter.unreachableTactic false
set_option Elab.async false

namespace Sys2Proof.Laws

open Sys2Proof.Machine Sys2Proof.Safety

variable {F : Part → Prop} {a s : State}

@[simp ↓] theorem hmEnter_keeps {c : Nat} {old : Nat} {n : Nat} {q : Int} (h : Keeps F a s) (hF : F .regs ∧ F
    .tables ∧ F .mem ∧ F .freeCount ∧ F .log ∧ F .cores ∧ F .layers ∧ F .lpBytes ∧ F .units ∧ F .rows ∧ F .surveys
    ∧ F .ver ∧ F .gy ∧ F .recs ∧ F .blocks ∧ F .hm ∧ F .sram ∧ F .cache ∧ F .pins ∧ F .motion ∧ F .sent ∧ F .hp ∧ F
    .due ∧ F .fab ∧ F .ln ∧ F .dram ∧ F .ing ∧ F .boot ∧ F .pw) :
    Keeps F a (s.hmEnter c old n q) := by
  unfold State.hmEnter
  simp (maxDischargeDepth := 60) [h, hF]

@[simp ↓] theorem hmSettle_keeps {c : Nat} {x : HmChan} {q : Int} (h : Keeps F a s) (hF : F .regs ∧ F .tables ∧ F
    .mem ∧ F .freeCount ∧ F .log ∧ F .cores ∧ F .layers ∧ F .lpBytes ∧ F .units ∧ F .rows ∧ F .surveys ∧ F .ver ∧ F
    .gy ∧ F .recs ∧ F .blocks ∧ F .hm ∧ F .sram ∧ F .cache ∧ F .pins ∧ F .motion ∧ F .sent ∧ F .hp ∧ F .due ∧ F
    .fab ∧ F .ln ∧ F .dram ∧ F .ing ∧ F .boot ∧ F .pw) :
    Keeps F a (s.hmSettle c x q) := by
  unfold State.hmSettle
  simp (maxDischargeDepth := 60) [h, hF]

@[simp ↓] theorem hmDev_keeps {v : Int} {r : Int} (h : Keeps F a s) (hF : F .freeCount) :
    Keeps F a (s.hmDev v r).2 := by
  unfold State.hmDev
  dsimp only
  repeat' first
    | (simp (maxDischargeDepth := 60) +contextual [h, hF]; done)
    | split
    | (rename_i e; obtain rfl := congrArg Prod.snd e)

@[simp ↓] theorem execHmSample_keeps {c : Fin 56} {valid : Bool} {v : BitVec 16} {rail : BitVec 16} (h : Keeps F a
    s) (hF : F .regs ∧ F .tables ∧ F .mem ∧ F .freeCount ∧ F .log ∧ F .cores ∧ F .layers ∧ F .lpBytes ∧ F .units ∧
    F .rows ∧ F .surveys ∧ F .ver ∧ F .gy ∧ F .recs ∧ F .blocks ∧ F .hm ∧ F .sram ∧ F .cache ∧ F .pins ∧ F .motion
    ∧ F .sent ∧ F .hp ∧ F .due ∧ F .fab ∧ F .ln ∧ F .dram ∧ F .ing ∧ F .boot ∧ F .pw) :
    KeepsOut F a (execHmSample c valid v rail s) := by
  unfold execHmSample
  (repeat' split) <;> simp (maxDischargeDepth := 60) +contextual [h, hF]

@[simp ↓] theorem followTcal_keeps (h : Keeps F a s) (hF : F .regs ∧ F .cal) :
    Keeps F a (s.followTcal) := by
  unfold State.followTcal
  simp (maxDischargeDepth := 60) +contextual [h, hF]

@[simp ↓] theorem convDue_keeps {x : Nat} (h : Keeps F a s) (hF : F .regs) :
    Keeps F a (s.convDue x) := by
  unfold State.convDue
  simp (maxDischargeDepth := 60) [h, hF]

@[simp ↓] theorem execTcalUpdate_keeps (h : Keeps F a s) (hF : F .regs ∧ F .cal) :
    KeepsOut F a (execTcalUpdate s) := by
  unfold execTcalUpdate
  simp (maxDischargeDepth := 60) +contextual [h, hF]

@[simp ↓] theorem execCalRun_keeps {path : Path} {w : Word} (h : Keeps F a s) (hF : F .regs) :
    KeepsOut F a (execCalRun path w s) := by
  unfold execCalRun
  dsimp only
  repeat' first
    | (simp (maxDischargeDepth := 60) +contextual [h, hF]; done)
    | split
    | (rename_i e; obtain rfl := congrArg Prod.snd e)

@[simp ↓] theorem execCalFix_keeps {path : Path} {w : Word} (h : Keeps F a s) (hF : F .regs ∧ F .cal) :
    KeepsOut F a (execCalFix path w s) := by
  unfold execCalFix
  simp (maxDischargeDepth := 60) [h, hF]

@[simp ↓] theorem execCalInterp_keeps {path : Path} {w : Word} (h : Keeps F a s) (hF : F .regs ∧ F .cal) :
    KeepsOut F a (execCalInterp path w s) := by
  unfold execCalInterp
  simp (maxDischargeDepth := 60) [h, hF]

@[simp ↓] theorem execCalClearFail_keeps {w : Word} (h : Keeps F a s) (hF : F .regs) :
    KeepsOut F a (execCalClearFail w s) := by
  unfold execCalClearFail
  simp (maxDischargeDepth := 60) [h, hF]

@[simp ↓] theorem calApply_keeps {t : Nat} {k : Nat} (h : Keeps F a s) (hF : F .regs ∧ F .cal) :
    Keeps F a (s.calApply t k).2 := by
  unfold State.calApply
  dsimp only
  repeat' first
    | (simp (maxDischargeDepth := 60) +contextual [h, hF]; done)
    | split
    | (rename_i e; obtain rfl := congrArg Prod.snd e)

@[simp ↓] theorem execSensorCalTimer_keeps (h : Keeps F a s) (hF : F .regs ∧ F .cal) :
    KeepsOut F a (execSensorCalTimer s) := by
  unfold execSensorCalTimer
  simp (maxDischargeDepth := 60) [h, hF]

@[simp ↓] theorem execConvCalTimer_keeps {x : Fin 2} (h : Keeps F a s) (hF : F .regs) :
    KeepsOut F a (execConvCalTimer x s) := by
  unfold execConvCalTimer
  simp (maxDischargeDepth := 60) [h, hF]

@[simp ↓] theorem execFiringCalTimer_keeps (h : Keeps F a s) (hF : F .regs) :
    KeepsOut F a (execFiringCalTimer s) := by
  unfold execFiringCalTimer
  simp (maxDischargeDepth := 60) +contextual [h, hF]

@[simp ↓] theorem calTake_keeps {t : Nat} {v : List Int} (h : Keeps F a s) (hF : F .regs ∧ F .tables ∧ F .cal ∧ F
    .boot) :
    Keeps F a (s.calTake t v) := by
  unfold State.calTake
  (repeat' split) <;> simp (maxDischargeDepth := 60) +contextual [h, hF]

@[simp ↓] theorem execCalMeasureDone_keeps {t : Fin 105} {m1 : List Int} {m2 : List Int} (h : Keeps F a s) (hF : F
    .regs ∧ F .tables ∧ F .log ∧ F .cal ∧ F .boot) :
    KeepsOut F a (execCalMeasureDone t m1 m2 s) := by
  unfold execCalMeasureDone
  simp (maxDischargeDepth := 60) [h, hF]

@[simp ↓] theorem execConverterSwap_keeps {x : Fin 2} {now : Int × Int} {idle : Int × Int} (h : Keeps F a s) (hF :
    F .regs ∧ F .freeCount ∧ F .cal) :
    KeepsOut F a (execConverterSwap x now idle s) := by
  unfold execConverterSwap
  simp (maxDischargeDepth := 60) [h, hF]

@[simp ↓] theorem setDelay_keeps {r : Nat} {d : Nat} (h : Keeps F a s) (hF : F .tables) :
    Keeps F a (s.setDelay r d) := by
  unfold State.setDelay
  simp (maxDischargeDepth := 60) [h, hF]

@[simp ↓] theorem stepDelay_keeps {p : Nat} {r : Nat} {d : Nat} (h : Keeps F a s) (hF : F .tables ∧ F .cal) :
    Keeps F a (s.stepDelay p r d) := by
  unfold State.stepDelay
  simp (maxDischargeDepth := 60) [h, hF]

@[simp ↓] theorem execFiringDelayStep_keeps {r : Fin 4096} (h : Keeps F a s) (hF : F .tables ∧ F .cal) :
    KeepsOut F a (execFiringDelayStep r s) := by
  unfold execFiringDelayStep
  simp (maxDischargeDepth := 60) [h, hF]

end Sys2Proof.Laws
end

