-- ==== Sys2Proof/Laws/KeepsRecPort.lean ====
section
/-! SUPPORT. What the operations of Sys2Proof/Machine/RecPort.lean can change: one lemma each. -/

set_option linter.unusedTactic false
set_option linter.unreachableTactic false
set_option Elab.async false

namespace Sys2Proof.Laws

open Sys2Proof.Machine Sys2Proof.Safety

variable {F : Part → Prop} {a s : State}

@[simp ↓] theorem recRelease_keeps {ofs : Nat} (h : Keeps F a s) (hF : F .regs ∧ F .tables ∧ F .mem ∧ F .freeCount
    ∧ F .log ∧ F .cores ∧ F .layers ∧ F .lpBytes ∧ F .units ∧ F .rows ∧ F .surveys ∧ F .ver ∧ F .gy ∧ F .recs ∧ F
    .blocks ∧ F .pins ∧ F .motion ∧ F .sent ∧ F .hp ∧ F .dram ∧ F .boot) :
    Keeps F a (s.recRelease ofs) := by
  unfold State.recRelease
  simp (maxDischargeDepth := 60) [h, hF]

@[simp ↓] theorem releaseCommit_keeps {path : Path} {w : Word} (h : Keeps F a s) (hF : F .regs ∧ F .tables ∧ F .mem
    ∧ F .freeCount ∧ F .paths ∧ F .log ∧ F .cores ∧ F .layers ∧ F .lpBytes ∧ F .units ∧ F .rows ∧ F .surveys ∧ F
    .ver ∧ F .gy ∧ F .recs ∧ F .blocks ∧ F .pins ∧ F .motion ∧ F .sent ∧ F .hp ∧ F .dram ∧ F .boot) :
    Keeps F a (s.releaseCommit path w) := by
  unfold State.releaseCommit
  simp (maxDischargeDepth := 60) [h, hF]

@[simp ↓] theorem execRecReleaseCommit_keeps {path : Path} {w : Word} (h : Keeps F a s) (hF : F .regs ∧ F .tables ∧
    F .mem ∧ F .freeCount ∧ F .paths ∧ F .log ∧ F .cores ∧ F .layers ∧ F .lpBytes ∧ F .units ∧ F .rows ∧ F .surveys
    ∧ F .ver ∧ F .gy ∧ F .recs ∧ F .blocks ∧ F .pins ∧ F .motion ∧ F .sent ∧ F .hp ∧ F .dram ∧ F .boot) :
    KeepsOut F a (execRecReleaseCommit path w s) := by
  unfold execRecReleaseCommit
  simp (maxDischargeDepth := 60) [h, hF]

@[simp ↓] theorem recChunk_keeps {node : Nat} {o : Nat} {n : Nat} (h : Keeps F a s) (hF : F .regs ∧ F .mem ∧ F
    .freeCount ∧ F .log ∧ F .sent ∧ F .dram ∧ F .ing) :
    Keeps F a (s.recChunk node o n) := by
  unfold State.recChunk
  simp (maxDischargeDepth := 60) +contextual [h, hF]

@[simp ↓] theorem inParts_keeps {f : State → Nat → Nat → State} {o : Nat} {n : Nat} {y4 : Nat} (h : Keeps F a s)
    (hf : ∀ t x y, Keeps F a t → Keeps F a (f t x y)) :
    Keeps F a (s.inParts f o n y4) := by
  induction y4 generalizing s o n <;> unfold State.inParts <;> try dsimp only
  all_goals repeat' first
    | (simp (maxDischargeDepth := 60) +contextual [*]; done)
    | split
    | (rename_i e; obtain rfl := congrArg Prod.snd e)

@[simp ↓] theorem recReadHere_keeps {node : Nat} {o : Nat} {n : Nat} (h : Keeps F a s) (hF : F .regs ∧ F .mem ∧ F
    .freeCount ∧ F .log ∧ F .sent ∧ F .dram ∧ F .ing) :
    Keeps F a (s.recReadHere node o n) := by
  unfold State.recReadHere
  simp (maxDischargeDepth := 60) +contextual [h, hF]

@[simp ↓] theorem recReadFar_keeps {node : Nat} {o : Nat} {n : Nat} (h : Keeps F a s) (hF : F .sent ∧ F .fab ∧ F
    .ing) :
    Keeps F a (s.recReadFar node o n) := by
  unfold State.recReadFar
  simp (maxDischargeDepth := 60) +contextual [h, hF]

@[simp ↓] theorem recReq_keeps {op : Nat} {fr : List Byte} {k : State → Nat → Nat → State} (h : Keeps F a s) (hF :
    F .regs ∧ F .log ∧ F .sent ∧ F .ing) (hf : ∀ t x y, Keeps F a t → Keeps F a (k t x y)) :
    Keeps F a (s.recReq op fr k) := by
  unfold State.recReq
  simp (maxDischargeDepth := 60) +contextual [h, hF, hf]

@[simp ↓] theorem execRecReqRead_keeps {fr : List Byte} (h : Keeps F a s) (hF : F .regs ∧ F .mem ∧ F .freeCount ∧ F
    .log ∧ F .sent ∧ F .fab ∧ F .dram ∧ F .ing) :
    KeepsOut F a (execRecReqRead fr s) := by
  unfold execRecReqRead
  simp (maxDischargeDepth := 60) +contextual [h, hF]

@[simp ↓] theorem execRecReqRelease_keeps {fr : List Byte} (h : Keeps F a s) (hF : F .regs ∧ F .tables ∧ F .mem ∧ F
    .freeCount ∧ F .log ∧ F .cores ∧ F .layers ∧ F .lpBytes ∧ F .units ∧ F .rows ∧ F .surveys ∧ F .ver ∧ F .gy ∧ F
    .recs ∧ F .blocks ∧ F .pins ∧ F .motion ∧ F .sent ∧ F .hp ∧ F .fab ∧ F .dram ∧ F .ing ∧ F .boot) :
    KeepsOut F a (execRecReqRelease fr s) := by
  unfold execRecReqRelease
  simp (maxDischargeDepth := 60) +contextual [h, hF]

@[simp ↓] theorem execRecReqIndex_keeps {fr : List Byte} (h : Keeps F a s) (hF : F .regs ∧ F .log ∧ F .sent ∧ F
    .ing) :
    KeepsOut F a (execRecReqIndex fr s) := by
  unfold execRecReqIndex
  simp (maxDischargeDepth := 60) +contextual [h, hF]

@[simp ↓] theorem execLayerEndWrite_keeps (h : Keeps F a s) (hF : F .regs ∧ F .tables ∧ F .mem ∧ F .freeCount ∧ F
    .log ∧ F .cores ∧ F .layers ∧ F .lpBytes ∧ F .units ∧ F .rows ∧ F .surveys ∧ F .ver ∧ F .gy ∧ F .recs ∧ F
    .blocks ∧ F .pins ∧ F .motion ∧ F .sent ∧ F .hp ∧ F .dram ∧ F .boot) :
    KeepsOut F a (execLayerEndWrite s) := by
  unfold execLayerEndWrite
  (repeat' split) <;> simp (maxDischargeDepth := 60) +contextual [h, hF]

@[simp ↓] theorem execRecordVerifyDone_keeps (h : Keeps F a s) (hF : F .regs ∧ F .tables ∧ F .mem ∧ F .freeCount ∧
    F .log ∧ F .gy ∧ F .recs ∧ F .blocks ∧ F .sent ∧ F .dram) :
    KeepsOut F a (execRecordVerifyDone s) := by
  unfold execRecordVerifyDone
  split
  · exact keepsOut_next.2 h
  · refine keepsOut_ite (keepsOut_next.2 h) ?_
    rename_i b rest _
    have h1 := recFetch_keeps (req := 7) (o := b.ofs) (n := 40) h (by simp [hF])
    generalize s.recFetch 7 b.ofs 40 = x at h1 ⊢
    obtain ⟨badH, y, s1⟩ := x
    dsimp only at h1 ⊢
    refine keepsOut_ite (by simp (maxDischargeDepth := 60) [h1, hF]) ?_
    have h2 := recFetch_keeps (req := 7) (o := b.ofs + 40) (n := Bits.divUp (Bits.rd y 28 4) 8 * 8) h1 (by simp [hF])
    generalize s1.recFetch 7 (b.ofs + 40) (Bits.divUp (Bits.rd y 28 4) 8 * 8) = x at h2 ⊢
    obtain ⟨bad, all, s2⟩ := x
    dsimp only at h2 ⊢
    exact keepsOut_ite (by simp (maxDischargeDepth := 60) [h2, hF]) (by simp (maxDischargeDepth := 60) [h2, hF])

end Sys2Proof.Laws
end

