-- ==== Sys2Proof/Laws/KeepsServo.lean ====
section
/-! SUPPORT. What the operations of Sys2Proof/Machine/Servo.lean can change: one lemma each. -/

set_option linter.unusedTactic false
set_option linter.unreachableTactic false
set_option Elab.async false

namespace Sys2Proof.Laws

open Sys2Proof.Machine Sys2Proof.Safety

variable {F : Part → Prop} {a s : State}

@[simp ↓] theorem injSample_keeps {x : Nat} (h : Keeps F a s) (hF : F .regs ∧ F .motion) :
    Keeps F a (s.injSample x) := by
  unfold State.injSample
  (repeat' split) <;> simp (maxDischargeDepth := 60) +contextual [h, hF]

@[simp ↓] theorem injValue_keeps {x : Nat} (h : Keeps F a s) (hF : F .freeCount ∧ F .motion) :
    Keeps F a (s.injValue x).2 := by
  unfold State.injValue
  repeat' first
    | (simp (maxDischargeDepth := 60) +contextual [h, hF]; done)
    | split
    | (rename_i e; obtain rfl := congrArg Prod.snd e)

@[simp ↓] theorem dacLoad_keeps {x : Nat} {o : Int} (h : Keeps F a s) (hF : F .regs ∧ F .freeCount ∧ F .sent) :
    Keeps F a (s.dacLoad x o) := by
  unfold State.dacLoad
  simp (maxDischargeDepth := 60) [h, hF]

@[simp ↓] theorem followFault_keeps {x : Nat} (h : Keeps F a s) (hF : F .regs ∧ F .tables ∧ F .mem ∧ F .freeCount ∧
    F .log ∧ F .cores ∧ F .layers ∧ F .lpBytes ∧ F .units ∧ F .rows ∧ F .surveys ∧ F .ver ∧ F .gy ∧ F .recs ∧ F
    .blocks ∧ F .pins ∧ F .motion ∧ F .sent ∧ F .hp ∧ F .dram ∧ F .boot) :
    Keeps F a (s.followFault x) := by
  unfold State.followFault
  simp (maxDischargeDepth := 60) [h, hF]

@[simp ↓] theorem servoLaw_keeps {x : Nat} {inj : Int} (h : Keeps F a s) (hF : F .regs ∧ F .tables ∧ F .mem ∧ F
    .freeCount ∧ F .log ∧ F .cores ∧ F .layers ∧ F .lpBytes ∧ F .units ∧ F .rows ∧ F .surveys ∧ F .ver ∧ F .gy ∧ F
    .recs ∧ F .blocks ∧ F .pins ∧ F .motion ∧ F .sent ∧ F .hp ∧ F .dram ∧ F .boot) :
    Keeps F a (s.servoLaw x inj) := by
  unfold State.servoLaw
  (repeat' split) <;> simp (maxDischargeDepth := 60) +contextual [h, hF]

@[simp ↓] theorem onCap_keeps {f : Capture → Capture} (h : Keeps F a s) (hF : F .regs ∧ F .motion) :
    Keeps F a (s.onCap f) := by
  unfold State.onCap
  simp (maxDischargeDepth := 60) [h, hF]

@[simp ↓] theorem capSample_keeps {x : Nat} {inj : Int} (h : Keeps F a s) (hF : F .regs ∧ F .tables ∧ F .motion) :
    Keeps F a (s.capSample x inj) := by
  unfold State.capSample
  simp (maxDischargeDepth := 60) [h, hF]

@[simp ↓] theorem servoAxis_keeps {x : Nat} (h : Keeps F a s) (hF : F .regs ∧ F .tables ∧ F .mem ∧ F .freeCount ∧ F
    .log ∧ F .cores ∧ F .layers ∧ F .lpBytes ∧ F .units ∧ F .rows ∧ F .surveys ∧ F .ver ∧ F .gy ∧ F .recs ∧ F
    .blocks ∧ F .pins ∧ F .motion ∧ F .sent ∧ F .hp ∧ F .dram ∧ F .boot) :
    Keeps F a (s.servoAxis x) := by
  unfold State.servoAxis
  simp (maxDischargeDepth := 60) [h, hF]

@[simp ↓] theorem execServoSample_keeps (h : Keeps F a s) (hF : F .regs ∧ F .tables ∧ F .mem ∧ F .freeCount ∧ F
    .log ∧ F .cores ∧ F .layers ∧ F .lpBytes ∧ F .units ∧ F .rows ∧ F .surveys ∧ F .clk ∧ F .ver ∧ F .gy ∧ F .recs
    ∧ F .blocks ∧ F .cal ∧ F .pins ∧ F .motion ∧ F .sent ∧ F .hp ∧ F .dram ∧ F .boot) :
    KeepsOut F a (execServoSample s) := by
  unfold execServoSample
  simp (maxDischargeDepth := 60) +contextual [h, hF]

@[simp ↓] theorem execInjStart_keeps {path : Path} {x : Fin 2} (h : Keeps F a s) (hF : F .regs ∧ F .motion) :
    KeepsOut F a (execInjStart path x s) := by
  unfold execInjStart
  simp (maxDischargeDepth := 60) [h, hF]

@[simp ↓] theorem execInjStop_keeps {x : Fin 2} (h : Keeps F a s) (hF : F .motion) :
    KeepsOut F a (execInjStop x s) := by
  unfold execInjStop
  simp (maxDischargeDepth := 60) [h, hF]

@[simp ↓] theorem capStart_keeps {path : Path} {wait : Bool} (h : Keeps F a s) (hF : F .regs ∧ F .motion) :
    Keeps F a (s.capStart path wait) := by
  unfold State.capStart
  simp (maxDischargeDepth := 60) [h, hF]

@[simp ↓] theorem execCaptureStart_keeps {path : Path} (h : Keeps F a s) (hF : F .regs ∧ F .motion) :
    KeepsOut F a (execCaptureStart path s) := by
  unfold execCaptureStart
  simp (maxDischargeDepth := 60) [h, hF]

@[simp ↓] theorem execCaptureStartWithInj_keeps {path : Path} (h : Keeps F a s) (hF : F .regs ∧ F .motion) :
    KeepsOut F a (execCaptureStartWithInj path s) := by
  unfold execCaptureStartWithInj
  simp (maxDischargeDepth := 60) [h, hF]

end Sys2Proof.Laws
end

