-- ==== Sys2Proof/Laws/KeepsBus.lean ====
section
/-! SUPPORT. What the operations of Sys2Proof/Machine/Bus.lean can change: one lemma each. -/

set_option linter.unusedTactic false
set_option linter.unreachableTactic false
set_option Elab.async false

namespace Sys2Proof.Laws

open Sys2Proof.Machine Sys2Proof.Safety

variable {F : Part → Prop} {a s : State}

@[simp ↓] theorem latchNow_keeps {p : Path} (h : Keeps F a s) (hF : F .paths) :
    Keeps F a (s.latchNow p) := by
  unfold State.latchNow
  simp (maxDischargeDepth := 60) [h, hF]

@[simp ↓] theorem readReg_keeps {p : Path} {y2 : Nat} (h : Keeps F a s) (hF : F .freeCount ∧ F .paths) :
    Keeps F a (s.readReg p y2).2 := by
  unfold State.readReg
  repeat' first
    | (simp (maxDischargeDepth := 60) +contextual [h, hF]; done)
    | split
    | (rename_i e; obtain rfl := congrArg Prod.snd e)

@[simp ↓] theorem readTbl_keeps {y1 : Nat} (h : Keeps F a s) (hF : F .freeCount) :
    Keeps F a (s.readTbl y1).2 := by
  unfold State.readTbl
  repeat' first
    | (simp (maxDischargeDepth := 60) +contextual [h, hF]; done)
    | split
    | (rename_i e; obtain rfl := congrArg Prod.snd e)

@[simp ↓] theorem busRead_keeps {p : Path} {y2 : Nat} (h : Keeps F a s) (hF : F .freeCount ∧ F .paths) :
    Keeps F a (s.busRead p y2).2.2 := by
  unfold State.busRead
  (repeat' split) <;> simp (maxDischargeDepth := 60) +contextual [h, hF]

@[simp ↓] theorem lockFlag_keeps {p : Path} {y2 : Nat} {d : RegMap.RegDesc} (h : Keeps F a s) (hF : F .regs) :
    Keeps F a (s.lockFlag p y2 d) := by
  unfold State.lockFlag
  simp (maxDischargeDepth := 60) [h, hF]

@[simp ↓] theorem plainWrite_keeps {p : Path} {y2 : Nat} {w : Word} {d : RegMap.RegDesc} (h : Keeps F a s) (hF : F
    .regs) :
    Keeps F a (s.plainWrite p y2 w d) := by
  unfold State.plainWrite
  simp (maxDischargeDepth := 60) [h, hF]

@[simp ↓] theorem loWrite_keeps {p : Path} {y2 : Nat} {w : Word} {d : RegMap.RegDesc} (h : Keeps F a s) (hF : F
    .regs ∧ F .paths) :
    Keeps F a (s.loWrite p y2 w d) := by
  unfold State.loWrite
  simp (maxDischargeDepth := 60) [h, hF]

@[simp ↓] theorem hiWrite_keeps {p : Path} {y2 : Nat} {w : Word} {d : RegMap.RegDesc} (h : Keeps F a s) (hF : F
    .regs ∧ F .paths) :
    Keeps F a (s.hiWrite p y2 w d) := by
  unfold State.hiWrite
  simp (maxDischargeDepth := 60) [h, hF]

@[simp ↓] theorem fieldWrite_keeps {p : Path} {y2 : Nat} {w : Word} (h : Keeps F a s) (hF : F .regs ∧ F .paths) :
    Keeps F a (s.fieldWrite p y2 w) := by
  unfold State.fieldWrite
  (repeat' split) <;> simp (maxDischargeDepth := 60) +contextual [h, hF]

@[simp ↓] theorem lockFlagAt_keeps {p : Path} {y2 : Nat} (h : Keeps F a s) (hF : F .regs) :
    Keeps F a (s.lockFlagAt p y2) := by
  unfold State.lockFlagAt
  (repeat' split) <;> simp (maxDischargeDepth := 60) +contextual [h, hF]

@[simp ↓] theorem shadowWrite_keeps {p : Path} {g : Nat} {y3 : Nat} {w : Word} (h : Keeps F a s) (hF : F .regs ∧ F
    .mgt) :
    Keeps F a (s.shadowWrite p g y3 w) := by
  unfold State.shadowWrite
  simp (maxDischargeDepth := 60) [h, hF]

@[simp ↓] theorem handover_keeps {g : Nat} {yarg1 : Nat} (h : Keeps F a s) (hF : F .regs ∧ F .mgt ∧ F .ver) :
    Keeps F a (s.handover g yarg1).2 := by
  unfold State.handover
  (repeat' split) <;> simp (maxDischargeDepth := 60) +contextual [h, hF]

@[simp ↓] theorem keyWrite_keeps {p : Path} {auth : Option Nat} {k : Nat} {i : Nat} {w : Word} (h : Keeps F a s)
    (hF : F .regs ∧ F .mgt) :
    Keeps F a (s.keyWrite p auth k i w) := by
  unfold State.keyWrite
  simp (maxDischargeDepth := 60) [h, hF]

@[simp ↓] theorem execMgtKeyCommit_keeps {path : Path} {auth : Option (Fin 2)} {k : Fin 2} {w : Word} (h : Keeps F
    a s) (hF : F .regs ∧ F .mgt) :
    KeepsOut F a (execMgtKeyCommit path auth k w s) := by
  unfold execMgtKeyCommit
  simp (maxDischargeDepth := 60) [h, hF]

@[simp ↓] theorem after_keeps {o : Host.Outcome State Fault Refusal} (h : Keeps F a s) (ho : KeepsOut F a o) :
    Keeps F a (s.after o) := by
  cases o with
  | next t => exact keepsOut_next.1 ho
  | fault _ => exact h
  | refused _ => exact h

@[simp ↓] theorem pick_keeps {l : List (Host.Outcome State Fault Refusal)} {code : Nat} (h : Keeps F a s) (ho : ∀ o
    ∈ l, KeepsOut F a o) :
    Keeps F a (s.pick l code) := by
  unfold State.pick
  split
  · exact h
  · split
    · exact after_keeps h (ho _ (List.mem_of_getElem? ‹_›))
    · exact h

@[simp ↓] theorem tbWrite_keeps {p : Path} {y2 : Nat} {w : Word} (h : Keeps F a s) (hF : F .regs ∧ F .paths ∧ F
    .log ∧ F .clk ∧ F .doms) :
    KeepsOpt F a (s.tbWrite p y2 w) := by
  unfold State.tbWrite
  simp (maxDischargeDepth := 60) [h, hF]

@[simp ↓] theorem taWrite_keeps {p : Path} {y2 : Nat} {w : Word} (h : Keeps F a s) (hF : F .regs ∧ F .log ∧ F .sent
    ∧ F .due ∧ F .fab) :
    KeepsOpt F a (s.taWrite p y2 w) := by
  unfold State.taWrite
  simp (maxDischargeDepth := 60) [h, hF]

@[simp ↓] theorem lnWrite_keeps {p : Path} {y2 : Nat} {w : Word} (h : Keeps F a s) (hF : F .regs ∧ F .tables ∧ F
    .mem ∧ F .freeCount ∧ F .log ∧ F .cores ∧ F .layers ∧ F .lpBytes ∧ F .units ∧ F .rows ∧ F .surveys ∧ F .ver ∧ F
    .gy ∧ F .recs ∧ F .blocks ∧ F .pins ∧ F .motion ∧ F .sent ∧ F .hp ∧ F .fab ∧ F .ln ∧ F .dram ∧ F .ing ∧ F
    .boot) :
    KeepsOpt F a (s.lnWrite p y2 w) := by
  unfold State.lnWrite
  simp (maxDischargeDepth := 60) [h, hF]

@[simp ↓] theorem ingWrite_keeps {p : Path} {y2 : Nat} {w : Word} (h : Keeps F a s) (hF : F .regs ∧ F .tables ∧ F
    .mem ∧ F .freeCount ∧ F .log ∧ F .cores ∧ F .layers ∧ F .lpBytes ∧ F .units ∧ F .rows ∧ F .surveys ∧ F .parser
    ∧ F .ver ∧ F .gy ∧ F .recs ∧ F .blocks ∧ F .shown ∧ F .pins ∧ F .motion ∧ F .sent ∧ F .hp ∧ F .fab ∧ F .dram ∧
    F .ing ∧ F .boot) :
    KeepsOpt F a (s.ingWrite p y2 w) := by
  unfold State.ingWrite
  simp (maxDischargeDepth := 60) [h, hF]

@[simp ↓] theorem crcWrite_keeps {p : Path} {y2 : Nat} {w : Word} (h : Keeps F a s) (hF : F .regs ∧ F .parser ∧ F
    .ing) :
    KeepsOpt F a (s.crcWrite p y2 w) := by
  unfold State.crcWrite
  (repeat' split) <;> simp (maxDischargeDepth := 60) +contextual [h, hF]

@[simp ↓] theorem expWrite_keeps {p : Path} {y2 : Nat} {w : Word} (h : Keeps F a s) (hF : F .regs ∧ F .tables ∧ F
    .mem ∧ F .freeCount ∧ F .log ∧ F .cores ∧ F .layers ∧ F .lpBytes ∧ F .units ∧ F .rows ∧ F .surveys ∧ F .parser
    ∧ F .ver ∧ F .gy ∧ F .recs ∧ F .blocks ∧ F .shown ∧ F .pins ∧ F .motion ∧ F .sent ∧ F .hp ∧ F .dram ∧ F .boot)
    :
    KeepsOpt F a (s.expWrite p y2 w) := by
  unfold State.expWrite
  simp (maxDischargeDepth := 60) [h, hF]

@[simp ↓] theorem verWrite_keeps {p : Path} {y2 : Nat} {w : Word} (h : Keeps F a s) (hF : F .regs ∧ F .ver) :
    KeepsOpt F a (s.verWrite p y2 w) := by
  unfold State.verWrite
  simp (maxDischargeDepth := 60) [h, hF]

@[simp ↓] theorem bmWrite_keeps {p : Path} {y2 : Nat} {w : Word} (h : Keeps F a s) (hF : F .regs ∧ F .tables ∧ F
    .mem ∧ F .log ∧ F .beams ∧ F .gy ∧ F .recs ∧ F .blocks ∧ F .sent ∧ F .dram) :
    KeepsOpt F a (s.bmWrite p y2 w) := by
  unfold State.bmWrite
  simp (maxDischargeDepth := 60) [h, hF]

@[simp ↓] theorem hpWrite_keeps {p : Path} {y2 : Nat} {w : Word} (h : Keeps F a s) (hF : F .regs ∧ F .freeCount ∧ F
    .paths ∧ F .log ∧ F .sent ∧ F .hp) :
    KeepsOpt F a (s.hpWrite p y2 w) := by
  unfold State.hpWrite
  simp (maxDischargeDepth := 60) [h, hF]

@[simp ↓] theorem axisCmd_keeps {p : Path} {x : Fin 6} {w : Word} (h : Keeps F a s) (hF : F .regs ∧ F .freeCount ∧
    F .log ∧ F .motion ∧ F .sent) :
    Keeps F a (s.axisCmd p x w) := by
  unfold State.axisCmd
  simp (maxDischargeDepth := 60) [h, hF]

@[simp ↓] theorem mpWrite_keeps {p : Path} {y2 : Nat} {w : Word} (h : Keeps F a s) (hF : F .regs ∧ F .freeCount ∧ F
    .log ∧ F .motion ∧ F .sent) :
    KeepsOpt F a (s.mpWrite p y2 w) := by
  unfold State.mpWrite
  simp (maxDischargeDepth := 60) [h, hF]

@[simp ↓] theorem fbWrite_keeps {p : Path} {y2 : Nat} {w : Word} (h : Keeps F a s) (hF : F .regs ∧ F .paths ∧ F
    .motion ∧ F .sent) :
    KeepsOpt F a (s.fbWrite p y2 w) := by
  unfold State.fbWrite
  (repeat' split) <;> simp (maxDischargeDepth := 60) +contextual [h, hF]

@[simp ↓] theorem svWrite_keeps {p : Path} {y2 : Nat} {w : Word} (h : Keeps F a s) (hF : F .regs ∧ F .motion) :
    KeepsOpt F a (s.svWrite p y2 w) := by
  unfold State.svWrite
  simp (maxDischargeDepth := 60) [h, hF]

@[simp ↓] theorem miWrite_keeps {p : Path} {y2 : Nat} {w : Word} (h : Keeps F a s) (hF : F .regs ∧ F .log ∧ F .dram
    ∧ F .boot) :
    KeepsOpt F a (s.miWrite p y2 w) := by
  unfold State.miWrite
  simp (maxDischargeDepth := 60) [h, hF]

@[simp ↓] theorem hmWrite_keeps {p : Path} {y2 : Nat} {w : Word} (h : Keeps F a s) (hF : F .regs ∧ F .paths ∧ F
    .ver) :
    KeepsOpt F a (s.hmWrite p y2 w) := by
  unfold State.hmWrite
  split
  · simp (maxDischargeDepth := 60) [h, hF]
  · cases arrayIx y2 (Reg.HM_CH_CFG 0) 56 0x20 <;> simp only [Option.bind_none, Option.bind_some] <;>
      simp (maxDischargeDepth := 60) [h, hF]

@[simp ↓] theorem calWrite_keeps {p : Path} {y2 : Nat} {w : Word} (h : Keeps F a s) (hF : F .regs ∧ F .cal) :
    KeepsOpt F a (s.calWrite p y2 w) := by
  unfold State.calWrite
  simp (maxDischargeDepth := 60) [h, hF]

@[simp ↓] theorem errWrite_keeps {p : Path} {y2 : Nat} {w : Word} (h : Keeps F a s) (hF : F .regs ∧ F .mem ∧ F
    .paths ∧ F .log ∧ F .cores ∧ F .dram) :
    KeepsOpt F a (s.errWrite p y2 w) := by
  unfold State.errWrite
  simp (maxDischargeDepth := 60) [h, hF]

@[simp ↓] theorem cfgWrite_keeps {p : Path} {y2 : Nat} {w : Word} (h : Keeps F a s) (hF : ∀ p, p ≠ .pending → p ≠
    .estop → F p) :
    KeepsOpt F a (s.cfgWrite p y2 w) := by
  unfold State.cfgWrite
  simp (maxDischargeDepth := 60) +contextual [h, hF]

@[simp ↓] theorem mgtWrite_keeps {p : Path} {auth : Option Nat} {y3 : Nat} {w : Word} (h : Keeps F a s) (hF : F
    .regs ∧ F .mgt) :
    KeepsOpt F a (s.mgtWrite p auth y3 w) := by
  unfold State.mgtWrite
  simp (maxDischargeDepth := 60) [h, hF]

@[simp ↓] theorem drivePins_keeps {t : State} (h : Keeps F a t) (hF : F .sent) :
    Keeps F a (s.drivePins t) := by
  unfold State.drivePins
  refine keeps_ite h (keeps_foldl h fun t x ht => ?_)
  extract_lets out
  split <;> simp (maxDischargeDepth := 60) [ht, hF]

@[simp ↓] theorem glbWrite_keeps {p : Path} {y2 : Nat} {w : Word} (h : Keeps F a s) (hF : F .regs ∧ F .paths ∧ F
    .mgt ∧ F .sent) :
    KeepsOpt F a (s.glbWrite p y2 w) := by
  unfold State.glbWrite
  simp (maxDischargeDepth := 60) [h, hF]

@[simp ↓] theorem ruleWrite_keeps {p : Path} {auth : Option Nat} {y3 : Nat} {w : Word} (h : Keeps F a s) (hF : ∀ p,
    p ≠ .pending → p ≠ .estop → F p) :
    KeepsOpt F a (s.ruleWrite p auth y3 w) := by
  unfold State.ruleWrite
  (repeat' split) <;> simp (maxDischargeDepth := 60) +contextual [h, hF]

@[simp ↓] theorem regWrite_keeps {p : Path} {auth : Option Nat} {y3 : Nat} {w : Word} (h : Keeps F a s) (hF : ∀ p,
    p ≠ .pending → p ≠ .estop → F p) :
    Keeps F a (s.regWrite p auth y3 w) := by
  unfold State.regWrite
  split
  · rename_i t e
    exact ruleWrite_keeps h hF t e
  · split <;> simp (maxDischargeDepth := 60) [h, hF]

@[simp ↓] theorem tblIf_keeps {p : Path} {y2 : Nat} {w : Word} {ok : Bool} (h : Keeps F a s) (hF : F .regs ∧ F
    .tables) :
    Keeps F a (s.tblIf p y2 w ok) := by
  unfold State.tblIf
  simp (maxDischargeDepth := 60) [h, hF]

@[simp ↓] theorem tblWrite_keeps {p : Path} {y2 : Nat} {w : Word} (h : Keeps F a s) (hF : F .regs ∧ F .tables) :
    Keeps F a (s.tblWrite p y2 w) := by
  unfold State.tblWrite
  simp (maxDischargeDepth := 60) [h, hF]

@[simp ↓] theorem busWrite_keeps {p : Path} {auth : Option Nat} {y3 : Nat} {w : Word} (h : Keeps F a s) (hF : ∀ p,
    p ≠ .pending → p ≠ .estop → F p) :
    Keeps F a (s.busWrite p auth y3 w).2 := by
  unfold State.busWrite
  (repeat' split) <;> simp (maxDischargeDepth := 60) +contextual [h, hF]

@[simp ↓] theorem answer_keeps {p : Path} {st : OStatus} (h : Keeps F a s) (hF : F .mgt ∧ F .sent) :
    Keeps F a (s.answer p st) := by
  unfold State.answer
  simp (maxDischargeDepth := 60) [h, hF]

@[simp ↓] theorem loseCommit_keeps {y1 : Nat} {p : Path} (h : Keeps F a s) (hF : F .paths ∧ F .mgt ∧ F .sent) :
    Keeps F a (s.loseCommit y1 p) := by
  unfold State.loseCommit
  simp (maxDischargeDepth := 60) [h, hF]

@[simp ↓] theorem wordWrite_keeps {y1 : Nat} {x : Path × Word} (h : Keeps F a s) (hF : ∀ p, p ≠ .pending → p ≠
    .estop → F p) :
    Keeps F a (s.wordWrite y1 x) := by
  unfold State.wordWrite
  simp (maxDischargeDepth := 60) +contextual [h, hF]

@[simp ↓] theorem pairWrites_keeps {y1 : Nat} {ws : List (Path × Word)} (h : Keeps F a s) (hF : ∀ p, p ≠ .pending →
    p ≠ .estop → F p) :
    Keeps F a (s.pairWrites y1 ws) := by
  unfold State.pairWrites
  dsimp only
  repeat' first
    | (simp (maxDischargeDepth := 60) +contextual [h, hF]; done)
    | split
    | (rename_i e; obtain rfl := congrArg Prod.snd e)

@[simp ↓] theorem hwSets_keeps {y1 : Nat} {hw : Word} (h : Keeps F a s) (hF : F .regs) :
    Keeps F a (s.hwSets y1 hw) := by
  unfold State.hwSets
  (repeat' split) <;> simp (maxDischargeDepth := 60) +contextual [h, hF]

@[simp ↓] theorem execRegisterWrite_keeps {y1 : Nat} {ws : List (Path × Word)} {hw : Word} (h : Keeps F a s) (hF :
    ∀ p, p ≠ .pending → p ≠ .estop → F p) :
    KeepsOut F a (execRegisterWrite y1 ws hw s) := by
  unfold execRegisterWrite
  (repeat' split) <;> simp (maxDischargeDepth := 60) +contextual [h, hF]

end Sys2Proof.Laws
end

