-- ==== Sys2Proof/Laws/KeepsStartup.lean ====
section
/-! SUPPORT. What the operations of Sys2Proof/Machine/Startup.lean can change: one lemma each. -/

set_option linter.unusedTactic false
set_option linter.unreachableTactic false
set_option Elab.async false

namespace Sys2Proof.Laws

open Sys2Proof.Machine Sys2Proof.Safety

variable {F : Part → Prop} {a s : State}

@[simp ↓] theorem stSerial_keeps (h : Keeps F a s) (hF : F .regs) :
    Keeps F a (s.stSerial) := by
  unfold State.stSerial
  simp (maxDischargeDepth := 60) [h, hF]

@[simp ↓] theorem stTake_keeps {r : StRec} (h : Keeps F a s) (hF : F .regs ∧ F .tables ∧ F .sram ∧ F .dram) :
    Keeps F a (s.stTake r) := by
  unfold State.stTake
  (repeat' split) <;> simp (maxDischargeDepth := 60) +contextual [h, hF]

@[simp ↓] theorem stStart_keeps (h : Keeps F a s) (hF : F .regs ∧ F .tables ∧ F .log ∧ F .sram ∧ F .dram) :
    Keeps F a (s.stStart) := by
  unfold State.stStart
  simp (maxDischargeDepth := 60) +contextual [h, hF]

@[simp ↓] theorem claimCrc_keeps (h : Keeps F a s) (hF : F .regs) :
    Keeps F a (s.claimCrc) := by
  unfold State.claimCrc
  simp (maxDischargeDepth := 60) [h, hF]

@[simp ↓] theorem startCores_keeps (h : Keeps F a s) (hF : F .regs) :
    Keeps F a (s.startCores) := by
  unfold State.startCores
  simp (maxDischargeDepth := 60) +contextual [h, hF]

@[simp ↓] theorem applyFirmware_keeps (h : Keeps F a s) (hF : F .regs ∧ F .tables ∧ F .log ∧ F .sram ∧ F .dram ∧ F
    .boot) :
    Keeps F a (s.applyFirmware) := by
  unfold State.applyFirmware
  simp (maxDischargeDepth := 60) [h, hF]

@[simp ↓] theorem applySpares_keeps {bs : List Byte} (h : Keeps F a s) (hF : F .ver) :
    Keeps F a (s.applySpares bs) := by
  unfold State.applySpares
  simp (maxDischargeDepth := 60) +contextual [h, hF]

@[simp ↓] theorem applyEntry_keeps {ty : Nat} {y2 : Nat} {w : Word} (h : Keeps F a s) (hF : ∀ p, p ≠ .pending → p ≠
    .estop → F p) :
    Keeps F a (s.applyEntry ty y2 w) := by
  unfold State.applyEntry
  simp (maxDischargeDepth := 60) +contextual [h, hF]

@[simp ↓] theorem applyEntries_keeps {ty : Nat} {bs : List Byte} (h : Keeps F a s) (hF : ∀ p, p ≠ .pending → p ≠
    .estop → F p) :
    Keeps F a (s.applyEntries ty bs) := by
  unfold State.applyEntries
  simp (maxDischargeDepth := 60) +contextual [h, hF]

@[simp ↓] theorem applyBeamMap_keeps {bs : List Byte} (h : Keeps F a s) (hF : F .regs ∧ F .tables ∧ F .log ∧ F
    .beams) :
    Keeps F a (s.applyBeamMap bs) := by
  unfold State.applyBeamMap
  simp (maxDischargeDepth := 60) [h, hF]

@[simp ↓] theorem imgSkip_keeps (h : Keeps F a s) (hF : F .regs) :
    Keeps F a (s.imgSkip) := by
  unfold State.imgSkip
  simp (maxDischargeDepth := 60) [h, hF]

@[simp ↓] theorem calImagePoint_keeps {b : List Byte} (h : Keeps F a s) (hF : F .regs ∧ F .tables) :
    Keeps F a (s.calImagePoint b) := by
  unfold State.calImagePoint
  simp (maxDischargeDepth := 60) [h, hF]

@[simp ↓] theorem calImageTrim_keeps {b : List Byte} (h : Keeps F a s) (hF : F .regs ∧ F .tables ∧ F .cal) :
    Keeps F a (s.calImageTrim b) := by
  unfold State.calImageTrim
  simp (maxDischargeDepth := 60) [h, hF]

@[simp ↓] theorem applyCal_keeps {bs : List Byte} (h : Keeps F a s) (hF : F .regs ∧ F .tables ∧ F .cal) :
    Keeps F a (s.applyCal bs) := by
  unfold State.applyCal
  simp (maxDischargeDepth := 60) +contextual [h, hF]

@[simp ↓] theorem applySect_keeps {ty : Nat} {bs : List Byte} (h : Keeps F a s) (hF : ∀ p, p ≠ .pending → p ≠
    .estop → F p) :
    Keeps F a (s.applySect ty bs) := by
  unfold State.applySect
  (repeat' split) <;> simp (maxDischargeDepth := 60) +contextual [h, hF]

@[simp ↓] theorem imageAccept_keeps {us : Nat} (h : Keeps F a s) (hF : F .regs ∧ F .tables ∧ F .log ∧ F .boot) :
    Keeps F a (s.imageAccept us) := by
  unfold State.imageAccept
  simp (maxDischargeDepth := 60) [h, hF]

@[simp ↓] theorem execInternalResetRelease_keeps {straps : Fin 16} {readFail : Bool} {us : Nat} {us1 : Nat} (h :
    Keeps F a s) (hF : ∀ p, p ≠ .pending → p ≠ .estop → F p) :
    KeepsOut F a (execInternalResetRelease straps readFail us us1 s) := by
  unfold execInternalResetRelease
  dsimp only
  repeat' first
    | (simp (maxDischargeDepth := 60) +contextual [h, hF]; done)
    | split
    | (rename_i e; obtain rfl := congrArg Prod.snd e)

@[simp ↓] theorem sectPass_keeps {x : Sect} {bs : List Byte} (h : Keeps F a s) (hF : ∀ p, p ≠ .pending → p ≠ .estop
    → F p) :
    Keeps F a (s.sectPass x bs) := by
  unfold State.sectPass
  simp (maxDischargeDepth := 60) +contextual [h, hF]

@[simp ↓] theorem execImageSectionRead_keeps {readFail : Bool} {us : Nat} (h : Keeps F a s) (hF : ∀ p, p ≠ .pending
    → p ≠ .estop → F p) :
    KeepsOut F a (execImageSectionRead readFail us s) := by
  unfold execImageSectionRead
  (repeat' split) <;> simp (maxDischargeDepth := 60) +contextual [h, hF]

@[simp ↓] theorem canaryFail_keeps (h : Keeps F a s) (hF : ∀ p, p ≠ .pending → p ≠ .sent → p ≠ .estop → F p) :
    Keeps F a (s.canaryFail) := by
  unfold State.canaryFail
  simp (maxDischargeDepth := 60) +contextual [h, hF]

@[simp ↓] theorem wakeApply_keeps (h : Keeps F a s) (hF : ∀ p, p ≠ .pending → p ≠ .estop → F p) :
    Keeps F a (s.wakeApply) := by
  unfold State.wakeApply
  extract_lets s1 s2 s3 s4 s5
  have h1 : Keeps F a s1 := by simp (maxDischargeDepth := 60) +contextual [s1, h, hF]
  clear_value s1
  have h2 : Keeps F a s2 := keeps_foldl h1 fun t x ht => by
    by_cases c : t.inited imageCopy = true <;> simp (maxDischargeDepth := 60) +contextual [c, ht, hF]
  clear_value s2
  have h3 : Keeps F a s3 := by simp (maxDischargeDepth := 60) +contextual [s3, h2, hF]
  clear_value s3
  have h4 : Keeps F a s4 := by simp (maxDischargeDepth := 60) +contextual [s4, h3, hF]
  clear_value s4
  have h5 : Keeps F a s5 := by simp (maxDischargeDepth := 60) +contextual [s5, h4, hF]
  clear_value s5
  simp (maxDischargeDepth := 60) +contextual [h5, hF]

@[simp ↓] theorem execWakeDramRetrained_keeps {ok : Bool} (h : Keeps F a s) (hF : ∀ p, p ≠ .pending → p ≠ .estop →
    F p) :
    KeepsOut F a (execWakeDramRetrained ok s) := by
  unfold execWakeDramRetrained
  (repeat' split) <;> simp (maxDischargeDepth := 60) +contextual [h, hF]

end Sys2Proof.Laws
end

