-- ==== Sys2Proof/Laws/KeepsMgmt.lean ====
section
/-! SUPPORT. What the operations of Sys2Proof/Machine/Mgmt.lean can change: one lemma each. -/

set_option linter.unusedTactic false
set_option linter.unreachableTactic false
set_option Elab.async false

namespace Sys2Proof.Laws

open Sys2Proof.Machine Sys2Proof.Safety

variable {F : Part → Prop} {a s : State}

@[simp ↓] theorem onMgt_keeps {f : Mgt → Mgt} (h : Keeps F a s) (hF : F .mgt) :
    Keeps F a (s.onMgt f) := by
  unfold State.onMgt
  simp (maxDischargeDepth := 60) [h, hF]

@[simp ↓] theorem polls_keeps (h : Keeps F a s) (hF : F .freeCount) :
    Keeps F a (s.polls).2 := by
  unfold State.polls
  simp (maxDischargeDepth := 60) [h, hF]

@[simp ↓] theorem readWords_keeps {p : Path} {tag : Bool} {y3 y4 : Nat} (h : Keeps F a s) (hF : F .freeCount ∧ F
    .paths) :
    Keeps F a (s.readWords p tag y3 y4).2.2 := by
  induction y4 generalizing s y3 with
  | zero => exact h
  | succ n ih =>
    unfold State.readWords
    cases tag <;> exact ih (by simp (maxDischargeDepth := 60) [h, hF])

@[simp ↓] theorem writeWords_keeps {p : Path} {auth : Option Nat} {bs : List Byte} {y4 : Nat} {y5 : Nat} (h : Keeps
    F a s) (hF : ∀ p, p ≠ .pending → p ≠ .estop → F p) :
    Keeps F a (s.writeWords p auth bs y4 y5).2 := by
  induction y5 generalizing s y4 bs <;> unfold State.writeWords <;> try dsimp only
  all_goals repeat' first
    | (simp (maxDischargeDepth := 60) +contextual [*]; done)
    | split
    | (rename_i e; obtain rfl := congrArg Prod.snd e)

@[simp ↓] theorem runOp_keeps {p : Path} {auth : Option Nat} {b : List Byte} (h : Keeps F a s) (hF : ∀ p, p ≠
    .pending → p ≠ .estop → F p) :
    Keeps F a (s.runOp p auth b).2 := by
  unfold State.runOp
  repeat' first
    | (simp (maxDischargeDepth := 60) +contextual [h, hF]; done)
    | split
    | (rename_i e; obtain rfl := congrArg Prod.snd e)

@[simp ↓] theorem runOps_keeps {p : Path} {auth : Option Nat} {y3 : Nat} {y4 : List Byte} (h : Keeps F a s) (hF : ∀
    p, p ≠ .pending → p ≠ .estop → F p) :
    Keeps F a (s.runOps p auth y3 y4).2 := by
  induction y3 generalizing s y4 <;> unfold State.runOps <;> try dsimp only
  all_goals repeat' first
    | (simp (maxDischargeDepth := 60) +contextual [*]; done)
    | split
    | (rename_i e; obtain rfl := congrArg Prod.snd e)

@[simp ↓] theorem keep_keeps {x : Kept} (h : Keeps F a s) (hF : F .mgt) :
    Keeps F a (s.keep x) := by
  unfold State.keep
  simp (maxDischargeDepth := 60) [h, hF]

@[simp ↓] theorem mgtRun_keeps {key : Nat} {p : Path} {fr : List Byte} (h : Keeps F a s) (hF : ∀ p, p ≠ .pending →
    p ≠ .estop → F p) :
    Keeps F a (s.mgtRun key p fr).2 := by
  unfold State.mgtRun
  dsimp only
  repeat' first
    | (simp (maxDischargeDepth := 60) +contextual [h, hF]; done)
    | split
    | (rename_i e; obtain rfl := congrArg Prod.snd e)

@[simp ↓] theorem mgtServe_keeps {key : Nat} {p : Path} {fr : List Byte} (h : Keeps F a s) (hF : ∀ p, p ≠ .pending
    → p ≠ .estop → F p) :
    Keeps F a (s.mgtServe key p fr).2 := by
  unfold State.mgtServe
  dsimp only
  repeat' first
    | (simp (maxDischargeDepth := 60) +contextual [h, hF]; done)
    | split
    | (rename_i e; obtain rfl := congrArg Prod.snd e)

@[simp ↓] theorem mgtJoin_keeps (h : Keeps F a s) (hF : F .freeCount ∧ F .mgt) :
    Keeps F a (s.mgtJoin) := by
  unfold State.mgtJoin
  simp (maxDischargeDepth := 60) [h, hF]

@[simp ↓] theorem execMgtRequest_keeps {eth : List Byte} (h : Keeps F a s) (hF : ∀ p, p ≠ .pending → p ≠ .estop → F
    p) :
    KeepsOut F a (execMgtRequest eth s) := by
  unfold execMgtRequest
  dsimp only
  repeat' first
    | (simp (maxDischargeDepth := 60) +contextual [h, hF]; done)
    | split
    | (rename_i e; obtain rfl := congrArg Prod.snd e)

@[simp ↓] theorem tunReply_keeps {f : FabFrame} {b : List Byte} (h : Keeps F a s) (hF : F .mgt ∧ F .sent ∧ F .fab)
    :
    Keeps F a (s.tunReply f b) := by
  unfold State.tunReply
  simp (maxDischargeDepth := 60) [h, hF]

@[simp ↓] theorem takeTunReq_keeps {f : FabFrame} (h : Keeps F a s) (hF : ∀ p, p ≠ .pending → p ≠ .estop → F p) :
    Keeps F a (s.takeTunReq f) := by
  unfold State.takeTunReq
  repeat' first
    | (simp (maxDischargeDepth := 60) +contextual [h, hF]; done)
    | split
    | (rename_i e; obtain rfl := congrArg Prod.snd e)

@[simp ↓] theorem execTunReqFrame_keeps {p : Fin 5} {fr : List Byte} (h : Keeps F a s) (hF : ∀ p, p ≠ .pending → p
    ≠ .estop → F p) :
    KeepsOut F a (execTunReqFrame p fr s) := by
  unfold execTunReqFrame
  simp (maxDischargeDepth := 60) +contextual [h, hF]

@[simp ↓] theorem takeTunRsp_keeps {f : FabFrame} (h : Keeps F a s) (hF : F .sent ∧ F .fab) :
    Keeps F a (s.takeTunRsp f) := by
  unfold State.takeTunRsp
  simp (maxDischargeDepth := 60) [h, hF]

@[simp ↓] theorem execTunRspFrame_keeps {p : Fin 5} {fr : List Byte} (h : Keeps F a s) (hF : F .regs ∧ F .log ∧ F
    .sent ∧ F .fab) :
    KeepsOut F a (execTunRspFrame p fr s) := by
  unfold execTunRspFrame
  simp (maxDischargeDepth := 60) +contextual [h, hF]

@[simp ↓] theorem spiDone_keeps {st : OStatus} {n : Nat} (h : Keeps F a s) (hF : F .mgt) :
    Keeps F a (s.spiDone st n) := by
  unfold State.spiDone
  simp (maxDischargeDepth := 60) [h, hF]

@[simp ↓] theorem execSpiRead_keeps {y1 : Word} {n : Nat} (h : Keeps F a s) (hF : F .freeCount ∧ F .paths ∧ F .mgt
    ∧ F .sent) :
    KeepsOut F a (execSpiRead y1 n s) := by
  unfold execSpiRead
  simp (maxDischargeDepth := 60) [h, hF]

@[simp ↓] theorem execSpiWrite_keeps {y1 : Word} {bs : List Byte} (h : Keeps F a s) (hF : ∀ p, p ≠ .pending → p ≠
    .estop → F p) :
    KeepsOut F a (execSpiWrite y1 bs s) := by
  unfold execSpiWrite
  simp (maxDischargeDepth := 60) +contextual [h, hF]

@[simp ↓] theorem execSpiStatus_keeps (h : Keeps F a s) (hF : F .sent) :
    KeepsOut F a (execSpiStatus s) := by
  unfold execSpiStatus
  simp (maxDischargeDepth := 60) [h, hF]

end Sys2Proof.Laws
end

