-- ==== Sys2Proof/Laws/State.lean ====
section
/-! SUPPORT. Every field of the state after each shared operation that leaves it as it was, so that no proof unfolds
a record update. -/

set_option linter.unusedTactic false
set_option linter.unreachableTactic false
set_option Elab.async false

namespace Sys2Proof.Laws

open Sys2Proof.Machine Sys2Proof.Safety

variable {s : State}

@[simp] theorem withPending_pending {q} : (s.withPending q).pending = q := rfl

@[simp] theorem setReg_pending {x w} : (s.setReg x w).pending = s.pending := rfl
@[simp] theorem setReg_tables {x w} : (s.setReg x w).tables = s.tables := rfl
@[simp] theorem setReg_mem {x w} : (s.setReg x w).mem = s.mem := rfl
@[simp] theorem setReg_freeCount {x w} : (s.setReg x w).freeCount = s.freeCount := rfl
@[simp] theorem setReg_locked {x w} : (s.setReg x w).locked = s.locked := rfl
@[simp] theorem setReg_paths {x w} : (s.setReg x w).paths = s.paths := rfl
@[simp] theorem setReg_log {x w} : (s.setReg x w).log = s.log := rfl
@[simp] theorem setReg_cores {x w} : (s.setReg x w).cores = s.cores := rfl
@[simp] theorem setReg_mgt {x w} : (s.setReg x w).mgt = s.mgt := rfl
@[simp] theorem setReg_layers {x w} : (s.setReg x w).layers = s.layers := rfl
@[simp] theorem setReg_lpBytes {x w} : (s.setReg x w).lpBytes = s.lpBytes := rfl
@[simp] theorem setReg_units {x w} : (s.setReg x w).units = s.units := rfl
@[simp] theorem setReg_rows {x w} : (s.setReg x w).rows = s.rows := rfl
@[simp] theorem setReg_surveys {x w} : (s.setReg x w).surveys = s.surveys := rfl
@[simp] theorem setReg_clk {x w} : (s.setReg x w).clk = s.clk := rfl
@[simp] theorem setReg_parser {x w} : (s.setReg x w).parser = s.parser := rfl
@[simp] theorem setReg_ver {x w} : (s.setReg x w).ver = s.ver := rfl
@[simp] theorem setReg_beams {x w} : (s.setReg x w).beams = s.beams := rfl
@[simp] theorem setReg_gy {x w} : (s.setReg x w).gy = s.gy := rfl
@[simp] theorem setReg_recs {x w} : (s.setReg x w).recs = s.recs := rfl
@[simp] theorem setReg_blocks {x w} : (s.setReg x w).blocks = s.blocks := rfl
@[simp] theorem setReg_hm {x w} : (s.setReg x w).hm = s.hm := rfl
@[simp] theorem setReg_cal {x w} : (s.setReg x w).cal = s.cal := rfl
@[simp] theorem setReg_shown {x w} : (s.setReg x w).shown = s.shown := rfl
@[simp] theorem setReg_sram {x w} : (s.setReg x w).sram = s.sram := rfl
@[simp] theorem setReg_cache {x w} : (s.setReg x w).cache = s.cache := rfl
@[simp] theorem setReg_pins {x w} : (s.setReg x w).pins = s.pins := rfl
@[simp] theorem setReg_motion {x w} : (s.setReg x w).motion = s.motion := rfl
@[simp] theorem setReg_sent {x w} : (s.setReg x w).sent = s.sent := rfl
@[simp] theorem setReg_hp {x w} : (s.setReg x w).hp = s.hp := rfl
@[simp] theorem setReg_doms {x w} : (s.setReg x w).doms = s.doms := rfl
@[simp] theorem setReg_due {x w} : (s.setReg x w).due = s.due := rfl
@[simp] theorem setReg_fab {x w} : (s.setReg x w).fab = s.fab := rfl
@[simp] theorem setReg_ln {x w} : (s.setReg x w).ln = s.ln := rfl
@[simp] theorem setReg_dram {x w} : (s.setReg x w).dram = s.dram := rfl
@[simp] theorem setReg_ing {x w} : (s.setReg x w).ing = s.ing := rfl
@[simp] theorem setReg_boot {x w} : (s.setReg x w).boot = s.boot := rfl
@[simp] theorem setReg_pw {x w} : (s.setReg x w).pw = s.pw := rfl

@[simp] theorem setRegN_pending {x v} : (s.setRegN x v).pending = s.pending := rfl
@[simp] theorem setRegN_tables {x v} : (s.setRegN x v).tables = s.tables := rfl
@[simp] theorem setRegN_mem {x v} : (s.setRegN x v).mem = s.mem := rfl
@[simp] theorem setRegN_freeCount {x v} : (s.setRegN x v).freeCount = s.freeCount := rfl
@[simp] theorem setRegN_locked {x v} : (s.setRegN x v).locked = s.locked := rfl
@[simp] theorem setRegN_paths {x v} : (s.setRegN x v).paths = s.paths := rfl
@[simp] theorem setRegN_log {x v} : (s.setRegN x v).log = s.log := rfl
@[simp] theorem setRegN_cores {x v} : (s.setRegN x v).cores = s.cores := rfl
@[simp] theorem setRegN_mgt {x v} : (s.setRegN x v).mgt = s.mgt := rfl
@[simp] theorem setRegN_layers {x v} : (s.setRegN x v).layers = s.layers := rfl
@[simp] theorem setRegN_lpBytes {x v} : (s.setRegN x v).lpBytes = s.lpBytes := rfl
@[simp] theorem setRegN_units {x v} : (s.setRegN x v).units = s.units := rfl
@[simp] theorem setRegN_rows {x v} : (s.setRegN x v).rows = s.rows := rfl
@[simp] theorem setRegN_surveys {x v} : (s.setRegN x v).surveys = s.surveys := rfl
@[simp] theorem setRegN_clk {x v} : (s.setRegN x v).clk = s.clk := rfl
@[simp] theorem setRegN_parser {x v} : (s.setRegN x v).parser = s.parser := rfl
@[simp] theorem setRegN_ver {x v} : (s.setRegN x v).ver = s.ver := rfl
@[simp] theorem setRegN_beams {x v} : (s.setRegN x v).beams = s.beams := rfl
@[simp] theorem setRegN_gy {x v} : (s.setRegN x v).gy = s.gy := rfl
@[simp] theorem setRegN_recs {x v} : (s.setRegN x v).recs = s.recs := rfl
@[simp] theorem setRegN_blocks {x v} : (s.setRegN x v).blocks = s.blocks := rfl
@[simp] theorem setRegN_hm {x v} : (s.setRegN x v).hm = s.hm := rfl
@[simp] theorem setRegN_cal {x v} : (s.setRegN x v).cal = s.cal := rfl
@[simp] theorem setRegN_shown {x v} : (s.setRegN x v).shown = s.shown := rfl
@[simp] theorem setRegN_sram {x v} : (s.setRegN x v).sram = s.sram := rfl
@[simp] theorem setRegN_cache {x v} : (s.setRegN x v).cache = s.cache := rfl
@[simp] theorem setRegN_pins {x v} : (s.setRegN x v).pins = s.pins := rfl
@[simp] theorem setRegN_motion {x v} : (s.setRegN x v).motion = s.motion := rfl
@[simp] theorem setRegN_sent {x v} : (s.setRegN x v).sent = s.sent := rfl
@[simp] theorem setRegN_hp {x v} : (s.setRegN x v).hp = s.hp := rfl
@[simp] theorem setRegN_doms {x v} : (s.setRegN x v).doms = s.doms := rfl
@[simp] theorem setRegN_due {x v} : (s.setRegN x v).due = s.due := rfl
@[simp] theorem setRegN_fab {x v} : (s.setRegN x v).fab = s.fab := rfl
@[simp] theorem setRegN_ln {x v} : (s.setRegN x v).ln = s.ln := rfl
@[simp] theorem setRegN_dram {x v} : (s.setRegN x v).dram = s.dram := rfl
@[simp] theorem setRegN_ing {x v} : (s.setRegN x v).ing = s.ing := rfl
@[simp] theorem setRegN_boot {x v} : (s.setRegN x v).boot = s.boot := rfl
@[simp] theorem setRegN_pw {x v} : (s.setRegN x v).pw = s.pw := rfl

@[simp] theorem setFld_pending {x f v} : (s.setFld x f v).pending = s.pending := rfl
@[simp] theorem setFld_tables {x f v} : (s.setFld x f v).tables = s.tables := rfl
@[simp] theorem setFld_mem {x f v} : (s.setFld x f v).mem = s.mem := rfl
@[simp] theorem setFld_freeCount {x f v} : (s.setFld x f v).freeCount = s.freeCount := rfl
@[simp] theorem setFld_locked {x f v} : (s.setFld x f v).locked = s.locked := rfl
@[simp] theorem setFld_paths {x f v} : (s.setFld x f v).paths = s.paths := rfl
@[simp] theorem setFld_log {x f v} : (s.setFld x f v).log = s.log := rfl
@[simp] theorem setFld_cores {x f v} : (s.setFld x f v).cores = s.cores := rfl
@[simp] theorem setFld_mgt {x f v} : (s.setFld x f v).mgt = s.mgt := rfl
@[simp] theorem setFld_layers {x f v} : (s.setFld x f v).layers = s.layers := rfl
@[simp] theorem setFld_lpBytes {x f v} : (s.setFld x f v).lpBytes = s.lpBytes := rfl
@[simp] theorem setFld_units {x f v} : (s.setFld x f v).units = s.units := rfl
@[simp] theorem setFld_rows {x f v} : (s.setFld x f v).rows = s.rows := rfl
@[simp] theorem setFld_surveys {x f v} : (s.setFld x f v).surveys = s.surveys := rfl
@[simp] theorem setFld_clk {x f v} : (s.setFld x f v).clk = s.clk := rfl
@[simp] theorem setFld_parser {x f v} : (s.setFld x f v).parser = s.parser := rfl
@[simp] theorem setFld_ver {x f v} : (s.setFld x f v).ver = s.ver := rfl
@[simp] theorem setFld_beams {x f v} : (s.setFld x f v).beams = s.beams := rfl
@[simp] theorem setFld_gy {x f v} : (s.setFld x f v).gy = s.gy := rfl
@[simp] theorem setFld_recs {x f v} : (s.setFld x f v).recs = s.recs := rfl
@[simp] theorem setFld_blocks {x f v} : (s.setFld x f v).blocks = s.blocks := rfl
@[simp] theorem setFld_hm {x f v} : (s.setFld x f v).hm = s.hm := rfl
@[simp] theorem setFld_cal {x f v} : (s.setFld x f v).cal = s.cal := rfl
@[simp] theorem setFld_shown {x f v} : (s.setFld x f v).shown = s.shown := rfl
@[simp] theorem setFld_sram {x f v} : (s.setFld x f v).sram = s.sram := rfl
@[simp] theorem setFld_cache {x f v} : (s.setFld x f v).cache = s.cache := rfl
@[simp] theorem setFld_pins {x f v} : (s.setFld x f v).pins = s.pins := rfl
@[simp] theorem setFld_motion {x f v} : (s.setFld x f v).motion = s.motion := rfl
@[simp] theorem setFld_sent {x f v} : (s.setFld x f v).sent = s.sent := rfl
@[simp] theorem setFld_hp {x f v} : (s.setFld x f v).hp = s.hp := rfl
@[simp] theorem setFld_doms {x f v} : (s.setFld x f v).doms = s.doms := rfl
@[simp] theorem setFld_due {x f v} : (s.setFld x f v).due = s.due := rfl
@[simp] theorem setFld_fab {x f v} : (s.setFld x f v).fab = s.fab := rfl
@[simp] theorem setFld_ln {x f v} : (s.setFld x f v).ln = s.ln := rfl
@[simp] theorem setFld_dram {x f v} : (s.setFld x f v).dram = s.dram := rfl
@[simp] theorem setFld_ing {x f v} : (s.setFld x f v).ing = s.ing := rfl
@[simp] theorem setFld_boot {x f v} : (s.setFld x f v).boot = s.boot := rfl
@[simp] theorem setFld_pw {x f v} : (s.setFld x f v).pw = s.pw := rfl

@[simp] theorem count_pending {x n} : (s.count x n).pending = s.pending := rfl
@[simp] theorem count_tables {x n} : (s.count x n).tables = s.tables := rfl
@[simp] theorem count_mem {x n} : (s.count x n).mem = s.mem := rfl
@[simp] theorem count_freeCount {x n} : (s.count x n).freeCount = s.freeCount := rfl
@[simp] theorem count_locked {x n} : (s.count x n).locked = s.locked := rfl
@[simp] theorem count_paths {x n} : (s.count x n).paths = s.paths := rfl
@[simp] theorem count_log {x n} : (s.count x n).log = s.log := rfl
@[simp] theorem count_cores {x n} : (s.count x n).cores = s.cores := rfl
@[simp] theorem count_mgt {x n} : (s.count x n).mgt = s.mgt := rfl
@[simp] theorem count_layers {x n} : (s.count x n).layers = s.layers := rfl
@[simp] theorem count_lpBytes {x n} : (s.count x n).lpBytes = s.lpBytes := rfl
@[simp] theorem count_units {x n} : (s.count x n).units = s.units := rfl
@[simp] theorem count_rows {x n} : (s.count x n).rows = s.rows := rfl
@[simp] theorem count_surveys {x n} : (s.count x n).surveys = s.surveys := rfl
@[simp] theorem count_clk {x n} : (s.count x n).clk = s.clk := rfl
@[simp] theorem count_parser {x n} : (s.count x n).parser = s.parser := rfl
@[simp] theorem count_ver {x n} : (s.count x n).ver = s.ver := rfl
@[simp] theorem count_beams {x n} : (s.count x n).beams = s.beams := rfl
@[simp] theorem count_gy {x n} : (s.count x n).gy = s.gy := rfl
@[simp] theorem count_recs {x n} : (s.count x n).recs = s.recs := rfl
@[simp] theorem count_blocks {x n} : (s.count x n).blocks = s.blocks := rfl
@[simp] theorem count_hm {x n} : (s.count x n).hm = s.hm := rfl
@[simp] theorem count_cal {x n} : (s.count x n).cal = s.cal := rfl
@[simp] theorem count_shown {x n} : (s.count x n).shown = s.shown := rfl
@[simp] theorem count_sram {x n} : (s.count x n).sram = s.sram := rfl
@[simp] theorem count_cache {x n} : (s.count x n).cache = s.cache := rfl
@[simp] theorem count_pins {x n} : (s.count x n).pins = s.pins := rfl
@[simp] theorem count_motion {x n} : (s.count x n).motion = s.motion := rfl
@[simp] theorem count_sent {x n} : (s.count x n).sent = s.sent := rfl
@[simp] theorem count_hp {x n} : (s.count x n).hp = s.hp := rfl
@[simp] theorem count_doms {x n} : (s.count x n).doms = s.doms := rfl
@[simp] theorem count_due {x n} : (s.count x n).due = s.due := rfl
@[simp] theorem count_fab {x n} : (s.count x n).fab = s.fab := rfl
@[simp] theorem count_ln {x n} : (s.count x n).ln = s.ln := rfl
@[simp] theorem count_dram {x n} : (s.count x n).dram = s.dram := rfl
@[simp] theorem count_ing {x n} : (s.count x n).ing = s.ing := rfl
@[simp] theorem count_boot {x n} : (s.count x n).boot = s.boot := rfl
@[simp] theorem count_pw {x n} : (s.count x n).pw = s.pw := rfl

@[simp] theorem countFld_pending {x f n} : (s.countFld x f n).pending = s.pending := rfl
@[simp] theorem countFld_tables {x f n} : (s.countFld x f n).tables = s.tables := rfl
@[simp] theorem countFld_mem {x f n} : (s.countFld x f n).mem = s.mem := rfl
@[simp] theorem countFld_freeCount {x f n} : (s.countFld x f n).freeCount = s.freeCount := rfl
@[simp] theorem countFld_locked {x f n} : (s.countFld x f n).locked = s.locked := rfl
@[simp] theorem countFld_paths {x f n} : (s.countFld x f n).paths = s.paths := rfl
@[simp] theorem countFld_log {x f n} : (s.countFld x f n).log = s.log := rfl
@[simp] theorem countFld_cores {x f n} : (s.countFld x f n).cores = s.cores := rfl
@[simp] theorem countFld_mgt {x f n} : (s.countFld x f n).mgt = s.mgt := rfl
@[simp] theorem countFld_layers {x f n} : (s.countFld x f n).layers = s.layers := rfl
@[simp] theorem countFld_lpBytes {x f n} : (s.countFld x f n).lpBytes = s.lpBytes := rfl
@[simp] theorem countFld_units {x f n} : (s.countFld x f n).units = s.units := rfl
@[simp] theorem countFld_rows {x f n} : (s.countFld x f n).rows = s.rows := rfl
@[simp] theorem countFld_surveys {x f n} : (s.countFld x f n).surveys = s.surveys := rfl
@[simp] theorem countFld_clk {x f n} : (s.countFld x f n).clk = s.clk := rfl
@[simp] theorem countFld_parser {x f n} : (s.countFld x f n).parser = s.parser := rfl
@[simp] theorem countFld_ver {x f n} : (s.countFld x f n).ver = s.ver := rfl
@[simp] theorem countFld_beams {x f n} : (s.countFld x f n).beams = s.beams := rfl
@[simp] theorem countFld_gy {x f n} : (s.countFld x f n).gy = s.gy := rfl
@[simp] theorem countFld_recs {x f n} : (s.countFld x f n).recs = s.recs := rfl
@[simp] theorem countFld_blocks {x f n} : (s.countFld x f n).blocks = s.blocks := rfl
@[simp] theorem countFld_hm {x f n} : (s.countFld x f n).hm = s.hm := rfl
@[simp] theorem countFld_cal {x f n} : (s.countFld x f n).cal = s.cal := rfl
@[simp] theorem countFld_shown {x f n} : (s.countFld x f n).shown = s.shown := rfl
@[simp] theorem countFld_sram {x f n} : (s.countFld x f n).sram = s.sram := rfl
@[simp] theorem countFld_cache {x f n} : (s.countFld x f n).cache = s.cache := rfl
@[simp] theorem countFld_pins {x f n} : (s.countFld x f n).pins = s.pins := rfl
@[simp] theorem countFld_motion {x f n} : (s.countFld x f n).motion = s.motion := rfl
@[simp] theorem countFld_sent {x f n} : (s.countFld x f n).sent = s.sent := rfl
@[simp] theorem countFld_hp {x f n} : (s.countFld x f n).hp = s.hp := rfl
@[simp] theorem countFld_doms {x f n} : (s.countFld x f n).doms = s.doms := rfl
@[simp] theorem countFld_due {x f n} : (s.countFld x f n).due = s.due := rfl
@[simp] theorem countFld_fab {x f n} : (s.countFld x f n).fab = s.fab := rfl
@[simp] theorem countFld_ln {x f n} : (s.countFld x f n).ln = s.ln := rfl
@[simp] theorem countFld_dram {x f n} : (s.countFld x f n).dram = s.dram := rfl
@[simp] theorem countFld_ing {x f n} : (s.countFld x f n).ing = s.ing := rfl
@[simp] theorem countFld_boot {x f n} : (s.countFld x f n).boot = s.boot := rfl
@[simp] theorem countFld_pw {x f n} : (s.countFld x f n).pw = s.pw := rfl

@[simp] theorem setPair_pending {x v} : (s.setPair x v).pending = s.pending := rfl
@[simp] theorem setPair_tables {x v} : (s.setPair x v).tables = s.tables := rfl
@[simp] theorem setPair_mem {x v} : (s.setPair x v).mem = s.mem := rfl
@[simp] theorem setPair_freeCount {x v} : (s.setPair x v).freeCount = s.freeCount := rfl
@[simp] theorem setPair_locked {x v} : (s.setPair x v).locked = s.locked := rfl
@[simp] theorem setPair_paths {x v} : (s.setPair x v).paths = s.paths := rfl
@[simp] theorem setPair_log {x v} : (s.setPair x v).log = s.log := rfl
@[simp] theorem setPair_cores {x v} : (s.setPair x v).cores = s.cores := rfl
@[simp] theorem setPair_mgt {x v} : (s.setPair x v).mgt = s.mgt := rfl
@[simp] theorem setPair_layers {x v} : (s.setPair x v).layers = s.layers := rfl
@[simp] theorem setPair_lpBytes {x v} : (s.setPair x v).lpBytes = s.lpBytes := rfl
@[simp] theorem setPair_units {x v} : (s.setPair x v).units = s.units := rfl
@[simp] theorem setPair_rows {x v} : (s.setPair x v).rows = s.rows := rfl
@[simp] theorem setPair_surveys {x v} : (s.setPair x v).surveys = s.surveys := rfl
@[simp] theorem setPair_clk {x v} : (s.setPair x v).clk = s.clk := rfl
@[simp] theorem setPair_parser {x v} : (s.setPair x v).parser = s.parser := rfl
@[simp] theorem setPair_ver {x v} : (s.setPair x v).ver = s.ver := rfl
@[simp] theorem setPair_beams {x v} : (s.setPair x v).beams = s.beams := rfl
@[simp] theorem setPair_gy {x v} : (s.setPair x v).gy = s.gy := rfl
@[simp] theorem setPair_recs {x v} : (s.setPair x v).recs = s.recs := rfl
@[simp] theorem setPair_blocks {x v} : (s.setPair x v).blocks = s.blocks := rfl
@[simp] theorem setPair_hm {x v} : (s.setPair x v).hm = s.hm := rfl
@[simp] theorem setPair_cal {x v} : (s.setPair x v).cal = s.cal := rfl
@[simp] theorem setPair_shown {x v} : (s.setPair x v).shown = s.shown := rfl
@[simp] theorem setPair_sram {x v} : (s.setPair x v).sram = s.sram := rfl
@[simp] theorem setPair_cache {x v} : (s.setPair x v).cache = s.cache := rfl
@[simp] theorem setPair_pins {x v} : (s.setPair x v).pins = s.pins := rfl
@[simp] theorem setPair_motion {x v} : (s.setPair x v).motion = s.motion := rfl
@[simp] theorem setPair_sent {x v} : (s.setPair x v).sent = s.sent := rfl
@[simp] theorem setPair_hp {x v} : (s.setPair x v).hp = s.hp := rfl
@[simp] theorem setPair_doms {x v} : (s.setPair x v).doms = s.doms := rfl
@[simp] theorem setPair_due {x v} : (s.setPair x v).due = s.due := rfl
@[simp] theorem setPair_fab {x v} : (s.setPair x v).fab = s.fab := rfl
@[simp] theorem setPair_ln {x v} : (s.setPair x v).ln = s.ln := rfl
@[simp] theorem setPair_dram {x v} : (s.setPair x v).dram = s.dram := rfl
@[simp] theorem setPair_ing {x v} : (s.setPair x v).ing = s.ing := rfl
@[simp] theorem setPair_boot {x v} : (s.setPair x v).boot = s.boot := rfl
@[simp] theorem setPair_pw {x v} : (s.setPair x v).pw = s.pw := rfl

@[simp] theorem setPairS_pending {x v} : (s.setPairS x v).pending = s.pending := rfl
@[simp] theorem setPairS_tables {x v} : (s.setPairS x v).tables = s.tables := rfl
@[simp] theorem setPairS_mem {x v} : (s.setPairS x v).mem = s.mem := rfl
@[simp] theorem setPairS_freeCount {x v} : (s.setPairS x v).freeCount = s.freeCount := rfl
@[simp] theorem setPairS_locked {x v} : (s.setPairS x v).locked = s.locked := rfl
@[simp] theorem setPairS_paths {x v} : (s.setPairS x v).paths = s.paths := rfl
@[simp] theorem setPairS_log {x v} : (s.setPairS x v).log = s.log := rfl
@[simp] theorem setPairS_cores {x v} : (s.setPairS x v).cores = s.cores := rfl
@[simp] theorem setPairS_mgt {x v} : (s.setPairS x v).mgt = s.mgt := rfl
@[simp] theorem setPairS_layers {x v} : (s.setPairS x v).layers = s.layers := rfl
@[simp] theorem setPairS_lpBytes {x v} : (s.setPairS x v).lpBytes = s.lpBytes := rfl
@[simp] theorem setPairS_units {x v} : (s.setPairS x v).units = s.units := rfl
@[simp] theorem setPairS_rows {x v} : (s.setPairS x v).rows = s.rows := rfl
@[simp] theorem setPairS_surveys {x v} : (s.setPairS x v).surveys = s.surveys := rfl
@[simp] theorem setPairS_clk {x v} : (s.setPairS x v).clk = s.clk := rfl
@[simp] theorem setPairS_parser {x v} : (s.setPairS x v).parser = s.parser := rfl
@[simp] theorem setPairS_ver {x v} : (s.setPairS x v).ver = s.ver := rfl
@[simp] theorem setPairS_beams {x v} : (s.setPairS x v).beams = s.beams := rfl
@[simp] theorem setPairS_gy {x v} : (s.setPairS x v).gy = s.gy := rfl
@[simp] theorem setPairS_recs {x v} : (s.setPairS x v).recs = s.recs := rfl
@[simp] theorem setPairS_blocks {x v} : (s.setPairS x v).blocks = s.blocks := rfl
@[simp] theorem setPairS_hm {x v} : (s.setPairS x v).hm = s.hm := rfl
@[simp] theorem setPairS_cal {x v} : (s.setPairS x v).cal = s.cal := rfl
@[simp] theorem setPairS_shown {x v} : (s.setPairS x v).shown = s.shown := rfl
@[simp] theorem setPairS_sram {x v} : (s.setPairS x v).sram = s.sram := rfl
@[simp] theorem setPairS_cache {x v} : (s.setPairS x v).cache = s.cache := rfl
@[simp] theorem setPairS_pins {x v} : (s.setPairS x v).pins = s.pins := rfl
@[simp] theorem setPairS_motion {x v} : (s.setPairS x v).motion = s.motion := rfl
@[simp] theorem setPairS_sent {x v} : (s.setPairS x v).sent = s.sent := rfl
@[simp] theorem setPairS_hp {x v} : (s.setPairS x v).hp = s.hp := rfl
@[simp] theorem setPairS_doms {x v} : (s.setPairS x v).doms = s.doms := rfl
@[simp] theorem setPairS_due {x v} : (s.setPairS x v).due = s.due := rfl
@[simp] theorem setPairS_fab {x v} : (s.setPairS x v).fab = s.fab := rfl
@[simp] theorem setPairS_ln {x v} : (s.setPairS x v).ln = s.ln := rfl
@[simp] theorem setPairS_dram {x v} : (s.setPairS x v).dram = s.dram := rfl
@[simp] theorem setPairS_ing {x v} : (s.setPairS x v).ing = s.ing := rfl
@[simp] theorem setPairS_boot {x v} : (s.setPairS x v).boot = s.boot := rfl
@[simp] theorem setPairS_pw {x v} : (s.setPairS x v).pw = s.pw := rfl

@[simp] theorem countPair_pending {x n} : (s.countPair x n).pending = s.pending := rfl
@[simp] theorem countPair_tables {x n} : (s.countPair x n).tables = s.tables := rfl
@[simp] theorem countPair_mem {x n} : (s.countPair x n).mem = s.mem := rfl
@[simp] theorem countPair_freeCount {x n} : (s.countPair x n).freeCount = s.freeCount := rfl
@[simp] theorem countPair_locked {x n} : (s.countPair x n).locked = s.locked := rfl
@[simp] theorem countPair_paths {x n} : (s.countPair x n).paths = s.paths := rfl
@[simp] theorem countPair_log {x n} : (s.countPair x n).log = s.log := rfl
@[simp] theorem countPair_cores {x n} : (s.countPair x n).cores = s.cores := rfl
@[simp] theorem countPair_mgt {x n} : (s.countPair x n).mgt = s.mgt := rfl
@[simp] theorem countPair_layers {x n} : (s.countPair x n).layers = s.layers := rfl
@[simp] theorem countPair_lpBytes {x n} : (s.countPair x n).lpBytes = s.lpBytes := rfl
@[simp] theorem countPair_units {x n} : (s.countPair x n).units = s.units := rfl
@[simp] theorem countPair_rows {x n} : (s.countPair x n).rows = s.rows := rfl
@[simp] theorem countPair_surveys {x n} : (s.countPair x n).surveys = s.surveys := rfl
@[simp] theorem countPair_clk {x n} : (s.countPair x n).clk = s.clk := rfl
@[simp] theorem countPair_parser {x n} : (s.countPair x n).parser = s.parser := rfl
@[simp] theorem countPair_ver {x n} : (s.countPair x n).ver = s.ver := rfl
@[simp] theorem countPair_beams {x n} : (s.countPair x n).beams = s.beams := rfl
@[simp] theorem countPair_gy {x n} : (s.countPair x n).gy = s.gy := rfl
@[simp] theorem countPair_recs {x n} : (s.countPair x n).recs = s.recs := rfl
@[simp] theorem countPair_blocks {x n} : (s.countPair x n).blocks = s.blocks := rfl
@[simp] theorem countPair_hm {x n} : (s.countPair x n).hm = s.hm := rfl
@[simp] theorem countPair_cal {x n} : (s.countPair x n).cal = s.cal := rfl
@[simp] theorem countPair_shown {x n} : (s.countPair x n).shown = s.shown := rfl
@[simp] theorem countPair_sram {x n} : (s.countPair x n).sram = s.sram := rfl
@[simp] theorem countPair_cache {x n} : (s.countPair x n).cache = s.cache := rfl
@[simp] theorem countPair_pins {x n} : (s.countPair x n).pins = s.pins := rfl
@[simp] theorem countPair_motion {x n} : (s.countPair x n).motion = s.motion := rfl
@[simp] theorem countPair_sent {x n} : (s.countPair x n).sent = s.sent := rfl
@[simp] theorem countPair_hp {x n} : (s.countPair x n).hp = s.hp := rfl
@[simp] theorem countPair_doms {x n} : (s.countPair x n).doms = s.doms := rfl
@[simp] theorem countPair_due {x n} : (s.countPair x n).due = s.due := rfl
@[simp] theorem countPair_fab {x n} : (s.countPair x n).fab = s.fab := rfl
@[simp] theorem countPair_ln {x n} : (s.countPair x n).ln = s.ln := rfl
@[simp] theorem countPair_dram {x n} : (s.countPair x n).dram = s.dram := rfl
@[simp] theorem countPair_ing {x n} : (s.countPair x n).ing = s.ing := rfl
@[simp] theorem countPair_boot {x n} : (s.countPair x n).boot = s.boot := rfl
@[simp] theorem countPair_pw {x n} : (s.countPair x n).pw = s.pw := rfl

@[simp] theorem event_pending {x f} : (s.event x f).pending = s.pending := rfl
@[simp] theorem event_tables {x f} : (s.event x f).tables = s.tables := rfl
@[simp] theorem event_mem {x f} : (s.event x f).mem = s.mem := rfl
@[simp] theorem event_freeCount {x f} : (s.event x f).freeCount = s.freeCount := rfl
@[simp] theorem event_locked {x f} : (s.event x f).locked = s.locked := rfl
@[simp] theorem event_paths {x f} : (s.event x f).paths = s.paths := rfl
@[simp] theorem event_log {x f} : (s.event x f).log = s.log := rfl
@[simp] theorem event_cores {x f} : (s.event x f).cores = s.cores := rfl
@[simp] theorem event_mgt {x f} : (s.event x f).mgt = s.mgt := rfl
@[simp] theorem event_layers {x f} : (s.event x f).layers = s.layers := rfl
@[simp] theorem event_lpBytes {x f} : (s.event x f).lpBytes = s.lpBytes := rfl
@[simp] theorem event_units {x f} : (s.event x f).units = s.units := rfl
@[simp] theorem event_rows {x f} : (s.event x f).rows = s.rows := rfl
@[simp] theorem event_surveys {x f} : (s.event x f).surveys = s.surveys := rfl
@[simp] theorem event_clk {x f} : (s.event x f).clk = s.clk := rfl
@[simp] theorem event_parser {x f} : (s.event x f).parser = s.parser := rfl
@[simp] theorem event_ver {x f} : (s.event x f).ver = s.ver := rfl
@[simp] theorem event_beams {x f} : (s.event x f).beams = s.beams := rfl
@[simp] theorem event_gy {x f} : (s.event x f).gy = s.gy := rfl
@[simp] theorem event_recs {x f} : (s.event x f).recs = s.recs := rfl
@[simp] theorem event_blocks {x f} : (s.event x f).blocks = s.blocks := rfl
@[simp] theorem event_hm {x f} : (s.event x f).hm = s.hm := rfl
@[simp] theorem event_cal {x f} : (s.event x f).cal = s.cal := rfl
@[simp] theorem event_shown {x f} : (s.event x f).shown = s.shown := rfl
@[simp] theorem event_sram {x f} : (s.event x f).sram = s.sram := rfl
@[simp] theorem event_cache {x f} : (s.event x f).cache = s.cache := rfl
@[simp] theorem event_pins {x f} : (s.event x f).pins = s.pins := rfl
@[simp] theorem event_motion {x f} : (s.event x f).motion = s.motion := rfl
@[simp] theorem event_sent {x f} : (s.event x f).sent = s.sent := rfl
@[simp] theorem event_hp {x f} : (s.event x f).hp = s.hp := rfl
@[simp] theorem event_doms {x f} : (s.event x f).doms = s.doms := rfl
@[simp] theorem event_due {x f} : (s.event x f).due = s.due := rfl
@[simp] theorem event_fab {x f} : (s.event x f).fab = s.fab := rfl
@[simp] theorem event_ln {x f} : (s.event x f).ln = s.ln := rfl
@[simp] theorem event_dram {x f} : (s.event x f).dram = s.dram := rfl
@[simp] theorem event_ing {x f} : (s.event x f).ing = s.ing := rfl
@[simp] theorem event_boot {x f} : (s.event x f).boot = s.boot := rfl
@[simp] theorem event_pw {x f} : (s.event x f).pw = s.pw := rfl

@[simp] theorem accFlag_pending {p x r} : (s.accFlag p x r).pending = s.pending := rfl
@[simp] theorem accFlag_tables {p x r} : (s.accFlag p x r).tables = s.tables := rfl
@[simp] theorem accFlag_mem {p x r} : (s.accFlag p x r).mem = s.mem := rfl
@[simp] theorem accFlag_freeCount {p x r} : (s.accFlag p x r).freeCount = s.freeCount := rfl
@[simp] theorem accFlag_locked {p x r} : (s.accFlag p x r).locked = s.locked := rfl
@[simp] theorem accFlag_paths {p x r} : (s.accFlag p x r).paths = s.paths := rfl
@[simp] theorem accFlag_log {p x r} : (s.accFlag p x r).log = s.log := rfl
@[simp] theorem accFlag_cores {p x r} : (s.accFlag p x r).cores = s.cores := rfl
@[simp] theorem accFlag_mgt {p x r} : (s.accFlag p x r).mgt = s.mgt := rfl
@[simp] theorem accFlag_layers {p x r} : (s.accFlag p x r).layers = s.layers := rfl
@[simp] theorem accFlag_lpBytes {p x r} : (s.accFlag p x r).lpBytes = s.lpBytes := rfl
@[simp] theorem accFlag_units {p x r} : (s.accFlag p x r).units = s.units := rfl
@[simp] theorem accFlag_rows {p x r} : (s.accFlag p x r).rows = s.rows := rfl
@[simp] theorem accFlag_surveys {p x r} : (s.accFlag p x r).surveys = s.surveys := rfl
@[simp] theorem accFlag_clk {p x r} : (s.accFlag p x r).clk = s.clk := rfl
@[simp] theorem accFlag_parser {p x r} : (s.accFlag p x r).parser = s.parser := rfl
@[simp] theorem accFlag_ver {p x r} : (s.accFlag p x r).ver = s.ver := rfl
@[simp] theorem accFlag_beams {p x r} : (s.accFlag p x r).beams = s.beams := rfl
@[simp] theorem accFlag_gy {p x r} : (s.accFlag p x r).gy = s.gy := rfl
@[simp] theorem accFlag_recs {p x r} : (s.accFlag p x r).recs = s.recs := rfl
@[simp] theorem accFlag_blocks {p x r} : (s.accFlag p x r).blocks = s.blocks := rfl
@[simp] theorem accFlag_hm {p x r} : (s.accFlag p x r).hm = s.hm := rfl
@[simp] theorem accFlag_cal {p x r} : (s.accFlag p x r).cal = s.cal := rfl
@[simp] theorem accFlag_shown {p x r} : (s.accFlag p x r).shown = s.shown := rfl
@[simp] theorem accFlag_sram {p x r} : (s.accFlag p x r).sram = s.sram := rfl
@[simp] theorem accFlag_cache {p x r} : (s.accFlag p x r).cache = s.cache := rfl
@[simp] theorem accFlag_pins {p x r} : (s.accFlag p x r).pins = s.pins := rfl
@[simp] theorem accFlag_motion {p x r} : (s.accFlag p x r).motion = s.motion := rfl
@[simp] theorem accFlag_sent {p x r} : (s.accFlag p x r).sent = s.sent := rfl
@[simp] theorem accFlag_hp {p x r} : (s.accFlag p x r).hp = s.hp := rfl
@[simp] theorem accFlag_doms {p x r} : (s.accFlag p x r).doms = s.doms := rfl
@[simp] theorem accFlag_due {p x r} : (s.accFlag p x r).due = s.due := rfl
@[simp] theorem accFlag_fab {p x r} : (s.accFlag p x r).fab = s.fab := rfl
@[simp] theorem accFlag_ln {p x r} : (s.accFlag p x r).ln = s.ln := rfl
@[simp] theorem accFlag_dram {p x r} : (s.accFlag p x r).dram = s.dram := rfl
@[simp] theorem accFlag_ing {p x r} : (s.accFlag p x r).ing = s.ing := rfl
@[simp] theorem accFlag_boot {p x r} : (s.accFlag p x r).boot = s.boot := rfl
@[simp] theorem accFlag_pw {p x r} : (s.accFlag p x r).pw = s.pw := rfl

@[simp] theorem setTbl_pending {x w} : (s.setTbl x w).pending = s.pending := rfl
@[simp] theorem setTbl_regs {x w} : (s.setTbl x w).regs = s.regs := rfl
@[simp] theorem setTbl_mem {x w} : (s.setTbl x w).mem = s.mem := rfl
@[simp] theorem setTbl_freeCount {x w} : (s.setTbl x w).freeCount = s.freeCount := rfl
@[simp] theorem setTbl_locked {x w} : (s.setTbl x w).locked = s.locked := rfl
@[simp] theorem setTbl_paths {x w} : (s.setTbl x w).paths = s.paths := rfl
@[simp] theorem setTbl_log {x w} : (s.setTbl x w).log = s.log := rfl
@[simp] theorem setTbl_cores {x w} : (s.setTbl x w).cores = s.cores := rfl
@[simp] theorem setTbl_mgt {x w} : (s.setTbl x w).mgt = s.mgt := rfl
@[simp] theorem setTbl_layers {x w} : (s.setTbl x w).layers = s.layers := rfl
@[simp] theorem setTbl_lpBytes {x w} : (s.setTbl x w).lpBytes = s.lpBytes := rfl
@[simp] theorem setTbl_units {x w} : (s.setTbl x w).units = s.units := rfl
@[simp] theorem setTbl_rows {x w} : (s.setTbl x w).rows = s.rows := rfl
@[simp] theorem setTbl_surveys {x w} : (s.setTbl x w).surveys = s.surveys := rfl
@[simp] theorem setTbl_clk {x w} : (s.setTbl x w).clk = s.clk := rfl
@[simp] theorem setTbl_parser {x w} : (s.setTbl x w).parser = s.parser := rfl
@[simp] theorem setTbl_ver {x w} : (s.setTbl x w).ver = s.ver := rfl
@[simp] theorem setTbl_beams {x w} : (s.setTbl x w).beams = s.beams := rfl
@[simp] theorem setTbl_gy {x w} : (s.setTbl x w).gy = s.gy := rfl
@[simp] theorem setTbl_recs {x w} : (s.setTbl x w).recs = s.recs := rfl
@[simp] theorem setTbl_blocks {x w} : (s.setTbl x w).blocks = s.blocks := rfl
@[simp] theorem setTbl_hm {x w} : (s.setTbl x w).hm = s.hm := rfl
@[simp] theorem setTbl_cal {x w} : (s.setTbl x w).cal = s.cal := rfl
@[simp] theorem setTbl_shown {x w} : (s.setTbl x w).shown = s.shown := rfl
@[simp] theorem setTbl_sram {x w} : (s.setTbl x w).sram = s.sram := rfl
@[simp] theorem setTbl_cache {x w} : (s.setTbl x w).cache = s.cache := rfl
@[simp] theorem setTbl_pins {x w} : (s.setTbl x w).pins = s.pins := rfl
@[simp] theorem setTbl_motion {x w} : (s.setTbl x w).motion = s.motion := rfl
@[simp] theorem setTbl_sent {x w} : (s.setTbl x w).sent = s.sent := rfl
@[simp] theorem setTbl_hp {x w} : (s.setTbl x w).hp = s.hp := rfl
@[simp] theorem setTbl_doms {x w} : (s.setTbl x w).doms = s.doms := rfl
@[simp] theorem setTbl_due {x w} : (s.setTbl x w).due = s.due := rfl
@[simp] theorem setTbl_fab {x w} : (s.setTbl x w).fab = s.fab := rfl
@[simp] theorem setTbl_ln {x w} : (s.setTbl x w).ln = s.ln := rfl
@[simp] theorem setTbl_dram {x w} : (s.setTbl x w).dram = s.dram := rfl
@[simp] theorem setTbl_ing {x w} : (s.setTbl x w).ing = s.ing := rfl
@[simp] theorem setTbl_boot {x w} : (s.setTbl x w).boot = s.boot := rfl
@[simp] theorem setTbl_pw {x w} : (s.setTbl x w).pw = s.pw := rfl

@[simp] theorem st_pending {x b} : (s.st x b).pending = s.pending := rfl
@[simp] theorem st_regs {x b} : (s.st x b).regs = s.regs := rfl
@[simp] theorem st_tables {x b} : (s.st x b).tables = s.tables := rfl
@[simp] theorem st_freeCount {x b} : (s.st x b).freeCount = s.freeCount := rfl
@[simp] theorem st_locked {x b} : (s.st x b).locked = s.locked := rfl
@[simp] theorem st_paths {x b} : (s.st x b).paths = s.paths := rfl
@[simp] theorem st_log {x b} : (s.st x b).log = s.log := rfl
@[simp] theorem st_cores {x b} : (s.st x b).cores = s.cores := rfl
@[simp] theorem st_mgt {x b} : (s.st x b).mgt = s.mgt := rfl
@[simp] theorem st_layers {x b} : (s.st x b).layers = s.layers := rfl
@[simp] theorem st_lpBytes {x b} : (s.st x b).lpBytes = s.lpBytes := rfl
@[simp] theorem st_units {x b} : (s.st x b).units = s.units := rfl
@[simp] theorem st_rows {x b} : (s.st x b).rows = s.rows := rfl
@[simp] theorem st_surveys {x b} : (s.st x b).surveys = s.surveys := rfl
@[simp] theorem st_clk {x b} : (s.st x b).clk = s.clk := rfl
@[simp] theorem st_parser {x b} : (s.st x b).parser = s.parser := rfl
@[simp] theorem st_ver {x b} : (s.st x b).ver = s.ver := rfl
@[simp] theorem st_beams {x b} : (s.st x b).beams = s.beams := rfl
@[simp] theorem st_gy {x b} : (s.st x b).gy = s.gy := rfl
@[simp] theorem st_recs {x b} : (s.st x b).recs = s.recs := rfl
@[simp] theorem st_blocks {x b} : (s.st x b).blocks = s.blocks := rfl
@[simp] theorem st_hm {x b} : (s.st x b).hm = s.hm := rfl
@[simp] theorem st_cal {x b} : (s.st x b).cal = s.cal := rfl
@[simp] theorem st_shown {x b} : (s.st x b).shown = s.shown := rfl
@[simp] theorem st_sram {x b} : (s.st x b).sram = s.sram := rfl
@[simp] theorem st_cache {x b} : (s.st x b).cache = s.cache := rfl
@[simp] theorem st_pins {x b} : (s.st x b).pins = s.pins := rfl
@[simp] theorem st_motion {x b} : (s.st x b).motion = s.motion := rfl
@[simp] theorem st_sent {x b} : (s.st x b).sent = s.sent := rfl
@[simp] theorem st_hp {x b} : (s.st x b).hp = s.hp := rfl
@[simp] theorem st_doms {x b} : (s.st x b).doms = s.doms := rfl
@[simp] theorem st_due {x b} : (s.st x b).due = s.due := rfl
@[simp] theorem st_fab {x b} : (s.st x b).fab = s.fab := rfl
@[simp] theorem st_ln {x b} : (s.st x b).ln = s.ln := rfl
@[simp] theorem st_dram {x b} : (s.st x b).dram = s.dram := rfl
@[simp] theorem st_ing {x b} : (s.st x b).ing = s.ing := rfl
@[simp] theorem st_boot {x b} : (s.st x b).boot = s.boot := rfl
@[simp] theorem st_pw {x b} : (s.st x b).pw = s.pw := rfl

@[simp] theorem poke_pending {x l} : (s.poke x l).pending = s.pending := 
  (poke_keeps (F := (· ≠ .pending)) .refl nofun).same .pending (· rfl)
@[simp] theorem poke_regs {x l} : (s.poke x l).regs = s.regs := 
  (poke_keeps (F := (· ≠ .regs)) .refl nofun).same .regs (· rfl)
@[simp] theorem poke_tables {x l} : (s.poke x l).tables = s.tables := 
  (poke_keeps (F := (· ≠ .tables)) .refl nofun).same .tables (· rfl)
@[simp] theorem poke_freeCount {x l} : (s.poke x l).freeCount = s.freeCount := 
  (poke_keeps (F := (· ≠ .freeCount)) .refl nofun).same .freeCount (· rfl)
@[simp] theorem poke_locked {x l} : (s.poke x l).locked = s.locked := 
  (poke_keeps (F := (· ≠ .locked)) .refl nofun).same .locked (· rfl)
@[simp] theorem poke_paths {x l} : (s.poke x l).paths = s.paths := 
  (poke_keeps (F := (· ≠ .paths)) .refl nofun).same .paths (· rfl)
@[simp] theorem poke_log {x l} : (s.poke x l).log = s.log := 
  (poke_keeps (F := (· ≠ .log)) .refl nofun).same .log (· rfl)
@[simp] theorem poke_cores {x l} : (s.poke x l).cores = s.cores := 
  (poke_keeps (F := (· ≠ .cores)) .refl nofun).same .cores (· rfl)
@[simp] theorem poke_mgt {x l} : (s.poke x l).mgt = s.mgt := 
  (poke_keeps (F := (· ≠ .mgt)) .refl nofun).same .mgt (· rfl)
@[simp] theorem poke_layers {x l} : (s.poke x l).layers = s.layers := 
  (poke_keeps (F := (· ≠ .layers)) .refl nofun).same .layers (· rfl)
@[simp] theorem poke_lpBytes {x l} : (s.poke x l).lpBytes = s.lpBytes := 
  (poke_keeps (F := (· ≠ .lpBytes)) .refl nofun).same .lpBytes (· rfl)
@[simp] theorem poke_units {x l} : (s.poke x l).units = s.units := 
  (poke_keeps (F := (· ≠ .units)) .refl nofun).same .units (· rfl)
@[simp] theorem poke_rows {x l} : (s.poke x l).rows = s.rows := 
  (poke_keeps (F := (· ≠ .rows)) .refl nofun).same .rows (· rfl)
@[simp] theorem poke_surveys {x l} : (s.poke x l).surveys = s.surveys := 
  (poke_keeps (F := (· ≠ .surveys)) .refl nofun).same .surveys (· rfl)
@[simp] theorem poke_clk {x l} : (s.poke x l).clk = s.clk := 
  (poke_keeps (F := (· ≠ .clk)) .refl nofun).same .clk (· rfl)
@[simp] theorem poke_parser {x l} : (s.poke x l).parser = s.parser := 
  (poke_keeps (F := (· ≠ .parser)) .refl nofun).same .parser (· rfl)
@[simp] theorem poke_ver {x l} : (s.poke x l).ver = s.ver := 
  (poke_keeps (F := (· ≠ .ver)) .refl nofun).same .ver (· rfl)
@[simp] theorem poke_beams {x l} : (s.poke x l).beams = s.beams := 
  (poke_keeps (F := (· ≠ .beams)) .refl nofun).same .beams (· rfl)
@[simp] theorem poke_gy {x l} : (s.poke x l).gy = s.gy := 
  (poke_keeps (F := (· ≠ .gy)) .refl nofun).same .gy (· rfl)
@[simp] theorem poke_recs {x l} : (s.poke x l).recs = s.recs := 
  (poke_keeps (F := (· ≠ .recs)) .refl nofun).same .recs (· rfl)
@[simp] theorem poke_blocks {x l} : (s.poke x l).blocks = s.blocks := 
  (poke_keeps (F := (· ≠ .blocks)) .refl nofun).same .blocks (· rfl)
@[simp] theorem poke_hm {x l} : (s.poke x l).hm = s.hm := 
  (poke_keeps (F := (· ≠ .hm)) .refl nofun).same .hm (· rfl)
@[simp] theorem poke_cal {x l} : (s.poke x l).cal = s.cal := 
  (poke_keeps (F := (· ≠ .cal)) .refl nofun).same .cal (· rfl)
@[simp] theorem poke_shown {x l} : (s.poke x l).shown = s.shown := 
  (poke_keeps (F := (· ≠ .shown)) .refl nofun).same .shown (· rfl)
@[simp] theorem poke_sram {x l} : (s.poke x l).sram = s.sram := 
  (poke_keeps (F := (· ≠ .sram)) .refl nofun).same .sram (· rfl)
@[simp] theorem poke_cache {x l} : (s.poke x l).cache = s.cache := 
  (poke_keeps (F := (· ≠ .cache)) .refl nofun).same .cache (· rfl)
@[simp] theorem poke_pins {x l} : (s.poke x l).pins = s.pins := 
  (poke_keeps (F := (· ≠ .pins)) .refl nofun).same .pins (· rfl)
@[simp] theorem poke_motion {x l} : (s.poke x l).motion = s.motion := 
  (poke_keeps (F := (· ≠ .motion)) .refl nofun).same .motion (· rfl)
@[simp] theorem poke_sent {x l} : (s.poke x l).sent = s.sent := 
  (poke_keeps (F := (· ≠ .sent)) .refl nofun).same .sent (· rfl)
@[simp] theorem poke_hp {x l} : (s.poke x l).hp = s.hp := 
  (poke_keeps (F := (· ≠ .hp)) .refl nofun).same .hp (· rfl)
@[simp] theorem poke_doms {x l} : (s.poke x l).doms = s.doms := 
  (poke_keeps (F := (· ≠ .doms)) .refl nofun).same .doms (· rfl)
@[simp] theorem poke_due {x l} : (s.poke x l).due = s.due := 
  (poke_keeps (F := (· ≠ .due)) .refl nofun).same .due (· rfl)
@[simp] theorem poke_fab {x l} : (s.poke x l).fab = s.fab := 
  (poke_keeps (F := (· ≠ .fab)) .refl nofun).same .fab (· rfl)
@[simp] theorem poke_ln {x l} : (s.poke x l).ln = s.ln := 
  (poke_keeps (F := (· ≠ .ln)) .refl nofun).same .ln (· rfl)
@[simp] theorem poke_dram {x l} : (s.poke x l).dram = s.dram := 
  (poke_keeps (F := (· ≠ .dram)) .refl nofun).same .dram (· rfl)
@[simp] theorem poke_ing {x l} : (s.poke x l).ing = s.ing := 
  (poke_keeps (F := (· ≠ .ing)) .refl nofun).same .ing (· rfl)
@[simp] theorem poke_boot {x l} : (s.poke x l).boot = s.boot := 
  (poke_keeps (F := (· ≠ .boot)) .refl nofun).same .boot (· rfl)
@[simp] theorem poke_pw {x l} : (s.poke x l).pw = s.pw := 
  (poke_keeps (F := (· ≠ .pw)) .refl nofun).same .pw (· rfl)

@[simp] theorem setErr_pending {w m} : (s.setErr w m).pending = s.pending := rfl
@[simp] theorem setErr_regs {w m} : (s.setErr w m).regs = s.regs := rfl
@[simp] theorem setErr_tables {w m} : (s.setErr w m).tables = s.tables := rfl
@[simp] theorem setErr_mem {w m} : (s.setErr w m).mem = s.mem := rfl
@[simp] theorem setErr_freeCount {w m} : (s.setErr w m).freeCount = s.freeCount := rfl
@[simp] theorem setErr_locked {w m} : (s.setErr w m).locked = s.locked := rfl
@[simp] theorem setErr_paths {w m} : (s.setErr w m).paths = s.paths := rfl
@[simp] theorem setErr_log {w m} : (s.setErr w m).log = s.log := rfl
@[simp] theorem setErr_cores {w m} : (s.setErr w m).cores = s.cores := rfl
@[simp] theorem setErr_mgt {w m} : (s.setErr w m).mgt = s.mgt := rfl
@[simp] theorem setErr_layers {w m} : (s.setErr w m).layers = s.layers := rfl
@[simp] theorem setErr_lpBytes {w m} : (s.setErr w m).lpBytes = s.lpBytes := rfl
@[simp] theorem setErr_units {w m} : (s.setErr w m).units = s.units := rfl
@[simp] theorem setErr_rows {w m} : (s.setErr w m).rows = s.rows := rfl
@[simp] theorem setErr_surveys {w m} : (s.setErr w m).surveys = s.surveys := rfl
@[simp] theorem setErr_clk {w m} : (s.setErr w m).clk = s.clk := rfl
@[simp] theorem setErr_parser {w m} : (s.setErr w m).parser = s.parser := rfl
@[simp] theorem setErr_ver {w m} : (s.setErr w m).ver = s.ver := rfl
@[simp] theorem setErr_beams {w m} : (s.setErr w m).beams = s.beams := rfl
@[simp] theorem setErr_gy {w m} : (s.setErr w m).gy = s.gy := rfl
@[simp] theorem setErr_recs {w m} : (s.setErr w m).recs = s.recs := rfl
@[simp] theorem setErr_blocks {w m} : (s.setErr w m).blocks = s.blocks := rfl
@[simp] theorem setErr_hm {w m} : (s.setErr w m).hm = s.hm := rfl
@[simp] theorem setErr_cal {w m} : (s.setErr w m).cal = s.cal := rfl
@[simp] theorem setErr_shown {w m} : (s.setErr w m).shown = s.shown := rfl
@[simp] theorem setErr_sram {w m} : (s.setErr w m).sram = s.sram := rfl
@[simp] theorem setErr_cache {w m} : (s.setErr w m).cache = s.cache := rfl
@[simp] theorem setErr_pins {w m} : (s.setErr w m).pins = s.pins := rfl
@[simp] theorem setErr_motion {w m} : (s.setErr w m).motion = s.motion := rfl
@[simp] theorem setErr_sent {w m} : (s.setErr w m).sent = s.sent := rfl
@[simp] theorem setErr_hp {w m} : (s.setErr w m).hp = s.hp := rfl
@[simp] theorem setErr_doms {w m} : (s.setErr w m).doms = s.doms := rfl
@[simp] theorem setErr_due {w m} : (s.setErr w m).due = s.due := rfl
@[simp] theorem setErr_fab {w m} : (s.setErr w m).fab = s.fab := rfl
@[simp] theorem setErr_ln {w m} : (s.setErr w m).ln = s.ln := rfl
@[simp] theorem setErr_ing {w m} : (s.setErr w m).ing = s.ing := rfl
@[simp] theorem setErr_boot {w m} : (s.setErr w m).boot = s.boot := rfl
@[simp] theorem setErr_pw {w m} : (s.setErr w m).pw = s.pw := rfl

@[simp] theorem stBytes_pending {x l} : (s.stBytes x l).pending = s.pending := 
  (stBytes_keeps (F := (· ≠ .pending)) .refl ⟨nofun, nofun, nofun⟩).same .pending (· rfl)
@[simp] theorem stBytes_tables {x l} : (s.stBytes x l).tables = s.tables := 
  (stBytes_keeps (F := (· ≠ .tables)) .refl ⟨nofun, nofun, nofun⟩).same .tables (· rfl)
@[simp] theorem stBytes_freeCount {x l} : (s.stBytes x l).freeCount = s.freeCount := 
  (stBytes_keeps (F := (· ≠ .freeCount)) .refl ⟨nofun, nofun, nofun⟩).same .freeCount (· rfl)
@[simp] theorem stBytes_locked {x l} : (s.stBytes x l).locked = s.locked := 
  (stBytes_keeps (F := (· ≠ .locked)) .refl ⟨nofun, nofun, nofun⟩).same .locked (· rfl)
@[simp] theorem stBytes_paths {x l} : (s.stBytes x l).paths = s.paths := 
  (stBytes_keeps (F := (· ≠ .paths)) .refl ⟨nofun, nofun, nofun⟩).same .paths (· rfl)
@[simp] theorem stBytes_log {x l} : (s.stBytes x l).log = s.log := 
  (stBytes_keeps (F := (· ≠ .log)) .refl ⟨nofun, nofun, nofun⟩).same .log (· rfl)
@[simp] theorem stBytes_cores {x l} : (s.stBytes x l).cores = s.cores := 
  (stBytes_keeps (F := (· ≠ .cores)) .refl ⟨nofun, nofun, nofun⟩).same .cores (· rfl)
@[simp] theorem stBytes_mgt {x l} : (s.stBytes x l).mgt = s.mgt := 
  (stBytes_keeps (F := (· ≠ .mgt)) .refl ⟨nofun, nofun, nofun⟩).same .mgt (· rfl)
@[simp] theorem stBytes_layers {x l} : (s.stBytes x l).layers = s.layers := 
  (stBytes_keeps (F := (· ≠ .layers)) .refl ⟨nofun, nofun, nofun⟩).same .layers (· rfl)
@[simp] theorem stBytes_lpBytes {x l} : (s.stBytes x l).lpBytes = s.lpBytes := 
  (stBytes_keeps (F := (· ≠ .lpBytes)) .refl ⟨nofun, nofun, nofun⟩).same .lpBytes (· rfl)
@[simp] theorem stBytes_units {x l} : (s.stBytes x l).units = s.units := 
  (stBytes_keeps (F := (· ≠ .units)) .refl ⟨nofun, nofun, nofun⟩).same .units (· rfl)
@[simp] theorem stBytes_rows {x l} : (s.stBytes x l).rows = s.rows := 
  (stBytes_keeps (F := (· ≠ .rows)) .refl ⟨nofun, nofun, nofun⟩).same .rows (· rfl)
@[simp] theorem stBytes_surveys {x l} : (s.stBytes x l).surveys = s.surveys := 
  (stBytes_keeps (F := (· ≠ .surveys)) .refl ⟨nofun, nofun, nofun⟩).same .surveys (· rfl)
@[simp] theorem stBytes_clk {x l} : (s.stBytes x l).clk = s.clk := 
  (stBytes_keeps (F := (· ≠ .clk)) .refl ⟨nofun, nofun, nofun⟩).same .clk (· rfl)
@[simp] theorem stBytes_parser {x l} : (s.stBytes x l).parser = s.parser := 
  (stBytes_keeps (F := (· ≠ .parser)) .refl ⟨nofun, nofun, nofun⟩).same .parser (· rfl)
@[simp] theorem stBytes_ver {x l} : (s.stBytes x l).ver = s.ver := 
  (stBytes_keeps (F := (· ≠ .ver)) .refl ⟨nofun, nofun, nofun⟩).same .ver (· rfl)
@[simp] theorem stBytes_beams {x l} : (s.stBytes x l).beams = s.beams := 
  (stBytes_keeps (F := (· ≠ .beams)) .refl ⟨nofun, nofun, nofun⟩).same .beams (· rfl)
@[simp] theorem stBytes_gy {x l} : (s.stBytes x l).gy = s.gy := 
  (stBytes_keeps (F := (· ≠ .gy)) .refl ⟨nofun, nofun, nofun⟩).same .gy (· rfl)
@[simp] theorem stBytes_recs {x l} : (s.stBytes x l).recs = s.recs := 
  (stBytes_keeps (F := (· ≠ .recs)) .refl ⟨nofun, nofun, nofun⟩).same .recs (· rfl)
@[simp] theorem stBytes_blocks {x l} : (s.stBytes x l).blocks = s.blocks := 
  (stBytes_keeps (F := (· ≠ .blocks)) .refl ⟨nofun, nofun, nofun⟩).same .blocks (· rfl)
@[simp] theorem stBytes_hm {x l} : (s.stBytes x l).hm = s.hm := 
  (stBytes_keeps (F := (· ≠ .hm)) .refl ⟨nofun, nofun, nofun⟩).same .hm (· rfl)
@[simp] theorem stBytes_cal {x l} : (s.stBytes x l).cal = s.cal := 
  (stBytes_keeps (F := (· ≠ .cal)) .refl ⟨nofun, nofun, nofun⟩).same .cal (· rfl)
@[simp] theorem stBytes_shown {x l} : (s.stBytes x l).shown = s.shown := 
  (stBytes_keeps (F := (· ≠ .shown)) .refl ⟨nofun, nofun, nofun⟩).same .shown (· rfl)
@[simp] theorem stBytes_sram {x l} : (s.stBytes x l).sram = s.sram := 
  (stBytes_keeps (F := (· ≠ .sram)) .refl ⟨nofun, nofun, nofun⟩).same .sram (· rfl)
@[simp] theorem stBytes_cache {x l} : (s.stBytes x l).cache = s.cache := 
  (stBytes_keeps (F := (· ≠ .cache)) .refl ⟨nofun, nofun, nofun⟩).same .cache (· rfl)
@[simp] theorem stBytes_pins {x l} : (s.stBytes x l).pins = s.pins := 
  (stBytes_keeps (F := (· ≠ .pins)) .refl ⟨nofun, nofun, nofun⟩).same .pins (· rfl)
@[simp] theorem stBytes_motion {x l} : (s.stBytes x l).motion = s.motion := 
  (stBytes_keeps (F := (· ≠ .motion)) .refl ⟨nofun, nofun, nofun⟩).same .motion (· rfl)
@[simp] theorem stBytes_sent {x l} : (s.stBytes x l).sent = s.sent := 
  (stBytes_keeps (F := (· ≠ .sent)) .refl ⟨nofun, nofun, nofun⟩).same .sent (· rfl)
@[simp] theorem stBytes_hp {x l} : (s.stBytes x l).hp = s.hp := 
  (stBytes_keeps (F := (· ≠ .hp)) .refl ⟨nofun, nofun, nofun⟩).same .hp (· rfl)
@[simp] theorem stBytes_doms {x l} : (s.stBytes x l).doms = s.doms := 
  (stBytes_keeps (F := (· ≠ .doms)) .refl ⟨nofun, nofun, nofun⟩).same .doms (· rfl)
@[simp] theorem stBytes_due {x l} : (s.stBytes x l).due = s.due := 
  (stBytes_keeps (F := (· ≠ .due)) .refl ⟨nofun, nofun, nofun⟩).same .due (· rfl)
@[simp] theorem stBytes_fab {x l} : (s.stBytes x l).fab = s.fab := 
  (stBytes_keeps (F := (· ≠ .fab)) .refl ⟨nofun, nofun, nofun⟩).same .fab (· rfl)
@[simp] theorem stBytes_ln {x l} : (s.stBytes x l).ln = s.ln := 
  (stBytes_keeps (F := (· ≠ .ln)) .refl ⟨nofun, nofun, nofun⟩).same .ln (· rfl)
@[simp] theorem stBytes_ing {x l} : (s.stBytes x l).ing = s.ing := 
  (stBytes_keeps (F := (· ≠ .ing)) .refl ⟨nofun, nofun, nofun⟩).same .ing (· rfl)
@[simp] theorem stBytes_boot {x l} : (s.stBytes x l).boot = s.boot := 
  (stBytes_keeps (F := (· ≠ .boot)) .refl ⟨nofun, nofun, nofun⟩).same .boot (· rfl)
@[simp] theorem stBytes_pw {x l} : (s.stBytes x l).pw = s.pw := 
  (stBytes_keeps (F := (· ≠ .pw)) .refl ⟨nofun, nofun, nofun⟩).same .pw (· rfl)

@[simp] theorem free_pending : (s.free.2).pending = s.pending := rfl
@[simp] theorem free_regs : (s.free.2).regs = s.regs := rfl
@[simp] theorem free_tables : (s.free.2).tables = s.tables := rfl
@[simp] theorem free_mem : (s.free.2).mem = s.mem := rfl
@[simp] theorem free_freeCount : (s.free.2).freeCount = s.freeCount + 1 := rfl
@[simp] theorem free_locked : (s.free.2).locked = s.locked := rfl
@[simp] theorem free_paths : (s.free.2).paths = s.paths := rfl
@[simp] theorem free_log : (s.free.2).log = s.log := rfl
@[simp] theorem free_cores : (s.free.2).cores = s.cores := rfl
@[simp] theorem free_mgt : (s.free.2).mgt = s.mgt := rfl
@[simp] theorem free_layers : (s.free.2).layers = s.layers := rfl
@[simp] theorem free_lpBytes : (s.free.2).lpBytes = s.lpBytes := rfl
@[simp] theorem free_units : (s.free.2).units = s.units := rfl
@[simp] theorem free_rows : (s.free.2).rows = s.rows := rfl
@[simp] theorem free_surveys : (s.free.2).surveys = s.surveys := rfl
@[simp] theorem free_clk : (s.free.2).clk = s.clk := rfl
@[simp] theorem free_parser : (s.free.2).parser = s.parser := rfl
@[simp] theorem free_ver : (s.free.2).ver = s.ver := rfl
@[simp] theorem free_beams : (s.free.2).beams = s.beams := rfl
@[simp] theorem free_gy : (s.free.2).gy = s.gy := rfl
@[simp] theorem free_recs : (s.free.2).recs = s.recs := rfl
@[simp] theorem free_blocks : (s.free.2).blocks = s.blocks := rfl
@[simp] theorem free_hm : (s.free.2).hm = s.hm := rfl
@[simp] theorem free_cal : (s.free.2).cal = s.cal := rfl
@[simp] theorem free_shown : (s.free.2).shown = s.shown := rfl
@[simp] theorem free_sram : (s.free.2).sram = s.sram := rfl
@[simp] theorem free_cache : (s.free.2).cache = s.cache := rfl
@[simp] theorem free_pins : (s.free.2).pins = s.pins := rfl
@[simp] theorem free_motion : (s.free.2).motion = s.motion := rfl
@[simp] theorem free_sent : (s.free.2).sent = s.sent := rfl
@[simp] theorem free_hp : (s.free.2).hp = s.hp := rfl
@[simp] theorem free_doms : (s.free.2).doms = s.doms := rfl
@[simp] theorem free_due : (s.free.2).due = s.due := rfl
@[simp] theorem free_fab : (s.free.2).fab = s.fab := rfl
@[simp] theorem free_ln : (s.free.2).ln = s.ln := rfl
@[simp] theorem free_dram : (s.free.2).dram = s.dram := rfl
@[simp] theorem free_ing : (s.free.2).ing = s.ing := rfl
@[simp] theorem free_boot : (s.free.2).boot = s.boot := rfl
@[simp] theorem free_pw : (s.free.2).pw = s.pw := rfl

@[simp] theorem freeI_pending : (s.freeI.2).pending = s.pending := rfl
@[simp] theorem freeI_regs : (s.freeI.2).regs = s.regs := rfl
@[simp] theorem freeI_tables : (s.freeI.2).tables = s.tables := rfl
@[simp] theorem freeI_mem : (s.freeI.2).mem = s.mem := rfl
@[simp] theorem freeI_freeCount : (s.freeI.2).freeCount = s.freeCount + 1 := rfl
@[simp] theorem freeI_locked : (s.freeI.2).locked = s.locked := rfl
@[simp] theorem freeI_paths : (s.freeI.2).paths = s.paths := rfl
@[simp] theorem freeI_log : (s.freeI.2).log = s.log := rfl
@[simp] theorem freeI_cores : (s.freeI.2).cores = s.cores := rfl
@[simp] theorem freeI_mgt : (s.freeI.2).mgt = s.mgt := rfl
@[simp] theorem freeI_layers : (s.freeI.2).layers = s.layers := rfl
@[simp] theorem freeI_lpBytes : (s.freeI.2).lpBytes = s.lpBytes := rfl
@[simp] theorem freeI_units : (s.freeI.2).units = s.units := rfl
@[simp] theorem freeI_rows : (s.freeI.2).rows = s.rows := rfl
@[simp] theorem freeI_surveys : (s.freeI.2).surveys = s.surveys := rfl
@[simp] theorem freeI_clk : (s.freeI.2).clk = s.clk := rfl
@[simp] theorem freeI_parser : (s.freeI.2).parser = s.parser := rfl
@[simp] theorem freeI_ver : (s.freeI.2).ver = s.ver := rfl
@[simp] theorem freeI_beams : (s.freeI.2).beams = s.beams := rfl
@[simp] theorem freeI_gy : (s.freeI.2).gy = s.gy := rfl
@[simp] theorem freeI_recs : (s.freeI.2).recs = s.recs := rfl
@[simp] theorem freeI_blocks : (s.freeI.2).blocks = s.blocks := rfl
@[simp] theorem freeI_hm : (s.freeI.2).hm = s.hm := rfl
@[simp] theorem freeI_cal : (s.freeI.2).cal = s.cal := rfl
@[simp] theorem freeI_shown : (s.freeI.2).shown = s.shown := rfl
@[simp] theorem freeI_sram : (s.freeI.2).sram = s.sram := rfl
@[simp] theorem freeI_cache : (s.freeI.2).cache = s.cache := rfl
@[simp] theorem freeI_pins : (s.freeI.2).pins = s.pins := rfl
@[simp] theorem freeI_motion : (s.freeI.2).motion = s.motion := rfl
@[simp] theorem freeI_sent : (s.freeI.2).sent = s.sent := rfl
@[simp] theorem freeI_hp : (s.freeI.2).hp = s.hp := rfl
@[simp] theorem freeI_doms : (s.freeI.2).doms = s.doms := rfl
@[simp] theorem freeI_due : (s.freeI.2).due = s.due := rfl
@[simp] theorem freeI_fab : (s.freeI.2).fab = s.fab := rfl
@[simp] theorem freeI_ln : (s.freeI.2).ln = s.ln := rfl
@[simp] theorem freeI_dram : (s.freeI.2).dram = s.dram := rfl
@[simp] theorem freeI_ing : (s.freeI.2).ing = s.ing := rfl
@[simp] theorem freeI_boot : (s.freeI.2).boot = s.boot := rfl
@[simp] theorem freeI_pw : (s.freeI.2).pw = s.pw := rfl

@[simp] theorem elapse_pending {n} : (s.elapse n).pending = s.pending := rfl
@[simp] theorem elapse_regs {n} : (s.elapse n).regs = s.regs := rfl
@[simp] theorem elapse_tables {n} : (s.elapse n).tables = s.tables := rfl
@[simp] theorem elapse_mem {n} : (s.elapse n).mem = s.mem := rfl
@[simp] theorem elapse_freeCount {n} : (s.elapse n).freeCount = s.freeCount := rfl
@[simp] theorem elapse_locked {n} : (s.elapse n).locked = s.locked := rfl
@[simp] theorem elapse_paths {n} : (s.elapse n).paths = s.paths := rfl
@[simp] theorem elapse_log {n} : (s.elapse n).log = s.log := rfl
@[simp] theorem elapse_cores {n} : (s.elapse n).cores = s.cores := rfl
@[simp] theorem elapse_mgt {n} : (s.elapse n).mgt = s.mgt := rfl
@[simp] theorem elapse_layers {n} : (s.elapse n).layers = s.layers := rfl
@[simp] theorem elapse_lpBytes {n} : (s.elapse n).lpBytes = s.lpBytes := rfl
@[simp] theorem elapse_units {n} : (s.elapse n).units = s.units := rfl
@[simp] theorem elapse_rows {n} : (s.elapse n).rows = s.rows := rfl
@[simp] theorem elapse_surveys {n} : (s.elapse n).surveys = s.surveys := rfl
@[simp] theorem elapse_parser {n} : (s.elapse n).parser = s.parser := rfl
@[simp] theorem elapse_ver {n} : (s.elapse n).ver = s.ver := rfl
@[simp] theorem elapse_beams {n} : (s.elapse n).beams = s.beams := rfl
@[simp] theorem elapse_gy {n} : (s.elapse n).gy = s.gy := rfl
@[simp] theorem elapse_recs {n} : (s.elapse n).recs = s.recs := rfl
@[simp] theorem elapse_blocks {n} : (s.elapse n).blocks = s.blocks := rfl
@[simp] theorem elapse_hm {n} : (s.elapse n).hm = s.hm := rfl
@[simp] theorem elapse_cal {n} : (s.elapse n).cal = s.cal := rfl
@[simp] theorem elapse_shown {n} : (s.elapse n).shown = s.shown := rfl
@[simp] theorem elapse_sram {n} : (s.elapse n).sram = s.sram := rfl
@[simp] theorem elapse_cache {n} : (s.elapse n).cache = s.cache := rfl
@[simp] theorem elapse_pins {n} : (s.elapse n).pins = s.pins := rfl
@[simp] theorem elapse_motion {n} : (s.elapse n).motion = s.motion := rfl
@[simp] theorem elapse_sent {n} : (s.elapse n).sent = s.sent := rfl
@[simp] theorem elapse_hp {n} : (s.elapse n).hp = s.hp := rfl
@[simp] theorem elapse_doms {n} : (s.elapse n).doms = s.doms := rfl
@[simp] theorem elapse_due {n} : (s.elapse n).due = s.due := rfl
@[simp] theorem elapse_fab {n} : (s.elapse n).fab = s.fab := rfl
@[simp] theorem elapse_ln {n} : (s.elapse n).ln = s.ln := rfl
@[simp] theorem elapse_dram {n} : (s.elapse n).dram = s.dram := rfl
@[simp] theorem elapse_ing {n} : (s.elapse n).ing = s.ing := rfl
@[simp] theorem elapse_boot {n} : (s.elapse n).boot = s.boot := rfl
@[simp] theorem elapse_pw {n} : (s.elapse n).pw = s.pw := rfl

@[simp] theorem runTo_pending {n} : (s.runTo n).pending = s.pending := 
  (runTo_keeps (F := (· ≠ .pending)) .refl nofun).same .pending (· rfl)
@[simp] theorem runTo_regs {n} : (s.runTo n).regs = s.regs := 
  (runTo_keeps (F := (· ≠ .regs)) .refl nofun).same .regs (· rfl)
@[simp] theorem runTo_tables {n} : (s.runTo n).tables = s.tables := 
  (runTo_keeps (F := (· ≠ .tables)) .refl nofun).same .tables (· rfl)
@[simp] theorem runTo_mem {n} : (s.runTo n).mem = s.mem := 
  (runTo_keeps (F := (· ≠ .mem)) .refl nofun).same .mem (· rfl)
@[simp] theorem runTo_freeCount {n} : (s.runTo n).freeCount = s.freeCount := 
  (runTo_keeps (F := (· ≠ .freeCount)) .refl nofun).same .freeCount (· rfl)
@[simp] theorem runTo_locked {n} : (s.runTo n).locked = s.locked := 
  (runTo_keeps (F := (· ≠ .locked)) .refl nofun).same .locked (· rfl)
@[simp] theorem runTo_paths {n} : (s.runTo n).paths = s.paths := 
  (runTo_keeps (F := (· ≠ .paths)) .refl nofun).same .paths (· rfl)
@[simp] theorem runTo_log {n} : (s.runTo n).log = s.log := 
  (runTo_keeps (F := (· ≠ .log)) .refl nofun).same .log (· rfl)
@[simp] theorem runTo_cores {n} : (s.runTo n).cores = s.cores := 
  (runTo_keeps (F := (· ≠ .cores)) .refl nofun).same .cores (· rfl)
@[simp] theorem runTo_mgt {n} : (s.runTo n).mgt = s.mgt := 
  (runTo_keeps (F := (· ≠ .mgt)) .refl nofun).same .mgt (· rfl)
@[simp] theorem runTo_layers {n} : (s.runTo n).layers = s.layers := 
  (runTo_keeps (F := (· ≠ .layers)) .refl nofun).same .layers (· rfl)
@[simp] theorem runTo_lpBytes {n} : (s.runTo n).lpBytes = s.lpBytes := 
  (runTo_keeps (F := (· ≠ .lpBytes)) .refl nofun).same .lpBytes (· rfl)
@[simp] theorem runTo_units {n} : (s.runTo n).units = s.units := 
  (runTo_keeps (F := (· ≠ .units)) .refl nofun).same .units (· rfl)
@[simp] theorem runTo_rows {n} : (s.runTo n).rows = s.rows := 
  (runTo_keeps (F := (· ≠ .rows)) .refl nofun).same .rows (· rfl)
@[simp] theorem runTo_surveys {n} : (s.runTo n).surveys = s.surveys := 
  (runTo_keeps (F := (· ≠ .surveys)) .refl nofun).same .surveys (· rfl)
@[simp] theorem runTo_parser {n} : (s.runTo n).parser = s.parser := 
  (runTo_keeps (F := (· ≠ .parser)) .refl nofun).same .parser (· rfl)
@[simp] theorem runTo_ver {n} : (s.runTo n).ver = s.ver := 
  (runTo_keeps (F := (· ≠ .ver)) .refl nofun).same .ver (· rfl)
@[simp] theorem runTo_beams {n} : (s.runTo n).beams = s.beams := 
  (runTo_keeps (F := (· ≠ .beams)) .refl nofun).same .beams (· rfl)
@[simp] theorem runTo_gy {n} : (s.runTo n).gy = s.gy := 
  (runTo_keeps (F := (· ≠ .gy)) .refl nofun).same .gy (· rfl)
@[simp] theorem runTo_recs {n} : (s.runTo n).recs = s.recs := 
  (runTo_keeps (F := (· ≠ .recs)) .refl nofun).same .recs (· rfl)
@[simp] theorem runTo_blocks {n} : (s.runTo n).blocks = s.blocks := 
  (runTo_keeps (F := (· ≠ .blocks)) .refl nofun).same .blocks (· rfl)
@[simp] theorem runTo_hm {n} : (s.runTo n).hm = s.hm := 
  (runTo_keeps (F := (· ≠ .hm)) .refl nofun).same .hm (· rfl)
@[simp] theorem runTo_cal {n} : (s.runTo n).cal = s.cal := 
  (runTo_keeps (F := (· ≠ .cal)) .refl nofun).same .cal (· rfl)
@[simp] theorem runTo_shown {n} : (s.runTo n).shown = s.shown := 
  (runTo_keeps (F := (· ≠ .shown)) .refl nofun).same .shown (· rfl)
@[simp] theorem runTo_sram {n} : (s.runTo n).sram = s.sram := 
  (runTo_keeps (F := (· ≠ .sram)) .refl nofun).same .sram (· rfl)
@[simp] theorem runTo_cache {n} : (s.runTo n).cache = s.cache := 
  (runTo_keeps (F := (· ≠ .cache)) .refl nofun).same .cache (· rfl)
@[simp] theorem runTo_pins {n} : (s.runTo n).pins = s.pins := 
  (runTo_keeps (F := (· ≠ .pins)) .refl nofun).same .pins (· rfl)
@[simp] theorem runTo_motion {n} : (s.runTo n).motion = s.motion := 
  (runTo_keeps (F := (· ≠ .motion)) .refl nofun).same .motion (· rfl)
@[simp] theorem runTo_sent {n} : (s.runTo n).sent = s.sent := 
  (runTo_keeps (F := (· ≠ .sent)) .refl nofun).same .sent (· rfl)
@[simp] theorem runTo_hp {n} : (s.runTo n).hp = s.hp := 
  (runTo_keeps (F := (· ≠ .hp)) .refl nofun).same .hp (· rfl)
@[simp] theorem runTo_doms {n} : (s.runTo n).doms = s.doms := 
  (runTo_keeps (F := (· ≠ .doms)) .refl nofun).same .doms (· rfl)
@[simp] theorem runTo_due {n} : (s.runTo n).due = s.due := 
  (runTo_keeps (F := (· ≠ .due)) .refl nofun).same .due (· rfl)
@[simp] theorem runTo_fab {n} : (s.runTo n).fab = s.fab := 
  (runTo_keeps (F := (· ≠ .fab)) .refl nofun).same .fab (· rfl)
@[simp] theorem runTo_ln {n} : (s.runTo n).ln = s.ln := 
  (runTo_keeps (F := (· ≠ .ln)) .refl nofun).same .ln (· rfl)
@[simp] theorem runTo_dram {n} : (s.runTo n).dram = s.dram := 
  (runTo_keeps (F := (· ≠ .dram)) .refl nofun).same .dram (· rfl)
@[simp] theorem runTo_ing {n} : (s.runTo n).ing = s.ing := 
  (runTo_keeps (F := (· ≠ .ing)) .refl nofun).same .ing (· rfl)
@[simp] theorem runTo_boot {n} : (s.runTo n).boot = s.boot := 
  (runTo_keeps (F := (· ≠ .boot)) .refl nofun).same .boot (· rfl)
@[simp] theorem runTo_pw {n} : (s.runTo n).pw = s.pw := 
  (runTo_keeps (F := (· ≠ .pw)) .refl nofun).same .pw (· rfl)

@[simp] theorem milestone_pending {m n} : (s.milestone m n).pending = s.pending := 
  (milestone_keeps (F := (· ≠ .pending)) .refl nofun).same .pending (· rfl)
@[simp] theorem milestone_tables {m n} : (s.milestone m n).tables = s.tables := 
  (milestone_keeps (F := (· ≠ .tables)) .refl nofun).same .tables (· rfl)
@[simp] theorem milestone_mem {m n} : (s.milestone m n).mem = s.mem := 
  (milestone_keeps (F := (· ≠ .mem)) .refl nofun).same .mem (· rfl)
@[simp] theorem milestone_freeCount {m n} : (s.milestone m n).freeCount = s.freeCount := 
  (milestone_keeps (F := (· ≠ .freeCount)) .refl nofun).same .freeCount (· rfl)
@[simp] theorem milestone_locked {m n} : (s.milestone m n).locked = s.locked := 
  (milestone_keeps (F := (· ≠ .locked)) .refl nofun).same .locked (· rfl)
@[simp] theorem milestone_paths {m n} : (s.milestone m n).paths = s.paths := 
  (milestone_keeps (F := (· ≠ .paths)) .refl nofun).same .paths (· rfl)
@[simp] theorem milestone_log {m n} : (s.milestone m n).log = s.log := 
  (milestone_keeps (F := (· ≠ .log)) .refl nofun).same .log (· rfl)
@[simp] theorem milestone_cores {m n} : (s.milestone m n).cores = s.cores := 
  (milestone_keeps (F := (· ≠ .cores)) .refl nofun).same .cores (· rfl)
@[simp] theorem milestone_mgt {m n} : (s.milestone m n).mgt = s.mgt := 
  (milestone_keeps (F := (· ≠ .mgt)) .refl nofun).same .mgt (· rfl)
@[simp] theorem milestone_layers {m n} : (s.milestone m n).layers = s.layers := 
  (milestone_keeps (F := (· ≠ .layers)) .refl nofun).same .layers (· rfl)
@[simp] theorem milestone_lpBytes {m n} : (s.milestone m n).lpBytes = s.lpBytes := 
  (milestone_keeps (F := (· ≠ .lpBytes)) .refl nofun).same .lpBytes (· rfl)
@[simp] theorem milestone_units {m n} : (s.milestone m n).units = s.units := 
  (milestone_keeps (F := (· ≠ .units)) .refl nofun).same .units (· rfl)
@[simp] theorem milestone_rows {m n} : (s.milestone m n).rows = s.rows := 
  (milestone_keeps (F := (· ≠ .rows)) .refl nofun).same .rows (· rfl)
@[simp] theorem milestone_surveys {m n} : (s.milestone m n).surveys = s.surveys := 
  (milestone_keeps (F := (· ≠ .surveys)) .refl nofun).same .surveys (· rfl)
@[simp] theorem milestone_clk {m n} : (s.milestone m n).clk = s.clk := 
  (milestone_keeps (F := (· ≠ .clk)) .refl nofun).same .clk (· rfl)
@[simp] theorem milestone_parser {m n} : (s.milestone m n).parser = s.parser := 
  (milestone_keeps (F := (· ≠ .parser)) .refl nofun).same .parser (· rfl)
@[simp] theorem milestone_ver {m n} : (s.milestone m n).ver = s.ver := 
  (milestone_keeps (F := (· ≠ .ver)) .refl nofun).same .ver (· rfl)
@[simp] theorem milestone_beams {m n} : (s.milestone m n).beams = s.beams := 
  (milestone_keeps (F := (· ≠ .beams)) .refl nofun).same .beams (· rfl)
@[simp] theorem milestone_gy {m n} : (s.milestone m n).gy = s.gy := 
  (milestone_keeps (F := (· ≠ .gy)) .refl nofun).same .gy (· rfl)
@[simp] theorem milestone_recs {m n} : (s.milestone m n).recs = s.recs := 
  (milestone_keeps (F := (· ≠ .recs)) .refl nofun).same .recs (· rfl)
@[simp] theorem milestone_blocks {m n} : (s.milestone m n).blocks = s.blocks := 
  (milestone_keeps (F := (· ≠ .blocks)) .refl nofun).same .blocks (· rfl)
@[simp] theorem milestone_hm {m n} : (s.milestone m n).hm = s.hm := 
  (milestone_keeps (F := (· ≠ .hm)) .refl nofun).same .hm (· rfl)
@[simp] theorem milestone_cal {m n} : (s.milestone m n).cal = s.cal := 
  (milestone_keeps (F := (· ≠ .cal)) .refl nofun).same .cal (· rfl)
@[simp] theorem milestone_shown {m n} : (s.milestone m n).shown = s.shown := 
  (milestone_keeps (F := (· ≠ .shown)) .refl nofun).same .shown (· rfl)
@[simp] theorem milestone_sram {m n} : (s.milestone m n).sram = s.sram := 
  (milestone_keeps (F := (· ≠ .sram)) .refl nofun).same .sram (· rfl)
@[simp] theorem milestone_cache {m n} : (s.milestone m n).cache = s.cache := 
  (milestone_keeps (F := (· ≠ .cache)) .refl nofun).same .cache (· rfl)
@[simp] theorem milestone_pins {m n} : (s.milestone m n).pins = s.pins := 
  (milestone_keeps (F := (· ≠ .pins)) .refl nofun).same .pins (· rfl)
@[simp] theorem milestone_motion {m n} : (s.milestone m n).motion = s.motion := 
  (milestone_keeps (F := (· ≠ .motion)) .refl nofun).same .motion (· rfl)
@[simp] theorem milestone_sent {m n} : (s.milestone m n).sent = s.sent := 
  (milestone_keeps (F := (· ≠ .sent)) .refl nofun).same .sent (· rfl)
@[simp] theorem milestone_hp {m n} : (s.milestone m n).hp = s.hp := 
  (milestone_keeps (F := (· ≠ .hp)) .refl nofun).same .hp (· rfl)
@[simp] theorem milestone_doms {m n} : (s.milestone m n).doms = s.doms := 
  (milestone_keeps (F := (· ≠ .doms)) .refl nofun).same .doms (· rfl)
@[simp] theorem milestone_due {m n} : (s.milestone m n).due = s.due := 
  (milestone_keeps (F := (· ≠ .due)) .refl nofun).same .due (· rfl)
@[simp] theorem milestone_fab {m n} : (s.milestone m n).fab = s.fab := 
  (milestone_keeps (F := (· ≠ .fab)) .refl nofun).same .fab (· rfl)
@[simp] theorem milestone_ln {m n} : (s.milestone m n).ln = s.ln := 
  (milestone_keeps (F := (· ≠ .ln)) .refl nofun).same .ln (· rfl)
@[simp] theorem milestone_dram {m n} : (s.milestone m n).dram = s.dram := 
  (milestone_keeps (F := (· ≠ .dram)) .refl nofun).same .dram (· rfl)
@[simp] theorem milestone_ing {m n} : (s.milestone m n).ing = s.ing := 
  (milestone_keeps (F := (· ≠ .ing)) .refl nofun).same .ing (· rfl)
@[simp] theorem milestone_boot {m n} : (s.milestone m n).boot = s.boot := 
  (milestone_keeps (F := (· ≠ .boot)) .refl nofun).same .boot (· rfl)
@[simp] theorem milestone_pw {m n} : (s.milestone m n).pw = s.pw := 
  (milestone_keeps (F := (· ≠ .pw)) .refl nofun).same .pw (· rfl)

@[simp] theorem milestoneNow_pending {m} : (s.milestoneNow m).pending = s.pending := 
  (milestoneNow_keeps (F := (· ≠ .pending)) .refl ⟨nofun, nofun⟩).same .pending (· rfl)
@[simp] theorem milestoneNow_tables {m} : (s.milestoneNow m).tables = s.tables := 
  (milestoneNow_keeps (F := (· ≠ .tables)) .refl ⟨nofun, nofun⟩).same .tables (· rfl)
@[simp] theorem milestoneNow_mem {m} : (s.milestoneNow m).mem = s.mem := 
  (milestoneNow_keeps (F := (· ≠ .mem)) .refl ⟨nofun, nofun⟩).same .mem (· rfl)
@[simp] theorem milestoneNow_locked {m} : (s.milestoneNow m).locked = s.locked := 
  (milestoneNow_keeps (F := (· ≠ .locked)) .refl ⟨nofun, nofun⟩).same .locked (· rfl)
@[simp] theorem milestoneNow_paths {m} : (s.milestoneNow m).paths = s.paths := 
  (milestoneNow_keeps (F := (· ≠ .paths)) .refl ⟨nofun, nofun⟩).same .paths (· rfl)
@[simp] theorem milestoneNow_log {m} : (s.milestoneNow m).log = s.log := 
  (milestoneNow_keeps (F := (· ≠ .log)) .refl ⟨nofun, nofun⟩).same .log (· rfl)
@[simp] theorem milestoneNow_cores {m} : (s.milestoneNow m).cores = s.cores := 
  (milestoneNow_keeps (F := (· ≠ .cores)) .refl ⟨nofun, nofun⟩).same .cores (· rfl)
@[simp] theorem milestoneNow_mgt {m} : (s.milestoneNow m).mgt = s.mgt := 
  (milestoneNow_keeps (F := (· ≠ .mgt)) .refl ⟨nofun, nofun⟩).same .mgt (· rfl)
@[simp] theorem milestoneNow_layers {m} : (s.milestoneNow m).layers = s.layers := 
  (milestoneNow_keeps (F := (· ≠ .layers)) .refl ⟨nofun, nofun⟩).same .layers (· rfl)
@[simp] theorem milestoneNow_lpBytes {m} : (s.milestoneNow m).lpBytes = s.lpBytes := 
  (milestoneNow_keeps (F := (· ≠ .lpBytes)) .refl ⟨nofun, nofun⟩).same .lpBytes (· rfl)
@[simp] theorem milestoneNow_units {m} : (s.milestoneNow m).units = s.units := 
  (milestoneNow_keeps (F := (· ≠ .units)) .refl ⟨nofun, nofun⟩).same .units (· rfl)
@[simp] theorem milestoneNow_rows {m} : (s.milestoneNow m).rows = s.rows := 
  (milestoneNow_keeps (F := (· ≠ .rows)) .refl ⟨nofun, nofun⟩).same .rows (· rfl)
@[simp] theorem milestoneNow_surveys {m} : (s.milestoneNow m).surveys = s.surveys := 
  (milestoneNow_keeps (F := (· ≠ .surveys)) .refl ⟨nofun, nofun⟩).same .surveys (· rfl)
@[simp] theorem milestoneNow_clk {m} : (s.milestoneNow m).clk = s.clk := 
  (milestoneNow_keeps (F := (· ≠ .clk)) .refl ⟨nofun, nofun⟩).same .clk (· rfl)
@[simp] theorem milestoneNow_parser {m} : (s.milestoneNow m).parser = s.parser := 
  (milestoneNow_keeps (F := (· ≠ .parser)) .refl ⟨nofun, nofun⟩).same .parser (· rfl)
@[simp] theorem milestoneNow_ver {m} : (s.milestoneNow m).ver = s.ver := 
  (milestoneNow_keeps (F := (· ≠ .ver)) .refl ⟨nofun, nofun⟩).same .ver (· rfl)
@[simp] theorem milestoneNow_beams {m} : (s.milestoneNow m).beams = s.beams := 
  (milestoneNow_keeps (F := (· ≠ .beams)) .refl ⟨nofun, nofun⟩).same .beams (· rfl)
@[simp] theorem milestoneNow_gy {m} : (s.milestoneNow m).gy = s.gy := 
  (milestoneNow_keeps (F := (· ≠ .gy)) .refl ⟨nofun, nofun⟩).same .gy (· rfl)
@[simp] theorem milestoneNow_recs {m} : (s.milestoneNow m).recs = s.recs := 
  (milestoneNow_keeps (F := (· ≠ .recs)) .refl ⟨nofun, nofun⟩).same .recs (· rfl)
@[simp] theorem milestoneNow_blocks {m} : (s.milestoneNow m).blocks = s.blocks := 
  (milestoneNow_keeps (F := (· ≠ .blocks)) .refl ⟨nofun, nofun⟩).same .blocks (· rfl)
@[simp] theorem milestoneNow_hm {m} : (s.milestoneNow m).hm = s.hm := 
  (milestoneNow_keeps (F := (· ≠ .hm)) .refl ⟨nofun, nofun⟩).same .hm (· rfl)
@[simp] theorem milestoneNow_cal {m} : (s.milestoneNow m).cal = s.cal := 
  (milestoneNow_keeps (F := (· ≠ .cal)) .refl ⟨nofun, nofun⟩).same .cal (· rfl)
@[simp] theorem milestoneNow_shown {m} : (s.milestoneNow m).shown = s.shown := 
  (milestoneNow_keeps (F := (· ≠ .shown)) .refl ⟨nofun, nofun⟩).same .shown (· rfl)
@[simp] theorem milestoneNow_sram {m} : (s.milestoneNow m).sram = s.sram := 
  (milestoneNow_keeps (F := (· ≠ .sram)) .refl ⟨nofun, nofun⟩).same .sram (· rfl)
@[simp] theorem milestoneNow_cache {m} : (s.milestoneNow m).cache = s.cache := 
  (milestoneNow_keeps (F := (· ≠ .cache)) .refl ⟨nofun, nofun⟩).same .cache (· rfl)
@[simp] theorem milestoneNow_pins {m} : (s.milestoneNow m).pins = s.pins := 
  (milestoneNow_keeps (F := (· ≠ .pins)) .refl ⟨nofun, nofun⟩).same .pins (· rfl)
@[simp] theorem milestoneNow_motion {m} : (s.milestoneNow m).motion = s.motion := 
  (milestoneNow_keeps (F := (· ≠ .motion)) .refl ⟨nofun, nofun⟩).same .motion (· rfl)
@[simp] theorem milestoneNow_sent {m} : (s.milestoneNow m).sent = s.sent := 
  (milestoneNow_keeps (F := (· ≠ .sent)) .refl ⟨nofun, nofun⟩).same .sent (· rfl)
@[simp] theorem milestoneNow_hp {m} : (s.milestoneNow m).hp = s.hp := 
  (milestoneNow_keeps (F := (· ≠ .hp)) .refl ⟨nofun, nofun⟩).same .hp (· rfl)
@[simp] theorem milestoneNow_doms {m} : (s.milestoneNow m).doms = s.doms := 
  (milestoneNow_keeps (F := (· ≠ .doms)) .refl ⟨nofun, nofun⟩).same .doms (· rfl)
@[simp] theorem milestoneNow_due {m} : (s.milestoneNow m).due = s.due := 
  (milestoneNow_keeps (F := (· ≠ .due)) .refl ⟨nofun, nofun⟩).same .due (· rfl)
@[simp] theorem milestoneNow_fab {m} : (s.milestoneNow m).fab = s.fab := 
  (milestoneNow_keeps (F := (· ≠ .fab)) .refl ⟨nofun, nofun⟩).same .fab (· rfl)
@[simp] theorem milestoneNow_ln {m} : (s.milestoneNow m).ln = s.ln := 
  (milestoneNow_keeps (F := (· ≠ .ln)) .refl ⟨nofun, nofun⟩).same .ln (· rfl)
@[simp] theorem milestoneNow_dram {m} : (s.milestoneNow m).dram = s.dram := 
  (milestoneNow_keeps (F := (· ≠ .dram)) .refl ⟨nofun, nofun⟩).same .dram (· rfl)
@[simp] theorem milestoneNow_ing {m} : (s.milestoneNow m).ing = s.ing := 
  (milestoneNow_keeps (F := (· ≠ .ing)) .refl ⟨nofun, nofun⟩).same .ing (· rfl)
@[simp] theorem milestoneNow_boot {m} : (s.milestoneNow m).boot = s.boot := 
  (milestoneNow_keeps (F := (· ≠ .boot)) .refl ⟨nofun, nofun⟩).same .boot (· rfl)
@[simp] theorem milestoneNow_pw {m} : (s.milestoneNow m).pw = s.pw := 
  (milestoneNow_keeps (F := (· ≠ .pw)) .refl ⟨nofun, nofun⟩).same .pw (· rfl)

@[simp] theorem logErr_pending {c b k u i} : (s.logErr c b k u i).pending = s.pending := 
  (logErr_keeps (F := (· ≠ .pending)) .refl ⟨nofun, nofun⟩).same .pending (· rfl)
@[simp] theorem logErr_tables {c b k u i} : (s.logErr c b k u i).tables = s.tables := 
  (logErr_keeps (F := (· ≠ .tables)) .refl ⟨nofun, nofun⟩).same .tables (· rfl)
@[simp] theorem logErr_mem {c b k u i} : (s.logErr c b k u i).mem = s.mem := 
  (logErr_keeps (F := (· ≠ .mem)) .refl ⟨nofun, nofun⟩).same .mem (· rfl)
@[simp] theorem logErr_freeCount {c b k u i} : (s.logErr c b k u i).freeCount = s.freeCount := 
  (logErr_keeps (F := (· ≠ .freeCount)) .refl ⟨nofun, nofun⟩).same .freeCount (· rfl)
@[simp] theorem logErr_locked {c b k u i} : (s.logErr c b k u i).locked = s.locked := 
  (logErr_keeps (F := (· ≠ .locked)) .refl ⟨nofun, nofun⟩).same .locked (· rfl)
@[simp] theorem logErr_paths {c b k u i} : (s.logErr c b k u i).paths = s.paths := 
  (logErr_keeps (F := (· ≠ .paths)) .refl ⟨nofun, nofun⟩).same .paths (· rfl)
@[simp] theorem logErr_cores {c b k u i} : (s.logErr c b k u i).cores = s.cores := 
  (logErr_keeps (F := (· ≠ .cores)) .refl ⟨nofun, nofun⟩).same .cores (· rfl)
@[simp] theorem logErr_mgt {c b k u i} : (s.logErr c b k u i).mgt = s.mgt := 
  (logErr_keeps (F := (· ≠ .mgt)) .refl ⟨nofun, nofun⟩).same .mgt (· rfl)
@[simp] theorem logErr_layers {c b k u i} : (s.logErr c b k u i).layers = s.layers := 
  (logErr_keeps (F := (· ≠ .layers)) .refl ⟨nofun, nofun⟩).same .layers (· rfl)
@[simp] theorem logErr_lpBytes {c b k u i} : (s.logErr c b k u i).lpBytes = s.lpBytes := 
  (logErr_keeps (F := (· ≠ .lpBytes)) .refl ⟨nofun, nofun⟩).same .lpBytes (· rfl)
@[simp] theorem logErr_units {c b k u i} : (s.logErr c b k u i).units = s.units := 
  (logErr_keeps (F := (· ≠ .units)) .refl ⟨nofun, nofun⟩).same .units (· rfl)
@[simp] theorem logErr_rows {c b k u i} : (s.logErr c b k u i).rows = s.rows := 
  (logErr_keeps (F := (· ≠ .rows)) .refl ⟨nofun, nofun⟩).same .rows (· rfl)
@[simp] theorem logErr_surveys {c b k u i} : (s.logErr c b k u i).surveys = s.surveys := 
  (logErr_keeps (F := (· ≠ .surveys)) .refl ⟨nofun, nofun⟩).same .surveys (· rfl)
@[simp] theorem logErr_clk {c b k u i} : (s.logErr c b k u i).clk = s.clk := 
  (logErr_keeps (F := (· ≠ .clk)) .refl ⟨nofun, nofun⟩).same .clk (· rfl)
@[simp] theorem logErr_parser {c b k u i} : (s.logErr c b k u i).parser = s.parser := 
  (logErr_keeps (F := (· ≠ .parser)) .refl ⟨nofun, nofun⟩).same .parser (· rfl)
@[simp] theorem logErr_ver {c b k u i} : (s.logErr c b k u i).ver = s.ver := 
  (logErr_keeps (F := (· ≠ .ver)) .refl ⟨nofun, nofun⟩).same .ver (· rfl)
@[simp] theorem logErr_beams {c b k u i} : (s.logErr c b k u i).beams = s.beams := 
  (logErr_keeps (F := (· ≠ .beams)) .refl ⟨nofun, nofun⟩).same .beams (· rfl)
@[simp] theorem logErr_gy {c b k u i} : (s.logErr c b k u i).gy = s.gy := 
  (logErr_keeps (F := (· ≠ .gy)) .refl ⟨nofun, nofun⟩).same .gy (· rfl)
@[simp] theorem logErr_recs {c b k u i} : (s.logErr c b k u i).recs = s.recs := 
  (logErr_keeps (F := (· ≠ .recs)) .refl ⟨nofun, nofun⟩).same .recs (· rfl)
@[simp] theorem logErr_blocks {c b k u i} : (s.logErr c b k u i).blocks = s.blocks := 
  (logErr_keeps (F := (· ≠ .blocks)) .refl ⟨nofun, nofun⟩).same .blocks (· rfl)
@[simp] theorem logErr_hm {c b k u i} : (s.logErr c b k u i).hm = s.hm := 
  (logErr_keeps (F := (· ≠ .hm)) .refl ⟨nofun, nofun⟩).same .hm (· rfl)
@[simp] theorem logErr_cal {c b k u i} : (s.logErr c b k u i).cal = s.cal := 
  (logErr_keeps (F := (· ≠ .cal)) .refl ⟨nofun, nofun⟩).same .cal (· rfl)
@[simp] theorem logErr_shown {c b k u i} : (s.logErr c b k u i).shown = s.shown := 
  (logErr_keeps (F := (· ≠ .shown)) .refl ⟨nofun, nofun⟩).same .shown (· rfl)
@[simp] theorem logErr_sram {c b k u i} : (s.logErr c b k u i).sram = s.sram := 
  (logErr_keeps (F := (· ≠ .sram)) .refl ⟨nofun, nofun⟩).same .sram (· rfl)
@[simp] theorem logErr_cache {c b k u i} : (s.logErr c b k u i).cache = s.cache := 
  (logErr_keeps (F := (· ≠ .cache)) .refl ⟨nofun, nofun⟩).same .cache (· rfl)
@[simp] theorem logErr_pins {c b k u i} : (s.logErr c b k u i).pins = s.pins := 
  (logErr_keeps (F := (· ≠ .pins)) .refl ⟨nofun, nofun⟩).same .pins (· rfl)
@[simp] theorem logErr_motion {c b k u i} : (s.logErr c b k u i).motion = s.motion := 
  (logErr_keeps (F := (· ≠ .motion)) .refl ⟨nofun, nofun⟩).same .motion (· rfl)
@[simp] theorem logErr_sent {c b k u i} : (s.logErr c b k u i).sent = s.sent := 
  (logErr_keeps (F := (· ≠ .sent)) .refl ⟨nofun, nofun⟩).same .sent (· rfl)
@[simp] theorem logErr_hp {c b k u i} : (s.logErr c b k u i).hp = s.hp := 
  (logErr_keeps (F := (· ≠ .hp)) .refl ⟨nofun, nofun⟩).same .hp (· rfl)
@[simp] theorem logErr_doms {c b k u i} : (s.logErr c b k u i).doms = s.doms := 
  (logErr_keeps (F := (· ≠ .doms)) .refl ⟨nofun, nofun⟩).same .doms (· rfl)
@[simp] theorem logErr_due {c b k u i} : (s.logErr c b k u i).due = s.due := 
  (logErr_keeps (F := (· ≠ .due)) .refl ⟨nofun, nofun⟩).same .due (· rfl)
@[simp] theorem logErr_fab {c b k u i} : (s.logErr c b k u i).fab = s.fab := 
  (logErr_keeps (F := (· ≠ .fab)) .refl ⟨nofun, nofun⟩).same .fab (· rfl)
@[simp] theorem logErr_ln {c b k u i} : (s.logErr c b k u i).ln = s.ln := 
  (logErr_keeps (F := (· ≠ .ln)) .refl ⟨nofun, nofun⟩).same .ln (· rfl)
@[simp] theorem logErr_dram {c b k u i} : (s.logErr c b k u i).dram = s.dram := 
  (logErr_keeps (F := (· ≠ .dram)) .refl ⟨nofun, nofun⟩).same .dram (· rfl)
@[simp] theorem logErr_ing {c b k u i} : (s.logErr c b k u i).ing = s.ing := 
  (logErr_keeps (F := (· ≠ .ing)) .refl ⟨nofun, nofun⟩).same .ing (· rfl)
@[simp] theorem logErr_boot {c b k u i} : (s.logErr c b k u i).boot = s.boot := 
  (logErr_keeps (F := (· ≠ .boot)) .refl ⟨nofun, nofun⟩).same .boot (· rfl)
@[simp] theorem logErr_pw {c b k u i} : (s.logErr c b k u i).pw = s.pw := 
  (logErr_keeps (F := (· ≠ .pw)) .refl ⟨nofun, nofun⟩).same .pw (· rfl)

@[simp] theorem raise_pending {c e f k u} : (s.raise c e f k u).pending = s.pending := 
  (raise_keeps (F := (· ≠ .pending)) .refl ⟨nofun, nofun⟩).same .pending (· rfl)
@[simp] theorem raise_tables {c e f k u} : (s.raise c e f k u).tables = s.tables := 
  (raise_keeps (F := (· ≠ .tables)) .refl ⟨nofun, nofun⟩).same .tables (· rfl)
@[simp] theorem raise_mem {c e f k u} : (s.raise c e f k u).mem = s.mem := 
  (raise_keeps (F := (· ≠ .mem)) .refl ⟨nofun, nofun⟩).same .mem (· rfl)
@[simp] theorem raise_freeCount {c e f k u} : (s.raise c e f k u).freeCount = s.freeCount := 
  (raise_keeps (F := (· ≠ .freeCount)) .refl ⟨nofun, nofun⟩).same .freeCount (· rfl)
@[simp] theorem raise_locked {c e f k u} : (s.raise c e f k u).locked = s.locked := 
  (raise_keeps (F := (· ≠ .locked)) .refl ⟨nofun, nofun⟩).same .locked (· rfl)
@[simp] theorem raise_paths {c e f k u} : (s.raise c e f k u).paths = s.paths := 
  (raise_keeps (F := (· ≠ .paths)) .refl ⟨nofun, nofun⟩).same .paths (· rfl)
@[simp] theorem raise_cores {c e f k u} : (s.raise c e f k u).cores = s.cores := 
  (raise_keeps (F := (· ≠ .cores)) .refl ⟨nofun, nofun⟩).same .cores (· rfl)
@[simp] theorem raise_mgt {c e f k u} : (s.raise c e f k u).mgt = s.mgt := 
  (raise_keeps (F := (· ≠ .mgt)) .refl ⟨nofun, nofun⟩).same .mgt (· rfl)
@[simp] theorem raise_layers {c e f k u} : (s.raise c e f k u).layers = s.layers := 
  (raise_keeps (F := (· ≠ .layers)) .refl ⟨nofun, nofun⟩).same .layers (· rfl)
@[simp] theorem raise_lpBytes {c e f k u} : (s.raise c e f k u).lpBytes = s.lpBytes := 
  (raise_keeps (F := (· ≠ .lpBytes)) .refl ⟨nofun, nofun⟩).same .lpBytes (· rfl)
@[simp] theorem raise_units {c e f k u} : (s.raise c e f k u).units = s.units := 
  (raise_keeps (F := (· ≠ .units)) .refl ⟨nofun, nofun⟩).same .units (· rfl)
@[simp] theorem raise_rows {c e f k u} : (s.raise c e f k u).rows = s.rows := 
  (raise_keeps (F := (· ≠ .rows)) .refl ⟨nofun, nofun⟩).same .rows (· rfl)
@[simp] theorem raise_surveys {c e f k u} : (s.raise c e f k u).surveys = s.surveys := 
  (raise_keeps (F := (· ≠ .surveys)) .refl ⟨nofun, nofun⟩).same .surveys (· rfl)
@[simp] theorem raise_clk {c e f k u} : (s.raise c e f k u).clk = s.clk := 
  (raise_keeps (F := (· ≠ .clk)) .refl ⟨nofun, nofun⟩).same .clk (· rfl)
@[simp] theorem raise_parser {c e f k u} : (s.raise c e f k u).parser = s.parser := 
  (raise_keeps (F := (· ≠ .parser)) .refl ⟨nofun, nofun⟩).same .parser (· rfl)
@[simp] theorem raise_ver {c e f k u} : (s.raise c e f k u).ver = s.ver := 
  (raise_keeps (F := (· ≠ .ver)) .refl ⟨nofun, nofun⟩).same .ver (· rfl)
@[simp] theorem raise_beams {c e f k u} : (s.raise c e f k u).beams = s.beams := 
  (raise_keeps (F := (· ≠ .beams)) .refl ⟨nofun, nofun⟩).same .beams (· rfl)
@[simp] theorem raise_gy {c e f k u} : (s.raise c e f k u).gy = s.gy := 
  (raise_keeps (F := (· ≠ .gy)) .refl ⟨nofun, nofun⟩).same .gy (· rfl)
@[simp] theorem raise_recs {c e f k u} : (s.raise c e f k u).recs = s.recs := 
  (raise_keeps (F := (· ≠ .recs)) .refl ⟨nofun, nofun⟩).same .recs (· rfl)
@[simp] theorem raise_blocks {c e f k u} : (s.raise c e f k u).blocks = s.blocks := 
  (raise_keeps (F := (· ≠ .blocks)) .refl ⟨nofun, nofun⟩).same .blocks (· rfl)
@[simp] theorem raise_hm {c e f k u} : (s.raise c e f k u).hm = s.hm := 
  (raise_keeps (F := (· ≠ .hm)) .refl ⟨nofun, nofun⟩).same .hm (· rfl)
@[simp] theorem raise_cal {c e f k u} : (s.raise c e f k u).cal = s.cal := 
  (raise_keeps (F := (· ≠ .cal)) .refl ⟨nofun, nofun⟩).same .cal (· rfl)
@[simp] theorem raise_shown {c e f k u} : (s.raise c e f k u).shown = s.shown := 
  (raise_keeps (F := (· ≠ .shown)) .refl ⟨nofun, nofun⟩).same .shown (· rfl)
@[simp] theorem raise_sram {c e f k u} : (s.raise c e f k u).sram = s.sram := 
  (raise_keeps (F := (· ≠ .sram)) .refl ⟨nofun, nofun⟩).same .sram (· rfl)
@[simp] theorem raise_cache {c e f k u} : (s.raise c e f k u).cache = s.cache := 
  (raise_keeps (F := (· ≠ .cache)) .refl ⟨nofun, nofun⟩).same .cache (· rfl)
@[simp] theorem raise_pins {c e f k u} : (s.raise c e f k u).pins = s.pins := 
  (raise_keeps (F := (· ≠ .pins)) .refl ⟨nofun, nofun⟩).same .pins (· rfl)
@[simp] theorem raise_motion {c e f k u} : (s.raise c e f k u).motion = s.motion := 
  (raise_keeps (F := (· ≠ .motion)) .refl ⟨nofun, nofun⟩).same .motion (· rfl)
@[simp] theorem raise_sent {c e f k u} : (s.raise c e f k u).sent = s.sent := 
  (raise_keeps (F := (· ≠ .sent)) .refl ⟨nofun, nofun⟩).same .sent (· rfl)
@[simp] theorem raise_hp {c e f k u} : (s.raise c e f k u).hp = s.hp := 
  (raise_keeps (F := (· ≠ .hp)) .refl ⟨nofun, nofun⟩).same .hp (· rfl)
@[simp] theorem raise_doms {c e f k u} : (s.raise c e f k u).doms = s.doms := 
  (raise_keeps (F := (· ≠ .doms)) .refl ⟨nofun, nofun⟩).same .doms (· rfl)
@[simp] theorem raise_due {c e f k u} : (s.raise c e f k u).due = s.due := 
  (raise_keeps (F := (· ≠ .due)) .refl ⟨nofun, nofun⟩).same .due (· rfl)
@[simp] theorem raise_fab {c e f k u} : (s.raise c e f k u).fab = s.fab := 
  (raise_keeps (F := (· ≠ .fab)) .refl ⟨nofun, nofun⟩).same .fab (· rfl)
@[simp] theorem raise_ln {c e f k u} : (s.raise c e f k u).ln = s.ln := 
  (raise_keeps (F := (· ≠ .ln)) .refl ⟨nofun, nofun⟩).same .ln (· rfl)
@[simp] theorem raise_dram {c e f k u} : (s.raise c e f k u).dram = s.dram := 
  (raise_keeps (F := (· ≠ .dram)) .refl ⟨nofun, nofun⟩).same .dram (· rfl)
@[simp] theorem raise_ing {c e f k u} : (s.raise c e f k u).ing = s.ing := 
  (raise_keeps (F := (· ≠ .ing)) .refl ⟨nofun, nofun⟩).same .ing (· rfl)
@[simp] theorem raise_boot {c e f k u} : (s.raise c e f k u).boot = s.boot := 
  (raise_keeps (F := (· ≠ .boot)) .refl ⟨nofun, nofun⟩).same .boot (· rfl)
@[simp] theorem raise_pw {c e f k u} : (s.raise c e f k u).pw = s.pw := 
  (raise_keeps (F := (· ≠ .pw)) .refl ⟨nofun, nofun⟩).same .pw (· rfl)

@[simp] theorem raiseInfo_pending {c e f k u i} : (s.raiseInfo c e f k u i).pending = s.pending := 
  (raiseInfo_keeps (F := (· ≠ .pending)) .refl ⟨nofun, nofun⟩).same .pending (· rfl)
@[simp] theorem raiseInfo_tables {c e f k u i} : (s.raiseInfo c e f k u i).tables = s.tables := 
  (raiseInfo_keeps (F := (· ≠ .tables)) .refl ⟨nofun, nofun⟩).same .tables (· rfl)
@[simp] theorem raiseInfo_mem {c e f k u i} : (s.raiseInfo c e f k u i).mem = s.mem := 
  (raiseInfo_keeps (F := (· ≠ .mem)) .refl ⟨nofun, nofun⟩).same .mem (· rfl)
@[simp] theorem raiseInfo_freeCount {c e f k u i} : (s.raiseInfo c e f k u i).freeCount = s.freeCount := 
  (raiseInfo_keeps (F := (· ≠ .freeCount)) .refl ⟨nofun, nofun⟩).same .freeCount (· rfl)
@[simp] theorem raiseInfo_locked {c e f k u i} : (s.raiseInfo c e f k u i).locked = s.locked := 
  (raiseInfo_keeps (F := (· ≠ .locked)) .refl ⟨nofun, nofun⟩).same .locked (· rfl)
@[simp] theorem raiseInfo_paths {c e f k u i} : (s.raiseInfo c e f k u i).paths = s.paths := 
  (raiseInfo_keeps (F := (· ≠ .paths)) .refl ⟨nofun, nofun⟩).same .paths (· rfl)
@[simp] theorem raiseInfo_cores {c e f k u i} : (s.raiseInfo c e f k u i).cores = s.cores := 
  (raiseInfo_keeps (F := (· ≠ .cores)) .refl ⟨nofun, nofun⟩).same .cores (· rfl)
@[simp] theorem raiseInfo_mgt {c e f k u i} : (s.raiseInfo c e f k u i).mgt = s.mgt := 
  (raiseInfo_keeps (F := (· ≠ .mgt)) .refl ⟨nofun, nofun⟩).same .mgt (· rfl)
@[simp] theorem raiseInfo_layers {c e f k u i} : (s.raiseInfo c e f k u i).layers = s.layers := 
  (raiseInfo_keeps (F := (· ≠ .layers)) .refl ⟨nofun, nofun⟩).same .layers (· rfl)
@[simp] theorem raiseInfo_lpBytes {c e f k u i} : (s.raiseInfo c e f k u i).lpBytes = s.lpBytes := 
  (raiseInfo_keeps (F := (· ≠ .lpBytes)) .refl ⟨nofun, nofun⟩).same .lpBytes (· rfl)
@[simp] theorem raiseInfo_units {c e f k u i} : (s.raiseInfo c e f k u i).units = s.units := 
  (raiseInfo_keeps (F := (· ≠ .units)) .refl ⟨nofun, nofun⟩).same .units (· rfl)
@[simp] theorem raiseInfo_rows {c e f k u i} : (s.raiseInfo c e f k u i).rows = s.rows := 
  (raiseInfo_keeps (F := (· ≠ .rows)) .refl ⟨nofun, nofun⟩).same .rows (· rfl)
@[simp] theorem raiseInfo_surveys {c e f k u i} : (s.raiseInfo c e f k u i).surveys = s.surveys := 
  (raiseInfo_keeps (F := (· ≠ .surveys)) .refl ⟨nofun, nofun⟩).same .surveys (· rfl)
@[simp] theorem raiseInfo_clk {c e f k u i} : (s.raiseInfo c e f k u i).clk = s.clk := 
  (raiseInfo_keeps (F := (· ≠ .clk)) .refl ⟨nofun, nofun⟩).same .clk (· rfl)
@[simp] theorem raiseInfo_parser {c e f k u i} : (s.raiseInfo c e f k u i).parser = s.parser := 
  (raiseInfo_keeps (F := (· ≠ .parser)) .refl ⟨nofun, nofun⟩).same .parser (· rfl)
@[simp] theorem raiseInfo_ver {c e f k u i} : (s.raiseInfo c e f k u i).ver = s.ver := 
  (raiseInfo_keeps (F := (· ≠ .ver)) .refl ⟨nofun, nofun⟩).same .ver (· rfl)
@[simp] theorem raiseInfo_beams {c e f k u i} : (s.raiseInfo c e f k u i).beams = s.beams := 
  (raiseInfo_keeps (F := (· ≠ .beams)) .refl ⟨nofun, nofun⟩).same .beams (· rfl)
@[simp] theorem raiseInfo_gy {c e f k u i} : (s.raiseInfo c e f k u i).gy = s.gy := 
  (raiseInfo_keeps (F := (· ≠ .gy)) .refl ⟨nofun, nofun⟩).same .gy (· rfl)
@[simp] theorem raiseInfo_recs {c e f k u i} : (s.raiseInfo c e f k u i).recs = s.recs := 
  (raiseInfo_keeps (F := (· ≠ .recs)) .refl ⟨nofun, nofun⟩).same .recs (· rfl)
@[simp] theorem raiseInfo_blocks {c e f k u i} : (s.raiseInfo c e f k u i).blocks = s.blocks := 
  (raiseInfo_keeps (F := (· ≠ .blocks)) .refl ⟨nofun, nofun⟩).same .blocks (· rfl)
@[simp] theorem raiseInfo_hm {c e f k u i} : (s.raiseInfo c e f k u i).hm = s.hm := 
  (raiseInfo_keeps (F := (· ≠ .hm)) .refl ⟨nofun, nofun⟩).same .hm (· rfl)
@[simp] theorem raiseInfo_cal {c e f k u i} : (s.raiseInfo c e f k u i).cal = s.cal := 
  (raiseInfo_keeps (F := (· ≠ .cal)) .refl ⟨nofun, nofun⟩).same .cal (· rfl)
@[simp] theorem raiseInfo_shown {c e f k u i} : (s.raiseInfo c e f k u i).shown = s.shown := 
  (raiseInfo_keeps (F := (· ≠ .shown)) .refl ⟨nofun, nofun⟩).same .shown (· rfl)
@[simp] theorem raiseInfo_sram {c e f k u i} : (s.raiseInfo c e f k u i).sram = s.sram := 
  (raiseInfo_keeps (F := (· ≠ .sram)) .refl ⟨nofun, nofun⟩).same .sram (· rfl)
@[simp] theorem raiseInfo_cache {c e f k u i} : (s.raiseInfo c e f k u i).cache = s.cache := 
  (raiseInfo_keeps (F := (· ≠ .cache)) .refl ⟨nofun, nofun⟩).same .cache (· rfl)
@[simp] theorem raiseInfo_pins {c e f k u i} : (s.raiseInfo c e f k u i).pins = s.pins := 
  (raiseInfo_keeps (F := (· ≠ .pins)) .refl ⟨nofun, nofun⟩).same .pins (· rfl)
@[simp] theorem raiseInfo_motion {c e f k u i} : (s.raiseInfo c e f k u i).motion = s.motion := 
  (raiseInfo_keeps (F := (· ≠ .motion)) .refl ⟨nofun, nofun⟩).same .motion (· rfl)
@[simp] theorem raiseInfo_sent {c e f k u i} : (s.raiseInfo c e f k u i).sent = s.sent := 
  (raiseInfo_keeps (F := (· ≠ .sent)) .refl ⟨nofun, nofun⟩).same .sent (· rfl)
@[simp] theorem raiseInfo_hp {c e f k u i} : (s.raiseInfo c e f k u i).hp = s.hp := 
  (raiseInfo_keeps (F := (· ≠ .hp)) .refl ⟨nofun, nofun⟩).same .hp (· rfl)
@[simp] theorem raiseInfo_doms {c e f k u i} : (s.raiseInfo c e f k u i).doms = s.doms := 
  (raiseInfo_keeps (F := (· ≠ .doms)) .refl ⟨nofun, nofun⟩).same .doms (· rfl)
@[simp] theorem raiseInfo_due {c e f k u i} : (s.raiseInfo c e f k u i).due = s.due := 
  (raiseInfo_keeps (F := (· ≠ .due)) .refl ⟨nofun, nofun⟩).same .due (· rfl)
@[simp] theorem raiseInfo_fab {c e f k u i} : (s.raiseInfo c e f k u i).fab = s.fab := 
  (raiseInfo_keeps (F := (· ≠ .fab)) .refl ⟨nofun, nofun⟩).same .fab (· rfl)
@[simp] theorem raiseInfo_ln {c e f k u i} : (s.raiseInfo c e f k u i).ln = s.ln := 
  (raiseInfo_keeps (F := (· ≠ .ln)) .refl ⟨nofun, nofun⟩).same .ln (· rfl)
@[simp] theorem raiseInfo_dram {c e f k u i} : (s.raiseInfo c e f k u i).dram = s.dram := 
  (raiseInfo_keeps (F := (· ≠ .dram)) .refl ⟨nofun, nofun⟩).same .dram (· rfl)
@[simp] theorem raiseInfo_ing {c e f k u i} : (s.raiseInfo c e f k u i).ing = s.ing := 
  (raiseInfo_keeps (F := (· ≠ .ing)) .refl ⟨nofun, nofun⟩).same .ing (· rfl)
@[simp] theorem raiseInfo_boot {c e f k u i} : (s.raiseInfo c e f k u i).boot = s.boot := 
  (raiseInfo_keeps (F := (· ≠ .boot)) .refl ⟨nofun, nofun⟩).same .boot (· rfl)
@[simp] theorem raiseInfo_pw {c e f k u i} : (s.raiseInfo c e f k u i).pw = s.pw := 
  (raiseInfo_keeps (F := (· ≠ .pw)) .refl ⟨nofun, nofun⟩).same .pw (· rfl)

@[simp] theorem emit_pending {o} : (s.emit o).pending = s.pending := rfl
@[simp] theorem emit_regs {o} : (s.emit o).regs = s.regs := rfl
@[simp] theorem emit_tables {o} : (s.emit o).tables = s.tables := rfl
@[simp] theorem emit_mem {o} : (s.emit o).mem = s.mem := rfl
@[simp] theorem emit_freeCount {o} : (s.emit o).freeCount = s.freeCount := rfl
@[simp] theorem emit_locked {o} : (s.emit o).locked = s.locked := rfl
@[simp] theorem emit_paths {o} : (s.emit o).paths = s.paths := rfl
@[simp] theorem emit_log {o} : (s.emit o).log = s.log := rfl
@[simp] theorem emit_cores {o} : (s.emit o).cores = s.cores := rfl
@[simp] theorem emit_mgt {o} : (s.emit o).mgt = s.mgt := rfl
@[simp] theorem emit_layers {o} : (s.emit o).layers = s.layers := rfl
@[simp] theorem emit_lpBytes {o} : (s.emit o).lpBytes = s.lpBytes := rfl
@[simp] theorem emit_units {o} : (s.emit o).units = s.units := rfl
@[simp] theorem emit_rows {o} : (s.emit o).rows = s.rows := rfl
@[simp] theorem emit_surveys {o} : (s.emit o).surveys = s.surveys := rfl
@[simp] theorem emit_clk {o} : (s.emit o).clk = s.clk := rfl
@[simp] theorem emit_parser {o} : (s.emit o).parser = s.parser := rfl
@[simp] theorem emit_ver {o} : (s.emit o).ver = s.ver := rfl
@[simp] theorem emit_beams {o} : (s.emit o).beams = s.beams := rfl
@[simp] theorem emit_gy {o} : (s.emit o).gy = s.gy := rfl
@[simp] theorem emit_recs {o} : (s.emit o).recs = s.recs := rfl
@[simp] theorem emit_blocks {o} : (s.emit o).blocks = s.blocks := rfl
@[simp] theorem emit_hm {o} : (s.emit o).hm = s.hm := rfl
@[simp] theorem emit_cal {o} : (s.emit o).cal = s.cal := rfl
@[simp] theorem emit_shown {o} : (s.emit o).shown = s.shown := rfl
@[simp] theorem emit_sram {o} : (s.emit o).sram = s.sram := rfl
@[simp] theorem emit_cache {o} : (s.emit o).cache = s.cache := rfl
@[simp] theorem emit_pins {o} : (s.emit o).pins = s.pins := rfl
@[simp] theorem emit_motion {o} : (s.emit o).motion = s.motion := rfl
@[simp] theorem emit_sent {o} : (s.emit o).sent = o :: s.sent := rfl
@[simp] theorem emit_hp {o} : (s.emit o).hp = s.hp := rfl
@[simp] theorem emit_doms {o} : (s.emit o).doms = s.doms := rfl
@[simp] theorem emit_due {o} : (s.emit o).due = s.due := rfl
@[simp] theorem emit_fab {o} : (s.emit o).fab = s.fab := rfl
@[simp] theorem emit_ln {o} : (s.emit o).ln = s.ln := rfl
@[simp] theorem emit_dram {o} : (s.emit o).dram = s.dram := rfl
@[simp] theorem emit_ing {o} : (s.emit o).ing = s.ing := rfl
@[simp] theorem emit_boot {o} : (s.emit o).boot = s.boot := rfl
@[simp] theorem emit_pw {o} : (s.emit o).pw = s.pw := rfl

@[simp] theorem onFab_pending {f} : (s.onFab f).pending = s.pending := rfl
@[simp] theorem onFab_regs {f} : (s.onFab f).regs = s.regs := rfl
@[simp] theorem onFab_tables {f} : (s.onFab f).tables = s.tables := rfl
@[simp] theorem onFab_mem {f} : (s.onFab f).mem = s.mem := rfl
@[simp] theorem onFab_freeCount {f} : (s.onFab f).freeCount = s.freeCount := rfl
@[simp] theorem onFab_locked {f} : (s.onFab f).locked = s.locked := rfl
@[simp] theorem onFab_paths {f} : (s.onFab f).paths = s.paths := rfl
@[simp] theorem onFab_log {f} : (s.onFab f).log = s.log := rfl
@[simp] theorem onFab_cores {f} : (s.onFab f).cores = s.cores := rfl
@[simp] theorem onFab_mgt {f} : (s.onFab f).mgt = s.mgt := rfl
@[simp] theorem onFab_layers {f} : (s.onFab f).layers = s.layers := rfl
@[simp] theorem onFab_lpBytes {f} : (s.onFab f).lpBytes = s.lpBytes := rfl
@[simp] theorem onFab_units {f} : (s.onFab f).units = s.units := rfl
@[simp] theorem onFab_rows {f} : (s.onFab f).rows = s.rows := rfl
@[simp] theorem onFab_surveys {f} : (s.onFab f).surveys = s.surveys := rfl
@[simp] theorem onFab_clk {f} : (s.onFab f).clk = s.clk := rfl
@[simp] theorem onFab_parser {f} : (s.onFab f).parser = s.parser := rfl
@[simp] theorem onFab_ver {f} : (s.onFab f).ver = s.ver := rfl
@[simp] theorem onFab_beams {f} : (s.onFab f).beams = s.beams := rfl
@[simp] theorem onFab_gy {f} : (s.onFab f).gy = s.gy := rfl
@[simp] theorem onFab_recs {f} : (s.onFab f).recs = s.recs := rfl
@[simp] theorem onFab_blocks {f} : (s.onFab f).blocks = s.blocks := rfl
@[simp] theorem onFab_hm {f} : (s.onFab f).hm = s.hm := rfl
@[simp] theorem onFab_cal {f} : (s.onFab f).cal = s.cal := rfl
@[simp] theorem onFab_shown {f} : (s.onFab f).shown = s.shown := rfl
@[simp] theorem onFab_sram {f} : (s.onFab f).sram = s.sram := rfl
@[simp] theorem onFab_cache {f} : (s.onFab f).cache = s.cache := rfl
@[simp] theorem onFab_pins {f} : (s.onFab f).pins = s.pins := rfl
@[simp] theorem onFab_motion {f} : (s.onFab f).motion = s.motion := rfl
@[simp] theorem onFab_sent {f} : (s.onFab f).sent = s.sent := rfl
@[simp] theorem onFab_hp {f} : (s.onFab f).hp = s.hp := rfl
@[simp] theorem onFab_doms {f} : (s.onFab f).doms = s.doms := rfl
@[simp] theorem onFab_due {f} : (s.onFab f).due = s.due := rfl
@[simp] theorem onFab_fab {f} : (s.onFab f).fab = f s.fab := rfl
@[simp] theorem onFab_ln {f} : (s.onFab f).ln = s.ln := rfl
@[simp] theorem onFab_dram {f} : (s.onFab f).dram = s.dram := rfl
@[simp] theorem onFab_ing {f} : (s.onFab f).ing = s.ing := rfl
@[simp] theorem onFab_boot {f} : (s.onFab f).boot = s.boot := rfl
@[simp] theorem onFab_pw {f} : (s.onFab f).pw = s.pw := rfl

@[simp] theorem onIng_pending {f} : (s.onIng f).pending = s.pending := rfl
@[simp] theorem onIng_regs {f} : (s.onIng f).regs = s.regs := rfl
@[simp] theorem onIng_tables {f} : (s.onIng f).tables = s.tables := rfl
@[simp] theorem onIng_mem {f} : (s.onIng f).mem = s.mem := rfl
@[simp] theorem onIng_freeCount {f} : (s.onIng f).freeCount = s.freeCount := rfl
@[simp] theorem onIng_locked {f} : (s.onIng f).locked = s.locked := rfl
@[simp] theorem onIng_paths {f} : (s.onIng f).paths = s.paths := rfl
@[simp] theorem onIng_log {f} : (s.onIng f).log = s.log := rfl
@[simp] theorem onIng_cores {f} : (s.onIng f).cores = s.cores := rfl
@[simp] theorem onIng_mgt {f} : (s.onIng f).mgt = s.mgt := rfl
@[simp] theorem onIng_layers {f} : (s.onIng f).layers = s.layers := rfl
@[simp] theorem onIng_lpBytes {f} : (s.onIng f).lpBytes = s.lpBytes := rfl
@[simp] theorem onIng_units {f} : (s.onIng f).units = s.units := rfl
@[simp] theorem onIng_rows {f} : (s.onIng f).rows = s.rows := rfl
@[simp] theorem onIng_surveys {f} : (s.onIng f).surveys = s.surveys := rfl
@[simp] theorem onIng_clk {f} : (s.onIng f).clk = s.clk := rfl
@[simp] theorem onIng_parser {f} : (s.onIng f).parser = s.parser := rfl
@[simp] theorem onIng_ver {f} : (s.onIng f).ver = s.ver := rfl
@[simp] theorem onIng_beams {f} : (s.onIng f).beams = s.beams := rfl
@[simp] theorem onIng_gy {f} : (s.onIng f).gy = s.gy := rfl
@[simp] theorem onIng_recs {f} : (s.onIng f).recs = s.recs := rfl
@[simp] theorem onIng_blocks {f} : (s.onIng f).blocks = s.blocks := rfl
@[simp] theorem onIng_hm {f} : (s.onIng f).hm = s.hm := rfl
@[simp] theorem onIng_cal {f} : (s.onIng f).cal = s.cal := rfl
@[simp] theorem onIng_shown {f} : (s.onIng f).shown = s.shown := rfl
@[simp] theorem onIng_sram {f} : (s.onIng f).sram = s.sram := rfl
@[simp] theorem onIng_cache {f} : (s.onIng f).cache = s.cache := rfl
@[simp] theorem onIng_pins {f} : (s.onIng f).pins = s.pins := rfl
@[simp] theorem onIng_motion {f} : (s.onIng f).motion = s.motion := rfl
@[simp] theorem onIng_sent {f} : (s.onIng f).sent = s.sent := rfl
@[simp] theorem onIng_hp {f} : (s.onIng f).hp = s.hp := rfl
@[simp] theorem onIng_doms {f} : (s.onIng f).doms = s.doms := rfl
@[simp] theorem onIng_due {f} : (s.onIng f).due = s.due := rfl
@[simp] theorem onIng_fab {f} : (s.onIng f).fab = s.fab := rfl
@[simp] theorem onIng_ln {f} : (s.onIng f).ln = s.ln := rfl
@[simp] theorem onIng_dram {f} : (s.onIng f).dram = s.dram := rfl
@[simp] theorem onIng_ing {f} : (s.onIng f).ing = f s.ing := rfl
@[simp] theorem onIng_boot {f} : (s.onIng f).boot = s.boot := rfl
@[simp] theorem onIng_pw {f} : (s.onIng f).pw = s.pw := rfl

@[simp] theorem onBoot_pending {f} : (s.onBoot f).pending = s.pending := rfl
@[simp] theorem onBoot_regs {f} : (s.onBoot f).regs = s.regs := rfl
@[simp] theorem onBoot_tables {f} : (s.onBoot f).tables = s.tables := rfl
@[simp] theorem onBoot_mem {f} : (s.onBoot f).mem = s.mem := rfl
@[simp] theorem onBoot_freeCount {f} : (s.onBoot f).freeCount = s.freeCount := rfl
@[simp] theorem onBoot_locked {f} : (s.onBoot f).locked = s.locked := rfl
@[simp] theorem onBoot_paths {f} : (s.onBoot f).paths = s.paths := rfl
@[simp] theorem onBoot_log {f} : (s.onBoot f).log = s.log := rfl
@[simp] theorem onBoot_cores {f} : (s.onBoot f).cores = s.cores := rfl
@[simp] theorem onBoot_mgt {f} : (s.onBoot f).mgt = s.mgt := rfl
@[simp] theorem onBoot_layers {f} : (s.onBoot f).layers = s.layers := rfl
@[simp] theorem onBoot_lpBytes {f} : (s.onBoot f).lpBytes = s.lpBytes := rfl
@[simp] theorem onBoot_units {f} : (s.onBoot f).units = s.units := rfl
@[simp] theorem onBoot_rows {f} : (s.onBoot f).rows = s.rows := rfl
@[simp] theorem onBoot_surveys {f} : (s.onBoot f).surveys = s.surveys := rfl
@[simp] theorem onBoot_clk {f} : (s.onBoot f).clk = s.clk := rfl
@[simp] theorem onBoot_parser {f} : (s.onBoot f).parser = s.parser := rfl
@[simp] theorem onBoot_ver {f} : (s.onBoot f).ver = s.ver := rfl
@[simp] theorem onBoot_beams {f} : (s.onBoot f).beams = s.beams := rfl
@[simp] theorem onBoot_gy {f} : (s.onBoot f).gy = s.gy := rfl
@[simp] theorem onBoot_recs {f} : (s.onBoot f).recs = s.recs := rfl
@[simp] theorem onBoot_blocks {f} : (s.onBoot f).blocks = s.blocks := rfl
@[simp] theorem onBoot_hm {f} : (s.onBoot f).hm = s.hm := rfl
@[simp] theorem onBoot_cal {f} : (s.onBoot f).cal = s.cal := rfl
@[simp] theorem onBoot_shown {f} : (s.onBoot f).shown = s.shown := rfl
@[simp] theorem onBoot_sram {f} : (s.onBoot f).sram = s.sram := rfl
@[simp] theorem onBoot_cache {f} : (s.onBoot f).cache = s.cache := rfl
@[simp] theorem onBoot_pins {f} : (s.onBoot f).pins = s.pins := rfl
@[simp] theorem onBoot_motion {f} : (s.onBoot f).motion = s.motion := rfl
@[simp] theorem onBoot_sent {f} : (s.onBoot f).sent = s.sent := rfl
@[simp] theorem onBoot_hp {f} : (s.onBoot f).hp = s.hp := rfl
@[simp] theorem onBoot_doms {f} : (s.onBoot f).doms = s.doms := rfl
@[simp] theorem onBoot_due {f} : (s.onBoot f).due = s.due := rfl
@[simp] theorem onBoot_fab {f} : (s.onBoot f).fab = s.fab := rfl
@[simp] theorem onBoot_ln {f} : (s.onBoot f).ln = s.ln := rfl
@[simp] theorem onBoot_dram {f} : (s.onBoot f).dram = s.dram := rfl
@[simp] theorem onBoot_ing {f} : (s.onBoot f).ing = s.ing := rfl
@[simp] theorem onBoot_boot {f} : (s.onBoot f).boot = f s.boot := rfl
@[simp] theorem onBoot_pw {f} : (s.onBoot f).pw = s.pw := rfl

@[simp] theorem onPw_pending {f} : (s.onPw f).pending = s.pending := rfl
@[simp] theorem onPw_regs {f} : (s.onPw f).regs = s.regs := rfl
@[simp] theorem onPw_tables {f} : (s.onPw f).tables = s.tables := rfl
@[simp] theorem onPw_mem {f} : (s.onPw f).mem = s.mem := rfl
@[simp] theorem onPw_freeCount {f} : (s.onPw f).freeCount = s.freeCount := rfl
@[simp] theorem onPw_locked {f} : (s.onPw f).locked = s.locked := rfl
@[simp] theorem onPw_paths {f} : (s.onPw f).paths = s.paths := rfl
@[simp] theorem onPw_log {f} : (s.onPw f).log = s.log := rfl
@[simp] theorem onPw_cores {f} : (s.onPw f).cores = s.cores := rfl
@[simp] theorem onPw_mgt {f} : (s.onPw f).mgt = s.mgt := rfl
@[simp] theorem onPw_layers {f} : (s.onPw f).layers = s.layers := rfl
@[simp] theorem onPw_lpBytes {f} : (s.onPw f).lpBytes = s.lpBytes := rfl
@[simp] theorem onPw_units {f} : (s.onPw f).units = s.units := rfl
@[simp] theorem onPw_rows {f} : (s.onPw f).rows = s.rows := rfl
@[simp] theorem onPw_surveys {f} : (s.onPw f).surveys = s.surveys := rfl
@[simp] theorem onPw_clk {f} : (s.onPw f).clk = s.clk := rfl
@[simp] theorem onPw_parser {f} : (s.onPw f).parser = s.parser := rfl
@[simp] theorem onPw_ver {f} : (s.onPw f).ver = s.ver := rfl
@[simp] theorem onPw_beams {f} : (s.onPw f).beams = s.beams := rfl
@[simp] theorem onPw_gy {f} : (s.onPw f).gy = s.gy := rfl
@[simp] theorem onPw_recs {f} : (s.onPw f).recs = s.recs := rfl
@[simp] theorem onPw_blocks {f} : (s.onPw f).blocks = s.blocks := rfl
@[simp] theorem onPw_hm {f} : (s.onPw f).hm = s.hm := rfl
@[simp] theorem onPw_cal {f} : (s.onPw f).cal = s.cal := rfl
@[simp] theorem onPw_shown {f} : (s.onPw f).shown = s.shown := rfl
@[simp] theorem onPw_sram {f} : (s.onPw f).sram = s.sram := rfl
@[simp] theorem onPw_cache {f} : (s.onPw f).cache = s.cache := rfl
@[simp] theorem onPw_pins {f} : (s.onPw f).pins = s.pins := rfl
@[simp] theorem onPw_motion {f} : (s.onPw f).motion = s.motion := rfl
@[simp] theorem onPw_sent {f} : (s.onPw f).sent = s.sent := rfl
@[simp] theorem onPw_hp {f} : (s.onPw f).hp = s.hp := rfl
@[simp] theorem onPw_doms {f} : (s.onPw f).doms = s.doms := rfl
@[simp] theorem onPw_due {f} : (s.onPw f).due = s.due := rfl
@[simp] theorem onPw_fab {f} : (s.onPw f).fab = s.fab := rfl
@[simp] theorem onPw_ln {f} : (s.onPw f).ln = s.ln := rfl
@[simp] theorem onPw_dram {f} : (s.onPw f).dram = s.dram := rfl
@[simp] theorem onPw_ing {f} : (s.onPw f).ing = s.ing := rfl
@[simp] theorem onPw_boot {f} : (s.onPw f).boot = s.boot := rfl
@[simp] theorem onPw_pw {f} : (s.onPw f).pw = f s.pw := rfl

@[simp] theorem onCal_pending {f} : (s.onCal f).pending = s.pending := rfl
@[simp] theorem onCal_regs {f} : (s.onCal f).regs = s.regs := rfl
@[simp] theorem onCal_tables {f} : (s.onCal f).tables = s.tables := rfl
@[simp] theorem onCal_mem {f} : (s.onCal f).mem = s.mem := rfl
@[simp] theorem onCal_freeCount {f} : (s.onCal f).freeCount = s.freeCount := rfl
@[simp] theorem onCal_locked {f} : (s.onCal f).locked = s.locked := rfl
@[simp] theorem onCal_paths {f} : (s.onCal f).paths = s.paths := rfl
@[simp] theorem onCal_log {f} : (s.onCal f).log = s.log := rfl
@[simp] theorem onCal_cores {f} : (s.onCal f).cores = s.cores := rfl
@[simp] theorem onCal_mgt {f} : (s.onCal f).mgt = s.mgt := rfl
@[simp] theorem onCal_layers {f} : (s.onCal f).layers = s.layers := rfl
@[simp] theorem onCal_lpBytes {f} : (s.onCal f).lpBytes = s.lpBytes := rfl
@[simp] theorem onCal_units {f} : (s.onCal f).units = s.units := rfl
@[simp] theorem onCal_rows {f} : (s.onCal f).rows = s.rows := rfl
@[simp] theorem onCal_surveys {f} : (s.onCal f).surveys = s.surveys := rfl
@[simp] theorem onCal_clk {f} : (s.onCal f).clk = s.clk := rfl
@[simp] theorem onCal_parser {f} : (s.onCal f).parser = s.parser := rfl
@[simp] theorem onCal_ver {f} : (s.onCal f).ver = s.ver := rfl
@[simp] theorem onCal_beams {f} : (s.onCal f).beams = s.beams := rfl
@[simp] theorem onCal_gy {f} : (s.onCal f).gy = s.gy := rfl
@[simp] theorem onCal_recs {f} : (s.onCal f).recs = s.recs := rfl
@[simp] theorem onCal_blocks {f} : (s.onCal f).blocks = s.blocks := rfl
@[simp] theorem onCal_hm {f} : (s.onCal f).hm = s.hm := rfl
@[simp] theorem onCal_cal {f} : (s.onCal f).cal = f s.cal := rfl
@[simp] theorem onCal_shown {f} : (s.onCal f).shown = s.shown := rfl
@[simp] theorem onCal_sram {f} : (s.onCal f).sram = s.sram := rfl
@[simp] theorem onCal_cache {f} : (s.onCal f).cache = s.cache := rfl
@[simp] theorem onCal_pins {f} : (s.onCal f).pins = s.pins := rfl
@[simp] theorem onCal_motion {f} : (s.onCal f).motion = s.motion := rfl
@[simp] theorem onCal_sent {f} : (s.onCal f).sent = s.sent := rfl
@[simp] theorem onCal_hp {f} : (s.onCal f).hp = s.hp := rfl
@[simp] theorem onCal_doms {f} : (s.onCal f).doms = s.doms := rfl
@[simp] theorem onCal_due {f} : (s.onCal f).due = s.due := rfl
@[simp] theorem onCal_fab {f} : (s.onCal f).fab = s.fab := rfl
@[simp] theorem onCal_ln {f} : (s.onCal f).ln = s.ln := rfl
@[simp] theorem onCal_dram {f} : (s.onCal f).dram = s.dram := rfl
@[simp] theorem onCal_ing {f} : (s.onCal f).ing = s.ing := rfl
@[simp] theorem onCal_boot {f} : (s.onCal f).boot = s.boot := rfl
@[simp] theorem onCal_pw {f} : (s.onCal f).pw = s.pw := rfl

@[simp] theorem onMgt_pending {f} : (s.onMgt f).pending = s.pending := rfl
@[simp] theorem onMgt_regs {f} : (s.onMgt f).regs = s.regs := rfl
@[simp] theorem onMgt_tables {f} : (s.onMgt f).tables = s.tables := rfl
@[simp] theorem onMgt_mem {f} : (s.onMgt f).mem = s.mem := rfl
@[simp] theorem onMgt_freeCount {f} : (s.onMgt f).freeCount = s.freeCount := rfl
@[simp] theorem onMgt_locked {f} : (s.onMgt f).locked = s.locked := rfl
@[simp] theorem onMgt_paths {f} : (s.onMgt f).paths = s.paths := rfl
@[simp] theorem onMgt_log {f} : (s.onMgt f).log = s.log := rfl
@[simp] theorem onMgt_cores {f} : (s.onMgt f).cores = s.cores := rfl
@[simp] theorem onMgt_mgt {f} : (s.onMgt f).mgt = f s.mgt := rfl
@[simp] theorem onMgt_layers {f} : (s.onMgt f).layers = s.layers := rfl
@[simp] theorem onMgt_lpBytes {f} : (s.onMgt f).lpBytes = s.lpBytes := rfl
@[simp] theorem onMgt_units {f} : (s.onMgt f).units = s.units := rfl
@[simp] theorem onMgt_rows {f} : (s.onMgt f).rows = s.rows := rfl
@[simp] theorem onMgt_surveys {f} : (s.onMgt f).surveys = s.surveys := rfl
@[simp] theorem onMgt_clk {f} : (s.onMgt f).clk = s.clk := rfl
@[simp] theorem onMgt_parser {f} : (s.onMgt f).parser = s.parser := rfl
@[simp] theorem onMgt_ver {f} : (s.onMgt f).ver = s.ver := rfl
@[simp] theorem onMgt_beams {f} : (s.onMgt f).beams = s.beams := rfl
@[simp] theorem onMgt_gy {f} : (s.onMgt f).gy = s.gy := rfl
@[simp] theorem onMgt_recs {f} : (s.onMgt f).recs = s.recs := rfl
@[simp] theorem onMgt_blocks {f} : (s.onMgt f).blocks = s.blocks := rfl
@[simp] theorem onMgt_hm {f} : (s.onMgt f).hm = s.hm := rfl
@[simp] theorem onMgt_cal {f} : (s.onMgt f).cal = s.cal := rfl
@[simp] theorem onMgt_shown {f} : (s.onMgt f).shown = s.shown := rfl
@[simp] theorem onMgt_sram {f} : (s.onMgt f).sram = s.sram := rfl
@[simp] theorem onMgt_cache {f} : (s.onMgt f).cache = s.cache := rfl
@[simp] theorem onMgt_pins {f} : (s.onMgt f).pins = s.pins := rfl
@[simp] theorem onMgt_motion {f} : (s.onMgt f).motion = s.motion := rfl
@[simp] theorem onMgt_sent {f} : (s.onMgt f).sent = s.sent := rfl
@[simp] theorem onMgt_hp {f} : (s.onMgt f).hp = s.hp := rfl
@[simp] theorem onMgt_doms {f} : (s.onMgt f).doms = s.doms := rfl
@[simp] theorem onMgt_due {f} : (s.onMgt f).due = s.due := rfl
@[simp] theorem onMgt_fab {f} : (s.onMgt f).fab = s.fab := rfl
@[simp] theorem onMgt_ln {f} : (s.onMgt f).ln = s.ln := rfl
@[simp] theorem onMgt_dram {f} : (s.onMgt f).dram = s.dram := rfl
@[simp] theorem onMgt_ing {f} : (s.onMgt f).ing = s.ing := rfl
@[simp] theorem onMgt_boot {f} : (s.onMgt f).boot = s.boot := rfl
@[simp] theorem onMgt_pw {f} : (s.onMgt f).pw = s.pw := rfl

@[simp] theorem onPort_pending {p f} : (s.onPort p f).pending = s.pending := 
  (onPort_keeps (F := (· ≠ .pending)) .refl nofun).same .pending (· rfl)
@[simp] theorem onPort_regs {p f} : (s.onPort p f).regs = s.regs := 
  (onPort_keeps (F := (· ≠ .regs)) .refl nofun).same .regs (· rfl)
@[simp] theorem onPort_tables {p f} : (s.onPort p f).tables = s.tables := 
  (onPort_keeps (F := (· ≠ .tables)) .refl nofun).same .tables (· rfl)
@[simp] theorem onPort_mem {p f} : (s.onPort p f).mem = s.mem := 
  (onPort_keeps (F := (· ≠ .mem)) .refl nofun).same .mem (· rfl)
@[simp] theorem onPort_freeCount {p f} : (s.onPort p f).freeCount = s.freeCount := 
  (onPort_keeps (F := (· ≠ .freeCount)) .refl nofun).same .freeCount (· rfl)
@[simp] theorem onPort_locked {p f} : (s.onPort p f).locked = s.locked := 
  (onPort_keeps (F := (· ≠ .locked)) .refl nofun).same .locked (· rfl)
@[simp] theorem onPort_paths {p f} : (s.onPort p f).paths = s.paths := 
  (onPort_keeps (F := (· ≠ .paths)) .refl nofun).same .paths (· rfl)
@[simp] theorem onPort_log {p f} : (s.onPort p f).log = s.log := 
  (onPort_keeps (F := (· ≠ .log)) .refl nofun).same .log (· rfl)
@[simp] theorem onPort_cores {p f} : (s.onPort p f).cores = s.cores := 
  (onPort_keeps (F := (· ≠ .cores)) .refl nofun).same .cores (· rfl)
@[simp] theorem onPort_mgt {p f} : (s.onPort p f).mgt = s.mgt := 
  (onPort_keeps (F := (· ≠ .mgt)) .refl nofun).same .mgt (· rfl)
@[simp] theorem onPort_layers {p f} : (s.onPort p f).layers = s.layers := 
  (onPort_keeps (F := (· ≠ .layers)) .refl nofun).same .layers (· rfl)
@[simp] theorem onPort_lpBytes {p f} : (s.onPort p f).lpBytes = s.lpBytes := 
  (onPort_keeps (F := (· ≠ .lpBytes)) .refl nofun).same .lpBytes (· rfl)
@[simp] theorem onPort_units {p f} : (s.onPort p f).units = s.units := 
  (onPort_keeps (F := (· ≠ .units)) .refl nofun).same .units (· rfl)
@[simp] theorem onPort_rows {p f} : (s.onPort p f).rows = s.rows := 
  (onPort_keeps (F := (· ≠ .rows)) .refl nofun).same .rows (· rfl)
@[simp] theorem onPort_surveys {p f} : (s.onPort p f).surveys = s.surveys := 
  (onPort_keeps (F := (· ≠ .surveys)) .refl nofun).same .surveys (· rfl)
@[simp] theorem onPort_clk {p f} : (s.onPort p f).clk = s.clk := 
  (onPort_keeps (F := (· ≠ .clk)) .refl nofun).same .clk (· rfl)
@[simp] theorem onPort_parser {p f} : (s.onPort p f).parser = s.parser := 
  (onPort_keeps (F := (· ≠ .parser)) .refl nofun).same .parser (· rfl)
@[simp] theorem onPort_ver {p f} : (s.onPort p f).ver = s.ver := 
  (onPort_keeps (F := (· ≠ .ver)) .refl nofun).same .ver (· rfl)
@[simp] theorem onPort_beams {p f} : (s.onPort p f).beams = s.beams := 
  (onPort_keeps (F := (· ≠ .beams)) .refl nofun).same .beams (· rfl)
@[simp] theorem onPort_gy {p f} : (s.onPort p f).gy = s.gy := 
  (onPort_keeps (F := (· ≠ .gy)) .refl nofun).same .gy (· rfl)
@[simp] theorem onPort_recs {p f} : (s.onPort p f).recs = s.recs := 
  (onPort_keeps (F := (· ≠ .recs)) .refl nofun).same .recs (· rfl)
@[simp] theorem onPort_blocks {p f} : (s.onPort p f).blocks = s.blocks := 
  (onPort_keeps (F := (· ≠ .blocks)) .refl nofun).same .blocks (· rfl)
@[simp] theorem onPort_hm {p f} : (s.onPort p f).hm = s.hm := 
  (onPort_keeps (F := (· ≠ .hm)) .refl nofun).same .hm (· rfl)
@[simp] theorem onPort_cal {p f} : (s.onPort p f).cal = s.cal := 
  (onPort_keeps (F := (· ≠ .cal)) .refl nofun).same .cal (· rfl)
@[simp] theorem onPort_shown {p f} : (s.onPort p f).shown = s.shown := 
  (onPort_keeps (F := (· ≠ .shown)) .refl nofun).same .shown (· rfl)
@[simp] theorem onPort_sram {p f} : (s.onPort p f).sram = s.sram := 
  (onPort_keeps (F := (· ≠ .sram)) .refl nofun).same .sram (· rfl)
@[simp] theorem onPort_cache {p f} : (s.onPort p f).cache = s.cache := 
  (onPort_keeps (F := (· ≠ .cache)) .refl nofun).same .cache (· rfl)
@[simp] theorem onPort_pins {p f} : (s.onPort p f).pins = s.pins := 
  (onPort_keeps (F := (· ≠ .pins)) .refl nofun).same .pins (· rfl)
@[simp] theorem onPort_motion {p f} : (s.onPort p f).motion = s.motion := 
  (onPort_keeps (F := (· ≠ .motion)) .refl nofun).same .motion (· rfl)
@[simp] theorem onPort_sent {p f} : (s.onPort p f).sent = s.sent := 
  (onPort_keeps (F := (· ≠ .sent)) .refl nofun).same .sent (· rfl)
@[simp] theorem onPort_doms {p f} : (s.onPort p f).doms = s.doms := 
  (onPort_keeps (F := (· ≠ .doms)) .refl nofun).same .doms (· rfl)
@[simp] theorem onPort_due {p f} : (s.onPort p f).due = s.due := 
  (onPort_keeps (F := (· ≠ .due)) .refl nofun).same .due (· rfl)
@[simp] theorem onPort_fab {p f} : (s.onPort p f).fab = s.fab := 
  (onPort_keeps (F := (· ≠ .fab)) .refl nofun).same .fab (· rfl)
@[simp] theorem onPort_ln {p f} : (s.onPort p f).ln = s.ln := 
  (onPort_keeps (F := (· ≠ .ln)) .refl nofun).same .ln (· rfl)
@[simp] theorem onPort_dram {p f} : (s.onPort p f).dram = s.dram := 
  (onPort_keeps (F := (· ≠ .dram)) .refl nofun).same .dram (· rfl)
@[simp] theorem onPort_ing {p f} : (s.onPort p f).ing = s.ing := 
  (onPort_keeps (F := (· ≠ .ing)) .refl nofun).same .ing (· rfl)
@[simp] theorem onPort_boot {p f} : (s.onPort p f).boot = s.boot := 
  (onPort_keeps (F := (· ≠ .boot)) .refl nofun).same .boot (· rfl)
@[simp] theorem onPort_pw {p f} : (s.onPort p f).pw = s.pw := 
  (onPort_keeps (F := (· ≠ .pw)) .refl nofun).same .pw (· rfl)

@[simp] theorem onLane_pending {n f} : (s.onLane n f).pending = s.pending := 
  (onLane_keeps (F := (· ≠ .pending)) .refl nofun).same .pending (· rfl)
@[simp] theorem onLane_regs {n f} : (s.onLane n f).regs = s.regs := 
  (onLane_keeps (F := (· ≠ .regs)) .refl nofun).same .regs (· rfl)
@[simp] theorem onLane_tables {n f} : (s.onLane n f).tables = s.tables := 
  (onLane_keeps (F := (· ≠ .tables)) .refl nofun).same .tables (· rfl)
@[simp] theorem onLane_mem {n f} : (s.onLane n f).mem = s.mem := 
  (onLane_keeps (F := (· ≠ .mem)) .refl nofun).same .mem (· rfl)
@[simp] theorem onLane_freeCount {n f} : (s.onLane n f).freeCount = s.freeCount := 
  (onLane_keeps (F := (· ≠ .freeCount)) .refl nofun).same .freeCount (· rfl)
@[simp] theorem onLane_locked {n f} : (s.onLane n f).locked = s.locked := 
  (onLane_keeps (F := (· ≠ .locked)) .refl nofun).same .locked (· rfl)
@[simp] theorem onLane_paths {n f} : (s.onLane n f).paths = s.paths := 
  (onLane_keeps (F := (· ≠ .paths)) .refl nofun).same .paths (· rfl)
@[simp] theorem onLane_log {n f} : (s.onLane n f).log = s.log := 
  (onLane_keeps (F := (· ≠ .log)) .refl nofun).same .log (· rfl)
@[simp] theorem onLane_cores {n f} : (s.onLane n f).cores = s.cores := 
  (onLane_keeps (F := (· ≠ .cores)) .refl nofun).same .cores (· rfl)
@[simp] theorem onLane_mgt {n f} : (s.onLane n f).mgt = s.mgt := 
  (onLane_keeps (F := (· ≠ .mgt)) .refl nofun).same .mgt (· rfl)
@[simp] theorem onLane_layers {n f} : (s.onLane n f).layers = s.layers := 
  (onLane_keeps (F := (· ≠ .layers)) .refl nofun).same .layers (· rfl)
@[simp] theorem onLane_lpBytes {n f} : (s.onLane n f).lpBytes = s.lpBytes := 
  (onLane_keeps (F := (· ≠ .lpBytes)) .refl nofun).same .lpBytes (· rfl)
@[simp] theorem onLane_units {n f} : (s.onLane n f).units = s.units := 
  (onLane_keeps (F := (· ≠ .units)) .refl nofun).same .units (· rfl)
@[simp] theorem onLane_rows {n f} : (s.onLane n f).rows = s.rows := 
  (onLane_keeps (F := (· ≠ .rows)) .refl nofun).same .rows (· rfl)
@[simp] theorem onLane_surveys {n f} : (s.onLane n f).surveys = s.surveys := 
  (onLane_keeps (F := (· ≠ .surveys)) .refl nofun).same .surveys (· rfl)
@[simp] theorem onLane_clk {n f} : (s.onLane n f).clk = s.clk := 
  (onLane_keeps (F := (· ≠ .clk)) .refl nofun).same .clk (· rfl)
@[simp] theorem onLane_parser {n f} : (s.onLane n f).parser = s.parser := 
  (onLane_keeps (F := (· ≠ .parser)) .refl nofun).same .parser (· rfl)
@[simp] theorem onLane_ver {n f} : (s.onLane n f).ver = s.ver := 
  (onLane_keeps (F := (· ≠ .ver)) .refl nofun).same .ver (· rfl)
@[simp] theorem onLane_beams {n f} : (s.onLane n f).beams = s.beams := 
  (onLane_keeps (F := (· ≠ .beams)) .refl nofun).same .beams (· rfl)
@[simp] theorem onLane_gy {n f} : (s.onLane n f).gy = s.gy := 
  (onLane_keeps (F := (· ≠ .gy)) .refl nofun).same .gy (· rfl)
@[simp] theorem onLane_recs {n f} : (s.onLane n f).recs = s.recs := 
  (onLane_keeps (F := (· ≠ .recs)) .refl nofun).same .recs (· rfl)
@[simp] theorem onLane_blocks {n f} : (s.onLane n f).blocks = s.blocks := 
  (onLane_keeps (F := (· ≠ .blocks)) .refl nofun).same .blocks (· rfl)
@[simp] theorem onLane_hm {n f} : (s.onLane n f).hm = s.hm := 
  (onLane_keeps (F := (· ≠ .hm)) .refl nofun).same .hm (· rfl)
@[simp] theorem onLane_cal {n f} : (s.onLane n f).cal = s.cal := 
  (onLane_keeps (F := (· ≠ .cal)) .refl nofun).same .cal (· rfl)
@[simp] theorem onLane_shown {n f} : (s.onLane n f).shown = s.shown := 
  (onLane_keeps (F := (· ≠ .shown)) .refl nofun).same .shown (· rfl)
@[simp] theorem onLane_sram {n f} : (s.onLane n f).sram = s.sram := 
  (onLane_keeps (F := (· ≠ .sram)) .refl nofun).same .sram (· rfl)
@[simp] theorem onLane_cache {n f} : (s.onLane n f).cache = s.cache := 
  (onLane_keeps (F := (· ≠ .cache)) .refl nofun).same .cache (· rfl)
@[simp] theorem onLane_pins {n f} : (s.onLane n f).pins = s.pins := 
  (onLane_keeps (F := (· ≠ .pins)) .refl nofun).same .pins (· rfl)
@[simp] theorem onLane_motion {n f} : (s.onLane n f).motion = s.motion := 
  (onLane_keeps (F := (· ≠ .motion)) .refl nofun).same .motion (· rfl)
@[simp] theorem onLane_sent {n f} : (s.onLane n f).sent = s.sent := 
  (onLane_keeps (F := (· ≠ .sent)) .refl nofun).same .sent (· rfl)
@[simp] theorem onLane_hp {n f} : (s.onLane n f).hp = s.hp := 
  (onLane_keeps (F := (· ≠ .hp)) .refl nofun).same .hp (· rfl)
@[simp] theorem onLane_doms {n f} : (s.onLane n f).doms = s.doms := 
  (onLane_keeps (F := (· ≠ .doms)) .refl nofun).same .doms (· rfl)
@[simp] theorem onLane_due {n f} : (s.onLane n f).due = s.due := 
  (onLane_keeps (F := (· ≠ .due)) .refl nofun).same .due (· rfl)
@[simp] theorem onLane_fab {n f} : (s.onLane n f).fab = s.fab := 
  (onLane_keeps (F := (· ≠ .fab)) .refl nofun).same .fab (· rfl)
@[simp] theorem onLane_dram {n f} : (s.onLane n f).dram = s.dram := 
  (onLane_keeps (F := (· ≠ .dram)) .refl nofun).same .dram (· rfl)
@[simp] theorem onLane_ing {n f} : (s.onLane n f).ing = s.ing := 
  (onLane_keeps (F := (· ≠ .ing)) .refl nofun).same .ing (· rfl)
@[simp] theorem onLane_boot {n f} : (s.onLane n f).boot = s.boot := 
  (onLane_keeps (F := (· ≠ .boot)) .refl nofun).same .boot (· rfl)
@[simp] theorem onLane_pw {n f} : (s.onLane n f).pw = s.pw := 
  (onLane_keeps (F := (· ≠ .pw)) .refl nofun).same .pw (· rfl)

@[simp] theorem onGen_pending {x f} : (s.onGen x f).pending = s.pending := 
  (onGen_keeps (F := (· ≠ .pending)) .refl nofun).same .pending (· rfl)
@[simp] theorem onGen_regs {x f} : (s.onGen x f).regs = s.regs := 
  (onGen_keeps (F := (· ≠ .regs)) .refl nofun).same .regs (· rfl)
@[simp] theorem onGen_tables {x f} : (s.onGen x f).tables = s.tables := 
  (onGen_keeps (F := (· ≠ .tables)) .refl nofun).same .tables (· rfl)
@[simp] theorem onGen_mem {x f} : (s.onGen x f).mem = s.mem := 
  (onGen_keeps (F := (· ≠ .mem)) .refl nofun).same .mem (· rfl)
@[simp] theorem onGen_freeCount {x f} : (s.onGen x f).freeCount = s.freeCount := 
  (onGen_keeps (F := (· ≠ .freeCount)) .refl nofun).same .freeCount (· rfl)
@[simp] theorem onGen_locked {x f} : (s.onGen x f).locked = s.locked := 
  (onGen_keeps (F := (· ≠ .locked)) .refl nofun).same .locked (· rfl)
@[simp] theorem onGen_paths {x f} : (s.onGen x f).paths = s.paths := 
  (onGen_keeps (F := (· ≠ .paths)) .refl nofun).same .paths (· rfl)
@[simp] theorem onGen_log {x f} : (s.onGen x f).log = s.log := 
  (onGen_keeps (F := (· ≠ .log)) .refl nofun).same .log (· rfl)
@[simp] theorem onGen_cores {x f} : (s.onGen x f).cores = s.cores := 
  (onGen_keeps (F := (· ≠ .cores)) .refl nofun).same .cores (· rfl)
@[simp] theorem onGen_mgt {x f} : (s.onGen x f).mgt = s.mgt := 
  (onGen_keeps (F := (· ≠ .mgt)) .refl nofun).same .mgt (· rfl)
@[simp] theorem onGen_layers {x f} : (s.onGen x f).layers = s.layers := 
  (onGen_keeps (F := (· ≠ .layers)) .refl nofun).same .layers (· rfl)
@[simp] theorem onGen_lpBytes {x f} : (s.onGen x f).lpBytes = s.lpBytes := 
  (onGen_keeps (F := (· ≠ .lpBytes)) .refl nofun).same .lpBytes (· rfl)
@[simp] theorem onGen_units {x f} : (s.onGen x f).units = s.units := 
  (onGen_keeps (F := (· ≠ .units)) .refl nofun).same .units (· rfl)
@[simp] theorem onGen_rows {x f} : (s.onGen x f).rows = s.rows := 
  (onGen_keeps (F := (· ≠ .rows)) .refl nofun).same .rows (· rfl)
@[simp] theorem onGen_surveys {x f} : (s.onGen x f).surveys = s.surveys := 
  (onGen_keeps (F := (· ≠ .surveys)) .refl nofun).same .surveys (· rfl)
@[simp] theorem onGen_clk {x f} : (s.onGen x f).clk = s.clk := 
  (onGen_keeps (F := (· ≠ .clk)) .refl nofun).same .clk (· rfl)
@[simp] theorem onGen_parser {x f} : (s.onGen x f).parser = s.parser := 
  (onGen_keeps (F := (· ≠ .parser)) .refl nofun).same .parser (· rfl)
@[simp] theorem onGen_ver {x f} : (s.onGen x f).ver = s.ver := 
  (onGen_keeps (F := (· ≠ .ver)) .refl nofun).same .ver (· rfl)
@[simp] theorem onGen_beams {x f} : (s.onGen x f).beams = s.beams := 
  (onGen_keeps (F := (· ≠ .beams)) .refl nofun).same .beams (· rfl)
@[simp] theorem onGen_gy {x f} : (s.onGen x f).gy = s.gy := 
  (onGen_keeps (F := (· ≠ .gy)) .refl nofun).same .gy (· rfl)
@[simp] theorem onGen_recs {x f} : (s.onGen x f).recs = s.recs := 
  (onGen_keeps (F := (· ≠ .recs)) .refl nofun).same .recs (· rfl)
@[simp] theorem onGen_blocks {x f} : (s.onGen x f).blocks = s.blocks := 
  (onGen_keeps (F := (· ≠ .blocks)) .refl nofun).same .blocks (· rfl)
@[simp] theorem onGen_hm {x f} : (s.onGen x f).hm = s.hm := 
  (onGen_keeps (F := (· ≠ .hm)) .refl nofun).same .hm (· rfl)
@[simp] theorem onGen_cal {x f} : (s.onGen x f).cal = s.cal := 
  (onGen_keeps (F := (· ≠ .cal)) .refl nofun).same .cal (· rfl)
@[simp] theorem onGen_shown {x f} : (s.onGen x f).shown = s.shown := 
  (onGen_keeps (F := (· ≠ .shown)) .refl nofun).same .shown (· rfl)
@[simp] theorem onGen_sram {x f} : (s.onGen x f).sram = s.sram := 
  (onGen_keeps (F := (· ≠ .sram)) .refl nofun).same .sram (· rfl)
@[simp] theorem onGen_cache {x f} : (s.onGen x f).cache = s.cache := 
  (onGen_keeps (F := (· ≠ .cache)) .refl nofun).same .cache (· rfl)
@[simp] theorem onGen_pins {x f} : (s.onGen x f).pins = s.pins := 
  (onGen_keeps (F := (· ≠ .pins)) .refl nofun).same .pins (· rfl)
@[simp] theorem onGen_sent {x f} : (s.onGen x f).sent = s.sent := 
  (onGen_keeps (F := (· ≠ .sent)) .refl nofun).same .sent (· rfl)
@[simp] theorem onGen_hp {x f} : (s.onGen x f).hp = s.hp := 
  (onGen_keeps (F := (· ≠ .hp)) .refl nofun).same .hp (· rfl)
@[simp] theorem onGen_doms {x f} : (s.onGen x f).doms = s.doms := 
  (onGen_keeps (F := (· ≠ .doms)) .refl nofun).same .doms (· rfl)
@[simp] theorem onGen_due {x f} : (s.onGen x f).due = s.due := 
  (onGen_keeps (F := (· ≠ .due)) .refl nofun).same .due (· rfl)
@[simp] theorem onGen_fab {x f} : (s.onGen x f).fab = s.fab := 
  (onGen_keeps (F := (· ≠ .fab)) .refl nofun).same .fab (· rfl)
@[simp] theorem onGen_ln {x f} : (s.onGen x f).ln = s.ln := 
  (onGen_keeps (F := (· ≠ .ln)) .refl nofun).same .ln (· rfl)
@[simp] theorem onGen_dram {x f} : (s.onGen x f).dram = s.dram := 
  (onGen_keeps (F := (· ≠ .dram)) .refl nofun).same .dram (· rfl)
@[simp] theorem onGen_ing {x f} : (s.onGen x f).ing = s.ing := 
  (onGen_keeps (F := (· ≠ .ing)) .refl nofun).same .ing (· rfl)
@[simp] theorem onGen_boot {x f} : (s.onGen x f).boot = s.boot := 
  (onGen_keeps (F := (· ≠ .boot)) .refl nofun).same .boot (· rfl)
@[simp] theorem onGen_pw {x f} : (s.onGen x f).pw = s.pw := 
  (onGen_keeps (F := (· ≠ .pw)) .refl nofun).same .pw (· rfl)

@[simp] theorem onFb_pending {x f} : (s.onFb x f).pending = s.pending := 
  (onFb_keeps (F := (· ≠ .pending)) .refl nofun).same .pending (· rfl)
@[simp] theorem onFb_regs {x f} : (s.onFb x f).regs = s.regs := 
  (onFb_keeps (F := (· ≠ .regs)) .refl nofun).same .regs (· rfl)
@[simp] theorem onFb_tables {x f} : (s.onFb x f).tables = s.tables := 
  (onFb_keeps (F := (· ≠ .tables)) .refl nofun).same .tables (· rfl)
@[simp] theorem onFb_mem {x f} : (s.onFb x f).mem = s.mem := 
  (onFb_keeps (F := (· ≠ .mem)) .refl nofun).same .mem (· rfl)
@[simp] theorem onFb_freeCount {x f} : (s.onFb x f).freeCount = s.freeCount := 
  (onFb_keeps (F := (· ≠ .freeCount)) .refl nofun).same .freeCount (· rfl)
@[simp] theorem onFb_locked {x f} : (s.onFb x f).locked = s.locked := 
  (onFb_keeps (F := (· ≠ .locked)) .refl nofun).same .locked (· rfl)
@[simp] theorem onFb_paths {x f} : (s.onFb x f).paths = s.paths := 
  (onFb_keeps (F := (· ≠ .paths)) .refl nofun).same .paths (· rfl)
@[simp] theorem onFb_log {x f} : (s.onFb x f).log = s.log := 
  (onFb_keeps (F := (· ≠ .log)) .refl nofun).same .log (· rfl)
@[simp] theorem onFb_cores {x f} : (s.onFb x f).cores = s.cores := 
  (onFb_keeps (F := (· ≠ .cores)) .refl nofun).same .cores (· rfl)
@[simp] theorem onFb_mgt {x f} : (s.onFb x f).mgt = s.mgt := 
  (onFb_keeps (F := (· ≠ .mgt)) .refl nofun).same .mgt (· rfl)
@[simp] theorem onFb_layers {x f} : (s.onFb x f).layers = s.layers := 
  (onFb_keeps (F := (· ≠ .layers)) .refl nofun).same .layers (· rfl)
@[simp] theorem onFb_lpBytes {x f} : (s.onFb x f).lpBytes = s.lpBytes := 
  (onFb_keeps (F := (· ≠ .lpBytes)) .refl nofun).same .lpBytes (· rfl)
@[simp] theorem onFb_units {x f} : (s.onFb x f).units = s.units := 
  (onFb_keeps (F := (· ≠ .units)) .refl nofun).same .units (· rfl)
@[simp] theorem onFb_rows {x f} : (s.onFb x f).rows = s.rows := 
  (onFb_keeps (F := (· ≠ .rows)) .refl nofun).same .rows (· rfl)
@[simp] theorem onFb_surveys {x f} : (s.onFb x f).surveys = s.surveys := 
  (onFb_keeps (F := (· ≠ .surveys)) .refl nofun).same .surveys (· rfl)
@[simp] theorem onFb_clk {x f} : (s.onFb x f).clk = s.clk := 
  (onFb_keeps (F := (· ≠ .clk)) .refl nofun).same .clk (· rfl)
@[simp] theorem onFb_parser {x f} : (s.onFb x f).parser = s.parser := 
  (onFb_keeps (F := (· ≠ .parser)) .refl nofun).same .parser (· rfl)
@[simp] theorem onFb_ver {x f} : (s.onFb x f).ver = s.ver := 
  (onFb_keeps (F := (· ≠ .ver)) .refl nofun).same .ver (· rfl)
@[simp] theorem onFb_beams {x f} : (s.onFb x f).beams = s.beams := 
  (onFb_keeps (F := (· ≠ .beams)) .refl nofun).same .beams (· rfl)
@[simp] theorem onFb_gy {x f} : (s.onFb x f).gy = s.gy := 
  (onFb_keeps (F := (· ≠ .gy)) .refl nofun).same .gy (· rfl)
@[simp] theorem onFb_recs {x f} : (s.onFb x f).recs = s.recs := 
  (onFb_keeps (F := (· ≠ .recs)) .refl nofun).same .recs (· rfl)
@[simp] theorem onFb_blocks {x f} : (s.onFb x f).blocks = s.blocks := 
  (onFb_keeps (F := (· ≠ .blocks)) .refl nofun).same .blocks (· rfl)
@[simp] theorem onFb_hm {x f} : (s.onFb x f).hm = s.hm := 
  (onFb_keeps (F := (· ≠ .hm)) .refl nofun).same .hm (· rfl)
@[simp] theorem onFb_cal {x f} : (s.onFb x f).cal = s.cal := 
  (onFb_keeps (F := (· ≠ .cal)) .refl nofun).same .cal (· rfl)
@[simp] theorem onFb_shown {x f} : (s.onFb x f).shown = s.shown := 
  (onFb_keeps (F := (· ≠ .shown)) .refl nofun).same .shown (· rfl)
@[simp] theorem onFb_sram {x f} : (s.onFb x f).sram = s.sram := 
  (onFb_keeps (F := (· ≠ .sram)) .refl nofun).same .sram (· rfl)
@[simp] theorem onFb_cache {x f} : (s.onFb x f).cache = s.cache := 
  (onFb_keeps (F := (· ≠ .cache)) .refl nofun).same .cache (· rfl)
@[simp] theorem onFb_pins {x f} : (s.onFb x f).pins = s.pins := 
  (onFb_keeps (F := (· ≠ .pins)) .refl nofun).same .pins (· rfl)
@[simp] theorem onFb_sent {x f} : (s.onFb x f).sent = s.sent := 
  (onFb_keeps (F := (· ≠ .sent)) .refl nofun).same .sent (· rfl)
@[simp] theorem onFb_hp {x f} : (s.onFb x f).hp = s.hp := 
  (onFb_keeps (F := (· ≠ .hp)) .refl nofun).same .hp (· rfl)
@[simp] theorem onFb_doms {x f} : (s.onFb x f).doms = s.doms := 
  (onFb_keeps (F := (· ≠ .doms)) .refl nofun).same .doms (· rfl)
@[simp] theorem onFb_due {x f} : (s.onFb x f).due = s.due := 
  (onFb_keeps (F := (· ≠ .due)) .refl nofun).same .due (· rfl)
@[simp] theorem onFb_fab {x f} : (s.onFb x f).fab = s.fab := 
  (onFb_keeps (F := (· ≠ .fab)) .refl nofun).same .fab (· rfl)
@[simp] theorem onFb_ln {x f} : (s.onFb x f).ln = s.ln := 
  (onFb_keeps (F := (· ≠ .ln)) .refl nofun).same .ln (· rfl)
@[simp] theorem onFb_dram {x f} : (s.onFb x f).dram = s.dram := 
  (onFb_keeps (F := (· ≠ .dram)) .refl nofun).same .dram (· rfl)
@[simp] theorem onFb_ing {x f} : (s.onFb x f).ing = s.ing := 
  (onFb_keeps (F := (· ≠ .ing)) .refl nofun).same .ing (· rfl)
@[simp] theorem onFb_boot {x f} : (s.onFb x f).boot = s.boot := 
  (onFb_keeps (F := (· ≠ .boot)) .refl nofun).same .boot (· rfl)
@[simp] theorem onFb_pw {x f} : (s.onFb x f).pw = s.pw := 
  (onFb_keeps (F := (· ≠ .pw)) .refl nofun).same .pw (· rfl)

@[simp] theorem onServo_pending {x f} : (s.onServo x f).pending = s.pending := 
  (onServo_keeps (F := (· ≠ .pending)) .refl nofun).same .pending (· rfl)
@[simp] theorem onServo_regs {x f} : (s.onServo x f).regs = s.regs := 
  (onServo_keeps (F := (· ≠ .regs)) .refl nofun).same .regs (· rfl)
@[simp] theorem onServo_tables {x f} : (s.onServo x f).tables = s.tables := 
  (onServo_keeps (F := (· ≠ .tables)) .refl nofun).same .tables (· rfl)
@[simp] theorem onServo_mem {x f} : (s.onServo x f).mem = s.mem := 
  (onServo_keeps (F := (· ≠ .mem)) .refl nofun).same .mem (· rfl)
@[simp] theorem onServo_freeCount {x f} : (s.onServo x f).freeCount = s.freeCount := 
  (onServo_keeps (F := (· ≠ .freeCount)) .refl nofun).same .freeCount (· rfl)
@[simp] theorem onServo_locked {x f} : (s.onServo x f).locked = s.locked := 
  (onServo_keeps (F := (· ≠ .locked)) .refl nofun).same .locked (· rfl)
@[simp] theorem onServo_paths {x f} : (s.onServo x f).paths = s.paths := 
  (onServo_keeps (F := (· ≠ .paths)) .refl nofun).same .paths (· rfl)
@[simp] theorem onServo_log {x f} : (s.onServo x f).log = s.log := 
  (onServo_keeps (F := (· ≠ .log)) .refl nofun).same .log (· rfl)
@[simp] theorem onServo_cores {x f} : (s.onServo x f).cores = s.cores := 
  (onServo_keeps (F := (· ≠ .cores)) .refl nofun).same .cores (· rfl)
@[simp] theorem onServo_mgt {x f} : (s.onServo x f).mgt = s.mgt := 
  (onServo_keeps (F := (· ≠ .mgt)) .refl nofun).same .mgt (· rfl)
@[simp] theorem onServo_layers {x f} : (s.onServo x f).layers = s.layers := 
  (onServo_keeps (F := (· ≠ .layers)) .refl nofun).same .layers (· rfl)
@[simp] theorem onServo_lpBytes {x f} : (s.onServo x f).lpBytes = s.lpBytes := 
  (onServo_keeps (F := (· ≠ .lpBytes)) .refl nofun).same .lpBytes (· rfl)
@[simp] theorem onServo_units {x f} : (s.onServo x f).units = s.units := 
  (onServo_keeps (F := (· ≠ .units)) .refl nofun).same .units (· rfl)
@[simp] theorem onServo_rows {x f} : (s.onServo x f).rows = s.rows := 
  (onServo_keeps (F := (· ≠ .rows)) .refl nofun).same .rows (· rfl)
@[simp] theorem onServo_surveys {x f} : (s.onServo x f).surveys = s.surveys := 
  (onServo_keeps (F := (· ≠ .surveys)) .refl nofun).same .surveys (· rfl)
@[simp] theorem onServo_clk {x f} : (s.onServo x f).clk = s.clk := 
  (onServo_keeps (F := (· ≠ .clk)) .refl nofun).same .clk (· rfl)
@[simp] theorem onServo_parser {x f} : (s.onServo x f).parser = s.parser := 
  (onServo_keeps (F := (· ≠ .parser)) .refl nofun).same .parser (· rfl)
@[simp] theorem onServo_ver {x f} : (s.onServo x f).ver = s.ver := 
  (onServo_keeps (F := (· ≠ .ver)) .refl nofun).same .ver (· rfl)
@[simp] theorem onServo_beams {x f} : (s.onServo x f).beams = s.beams := 
  (onServo_keeps (F := (· ≠ .beams)) .refl nofun).same .beams (· rfl)
@[simp] theorem onServo_gy {x f} : (s.onServo x f).gy = s.gy := 
  (onServo_keeps (F := (· ≠ .gy)) .refl nofun).same .gy (· rfl)
@[simp] theorem onServo_recs {x f} : (s.onServo x f).recs = s.recs := 
  (onServo_keeps (F := (· ≠ .recs)) .refl nofun).same .recs (· rfl)
@[simp] theorem onServo_blocks {x f} : (s.onServo x f).blocks = s.blocks := 
  (onServo_keeps (F := (· ≠ .blocks)) .refl nofun).same .blocks (· rfl)
@[simp] theorem onServo_hm {x f} : (s.onServo x f).hm = s.hm := 
  (onServo_keeps (F := (· ≠ .hm)) .refl nofun).same .hm (· rfl)
@[simp] theorem onServo_cal {x f} : (s.onServo x f).cal = s.cal := 
  (onServo_keeps (F := (· ≠ .cal)) .refl nofun).same .cal (· rfl)
@[simp] theorem onServo_shown {x f} : (s.onServo x f).shown = s.shown := 
  (onServo_keeps (F := (· ≠ .shown)) .refl nofun).same .shown (· rfl)
@[simp] theorem onServo_sram {x f} : (s.onServo x f).sram = s.sram := 
  (onServo_keeps (F := (· ≠ .sram)) .refl nofun).same .sram (· rfl)
@[simp] theorem onServo_cache {x f} : (s.onServo x f).cache = s.cache := 
  (onServo_keeps (F := (· ≠ .cache)) .refl nofun).same .cache (· rfl)
@[simp] theorem onServo_pins {x f} : (s.onServo x f).pins = s.pins := 
  (onServo_keeps (F := (· ≠ .pins)) .refl nofun).same .pins (· rfl)
@[simp] theorem onServo_sent {x f} : (s.onServo x f).sent = s.sent := 
  (onServo_keeps (F := (· ≠ .sent)) .refl nofun).same .sent (· rfl)
@[simp] theorem onServo_hp {x f} : (s.onServo x f).hp = s.hp := 
  (onServo_keeps (F := (· ≠ .hp)) .refl nofun).same .hp (· rfl)
@[simp] theorem onServo_doms {x f} : (s.onServo x f).doms = s.doms := 
  (onServo_keeps (F := (· ≠ .doms)) .refl nofun).same .doms (· rfl)
@[simp] theorem onServo_due {x f} : (s.onServo x f).due = s.due := 
  (onServo_keeps (F := (· ≠ .due)) .refl nofun).same .due (· rfl)
@[simp] theorem onServo_fab {x f} : (s.onServo x f).fab = s.fab := 
  (onServo_keeps (F := (· ≠ .fab)) .refl nofun).same .fab (· rfl)
@[simp] theorem onServo_ln {x f} : (s.onServo x f).ln = s.ln := 
  (onServo_keeps (F := (· ≠ .ln)) .refl nofun).same .ln (· rfl)
@[simp] theorem onServo_dram {x f} : (s.onServo x f).dram = s.dram := 
  (onServo_keeps (F := (· ≠ .dram)) .refl nofun).same .dram (· rfl)
@[simp] theorem onServo_ing {x f} : (s.onServo x f).ing = s.ing := 
  (onServo_keeps (F := (· ≠ .ing)) .refl nofun).same .ing (· rfl)
@[simp] theorem onServo_boot {x f} : (s.onServo x f).boot = s.boot := 
  (onServo_keeps (F := (· ≠ .boot)) .refl nofun).same .boot (· rfl)
@[simp] theorem onServo_pw {x f} : (s.onServo x f).pw = s.pw := 
  (onServo_keeps (F := (· ≠ .pw)) .refl nofun).same .pw (· rfl)

@[simp] theorem onFport_pending {p f} : (s.onFport p f).pending = s.pending := 
  (onFport_keeps (F := (· ≠ .pending)) .refl nofun).same .pending (· rfl)
@[simp] theorem onFport_regs {p f} : (s.onFport p f).regs = s.regs := 
  (onFport_keeps (F := (· ≠ .regs)) .refl nofun).same .regs (· rfl)
@[simp] theorem onFport_tables {p f} : (s.onFport p f).tables = s.tables := 
  (onFport_keeps (F := (· ≠ .tables)) .refl nofun).same .tables (· rfl)
@[simp] theorem onFport_mem {p f} : (s.onFport p f).mem = s.mem := 
  (onFport_keeps (F := (· ≠ .mem)) .refl nofun).same .mem (· rfl)
@[simp] theorem onFport_freeCount {p f} : (s.onFport p f).freeCount = s.freeCount := 
  (onFport_keeps (F := (· ≠ .freeCount)) .refl nofun).same .freeCount (· rfl)
@[simp] theorem onFport_locked {p f} : (s.onFport p f).locked = s.locked := 
  (onFport_keeps (F := (· ≠ .locked)) .refl nofun).same .locked (· rfl)
@[simp] theorem onFport_paths {p f} : (s.onFport p f).paths = s.paths := 
  (onFport_keeps (F := (· ≠ .paths)) .refl nofun).same .paths (· rfl)
@[simp] theorem onFport_log {p f} : (s.onFport p f).log = s.log := 
  (onFport_keeps (F := (· ≠ .log)) .refl nofun).same .log (· rfl)
@[simp] theorem onFport_cores {p f} : (s.onFport p f).cores = s.cores := 
  (onFport_keeps (F := (· ≠ .cores)) .refl nofun).same .cores (· rfl)
@[simp] theorem onFport_mgt {p f} : (s.onFport p f).mgt = s.mgt := 
  (onFport_keeps (F := (· ≠ .mgt)) .refl nofun).same .mgt (· rfl)
@[simp] theorem onFport_layers {p f} : (s.onFport p f).layers = s.layers := 
  (onFport_keeps (F := (· ≠ .layers)) .refl nofun).same .layers (· rfl)
@[simp] theorem onFport_lpBytes {p f} : (s.onFport p f).lpBytes = s.lpBytes := 
  (onFport_keeps (F := (· ≠ .lpBytes)) .refl nofun).same .lpBytes (· rfl)
@[simp] theorem onFport_units {p f} : (s.onFport p f).units = s.units := 
  (onFport_keeps (F := (· ≠ .units)) .refl nofun).same .units (· rfl)
@[simp] theorem onFport_rows {p f} : (s.onFport p f).rows = s.rows := 
  (onFport_keeps (F := (· ≠ .rows)) .refl nofun).same .rows (· rfl)
@[simp] theorem onFport_surveys {p f} : (s.onFport p f).surveys = s.surveys := 
  (onFport_keeps (F := (· ≠ .surveys)) .refl nofun).same .surveys (· rfl)
@[simp] theorem onFport_clk {p f} : (s.onFport p f).clk = s.clk := 
  (onFport_keeps (F := (· ≠ .clk)) .refl nofun).same .clk (· rfl)
@[simp] theorem onFport_parser {p f} : (s.onFport p f).parser = s.parser := 
  (onFport_keeps (F := (· ≠ .parser)) .refl nofun).same .parser (· rfl)
@[simp] theorem onFport_ver {p f} : (s.onFport p f).ver = s.ver := 
  (onFport_keeps (F := (· ≠ .ver)) .refl nofun).same .ver (· rfl)
@[simp] theorem onFport_beams {p f} : (s.onFport p f).beams = s.beams := 
  (onFport_keeps (F := (· ≠ .beams)) .refl nofun).same .beams (· rfl)
@[simp] theorem onFport_gy {p f} : (s.onFport p f).gy = s.gy := 
  (onFport_keeps (F := (· ≠ .gy)) .refl nofun).same .gy (· rfl)
@[simp] theorem onFport_recs {p f} : (s.onFport p f).recs = s.recs := 
  (onFport_keeps (F := (· ≠ .recs)) .refl nofun).same .recs (· rfl)
@[simp] theorem onFport_blocks {p f} : (s.onFport p f).blocks = s.blocks := 
  (onFport_keeps (F := (· ≠ .blocks)) .refl nofun).same .blocks (· rfl)
@[simp] theorem onFport_hm {p f} : (s.onFport p f).hm = s.hm := 
  (onFport_keeps (F := (· ≠ .hm)) .refl nofun).same .hm (· rfl)
@[simp] theorem onFport_cal {p f} : (s.onFport p f).cal = s.cal := 
  (onFport_keeps (F := (· ≠ .cal)) .refl nofun).same .cal (· rfl)
@[simp] theorem onFport_shown {p f} : (s.onFport p f).shown = s.shown := 
  (onFport_keeps (F := (· ≠ .shown)) .refl nofun).same .shown (· rfl)
@[simp] theorem onFport_sram {p f} : (s.onFport p f).sram = s.sram := 
  (onFport_keeps (F := (· ≠ .sram)) .refl nofun).same .sram (· rfl)
@[simp] theorem onFport_cache {p f} : (s.onFport p f).cache = s.cache := 
  (onFport_keeps (F := (· ≠ .cache)) .refl nofun).same .cache (· rfl)
@[simp] theorem onFport_pins {p f} : (s.onFport p f).pins = s.pins := 
  (onFport_keeps (F := (· ≠ .pins)) .refl nofun).same .pins (· rfl)
@[simp] theorem onFport_motion {p f} : (s.onFport p f).motion = s.motion := 
  (onFport_keeps (F := (· ≠ .motion)) .refl nofun).same .motion (· rfl)
@[simp] theorem onFport_sent {p f} : (s.onFport p f).sent = s.sent := 
  (onFport_keeps (F := (· ≠ .sent)) .refl nofun).same .sent (· rfl)
@[simp] theorem onFport_hp {p f} : (s.onFport p f).hp = s.hp := 
  (onFport_keeps (F := (· ≠ .hp)) .refl nofun).same .hp (· rfl)
@[simp] theorem onFport_doms {p f} : (s.onFport p f).doms = s.doms := 
  (onFport_keeps (F := (· ≠ .doms)) .refl nofun).same .doms (· rfl)
@[simp] theorem onFport_due {p f} : (s.onFport p f).due = s.due := 
  (onFport_keeps (F := (· ≠ .due)) .refl nofun).same .due (· rfl)
@[simp] theorem onFport_ln {p f} : (s.onFport p f).ln = s.ln := 
  (onFport_keeps (F := (· ≠ .ln)) .refl nofun).same .ln (· rfl)
@[simp] theorem onFport_dram {p f} : (s.onFport p f).dram = s.dram := 
  (onFport_keeps (F := (· ≠ .dram)) .refl nofun).same .dram (· rfl)
@[simp] theorem onFport_ing {p f} : (s.onFport p f).ing = s.ing := 
  (onFport_keeps (F := (· ≠ .ing)) .refl nofun).same .ing (· rfl)
@[simp] theorem onFport_boot {p f} : (s.onFport p f).boot = s.boot := 
  (onFport_keeps (F := (· ≠ .boot)) .refl nofun).same .boot (· rfl)
@[simp] theorem onFport_pw {p f} : (s.onFport p f).pw = s.pw := 
  (onFport_keeps (F := (· ≠ .pw)) .refl nofun).same .pw (· rfl)

@[simp] theorem onChan_pending {c f} : (s.onChan c f).pending = s.pending := 
  (onChan_keeps (F := (· ≠ .pending)) .refl nofun).same .pending (· rfl)
@[simp] theorem onChan_regs {c f} : (s.onChan c f).regs = s.regs := 
  (onChan_keeps (F := (· ≠ .regs)) .refl nofun).same .regs (· rfl)
@[simp] theorem onChan_tables {c f} : (s.onChan c f).tables = s.tables := 
  (onChan_keeps (F := (· ≠ .tables)) .refl nofun).same .tables (· rfl)
@[simp] theorem onChan_mem {c f} : (s.onChan c f).mem = s.mem := 
  (onChan_keeps (F := (· ≠ .mem)) .refl nofun).same .mem (· rfl)
@[simp] theorem onChan_freeCount {c f} : (s.onChan c f).freeCount = s.freeCount := 
  (onChan_keeps (F := (· ≠ .freeCount)) .refl nofun).same .freeCount (· rfl)
@[simp] theorem onChan_locked {c f} : (s.onChan c f).locked = s.locked := 
  (onChan_keeps (F := (· ≠ .locked)) .refl nofun).same .locked (· rfl)
@[simp] theorem onChan_paths {c f} : (s.onChan c f).paths = s.paths := 
  (onChan_keeps (F := (· ≠ .paths)) .refl nofun).same .paths (· rfl)
@[simp] theorem onChan_log {c f} : (s.onChan c f).log = s.log := 
  (onChan_keeps (F := (· ≠ .log)) .refl nofun).same .log (· rfl)
@[simp] theorem onChan_cores {c f} : (s.onChan c f).cores = s.cores := 
  (onChan_keeps (F := (· ≠ .cores)) .refl nofun).same .cores (· rfl)
@[simp] theorem onChan_mgt {c f} : (s.onChan c f).mgt = s.mgt := 
  (onChan_keeps (F := (· ≠ .mgt)) .refl nofun).same .mgt (· rfl)
@[simp] theorem onChan_layers {c f} : (s.onChan c f).layers = s.layers := 
  (onChan_keeps (F := (· ≠ .layers)) .refl nofun).same .layers (· rfl)
@[simp] theorem onChan_lpBytes {c f} : (s.onChan c f).lpBytes = s.lpBytes := 
  (onChan_keeps (F := (· ≠ .lpBytes)) .refl nofun).same .lpBytes (· rfl)
@[simp] theorem onChan_units {c f} : (s.onChan c f).units = s.units := 
  (onChan_keeps (F := (· ≠ .units)) .refl nofun).same .units (· rfl)
@[simp] theorem onChan_rows {c f} : (s.onChan c f).rows = s.rows := 
  (onChan_keeps (F := (· ≠ .rows)) .refl nofun).same .rows (· rfl)
@[simp] theorem onChan_surveys {c f} : (s.onChan c f).surveys = s.surveys := 
  (onChan_keeps (F := (· ≠ .surveys)) .refl nofun).same .surveys (· rfl)
@[simp] theorem onChan_clk {c f} : (s.onChan c f).clk = s.clk := 
  (onChan_keeps (F := (· ≠ .clk)) .refl nofun).same .clk (· rfl)
@[simp] theorem onChan_parser {c f} : (s.onChan c f).parser = s.parser := 
  (onChan_keeps (F := (· ≠ .parser)) .refl nofun).same .parser (· rfl)
@[simp] theorem onChan_ver {c f} : (s.onChan c f).ver = s.ver := 
  (onChan_keeps (F := (· ≠ .ver)) .refl nofun).same .ver (· rfl)
@[simp] theorem onChan_beams {c f} : (s.onChan c f).beams = s.beams := 
  (onChan_keeps (F := (· ≠ .beams)) .refl nofun).same .beams (· rfl)
@[simp] theorem onChan_gy {c f} : (s.onChan c f).gy = s.gy := 
  (onChan_keeps (F := (· ≠ .gy)) .refl nofun).same .gy (· rfl)
@[simp] theorem onChan_recs {c f} : (s.onChan c f).recs = s.recs := 
  (onChan_keeps (F := (· ≠ .recs)) .refl nofun).same .recs (· rfl)
@[simp] theorem onChan_blocks {c f} : (s.onChan c f).blocks = s.blocks := 
  (onChan_keeps (F := (· ≠ .blocks)) .refl nofun).same .blocks (· rfl)
@[simp] theorem onChan_hm {c f} : (s.onChan c f).hm = s.hm := 
  (onChan_keeps (F := (· ≠ .hm)) .refl nofun).same .hm (· rfl)
@[simp] theorem onChan_cal {c f} : (s.onChan c f).cal = s.cal := 
  (onChan_keeps (F := (· ≠ .cal)) .refl nofun).same .cal (· rfl)
@[simp] theorem onChan_shown {c f} : (s.onChan c f).shown = s.shown := 
  (onChan_keeps (F := (· ≠ .shown)) .refl nofun).same .shown (· rfl)
@[simp] theorem onChan_sram {c f} : (s.onChan c f).sram = s.sram := 
  (onChan_keeps (F := (· ≠ .sram)) .refl nofun).same .sram (· rfl)
@[simp] theorem onChan_cache {c f} : (s.onChan c f).cache = s.cache := 
  (onChan_keeps (F := (· ≠ .cache)) .refl nofun).same .cache (· rfl)
@[simp] theorem onChan_pins {c f} : (s.onChan c f).pins = s.pins := 
  (onChan_keeps (F := (· ≠ .pins)) .refl nofun).same .pins (· rfl)
@[simp] theorem onChan_motion {c f} : (s.onChan c f).motion = s.motion := 
  (onChan_keeps (F := (· ≠ .motion)) .refl nofun).same .motion (· rfl)
@[simp] theorem onChan_sent {c f} : (s.onChan c f).sent = s.sent := 
  (onChan_keeps (F := (· ≠ .sent)) .refl nofun).same .sent (· rfl)
@[simp] theorem onChan_hp {c f} : (s.onChan c f).hp = s.hp := 
  (onChan_keeps (F := (· ≠ .hp)) .refl nofun).same .hp (· rfl)
@[simp] theorem onChan_doms {c f} : (s.onChan c f).doms = s.doms := 
  (onChan_keeps (F := (· ≠ .doms)) .refl nofun).same .doms (· rfl)
@[simp] theorem onChan_due {c f} : (s.onChan c f).due = s.due := 
  (onChan_keeps (F := (· ≠ .due)) .refl nofun).same .due (· rfl)
@[simp] theorem onChan_fab {c f} : (s.onChan c f).fab = s.fab := 
  (onChan_keeps (F := (· ≠ .fab)) .refl nofun).same .fab (· rfl)
@[simp] theorem onChan_ln {c f} : (s.onChan c f).ln = s.ln := 
  (onChan_keeps (F := (· ≠ .ln)) .refl nofun).same .ln (· rfl)
@[simp] theorem onChan_dram {c f} : (s.onChan c f).dram = s.dram := 
  (onChan_keeps (F := (· ≠ .dram)) .refl nofun).same .dram (· rfl)
@[simp] theorem onChan_boot {c f} : (s.onChan c f).boot = s.boot := 
  (onChan_keeps (F := (· ≠ .boot)) .refl nofun).same .boot (· rfl)
@[simp] theorem onChan_pw {c f} : (s.onChan c f).pw = s.pw := 
  (onChan_keeps (F := (· ≠ .pw)) .refl nofun).same .pw (· rfl)

@[simp] theorem onUnit_pending {n f} : (s.onUnit n f).pending = s.pending := 
  (onUnit_keeps (F := (· ≠ .pending)) .refl nofun).same .pending (· rfl)
@[simp] theorem onUnit_regs {n f} : (s.onUnit n f).regs = s.regs := 
  (onUnit_keeps (F := (· ≠ .regs)) .refl nofun).same .regs (· rfl)
@[simp] theorem onUnit_tables {n f} : (s.onUnit n f).tables = s.tables := 
  (onUnit_keeps (F := (· ≠ .tables)) .refl nofun).same .tables (· rfl)
@[simp] theorem onUnit_mem {n f} : (s.onUnit n f).mem = s.mem := 
  (onUnit_keeps (F := (· ≠ .mem)) .refl nofun).same .mem (· rfl)
@[simp] theorem onUnit_freeCount {n f} : (s.onUnit n f).freeCount = s.freeCount := 
  (onUnit_keeps (F := (· ≠ .freeCount)) .refl nofun).same .freeCount (· rfl)
@[simp] theorem onUnit_locked {n f} : (s.onUnit n f).locked = s.locked := 
  (onUnit_keeps (F := (· ≠ .locked)) .refl nofun).same .locked (· rfl)
@[simp] theorem onUnit_paths {n f} : (s.onUnit n f).paths = s.paths := 
  (onUnit_keeps (F := (· ≠ .paths)) .refl nofun).same .paths (· rfl)
@[simp] theorem onUnit_log {n f} : (s.onUnit n f).log = s.log := 
  (onUnit_keeps (F := (· ≠ .log)) .refl nofun).same .log (· rfl)
@[simp] theorem onUnit_cores {n f} : (s.onUnit n f).cores = s.cores := 
  (onUnit_keeps (F := (· ≠ .cores)) .refl nofun).same .cores (· rfl)
@[simp] theorem onUnit_mgt {n f} : (s.onUnit n f).mgt = s.mgt := 
  (onUnit_keeps (F := (· ≠ .mgt)) .refl nofun).same .mgt (· rfl)
@[simp] theorem onUnit_layers {n f} : (s.onUnit n f).layers = s.layers := 
  (onUnit_keeps (F := (· ≠ .layers)) .refl nofun).same .layers (· rfl)
@[simp] theorem onUnit_lpBytes {n f} : (s.onUnit n f).lpBytes = s.lpBytes := 
  (onUnit_keeps (F := (· ≠ .lpBytes)) .refl nofun).same .lpBytes (· rfl)
@[simp] theorem onUnit_rows {n f} : (s.onUnit n f).rows = s.rows := 
  (onUnit_keeps (F := (· ≠ .rows)) .refl nofun).same .rows (· rfl)
@[simp] theorem onUnit_surveys {n f} : (s.onUnit n f).surveys = s.surveys := 
  (onUnit_keeps (F := (· ≠ .surveys)) .refl nofun).same .surveys (· rfl)
@[simp] theorem onUnit_clk {n f} : (s.onUnit n f).clk = s.clk := 
  (onUnit_keeps (F := (· ≠ .clk)) .refl nofun).same .clk (· rfl)
@[simp] theorem onUnit_parser {n f} : (s.onUnit n f).parser = s.parser := 
  (onUnit_keeps (F := (· ≠ .parser)) .refl nofun).same .parser (· rfl)
@[simp] theorem onUnit_ver {n f} : (s.onUnit n f).ver = s.ver := 
  (onUnit_keeps (F := (· ≠ .ver)) .refl nofun).same .ver (· rfl)
@[simp] theorem onUnit_beams {n f} : (s.onUnit n f).beams = s.beams := 
  (onUnit_keeps (F := (· ≠ .beams)) .refl nofun).same .beams (· rfl)
@[simp] theorem onUnit_gy {n f} : (s.onUnit n f).gy = s.gy := 
  (onUnit_keeps (F := (· ≠ .gy)) .refl nofun).same .gy (· rfl)
@[simp] theorem onUnit_recs {n f} : (s.onUnit n f).recs = s.recs := 
  (onUnit_keeps (F := (· ≠ .recs)) .refl nofun).same .recs (· rfl)
@[simp] theorem onUnit_blocks {n f} : (s.onUnit n f).blocks = s.blocks := 
  (onUnit_keeps (F := (· ≠ .blocks)) .refl nofun).same .blocks (· rfl)
@[simp] theorem onUnit_hm {n f} : (s.onUnit n f).hm = s.hm := 
  (onUnit_keeps (F := (· ≠ .hm)) .refl nofun).same .hm (· rfl)
@[simp] theorem onUnit_cal {n f} : (s.onUnit n f).cal = s.cal := 
  (onUnit_keeps (F := (· ≠ .cal)) .refl nofun).same .cal (· rfl)
@[simp] theorem onUnit_shown {n f} : (s.onUnit n f).shown = s.shown := 
  (onUnit_keeps (F := (· ≠ .shown)) .refl nofun).same .shown (· rfl)
@[simp] theorem onUnit_sram {n f} : (s.onUnit n f).sram = s.sram := 
  (onUnit_keeps (F := (· ≠ .sram)) .refl nofun).same .sram (· rfl)
@[simp] theorem onUnit_cache {n f} : (s.onUnit n f).cache = s.cache := 
  (onUnit_keeps (F := (· ≠ .cache)) .refl nofun).same .cache (· rfl)
@[simp] theorem onUnit_pins {n f} : (s.onUnit n f).pins = s.pins := 
  (onUnit_keeps (F := (· ≠ .pins)) .refl nofun).same .pins (· rfl)
@[simp] theorem onUnit_motion {n f} : (s.onUnit n f).motion = s.motion := 
  (onUnit_keeps (F := (· ≠ .motion)) .refl nofun).same .motion (· rfl)
@[simp] theorem onUnit_sent {n f} : (s.onUnit n f).sent = s.sent := 
  (onUnit_keeps (F := (· ≠ .sent)) .refl nofun).same .sent (· rfl)
@[simp] theorem onUnit_hp {n f} : (s.onUnit n f).hp = s.hp := 
  (onUnit_keeps (F := (· ≠ .hp)) .refl nofun).same .hp (· rfl)
@[simp] theorem onUnit_doms {n f} : (s.onUnit n f).doms = s.doms := 
  (onUnit_keeps (F := (· ≠ .doms)) .refl nofun).same .doms (· rfl)
@[simp] theorem onUnit_due {n f} : (s.onUnit n f).due = s.due := 
  (onUnit_keeps (F := (· ≠ .due)) .refl nofun).same .due (· rfl)
@[simp] theorem onUnit_fab {n f} : (s.onUnit n f).fab = s.fab := 
  (onUnit_keeps (F := (· ≠ .fab)) .refl nofun).same .fab (· rfl)
@[simp] theorem onUnit_ln {n f} : (s.onUnit n f).ln = s.ln := 
  (onUnit_keeps (F := (· ≠ .ln)) .refl nofun).same .ln (· rfl)
@[simp] theorem onUnit_dram {n f} : (s.onUnit n f).dram = s.dram := 
  (onUnit_keeps (F := (· ≠ .dram)) .refl nofun).same .dram (· rfl)
@[simp] theorem onUnit_ing {n f} : (s.onUnit n f).ing = s.ing := 
  (onUnit_keeps (F := (· ≠ .ing)) .refl nofun).same .ing (· rfl)
@[simp] theorem onUnit_boot {n f} : (s.onUnit n f).boot = s.boot := 
  (onUnit_keeps (F := (· ≠ .boot)) .refl nofun).same .boot (· rfl)
@[simp] theorem onUnit_pw {n f} : (s.onUnit n f).pw = s.pw := 
  (onUnit_keeps (F := (· ≠ .pw)) .refl nofun).same .pw (· rfl)

@[simp] theorem onEngine_pending {n f} : (s.onEngine n f).pending = s.pending := 
  (onEngine_keeps (F := (· ≠ .pending)) .refl nofun).same .pending (· rfl)
@[simp] theorem onEngine_regs {n f} : (s.onEngine n f).regs = s.regs := 
  (onEngine_keeps (F := (· ≠ .regs)) .refl nofun).same .regs (· rfl)
@[simp] theorem onEngine_tables {n f} : (s.onEngine n f).tables = s.tables := 
  (onEngine_keeps (F := (· ≠ .tables)) .refl nofun).same .tables (· rfl)
@[simp] theorem onEngine_mem {n f} : (s.onEngine n f).mem = s.mem := 
  (onEngine_keeps (F := (· ≠ .mem)) .refl nofun).same .mem (· rfl)
@[simp] theorem onEngine_freeCount {n f} : (s.onEngine n f).freeCount = s.freeCount := 
  (onEngine_keeps (F := (· ≠ .freeCount)) .refl nofun).same .freeCount (· rfl)
@[simp] theorem onEngine_locked {n f} : (s.onEngine n f).locked = s.locked := 
  (onEngine_keeps (F := (· ≠ .locked)) .refl nofun).same .locked (· rfl)
@[simp] theorem onEngine_paths {n f} : (s.onEngine n f).paths = s.paths := 
  (onEngine_keeps (F := (· ≠ .paths)) .refl nofun).same .paths (· rfl)
@[simp] theorem onEngine_log {n f} : (s.onEngine n f).log = s.log := 
  (onEngine_keeps (F := (· ≠ .log)) .refl nofun).same .log (· rfl)
@[simp] theorem onEngine_cores {n f} : (s.onEngine n f).cores = s.cores := 
  (onEngine_keeps (F := (· ≠ .cores)) .refl nofun).same .cores (· rfl)
@[simp] theorem onEngine_mgt {n f} : (s.onEngine n f).mgt = s.mgt := 
  (onEngine_keeps (F := (· ≠ .mgt)) .refl nofun).same .mgt (· rfl)
@[simp] theorem onEngine_layers {n f} : (s.onEngine n f).layers = s.layers := 
  (onEngine_keeps (F := (· ≠ .layers)) .refl nofun).same .layers (· rfl)
@[simp] theorem onEngine_lpBytes {n f} : (s.onEngine n f).lpBytes = s.lpBytes := 
  (onEngine_keeps (F := (· ≠ .lpBytes)) .refl nofun).same .lpBytes (· rfl)
@[simp] theorem onEngine_units {n f} : (s.onEngine n f).units = s.units := 
  (onEngine_keeps (F := (· ≠ .units)) .refl nofun).same .units (· rfl)
@[simp] theorem onEngine_rows {n f} : (s.onEngine n f).rows = s.rows := 
  (onEngine_keeps (F := (· ≠ .rows)) .refl nofun).same .rows (· rfl)
@[simp] theorem onEngine_surveys {n f} : (s.onEngine n f).surveys = s.surveys := 
  (onEngine_keeps (F := (· ≠ .surveys)) .refl nofun).same .surveys (· rfl)
@[simp] theorem onEngine_clk {n f} : (s.onEngine n f).clk = s.clk := 
  (onEngine_keeps (F := (· ≠ .clk)) .refl nofun).same .clk (· rfl)
@[simp] theorem onEngine_parser {n f} : (s.onEngine n f).parser = s.parser := 
  (onEngine_keeps (F := (· ≠ .parser)) .refl nofun).same .parser (· rfl)
@[simp] theorem onEngine_beams {n f} : (s.onEngine n f).beams = s.beams := 
  (onEngine_keeps (F := (· ≠ .beams)) .refl nofun).same .beams (· rfl)
@[simp] theorem onEngine_gy {n f} : (s.onEngine n f).gy = s.gy := 
  (onEngine_keeps (F := (· ≠ .gy)) .refl nofun).same .gy (· rfl)
@[simp] theorem onEngine_recs {n f} : (s.onEngine n f).recs = s.recs := 
  (onEngine_keeps (F := (· ≠ .recs)) .refl nofun).same .recs (· rfl)
@[simp] theorem onEngine_blocks {n f} : (s.onEngine n f).blocks = s.blocks := 
  (onEngine_keeps (F := (· ≠ .blocks)) .refl nofun).same .blocks (· rfl)
@[simp] theorem onEngine_hm {n f} : (s.onEngine n f).hm = s.hm := 
  (onEngine_keeps (F := (· ≠ .hm)) .refl nofun).same .hm (· rfl)
@[simp] theorem onEngine_cal {n f} : (s.onEngine n f).cal = s.cal := 
  (onEngine_keeps (F := (· ≠ .cal)) .refl nofun).same .cal (· rfl)
@[simp] theorem onEngine_shown {n f} : (s.onEngine n f).shown = s.shown := 
  (onEngine_keeps (F := (· ≠ .shown)) .refl nofun).same .shown (· rfl)
@[simp] theorem onEngine_sram {n f} : (s.onEngine n f).sram = s.sram := 
  (onEngine_keeps (F := (· ≠ .sram)) .refl nofun).same .sram (· rfl)
@[simp] theorem onEngine_cache {n f} : (s.onEngine n f).cache = s.cache := 
  (onEngine_keeps (F := (· ≠ .cache)) .refl nofun).same .cache (· rfl)
@[simp] theorem onEngine_pins {n f} : (s.onEngine n f).pins = s.pins := 
  (onEngine_keeps (F := (· ≠ .pins)) .refl nofun).same .pins (· rfl)
@[simp] theorem onEngine_motion {n f} : (s.onEngine n f).motion = s.motion := 
  (onEngine_keeps (F := (· ≠ .motion)) .refl nofun).same .motion (· rfl)
@[simp] theorem onEngine_sent {n f} : (s.onEngine n f).sent = s.sent := 
  (onEngine_keeps (F := (· ≠ .sent)) .refl nofun).same .sent (· rfl)
@[simp] theorem onEngine_hp {n f} : (s.onEngine n f).hp = s.hp := 
  (onEngine_keeps (F := (· ≠ .hp)) .refl nofun).same .hp (· rfl)
@[simp] theorem onEngine_doms {n f} : (s.onEngine n f).doms = s.doms := 
  (onEngine_keeps (F := (· ≠ .doms)) .refl nofun).same .doms (· rfl)
@[simp] theorem onEngine_due {n f} : (s.onEngine n f).due = s.due := 
  (onEngine_keeps (F := (· ≠ .due)) .refl nofun).same .due (· rfl)
@[simp] theorem onEngine_fab {n f} : (s.onEngine n f).fab = s.fab := 
  (onEngine_keeps (F := (· ≠ .fab)) .refl nofun).same .fab (· rfl)
@[simp] theorem onEngine_ln {n f} : (s.onEngine n f).ln = s.ln := 
  (onEngine_keeps (F := (· ≠ .ln)) .refl nofun).same .ln (· rfl)
@[simp] theorem onEngine_dram {n f} : (s.onEngine n f).dram = s.dram := 
  (onEngine_keeps (F := (· ≠ .dram)) .refl nofun).same .dram (· rfl)
@[simp] theorem onEngine_ing {n f} : (s.onEngine n f).ing = s.ing := 
  (onEngine_keeps (F := (· ≠ .ing)) .refl nofun).same .ing (· rfl)
@[simp] theorem onEngine_boot {n f} : (s.onEngine n f).boot = s.boot := 
  (onEngine_keeps (F := (· ≠ .boot)) .refl nofun).same .boot (· rfl)
@[simp] theorem onEngine_pw {n f} : (s.onEngine n f).pw = s.pw := 
  (onEngine_keeps (F := (· ≠ .pw)) .refl nofun).same .pw (· rfl)

@[simp] theorem onDom_pending {d f} : (s.onDom d f).pending = s.pending := 
  (onDom_keeps (F := (· ≠ .pending)) .refl nofun).same .pending (· rfl)
@[simp] theorem onDom_regs {d f} : (s.onDom d f).regs = s.regs := 
  (onDom_keeps (F := (· ≠ .regs)) .refl nofun).same .regs (· rfl)
@[simp] theorem onDom_tables {d f} : (s.onDom d f).tables = s.tables := 
  (onDom_keeps (F := (· ≠ .tables)) .refl nofun).same .tables (· rfl)
@[simp] theorem onDom_mem {d f} : (s.onDom d f).mem = s.mem := 
  (onDom_keeps (F := (· ≠ .mem)) .refl nofun).same .mem (· rfl)
@[simp] theorem onDom_freeCount {d f} : (s.onDom d f).freeCount = s.freeCount := 
  (onDom_keeps (F := (· ≠ .freeCount)) .refl nofun).same .freeCount (· rfl)
@[simp] theorem onDom_locked {d f} : (s.onDom d f).locked = s.locked := 
  (onDom_keeps (F := (· ≠ .locked)) .refl nofun).same .locked (· rfl)
@[simp] theorem onDom_paths {d f} : (s.onDom d f).paths = s.paths := 
  (onDom_keeps (F := (· ≠ .paths)) .refl nofun).same .paths (· rfl)
@[simp] theorem onDom_log {d f} : (s.onDom d f).log = s.log := 
  (onDom_keeps (F := (· ≠ .log)) .refl nofun).same .log (· rfl)
@[simp] theorem onDom_cores {d f} : (s.onDom d f).cores = s.cores := 
  (onDom_keeps (F := (· ≠ .cores)) .refl nofun).same .cores (· rfl)
@[simp] theorem onDom_mgt {d f} : (s.onDom d f).mgt = s.mgt := 
  (onDom_keeps (F := (· ≠ .mgt)) .refl nofun).same .mgt (· rfl)
@[simp] theorem onDom_layers {d f} : (s.onDom d f).layers = s.layers := 
  (onDom_keeps (F := (· ≠ .layers)) .refl nofun).same .layers (· rfl)
@[simp] theorem onDom_lpBytes {d f} : (s.onDom d f).lpBytes = s.lpBytes := 
  (onDom_keeps (F := (· ≠ .lpBytes)) .refl nofun).same .lpBytes (· rfl)
@[simp] theorem onDom_units {d f} : (s.onDom d f).units = s.units := 
  (onDom_keeps (F := (· ≠ .units)) .refl nofun).same .units (· rfl)
@[simp] theorem onDom_rows {d f} : (s.onDom d f).rows = s.rows := 
  (onDom_keeps (F := (· ≠ .rows)) .refl nofun).same .rows (· rfl)
@[simp] theorem onDom_surveys {d f} : (s.onDom d f).surveys = s.surveys := 
  (onDom_keeps (F := (· ≠ .surveys)) .refl nofun).same .surveys (· rfl)
@[simp] theorem onDom_clk {d f} : (s.onDom d f).clk = s.clk := 
  (onDom_keeps (F := (· ≠ .clk)) .refl nofun).same .clk (· rfl)
@[simp] theorem onDom_parser {d f} : (s.onDom d f).parser = s.parser := 
  (onDom_keeps (F := (· ≠ .parser)) .refl nofun).same .parser (· rfl)
@[simp] theorem onDom_ver {d f} : (s.onDom d f).ver = s.ver := 
  (onDom_keeps (F := (· ≠ .ver)) .refl nofun).same .ver (· rfl)
@[simp] theorem onDom_beams {d f} : (s.onDom d f).beams = s.beams := 
  (onDom_keeps (F := (· ≠ .beams)) .refl nofun).same .beams (· rfl)
@[simp] theorem onDom_gy {d f} : (s.onDom d f).gy = s.gy := 
  (onDom_keeps (F := (· ≠ .gy)) .refl nofun).same .gy (· rfl)
@[simp] theorem onDom_recs {d f} : (s.onDom d f).recs = s.recs := 
  (onDom_keeps (F := (· ≠ .recs)) .refl nofun).same .recs (· rfl)
@[simp] theorem onDom_blocks {d f} : (s.onDom d f).blocks = s.blocks := 
  (onDom_keeps (F := (· ≠ .blocks)) .refl nofun).same .blocks (· rfl)
@[simp] theorem onDom_hm {d f} : (s.onDom d f).hm = s.hm := 
  (onDom_keeps (F := (· ≠ .hm)) .refl nofun).same .hm (· rfl)
@[simp] theorem onDom_cal {d f} : (s.onDom d f).cal = s.cal := 
  (onDom_keeps (F := (· ≠ .cal)) .refl nofun).same .cal (· rfl)
@[simp] theorem onDom_shown {d f} : (s.onDom d f).shown = s.shown := 
  (onDom_keeps (F := (· ≠ .shown)) .refl nofun).same .shown (· rfl)
@[simp] theorem onDom_sram {d f} : (s.onDom d f).sram = s.sram := 
  (onDom_keeps (F := (· ≠ .sram)) .refl nofun).same .sram (· rfl)
@[simp] theorem onDom_cache {d f} : (s.onDom d f).cache = s.cache := 
  (onDom_keeps (F := (· ≠ .cache)) .refl nofun).same .cache (· rfl)
@[simp] theorem onDom_pins {d f} : (s.onDom d f).pins = s.pins := 
  (onDom_keeps (F := (· ≠ .pins)) .refl nofun).same .pins (· rfl)
@[simp] theorem onDom_motion {d f} : (s.onDom d f).motion = s.motion := 
  (onDom_keeps (F := (· ≠ .motion)) .refl nofun).same .motion (· rfl)
@[simp] theorem onDom_sent {d f} : (s.onDom d f).sent = s.sent := 
  (onDom_keeps (F := (· ≠ .sent)) .refl nofun).same .sent (· rfl)
@[simp] theorem onDom_hp {d f} : (s.onDom d f).hp = s.hp := 
  (onDom_keeps (F := (· ≠ .hp)) .refl nofun).same .hp (· rfl)
@[simp] theorem onDom_due {d f} : (s.onDom d f).due = s.due := 
  (onDom_keeps (F := (· ≠ .due)) .refl nofun).same .due (· rfl)
@[simp] theorem onDom_fab {d f} : (s.onDom d f).fab = s.fab := 
  (onDom_keeps (F := (· ≠ .fab)) .refl nofun).same .fab (· rfl)
@[simp] theorem onDom_ln {d f} : (s.onDom d f).ln = s.ln := 
  (onDom_keeps (F := (· ≠ .ln)) .refl nofun).same .ln (· rfl)
@[simp] theorem onDom_dram {d f} : (s.onDom d f).dram = s.dram := 
  (onDom_keeps (F := (· ≠ .dram)) .refl nofun).same .dram (· rfl)
@[simp] theorem onDom_ing {d f} : (s.onDom d f).ing = s.ing := 
  (onDom_keeps (F := (· ≠ .ing)) .refl nofun).same .ing (· rfl)
@[simp] theorem onDom_boot {d f} : (s.onDom d f).boot = s.boot := 
  (onDom_keeps (F := (· ≠ .boot)) .refl nofun).same .boot (· rfl)
@[simp] theorem onDom_pw {d f} : (s.onDom d f).pw = s.pw := 
  (onDom_keeps (F := (· ≠ .pw)) .refl nofun).same .pw (· rfl)

@[simp] theorem takeBytes_pending {a b} : (s.takeBytes a b).pending = s.pending :=
  (takeBytes_keeps (F := (· ≠ .pending)) .refl ⟨nofun, nofun⟩).same .pending (· rfl)
@[simp] theorem takeBytes_regs {a b} : (s.takeBytes a b).regs = s.regs :=
  (takeBytes_keeps (F := (· ≠ .regs)) .refl ⟨nofun, nofun⟩).same .regs (· rfl)
@[simp] theorem takeBytes_tables {a b} : (s.takeBytes a b).tables = s.tables :=
  (takeBytes_keeps (F := (· ≠ .tables)) .refl ⟨nofun, nofun⟩).same .tables (· rfl)
@[simp] theorem takeBytes_freeCount {a b} : (s.takeBytes a b).freeCount = s.freeCount :=
  (takeBytes_keeps (F := (· ≠ .freeCount)) .refl ⟨nofun, nofun⟩).same .freeCount (· rfl)
@[simp] theorem takeBytes_locked {a b} : (s.takeBytes a b).locked = s.locked :=
  (takeBytes_keeps (F := (· ≠ .locked)) .refl ⟨nofun, nofun⟩).same .locked (· rfl)
@[simp] theorem takeBytes_paths {a b} : (s.takeBytes a b).paths = s.paths :=
  (takeBytes_keeps (F := (· ≠ .paths)) .refl ⟨nofun, nofun⟩).same .paths (· rfl)
@[simp] theorem takeBytes_log {a b} : (s.takeBytes a b).log = s.log :=
  (takeBytes_keeps (F := (· ≠ .log)) .refl ⟨nofun, nofun⟩).same .log (· rfl)
@[simp] theorem takeBytes_cores {a b} : (s.takeBytes a b).cores = s.cores :=
  (takeBytes_keeps (F := (· ≠ .cores)) .refl ⟨nofun, nofun⟩).same .cores (· rfl)
@[simp] theorem takeBytes_mgt {a b} : (s.takeBytes a b).mgt = s.mgt :=
  (takeBytes_keeps (F := (· ≠ .mgt)) .refl ⟨nofun, nofun⟩).same .mgt (· rfl)
@[simp] theorem takeBytes_layers {a b} : (s.takeBytes a b).layers = s.layers :=
  (takeBytes_keeps (F := (· ≠ .layers)) .refl ⟨nofun, nofun⟩).same .layers (· rfl)
@[simp] theorem takeBytes_lpBytes {a b} : (s.takeBytes a b).lpBytes = s.lpBytes :=
  (takeBytes_keeps (F := (· ≠ .lpBytes)) .refl ⟨nofun, nofun⟩).same .lpBytes (· rfl)
@[simp] theorem takeBytes_units {a b} : (s.takeBytes a b).units = s.units :=
  (takeBytes_keeps (F := (· ≠ .units)) .refl ⟨nofun, nofun⟩).same .units (· rfl)
@[simp] theorem takeBytes_rows {a b} : (s.takeBytes a b).rows = s.rows :=
  (takeBytes_keeps (F := (· ≠ .rows)) .refl ⟨nofun, nofun⟩).same .rows (· rfl)
@[simp] theorem takeBytes_surveys {a b} : (s.takeBytes a b).surveys = s.surveys :=
  (takeBytes_keeps (F := (· ≠ .surveys)) .refl ⟨nofun, nofun⟩).same .surveys (· rfl)
@[simp] theorem takeBytes_clk {a b} : (s.takeBytes a b).clk = s.clk :=
  (takeBytes_keeps (F := (· ≠ .clk)) .refl ⟨nofun, nofun⟩).same .clk (· rfl)
@[simp] theorem takeBytes_parser {a b} : (s.takeBytes a b).parser = s.parser :=
  (takeBytes_keeps (F := (· ≠ .parser)) .refl ⟨nofun, nofun⟩).same .parser (· rfl)
@[simp] theorem takeBytes_ver {a b} : (s.takeBytes a b).ver = s.ver :=
  (takeBytes_keeps (F := (· ≠ .ver)) .refl ⟨nofun, nofun⟩).same .ver (· rfl)
@[simp] theorem takeBytes_beams {a b} : (s.takeBytes a b).beams = s.beams :=
  (takeBytes_keeps (F := (· ≠ .beams)) .refl ⟨nofun, nofun⟩).same .beams (· rfl)
@[simp] theorem takeBytes_gy {a b} : (s.takeBytes a b).gy = s.gy :=
  (takeBytes_keeps (F := (· ≠ .gy)) .refl ⟨nofun, nofun⟩).same .gy (· rfl)
@[simp] theorem takeBytes_recs {a b} : (s.takeBytes a b).recs = s.recs :=
  (takeBytes_keeps (F := (· ≠ .recs)) .refl ⟨nofun, nofun⟩).same .recs (· rfl)
@[simp] theorem takeBytes_blocks {a b} : (s.takeBytes a b).blocks = s.blocks :=
  (takeBytes_keeps (F := (· ≠ .blocks)) .refl ⟨nofun, nofun⟩).same .blocks (· rfl)
@[simp] theorem takeBytes_hm {a b} : (s.takeBytes a b).hm = s.hm :=
  (takeBytes_keeps (F := (· ≠ .hm)) .refl ⟨nofun, nofun⟩).same .hm (· rfl)
@[simp] theorem takeBytes_cal {a b} : (s.takeBytes a b).cal = s.cal :=
  (takeBytes_keeps (F := (· ≠ .cal)) .refl ⟨nofun, nofun⟩).same .cal (· rfl)
@[simp] theorem takeBytes_shown {a b} : (s.takeBytes a b).shown = s.shown :=
  (takeBytes_keeps (F := (· ≠ .shown)) .refl ⟨nofun, nofun⟩).same .shown (· rfl)
@[simp] theorem takeBytes_sram {a b} : (s.takeBytes a b).sram = s.sram :=
  (takeBytes_keeps (F := (· ≠ .sram)) .refl ⟨nofun, nofun⟩).same .sram (· rfl)
@[simp] theorem takeBytes_cache {a b} : (s.takeBytes a b).cache = s.cache :=
  (takeBytes_keeps (F := (· ≠ .cache)) .refl ⟨nofun, nofun⟩).same .cache (· rfl)
@[simp] theorem takeBytes_pins {a b} : (s.takeBytes a b).pins = s.pins :=
  (takeBytes_keeps (F := (· ≠ .pins)) .refl ⟨nofun, nofun⟩).same .pins (· rfl)
@[simp] theorem takeBytes_motion {a b} : (s.takeBytes a b).motion = s.motion :=
  (takeBytes_keeps (F := (· ≠ .motion)) .refl ⟨nofun, nofun⟩).same .motion (· rfl)
@[simp] theorem takeBytes_sent {a b} : (s.takeBytes a b).sent = s.sent :=
  (takeBytes_keeps (F := (· ≠ .sent)) .refl ⟨nofun, nofun⟩).same .sent (· rfl)
@[simp] theorem takeBytes_hp {a b} : (s.takeBytes a b).hp = s.hp :=
  (takeBytes_keeps (F := (· ≠ .hp)) .refl ⟨nofun, nofun⟩).same .hp (· rfl)
@[simp] theorem takeBytes_doms {a b} : (s.takeBytes a b).doms = s.doms :=
  (takeBytes_keeps (F := (· ≠ .doms)) .refl ⟨nofun, nofun⟩).same .doms (· rfl)
@[simp] theorem takeBytes_due {a b} : (s.takeBytes a b).due = s.due :=
  (takeBytes_keeps (F := (· ≠ .due)) .refl ⟨nofun, nofun⟩).same .due (· rfl)
@[simp] theorem takeBytes_fab {a b} : (s.takeBytes a b).fab = s.fab :=
  (takeBytes_keeps (F := (· ≠ .fab)) .refl ⟨nofun, nofun⟩).same .fab (· rfl)
@[simp] theorem takeBytes_ln {a b} : (s.takeBytes a b).ln = s.ln :=
  (takeBytes_keeps (F := (· ≠ .ln)) .refl ⟨nofun, nofun⟩).same .ln (· rfl)
@[simp] theorem takeBytes_ing {a b} : (s.takeBytes a b).ing = s.ing :=
  (takeBytes_keeps (F := (· ≠ .ing)) .refl ⟨nofun, nofun⟩).same .ing (· rfl)
@[simp] theorem takeBytes_boot {a b} : (s.takeBytes a b).boot = s.boot :=
  (takeBytes_keeps (F := (· ≠ .boot)) .refl ⟨nofun, nofun⟩).same .boot (· rfl)
@[simp] theorem takeBytes_pw {a b} : (s.takeBytes a b).pw = s.pw :=
  (takeBytes_keeps (F := (· ≠ .pw)) .refl ⟨nofun, nofun⟩).same .pw (· rfl)

@[simp] theorem clearMem_pending {a b} : (s.clearMem a b).pending = s.pending := rfl
@[simp] theorem clearMem_regs {a b} : (s.clearMem a b).regs = s.regs := rfl
@[simp] theorem clearMem_tables {a b} : (s.clearMem a b).tables = s.tables := rfl
@[simp] theorem clearMem_freeCount {a b} : (s.clearMem a b).freeCount = s.freeCount := rfl
@[simp] theorem clearMem_locked {a b} : (s.clearMem a b).locked = s.locked := rfl
@[simp] theorem clearMem_paths {a b} : (s.clearMem a b).paths = s.paths := rfl
@[simp] theorem clearMem_log {a b} : (s.clearMem a b).log = s.log := rfl
@[simp] theorem clearMem_cores {a b} : (s.clearMem a b).cores = s.cores := rfl
@[simp] theorem clearMem_mgt {a b} : (s.clearMem a b).mgt = s.mgt := rfl
@[simp] theorem clearMem_layers {a b} : (s.clearMem a b).layers = s.layers := rfl
@[simp] theorem clearMem_lpBytes {a b} : (s.clearMem a b).lpBytes = s.lpBytes := rfl
@[simp] theorem clearMem_units {a b} : (s.clearMem a b).units = s.units := rfl
@[simp] theorem clearMem_rows {a b} : (s.clearMem a b).rows = s.rows := rfl
@[simp] theorem clearMem_surveys {a b} : (s.clearMem a b).surveys = s.surveys := rfl
@[simp] theorem clearMem_clk {a b} : (s.clearMem a b).clk = s.clk := rfl
@[simp] theorem clearMem_parser {a b} : (s.clearMem a b).parser = s.parser := rfl
@[simp] theorem clearMem_ver {a b} : (s.clearMem a b).ver = s.ver := rfl
@[simp] theorem clearMem_beams {a b} : (s.clearMem a b).beams = s.beams := rfl
@[simp] theorem clearMem_gy {a b} : (s.clearMem a b).gy = s.gy := rfl
@[simp] theorem clearMem_recs {a b} : (s.clearMem a b).recs = s.recs := rfl
@[simp] theorem clearMem_blocks {a b} : (s.clearMem a b).blocks = s.blocks := rfl
@[simp] theorem clearMem_hm {a b} : (s.clearMem a b).hm = s.hm := rfl
@[simp] theorem clearMem_cal {a b} : (s.clearMem a b).cal = s.cal := rfl
@[simp] theorem clearMem_shown {a b} : (s.clearMem a b).shown = s.shown := rfl
@[simp] theorem clearMem_sram {a b} : (s.clearMem a b).sram = s.sram := rfl
@[simp] theorem clearMem_cache {a b} : (s.clearMem a b).cache = s.cache := rfl
@[simp] theorem clearMem_pins {a b} : (s.clearMem a b).pins = s.pins := rfl
@[simp] theorem clearMem_motion {a b} : (s.clearMem a b).motion = s.motion := rfl
@[simp] theorem clearMem_sent {a b} : (s.clearMem a b).sent = s.sent := rfl
@[simp] theorem clearMem_hp {a b} : (s.clearMem a b).hp = s.hp := rfl
@[simp] theorem clearMem_doms {a b} : (s.clearMem a b).doms = s.doms := rfl
@[simp] theorem clearMem_due {a b} : (s.clearMem a b).due = s.due := rfl
@[simp] theorem clearMem_fab {a b} : (s.clearMem a b).fab = s.fab := rfl
@[simp] theorem clearMem_ln {a b} : (s.clearMem a b).ln = s.ln := rfl
@[simp] theorem clearMem_ing {a b} : (s.clearMem a b).ing = s.ing := rfl
@[simp] theorem clearMem_boot {a b} : (s.clearMem a b).boot = s.boot := rfl
@[simp] theorem clearMem_pw {a b} : (s.clearMem a b).pw = s.pw := rfl

@[simp] theorem sendOn_pending {a b} : (s.sendOn a b).pending = s.pending := rfl
@[simp] theorem sendOn_regs {a b} : (s.sendOn a b).regs = s.regs := rfl
@[simp] theorem sendOn_tables {a b} : (s.sendOn a b).tables = s.tables := rfl
@[simp] theorem sendOn_mem {a b} : (s.sendOn a b).mem = s.mem := rfl
@[simp] theorem sendOn_freeCount {a b} : (s.sendOn a b).freeCount = s.freeCount := rfl
@[simp] theorem sendOn_locked {a b} : (s.sendOn a b).locked = s.locked := rfl
@[simp] theorem sendOn_paths {a b} : (s.sendOn a b).paths = s.paths := rfl
@[simp] theorem sendOn_log {a b} : (s.sendOn a b).log = s.log := rfl
@[simp] theorem sendOn_cores {a b} : (s.sendOn a b).cores = s.cores := rfl
@[simp] theorem sendOn_mgt {a b} : (s.sendOn a b).mgt = s.mgt := rfl
@[simp] theorem sendOn_layers {a b} : (s.sendOn a b).layers = s.layers := rfl
@[simp] theorem sendOn_lpBytes {a b} : (s.sendOn a b).lpBytes = s.lpBytes := rfl
@[simp] theorem sendOn_units {a b} : (s.sendOn a b).units = s.units := rfl
@[simp] theorem sendOn_rows {a b} : (s.sendOn a b).rows = s.rows := rfl
@[simp] theorem sendOn_surveys {a b} : (s.sendOn a b).surveys = s.surveys := rfl
@[simp] theorem sendOn_clk {a b} : (s.sendOn a b).clk = s.clk := rfl
@[simp] theorem sendOn_parser {a b} : (s.sendOn a b).parser = s.parser := rfl
@[simp] theorem sendOn_ver {a b} : (s.sendOn a b).ver = s.ver := rfl
@[simp] theorem sendOn_beams {a b} : (s.sendOn a b).beams = s.beams := rfl
@[simp] theorem sendOn_gy {a b} : (s.sendOn a b).gy = s.gy := rfl
@[simp] theorem sendOn_recs {a b} : (s.sendOn a b).recs = s.recs := rfl
@[simp] theorem sendOn_blocks {a b} : (s.sendOn a b).blocks = s.blocks := rfl
@[simp] theorem sendOn_hm {a b} : (s.sendOn a b).hm = s.hm := rfl
@[simp] theorem sendOn_cal {a b} : (s.sendOn a b).cal = s.cal := rfl
@[simp] theorem sendOn_shown {a b} : (s.sendOn a b).shown = s.shown := rfl
@[simp] theorem sendOn_sram {a b} : (s.sendOn a b).sram = s.sram := rfl
@[simp] theorem sendOn_cache {a b} : (s.sendOn a b).cache = s.cache := rfl
@[simp] theorem sendOn_pins {a b} : (s.sendOn a b).pins = s.pins := rfl
@[simp] theorem sendOn_motion {a b} : (s.sendOn a b).motion = s.motion := rfl
@[simp] theorem sendOn_hp {a b} : (s.sendOn a b).hp = s.hp := rfl
@[simp] theorem sendOn_doms {a b} : (s.sendOn a b).doms = s.doms := rfl
@[simp] theorem sendOn_due {a b} : (s.sendOn a b).due = s.due := rfl
@[simp] theorem sendOn_fab {a b} : (s.sendOn a b).fab = s.fab := rfl
@[simp] theorem sendOn_ln {a b} : (s.sendOn a b).ln = s.ln := rfl
@[simp] theorem sendOn_dram {a b} : (s.sendOn a b).dram = s.dram := rfl
@[simp] theorem sendOn_ing {a b} : (s.sendOn a b).ing = s.ing := rfl
@[simp] theorem sendOn_boot {a b} : (s.sendOn a b).boot = s.boot := rfl
@[simp] theorem sendOn_pw {a b} : (s.sendOn a b).pw = s.pw := rfl

@[simp] theorem setOn_pending {a b c} : (s.setOn a b c).pending = s.pending :=
  (setOn_keeps (F := (· ≠ .pending)) .refl nofun).same .pending (· rfl)
@[simp] theorem setOn_regs {a b c} : (s.setOn a b c).regs = s.regs :=
  (setOn_keeps (F := (· ≠ .regs)) .refl nofun).same .regs (· rfl)
@[simp] theorem setOn_tables {a b c} : (s.setOn a b c).tables = s.tables :=
  (setOn_keeps (F := (· ≠ .tables)) .refl nofun).same .tables (· rfl)
@[simp] theorem setOn_mem {a b c} : (s.setOn a b c).mem = s.mem :=
  (setOn_keeps (F := (· ≠ .mem)) .refl nofun).same .mem (· rfl)
@[simp] theorem setOn_freeCount {a b c} : (s.setOn a b c).freeCount = s.freeCount :=
  (setOn_keeps (F := (· ≠ .freeCount)) .refl nofun).same .freeCount (· rfl)
@[simp] theorem setOn_locked {a b c} : (s.setOn a b c).locked = s.locked :=
  (setOn_keeps (F := (· ≠ .locked)) .refl nofun).same .locked (· rfl)
@[simp] theorem setOn_paths {a b c} : (s.setOn a b c).paths = s.paths :=
  (setOn_keeps (F := (· ≠ .paths)) .refl nofun).same .paths (· rfl)
@[simp] theorem setOn_log {a b c} : (s.setOn a b c).log = s.log :=
  (setOn_keeps (F := (· ≠ .log)) .refl nofun).same .log (· rfl)
@[simp] theorem setOn_cores {a b c} : (s.setOn a b c).cores = s.cores :=
  (setOn_keeps (F := (· ≠ .cores)) .refl nofun).same .cores (· rfl)
@[simp] theorem setOn_mgt {a b c} : (s.setOn a b c).mgt = s.mgt :=
  (setOn_keeps (F := (· ≠ .mgt)) .refl nofun).same .mgt (· rfl)
@[simp] theorem setOn_layers {a b c} : (s.setOn a b c).layers = s.layers :=
  (setOn_keeps (F := (· ≠ .layers)) .refl nofun).same .layers (· rfl)
@[simp] theorem setOn_lpBytes {a b c} : (s.setOn a b c).lpBytes = s.lpBytes :=
  (setOn_keeps (F := (· ≠ .lpBytes)) .refl nofun).same .lpBytes (· rfl)
@[simp] theorem setOn_units {a b c} : (s.setOn a b c).units = s.units :=
  (setOn_keeps (F := (· ≠ .units)) .refl nofun).same .units (· rfl)
@[simp] theorem setOn_rows {a b c} : (s.setOn a b c).rows = s.rows :=
  (setOn_keeps (F := (· ≠ .rows)) .refl nofun).same .rows (· rfl)
@[simp] theorem setOn_surveys {a b c} : (s.setOn a b c).surveys = s.surveys :=
  (setOn_keeps (F := (· ≠ .surveys)) .refl nofun).same .surveys (· rfl)
@[simp] theorem setOn_clk {a b c} : (s.setOn a b c).clk = s.clk :=
  (setOn_keeps (F := (· ≠ .clk)) .refl nofun).same .clk (· rfl)
@[simp] theorem setOn_parser {a b c} : (s.setOn a b c).parser = s.parser :=
  (setOn_keeps (F := (· ≠ .parser)) .refl nofun).same .parser (· rfl)
@[simp] theorem setOn_ver {a b c} : (s.setOn a b c).ver = s.ver :=
  (setOn_keeps (F := (· ≠ .ver)) .refl nofun).same .ver (· rfl)
@[simp] theorem setOn_beams {a b c} : (s.setOn a b c).beams = s.beams :=
  (setOn_keeps (F := (· ≠ .beams)) .refl nofun).same .beams (· rfl)
@[simp] theorem setOn_gy {a b c} : (s.setOn a b c).gy = s.gy :=
  (setOn_keeps (F := (· ≠ .gy)) .refl nofun).same .gy (· rfl)
@[simp] theorem setOn_recs {a b c} : (s.setOn a b c).recs = s.recs :=
  (setOn_keeps (F := (· ≠ .recs)) .refl nofun).same .recs (· rfl)
@[simp] theorem setOn_blocks {a b c} : (s.setOn a b c).blocks = s.blocks :=
  (setOn_keeps (F := (· ≠ .blocks)) .refl nofun).same .blocks (· rfl)
@[simp] theorem setOn_hm {a b c} : (s.setOn a b c).hm = s.hm :=
  (setOn_keeps (F := (· ≠ .hm)) .refl nofun).same .hm (· rfl)
@[simp] theorem setOn_cal {a b c} : (s.setOn a b c).cal = s.cal :=
  (setOn_keeps (F := (· ≠ .cal)) .refl nofun).same .cal (· rfl)
@[simp] theorem setOn_shown {a b c} : (s.setOn a b c).shown = s.shown :=
  (setOn_keeps (F := (· ≠ .shown)) .refl nofun).same .shown (· rfl)
@[simp] theorem setOn_sram {a b c} : (s.setOn a b c).sram = s.sram :=
  (setOn_keeps (F := (· ≠ .sram)) .refl nofun).same .sram (· rfl)
@[simp] theorem setOn_cache {a b c} : (s.setOn a b c).cache = s.cache :=
  (setOn_keeps (F := (· ≠ .cache)) .refl nofun).same .cache (· rfl)
@[simp] theorem setOn_pins {a b c} : (s.setOn a b c).pins = s.pins :=
  (setOn_keeps (F := (· ≠ .pins)) .refl nofun).same .pins (· rfl)
@[simp] theorem setOn_motion {a b c} : (s.setOn a b c).motion = s.motion :=
  (setOn_keeps (F := (· ≠ .motion)) .refl nofun).same .motion (· rfl)
@[simp] theorem setOn_hp {a b c} : (s.setOn a b c).hp = s.hp :=
  (setOn_keeps (F := (· ≠ .hp)) .refl nofun).same .hp (· rfl)
@[simp] theorem setOn_doms {a b c} : (s.setOn a b c).doms = s.doms :=
  (setOn_keeps (F := (· ≠ .doms)) .refl nofun).same .doms (· rfl)
@[simp] theorem setOn_due {a b c} : (s.setOn a b c).due = s.due :=
  (setOn_keeps (F := (· ≠ .due)) .refl nofun).same .due (· rfl)
@[simp] theorem setOn_fab {a b c} : (s.setOn a b c).fab = s.fab :=
  (setOn_keeps (F := (· ≠ .fab)) .refl nofun).same .fab (· rfl)
@[simp] theorem setOn_ln {a b c} : (s.setOn a b c).ln = s.ln :=
  (setOn_keeps (F := (· ≠ .ln)) .refl nofun).same .ln (· rfl)
@[simp] theorem setOn_dram {a b c} : (s.setOn a b c).dram = s.dram :=
  (setOn_keeps (F := (· ≠ .dram)) .refl nofun).same .dram (· rfl)
@[simp] theorem setOn_ing {a b c} : (s.setOn a b c).ing = s.ing :=
  (setOn_keeps (F := (· ≠ .ing)) .refl nofun).same .ing (· rfl)
@[simp] theorem setOn_boot {a b c} : (s.setOn a b c).boot = s.boot :=
  (setOn_keeps (F := (· ≠ .boot)) .refl nofun).same .boot (· rfl)
@[simp] theorem setOn_pw {a b c} : (s.setOn a b c).pw = s.pw :=
  (setOn_keeps (F := (· ≠ .pw)) .refl nofun).same .pw (· rfl)

@[simp] theorem onPath_pending {a b} : (s.onPath a b).pending = s.pending := rfl
@[simp] theorem onPath_regs {a b} : (s.onPath a b).regs = s.regs := rfl
@[simp] theorem onPath_tables {a b} : (s.onPath a b).tables = s.tables := rfl
@[simp] theorem onPath_mem {a b} : (s.onPath a b).mem = s.mem := rfl
@[simp] theorem onPath_freeCount {a b} : (s.onPath a b).freeCount = s.freeCount := rfl
@[simp] theorem onPath_locked {a b} : (s.onPath a b).locked = s.locked := rfl
@[simp] theorem onPath_log {a b} : (s.onPath a b).log = s.log := rfl
@[simp] theorem onPath_cores {a b} : (s.onPath a b).cores = s.cores := rfl
@[simp] theorem onPath_mgt {a b} : (s.onPath a b).mgt = s.mgt := rfl
@[simp] theorem onPath_layers {a b} : (s.onPath a b).layers = s.layers := rfl
@[simp] theorem onPath_lpBytes {a b} : (s.onPath a b).lpBytes = s.lpBytes := rfl
@[simp] theorem onPath_units {a b} : (s.onPath a b).units = s.units := rfl
@[simp] theorem onPath_rows {a b} : (s.onPath a b).rows = s.rows := rfl
@[simp] theorem onPath_surveys {a b} : (s.onPath a b).surveys = s.surveys := rfl
@[simp] theorem onPath_clk {a b} : (s.onPath a b).clk = s.clk := rfl
@[simp] theorem onPath_parser {a b} : (s.onPath a b).parser = s.parser := rfl
@[simp] theorem onPath_ver {a b} : (s.onPath a b).ver = s.ver := rfl
@[simp] theorem onPath_beams {a b} : (s.onPath a b).beams = s.beams := rfl
@[simp] theorem onPath_gy {a b} : (s.onPath a b).gy = s.gy := rfl
@[simp] theorem onPath_recs {a b} : (s.onPath a b).recs = s.recs := rfl
@[simp] theorem onPath_blocks {a b} : (s.onPath a b).blocks = s.blocks := rfl
@[simp] theorem onPath_hm {a b} : (s.onPath a b).hm = s.hm := rfl
@[simp] theorem onPath_cal {a b} : (s.onPath a b).cal = s.cal := rfl
@[simp] theorem onPath_shown {a b} : (s.onPath a b).shown = s.shown := rfl
@[simp] theorem onPath_sram {a b} : (s.onPath a b).sram = s.sram := rfl
@[simp] theorem onPath_cache {a b} : (s.onPath a b).cache = s.cache := rfl
@[simp] theorem onPath_pins {a b} : (s.onPath a b).pins = s.pins := rfl
@[simp] theorem onPath_motion {a b} : (s.onPath a b).motion = s.motion := rfl
@[simp] theorem onPath_sent {a b} : (s.onPath a b).sent = s.sent := rfl
@[simp] theorem onPath_hp {a b} : (s.onPath a b).hp = s.hp := rfl
@[simp] theorem onPath_doms {a b} : (s.onPath a b).doms = s.doms := rfl
@[simp] theorem onPath_due {a b} : (s.onPath a b).due = s.due := rfl
@[simp] theorem onPath_fab {a b} : (s.onPath a b).fab = s.fab := rfl
@[simp] theorem onPath_ln {a b} : (s.onPath a b).ln = s.ln := rfl
@[simp] theorem onPath_dram {a b} : (s.onPath a b).dram = s.dram := rfl
@[simp] theorem onPath_ing {a b} : (s.onPath a b).ing = s.ing := rfl
@[simp] theorem onPath_boot {a b} : (s.onPath a b).boot = s.boot := rfl
@[simp] theorem onPath_pw {a b} : (s.onPath a b).pw = s.pw := rfl

@[simp] theorem onHead_pending {a b c} : (s.onHead a b c).pending = s.pending :=
  (onHead_keeps (F := (· ≠ .pending)) .refl nofun).same .pending (· rfl)
@[simp] theorem onHead_regs {a b c} : (s.onHead a b c).regs = s.regs :=
  (onHead_keeps (F := (· ≠ .regs)) .refl nofun).same .regs (· rfl)
@[simp] theorem onHead_tables {a b c} : (s.onHead a b c).tables = s.tables :=
  (onHead_keeps (F := (· ≠ .tables)) .refl nofun).same .tables (· rfl)
@[simp] theorem onHead_mem {a b c} : (s.onHead a b c).mem = s.mem :=
  (onHead_keeps (F := (· ≠ .mem)) .refl nofun).same .mem (· rfl)
@[simp] theorem onHead_freeCount {a b c} : (s.onHead a b c).freeCount = s.freeCount :=
  (onHead_keeps (F := (· ≠ .freeCount)) .refl nofun).same .freeCount (· rfl)
@[simp] theorem onHead_locked {a b c} : (s.onHead a b c).locked = s.locked :=
  (onHead_keeps (F := (· ≠ .locked)) .refl nofun).same .locked (· rfl)
@[simp] theorem onHead_paths {a b c} : (s.onHead a b c).paths = s.paths :=
  (onHead_keeps (F := (· ≠ .paths)) .refl nofun).same .paths (· rfl)
@[simp] theorem onHead_log {a b c} : (s.onHead a b c).log = s.log :=
  (onHead_keeps (F := (· ≠ .log)) .refl nofun).same .log (· rfl)
@[simp] theorem onHead_cores {a b c} : (s.onHead a b c).cores = s.cores :=
  (onHead_keeps (F := (· ≠ .cores)) .refl nofun).same .cores (· rfl)
@[simp] theorem onHead_mgt {a b c} : (s.onHead a b c).mgt = s.mgt :=
  (onHead_keeps (F := (· ≠ .mgt)) .refl nofun).same .mgt (· rfl)
@[simp] theorem onHead_layers {a b c} : (s.onHead a b c).layers = s.layers :=
  (onHead_keeps (F := (· ≠ .layers)) .refl nofun).same .layers (· rfl)
@[simp] theorem onHead_lpBytes {a b c} : (s.onHead a b c).lpBytes = s.lpBytes :=
  (onHead_keeps (F := (· ≠ .lpBytes)) .refl nofun).same .lpBytes (· rfl)
@[simp] theorem onHead_units {a b c} : (s.onHead a b c).units = s.units :=
  (onHead_keeps (F := (· ≠ .units)) .refl nofun).same .units (· rfl)
@[simp] theorem onHead_rows {a b c} : (s.onHead a b c).rows = s.rows :=
  (onHead_keeps (F := (· ≠ .rows)) .refl nofun).same .rows (· rfl)
@[simp] theorem onHead_surveys {a b c} : (s.onHead a b c).surveys = s.surveys :=
  (onHead_keeps (F := (· ≠ .surveys)) .refl nofun).same .surveys (· rfl)
@[simp] theorem onHead_clk {a b c} : (s.onHead a b c).clk = s.clk :=
  (onHead_keeps (F := (· ≠ .clk)) .refl nofun).same .clk (· rfl)
@[simp] theorem onHead_parser {a b c} : (s.onHead a b c).parser = s.parser :=
  (onHead_keeps (F := (· ≠ .parser)) .refl nofun).same .parser (· rfl)
@[simp] theorem onHead_ver {a b c} : (s.onHead a b c).ver = s.ver :=
  (onHead_keeps (F := (· ≠ .ver)) .refl nofun).same .ver (· rfl)
@[simp] theorem onHead_beams {a b c} : (s.onHead a b c).beams = s.beams :=
  (onHead_keeps (F := (· ≠ .beams)) .refl nofun).same .beams (· rfl)
@[simp] theorem onHead_gy {a b c} : (s.onHead a b c).gy = s.gy :=
  (onHead_keeps (F := (· ≠ .gy)) .refl nofun).same .gy (· rfl)
@[simp] theorem onHead_recs {a b c} : (s.onHead a b c).recs = s.recs :=
  (onHead_keeps (F := (· ≠ .recs)) .refl nofun).same .recs (· rfl)
@[simp] theorem onHead_blocks {a b c} : (s.onHead a b c).blocks = s.blocks :=
  (onHead_keeps (F := (· ≠ .blocks)) .refl nofun).same .blocks (· rfl)
@[simp] theorem onHead_hm {a b c} : (s.onHead a b c).hm = s.hm :=
  (onHead_keeps (F := (· ≠ .hm)) .refl nofun).same .hm (· rfl)
@[simp] theorem onHead_cal {a b c} : (s.onHead a b c).cal = s.cal :=
  (onHead_keeps (F := (· ≠ .cal)) .refl nofun).same .cal (· rfl)
@[simp] theorem onHead_shown {a b c} : (s.onHead a b c).shown = s.shown :=
  (onHead_keeps (F := (· ≠ .shown)) .refl nofun).same .shown (· rfl)
@[simp] theorem onHead_sram {a b c} : (s.onHead a b c).sram = s.sram :=
  (onHead_keeps (F := (· ≠ .sram)) .refl nofun).same .sram (· rfl)
@[simp] theorem onHead_cache {a b c} : (s.onHead a b c).cache = s.cache :=
  (onHead_keeps (F := (· ≠ .cache)) .refl nofun).same .cache (· rfl)
@[simp] theorem onHead_pins {a b c} : (s.onHead a b c).pins = s.pins :=
  (onHead_keeps (F := (· ≠ .pins)) .refl nofun).same .pins (· rfl)
@[simp] theorem onHead_motion {a b c} : (s.onHead a b c).motion = s.motion :=
  (onHead_keeps (F := (· ≠ .motion)) .refl nofun).same .motion (· rfl)
@[simp] theorem onHead_sent {a b c} : (s.onHead a b c).sent = s.sent :=
  (onHead_keeps (F := (· ≠ .sent)) .refl nofun).same .sent (· rfl)
@[simp] theorem onHead_doms {a b c} : (s.onHead a b c).doms = s.doms :=
  (onHead_keeps (F := (· ≠ .doms)) .refl nofun).same .doms (· rfl)
@[simp] theorem onHead_due {a b c} : (s.onHead a b c).due = s.due :=
  (onHead_keeps (F := (· ≠ .due)) .refl nofun).same .due (· rfl)
@[simp] theorem onHead_fab {a b c} : (s.onHead a b c).fab = s.fab :=
  (onHead_keeps (F := (· ≠ .fab)) .refl nofun).same .fab (· rfl)
@[simp] theorem onHead_ln {a b c} : (s.onHead a b c).ln = s.ln :=
  (onHead_keeps (F := (· ≠ .ln)) .refl nofun).same .ln (· rfl)
@[simp] theorem onHead_dram {a b c} : (s.onHead a b c).dram = s.dram :=
  (onHead_keeps (F := (· ≠ .dram)) .refl nofun).same .dram (· rfl)
@[simp] theorem onHead_ing {a b c} : (s.onHead a b c).ing = s.ing :=
  (onHead_keeps (F := (· ≠ .ing)) .refl nofun).same .ing (· rfl)
@[simp] theorem onHead_boot {a b c} : (s.onHead a b c).boot = s.boot :=
  (onHead_keeps (F := (· ≠ .boot)) .refl nofun).same .boot (· rfl)
@[simp] theorem onHead_pw {a b c} : (s.onHead a b c).pw = s.pw :=
  (onHead_keeps (F := (· ≠ .pw)) .refl nofun).same .pw (· rfl)

@[simp] theorem onSwath_pending {a b c} : (s.onSwath a b c).pending = s.pending := rfl
@[simp] theorem onSwath_regs {a b c} : (s.onSwath a b c).regs = s.regs := rfl
@[simp] theorem onSwath_tables {a b c} : (s.onSwath a b c).tables = s.tables := rfl
@[simp] theorem onSwath_mem {a b c} : (s.onSwath a b c).mem = s.mem := rfl
@[simp] theorem onSwath_freeCount {a b c} : (s.onSwath a b c).freeCount = s.freeCount := rfl
@[simp] theorem onSwath_locked {a b c} : (s.onSwath a b c).locked = s.locked := rfl
@[simp] theorem onSwath_paths {a b c} : (s.onSwath a b c).paths = s.paths := rfl
@[simp] theorem onSwath_log {a b c} : (s.onSwath a b c).log = s.log := rfl
@[simp] theorem onSwath_cores {a b c} : (s.onSwath a b c).cores = s.cores := rfl
@[simp] theorem onSwath_mgt {a b c} : (s.onSwath a b c).mgt = s.mgt := rfl
@[simp] theorem onSwath_layers {a b c} : (s.onSwath a b c).layers = s.layers := rfl
@[simp] theorem onSwath_lpBytes {a b c} : (s.onSwath a b c).lpBytes = s.lpBytes := rfl
@[simp] theorem onSwath_units {a b c} : (s.onSwath a b c).units = s.units := rfl
@[simp] theorem onSwath_rows {a b c} : (s.onSwath a b c).rows = s.rows := rfl
@[simp] theorem onSwath_surveys {a b c} : (s.onSwath a b c).surveys = s.surveys := rfl
@[simp] theorem onSwath_clk {a b c} : (s.onSwath a b c).clk = s.clk := rfl
@[simp] theorem onSwath_parser {a b c} : (s.onSwath a b c).parser = s.parser := rfl
@[simp] theorem onSwath_ver {a b c} : (s.onSwath a b c).ver = s.ver := rfl
@[simp] theorem onSwath_beams {a b c} : (s.onSwath a b c).beams = s.beams := rfl
@[simp] theorem onSwath_recs {a b c} : (s.onSwath a b c).recs = s.recs := rfl
@[simp] theorem onSwath_blocks {a b c} : (s.onSwath a b c).blocks = s.blocks := rfl
@[simp] theorem onSwath_hm {a b c} : (s.onSwath a b c).hm = s.hm := rfl
@[simp] theorem onSwath_cal {a b c} : (s.onSwath a b c).cal = s.cal := rfl
@[simp] theorem onSwath_shown {a b c} : (s.onSwath a b c).shown = s.shown := rfl
@[simp] theorem onSwath_sram {a b c} : (s.onSwath a b c).sram = s.sram := rfl
@[simp] theorem onSwath_cache {a b c} : (s.onSwath a b c).cache = s.cache := rfl
@[simp] theorem onSwath_pins {a b c} : (s.onSwath a b c).pins = s.pins := rfl
@[simp] theorem onSwath_motion {a b c} : (s.onSwath a b c).motion = s.motion := rfl
@[simp] theorem onSwath_sent {a b c} : (s.onSwath a b c).sent = s.sent := rfl
@[simp] theorem onSwath_hp {a b c} : (s.onSwath a b c).hp = s.hp := rfl
@[simp] theorem onSwath_doms {a b c} : (s.onSwath a b c).doms = s.doms := rfl
@[simp] theorem onSwath_due {a b c} : (s.onSwath a b c).due = s.due := rfl
@[simp] theorem onSwath_fab {a b c} : (s.onSwath a b c).fab = s.fab := rfl
@[simp] theorem onSwath_ln {a b c} : (s.onSwath a b c).ln = s.ln := rfl
@[simp] theorem onSwath_dram {a b c} : (s.onSwath a b c).dram = s.dram := rfl
@[simp] theorem onSwath_ing {a b c} : (s.onSwath a b c).ing = s.ing := rfl
@[simp] theorem onSwath_boot {a b c} : (s.onSwath a b c).boot = s.boot := rfl
@[simp] theorem onSwath_pw {a b c} : (s.onSwath a b c).pw = s.pw := rfl

@[simp] theorem onCtx_pending {a b} : (s.onCtx a b).pending = s.pending := rfl
@[simp] theorem onCtx_regs {a b} : (s.onCtx a b).regs = s.regs := rfl
@[simp] theorem onCtx_tables {a b} : (s.onCtx a b).tables = s.tables := rfl
@[simp] theorem onCtx_mem {a b} : (s.onCtx a b).mem = s.mem := rfl
@[simp] theorem onCtx_freeCount {a b} : (s.onCtx a b).freeCount = s.freeCount := rfl
@[simp] theorem onCtx_locked {a b} : (s.onCtx a b).locked = s.locked := rfl
@[simp] theorem onCtx_paths {a b} : (s.onCtx a b).paths = s.paths := rfl
@[simp] theorem onCtx_log {a b} : (s.onCtx a b).log = s.log := rfl
@[simp] theorem onCtx_cores {a b} : (s.onCtx a b).cores = s.cores := rfl
@[simp] theorem onCtx_mgt {a b} : (s.onCtx a b).mgt = s.mgt := rfl
@[simp] theorem onCtx_layers {a b} : (s.onCtx a b).layers = s.layers := rfl
@[simp] theorem onCtx_lpBytes {a b} : (s.onCtx a b).lpBytes = s.lpBytes := rfl
@[simp] theorem onCtx_units {a b} : (s.onCtx a b).units = s.units := rfl
@[simp] theorem onCtx_rows {a b} : (s.onCtx a b).rows = s.rows := rfl
@[simp] theorem onCtx_surveys {a b} : (s.onCtx a b).surveys = s.surveys := rfl
@[simp] theorem onCtx_clk {a b} : (s.onCtx a b).clk = s.clk := rfl
@[simp] theorem onCtx_parser {a b} : (s.onCtx a b).parser = s.parser := rfl
@[simp] theorem onCtx_beams {a b} : (s.onCtx a b).beams = s.beams := rfl
@[simp] theorem onCtx_gy {a b} : (s.onCtx a b).gy = s.gy := rfl
@[simp] theorem onCtx_recs {a b} : (s.onCtx a b).recs = s.recs := rfl
@[simp] theorem onCtx_blocks {a b} : (s.onCtx a b).blocks = s.blocks := rfl
@[simp] theorem onCtx_hm {a b} : (s.onCtx a b).hm = s.hm := rfl
@[simp] theorem onCtx_cal {a b} : (s.onCtx a b).cal = s.cal := rfl
@[simp] theorem onCtx_shown {a b} : (s.onCtx a b).shown = s.shown := rfl
@[simp] theorem onCtx_sram {a b} : (s.onCtx a b).sram = s.sram := rfl
@[simp] theorem onCtx_cache {a b} : (s.onCtx a b).cache = s.cache := rfl
@[simp] theorem onCtx_pins {a b} : (s.onCtx a b).pins = s.pins := rfl
@[simp] theorem onCtx_motion {a b} : (s.onCtx a b).motion = s.motion := rfl
@[simp] theorem onCtx_sent {a b} : (s.onCtx a b).sent = s.sent := rfl
@[simp] theorem onCtx_hp {a b} : (s.onCtx a b).hp = s.hp := rfl
@[simp] theorem onCtx_doms {a b} : (s.onCtx a b).doms = s.doms := rfl
@[simp] theorem onCtx_due {a b} : (s.onCtx a b).due = s.due := rfl
@[simp] theorem onCtx_fab {a b} : (s.onCtx a b).fab = s.fab := rfl
@[simp] theorem onCtx_ln {a b} : (s.onCtx a b).ln = s.ln := rfl
@[simp] theorem onCtx_dram {a b} : (s.onCtx a b).dram = s.dram := rfl
@[simp] theorem onCtx_ing {a b} : (s.onCtx a b).ing = s.ing := rfl
@[simp] theorem onCtx_boot {a b} : (s.onCtx a b).boot = s.boot := rfl
@[simp] theorem onCtx_pw {a b} : (s.onCtx a b).pw = s.pw := rfl

@[simp] theorem onLayer_pending {a b} : (s.onLayer a b).pending = s.pending := rfl
@[simp] theorem onLayer_regs {a b} : (s.onLayer a b).regs = s.regs := rfl
@[simp] theorem onLayer_tables {a b} : (s.onLayer a b).tables = s.tables := rfl
@[simp] theorem onLayer_mem {a b} : (s.onLayer a b).mem = s.mem := rfl
@[simp] theorem onLayer_freeCount {a b} : (s.onLayer a b).freeCount = s.freeCount := rfl
@[simp] theorem onLayer_locked {a b} : (s.onLayer a b).locked = s.locked := rfl
@[simp] theorem onLayer_paths {a b} : (s.onLayer a b).paths = s.paths := rfl
@[simp] theorem onLayer_log {a b} : (s.onLayer a b).log = s.log := rfl
@[simp] theorem onLayer_cores {a b} : (s.onLayer a b).cores = s.cores := rfl
@[simp] theorem onLayer_mgt {a b} : (s.onLayer a b).mgt = s.mgt := rfl
@[simp] theorem onLayer_lpBytes {a b} : (s.onLayer a b).lpBytes = s.lpBytes := rfl
@[simp] theorem onLayer_units {a b} : (s.onLayer a b).units = s.units := rfl
@[simp] theorem onLayer_rows {a b} : (s.onLayer a b).rows = s.rows := rfl
@[simp] theorem onLayer_surveys {a b} : (s.onLayer a b).surveys = s.surveys := rfl
@[simp] theorem onLayer_clk {a b} : (s.onLayer a b).clk = s.clk := rfl
@[simp] theorem onLayer_parser {a b} : (s.onLayer a b).parser = s.parser := rfl
@[simp] theorem onLayer_ver {a b} : (s.onLayer a b).ver = s.ver := rfl
@[simp] theorem onLayer_beams {a b} : (s.onLayer a b).beams = s.beams := rfl
@[simp] theorem onLayer_gy {a b} : (s.onLayer a b).gy = s.gy := rfl
@[simp] theorem onLayer_recs {a b} : (s.onLayer a b).recs = s.recs := rfl
@[simp] theorem onLayer_blocks {a b} : (s.onLayer a b).blocks = s.blocks := rfl
@[simp] theorem onLayer_hm {a b} : (s.onLayer a b).hm = s.hm := rfl
@[simp] theorem onLayer_cal {a b} : (s.onLayer a b).cal = s.cal := rfl
@[simp] theorem onLayer_shown {a b} : (s.onLayer a b).shown = s.shown := rfl
@[simp] theorem onLayer_sram {a b} : (s.onLayer a b).sram = s.sram := rfl
@[simp] theorem onLayer_cache {a b} : (s.onLayer a b).cache = s.cache := rfl
@[simp] theorem onLayer_pins {a b} : (s.onLayer a b).pins = s.pins := rfl
@[simp] theorem onLayer_motion {a b} : (s.onLayer a b).motion = s.motion := rfl
@[simp] theorem onLayer_sent {a b} : (s.onLayer a b).sent = s.sent := rfl
@[simp] theorem onLayer_hp {a b} : (s.onLayer a b).hp = s.hp := rfl
@[simp] theorem onLayer_doms {a b} : (s.onLayer a b).doms = s.doms := rfl
@[simp] theorem onLayer_due {a b} : (s.onLayer a b).due = s.due := rfl
@[simp] theorem onLayer_fab {a b} : (s.onLayer a b).fab = s.fab := rfl
@[simp] theorem onLayer_ln {a b} : (s.onLayer a b).ln = s.ln := rfl
@[simp] theorem onLayer_dram {a b} : (s.onLayer a b).dram = s.dram := rfl
@[simp] theorem onLayer_ing {a b} : (s.onLayer a b).ing = s.ing := rfl
@[simp] theorem onLayer_boot {a b} : (s.onLayer a b).boot = s.boot := rfl
@[simp] theorem onLayer_pw {a b} : (s.onLayer a b).pw = s.pw := rfl

end Sys2Proof.Laws
end

