-- ==== Sys2Proof/Laws/Regs.lean ====
section
/-! SUPPORT. Reading a register, a field, a table word or a byte of DRAM after a write: the place written reads as
written, every other as before, in every state that meets the invariant. -/

set_option linter.unusedTactic false
set_option linter.unreachableTactic false
set_option Elab.async false

namespace Sys2Proof.Laws

open Sys2Proof Sys2Proof.Machine Sys2Proof.Safety

variable {s : State}

/-! ### Fields -/

/-- A word taken apart at a field, and the word with the field put. -/
theorem Field.put_split {f : Field} {v : Nat} {w : Word} (hf : f.lo + f.width ≤ 32) :
    ∃ n r, r < 2 ^ f.lo ∧ w.toNat = 2 ^ f.lo * (2 ^ f.width * n + f.get w) + r ∧
      (f.put v w).toNat = 2 ^ f.lo * (2 ^ f.width * n + v % 2 ^ f.width) + r := by
  obtain ⟨lo, width⟩ := f
  simp only [Field.get, Field.put, BitVec.toNat_ofNat, Nat.shiftRight_eq_div_pow, Nat.shiftLeft_eq] at *
  have hA : 0 < 2 ^ lo := by positivity
  have hW : 0 < 2 ^ width := by positivity
  have hw := w.isLt
  generalize hx : w.toNat = x at hw
  have hq : v % 2 ^ width < 2 ^ width := Nat.mod_lt _ hW
  generalize v % 2 ^ width = q at hq
  have e1 := Nat.div_add_mod x (2 ^ lo)
  have e2 := Nat.div_add_mod (x / 2 ^ lo) (2 ^ width)
  have hr := Nat.mod_lt x hA
  generalize x % 2 ^ lo = r at *
  generalize hm : x / 2 ^ lo % 2 ^ width = m at *
  generalize x / 2 ^ lo / 2 ^ width = n at *
  have hx' : x = 2 ^ lo * (2 ^ width * n + m) + r := by rw [e2, e1]
  have hy : x - m * 2 ^ lo + q * 2 ^ lo = 2 ^ lo * (2 ^ width * n + q) + r := by
    have : x - m * 2 ^ lo = 2 ^ lo * (2 ^ width * n) + r := by
      rw [hx']; rw [Nat.mul_add]; rw [Nat.mul_comm m]; omega
    rw [this, Nat.mul_add, Nat.mul_comm q]; omega
  have hlt : 2 ^ lo * (2 ^ width * n + q) + r < 2 ^ 32 := by
    have hn : n < 2 ^ (32 - lo - width) := by
      by_contra hc
      have : 2 ^ (32 - lo - width) ≤ n := by omega
      have h3 : 2 ^ lo * (2 ^ width * 2 ^ (32 - lo - width)) ≤ 2 ^ lo * (2 ^ width * n) := by gcongr
      rw [← pow_add, ← pow_add, show lo + (width + (32 - lo - width)) = 32 by omega] at h3
      nlinarith [Nat.zero_le (2 ^ lo * m), Nat.mul_add (2 ^ lo) (2 ^ width * n) m]
    have h4 : 2 ^ width * n + q + 1 ≤ 2 ^ width * 2 ^ (32 - lo - width) := by
      have : 2 ^ width * (n + 1) ≤ 2 ^ width * 2 ^ (32 - lo - width) := by gcongr; omega
      rw [Nat.mul_add] at this; omega
    have h5 : 2 ^ lo * (2 ^ width * n + q + 1) ≤ 2 ^ lo * (2 ^ width * 2 ^ (32 - lo - width)) := by gcongr
    rw [← pow_add, ← pow_add, show lo + (width + (32 - lo - width)) = 32 by omega, Nat.mul_add (2 ^ lo)] at h5
    omega
  exact ⟨n, r, hr, hx', by rw [hy, Nat.mod_eq_of_lt hlt]⟩

/-- A field put reads back modulo its width. -/
theorem Field.get_put {f : Field} {v : Nat} {w : Word} (hf : f.lo + f.width ≤ 32) :
    f.get (f.put v w) = v % 2 ^ f.width := by
  obtain ⟨n, r, hr, -, hy⟩ := Field.put_split (v := v) (w := w) hf
  rw [Field.get, Nat.shiftRight_eq_div_pow, hy, Nat.mul_add_div (by positivity), Nat.div_eq_of_lt hr, Nat.add_zero,
    Nat.mul_add_mod, Nat.mod_mod]

/-- A field apart from the one put reads as before. -/
theorem Field.get_put_other {f g : Field} {v : Nat} {w : Word} (hf : f.lo + f.width ≤ 32)
    (h : g.lo + g.width ≤ f.lo ∨ f.lo + f.width ≤ g.lo) : g.get (f.put v w) = g.get w := by
  obtain ⟨n, r, hr, hx, hy⟩ := Field.put_split (v := v) (w := w) hf
  have hm : f.get w < 2 ^ f.width := Nat.mod_lt _ (by positivity)
  have hq : v % 2 ^ f.width < 2 ^ f.width := Nat.mod_lt _ (by positivity)
  generalize f.get w = m at *
  generalize v % 2 ^ f.width = q at *
  simp only [Field.get, Nat.shiftRight_eq_div_pow, hx, hy]
  rcases h with h | h
  · obtain ⟨k, hk⟩ := Nat.exists_eq_add_of_le h
    rw [hk, pow_add, pow_add]
    have hG : 0 < 2 ^ g.lo := by positivity
    have e : ∀ z, (2 ^ g.lo * 2 ^ g.width * 2 ^ k * z + r) / 2 ^ g.lo % 2 ^ g.width = r / 2 ^ g.lo % 2 ^ g.width := by
      intro z
      rw [Nat.mul_assoc, Nat.mul_assoc, Nat.mul_add_div hG, Nat.mul_add_mod]
    rw [e, e]
  · obtain ⟨k, hk⟩ := Nat.exists_eq_add_of_le h
    rw [hk, pow_add, ← Nat.div_div_eq_div_mul, ← Nat.div_div_eq_div_mul, pow_add, ← Nat.div_div_eq_div_mul,
      ← Nat.div_div_eq_div_mul]
    have hA : 0 < 2 ^ f.lo := by positivity
    have hW : 0 < 2 ^ f.width := by positivity
    rw [Nat.mul_add_div hA, Nat.mul_add_div hA, Nat.div_eq_of_lt hr, Nat.add_zero, Nat.add_zero, Nat.mul_add_div hW,
      Nat.mul_add_div hW, Nat.div_eq_of_lt hm, Nat.div_eq_of_lt hq]

/-! ### Registers -/

/-- The register written reads as written. -/
@[simp] theorem reg_setReg_same {a : Nat} {w : Word} (_ : Inv s) : (s.setReg a w).reg a = w :=
  getD_put_same

/-- Every other register reads as before. -/
@[simp] theorem reg_setReg_other {a b : Nat} {w : Word} (_ : Inv s) (hb : b ≠ a) : (s.setReg a w).reg b = s.reg b :=
  getD_put_other hb

@[simp] theorem reg_setFld_same {a v : Nat} {f : Field} (h : Inv s) : (s.setFld a f v).reg a = f.put v (s.reg a) :=
  reg_setReg_same h

@[simp] theorem reg_setFld_other {a b v : Nat} {f : Field} (h : Inv s) (hb : b ≠ a) :
    (s.setFld a f v).reg b = s.reg b :=
  reg_setReg_other h hb

@[simp] theorem regN_setRegN_same {a v : Nat} (h : Inv s) : (s.setRegN a v).regN a = v % 2 ^ 32 := by
  simp only [State.regN, State.setRegN, reg_setReg_same h, BitVec.toNat_ofNat]

@[simp] theorem reg_setRegN_other {a b v : Nat} (h : Inv s) (hb : b ≠ a) : (s.setRegN a v).reg b = s.reg b :=
  reg_setReg_other h hb

/-- A field written reads as written, modulo its width. -/
@[simp] theorem fld_setFld_same {a v : Nat} {f : Field} (h : Inv s) (hf : f.lo + f.width ≤ 32) :
    (s.setFld a f v).fld a f = v % 2 ^ f.width := by
  simp only [State.fld, reg_setFld_same h, Field.get_put hf]

/-- Every other field of the register reads as before. -/
theorem fld_setFld_field {a v : Nat} {f g : Field} (h : Inv s) (hf : f.lo + f.width ≤ 32)
    (hg : g.lo + g.width ≤ f.lo ∨ f.lo + f.width ≤ g.lo) : (s.setFld a f v).fld a g = s.fld a g := by
  simp only [State.fld, reg_setFld_same h, Field.get_put_other hf hg]

/-- Every field of another register reads as before. -/
@[simp] theorem fld_setFld_other {a b v : Nat} {f g : Field} (h : Inv s) (hb : b ≠ a) :
    (s.setFld a f v).fld b g = s.fld b g := by
  simp only [State.fld, reg_setFld_other h hb]

/-- What an operation of the machine keeps, for the invariant alone. -/
theorem inv_of_keeps {t : State} (h : Inv s) (k : Keeps (fun _ => True) s t) : Inv t := k.inv h

@[simp] theorem inv_setReg {a : Nat} {w : Word} (h : Inv s) : Inv (s.setReg a w) :=
  inv_of_keeps h (setReg_keeps .refl trivial)

@[simp] theorem inv_setRegN {a v : Nat} (h : Inv s) : Inv (s.setRegN a v) := inv_setReg h

@[simp] theorem inv_setFld {a v : Nat} {f : Field} (h : Inv s) : Inv (s.setFld a f v) := inv_setReg h

@[simp] theorem inv_event {a : Nat} {f : Field} (h : Inv s) : Inv (s.event a f) := inv_setReg h

@[simp] theorem inv_count {a n : Nat} (h : Inv s) : Inv (s.count a n) := inv_setReg h

/-- An EVENT flag sets its own bit alone. -/
theorem reg_event_other {a b : Nat} {f : Field} (h : Inv s) (hb : b ≠ a) : (s.event a f).reg b = s.reg b :=
  reg_setFld_other h hb

/-! ### The error log writes only its own block -/

/-- Register `a` is outside the error block (R662). -/
abbrev OutsideErr (a : Nat) : Prop := a < 0x170000 ∨ 0x180000 ≤ a

/-- `t` has the invariant and every register outside the error block as `s` has it. -/
structure ErrOnly (s t : State) : Prop where
  inv : Inv s → Inv t
  reg : Inv s → ∀ a, OutsideErr a → t.reg a = s.reg a

theorem ErrOnly.refl : ErrOnly s s := ⟨id, fun _ _ _ => rfl⟩

theorem ErrOnly.trans {t u : State} (h : ErrOnly s t) (g : ErrOnly t u) : ErrOnly s u :=
  ⟨fun i => g.inv (h.inv i), fun i a ha => (g.reg (h.inv i) a ha).trans (h.reg i a ha)⟩

theorem ErrOnly.setReg {t : State} {a : Nat} {w : Word} (h : ErrOnly s t) (ha : 0x170000 ≤ a ∧ a < 0x180000) :
    ErrOnly s (t.setReg a w) :=
  h.trans ⟨inv_setReg, fun i b hb => reg_setReg_other i (by unfold OutsideErr at hb; omega)⟩

theorem ErrOnly.log {t : State} {l : ErrLog} (h : ErrOnly s t) : ErrOnly s { t with log := l } :=
  h.trans ⟨fun i => i, fun _ _ _ => rfl⟩

theorem errOnly_foldl {α : Type} {f : State → α → State} {l : List α} {t : State} (h : ErrOnly s t)
    (g : ∀ u, ∀ x ∈ l, ErrOnly s u → ErrOnly s (f u x)) : ErrOnly s (l.foldl f t) :=
  List.foldlRecOn l f h fun u hu x hx => g u x hx hu

theorem errOnly_fatalStore {t : State} {r : ErrRec} (h : ErrOnly s t) : ErrOnly s (t.fatalStore r) :=
  errOnly_foldl h fun u i hi k => k.setReg (by have := List.mem_range.1 hi; simp only [Reg.ERR_LAST_FATAL]; omega)

theorem ErrOnly.event {t : State} {a : Nat} {f : Field} (h : ErrOnly s t) (ha : 0x170000 ≤ a ∧ a < 0x180000) :
    ErrOnly s (t.event a f) := h.setReg ha

theorem ErrOnly.setFld {t : State} {a v : Nat} {f : Field} (h : ErrOnly s t) (ha : 0x170000 ≤ a ∧ a < 0x180000) :
    ErrOnly s (t.setFld a f v) := h.setReg ha

theorem ErrOnly.setRegN {t : State} {a v : Nat} (h : ErrOnly s t) (ha : 0x170000 ≤ a ∧ a < 0x180000) :
    ErrOnly s (t.setRegN a v) := h.setReg ha

theorem ErrOnly.count {t : State} {a n : Nat} (h : ErrOnly s t) (ha : 0x170000 ≤ a ∧ a < 0x180000) :
    ErrOnly s (t.count a n) := h.setReg ha

theorem ErrOnly.ringEnter {t : State} {r : ErrRec} (h : ErrOnly s t) : ErrOnly s (t.ringEnter r) := by
  unfold State.ringEnter
  exact (h.log.setRegN (by decide)).event (by decide)

theorem ErrOnly.slotFill {t : State} {r : ErrRec} {b : Bool} (h : ErrOnly s t) : ErrOnly s (t.slotFill r b) := by
  unfold State.slotFill
  dsimp only
  split
  · exact (h.log.event (by decide)).event (by decide)
  · exact h.log.event (by decide)

theorem ErrOnly.slotCount {t : State} {o r : ErrRec} (h : ErrOnly s t) : ErrOnly s (t.slotCount o r) := by
  unfold State.slotCount
  exact (h.log.count (by decide)).event (by decide)

/-- Logging an error writes registers of the error block alone (R643 to R648, R652). -/
theorem errOnly_logErr {c : Cls} {b k u i : Nat} : ErrOnly s (s.logErr c b k u i) := by
  have hc : 0x170000 ≤ Reg.ERR_CLASS_COUNT (c.code - 1) ∧ Reg.ERR_CLASS_COUNT (c.code - 1) < 0x180000 := by
    cases c <;> decide
  unfold State.logErr
  extract_lets r s1 s2
  have h1 : ErrOnly s s1 := ErrOnly.refl.count hc
  have h2 : ErrOnly s s2 := by
    unfold s2
    clear_value s1
    split
    · exact h1.slotCount
    · split
      · exact h1.slotFill
      · split
        · exact h1.slotFill
        · exact h1.ringEnter
  clear_value s2 s1
  cases c
  case fatal => exact ((errOnly_fatalStore h2).setFld (by decide)).event (by decide)
  all_goals exact h2

theorem inv_logErr {c : Cls} {b k u i : Nat} (h : Inv s) : Inv (s.logErr c b k u i) := errOnly_logErr.inv h

@[simp] theorem reg_logErr {c : Cls} {b k u i a : Nat} (h : Inv s) (ha : OutsideErr a) :
    (s.logErr c b k u i).reg a = s.reg a :=
  errOnly_logErr.reg h a ha

theorem inv_raise {c : Cls} {ev k u : Nat} {f : Field} (h : Inv s) : Inv (s.raise c ev f k u) :=
  inv_logErr (inv_event h)

theorem inv_raiseInfo {c : Cls} {ev k u i : Nat} {f : Field} (h : Inv s) : Inv (s.raiseInfo c ev f k u i) :=
  inv_logErr (inv_event h)

/-- An error that is raised writes its EVENT register, and registers of the error block. -/
@[simp] theorem reg_raise {c : Cls} {ev k u a : Nat} {f : Field} (h : Inv s) (ha : OutsideErr a) (hn : a ≠ ev) :
    (s.raise c ev f k u).reg a = s.reg a :=
  (reg_logErr (inv_event h) ha).trans (reg_event_other h hn)

@[simp] theorem reg_raiseInfo {c : Cls} {ev k u i a : Nat} {f : Field} (h : Inv s) (ha : OutsideErr a) (hn : a ≠ ev) :
    (s.raiseInfo c ev f k u i).reg a = s.reg a :=
  (reg_logErr (inv_event h) ha).trans (reg_event_other h hn)

/-! ### Tables and DRAM -/

@[simp] theorem tbl_setTbl_same {a : Nat} {w : Word} (_ : Inv s) : (s.setTbl a w).tbl a = w :=
  getD_put_same

@[simp] theorem tbl_setTbl_other {a b : Nat} {w : Word} (_ : Inv s) (hb : b ≠ a) : (s.setTbl a w).tbl b = s.tbl b :=
  getD_put_other hb

@[simp] theorem ld_st_same {a : Nat} {x : Byte} (_ : Inv s) : (s.st a x).ld a = x :=
  getD_put_same

@[simp] theorem ld_st_other {a b : Nat} {x : Byte} (_ : Inv s) (hb : b ≠ a) : (s.st a x).ld b = s.ld b :=
  getD_put_other hb

theorem inv_st {a : Nat} {x : Byte} (h : Inv s) : Inv (s.st a x) := inv_of_keeps h (st_keeps .refl trivial)

/-- Bytes written read as written, and every other byte of DRAM reads as before. -/
theorem ld_poke {l : List Byte} {a b : Nat} (h : Inv s) :
    (s.poke a l).ld b = if a ≤ b ∧ b < a + l.length then l.getD (b - a) 0 else s.ld b := by
  induction l generalizing s a with
  | nil => simp [State.poke]
  | cons x l ih =>
    rw [State.poke, ih (inv_st h)]
    by_cases e : b = a
    · subst e
      rw [if_neg (by omega), ld_st_same h, if_pos (by simp)]
      simp
    · rw [ld_st_other h e]
      by_cases g : a ≤ b ∧ b < a + (x :: l).length
      · rw [if_pos g, if_pos (by simp only [List.length_cons] at g; omega), List.getD_eq_getElem?_getD,
          List.getD_eq_getElem?_getD]
        obtain ⟨k, hk⟩ : ∃ k, b - a = k + 1 := ⟨b - a - 1, by omega⟩
        rw [hk, show b - (a + 1) = k by omega, List.getElem?_cons_succ]
      · rw [if_neg g, if_neg (by simp only [List.length_cons] at g; omega)]

end Sys2Proof.Laws
end

