-- ==== Sys2Proof/Laws/Banks.lean ====
section
/-! SUPPORT. Reading a unit of a bank after a change of one unit, and what the operations that take a frame, an action or a
sideband command do with theirs. -/

set_option linter.unusedTactic false
set_option linter.unreachableTactic false
set_option Elab.async false

namespace Sys2Proof.Laws

open Sys2Proof Sys2Proof.Machine Sys2Proof.Safety

variable {s t : State}

/-! ### Banks of units -/

/-- An operation that leaves the register file leaves every register. -/
theorem reg_of_regs (h : t.regs = s.regs) (a : Nat) : t.reg a = s.reg a := by
  simp only [State.reg, h]

@[simp] theorem reg_onPort {p a : Nat} {f : Port → Port} : (s.onPort p f).reg a = s.reg a := reg_of_regs (by simp) a

@[simp] theorem reg_emit {o : Out} {a : Nat} : (s.emit o).reg a = s.reg a := rfl

/-- Head port `p` after its change. -/
theorem port_onPort_same {p : Nat} {f : Port → Port} (h : p < s.hp.ports.length) :
    (s.onPort p f).port p = f (s.port p) := by
  unfold State.onPort State.port
  rw [List.getElem?_eq_getElem h]
  simp [h]

theorem port_onPort_other {p q : Nat} {f : Port → Port} (h : q ≠ p) : (s.onPort p f).port q = s.port q := by
  unfold State.onPort State.port
  split
  · simp [Ne.symm h]
  · rfl

/-- What the invariant says of the number of units of each bank. -/
theorem inv_units (h : Inv s) : s.units.length = 4 ∧ s.ver.engines.length = 40 ∧ s.hm.length = 56 ∧ s.doms.length = 2 ∧
    s.ln.lanes.length = 41 ∧ s.motion.gens.length = 6 ∧ s.motion.fbs.length = 6 ∧ s.motion.cmps.length = 8 ∧
    s.motion.servos.length = 2 ∧ s.hp.ports.length = 6 ∧ s.fab.ports.length = 4 ∧ s.ing.chans.length = 8 := by
  have := h.2.2.2.1
  simp only [unitsOk, Bool.and_eq_true, beq_iff_eq] at this
  tauto

theorem inv_port (h : Inv s) (p : Fin 6) : p.val < s.hp.ports.length := by
  have := inv_units h
  omega

theorem fport_onFport_same {x : Nat} {f : FabPort → FabPort} (h : x < s.fab.ports.length) : (s.onFport x f).fport x = f (s.fport x) := by
  unfold State.onFport State.fport
  rw [List.getElem?_eq_getElem h]
  simp [h]

theorem fport_onFport_other {x y : Nat} {f : FabPort → FabPort} (h : y ≠ x) : (s.onFport x f).fport y = s.fport y := by
  unfold State.onFport State.fport
  split
  · simp [Ne.symm h]
  · rfl

theorem lane_onLane_same {x : Nat} {f : Lane → Lane} (h : x < s.ln.lanes.length) : (s.onLane x f).lane x = f (s.lane x) := by
  unfold State.onLane State.lane
  rw [List.getElem?_eq_getElem h]
  simp [h]

theorem lane_onLane_other {x y : Nat} {f : Lane → Lane} (h : y ≠ x) : (s.onLane x f).lane y = s.lane y := by
  unfold State.onLane State.lane
  split
  · simp [Ne.symm h]
  · rfl

theorem gen_onGen_same {x : Nat} {f : Gen → Gen} (h : x < s.motion.gens.length) : (s.onGen x f).gen x = f (s.gen x) := by
  unfold State.onGen State.gen
  rw [List.getElem?_eq_getElem h]
  simp [h]

theorem gen_onGen_other {x y : Nat} {f : Gen → Gen} (h : y ≠ x) : (s.onGen x f).gen y = s.gen y := by
  unfold State.onGen State.gen
  split
  · simp [Ne.symm h]
  · rfl

theorem chan_onChan_same {x : Nat} {f : Channel → Channel} (h : x < s.ing.chans.length) : (s.onChan x f).chan x = f (s.chan x) := by
  unfold State.onChan State.chan
  rw [List.getElem?_eq_getElem h]
  simp [h, State.onIng]

theorem chan_onChan_other {x y : Nat} {f : Channel → Channel} (h : y ≠ x) : (s.onChan x f).chan y = s.chan y := by
  unfold State.onChan State.chan
  split
  · simp [Ne.symm h, State.onIng]
  · rfl

theorem dom_onDom_same {x : Nat} {f : Domain → Domain} (h : x < s.doms.length) : (s.onDom x f).dom x = f (s.dom x) := by
  unfold State.onDom State.dom
  rw [List.getElem?_eq_getElem h]
  simp [h]

theorem dom_onDom_other {x y : Nat} {f : Domain → Domain} (h : y ≠ x) : (s.onDom x f).dom y = s.dom y := by
  unfold State.onDom State.dom
  split
  · simp [Ne.symm h]
  · rfl

theorem engine_onEngine_same {e : Nat} {x : Engine} {f : Engine → Engine} (h : s.engine e = some x) :
    (s.onEngine e f).engine e = some (f x) := by
  unfold State.engine at *
  unfold State.onEngine
  simp only [h]
  have := (List.getElem?_eq_some_iff.1 h).1
  simp [this]

theorem engine_onEngine_other {e k : Nat} {f : Engine → Engine} (h : k ≠ e) :
    (s.onEngine e f).engine k = s.engine k := by
  unfold State.engine State.onEngine
  split
  · simp [Ne.symm h]
  · rfl

theorem unit_onUnit_same {n : Nat} {u : ExpUnit} {f : ExpUnit → ExpUnit} (h : s.units[n]? = some u) :
    (s.onUnit n f).units[n]? = some (f u) := by
  unfold State.onUnit
  simp only [h]
  have := (List.getElem?_eq_some_iff.1 h).1
  simp [this]

theorem unit_onUnit_other {n k : Nat} {f : ExpUnit → ExpUnit} (h : k ≠ n) :
    (s.onUnit n f).units[k]? = s.units[k]? := by
  unfold State.onUnit
  split
  · simp [Ne.symm h]
  · rfl

/-- A head of a chain after its change. -/
theorem headLink_onHead_same {p h : Nat} {f : HeadLink → HeadLink} (hp : p < s.hp.ports.length)
    (hh : h < (s.port p).heads.length) : (s.onHead p h f).headLink p h = f (s.headLink p h) := by
  unfold State.onHead State.headLink
  rw [port_onPort_same hp]
  rw [List.getElem?_eq_getElem hh]
  simp [hh]

/-- A change of a head leaves the port beside its heads. -/
theorem port_onHead {p h : Nat} {f : HeadLink → HeadLink} (hp : p < s.hp.ports.length) :
    ∃ l, (s.onHead p h f).port p = { s.port p with heads := l } ∧ l.length = (s.port p).heads.length := by
  unfold State.onHead
  rw [port_onPort_same hp]
  split
  · exact ⟨_, rfl, by simp⟩
  · exact ⟨_, rfl, rfl⟩

@[simp] theorem ports_onPort {p : Nat} {f : Port → Port} : (s.onPort p f).hp.ports.length = s.hp.ports.length := by
  unfold State.onPort
  split <;> simp

@[simp] theorem ports_onHead {p h : Nat} {f : HeadLink → HeadLink} :
    (s.onHead p h f).hp.ports.length = s.hp.ports.length := ports_onPort

/-! ### Head frames (R290, R291) -/

/-- A frame that is well formed, from a head in service, is taken. -/
theorem upFrame_taken {p ty n h : Nat} {fr b : List Byte} {k : State → Nat → List Byte → State}
    (g : HeadFrame s p fr ty n h b) :
    s.upFrame p fr ty n k = k (s.onHead p h fun x => { x with seqUp := some (Bits.rd fr 4 2) }) h b := by
  obtain ⟨h1, h2, h3, h4, h5, h6, h7, h8, h9, ha, hb, -⟩ := g
  have e : ¬ (fr.length < 12 ∨ Crc.crc32c (fr.take (fr.length - 4)) ≠ Bits.rd fr (fr.length - 4) 4 ∨
      (fr.take (fr.length - 4)).length ≠ 8 + 4 * Bits.rd fr 2 2) := by
    rw [not_or, not_or]
    exact ⟨by omega, not_not.2 h2, not_not.2 h3⟩
  have e1 : ¬ (s.portState p < 2 ∨ s.portState p = 7) := by
    rw [not_or]
    exact ⟨by omega, ha⟩
  have e2 : ¬ (Bits.rd fr 0 1 ≠ ty ∨ 8 ≤ Bits.rd fr 1 1 ∨ (fr.take (fr.length - 4)).length < 8 + n ∨
      (ty ≠ 0x88 ∧ ¬ s.headPresent p (Bits.rd fr 1 1) = true)) := by
    rw [h5]
    rintro (c | c | c | c)
    · exact c h4
    · omega
    · omega
    · exact c.2 (hb c.1)
  unfold State.upFrame
  simp only
  rw [if_neg e, if_neg e1, if_neg e2, h5, h7]

/-- A frame with a wrong CRC, on a port that takes frames, is counted. -/
theorem upFrame_badCrc {p ty n : Nat} {fr : List Byte} {k : State → Nat → List Byte → State}
    (h : ¬ (s.portState p < 2 ∨ s.portState p = 7)) (g : Crc.crc32c (fr.take (fr.length - 4)) ≠ Bits.rd fr (fr.length - 4) 4) : s.upFrame p fr ty n k =
      (s.count (Reg.HP_FRAME_ERR p) 1).event Reg.HP_EVENT Fld.HP_EVENT_FRAME_ERR := by
  unfold State.upFrame
  simp only
  rw [if_neg h, if_pos (.inr (.inl g))]

/-- A sideband command for one head asks it. -/
theorem sbCmd_one {w : Word} {p h : Nat} {ask : State → Nat → Nat → State} (hp : p = Fld.HP_SB_CMD_PORT.get w)
    (h6 : p < 6) (ha : Fld.HP_SB_CMD_ALL.get w = 0) (hh : h = Fld.HP_SB_CMD_HEAD.get w) (h8 : h < 8)
    (g : s.headPresent p h = true) : s.sbCmd w ask = ask s p h := by
  have e : (s.headsOf p).filter (fun x => x == h) = [h] := by
    unfold State.headsOf
    rw [List.filter_filter]
    have : (List.range 8).filter (fun a => a == h && s.headPresent p a) = (List.range 8).filter (· == h) := by
      refine List.filter_congr fun a _ => ?_
      by_cases c : a = h
      · subst c; simp [g]
      · simp [c]
    rw [this]
    clear this g hh
    interval_cases h <;> rfl
  unfold State.sbCmd
  simp only [← hp, ← hh, if_neg (show ¬ 6 ≤ p by omega), ha, zero_ne_one, if_false, e, List.foldl_cons, List.foldl_nil]

/-! ### Fabric and ingest frames (R371 to R375, R524) -/

/-- A frame for this module is counted and acknowledged, taken, and its credits return. -/
theorem fabRx_taken {p ty : Nat} {fr : List Byte} {f : FabFrame} {k : State → FabFrame → State}
    (g : FabFrameIn s p fr ty f) : s.fabRx p fr ty k = fabOut s p f (k (fabIn s p) f) := by
  obtain ⟨rfl, h2, h3, h4, h5, h6, h7, h8⟩ := g
  have ht : Bits.rd fr 0 1 = ty := h3
  have hd : ∀ u : State, u.regs = s.regs → u.fabDispatch p (fabParse fr) k = k u (fabParse fr) := by
    intro u hu
    have e : ∀ a f, u.fld a f = s.fld a f := fun a f => by simp only [State.fld, State.reg, hu]
    have e1 : u.node = s.node := by simp only [State.node, e]
    have e2 : ∀ a f, u.flag a f = s.flag a f := fun a f => by simp only [State.flag, e]
    have e3 : u.fabDeliver (fabParse fr) k = k u (fabParse fr) := by
      have n1 : ¬ ((fabParse fr).src < 1024 ∧ u.frozen (fabParse fr).src = true ∧ classOf (fabParse fr).ty ≠ 0 ∧
          classOf (fabParse fr).ty ≠ 4) := by
        rintro ⟨a, b, c, d⟩
        rw [h3] at c d
        have b' : s.frozen (fabParse fr).src = true := by
          rw [← b]; simp only [State.frozen, State.regN, State.reg, hu]
        rcases h6 a b' with x | x
        · exact c x
        · exact d x
      have n2 : ¬ (u.fabState = 4 ∧ (fabParse fr).ty ≠ 0x10 ∧ (fabParse fr).ty ≠ 0x11) := by
        rintro ⟨a, b, c⟩
        rw [h3] at b c
        have a' : s.fabState = 4 := by rw [← a]; simp only [State.fabState, e]
        rcases h7 a' with x | x
        · exact b x
        · exact c x
      unfold State.fabDeliver
      rw [if_neg n1, if_neg n2]
    unfold State.fabDispatch
    rw [h4, e1, e2, e3]
    rcases h5 with x | ⟨x, y⟩
    · simp [x]
    · simp only [x, y, and_self, if_true, Bool.false_eq_true, if_false]
      split <;> rfl
  unfold State.fabRx fabOut
  simp only [ht, ne_eq, not_true_eq_false, if_false]
  by_cases hp : p = 4
  · subst hp
    simp only [if_true, h2, fabIn, true_or]
    exact hd s rfl
  · obtain ⟨a, b, c, d, e⟩ := h8 hp
    have b' : ¬ s.fpState p < 2 := by omega
    have e' : ¬ (¬ s.nrReason (p + 1) = 0 ∧ ¬ discovers ty = true) := by
      rintro ⟨x, y⟩
      rcases e with e | e | e
      · exact x e
      · exact y (by simp [discovers, e])
      · exact y (by simp [discovers, e])
    simp only [hp, if_false, a, not_true_eq_false, b', d, e', h2, c, or_self, fabIn, false_or]
    rw [hd _ (by unfold State.sendLack State.setTime; simp)]

/-- A good ingest frame in order is counted and acknowledged and taken, and credits are granted. -/
theorem ingRx_taken {ty : Nat} {fr : List Byte} {k : State → State} (g : IngFrameIn s fr ty) :
    s.ingRx fr k =
      if ty = 1 then (k (ingIn s fr (16 + Bits.rd fr 1 1))).grantAll else (k (ingIn s fr 0)).grantControl := by
  obtain ⟨h1, h0, h2, rfl, h4⟩ := g
  unfold State.ingRx
  by_cases h : Bits.rd fr 0 1 = 1
  · simp [h1, h0, h2, h4, h, ingIn]
  · simp [h1, h0, h2, h4, h, ingIn]

/-! ### Timed actions (R348, R349) -/

/-- A machine whose time has come goes nowhere. -/
theorem runTo_past {n : Nat} (h : n ≤ s.now16) : s.runTo n = s := by
  unfold State.runTo
  rw [if_pos]
  have := Nat.div_mul_le_self s.clk.count (2 ^ 12)
  unfold State.now16 at h
  calc n * 2 ^ 12 ≤ s.clk.count / 2 ^ 12 * 2 ^ 12 := Nat.mul_le_mul_right _ h
    _ ≤ s.clk.count := this

theorem mem_dueInsert {d e : TaDue} {l : List TaDue} : e ∈ dueInsert d l ↔ e = d ∨ e ∈ l := by
  unfold dueInsert Bits.insertBefore
  conv_rhs => rw [← List.take_append_drop (l.findIdx (d.before)) l]
  simp only [List.mem_append, List.mem_cons]
  tauto

theorem mem_dueOrder {d : TaDue} : d ∈ s.dueOrder ↔ d ∈ s.due := by
  unfold State.dueOrder
  generalize s.due = q
  induction q using List.reverseRecOn with
  | nil => simp
  | append_singleton q e ih => rw [List.foldl_append, List.foldl_cons, List.foldl_nil, mem_dueInsert, ih]; simp [or_comm]

/-- The next action of a code has that code and is dispatched. -/
theorem dueAction_some {c : Nat} {d : TaDue} (h : s.dueAction c = some d) : s.slotCode d.slot = c ∧ d ∈ s.due := by
  refine ⟨?_, mem_dueOrder.1 (List.mem_of_find?_eq_some h)⟩
  have := List.find?_some h
  simpa using this

/-- An action whose instant has come, none before it, acts on its two arguments and ends; POWER is another matter. -/
theorem actOn_due {c : Nat} {d : TaDue} (g : ActsNow s c d) (hc : c ≠ 5) : s.actOn c =
      (State.actEffect c s (s.regN (Reg.TA_SLOT_ARG0 d.slot)) (s.regN (Reg.TA_SLOT_ARG1 d.slot))).2.endAction d
        (State.actEffect c s (s.regN (Reg.TA_SLOT_ARG0 d.slot)) (s.regN (Reg.TA_SLOT_ARG1 d.slot))).1 := by
  obtain ⟨hd, ho, ht⟩ := g
  obtain ⟨h1, h2⟩ := dueAction_some hd
  unfold State.actOn
  rw [hd]
  simp only [ho, List.foldl_cons, List.foldl_nil]
  unfold State.actOne State.actDue
  simp only [h1, List.contains_iff_mem.2 h2, if_true, runTo_past ht, if_neg (Nat.not_lt.2 ht)]
  rw [if_neg (by simpa using hc)]

@[simp] theorem setSlot_fab {n v : Nat} : (s.setSlot n v).fab = s.fab := by unfold State.setSlot; simp
@[simp] theorem setSlot_due {n v : Nat} : (s.setSlot n v).due = s.due := by unfold State.setSlot; simp

/-- The state in which action `d` is due no more. -/
def dropDue (s : State) (d : TaDue) : State := { s with due := s.due.erase d }

@[simp] theorem dropDue_fab {d : TaDue} : (dropDue s d).fab = s.fab := rfl
@[simp] theorem dropDue_due {d : TaDue} : (dropDue s d).due = s.due.erase d := rfl

theorem armWaiting_none {u : State} (h : u.fab.waits = []) : u.armWaiting u.fab.waits.length = u := by
  rw [h]
  rfl

/-- A refused action ends FAILED, none waiting for its slot (R350). -/
theorem endAction_failed {d : TaDue} (h : s.fab.waits = []) : s.endAction d false =
    (((dropDue s d).setSlot d.slot 5).setFld (Reg.TA_SLOT_STATE d.slot) Fld.TA_SLOT_STATE_LATE_US 0).event Reg.TA_EVENT
      Fld.TA_EVENT_FAILED :=
  armWaiting_none (u := (((dropDue s d).setSlot d.slot 5).setFld (Reg.TA_SLOT_STATE d.slot) Fld.TA_SLOT_STATE_LATE_US
    0).event Reg.TA_EVENT Fld.TA_EVENT_FAILED) (by rw [event_fab, setFld_fab, setSlot_fab, dropDue_fab, h])

/-- An action in time ends DONE, none waiting for its slot (R349). -/
theorem endAction_done {d : TaDue} (h : s.fab.waits = []) (hl : d.late = false) :
    s.endAction d true = (dropDue s d).setSlot d.slot 3 := by
  cases d with
  | mk n a l =>
    cases hl
    exact armWaiting_none (u := (dropDue s ⟨n, a, false⟩).setSlot n 3) (by rw [setSlot_fab, dropDue_fab, h])

end Sys2Proof.Laws
end

