-- ==== Sys2Proof/Laws/KeepsActions.lean ====
section
/-! SUPPORT. What the operations of Sys2Proof/Machine/Actions.lean can change: one lemma each. -/

set_option linter.unusedTactic false
set_option linter.unreachableTactic false
set_option Elab.async false

namespace Sys2Proof.Laws

open Sys2Proof.Machine Sys2Proof.Safety

variable {F : Part → Prop} {a s : State}

@[simp ↓] theorem barrierAct_keeps {yarg0 : Nat} {yarg1 : Nat} (h : Keeps F a s) :
    Keeps F a (s.barrierAct yarg0 yarg1).2 := by
  unfold State.barrierAct
  simp (maxDischargeDepth := 60) [h]

@[simp ↓] theorem actOne_keeps {d : TaDue} (h : Keeps F a s) (hF : F .regs ∧ F .tables ∧ F .mem ∧ F .freeCount ∧ F
    .log ∧ F .cores ∧ F .mgt ∧ F .layers ∧ F .lpBytes ∧ F .units ∧ F .rows ∧ F .surveys ∧ F .clk ∧ F .ver ∧ F .gy ∧
    F .recs ∧ F .blocks ∧ F .hm ∧ F .cal ∧ F .sram ∧ F .cache ∧ F .pins ∧ F .motion ∧ F .sent ∧ F .hp ∧ F .doms ∧ F
    .due ∧ F .fab ∧ F .ln ∧ F .dram ∧ F .ing ∧ F .boot ∧ F .pw) :
    Keeps F a (s.actOne d) := by
  unfold State.actOne
  refine keeps_ite (actDue_keeps h (by simp [hF]) fun t x y ht => ?_) h
  generalize s.slotCode d.slot = c
  rcases c with _ | _ | _ | _ | _ | _ | _ | n <;> simp (maxDischargeDepth := 60) [State.actEffect, ht, hF]

@[simp ↓] theorem actOn_keeps {code : Nat} (h : Keeps F a s) (hF : F .regs ∧ F .tables ∧ F .mem ∧ F .freeCount ∧ F
    .log ∧ F .cores ∧ F .mgt ∧ F .layers ∧ F .lpBytes ∧ F .units ∧ F .rows ∧ F .surveys ∧ F .clk ∧ F .ver ∧ F .gy ∧
    F .recs ∧ F .blocks ∧ F .hm ∧ F .cal ∧ F .sram ∧ F .cache ∧ F .pins ∧ F .motion ∧ F .sent ∧ F .hp ∧ F .doms ∧ F
    .due ∧ F .fab ∧ F .ln ∧ F .dram ∧ F .ing ∧ F .boot ∧ F .pw) :
    Keeps F a (s.actOn code) := by
  unfold State.actOn
  split
  · exact h
  · exact keeps_foldl h fun t x ht => actOne_keeps ht hF

@[simp ↓] theorem execSwathStartAction_keeps (h : Keeps F a s) (hF : F .regs ∧ F .tables ∧ F .mem ∧ F .freeCount ∧
    F .log ∧ F .cores ∧ F .mgt ∧ F .layers ∧ F .lpBytes ∧ F .units ∧ F .rows ∧ F .surveys ∧ F .clk ∧ F .ver ∧ F .gy
    ∧ F .recs ∧ F .blocks ∧ F .hm ∧ F .cal ∧ F .sram ∧ F .cache ∧ F .pins ∧ F .motion ∧ F .sent ∧ F .hp ∧ F .doms ∧
    F .due ∧ F .fab ∧ F .ln ∧ F .dram ∧ F .ing ∧ F .boot ∧ F .pw) :
    KeepsOut F a (execSwathStartAction s) := by
  unfold execSwathStartAction
  simp (maxDischargeDepth := 60) +contextual [h, hF]

@[simp ↓] theorem execBarrierAction_keeps (h : Keeps F a s) (hF : F .regs ∧ F .tables ∧ F .mem ∧ F .freeCount ∧ F
    .log ∧ F .cores ∧ F .mgt ∧ F .layers ∧ F .lpBytes ∧ F .units ∧ F .rows ∧ F .surveys ∧ F .clk ∧ F .ver ∧ F .gy ∧
    F .recs ∧ F .blocks ∧ F .hm ∧ F .cal ∧ F .sram ∧ F .cache ∧ F .pins ∧ F .motion ∧ F .sent ∧ F .hp ∧ F .doms ∧ F
    .due ∧ F .fab ∧ F .ln ∧ F .dram ∧ F .ing ∧ F .boot ∧ F .pw) :
    KeepsOut F a (execBarrierAction s) := by
  unfold execBarrierAction
  simp (maxDischargeDepth := 60) [h, hF]

@[simp ↓] theorem execHandoverAction_keeps (h : Keeps F a s) (hF : F .regs ∧ F .tables ∧ F .mem ∧ F .freeCount ∧ F
    .log ∧ F .cores ∧ F .mgt ∧ F .layers ∧ F .lpBytes ∧ F .units ∧ F .rows ∧ F .surveys ∧ F .clk ∧ F .ver ∧ F .gy ∧
    F .recs ∧ F .blocks ∧ F .hm ∧ F .cal ∧ F .sram ∧ F .cache ∧ F .pins ∧ F .motion ∧ F .sent ∧ F .hp ∧ F .doms ∧ F
    .due ∧ F .fab ∧ F .ln ∧ F .dram ∧ F .ing ∧ F .boot ∧ F .pw) :
    KeepsOut F a (execHandoverAction s) := by
  unfold execHandoverAction
  simp (maxDischargeDepth := 60) +contextual [h, hF]

@[simp ↓] theorem execCalApplyAction_keeps (h : Keeps F a s) (hF : F .regs ∧ F .tables ∧ F .mem ∧ F .freeCount ∧ F
    .log ∧ F .cores ∧ F .mgt ∧ F .layers ∧ F .lpBytes ∧ F .units ∧ F .rows ∧ F .surveys ∧ F .clk ∧ F .ver ∧ F .gy ∧
    F .recs ∧ F .blocks ∧ F .hm ∧ F .cal ∧ F .sram ∧ F .cache ∧ F .pins ∧ F .motion ∧ F .sent ∧ F .hp ∧ F .doms ∧ F
    .due ∧ F .fab ∧ F .ln ∧ F .dram ∧ F .ing ∧ F .boot ∧ F .pw) :
    KeepsOut F a (execCalApplyAction s) := by
  unfold execCalApplyAction
  simp (maxDischargeDepth := 60) +contextual [h, hF]

@[simp ↓] theorem execPowerAction_keeps (h : Keeps F a s) (hF : F .regs ∧ F .tables ∧ F .mem ∧ F .freeCount ∧ F
    .log ∧ F .cores ∧ F .mgt ∧ F .layers ∧ F .lpBytes ∧ F .units ∧ F .rows ∧ F .surveys ∧ F .clk ∧ F .ver ∧ F .gy ∧
    F .recs ∧ F .blocks ∧ F .hm ∧ F .cal ∧ F .sram ∧ F .cache ∧ F .pins ∧ F .motion ∧ F .sent ∧ F .hp ∧ F .doms ∧ F
    .due ∧ F .fab ∧ F .ln ∧ F .dram ∧ F .ing ∧ F .boot ∧ F .pw) :
    KeepsOut F a (execPowerAction s) := by
  unfold execPowerAction
  simp (maxDischargeDepth := 60) +contextual [h, hF]

@[simp ↓] theorem execDomainSwitch_keeps (h : Keeps F a s) (hF : F .regs ∧ F .tables ∧ F .mem ∧ F .freeCount ∧ F
    .log ∧ F .cores ∧ F .mgt ∧ F .layers ∧ F .lpBytes ∧ F .units ∧ F .rows ∧ F .surveys ∧ F .clk ∧ F .ver ∧ F .gy ∧
    F .recs ∧ F .blocks ∧ F .hm ∧ F .cal ∧ F .sram ∧ F .cache ∧ F .pins ∧ F .motion ∧ F .sent ∧ F .hp ∧ F .doms ∧ F
    .due ∧ F .fab ∧ F .ln ∧ F .dram ∧ F .ing ∧ F .boot ∧ F .pw) :
    KeepsOut F a (execDomainSwitch s) := by
  unfold execDomainSwitch
  simp (maxDischargeDepth := 60) +contextual [h, hF]

@[simp ↓] theorem execGpioSet_keeps (h : Keeps F a s) (hF : F .regs ∧ F .tables ∧ F .mem ∧ F .freeCount ∧ F .log ∧
    F .cores ∧ F .mgt ∧ F .layers ∧ F .lpBytes ∧ F .units ∧ F .rows ∧ F .surveys ∧ F .clk ∧ F .ver ∧ F .gy ∧ F
    .recs ∧ F .blocks ∧ F .hm ∧ F .cal ∧ F .sram ∧ F .cache ∧ F .pins ∧ F .motion ∧ F .sent ∧ F .hp ∧ F .doms ∧ F
    .due ∧ F .fab ∧ F .ln ∧ F .dram ∧ F .ing ∧ F .boot ∧ F .pw) :
    KeepsOut F a (execGpioSet s) := by
  unfold execGpioSet
  simp (maxDischargeDepth := 60) +contextual [h, hF]

end Sys2Proof.Laws
end

