-- ==== Sys2Proof/Machine/Pads.lean ====
section
/-! DEFINITION. The pads and where they lie on the grid, what the module drives on the single-ended ones between pulses, and the
boundary scan over them (R604, R687 to R694, R696, R709). -/

namespace Sys2Proof.Machine

open Sys2Proof.Bits

/-- The single-ended pads (R692). A stepper's signals are STEP, DIR, EN, MS0, MS1 and MS2; an axis's inputs POS, NEG
and HOME, with the axes S, C and P0 to P3; a flash device's CLK, CS_N and IO0 to IO3; the SPI target's CLK, CS_N, SDI
and SDO; the test pads TCK, TMS, TDI, TDO and TRST_N. -/
inductive Pad where
  | flash (dev : Fin 2) (sig : Fin 6)
  | mspi (sig : Fin 4)
  | test (sig : Fin 5)
  | resetN
  | estopN
  | wake (i : Fin 2)
  | boardId (i : Fin 4)
  | pgood
  | alertN
  | led (k : Fin 3)
  | ppsIn
  | ppsOut
  | trefIn
  | gpio (i : Fin 16)
  | stepper (k : Fin 4) (sig : Fin 6)
  | axis (x : Fin 6) (sig : Fin 3)
  deriving DecidableEq, Repr

/-- The place of a pad in the table of R692, read row by row from J34. -/
def Pad.index : Pad → Nat
  | .flash d i => 6 * d.val + i.val
  | .mspi i => 12 + i.val
  | .test i => 16 + i.val
  | .resetN => 21
  | .estopN => 22
  | .wake i => 23 + i.val
  | .boardId i => 25 + i.val
  | .pgood => 29
  | .alertN => 30
  | .led k => 31 + k.val
  | .ppsIn => 34
  | .ppsOut => 35
  | .trefIn => 36
  | .gpio i => 37 + i.val
  | .stepper k i => 55 + 6 * k.val + i.val
  | .axis x i => 80 + 3 * x.val + i.val

/-- Row index and column of a pad (R687, R692): row J has index 9, and each row holds columns 34 to 38. -/
def Pad.place (p : Pad) : Nat × Nat := (9 + p.index / 5, 34 + p.index % 5)

/-- Every single-ended pad, in the order of R692. -/
def allPads : List Pad :=
  ((List.finRange 2).flatMap fun d => (List.finRange 6).map fun i => Pad.flash d i) ++
  ((List.finRange 4).map Pad.mspi) ++ ((List.finRange 5).map Pad.test) ++ [.resetN, .estopN] ++
  ((List.finRange 2).map Pad.wake) ++ ((List.finRange 4).map Pad.boardId) ++ [.pgood, .alertN] ++
  ((List.finRange 3).map Pad.led) ++ [.ppsIn, .ppsOut, .trefIn] ++ ((List.finRange 16).map Pad.gpio) ++
  ((List.finRange 4).flatMap fun k => (List.finRange 6).map fun i => Pad.stepper k i) ++
  ((List.finRange 6).flatMap fun x => (List.finRange 3).map fun i => Pad.axis x i)

/-- The differential pairs of the left edge (R691). The axes of the encoder inputs are S, C and P0 to P3, their signals A, B, Z. -/
inductive EdgePair where
  | fire (p : Fin 6)
  | aout (x : Fin 2)
  | sin (x : Fin 2)
  | cos (x : Fin 2)
  | enc (x : Fin 6) (sig : Fin 3)
  deriving DecidableEq, Repr

/-- The place of a pair in the table of R691, read row by row from J. -/
def EdgePair.index : EdgePair → Nat
  | .fire p => p.val
  | .aout x => 6 + x.val
  | .sin x => 8 + 2 * x.val
  | .cos x => 9 + 2 * x.val
  | .enc x i => 12 + 3 * x.val + i.val

/-- Row index and column of a wire of a pair, P in the odd column (R691). -/
def EdgePair.place (e : EdgePair) (neg : Bool) : Nat × Nat := (9 + e.index / 2, 1 + 2 * (e.index % 2) + neg.toNat)

/-- Every pair of the left edge. -/
def allEdgePairs : List EdgePair :=
  (List.finRange 6).map EdgePair.fire ++ (List.finRange 2).map EdgePair.aout ++
  ((List.finRange 2).flatMap fun x => [EdgePair.sin x, EdgePair.cos x]) ++
  ((List.finRange 6).flatMap fun x => (List.finRange 3).map fun i => EdgePair.enc x i)

/-- Row index and column of a pad of lane `n`, numbered as R402 numbers lanes (R690). -/
def lanePlace (n : Nat) (tx neg : Bool) : Nat × Nat :=
  let g := if 16 ≤ n ∧ n < 40 then n - 16 else if n = 40 then 16 else n
  let row := if 16 ≤ n ∧ n < 40 then (if g < 12 then (if tx then 1 else 5) else if tx then 3 else 7)
    else if g < 12 then (if tx then 38 else 34) else if tx then 36 else 32
  (row, 3 * (g % 12) + 1 + neg.toNat)

/-- What lies at a place of the grid (R688 to R693). -/
inductive Ball where
  | vin
  | gnd
  | lane (n : Fin 41) (tx neg : Bool)
  | refclk (neg : Bool)
  | pair (e : EdgePair) (neg : Bool)
  | single (p : Pad)
  deriving DecidableEq, Repr

/-- The signal pads and their places. -/
def signalBalls : List ((Nat × Nat) × Ball) :=
  ((List.finRange 41).flatMap fun (n : Fin 41) => [true, false].flatMap fun tx => [true, false].map fun neg =>
    (lanePlace n.val tx neg, Ball.lane n tx neg)) ++
  [((36, 34), Ball.refclk false), ((36, 35), Ball.refclk true)] ++
  (allEdgePairs.flatMap fun e => [true, false].map fun neg => (e.place neg, Ball.pair e neg)) ++
  allPads.map fun p => (p.place, Ball.single p)

/-- The pad at row index `i` and column `j`: every pad that no rule names is GND (R689, R693). -/
def ballAt (i j : Nat) : Ball :=
  if 15 ≤ i ∧ i ≤ 24 ∧ 15 ≤ j ∧ j ≤ 24 then .vin
  else ((signalBalls.find? fun b => b.1 == (i, j)).map (·.2)).getD .gnd

/-- The letters of row index `i`, 1 to 38 (R687). -/
def rowName (i : Nat) : String :=
  Bits.nth ["A", "B", "C", "D", "E", "F", "G", "H", "J", "K", "L", "M", "N", "P", "T", "U", "V", "W", "Y",
    "AA", "AB", "AC", "AD", "AE", "AF", "AG", "AH", "AJ", "AK", "AL", "AM", "AN", "AP", "AT", "AU", "AV", "AW", "AY"]
    (i - 1) ""

/-- The centre of the pad at row index `i` and column `j` from the body centre, in tenths of a millimetre (R687). -/
def padCentre (i j : Nat) : Int × Int := (8 * (2 * (j : Int) - 39), 8 * (39 - 2 * (i : Int)))

/-- Service life at Tcase `t` in °C, in thirds of a year (R709). -/
def serviceLife (t : Int) : Int := if t ≤ 90 then 90 else 180 - t

/-- Life is left after the hours `l`, each with its Tcase and whether the module was in DEEP or OFF, which count at 90 °C: the sum
of hours over life is below 1 (R709). A year has 8,766 hours (PRESUMED, log entry 77). -/
def lifeLeft (l : List (Nat × Int × Bool)) : Bool :=
  let of := fun (x : Nat × Int × Bool) => serviceLife (if x.2.2 then 90 else x.2.1)
  l.all (fun x => decide (0 < of x)) &&
    let d := l.foldl (fun (a : Int) x => a * of x) 1
    decide ((l.foldl (fun (a : Int) x => a + 3 * x.1 * (d / of x)) 0) < 8766 * d)

/-- What the module drives on a pad: a level, or nothing. An open-drain pad is low or released (R694). -/
inductive Drive where
  | low
  | high
  | off
  deriving DecidableEq, Repr

/-- A driven level. -/
def Drive.of (b : Bool) : Drive := if b then .high else .low

/-- Levels of stepper `k`: those held, or those driven (R604). -/
def State.padStep (s : State) (k : Nat) : StepLevels :=
  if bit (s.fld Reg.PWR_HOLD Fld.PWR_HOLD_STP) k then Bits.nth s.pw.heldStep k (s.stepLevels k) else s.stepLevels k

/-- The drive of signal `i` of stepper `k`: high impedance until the lock, then driven or held (R604, R694). -/
def State.driveStep (s : State) (k i : Nat) : Drive :=
  if ¬ s.locked ∧ ¬ bit (s.fld Reg.PWR_HOLD Fld.PWR_HOLD_STP) k then .off
  else
    let l := s.padStep k
    match i with
    | 0 => .of l.step
    | 1 => .of l.dir
    | 2 => .of l.en
    | i => .of (bit l.ms (i - 3))

/-- The drive of GPIO`i`. -/
def State.driveGpio (s : State) (i : Nat) : Drive :=
  let out := if s.flag Reg.PWR_HOLD Fld.PWR_HOLD_GPIO then s.pw.heldGpio else s.gpioLevels
  match out.find? fun e => e.1 == i with
  | some e => .of e.2
  | none => .off

/-- What stands on a pad between pulses (R604, R651, R682, R694): PPS_OUT is low but for its pulses, and the module drives
nothing on its inputs. Pads of the flash devices and the SPI target carry bytes, which the commands and outputs show. -/
def State.drive (s : State) (p : Pad) : Drive :=
  if s.boot.phase = .unpowered then (if p = .pgood then .low else .off)
  else match p with
    | .pgood => .off
    | .alertN => if s.alert then .low else .off
    | .led k => if s.led k = 0 then .off else .low
    | .ppsOut => .low
    | .gpio i => s.driveGpio i
    | .stepper k i => s.driveStep k i
    | _ => .off

/-- FIRE_`p` is driven, low between pulses; it has high impedance until internal reset is released (R604, R694). -/
def State.fireDriven (s : State) : Bool := s.boot.phase != .unpowered && s.boot.phase != .reset

/-- What the test access port offers: its IDCODE register and the pads that have a boundary-scan cell. -/
structure TestPort where
  idcode : Word
  cells : List Pad
  deriving DecidableEq, Repr

/-- The test access port (R696): IDCODE reads as GLB_DEVICE_ID, and boundary scan covers every single-ended pad. In
operation TRST_N is held low, so that no cell acts on its pad and nothing else of the port is state of the machine
(log entry 70). -/
def State.testPort (s : State) : TestPort := ⟨s.reg Reg.GLB_DEVICE_ID, allPads⟩

end Sys2Proof.Machine
end

