-- ==== Sys2Proof/Tests/States.lean ====
section
/-! SUPPORT. Small states, records and frames for the tests and the witnesses: each differs from the state after reset
in what its name says. -/

set_option Elab.async false

namespace Sys2Proof.Tests

open Sys2Proof.Machine Sys2Proof.Bits Sys2Proof.Safety

/-- The value of an option that is known to be there. -/
def the {α : Type} (o : Option α) (h : o.isSome = true := by decide +kernel) : α := o.get h

/-- The invariant as one test. -/
def invB (s : State) : Bool := [memWf, regsWf, tablesWf, unitsOk, otpOk].all fun part => part s

theorem inv_by {s : State} (h : invB s = true) : Inv s := by
  have part : ∀ f ∈ [memWf, regsWf, tablesWf, unitsOk, otpOk], f s = true := List.all_eq_true.1 h
  show _ ∧ _
  simpa only [List.forall_mem_cons, List.not_mem_nil, false_imp_iff, implies_true, and_true] using part

/-- The state after reset with register words. -/
def withRegs (l : List (Nat × Nat)) (s : State := State.reset) : State := l.foldl (fun s x => s.setRegN x.1 x.2) s

/-- The state after reset with table words. -/
def withTbl (l : List (Nat × Nat)) (s : State := State.reset) : State :=
  l.foldl (fun s x => s.setTbl x.1 (BitVec.ofNat 32 x.2)) s

/-! ### Stream records -/

/-- A stream record of R47 to R51 with its trailer. -/
def rec (k flags seq : Nat) (body : List Byte) : List Byte :=
  let h := toLE 1 k ++ toLE 1 flags ++ toLE 2 (body.length / 8 + 2) ++ toLE 4 seq ++ body
  h ++ toLE 4 (Crc.crc32c h) ++ toLE 4 0

/-- A record begins with its type. -/
theorem rec_cons {k flags seq : Nat} {body : List Byte} :
    rec k flags seq body = BitVec.ofNat 8 k :: (rec k flags seq body).tail := rfl

/-- Bytes of little-endian numbers, as (width, value). -/
def le (l : List (Nat × Nat)) : List Byte := l.flatMap fun x => toLE x.1 x.2

def job1 : Job := ⟨0, 0, 100, 1, 16, 0⟩

/-- A material on port 0 whose codes are four bits wide. -/
def mat0 : MaterialRec := ⟨0, 0, 1, 2, 0, 0xFFFF, 0⟩

def swath0 : SwathEntry := ⟨0, false, 1, 0, 0, 0, 1, 0, 0⟩

def layer1 : Layer := ⟨1, 0, job1, .geometry, [], [swath0], 0, [], [], [], [mat0], [], 0, false, 0, 0, [], 1⟩

/-- A job whose prologue stands open. -/
def prologue : Content :=
  { Content.fresh with state := .prologue, expSeq := 1, ofs := 40, job := some job1, materials := [mat0] }

def wcell (ph : Nat) (ss : List Section) : Content :=
  { prologue with state := .cell, openCell := some ⟨1, ph, 10, 0, ⟨0, 0, 9, 9⟩, ss, 0⟩ }

def wlayer (st : BodyStage) : Content :=
  { prologue with state := .layer, lastLayer := some 1, openLayer := some { layer1 with stage := st, plan := [] } }

/-- A parser with this content, and room in the layer program region. -/
def parsing (p : Content) : State :=
  let s := State.reset.setRegN Reg.EXP_LP_SIZE 64
  { s with parser := { s.parser with cur := p } }

/-! ### A map of one beam, and a layer of one swath over it -/

/-- One beam on port 0, one column and one row. -/
def map1 : List (Nat × Nat) :=
  [(beamHdrAddr + 4, 100), (beamHdrAddr + 8, 1), (beamHdrAddr + 12, 1), (beamHdrAddr + 16, 0x10001),
   (beamHdrAddr + 28, 1), (beamAddr 0 + 12, 0xFFFFFFFF), (wsetAddr 0, 0x80FF8001)]

/-- A layer of one swath over that map. -/
def oneLayer : State := { withTbl map1 with layers := [layer1] }

/-- A survey of the only swath runs. -/
def surveying : State := { oneLayer with surveys := [⟨1, 0, false, [], 0, 0, 0, []⟩] }

theorem foldl_zero (f : Nat → Nat → Nat) : [0].foldl f 0 = f 0 0 := rfl

theorem loadAhead_le {r : Nat} (h : r ≤ 200000) : loadAhead r ≤ 22 := by
  have : (100 * r + 1000000 - 1) / 1000000 ≤ 20 := by omega
  exact Nat.add_le_add_right this 2

/-- A swath of one row at the front with a segment of 64 bytes fits the firing buffer at every rate of the
code-width limit. -/
theorem need_one_row {s : State} {l : Layer} {e : SwathEntry} {r : Nat}
    (hr : usedRows s.bmap (usedPorts l.materials s.node e.materialMask) = [0])
    (hs : segBytes s.bmap (((portMaterial l.materials s.node (rowPort s.bmap 0)).map codeWidth).getD 1) 0 = 64)
    (hl : rowLag s.bmap [0] e.reverse l.job.pitch 0 = 0) (h : r ≤ 200000) : s.spanNeed l e r ≤ 16777216 := by
  have e1 : s.spanNeed l e r =
      (usedRows s.bmap (usedPorts l.materials s.node e.materialMask)).foldl (fun n r' =>
        n + segBytes s.bmap (((portMaterial l.materials s.node (rowPort s.bmap r')).map codeWidth).getD 1) r' *
          (rowLag s.bmap (usedRows s.bmap (usedPorts l.materials s.node e.materialMask)) e.reverse l.job.pitch r' +
            loadAhead r)) 0 := rfl
  rw [hr] at e1
  have e2 : s.spanNeed l e r = 0 +
      segBytes s.bmap (((portMaterial l.materials s.node (rowPort s.bmap 0)).map codeWidth).getD 1) 0 *
        (rowLag s.bmap [0] e.reverse l.job.pitch 0 + loadAhead r) := e1.trans (foldl_zero _)
  rw [hs, hl] at e2
  have g := loadAhead_le h
  generalize loadAhead r = n at e2 g
  omega

theorem need_surveying : ∀ r ≤ 200000, surveying.spanNeed layer1 swath0 r ≤ 16777216 := fun _ h =>
  need_one_row (by decide +kernel) (by decide +kernel) (by decide +kernel) h

def row0 : RowId := ⟨1, 0, 0⟩
def tile0 : TileId := ⟨1, 0, 0, 0⟩

def swathOf (st : SwathState) : Swath :=
  { layer := 1, idx := 0, state := st, ports := [0], status := [], capTick := 0, capNs := 0, hoId := 0, rate := 0,
    barrier := 0, startAt := none, rows := [], loaded := 0, segs := [], issued := [], missedAt := [], lastFire := none, lastTick := 0,
    rowsPassed := 0, misses0 := 0, slipMax := 0, evs := [], data := [], dataBlocks := 0, entryCount := 0, missing := 0,
    recOpen := false }

def oneSwath (st : SwathState) : State := { oneLayer with gy := { oneLayer.gy with swaths := [swathOf st] } }

/-- The row of that swath is expanded. -/
def oneRow (st : SwathState) : State := { oneSwath st with rows := [⟨row0, 0, [⟨0, [], []⟩], [], [], [0]⟩] }

def cell2 : Cell := ⟨1, 0, 0, ⟨0, 0, 9, 9⟩, 0, ⟨0, 0, 9, 9⟩, 0, 0, 0, [⟨0, [], 0⟩]⟩

/-- A LAYER record that waits for head links of no bound port, over a valid map. -/
def heldAt (wait : Bool) (b : List Byte) : State :=
  let s := (parsing { prologue with lastWasCheck := true, materials := [] }).setFld Reg.BM_STATUS Fld.BM_STATUS_VALID 1
  { s with parser := { s.parser with headsWait := wait, held := [(typeLayer, b)] } }

/-- A RECT record that waits for room in the layer program region, which has come. -/
def stalledAt (b : List Byte) : State :=
  let s := parsing (wcell 1 [⟨0, [], 0⟩])
  let s : State := { s with parser := { s.parser with lpStall := true, held := [(typeRect, b)] } }
  { s with parser := { s.parser with cur := { s.parser.cur with materials := [{ mat0 with material := 0 }] } } }

theorem find_one {α : Type} {o : Option α} (h : o.isSome = true) : o = some (the o h) := (Option.some_get h).symm

theorem find_the {α β : Type} {o : Option (α × β)} (h : o.isSome = true) : o = some ((the o h).1, (the o h).2) :=
  (Option.some_get h).symm

def unit0 : ExpUnit := ⟨.inService, none, false, 0, 0, none, false, []⟩

def onUnit0 (u : ExpUnit) (s : State) : State := { s with units := s.units.set 0 u }

def engine0 : Engine := ⟨.inService, none, none, none, none, none, 0, none, 0, 0, ⟨0, 0, 0, 0⟩⟩

def onEng0 (x : Engine) (s : State := State.reset) : State :=
  { s with ver := { s.ver with engines := s.ver.engines.set 0 x } }

/-- Only the first `n` engines in service. -/
def onlyEngines (n : Nat) : State :=
  { State.reset with ver := { State.reset.ver with
      engines := (List.range 40).map fun e => { engine0 with svc := if e < n then .inService else .out } } }

def ctx0 : TileCtx := ⟨tile0, some 0, none, some 0, none, [], [], .raster, 0, none, none, [], none, 0, false, [], none⟩

/-- The tile wants a vote of its primary's and checker's results, which differ. -/
def ctxV : TileCtx := { ctx0 with
  phase := .vote, checker := some 10
  results := [(0, ⟨[[0]], [0], 0, 0, 0, 0, 0⟩), (10, ⟨[[0]], [0], 1, 0, 0, 0, 0⟩)] }

def doingK : Machine.Task := ⟨tile0, .primary, false, none⟩

/-- Engine 0 has rasterised the tile as its primary. -/
def doing : State :=
  let s := onEng0 { engine0 with dose := some ⟨tile0, .primary, false, none⟩ } (oneRow .captured)
  { s with ver := { s.ver with ctxs := [ctx0] } }

/-- The tile waits for a checker, which only the cluster of its primary has. -/
def waiting : State :=
  let s := onlyEngines 9
  { s with ver := { s.ver with ctxs := [ctx0] } }.setFld Reg.VER_CFG Fld.VER_CFG_SAME_CL_OK 1

/-- The tile waits for a primary given anew, which only the cluster of its checker has. -/
def waitingAnew : State :=
  let s := onlyEngines 9
  { s with ver := { s.ver with ctxs := [{ ctx0 with primary := none, checker := some 0 }] } }.setFld Reg.VER_CFG
    Fld.VER_CFG_SAME_CL_OK 1

def res0 : RasterResult := ⟨[[0]], [0], 0, 0, 0, 0, 0⟩

/-- The checker of that tile has delivered `r`, and what the tile gives has been kept. -/
def ctxGot (r : RasterResult) : TileCtx := { ctx0 with checker := some 10, results := [(10, r)], kept := some ⟨res0, 0, false⟩ }
def doingGot (r : RasterResult) : State := { doing with ver := { doing.ver with ctxs := [ctxGot r] } }

def ctxC : TileCtx := { ctx0 with results := [(0, res0)], phase := .commit, writer := some 0, slot := some 0 }

def committing : State := { oneRow .captured with ver := { State.reset.ver with ctxs := [ctxC] } }

/-- A check unit snoops the commits. -/
def committingSnooped : State :=
  (committing.setFld (Reg.CRC_U_STATUS 0) Fld.CRC_U_STATUS_ENABLED 1).setFld (Reg.CRC_U_CFG 0) Fld.CRC_U_CFG_SNOOP
    pointStaging

def entry0 : CommitEntry :=
  { id := tile0, w := 0, committed := true, cause := 0, lines := 1, votes := 0, signature := 0, crc := 0, addr := 0,
    primary := 0, checker := 1, voter := 0, writer := 0, commitNs := 0, carry := [0], codes := [[0]], freed := false,
    firstLoaded := true, verdict := true, got := [], ix := 0 }

/-- The only line of the tile has fired. -/
def fired : State :=
  { oneRow .running with
    gy := { State.reset.gy with swaths := [{ swathOf .running with rows := [⟨0, 0, 1, none, [], none⟩] }] }
    ver := { State.reset.ver with entries := [entry0] } }

def oneStarted : State :=
  { oneRow .armed with gy := { State.reset.gy with swaths := [{ swathOf .armed with startAt := some 0 }] } }

/-! ### Start and power -/

/-- Set the parts of the start. -/
def booting (f : Boot → Boot) (s : State := State.reset) : State := { s with boot := f s.boot }
def powering (f : Power → Power) (s : State := State.reset) : State := { s with pw := f s.pw }

/-- Flash bytes from address `a`, those that are 0xFF left out. -/
def flashFrom (a : Nat) (bs : List Byte) : List (Nat × Byte) :=
  (bs.zipIdx.map fun x => (a + x.2, x.1)).filter fun x => x.2 != 0xFF

/-- An unsigned image of one FIRMWARE section of one byte. -/
def image1 : List (Nat × Byte) :=
  let hd := le [(4, 0x5241414D), (2, 1), (2, 0), (2, 0x8260), (1, 0), (1, 0), (4, 8192), (4, 0), (2, 0), (2, 1)] ++
    List.replicate 224 0
  let hd := hd ++ toLE 8 (Crc.crc64 hd)
  let sect := le [(2, sectFirmware), (2, 0), (4, 4096), (4, 1), (4, 0), (8, 0)] ++ List.replicate 40 0
  flashFrom 0 (hd ++ sect) ++ [(4096, 0)]

def sect1 (ty : Nat) : Sect := ⟨ty, 4096, 1, Crc.crc64 [0], []⟩

/-- The start has section `ty` next. -/
def nextIs (ty : Nat) : State :=
  booting fun b => { b with phase := .load, sects := [sect1 ty], todo := [ty], flash := [[(4096, 0)], [(4096, 0)]] }

def onGy (f : Geyser → Geyser) (s : State) : State := { s with gy := f s.gy }

/-! ### Frames -/

/-- A head-link frame of R290. -/
def headFr (ty h seq : Nat) (pay : List Byte) : List Byte :=
  let b := le [(1, ty), (1, h), (2, pay.length / 4), (2, seq), (2, 0)] ++ pay
  b ++ toLE 4 (Crc.crc32c b)

/-- A fabric frame of R375. -/
def fabFr (ty dst src arg : Nat) (pay : List Byte) : List Byte :=
  let b := le [(1, ty), (1, 0), (2, dst), (2, src), (2, pay.length), (2, 0), (1, 8), (1, 0), (4, arg)] ++ pay
  b ++ toLE 4 (Crc.crc32c b)

/-- An ingest frame of R522. -/
def ingFr (ty ch seq a b : Nat) (pay : List Byte) : List Byte :=
  let b := le [(1, ty), (1, ch), (2, pay.length), (2, seq), (2, 0), (4, a), (4, b)] ++ pay
  b ++ toLE 4 (Crc.crc32c b)

def onP (p : Nat) (f : Port → Port) (s : State := State.reset) : State := s.onPort p f
def onH (p h : Nat) (f : HeadLink → HeadLink) (s : State := State.reset) : State := s.onHead p h f
def onF (f : Fabric → Fabric) (s : State := State.reset) : State := { s with fab := f s.fab }
def onDom (d : Nat) (f : Domain → Domain) (s : State := State.reset) : State :=
  { s with doms := s.doms.set d (f (s.dom d)) }

/-- Head `h` of port `p` is present and the port is in state `st`. -/
def headUp (p h st : Nat) (s : State := State.reset) : State :=
  (s.setFld (Reg.HP_PORT_STATUS p) Fld.HP_PORT_STATUS_STATE st).setFld (Reg.HP_HEAD_INFO p h) Fld.HP_HEAD_INFO_PRESENT 1

/-- Fabric port 0 is up, the fabric has settled, and the module has ID 0. -/
def fabUp (s : State := State.reset) : State :=
  let s := s.setFld (Reg.FAB_PORT_STATUS 0) Fld.FAB_PORT_STATUS_STATE 2
  let s := (s.setFld Reg.FAB_STATUS Fld.FAB_STATUS_STATE 3).setFld Reg.FAB_STATUS Fld.FAB_STATUS_ID_VALID 1
  State.onFport { s with locked := true } 0 fun x => { x with mask := 3 }

/-- A swath that has been captured, staged and acknowledged, and may be reported. -/
def mayGo : State :=
  let s := (oneRow .captured).setFld (Reg.HP_HEAD_INFO 0 0) Fld.HP_HEAD_INFO_PRESENT 1
  let s := onP 0 (fun x => { x with hos := [⟨0, 1, 0, [(0, 1)], [0], false⟩] }) s
  let s := { s with ver := { s.ver with entries := [entry0] } }.setFld Reg.FAB_STATUS Fld.FAB_STATUS_STATE 3
  s.setFld (Reg.HP_PORT_STATUS 0) Fld.HP_PORT_STATUS_STATE 6

def fb0 : FbAxis := ⟨0, 0, 0, 0, 0, false, none, none, none, 0, none, []⟩

/-- A waveform set of one class of no pulses. -/
def wave1 : List (Nat × Nat) := [(waveAddr 0, 0x100)]

def onClk (f : Clock → Clock) (s : State := State.reset) : State := { s with clk := f s.clk }

/-- Two modules, this one of serial number 1 and ID 0 and one of serial number 77 and ID 5, on port 0; `root` is the
serial number of the root. -/
def pair (root : Nat) (s : State := State.reset) : State :=
  let s := (fabUp s).setFld (Reg.FAB_PORT_STATUS 0) Fld.FAB_PORT_STATUS_STATE 3
  let s := (s.setRegN Reg.FAB_ROOT_SERIAL_LO root).setFld Reg.FAB_STATUS Fld.FAB_STATUS_ROOT (if root = 1 then 1 else 0)
  onF (fun f => { f with
    db := [⟨1, 1, 0xFFFF, 1, [(77, 0, 3), (0, 0, 0), (0, 0, 0), (0, 0, 0)]⟩,
      ⟨77, 1, 0xFFFF, 1, [(1, 0, 3), (0, 0, 0), (0, 0, 0), (0, 0, 0)]⟩]
    ids := [(1, some 0), (77, some 5)]
    ports := f.ports.set 0 { (f.ports[0]?).getD FabPort.empty with neigh := 77, neighPort := 0, mask := 3 } }) s

/-- A frame to node `n` is held; a part of a table has been seen. -/
def heldFor (n : Nat) : State := onF (fun f => { f with held := [⟨0x14, 0, n, 0, 8, 0, 3, []⟩] }) (pair 1)
def asgSeen : State := onF (fun f => { f with parts := [⟨77, 9, 2, [(1, some 4)]⟩] }) (pair 77)

/-- Port 0 keeps frame 3. -/
def lackPort : State :=
  (pair 1).onFport 0 fun x => { x with retry := [(3, ⟨0x14, 0, 5, 0, 8, 0, 3, []⟩)], resends := 2 }

def onIg (f : Ingest → Ingest) (s : State := State.reset) : State := { s with ing := f s.ing }

/-- The ingest port is ready. -/
def ingUp (s : State := State.reset) : State :=
  (s.setFld Reg.ING_STATUS Fld.ING_STATUS_READY 1).setFld Reg.ING_STATUS Fld.ING_STATUS_LANES 255

/-- Channel `c` in state `st`. -/
def chanIn (c st : Nat) (s : State := State.reset) : State := s.setFld (Reg.ING_CH_STATUS c) Fld.ING_CH_STATUS_STATE st

/-- A descriptor area of 1 MiB at address 0, and every region initialised. -/
def descArea (s : State := State.reset) : State :=
  ((s.setFld Reg.ING_CFG Fld.ING_CFG_DESC_MIB 1).setPair Reg.ING_DESC_BASE_LO 0).setFld Reg.MI_STATUS
    Fld.MI_STATUS_INIT_REGIONS 56

/-- Channel 0 runs and fetches a descriptor of 64 bytes with these flags. -/
def fetchAt (flags : Nat) : State :=
  chanIn 0 2 (onIg (fun g => { g with chans := g.chans.set 0 ⟨none, true, 0, [], []⟩ })
    (descArea ((State.reset.st 16 64).st 20 flags)))

/-- Channel 0 runs a descriptor of 64 bytes with these flags, of which none came yet. -/
def dataAt (flags : Nat) : State :=
  chanIn 0 2 (onIg (fun g => { g with chans := g.chans.set 0 ⟨some ⟨0, 4096, 64, flags, 0, 0⟩, false, 0, [], []⟩ })
    (ingUp (descArea)))

/-- Node 5 is granted the first 8 KiB for WRITE and READ by the last entry, and `k` regions are initialised. -/
def granted5 (k : Nat) (s : State := pair 1) : State :=
  let c := Reg.FAB_GRANT_CTL 63
  let s := ((s.setFld c Fld.FAB_GRANT_CTL_EN 1).setFld c Fld.FAB_GRANT_CTL_NODE 5).setFld c Fld.FAB_GRANT_CTL_BULK 1
  let s := (s.setFld c Fld.FAB_GRANT_CTL_WR 1).setFld c Fld.FAB_GRANT_CTL_RD 1
  (s.setFld Reg.MI_STATUS Fld.MI_STATUS_INIT_REGIONS k).setRegN (Reg.FAB_GRANT_LIMIT_LO 63) 8192

/-- Lane `n` in state `st`. -/
def laneAt (n st : Nat) (s : State := State.reset) : State := s.setFld (Reg.LN_LANE_STATUS n) Fld.LN_LANE_STATUS_STATE st
def onLane (n : Nat) (f : Lane → Lane) (s : State := State.reset) : State :=
  { s with ln := { s.ln with lanes := s.ln.lanes.set n (f (s.lane n)) } }

/-- Port 0 has sent a command of one row to head 0, and an EXC of that head names it. -/
def excState : State :=
  onP 0 (fun x => { x with sentFrames := [⟨0, 9, ⟨0, 1, 0, 0, 0, false, [⟨4, 3, 0, false, 0, [], [(tile0, 5)]⟩]⟩, false⟩] }) (headUp 0 0 6)
def excBytes : List Byte := headFr 140 0 0 (le [(1, 1), (1, 0), (2, 9), (4, 3), (2, 4), (6, 0), (8, 5)])

/-- An abort of the barrier that layer 1 has pending, the state it finds, and that state with the abort noted. -/
def abortFr : List Byte := fabFr 20 65535 5 3 (le [(4, 0)])
def abortSt : State := onF (fun f => { f with pend := some ⟨3, 1, 0, [], none, false⟩ }) (fabUp oneLayer)
def abortV : State :=
  let f := fabParse abortFr
  ((((Safety.fabIn abortSt 0).setFld Reg.FAB_BAR_ABORT Fld.FAB_BAR_ABORT_CAUSE (rd f.pay 0 1)).setFld Reg.FAB_BAR_ABORT
    Fld.FAB_BAR_ABORT_NODE (rd f.pay 2 2)).raise .stopping Reg.FAB_EVENT Fld.FAB_EVENT_BAR_ABORT
    (rd f.pay 0 1) unitFabric).onFab fun g => { g with pend := g.pend.filter fun d => d.id != f.arg }

/-- Every slot of the firmware is armed. -/
def slotsFull : State := (List.range 128).foldl (fun s i => s.setSlot (128 + i) 1) (fabUp)

/-- Domain 0 is disciplined to PPS and acquires, and TREF_IN gives its frequency, or does not. -/
def trefDom0 : State :=
  ((State.reset.setFld (Reg.TB_DOM_CFG 0) Fld.TB_DOM_CFG_SRC 3).setFld (Reg.TB_DOM_STATUS 0)
    Fld.TB_DOM_STATUS_STATE 1).setFld (Reg.TB_DOM_CFG 0) Fld.TB_DOM_CFG_TREF 1
def ppsDom0 : State := trefDom0.setFld (Reg.TB_DOM_CFG 0) Fld.TB_DOM_CFG_TREF 0

/-- TCAL from die sensors 0 and 7. -/
def tcalTwo : State :=
  let s := (State.reset.setFld (Reg.HM_CH_STATUS 0) Fld.HM_CH_STATUS_VALID 1).setFld (Reg.HM_CH_STATUS 7)
    Fld.HM_CH_STATUS_VALID 1
  let l := [0, 7]
  State.followTcal (s.setRegN Reg.HM_TCAL (twos 16
    ((l.foldl (fun (a : Int) c => a + signed 16 (s.regN (Reg.HM_CH_VALUE c))) 0).fdiv l.length) + 65536))

/-- A training set of R409. -/
def tset (ty lane kind : Nat) : List Byte :=
  let b : List Nat := [ty, lane, kind, 0, 0, 0]
  (b ++ [255 ^^^ b.foldl (· ^^^ ·) 0]).map (BitVec.ofNat 8 ·)

/-- A management request without authentication of one read of one word at address 0. -/
def mgtReq (seq : Nat) : List Byte :=
  [1, 1, 0, 0, 0, 1] ++ toBE 2 8 ++ toBE 8 0 ++ toBE 8 seq ++ toBE 4 7 ++ toBE 4 0 ++ [1, 0] ++ toBE 2 1 ++ toBE 4 0

/-- The management lane is in L0 and carries the port. -/
def mgtLane (s : State := State.reset) : State :=
  let s := s.setFld (Reg.LN_LANE_STATUS 40) Fld.LN_LANE_STATUS_STATE 3
  { s with ln := { s.ln with mgtMask := some 1 } }

/-- Domain 1 acquires from the PTP master of domainNumber 255. -/
def ptpDom1 : State :=
  mgtLane (((State.reset.setFld (Reg.TB_DOM_CFG 1) Fld.TB_DOM_CFG_SRC 1).setFld (Reg.TB_DOM_CFG 1)
    Fld.TB_DOM_CFG_PTP_DOM 255).setFld (Reg.TB_DOM_STATUS 1) Fld.TB_DOM_STATUS_STATE 1)

/-- The management port serves. -/
def mgtUp : State := mgtLane <|
  ((booting fun b => { b with phase := .run }).setRegN (Reg.CFG_MILESTONE 5) 1).setFld Reg.PWR_STATUS
    Fld.PWR_STATUS_CUR 0

/-- An Ethernet frame of type `ty` for the module that `mgtUp` is, with this payload. -/
def ethFr (ty : Nat) (pay : List Byte) : List Byte := toBE 6 mgtUp.mac ++ List.replicate 6 0 ++ toBE 2 ty ++ pay

/-- Head port 0 has its four lanes awake. -/
def wideHead : State :=
  (List.range 4).foldl (fun s i => laneAt (16 + i) 3 s)
    ((headUp 0 0 6).setFld (Reg.HP_PORT_STATUS 0) Fld.HP_PORT_STATUS_LANES 15)

def onGen (x : Nat) (f : Gen → Gen) (s : State := State.reset) : State :=
  { s with motion := { s.motion with gens := s.motion.gens.set x (f (s.gen x)) } }
def onDr (f : Dram → Dram) (s : State) : State := { s with dram := f s.dram }

/-- Axis `x` may be enabled; stepper 3 has a band table of one band. -/
def axUp (x : Nat) : State :=
  let s := (withTbl [(0x01FCC000 + 0x40 * 3, 0xFFFFFFFF)]).setFld (Reg.MP_AX_CFG x) Fld.MP_AX_CFG_ENABLE 1
  { (s.setRegN (Reg.MP_AX_VMAX x) 1000).setFld (Reg.FB_AX_STATUS x) Fld.FB_AX_STATUS_STATE 3 with locked := true }

/-- Axis `x` in state `st`. -/
def axAt (x st : Nat) (s : State := State.reset) : State := s.setFld (Reg.MP_AX_STATUS x) Fld.MP_AX_STATUS_STATE st

/-- The latest feedback tick came at TB tick `t`. -/
def withTick (t : Nat) (s : State := State.reset) : State := { s with motion := { s.motion with tickAt := t } }

/-- Input `i` of axis `x` has been high from TB tick 0 to a tick of 10 ms. -/
def pinUp (x i : Nat) (s : State) : State := withTick 10000100 (s.setPin x i ⟨true, 0, 0⟩)

/-- Axis 5 moves down. -/
def limitGen : State := onGen 5 (fun g => { g with v := -65536 }) (axAt 5 3)

/-- The OTP key hash is programmed. -/
def wOtp : State := booting fun b => { b with otp := some [1] }

/-- The PLL is locked. -/
def wPll : State := onClk fun c => { c with pllLocked := true }

/-- The states between the parts of a servo sample of `wPll`: steps made, set-points made, servos sampled. -/
def sampA : State :=
  let e := wPll.elapse wPll.sampleTicks
  (List.range 4).foldl (fun t k => t.stepFollow (e.motion.lastServo.getD (e.clk.ticks - 20000)) k) { e with motion := { e.motion with lastServo := some e.clk.ticks } }
def sampB : State :=
  (List.range 6).foldl (fun t x =>
    if t.flag (Reg.MP_AX_CFG x) Fld.MP_AX_CFG_ENABLE then t.genSample x else t) sampA
def sampC : State :=
  (List.range 2).foldl (fun t x => t.servoAxis x)
    ((List.range 4).foldl (fun t k => (t.bandDue k).stallCheck (k + 2)) sampB)

/-- A swap of axis 0 is requested, and no more. -/
def swapOne : State := { State.reset with cal := { State.reset.cal with swaps := [0] } }
def swapNone : State := swapOne.onCal fun c => { c with swaps := c.swaps.filter (· != 0) }

/-- A copy of page 5 to entry 3 runs; the states as it ends: words copied, entry made, recorded. -/
def copyS : State :=
  onDr (fun d => { d with copying := some (3, 5) }) (State.reset.setFld Reg.MI_STATUS Fld.MI_STATUS_INIT_REGIONS 56)
def copyU : State :=
  (copyS.badWords (4096 * 5) 4096).foldl (fun t w => t.copyWord w)
    ((copyS.flushRange (4096 * 5) 4096).openRows 10 (4096 * 5) 4096)
def copyX : State := (copyU.setTbl (remapBase + 4 * 3) (BitVec.ofNat 32 (2 ^ 31 + 5))).openRows 10 (4096 * 5) 4096
def copyV : State :=
  let s := copyX
  (s.setFld Reg.MI_STATUS Fld.MI_STATUS_REMAP_USED (s.fld Reg.MI_STATUS Fld.MI_STATUS_REMAP_USED + 1)).setFld
    Reg.MI_STATUS Fld.MI_STATUS_COPY_BUSY 0
def copyW : State :=
  (copyV.raiseInfo .degraded Reg.MI_EVENT Fld.MI_EVENT_PAGE_RETIRED 0 (unitDram ((copyS.groupOf (4096 * 5)).1 % 16))
    (4096 * 5)).stateWrite ⟨2, toLE 2 3 ++ [0, 0] ++ toLE 4 5⟩

/-- The parts of the read-back of a block of an empty stream. -/
def verH : List Byte := State.reset.recRead 0 40
def verSp : List (Nat × Nat) := State.reset.recSpans 40 (divUp (rd verH 28 4) 8 * 8)
def verF : State := verSp.foldl (fun t x => t.flushRange x.1 x.2) State.reset
def verU : State := verSp.foldl (fun t x => t.serveRead 7 0 x.1 x.2) verF
def verD : Option (List Byte) :=
  if bit (rd verH 1 1) 0 then some (verU.recRead 40 (rd verH 28 4))
  else Codec.decode (verU.recRead 40 (rd verH 28 4)) (rd verH 20 4) (rd verH 24 4)
def verV : State :=
  verU.snoop ⟨pointStored, 0, [], verD.getD [], rd verH 32 4, verU.recAddr 0, rd verH 4 4, verU.recAddr 0⟩

/-- An open record 0 of class `c` that firmware has not processed, and a log of it alone, which is acknowledged up to
class 1. -/
def logged (c : Nat) : RingEntry := ⟨⟨c, 0, 1, 0, 0, 0, 0, 1, 0, 0⟩, true, false, false⟩
def logOf (c : Nat) : State :=
  let s := (State.reset.setFld Reg.ERR_CFG Fld.ERR_CFG_AUTO_ACK_MAX 1).setRegN Reg.ERR_NEXT_SEQ 1
  onClk (fun c => { c with count := 2 ^ 48 }) { s with log := ⟨[(0, logged c)], [], []⟩ }

/-- Core `n` in state `st`. -/
def coreAt (n st : Nat) (s : State := State.reset) : State :=
  s.setFld (Reg.ERR_CORE_STAT n) Fld.ERR_CORE_STAT_STATE st

/-- Core 11 is in its periodic self-test. -/
def perCore : State := { coreAt 11 2 with cores := { State.reset.cores with periodic := [11] } }

/-- Core 11 has 16 matches and has seen the boundary; the states as it returns. -/
def proven : State :=
  { (coreAt 11 3).setFld (Reg.ERR_CORE_STAT 11) Fld.ERR_CORE_STAT_SHADOW_N 16 with
    cores := { State.reset.cores with bound := [11] } }
def provenU : State := proven.setFld (Reg.ERR_CORE_STAT 11) Fld.ERR_CORE_STAT_ST_FAILS 0
def provenV : State :=
  ({ provenU with cores := { provenU.cores with shadowOf := proven.cores.shadowOf.filter fun e => e.1 != 11 } } :
    State).event Reg.ERR_EVENT Fld.ERR_EVENT_CORE_BACK

end Sys2Proof.Tests
end

