-- ==== Sys2Proof/WellFormed.lean ====
section
/-! DEFINITION. Which commands are well formed: operands that the spec gives a width or a number have it. The
meanings are total and do not rest on this; it says which commands the world can give. Operands whose type bounds
them already need no check. -/

namespace Sys2Proof.WellFormed

open Machine

/-- No value stands twice in the list. -/
def nodup {α : Type} [DecidableEq α] : List α → Bool
  | [] => true
  | a :: l => !l.contains a && nodup l

/-- The path exists: a tunnel's node is a u16 node ID (R675). -/
def pathOk : Path → Bool
  | .tunnel n => n < 2 ^ 16
  | .mgmt => true
  | .spi => true
  | .image => true
  | .firmware => true
  | .action => true

/-- The identity fits its fields: u32, u16, u8 and u32 (the tile's row of the scope's table of terms). -/
def tileOk (t : TileId) : Bool :=
  t.layer < 2 ^ 32 && t.swath < 2 ^ 16 && t.tcol < 2 ^ 8 && t.trow < 2 ^ 32

end Sys2Proof.WellFormed

namespace Sys2Proof

open Machine WellFormed

/-- The command is one the world can give. -/
def Instr.wf : Instr → Bool
  -- R12, R16: an address, and at most one write of each path in a cycle
  | .registerWrite a ws _ => a < 2 ^ 32 && !ws.isEmpty && nodup (ws.map (·.1)) && ws.all (pathOk ·.1)
  | .avsChangeRequest _ _ => true
  | .avsSettled _ => true
  | .avsChangeAbandon _ => true
  | .estop => true
  | .estopSetRepeat => true
  | .estopRelease => true
  | .headResumeSend => true
  | .jobRecord _ => true
  | .layerRecord _ => true
  | .headsWaitEnd => true
  | .cellBegin _ => true
  | .cellEnd _ => true
  | .lattice _ => true
  | .place _ => true
  | .array _ => true
  | .poly _ => true
  | .trap _ => true
  | .rect _ => true
  | .disc _ => true
  | .patch _ => true
  | .material _ => true
  | .dosecurve _ => true
  | .kernel _ => true
  | .field _ => true
  | .swathplan _ => true
  | .checkRecord _ => true
  | .endRecord _ => true
  | .extensionRecord _ _ => true
  | .lpSpaceFreed => true
  | .zlsResume _ => true
  | .abortJob _ => true
  | .tileRowExpand _ _ => true
  -- R133: each shadowing unit differs or does not
  | .tileRowExpandDone _ _ differ => nodup differ
  | .poolStallEnd _ => true
  -- the widths of a tile identity
  | .tileRowLate layer swath row => layer < 2 ^ 32 && swath < 2 ^ 16 && row < 2 ^ 32
  | .expUnitOut _ _ => true
  | .expUnitLeave _ => true
  | .expUnitReturn _ _ => true
  | .xuSelftestDone _ _ => true
  | .xuReenter _ => true
  | .surveyStart => true
  | .surveyDone => true
  -- R128: each line was hit or not
  | .cellCacheFill _ hits _ _ => nodup hits
  -- the widths of a tile identity
  | .tileDispatch t _ _ => tileOk t
  | .parkedTileQuantise _ => true
  | .rasterDone _ _ _ _ _ => true
  | .checkerWaitTimeout t _ => tileOk t
  | .ringSpaceFree t => tileOk t
  | .commitAck t _ _ => tileOk t
  | .fireDeadline t => tileOk t
  | .sparePromote _ => true
  | .verEngOut _ _ => true
  | .verEngReturn _ => true
  | .engOutApply _ => true
  | .engSelftestDone _ _ => true
  | .engShadowReturn _ => true
  | .beamCmd _ _ => true
  | .editOpen _ _ => true
  | .editCommit _ _ => true
  | .editCancel _ _ => true
  | .editValidationDone => true
  | .swathCapture => true
  -- R252: tile columns, each good or bad
  | .lineLoad bad => nodup bad && bad.all (· < 256)
  -- R470: a sample of each axis
  | .feedbackTick samples _ _ => samples.length == 6
  | .strobePulse _ => true
  | .governorPeriod => true
  -- R268: a barrier ID is a u32
  | .swathReady bar => bar < 2 ^ 32
  | .swathStartAction => true
  | .swathEndBoundary => true
  | .stopSwath => true
  | .swathStall => true
  | .headTempStale _ _ => true
  | .tmarkPeriod _ _ => true
  | .headTmarkUp _ _ _ => true
  | .echoFrame _ _ => true
  | .hoAckFrame _ _ => true
  | .sbRspFrame _ _ => true
  | .enumRspFrame _ _ => true
  | .telemFrame _ _ => true
  | .excFrame _ _ => true
  | .statusFrame _ _ => true
  | .fireFrameSend _ _ => true
  | .sbReqTimeout _ _ => true
  | .headStatusTimeout _ _ => true
  | .hoAckTimeout _ _ => true
  | .enumRetry _ => true
  | .portTimeTimeout _ => true
  | .timeLockLoss _ => true
  | .lwidthEcho _ _ => true
  | .hpPortRestart _ _ => true
  | .sbIdentityReread _ => true
  | .sbNozzleCheck _ => true
  | .sbTelemetryPoll _ => true
  | .waveCommit _ _ => true
  | .waveValidationDone => true
  | .tbPllLock _ => true
  | .tbIncrWrite _ _ => true
  | .tbStepCmd _ => true
  | .tbAdjCommit _ _ => true
  | .tbPpsSecWrite _ _ => true
  | .slewComplete => true
  | .ptpAnnounce _ _ => true
  -- R335: sequenceId is a u16
  | .ptpSync _ _ seq _ _ _ _ => seq < 2 ^ 16
  | .ptpFollowUp _ _ seq _ _ => seq < 2 ^ 16
  | .delayReqSend _ _ => true
  | .ptpDelayResp _ _ seq _ _ _ => seq < 2 ^ 16
  | .ppsInEdge _ _ => true
  | .domainSampleTimeout _ => true
  | .stepApply => true
  | .taArm _ _ => true
  | .taDisarm _ _ => true
  | .taDispatch => true
  | .barrierAction => true
  | .handoverAction => true
  | .calApplyAction => true
  | .powerAction => true
  | .domainSwitch => true
  | .gpioSet => true
  | .ppsOutPulse => true
  | .aonRatioLearn _ => true
  | .helloSet _ _ _ _ => true
  | .helloSend _ => true
  | .linkKeepalive _ => true
  | .lackSet _ _ _ => true
  | .creditSet _ _ _ => true
  | .fabLwidth _ _ => true
  | .linkResendTimeout _ => true
  | .linkSilenceTimeout _ => true
  | .topoFrame _ _ => true
  | .topoRefresh => true
  | .topoEntryExpire serial => serial < 2 ^ 32
  | .settleTimeout => true
  | .loneRootTimeout => true
  | .assignFrame _ _ => true
  | .routeHoldTimeout => true
  | .tsyncFrame _ _ => true
  | .ftmarkReceive _ _ _ _ _ => true
  -- R391: four fabric ports
  | .ftmarkPeriod phases => phases.length == 4
  | .barArriveFrame _ _ => true
  | .barArriveResend => true
  | .barReleaseFrame _ _ => true
  | .barAbortFrame _ _ => true
  | .barTimeout bar => bar < 2 ^ 32
  | .govFrame _ _ => true
  | .timedFrame _ _ => true
  | .mcAckFrame _ _ => true
  | .mcNakFrame _ _ => true
  | .mcAckTimer => true
  | .nakFrame _ _ => true
  | .retryLaterResend => true
  | .frozenFrame _ _ => true
  | .ingFrame _ _ => true
  | .writeFrame _ _ => true
  | .readFrame _ _ => true
  | .readRspFrame _ _ => true
  | .wackFrame _ _ => true
  | .flowTimeout _ _ => true
  | .tunReqFrame _ _ => true
  | .tunRspFrame _ _ => true
  | .laneEnergyDetect _ => true
  | .laneEnergyLoss _ => true
  -- R413: a training set is a comma and seven bytes
  | .tsSetReceive _ ts _ _ => ts.length == 7
  | .trainStepTimeout _ => true
  | .trainDwellDone _ => true
  | .laneErrorLimit _ _ => true
  | .cdrLockLoss _ => true
  | .laneRetryTimer _ => true
  | .standbyProofDone _ => true
  | .laneAdmit _ => true
  | .laneRetrain _ _ => true
  | .laneOut _ _ => true
  | .lanePwrLs _ _ => true
  | .lanePwrLd _ _ => true
  | .lanePwrExit _ => true
  | .eiLsReceive _ => true
  | .eiLdReceive _ => true
  | .pwrHandshakeTimeout _ => true
  | .ldExitLock _ => true
  | .ldExitTimeout _ => true
  | .wakePatternDetect _ _ => true
  | .strapChange _ => true
  | .axisStart _ _ _ => true
  | .axisStop _ => true
  | .axisHome _ _ => true
  | .axisEnable _ => true
  | .axisDisable _ => true
  | .axisClear _ => true
  | .motionParamWrite _ _ _ => true
  | .servoSample => true
  | .bandChangeApply _ => true
  | .msSetupEnd _ => true
  | .inputQualify _ _ _ _ => true
  | .indexEvent _ _ _ => true
  | .wireFault _ _ => true
  | .commonModeMeasure _ _ _ => true
  | .feedbackFaultClear _ => true
  | .converterSwap _ _ _ => true
  | .idxRefCommit _ _ _ => true
  | .cmpArm _ _ => true
  | .cmpDisarm _ => true
  | .injStart _ _ => true
  | .injStop _ => true
  | .captureStart _ => true
  | .captureStartWithInj _ => true
  | .dramTrainingDone _ _ => true
  -- R497, R508: an address, and the 72 bits of a protected word
  | .dramRead _ _ addr _ upsets _ => addr < 2 ^ 40 && upsets.all (·.2 < 2 ^ 72)
  | .dramWrite _ _ addr _ _ => addr < 2 ^ 40
  | .mergeFlush _ => true
  | .rhWindowReset => true
  | .scrubStep upsets => upsets.all (·.2 < 72)
  | .initRegionDone _ => true
  | .pageRetire _ => true
  | .pageCopyDone => true
  | .bankRetireRequest _ _ => true
  | .bankRetireCancel _ => true
  | .flipArm _ => true
  | .dataFrame _ => true
  | .descWrFrame _ => true
  | .doorbell _ => true
  | .chStart _ => true
  | .chRestart _ => true
  | .chAbort _ => true
  | .statusReq _ => true
  | .channelRun => true
  | .descFetch _ _ => true
  | .descComplete => true
  | .dmaBusError _ _ => true
  | .crcUnitEnable _ _ => true
  | .crcUnitDisable _ _ => true
  | .recReqRead _ => true
  | .recReqRelease _ => true
  | .recReqIndex _ => true
  | .recReleaseCommit _ _ => true
  | .layerEndWrite => true
  | .recordVerifyDone => true
  | .vinGood => true
  | .vinLoss _ => true
  | .vinOvervoltage => true
  | .resetN _ => true
  | .railFault _ => true
  | .internalResetRelease _ _ _ _ => true
  | .imageSectionRead _ _ => true
  | .firmwareStartTimeout => true
  | .configLock _ _ => true
  | .cfgLock _ _ => true
  | .cfgRestart _ => true
  | .updProgram _ => true
  -- R588: a chunk has at most 1,048,576 bytes
  | .updProgramDone diffs => nodup (diffs.map (·.1)) && diffs.all (·.1 < 1048576)
  | .updCheck _ _ => true
  | .updHandover => true
  | .updAbortHandover => true
  | .handoverRoleMove => true
  | .otpProgram _ => true
  | .otpProgramDone _ => true
  | .pwrRequest _ _ => true
  | .pwrStepDone _ => true
  | .vcorePoll _ _ => true
  | .vcoreTimeout => true
  | .idleAfterTimeout => true
  | .wakePin _ _ _ => true
  | .wakeTimer => true
  | .wakeDramRetrained _ => true
  | .hmSample _ _ _ _ => true
  | .tcalUpdate => true
  | .calRun _ _ => true
  | .calFix _ _ => true
  | .calInterp _ _ => true
  | .calClearFail _ => true
  | .sensorCalTimer => true
  | .convCalTimer _ => true
  | .firingCalTimer => true
  -- R621: both measurements are of the same values
  | .calMeasureDone _ m1 m2 => m1.length == m2.length
  | .firingDelayStep _ => true
  | .errRecordProcess => true
  | .errAck _ _ => true
  | .errAckUpto _ => true
  | .coreWatchdogTimeout _ => true
  -- R657: each shadow core agrees or does not
  | .checkpointTimer bad _ => nodup bad
  | .errCoreOut _ _ => true
  | .errCoreReturn _ => true
  | .coreSelftestDone _ _ => true
  | .coreSpareReturn _ => true
  | .spareSelftestTimer _ => true
  | .accUnfreeze _ _ => true
  | .mgtRequest _ => true
  | .spiRead _ _ => true
  | .spiWrite _ _ => true
  | .spiStatus => true
  | .mgtKeyCommit _ _ _ _ => true
  | .unsupportedRecord _ _ => true
  | .frameCrcError _ => true
  | .erroredCharacter _ => true
  | .controlStateDisagreement _ => true

end Sys2Proof
end

