-- ==== Sys2Proof/Tests/Slice0.lean ====
section
/-! SUPPORT. The model's own tests: a term that each check of WellFormed refuses, and the worked examples of the
spec. The numbers of every example stand in the spec's file that the comment names; none comes from the model. -/

set_option Elab.async false

set_option linter.all false

open Sys2Proof Sys2Proof.Bits Sys2Proof.Machine Sys2Proof.Safety Sys2Proof.Tests

namespace Sys2Proof.Tests

/-! ### Well-formedness: each check refuses -/

theorem test_wf_write : (Instr.registerWrite 0x100 [(.mgmt, 1), (.spi, 2)] 0).wf = true := by decide +kernel
theorem test_wf_write_wide : (Instr.registerWrite (2 ^ 32) [(.mgmt, 1)] 0).wf = false := by decide +kernel
theorem test_wf_write_none : (Instr.registerWrite 0x100 [] 0).wf = false := by decide +kernel
theorem test_wf_write_twice : (Instr.registerWrite 0x100 [(.mgmt, 1), (.mgmt, 2)] 0).wf = false := by decide +kernel
theorem test_wf_write_node : (Instr.registerWrite 0x100 [(.tunnel 65536, 1)] 0).wf = false := by decide +kernel
theorem test_wf_differ : (Instr.tileRowExpandDone 0 5 [1, 1]).wf = false := by decide +kernel
theorem test_wf_late : (Instr.tileRowLate 1 65536 0).wf = false := by decide +kernel
theorem test_wf_tile : (Instr.tileDispatch ⟨1, 0, 256, 0⟩ 0 .primary).wf = false := by decide +kernel
theorem test_wf_checker : (Instr.checkerWaitTimeout ⟨2 ^ 32, 0, 0, 0⟩ 0).wf = false := by decide +kernel
theorem test_wf_ring : (Instr.ringSpaceFree ⟨0, 65536, 0, 0⟩).wf = false := by decide +kernel
theorem test_wf_commit : (Instr.commitAck ⟨0, 0, 0, 2 ^ 32⟩ [] []).wf = false := by decide +kernel
theorem test_wf_deadline : (Instr.fireDeadline ⟨0, 0, 256, 0⟩).wf = false := by decide +kernel
theorem test_wf_line : (Instr.lineLoad [300]).wf = false := by decide +kernel
theorem test_wf_cache : (Instr.cellCacheFill 0 [4, 4] 0 .clean).wf = false := by decide +kernel
theorem test_wf_feedback : (Instr.feedbackTick [] 0 []).wf = false := by decide +kernel
theorem test_wf_ready : (Instr.swathReady (2 ^ 32)).wf = false := by decide +kernel
theorem test_wf_barrier : (Instr.barTimeout (2 ^ 32)).wf = false := by decide +kernel
theorem test_wf_sync : (Instr.ptpSync 0 0 65536 false 0 0 0).wf = false := by decide +kernel
theorem test_wf_follow : (Instr.ptpFollowUp 0 0 65536 0 0).wf = false := by decide +kernel
theorem test_wf_resp : (Instr.ptpDelayResp 0 0 65536 true 0 0).wf = false := by decide +kernel
theorem test_wf_set : (Instr.tsSetReceive 0 [0xB1] false 0).wf = false := by decide +kernel
theorem test_wf_marks : (Instr.ftmarkPeriod [0]).wf = false := by decide +kernel
theorem test_wf_read : (Instr.dramRead 0 0 0 8 [(0, 2 ^ 72)] []).wf = false := by decide +kernel
theorem test_wf_store : (Instr.dramWrite 0 none (2 ^ 40) [0] []).wf = false := by decide +kernel
theorem test_wf_scrub : (Instr.scrubStep [(0, 72)]).wf = false := by decide +kernel
theorem test_wf_program : (Instr.updProgramDone [(1048576, 0)]).wf = false := by decide +kernel
theorem test_wf_measure : (Instr.calMeasureDone 0 [1] []).wf = false := by decide +kernel
theorem test_wf_checkpoint : (Instr.checkpointTimer [2, 2] []).wf = false := by decide +kernel
theorem test_wf_topo : (Instr.topoEntryExpire (2 ^ 64)).wf = false := by decide +kernel
theorem test_wf_plain : Instr.estop.wf = true := by decide +kernel

/-! ### No word spells a command -/

/-- The opcode table gives no row bits. -/
theorem test_no_word : decodeTableWord 32 0xFFFFFFFF = none := by decide

/-! ### Arithmetic of spec/00_scope.md -/

/-- −7 shifted right by 1 is −4; −7 div 2 is −3. -/
theorem test_arith : sar (-7) 1 = -4 ∧ divT (-7) 2 = -3 ∧ (-7 : Int) % 4 = 1 := by decide +kernel

/-! ### Check values (R51, R104, R539) and the FIPS 180-4 example of "abc" -/

def digits : List Byte := [0x31, 0x32, 0x33, 0x34, 0x35, 0x36, 0x37, 0x38, 0x39]

theorem test_crc32 : Crc.crc32 digits = 0xCBF43926 := by decide +kernel
theorem test_crc32c : Crc.crc32c digits = 0xE3069283 := by decide +kernel
theorem test_crc64 : Crc.crc64 digits = 0x6C40DF5F0B497347 := by decide +kernel
theorem test_crc16 : Crc.crc16 digits = 0x29B1 := by decide +kernel
theorem test_sha256 : ofBE (Crc.sha256 [0x61, 0x62, 0x63]) =
    0xba7816bf8f01cfea414140de5dae2223b00361a396177a9cb410ff61f20015ad := by decide +kernel
/-- The base point of SEC 1's P-256 lies on the curve. -/
theorem test_p256 : P256.onCurve P256.gx P256.gy = true := by decide +kernel

/-! ### Geometry, dose and raster: spec/02 to spec/05 -/

/-- The strut turned by orientation 5. -/
theorem test_orient : orient 5 (-128000) (-25600) = (25600, 128000) ∧
    (Box.mk (-128000) (-25600) 128000 25600).map 5 0 0 = ⟨-25600, -128000, 25600, 128000⟩ := by decide +kernel

/-- The gain 0.75 of the 3 × 3 field. -/
theorem test_field_gain :
    fieldGain (some ⟨3, 3, 0, 0, 2560000, 2560000, [4096, 6144, 0, 2048, 4096, 0, 0, 0, 0]⟩) 640000 1920000 = 3072 := by
  decide +kernel

/-- The pixel that a slanted edge cuts has coverage 2,368. -/
theorem test_coverage : coverage ⟨0, 0, 2560, 2560⟩
    [⟨0, .poly false [(-10000, -1280), (1000, -1280), (-600, 1280), (-10000, 1280)], 0, 0, layerXform⟩] 0 0 0 = 2368 := by
  decide +kernel

/-- 27,216 at 4 bits is code 6 with the error split 501, 250, 251. -/
theorem test_quantise_four : quantise 4 27216 = (6, 501, 250, 251) := by decide +kernel

/-- 30,000 and 45,000 at 2 bits. -/
theorem test_quantise_two : quantise 2 30000 = (1, 4077, 2039, 2039) ∧ quantise 2 45000 = (2, 655, 327, 328) := by
  decide +kernel

/-- A dead column gives 15,000 to each neighbour. -/
theorem test_takeover :
    let live : ColInfo := ⟨false, true, 0, 2, []⟩
    let r := takeover [live, ⟨false, false, 0, 2, [(-1, 128), (1, 128)]⟩, live] 1 30000
    (r.foldl (fun a x => if x.1 = 0 then a + x.2 else a) 0, r.foldl (fun a x => if x.1 = 2 then a + x.2 else a) 0) =
      (15000, 15000) := by decide +kernel

/-! ### Time: spec/10 -/

/-- A slew of 100 ppb steps by 27 units, and 730 ns takes 7,257,699,366 ticks. -/
theorem test_slew : slewStepOf 100 = 27 ∧ divUp (730 * 2 ^ 28) 27 = 7257699366 := by decide +kernel

/-- A wake restores the time and shows the hold time. -/
theorem test_wake :
    let s := (onClk fun c => { c with deepHeld := true, deepT0 := 86400250000000 * 65536, deepC0 := 5 }).setPair
      Reg.TB_AON_RATIO_LO (20 * 2 ^ 32 + 25600)
    let t := s.restoreTime (5 + 2 ^ 38)
    t.now16 = 91897809777280 * 65536 ∧ t.regN Reg.TB_HOLD_NS = 5497600 := by decide +kernel

/-! ### Motion and feedback: spec/13 and spec/14 -/

/-- The stopping distance of the cruising axis. -/
theorem test_stop_dist : stopDist (128000000 * 65536) 0 32000000 6250000 = 17280000 * 65536 := by decide +kernel

/-- The raw position of count 1,000,000. -/
theorem test_raw : ((State.reset.setPair (Reg.FB_AX_SCALE_LO 0) 0x140000000).rawOf 0 1000000) = 81920000000 := by
  decide +kernel

/-- The jitter is presented as the table shows. -/
theorem test_present : present 1000000 false 999999 = (1000000, false) ∧ present 1000000 false 999998 = (999999, true) ∧
    present 999999 true 999999 = (999999, true) ∧ present 999999 true 1000001 = (1000000, false) := by decide +kernel

/-! ### Memory, records, areas and calibration: spec/15, spec/17, spec/18, spec/20 -/

/-- The address of the example goes to channel 15, bank 0, line 589,843. -/
theorem test_address : State.reset.groupOf 0x200041A40 = (15, 65538) ∧ 9 * 65538 + 0x200041A40 / 64 % 8 = 589843 := by
  decide +kernel

/-- The 14 bytes decode to the two lines. -/
theorem test_codec : Codec.decode [0x85, 0, 0x81, 0x55, 0x03, 0x1B, 0xE4, 0, 0, 0xCA, 0x02, 0xE0, 0, 0] 16 32 =
    some [0, 0, 0, 0, 0, 0, 0, 0, 0x55, 0x55, 0x55, 0x55, 0x1B, 0xE4, 0, 0,
      0, 0, 0, 0, 0, 0, 0, 0, 0x55, 0x55, 0x55, 0x55, 0x1B, 0xE0, 0, 0] := by decide +kernel

/-- The areas of the image. -/
theorem test_areas :
    let s := (withRegs [(Reg.GY_RING_MIB, 8192), (Reg.EXP_BINPOOL_SIZE, 4096), (Reg.CMP_REC_MIB, 16384)]).placeAreas
    (List.range 5).map (fun i => s.pair (Reg.CFG_AREA_BASE_LO i)) =
      [0, 0x6C0000000, 0x7C0000000, 0x9C0000000, 0xDC0000000] := by decide +kernel

/-- The trim of row 6 at 52.5 °C. -/
theorem test_interp : interp 840 [(640, 120), (960, 134)] = 129 := by decide +kernel

/-! ### Commands, one step each -/

/-- ESTOP_N low shows in GY_STATUS. -/
theorem test_estop_low : (match execEstop State.reset with
    | .next t => t.flag Reg.GY_STATUS Fld.GY_STATUS_ESTOP | _ => false) = true := by decide +kernel

/-- An empty queue: one tick of Wellspring (log entry 2). -/
theorem test_idle : (match step State.reset with | .next t => t.pending.isEmpty | _ => false) = true := by
  decide +kernel

end Sys2Proof.Tests
end

