-- ==== Sys2Proof/Tests/Witness1.lean ====
section
/-! SUPPORT. Witnesses: for each statement with hypotheses, operands and a state that meet them together, one theorem
for each clause. -/

set_option linter.all false
set_option Elab.async false

open Sys2Proof Sys2Proof.Bits Sys2Proof.Machine Sys2Proof.Safety Sys2Proof.Tests Sys2Proof.Laws

namespace Sys2Proof.Tests

theorem wit_StepRunsFront_0 :
    ∃ (c : Instr) (q : List Instr) (s : State), s.pending = c :: q :=
  ⟨.estop, [], State.reset.withPending [.estop], by decide +kernel⟩

theorem wit_IdleStepTicks_0 :
    ∃ (s : State), s.pending = [] :=
  ⟨State.reset, by decide +kernel⟩

theorem wit_StepKeepsInvariant_0 :
    ∃ (s t : State), Inv s ∧ step s = .next t :=
  ⟨State.reset, State.reset.elapse 1, inv_by (by decide +kernel), rfl⟩

theorem wit_OtpHashStays_0 :
    ∃ (s t : State) (k : List Byte), Inv s ∧ s.boot.otp = some k ∧ step s = .next t :=
  ⟨wOtp, wOtp.elapse 1, [1], inv_by (by decide +kernel), by decide +kernel, rfl⟩

theorem wit_CommandsTouchTheirParts_0 :
    ∃ (c : Instr) (s t : State) (p : Part), exec c s = .next t ∧ p ∉ parts c :=
  ⟨.estopSetRepeat, State.reset, State.reset, .mem, rfl, by decide +kernel⟩

theorem wit_FreeValuesOnce_0 :
    ∃ (c : Instr) (s t : State), exec c s = .next t :=
  ⟨.estopSetRepeat, State.reset, State.reset, rfl⟩

theorem wit_OnlyAbsentDramStops_0 :
    ∃ (c : Instr) (s : State), (∀ r u a n k l, c = .dramRead r u a n k l → a + n ≤ dramEnd) ∧ (∀ r m a d k, c =
      .dramWrite r m a d k → a + d.length ≤ dramEnd ∨ ∃ x : Fin 24, m = some x ∧ inSpan (s.grantsOf x) a
      d.length = false) :=
  ⟨.estop, State.reset, by simp, by simp⟩

end Sys2Proof.Tests
end

