-- ==== Sys2Proof/Tests/Witness2.lean ====
section
/-! SUPPORT. Witnesses: for each statement with hypotheses, operands and a state that meet them together, one theorem
for each clause. -/

set_option linter.all false
set_option Elab.async false

open Sys2Proof Sys2Proof.Bits Sys2Proof.Machine Sys2Proof.Safety Sys2Proof.Tests Sys2Proof.Laws

namespace Sys2Proof.Tests

theorem wit_AbsentDramFaults_0 :
    ∃ (r : Fin 11) (u a n : Nat) (k : List (Nat × Nat)) (l : List Nat) (s : State), dramEnd < a + n :=
  ⟨0, 0, dramEnd, 1, [], [], State.reset, by decide +kernel⟩

theorem wit_AbsentDramFaults_1 :
    ∃ (r : Fin 11) (m : Option (Fin 24)) (a : Nat) (d : List Byte) (k : List Nat) (s : State), dramEnd < a +
      d.length ∧ (∀ x : Fin 24, m = some x → inSpan (s.grantsOf x) a d.length = true) :=
  ⟨0, none, dramEnd, [0], [], State.reset, by decide +kernel, by simp⟩

theorem wit_RegisterWritesTakeEffect_0 :
    ∃ (a : Nat) (p : Path) (w hw : Word) (d : RegMap.RegDesc) (k : Nat) (s : State), s.access p a = .ok ∧ a <
      0x01000000 ∧ (p = .spi → s.flag Reg.MGT_CFG Fld.MGT_CFG_SPI_RO = true → spiMay a = true) ∧ s.ruleWrite p
      none a w = none ∧ s.shadowed a = none ∧ RegMap.find a = some (d, k) ∧ (d.access = .rw ∨ d.access = .w1c) ∧
      RegMap.isLo a = false ∧ RegMap.isLo (a - 4) = false ∧ d.rwl = 0 :=
  ⟨Reg.GLB_SCRATCH, .mgmt, 0xFFFFFFFF, 1, (the (RegMap.find Reg.GLB_SCRATCH)).1, (the (RegMap.find
   Reg.GLB_SCRATCH)).2, { State.reset with locked := true, boot := { State.reset.boot with phase := .run } },
   by decide +kernel, by decide +kernel, by simp, by decide +kernel, by decide +kernel, find_the _,
   by decide +kernel, by decide +kernel, by decide +kernel, by decide +kernel⟩

theorem wit_RegisterWritesTakeEffect_1 :
    ∃ (a : Nat) (p : Path) (w hw : Word) (d : RegMap.RegDesc) (k : Nat) (s : State), s.access p a = .ok ∧ a <
      0x01000000 ∧ (p = .spi → s.flag Reg.MGT_CFG Fld.MGT_CFG_SPI_RO = true → spiMay a = true) ∧ s.ruleWrite p
      none a w = none ∧ s.shadowed a = none ∧ RegMap.find a = some (d, k) ∧ (d.access = .ro ∨ d.access = .roh ∨
      d.access = .wo) :=
  ⟨Reg.GLB_DEVICE_ID, .mgmt, 0xFFFFFFFF, 1, (the (RegMap.find Reg.GLB_DEVICE_ID)).1, (the (RegMap.find
   Reg.GLB_DEVICE_ID)).2, { State.reset with locked := true, boot := { State.reset.boot with phase := .run } },
   by decide +kernel, by decide +kernel, by simp, by decide +kernel, by decide +kernel, find_the _,
   by decide +kernel⟩

theorem wit_RegisterWritesTakeEffect_2 :
    ∃ (a : Nat) (p : Path) (w hw : Word) (d : RegMap.RegDesc) (k : Nat) (s : State), s.access p a = .ok ∧ a <
      0x01000000 ∧ (p = .spi → s.flag Reg.MGT_CFG Fld.MGT_CFG_SPI_RO = true → spiMay a = true) ∧ s.ruleWrite p
      none a w = none ∧ s.shadowed a = none ∧ RegMap.find a = some (d, k) ∧ d.access = .rw ∧ RegMap.isLo a =
      true ∧ RegMap.isLo (a - 4) = false ∧ s.writable d ≠ 0 :=
  ⟨(Reg.FB_CMP_TARGET_LO 0), .mgmt, 0xFFFFFFFF, 1, (the (RegMap.find (Reg.FB_CMP_TARGET_LO 0))).1, (the
   (RegMap.find (Reg.FB_CMP_TARGET_LO 0))).2,
   { State.reset with locked := true, boot := { State.reset.boot with phase := .run } }, by decide +kernel,
   by decide +kernel, by simp, by decide +kernel, by decide +kernel, find_the _, by decide +kernel,
   by decide +kernel, by decide +kernel, by decide +kernel⟩

theorem wit_RegisterWritesTakeEffect_3 :
    ∃ (a : Nat) (p : Path) (w hw : Word) (d : RegMap.RegDesc) (k : Nat) (s : State), s.access p a = .ok ∧ a <
      0x01000000 ∧ (p = .spi → s.flag Reg.MGT_CFG Fld.MGT_CFG_SPI_RO = true → spiMay a = true) ∧ s.ruleWrite p
      none a w = none ∧ s.shadowed a = none ∧ RegMap.find a = some (d, k) ∧ d.access = .rw ∧ RegMap.isLo a =
      false ∧ RegMap.isLo (a - 4) = true ∧ s.writable d ≠ 0 :=
  ⟨(Reg.FB_CMP_TARGET_LO 0 + 4), .mgmt, 0xFFFFFFFF, 1, (the (RegMap.find (Reg.FB_CMP_TARGET_LO 0 + 4))).1, (the
   (RegMap.find (Reg.FB_CMP_TARGET_LO 0 + 4))).2,
   { State.reset with locked := true, boot := { State.reset.boot with phase := .run } }, by decide +kernel,
   by decide +kernel, by simp, by decide +kernel, by decide +kernel, find_the _, by decide +kernel,
   by decide +kernel, by decide +kernel, by decide +kernel⟩

theorem wit_StreamRecordsTaken_0 :
    ∃ (rest : List Byte) (s : State) (b : List Byte), b = BitVec.ofNat 8 typeCellBegin :: rest ∧ Takes s
      typeCellBegin b :=
  ⟨(rec typeCellBegin 0 1 (le [(4, 1), (2, 1), (2, 0), (8, 0), (4, 0), (4, 0), (4, 9), (4, 9)])).tail, parsing
   prologue, (rec typeCellBegin 0 1 (le [(4, 1), (2, 1), (2, 0), (8, 0), (4, 0), (4, 0), (4, 9), (4, 9)])),
   by decide +kernel, by decide +kernel⟩

theorem wit_StreamRecordsTaken_1 :
    ∃ (rest : List Byte) (s : State) (b : List Byte), b = BitVec.ofNat 8 typeLattice :: rest ∧ Takes s
      typeLattice b :=
  ⟨(rec typeLattice 0 1 (le [(2, 0), (2, 0), (4, 0)])).tail, parsing (wcell 2 []), (rec typeLattice 0 1 (le [(2,
   0), (2, 0), (4, 0)])), by decide +kernel, by decide +kernel⟩

theorem wit_StreamRecordsTaken_2 :
    ∃ (rest : List Byte) (s : State) (b : List Byte), b = BitVec.ofNat 8 typePlace :: rest ∧ Takes s typePlace b
      ∧ bodyOpen s.parser.cur :=
  ⟨(rec typePlace 0 1 (le [(4, 2), (4, 7), (4, 5), (4, 6), (8, 0)])).tail, parsing
   { wcell 1 [] with cells := [(2, cell2)] }, (rec typePlace 0 1 (le [(4, 2), (4, 7), (4, 5), (4, 6), (8, 0)])),
   by decide +kernel, by decide +kernel, by decide +kernel⟩

theorem wit_StreamRecordsTaken_3 :
    ∃ (rest : List Byte) (s : State) (b : List Byte), b = BitVec.ofNat 8 typeArray :: rest ∧ Takes s typeArray b
      ∧ bodyOpen s.parser.cur :=
  ⟨(rec typeArray 0 1 (le [(4, 2), (4, 0), (4, 5), (4, 6), (4, 0), (4, 3), (4, 2), (4, 10), (4, 0), (4, 0), (4,
   10), (4, 0)])).tail, parsing { wcell 1 [] with cells := [(2, cell2)] }, (rec typeArray 0 1 (le [(4, 2), (4,
   0), (4, 5), (4, 6), (4, 0), (4, 3), (4, 2), (4, 10), (4, 0), (4, 0), (4, 10), (4, 0)])), by decide +kernel,
   by decide +kernel, by decide +kernel⟩

theorem wit_StreamRecordsTaken_4 :
    ∃ (rest : List Byte) (s : State) (b : List Byte), b = BitVec.ofNat 8 typeTrap :: rest ∧ Takes s typeTrap b ∧
      bodyOpen s.parser.cur :=
  ⟨(rec typeTrap 0 1 (le [(4, 0), (4, 0), (4, 9), (4, 0), (4, 5), (4, 1), (4, 4), (4, 0)])).tail, parsing (wlayer
   .geometry), (rec typeTrap 0 1 (le [(4, 0), (4, 0), (4, 9), (4, 0), (4, 5), (4, 1), (4, 4), (4, 0)])),
   by decide +kernel, by decide +kernel, by decide +kernel⟩

theorem wit_StreamRecordsTaken_5 :
    ∃ (rest : List Byte) (s : State) (b : List Byte), b = BitVec.ofNat 8 typeRect :: rest ∧ Takes s typeRect b ∧
      bodyOpen s.parser.cur :=
  ⟨(rec typeRect 0 1 (le [(4, 0), (4, 0), (4, 0), (4, 9), (4, 0), (4, 0)])).tail, parsing (wlayer .geometry), (rec
   typeRect 0 1 (le [(4, 0), (4, 0), (4, 0), (4, 9), (4, 0), (4, 0)])), by decide +kernel, by decide +kernel,
   by decide +kernel⟩

theorem wit_StreamRecordsTaken_6 :
    ∃ (rest : List Byte) (s : State) (b : List Byte), b = BitVec.ofNat 8 typeDisc :: rest ∧ Takes s typeDisc b ∧
      bodyOpen s.parser.cur :=
  ⟨(rec typeDisc 0 1 (le [(4, 0), (4, 5), (4, 5), (4, 4), (4, 3), (4, 0)])).tail, parsing (wlayer .geometry), (rec
   typeDisc 0 1 (le [(4, 0), (4, 5), (4, 5), (4, 4), (4, 3), (4, 0)])), by decide +kernel, by decide +kernel,
   by decide +kernel⟩

theorem wit_StreamRecordsTaken_7 :
    ∃ (rest : List Byte) (s : State) (b : List Byte), b = BitVec.ofNat 8 typeMaterial :: rest ∧ Takes s
      typeMaterial b :=
  ⟨(rec typeMaterial 0 1 (le [(1, 1), (1, 1), (1, 2), (1, 3), (1, 0), (1, 0), (2, 65535), (8, 7), (8, 0)])).tail,
   parsing prologue, (rec typeMaterial 0 1 (le [(1, 1), (1, 1), (1, 2), (1, 3), (1, 0), (1, 0), (2, 65535), (8,
   7), (8, 0)])), by decide +kernel, by decide +kernel⟩

theorem wit_StreamRecordsTaken_8 :
    ∃ (rest : List Byte) (s : State) (b : List Byte), b = BitVec.ofNat 8 typeCurve :: rest ∧ Takes s typeCurve b
      :=
  ⟨(rec typeCurve 0 1 (le [(8, 0), (8200, 0)])).tail, parsing prologue, rec typeCurve 0 1 (le [(8, 0), (8200,
   0)]), rec_cons, by decide +kernel⟩

theorem wit_StreamRecordsTaken_9 :
    ∃ (rest : List Byte) (s : State) (b : List Byte), b = BitVec.ofNat 8 typeKernel :: rest ∧ Takes s typeKernel
      b :=
  ⟨(rec typeKernel 0 1 (le [(8, 0)])).tail, parsing prologue, (rec typeKernel 0 1 (le [(8, 0)])),
   by decide +kernel, by decide +kernel⟩

theorem wit_StreamRecordsTaken_10 :
    ∃ (rest : List Byte) (s : State) (b : List Byte), b = BitVec.ofNat 8 typeSwathplan :: rest ∧ Takes s
      typeSwathplan b ∧ s.parser.cur.openLayer.isSome = true :=
  ⟨(rec typeSwathplan 0 1 (le [(2, 1), (6, 0), (2, 0), (2, 1), (2, 1), (2, 0), (4, 0), (4, 0), (4, 1), (4, 0), (4,
   0), (4, 0)])).tail, parsing (wlayer .fields), (rec typeSwathplan 0 1 (le [(2, 1), (6, 0), (2, 0), (2, 1), (2,
   1), (2, 0), (4, 0), (4, 0), (4, 1), (4, 0), (4, 0), (4, 0)])), by decide +kernel, by decide +kernel,
   by decide +kernel⟩

theorem wit_StreamRecordsTaken_11 :
    ∃ (rest : List Byte) (s : State) (b : List Byte), b = BitVec.ofNat 8 typeLayer :: rest ∧ Takes s typeLayer b
      ∧ s.parser.cur.job.isSome = true :=
  ⟨(rec typeLayer 0 1 (le [(4, 5), (4, 3)])).tail, parsing
   { prologue with state := .between, lastLayer := some 0, lastWasCheck := true }, (rec typeLayer 0 1 (le [(4,
   5), (4, 3)])), by decide +kernel, by decide +kernel, by decide +kernel⟩

theorem wit_StreamRecordsTaken_12 :
    ∃ (rest : List Byte) (s : State) (b : List Byte), b = BitVec.ofNat 8 typeEnd :: rest ∧ Takes s typeEnd b :=
  ⟨(rec typeEnd 0 1 (le [])).tail, parsing { prologue with lastWasCheck := true }, (rec typeEnd 0 1 (le [])),
   by decide +kernel, by decide +kernel⟩

theorem wit_StreamContinuationsTaken_0 :
    ∃ (rest : List Byte) (s : State) (b : List Byte), b = BitVec.ofNat 8 typePoly :: rest ∧ Takes s typePoly b ∧
      bodyOpen s.parser.cur ∧ s.parser.cur.cont = none ∧ recMore b = false :=
  ⟨(rec typePoly 0 1 (le [(2, 0), (2, 3), (2, 0), (2, 3), (8, 0), (4, 9), (4, 0), (4, 0), (4, 9)])).tail, parsing
   (wlayer .geometry), (rec typePoly 0 1 (le [(2, 0), (2, 3), (2, 0), (2, 3), (8, 0), (4, 9), (4, 0), (4, 0),
   (4, 9)])), by decide +kernel, by decide +kernel, by decide +kernel, by decide +kernel, by decide +kernel⟩

theorem wit_StreamContinuationsTaken_1 :
    ∃ (rest : List Byte) (s : State) (b : List Byte), b = BitVec.ofNat 8 typePoly :: rest ∧ Takes s typePoly b ∧
      bodyOpen s.parser.cur ∧ s.parser.cur.cont = none ∧ recMore b = true :=
  ⟨(rec typePoly 1 1 (le [(1, 0), (1, 0), (2, 3), (2, 0), (2, 2), (4, 0), (4, 0), (4, 9), (4, 0)])).tail, parsing
   (wlayer .geometry), (rec typePoly 1 1 (le [(1, 0), (1, 0), (2, 3), (2, 0), (2, 2), (4, 0), (4, 0), (4, 9),
   (4, 0)])), by decide +kernel, by decide +kernel, by decide +kernel, by decide +kernel, by decide +kernel⟩

theorem wit_StreamContinuationsTaken_2 :
    ∃ (rest : List Byte) (s : State) (b : List Byte) (m n a : Nat) (eo : Bool) (v : List (Int × Int)), b =
      BitVec.ofNat 8 typePoly :: rest ∧ Takes s typePoly b ∧ bodyOpen s.parser.cur ∧ s.parser.cur.cont = some
      (.poly m eo n v a) ∧ recMore b = false :=
  ⟨(rec typePoly 2 1 (le [(1, 0), (1, 0), (2, 3), (2, 2), (2, 1), (4, 5), (4, 9)])).tail, parsing
   { wlayer .geometry with cont := some (.poly 0 false 3 [(0, 0), (9, 0)] 0) }, (rec typePoly 2 1 (le [(1, 0),
   (1, 0), (2, 3), (2, 2), (2, 1), (4, 5), (4, 9)])), 0, 3, 0, false, [(0, 0), (9, 0)], by decide +kernel,
   by decide +kernel, by decide +kernel, by decide +kernel, by decide +kernel⟩

theorem wit_StreamContinuationsTaken_3 :
    ∃ (rest : List Byte) (s : State) (b : List Byte), b = BitVec.ofNat 8 typePatch :: rest ∧ Takes s typePatch b
      ∧ bodyOpen s.parser.cur ∧ s.parser.cur.cont = none ∧ recMore b = true :=
  ⟨(rec typePatch 5 1 (le [(2, 0), (2, 16), (2, 1), (2, 0), (4, 0), (4, 0), (4, 1), (4, 1), (4, 2), (4, 1), (1,
   255), (7, 0)])).tail, parsing (wlayer .geometry), (rec typePatch 5 1 (le [(2, 0), (2, 16), (2, 1), (2, 0),
   (4, 0), (4, 0), (4, 1), (4, 1), (4, 2), (4, 1), (1, 255), (7, 0)])), by decide +kernel, by decide +kernel,
   by decide +kernel, by decide +kernel, by decide +kernel⟩

theorem wit_StreamContinuationsTaken_4 :
    ∃ (rest : List Byte) (s : State) (b : List Byte), b = BitVec.ofNat 8 typePatch :: rest ∧ Takes s typePatch b
      ∧ bodyOpen s.parser.cur ∧ s.parser.cur.cont = none ∧ recMore b = false :=
  ⟨(rec typePatch 4 1 (le [(2, 0), (2, 16), (2, 1), (2, 0), (4, 0), (4, 0), (4, 1), (4, 1), (4, 2), (4, 2), (2,
   255), (6, 0)])).tail, parsing (wlayer .geometry), (rec typePatch 4 1 (le [(2, 0), (2, 16), (2, 1), (2, 0),
   (4, 0), (4, 0), (4, 1), (4, 1), (4, 2), (4, 2), (2, 255), (6, 0)])), by decide +kernel, by decide +kernel,
   by decide +kernel, by decide +kernel, by decide +kernel⟩

theorem wit_StreamContinuationsTaken_5 :
    ∃ (rest : List Byte) (s : State) (b : List Byte), b = BitVec.ofNat 8 typeField :: rest ∧ Takes s typeField b
      ∧ s.parser.cur.openLayer.isSome = true ∧ s.parser.cur.cont = none ∧ recMore b = false :=
  ⟨(rec typeField 0 1 (le [(4, 0), (2, 1), (2, 1), (4, 0), (4, 0), (4, 1), (4, 1), (4, 0), (4, 1), (2, 4096), (6,
   0)])).tail, parsing (wlayer .fields), (rec typeField 0 1 (le [(4, 0), (2, 1), (2, 1), (4, 0), (4, 0), (4, 1),
   (4, 1), (4, 0), (4, 1), (2, 4096), (6, 0)])), by decide +kernel, by decide +kernel, by decide +kernel,
   by decide +kernel, by decide +kernel⟩

theorem wit_StreamContinuationsTaken_6 :
    ∃ (rest : List Byte) (s : State) (b : List Byte) (o : OpenCell), b = BitVec.ofNat 8 typeCellEnd :: rest ∧
      Takes s typeCellEnd b ∧ s.parser.cur.openCell = some o :=
  ⟨(rec typeCellEnd 0 1 (le [(4, 1), (4, 0)])).tail, parsing (wcell 1 [⟨0, [], 0⟩]), (rec typeCellEnd 0 1 (le [(4,
   1), (4, 0)])), the (wcell 1 [⟨0, [], 0⟩]).openCell, by decide +kernel, by decide +kernel, by decide +kernel⟩

theorem wit_StreamJobLifecycle_0 :
    ∃ (rest : List Byte) (s u : State) (b : List Byte), b = BitVec.ofNat 8 typeJob :: rest ∧ s.parser.headsWait
      = false ∧ s.parser.lpStall = false ∧ (s.parser.cur.state = .idle ∨ s.parser.cur.state = .ended) ∧ recSeq b
      = 0 ∧ 2 ≤ recLen b ∧ u = jobOpens (s.snoop (s.recordBlock typeJob b)) ∧ u.recordFault Content.fresh
      typeJob b = 0 ∧ (u.lpPlace Content.fresh typeJob b).isSome = true :=
  ⟨(rec typeJob 0 0 (le [(1, 1), (1, 0), (2, 0), (4, 100), (8, 9), (4, 16), (4, 0)])).tail, parsing Content.fresh,
   jobOpens ((parsing Content.fresh).snoop ((parsing Content.fresh).recordBlock typeJob (rec typeJob 0 0 (le
   [(1, 1), (1, 0), (2, 0), (4, 100), (8, 9), (4, 16), (4, 0)])))), (rec typeJob 0 0 (le [(1, 1), (1, 0), (2,
   0), (4, 100), (8, 9), (4, 16), (4, 0)])), by decide +kernel, by decide +kernel, by decide +kernel,
   by decide +kernel, by decide +kernel, by decide +kernel, rfl, by decide +kernel, by decide +kernel⟩

theorem wit_StreamJobLifecycle_1 :
    ∃ (rest : List Byte) (s : State) (b : List Byte) (l : Layer), b = BitVec.ofNat 8 typeCheck :: rest ∧ Takes s
      typeCheck b ∧ rd b 8 1 = 1 ∧ s.parser.cur.openLayer = some l :=
  ⟨(rec typeCheck 0 1 (le [(4, 1), (4, 1), (4, 0), (4, 1), (8, digestOf 1 1 [])])).tail, parsing (wlayer
   .geometry), (rec typeCheck 0 1 (le [(4, 1), (4, 1), (4, 0), (4, 1), (8, digestOf 1 1 [])])), the (wlayer
   .geometry).openLayer, by decide +kernel, by decide +kernel, by decide +kernel, by decide +kernel⟩

theorem wit_StreamJobLifecycle_2 :
    ∃ (sub : Fin 16) (rest : List Byte) (s : State) (b : List Byte), b = BitVec.ofNat 8 (0x60 + sub.val) :: rest
      ∧ Takes s (0x60 + sub.val) b :=
  ⟨15, (rec 0x6F 0 1 []).tail, parsing prologue, (rec 0x6F 0 1 []), by decide +kernel, by decide +kernel⟩

theorem wit_StreamJobLifecycle_3 :
    ∃ (code : Byte) (rest : List Byte) (s : State) (b : List Byte), b = code :: rest ∧ code.toNat ∉ definedTypes
      ∧ isExt code.toNat = false ∧ s.parser.headsWait = false ∧ s.parser.lpStall = false ∧ (s.parser.cur.state =
      .prologue ∨ s.parser.cur.state = .cell ∨ s.parser.cur.state = .layer ∨ s.parser.cur.state = .between) :=
  ⟨0x77, [], parsing prologue, [0x77], by decide +kernel, by decide +kernel, by decide +kernel, by decide +kernel,
   by decide +kernel, by decide +kernel⟩

theorem wit_StreamJobLifecycle_4 :
    ∃ (rest : List Byte) (s : State) (b : List Byte), b = BitVec.ofNat 8 typeRect :: rest ∧ s.parser.headsWait =
      false ∧ s.parser.lpStall = false ∧ s.parser.cur.state = .cell ∧ 2 ≤ recLen b ∧ recCrcOk b = false :=
  ⟨[0, 2, 0], parsing (wcell 1 []), [BitVec.ofNat 8 typeRect, 0, 2, 0], by decide +kernel, by decide +kernel,
   by decide +kernel, by decide +kernel, by decide +kernel, by decide +kernel⟩

theorem wit_StreamJobLifecycle_5 :
    ∃ (w : Word) (s : State), s.parser.cur.state ≠ .idle ∧ s.parser.cur.state ≠ .ended ∧ s.parser.held = [] ∧
      (s.layers.all fun l => !(s.parser.cur.job.any fun j => j.no == l.job.no)) = true :=
  ⟨Fld.EXP_ZLS_CTRL_ABORT_JOB.put 1 0, parsing { prologue with state := .halted }, by decide +kernel,
   by decide +kernel, by decide +kernel, by decide +kernel⟩

theorem wit_StreamJobLifecycle_6 :
    ∃ (w : Word) (s : State), (s.parser.cur.state = .idle ∨ s.parser.cur.state = .ended) :=
  ⟨0, State.reset, by decide +kernel⟩

theorem wit_StreamJobLifecycle_7 :
    ∃ (w : Word) (s : State), s.parser.cur.state = .halted ∧ Fld.EXP_ZLS_CTRL_ABORT_JOB.get w = 0 :=
  ⟨Fld.EXP_ZLS_CTRL_RESUME.put 1 0, parsing { prologue with state := .halted }, by decide +kernel,
   by decide +kernel⟩

theorem wit_StreamJobLifecycle_8 :
    ∃ (b : List Byte) (s u : State), s.parser.headsWait = true ∧ s.parser.held = [(typeLayer, b)] ∧ (u =
      { s with parser := { s.parser with headsWait := false, lpStall := false, held := [] } }) ∧ 2 ≤ recLen b ∧
      s.parser.cur.state = .prologue ∧ s.parser.cur.job.isSome = true ∧ u.recordFault s.parser.cur typeLayer b =
      0 ∧ (s.parser.cur.lastLayer = none → u.binding s.parser.cur.materials = .ok) ∧ (u.lpPlace s.parser.cur
      typeLayer b).isSome = true :=
  ⟨(rec typeLayer 0 1 (le [(4, 5), (4, 3)])), heldAt true (rec typeLayer 0 1 (le [(4, 5), (4, 3)])),
   { heldAt true (rec typeLayer 0 1 (le [(4, 5), (4, 3)])) with parser := { (heldAt true (rec typeLayer 0 1 (le [(4, 5), (4, 3)]))).parser with headsWait := false, lpStall := false, held := [] } },
   by decide +kernel, by decide +kernel, rfl, by decide +kernel, by decide +kernel, by decide +kernel,
   by decide +kernel, by decide +kernel, by decide +kernel⟩

theorem wit_StreamJobLifecycle_9 :
    ∃ (b : List Byte) (s u : State), s.parser.lpStall = true ∧ s.parser.held = [(typeRect, b)] ∧ (u =
      { s with parser := { s.parser with headsWait := false, lpStall := false, held := [] } }) ∧ 2 ≤ recLen b ∧
      s.parser.cur.state = .cell ∧ bodyOpen s.parser.cur ∧ u.recordFault s.parser.cur typeRect b = 0 ∧
      (u.lpPlace s.parser.cur typeRect b).isSome = true :=
  ⟨(rec typeRect 0 1 (le [(8, 0), (8, 0), (8, 0)])), stalledAt (rec typeRect 0 1 (le [(8, 0), (8, 0), (8, 0)])),
   { stalledAt (rec typeRect 0 1 (le [(8, 0), (8, 0), (8, 0)])) with parser := { (stalledAt (rec typeRect 0 1 (le [(8, 0), (8, 0), (8, 0)]))).parser with headsWait := false, lpStall := false, held := [] } },
   by decide +kernel, by decide +kernel, rfl, by decide +kernel, by decide +kernel, by decide +kernel,
   by decide +kernel, by decide +kernel⟩

theorem wit_StreamJobLifecycle_10 :
    ∃ (s : State), s.parser.headsWait = false :=
  ⟨State.reset, by decide +kernel⟩

theorem wit_StreamJobLifecycle_11 :
    ∃ (s : State), s.parser.lpStall = false :=
  ⟨State.reset, by decide +kernel⟩

theorem wit_ExpansionUnitsServe_0 :
    ∃ (s : State) (n : Fin 4) (u : ExpUnit) (q : RowId), s.units[n.val]? = some u ∧ u.state = .inService ∧ u.row
      = none ∧ s.nextRow n.val = some q :=
  ⟨oneSwath .captured, 0, the (oneSwath .captured).units[0]?, row0, by decide +kernel, by decide +kernel,
   by decide +kernel, by decide +kernel⟩

theorem wit_ExpansionUnitsServe_1 :
    ∃ (s : State) (n : Fin 4) (u : ExpUnit) (q : RowId), s.units[n.val]? = some u ∧ u.state = .inService ∧ u.row
      = some q ∧ u.lastDisagree = none :=
  ⟨onUnit0 { unit0 with row := some row0 } (oneSwath .captured), 0, { unit0 with row := some row0 }, row0,
   by decide +kernel, by decide +kernel, by decide +kernel, by decide +kernel⟩

theorem wit_ExpansionUnitsServe_2 :
    ∃ (s v : State) (n : Fin 4) (u : ExpUnit) (q : RowId) (x : ExpandedRow) (k : Nat) (d : List (Fin 4)),
      s.units[n.val]? = some u ∧ u.row = some q ∧ u.stalled = false ∧ v = (s.onUnit n.val fun u =>
      { u with row := none }) ∧ v.rowOf n.val q = some x ∧ x.live.isEmpty = false :=
  ⟨onUnit0 { unit0 with row := some row0 } (oneSwath .captured), (onUnit0 { unit0 with row := some row0 }
   (oneSwath .captured)).onUnit 0 (fun u => { u with row := none }), 0, { unit0 with row := some row0 }, row0,
   the (((onUnit0 { unit0 with row := some row0 } (oneSwath .captured)).onUnit 0 fun u =>
   { u with row := none }).rowOf 0 row0), 0, [], by decide +kernel, by decide +kernel, by decide +kernel, rfl,
   (Option.some_get _).symm, by decide +kernel⟩

theorem wit_ExpansionUnitsServe_3 :
    ∃ (s : State) (n : Fin 4) (u : ExpUnit) (q : RowId), s.units[n.val]? = some u ∧ u.stalled = true ∧ u.row =
      some q ∧ ((s.onUnit n.val fun u => { u with row := none }).poolUsed + ((s.rowOf n.val q).map
      (·.need)).getD 0 ≤ s.poolBlocks) :=
  ⟨onUnit0 { unit0 with row := some row0, stalled := true } (oneSwath .captured), 0,
   { unit0 with row := some row0, stalled := true }, row0, by decide +kernel, by decide +kernel,
   by decide +kernel, by decide +kernel⟩

theorem wit_ExpansionUnitsServe_4 :
    ∃ (l w r : Nat) (s : State), ((s.rows.any fun x => x.id == ⟨l, w, r⟩) = false) ∧ (s.rowUnresolved ⟨l, w,
      r⟩).isEmpty = false :=
  ⟨1, 0, 0, onUnit0 { unit0 with row := some row0 } (oneSwath .captured), by decide +kernel, by decide +kernel⟩

theorem wit_ExpansionUnitsServe_5 :
    ∃ (s : State) (p : Path) (n : Fin 4) (w : Word), Fld.EXP_UNIT_CTRL_OUT.get w = 2 ^ n.val ∧
      Fld.EXP_UNIT_CTRL_RETURN.get w = 0 ∧ (∃ k u, k ≠ n.val ∧ s.units[k]? = some u ∧ u.state = .inService ∧
      u.outReq = false) ∧ s.units.length = 4 ∧ (s.units[n.val]?).map (·.state) = some .inService :=
  ⟨State.reset, .mgmt, 3, Fld.EXP_UNIT_CTRL_OUT.put 8 0, by decide +kernel, by decide +kernel, ⟨0, unit0,
   by decide +kernel, by decide +kernel, by decide +kernel, by decide +kernel⟩, by decide +kernel,
   by decide +kernel⟩

theorem wit_ExpansionUnitsServe_6 :
    ∃ (s : State) (p : Path) (w : Word), Fld.EXP_UNIT_CTRL_OUT.get w ≠ 0 ∧ Fld.EXP_UNIT_CTRL_RETURN.get w = 0 ∧
      (((List.range 4).zip s.units).all fun x => bit (Fld.EXP_UNIT_CTRL_OUT.get w) x.1 || x.2.state !=
      .inService || x.2.outReq) = true :=
  ⟨State.reset, .mgmt, Fld.EXP_UNIT_CTRL_OUT.put 15 0, by decide +kernel, by decide +kernel, by decide +kernel⟩

theorem wit_ExpansionUnitsServe_7 :
    ∃ (s : State) (n : Fin 4) (u : ExpUnit), s.units[n.val]? = some u ∧ u.outReq = true :=
  ⟨onUnit0 { unit0 with outReq := true } State.reset, 0, { unit0 with outReq := true }, by decide +kernel,
   by decide +kernel⟩

theorem wit_ExpansionUnitsServe_8 :
    ∃ (s : State) (n : Fin 4) (u : ExpUnit) (p : Path) (w : Word), s.units[n.val]? = some u ∧ u.state = .out ∧
      Fld.EXP_UNIT_CTRL_OUT.get w = 0 ∧ Fld.EXP_UNIT_CTRL_RETURN.get w = 2 ^ n.val ∧ bit (s.regN
      Reg.ACC_FROZEN_INT) (8 + n.val) = false :=
  ⟨onUnit0 { unit0 with state := .out } State.reset, 0, { unit0 with state := .out }, .mgmt,
   Fld.EXP_UNIT_CTRL_RETURN.put 1 0, by decide +kernel, by decide +kernel, by decide +kernel, by decide +kernel,
   by decide +kernel⟩

theorem wit_ExpansionUnitsServe_9 :
    ∃ (s : State) (n : Fin 4) (u : ExpUnit), s.units[n.val]? = some u ∧ u.state = .selftest :=
  ⟨onUnit0 { unit0 with state := .selftest } State.reset, 0, { unit0 with state := .selftest }, by decide +kernel,
   by decide +kernel⟩

theorem wit_ExpansionUnitsServe_10 :
    ∃ (s : State) (n : Fin 4) (u : ExpUnit), s.units[n.val]? = some u ∧ u.state = .selftest :=
  ⟨onUnit0 { unit0 with state := .selftest, selftestFails := 2 } State.reset, 0,
   { unit0 with state := .selftest, selftestFails := 2 }, by decide +kernel, by decide +kernel⟩

theorem wit_ExpansionUnitsServe_11 :
    ∃ (s : State) (n : Fin 4) (u : ExpUnit), s.units[n.val]? = some u ∧ u.state = .shadow ∧ 64 ≤ u.shadowed :=
  ⟨onUnit0 { unit0 with state := .shadow, shadowed := 64 } State.reset, 0,
   { unit0 with state := .shadow, shadowed := 64 }, by decide +kernel, by decide +kernel, by decide +kernel⟩

theorem wit_SurveysAndCellCache_0 :
    ∃ (s : State) (q i : Nat), (∀ v ∈ s.surveys, v.done = true) ∧ s.nextSurvey = some (q, i) :=
  ⟨oneLayer, 1, 0, by decide +kernel, by decide +kernel⟩

theorem wit_SurveysAndCellCache_1 :
    ∃ (s u : State) (v : Survey) (l : Layer) (e : SwathEntry), Inv s ∧ (s.surveys.find? (fun v => !v.done) =
      some v) ∧ s.layer v.layer = some l ∧ l.entry v.swath = some e ∧ u = s.setFld Reg.EXP_SURVEY_STATUS
      Fld.EXP_SURVEY_STATUS_BUSY 0 ∧ (u.surveyOf l v.swath e).exceeds = none ∧ (∀ r ≤ 200000, s.spanNeed l e r ≤
      16777216) :=
  ⟨surveying, surveying.setFld Reg.EXP_SURVEY_STATUS Fld.EXP_SURVEY_STATUS_BUSY 0, ⟨1, 0, false, [], 0, 0, 0, []⟩,
   layer1, swath0, inv_by (by decide +kernel), by decide +kernel, by decide +kernel, by decide +kernel, rfl,
   by decide +kernel, need_surveying⟩

theorem wit_EnginesServe_0 :
    ∃ (s : State) (n : Fin 64) (x : Engine) (p : Path), s.engine n.val = some x ∧ (x.svc = .inService ∧ 5 ≤
      s.staying ∨ x.svc = .spare ∧ 4 ≤ s.staying) ∧ x.outReq = none :=
  ⟨State.reset, 39 - 1, engine0, .mgmt, by decide +kernel, by decide +kernel, by decide +kernel⟩

theorem wit_EnginesServe_1 :
    ∃ (s : State) (n : Fin 64) (x : Engine) (p : Path), s.engine n.val = some x ∧ (x.svc = .inService ∧ x.outReq
      = none ∧ s.staying < 5 ∨ x.svc = .spare ∧ x.outReq = none ∧ s.staying < 4 ∨ x.svc = .out ∨ x.svc =
      .selftest ∨ x.svc = .shadow) :=
  ⟨onlyEngines 4, 0, engine0, .mgmt, by decide +kernel, by decide +kernel⟩

theorem wit_EnginesServe_2 :
    ∃ (s : State) (n : Fin 64) (x : Engine) (p : Path), s.engine n.val = some x ∧ (x.svc = .inService ∨ x.svc =
      .spare) ∧ x.outReq.isSome = true :=
  ⟨onEng0 { engine0 with outReq := some .mgmt }, 0, { engine0 with outReq := some .mgmt }, .spi,
   by decide +kernel, by decide +kernel, by decide +kernel⟩

theorem wit_EnginesServe_3 :
    ∃ (s : State) (n : Fin 64) (x : Engine), s.engine n.val = some x ∧ x.svc = .out :=
  ⟨onEng0 { engine0 with svc := .out }, 0, { engine0 with svc := .out }, by decide +kernel, by decide +kernel⟩

theorem wit_EnginesServe_4 :
    ∃ (s : State) (e : Fin 40) (x : Engine), s.engine e.val = some x ∧ x.outReq.isSome = true ∧ (x.svc =
      .inService ∨ x.svc = .spare) :=
  ⟨onEng0 { engine0 with outReq := some .mgmt }, 0, { engine0 with outReq := some .mgmt }, by decide +kernel,
   by decide +kernel, by decide +kernel⟩

theorem wit_EnginesServe_5 :
    ∃ (s : State) (e : Fin 40) (x : Engine) (k : Nat), s.engine e.val = some x ∧ x.outReq.isSome = true ∧ x.svc
      = .inService ∧ s.spareOf (clusterOf e.val) = some k :=
  ⟨onEng0 { engine0 with outReq := some .mgmt }, 0, { engine0 with outReq := some .mgmt }, 9, by decide +kernel,
   by decide +kernel, by decide +kernel, by decide +kernel⟩

theorem wit_EnginesServe_6 :
    ∃ (s : State) (e : Fin 40) (x : Engine), s.engine e.val = some x ∧ x.svc = .selftest :=
  ⟨onEng0 { engine0 with svc := .selftest }, 0, { engine0 with svc := .selftest }, by decide +kernel,
   by decide +kernel⟩

theorem wit_EnginesServe_7 :
    ∃ (s : State) (e : Fin 40) (x : Engine), s.engine e.val = some x ∧ x.svc = .selftest :=
  ⟨onEng0 { engine0 with svc := .selftest, stFails := 2 }, 0, { engine0 with svc := .selftest, stFails := 2 },
   by decide +kernel, by decide +kernel⟩

theorem wit_EnginesServe_8 :
    ∃ (s : State) (e : Fin 40) (x : Engine), s.engine e.val = some x ∧ x.svc = .shadow ∧ 16 ≤ x.shadowN :=
  ⟨onEng0 { engine0 with svc := .shadow, shadowN := 16 }, 0, { engine0 with svc := .shadow, shadowN := 16 },
   by decide +kernel, by decide +kernel, by decide +kernel⟩

theorem wit_EnginesServe_9 :
    ∃ (s : State) (n : Fin 4) (e : Nat) (x : Engine), s.ver.promote.contains n.val = true ∧ (s.spareOf n.val <|>
      (List.range 4).findSome? s.spareOf) = some e ∧ s.engine e = some x :=
  ⟨{ State.reset with ver := { State.reset.ver with promote := [3] } }, 3, 39, { engine0 with svc := .spare },
   by decide +kernel, by decide +kernel, by decide +kernel⟩

theorem wit_AvsChanges_0 :
    ∃ (s : State) (n : Fin 4) (mhz : Nat), s.avsBusy n.val = false :=
  ⟨State.reset, 0, 900, by decide +kernel⟩

theorem wit_AvsChanges_1 :
    ∃ (s : State) (n : Fin 4) (mhz : Nat), s.avsBusy n.val = true :=
  ⟨(State.reset.setFld (Reg.CE_CL_STATUS 0) Fld.CE_CL_STATUS_AVS_BUSY 1), 0, 900, by decide +kernel⟩

theorem wit_AvsChanges_2 :
    ∃ (s : State) (n : Fin 4) (mhz k : Nat), (s.ver.avs.find? (fun a => a.1 == n.val) = some (n.val, mhz, k)) ∧
      s.clusterBusy n.val = false :=
  ⟨{ (State.reset.setFld (Reg.CE_CL_STATUS 0) Fld.CE_CL_STATUS_AVS_BUSY 1) with ver := { State.reset.ver with avs := [(0, 900, 0)] } },
   0, 900, 0, by decide +kernel, by decide +kernel⟩

theorem wit_AvsChanges_3 :
    ∃ (s : State) (n : Fin 4), s.avsBusy n.val = true :=
  ⟨{ (State.reset.setFld (Reg.CE_CL_STATUS 0) Fld.CE_CL_STATUS_AVS_BUSY 1) with ver := { State.reset.ver with avs := [(0, 900, 0)] } },
   0, by decide +kernel⟩

theorem wit_TilesAreRasterisedAndCommitted_0 :
    ∃ (s : State) (k : TileId) (e : Fin 40) (w : Swath), s.swath k.layer k.swath = some w ∧ s.dispatchable k =
      true ∧ s.ctx k = none ∧ s.ctxUsed < 1024 ∧ s.canTake e.val = true ∧ s.worker k .primary = none :=
  ⟨oneRow .captured, tile0, 0, swathOf .captured, by decide +kernel, by decide +kernel, by decide +kernel,
   by decide +kernel, by decide +kernel, by decide +kernel⟩

theorem wit_TilesAreRasterisedAndCommitted_1 :
    ∃ (s : State) (k : TileId) (e : Fin 40) (w : Swath) (c : TileCtx) (p n : Nat), s.swath k.layer k.swath =
      some w ∧ s.dispatchable k = true ∧ s.ctx k = some c ∧ c.primary = some p ∧ c.checker = none ∧ c.open_ =
      true ∧ s.pickChecker c p e.val = some n :=
  ⟨{ oneRow .captured with ver := { (oneRow .captured).ver with ctxs := [ctx0] } }, tile0, 10, swathOf .captured,
   ctx0, 0, 10, by decide +kernel, by decide +kernel, by decide +kernel, by decide +kernel, by decide +kernel,
   by decide +kernel, by decide +kernel⟩

theorem wit_TilesAreRasterisedAndCommitted_2 :
    ∃ (s : State) (k : TileId) (e : Fin 40) (c : TileCtx) (n : Nat), s.ctx k = some c ∧ c.wantsVote = true ∧
      (c.manned = true ∨ c.blanked = true ∧ c.voters.length < s.maxVotes) ∧ s.voterFor c = some n :=
  ⟨{ oneRow .captured with ver := { (oneRow .captured).ver with ctxs := [ctxV] } }, tile0, 0, ctxV, 9,
   by decide +kernel, by decide +kernel, by decide +kernel, by decide +kernel⟩

theorem wit_TilesAreRasterisedAndCommitted_3 :
    ∃ (s u : State) (e : Fin 40) (k : Task) (w : Work) (x y : Nat) (c d : TileCtx), s.deliverable e.val = some k
      ∧ k.role = .primary ∧ s.tarnFlip e.val = [] ∧ (s.binFetch e.val k.tile).1 = false ∧ u = tileRead s e.val k
      x ∧ u.deliverable e.val = some k ∧ u.work k = some w ∧ u.ctx k.tile = some c ∧ c.phase = .raster ∧
      c.blanked = false ∧ (d = { c with results := c.results ++ [(e.val, w.result)] }) ∧ d.checker.bind
      d.resultOf = none :=
  ⟨doing, tileRead doing 0 doingK 0, 0, doingK, the ((tileRead doing 0 doingK 0).work doingK), 0, 0, ctx0,
   { ctx0 with results := [(0, (the ((tileRead doing 0 doingK 0).work doingK)).result)] }, by decide +kernel,
   by decide +kernel, by decide +kernel, by decide +kernel, rfl, by decide +kernel, find_one _,
   by decide +kernel, by decide +kernel, by decide +kernel, rfl, by decide +kernel⟩

theorem wit_TilesAreRasterisedAndCommitted_4 :
    ∃ (s u : State) (e : Fin 40) (k : Task) (w : Work) (b : RasterResult) (x y : Nat) (c d : TileCtx),
      s.deliverable e.val = some k ∧ k.role = .primary ∧ s.tarnFlip e.val = [] ∧ (s.binFetch e.val k.tile).1 =
      false ∧ u = tileRead s e.val k x ∧ u.deliverable e.val = some k ∧ u.work k = some w ∧ u.ctx k.tile = some
      c ∧ c.phase = .raster ∧ c.primary = some e.val ∧ c.resultOf e.val = none ∧ (d =
      { c with results := c.results ++ [(e.val, w.result)] }) ∧ d.checker.bind d.resultOf = some b ∧
      w.result.agrees b = true ∧ c.blanked = false ∧ u.late c.tF = false :=
  ⟨doingGot res0, tileRead (doingGot res0) 0 doingK 0, 0, doingK, ⟨res0, 0, false⟩, res0, 0, 0, ctxGot res0,
   { ctxGot res0 with results := (ctxGot res0).results ++ [(0, res0)] }, by decide +kernel, by decide +kernel,
   by decide +kernel, by decide +kernel, rfl, by decide +kernel, by decide +kernel, by decide +kernel,
   by decide +kernel, by decide +kernel, by decide +kernel, rfl, by decide +kernel, by decide +kernel,
   by decide +kernel, by decide +kernel⟩

theorem wit_TilesAreRasterisedAndCommitted_5 :
    ∃ (s u : State) (e : Fin 40) (k : Task) (w : Work) (b : RasterResult) (x y : Nat) (c d : TileCtx),
      s.deliverable e.val = some k ∧ k.role = .primary ∧ s.tarnFlip e.val = [] ∧ (s.binFetch e.val k.tile).1 =
      false ∧ u = tileRead s e.val k x ∧ u.deliverable e.val = some k ∧ u.work k = some w ∧ u.ctx k.tile = some
      c ∧ c.phase = .raster ∧ c.primary = some e.val ∧ c.resultOf e.val = none ∧ (d =
      { c with results := c.results ++ [(e.val, w.result)] }) ∧ d.checker.bind d.resultOf = some b ∧
      w.result.agrees b = false ∧ c.blanked = false :=
  ⟨doingGot { res0 with signature := 1 }, tileRead (doingGot { res0 with signature := 1 }) 0 doingK 0, 0, doingK,
   ⟨res0, 0, false⟩, { res0 with signature := 1 }, 0, 0, ctxGot { res0 with signature := 1 },
   { ctxGot { res0 with signature := 1 } with results := (ctxGot { res0 with signature := 1 }).results ++ [(0, res0)] },
   by decide +kernel, by decide +kernel, by decide +kernel, by decide +kernel, rfl, by decide +kernel,
   by decide +kernel, by decide +kernel, by decide +kernel, by decide +kernel, by decide +kernel, rfl,
   by decide +kernel, by decide +kernel, by decide +kernel⟩

theorem wit_TilesAreRasterisedAndCommitted_6 :
    ∃ (s : State) (e : Fin 40) (x : Engine) (k : Task), s.engine e.val = some x ∧ x.parked = some k ∧ x.held =
      none ∧ x.quant = none ∧ s.canQuantise k = true :=
  ⟨onEng0 { engine0 with parked := some ⟨tile0, .primary, false, none⟩ } (oneRow .captured), 0,
   { engine0 with parked := some ⟨tile0, .primary, false, none⟩ }, ⟨tile0, .primary, false, none⟩,
   by decide +kernel, by decide +kernel, by decide +kernel, by decide +kernel, by decide +kernel⟩

theorem wit_TilesAreRasterisedAndCommitted_7 :
    ∃ (s : State) (k : TileId) (e : Fin 40) (c : TileCtx) (p n : Nat), s.ctx k = some c ∧ c.primary = some p ∧
      c.checker = none ∧ c.open_ = true ∧ s.pickChecker c p e.val = none ∧ s.flag Reg.VER_CFG
      Fld.VER_CFG_SAME_CL_OK = true ∧ pick e.val (s.takers (clusterOf p) (p :: c.barredFrom .checker)) = some n
      :=
  ⟨waiting, tile0, 3, ctx0, 0, 3, by decide +kernel, by decide +kernel, by decide +kernel, by decide +kernel,
   by decide +kernel, by decide +kernel, by decide +kernel⟩

theorem wit_TilesAreRasterisedAndCommitted_8 :
    ∃ (s : State) (k : TileId) (e : Fin 40) (c : TileCtx) (q n : Nat), s.ctx k = some c ∧ c.primary = none ∧
      c.checker = some q ∧ c.open_ = true ∧ s.freeElsewhere c (clusterOf q) = false ∧ s.flag Reg.VER_CFG
      Fld.VER_CFG_SAME_CL_OK = true ∧ pick e.val (s.takers (clusterOf q) (q :: c.barredFrom .primary)) = some n
      :=
  ⟨waitingAnew, tile0, 3, { ctx0 with primary := none, checker := some 0 }, 0, 3, by decide +kernel,
   by decide +kernel, by decide +kernel, by decide +kernel, by decide +kernel, by decide +kernel,
   by decide +kernel⟩

theorem wit_TilesAreRasterisedAndCommitted_9 :
    ∃ (s : State) (k : TileId) (c : TileCtx) (e : Nat) (r : RasterResult), s.ctx k = some c ∧ c.phase = .commit
      ∧ c.writer = some e ∧ c.resultOf e = some r ∧ s.tarnFlip e = [] ∧ s.snoopBad (s.stagingBlock c r) = false
      ∧ s.late c.tF = false :=
  ⟨committing, tile0, ctxC, 0, res0, by decide +kernel, by decide +kernel, by decide +kernel, by decide +kernel,
   by decide +kernel, by decide +kernel, by decide +kernel⟩

theorem wit_TilesAreRasterisedAndCommitted_10 :
    ∃ (s : State) (k : TileId) (c : TileCtx) (e : Nat) (r : RasterResult), s.ctx k = some c ∧ c.phase = .commit
      ∧ c.writer = some e ∧ c.resultOf e = some r ∧ s.tarnFlip e = [] ∧ s.snoopBad (s.stagingBlock c r) = true
      :=
  ⟨committingSnooped, tile0, ctxC, 0, res0, by decide +kernel, by decide +kernel, by decide +kernel,
   by decide +kernel, by decide +kernel, by decide +kernel⟩

theorem wit_TilesAreRasterisedAndCommitted_11 :
    ∃ (s : State) (k : TileId) (c : CommitEntry) (w : Swath) (e : SwathEntry), s.entry k = some c ∧ s.swath
      k.layer k.swath = some w ∧ s.swEntry w = some e ∧ (w.rows.all fun r => r.past s.bmap (e.order (e.rowLast
      k.trow) + 1)) = true ∧ c.freed = false :=
  ⟨fired, tile0, entry0, { swathOf .running with rows := [⟨0, 0, 1, none, [], none⟩] }, swath0, by decide +kernel,
   by decide +kernel, by decide +kernel, by decide +kernel, by decide +kernel⟩

theorem wit_TilesAreRasterisedAndCommitted_12 :
    ∃ (s : State) (k : TileId) (w : Swath), s.swath k.layer k.swath = some w ∧ w.startAt.isSome = true ∧
      (s.unresolved w).contains k = true :=
  ⟨oneStarted, tile0, { swathOf .armed with startAt := some 0 }, by decide +kernel, by decide +kernel,
   by decide +kernel⟩

theorem wit_BeamMapEdits_0 :
    ∃ (s : State) (p : Path) (w : Word), bmCtrlMany (Fld.BM_CTRL_EDIT_OPEN.put 1 w) = false ∧ s.editMayOpen =
      true :=
  ⟨withTbl map1, .mgmt, 0, by decide +kernel, by decide +kernel⟩

theorem wit_BeamMapEdits_1 :
    ∃ (s : State) (p : Path) (w : Word), s.editMayOpen = false :=
  ⟨oneSwath .captured, .mgmt, 0, by decide +kernel⟩

theorem wit_BeamMapEdits_2 :
    ∃ (s : State) (p : Path) (w : Word), bmCtrlMany (Fld.BM_CTRL_EDIT_COMMIT.put 1 w) = false ∧ s.flag
      Reg.BM_STATUS Fld.BM_STATUS_EDIT = true :=
  ⟨State.reset.setFld Reg.BM_STATUS Fld.BM_STATUS_EDIT 1, .mgmt, 0, by decide +kernel, by decide +kernel⟩

theorem wit_BeamMapEdits_3 :
    ∃ (s : State) (p : Path) (w : Word), bmCtrlMany (Fld.BM_CTRL_EDIT_COMMIT.put 1 w) = false ∧ s.flag
      Reg.BM_STATUS Fld.BM_STATUS_EDIT = false :=
  ⟨State.reset, .mgmt, 0, by decide +kernel, by decide +kernel⟩

theorem wit_BeamMapEdits_4 :
    ∃ (s : State) (p : Path) (w : Word) (m : List (Nat × Word)) (v : Bool), bmCtrlMany
      (Fld.BM_CTRL_EDIT_CANCEL.put 1 w) = false ∧ s.beams.saved = some (m, v) :=
  ⟨{ State.reset with beams := { State.reset.beams with saved := some ([(beamHdrAddr, 1)], true) } }, .mgmt, 0,
   [(beamHdrAddr, 1)], true, by decide +kernel, by decide +kernel⟩

theorem wit_BeamMapEdits_5 :
    ∃ (s : State), s.beams.validating = true ∧ validate s.tables = none ∧ Inv s :=
  ⟨{ withTbl map1 with beams := { State.reset.beams with validating := true } }, by decide +kernel,
   by decide +kernel, inv_by (by decide +kernel)⟩

theorem wit_BeamMapEdits_6 :
    ∃ (s : State) (p : Path) (w : Word), Fld.BM_BEAM_CMD_BEAM.get w < hdrNbeam s.tables ∧
      Fld.BM_BEAM_CMD_STATUS.get w = 0 ∧ Fld.BM_BEAM_CMD_LOCKOP.get w = 1 ∧ s.repNow (Fld.BM_BEAM_CMD_BEAM.get
      w) = none ∧ Inv s :=
  ⟨withTbl map1, .mgmt, Fld.BM_BEAM_CMD_LOCKOP.put 1 0, by decide +kernel, by decide +kernel, by decide +kernel,
   by decide +kernel, inv_by (by decide +kernel)⟩

theorem wit_BeamMapEdits_7 :
    ∃ (s : State) (p : Path) (w : Word), hdrNbeam s.tables ≤ Fld.BM_BEAM_CMD_BEAM.get w :=
  ⟨State.reset, .mgmt, 0, by decide +kernel⟩

end Sys2Proof.Tests
end

