-- ==== Sys2Proof/Tests/Witness3.lean ====
section
/-! SUPPORT. Witnesses: for each statement with hypotheses, operands and a state that meet them together, one theorem
for each clause. -/

set_option linter.all false
set_option Elab.async false

open Sys2Proof Sys2Proof.Bits Sys2Proof.Machine Sys2Proof.Safety Sys2Proof.Tests Sys2Proof.Laws

namespace Sys2Proof.Tests

theorem wit_CheckUnitsEnable_0 :
    ∃ (s : State) (p : Path) (u : Fin 4) (k : Nat), s.flag (Reg.CRC_U_STATUS u.val) Fld.CRC_U_STATUS_CLAIMED =
      false ∧ k = s.fld (Reg.CRC_U_CFG u.val) Fld.CRC_U_CFG_SNOOP ∧ (s.flag (Reg.CRC_U_CFG u.val)
      Fld.CRC_U_CFG_MODE = true ∨ k % 7 = 0 ∨ pointPoly k = some (s.fld (Reg.CRC_U_CFG u.val)
      Fld.CRC_U_CFG_POLY)) :=
  ⟨State.reset.setFld (Reg.CRC_U_CFG 3) Fld.CRC_U_CFG_MODE 1, .mgmt, 3, 0, by decide +kernel, by decide +kernel,
   by decide +kernel⟩

theorem wit_CheckUnitsEnable_1 :
    ∃ (s : State) (p : Path) (u : Fin 4) (k : Nat), s.flag (Reg.CRC_U_STATUS u.val) Fld.CRC_U_STATUS_CLAIMED =
      false ∧ k = s.fld (Reg.CRC_U_CFG u.val) Fld.CRC_U_CFG_SNOOP ∧ s.flag (Reg.CRC_U_CFG u.val)
      Fld.CRC_U_CFG_MODE = false ∧ k % 7 ≠ 0 ∧ pointPoly k ≠ some (s.fld (Reg.CRC_U_CFG u.val)
      Fld.CRC_U_CFG_POLY) :=
  ⟨(State.reset.setFld (Reg.CRC_U_CFG 3) Fld.CRC_U_CFG_SNOOP 1).setFld (Reg.CRC_U_CFG 3) Fld.CRC_U_CFG_POLY 3,
   .mgmt, 3, 1, by decide +kernel, by decide +kernel, by decide +kernel, by decide +kernel, by decide +kernel⟩

theorem wit_CheckUnitsEnable_2 :
    ∃ (s : State) (p : Path) (u : Fin 4), s.flag (Reg.CRC_U_STATUS u.val) Fld.CRC_U_STATUS_CLAIMED = false :=
  ⟨State.reset, .mgmt, 3, by decide +kernel⟩

theorem wit_CheckUnitsEnable_3 :
    ∃ (s : State) (p : Path) (u : Fin 4), s.flag (Reg.CRC_U_STATUS u.val) Fld.CRC_U_STATUS_CLAIMED = true :=
  ⟨State.reset.setFld (Reg.CRC_U_STATUS 3) Fld.CRC_U_STATUS_CLAIMED 1, .mgmt, 3, by decide +kernel⟩

theorem wit_ResetsOfTheModule_0 :
    ∃ (s : State), s.boot.phase = .unpowered :=
  ⟨(booting (fun b => { b with phase := .unpowered }) State.reset), by decide +kernel⟩

theorem wit_ResetsOfTheModule_3 :
    ∃ (ns : Nat) (s : State), 1000 ≤ ns ∧ s.boot.phase ≠ .unpowered :=
  ⟨1000, State.reset, by decide +kernel, by decide +kernel⟩

theorem wit_ResetsOfTheModule_4 :
    ∃ (ns : Nat) (s : State), ns < 100 :=
  ⟨99, State.reset, by decide⟩

theorem wit_ResetsOfTheModule_5 :
    ∃ (vm : Fin 56) (s : State), s.boot.phase ≠ .unpowered :=
  ⟨3, State.reset, by decide +kernel⟩

theorem wit_ResetsOfTheModule_6 :
    ∃ (w : Word) (s : State), Fld.CFG_CTRL_RESTART.get w = 1 ∧ Fld.CFG_CTRL_CODE.get w = 0x5A :=
  ⟨Fld.CFG_CTRL_RESTART.put 1 (Fld.CFG_CTRL_CODE.put 0x5A 0), State.reset, by decide +kernel, by decide +kernel⟩

theorem wit_ResetsOfTheModule_7 :
    ∃ (w : Word) (s : State), Fld.CFG_CTRL_CODE.get w ≠ 0x5A :=
  ⟨0, State.reset, by decide +kernel⟩

theorem wit_ResetsOfTheModule_8 :
    ∃ (s : State), s.boot.phase ≠ .unpowered :=
  ⟨State.reset, by decide +kernel⟩

theorem wit_ResetsOfTheModule_9 :
    ∃ (ns : Nat) (s : State), 1000 ≤ ns ∧ s.fld Reg.PWR_STATUS Fld.PWR_STATUS_CUR = 4 :=
  ⟨1000, ((booting (fun b => { b with phase := .unpowered }) State.reset).setFld Reg.PWR_STATUS Fld.PWR_STATUS_CUR
   4), by decide +kernel, by decide +kernel⟩

theorem wit_ResetsOfTheModule_10 :
    ∃ (ns : Nat) (s : State), 100 ≤ ns ∧ ns < 1000 ∧ s.boot.phase ≠ .unpowered :=
  ⟨100, State.reset, by decide +kernel, by decide +kernel, by decide +kernel⟩

theorem wit_ResetsOfTheModule_11 :
    ∃ (ns : Nat) (s : State), s.boot.phase = .unpowered ∧ s.fld Reg.PWR_STATUS Fld.PWR_STATUS_CUR ≠ 4 :=
  ⟨1000, (booting (fun b => { b with phase := .unpowered }) State.reset), by decide +kernel, by decide +kernel⟩

theorem wit_ResetsOfTheModule_12 :
    ∃ (vm : Fin 56) (s : State), s.boot.phase = .unpowered :=
  ⟨3, (booting (fun b => { b with phase := .unpowered }) State.reset), by decide +kernel⟩

theorem wit_ResetsOfTheModule_13 :
    ∃ (w : Word) (s : State), Fld.CFG_CTRL_RESTART.get w = 0 :=
  ⟨0, State.reset, by decide +kernel⟩

theorem wit_StartUpRunsTheImage_0 :
    ∃ (straps : Fin 16) (us us1 : Nat) (s : State), Inv s ∧ s.boot.phase = .reset ∧ s.headCause (s.flash
      s.source) = 0 :=
  ⟨0, 5, 6, (booting (fun b => { b with flash := [image1, []] }) State.reset), inv_by (by decide +kernel),
   by decide +kernel, by decide +kernel⟩

theorem wit_StartUpRunsTheImage_1 :
    ∃ (straps : Fin 16) (us us1 : Nat) (s : State), Inv s ∧ s.boot.phase = .reset ∧ s.flag Reg.CFG_STATUS
      Fld.CFG_STATUS_SOURCE = true ∧ s.headCause (s.flash s.source) ≠ 0 :=
  ⟨0, 5, 6, ((booting (fun b => { b with flash := [[], []] }) State.reset).setFld Reg.CFG_STATUS
   Fld.CFG_STATUS_SOURCE 1), inv_by (by decide +kernel), by decide +kernel, by decide +kernel,
   by decide +kernel⟩

theorem wit_StartUpRunsTheImage_2 :
    ∃ (us : Nat) (s : State) (x : Sect), s.nextSect = some x ∧ (x.ty = sectSpares ∨ x.ty = sectWave) ∧ sectCause
      (s.flag Reg.CFG_STATUS Fld.CFG_STATUS_SIGNED) x (flashAt (s.flash s.source) x.ofs x.len) = 0 :=
  ⟨7, nextIs sectSpares, sect1 sectSpares, by decide +kernel, by decide +kernel, by decide +kernel⟩

theorem wit_StartUpRunsTheImage_3 :
    ∃ (us : Nat) (s : State) (x : Sect), s.nextSect = some x ∧ s.flag Reg.CFG_STATUS Fld.CFG_STATUS_SOURCE =
      true :=
  ⟨7, ((nextIs sectRegs).setFld Reg.CFG_STATUS Fld.CFG_STATUS_SOURCE 1), sect1 sectRegs, by decide +kernel,
   by decide +kernel⟩

theorem wit_StartUpRunsTheImage_4 :
    ∃ (s : State), s.boot.fwWait = true ∧ s.boot.phase = .load ∧ s.flag Reg.CFG_STATUS Fld.CFG_STATUS_SOURCE =
      true :=
  ⟨((booting (fun b => { b with fwWait := true, phase := .load }) State.reset).setFld Reg.CFG_STATUS
   Fld.CFG_STATUS_SOURCE 1), by decide +kernel, by decide +kernel, by decide +kernel⟩

theorem wit_StartUpRunsTheImage_5 :
    ∃ (us mgt : Nat) (s : State), Inv s ∧ s.locked = false ∧ s.boot.phase = .load ∧ s.boot.sects ≠ [] ∧
      s.boot.todo = [] ∧ s.flag Reg.DC_STATUS Fld.DC_STATUS_ALL_TRAINED = true ∧ s.flag Reg.CFG_STATUS
      Fld.CFG_STATUS_HOST_LOCK = false :=
  ⟨9, 11, ((booting (fun b => { b with phase := .load, sects := [sect1 sectRegs] }) State.reset).setFld
   Reg.DC_STATUS Fld.DC_STATUS_ALL_TRAINED 1), inv_by (by decide +kernel), by decide +kernel, by decide +kernel,
   by decide +kernel, by decide +kernel, by decide +kernel, by decide +kernel⟩

theorem wit_StartUpRunsTheImage_6 :
    ∃ (p : Path) (us : Nat) (s : State), s.locked = false ∧ s.flag Reg.CFG_STATUS Fld.CFG_STATUS_HOST_LOCK =
      true ∧ s.fld Reg.CFG_STATUS Fld.CFG_STATUS_STATE = 2 :=
  ⟨.mgmt, 9, ((State.reset.setFld Reg.CFG_STATUS Fld.CFG_STATUS_HOST_LOCK 1).setFld Reg.CFG_STATUS
   Fld.CFG_STATUS_STATE 2), by decide +kernel, by decide +kernel, by decide +kernel⟩

theorem wit_StartUpRunsTheImage_7 :
    ∃ (p : Path) (us : Nat) (s : State), s.locked = false ∧ s.flag Reg.CFG_STATUS Fld.CFG_STATUS_HOST_LOCK =
      true ∧ s.fld Reg.CFG_STATUS Fld.CFG_STATUS_STATE ≠ 2 :=
  ⟨.mgmt, 9, (State.reset.setFld Reg.CFG_STATUS Fld.CFG_STATUS_HOST_LOCK 1), by decide +kernel, by decide +kernel,
   by decide +kernel⟩

theorem wit_UpdatesAndHandOver_0 :
    ∃ (w : Word) (s : State), s.updBusy = false ∧ s.regN Reg.CFG_UPD_OFS + s.regN Reg.CFG_UPD_LEN ≤ slotBytes ∧
      s.regN Reg.CFG_UPD_OFS % 65536 = 0 ∧ s.regN Reg.CFG_UPD_LEN % 256 = 0 ∧ s.regN Reg.CFG_UPD_LEN ≤ 1048576 ∧
      Fld.CFG_UPD_CTRL_DEV.get w = 0 :=
  ⟨0, State.reset, by decide +kernel, by decide +kernel, by decide +kernel, by decide +kernel, by decide +kernel,
   by decide +kernel⟩

theorem wit_UpdatesAndHandOver_1 :
    ∃ (s : State) (u : UpdOp), s.boot.upd = some u ∧ u.bad = 0 :=
  ⟨(booting (fun b => { b with upd := some ⟨0, 0, [1], 0⟩ }) State.reset), ⟨0, 0, [1], 0⟩, by decide +kernel,
   by decide +kernel⟩

theorem wit_UpdatesAndHandOver_2 :
    ∃ (w : Word) (s : State), s.updBusy = false ∧ Fld.CFG_UPD_CTRL_DEV.get w = 0 :=
  ⟨0, State.reset, by decide +kernel, by decide +kernel⟩

theorem wit_UpdatesAndHandOver_3 :
    ∃ (s : State), s.updBusy = false ∧ s.boot.hand = none ∧ s.boot.checked = true ∧ Bits.rd (imgHead (s.flash
      0)) 20 2 = s.boot.iface ∧ 2 ≤ (s.coresIn 1).length :=
  ⟨(((booting (fun b => { b with checked := true, flash := [flashFrom 20 [1, 0], []], iface := 1 })
   State.reset).setRegN (Reg.ERR_CORE_STAT 0) (Fld.ERR_CORE_STAT_STATE.put 1 0).toNat).setRegN
   (Reg.ERR_CORE_STAT 1) (Fld.ERR_CORE_STAT_STATE.put 1 0).toNat), by decide +kernel, by decide +kernel,
   by decide +kernel, by decide +kernel, by decide +kernel⟩

theorem wit_UpdatesAndHandOver_4 :
    ∃ (s : State) (m l : Nat) (d : Bool), s.flag Reg.CFG_UPD_STATUS Fld.CFG_UPD_STATUS_HANDOVER = true ∧
      s.boot.hand = some ⟨m + 1, false, d, l⟩ :=
  ⟨((booting (fun b => { b with hand := some ⟨2, false, false, 7⟩ }) State.reset).setFld Reg.CFG_UPD_STATUS
   Fld.CFG_UPD_STATUS_HANDOVER 1), 1, 7, false, by decide +kernel, by decide +kernel⟩

theorem wit_UpdatesAndHandOver_5 :
    ∃ (s : State) (l : Nat) (d : Bool), s.flag Reg.CFG_UPD_STATUS Fld.CFG_UPD_STATUS_HANDOVER = true ∧
      s.boot.hand = some ⟨0, false, d, l⟩ :=
  ⟨((booting (fun b => { b with hand := some ⟨0, false, false, 7⟩ }) State.reset).setFld Reg.CFG_UPD_STATUS
   Fld.CFG_UPD_STATUS_HANDOVER 1), 7, false, by decide +kernel, by decide +kernel⟩

theorem wit_UpdatesAndHandOver_6 :
    ∃ (s : State) (m l : Nat) (d : Bool), s.cores.outReq = [] ∧ s.boot.hand = some ⟨m, false, d, l⟩ ∧ m < 4 ∧ l
      ≤ s.clk.ticks ∧ (d = true ∨ s.noSwath = true) :=
  ⟨(booting (fun b => { b with hand := some ⟨3, false, true, 0⟩ }) State.reset), 3, 0, true, by decide +kernel,
   by decide +kernel, by decide +kernel, by decide +kernel, by decide +kernel⟩

theorem wit_UpdatesAndHandOver_7 :
    ∃ (s : State) (l : Nat) (d : Bool), s.cores.outReq = [] ∧ s.boot.hand = some ⟨4, false, d, l⟩ ∧ l ≤
      s.clk.ticks ∧ (d = true ∨ s.noSwath = true) :=
  ⟨(booting (fun b => { b with hand := some ⟨4, false, true, 0⟩, flash := [image1, []] }) State.reset), 0, true,
   by decide +kernel, by decide +kernel, by decide +kernel, by decide +kernel⟩

theorem wit_UpdatesAndHandOver_8 :
    ∃ (s : State) (m l : Nat) (d : Bool), s.cores.outReq = [] ∧ s.boot.hand = some ⟨m + 2, true, d, l⟩ ∧ l ≤
      s.clk.ticks ∧ (d = true ∨ s.noSwath = true) :=
  ⟨(booting (fun b => { b with hand := some ⟨3, true, true, 0⟩ }) State.reset), 1, 0, true, by decide +kernel,
   by decide +kernel, by decide +kernel, by decide +kernel⟩

theorem wit_UpdatesAndHandOver_9 :
    ∃ (w : Word) (s : State), Fld.CFG_OTP_CTRL_OP.get w = 1 ∧ Fld.CFG_OTP_CTRL_CODE.get w = 0x3C ∧ s.boot.otp =
      none ∧ s.boot.otpNext = none ∧ s.fld Reg.EXP_ZLS_STATUS Fld.EXP_ZLS_STATUS_STATE = 0 :=
  ⟨Fld.CFG_OTP_CTRL_OP.put 1 (Fld.CFG_OTP_CTRL_CODE.put 0x3C 0), State.reset, by decide +kernel,
   by decide +kernel, by decide +kernel, by decide +kernel, by decide +kernel⟩

theorem wit_UpdatesAndHandOver_10 :
    ∃ (s : State) (k : List Byte), s.boot.otpNext = some k :=
  ⟨(booting (fun b => { b with otpNext := some [1] }) State.reset), [1], by decide +kernel⟩

theorem wit_UpdatesAndHandOver_11 :
    ∃ (s : State) (k : List Byte), s.boot.otpNext = some k :=
  ⟨(booting (fun b => { b with otpNext := some [1] }) State.reset), [1], by decide +kernel⟩

theorem wit_PowerStepsAndWake_0 :
    ∃ (p : Path) (w : Word) (s : State), Inv s ∧ s.pwrBusy = false ∧ s.flag Reg.PWR_STATUS
      Fld.PWR_STATUS_LOCKOUT = false ∧ s.dueAction 5 = none ∧ Fld.PWR_CTRL_GO.get w = 1 ∧ Fld.PWR_CTRL_REQ.get w
      = 1 ∧ s.pwrCur = 0 ∧ s.gy.swaths = [] :=
  ⟨.mgmt, Fld.PWR_CTRL_GO.put 1 (Fld.PWR_CTRL_REQ.put 1 0), (State.reset.setFld Reg.PWR_STATUS Fld.PWR_STATUS_CUR
   0), inv_by (by decide +kernel), by decide +kernel, by decide +kernel, by decide +kernel, by decide +kernel,
   by decide +kernel, by decide +kernel, by decide +kernel⟩

theorem wit_PowerStepsAndWake_1 :
    ∃ (p : Path) (w : Word) (s : State), s.dueAction 5 = none ∧ Fld.PWR_CTRL_GO.get w = 1 ∧ 5 ≤
      Fld.PWR_CTRL_REQ.get w ∧ s.pwrCur ≠ 3 ∧ s.pwrCur ≠ 4 :=
  ⟨.mgmt, Fld.PWR_CTRL_GO.put 1 (Fld.PWR_CTRL_REQ.put 7 0), State.reset, by decide +kernel, by decide +kernel,
   by decide +kernel, by decide +kernel, by decide +kernel⟩

theorem wit_PowerStepsAndWake_2 :
    ∃ (p : Path) (w : Word) (s : State), s.pwrCur = 4 :=
  ⟨.spi, 0, State.reset.setFld Reg.PWR_STATUS Fld.PWR_STATUS_CUR 4, by decide +kernel⟩

theorem wit_PowerStepsAndWake_3 :
    ∃ (s : State) (d : TaDue), Inv s ∧ ActsNow s 5 d ∧ s.fab.waits = [] ∧ d.late = false ∧ s.regN
      (Reg.TA_SLOT_ARG0 d.slot) = 1 ∧ s.pwrBusy = false ∧ s.flag Reg.PWR_STATUS Fld.PWR_STATUS_LOCKOUT = false ∧
      s.pwrCur = 0 ∧ s.gy.swaths = [] :=
  ⟨{ (((State.reset.setFld Reg.PWR_STATUS Fld.PWR_STATUS_CUR 0).setFld (Reg.TA_SLOT_CTL 0) Fld.TA_SLOT_CTL_CODE 5).setRegN (Reg.TA_SLOT_ARG0 0) 1) with due := [⟨0, 0, false⟩] },
   ⟨0, 0, false⟩, inv_by (by decide +kernel), by decide +kernel, by decide +kernel, by decide +kernel,
   by decide +kernel, by decide +kernel, by decide +kernel, by decide +kernel, by decide +kernel⟩

theorem wit_PowerStepsAndWake_4 :
    ∃ (s : State), Inv s ∧ s.pwrBusy = false ∧ s.flag Reg.PWR_STATUS Fld.PWR_STATUS_LOCKOUT = false ∧ s.pwrCur =
      0 ∧ s.fld Reg.PWR_CFG Fld.PWR_CFG_IDLE_AFTER_MS ≠ 0 ∧ s.gy.swaths = [] :=
  ⟨((State.reset.setFld Reg.PWR_STATUS Fld.PWR_STATUS_CUR 0).setFld Reg.PWR_CFG Fld.PWR_CFG_IDLE_AFTER_MS 1),
   inv_by (by decide +kernel), by decide +kernel, by decide +kernel, by decide +kernel, by decide +kernel,
   by decide +kernel⟩

theorem wit_PowerStepsAndWake_5 :
    ∃ (s : State) (mv r : Nat), s.pw.vreq = some r ∧ s.pw.vok = false ∧ 50 * (mv - r) ≤ r ∧ 50 * (r - mv) ≤ r :=
  ⟨(powering (fun b => { b with step := some (0, 1), vreq := some 750 }) State.reset), 735, 750,
   by decide +kernel, by decide +kernel, by decide +kernel, by decide +kernel⟩

theorem wit_PowerStepsAndWake_7 :
    ∃ (s : State) (r : Nat), Inv s ∧ s.pw.vreq = some r ∧ s.pw.vok = false ∧ s.pw.fails < 2 ∧ s.pwrPending = 7
      :=
  ⟨((powering (fun b => { b with step := some (0, 1), vreq := some 5, fails := 1 }) State.reset).setFld
   Reg.PWR_STATUS Fld.PWR_STATUS_PENDING 7), 5, inv_by (by decide +kernel), by decide +kernel,
   by decide +kernel, by decide +kernel, by decide +kernel⟩

theorem wit_PowerStepsAndWake_8 :
    ∃ (aon : Nat) (s : State), Inv s ∧ s.pw.step = some (0, 1) ∧ s.pw.vok = true ∧ s.pwrTarget = 1 ∧
      s.pwrPending = 7 :=
  ⟨9, (((powering (fun b => { b with step := some (0, 1), vok := true }) State.reset).setFld Reg.PWR_STATUS
   Fld.PWR_STATUS_PENDING 7).setFld Reg.PWR_STATUS Fld.PWR_STATUS_TARGET 1), inv_by (by decide +kernel),
   by decide +kernel, by decide +kernel, by decide +kernel, by decide +kernel⟩

theorem wit_PowerStepsAndWake_9 :
    ∃ (aon a : Nat) (s : State), s.pw.step = some (a, 4) ∧ s.pw.vok = true :=
  ⟨9, 0, (powering (fun b => { b with step := some (0, 4), vok := true }) State.reset), by decide +kernel,
   by decide +kernel⟩

theorem wit_PowerStepsAndWake_10 :
    ∃ (i : Fin 2) (h : Bool) (us : Nat) (s : State), Inv s ∧ s.pwrBusy = false ∧ s.flag Reg.PWR_STATUS
      Fld.PWR_STATUS_LOCKOUT = false ∧ Bits.bit (s.fld Reg.PWR_WAKE_CFG Fld.PWR_WAKE_CFG_PIN_EN) i = true ∧
      s.pwrCur = 2 ∧ Bits.bit (s.fld Reg.PWR_WAKE_CFG Fld.PWR_WAKE_CFG_PIN_HIGH) i = h ∧ s.fld Reg.PWR_WAKE_CFG
      Fld.PWR_WAKE_CFG_QUAL_US ≤ us ∧ s.pw.step = none :=
  ⟨1, false, 2000, ((State.reset.setFld Reg.PWR_WAKE_CFG Fld.PWR_WAKE_CFG_PIN_EN 2).setFld Reg.PWR_STATUS
   Fld.PWR_STATUS_CUR 2), inv_by (by decide +kernel), by decide +kernel, by decide +kernel, by decide +kernel,
   by decide +kernel, by decide +kernel, by decide +kernel, by decide +kernel⟩

theorem wit_PowerStepsAndWake_11 :
    ∃ (i : Fin 2) (h : Bool) (us : Nat) (s : State), Bits.bit (s.fld Reg.PWR_WAKE_CFG Fld.PWR_WAKE_CFG_PIN_EN) i
      = true ∧ s.pwrCur ≤ 1 ∧ Bits.bit (s.fld Reg.PWR_WAKE_CFG Fld.PWR_WAKE_CFG_PIN_HIGH) i = h ∧ s.fld
      Reg.PWR_WAKE_CFG Fld.PWR_WAKE_CFG_QUAL_US ≤ us :=
  ⟨1, true, 2000, ((State.reset.setFld Reg.PWR_WAKE_CFG Fld.PWR_WAKE_CFG_PIN_EN 2).setFld Reg.PWR_WAKE_CFG
   Fld.PWR_WAKE_CFG_PIN_HIGH 2), by decide +kernel, by decide +kernel, by decide +kernel, by decide +kernel⟩

theorem wit_PowerStepsAndWake_12 :
    ∃ (i : Fin 2) (h : Bool) (us : Nat) (s : State), (Bits.bit (s.fld Reg.PWR_WAKE_CFG Fld.PWR_WAKE_CFG_PIN_EN)
      i = false ∨ Bits.bit (s.fld Reg.PWR_WAKE_CFG Fld.PWR_WAKE_CFG_PIN_HIGH) i ≠ h ∨ us < s.fld
      Reg.PWR_WAKE_CFG Fld.PWR_WAKE_CFG_QUAL_US) :=
  ⟨0, true, 0, State.reset, by decide +kernel⟩

theorem wit_PowerStepsAndWake_13 :
    ∃ (s : State), Inv s ∧ s.pwrBusy = false ∧ s.flag Reg.PWR_STATUS Fld.PWR_STATUS_LOCKOUT = false ∧ s.pwrCur =
      3 ∧ s.regN Reg.PWR_WAKE_TIMER ≠ 0 :=
  ⟨((State.reset.setFld Reg.PWR_STATUS Fld.PWR_STATUS_CUR 3).setRegN Reg.PWR_WAKE_TIMER 10), inv_by
   (by decide +kernel), by decide +kernel, by decide +kernel, by decide +kernel, by decide +kernel⟩

theorem wit_PowerStepsAndWake_14 :
    ∃ (n : Fin 41) (full : Bool) (s : State), s.asleep (portLanes (lanePort n)).1 (portLanes (lanePort n)).2 =
      true ∧ (full = true ∨ Bits.bit (s.regN Reg.LN_WAKE_CFG) (lanePort n) = false ∨ s.laneRaw n = 5) ∧ Bits.bit
      (s.regN Reg.PWR_WAKE_CFG) (12 + lanePort n) = false ∧ s.pwrCur ≠ 3 :=
  ⟨40, true, ((State.reset.setRegN Reg.PWR_WAKE_CFG 0).setFld (Reg.LN_LANE_STATUS 40) Fld.LN_LANE_STATUS_STATE 5),
   by decide +kernel, by decide +kernel, by decide +kernel, by decide +kernel⟩

theorem wit_PowerStepsAndWake_15 :
    ∃ (n : Fin 41) (s : State), s.asleep (portLanes (lanePort n)).1 (portLanes (lanePort n)).2 = true ∧ Bits.bit
      (s.regN Reg.LN_WAKE_CFG) (lanePort n) = true ∧ s.laneRaw n ≠ 5 :=
  ⟨40, ((State.reset.setRegN Reg.LN_WAKE_CFG 0xFFF).setFld (Reg.LN_LANE_STATUS 40) Fld.LN_LANE_STATUS_STATE 6),
   by decide +kernel, by decide +kernel, by decide +kernel⟩

theorem wit_PowerStepsAndWake_16 :
    ∃ (ok : Bool) (s : State), s.pw.step = some (3, 2) ∧ s.pw.canary = true :=
  ⟨true, (powering (fun b => { b with step := some (3, 2), canary := true }) State.reset), by decide +kernel,
   by decide +kernel⟩

theorem wit_PowerStepsAndWake_17 :
    ∃ (s : State) (l : Layer) (e : SwathEntry) (v : Survey), s.captureDue = some (l, e, v) ∧ s.inRun = true :=
  ⟨{ ((oneLayer.setFld Reg.BM_STATUS Fld.BM_STATUS_VALID 1).setFld Reg.PWR_STATUS Fld.PWR_STATUS_CUR 0) with surveys := [⟨1, 0, true, [], 0, 0, 0, []⟩] },
   layer1, swath0, ⟨1, 0, true, [], 0, 0, 0, []⟩, by decide +kernel, by decide +kernel⟩

theorem wit_PowerStepsAndWake_18 :
    ∃ (s : State) (l : Layer) (e : SwathEntry) (v : Survey), s.captureDue = some (l, e, v) ∧ Inv s ∧ s.inRun =
      false ∧ s.flag Reg.PWR_CFG Fld.PWR_CFG_AUTO_RUN = false :=
  ⟨{ (((oneLayer.setFld Reg.BM_STATUS Fld.BM_STATUS_VALID 1).setFld Reg.PWR_STATUS Fld.PWR_STATUS_CUR 1).setFld Reg.PWR_CFG Fld.PWR_CFG_AUTO_RUN 0) with surveys := [⟨1, 0, true, [], 0, 0, 0, []⟩] },
   layer1, swath0, ⟨1, 0, true, [], 0, 0, 0, []⟩, by decide +kernel, inv_by (by decide +kernel),
   by decide +kernel, by decide +kernel⟩

theorem wit_FiringSwaths_0 :
    ∃ (bad : List Nat) (s : State) (w : Swath) (l : Layer) (e : SwathEntry), s.loading = some w ∧ s.layer
      w.layer = some l ∧ s.swEntry w = some e ∧ w.loaded < e.lines ∧ w.loaded ≤ s.front w l e + loadAhead
      (s.nominalRate w) ∧ ((s.lineTiles w (e.line w.loaded)).all fun t => s.lineReady t (e.line w.loaded)) =
      true :=
  ⟨[], oneRow .running, swathOf .running, layer1, swath0, by decide +kernel, by decide +kernel, by decide +kernel,
   by decide +kernel, by decide +kernel, by decide +kernel⟩

theorem wit_FiringSwaths_1 :
    ∃ (p : Fin 6) (s : State) (fire : Nat), (s.gy.due.find? (fun d => d.1 == p.val) = some (p.val, fire)) ∧
      s.gy.estop = false ∧ fire ≤ s.now16 :=
  ⟨0, { State.reset with gy := { State.reset.gy with due := [(0, 0)] } }, 0, by decide +kernel, by decide +kernel,
   by decide +kernel⟩

theorem wit_FiringSwaths_2 :
    ∃ (p : Fin 6) (s : State), s.gy.estop = true :=
  ⟨0, { State.reset with gy := { State.reset.gy with estop := true } }, by decide +kernel⟩

theorem wit_FiringSwaths_3 :
    ∃ (s : State) (d : TaDue) (w : Swath), ActsNow s 1 d ∧ s.swath (s.regN (Reg.TA_SLOT_ARG0 d.slot)) (s.regN
      (Reg.TA_SLOT_ARG1 d.slot) % 65536) = some w ∧ w.state = .armed ∧ (w.ports.all fun p => s.portState p == 6)
      = true :=
  ⟨{ (((((oneRow .armed).setFld (Reg.HP_PORT_STATUS 0) Fld.HP_PORT_STATUS_STATE 6).setFld (Reg.TA_SLOT_CTL 200) Fld.TA_SLOT_CTL_CODE 1).setRegN (Reg.TA_SLOT_ARG0 200) 1).setRegN (Reg.TA_SLOT_ARG1 200) 0) with due := [⟨200, 0, false⟩] },
   ⟨200, 0, false⟩, swathOf .armed, by decide +kernel, by decide +kernel, by decide +kernel, by decide +kernel⟩

theorem wit_FiringSwaths_4 :
    ∃ (s : State) (d : TaDue), ActsNow s 1 d ∧ s.fab.waits = [] ∧ (∀ w, s.swath (s.regN (Reg.TA_SLOT_ARG0
      d.slot)) (s.regN (Reg.TA_SLOT_ARG1 d.slot) % 65536) = some w → w.state ≠ .armed ∨ (w.ports.all fun p =>
      s.portState p == 6) = false) :=
  ⟨{ (((State.reset.setFld (Reg.TA_SLOT_CTL 200) Fld.TA_SLOT_CTL_CODE 1).setRegN (Reg.TA_SLOT_ARG0 200) 1).setRegN (Reg.TA_SLOT_ARG1 200) 0) with due := [⟨200, 0, false⟩] },
   ⟨200, 0, false⟩, by decide +kernel, by decide +kernel, fun w h => nomatch h.symm.trans (show _ = none
   by decide +kernel)⟩

theorem wit_FiringSwaths_5 :
    ∃ (s : State) (w : Swath) (f : Nat), (s.gy.swaths.find? (fun w => w.state == .draining) = some w) ∧
      w.lastFire = some f ∧ f ≤ s.now16 :=
  ⟨(onGy (fun g => { g with swaths := [{ swathOf .draining with lastFire := some 0 }] }) (oneLayer )),
   { swathOf .draining with lastFire := some 0 }, 0, by decide +kernel, by decide +kernel, by decide +kernel⟩

theorem wit_FiringSwaths_6 :
    ∃ (s : State) (w : Swath), s.stoppable 3 = [w] :=
  ⟨oneSwath .running, swathOf .running, by decide +kernel⟩

theorem wit_FiringSwaths_7 :
    ∃ (s : State) (w : Swath), (s.gy.swaths.find? (fun w => w.state == .running) = some w) :=
  ⟨oneSwath .running, swathOf .running, by decide +kernel⟩

theorem wit_FiringSwaths_8 :
    ∃ (p : Fin 6) (h : Fin 8) (s : State), s.headPresent p h = true ∧ (s.gy.swaths.any fun w => w.ports.contains
      p.val && w.state == .running) = true :=
  ⟨0, 7, ((oneSwath .running).setFld (Reg.HP_HEAD_INFO 0 7) Fld.HP_HEAD_INFO_PRESENT 1), by decide +kernel,
   by decide +kernel⟩

theorem wit_FiringSwaths_9 :
    ∃ (p : Fin 6) (h : Fin 8) (s : State), (s.headPresent p h = false ∨ (s.gy.swaths.any fun w =>
      w.ports.contains p.val && w.state == .running) = false) :=
  ⟨0, 0, State.reset, by decide +kernel⟩

theorem wit_HeadFramesTaken_0 :
    ∃ (p : Fin 6) (ph : Fin 64) (s : State), Inv s ∧ 4 ≤ s.portState p ∧ s.portState p ≠ 7 ∧ s.asleep (16 + 4 *
      p.val) 4 = false :=
  ⟨5, 63, (State.reset.setFld (Reg.HP_PORT_STATUS 5) Fld.HP_PORT_STATUS_STATE 4), inv_by (by decide +kernel),
   by decide +kernel, by decide +kernel, by decide +kernel⟩

theorem wit_HeadFramesTaken_1 :
    ∃ (p : Fin 6) (m : Byte) (ph : Fin 64) (s : State), Inv s ∧ (s.port p).echoHead < 8 ∧ m.toNat = (s.port
      p).mark :=
  ⟨0, 1, 63, onP 0 fun x => { x with echoHead := 7, mark := 1 }, inv_by (by decide +kernel), by decide +kernel,
   by decide +kernel⟩

theorem wit_HeadFramesTaken_2 :
    ∃ (p : Fin 6) (fr : List Byte) (s : State) (h : Nat) (b : List Byte) (t4 : Nat), Inv s ∧ HeadFrame s p fr
      0x83 24 h b ∧ (s.port p).t4 = some t4 ∧ h = (s.port p).echoHead ∧ Bits.rd b 0 1 = (s.port p).mark :=
  ⟨0, (headFr 131 7 0 (le [(1, 3), (23, 0)])), onP 0 (fun x =>
   { x with echoHead := 7, mark := 3, t4 := some 100 }) (headUp 0 7 4), 7, (le [(1, 3), (23, 0)]), 100, inv_by
   (by decide +kernel), by decide +kernel, by decide +kernel, by decide +kernel, by decide +kernel⟩

theorem wit_HeadFramesTaken_3 :
    ∃ (p : Fin 6) (fr : List Byte) (s : State) (h : Nat) (b : List Byte) (o : HandOver), Inv s ∧ HeadFrame s p
      fr 0x86 8 h b ∧ ((s.port p).hos.find? (fun o => o.hoId == Bits.rd b 0 2 && !o.refused) = some o) ∧ h ∉
      o.acked ∧ Bits.rd b 4 4 = s.waveCrc p h :=
  ⟨0, (headFr 134 0 0 (le [(2, 5), (2, 0), (4, 0)])), onP 0 (fun x =>
   { x with hos := [⟨5, 1, 0, [], [], false⟩] }) (headUp 0 0 6), 0, (le [(2, 5), (2, 0), (4, 0)]), ⟨5, 1, 0, [],
   [], false⟩, inv_by (by decide +kernel), by decide +kernel, by decide +kernel, by decide +kernel,
   by decide +kernel⟩

theorem wit_HeadFramesTaken_4 :
    ∃ (p : Fin 6) (fr : List Byte) (s : State) (h : Nat) (b : List Byte) (r : SbReq), Inv s ∧ HeadFrame s p fr
      0x87 8 h b ∧ Bits.rd b 0 1 = 2 ∧ (s.headLink p h).sb = some r ∧ r.op = 2 ∧ r.offset = Bits.rd b 2 2 ∧
      (s.headLink p h).sbQueue = [] :=
  ⟨0, (headFr 135 0 0 (le [(1, 2), (1, 0), (2, 8), (4, 0)])), onH 0 0 (fun x =>
   { x with sb := some ⟨2, 8, 4, 1⟩ }) (headUp 0 0 6), 0, (le [(1, 2), (1, 0), (2, 8), (4, 0)]), ⟨2, 8, 4, 1⟩,
   inv_by (by decide +kernel), by decide +kernel, by decide +kernel, by decide +kernel, by decide +kernel,
   by decide +kernel, by decide +kernel⟩

theorem wit_HeadFramesTaken_5 :
    ∃ (p : Fin 6) (fr : List Byte) (s : State) (h : Nat) (b : List Byte) (r q : SbReq) (l : List SbReq), Inv s ∧
      HeadFrame s p fr 0x87 8 h b ∧ Bits.rd b 0 1 = 2 ∧ (s.headLink p h).sb = some r ∧ r.op = 2 ∧ r.offset =
      Bits.rd b 2 2 ∧ (s.headLink p h).sbQueue = q :: l ∧ s.headShut p = false :=
  ⟨0, (headFr 135 0 0 (le [(1, 2), (1, 0), (2, 8), (4, 0)])), onH 0 0 (fun x =>
   { x with sb := some ⟨2, 8, 4, 1⟩, sbQueue := [⟨1, 0, 4, 0⟩] }) (headUp 0 0 6), 0, (le [(1, 2), (1, 0), (2,
   8), (4, 0)]), ⟨2, 8, 4, 1⟩, ⟨1, 0, 4, 0⟩, [], inv_by (by decide +kernel), by decide +kernel,
   by decide +kernel, by decide +kernel, by decide +kernel, by decide +kernel, by decide +kernel,
   by decide +kernel⟩

theorem wit_HeadFramesTaken_6 :
    ∃ (p : Fin 6) (fr : List Byte) (s : State) (h : Nat) (b : List Byte) (k : Nat), Inv s ∧ HeadFrame s p fr
      0x88 4 h b ∧ k = Bits.rd b 0 1 ∧ k < 8 ∧ s.portState p = 2 ∧ k ∉ (s.port p).enumSeen ∧
      (({ s.port p with enumSeen := (s.port p).enumSeen ++ [k], enumEnd := (s.port p).enumEnd || Bits.rd b 1 1 == 0 }
      : Port).counted = none) :=
  ⟨0, (headFr 136 1 0 (le [(1, 1), (1, 0), (2, 0)])), (State.reset.setFld (Reg.HP_PORT_STATUS 0)
   Fld.HP_PORT_STATUS_STATE 2), 1, (le [(1, 1), (1, 0), (2, 0)]), 1, inv_by (by decide +kernel),
   by decide +kernel, by decide +kernel, by decide +kernel, by decide +kernel, by decide +kernel,
   by decide +kernel⟩

theorem wit_HeadFramesTaken_7 :
    ∃ (p : Fin 6) (fr : List Byte) (s : State) (h : Nat) (b : List Byte), HeadFrame s p fr 0x8B 4 h b ∧ 8 ≤
      b.length ∧ Bits.rd b 0 1 = 1 ∧ Bits.rd b 2 2 = 1 ∧ s.hotSwaths p = [] :=
  ⟨0, (headFr 139 0 0 (le [(1, 1), (1, 0), (2, 1), (4, 0)])), headUp 0 0 6, 0, (le [(1, 1), (1, 0), (2, 1), (4,
   0)]), by decide +kernel, by decide +kernel, by decide +kernel, by decide +kernel, by decide +kernel⟩

theorem wit_HeadFramesTaken_8 :
    ∃ (p : Fin 6) (fr : List Byte) (s : State) (h : Nat) (b : List Byte), HeadFrame s p fr 0x8C 24 h b ∧
      ((s.port p).sentFrames.all fun f => f.head != h) = true :=
  ⟨0, (headFr 140 0 0 (le [(2, 0), (2, 9), (20, 0)])), headUp 0 0 6, 0, (le [(2, 0), (2, 9), (20, 0)]),
   by decide +kernel, by decide +kernel⟩

theorem wit_HeadFramesTaken_9 :
    ∃ (p : Fin 6) (fr : List Byte) (s : State) (h : Nat) (b : List Byte) (u : State) (c : FireCmd) (rs : List
      FireRow), HeadFrame s p fr 0x8C 24 h b ∧ u = ((s.onHead p h fun x =>
      { x with seqUp := some (Bits.rd fr 4 2) }).count (Reg.HP_EXC p) 1).event Reg.HP_EVENT Fld.HP_EVENT_EXC ∧
      u.excNames p h (Bits.rd b 0 1) (Bits.rd b 2 2) (Bits.rd b 4 4) (Bits.rd b 8 2) = some (c, rs) ∧ c.tag =
      Bits.rd b 16 8 :=
  ⟨0, excBytes, excState, 0, (le [(1, 1), (1, 0), (2, 9), (4, 3), (2, 4), (6, 0), (8, 5)]), ((excState.onHead 0 0
   fun x => { x with seqUp := some 0 }).count (Reg.HP_EXC 0) 1).event Reg.HP_EVENT Fld.HP_EVENT_EXC, ⟨0, 1, 0,
   0, 0, false, [⟨4, 3, 0, false, 0, [], [(tile0, 5)]⟩]⟩, [⟨4, 3, 0, false, 0, [], [(tile0, 5)]⟩],
   by decide +kernel, rfl, by decide +kernel, by decide +kernel⟩

theorem wit_HeadFramesTaken_10 :
    ∃ (p : Fin 6) (fr : List Byte) (s : State) (h : Nat) (b : List Byte) (u : State), HeadFrame s p fr 0x8D 24 h
      b ∧ (u = ((s.onHead p h fun x => { x with seqUp := some (Bits.rd fr 4 2) }).onHead p h fun x =>
      { x with queueFree := 1024 * Bits.rd b 8 2, lastSeq := Bits.rd b 6 2, segLanes := Bits.rd b 1 1 % 16, resid := Bits.rdS b 2 2 }).onPort
      p fun x =>
      { x with sentFrames := x.sentFrames.map fun f => if f.head = h then { f with after := f.after && seqAfter f.seq (Bits.rd b 6 2) } else f })
      :=
  ⟨0, (headFr 141 0 0 (le [(1, 1), (1, 3), (2, 65535), (2, 0), (2, 4), (2, 2), (14, 0)])), headUp 0 0 6, 0, (le
   [(1, 1), (1, 3), (2, 65535), (2, 0), (2, 4), (2, 2), (14, 0)]), (((headUp 0 0 6).onHead 0 0 fun x =>
   { x with seqUp := some 0 }).onHead 0 0 fun x =>
   { x with queueFree := 2048, lastSeq := 4, segLanes := 3, resid := -1 }).onPort 0 fun x =>
   { x with sentFrames := x.sentFrames.map fun f => if f.head = 0 then { f with after := f.after && seqAfter f.seq 4 } else f },
   by decide +kernel, rfl⟩

theorem wit_HeadFramesTaken_11 :
    ∃ (p : Fin 6) (fr : List Byte) (s : State), 2 ≤ s.portState p ∧ s.portState p ≠ 7 ∧ Crc.crc32c (fr.take
      (fr.length - 4)) ≠ Bits.rd fr (fr.length - 4) 4 :=
  ⟨0, [0, 0, 0, 0, 1], headUp 0 0 6, by decide +kernel, by decide +kernel, by decide +kernel⟩

theorem wit_HeadFramesTaken_12 :
    ∃ (p : Fin 6) (fr : List Byte) (s : State), (s.portState p < 2 ∨ s.portState p = 7) :=
  ⟨0, [], headUp 0 0 7, by decide +kernel⟩

theorem wit_HeadPortsServe_0 :
    ∃ (p : Fin 6) (up : Bool) (s : State) (c : FireCmd) (l : List FireCmd), Inv s ∧ (s.port p).queue = c :: l ∧
      (s.port p).narrow = none ∧ s.gy.estop = false ∧ c.bytes ≤ s.headRoom p c.head :=
  ⟨0, true, onP 0 fun x => { x with queue := [⟨0, 1, 0, 0, 0, false, []⟩] }, ⟨0, 1, 0, 0, 0, false, []⟩, [],
   inv_by (by decide +kernel), by decide +kernel, by decide +kernel, by decide +kernel, by decide +kernel⟩

theorem wit_HeadPortsServe_1 :
    ∃ (p : Fin 6) (up : Bool) (s : State), s.gy.estop = true :=
  ⟨0, true, { State.reset with gy := { State.reset.gy with estop := true } }, by decide +kernel⟩

theorem wit_HeadPortsServe_2 :
    ∃ (p : Fin 6) (h : Fin 8) (s : State) (r : SbReq), Inv s ∧ (s.port p).heads.length = 8 ∧ (s.headLink p h).sb
      = some r ∧ r.sends < 3 :=
  ⟨5, 7, onH 5 7 fun x => { x with sb := some ⟨2, 0, 4, 2⟩ }, ⟨2, 0, 4, 2⟩, inv_by (by decide +kernel),
   by decide +kernel, by decide +kernel, by decide +kernel⟩

theorem wit_HeadPortsServe_3 :
    ∃ (p : Fin 6) (h : Fin 8) (s : State), s.headPresent p h = true :=
  ⟨5, 7, headUp 5 7 6, by decide +kernel⟩

theorem wit_HeadPortsServe_4 :
    ∃ (p : Fin 6) (h : Fin 8) (s : State) (o : HandOver), s.headPresent p h = true ∧ ((s.hosOpen p).find? (fun o
      => !o.refused && !o.acked.contains h.val && Kv.getD o.sends h.val 0 != 0) = some o) :=
  ⟨0, 0, onP 0 (fun x => { x with hos := [⟨0, 1, 0, [(0, 1)], [], false⟩] }) (headUp 0 0 6 (oneSwath .captured)),
   ⟨0, 1, 0, [(0, 1)], [], false⟩, by decide +kernel, by decide +kernel⟩

theorem wit_HeadPortsServe_5 :
    ∃ (p : Fin 6) (s : State), Inv s ∧ s.portState p = 2 ∧ (s.port p).counted.isSome = true :=
  ⟨0, onP 0 (fun x => { x with enumSeen := [0], enumEnd := true }) (headUp 0 0 2), inv_by (by decide +kernel),
   by decide +kernel, by decide +kernel⟩

theorem wit_HeadPortsServe_6 :
    ∃ (p : Fin 6) (s : State), Inv s ∧ s.portState p = 2 ∧ (s.port p).counted = none ∧ (s.port p).answered ≠ 0 ∧
      (s.port p).afterLoss = false :=
  ⟨0, onP 0 (fun x => { x with enumSeen := [0, 1] }) (headUp 0 0 2), inv_by (by decide +kernel),
   by decide +kernel, by decide +kernel, by decide +kernel, by decide +kernel⟩

theorem wit_HeadPortsServe_7 :
    ∃ (p : Fin 6) (s : State), s.portState p = 2 ∧ (s.port p).answered = 0 ∧ hdrCols s.bmap p ≠ 0 :=
  ⟨0, headUp 0 0 2 oneLayer, by decide +kernel, by decide +kernel, by decide +kernel⟩

theorem wit_HeadPortsServe_8 :
    ∃ (p : Fin 6) (s : State), Inv s ∧ s.portState p = 4 :=
  ⟨0, headUp 0 0 4, inv_by (by decide +kernel), by decide +kernel⟩

theorem wit_HeadPortsServe_9 :
    ∃ (p : Fin 6) (s : State), s.portState p = 6 ∧ s.flag (Reg.HP_PORT_STATUS p) Fld.HP_PORT_STATUS_TIME_LOCK =
      false :=
  ⟨0, headUp 0 0 6, by decide +kernel, by decide +kernel⟩

theorem wit_HeadPortsServe_10 :
    ∃ (p : Fin 6) (h : Fin 8) (s : State) (m : Nat) (l : List Nat), Inv s ∧ (s.port p).narrow = some (m, l) ∧ (∀
      x ∈ s.headsOf p, x = h.val ∨ x ∈ l) ∧ s.lanes p &&& s.commonLanes p = s.lanes p :=
  ⟨0, 7, onP 0 (fun x => { x with narrow := some (1, [0]) }) (headUp 0 0 6 (headUp 0 7 6)), 1, [0], inv_by
   (by decide +kernel), by decide +kernel, by decide +kernel, by decide +kernel⟩

theorem wit_HeadPortsServe_11 :
    ∃ (p : Fin 6) (h : Fin 8) (s : State) (m : Nat) (l : List Nat) (k : Nat), Inv s ∧ (s.port p).narrow = some
      (m, l) ∧ h.val ∉ l ∧ k ∈ s.headsOf p ∧ k ≠ h.val ∧ k ∉ l :=
  ⟨0, 7, onP 0 (fun x => { x with narrow := some (1, []) }) (headUp 0 0 6 (headUp 0 7 6)), 1, [], 0, inv_by
   (by decide +kernel), by decide +kernel, by decide +kernel, by decide +kernel, by decide +kernel,
   by decide +kernel⟩

theorem wit_HeadPortsServe_12 :
    ∃ (a : Path) (p : Fin 6) (s : State), Inv s ∧ s.portState p = 7 :=
  ⟨.mgmt, 0, headUp 0 0 7, inv_by (by decide +kernel), by decide +kernel⟩

theorem wit_HeadPortsServe_13 :
    ∃ (a : Path) (p : Fin 6) (s : State), s.portState p ≠ 7 :=
  ⟨.mgmt, 0, State.reset, by decide +kernel⟩

theorem wit_SidebandAndWaveforms_0 :
    ∃ (w : Word) (s : State) (p : Fin 6) (h : Fin 8), Inv s ∧ p.val = Fld.HP_SB_CMD_PORT.get w ∧
      Fld.HP_SB_CMD_ALL.get w = 0 ∧ h.val = Fld.HP_SB_CMD_HEAD.get w ∧ s.headPresent p h = true ∧ (s.port
      p).heads.length = 8 ∧ (s.headLink p h).sb = none ∧ s.headShut p = false :=
  ⟨Fld.HP_SB_CMD_PORT.put 5 (Fld.HP_SB_CMD_HEAD.put 7 0), headUp 5 7 6, 5, 7, inv_by (by decide +kernel),
   by decide +kernel, by decide +kernel, by decide +kernel, by decide +kernel, by decide +kernel,
   by decide +kernel, by decide +kernel⟩

theorem wit_SidebandAndWaveforms_1 :
    ∃ (w : Word) (s : State) (p : Fin 6) (h : Fin 8), Inv s ∧ p.val = Fld.HP_SB_CMD_PORT.get w ∧
      Fld.HP_SB_CMD_ALL.get w = 0 ∧ h.val = Fld.HP_SB_CMD_HEAD.get w ∧ s.headPresent p h = true ∧ (s.port
      p).heads.length = 8 ∧ (s.headLink p h).sb = none ∧ s.headShut p = false :=
  ⟨Fld.HP_SB_CMD_PORT.put 5 (Fld.HP_SB_CMD_HEAD.put 7 0), headUp 5 7 6, 5, 7, inv_by (by decide +kernel),
   by decide +kernel, by decide +kernel, by decide +kernel, by decide +kernel, by decide +kernel,
   by decide +kernel, by decide +kernel⟩

theorem wit_SidebandAndWaveforms_2 :
    ∃ (w : Word) (s : State) (p : Fin 6) (h : Fin 8), Inv s ∧ p.val = Fld.HP_SB_CMD_PORT.get w ∧
      Fld.HP_SB_CMD_ALL.get w = 0 ∧ h.val = Fld.HP_SB_CMD_HEAD.get w ∧ s.headPresent p h = true ∧ (s.port
      p).heads.length = 8 ∧ (s.headLink p h).sb = none ∧ s.headShut p = false :=
  ⟨Fld.HP_SB_CMD_PORT.put 5 (Fld.HP_SB_CMD_HEAD.put 7 0), headUp 5 7 6, 5, 7, inv_by (by decide +kernel),
   by decide +kernel, by decide +kernel, by decide +kernel, by decide +kernel, by decide +kernel,
   by decide +kernel, by decide +kernel⟩

theorem wit_SidebandAndWaveforms_3 :
    ∃ (a : Path) (w : Word) (s : State), s.flag Reg.HP_WAVE_STATUS Fld.HP_WAVE_STATUS_BUSY = false :=
  ⟨.mgmt, 0, State.reset, by decide +kernel⟩

theorem wit_SidebandAndWaveforms_4 :
    ∃ (a : Path) (w : Word) (s : State), s.flag Reg.HP_WAVE_STATUS Fld.HP_WAVE_STATUS_BUSY = true :=
  ⟨.mgmt, 0, (State.reset.setFld Reg.HP_WAVE_STATUS Fld.HP_WAVE_STATUS_BUSY 1), by decide +kernel⟩

theorem wit_SidebandAndWaveforms_5 :
    ∃ (s : State) (n : Nat), s.hp.waves.checking = some n ∧ waveFault (s.waveCopy n) = none :=
  ⟨{ withTbl wave1 with hp := { State.reset.hp with waves := { State.reset.hp.waves with checking := some 0 } } },
   0, by decide +kernel, by decide +kernel⟩

theorem wit_SidebandAndWaveforms_6 :
    ∃ (s : State) (n c : Nat), s.hp.waves.checking = some n ∧ waveFault (s.waveCopy n) = some c :=
  ⟨{ State.reset with hp := { State.reset.hp with waves := { State.reset.hp.waves with checking := some 0 } } },
   0, 2, by decide +kernel, by decide +kernel⟩

theorem wit_FeedbackServes_0 :
    ∃ (l : List FbSample) (k : Fin 501) (r : List (TickWord × Ecc)) (s : State), s.clk.pllLocked = true :=
  ⟨[], 500, [], { State.reset with clk := { State.reset.clk with pllLocked := true } }, by decide +kernel⟩

theorem wit_FeedbackServes_1 :
    ∃ (l : List FbSample) (k : Fin 501) (r : List (TickWord × Ecc)) (s : State), s.clk.pllLocked = false :=
  ⟨[], 500, [], State.reset, by decide +kernel⟩

theorem wit_FeedbackServes_2 :
    ∃ (x : Fin 6) (k : Fin 8) (m z : Nat) (s : State), z = (if s.flag (Reg.FB_AX_CFG x) Fld.FB_AX_CFG_Z_EN then
      4 else 0) ∧ (s.fbSrc x = 2 ∧ m = k.val &&& (3 + z) ∨ s.fbSrc x = 1 ∧ m = k.val &&& z) ∧ m ≠ 0 ∧ s.fbState
      x ≠ 3 :=
  ⟨5, 3, 3, 0, ((State.reset.setFld (Reg.FB_AX_STATUS 5) Fld.FB_AX_STATUS_STATE 1).setFld (Reg.FB_AX_CFG 5)
   Fld.FB_AX_CFG_SRC 2), by decide +kernel, by decide +kernel, by decide +kernel, by decide +kernel⟩

theorem wit_FeedbackServes_3 :
    ∃ (x : Fin 6) (k : Fin 8) (z : Nat) (s : State), z = (if s.flag (Reg.FB_AX_CFG x) Fld.FB_AX_CFG_Z_EN then 4
      else 0) ∧ (s.fbSrc x = 0 ∨ s.fbState x = 3 ∨ s.fbSrc x = 2 ∧ k.val &&& (3 + z) = 0 ∨ s.fbSrc x = 1 ∧ k.val
      &&& z = 0) :=
  ⟨0, 0, 0, State.reset, by decide +kernel, by decide +kernel⟩

theorem wit_FeedbackServes_4 :
    ∃ (x : Fin 2) (lo hi : Fin 256) (s : State) (u : State), s.fbSrc x = 1 ∧ s.fbState x ≠ 3 ∧ u = (s.setFld
      (Reg.FB_AX_AN_STATUS x) Fld.FB_AX_AN_STATUS_CM_MIN lo).setFld (Reg.FB_AX_AN_STATUS x)
      Fld.FB_AX_AN_STATUS_CM_MAX hi ∧ u.fld (Reg.FB_AX_AN_CFG x) Fld.FB_AX_AN_CFG_CM_LO ≤ lo.val ∧ hi.val ≤
      u.fld (Reg.FB_AX_AN_CFG x) Fld.FB_AX_AN_CFG_CM_HI :=
  ⟨1, 10, 200, ((((State.reset.setFld (Reg.FB_AX_STATUS 1) Fld.FB_AX_STATUS_STATE 2).setFld (Reg.FB_AX_CFG 1)
   Fld.FB_AX_CFG_SRC 1).setFld (Reg.FB_AX_AN_CFG 1) Fld.FB_AX_AN_CFG_CM_LO 10).setFld (Reg.FB_AX_AN_CFG 1)
   Fld.FB_AX_AN_CFG_CM_HI 200), ((((((State.reset.setFld (Reg.FB_AX_STATUS 1) Fld.FB_AX_STATUS_STATE 2).setFld
   (Reg.FB_AX_CFG 1) Fld.FB_AX_CFG_SRC 1).setFld (Reg.FB_AX_AN_CFG 1) Fld.FB_AX_AN_CFG_CM_LO 10).setFld
   (Reg.FB_AX_AN_CFG 1) Fld.FB_AX_AN_CFG_CM_HI 200).setFld (Reg.FB_AX_AN_STATUS 1) Fld.FB_AX_AN_STATUS_CM_MIN
   10).setFld (Reg.FB_AX_AN_STATUS 1) Fld.FB_AX_AN_STATUS_CM_MAX 200), by decide +kernel, by decide +kernel,
   rfl, by decide +kernel, by decide +kernel⟩

theorem wit_FeedbackServes_5 :
    ∃ (x : Fin 2) (lo hi : Fin 256) (s : State) (u : State) (f : FbAxis), s.fbSrc x = 1 ∧ s.fbState x ≠ 3 ∧ u =
      (s.setFld (Reg.FB_AX_AN_STATUS x) Fld.FB_AX_AN_STATUS_CM_MIN lo).setFld (Reg.FB_AX_AN_STATUS x)
      Fld.FB_AX_AN_STATUS_CM_MAX hi ∧ (lo.val < u.fld (Reg.FB_AX_AN_CFG x) Fld.FB_AX_AN_CFG_CM_LO ∨ u.fld
      (Reg.FB_AX_AN_CFG x) Fld.FB_AX_AN_CFG_CM_HI < hi.val) ∧ s.motion.fbs[x.val]? = some f ∧ f.cmBad = 1 :=
  ⟨1, 10, 201,
   { ((((State.reset.setFld (Reg.FB_AX_STATUS 1) Fld.FB_AX_STATUS_STATE 2).setFld (Reg.FB_AX_CFG 1) Fld.FB_AX_CFG_SRC 1).setFld (Reg.FB_AX_AN_CFG 1) Fld.FB_AX_AN_CFG_CM_LO 10).setFld (Reg.FB_AX_AN_CFG 1) Fld.FB_AX_AN_CFG_CM_HI 200) with motion := { State.reset.motion with fbs := State.reset.motion.fbs.set 1 { fb0 with cmBad := 1 } } },
   (({ ((((State.reset.setFld (Reg.FB_AX_STATUS 1) Fld.FB_AX_STATUS_STATE 2).setFld (Reg.FB_AX_CFG 1) Fld.FB_AX_CFG_SRC 1).setFld (Reg.FB_AX_AN_CFG 1) Fld.FB_AX_AN_CFG_CM_LO 10).setFld (Reg.FB_AX_AN_CFG 1) Fld.FB_AX_AN_CFG_CM_HI 200) with motion := { State.reset.motion with fbs := State.reset.motion.fbs.set 1 { fb0 with cmBad := 1 } } }.setFld
   (Reg.FB_AX_AN_STATUS 1) Fld.FB_AX_AN_STATUS_CM_MIN 10).setFld (Reg.FB_AX_AN_STATUS 1)
   Fld.FB_AX_AN_STATUS_CM_MAX 201), { fb0 with cmBad := 1 }, by decide +kernel, by decide +kernel, rfl,
   by decide +kernel, by decide +kernel, by decide +kernel⟩

theorem wit_FeedbackServes_6 :
    ∃ (x : Fin 6) (s : State), Inv s ∧ s.fbState x = 1 :=
  ⟨5, (State.reset.setFld (Reg.FB_AX_STATUS 5) Fld.FB_AX_STATUS_STATE 1), inv_by (by decide +kernel),
   by decide +kernel⟩

theorem wit_FeedbackServes_7 :
    ∃ (x : Fin 6) (s : State), s.fbState x ≠ 1 :=
  ⟨0, State.reset, by decide +kernel⟩

theorem wit_FeedbackServes_8 :
    ∃ (x : Fin 6) (ns : Fin 100) (rise : Bool) (s : State), Inv s ∧ (s.fbSrc x = 1 ∨ s.fbSrc x = 2 ∧ (s.flag
      (Reg.FB_AX_CFG x) Fld.FB_AX_CFG_Z_GATE = false ∨ s.levelsAt x ns = some (true, true))) ∧ s.fbState x ≠ 3 ∧
      s.flag (Reg.FB_AX_CFG x) Fld.FB_AX_CFG_Z_EN = true ∧ rise = (!s.flag (Reg.FB_AX_CFG x)
      Fld.FB_AX_CFG_Z_LOW) ∧ s.homing x = false ∧ s.flag (Reg.FB_AX_STATUS x) Fld.FB_AX_STATUS_IDX_LEARNED =
      false :=
  ⟨5, 99, true, ((((State.reset.setFld (Reg.FB_AX_CFG 5) Fld.FB_AX_CFG_SRC 2).setFld (Reg.FB_AX_CFG 5)
   Fld.FB_AX_CFG_Z_EN 1).setFld (Reg.FB_AX_CFG 5) Fld.FB_AX_CFG_Z_GATE 0).setFld (Reg.FB_AX_STATUS 5)
   Fld.FB_AX_STATUS_STATE 2), inv_by (by decide +kernel), by decide +kernel, by decide +kernel,
   by decide +kernel, by decide +kernel, by decide +kernel, by decide +kernel⟩

theorem wit_FeedbackServes_9 :
    ∃ (x : Fin 6) (ns : Fin 100) (rise : Bool) (s : State), (s.fbSrc x = 0 ∨ s.fbState x = 3 ∨ s.flag
      (Reg.FB_AX_CFG x) Fld.FB_AX_CFG_Z_EN = false ∨ rise = s.flag (Reg.FB_AX_CFG x) Fld.FB_AX_CFG_Z_LOW) :=
  ⟨0, 0, false, State.reset, by decide +kernel⟩

theorem wit_FeedbackServes_10 :
    ∃ (p : Path) (x : Fin 6) (w : Word) (s : State), Inv s :=
  ⟨.mgmt, 0, 0, State.reset, inv_by (by decide +kernel)⟩

theorem wit_FeedbackServes_11 :
    ∃ (p : Path) (u : Fin 8) (s : State), Inv s ∧ s.cmpAxis u ≤ 5 ∧ s.fld (Reg.FB_CMP_STATUS u)
      Fld.FB_CMP_STATUS_STATE ≠ 1 ∧ s.fld (Reg.FB_CMP_STATUS u) Fld.FB_CMP_STATUS_STATE ≠ 2 ∧ s.fbState
      (s.cmpAxis u) ≠ 0 :=
  ⟨.mgmt, 7, ((State.reset.setFld (Reg.FB_CMP_CFG 7) Fld.FB_CMP_CFG_AXIS 5).setFld (Reg.FB_AX_STATUS 5)
   Fld.FB_AX_STATUS_STATE 2), inv_by (by decide +kernel), by decide +kernel, by decide +kernel,
   by decide +kernel, by decide +kernel⟩

theorem wit_FeedbackServes_12 :
    ∃ (p : Path) (u : Fin 8) (s : State), (5 < s.cmpAxis u ∨ s.fld (Reg.FB_CMP_STATUS u) Fld.FB_CMP_STATUS_STATE
      = 1 ∨ s.fld (Reg.FB_CMP_STATUS u) Fld.FB_CMP_STATUS_STATE = 2) :=
  ⟨.mgmt, 7, (State.reset.setFld (Reg.FB_CMP_STATUS 7) Fld.FB_CMP_STATUS_STATE 2), by decide +kernel⟩

theorem wit_FeedbackServes_13 :
    ∃ (u : Fin 8) (s : State), Inv s :=
  ⟨0, State.reset, inv_by (by decide +kernel)⟩

end Sys2Proof.Tests
end

