-- ==== Sys2Proof/Tests/Witness4.lean ====
section
/-! SUPPORT. Witnesses: for each statement with hypotheses, operands and a state that meet them together, one theorem
for each clause. -/

set_option linter.all false
set_option Elab.async false

open Sys2Proof Sys2Proof.Bits Sys2Proof.Machine Sys2Proof.Safety Sys2Proof.Tests Sys2Proof.Laws

namespace Sys2Proof.Tests

theorem wit_BarriersServe_0 :
    ∃ (k : Nat) (s : State) (w : Swath) (l : Layer) (e : SwathEntry) (rate t : Nat), (s.gy.swaths.find? (fun w
      => w.state == .captured) = some w) ∧ s.layer w.layer = some l ∧ s.swEntry w = some e ∧ s.mayReport w l e =
      true ∧ (rate = if w.ports.isEmpty then 0 else w.rate) ∧ t = max ((s.prevEnd w).getD 0 + ns16 (e.dwellUs *
      1000)) s.now16 :=
  ⟨3, mayGo, swathOf .captured, layer1, swath0, 0, 0, by decide +kernel, by decide +kernel, by decide +kernel,
   by decide +kernel, by decide +kernel, by decide +kernel⟩

theorem wit_BarriersServe_1 :
    ∃ (k : Nat) (s : State) (w : Swath) (l : Layer) (e : SwathEntry), (s.gy.swaths.find? (fun w => w.state ==
      .captured) = some w) ∧ s.layer w.layer = some l ∧ s.swEntry w = some e ∧ s.mayReport w l e = false :=
  ⟨3, oneSwath .captured, swathOf .captured, layer1, swath0, by decide +kernel, by decide +kernel,
   by decide +kernel, by decide +kernel⟩

theorem wit_BarriersServe_2 :
    ∃ (s : State) (d : Pend), s.fab.pend = some d ∧ (d.start = none ∨ d.again = true) :=
  ⟨onF fun f => { f with pend := some ⟨3, 1, 0, [], none, false⟩ }, ⟨3, 1, 0, [], none, false⟩, by decide +kernel,
   by decide +kernel⟩

theorem wit_BarriersServe_3 :
    ∃ (s : State), (s.fab.pend = none ∨ (∃ d t, s.fab.pend = some d ∧ d.start = some t ∧ d.again = false)) :=
  ⟨State.reset, .inl rfl⟩

theorem wit_BarriersServe_4 :
    ∃ (p : Fin 5) (fr : List Byte) (s u : State) (f : FabFrame) (v : State), FabFrameIn s p fr 0x12 f ∧ u =
      fabIn s p ∧ u.isRoot = true ∧ Kv.get u.fab.released f.arg = none ∧ v = u.formMembers (barLayer f.pay) ∧
      ((v.fab.arrivals.any fun a => a.id == f.arg && a.node == f.src) = false) :=
  ⟨0, (fabFr 18 65535 5 3 (le [(1, 1), (1, 0), (2, 5), (4, 1), (2, 0), (2, 0), (4, 0), (4, 1000), (4, 0), (8, 1),
   (2, 0), (6, 0)])), fabUp (State.reset.setFld Reg.FAB_STATUS Fld.FAB_STATUS_ROOT 1), fabIn (fabUp
   (State.reset.setFld Reg.FAB_STATUS Fld.FAB_STATUS_ROOT 1)) 0, fabParse (fabFr 18 65535 5 3 (le [(1, 1), (1,
   0), (2, 5), (4, 1), (2, 0), (2, 0), (4, 0), (4, 1000), (4, 0), (8, 1), (2, 0), (6, 0)])), (fabIn (fabUp
   (State.reset.setFld Reg.FAB_STATUS Fld.FAB_STATUS_ROOT 1)) 0).formMembers (barLayer (fabParse (fabFr 18 65535
   5 3 (le [(1, 1), (1, 0), (2, 5), (4, 1), (2, 0), (2, 0), (4, 0), (4, 1000), (4, 0), (8, 1), (2, 0), (6,
   0)]))).pay), by decide +kernel, rfl, by decide +kernel, by decide +kernel, rfl, by decide +kernel⟩

theorem wit_BarriersServe_5 :
    ∃ (p : Fin 5) (fr : List Byte) (s u : State) (f : FabFrame) (b : List Byte), FabFrameIn s p fr 0x12 f ∧ u =
      fabIn s p ∧ u.isRoot = true ∧ Kv.get u.fab.released f.arg = some b :=
  ⟨0, (fabFr 18 65535 5 3 (le [(1, 1), (1, 0), (2, 5), (4, 1), (2, 0), (2, 0), (4, 0), (4, 1000), (4, 0), (8, 1),
   (2, 0), (6, 0)])), onF (fun f => { f with released := [(3, [1])] }) (fabUp (State.reset.setFld Reg.FAB_STATUS
   Fld.FAB_STATUS_ROOT 1)), fabIn (onF (fun f => { f with released := [(3, [1])] }) (fabUp (State.reset.setFld
   Reg.FAB_STATUS Fld.FAB_STATUS_ROOT 1))) 0, fabParse (fabFr 18 65535 5 3 (le [(1, 1), (1, 0), (2, 5), (4, 1),
   (2, 0), (2, 0), (4, 0), (4, 1000), (4, 0), (8, 1), (2, 0), (6, 0)])), [1], by decide +kernel, rfl,
   by decide +kernel, by decide +kernel⟩

theorem wit_BarriersServe_6 :
    ∃ (p : Fin 5) (fr : List Byte) (s u : State) (f : FabFrame) (v : State) (w : Swath), FabFrameIn s p fr 0x13
      f ∧ u = fabIn s p ∧ f.arg ∉ u.fab.armed ∧ barKind f.pay ≠ 0 ∧ u.swath (barLayer f.pay) (barSwath f.pay) =
      some w ∧ w.state = .ready ∧ u.armSwath w (barTime f.pay) (barRate f.pay) = (true, v) :=
  ⟨0, (fabFr 19 65535 5 3 (le [(1, 1), (1, 0), (2, 5), (4, 1), (2, 0), (2, 0), (4, 0), (4, 1000), (4, 0), (8, 1),
   (2, 0), (6, 0)])), fabUp (oneSwath .ready), fabIn (fabUp (oneSwath .ready)) 0, fabParse (fabFr 19 65535 5 3
   (le [(1, 1), (1, 0), (2, 5), (4, 1), (2, 0), (2, 0), (4, 0), (4, 1000), (4, 0), (8, 1), (2, 0), (6, 0)])),
   ((fabIn (fabUp (oneSwath .ready)) 0).armSwath (swathOf .ready) (barTime (fabParse (fabFr 19 65535 5 3 (le
   [(1, 1), (1, 0), (2, 5), (4, 1), (2, 0), (2, 0), (4, 0), (4, 1000), (4, 0), (8, 1), (2, 0), (6, 0)]))).pay)
   (barRate (fabParse (fabFr 19 65535 5 3 (le [(1, 1), (1, 0), (2, 5), (4, 1), (2, 0), (2, 0), (4, 0), (4,
   1000), (4, 0), (8, 1), (2, 0), (6, 0)]))).pay)).2, swathOf .ready, by decide +kernel, rfl, by decide +kernel,
   by decide +kernel, by decide +kernel, by decide +kernel, by decide +kernel⟩

theorem wit_BarriersServe_7 :
    ∃ (p : Fin 5) (fr : List Byte) (s u : State) (f : FabFrame), FabFrameIn s p fr 0x13 f ∧ u = fabIn s p ∧
      f.arg ∈ u.fab.armed :=
  ⟨0, (fabFr 19 65535 5 3 (le [(1, 1), (1, 0), (2, 5), (4, 1), (2, 0), (2, 0), (4, 0), (4, 1000), (4, 0), (8, 1),
   (2, 0), (6, 0)])), onF (fun f => { f with armed := [3] }) (fabUp), fabIn (onF (fun f =>
   { f with armed := [3] }) (fabUp)) 0, fabParse (fabFr 19 65535 5 3 (le [(1, 1), (1, 0), (2, 5), (4, 1), (2,
   0), (2, 0), (4, 0), (4, 1000), (4, 0), (8, 1), (2, 0), (6, 0)])), by decide +kernel, rfl, by decide +kernel⟩

theorem wit_BarriersServe_8 :
    ∃ (p : Fin 5) (fr : List Byte) (s u : State) (f : FabFrame), FabFrameIn s p fr 0x13 f ∧ u = fabIn s p ∧
      f.arg ∉ u.fab.armed ∧ barKind f.pay = 0 :=
  ⟨0, (fabFr 19 65535 5 3 (le [(1, 0), (1, 0), (2, 5), (4, 1), (2, 0), (2, 0), (4, 0), (4, 1000), (4, 0), (8, 1),
   (2, 0), (6, 0)])), fabUp, fabIn fabUp 0, fabParse (fabFr 19 65535 5 3 (le [(1, 0), (1, 0), (2, 5), (4, 1),
   (2, 0), (2, 0), (4, 0), (4, 1000), (4, 0), (8, 1), (2, 0), (6, 0)])), by decide +kernel, rfl,
   by decide +kernel, by decide +kernel⟩

theorem wit_BarriersServe_9 :
    ∃ (p : Fin 5) (fr : List Byte) (s u v : State) (f : FabFrame) (q : Nat), FabFrameIn s p fr 0x14 f ∧ u =
      fabIn s p ∧ u.barLayerOf f.arg = some q ∧ v = ((((u.setFld Reg.FAB_BAR_ABORT Fld.FAB_BAR_ABORT_CAUSE
      (Bits.rd f.pay 0 1)).setFld Reg.FAB_BAR_ABORT Fld.FAB_BAR_ABORT_NODE (Bits.rd f.pay 2 2)).raise .stopping
      Reg.FAB_EVENT Fld.FAB_EVENT_BAR_ABORT (Bits.rd f.pay 0 1) unitFabric).onFab fun g =>
      { g with pend := g.pend.filter fun d => d.id != f.arg }) :=
  ⟨0, abortFr, abortSt, fabIn abortSt 0, abortV, fabParse abortFr, 1, by decide +kernel, rfl, by decide +kernel,
   rfl⟩

theorem wit_BarriersServe_10 :
    ∃ (p : Fin 5) (fr : List Byte) (s u : State) (f : FabFrame), FabFrameIn s p fr 0x14 f ∧ u = fabIn s p ∧
      u.barLayerOf f.arg = none :=
  ⟨0, (fabFr 20 65535 5 3 (le [(4, 0)])), fabUp, fabIn (fabUp) 0, fabParse (fabFr 20 65535 5 3 (le [(4, 0)])),
   by decide +kernel, rfl, by decide +kernel⟩

theorem wit_BarriersServe_11 :
    ∃ (k n : Nat) (s : State), s.isRoot = true ∧ s.fld Reg.FAB_BAR_CFG Fld.FAB_BAR_CFG_BAR_TO_S ≠ 0 ∧
      ((s.fab.arrivals.any fun a => a.id == k) = true) ∧ s.barMissing k = some n :=
  ⟨3, 5, onF (fun f => { f with arrivals := [⟨3, 0, []⟩], members := [0, 5] }) (((fabUp (State.reset.setFld
   Reg.FAB_STATUS Fld.FAB_STATUS_ROOT 1)).setFld Reg.FAB_BAR_CFG Fld.FAB_BAR_CFG_BAR_TO_S 1)),
   by decide +kernel, by decide +kernel, by decide +kernel, by decide +kernel⟩

theorem wit_BarriersServe_12 :
    ∃ (s : State) (d : TaDue), ActsNow s 2 d :=
  ⟨{ (State.reset.setFld (Reg.TA_SLOT_CTL 200) Fld.TA_SLOT_CTL_CODE 2) with due := [⟨200, 0, false⟩] }, ⟨200, 0,
   false⟩, by decide +kernel⟩

theorem wit_GovernorAndTimedFrames_0 :
    ∃ (s : State) (w : Swath) (l : Layer) (e : SwathEntry), (s.gy.swaths.find? (fun w => w.state == .running) =
      some w) ∧ s.layer w.layer = some l ∧ s.swEntry w = some e :=
  ⟨oneRow .running, swathOf .running, layer1, swath0, by decide +kernel, by decide +kernel, by decide +kernel⟩

theorem wit_GovernorAndTimedFrames_1 :
    ∃ (s : State), (s.gy.swaths.find? (fun w => w.state == .running) = none) :=
  ⟨State.reset, rfl⟩

theorem wit_GovernorAndTimedFrames_2 :
    ∃ (p : Fin 5) (fr : List Byte) (s u : State) (f : FabFrame) (w : Swath), FabFrameIn s p fr 0x15 f ∧ u =
      fabIn s p ∧ (u.gy.swaths.find? (fun w => w.state == .running) = some w) ∧ Bits.rd f.pay 0 4 = w.layer ∧
      Bits.rd f.pay 4 2 = w.idx ∧ Bits.rd f.pay 8 2 = 0 :=
  ⟨0, (fabFr 21 65535 5 3 (le [(4, 1), (2, 0), (2, 512), (2, 0), (6, 0)])), fabUp (oneSwath .running), fabIn
   (fabUp (oneSwath .running)) 0, fabParse (fabFr 21 65535 5 3 (le [(4, 1), (2, 0), (2, 512), (2, 0), (6, 0)])),
   swathOf .running, by decide +kernel, rfl, by decide +kernel, by decide +kernel, by decide +kernel,
   by decide +kernel⟩

theorem wit_GovernorAndTimedFrames_3 :
    ∃ (p : Fin 5) (fr : List Byte) (s u : State) (f : FabFrame) (w : Swath), FabFrameIn s p fr 0x15 f ∧ u =
      fabIn s p ∧ (u.gy.swaths.find? (fun w => w.state == .running) = some w) ∧ Bits.rd f.pay 0 4 = w.layer ∧
      Bits.rd f.pay 4 2 = w.idx ∧ Bits.rd f.pay 8 2 ≠ 0 ∧ f.src = u.fab.driver ∧ f.src ≠ u.node :=
  ⟨0, (fabFr 21 65535 5 3 (le [(4, 1), (2, 0), (2, 512), (2, 1), (6, 0)])), onF (fun f => { f with driver := 5 })
   (fabUp (oneSwath .running)), fabIn (onF (fun f => { f with driver := 5 }) (fabUp (oneSwath .running))) 0,
   fabParse (fabFr 21 65535 5 3 (le [(4, 1), (2, 0), (2, 512), (2, 1), (6, 0)])), swathOf .running,
   by decide +kernel, rfl, by decide +kernel, by decide +kernel, by decide +kernel, by decide +kernel,
   by decide +kernel, by decide +kernel⟩

theorem wit_GovernorAndTimedFrames_4 :
    ∃ (p : Fin 5) (fr : List Byte) (s u : State) (f : FabFrame) (v : State), FabFrameIn s p fr 0x16 f ∧ u =
      fabIn s p ∧ f.arg ∉ u.fab.actions ∧ Bits.rd f.pay 4 4 ≤ 999999999 ∧ codeValid (Bits.rd f.pay 0 1) 128 =
      true ∧ u.fwArm (flat (Bits.rd f.pay 8 8) (Bits.rd f.pay 4 4) (Bits.rd f.pay 16 2 / 1024 * 1024)) (Bits.rd
      f.pay 0 1) (Bits.rd f.pay 20 4) (Bits.rd f.pay 24 4) = (true, v) :=
  ⟨0, (fabFr 22 65535 5 3 (le [(1, 7), (3, 0), (4, 5), (8, 100), (2, 0), (2, 0), (4, 1), (4, 1)])), fabUp, fabIn
   (fabUp) 0, fabParse (fabFr 22 65535 5 3 (le [(1, 7), (3, 0), (4, 5), (8, 100), (2, 0), (2, 0), (4, 1), (4,
   1)])), ((fabIn (fabUp) 0).fwArm (flat 100 5 0) 7 1 1).2, by decide +kernel, rfl, by decide +kernel,
   by decide +kernel, by decide +kernel, by decide +kernel⟩

theorem wit_GovernorAndTimedFrames_5 :
    ∃ (p : Fin 5) (fr : List Byte) (s u : State) (f : FabFrame) (v : State), FabFrameIn s p fr 0x16 f ∧ u =
      fabIn s p ∧ f.arg ∉ u.fab.actions ∧ Bits.rd f.pay 4 4 ≤ 999999999 ∧ codeValid (Bits.rd f.pay 0 1) 128 =
      true ∧ u.fwArm (flat (Bits.rd f.pay 8 8) (Bits.rd f.pay 4 4) (Bits.rd f.pay 16 2 / 1024 * 1024)) (Bits.rd
      f.pay 0 1) (Bits.rd f.pay 20 4) (Bits.rd f.pay 24 4) = (false, v) :=
  ⟨0, (fabFr 22 65535 5 3 (le [(1, 7), (3, 0), (4, 5), (8, 100), (2, 0), (2, 0), (4, 1), (4, 1)])), slotsFull,
   fabIn slotsFull 0, fabParse (fabFr 22 65535 5 3 (le [(1, 7), (3, 0), (4, 5), (8, 100), (2, 0), (2, 0), (4,
   1), (4, 1)])), ((fabIn slotsFull 0).fwArm (flat 100 5 0) 7 1 1).2, by decide +kernel, rfl, by decide +kernel,
   by decide +kernel, by decide +kernel, by decide +kernel⟩

theorem wit_GovernorAndTimedFrames_6 :
    ∃ (p : Fin 5) (fr : List Byte) (s u : State) (f : FabFrame), FabFrameIn s p fr 0x16 f ∧ (u = (fabIn s
      p).onFab fun g =>
      { g with actionId := if seqGe f.arg g.actionId then (f.arg + 1) % 2 ^ 32 else g.actionId }) ∧ f.arg ∉
      s.fab.actions ∧ (999999999 < Bits.rd f.pay 4 4 ∨ codeValid (Bits.rd f.pay 0 1) 128 = false) :=
  ⟨0, (fabFr 22 65535 5 3 (le [(1, 9), (3, 0), (4, 5), (8, 100), (2, 0), (2, 0), (4, 1), (4, 1)])), fabUp, (fabIn
   fabUp 0).onFab fun g =>
   { g with actionId := if seqGe (fabParse (fabFr 22 65535 5 3 (le [(1, 9), (3, 0), (4, 5), (8, 100), (2, 0), (2, 0), (4, 1), (4, 1)]))).arg g.actionId then ((fabParse (fabFr 22 65535 5 3 (le [(1, 9), (3, 0), (4, 5), (8, 100), (2, 0), (2, 0), (4, 1), (4, 1)]))).arg + 1) % 2 ^ 32 else g.actionId },
   fabParse (fabFr 22 65535 5 3 (le [(1, 9), (3, 0), (4, 5), (8, 100), (2, 0), (2, 0), (4, 1), (4, 1)])),
   by decide +kernel, rfl, by decide +kernel, by decide +kernel⟩

theorem wit_GovernorAndTimedFrames_7 :
    ∃ (p : Fin 5) (fr : List Byte) (s u : State) (f : FabFrame), FabFrameIn s p fr 0x16 f ∧ (u = (fabIn s
      p).onFab fun g =>
      { g with actionId := if seqGe f.arg g.actionId then (f.arg + 1) % 2 ^ 32 else g.actionId }) ∧ f.arg ∈
      s.fab.actions :=
  ⟨0, (fabFr 22 65535 5 3 (le [(1, 7), (3, 0), (4, 5), (8, 100), (2, 0), (2, 0), (4, 1), (4, 1)])), onF (fun f =>
   { f with actions := [3] }) fabUp, (fabIn (onF (fun f => { f with actions := [3] }) fabUp) 0).onFab fun g =>
   { g with actionId := if seqGe (fabParse (fabFr 22 65535 5 3 (le [(1, 7), (3, 0), (4, 5), (8, 100), (2, 0), (2, 0), (4, 1), (4, 1)]))).arg g.actionId then ((fabParse (fabFr 22 65535 5 3 (le [(1, 7), (3, 0), (4, 5), (8, 100), (2, 0), (2, 0), (4, 1), (4, 1)]))).arg + 1) % 2 ^ 32 else g.actionId },
   fabParse (fabFr 22 65535 5 3 (le [(1, 7), (3, 0), (4, 5), (8, 100), (2, 0), (2, 0), (4, 1), (4, 1)])),
   by decide +kernel, rfl, by decide +kernel⟩

theorem wit_TimeIsKept_0 :
    ∃ (c : Nat) (s : State), s.clk.pllLocked = false ∧ s.clk.deepHeld = false :=
  ⟨0, State.reset, by decide +kernel, by decide +kernel⟩

theorem wit_TimeIsKept_1 :
    ∃ (c : Nat) (s : State), s.clk.pllLocked = false ∧ s.clk.deepHeld = true :=
  ⟨100, (onClk (fun c => { c with deepHeld := true }) State.reset), by decide +kernel, by decide +kernel⟩

theorem wit_TimeIsKept_2 :
    ∃ (p : Path) (w : Word) (s : State), p.host = s.hostServo :=
  ⟨.firmware, 5, (State.reset.setFld Reg.TB_CFG Fld.TB_CFG_SERVO 0), by decide +kernel⟩

theorem wit_TimeIsKept_3 :
    ∃ (p : Path) (w : Word) (s : State), p.host ≠ s.hostServo :=
  ⟨.mgmt, 5, (State.reset.setFld Reg.TB_CFG Fld.TB_CFG_SERVO 0), by decide +kernel⟩

theorem wit_TimeIsKept_4 :
    ∃ (p : Path) (w : Word) (s u : State), s.hostServo = true ∧ u = s.commitPair p Reg.TB_ADJ_LO w :=
  ⟨.mgmt, 5, (State.reset.setFld Reg.TB_CFG Fld.TB_CFG_SERVO 1), (State.reset.setFld Reg.TB_CFG Fld.TB_CFG_SERVO
   1).commitPair .mgmt Reg.TB_ADJ_LO 5, by decide +kernel, rfl⟩

theorem wit_TimeIsKept_5 :
    ∃ (p : Path) (w : Word) (s : State), s.hostServo = false :=
  ⟨.mgmt, 0, State.reset, by decide +kernel⟩

theorem wit_TimeIsKept_6 :
    ∃ (c : BitVec 64) (c0 t0 : Nat) (s : State), s.clk.pllLocked = true ∧ s.clk.wakeAt = none ∧ s.clk.aonAt =
      some (c0, t0) ∧ (c.toNat + 2 ^ 64 - c0) % 2 ^ 64 = aonWindow :=
  ⟨(BitVec.ofNat 64 aonWindow), 0, 0, (onClk (fun c => { c with pllLocked := true, aonAt := some (0, 0) })
   State.reset), by decide +kernel, by decide +kernel, by decide +kernel, by decide +kernel⟩

theorem wit_TimeIsKept_7 :
    ∃ (c : BitVec 64) (s : State), s.clk.pllLocked = false :=
  ⟨5, State.reset, by decide +kernel⟩

theorem wit_TimeIsKept_8 :
    ∃ (s : State), s.clk.pllLocked = true ∧ 0 < s.clk.slewK :=
  ⟨(onClk (fun c => { c with pllLocked := true }) State.reset), by decide +kernel, by decide +kernel⟩

theorem wit_TimeIsKept_9 :
    ∃ (p : Path) (s : State), s.hostServo = true ∧ s.sel < 2 ∧ (s.dom s.sel).valid = true ∧ s.stepFree = true :=
  ⟨.mgmt, onDom 0 (fun d => { d with valid := true, samples := [(0, 70000)] }) ((State.reset.setFld Reg.TB_CFG
   Fld.TB_CFG_SERVO 1).setFld Reg.TB_STATUS Fld.TB_STATUS_SEL 0), by decide +kernel, by decide +kernel,
   by decide +kernel, by decide +kernel⟩

theorem wit_TimeIsKept_10 :
    ∃ (p : Path) (s : State), s.hostServo = true ∧ (2 ≤ s.sel ∨ (s.dom s.sel).valid = false ∨ s.stepFree =
      false) :=
  ⟨.mgmt, onDom 0 (fun d => { d with valid := true, samples := [(0, 70000)] }) (((oneSwath .armed).setFld
   Reg.TB_CFG Fld.TB_CFG_SERVO 1).setFld Reg.TB_STATUS Fld.TB_STATUS_SEL 0), by decide +kernel,
   by decide +kernel⟩

theorem wit_TimeIsKept_11 :
    ∃ (p : Path) (s : State), s.hostServo = false :=
  ⟨.mgmt, State.reset, by decide +kernel⟩

theorem wit_TimeIsKept_12 :
    ∃ (s : State), s.clk.stepWait = true ∧ s.sel < 2 ∧ s.stepFree = true :=
  ⟨(onClk (fun c => { c with stepWait := true }) (State.reset.setFld Reg.TB_STATUS Fld.TB_STATUS_SEL 1)),
   by decide +kernel, by decide +kernel, by decide +kernel⟩

theorem wit_TimeIsKept_13 :
    ∃ (s : State), (s.clk.stepWait = false ∨ 2 ≤ s.sel ∨ s.stepFree = false) :=
  ⟨State.reset, by decide +kernel⟩

/-! ### A sample of a domain, whose frequency is a free value -/

theorem onDom_reg {s : State} {d a : Nat} {f : Domain → Domain} : (s.onDom d f).reg a = s.reg a := by
  unfold State.onDom; split <;> rfl

theorem onDom_good {s : State} {d n : Nat} {f : Domain → Domain} (hn : 0 < n) (hf : ∀ x, (f x).good < n) :
    ((s.onDom d f).dom d).good < n := by
  unfold State.onDom State.dom
  split
  · next x h => simp [(List.getElem?_eq_some_iff.1 h).1, hf]
  · next h => simpa [h, Domain.empty] using hn

theorem inv_free {s : State} (h : Inv s) : Inv s.free.2 := h

theorem free_reg {s : State} {a : Nat} : s.free.2.reg a = s.reg a := rfl

/-- The registers a sample of domain `d` writes before it is judged. -/
theorem sample_reg {s : State} {ofs : Int} {a n : Nat} (hi : Inv s) (h1 : a ≠ Reg.TB_DOM_OFS_LO 0)
    (h2 : a ≠ Reg.TB_DOM_OFS_LO 0 + 4) (h3 : a ≠ Reg.TB_DOM_SAMPLES 0) (h4 : a ≠ Reg.TB_DOM_FREQ 0) :
    ((((s.setPairS (Reg.TB_DOM_OFS_LO 0) ofs).count (Reg.TB_DOM_SAMPLES 0) 1).free.2).setRegN
      (Reg.TB_DOM_FREQ 0) n).reg a = s.reg a := by
  have i1 : Inv (s.setPairS (Reg.TB_DOM_OFS_LO 0) ofs) := inv_setRegN (inv_setRegN hi)
  rw [reg_setRegN_other (inv_free (inv_count i1)) h4, free_reg, State.count, reg_setRegN_other i1 h3, State.setPairS,
    State.setPair, reg_setRegN_other (inv_setRegN hi) h2, reg_setRegN_other hi h1]

theorem ppsDom0_due : ppsDom0.switchesDue = ppsDom0 := by
  have h : (ppsDom0.dueOrder.filter fun d => ppsDom0.slotCode d.slot == 6 && decide (d.act ≤ ppsDom0.now16)) = [] := by
    decide +kernel
  simp only [State.switchesDue, h, List.foldl_nil]

theorem ppsDom0_sample {ofs : Int} : (ppsDom0.domSample 0 ofs none).domSrc 1 = 0 := by
  have hi : Inv ppsDom0 := inv_by (by decide +kernel)
  have h1 : ppsDom0.domSrc 1 = 0 := by decide +kernel
  have h2 : ppsDom0.domState 0 = 1 := by decide +kernel
  have hg : (ppsDom0.dom 0).good = 0 := by decide +kernel
  unfold State.domSample
  rw [ppsDom0_due]
  extract_lets z o t x v
  generalize hf : v.free = fv
  obtain ⟨f, w⟩ := fv
  dsimp -zeta only
  extract_lets y g r
  have ry : ∀ a, a ≠ Reg.TB_DOM_OFS_LO 0 → a ≠ Reg.TB_DOM_OFS_LO 0 + 4 → a ≠ Reg.TB_DOM_SAMPLES 0 →
      a ≠ Reg.TB_DOM_FREQ 0 → y.reg a = ppsDom0.reg a := by
    intro a a1 a2 a3 a4
    have e : w = v.free.2 := by rw [hf]
    simp only [y, onDom_reg, e]
    exact sample_reg hi a1 a2 a3 a4
  have e1 : y.domState 0 = 1 := by
    rw [← h2]; simp only [State.domState, State.fld, ry (Reg.TB_DOM_STATUS 0) (by decide) (by decide) (by decide) (by decide)]
  have e2 : y.domSrc 1 = 0 := by
    rw [← h1]; simp only [State.domSrc, State.fld, ry (Reg.TB_DOM_CFG 1) (by decide) (by decide) (by decide) (by decide)]
  have e3 : x.good = 0 := hg
  clear_value y x
  simp only [e1]
  unfold State.acquireCheck
  rw [if_neg]
  · simpa only [State.domSrc, State.fld, State.keepSample, onDom_reg] using e2
  · intro h
    refine absurd h.2.1 (Nat.not_le.2 (onDom_good (by decide) fun z => ?_))
    show g < 8
    unfold g
    split <;> omega

theorem wit_DomainsAndPtp_0 :
    ∃ (d : Fin 2) (s : State), s.dueAction 6 = none ∧ s.domState d = 2 :=
  ⟨1, (State.reset.setFld (Reg.TB_DOM_STATUS 1) Fld.TB_DOM_STATUS_STATE 2), by decide +kernel, by decide +kernel⟩

theorem wit_DomainsAndPtp_1 :
    ∃ (d : Fin 2) (s : State), s.dueAction 6 = none ∧ s.domState d ≠ 2 :=
  ⟨0, State.reset, by decide +kernel, by decide +kernel⟩

theorem wit_DomainsAndPtp_2 :
    ∃ (p : Path) (w : Word) (s : State), Inv s ∧ (∀ d < 2, s.domSrc d ≠ 3) :=
  ⟨.mgmt, 0, State.reset, inv_by (by decide +kernel), by decide +kernel⟩

theorem wit_DomainsAndPtp_3 :
    ∃ (k : Fin 64) (n : Nat) (s : State), (∀ d < 2, s.domSrc d ≠ 3) :=
  ⟨0, 0, State.reset, by decide +kernel⟩

theorem wit_DomainsAndPtp_4 :
    ∃ (k : Fin 64) (n : Nat) (s u : State), s.domSrc 0 = 3 ∧ s.domState 0 ≠ 0 ∧ s.flag (Reg.TB_DOM_CFG 0)
      Fld.TB_DOM_CFG_TREF = false ∧ u = s.domSample 0 ((flat (s.pair Reg.TB_PPS_SEC_LO) 0 0 : Int) - s.tapStamp
      k) none ∧ u.domSrc 1 ≠ 3 :=
  ⟨63, 5, ppsDom0, _, by decide +kernel, by decide +kernel, by decide +kernel, rfl, fun h => absurd
   (ppsDom0_sample.symm.trans h) (by decide)⟩

theorem wit_DomainsAndPtp_5 :
    ∃ (k : Fin 64) (n : Nat) (s u : State), s.domSrc 0 = 3 ∧ s.domState 0 ≠ 0 ∧ s.flag (Reg.TB_DOM_CFG 0)
      Fld.TB_DOM_CFG_TREF = true ∧ 9999900 ≤ n ∧ n ≤ 10000100 ∧ u = (s.setFld (Reg.TB_DOM_STATUS 0)
      Fld.TB_DOM_STATUS_TREF_OK 1).domSample 0 ((flat (s.pair Reg.TB_PPS_SEC_LO) 0 0 : Int) - s.tapStamp k)
      (some (Bits.twos 32 (((n : Int) - 10000000) * 100))) ∧ u.domSrc 1 ≠ 3 :=
  ⟨63, 10000100, trefDom0, (trefDom0.setFld (Reg.TB_DOM_STATUS 0) Fld.TB_DOM_STATUS_TREF_OK 1).domSample 0 ((flat
   (trefDom0.pair Reg.TB_PPS_SEC_LO) 0 0 : Int) - trefDom0.tapStamp 63) (some (Bits.twos 32 (((10000100 : Nat) :
   Int) - 10000000) * 100)), by decide +kernel, by decide +kernel, by decide +kernel, by decide +kernel,
   by decide +kernel, rfl, by decide +kernel⟩

theorem wit_DomainsAndPtp_6 :
    ∃ (k : Fin 64) (n : Nat) (s u : State), s.domSrc 0 = 3 ∧ s.domState 0 ≠ 0 ∧ s.flag (Reg.TB_DOM_CFG 0)
      Fld.TB_DOM_CFG_TREF = true ∧ (n < 9999900 ∨ 10000100 < n) ∧ u = s.setFld (Reg.TB_DOM_STATUS 0)
      Fld.TB_DOM_STATUS_TREF_OK 0 ∧ u.domSrc 1 ≠ 3 :=
  ⟨63, 10000101, trefDom0, trefDom0.setFld (Reg.TB_DOM_STATUS 0) Fld.TB_DOM_STATUS_TREF_OK 0, by decide +kernel,
   by decide +kernel, by decide +kernel, by decide +kernel, rfl, by decide +kernel⟩

theorem wit_DomainsAndPtp_7 :
    ∃ (n : Fin 256) (a : Announce) (s : State) (d : Nat), Inv s ∧ d ∈ s.ptpDoms n ∧ (s.dom d).master = none :=
  ⟨255, ⟨128, 6, 33, 0, 128, 9, 0, 7, 37⟩, ptpDom1, 1, inv_by (by decide +kernel), by decide +kernel,
   by decide +kernel⟩

theorem wit_DomainsAndPtp_8 :
    ∃ (n : Fin 256) (a m : Announce) (s : State) (d : Nat), s.ptpDoms n = [d] ∧ (s.dom d).master = some m ∧
      m.source ≠ a.source ∧ a.better m = false :=
  ⟨255, ⟨129, 6, 33, 0, 128, 9, 0, 8, 37⟩, ⟨128, 6, 33, 0, 128, 9, 0, 7, 37⟩, onDom 1 (fun d =>
   { d with master := some ⟨128, 6, 33, 0, 128, 9, 0, 7, 37⟩ }) ptpDom1, 1, by decide +kernel,
   by decide +kernel, by decide +kernel, by decide +kernel⟩

theorem wit_DomainsAndPtp_9 :
    ∃ (n : Fin 256) (a q : Nat) (t1 c : Int) (k : Fin 64) (s : State) (d : Nat), Inv s ∧ d ∈ s.ptpDoms n ∧
      ((s.dom d).usedAt.all fun u => decide (u + 7812500 ≤ s.clk.ticks)) = true ∧ s.fromMaster d a = true :=
  ⟨255, 7, 3, 1000, -5, 63, onDom 1 (fun d => { d with master := some ⟨128, 6, 33, 0, 128, 9, 0, 7, 37⟩ })
   ptpDom1, 1, inv_by (by decide +kernel), by decide +kernel, by decide +kernel, by decide +kernel⟩

theorem wit_DomainsAndPtp_10 :
    ∃ (n : Fin 256) (a q : Nat) (t1 c : Int) (k : Fin 64) (s : State) (d : Nat), s.ptpDoms n = [d] ∧ ((s.dom
      d).usedAt.all fun u => decide (u + 7812500 ≤ s.clk.ticks)) = true ∧ s.fromMaster d a = true :=
  ⟨255, 7, 3, 1000, -5, 63, onDom 1 (fun d => { d with master := some ⟨128, 6, 33, 0, 128, 9, 0, 7, 37⟩ })
   ptpDom1, 1, by decide +kernel, by decide +kernel, by decide +kernel⟩

theorem wit_DomainsAndPtp_11 :
    ∃ (n : Fin 256) (a q : Nat) (t1 c : Int) (s : State) (d : Nat) (y : PendingSync), s.ptpDoms n = [d] ∧ (s.dom
      d).sync = some y ∧ y.source = a ∧ y.seq = q :=
  ⟨255, 7, 3, 1000, -5, onDom 1 (fun d =>
   { d with master := some ⟨128, 6, 33, 0, 128, 9, 0, 7, 37⟩, sync := some ⟨7, 3, 2000, 4⟩ }) ptpDom1, 1, ⟨7, 3,
   2000, 4⟩, by decide +kernel, by decide +kernel, by decide +kernel, by decide +kernel⟩

theorem wit_DomainsAndPtp_12 :
    ∃ (n : Fin 256) (a q : Nat) (t1 c : Int) (s : State) (d : Nat), s.ptpDoms n = [d] ∧ (s.dom d).sync = none :=
  ⟨255, 7, 3, 1000, -5, onDom 1 (fun d => { d with master := some ⟨128, 6, 33, 0, 128, 9, 0, 7, 37⟩ }) ptpDom1, 1,
   by decide +kernel, by decide +kernel⟩

theorem wit_DomainsAndPtp_13 :
    ∃ (d : Fin 2) (k : Fin 64) (s : State) (m : Announce), Inv s ∧ s.domSrc d = 1 ∧ s.domState d ≠ 0 ∧ (s.dom
      d).master = some m ∧ s.mgtLink = true :=
  ⟨1, 63, onDom 1 (fun d => { d with master := some ⟨128, 6, 33, 0, 128, 9, 0, 7, 37⟩ }) ptpDom1, ⟨128, 6, 33, 0,
   128, 9, 0, 7, 37⟩, inv_by (by decide +kernel), by decide +kernel, by decide +kernel, by decide +kernel,
   by decide +kernel⟩

theorem wit_DomainsAndPtp_14 :
    ∃ (n : Fin 256) (a : Nat) (t4 c t3 w : Int) (s : State) (d : Nat), Inv s ∧ d ∈ s.ptpDoms n ∧ (s.dom d).t3 =
      some t3 ∧ (s.dom d).down = some w ∧ s.fromMaster d a = true :=
  ⟨255, 7, 5000, 2, 4000, 300, onDom 1 (fun d =>
   { d with master := some ⟨128, 6, 33, 0, 128, 9, 0, 7, 37⟩, t3 := some 4000, down := some 300 }) ptpDom1, 1,
   inv_by (by decide +kernel), by decide +kernel, by decide +kernel, by decide +kernel, by decide +kernel⟩

theorem wit_DomainsAndPtp_16 :
    ∃ (n : Fin 256) (a q : Nat) (m : Bool) (t1 c : Int) (k : Fin 64) (d : Fin 2) (s : State), s.mgtLink = false
      :=
  ⟨0, 7, 3, true, 1, 2, 5, 1, State.reset, by decide +kernel⟩

theorem wit_SlotsAndActions_0 :
    ∃ (p : Path) (n : Fin 256) (s : State), Inv s ∧ n.val < 128 ∧ s.armFails n = false ∧ s.now16 + leadOf
      (s.slotCode n) ≤ s.slotTime n :=
  ⟨.mgmt, 127, ((State.reset.setFld (Reg.TA_SLOT_CTL 127) Fld.TA_SLOT_CTL_CODE 7).setRegN (Reg.TA_SLOT_NS 127)
   100), inv_by (by decide +kernel), by decide +kernel, by decide +kernel, by decide +kernel⟩

theorem wit_SlotsAndActions_1 :
    ∃ (p : Path) (n : Fin 256) (s : State), Inv s ∧ n.val < 128 ∧ s.armFails n = false ∧ s.slotTime n < s.now16
      + leadOf (s.slotCode n) :=
  ⟨.mgmt, 127, onClk (fun c => { c with count := 2 ^ 60 }) ((State.reset.setFld (Reg.TA_SLOT_CTL 127)
   Fld.TA_SLOT_CTL_CODE 7).setRegN (Reg.TA_SLOT_NS 127) 100), inv_by (by decide +kernel), by decide +kernel,
   by decide +kernel, by decide +kernel⟩

theorem wit_SlotsAndActions_2 :
    ∃ (p : Path) (n : Fin 256) (s : State), 128 ≤ n.val :=
  ⟨.mgmt, 128, State.reset, by decide⟩

theorem wit_SlotsAndActions_3 :
    ∃ (p : Path) (n : Fin 256) (s : State), n.val < 128 ∧ s.armFails n = true :=
  ⟨.mgmt, 127, ((State.reset.setFld (Reg.TA_SLOT_CTL 127) Fld.TA_SLOT_CTL_CODE 0).setRegN (Reg.TA_SLOT_NS 127)
   5000), by decide +kernel, by decide +kernel⟩

theorem wit_SlotsAndActions_4 :
    ∃ (p : Path) (n : Fin 256) (s : State), Inv s ∧ n.val < 128 ∧ s.slotSt n = 1 ∧ (s.clk.pllLocked = false ∨
      s.now16 + leadOf (s.slotCode n) < s.slotTime n) :=
  ⟨.mgmt, 127, (((State.reset.setFld (Reg.TA_SLOT_CTL 127) Fld.TA_SLOT_CTL_CODE 7).setRegN (Reg.TA_SLOT_NS 127)
   5000).setFld (Reg.TA_SLOT_STATE 127) Fld.TA_SLOT_STATE_ST 1), inv_by (by decide +kernel), by decide +kernel,
   by decide +kernel, by decide +kernel⟩

theorem wit_SlotsAndActions_5 :
    ∃ (p : Path) (n : Fin 256) (s : State), n.val < 128 ∧ s.slotSt n = 1 ∧ s.clk.pllLocked = true ∧ s.slotTime n
      ≤ s.now16 + leadOf (s.slotCode n) :=
  ⟨.mgmt, 127, onClk (fun c => { c with pllLocked := true }) ((State.reset.setFld (Reg.TA_SLOT_CTL 127)
   Fld.TA_SLOT_CTL_CODE 7).setFld (Reg.TA_SLOT_STATE 127) Fld.TA_SLOT_STATE_ST 1), by decide +kernel,
   by decide +kernel, by decide +kernel, by decide +kernel⟩

theorem wit_SlotsAndActions_6 :
    ∃ (p : Path) (n : Fin 256) (s : State), n.val < 128 ∧ s.slotSt n = 2 :=
  ⟨.mgmt, 127, (((State.reset.setFld (Reg.TA_SLOT_CTL 127) Fld.TA_SLOT_CTL_CODE 7).setRegN (Reg.TA_SLOT_NS 127)
   5000).setFld (Reg.TA_SLOT_STATE 127) Fld.TA_SLOT_STATE_ST 2), by decide +kernel, by decide +kernel⟩

theorem wit_SlotsAndActions_7 :
    ∃ (n : Nat) (s : State), Inv s ∧ s.clk.pllLocked = true ∧ s.nextSlot = some n :=
  ⟨255, (onClk (fun c => { c with pllLocked := true }) (((State.reset.setFld (Reg.TA_SLOT_CTL 255)
   Fld.TA_SLOT_CTL_CODE 7).setRegN (Reg.TA_SLOT_NS 255) 5000).setFld (Reg.TA_SLOT_STATE 255)
   Fld.TA_SLOT_STATE_ST 1)), inv_by (by decide +kernel), by decide +kernel, by decide +kernel⟩

theorem wit_SlotsAndActions_8 :
    ∃ (s : State), (s.nextSlot = none ∨ s.clk.pllLocked = false) :=
  ⟨State.reset, by decide +kernel⟩

theorem wit_SlotsAndActions_9 :
    ∃ (s u : State) (d : TaDue) (ok : Bool), ActsNow s 6 d ∧ s.domainSwitch (s.regN (Reg.TA_SLOT_ARG0 d.slot))
      (s.regN (Reg.TA_SLOT_ARG1 d.slot)) = (ok, u) :=
  ⟨{ ((((State.reset.setFld (Reg.TB_DOM_STATUS 0) Fld.TB_DOM_STATUS_STATE 2).setFld (Reg.TA_SLOT_CTL 0) Fld.TA_SLOT_CTL_CODE 6).setRegN (Reg.TA_SLOT_ARG0 0) 0).setRegN (Reg.TA_SLOT_ARG1 0) 1) with due := [⟨0, 0, false⟩] },
   (({ ((((State.reset.setFld (Reg.TB_DOM_STATUS 0) Fld.TB_DOM_STATUS_STATE 2).setFld (Reg.TA_SLOT_CTL 0) Fld.TA_SLOT_CTL_CODE 6).setRegN (Reg.TA_SLOT_ARG0 0) 0).setRegN (Reg.TA_SLOT_ARG1 0) 1) with due := [⟨0, 0, false⟩] }).domainSwitch
   0 1).2, ⟨0, 0, false⟩,
   (({ ((((State.reset.setFld (Reg.TB_DOM_STATUS 0) Fld.TB_DOM_STATUS_STATE 2).setFld (Reg.TA_SLOT_CTL 0) Fld.TA_SLOT_CTL_CODE 6).setRegN (Reg.TA_SLOT_ARG0 0) 0).setRegN (Reg.TA_SLOT_ARG1 0) 1) with due := [⟨0, 0, false⟩] }).domainSwitch
   0 1).1, by decide +kernel, by decide +kernel⟩

theorem wit_SlotsAndActions_10 :
    ∃ (s u : State) (d : TaDue) (ok : Bool), ActsNow s 7 d ∧ s.gpioSet (s.regN (Reg.TA_SLOT_ARG0 d.slot))
      (s.regN (Reg.TA_SLOT_ARG1 d.slot)) = (ok, u) :=
  ⟨{ ((((State.reset.setRegN Reg.GLB_GPIO_DIR 32768).setFld (Reg.TA_SLOT_CTL 0) Fld.TA_SLOT_CTL_CODE 7).setRegN (Reg.TA_SLOT_ARG0 0) 32768).setRegN (Reg.TA_SLOT_ARG1 0) 32768) with due := [⟨0, 0, false⟩] },
   (({ ((((State.reset.setRegN Reg.GLB_GPIO_DIR 32768).setFld (Reg.TA_SLOT_CTL 0) Fld.TA_SLOT_CTL_CODE 7).setRegN (Reg.TA_SLOT_ARG0 0) 32768).setRegN (Reg.TA_SLOT_ARG1 0) 32768) with due := [⟨0, 0, false⟩] }).gpioSet
   32768 32768).2, ⟨0, 0, false⟩,
   (({ ((((State.reset.setRegN Reg.GLB_GPIO_DIR 32768).setFld (Reg.TA_SLOT_CTL 0) Fld.TA_SLOT_CTL_CODE 7).setRegN (Reg.TA_SLOT_ARG0 0) 32768).setRegN (Reg.TA_SLOT_ARG1 0) 32768) with due := [⟨0, 0, false⟩] }).gpioSet
   32768 32768).1, by decide +kernel, by decide +kernel⟩

theorem wit_SlotsAndActions_11 :
    ∃ (s u : State) (d : TaDue) (ok : Bool), ActsNow s 3 d ∧ s.handover (s.regN (Reg.TA_SLOT_ARG0 d.slot))
      (s.regN (Reg.TA_SLOT_ARG1 d.slot)) = (ok, u) :=
  ⟨{ ((((State.reset.setRegN Reg.MGT_SHADOW_EN 64).setFld (Reg.TA_SLOT_CTL 0) Fld.TA_SLOT_CTL_CODE 3).setRegN (Reg.TA_SLOT_ARG0 0) 6).setRegN (Reg.TA_SLOT_ARG1 0) 0) with due := [⟨0, 0, false⟩] },
   (({ ((((State.reset.setRegN Reg.MGT_SHADOW_EN 64).setFld (Reg.TA_SLOT_CTL 0) Fld.TA_SLOT_CTL_CODE 3).setRegN (Reg.TA_SLOT_ARG0 0) 6).setRegN (Reg.TA_SLOT_ARG1 0) 0) with due := [⟨0, 0, false⟩] }).handover
   6 0).2, ⟨0, 0, false⟩,
   (({ ((((State.reset.setRegN Reg.MGT_SHADOW_EN 64).setFld (Reg.TA_SLOT_CTL 0) Fld.TA_SLOT_CTL_CODE 3).setRegN (Reg.TA_SLOT_ARG0 0) 6).setRegN (Reg.TA_SLOT_ARG1 0) 0) with due := [⟨0, 0, false⟩] }).handover
   6 0).1, by decide +kernel, by decide +kernel⟩

theorem wit_SlotsAndActions_12 :
    ∃ (s u : State) (d : TaDue) (ok : Bool), ActsNow s 4 d ∧ s.calApply (s.regN (Reg.TA_SLOT_ARG0 d.slot))
      (s.regN (Reg.TA_SLOT_ARG1 d.slot)) = (ok, u) :=
  ⟨{ (((State.reset.setFld (Reg.TA_SLOT_CTL 0) Fld.TA_SLOT_CTL_CODE 4).setRegN (Reg.TA_SLOT_ARG0 0) 104).setRegN (Reg.TA_SLOT_ARG1 0) 7) with due := [⟨0, 0, false⟩] },
   (({ (((State.reset.setFld (Reg.TA_SLOT_CTL 0) Fld.TA_SLOT_CTL_CODE 4).setRegN (Reg.TA_SLOT_ARG0 0) 104).setRegN (Reg.TA_SLOT_ARG1 0) 7) with due := [⟨0, 0, false⟩] }).calApply
   104 7).2, ⟨0, 0, false⟩,
   (({ (((State.reset.setFld (Reg.TA_SLOT_CTL 0) Fld.TA_SLOT_CTL_CODE 4).setRegN (Reg.TA_SLOT_ARG0 0) 104).setRegN (Reg.TA_SLOT_ARG1 0) 7) with due := [⟨0, 0, false⟩] }).calApply
   104 7).1, by decide +kernel, by decide +kernel⟩

theorem wit_SlotsAndActions_13 :
    ∃ (s : State), s.dueAction 6 = none :=
  ⟨State.reset, by decide +kernel⟩

theorem wit_SlotsAndActions_14 :
    ∃ (s : State) (d : TaDue), Inv s ∧ d.late = false ∧ s.fab.waits = [] :=
  ⟨State.reset, ⟨0, 0, false⟩, inv_by (by decide +kernel), rfl, rfl⟩

theorem wit_SlotsAndActions_15 :
    ∃ (s : State), s.flag Reg.TB_CFG Fld.TB_CFG_PPS_OUT_EN = true ∧ s.tq ≠ 0 ∧ s.clk.pllLocked = true :=
  ⟨(onClk (fun c => { c with pllLocked := true, everSet := true }) ((State.reset.setFld Reg.TB_CFG
   Fld.TB_CFG_PPS_OUT_EN 1).setFld (Reg.TB_DOM_STATUS 0) Fld.TB_DOM_STATUS_STATE 2)), by decide +kernel,
   by decide +kernel, by decide +kernel⟩

theorem wit_SlotsAndActions_16 :
    ∃ (p : Path) (a : Option (Fin 2)) (k : Fin 2) (w : Word) (s : State), keyAllowed p (a.map Fin.val) k = true
      :=
  ⟨.mgmt, some 0, 1, 5, State.reset, by decide +kernel⟩

theorem wit_SlotsAndActions_17 :
    ∃ (p : Path) (a : Option (Fin 2)) (k : Fin 2) (w : Word) (s : State), keyAllowed p (a.map Fin.val) k = false
      :=
  ⟨.mgmt, none, 1, 5, State.reset, by decide +kernel⟩

theorem wit_HealthIsWatched_0 :
    ∃ (c : Fin 56) (g : Bool) (v r : BitVec 16) (s : State), hmClass c ≠ 3 ∧ s.flag (Reg.HM_CH_STATUS c)
      Fld.HM_CH_STATUS_STALE = false ∧ (g = false ∨ hmUnpowered s.pwrCur c = true) :=
  ⟨0, false, 0, 0, State.reset, by decide +kernel, by decide +kernel, by decide +kernel⟩

theorem wit_HealthIsWatched_1 :
    ∃ (c : Fin 56) (v r : BitVec 16) (s u : State), hmClass c = 0 ∧ s.flag (Reg.HM_CH_STATUS c)
      Fld.HM_CH_STATUS_STALE = false ∧ hmUnpowered s.pwrCur c = false ∧ u = (s.setFld (Reg.HM_CH_STATUS c)
      Fld.HM_CH_STATUS_VALID 1).setRegN (Reg.HM_CH_VALUE c) v.toNat ∧ u.flag (Reg.HM_CH_CFG c)
      Fld.HM_CH_CFG_COMPARE = true ∧ u.flag (Reg.HM_CH_CFG c) Fld.HM_CH_CFG_EN = true :=
  ⟨13, 100, 3, ((State.reset.setFld (Reg.HM_CH_CFG 13) Fld.HM_CH_CFG_COMPARE 1).setFld (Reg.HM_CH_CFG 13)
   Fld.HM_CH_CFG_EN 1), ((((State.reset.setFld (Reg.HM_CH_CFG 13) Fld.HM_CH_CFG_COMPARE 1).setFld (Reg.HM_CH_CFG
   13) Fld.HM_CH_CFG_EN 1).setFld (Reg.HM_CH_STATUS 13) Fld.HM_CH_STATUS_VALID 1).setRegN (Reg.HM_CH_VALUE 13)
   100), by decide +kernel, by decide +kernel, by decide +kernel, rfl, by decide +kernel, by decide +kernel⟩

theorem wit_HealthIsWatched_2 :
    ∃ (s : State), (∀ c < 8, s.flag (Reg.HM_CH_STATUS c) Fld.HM_CH_STATUS_VALID = false) :=
  ⟨State.reset, by decide +kernel⟩

theorem wit_HealthIsWatched_3 :
    ∃ (s u : State) (l : List Nat), (l = (List.range 8).filter (fun c => s.flag (Reg.HM_CH_STATUS c)
      Fld.HM_CH_STATUS_VALID && !s.flag (Reg.HM_CH_STATUS c) Fld.HM_CH_STATUS_STALE)) ∧ l ≠ [] ∧ u =
      State.followTcal (s.setRegN Reg.HM_TCAL (Bits.twos 16 ((l.foldl (fun (a : Int) c => a + Bits.signed 16
      (s.regN (Reg.HM_CH_VALUE c))) 0).fdiv l.length) + 65536)) ∧ u.convMoved 0 = false ∧ u.convMoved 1 = false
      :=
  ⟨((State.reset.setFld (Reg.HM_CH_STATUS 0) Fld.HM_CH_STATUS_VALID 1).setFld (Reg.HM_CH_STATUS 7)
   Fld.HM_CH_STATUS_VALID 1), tcalTwo, [0, 7], by decide +kernel, by decide +kernel, rfl, by decide +kernel,
   by decide +kernel⟩

/-! ### Two converters at a swap, whose angles are each within one count -/

theorem phi_zero (r : Nat) : phiOf (0, 1000000) r = (4095 + r % 3) % 4096 := by
  have hq : quadrant 0 1000000 = (0, 0, 1000000) := by decide
  have hk : angleFrom 0 1000000 10 0 = 0 := by decide +kernel
  have hb : beyondAngle 0 1000000 0 = 0 := by decide +kernel
  have hn : ((0, 1000000) : Int × Int) ≠ (0, 0) := by decide
  simp [phiOf, hq, hk, hb, hn]

theorem phi_half (r : Nat) : phiOf (0, -1000000) r = (2048 + (4095 + r % 3)) % 4096 := by
  have hq : quadrant 0 (-1000000) = (2, 0, 1000000) := by decide
  have hk : angleFrom 0 1000000 10 0 = 0 := by decide +kernel
  have hb : beyondAngle 0 1000000 0 = 0 := by decide +kernel
  have hn : ((0, -1000000) : Int × Int) ≠ (0, 0) := by decide
  simp [phiOf, hq, hk, hb, hn]

theorem swap_value (s : State) (t : Nat) (x : Int × Int) (h : (s.coef t).now.all (· == 0) = true) :
    (s.convAngle t x).1 = phiOf x s.free.1 := by
  show phiOf (s.free.2.convValue t x) s.free.1 = _
  unfold State.convValue
  rw [show s.free.2.coef t = s.coef t from rfl, if_pos h]

theorem near_agree (r q : Nat) : anglesAgree (phiOf (0, 1000000) r) (phiOf (0, 1000000) q) = true := by
  rw [phi_zero, phi_zero, anglesAgree, decide_eq_true_eq, angleStep]
  omega

theorem half_differs (r q : Nat) : anglesAgree (phiOf (0, 1000000) r) (phiOf (0, -1000000) q) = false := by
  rw [phi_zero, phi_half, anglesAgree, decide_eq_false_iff_not, angleStep]
  omega

theorem swap_agrees : anglesAgree (swapNone.convAngle 32 (0, 1000000)).1
    ((swapNone.convAngle 32 (0, 1000000)).2.convAngle 33 (0, 1000000)).1 = true := by
  rw [swap_value _ 32 _ (by decide +kernel), swap_value _ 33 _ (by decide +kernel)]
  exact near_agree _ _

theorem swap_differs : anglesAgree (swapNone.convAngle 32 (0, 1000000)).1
    ((swapNone.convAngle 32 (0, 1000000)).2.convAngle 33 (0, -1000000)).1 = false := by
  rw [swap_value _ 32 _ (by decide +kernel), swap_value _ 33 _ (by decide +kernel)]
  exact half_differs _ _

theorem wit_CalibrationServes_0 :
    ∃ (p : Path) (w : Word) (s : State) (n : Nat), n = Fld.CAL_CTRL_TARGET.get w ∧ s.calBusy n = false ∧
      calClass n ≠ .lane ∧ calClass n ≠ .nothing ∧ (calClass n = .temp ∨ calClass n = .volt → s.sensorBusy n =
      false) ∧ (calClass n = .feedback → s.convInService n = false) ∧ (calClass n = .firing → s.strobe (n - 40)
      = true) :=
  ⟨.mgmt, 0, State.reset, 0, by decide +kernel, by decide +kernel, by decide +kernel, by decide +kernel,
   by decide +kernel, by decide +kernel, by decide +kernel⟩

theorem wit_CalibrationServes_1 :
    ∃ (p : Path) (w : Word) (s : State) (n : Nat), n = Fld.CAL_CTRL_TARGET.get w ∧ (s.calBusy n = true ∨
      calClass n = .lane ∨ calClass n = .nothing ∨ (calClass n = .temp ∨ calClass n = .volt) ∧ s.sensorBusy n =
      true ∨ calClass n = .feedback ∧ s.convInService n = true ∨ calClass n = .firing ∧ s.strobe (n - 40) =
      false) :=
  ⟨.mgmt, 64, State.reset, 64, by decide +kernel, by decide +kernel⟩

theorem wit_CalibrationServes_2 :
    ∃ (p : Path) (w : Word) (s u : State), s.setMode (Fld.CAL_CTRL_TARGET.get w) (some (Fld.CAL_CTRL_POINT.get
      w)) = (true, u) :=
  ⟨.mgmt, Fld.CAL_CTRL_TARGET.put 40 (Fld.CAL_CTRL_POINT.put 1 0),
   { (State.reset.setFld (Reg.CAL_TGT_STATUS 40) Fld.CAL_TGT_STATUS_POINTS 2) with cal := { State.reset.cal with trims := [0] } },
   (({ (State.reset.setFld (Reg.CAL_TGT_STATUS 40) Fld.CAL_TGT_STATUS_POINTS 2) with cal := { State.reset.cal with trims := [0] } }).setMode
   40 (some 1)).2, by decide +kernel⟩

theorem wit_CalibrationServes_3 :
    ∃ (p : Path) (w : Word) (s u : State), s.setMode (Fld.CAL_CTRL_TARGET.get w) (some (Fld.CAL_CTRL_POINT.get
      w)) = (false, u) :=
  ⟨.mgmt, 0, State.reset, _, rfl⟩

theorem wit_CalibrationServes_4 :
    ∃ (p : Path) (w : Word) (s : State), (calClass (Fld.CAL_CTRL_TARGET.get w) = .feedback ∨ calClass
      (Fld.CAL_CTRL_TARGET.get w) = .firing) :=
  ⟨.mgmt, 32, State.reset, by decide +kernel⟩

theorem wit_CalibrationServes_5 :
    ∃ (p : Path) (w : Word) (s : State), calClass (Fld.CAL_CTRL_TARGET.get w) ≠ .feedback ∧ calClass
      (Fld.CAL_CTRL_TARGET.get w) ≠ .firing :=
  ⟨.mgmt, 0, State.reset, by decide +kernel, by decide +kernel⟩

theorem wit_CalibrationServes_6 :
    ∃ (w : Word) (s : State) (n : Nat), n = Fld.CAL_CTRL_TARGET.get w ∧ Inv s ∧ n ≤ 104 :=
  ⟨0, State.reset, 0, by decide +kernel, inv_by (by decide +kernel), by decide +kernel⟩

theorem wit_CalibrationServes_7 :
    ∃ (s : State), s.bgPaused = false ∧ s.sensorBusy (nth tempTargets (s.cal.nextT % 10) 0) = false :=
  ⟨State.reset, by decide +kernel, by decide +kernel⟩

theorem wit_CalibrationServes_8 :
    ∃ (x : Fin 2) (s : State), s.bgPaused = false ∧ s.fbSrc x = 1 ∧ s.calBusy (32 + 2 * x) = false ∧ s.calBusy
      (33 + 2 * x) = false :=
  ⟨1, (State.reset.setFld (Reg.FB_AX_CFG 1) Fld.FB_AX_CFG_SRC 1), by decide +kernel, by decide +kernel,
   by decide +kernel, by decide +kernel⟩

theorem wit_CalibrationServes_9 :
    ∃ (p : Fin 6) (s : State), Inv s ∧ s.bgPaused = false ∧ (∀ q < 6, s.strobe q = true ↔ q = p.val) ∧ s.tgt (40
      + p) Fld.CAL_TGT_STATUS_MODE ≠ 0 ∧ s.calBusy (40 + p) = false :=
  ⟨5, ((State.reset.setFld Reg.GY_CFG Fld.GY_CFG_STROBE 32).setFld (Reg.CAL_TGT_STATUS 45) Fld.CAL_TGT_STATUS_MODE
   1), inv_by (by decide +kernel), by decide +kernel, by decide +kernel, by decide +kernel, by decide +kernel⟩

theorem wit_CalibrationServes_10 :
    ∃ (x : Fin 2) (s : State), s.bgPaused = true :=
  ⟨0, State.reset.setFld Reg.ERR_STATUS Fld.ERR_STATUS_BG_PAUSED 1, by decide +kernel⟩

theorem wit_CalibrationServes_11 :
    ∃ (n : Fin 105) (a b : List Int) (s : State), s.calBusy n = true ∧ calAgree (calClass n) a b = true :=
  ⟨0, [0], [0], (State.reset.setFld (Reg.CAL_TGT_STATUS 0) Fld.CAL_TGT_STATUS_BUSY 1), by decide +kernel,
   by decide +kernel⟩

theorem wit_CalibrationServes_12 :
    ∃ (n : Fin 105) (a b : List Int) (s : State), s.calBusy n = true ∧ calAgree (calClass n) a b = false :=
  ⟨0, [0], [10000], (State.reset.setFld (Reg.CAL_TGT_STATUS 0) Fld.CAL_TGT_STATUS_BUSY 1), by decide +kernel,
   by decide +kernel⟩

theorem wit_CalibrationServes_13 :
    ∃ (x : Fin 2) (m n : Int × Int) (s u v : State) (a b : Nat), x.val ∈ s.cal.swaps ∧ (x.val = 0 → s.swathLive
      = false) ∧ (x.val = 1 → s.axState 1 ≤ 1) ∧ (s.onCal fun c =>
      { c with swaps := c.swaps.filter (· != x.val) }).convAngle (s.convOf x) m = (a, u) ∧ u.convAngle
      (s.convIdle x) n = (b, v) ∧ anglesAgree a b = true ∧ v.ampFault x = false :=
  ⟨0, (0, 1000000), (0, 1000000), swapOne, (swapNone.convAngle 32 (0, 1000000)).2, ((swapNone.convAngle 32 (0,
   1000000)).2.convAngle 33 (0, 1000000)).2, (swapNone.convAngle 32 (0, 1000000)).1, ((swapNone.convAngle 32 (0,
   1000000)).2.convAngle 33 (0, 1000000)).1, by decide +kernel, by decide +kernel, by decide +kernel, rfl, rfl,
   swap_agrees, by decide +kernel⟩

theorem wit_CalibrationServes_14 :
    ∃ (x : Fin 2) (m n : Int × Int) (s u v : State) (a b : Nat), x.val ∈ s.cal.swaps ∧ (x.val = 0 → s.swathLive
      = false) ∧ (x.val = 1 → s.axState 1 ≤ 1) ∧ (s.onCal fun c =>
      { c with swaps := c.swaps.filter (· != x.val) }).convAngle (s.convOf x) m = (a, u) ∧ u.convAngle
      (s.convIdle x) n = (b, v) ∧ (anglesAgree a b = false ∨ v.ampFault x = true) :=
  ⟨0, (0, 1000000), (0, -1000000), swapOne, (swapNone.convAngle 32 (0, 1000000)).2, ((swapNone.convAngle 32 (0,
   1000000)).2.convAngle 33 (0, -1000000)).2, (swapNone.convAngle 32 (0, 1000000)).1, ((swapNone.convAngle 32
   (0, 1000000)).2.convAngle 33 (0, -1000000)).1, by decide +kernel, by decide +kernel, by decide +kernel, rfl,
   rfl, .inl swap_differs⟩

theorem wit_CalibrationServes_15 :
    ∃ (x : Fin 2) (m n : Int × Int) (s : State), x.val ∈ s.cal.swaps ∧ (x.val = 0 ∧ s.swathLive = true ∨ x.val =
      1 ∧ 1 < s.axState 1) :=
  ⟨0, (0, 0), (0, 0), { oneSwath .running with cal := { State.reset.cal with swaps := [0] } }, by decide +kernel,
   by decide +kernel⟩

theorem wit_CalibrationServes_16 :
    ∃ (r : Fin 4096) (s : State) (p : Nat), p = rowPort s.bmap r ∧ p < 6 ∧ s.tgt (40 + p)
      Fld.CAL_TGT_STATUS_MODE ≠ 0 ∧ s.firingSet (40 + p) = true ∧ s.rowDelay r < s.delayGoal p r ∧ s.mayDelay p
      r (s.rowDelay r + 1) = true :=
  ⟨4095, withTbl [(0x01E80000 + 8188, 0x50000)]
   ({ ((State.reset.setFld (Reg.CAL_TGT_STATUS 40) Fld.CAL_TGT_STATUS_POINTS 1).setFld (Reg.CAL_TGT_STATUS 40) Fld.CAL_TGT_STATUS_MODE 2) with cal := { State.reset.cal with trims := [0] } }),
   0, by decide +kernel, by decide +kernel, by decide +kernel, by decide +kernel, by decide +kernel,
   by decide +kernel⟩

theorem wit_CalibrationServes_17 :
    ∃ (r : Fin 4096) (s : State) (p : Nat), p = rowPort s.bmap r ∧ p < 6 ∧ s.tgt (40 + p)
      Fld.CAL_TGT_STATUS_MODE ≠ 0 ∧ s.firingSet (40 + p) = true ∧ s.delayGoal p r < s.rowDelay r ∧ s.mayDelay p
      r (s.rowDelay r - 1) = true :=
  ⟨4095, withTbl [(0x01B00000 + 8188, 0x50000)]
   ({ ((State.reset.setFld (Reg.CAL_TGT_STATUS 40) Fld.CAL_TGT_STATUS_POINTS 1).setFld (Reg.CAL_TGT_STATUS 40) Fld.CAL_TGT_STATUS_MODE 2) with cal := { State.reset.cal with trims := [0] } }),
   0, by decide +kernel, by decide +kernel, by decide +kernel, by decide +kernel, by decide +kernel,
   by decide +kernel⟩

theorem wit_CalibrationServes_18 :
    ∃ (r : Fin 4096) (s : State) (p : Nat), p = rowPort s.bmap r ∧ p < 6 ∧ s.tgt (40 + p)
      Fld.CAL_TGT_STATUS_MODE ≠ 0 ∧ s.firingSet (40 + p) = true ∧ (s.rowDelay r < s.delayGoal p r → s.mayDelay p
      r (s.rowDelay r + 1) = false) ∧ (s.delayGoal p r < s.rowDelay r → s.mayDelay p r (s.rowDelay r - 1) =
      false) :=
  ⟨4095,
   { ((State.reset.setFld (Reg.CAL_TGT_STATUS 40) Fld.CAL_TGT_STATUS_POINTS 1).setFld (Reg.CAL_TGT_STATUS 40) Fld.CAL_TGT_STATUS_MODE 2) with cal := { State.reset.cal with trims := [0] } },
   0, by decide +kernel, by decide +kernel, by decide +kernel, by decide +kernel, by decide +kernel,
   by decide +kernel⟩

end Sys2Proof.Tests
end

