-- ==== Sys2Proof/Tests/Witness5.lean ====
section
/-! SUPPORT. Witnesses: for each statement with hypotheses, operands and a state that meet them together, one theorem
for each clause. -/

set_option linter.all false
set_option Elab.async false

open Sys2Proof Sys2Proof.Bits Sys2Proof.Machine Sys2Proof.Safety Sys2Proof.Tests Sys2Proof.Laws

namespace Sys2Proof.Tests

theorem wit_HelloAndTopology_0 :
    ∃ (p : Fin 4) (a b c : Byte) (s : State), Inv s ∧ 2 ≤ s.fpState p ∧ a.toNat ≤ 3 ∧ b.toNat ≤ 3 ∧ a.toNat +
      c.toNat = 255 ∧ (s.fport p).helloRun < 15 :=
  ⟨0, 3, 2, 252, fabUp, inv_by (by decide +kernel), by decide +kernel, by decide +kernel, by decide +kernel,
   by decide +kernel, by decide +kernel⟩

theorem wit_HelloAndTopology_1 :
    ∃ (p : Fin 4) (a b c : Byte) (s : State), Inv s ∧ s.fpState p = 2 ∧ a.toNat ≤ 3 ∧ b.toNat ≤ 3 ∧ a.toNat +
      c.toNat = 255 ∧ 15 ≤ (s.fport p).helloRun ∧ (s.fport p).topoSeen = true :=
  ⟨0, 3, 2, 252, onF (fun f =>
   { f with ports := f.ports.map fun p => { p with topoSeen := true, helloRun := 15 } }) fabUp, inv_by
   (by decide +kernel), by decide +kernel, by decide +kernel, by decide +kernel, by decide +kernel,
   by decide +kernel, by decide +kernel⟩

theorem wit_HelloAndTopology_2 :
    ∃ (p : Fin 4) (a b c : Byte) (s : State), Inv s ∧ 2 ≤ s.fpState p ∧ a.toNat + c.toNat ≠ 255 :=
  ⟨0, 3, 2, 0, fabUp, inv_by (by decide +kernel), by decide +kernel, by decide +kernel⟩

theorem wit_HelloAndTopology_3 :
    ∃ (p : Fin 4) (s : State), 2 ≤ s.fpState p :=
  ⟨0, fabUp, by decide +kernel⟩

theorem wit_HelloAndTopology_4 :
    ∃ (p : Fin 4) (s : State), s.fpState p < 2 :=
  ⟨0, State.reset, by decide +kernel⟩

theorem wit_HelloAndTopology_5 :
    ∃ (p : Fin 5) (fr : List Byte) (s u : State) (f : FabFrame) (e : TopoEntry) (v : State), FabFrameIn s p fr
      0x10 f ∧ u = fabIn s p ∧ f.pay.length = 64 ∧ u.fabState ≠ 0 ∧ e = topoParse f.pay ∧ ((p.val < 4 → (u.fport
      p).topoSeen = true)) ∧ e.serial ≠ u.serial ∧ ((u.fab.db.any fun x => x.serial == e.serial && decide
      (e.version ≤ x.version)) = false) ∧ v = u.storeTopo e :=
  ⟨0, (fabFr 16 65535 5 3 (le [(8, 77), (1, 1), (1, 0), (2, 65535), (4, 1), (24, 0), (24, 0)])), onF (fun f =>
   { f with ports := f.ports.map fun p => { p with topoSeen := true } }) fabUp, fabIn (onF (fun f =>
   { f with ports := f.ports.map fun p => { p with topoSeen := true } }) fabUp) 0, fabParse (fabFr 16 65535 5 3
   (le [(8, 77), (1, 1), (1, 0), (2, 65535), (4, 1), (24, 0), (24, 0)])), topoParse (fabParse (fabFr 16 65535 5
   3 (le [(8, 77), (1, 1), (1, 0), (2, 65535), (4, 1), (24, 0), (24, 0)]))).pay, (fabIn (onF (fun f =>
   { f with ports := f.ports.map fun p => { p with topoSeen := true } }) fabUp) 0).storeTopo (topoParse
   (fabParse (fabFr 16 65535 5 3 (le [(8, 77), (1, 1), (1, 0), (2, 65535), (4, 1), (24, 0), (24, 0)]))).pay),
   by decide +kernel, rfl, by decide +kernel, by decide +kernel, by decide +kernel, by decide +kernel,
   by decide +kernel, by decide +kernel, rfl⟩

theorem wit_HelloAndTopology_6 :
    ∃ (p : Fin 5) (fr : List Byte) (s u : State) (f : FabFrame) (e : TopoEntry), FabFrameIn s p fr 0x10 f ∧ u =
      fabIn s p ∧ e = topoParse f.pay ∧ ((p.val < 4 → (u.fport p).topoSeen = true)) ∧ (e.serial = u.serial ∨
      (u.fab.db.any fun x => x.serial == e.serial && decide (e.version ≤ x.version)) = true) :=
  ⟨0, (fabFr 16 65535 5 3 (le [(8, 77), (1, 1), (1, 0), (2, 65535), (4, 1), (24, 0), (24, 0)])), onF (fun f =>
   { f with ports := f.ports.map (fun p => { p with topoSeen := true }), db := [⟨77, 1, 0xFFFF, 1, []⟩] })
   fabUp, fabIn (onF (fun f =>
   { f with ports := f.ports.map (fun p => { p with topoSeen := true }), db := [⟨77, 1, 0xFFFF, 1, []⟩] })
   fabUp) 0, fabParse (fabFr 16 65535 5 3 (le [(8, 77), (1, 1), (1, 0), (2, 65535), (4, 1), (24, 0), (24, 0)])),
   topoParse (fabParse (fabFr 16 65535 5 3 (le [(8, 77), (1, 1), (1, 0), (2, 65535), (4, 1), (24, 0), (24,
   0)]))).pay, by decide +kernel, rfl, by decide +kernel, by decide +kernel, by decide +kernel⟩

theorem wit_HelloAndTopology_7 :
    ∃ (s : State), s.fabState = 0 :=
  ⟨State.reset, by decide +kernel⟩

theorem wit_HelloAndTopology_8 :
    ∃ (s : State) (e : TopoEntry), s.fabState ≠ 0 ∧ e = s.makeTopo ((s.fab.version + 1) % 2 ^ 32) :=
  ⟨fabUp, State.makeTopo fabUp ((State.reset.fab.version + 1) % 2 ^ 32), by decide +kernel, by decide +kernel⟩

theorem wit_HelloAndTopology_9 :
    ∃ (k : Nat) (s : State), k ≠ s.serial ∧ ((s.fab.db.any fun e => e.serial == k) = true) ∧ s.idOf k = none :=
  ⟨77, onF fun f => { f with db := [⟨77, 1, 0xFFFF, 1, []⟩] }, by decide +kernel, by decide +kernel,
   by decide +kernel⟩

theorem wit_HelloAndTopology_10 :
    ∃ (k : Nat) (s : State), k = s.serial :=
  ⟨(State.serial State.reset), State.reset, by decide +kernel⟩

theorem wit_HelloAndTopology_11 :
    ∃ (k n : Nat) (s : State), k ≠ s.serial ∧ ((s.fab.db.any fun e => e.serial == k) = true) ∧ s.idOf k = some n
      ∧ s.isRoot = false :=
  ⟨77, 5, pair 77, by decide +kernel, by decide +kernel, by decide +kernel, by decide +kernel⟩

theorem wit_RootsAndNodeIds_0 :
    ∃ (s : State), s.fabState = 1 :=
  ⟨(State.reset.setFld Reg.FAB_STATUS Fld.FAB_STATUS_STATE 1), by decide +kernel⟩

theorem wit_RootsAndNodeIds_1 :
    ∃ (s : State), (s.fabState = 0 ∨ s.fabState = 2) :=
  ⟨State.reset, by decide +kernel⟩

theorem wit_RootsAndNodeIds_2 :
    ∃ (s : State), 3 ≤ s.fabState :=
  ⟨State.reset.setFld Reg.FAB_STATUS Fld.FAB_STATUS_STATE 3, by decide +kernel⟩

theorem wit_RootsAndNodeIds_3 :
    ∃ (s : State), Inv s ∧ s.fabState = 1 ∧ (∀ p < 4, s.fpState p ≠ 3) :=
  ⟨(State.reset.setFld Reg.FAB_STATUS Fld.FAB_STATUS_STATE 1), inv_by (by decide +kernel), by decide +kernel,
   by decide +kernel⟩

theorem wit_RootsAndNodeIds_4 :
    ∃ (s : State), (s.fabState ≠ 1 ∨ ∃ p < 4, s.fpState p = 3) :=
  ⟨State.reset, Or.inl (by decide +kernel)⟩

theorem wit_RootsAndNodeIds_5 :
    ∃ (p : Fin 5) (fr : List Byte) (s u : State) (f : FabFrame) (a : AssignPart), FabFrameIn s p fr 0x11 f ∧ u =
      fabIn s p ∧ u.fabState ≠ 0 ∧ a = assignParse f.pay ∧ a ∉ u.fab.parts ∧ (((u.fab.parts ++ [a]).filter fun x
      => x.root == a.root && x.epoch == a.epoch).flatMap (·.ids)).length < a.total :=
  ⟨0, (fabFr 17 65535 5 3 (le [(8, 77), (4, 9), (2, 2), (2, 0), (2, 1), (2, 0), (8, 1), (2, 4), (6, 0)])), pair
   77, fabIn (pair 77) 0, fabParse (fabFr 17 65535 5 3 (le [(8, 77), (4, 9), (2, 2), (2, 0), (2, 1), (2, 0), (8,
   1), (2, 4), (6, 0)])), assignParse (fabParse (fabFr 17 65535 5 3 (le [(8, 77), (4, 9), (2, 2), (2, 0), (2,
   1), (2, 0), (8, 1), (2, 4), (6, 0)]))).pay, by decide +kernel, rfl, by decide +kernel, by decide +kernel,
   by decide +kernel, by decide +kernel⟩

theorem wit_RootsAndNodeIds_6 :
    ∃ (p : Fin 5) (fr : List Byte) (s u v : State) (f : FabFrame) (a : AssignPart) (l : List (Nat × Option
      Nat)), FabFrameIn s p fr 0x11 f ∧ u = fabIn s p ∧ u.fabState ≠ 0 ∧ a = assignParse f.pay ∧ a ∉ u.fab.parts
      ∧ l = ((u.fab.parts ++ [a]).filter fun x => x.root == a.root && x.epoch == a.epoch).flatMap (·.ids) ∧
      a.total ≤ l.length ∧ v = (List.range 4).foldl (fun t q => if q ≠ p.val ∧ t.fpState q = 3 then t.fabNear q
      0x11 f.pay else t) (u.onFab fun g => { g with parts := g.parts ++ [a] }) :=
  ⟨0, (fabFr 17 65535 5 3 (le [(8, 77), (4, 9), (2, 1), (2, 0), (2, 1), (2, 0), (8, 1), (2, 4), (6, 0)])), pair
   77, fabIn (pair 77) 0, (fabIn (pair 77) 0).onFab fun g =>
   { g with parts := g.parts ++ [assignParse (fabParse (fabFr 17 65535 5 3 (le [(8, 77), (4, 9), (2, 1), (2, 0), (2, 1), (2, 0), (8, 1), (2, 4), (6, 0)]))).pay] },
   fabParse (fabFr 17 65535 5 3 (le [(8, 77), (4, 9), (2, 1), (2, 0), (2, 1), (2, 0), (8, 1), (2, 4), (6, 0)])),
   assignParse (fabParse (fabFr 17 65535 5 3 (le [(8, 77), (4, 9), (2, 1), (2, 0), (2, 1), (2, 0), (8, 1), (2,
   4), (6, 0)]))).pay, [(1, some 4)], by decide +kernel, rfl, by decide +kernel, by decide +kernel,
   by decide +kernel, by decide +kernel, by decide +kernel, rfl⟩

theorem wit_RootsAndNodeIds_7 :
    ∃ (p : Fin 5) (fr : List Byte) (s u : State) (f : FabFrame), FabFrameIn s p fr 0x11 f ∧ u = fabIn s p ∧
      (u.fabState = 0 ∨ assignParse f.pay ∈ u.fab.parts) :=
  ⟨0, (fabFr 17 65535 5 3 (le [(8, 77), (4, 9), (2, 2), (2, 0), (2, 1), (2, 0), (8, 1), (2, 4), (6, 0)])),
   asgSeen, fabIn asgSeen 0, fabParse (fabFr 17 65535 5 3 (le [(8, 77), (4, 9), (2, 2), (2, 0), (2, 1), (2, 0),
   (8, 1), (2, 4), (6, 0)])), by decide +kernel, rfl, by decide +kernel⟩

theorem wit_RootsAndNodeIds_8 :
    ∃ (s : State) (f : FabFrame) (l : List FabFrame) (u : State), s.fab.held = f :: l ∧ u = (s.onFab fun g =>
      { g with held := l }) ∧ (u.routePort f.dst (Bits.bit f.flags 1)).isSome = true :=
  ⟨heldFor 5, ⟨0x14, 0, 5, 0, 8, 0, 3, []⟩, [], (heldFor 5).onFab fun g => { g with held := [] },
   by decide +kernel, rfl, by decide +kernel⟩

theorem wit_RootsAndNodeIds_9 :
    ∃ (s : State) (f : FabFrame) (l : List FabFrame) (u : State), s.fab.held = f :: l ∧ u = (s.onFab fun g =>
      { g with held := l }) ∧ u.routePort f.dst (Bits.bit f.flags 1) = none :=
  ⟨heldFor 9, ⟨0x14, 0, 9, 0, 8, 0, 3, []⟩, [], (heldFor 9).onFab fun g => { g with held := [] },
   by decide +kernel, rfl, by decide +kernel⟩

theorem wit_FabricTimeAndMulticast_0 :
    ∃ (p : Fin 4) (m : Byte) (a b : Fin 64) (k : Fin 10001) (s : State), s.fpState p = 3 ∧ s.upPort = some p.val
      :=
  ⟨0, 5, 63, 63, 10000, pair 77, by decide +kernel, by decide +kernel⟩

theorem wit_FabricTimeAndMulticast_1 :
    ∃ (p : Fin 4) (m : Byte) (a b : Fin 64) (k : Fin 10001) (s : State), s.fpState p = 3 ∧ s.upPort ≠ some p.val
      ∧ s.isChild p = true ∧ p.val < s.fab.ports.length :=
  ⟨0, 5, 63, 63, 10000, pair 1, by decide +kernel, by decide +kernel, by decide +kernel, by decide +kernel⟩

theorem wit_FabricTimeAndMulticast_2 :
    ∃ (p : Fin 4) (m : Byte) (a b : Fin 64) (k : Fin 10001) (s : State), (s.fpState p ≠ 3 ∨ s.upPort ≠ some
      p.val ∧ s.isChild p = false) :=
  ⟨0, 5, 63, 63, 10000, State.reset, by decide +kernel⟩

theorem wit_FabricTimeAndMulticast_3 :
    ∃ (l : List (Fin 64)) (s : State) (p : Fin 4), Inv s ∧ s.isChild p = true :=
  ⟨[1], pair 1, 0, inv_by (by decide +kernel), by decide +kernel⟩

theorem wit_FabricTimeAndMulticast_4 :
    ∃ (l : List (Fin 64)) (s : State), (∀ q < 4, s.isChild q = false) :=
  ⟨[], State.reset, by decide +kernel⟩

theorem wit_FabricTimeAndMulticast_5 :
    ∃ (p : Fin 5) (fr : List Byte) (s u : State) (f : FabFrame), FabFrameIn s p fr 0x01 f ∧ u = fabIn s p ∧
      u.upPort = some p.val ∧ f.pay.length = 32 :=
  ⟨0, (fabFr 1 65535 5 3 (le [(8, 5), (4, 6), (4, 0), (4, 0), (4, 0), (8, 0)])), pair 77, fabIn (pair 77) 0,
   fabParse (fabFr 1 65535 5 3 (le [(8, 5), (4, 6), (4, 0), (4, 0), (4, 0), (8, 0)])), by decide +kernel, rfl,
   by decide +kernel, by decide +kernel⟩

theorem wit_FabricTimeAndMulticast_6 :
    ∃ (p : Fin 5) (fr : List Byte) (s u : State) (f : FabFrame), FabFrameIn s p fr 0x01 f ∧ u = fabIn s p ∧
      (u.upPort ≠ some p.val ∨ f.pay.length ≠ 32) :=
  ⟨0, (fabFr 1 65535 5 3 (le [(8, 5), (4, 6), (4, 0), (4, 0), (4, 0), (8, 0)])), pair 1, fabIn (pair 1) 0,
   fabParse (fabFr 1 65535 5 3 (le [(8, 5), (4, 6), (4, 0), (4, 0), (4, 0), (8, 0)])), by decide +kernel, rfl,
   by decide +kernel⟩

theorem wit_FabricTimeAndMulticast_7 :
    ∃ (p : Fin 5) (fr : List Byte) (s u : State) (f : FabFrame), FabFrameIn s p fr 0x17 f ∧ u = fabIn s p ∧
      Bits.rd f.pay 0 1 = u.ingGroup :=
  ⟨0, (fabFr 23 65535 5 3 (le [(1, 0), (3, 0), (4, 4)])), pair 1, fabIn (pair 1) 0, fabParse (fabFr 23 65535 5 3
   (le [(1, 0), (3, 0), (4, 4)])), by decide +kernel, rfl, by decide +kernel⟩

theorem wit_FabricTimeAndMulticast_8 :
    ∃ (p : Fin 5) (fr : List Byte) (s u : State) (f : FabFrame), FabFrameIn s p fr 0x18 f ∧ u = fabIn s p ∧
      Bits.rd f.pay 0 1 = u.ingGroup :=
  ⟨0, (fabFr 24 65535 5 3 (le [(1, 0), (3, 0), (4, 4)])), pair 1, fabIn (pair 1) 0, fabParse (fabFr 24 65535 5 3
   (le [(1, 0), (3, 0), (4, 4)])), by decide +kernel, rfl, by decide +kernel⟩

theorem wit_FabricTimeAndMulticast_9 :
    ∃ (p : Fin 5) (fr : List Byte) (s u : State) (f : FabFrame) (ty : Nat), (ty = 0x17 ∨ ty = 0x18) ∧ FabFrameIn
      s p fr ty f ∧ u = fabIn s p ∧ Bits.rd f.pay 0 1 ≠ u.ingGroup :=
  ⟨0, (fabFr 23 65535 5 3 (le [(1, 9), (3, 0), (4, 4)])), pair 1, fabIn (pair 1) 0, fabParse (fabFr 23 65535 5 3
   (le [(1, 9), (3, 0), (4, 4)])), 0x17, by decide +kernel, by decide +kernel, rfl, by decide +kernel⟩

theorem wit_FabricTimeAndMulticast_10 :
    ∃ (s : State) (r : McRx), s.fab.rx = [r] ∧ 0 < r.unacked :=
  ⟨onF (fun f => { f with rx := [⟨5, 0, 4, 3, none⟩] }) (pair 77), ⟨5, 0, 4, 3, none⟩, by decide +kernel,
   by decide +kernel⟩

theorem wit_FabricTimeAndMulticast_11 :
    ∃ (s : State), (s.fab.rx.all fun r => r.unacked == 0) = true :=
  ⟨State.reset, by decide +kernel⟩

theorem wit_FabricTimeAndMulticast_12 :
    ∃ (p : Fin 5) (fr : List Byte) (s u : State) (f : FabFrame) (v w : State) (x : FabFrame), FabFrameIn s p fr
      0x19 f ∧ u = fabIn s p ∧ v = (u.count Reg.FAB_NAKS 1).event Reg.FAB_EVENT Fld.FAB_EVENT_NAK ∧ Bits.rd
      f.pay 0 1 = 1 ∧ v.nakedFrame f.src f.pay = (some x, w) :=
  ⟨0, (fabFr 25 65535 5 3 (le [(1, 1), (1, 32), (2, 0), (4, 0), (4, 3)])), onF (fun f =>
   { f with replay := [(3, 0, 4)] }) (pair 1), fabIn (onF (fun f => { f with replay := [(3, 0, 4)] }) (pair 1))
   0, fabParse (fabFr 25 65535 5 3 (le [(1, 1), (1, 32), (2, 0), (4, 0), (4, 3)])), (((fabIn (onF (fun f =>
   { f with replay := [(3, 0, 4)] }) (pair 1)) 0).count Reg.FAB_NAKS 1).event Reg.FAB_EVENT Fld.FAB_EVENT_NAK),
   (((((fabIn (onF (fun f => { f with replay := [(3, 0, 4)] }) (pair 1)) 0).count Reg.FAB_NAKS 1).event
   Reg.FAB_EVENT Fld.FAB_EVENT_NAK).nakedFrame (fabParse (fabFr 25 65535 5 3 (le [(1, 1), (1, 32), (2, 0), (4,
   0), (4, 3)]))).src (fabParse (fabFr 25 65535 5 3 (le [(1, 1), (1, 32), (2, 0), (4, 0), (4, 3)]))).pay)).2,
   (the (((((fabIn (onF (fun f => { f with replay := [(3, 0, 4)] }) (pair 1)) 0).count Reg.FAB_NAKS 1).event
   Reg.FAB_EVENT Fld.FAB_EVENT_NAK).nakedFrame (fabParse (fabFr 25 65535 5 3 (le [(1, 1), (1, 32), (2, 0), (4,
   0), (4, 3)]))).src (fabParse (fabFr 25 65535 5 3 (le [(1, 1), (1, 32), (2, 0), (4, 0), (4, 3)]))).pay)).1),
   by decide +kernel, rfl, rfl, by decide +kernel, by decide +kernel⟩

theorem wit_FabricTimeAndMulticast_13 :
    ∃ (p : Fin 5) (fr : List Byte) (s u : State) (f : FabFrame), FabFrameIn s p fr 0x19 f ∧ u = fabIn s p ∧
      Bits.rd f.pay 0 1 ≠ 1 :=
  ⟨0, (fabFr 25 65535 5 3 (le [(1, 2), (1, 32), (2, 0), (4, 0), (4, 3)])), onF (fun f =>
   { f with replay := [(3, 0, 4)] }) (pair 1), fabIn (onF (fun f => { f with replay := [(3, 0, 4)] }) (pair 1))
   0, fabParse (fabFr 25 65535 5 3 (le [(1, 2), (1, 32), (2, 0), (4, 0), (4, 3)])), by decide +kernel, rfl,
   by decide +kernel⟩

theorem wit_FabricTimeAndMulticast_14 :
    ∃ (s : State) (f : FabFrame) (l : List FabFrame), s.fab.later = f :: l :=
  ⟨onF (fun f => { f with later := [⟨0x14, 0, 5, 0, 8, 0, 3, []⟩] }) (pair 1), ⟨0x14, 0, 5, 0, 8, 0, 3, []⟩, [],
   by decide +kernel⟩

theorem wit_FabricTimeAndMulticast_15 :
    ∃ (p : Fin 5) (fr : List Byte) (s u : State) (f : FabFrame), FabFrameIn s p fr 0x1A f ∧ u = fabIn s p :=
  ⟨0, (fabFr 26 65535 5 3 (le [(2, 9), (2, 1)])), pair 1, fabIn (pair 1) 0, fabParse (fabFr 26 65535 5 3 (le [(2,
   9), (2, 1)])), by decide +kernel, rfl⟩

theorem wit_LinksAcknowledge_0 :
    ∃ (c : Byte) (w : BitVec 16) (s : State), c.toNat = 0x20 ∧ s.ingReady = true :=
  ⟨0x20, 9, ingUp, by decide +kernel, by decide +kernel⟩

theorem wit_LinksAcknowledge_1 :
    ∃ (p : Fin 4) (c : Byte) (w : BitVec 16) (s : State), 2 ≤ s.fpState p ∧ c.toNat < 5 :=
  ⟨0, 4, 9, pair 1, by decide +kernel, by decide +kernel⟩

theorem wit_LinksAcknowledge_2 :
    ∃ (p : Fin 4) (w : BitVec 16) (f : FabFrame) (l : List (Nat × FabFrame)) (k : Bool) (s u : State), 2 ≤
      s.fpState p ∧ (s.fport p).retry = (w.toNat, f) :: l ∧ u = (s.onFport p fun x =>
      { x with retry := l, resends := 0 }) :=
  ⟨0, 3, ⟨0x14, 0, 5, 0, 8, 0, 3, []⟩, [], false, lackPort, lackPort.onFport 0 fun x =>
   { x with retry := [], resends := 0 }, by decide +kernel, by decide +kernel, rfl⟩

theorem wit_LinksAcknowledge_3 :
    ∃ (w : BitVec 16) (b : List Byte) (l : List (Nat × List Byte)) (k : Bool) (s u : State), s.ing.retry =
      (w.toNat, b) :: l ∧ u = (s.onIng fun g => { g with retry := l, resends := 0 }) :=
  ⟨7, [1], [(8, [2])], false, onIg (fun g => { g with retry := [(7, [1]), (8, [2])] }), (onIg (fun g =>
   { g with retry := [(7, [1]), (8, [2])] })).onIng fun g => { g with retry := [(8, [2])], resends := 0 },
   by decide +kernel, rfl⟩

theorem wit_LinksAcknowledge_4 :
    ∃ (p : Fin 4) (s : State) (x : FabPort), x = s.fport p ∧ 2 ≤ s.fpState p ∧ s.fabOpen p = true ∧ x.retry ≠ []
      ∧ x.resends < 8 :=
  ⟨0, onF (fun f =>
   { f with ports := f.ports.set 0 { (f.ports[0]?).getD FabPort.empty with retry := [(3, ⟨0x14, 0, 5, 0, 8, 0, 3, []⟩)], resends := 7 } })
   (pair 1), (onF (fun f =>
   { f with ports := f.ports.set 0 { (f.ports[0]?).getD FabPort.empty with retry := [(3, ⟨0x14, 0, 5, 0, 8, 0, 3, []⟩)], resends := 7 } })
   (pair 1)).fport 0, by decide +kernel, by decide +kernel, by decide +kernel, by decide +kernel,
   by decide +kernel⟩

theorem wit_LinksAcknowledge_5 :
    ∃ (p : Fin 4) (s : State), 2 ≤ s.fpState p ∧ s.fabOpen p = true ∧ (s.fport p).retry ≠ [] ∧ 8 ≤ (s.fport
      p).resends :=
  ⟨0, onF (fun f =>
   { f with ports := f.ports.set 0 { (f.ports[0]?).getD FabPort.empty with retry := [(3, ⟨0x14, 0, 5, 0, 8, 0, 3, []⟩)], resends := 8 } })
   (pair 1), by decide +kernel, by decide +kernel, by decide +kernel, by decide +kernel⟩

theorem wit_LinksAcknowledge_6 :
    ∃ (p : Fin 4) (s : State), 2 ≤ s.fpState p ∧ s.asleep (8 + 2 * p.val) 2 = false :=
  ⟨0, pair 1, by decide +kernel, by decide +kernel⟩

theorem wit_LinksAcknowledge_7 :
    ∃ (p : Fin 4) (s : State), s.fpState p < 2 :=
  ⟨0, State.reset, by decide +kernel⟩

theorem wit_LinksAcknowledge_8 :
    ∃ (p : Fin 4) (s : State), 2 ≤ s.fpState p :=
  ⟨0, pair 1, by decide +kernel⟩

theorem wit_LinksAcknowledge_9 :
    ∃ (s : State), s.ingReady = true ∧ s.asleep 0 8 = false :=
  ⟨ingUp, by decide +kernel, by decide +kernel⟩

theorem wit_LinksAcknowledge_10 :
    ∃ (s : State), s.ing.retry ≠ [] ∧ s.ing.narrow = false ∧ s.portMask 0 ≠ 0 ∧ s.ing.resends < 8 :=
  ⟨onIg (fun g => { g with retry := [(7, [1])] }) ingUp, by decide +kernel, by decide +kernel, by decide +kernel,
   by decide +kernel⟩

theorem wit_LinksAcknowledge_11 :
    ∃ (s u : State), s.ingReady = true ∧ u = (s.ingLack false).grantControl.grantAll :=
  ⟨ingUp, ((ingUp).ingLack false).grantControl.grantAll, by decide +kernel, rfl⟩

theorem wit_LinksAcknowledge_12 :
    ∃ (s : State), s.ingReady = true :=
  ⟨ingUp, by decide +kernel⟩

theorem wit_LinksAcknowledge_13 :
    ∃ (s : State), s.ingReady = false :=
  ⟨State.reset, by decide +kernel⟩

theorem wit_LinksAcknowledge_14 :
    ∃ (q : Fin 11) (p : Nat) (s : State), q.val = p + 1 ∧ p < 4 ∧ s.locked = false :=
  ⟨1, 0, State.reset, by decide +kernel, by decide +kernel, by decide +kernel⟩

theorem wit_LinksAcknowledge_15 :
    ∃ (q : Fin 11) (p : Nat) (s : State), q.val = p + 5 ∧ s.portState p ≠ 0 :=
  ⟨10, 5, headUp 5 0 2, by decide +kernel, by decide +kernel⟩

theorem wit_LinksAcknowledge_16 :
    ∃ (q : Fin 11) (p : Nat) (s : State), q.val = p + 1 ∧ p < 4 ∧ s.locked = true ∧ 2 ≤ s.fpState p :=
  ⟨1, 0, pair 1, by decide +kernel, by decide +kernel, by decide +kernel, by decide +kernel⟩

theorem wit_LinksAcknowledge_17 :
    ∃ (p : Fin 4) (k : Fin 64) (s : State) (w : Flow), ((s.fport p).flows.find? (fun w => w.id == k.val) = some
      w) ∧ w.resent = false :=
  ⟨0, 63, onF (fun f =>
   { f with ports := f.ports.set 0 { (f.ports[0]?).getD FabPort.empty with flows := [⟨63, ⟨0x31, 0, 5, 0, 8, 63, 3, []⟩, false⟩] } })
   (pair 1), ⟨63, ⟨0x31, 0, 5, 0, 8, 63, 3, []⟩, false⟩, by decide +kernel, by decide +kernel⟩

theorem wit_LinksAcknowledge_18 :
    ∃ (p : Fin 4) (k : Fin 64) (s : State) (w : Flow), ((s.fport p).flows.find? (fun w => w.id == k.val) = some
      w) ∧ w.resent = true :=
  ⟨0, 63, onF (fun f =>
   { f with ports := f.ports.set 0 { (f.ports[0]?).getD FabPort.empty with flows := [⟨63, ⟨0x31, 0, 5, 0, 8, 63, 3, []⟩, true⟩] } })
   (pair 1), ⟨63, ⟨0x31, 0, 5, 0, 8, 63, 3, []⟩, true⟩, by decide +kernel, by decide +kernel⟩

theorem wit_IngestFramesTaken_0 :
    ∃ (s u v : State) (fr : List Byte) (c n : Nat) (d : Desc), IngFrameIn s fr 1 ∧ u = ingIn s fr (16 + c) ∧ c =
      Bits.rd fr 1 1 ∧ n = Bits.rd fr 2 2 ∧ u.dataOk fr = true ∧ (u.chan c).desc = some d ∧ Bits.bit d.flags 0 =
      true ∧ v = (u.setPair (Reg.ING_CH_SOFS_LO c) (Bits.rd fr 8 8 + n)) :=
  ⟨dataAt 1, ingIn (dataAt 1) (ingFr 1 0 0 0 0 (le [(64, 5)])) 16, (ingIn (dataAt 1) (ingFr 1 0 0 0 0 (le [(64,
   5)])) 16).setPair (Reg.ING_CH_SOFS_LO 0) 64, ingFr 1 0 0 0 0 (le [(64, 5)]), 0, 64, ⟨0, 4096, 64, 1, 0, 0⟩,
   by decide +kernel, rfl, by decide +kernel, by decide +kernel, by decide +kernel, by decide +kernel,
   by decide +kernel, rfl⟩

theorem wit_IngestFramesTaken_1 :
    ∃ (s u v : State) (fr bs : List Byte) (c n : Nat) (d : Desc) (us : List (Nat × Word)), IngFrameIn s fr 1 ∧ u
      = ingIn s fr (16 + c) ∧ c = Bits.rd fr 1 1 ∧ n = Bits.rd fr 2 2 ∧ bs = (fr.drop 16).take n ∧ u.dataOk fr =
      true ∧ (u.chan c).desc = some d ∧ Bits.bit d.flags 0 = false ∧ us = (if (u.chan c).taken = 0 then
      u.snoopersOf pointIngest c else (u.chan c).snoopers) ∧ v = ((u.dramWrite 0 (d.dst + (Bits.rd fr 8 8 -
      d.src)) bs).setPair (Reg.ING_CH_SOFS_LO c) (Bits.rd fr 8 8 + n)) :=
  ⟨dataAt 0, ingIn (dataAt 0) (ingFr 1 0 0 0 0 (le [(64, 5)])) 16, ((ingIn (dataAt 0) (ingFr 1 0 0 0 0 (le [(64,
   5)])) 16).dramWrite 0 4096 (le [(64, 5)])).setPair (Reg.ING_CH_SOFS_LO 0) 64, ingFr 1 0 0 0 0 (le [(64, 5)]),
   le [(64, 5)], 0, 64, ⟨0, 4096, 64, 0, 0, 0⟩, [], by decide +kernel, rfl, by decide +kernel,
   by decide +kernel, by decide +kernel, by decide +kernel, by decide +kernel, by decide +kernel,
   by decide +kernel, rfl⟩

theorem wit_IngestFramesTaken_2 :
    ∃ (s u : State) (fr : List Byte) (c : Nat), IngFrameIn s fr 1 ∧ c = Bits.rd fr 1 1 ∧ u = ingIn s fr (16 + c)
      ∧ u.dataOk fr = false ∧ u.replayRoom = false :=
  ⟨onF (fun f => { f with replay := [(0, 0, 2 ^ 40)] }) (ingUp (descArea.setFld Reg.FAB_CFG Fld.FAB_CFG_ING_FWD
   1)), ingIn (onF (fun f => { f with replay := [(0, 0, 2 ^ 40)] }) (ingUp (descArea.setFld Reg.FAB_CFG
   Fld.FAB_CFG_ING_FWD 1))) (ingFr 1 0 0 0 0 (le [(64, 5)])) 16, (ingFr 1 0 0 0 0 (le [(64, 5)])), 0,
   by decide +kernel, by decide +kernel, rfl, by decide +kernel, by decide +kernel⟩

theorem wit_IngestFramesTaken_3 :
    ∃ (s u : State) (fr : List Byte) (c k : Nat), IngFrameIn s fr 1 ∧ c = Bits.rd fr 1 1 ∧ u = ingIn s fr (16 +
      c) ∧ u.dataOk fr = false ∧ u.replayRoom = true ∧ k = divUp (20 + Bits.rd fr 2 2) 64 :=
  ⟨ingUp (descArea), ingIn (ingUp (descArea)) (ingFr 1 0 0 0 0 (le [(64, 5)])) 16, (ingFr 1 0 0 0 0 (le [(64,
   5)])), 0, 2, by decide +kernel, by decide +kernel, rfl, by decide +kernel, by decide +kernel,
   by decide +kernel⟩

theorem wit_IngestFramesTaken_4 :
    ∃ (s u : State) (fr : List Byte), IngFrameIn s fr 2 ∧ u = ingIn s fr 0 ∧ u.inDesc (Bits.rd fr 8 8) (Bits.rd
      fr 2 2) = false :=
  ⟨ingUp, ingIn ingUp (ingFr 2 0 0 8 12 (le [(8, 5)])) 0, (ingFr 2 0 0 8 12 (le [(8, 5)])), by decide +kernel,
   rfl, by decide +kernel⟩

theorem wit_IngestFramesTaken_5 :
    ∃ (s : State) (fr : List Byte), s.ingReady = true ∧ (ingGood fr = false ∨ Bits.rd fr 4 2 ≠ s.ing.rxNext) :=
  ⟨ingUp, ingFr 2 0 7 8 0 (le [(8, 5)]), by decide +kernel, by decide +kernel⟩

theorem wit_IngestFramesTaken_6 :
    ∃ (s u : State) (fr : List Byte), IngFrameIn s fr 2 ∧ u = ingIn s fr 0 ∧ u.inDesc (Bits.rd fr 8 8) (Bits.rd
      fr 2 2) = true :=
  ⟨ingUp (descArea), ingIn (ingUp (descArea)) (ingFr 2 0 0 8 0 (le [(8, 5)])) 0, (ingFr 2 0 0 8 0 (le [(8, 5)])),
   by decide +kernel, rfl, by decide +kernel⟩

theorem wit_IngestFramesTaken_7 :
    ∃ (s u : State) (fr : List Byte), IngFrameIn s fr 3 ∧ u = ingIn s fr 0 :=
  ⟨ingUp (descArea), ingIn (ingUp (descArea)) (ingFr 3 0 0 0 0 (le [])) 0, (ingFr 3 0 0 0 0 (le [])),
   by decide +kernel, rfl⟩

theorem wit_IngestFramesTaken_8 :
    ∃ (s u : State) (fr : List Byte), IngFrameIn s fr 4 ∧ u = ingIn s fr 0 :=
  ⟨ingUp (descArea), ingIn (ingUp (descArea)) (ingFr 4 0 0 0 0 (le [(4, 1)])) 0, (ingFr 4 0 0 0 0 (le [(4, 1)])),
   by decide +kernel, rfl⟩

theorem wit_IngestFramesTaken_9 :
    ∃ (s u : State) (fr : List Byte), IngFrameIn s fr 5 ∧ u = ingIn s fr 0 ∧ u.ingMember = true :=
  ⟨onF (fun f => { f with rx := [⟨5, 0, 4, 3, none⟩] }) (ingUp (descArea)), ingIn (onF (fun f =>
   { f with rx := [⟨5, 0, 4, 3, none⟩] }) (ingUp (descArea))) (ingFr 5 0 0 0 0 (le [])) 0, (ingFr 5 0 0 0 0 (le
   [])), by decide +kernel, rfl, by decide +kernel⟩

theorem wit_IngestFramesTaken_10 :
    ∃ (s u : State) (fr : List Byte), IngFrameIn s fr 5 ∧ u = ingIn s fr 0 ∧ u.ingMember = false :=
  ⟨ingUp (descArea), ingIn (ingUp (descArea)) (ingFr 5 0 0 0 0 (le [])) 0, (ingFr 5 0 0 0 0 (le [])),
   by decide +kernel, rfl, by decide +kernel⟩

theorem wit_IngestFramesTaken_11 :
    ∃ (p : Fin 5) (fr : List Byte) (s u : State) (f : FabFrame) (r : McRx), FabFrameIn s p fr 0x20 f ∧ u = fabIn
      s p ∧ (u.fab.rx.find? (fun r => r.src == f.src) = some r) ∧ f.arg ≠ r.next ∧ seqGe f.arg r.next = false :=
  ⟨0, (fabFr 32 65535 5 3 (le [(1, 3), (1, 0), (2, 0), (2, 0), (2, 0), (8, 0), (4, 0)])), onF (fun f =>
   { f with rx := [⟨5, 0, 4, 3, none⟩] }) (pair 77), fabIn (onF (fun f => { f with rx := [⟨5, 0, 4, 3, none⟩] })
   (pair 77)) 0, fabParse (fabFr 32 65535 5 3 (le [(1, 3), (1, 0), (2, 0), (2, 0), (2, 0), (8, 0), (4, 0)])),
   ⟨5, 0, 4, 3, none⟩, by decide +kernel, rfl, by decide +kernel, by decide +kernel, by decide +kernel⟩

theorem wit_IngestFramesTaken_12 :
    ∃ (p : Fin 5) (fr : List Byte) (s u : State) (f : FabFrame) (r : McRx), FabFrameIn s p fr 0x20 f ∧ u = fabIn
      s p ∧ (u.fab.rx.find? (fun r => r.src == f.src) = some r) ∧ f.arg ≠ r.next ∧ seqGe f.arg r.next = true ∧
      r.nakAt = none :=
  ⟨0, (fabFr 32 65535 5 6 (le [(1, 3), (1, 0), (2, 0), (2, 0), (2, 0), (8, 0), (4, 0)])), onF (fun f =>
   { f with rx := [⟨5, 0, 4, 3, none⟩] }) (pair 77), fabIn (onF (fun f => { f with rx := [⟨5, 0, 4, 3, none⟩] })
   (pair 77)) 0, fabParse (fabFr 32 65535 5 6 (le [(1, 3), (1, 0), (2, 0), (2, 0), (2, 0), (8, 0), (4, 0)])),
   ⟨5, 0, 4, 3, none⟩, by decide +kernel, rfl, by decide +kernel, by decide +kernel, by decide +kernel,
   by decide +kernel⟩

theorem wit_IngestFramesTaken_13 :
    ∃ (p : Fin 5) (fr : List Byte) (s u : State) (f : FabFrame) (v : State), FabFrameIn s p fr 0x20 f ∧ u =
      fabIn s p ∧ u.fab.rx = [] ∧ f.arg = 0 ∧ u.ingUninit f.pay = false ∧ u.ing.layoutHeld = [] ∧ u.mustHold
      f.pay = false ∧ (v = u.onFab fun b => { b with rx := [⟨f.src, 0, 1, 1, none⟩] }) :=
  ⟨0, (fabFr 32 65535 5 0 (le [(1, 3), (1, 0), (2, 0), (2, 0), (2, 0), (8, 0), (4, 0)])), pair 77, fabIn (pair 77)
   0, fabParse (fabFr 32 65535 5 0 (le [(1, 3), (1, 0), (2, 0), (2, 0), (2, 0), (8, 0), (4, 0)])), (fabIn (pair
   77) 0).onFab fun b =>
   { b with rx := [⟨(fabParse (fabFr 32 65535 5 0 (le [(1, 3), (1, 0), (2, 0), (2, 0), (2, 0), (8, 0), (4, 0)]))).src, 0, 1, 1, none⟩] },
   by decide +kernel, rfl, by decide +kernel, by decide +kernel, by decide +kernel, by decide +kernel,
   by decide +kernel, rfl⟩

theorem wit_ChannelsServe_0 :
    ∃ (p : Path) (c : Fin 8) (s : State), (s.chSt c = 1 ∨ s.chSt c = 2) :=
  ⟨.mgmt, 7, chanIn 7 2, by decide +kernel⟩

theorem wit_ChannelsServe_1 :
    ∃ (p : Path) (c : Fin 8) (s : State) (a : Nat), s.chSt c = 0 ∧ a = s.pair (Reg.ING_CH_HEAD_LO c) ∧ a % 32 =
      0 ∧ s.inDesc a 32 = true :=
  ⟨.mgmt, 7, (descArea.setRegN (Reg.ING_CH_HEAD_LO 7) 1048544), 0xFFFE0, by decide +kernel, by decide +kernel,
   by decide +kernel, by decide +kernel⟩

theorem wit_ChannelsServe_2 :
    ∃ (p : Path) (c : Fin 8) (s : State) (a : Nat), s.chSt c = 0 ∧ a = s.pair (Reg.ING_CH_HEAD_LO c) ∧ a % 32 ≠
      0 :=
  ⟨.mgmt, 7, (descArea.setRegN (Reg.ING_CH_HEAD_LO 7) 1048545), 0xFFFE1, by decide +kernel, by decide +kernel,
   by decide +kernel⟩

theorem wit_ChannelsServe_3 :
    ∃ (p : Path) (c : Fin 8) (s : State), s.chSt c ≠ 0 :=
  ⟨.mgmt, 7, chanIn 7 1, by decide +kernel⟩

theorem wit_ChannelsServe_4 :
    ∃ (p : Path) (c : Fin 8) (s : State), s.chSt c = 4 :=
  ⟨.mgmt, 7, chanIn 7 4, by decide +kernel⟩

theorem wit_ChannelsServe_5 :
    ∃ (p : Path) (c : Fin 8) (s : State), s.chSt c ≠ 4 :=
  ⟨.mgmt, 0, State.reset, by decide +kernel⟩

theorem wit_ChannelsServe_6 :
    ∃ (p : Path) (c : Fin 8) (s : State), (s.chSt c = 1 ∨ s.chSt c = 2 ∨ s.chSt c = 3 ∨ s.chSt c = 4) :=
  ⟨.mgmt, 7, chanIn 7 3, by decide +kernel⟩

theorem wit_ChannelsServe_7 :
    ∃ (p : Path) (c : Fin 8) (s : State), s.chSt c = 0 :=
  ⟨.mgmt, 0, State.reset, by decide +kernel⟩

theorem wit_ChannelsServe_8 :
    ∃ (s : State) (c n : Nat) (l : List (Nat × Nat)), s.runCh = none ∧ s.ing.order = (c, n) :: l :=
  ⟨onIg (fun g => { g with order := [(7, 5)] }) (chanIn 7 1), 7, 5, [], by decide +kernel, by decide +kernel⟩

theorem wit_ChannelsServe_9 :
    ∃ (k : Nat) (e : Ecc) (x s u : State) (c a : Nat) (bs : List Byte) (d : Desc), s = x.sramRead
      sramDescriptors k e ∧ s.runCh = some c ∧ (s.chan c).fetch = true ∧ a = s.pair (Reg.ING_CH_CUR_LO c) ∧
      s.inited (a + 31) = true ∧ a + 32 ≤ dramEnd ∧ s.fetch 0 a 32 = (false, bs, u) ∧ d = descOf bs ∧ (u.setFld
      (Reg.ING_CH_STATUS c) Fld.ING_CH_STATUS_TAG d.tag).descFault c d = 0 ∧ Bits.bit d.flags 0 = true :=
  ⟨5, .clean, fetchAt 1, fetchAt 1, ((fetchAt 1).fetch 0 0 32).2.2, 0, 0, ((fetchAt 1).fetch 0 0 32).2.1, ⟨0, 0,
   64, 1, 0, 0⟩, rfl, by decide +kernel, by decide +kernel, by decide +kernel, by decide +kernel,
   by decide +kernel, by decide +kernel, by decide +kernel, by decide +kernel, by decide +kernel⟩

theorem wit_ChannelsServe_10 :
    ∃ (k : Nat) (e : Ecc) (x s u v : State) (c a : Nat) (bs : List Byte) (d : Desc) (cause : Nat), s =
      x.sramRead sramDescriptors k e ∧ s.runCh = some c ∧ (s.chan c).fetch = true ∧ a = s.pair
      (Reg.ING_CH_CUR_LO c) ∧ s.inited (a + 31) = true ∧ a + 32 ≤ dramEnd ∧ s.fetch 0 a 32 = (false, bs, v) ∧ d
      = descOf bs ∧ u = v.setFld (Reg.ING_CH_STATUS c) Fld.ING_CH_STATUS_TAG d.tag ∧ u.descFault c d = cause ∧
      cause ≠ 0 ∧ cause ≠ 5 :=
  ⟨5, .clean, fetchAt 5, fetchAt 5, ((fetchAt 5).fetch 0 0 32).2.2.setFld (Reg.ING_CH_STATUS 0)
   Fld.ING_CH_STATUS_TAG 0, ((fetchAt 5).fetch 0 0 32).2.2, 0, 0, ((fetchAt 5).fetch 0 0 32).2.1, ⟨0, 0, 64, 5,
   0, 0⟩, 3, rfl, by decide +kernel, by decide +kernel, by decide +kernel, by decide +kernel, by decide +kernel,
   by decide +kernel, by decide +kernel, rfl, by decide +kernel, by decide +kernel, by decide +kernel⟩

theorem wit_ChannelsServe_11 :
    ∃ (s : State), s.runCh = none :=
  ⟨State.reset, by decide +kernel⟩

theorem wit_ChannelsServe_12 :
    ∃ (s : State) (c : Nat) (d : Desc), s.runCh = some c ∧ (s.chan c).desc = some d ∧ d.len ≤ (s.chan c).taken ∧
      (s.chan c).snoopers = [] ∧ Bits.bit d.flags 1 = false ∧ d.next % 2 = 0 :=
  ⟨chanIn 0 2 (onIg fun g => { g with chans := g.chans.set 0 ⟨some ⟨0, 0, 64, 1, 3, 0⟩, false, 64, [], []⟩ }), 0,
   ⟨0, 0, 64, 1, 3, 0⟩, by decide +kernel, by decide +kernel, by decide +kernel, by decide +kernel,
   by decide +kernel, by decide +kernel⟩

theorem wit_ChannelsServe_13 :
    ∃ (s : State) (c : Nat) (d : Desc), s.runCh = some c ∧ (s.chan c).desc = some d ∧ d.len ≤ (s.chan c).taken ∧
      (s.chan c).snoopers = [] ∧ Bits.bit d.flags 1 = false ∧ d.next % 2 = 1 ∧ s.flag Reg.ING_CFG
      Fld.ING_CFG_PARK_EVT = false ∧ s.flag (Reg.ING_CH_STATUS c) Fld.ING_CH_STATUS_DB_PEND = false :=
  ⟨(chanIn 0 2 (onIg fun g =>
   { g with chans := g.chans.set 0 ⟨some ⟨0, 0, 64, 1, 3, 1⟩, false, 64, [], []⟩ })).setFld Reg.ING_CFG
   Fld.ING_CFG_PARK_EVT 0, 0, ⟨0, 0, 64, 1, 3, 1⟩, by decide +kernel, by decide +kernel, by decide +kernel,
   by decide +kernel, by decide +kernel, by decide +kernel, by decide +kernel, by decide +kernel⟩

theorem wit_ChannelsServe_14 :
    ∃ (a : Nat) (s : State) (c : Nat), s.runCh = some c :=
  ⟨8, chanIn 0 2, 0, by decide +kernel⟩

theorem wit_ChannelsServe_15 :
    ∃ (k : Nat) (s : State), s.flag Reg.DC_STATUS Fld.DC_STATUS_ALL_TRAINED = true ∧ s.locked = true ∧
      s.initRegions = 56 ∧ s.flag Reg.MI_STATUS Fld.MI_STATUS_SPARE_INIT = false :=
  ⟨9,
   { ((State.reset.setFld Reg.MI_STATUS Fld.MI_STATUS_INIT_REGIONS 56).setFld Reg.DC_STATUS Fld.DC_STATUS_ALL_TRAINED 1) with locked := true },
   by decide +kernel, by decide +kernel, by decide +kernel, by decide +kernel⟩

theorem wit_ChannelsServe_16 :
    ∃ (k : Nat) (s u : State), s.flag Reg.DC_STATUS Fld.DC_STATUS_ALL_TRAINED = true ∧ s.locked = true ∧
      s.initRegions = 55 ∧ u = s.setPair Reg.MI_INIT_MAP_LO (s.pair Reg.MI_INIT_MAP_LO ||| 2 ^ 55) :=
  ⟨9,
   { ((State.reset.setFld Reg.MI_STATUS Fld.MI_STATUS_INIT_REGIONS 55).setFld Reg.DC_STATUS Fld.DC_STATUS_ALL_TRAINED 1) with locked := true },
   ({ ((State.reset.setFld Reg.MI_STATUS Fld.MI_STATUS_INIT_REGIONS 55).setFld Reg.DC_STATUS Fld.DC_STATUS_ALL_TRAINED 1) with locked := true }
   : State).setPair Reg.MI_INIT_MAP_LO
   (({ ((State.reset.setFld Reg.MI_STATUS Fld.MI_STATUS_INIT_REGIONS 55).setFld Reg.DC_STATUS Fld.DC_STATUS_ALL_TRAINED 1) with locked := true }
   : State).pair Reg.MI_INIT_MAP_LO ||| 2 ^ 55), by decide +kernel, by decide +kernel, by decide +kernel, rfl⟩

theorem wit_ChannelsServe_17 :
    ∃ (k r : Nat) (s u : State), s.flag Reg.DC_STATUS Fld.DC_STATUS_ALL_TRAINED = true ∧ s.locked = true ∧ r =
      s.initRegions ∧ r < 55 ∧ u = s.setPair Reg.MI_INIT_MAP_LO (s.pair Reg.MI_INIT_MAP_LO ||| 2 ^ r) :=
  ⟨9, 54,
   { ((State.reset.setFld Reg.MI_STATUS Fld.MI_STATUS_INIT_REGIONS 54).setFld Reg.DC_STATUS Fld.DC_STATUS_ALL_TRAINED 1) with locked := true },
   ({ ((State.reset.setFld Reg.MI_STATUS Fld.MI_STATUS_INIT_REGIONS 54).setFld Reg.DC_STATUS Fld.DC_STATUS_ALL_TRAINED 1) with locked := true }
   : State).setPair Reg.MI_INIT_MAP_LO
   (({ ((State.reset.setFld Reg.MI_STATUS Fld.MI_STATUS_INIT_REGIONS 54).setFld Reg.DC_STATUS Fld.DC_STATUS_ALL_TRAINED 1) with locked := true }
   : State).pair Reg.MI_INIT_MAP_LO ||| 2 ^ 54), by decide +kernel, by decide +kernel, by decide +kernel,
   by decide +kernel, rfl⟩

theorem wit_FabricPeersServed_0 :
    ∃ (p : Fin 5) (fr : List Byte) (s u : State) (f : FabFrame), FabFrameIn s p fr 0x30 f ∧ u = fabIn s p ∧ 8 ≤
      (f.pay.drop 8).length ∧ (f.pay.drop 8).length % 8 = 0 ∧ Bits.rd f.pay 0 8 % 8 = 0 ∧ u.granted f.src
      (Bits.rd f.pay 0 8) (f.pay.drop 8).length false true = true ∧ u.inited (Bits.rd f.pay 0 8 + (f.pay.drop
      8).length - 1) = true ∧ Bits.bit f.flags 2 = false :=
  ⟨0, (fabFr 48 65535 5 3 (le [(8, 8184), (8, 77)])), (granted5 56), fabIn (granted5 56) 0, fabParse (fabFr 48
   65535 5 3 (le [(8, 8184), (8, 77)])), by decide +kernel, rfl, by decide +kernel, by decide +kernel,
   by decide +kernel, by decide +kernel, by decide +kernel, by decide +kernel⟩

theorem wit_FabricPeersServed_1 :
    ∃ (p : Fin 5) (fr : List Byte) (s u : State) (f : FabFrame), FabFrameIn s p fr 0x30 f ∧ u = fabIn s p ∧ 8 ≤
      (f.pay.drop 8).length ∧ (f.pay.drop 8).length % 8 = 0 ∧ Bits.rd f.pay 0 8 % 8 = 0 ∧ u.granted f.src
      (Bits.rd f.pay 0 8) (f.pay.drop 8).length false true = false :=
  ⟨0, (fabFr 48 65535 5 3 (le [(8, 8192), (8, 77)])), (granted5 56), fabIn (granted5 56) 0, fabParse (fabFr 48
   65535 5 3 (le [(8, 8192), (8, 77)])), by decide +kernel, rfl, by decide +kernel, by decide +kernel,
   by decide +kernel, by decide +kernel⟩

theorem wit_FabricPeersServed_2 :
    ∃ (p : Fin 5) (fr : List Byte) (s u : State) (f : FabFrame) (a : Nat) (bs : List Byte), FabFrameIn s p fr
      0x30 f ∧ u = fabIn s p ∧ a = Bits.rd f.pay 0 8 ∧ bs = f.pay.drop 8 ∧ 8 ≤ bs.length ∧ bs.length % 8 = 0 ∧ a
      % 8 = 0 ∧ u.granted f.src a bs.length false true = true ∧ u.inited (a + bs.length - 1) = false :=
  ⟨0, (fabFr 48 65535 5 3 (le [(8, 8184), (8, 77)])), granted5 0, fabIn (granted5 0) 0, fabParse (fabFr 48 65535 5
   3 (le [(8, 8184), (8, 77)])), 8184, le [(8, 77)], by decide +kernel, rfl, by decide +kernel,
   by decide +kernel, by decide +kernel, by decide +kernel, by decide +kernel, by decide +kernel,
   by decide +kernel⟩

theorem wit_FabricPeersServed_3 :
    ∃ (p : Fin 5) (fr : List Byte) (s u : State) (f : FabFrame) (a n : Nat), FabFrameIn s p fr 0x31 f ∧ u =
      fabIn s p ∧ f.pay.length = 16 ∧ a = Bits.rd f.pay 0 8 ∧ n = Bits.rd f.pay 8 4 ∧ 0 < n ∧ n % 8 = 0 ∧ n ≤
      2040 ∧ a % 8 = 0 :=
  ⟨0, (fabFr 49 65535 5 3 (le [(8, 8192), (4, 8), (4, 0)])), granted5 0, fabIn (granted5 0) 0, fabParse (fabFr 49
   65535 5 3 (le [(8, 8192), (4, 8), (4, 0)])), 8192, 8, by decide +kernel, rfl, by decide +kernel,
   by decide +kernel, by decide +kernel, by decide +kernel, by decide +kernel, by decide +kernel,
   by decide +kernel⟩

theorem wit_FabricPeersServed_4 :
    ∃ (p : Fin 5) (fr : List Byte) (s u : State) (f : FabFrame) (a n : Nat) (bs : List Byte) (v : State),
      FabFrameIn s p fr 0x31 f ∧ u = fabIn s p ∧ f.pay.length = 16 ∧ a = Bits.rd f.pay 0 8 ∧ n = Bits.rd f.pay 8
      4 ∧ 0 < n ∧ n % 8 = 0 ∧ n ≤ 2040 ∧ a % 8 = 0 ∧ u.granted f.src a n false false = true ∧ u.inited (a + n -
      1) = true ∧ u.fetch 9 a n = (false, bs, v) :=
  ⟨0, (fabFr 49 65535 5 3 (le [(8, 8184), (4, 8), (4, 0)])), (granted5 56), fabIn (granted5 56) 0, fabParse (fabFr
   49 65535 5 3 (le [(8, 8184), (4, 8), (4, 0)])), 8184, 8, ((fabIn (granted5 56) 0).fetch 9 8184 8).2.1,
   ((fabIn (granted5 56) 0).fetch 9 8184 8).2.2, by decide +kernel, rfl, by decide +kernel, by decide +kernel,
   by decide +kernel, by decide +kernel, by decide +kernel, by decide +kernel, by decide +kernel,
   by decide +kernel, by decide +kernel, by decide +kernel⟩

theorem wit_FabricPeersServed_5 :
    ∃ (p : Fin 5) (fr : List Byte) (s u : State) (f : FabFrame), FabFrameIn s p fr 0x31 f ∧ u = fabIn s p ∧
      f.pay.length ≠ 16 :=
  ⟨0, (fabFr 49 65535 5 3 (le [(8, 0)])), (granted5 56), fabIn (granted5 56) 0, fabParse (fabFr 49 65535 5 3 (le
   [(8, 0)])), by decide +kernel, rfl, by decide +kernel⟩

theorem wit_FabricPeersServed_6 :
    ∃ (p : Fin 5) (fr : List Byte) (s u : State) (f : FabFrame) (w : Flow), FabFrameIn s p fr 0x33 f ∧ u = fabIn
      s p ∧ ((u.fab.ports.flatMap (·.flows)).find? (fun w => w.id == f.flow && w.frame.arg == f.arg &&
      w.frame.dst == f.src) = some w) ∧ Bits.rd f.pay 0 1 ≠ 1 :=
  ⟨0, (fabFr 51 65535 5 3 (le [(1, 0), (3, 0)])), onF (fun f =>
   { f with ports := f.ports.set 0 { (f.ports[0]?).getD FabPort.empty with flows := [⟨0, ⟨0x30, 0, 5, 0, 8, 0, 3, []⟩, false⟩] } })
   (pair 1), fabIn (onF (fun f =>
   { f with ports := f.ports.set 0 { (f.ports[0]?).getD FabPort.empty with flows := [⟨0, ⟨0x30, 0, 5, 0, 8, 0, 3, []⟩, false⟩] } })
   (pair 1)) 0, fabParse (fabFr 51 65535 5 3 (le [(1, 0), (3, 0)])), ⟨0, ⟨0x30, 0, 5, 0, 8, 0, 3, []⟩, false⟩,
   by decide +kernel, rfl, by decide +kernel, by decide +kernel⟩

theorem wit_FabricPeersServed_7 :
    ∃ (p : Fin 5) (fr : List Byte) (s u : State) (f : FabFrame) (w : Flow), FabFrameIn s p fr 0x32 f ∧ u = fabIn
      s p ∧ ((u.fab.ports.flatMap (·.flows)).find? (fun w => w.id == f.flow && w.frame.arg == f.arg &&
      w.frame.dst == f.src) = some w) ∧ Bits.rd f.pay 0 1 = 1 :=
  ⟨0, (fabFr 50 65535 5 3 (le [(1, 1), (3, 0)])), onF (fun f =>
   { f with ports := f.ports.set 0 { (f.ports[0]?).getD FabPort.empty with flows := [⟨0, ⟨0x31, 0, 5, 0, 8, 0, 3, []⟩, false⟩] } })
   (pair 1), fabIn (onF (fun f =>
   { f with ports := f.ports.set 0 { (f.ports[0]?).getD FabPort.empty with flows := [⟨0, ⟨0x31, 0, 5, 0, 8, 0, 3, []⟩, false⟩] } })
   (pair 1)) 0, fabParse (fabFr 50 65535 5 3 (le [(1, 1), (3, 0)])), ⟨0, ⟨0x31, 0, 5, 0, 8, 0, 3, []⟩, false⟩,
   by decide +kernel, rfl, by decide +kernel, by decide +kernel⟩

theorem wit_FabricPeersServed_8 :
    ∃ (p : Fin 5) (fr : List Byte) (s u : State) (f : FabFrame), FabFrameIn s p fr 0x32 f ∧ u = fabIn s p ∧
      ((u.fab.ports.flatMap (·.flows)).find? (fun w => w.id == f.flow && w.frame.arg == f.arg && w.frame.dst ==
      f.src) = none) :=
  ⟨0, (fabFr 50 65535 5 3 (le [(1, 0), (3, 0)])), pair 1, fabIn (pair 1) 0, fabParse (fabFr 50 65535 5 3 (le [(1,
   0), (3, 0)])), by decide +kernel, rfl, by decide +kernel⟩

end Sys2Proof.Tests
end

