-- ==== Sys2Proof/Tests/Witness6.lean ====
section
/-! SUPPORT. Witnesses: for each statement with hypotheses, operands and a state that meet them together, one theorem
for each clause. -/

set_option linter.all false
set_option Elab.async false

open Sys2Proof Sys2Proof.Bits Sys2Proof.Machine Sys2Proof.Safety Sys2Proof.Tests Sys2Proof.Laws

namespace Sys2Proof.Tests

theorem wit_ManagementServed_0 :
    ∃ (p : Fin 5) (fr : List Byte) (s u : State) (f : FabFrame) (b : List Byte) (v : State), FabFrameIn s p fr
      0x40 f ∧ u = fabIn s p ∧ (u.mgt.tunnel.find? (fun x => x.1 == f.src && x.2.1 == f.arg) = none) ∧ u.flag
      Reg.MGT_CFG Fld.MGT_CFG_TUN_EN = true ∧ u.mgtServe (f.src + 1) (.tunnel f.src) f.pay = (some b, v) :=
  ⟨0, (fabFr 0x40 65535 5 3 (mgtReq 1)), ((booting (fun b => { b with phase := .run }) (pair 1)).setFld
   Reg.MGT_CFG Fld.MGT_CFG_TUN_EN 1), (fabIn ((booting (fun b => { b with phase := .run }) (pair 1)).setFld
   Reg.MGT_CFG Fld.MGT_CFG_TUN_EN 1) 0), fabParse (fabFr 0x40 65535 5 3 (mgtReq 1)), the ((fabIn ((booting (fun
   b => { b with phase := .run }) (pair 1)).setFld Reg.MGT_CFG Fld.MGT_CFG_TUN_EN 1) 0).mgtServe 6 (.tunnel 5)
   (mgtReq 1)).1, ((fabIn ((booting (fun b => { b with phase := .run }) (pair 1)).setFld Reg.MGT_CFG
   Fld.MGT_CFG_TUN_EN 1) 0).mgtServe 6 (.tunnel 5) (mgtReq 1)).2, by decide +kernel, rfl, by decide +kernel,
   by decide +kernel, by decide +kernel⟩

theorem wit_ManagementServed_1 :
    ∃ (p : Fin 5) (fr : List Byte) (s u : State) (f : FabFrame), FabFrameIn s p fr 0x40 f ∧ u = fabIn s p ∧
      (u.mgt.tunnel.find? (fun x => x.1 == f.src && x.2.1 == f.arg) = none) ∧ u.flag Reg.MGT_CFG
      Fld.MGT_CFG_TUN_EN = false :=
  ⟨0, (fabFr 0x40 65535 5 3 (mgtReq 1)), (pair 1).setFld Reg.MGT_CFG Fld.MGT_CFG_TUN_EN 0, fabIn ((pair 1).setFld
   Reg.MGT_CFG Fld.MGT_CFG_TUN_EN 0) 0, fabParse (fabFr 0x40 65535 5 3 (mgtReq 1)), by decide +kernel, rfl,
   by decide +kernel, by decide +kernel⟩

theorem wit_ManagementServed_2 :
    ∃ (p : Fin 5) (fr : List Byte) (s u : State) (f : FabFrame) (x : Nat × Nat × List Byte), FabFrameIn s p fr
      0x40 f ∧ u = fabIn s p ∧ (u.mgt.tunnel.find? (fun x => x.1 == f.src && x.2.1 == f.arg) = some x) :=
  ⟨0, (fabFr 64 65535 5 3 (le [(4, 0)])), { pair 1 with mgt := { State.reset.mgt with tunnel := [(5, 3, [1])] } },
   fabIn ({ pair 1 with mgt := { State.reset.mgt with tunnel := [(5, 3, [1])] } }) 0, fabParse (fabFr 64 65535 5
   3 (le [(4, 0)])), (5, 3, [1]), by decide +kernel, rfl, by decide +kernel⟩

theorem wit_ManagementServed_3 :
    ∃ (p : Fin 5) (fr : List Byte) (s u : State) (f : FabFrame), FabFrameIn s p fr 0x41 f ∧ u = fabIn s p ∧
      ((u.fab.ports.flatMap (·.flows)).any (fun w => w.id == f.flow && w.frame.arg == f.arg && w.frame.dst ==
      f.src) = true) :=
  ⟨0, (fabFr 65 65535 5 3 (le [(4, 0)])), onF (fun f =>
   { f with ports := f.ports.set 0 { (f.ports[0]?).getD FabPort.empty with flows := [⟨0, ⟨0x40, 0, 5, 0, 8, 0, 3, []⟩, false⟩] } })
   (pair 1), fabIn (onF (fun f =>
   { f with ports := f.ports.set 0 { (f.ports[0]?).getD FabPort.empty with flows := [⟨0, ⟨0x40, 0, 5, 0, 8, 0, 3, []⟩, false⟩] } })
   (pair 1)) 0, fabParse (fabFr 65 65535 5 3 (le [(4, 0)])), by decide +kernel, rfl, by decide +kernel⟩

theorem wit_ManagementServed_4 :
    ∃ (fr : List Byte) (o : Option (List Byte)) (s u : State), s.mgtReady = true ∧ s.ethTaken fr = true ∧
      ethType fr ≠ 0x88F7 ∧ s.mgtInHand.length < 9 ∧ s.mgtJoin.mgtServe 0 .mgmt (fr.drop 14) = (o, u) :=
  ⟨ethFr 0x88B5 (mgtReq 1), (mgtUp.mgtJoin.mgtServe 0 .mgmt (mgtReq 1)).1, mgtUp, (mgtUp.mgtJoin.mgtServe 0 .mgmt
   (mgtReq 1)).2, by decide +kernel, by decide +kernel, by decide +kernel, by decide +kernel, rfl⟩

theorem wit_ManagementServed_5 :
    ∃ (fr : List Byte) (s : State), s.mgtReady = true ∧ s.ethTaken fr = true ∧ ethType fr ≠ 0x88F7 ∧ 9 ≤
      s.mgtInHand.length :=
  ⟨ethFr 0x88B5 [], { mgtUp with mgt := { mgtUp.mgt with busy := List.replicate 9 1 } }, by decide +kernel,
   by decide +kernel, by decide +kernel, by decide +kernel⟩

theorem wit_ManagementServed_6 :
    ∃ (fr : List Byte) (s : State), s.mgtReady = true ∧ s.ethTaken fr = false :=
  ⟨[], mgtUp, by decide +kernel, by decide +kernel⟩

theorem wit_ManagementServed_7 :
    ∃ (fr : List Byte) (s : State), (s.mgtReady = false ∨ s.ethTaken fr = true ∧ ethType fr = 0x88F7) :=
  ⟨[], State.reset, by decide +kernel⟩

theorem wit_ManagementServed_8 :
    ∃ (a : Word) (n : Nat) (s u : State) (st : OStatus) (b : List Byte), s.spiServes = true ∧ s.readWords .spi
      true a.toNat n = (st, b, u) :=
  ⟨0, 1, (booting (fun b => { b with phase := .run }) State.reset), ((booting (fun b => { b with phase := .run })
   State.reset).readWords .spi true 0 1).2.2, ((booting (fun b => { b with phase := .run })
   State.reset).readWords .spi true 0 1).1, ((booting (fun b => { b with phase := .run }) State.reset).readWords
   .spi true 0 1).2.1, by decide +kernel, rfl⟩

theorem wit_ManagementServed_9 :
    ∃ (a : Word) (b : List Byte) (s u : State) (st : OStatus), s.spiServes = true ∧ s.writeWords .spi none b
      a.toNat (b.length / 4) = (st, u) :=
  ⟨0x14, [0, 0, 0, 1], (booting (fun b => { b with phase := .run }) State.reset), ((booting (fun b =>
   { b with phase := .run }) State.reset).writeWords .spi none [0, 0, 0, 1] 0x14 1).2, ((booting (fun b =>
   { b with phase := .run }) State.reset).writeWords .spi none [0, 0, 0, 1] 0x14 1).1, by decide +kernel,
   by decide +kernel⟩

theorem wit_ManagementServed_10 :
    ∃ (s : State), s.spiServes = false :=
  ⟨State.reset, by decide +kernel⟩

theorem wit_ManagementServed_11 :
    ∃ (s : State), s.spiServes = true :=
  ⟨(booting (fun b => { b with phase := .run }) State.reset), by decide +kernel⟩

theorem wit_LanesTrain_0 :
    ∃ (n : Fin 41) (s : State), s.laneRaw n = 1 :=
  ⟨40, laneAt 40 1, by decide +kernel⟩

theorem wit_LanesTrain_1 :
    ∃ (n : Fin 41) (s : State), s.laneRaw n ≠ 1 :=
  ⟨0, State.reset, by decide +kernel⟩

theorem wit_LanesTrain_2 :
    ∃ (n : Fin 41) (s : State), s.laneRaw n = 2 :=
  ⟨40, laneAt 40 2, by decide +kernel⟩

theorem wit_LanesTrain_3 :
    ∃ (n : Fin 40) (ts : List Byte) (k : Nat) (s u : State) (ack : Bool), s.laneRaw n = 2 ∧ ts.length = 7 ∧
      (ts.foldl (fun (a : Nat) (b : Byte) => a ^^^ b.toNat) 0 = 255) ∧ Bits.rd ts 1 1 = laneIn n ∧ Bits.rd ts 2
      1 = laneKind n ∧ Bits.rd ts 0 1 = 0xB1 ∧ ack = Bits.bit (Bits.rd ts 3 1) 0 ∧ u = (s.onLane n fun x =>
      { x with ts1 := min (x.ts1 + 1) 64, gotAck := x.gotAck || ack, ts2 := 0 }) :=
  ⟨39, tset 0xB1 3 2, 7, onLane 39 (fun l => { l with passed := true }) (laneAt 39 2), (onLane 39 (fun l =>
   { l with passed := true }) (laneAt 39 2)).onLane 39 (fun x => { x with ts1 := 1 }), false, by decide +kernel,
   by decide +kernel, by decide +kernel, by decide +kernel, by decide +kernel, by decide +kernel,
   by decide +kernel, by decide +kernel⟩

theorem wit_LanesTrain_4 :
    ∃ (n : Fin 40) (ts : List Byte) (k : Nat) (s : State), s.laneRaw n = 2 ∧ ts.length = 7 ∧ (ts.foldl (fun (a :
      Nat) (b : Byte) => a ^^^ b.toNat) 0 = 255) ∧ (Bits.rd ts 0 1 = 0xB1 ∨ Bits.rd ts 0 1 = 0xB2) ∧ (Bits.rd ts
      1 1 ≠ laneIn n ∨ Bits.rd ts 2 1 ≠ laneKind n) :=
  ⟨39, tset 0xB1 2 2, 7, laneAt 39 2, by decide +kernel, by decide +kernel, by decide +kernel, by decide +kernel,
   by decide +kernel⟩

theorem wit_LanesTrain_5 :
    ∃ (n : Fin 40) (ts : List Byte) (k : Nat) (s : State), s.laneRaw n = 2 ∧ ts.length = 7 ∧ (ts.foldl (fun (a :
      Nat) (b : Byte) => a ^^^ b.toNat) 0 = 255) ∧ Bits.rd ts 1 1 = laneIn n ∧ Bits.rd ts 2 1 = laneKind n ∧
      Bits.rd ts 0 1 = 0xB2 ∧ (s.lane n).passed = true ∧ (s.lane n).gotAck = true ∧ (s.lane n).ts2 < 15 :=
  ⟨39, tset 0xB2 3 2, 17, onLane 39 (fun l => { l with passed := true, gotAck := true, ts2 := 14 }) (laneAt 39 2),
   by decide +kernel, by decide +kernel, by decide +kernel, by decide +kernel, by decide +kernel,
   by decide +kernel, by decide +kernel, by decide +kernel, by decide +kernel⟩

theorem wit_LanesTrain_6 :
    ∃ (n : Fin 40) (ts : List Byte) (k : Nat) (s : State), s.laneRaw n = 2 ∧ ts.length = 7 ∧ (ts.foldl (fun (a :
      Nat) (b : Byte) => a ^^^ b.toNat) 0 = 255) ∧ Bits.rd ts 1 1 = laneIn n ∧ Bits.rd ts 2 1 = laneKind n ∧
      Bits.rd ts 0 1 = 0xB2 ∧ (s.lane n).passed = true ∧ (s.lane n).gotAck = true ∧ 15 ≤ (s.lane n).ts2 ∧ k ≤ 16
      :=
  ⟨39, tset 0xB2 3 2, 16, onLane 39 (fun l => { l with passed := true, gotAck := true, ts2 := 15 }) (laneAt 39 2),
   by decide +kernel, by decide +kernel, by decide +kernel, by decide +kernel, by decide +kernel,
   by decide +kernel, by decide +kernel, by decide +kernel, by decide +kernel, by decide +kernel⟩

theorem wit_LanesTrain_7 :
    ∃ (n : Fin 40) (ts : List Byte) (k : Nat) (s : State), s.laneRaw n = 2 ∧ ts.length = 7 ∧ (ts.foldl (fun (a :
      Nat) (b : Byte) => a ^^^ b.toNat) 0 = 255) ∧ Bits.rd ts 1 1 = laneIn n ∧ Bits.rd ts 2 1 = laneKind n ∧
      Bits.rd ts 0 1 = 0xB2 ∧ (s.lane n).passed = true ∧ (s.lane n).gotAck = true ∧ 15 ≤ (s.lane n).ts2 ∧ 16 < k
      :=
  ⟨39, tset 0xB2 3 2, 17, onLane 39 (fun l => { l with passed := true, gotAck := true, ts2 := 15 }) (laneAt 39 2),
   by decide +kernel, by decide +kernel, by decide +kernel, by decide +kernel, by decide +kernel,
   by decide +kernel, by decide +kernel, by decide +kernel, by decide +kernel, by decide +kernel⟩

theorem wit_LanesTrain_8 :
    ∃ (n : Fin 40) (ts : List Byte) (k : Nat) (s : State), s.laneRaw n = 2 :=
  ⟨39, [], 17, laneAt 39 2, by decide +kernel⟩

theorem wit_LanesTrain_9 :
    ∃ (n : Fin 41) (s : State), s.laneRaw n = 2 ∧ (s.lane n).ts1 < 64 ∧ (s.lane n).passed = false :=
  ⟨40, laneAt 40 2, by decide +kernel, by decide +kernel, by decide +kernel⟩

theorem wit_LanesTrain_10 :
    ∃ (n : Fin 41) (s u : State), s.laneRaw n = 2 ∧ (64 ≤ (s.lane n).ts1 ∨ n.val = 40) ∧ u = ((s.setFld
      (Reg.LN_LANE_EQ n) Fld.LN_LANE_EQ_STEP (s.lane n).step).onLane n fun x => { x with passed := true }) :=
  ⟨39, onLane 39 (fun l => { l with ts1 := 64 }) (laneAt 39 2), ((onLane 39 (fun l => { l with ts1 := 64 })
   (laneAt 39 2)).setFld (Reg.LN_LANE_EQ 39) Fld.LN_LANE_EQ_STEP ((onLane 39 (fun l => { l with ts1 := 64 })
   (laneAt 39 2)).lane 39).step).onLane 39 fun x => { x with passed := true }, by decide +kernel,
   by decide +kernel, rfl⟩

theorem wit_LanesServeAndLeave_0 :
    ∃ (n : Fin 41) (s : State), s.laneSt n = 4 :=
  ⟨0, laneAt 0 3 (ingUp), by decide +kernel⟩

theorem wit_LanesServeAndLeave_1 :
    ∃ (n : Fin 41) (s : State) (x : Lane), s.laneSt n = 2 ∧ x = s.lane n :=
  ⟨40, laneAt 40 2, (laneAt 40 2).lane 40, by decide +kernel, by decide +kernel⟩

theorem wit_LanesServeAndLeave_2 :
    ∃ (n : Fin 41) (a : Byte) (s : State) (l : List Nat), l = ((lanesOf (lanePort n)).filter fun i => (i ==
      n.val || Bits.bit a.toNat (laneIn i)) && s.laneSt i == 4) :=
  ⟨0, 2, laneAt 0 3 (laneAt 1 3 ingUp), [0, 1], by decide +kernel⟩

theorem wit_LanesServeAndLeave_3 :
    ∃ (n : Fin 41) (s : State), s.laneSt n = 4 :=
  ⟨0, laneAt 0 3 (ingUp), by decide +kernel⟩

theorem wit_LanesServeAndLeave_4 :
    ∃ (n : Fin 41) (s : State), s.laneRaw n = 7 ∧ s.flag (Reg.LN_LANE_STATUS n) Fld.LN_LANE_STATUS_HELD = false
      :=
  ⟨40, laneAt 40 7, by decide +kernel, by decide +kernel⟩

theorem wit_LanesServeAndLeave_5 :
    ∃ (n : Fin 41) (s : State), s.laneSt n = 3 ∧ (lanePort n < 5 ∨ lanePort n = 11) :=
  ⟨15, laneAt 15 3, by decide +kernel, by decide +kernel⟩

theorem wit_LanesServeAndLeave_6 :
    ∃ (n : Fin 41) (p : Nat) (s : State), s.laneSt n = 3 ∧ lanePort n = p + 5 ∧ p < 6 :=
  ⟨16, 0, laneAt 16 3, by decide +kernel, by decide +kernel, by decide +kernel⟩

theorem wit_LanesServeAndLeave_7 :
    ∃ (n : Fin 41) (s : State) (m : Nat), lanePort n < 5 ∧ s.laneSt n = 3 ∧ (s.lane n).proven = true ∧ s.laneUse
      (lanePort n) = true ∧ s.narrowing (lanePort n) = false ∧ m = s.portMask (lanePort n) ||| 2 ^ laneIn n :=
  ⟨8, onLane 8 (fun l => { l with proven := true }) (laneAt 8 3 (onF (fun f =>
   { f with ports := f.ports.set 0 { (f.ports[0]?).getD FabPort.empty with mask := 2 } }) (fabUp))), 3,
   by decide +kernel, by decide +kernel, by decide +kernel, by decide +kernel, by decide +kernel,
   by decide +kernel⟩

theorem wit_LanesServeAndLeave_8 :
    ∃ (n : Fin 41) (s : State) (p : Nat), lanePort n = p + 5 ∧ p < 6 ∧ s.laneSt n = 3 ∧ (s.lane n).proven = true
      :=
  ⟨16, onLane 16 (fun l => { l with proven := true }) (laneAt 16 3), 0, by decide +kernel, by decide +kernel,
   by decide +kernel, by decide +kernel⟩

theorem wit_LanesServeAndLeave_9 :
    ∃ (p : Fin 4) (m : Byte) (s : State) (old : Nat), s.laneUse (p + 1) = true ∧ old = s.portMask (p + 1) ∧
      m.toNat &&& old = m.toNat ∧ m.toNat ≠ 0 ∧ s.narrowing (p + 1) = true :=
  ⟨0, 1, onF (fun f =>
   { f with ports := f.ports.set 0 { (f.ports[0]?).getD FabPort.empty with mask := 3, narrow := true } }) (pair
   1), 3, by decide +kernel, by decide +kernel, by decide +kernel, by decide +kernel, by decide +kernel⟩

theorem wit_LanesServeAndLeave_10 :
    ∃ (p : Fin 4) (m : Byte) (s : State) (old : Nat), s.laneUse (p + 1) = true ∧ old = s.portMask (p + 1) ∧
      m.toNat &&& old = m.toNat ∧ m.toNat ≠ 0 ∧ m.toNat ≠ old ∧ maskCount m.toNat = 1 ∧ s.narrowing (p + 1) =
      false :=
  ⟨0, 1, onF (fun f => { f with ports := f.ports.set 0 { (f.ports[0]?).getD FabPort.empty with mask := 3 } })
   (pair 1), 3, by decide +kernel, by decide +kernel, by decide +kernel, by decide +kernel, by decide +kernel,
   by decide +kernel, by decide +kernel⟩

theorem wit_LanesServeAndLeave_11 :
    ∃ (a : Path) (n : Fin 41) (s : State), s.laneRaw n = 7 :=
  ⟨.mgmt, 40, laneAt 40 7, by decide +kernel⟩

theorem wit_LanesServeAndLeave_12 :
    ∃ (a : Path) (n : Fin 41) (s : State), s.laneSt n = 4 ∧ s.laneNeeded n = false ∧ s.laneRaw n ≠ 7 :=
  ⟨.mgmt, 0, laneAt 0 3 ingUp, by decide +kernel, by decide +kernel, by decide +kernel⟩

theorem wit_LanesServeAndLeave_13 :
    ∃ (a : Path) (n : Fin 41) (s : State), s.laneSt n = 4 ∧ s.laneNeeded n = true :=
  ⟨.mgmt, 40, mgtLane, by decide +kernel, by decide +kernel⟩

theorem wit_LanesServeAndLeave_14 :
    ∃ (a : Path) (n : Fin 41) (s : State), s.laneRaw n ≠ 8 ∧ s.laneNeeded n = false :=
  ⟨.mgmt, 0, State.reset, by decide +kernel, by decide +kernel⟩

theorem wit_LanesSleepAndWake_0 :
    ∃ (a : Path) (n : Fin 41) (s : State), lanePort n = 11 :=
  ⟨.mgmt, 40, State.reset, by decide +kernel⟩

theorem wit_LanesSleepAndWake_1 :
    ∃ (a : Path) (n : Fin 41) (s : State) (p : Nat), lanePort n = p + 5 ∧ p < 6 ∧ (s.gy.swaths.any fun w =>
      w.ports.contains p) = true :=
  ⟨.mgmt, 16, oneSwath .running, 0, by decide +kernel, by decide +kernel, by decide +kernel⟩

theorem wit_LanesSleepAndWake_2 :
    ∃ (a : Path) (n : Fin 41) (s : State) (q : Nat), q = lanePort n ∧ q < 11 ∧ (q < 5 ∨ s.gy.swaths = []) :=
  ⟨.mgmt, 16, wideHead, 5, by decide +kernel, by decide +kernel, by decide +kernel⟩

theorem wit_LanesSleepAndWake_4 :
    ∃ (q : Fin 11) (s : State), s.awake q = true ∧ s.pwrReq q = none :=
  ⟨5, wideHead, by decide +kernel, by decide +kernel⟩

theorem wit_LanesSleepAndWake_5 :
    ∃ (q : Fin 11) (s : State), s.awake q = true ∧ s.pwrReq q = none :=
  ⟨5, wideHead, by decide +kernel, by decide +kernel⟩

theorem wit_LanesSleepAndWake_6 :
    ∃ (q : Fin 11) (s : State) (r : PwrReq), s.awake q = true ∧ s.pwrReq q = some r ∧ r.sent = true :=
  ⟨5, { wideHead with ln := { wideHead.ln with pwr := [⟨5, 2, true, false, false⟩] } }, ⟨5, 2, true, false,
   false⟩, by decide +kernel, by decide +kernel, by decide +kernel⟩

theorem wit_LanesSleepAndWake_7 :
    ∃ (q : Fin 11) (s : State), s.awake q = false :=
  ⟨0, State.reset, by decide +kernel⟩

theorem wit_LanesSleepAndWake_8 :
    ∃ (q : Fin 11) (s : State) (r : PwrReq), s.pwrReq q = some r ∧ r.sent = true ∧ r.alone = false :=
  ⟨10, { State.reset with ln := { State.reset.ln with pwr := [⟨10, 1, true, false, false⟩] } }, ⟨10, 1, true,
   false, false⟩, by decide +kernel, by decide +kernel, by decide +kernel⟩

theorem wit_LanesSleepAndWake_9 :
    ∃ (q : Fin 11) (s : State) (r : PwrReq), s.pwrReq q = some r ∧ r.sent = true ∧ r.alone = true :=
  ⟨10, { State.reset with ln := { State.reset.ln with pwr := [⟨10, 2, true, true, false⟩] } }, ⟨10, 2, true, true,
   false⟩, by decide +kernel, by decide +kernel, by decide +kernel⟩

theorem wit_LanesSleepAndWake_10 :
    ∃ (n : Fin 41) (s : State), s.laneRaw n = 6 ∧ (s.lane n).exiting = true ∧ s.inMask n = false :=
  ⟨0, onLane 0 (fun l => { l with exiting := true }) (laneAt 0 6), by decide +kernel, by decide +kernel,
   by decide +kernel⟩

theorem wit_LanesSleepAndWake_11 :
    ∃ (n : Fin 41) (s : State), s.laneRaw n = 6 ∧ (s.lane n).exiting = true ∧ s.inMask n = true :=
  ⟨0, onLane 0 (fun l => { l with exiting := true }) (laneAt 0 6 (ingUp)), by decide +kernel, by decide +kernel,
   by decide +kernel⟩

theorem wit_LanesSleepAndWake_12 :
    ∃ (n : Fin 41) (s : State), s.laneRaw n = 6 ∧ (s.lane n).exiting = true :=
  ⟨0, onLane 0 (fun l => { l with exiting := true }) (laneAt 0 6 (ingUp)), by decide +kernel, by decide +kernel⟩

theorem wit_LanesSleepAndWake_13 :
    ∃ (v : Fin 16) (s : State), s.regN (Reg.CFG_MILESTONE 0) = 0 :=
  ⟨0, State.reset, by decide +kernel⟩

theorem wit_LanesSleepAndWake_14 :
    ∃ (v : Fin 16) (s u : State), u = s.setFld Reg.LN_STATUS Fld.LN_STATUS_STRAPS v.val ∧ u.regN
      (Reg.CFG_MILESTONE 0) ≠ 0 ∧ s.fld Reg.LN_STATUS Fld.LN_STATUS_STRAPS ≠ v.val :=
  ⟨15, State.reset.setRegN (Reg.CFG_MILESTONE 0) 5, (State.reset.setRegN (Reg.CFG_MILESTONE 0) 5).setFld
   Reg.LN_STATUS Fld.LN_STATUS_STRAPS 15, rfl, by decide +kernel, by decide +kernel⟩

theorem wit_AxesServe_0 :
    ∃ (p : Path) (x : Fin 6) (m : Fin 1024) (s : State) (l k : List Nat), s.homesLive m = false ∧ s.chain 6 [] m
      = some l ∧ (k = l.filter (fun i => s.flag (Reg.MP_AX_CFG (s.moveE i).axis) Fld.MP_AX_CFG_ENABLE)) ∧ (∀ i ∈
      k, s.entryRefusal (s.moveE i) = 0) :=
  ⟨.mgmt, 5, 1023, (((withTbl [(0x01FC0000 + 0x20 * 1023, 0x00000105)]).setFld (Reg.MP_AX_CFG 5)
   Fld.MP_AX_CFG_ENABLE 1).setFld (Reg.MP_AX_STATUS 5) Fld.MP_AX_STATUS_STATE 1), [1023], [1023],
   by decide +kernel, by decide +kernel, by decide +kernel, by decide +kernel⟩

theorem wit_AxesServe_1 :
    ∃ (p : Path) (x : Fin 6) (m : Fin 1024) (s : State) (l k : List Nat) (c : Nat), s.homesLive m = false ∧
      s.chain 6 [] m = some l ∧ (k = l.filter (fun i => s.flag (Reg.MP_AX_CFG (s.moveE i).axis)
      Fld.MP_AX_CFG_ENABLE)) ∧ ((k.map fun i => s.entryRefusal (s.moveE i)).find? (· != 0) = some c) :=
  ⟨.mgmt, 5, 1023, (((withTbl [(0x01FC0000 + 0x20 * 1023, 0x00000105)]).setFld (Reg.MP_AX_CFG 5)
   Fld.MP_AX_CFG_ENABLE 1).setFld (Reg.MP_AX_STATUS 5) Fld.MP_AX_STATUS_STATE 3), [1023], [1023], 1,
   by decide +kernel, by decide +kernel, by decide +kernel, by decide +kernel⟩

theorem wit_AxesServe_2 :
    ∃ (p : Path) (x : Fin 6) (m : Fin 1024) (s : State), s.homesLive m = false ∧ s.chain 6 [] m = none :=
  ⟨.mgmt, 5, 0, State.reset, by decide +kernel, by decide +kernel⟩

theorem wit_AxesServe_3 :
    ∃ (p : Path) (x : Fin 6) (m : Fin 1024) (s : State), s.homesLive m = true :=
  ⟨.mgmt, 1, 7, ({ oneSwath .running with tables := [(0x01FC0000 + 0x20 * 7, 0x00000400)] }).setFld (Reg.MP_AX_CFG
   0) Fld.MP_AX_CFG_ENABLE 1, by decide +kernel⟩

theorem wit_AxesServe_4 :
    ∃ (x : Fin 6) (s : State), s.homing x = false ∧ (s.axState x = 2 ∨ s.axState x = 3) :=
  ⟨5, (State.reset.setFld (Reg.MP_AX_STATUS 5) Fld.MP_AX_STATUS_STATE 3), by decide +kernel, by decide +kernel⟩

theorem wit_AxesServe_5 :
    ∃ (x : Fin 6) (s : State), s.homing x = true :=
  ⟨5, (axAt 5 4).setFld (Reg.MP_AX_STATUS 5) Fld.MP_AX_STATUS_HOME_STATE 1, by decide +kernel⟩

theorem wit_AxesServe_6 :
    ∃ (x : Fin 6) (s : State), s.homing x = false ∧ s.axState x ≠ 2 ∧ s.axState x ≠ 3 :=
  ⟨0, State.reset, by decide +kernel, by decide +kernel, by decide +kernel⟩

theorem wit_AxesServe_7 :
    ∃ (p : Path) (s : State), s.swathLive = true :=
  ⟨.mgmt, oneSwath .running, by decide +kernel⟩

theorem wit_AxesServe_8 :
    ∃ (p : Path) (x : Fin 6) (s : State), (x.val ≠ 0 ∨ s.swathLive = false) ∧ s.axState x = 1 :=
  ⟨.mgmt, 5, (State.reset.setFld (Reg.MP_AX_STATUS 5) Fld.MP_AX_STATUS_STATE 1), by decide +kernel,
   by decide +kernel⟩

theorem wit_AxesServe_9 :
    ∃ (p : Path) (x : Fin 6) (s : State), (x.val ≠ 0 ∨ s.swathLive = false) ∧ s.axState x ≠ 1 :=
  ⟨.mgmt, 0, State.reset, by decide +kernel, by decide +kernel⟩

theorem wit_AxesServe_10 :
    ∃ (x : Fin 6) (s u : State), x.val < 2 ∧ s.axState x = 0 ∧ s.gy.estop = false ∧ s.locked = true ∧ s.flag
      (Reg.MP_AX_CFG x) Fld.MP_AX_CFG_ENABLE = true ∧ s.cal.first = [] ∧ u = (((((((s.adopt x).releasePads
      x).setFld (Reg.MP_AX_STATUS x) Fld.MP_AX_STATUS_FAULT 0).setAx x 1 0).setSv x 1).setEn x
      true).milestoneNow 9) :=
  ⟨1, axUp 1, (((((((axUp 1).adopt 1).releasePads 1).setFld (Reg.MP_AX_STATUS 1) Fld.MP_AX_STATUS_FAULT 0).setAx 1
   1 0).setSv 1 1).setEn 1 true).milestoneNow 9, by decide +kernel, by decide +kernel, by decide +kernel,
   by decide +kernel, by decide +kernel, by decide +kernel, rfl⟩

theorem wit_AxesServe_11 :
    ∃ (x : Fin 6) (s u v : State) (k : Nat), x.val = k + 2 ∧ s.axState x = 0 ∧ s.gy.estop = false ∧ s.locked =
      true ∧ s.flag (Reg.MP_AX_CFG x) Fld.MP_AX_CFG_ENABLE = true ∧ s.cal.first = [] ∧ s.bandsOk k = true ∧ u =
      (((((((s.adopt x).releasePads x).setFld (Reg.MP_AX_STATUS x) Fld.MP_AX_STATUS_FAULT 0).setAx x 1 0).setSv
      x 1).setEn x true).milestoneNow 9) ∧ v = u.setFld (Reg.STP_STATUS k) Fld.STP_STATUS_CODE (u.bandE k (u.fld
      (Reg.STP_STATUS k) Fld.STP_STATUS_BAND)).2 :=
  ⟨5, axUp 5, ((((((((axUp 5).adopt 5).releasePads 5).setFld (Reg.MP_AX_STATUS 5) Fld.MP_AX_STATUS_FAULT 0).setAx
   5 1 0).setSv 5 1).setEn 5 true).milestoneNow 9), ((((((((axUp 5).adopt 5).releasePads 5).setFld
   (Reg.MP_AX_STATUS 5) Fld.MP_AX_STATUS_FAULT 0).setAx 5 1 0).setSv 5 1).setEn 5 true).milestoneNow 9).setFld
   (Reg.STP_STATUS 3) Fld.STP_STATUS_CODE (((((((((axUp 5).adopt 5).releasePads 5).setFld (Reg.MP_AX_STATUS 5)
   Fld.MP_AX_STATUS_FAULT 0).setAx 5 1 0).setSv 5 1).setEn 5 true).milestoneNow 9).bandE 3 (((((((((axUp
   5).adopt 5).releasePads 5).setFld (Reg.MP_AX_STATUS 5) Fld.MP_AX_STATUS_FAULT 0).setAx 5 1 0).setSv 5
   1).setEn 5 true).milestoneNow 9).fld (Reg.STP_STATUS 3) Fld.STP_STATUS_BAND)).2, 3, by decide +kernel,
   by decide +kernel, by decide +kernel, by decide +kernel, by decide +kernel, by decide +kernel,
   by decide +kernel, rfl, rfl⟩

theorem wit_AxesServe_12 :
    ∃ (x : Fin 6) (s : State) (k : Nat), x.val = k + 2 ∧ s.axState x = 0 ∧ s.gy.estop = false ∧ s.locked = true
      ∧ s.flag (Reg.MP_AX_CFG x) Fld.MP_AX_CFG_ENABLE = true ∧ s.cal.first = [] ∧ s.bandsOk k = false :=
  ⟨4, axUp 4, 2, by decide +kernel, by decide +kernel, by decide +kernel, by decide +kernel, by decide +kernel,
   by decide +kernel, by decide +kernel⟩

theorem wit_AxesServe_13 :
    ∃ (x : Fin 6) (s : State), s.axState x = 0 ∧ s.gy.estop = false ∧ s.flag (Reg.MP_AX_CFG x)
      Fld.MP_AX_CFG_ENABLE = true ∧ s.locked = false :=
  ⟨5, State.reset.setFld (Reg.MP_AX_CFG 5) Fld.MP_AX_CFG_ENABLE 1, by decide +kernel, by decide +kernel,
   by decide +kernel, by decide +kernel⟩

theorem wit_AxesServe_14 :
    ∃ (x : Fin 6) (s : State), (s.gy.estop = true ∨ s.flag (Reg.MP_AX_CFG x) Fld.MP_AX_CFG_ENABLE = false) :=
  ⟨0, State.reset, by decide +kernel⟩

theorem wit_AxesServe_15 :
    ∃ (x : Fin 6) (s : State), (s.axState x = 0 ∨ s.axState x = 1 ∨ s.axState x = 6) :=
  ⟨5, axAt 5 1, by decide +kernel⟩

theorem wit_AxesServe_16 :
    ∃ (x : Fin 6) (s : State), s.homing x = false ∧ (s.axState x = 2 ∨ s.axState x = 3) :=
  ⟨5, axAt 5 3, by decide +kernel, by decide +kernel⟩

theorem wit_AxesServe_17 :
    ∃ (x : Fin 6) (s : State), s.axState x = 5 :=
  ⟨5, axAt 5 5, by decide +kernel⟩

theorem wit_AxesServe_18 :
    ∃ (x : Fin 6) (s : State), s.axState x = 6 ∧ s.fbState x ≠ 1 :=
  ⟨5, axAt 5 6, by decide +kernel, by decide +kernel⟩

theorem wit_AxesServe_19 :
    ∃ (x : Fin 6) (s : State), (s.axState x ≠ 6 ∨ s.fbState x = 1) :=
  ⟨0, State.reset, by decide +kernel⟩

theorem wit_AxisParametersAndInputs_1 :
    ∃ (x : Fin 6) (w : Word) (s : State), ((∃ d t, (s.gen x).mode = .move d t) ∨ (∃ d t, (s.gen x).mode = .hold
      d t)) :=
  ⟨5, 7, onGen 5 fun g => { g with mode := .move true 9 }, Or.inl ⟨true, 9, by decide +kernel⟩⟩

theorem wit_AxisParametersAndInputs_2 :
    ∃ (x : Fin 6) (w : Word) (s u : State) (g : Gen) (dir : Bool) (n : List (Int × Int × Int)) (d : Int), u =
      s.setReg (Reg.MP_AX_A x) w ∧ g = u.gen x ∧ g.mode = .decel dir n d ∧ g.aUse < u.aLim x :=
  ⟨0, 9, onGen 0 fun g => { g with mode := .decel true [] 655360, v := 2 ^ 50, aUse := 5 }, (onGen 0 fun g =>
   { g with mode := .decel true [] 655360, v := 2 ^ 50, aUse := 5 }).setReg (Reg.MP_AX_A 0) 9, (onGen 0 fun g =>
   { g with mode := .decel true [] 655360, v := 2 ^ 50, aUse := 5 }).gen 0, true, [], 655360, rfl,
   by decide +kernel, by decide +kernel, by decide +kernel⟩

theorem wit_AxisParametersAndInputs_3 :
    ∃ (x : Fin 6) (w : Word) (s u : State) (g : Gen) (dir : Bool) (n : List (Int × Int × Int)) (d : Int), u =
      s.setReg (Reg.MP_AX_A x) w ∧ g = u.gen x ∧ g.mode = .decel dir n d ∧ u.aLim x < g.aUse ∧ (d - g.p).natAbs
      < stopDist g.v.natAbs 0 (u.aLim x) g.jUse :=
  ⟨0, 9, onGen 0 fun g => { g with mode := .decel true [] 655360, v := 2 ^ 50, aUse := 15 }, (onGen 0 fun g =>
   { g with mode := .decel true [] 655360, v := 2 ^ 50, aUse := 15 }).setReg (Reg.MP_AX_A 0) 9, (onGen 0 fun g
   => { g with mode := .decel true [] 655360, v := 2 ^ 50, aUse := 15 }).gen 0, true, [], 655360, rfl,
   by decide +kernel, by decide +kernel, by decide +kernel, by decide +kernel⟩

theorem wit_AxisParametersAndInputs_4 :
    ∃ (x : Fin 6) (w : Word) (s : State), (s.gen x).mode = .idle :=
  ⟨0, 0, State.reset, by decide +kernel⟩

theorem wit_AxisParametersAndInputs_5 :
    ∃ (k : Fin 4) (b due n : Nat) (s u : State), (s.gen (k.val + 2)).toBand = some (b, due) ∧ s.stepPos (k.val +
      2) % 128 = 0 ∧ s.flag (Reg.STP_STATUS k) Fld.STP_STATUS_MS_SETTLING = false ∧ s.flag (Reg.STP_STATUS k)
      Fld.STP_STATUS_EN = true ∧ n = max (s.gen (k.val + 2)).pulseEnd due + 1000 * s.fld (Reg.STP_CFG k)
      Fld.STP_CFG_MS_SETUP_US ∧ u = ((s.onGen (k.val + 2) fun g =>
      { g with toBand := none, ready := max g.ready n, msEnd := n }).setFld (Reg.STP_STATUS k)
      Fld.STP_STATUS_BAND b) :=
  ⟨3, 2, 0, max (((onGen 5 fun g => { g with toBand := some (2, 0) }).setFld (Reg.STP_STATUS 3) Fld.STP_STATUS_EN
   1).gen 5).pulseEnd 0 + 1000 * ((onGen 5 fun g => { g with toBand := some (2, 0) }).setFld (Reg.STP_STATUS 3)
   Fld.STP_STATUS_EN 1).fld (Reg.STP_CFG 3) Fld.STP_CFG_MS_SETUP_US, ((onGen 5 fun g =>
   { g with toBand := some (2, 0) }).setFld (Reg.STP_STATUS 3) Fld.STP_STATUS_EN 1), ((((onGen 5 fun g =>
   { g with toBand := some (2, 0) }).setFld (Reg.STP_STATUS 3) Fld.STP_STATUS_EN 1).onGen 5 fun g =>
   { g with toBand := none, ready := max g.ready (max (((onGen 5 fun g => { g with toBand := some (2, 0) }).setFld (Reg.STP_STATUS 3) Fld.STP_STATUS_EN 1).gen 5).pulseEnd 0 + 1000 * ((onGen 5 fun g => { g with toBand := some (2, 0) }).setFld (Reg.STP_STATUS 3) Fld.STP_STATUS_EN 1).fld (Reg.STP_CFG 3) Fld.STP_CFG_MS_SETUP_US), msEnd := max (((onGen 5 fun g => { g with toBand := some (2, 0) }).setFld (Reg.STP_STATUS 3) Fld.STP_STATUS_EN 1).gen 5).pulseEnd 0 + 1000 * ((onGen 5 fun g => { g with toBand := some (2, 0) }).setFld (Reg.STP_STATUS 3) Fld.STP_STATUS_EN 1).fld (Reg.STP_CFG 3) Fld.STP_CFG_MS_SETUP_US }).setFld
   (Reg.STP_STATUS 3) Fld.STP_STATUS_BAND 2), by decide +kernel, by decide +kernel, by decide +kernel,
   by decide +kernel, rfl, rfl⟩

theorem wit_AxisParametersAndInputs_6 :
    ∃ (k : Fin 4) (s : State), ((s.gen (k.val + 2)).toBand = none ∨ s.stepPos (k.val + 2) % 128 ≠ 0) :=
  ⟨0, State.reset, by decide +kernel⟩

theorem wit_AxisParametersAndInputs_7 :
    ∃ (k : Fin 4) (s : State), (s.gen (k.val + 2)).msEnd ≤ s.clk.ticks :=
  ⟨0, State.reset, by decide +kernel⟩

theorem wit_AxisParametersAndInputs_8 :
    ∃ (k : Fin 4) (s : State), s.clk.ticks < (s.gen (k.val + 2)).msEnd :=
  ⟨3, onGen 5 fun g => { g with msEnd := 7 }, by decide +kernel⟩

theorem wit_AxisParametersAndInputs_9 :
    ∃ (x : Fin 6) (i : Fin 3) (k : Fin 20) (b a : Bool) (t : Nat) (s : State), b = (s.pin x i).high ∧ a =
      s.pinActive x i b ∧ t = max (s.motion.tickAt - 100 + 5 * k.val) (s.pin x i).since ∧ (s.qual x i = a ∨ t <
      (s.pin x i).since + s.qualNs x) :=
  ⟨0, 0, 19, false, false, 95, withTick 100, by decide +kernel, by decide +kernel, by decide +kernel,
   by decide +kernel⟩

theorem wit_AxisParametersAndInputs_10 :
    ∃ (x : Fin 6) (i : Fin 3) (k : Fin 20) (b a : Bool) (t : Nat) (s u : State), b = (s.pin x i).high ∧ a =
      s.pinActive x i b ∧ t = max (s.motion.tickAt - 100 + 5 * k.val) (s.pin x i).since ∧ s.qual x i ≠ a ∧
      (s.pin x i).since + s.qualNs x ≤ t ∧ u = s.putInput Fld.MP_AX_INPUTS_QUAL x i a ∧ u.homing x = true :=
  ⟨5, 2, 19, true, true, 10000095, (pinUp 5 2 ((axAt 5 4).setFld (Reg.MP_AX_STATUS 5) Fld.MP_AX_STATUS_HOME_STATE
   1)), (pinUp 5 2 ((axAt 5 4).setFld (Reg.MP_AX_STATUS 5) Fld.MP_AX_STATUS_HOME_STATE 1)).putInput
   Fld.MP_AX_INPUTS_QUAL 5 2 true, by decide +kernel, by decide +kernel, by decide +kernel, by decide +kernel,
   by decide +kernel, rfl, by decide +kernel⟩

theorem wit_AxisParametersAndInputs_11 :
    ∃ (x : Fin 6) (i : Fin 3) (k : Fin 20) (b : Bool) (t : Nat) (s u : State), b = (s.pin x i).high ∧
      s.pinActive x i b = true ∧ t = max (s.motion.tickAt - 100 + 5 * k.val) (s.pin x i).since ∧ s.qual x i =
      false ∧ (s.pin x i).since + s.qualNs x ≤ t ∧ u = s.putInput Fld.MP_AX_INPUTS_QUAL x i true ∧ u.homing x =
      false ∧ u.startsToward x i = false ∧ (u.axState x = 2 ∨ u.axState x = 3) ∧ (∀ f, (u.gen x).after ≠ .fault
      f) ∧ (i.val = 0 ∧ 0 < (u.gen x).v ∨ i.val = 1 ∧ (u.gen x).v < 0) ∧ u.qual x i = true :=
  ⟨5, 1, 19, true, 10000095, (pinUp 5 1 limitGen), (pinUp 5 1 limitGen).putInput Fld.MP_AX_INPUTS_QUAL 5 1 true,
   by decide +kernel, by decide +kernel, by decide +kernel, by decide +kernel, by decide +kernel, rfl,
   by decide +kernel, by decide +kernel, by decide +kernel, (fun f h => nomatch h.symm.trans (show (((pinUp 5 1
   limitGen).putInput Fld.MP_AX_INPUTS_QUAL 5 1 true).gen 5).after = .idle by decide +kernel)),
   by decide +kernel, by decide +kernel⟩

theorem wit_AxisParametersAndInputs_12 :
    ∃ (x : Fin 6) (i : Fin 3) (k : Fin 20) (b : Bool) (t : Nat) (s u : State), b = (s.pin x i).high ∧ t = max
      (s.motion.tickAt - 100 + 5 * k.val) (s.pin x i).since ∧ s.qual x i ≠ s.pinActive x i b ∧ (s.pin x i).since
      + s.qualNs x ≤ t ∧ u = s.putInput Fld.MP_AX_INPUTS_QUAL x i (s.pinActive x i b) ∧ u.homing x = false ∧
      u.moving x = false ∧ (u.gen x).fresh = false :=
  ⟨5, 2, 19, true, 10000095, pinUp 5 2 State.reset, (pinUp 5 2 State.reset).putInput Fld.MP_AX_INPUTS_QUAL 5 2
   true, by decide +kernel, by decide +kernel, by decide +kernel, by decide +kernel, rfl, by decide +kernel,
   by decide +kernel, by decide +kernel⟩

theorem wit_AxisParametersAndInputs_13 :
    ∃ (x : Fin 6) (i : Fin 3) (k : Fin 20) (b : Bool) (t : Nat) (s u : State), x.val < 2 ∧ b ≠ (s.pin x i).high
      ∧ t = max (s.motion.tickAt - 100 + 5 * k.val) (s.pin x i).since ∧ (s.qual x i = s.pinActive x i (s.pin x
      i).high ∨ t < (s.pin x i).since + s.qualNs x) ∧ u = (if s.pinActive x i (s.pin x i).high = true ∧ t <
      (s.pin x i).since + s.qualNs x then s.count (Reg.MP_AX_CHATTER x) 1 else s) ∧ 0 < ((u.setPin x i ⟨b, t,
      u.rawAt x (5 * k.val)⟩).showRaw x).qualNs x :=
  ⟨1, 2, 19, true, 95, withTick 100 (State.reset.setFld (Reg.MP_AX_INPUT_CFG 1) Fld.MP_AX_INPUT_CFG_QUAL_US 10),
   withTick 100 (State.reset.setFld (Reg.MP_AX_INPUT_CFG 1) Fld.MP_AX_INPUT_CFG_QUAL_US 10), by decide +kernel,
   by decide +kernel, by decide +kernel, by decide +kernel, rfl, by decide +kernel⟩

theorem wit_ServoAndCaptureServe_0 :
    ∃ (s e a b c : State), s.clk.pllLocked = true ∧ e = s.elapse s.sampleTicks ∧ a = (List.range 4).foldl (fun t
      k => t.stepFollow (e.motion.lastServo.getD (e.clk.ticks - 20000)) k)
      { e with motion := { e.motion with lastServo := some e.clk.ticks } } ∧ b = (List.range 6).foldl (fun t x
      => if t.flag (Reg.MP_AX_CFG x) Fld.MP_AX_CFG_ENABLE then t.genSample x else t) a ∧ c = (List.range
      2).foldl (fun t x => t.servoAxis x) ((List.range 4).foldl (fun t k => (t.bandDue k).stallCheck (k + 2)) b)
      :=
  ⟨wPll, wPll.elapse wPll.sampleTicks, sampA, sampB, sampC, by decide +kernel, rfl, rfl, rfl, rfl⟩

theorem wit_ServoAndCaptureServe_1 :
    ∃ (s : State), s.clk.pllLocked = false :=
  ⟨State.reset, by decide +kernel⟩

theorem wit_ServoAndCaptureServe_2 :
    ∃ (p : Path) (x : Fin 2) (s : State), (x.val ≠ 0 ∨ s.swathLive = false) :=
  ⟨.mgmt, 0, State.reset, by decide +kernel⟩

theorem wit_ServoAndCaptureServe_3 :
    ∃ (p : Path) (s : State), s.swathLive = true :=
  ⟨.mgmt, oneSwath .running, by decide +kernel⟩

theorem wit_ServoAndCaptureServe_5 :
    ∃ (p : Path) (s : State), s.motion.cap.running = false :=
  ⟨.mgmt, State.reset, by decide +kernel⟩

theorem wit_ServoAndCaptureServe_6 :
    ∃ (p : Path) (s : State), s.motion.cap.running = false :=
  ⟨.mgmt, State.reset, by decide +kernel⟩

theorem wit_ServoAndCaptureServe_7 :
    ∃ (p : Path) (s : State), s.motion.cap.running = true :=
  ⟨.mgmt,
   { State.reset with motion := { State.reset.motion with cap := { State.reset.motion.cap with running := true } } },
   by decide +kernel⟩

theorem wit_DramServes_0 :
    ∃ (r : Fin 11) (a : Nat) (d : List Byte) (s : State), Inv s ∧ a + d.length ≤ dramEnd ∧ d ≠ [] ∧ s.dueReq ⟨r
      + 16, 0, a, d⟩ = true ∧ s.dram.held = [] ∧ s.dram.errs = [] ∧ s.flag Reg.MI_FLIP_CTRL Fld.MI_FLIP_CTRL_ARM
      = false :=
  ⟨10, dramEnd - 2, [1, 2], (State.reset.setFld Reg.MI_STATUS Fld.MI_STATUS_INIT_REGIONS 56), inv_by
   (by decide +kernel), by decide +kernel, by decide +kernel, by decide +kernel, by decide +kernel,
   by decide +kernel, by decide +kernel⟩

theorem wit_DramServes_1 :
    ∃ (r : Fin 11) (w : Option (Fin 24)) (a : Nat) (d : List Byte) (k : List Nat) (s u : State), (∀ m, w = some
      m → inSpan (s.grantsOf m) a d.length = true) ∧ a + d.length ≤ dramEnd ∧ u = (s.shutRows k).serveAll ∧
      u.dueReq ⟨r + 16, 0, a, d⟩ = true :=
  ⟨10, none, dramEnd - 2, [1, 2], [0], State.reset.setFld Reg.MI_STATUS Fld.MI_STATUS_INIT_REGIONS 56,
   ((State.reset.setFld Reg.MI_STATUS Fld.MI_STATUS_INIT_REGIONS 56).shutRows [0]).serveAll, by simp,
   by decide +kernel, rfl, by decide +kernel⟩

theorem wit_DramServes_2 :
    ∃ (r : Fin 11) (w : Option (Fin 24)) (a : Nat) (d : List Byte) (k : List Nat) (s u : State), (∀ m, w = some
      m → inSpan (s.grantsOf m) a d.length = true) ∧ a + d.length ≤ dramEnd ∧ u = (s.shutRows k).serveAll ∧
      u.dueReq ⟨r + 16, 0, a, d⟩ = false :=
  ⟨0, none, 0, [0], [], State.reset, (State.reset.shutRows []).serveAll, by simp, by decide +kernel, rfl,
   by decide +kernel⟩

theorem wit_DramServes_3 :
    ∃ (r : Fin 11) (m : Fin 24) (a : Nat) (d : List Byte) (k : List Nat) (s : State), inSpan (s.grantsOf m) a
      d.length = false :=
  ⟨0, 0, 8, [1], [], State.reset, by decide +kernel⟩

theorem wit_DramServes_4 :
    ∃ (r : Fin 11) (q a n : Nat) (us : List (Nat × Nat)) (k : List Nat) (s u : State), a + n ≤ dramEnd ∧ u =
      ((s.upset us).shutRows k).serveAll ∧ u.dueReq ⟨r, q, a, List.replicate n 0⟩ = true :=
  ⟨10, 0, dramEnd - 8, 8, [(0, 1)], [], State.reset.setFld Reg.MI_STATUS Fld.MI_STATUS_INIT_REGIONS 56,
   (((State.reset.setFld Reg.MI_STATUS Fld.MI_STATUS_INIT_REGIONS 56).upset [(0, 1)]).shutRows []).serveAll,
   by decide +kernel, rfl, by decide +kernel⟩

theorem wit_DramServes_5 :
    ∃ (r : Fin 11) (q a n : Nat) (us : List (Nat × Nat)) (k : List Nat) (s u : State), a + n ≤ dramEnd ∧ u =
      ((s.upset us).shutRows k).serveAll ∧ u.dueReq ⟨r, q, a, List.replicate n 0⟩ = false :=
  ⟨0, 0, 0, 1, [], [], State.reset, ((State.reset.upset []).shutRows []).serveAll, by decide +kernel, rfl,
   by decide +kernel⟩

end Sys2Proof.Tests
end

