-- ==== Sys2Proof/Tests/Witness7.lean ====
section
/-! SUPPORT. Witnesses: for each statement with hypotheses, operands and a state that meet them together, one theorem
for each clause. -/

set_option linter.all false
set_option Elab.async false

open Sys2Proof Sys2Proof.Bits Sys2Proof.Machine Sys2Proof.Safety Sys2Proof.Tests Sys2Proof.Laws

namespace Sys2Proof.Tests

theorem wit_EstopHaltsAxesAndHeads_0 :
    ∃ (s : State), s.gy.estop = false :=
  ⟨State.reset, by decide +kernel⟩

theorem wit_EstopHaltsAxesAndHeads_1 :
    ∃ (s : State) (x p : Fin 6), Inv s ∧ s.gy.estop = false ∧ s.stoppable 1 = [] :=
  ⟨(State.reset.setFld (Reg.MP_AX_STATUS 3) Fld.MP_AX_STATUS_STATE 2), 3, 0, inv_by (by decide +kernel),
   by decide +kernel, by decide +kernel⟩

theorem wit_EstopHaltsAxesAndHeads_2 :
    ∃ (s : State), s.gy.estop = true :=
  ⟨{ State.reset with gy := { State.reset.gy with estop := true } }, by decide +kernel⟩

theorem wit_EstopHaltsAxesAndHeads_3 :
    ∃ (s : State), s.gy.estop = false :=
  ⟨State.reset, by decide +kernel⟩

theorem wit_EstopHaltsAxesAndHeads_4 :
    ∃ (s : State), s.gy.estop = true :=
  ⟨{ State.reset with gy := { State.reset.gy with estop := true } }, by decide +kernel⟩

theorem wit_EstopHaltsAxesAndHeads_5 :
    ∃ (s : State), s.gy.estopHigh.isSome = true ∧ (∀ w ∈ s.gy.swaths, w.state ≠ .running) :=
  ⟨{ State.reset with gy := { State.reset.gy with estopHigh := some 0 } }, by decide +kernel, by decide +kernel⟩

theorem wit_EstopHaltsAxesAndHeads_6 :
    ∃ (s : State), (s.gy.estopHigh = none ∨ (s.gy.swaths.any fun w => w.state == .running) = true) :=
  ⟨State.reset, by decide +kernel⟩

theorem wit_DramUpkeep_0 :
    ∃ (l : Nat) (s : State) (e : Merge), (s.dram.merge.find? (fun e => e.line == l) = some e) :=
  ⟨64, (onDr (fun d => { d with merge := [⟨64, 3, 9⟩] }) State.reset), ⟨64, 3, 9⟩, by decide +kernel⟩

theorem wit_DramUpkeep_1 :
    ∃ (s u : State), u = { s with dram := { s.dram with trackers := [], throttled := [] } } :=
  ⟨State.reset, { State.reset with dram := { State.reset.dram with trackers := [], throttled := [] } }, rfl⟩

theorem wit_DramUpkeep_2 :
    ∃ (us : List (Nat × Nat)) (s u v : State) (q : Nat) (ws : List Nat), u = us.foldl (fun t x => t.setErr x.1
      (t.errOf x.1 ^^^ (x.2 % 2 ^ 72))) s ∧ q = s.regN Reg.MI_SCRUB_POS ∧ ws = (u.dram.errs.filter fun e =>
      (u.groupOf (8 * e.1)).2 == q).map (·.1) ∧ v = ws.foldl (fun t w => if eccKind ((t.flushRange (8 * w)
      8).errOf w) = 1 then ((t.flushRange (8 * w) 8).readWord 10 w).setErr w 0 else (t.flushRange (8 * w)
      8).readWord 10 w) u :=
  ⟨[], State.reset.setRegN Reg.MI_SCRUB_POS 466032, State.reset.setRegN Reg.MI_SCRUB_POS 466032,
   State.reset.setRegN Reg.MI_SCRUB_POS 466032, 466032, [], rfl, by decide +kernel, by decide +kernel, rfl⟩

theorem wit_DramUpkeep_3 :
    ∃ (w : Word) (s : State) (p n : Nat), Fld.MI_REMAP_CTRL_OP.get w = 1 ∧ p = Fld.MI_REMAP_CTRL_PAGE.get w ∧ p
      ≤ 0xDFFFFF ∧ s.slotOf p = none ∧ p ∉ s.dram.copyQueue ∧ s.dram.copying = none ∧ s.freeSlot = some n :=
  ⟨Fld.MI_REMAP_CTRL_OP.put 1 (Fld.MI_REMAP_CTRL_PAGE.put 0xDFFFFF 0), State.reset, 0xDFFFFF, 0,
   by decide +kernel, by decide +kernel, by decide +kernel, by decide +kernel, by decide +kernel,
   by decide +kernel, by decide +kernel⟩

theorem wit_DramUpkeep_4 :
    ∃ (w : Word) (s : State) (p : Nat) (c : Nat × Nat), Fld.MI_REMAP_CTRL_OP.get w = 1 ∧ p =
      Fld.MI_REMAP_CTRL_PAGE.get w ∧ p ≤ 0xDFFFFF ∧ s.slotOf p = none ∧ p ∉ s.dram.copyQueue ∧ s.dram.copying =
      some c ∧ c.2 ≠ p :=
  ⟨Fld.MI_REMAP_CTRL_OP.put 1 (Fld.MI_REMAP_CTRL_PAGE.put 0xDFFFFF 0), onDr (fun d =>
   { d with copying := some (3, 5) }) State.reset, 0xDFFFFF, (3, 5), by decide +kernel, by decide +kernel,
   by decide +kernel, by decide +kernel, by decide +kernel, by decide +kernel, by decide +kernel⟩

theorem wit_DramUpkeep_5 :
    ∃ (w : Word) (s : State), (Fld.MI_REMAP_CTRL_OP.get w ≠ 1 ∨ 0xDFFFFF < Fld.MI_REMAP_CTRL_PAGE.get w) :=
  ⟨0, State.reset, by decide +kernel⟩

theorem wit_DramUpkeep_6 :
    ∃ (s u x v w : State) (n p : Nat), s.dram.copying = some (n, p) ∧ s.inited (4096 * p) = true ∧ u =
      (s.badWords (4096 * p) 4096).foldl (fun t w => t.copyWord w) ((s.flushRange (4096 * p) 4096).openRows 10
      (4096 * p) 4096) ∧ x = (u.setTbl (remapBase + 4 * n) (BitVec.ofNat 32 (2 ^ 31 + p))).openRows 10 (4096 *
      p) 4096 ∧ v = ((x.setFld Reg.MI_STATUS Fld.MI_STATUS_REMAP_USED (x.fld Reg.MI_STATUS
      Fld.MI_STATUS_REMAP_USED + 1)).setFld Reg.MI_STATUS Fld.MI_STATUS_COPY_BUSY 0) ∧ w = ((v.raiseInfo
      .degraded Reg.MI_EVENT Fld.MI_EVENT_PAGE_RETIRED 0 (unitDram ((s.groupOf (4096 * p)).1 % 16)) (4096 *
      p)).stateWrite ⟨2, toLE 2 n ++ [0, 0] ++ toLE 4 p⟩) :=
  ⟨copyS, copyU, copyX, copyV, copyW, 3, 5, by decide +kernel, by decide +kernel, rfl, rfl, rfl, rfl⟩

theorem wit_DramUpkeep_7 :
    ∃ (s : State) (n p : Nat), (s.dram.copying = none ∨ s.dram.copying = some (n, p) ∧ s.inited (4096 * p) =
      false) :=
  ⟨State.reset, 0, 0, by decide +kernel⟩

theorem wit_DramUpkeep_8 :
    ∃ (q : Path) (w : Word) (s u : State) (b : Nat), Fld.MI_BANK_RETIRE_OP.get w = 1 ∧ b = bankOf w ∧ b ∉
      s.dram.retired ++ s.dram.pendingBanks ∧ s.dram.retired.length + s.dram.pendingBanks.length < 3 ∧ u =
      { s with dram := { s.dram with pendingBanks := s.dram.pendingBanks ++ [b] } } :=
  ⟨.mgmt, Fld.MI_BANK_RETIRE_OP.put 1 (Fld.MI_BANK_RETIRE_CHANNEL.put 15 0), onDr (fun d =>
   { d with retired := [1], pendingBanks := [2] }) State.reset,
   { (onDr (fun d => { d with retired := [1], pendingBanks := [2] }) State.reset) with dram := { (onDr (fun d => { d with retired := [1], pendingBanks := [2] }) State.reset).dram with pendingBanks := (onDr (fun d => { d with retired := [1], pendingBanks := [2] }) State.reset).dram.pendingBanks ++ [15] } },
   15, by decide +kernel, by decide +kernel, by decide +kernel, by decide +kernel, rfl⟩

theorem wit_DramUpkeep_9 :
    ∃ (q : Path) (w : Word) (s : State), Fld.MI_BANK_RETIRE_OP.get w = 1 ∧ bankOf w ∉ s.dram.retired ++
      s.dram.pendingBanks ∧ 3 ≤ s.dram.retired.length + s.dram.pendingBanks.length :=
  ⟨.mgmt, Fld.MI_BANK_RETIRE_OP.put 1 (Fld.MI_BANK_RETIRE_CHANNEL.put 15 0), (onDr (fun d =>
   { d with retired := [1], pendingBanks := [2, 3] }) State.reset), by decide +kernel, by decide +kernel,
   by decide +kernel⟩

theorem wit_DramUpkeep_10 :
    ∃ (w : Word) (s u : State) (b : Nat), Fld.MI_BANK_RETIRE_OP.get w = 2 ∧ b = bankOf w ∧ b ∈
      s.dram.pendingBanks ∧ u =
      { s with dram := { s.dram with pendingBanks := s.dram.pendingBanks.filter (· != b) } } :=
  ⟨Fld.MI_BANK_RETIRE_OP.put 2 (Fld.MI_BANK_RETIRE_CHANNEL.put 15 0), onDr (fun d =>
   { d with pendingBanks := [15] }) State.reset,
   { (onDr (fun d => { d with pendingBanks := [15] }) State.reset) with dram := { (onDr (fun d => { d with pendingBanks := [15] }) State.reset).dram with pendingBanks := [] } },
   15, by decide +kernel, by decide +kernel, by decide +kernel, rfl⟩

theorem wit_DramUpkeep_13 :
    ∃ (m : BitVec 16) (k c : Nat) (s : State), m.toNat ≠ 65535 ∧ (findBelow 16 fun c => !Bits.bit m.toNat c) =
      some c :=
  ⟨0x7FFF, 5, 15, State.reset, by decide +kernel, by decide +kernel⟩

theorem wit_RecordPortServes_0 :
    ∃ (s u : State) (fr : List Byte) (n : Nat), IngFrameIn s fr 6 ∧ Bits.rd fr 16 1 = 1 ∧ u = ingIn s fr 0 ∧ n =
      Bits.rd fr 18 2 :=
  ⟨ingUp (descArea), ingIn (ingUp (descArea)) (ingFr 6 0 0 0 0 (le [(1, 1), (1, 0), (2, 0), (4, 16777216)])) 0,
   (ingFr 6 0 0 0 0 (le [(1, 1), (1, 0), (2, 0), (4, 16777216)])), 0, by decide +kernel, by decide +kernel, rfl,
   by decide +kernel⟩

theorem wit_RecordPortServes_1 :
    ∃ (s u u1 u2 u3 : State) (fr : List Byte) (n a b c : Nat), IngFrameIn s fr 6 ∧ Bits.rd fr 16 1 = 2 ∧ u =
      ingIn s fr 0 ∧ n = Bits.rd fr 18 2 ∧ (a, u1) = u.free ∧ (b, u2) = u1.free ∧ (c, u3) = u2.free :=
  ⟨ingUp (descArea.setFld Reg.FAB_CFG Fld.FAB_CFG_ING_FWD 1), ingIn (ingUp (descArea.setFld Reg.FAB_CFG
   Fld.FAB_CFG_ING_FWD 1)) (ingFr 6 0 0 0 0 (le [(1, 2), (1, 0), (2, 5), (4, 0)])) 0, (ingIn (ingUp
   (descArea.setFld Reg.FAB_CFG Fld.FAB_CFG_ING_FWD 1)) (ingFr 6 0 0 0 0 (le [(1, 2), (1, 0), (2, 5), (4, 0)]))
   0).free.2, (ingIn (ingUp (descArea.setFld Reg.FAB_CFG Fld.FAB_CFG_ING_FWD 1)) (ingFr 6 0 0 0 0 (le [(1, 2),
   (1, 0), (2, 5), (4, 0)])) 0).free.2.free.2, (ingIn (ingUp (descArea.setFld Reg.FAB_CFG Fld.FAB_CFG_ING_FWD
   1)) (ingFr 6 0 0 0 0 (le [(1, 2), (1, 0), (2, 5), (4, 0)])) 0).free.2.free.2.free.2, (ingFr 6 0 0 0 0 (le
   [(1, 2), (1, 0), (2, 5), (4, 0)])), 5, (ingIn (ingUp (descArea.setFld Reg.FAB_CFG Fld.FAB_CFG_ING_FWD 1))
   (ingFr 6 0 0 0 0 (le [(1, 2), (1, 0), (2, 5), (4, 0)])) 0).free.1, (ingIn (ingUp (descArea.setFld Reg.FAB_CFG
   Fld.FAB_CFG_ING_FWD 1)) (ingFr 6 0 0 0 0 (le [(1, 2), (1, 0), (2, 5), (4, 0)])) 0).free.2.free.1, (ingIn
   (ingUp (descArea.setFld Reg.FAB_CFG Fld.FAB_CFG_ING_FWD 1)) (ingFr 6 0 0 0 0 (le [(1, 2), (1, 0), (2, 5), (4,
   0)])) 0).free.2.free.2.free.1, by decide +kernel, by decide +kernel, rfl, by decide +kernel, rfl, rfl, rfl⟩

theorem wit_RecordPortServes_2 :
    ∃ (s u : State) (fr b : List Byte) (n : Nat), IngFrameIn s fr 6 ∧ Bits.rd fr 16 1 = 3 ∧ u = ingIn s fr 0 ∧ n
      = Bits.rd fr 18 2 ∧ b = u.tblBytes (recIndex 0) 2048 :=
  ⟨ingUp (descArea), ingIn (ingUp (descArea)) (ingFr 6 0 0 0 0 (le [(1, 3), (1, 0), (2, 0), (4, 0)])) 0, (ingFr 6
   0 0 0 0 (le [(1, 3), (1, 0), (2, 0), (4, 0)])), State.tblBytes (ingIn (ingUp (descArea)) (ingFr 6 0 0 0 0 (le
   [(1, 3), (1, 0), (2, 0), (4, 0)])) 0) (recIndex 0) 2048, 0, by decide +kernel, by decide +kernel, rfl,
   by decide +kernel, rfl⟩

theorem wit_RecordPortServes_3 :
    ∃ (p : Path) (w : Word) (s u : State) (o : Nat), u = s.unstage p Reg.CMP_REC_RELEASE_LO ∧ o = (s.stagedLo p
      Reg.CMP_REC_RELEASE_LO).toNat + 2 ^ 32 * w.toNat ∧ u.pair Reg.CMP_REC_RELEASE_LO ≤ o ∧ o ≤ u.pair
      Reg.CMP_WRITE_OFS_LO :=
  ⟨.mgmt, 0, State.reset, State.reset.unstage .mgmt Reg.CMP_REC_RELEASE_LO, 0, rfl, rfl, by decide +kernel,
   by decide +kernel⟩

theorem wit_RecordPortServes_4 :
    ∃ (p : Path) (w : Word) (s u : State) (o : Nat), u = s.unstage p Reg.CMP_REC_RELEASE_LO ∧ o = (s.stagedLo p
      Reg.CMP_REC_RELEASE_LO).toNat + 2 ^ 32 * w.toNat ∧ (o < u.pair Reg.CMP_REC_RELEASE_LO ∨ u.pair
      Reg.CMP_WRITE_OFS_LO < o) :=
  ⟨.mgmt, 1, State.reset, State.reset.unstage .mgmt Reg.CMP_REC_RELEASE_LO, 2 ^ 32, rfl, rfl, by decide +kernel⟩

theorem wit_RecordPortServes_5 :
    ∃ (s : State) (r : LayerRec), firstEnded s.recs = some r ∧ s.reportNow = false :=
  ⟨{ oneLayer with recs := [⟨1, 0, 0, 3, 0, 1, some 0, false⟩] }, ⟨1, 0, 0, 3, 0, 1, some 0, false⟩,
   by decide +kernel, by decide +kernel⟩

theorem wit_RecordPortServes_6 :
    ∃ (s : State) (r : LayerRec), firstEnded s.recs = some r ∧ s.reportNow = true :=
  ⟨{ oneLayer with recs := [⟨1, 0, 0, 3, 0, 1, some 0, false⟩], pending := [.excFrame 0 []] }, ⟨1, 0, 0, 3, 0, 1,
   some 0, false⟩, by decide +kernel, by decide +kernel⟩

theorem wit_RecordPortServes_7 :
    ∃ (s : State), firstEnded s.recs = none :=
  ⟨State.reset, by decide +kernel⟩

theorem wit_RecordPortServes_8 :
    ∃ (s : State), s.blocks = [] :=
  ⟨State.reset, by decide +kernel⟩

theorem wit_RecordPortServes_9 :
    ∃ (s z f u v : State) (b : StoredBlock) (l : List StoredBlock) (h : List Byte) (d : Option (List Byte)) (sp
      : List (Nat × Nat)), s.blocks = b :: l ∧ z = { s with blocks := l } ∧ h = z.recRead b.ofs 40 ∧ sp =
      z.recSpans (b.ofs + 40) (divUp (Bits.rd h 28 4) 8 * 8) ∧ f = sp.foldl (fun t x => t.flushRange x.1 x.2) z
      ∧ u = sp.foldl (fun t x => t.serveRead 7 0 x.1 x.2) f ∧ d = (if Bits.bit (Bits.rd h 1 1) 0 then some
      (u.recRead (b.ofs + 40) (Bits.rd h 28 4)) else Codec.decode (u.recRead (b.ofs + 40) (Bits.rd h 28 4))
      (Bits.rd h 20 4) (Bits.rd h 24 4)) ∧ v = u.snoop ⟨pointStored, 0, [], d.getD [], Bits.rd h 32 4, u.recAddr
      b.ofs, Bits.rd h 4 4, u.recAddr b.ofs⟩ :=
  ⟨{ State.reset with blocks := [⟨0, 1, 0⟩] }, State.reset, verF, verU, verV, ⟨0, 1, 0⟩, [], verH, verD, verSp,
   by decide +kernel, rfl, rfl, rfl, rfl, rfl, rfl, rfl⟩

theorem wit_ErrorLogServes_0 :
    ∃ (s u : State) (e : RingEntry) (l : List Nat), s.nextRecord = some e ∧ u =
      { s with log := { s.log with ring := Kv.set s.log.ring (e.record.seq % 256) { e with processed := true } } }
      ∧ l = (u.openSeqs.filter fun q => (u.openAt q).any fun e => e.processed && decide (e.record.cls ≤ min
      (u.fld Reg.ERR_CFG Fld.ERR_CFG_AUTO_ACK_MAX) 3)) :=
  ⟨logOf 1, { logOf 1 with log := { (logOf 1).log with ring := [(0, { logged 1 with processed := true })] } },
   logged 1, [0], by decide +kernel, by decide +kernel, by decide +kernel⟩

theorem wit_ErrorLogServes_1 :
    ∃ (s : State), s.nextRecord = none :=
  ⟨State.reset, by decide +kernel⟩

theorem wit_ErrorLogServes_2 :
    ∃ (p : Path) (w : Word) (s u : State) (e : RingEntry), s.openAt w.toNat = some e ∧ u =
      { s with log := { s.log with ring := Kv.set s.log.ring (w.toNat % 256) { e with record := { e.record with rflags := e.record.rflags ||| rflagAcked }, isOpen := false } } }
      :=
  ⟨.mgmt, 0, logOf 3,
   { logOf 3 with log := { (logOf 3).log with ring := Kv.set (logOf 3).log.ring 0 { logged 3 with record := { (logged 3).record with rflags := (logged 3).record.rflags ||| rflagAcked }, isOpen := false } } },
   logged 3, by decide +kernel, rfl⟩

theorem wit_ErrorLogServes_3 :
    ∃ (p : Path) (w : Word) (s : State), s.openAt w.toNat = none :=
  ⟨.mgmt, 0, State.reset, by decide +kernel⟩

theorem wit_ErrorLogServes_4 :
    ∃ (w : Word) (s : State) (o n : Nat) (l : List Nat), s.openSeqs = o :: l ∧ n = (w.toNat + 2 ^ 32 - o) % 2 ^
      32 ∧ n < 2 ^ 31 :=
  ⟨0, logOf 3, 0, 0, [], by decide +kernel, by decide +kernel, by decide +kernel⟩

theorem wit_ErrorLogServes_5 :
    ∃ (w : Word) (s : State), (s.openSeqs = [] ∨ ∃ o l, s.openSeqs = o :: l ∧ 2 ^ 31 ≤ (w.toNat + 2 ^ 32 - o) %
      2 ^ 32) :=
  ⟨0, State.reset, Or.inl (by decide +kernel)⟩

theorem wit_CoresAndFreezesServe_1 :
    ∃ (n : Fin 12) (s : State), 1 < s.coreSt n :=
  ⟨11, (State.reset.setFld (Reg.ERR_CORE_STAT 11) Fld.ERR_CORE_STAT_STATE 4), by decide +kernel⟩

theorem wit_CoresAndFreezesServe_2 :
    ∃ (l : List (Fin 12)) (ws : List (Fin 12 × Nat × Ecc)) (n : Nat) (s u : State), (s.sram.flips.filter fun f
      => sramCore 0 ≤ f.1 && decide (f.1 < sramDescriptors)) = [] ∧ n = s.fld Reg.MI_FLIP_CTRL
      Fld.MI_FLIP_CTRL_UNIT ∧ u = (if n < 12 then s.flipHit 4 n (sramCore n) 0 else s) :=
  ⟨[], [], 13, State.reset.setFld Reg.MI_FLIP_CTRL Fld.MI_FLIP_CTRL_UNIT 13, State.reset.setFld Reg.MI_FLIP_CTRL
   Fld.MI_FLIP_CTRL_UNIT 13, by decide +kernel, by decide +kernel, by decide +kernel⟩

theorem wit_CoresAndFreezesServe_3 :
    ∃ (p : Path) (n : Fin 16) (s u : State), n.val < 12 ∧ s.coreSt n ≤ 1 ∧ n.val ∉ s.cores.outReq ∧
      (s.cores.outReq.length + 11 ≤ (s.coresIn 0).length + (s.coresIn 1).length ∨ s.boot.hand.isSome = true) ∧ u
      = s.awaitBoundary n :=
  ⟨.mgmt, 11, State.reset, State.reset.awaitBoundary 11, by decide +kernel, by decide +kernel, by decide +kernel,
   by decide +kernel, rfl⟩

theorem wit_CoresAndFreezesServe_4 :
    ∃ (p : Path) (n : Fin 16) (s : State), n.val < 12 ∧ s.coreSt n ≤ 1 ∧ n.val ∉ s.cores.outReq ∧ (s.coresIn
      0).length + (s.coresIn 1).length < s.cores.outReq.length + 11 ∧ s.boot.hand = none :=
  ⟨.mgmt, 11, coreAt 0 4 (coreAt 1 4), by decide +kernel, by decide +kernel, by decide +kernel, by decide +kernel,
   by decide +kernel⟩

theorem wit_CoresAndFreezesServe_5 :
    ∃ (n : Fin 16) (s : State), n.val < 12 ∧ s.coreSt n = 4 :=
  ⟨11, coreAt 11 4, by decide +kernel, by decide +kernel⟩

theorem wit_CoresAndFreezesServe_6 :
    ∃ (n : Fin 12) (s u : State), s.coreSt n = 2 ∧ n.val ∈ s.cores.periodic ∧ u =
      { s with cores := { s.cores with periodic := s.cores.periodic.filter (· != n.val), lastTest := Kv.set s.cores.lastTest n.val s.clk.ticks } }
      :=
  ⟨11, perCore, { perCore with cores := { (perCore).cores with periodic := [], lastTest := [(11, 0)] } },
   by decide +kernel, by decide +kernel, rfl⟩

theorem wit_CoresAndFreezesServe_7 :
    ∃ (n : Fin 12) (s u v : State), s.coreSt n = 2 ∧ n.val ∉ s.cores.periodic ∧ u =
      { s with cores := { s.cores with periodic := s.cores.periodic.filter (· != n.val), lastTest := Kv.set s.cores.lastTest n.val s.clk.ticks } }
      ∧ v =
      { u with cores := { u.cores with shadowOf := (u.cores.shadowOf.filter fun e => e.1 != n.val) ++ [(n.val, u.freeShadowRole)] } }
      :=
  ⟨11, coreAt 11 2,
   { (coreAt 11 2) with cores := { (coreAt 11 2).cores with periodic := [], lastTest := [(11, 0)] } },
   { { (coreAt 11 2) with cores := { (coreAt 11 2).cores with periodic := [], lastTest := [(11, 0)] } } with cores := { ({ (coreAt 11 2) with cores := { (coreAt 11 2).cores with periodic := [], lastTest := [(11, 0)] } }).cores with shadowOf := [(11, ({ (coreAt 11 2) with cores := { (coreAt 11 2).cores with periodic := [], lastTest := [(11, 0)] } }).freeShadowRole)] } },
   by decide +kernel, by decide +kernel, rfl, rfl⟩

theorem wit_CoresAndFreezesServe_8 :
    ∃ (n : Fin 12) (s : State), s.coreSt n ≠ 2 :=
  ⟨11, State.reset, by decide +kernel⟩

theorem wit_CoresAndFreezesServe_9 :
    ∃ (n : Fin 12) (s u v : State), s.coreSt n = 3 ∧ s.fld (Reg.ERR_CORE_STAT n) Fld.ERR_CORE_STAT_SHADOW_N = 16
      ∧ n.val ∈ s.cores.bound ∧ u = s.setFld (Reg.ERR_CORE_STAT n) Fld.ERR_CORE_STAT_ST_FAILS 0 ∧ v =
      (({ u with cores := { u.cores with shadowOf := s.cores.shadowOf.filter fun e => e.1 != n.val } } :
      State).event Reg.ERR_EVENT Fld.ERR_EVENT_CORE_BACK) :=
  ⟨11, proven, provenU, provenV, by decide +kernel, by decide +kernel, by decide +kernel, rfl, rfl⟩

theorem wit_CoresAndFreezesServe_10 :
    ∃ (n : Fin 12) (s : State), (s.coreSt n ≠ 3 ∨ n.val ∉ s.cores.bound) :=
  ⟨0, State.reset, by decide +kernel⟩

theorem wit_CoresAndFreezesServe_11 :
    ∃ (n : Fin 12) (s u : State), s.coreSt n = 1 ∧ s.boot.hand = none ∧ u = s.setFld (Reg.ERR_CORE_STAT n)
      Fld.ERR_CORE_STAT_STATE 2 :=
  ⟨11, coreAt 11 1, (coreAt 11 1).setFld (Reg.ERR_CORE_STAT 11) Fld.ERR_CORE_STAT_STATE 2, by decide +kernel,
   by decide +kernel, rfl⟩

theorem wit_CoresAndFreezesServe_12 :
    ∃ (p : Path) (w : Word) (s : State) (i r : Nat), i = Fld.ACC_UNFREEZE_INDEX.get w ∧
      Fld.ACC_UNFREEZE_KIND.get w = 0 ∧ p ≠ .tunnel i ∧ r = Reg.FAB_FROZEN (i / 32) ∧ Bits.bit (s.regN r) (i %
      32) = true ∧ s.violatesNow i = false :=
  ⟨.mgmt, Fld.ACC_UNFREEZE_INDEX.put 1023 0, (State.reset.setRegN (Reg.FAB_FROZEN 31) 2147483648), 1023,
   Reg.FAB_FROZEN 31, by decide +kernel, by decide +kernel, by decide +kernel, by decide +kernel,
   by decide +kernel, by decide +kernel⟩

theorem wit_CoresAndFreezesServe_13 :
    ∃ (w : Word) (s : State) (i : Nat), i = Fld.ACC_UNFREEZE_INDEX.get w ∧ Fld.ACC_UNFREEZE_KIND.get w = 0 :=
  ⟨0, State.reset, 0, rfl, by decide +kernel⟩

theorem wit_CoresAndFreezesServe_14 :
    ∃ (p : Path) (w : Word) (s u : State) (i : Nat), i = Fld.ACC_UNFREEZE_INDEX.get w ∧
      Fld.ACC_UNFREEZE_KIND.get w ≠ 0 ∧ i < 24 ∧ Bits.bit (s.regN Reg.ACC_FROZEN_INT) i = true ∧ s.violatesNow
      (1024 + i) = false ∧ u = ((s.setRegN Reg.ACC_FROZEN_INT (s.regN Reg.ACC_FROZEN_INT - 2 ^ i)).event
      Reg.ACC_EVENT Fld.ACC_EVENT_UNFREEZE) :=
  ⟨.mgmt, Fld.ACC_UNFREEZE_INDEX.put 7 (Fld.ACC_UNFREEZE_KIND.put 1 0), (State.reset.setRegN Reg.ACC_FROZEN_INT
   128), ((State.reset.setRegN Reg.ACC_FROZEN_INT 128).setRegN Reg.ACC_FROZEN_INT ((State.reset.setRegN
   Reg.ACC_FROZEN_INT 128).regN Reg.ACC_FROZEN_INT - 2 ^ 7)).event Reg.ACC_EVENT Fld.ACC_EVENT_UNFREEZE, 7,
   by decide +kernel, by decide +kernel, by decide +kernel, by decide +kernel, by decide +kernel, rfl⟩

theorem wit_DefaultDoseCurve_0 :
    ∃ (l : Layer) (m k : Nat), Kv.get l.curves m = none :=
  ⟨layer1, 0, 4096, by decide +kernel⟩

theorem wit_CounterStartsAtLock_0 :
    ∃ (c : Nat) (s : State), s.clk.pllLocked = false ∧ s.clk.deepHeld = false :=
  ⟨0, State.reset, by decide +kernel, by decide +kernel⟩

theorem wit_CounterStartsAtLock_1 :
    ∃ (n : Nat) (s : State), s.clk.pllLocked = true :=
  ⟨0, wPll, by decide +kernel⟩

theorem wit_CounterStartsAtLock_2 :
    ∃ (p : Path) (w : Word) (s t : State), (exec (.tbStepCmd p) s = .next t ∨ exec (.tbIncrWrite p w) s = .next
      t ∨ exec (.tbAdjCommit p w) s = .next t ∨ exec .stepApply s = .next t) :=
  ⟨.mgmt, 0, State.reset, State.reset, .inr (.inr (.inr rfl))⟩

theorem wit_PairsLatchAndStage_0 :
    ∃ (p : Path) (a : Nat) (s v : State), RegMap.isLo a = true ∧ RegMap.isLo (a + 4) = false ∧ a ≠
      Reg.GLB_GPIO_IN ∧ a + 4 ≠ Reg.GLB_GPIO_IN ∧ a + 4 ≠ Reg.TB_NOW_SEC_LO ∧ v.pathSt p = (s.readReg p
      a).2.pathSt p :=
  ⟨.mgmt, Reg.GLB_SERIAL_LO, State.reset, (State.reset.readReg .mgmt Reg.GLB_SERIAL_LO).2, by decide +kernel,
   by decide +kernel, by decide +kernel, by decide +kernel, by decide +kernel, rfl⟩

theorem wit_PairsLatchAndStage_1 :
    ∃ (p : Path) (a : Nat) (s : State), RegMap.isLo a = true ∧ RegMap.isLo (a + 4) = false ∧ a ≠ Reg.GLB_GPIO_IN
      ∧ a + 4 ≠ Reg.GLB_GPIO_IN ∧ a + 4 ≠ Reg.TB_NOW_SEC_LO ∧ Kv.get (s.pathSt p).latch (a + 4) = none :=
  ⟨.mgmt, Reg.GLB_SERIAL_LO, State.reset, by decide +kernel, by decide +kernel, by decide +kernel,
   by decide +kernel, by decide +kernel, by decide +kernel⟩

theorem wit_PairsLatchAndStage_3 :
    ∃ (p : Path) (a : Nat) (lo hi : Word) (s : State), Inv s :=
  ⟨.mgmt, 8, 1, 2, State.reset, inv_by (by decide +kernel)⟩

theorem wit_PairsLatchAndStage_4 :
    ∃ (p : Path) (a : Nat) (hi : Word) (s : State), Inv s ∧ Kv.get (s.pathSt p).staged a = none :=
  ⟨.mgmt, 8, 1, State.reset, inv_by (by decide +kernel), by decide +kernel⟩

theorem wit_TickAdvancesTheCounter_0 :
    ∃ (s t : State) (r : Nat) (step : Int) (sub ns sec x : Nat), s.clk.pllLocked = true ∧ s.clk.slewK =
      slewStepOf r ∧ t = s.elapse 1 ∧ (step = if 0 < s.clk.slewRem then min s.clk.slewRem s.clk.slewK else max
      s.clk.slewRem (-(s.clk.slewK : Int))) ∧ sub = s.clk.count % 2 ^ 28 ∧ ns = s.clk.count / 2 ^ 28 %
      1000000000 ∧ sec = s.clk.count / 2 ^ 28 / 1000000000 ∧ x = (((sub + s.tbIncr : Nat) : Int) + step).toNat
      :=
  ⟨onClk (fun c => { c with pllLocked := true, slewRem := 5, count := 2 ^ 28 * 2000000000 + 7 }), (onClk (fun c =>
   { c with pllLocked := true, slewRem := 5, count := 2 ^ 28 * 2000000000 + 7 })).elapse 1, 100, 5, 7, 0, 2, 7 +
   State.tbIncr (onClk (fun c => { c with pllLocked := true, slewRem := 5, count := 2 ^ 28 * 2000000000 + 7 }))
   + 5, by decide +kernel, by decide +kernel, rfl, by decide +kernel, by decide +kernel, by decide +kernel,
   by decide +kernel, by decide +kernel⟩

end Sys2Proof.Tests
end

section
/-! Scope: what a register access over one path does (spec/00_scope.md): the latches and staged halves of a path,
the pairs of R15, and a write of a register that has no rule of its own. -/

namespace Sys2Proof.Proofs

open Sys2Proof.Machine Sys2Proof.Safety Sys2Proof.Laws

variable {s : State} {p : Path} {a : Nat} {w : Word}

/-! ### The latches and staged halves of a path -/

/-- Whether listed or not, the latches of a path stand under the key of the path. -/
@[simp] theorem pathSt_path : (s.pathSt p).path = p.key := by
  unfold State.pathSt
  cases h : s.paths.find? (fun x => x.path == p.key) with
  | none => rfl
  | some x => simpa using List.find?_some h

/-- A change of a path that leaves it its key is what the path then holds. -/
theorem pathSt_onPath {f : PathSt → PathSt} (hf : (f (s.pathSt p)).path = p.key) :
    (s.onPath p f).pathSt p = f (s.pathSt p) := by
  have hold : (s.paths.filter fun x => x.path != p.key).find? (fun x => x.path == p.key) = none := by
    simp [List.find?_eq_none]
  rw [State.pathSt, State.onPath, List.find?_append, hold]
  simp [hf]

@[simp] theorem staged_stageLo : Kv.get ((s.stageLo p a w).pathSt p).staged a = some w := by
  rw [State.stageLo, pathSt_onPath pathSt_path]
  exact get_set_same

@[simp] theorem latch_latchHi : Kv.get ((s.latchHi p a w).pathSt p).latch (a + 4) = some w := by
  rw [State.latchHi, pathSt_onPath pathSt_path]
  exact get_set_same

/-- A read of TB_NOW_SEC_LO latches TB_NOW_SEC_HI as it stands at that instant (R332). -/
theorem latch_latchNow :
    Kv.get ((s.latchNow p).pathSt p).latch Reg.TB_NOW_SEC_HI = some (s.viewReg Reg.TB_NOW_SEC_HI) := by
  simp only [State.latchNow, List.foldl_cons, List.foldl_nil]
  rw [pathSt_onPath pathSt_path, get_set_other (by decide), pathSt_onPath pathSt_path, get_set_other (by decide),
    pathSt_onPath pathSt_path, get_set_same]

/-! ### Writes of a pair (R15) -/

@[simp] theorem inv_stageLo (h : Inv s) : Inv (s.stageLo p a w) :=
  inv_of_keeps h (stageLo_keeps .refl trivial)

@[simp] theorem inv_unstage (h : Inv s) : Inv (s.unstage p a) :=
  inv_of_keeps h (unstage_keeps .refl trivial)

theorem stagedLo_stageLo : (s.stageLo p a w).stagedLo p a = w := by
  simp [State.stagedLo]

theorem stagedLo_of_none (h : Kv.get (s.pathSt p).staged a = none) : s.stagedLo p a = s.reg a := by
  simp [State.stagedLo, h]

/-- A commit leaves in LO the half that was staged, or the one that stood. -/
theorem reg_commitPair_lo (h : Inv s) : (s.commitPair p a w).reg a = s.stagedLo p a := by
  have hu : Inv (s.unstage p a) := inv_unstage h
  rw [State.commitPair, reg_setReg_other (inv_setReg hu) (by omega), reg_setReg_same hu]

theorem reg_commitPair_hi (h : Inv s) : (s.commitPair p a w).reg (a + 4) = w :=
  reg_setReg_same (inv_setReg (inv_unstage h))

/-! ### Reads of a pair (R15, R332) -/

theorem readHi_of_latched {now : Word} (h : Kv.get (s.pathSt p).latch a = some w) : (s.readHi p a now).1 = w := by
  simp [State.readHi, h]

theorem readHi_of_not_latched {now : Word} (h : Kv.get (s.pathSt p).latch a = none) :
    (s.readHi p a now).1 = now := by
  simp [State.readHi, h]

/-- No register of the instant but TB_NOW_SEC_LO is the LO half of a pair. -/
theorem not_now_of_isLo (h : RegMap.isLo a = true) :
    ¬ (a = Reg.TB_NOW_SEC_HI ∨ a = Reg.TB_NOW_NS ∨ a = Reg.TB_NOW_FRAC) := by
  rintro (rfl | rfl | rfl) <;> exact absurd h (by decide)

/-- A read of LO answers what stands there. -/
theorem readReg_lo (hl : RegMap.isLo a = true) (hg : a ≠ Reg.GLB_GPIO_IN) : (s.readReg p a).1 = s.viewReg a := by
  by_cases hn : a = Reg.TB_NOW_SEC_LO
  · simp [State.readReg, hn]
  · simp [State.readReg, hn, not_now_of_isLo hl, hg, hl]

/-- A read of LO latches HI for its path. -/
theorem latch_readReg_lo (hl : RegMap.isLo a = true) (hg : a ≠ Reg.GLB_GPIO_IN) :
    Kv.get ((s.readReg p a).2.pathSt p).latch (a + 4) = some (s.viewReg (a + 4)) := by
  by_cases hn : a = Reg.TB_NOW_SEC_LO
  · subst hn
    exact latch_latchNow
  · simp [State.readReg, hn, not_now_of_isLo hl, hg, hl]

/-- A read of HI takes the latched half, or what stands where there is none. -/
theorem readReg_hi (hl : RegMap.isLo a = true) (hh : RegMap.isLo (a + 4) = false) (hg : a + 4 ≠ Reg.GLB_GPIO_IN)
    (hn : a + 4 ≠ Reg.TB_NOW_SEC_LO) : s.readReg p (a + 4) = s.readHi p (a + 4) (s.viewReg (a + 4)) := by
  simp [State.readReg, hl, hh, hg, hn]

/-- Settles O59: LO latches and stages under the key of its path, and HI takes up what stands there. -/
theorem pairsLatchAndStage : Obligations.PairsLatchAndStage := by
  unfold Obligations.PairsLatchAndStage
  refine ⟨fun p a s v hl hh hg hg' hn hv => ⟨readReg_lo hl hg, ?_⟩, fun p a s hl hh _ hg' hn h => ?_,
    fun _ _ _ _ => onPath_regs, fun p a lo hi s h => ⟨?_, reg_commitPair_hi (inv_stageLo h)⟩,
    fun p a hi s h hs => ⟨?_, reg_commitPair_hi h⟩⟩
  · have hlatch : Kv.get (v.pathSt p).latch (a + 4) = some (s.viewReg (a + 4)) := by
      rw [hv, latch_readReg_lo hl hg]
    rw [readReg_hi hl hh hg' hn, readHi_of_latched hlatch]
  · rw [readReg_hi hl hh hg' hn, readHi_of_not_latched h]
  · rw [reg_commitPair_lo (inv_stageLo h), stagedLo_stageLo]
  · rw [reg_commitPair_lo h, stagedLo_of_none hs]

/-! ### Writes by access code (R12, R15) -/

/-- No pair begins at address 0, so the HI half of a pair lies 4 above its LO half. -/
theorem lo_add_four_of_isLo (h : RegMap.isLo (a - 4) = true) : a - 4 + 4 = a := by
  rcases Nat.lt_or_ge a 4 with ha | ha
  · rw [Nat.sub_eq_zero_of_le ha.le] at h
    exact absurd h (by decide)
  · exact Nat.sub_add_cancel ha

variable {d : RegMap.RegDesc} {k : Nat}

/-- A write changes nothing in a register whose code stores no written bit. -/
theorem fieldWrite_unstored (hf : RegMap.find a = some (d, k))
    (hd : d.access = .ro ∨ d.access = .roh ∨ d.access = .wo) : s.fieldWrite p a w = s := by
  rcases hd with hd | hd | hd <;> simp [State.fieldWrite, hf, hd]

/-- A write of a register of code RW or W1C goes by its place in a pair. -/
theorem fieldWrite_stored (hf : RegMap.find a = some (d, k)) (hd : d.access = .rw ∨ d.access = .w1c) :
    s.fieldWrite p a w = if RegMap.isLo a then s.loWrite p a w d
      else if RegMap.isLo (a - 4) then s.hiWrite p (a - 4) w d else s.plainWrite p a w d := by
  rcases hd with hd | hd <;> simp [State.fieldWrite, hf, hd]

theorem plainWrite_of_no_rwl (h : d.rwl = 0) : s.plainWrite p a w d =
    s.setRegN a (under32 d.rw (s.regN a) w.toNat &&& (0xFFFFFFFF ^^^ (w.toNat &&& d.w1c))) := by
  simp [State.plainWrite, State.writable, State.lockFlag, h]

theorem loWrite_of_writable (h : s.writable d ≠ 0) : s.loWrite p a w d = s.stageLo p a w :=
  if_neg h

theorem hiWrite_of_writable (h : s.writable d ≠ 0) : s.hiWrite p a w d =
    s.commitPair p a (BitVec.ofNat 32 (under32 (s.writable d) (s.regN (a + 4)) w.toNat)) :=
  if_neg h

/-! ### One write of one cycle (R668, R672, R677) -/

/-- A write alone in its cycle acts as a write, whether or not it commits a pair. -/
theorem pairWrites_single {x : Path × Word} : s.pairWrites a [x] = s.wordWrite a x := by
  cases hc : s.commits x.1 a <;> simp [State.pairWrites, hc, firstRank]

theorem exec_registerWrite_single {x : Path × Word} {hw : Word} :
    exec (.registerWrite a [x] hw) s = .next ((s.wordWrite a x).hwSets a hw) := by
  change execRegisterWrite a [x] hw s = _
  simp [execRegisterWrite, pairWrites_single]

/-- An access that is done, to a register that no rule and no shadow group claims, is a write by access code. -/
theorem wordWrite_field (hacc : s.access p a = .ok) (hreg : a < 0x01000000)
    (hspi : p = .spi → s.flag Reg.MGT_CFG Fld.MGT_CFG_SPI_RO = true → spiMay a = true)
    (hrule : s.ruleWrite p none a w = none) (hsh : s.shadowed a = none) :
    s.wordWrite a (p, w) = (s.fieldWrite p a w).answer p .ok := by
  have hro : ¬ (p = .spi ∧ s.flag Reg.MGT_CFG Fld.MGT_CFG_SPI_RO = true ∧ ¬ spiMay a = true) :=
    fun ⟨hp, hf, hm⟩ => hm (hspi hp hf)
  simp only [State.wordWrite, State.busWrite, hacc, if_neg hro, if_pos hreg, State.regWrite, hrule, hsh]

/-- Settles O10: the write reaches the register by its access code, which gives the four outcomes. -/
theorem registerWritesTakeEffect : Obligations.RegisterWritesTakeEffect := by
  unfold Obligations.RegisterWritesTakeEffect
  refine ⟨fun a p w hw d k s hacc hreg hspi hrule hsh hf hd hl hh hrwl => ?_,
    fun a p w hw d k s hacc hreg hspi hrule hsh hf hd => ?_,
    fun a p w hw d k s hacc hreg hspi hrule hsh hf hd hl _ hm => ?_,
    fun a p w hw d k s hacc hreg hspi hrule hsh hf hd hl hh hm => ?_⟩ <;>
  rw [exec_registerWrite_single, wordWrite_field hacc hreg hspi hrule hsh]
  · rw [fieldWrite_stored hf hd, hl, hh, if_neg (by decide), if_neg (by decide), plainWrite_of_no_rwl hrwl]
  · rw [fieldWrite_unstored hf hd]
  · rw [fieldWrite_stored hf (.inl hd), hl, if_pos rfl, loWrite_of_writable hm]
  · rw [fieldWrite_stored hf (.inl hd), hl, hh, if_neg (by decide), if_pos rfl, hiWrite_of_writable hm,
      lo_add_four_of_isLo hh]

end Sys2Proof.Proofs
end

section
/-! Scope: AVS changes of a cluster (spec/01_architecture.md, R26, R182). The changes in progress stand in `ver.avs`,
which the votes that are tried again at the end of a change leave as it was. -/

namespace Sys2Proof.Proofs

open Sys2Proof.Machine Sys2Proof.Safety Sys2Proof.Laws

variable {s : State}

/-- What each pass of a loop leaves as it was, the loop leaves as it was. -/
theorem foldl_same {α β : Type} (π : State → β) {f : State → α → State} {l : List α}
    (h : ∀ t x, π (f t x) = π t) : π (l.foldl f s) = π s :=
  List.foldlRecOn (motive := fun t => π t = π s) l f rfl fun t ht x _ => (h t x).trans ht

/-! ### The changes in progress, after work on engines, contexts and entries -/

@[simp] theorem onEngine_avs {e : Nat} {f : Engine → Engine} : (s.onEngine e f).ver.avs = s.ver.avs := by
  unfold State.onEngine
  split <;> rfl

@[simp] theorem onCtx_avs {t : TileId} {f : TileCtx → TileCtx} : (s.onCtx t f).ver.avs = s.ver.avs := rfl

@[simp] theorem dropCtx_avs {t : TileId} : (s.dropCtx t).ver.avs = s.ver.avs := rfl

@[simp] theorem release_avs {t : TileId} {p : Role → Bool} : (s.release t p).ver.avs = s.ver.avs := rfl

@[simp] theorem freeHeld_avs {t : TileId} : (s.freeHeld t).ver.avs = s.ver.avs := rfl

@[simp] theorem freeBins_ver {t : TileId} : (s.freeBins t).ver = s.ver := rfl

@[simp] theorem parkCheck_avs {e : Nat} : (s.parkCheck e).ver.avs = s.ver.avs := by
  unfold State.parkCheck
  dsimp only
  (repeat' split) <;> simp

@[simp] theorem startRole_avs {t : TileId} {e : Nat} {r : Role} : (s.startRole t e r).ver.avs = s.ver.avs := by
  simp [State.startRole]

@[simp] theorem store_ver {q a : Nat} {bs : List Byte} : (s.store q a bs).ver = s.ver :=
  (store_keeps (F := (· ≠ .ver)) .refl (by simp)).same .ver (· rfl)

@[simp] theorem putEntry_avs {c : CommitEntry} : (s.putEntry c).ver.avs = s.ver.avs := rfl

@[simp] theorem storeEntry_avs {c : CommitEntry} : (s.storeEntry c).ver.avs = s.ver.avs := by
  unfold State.storeEntry
  dsimp only
  split <;> simp

@[simp] theorem blankQuiet_avs {t : TileId} {cause : Nat} : (s.blankQuiet t cause).ver.avs = s.ver.avs := by
  unfold State.blankQuiet
  dsimp only
  (repeat' split) <;> simp

@[simp] theorem blankEntries_ver {t : TileId} {cause : Nat} : (s.blankEntries t cause).ver = s.ver :=
  (blankEntries_keeps (F := (· ≠ .ver)) .refl (by simp)).same .ver (· rfl)

@[simp] theorem blankTile_avs {t : TileId} {cause : Nat} : (s.blankTile t cause).ver.avs = s.ver.avs := by
  simp [State.blankTile]

@[simp] theorem redoRow_avs {q : RowId} : (s.redoRow q).ver.avs = s.ver.avs :=
  foldl_same (·.ver.avs) fun _ _ => release_avs

/-! ### Votes -/

@[simp] theorem noMajority_avs {t : TileId} : (s.noMajority t).ver.avs = s.ver.avs := by
  unfold State.noMajority
  split
  · rfl
  · dsimp only
    split <;> simp

@[simp] theorem startVote_avs {t : TileId} : (s.startVote t).ver.avs = s.ver.avs := by
  unfold State.startVote
  (repeat' split) <;> simp

@[simp] theorem voteOn_avs {t : TileId} : (s.voteOn t).ver.avs = s.ver.avs := by
  unfold State.voteOn
  (repeat' split) <;> simp

@[simp] theorem retryVotes_avs : s.retryVotes.ver.avs = s.ver.avs :=
  foldl_same (·.ver.avs) fun _ _ => voteOn_avs

/-! ### Beginning and end of a change -/

theorem avsBegin_of_busy {n mhz : Nat} (h : s.avsBusy n = true) : s.avsBegin n mhz = s := by
  simp [State.avsBegin, h]

theorem avsBegin_avs {n mhz : Nat} (h : s.avsBusy n = false) :
    (s.avsBegin n mhz).ver.avs = s.ver.avs ++ [(n, min (max mhz 800) (s.avsTop n), s.clk.ticks)] := by
  simp [State.avsBegin, h]

@[simp] theorem avsEnd_avs {n : Nat} : (s.avsEnd n).ver.avs = s.ver.avs.filter fun a => a.1 != n := rfl

@[simp] theorem setClk_ver {n mhz : Nat} : (s.setClk n mhz).ver = s.ver := rfl

/-- Settles O17: no step of a change's end but the end itself writes the list of changes. -/
theorem avsChanges : Obligations.AvsChanges := by
  unfold Obligations.AvsChanges
  refine ⟨fun s n mhz hb => ⟨_, rfl, avsBegin_avs hb⟩,
    fun s n mhz hb => congrArg Host.Outcome.next (avsBegin_of_busy hb), fun s n mhz k hf hb => ?_, fun s n hb => ?_⟩
  · have hexec : exec (.avsSettled n) s =
        .next (((s.avsEnd n).setClk n mhz).count (Reg.CE_CL_AVS_CHANGES n.val) 1).retryVotes := by
      change execAvsSettled n s = _
      simp [execAvsSettled, hf, hb]
    exact ⟨_, hexec, by simp⟩
  · exact ⟨_, if_pos hb, by simp⟩

end Sys2Proof.Proofs
end

section
/-! Scope: ESTOP_N (spec/01_architecture.md, R41; R271, R304, R306, R460): what an ESTOP leaves held, disabled and empty,
and what its release starts. -/

namespace Sys2Proof.Proofs

open Sys2Proof.Machine Sys2Proof.Safety Sys2Proof.Laws

variable {s t : State}

/-! ### What the module holds of ESTOP_N, through the stop of a swath (R271) -/

/-- The level of ESTOP_N, the tick at which it returned high and the ESTOP instant. -/
def estopPin (g : Geyser) : Bool × Option Nat × Nat := (g.estop, g.estopHigh, g.estopAt)

@[simp] theorem onSwath_estopPin {q i : Nat} {f : Swath → Swath} : estopPin (s.onSwath q i f).gy = estopPin s.gy := rfl

@[simp] theorem recWrite_gy {o : Nat} {bs : List Byte} : (s.recWrite o bs).gy = s.gy :=
  (recWrite_keeps (F := (· ≠ .gy)) .refl (by simp)).same .gy (· rfl)

@[simp] theorem blockMissing_gy {q : Nat} : (s.blockMissing q).gy = s.gy :=
  (blockMissing_keeps (F := (· ≠ .gy)) .refl (by simp)).same .gy (· rfl)

/-- `t` holds of ESTOP_N what `s` holds. -/
structure EstopKept (s t : State) : Prop where
  pin : estopPin t.gy = estopPin s.gy

theorem EstopKept.gy {u : State} (h : EstopKept s t) (e : u.gy = t.gy) : EstopKept s u :=
  ⟨(congrArg estopPin e).trans h.pin⟩

theorem EstopKept.onSwath {q i : Nat} {f : Swath → Swath} (h : EstopKept s t) : EstopKept s (t.onSwath q i f) :=
  ⟨h.pin⟩

theorem EstopKept.stored {r : List LayerRec} {b : List StoredBlock} (h : EstopKept s t) :
    EstopKept s { t with recs := r, blocks := b } :=
  ⟨h.pin⟩

theorem putBlock_estopKept {k fl p q i n a z : Nat} {d : List Byte} : EstopKept s (s.putBlock k fl p q i n a z d) := by
  unfold State.putBlock
  split
  · exact ⟨rfl⟩
  · extract_lets ofs limit crc
    split
    extract_lets fits fl body all s1 s2 s3 s4
    have h1 : EstopKept s s1 := ⟨congrArg estopPin (setPair_gy.trans recWrite_gy)⟩
    have h2 : EstopKept s s2 := h1.stored
    clear_value s2
    have h3 : EstopKept s s3 := by
      unfold s3
      split
      · exact h2.gy count_gy
      · exact h2
    clear_value s3
    split
    · exact h3
    · exact h3.onSwath.gy blockMissing_gy

@[simp] theorem putBlock_estopPin {k fl p q i n a z : Nat} {d : List Byte} :
    estopPin (s.putBlock k fl p q i n a z d).gy = estopPin s.gy :=
  putBlock_estopKept.pin

@[simp] theorem flushEvs_estopPin {q i : Nat} : estopPin (s.flushEvs q i).gy = estopPin s.gy := by
  unfold State.flushEvs
  (repeat' split) <;> simp

@[simp] theorem swathEv_estopPin {q i : Nat} {e : EvEntry} : estopPin (s.swathEv q i e).gy = estopPin s.gy := by
  unfold State.swathEv
  (repeat' split) <;> simp

/-- The entries of one row, event or head after another. -/
theorem foldl_estopPin {α : Type} {f : State → α → State} {l : List α} (h : ∀ t x, estopPin (f t x).gy = estopPin t.gy) :
    estopPin (l.foldl f s).gy = estopPin s.gy :=
  foldl_same (fun t => estopPin t.gy) h

@[simp] theorem stopEntries_estopPin {w : Swath} {e : SwathEntry} {c : Nat} :
    estopPin (s.stopEntries w e c).gy = estopPin s.gy := by
  unfold State.stopEntries
  split
  · simp
  · extract_lets s1
    have h1 : estopPin s1.gy = estopPin s.gy := by
      unfold s1
      refine foldl_estopPin fun t r => ?_
      split
      · exact foldl_estopPin fun _ _ => swathEv_estopPin
      · rfl
    split
    · refine (foldl_estopPin fun t i => ?_).trans h1
      split
      · exact foldl_estopPin fun _ _ => swathEv_estopPin
      · rfl
    · exact h1

@[simp] theorem flushData_estopPin {q i : Nat} {f : Nat → Nat} {d : DataAcc} :
    estopPin (s.flushData q i f d).gy = estopPin s.gy := by
  unfold State.flushData
  dsimp only
  split <;> simp

@[simp] theorem closeSwathRec_estopPin {q i n c : Nat} : estopPin (s.closeSwathRec q i n c).gy = estopPin s.gy := by
  have hflush : ∀ {l : List DataAcc} {f : Nat → Nat},
      estopPin (l.foldl (fun t d => t.flushData q i f d) s).gy = estopPin s.gy :=
    foldl_estopPin fun _ _ => flushData_estopPin
  unfold State.closeSwathRec
  dsimp only
  (repeat' split) <;> simp [hflush]

@[simp] theorem swathCacheEnd_gy {q i : Nat} : (s.swathCacheEnd q i).gy = s.gy :=
  (swathCacheEnd_keeps (F := (· ≠ .gy)) .refl (by simp)).same .gy (· rfl)

/-- A swath that leaves the field closes its record, and is in flight no more (R268). -/
theorem swathLeave_gy {q i n c : Nat} : (s.swathLeave q i n c).gy =
    { ((s.swathCacheEnd q i).closeSwathRec q i (n / 65536 % 2 ^ 64) c).gy with
      swaths := ((s.swathCacheEnd q i).closeSwathRec q i (n / 65536 % 2 ^ 64) c).gy.swaths.filter fun w =>
        !(w.layer == q && w.idx == i)
      lastEnd := some n } := by
  unfold State.swathLeave
  extract_lets s1 v1 g1 s2 s3 s4
  have h4 : Keeps (¬ · = .gy) s2 s4 := by
    unfold s4 s3
    clear_value s2
    simp [Keeps.refl]
  clear_value s4
  have hlast : Keeps (¬ · = .gy) s2 (((s4.showRec q).onLayer q fun l => { l with ended := l.ended + 1 }).layerLeave
      q).hardsToHeld.deferredShift.toEnumChecks.loadChecks.wakeWriters := by
    simp (maxDischargeDepth := 60) [h4]
  exact hlast.same .gy (· rfl)

@[simp] theorem swathLeave_estopPin {q i n c : Nat} : estopPin (s.swathLeave q i n c).gy = estopPin s.gy := by
  rw [swathLeave_gy]
  exact closeSwathRec_estopPin.trans (congrArg estopPin swathCacheEnd_gy)

/-! ### What no stop of a swath writes (R271) -/

/-- `π` shows nothing of what a stop of a swath, and the AUX_MOVE chain that follows it, write. -/
structure StopBlind {β : Type} (π : State → β) : Prop where
  entries : ∀ {s w e c}, π (State.stopEntries s w e c) = π s
  leave : ∀ {s q i n c}, π (State.swathLeave s q i n c) = π s
  auxOf : ∀ {s a}, π { s with gy := { s.gy with auxOf := a } } = π s
  chain : ∀ {s x i aux}, π (State.startChain s x i aux) = π s
  rest : ∀ {s t}, Keeps (fun p => ¬ p = .gy ∧ ¬ p = .motion) s t → π t = π s

section
variable {β : Type} {π : State → β} (hπ : StopBlind π)
include hπ

theorem stopOne_blind {w : Swath} {c : Nat} : π (s.stopOne w c) = π s := by
  unfold State.stopOne
  split
  · rfl
  next e _ =>
    extract_lets s1 s2 s3 s4 endAt
    have h4 : Keeps (fun p => ¬ p = .gy ∧ ¬ p = .motion) s1 s4 := by
      unfold s4 s3 s2
      clear_value s1
      simp (maxDischargeDepth := 60) +contextual [Keeps.refl]
    calc π (s4.swathLeave w.layer w.idx endAt c) = π s4 := hπ.leave
      _ = π s1 := hπ.rest h4
      _ = π s := hπ.entries

theorem stopLayer_blind {q : Nat} : π (s.stopLayer q) = π s := by
  unfold State.stopLayer
  extract_lets s1 ws s2
  calc π ((s2.dropRows fun r => r.layer == q && (s2.swath q r.swath).isNone).layerLeave q) = π s2 :=
        hπ.rest (layerLeave_keeps (dropRows_keeps .refl (by simp)) (by simp))
    _ = π s1 := foldl_same π fun _ _ => stopOne_blind hπ
    _ = π s := hπ.rest (onLayer_keeps .refl (by simp))

theorem stopSwath_blind {w : Swath} {c : Nat} : π (s.stopSwath w c) = π s := by
  have hmark : ∀ {f : Layer → Layer}, π (s.onLayer w.layer f) = π s := hπ.rest (onLayer_keeps .refl (by simp))
  unfold State.stopSwath
  dsimp only
  split
  · exact stopOne_blind hπ
  · exact (stopLayer_blind hπ).trans ((stopOne_blind hπ).trans hmark)

theorem stopFiring_blind {c : Nat} : π (s.stopFiring c) = π s :=
  foldl_same π fun _ _ => stopSwath_blind hπ

theorem recFullCheck_blind : π s.recFullCheck = π s := by
  unfold State.recFullCheck
  dsimp only
  (repeat' split)
  · exact hπ.rest (setFld_keeps .refl (by simp))
  · rfl
  · exact (stopFiring_blind hπ).trans (hπ.rest (raise_keeps (setFld_keeps .refl (by simp)) (by simp)))
  · rfl

theorem auxNext_blind {j : Option Nat} : π (s.auxNext j) = π s := by
  unfold State.auxNext
  dsimp only
  (repeat' split)
  · rfl
  · rfl
  · exact hπ.auxOf
  · exact hπ.auxOf
  · exact hπ.chain.trans hπ.auxOf

theorem settleStop_blind : π (State.settleStop t s) = π s := by
  refine (foldl_same π fun u w => ?_).trans (recFullCheck_blind hπ)
  split
  · rfl
  · exact auxNext_blind hπ

end

theorem stopBlind_estopPin : StopBlind fun s => estopPin s.gy where
  entries := stopEntries_estopPin
  leave := swathLeave_estopPin
  auxOf := rfl
  chain := congrArg estopPin ((startChain_keeps (F := (· ≠ .gy)) .refl (by simp)).same .gy (· rfl))
  rest k := congrArg estopPin (k.same .gy (by simp))

/-! ### Fields of one register -/

theorem fld_setFld_ne {a b v : Nat} {f g : Field} (h : b ≠ a) : (s.setFld a f v).fld b g = s.fld b g :=
  congrArg g.get (getD_put_other h)

theorem fld_setFld_self {a v : Nat} {f : Field} (hf : f.lo + f.width ≤ 32) :
    (s.setFld a f v).fld a f = v % 2 ^ f.width :=
  (congrArg f.get getD_put_same).trans (Field.get_put hf)

theorem fld_setFld_apart {a v : Nat} {f g : Field} (hf : f.lo + f.width ≤ 32)
    (hg : g.lo + g.width ≤ f.lo ∨ f.lo + f.width ≤ g.lo) : (s.setFld a f v).fld a g = s.fld a g :=
  (congrArg g.get getD_put_same).trans (Field.get_put_other hf hg)

/-! ### The state of an axis (R463) -/

variable {x y : Nat}

theorem axState_of_reg (h : t.reg (Reg.MP_AX_STATUS x) = s.reg (Reg.MP_AX_STATUS x)) : t.axState x = s.axState x :=
  congrArg Fld.MP_AX_STATUS_STATE.get h

/-- A register that shows the state of no axis. -/
theorem axState_setFld_ne {a v : Nat} {f : Field} (h : Reg.MP_AX_STATUS x ≠ a) : (s.setFld a f v).axState x = s.axState x :=
  fld_setFld_ne h

theorem axState_setFld_apart {v : Nat} {f : Field} (hf : f.lo + f.width ≤ 32) (hs : 3 ≤ f.lo) :
    (s.setFld (Reg.MP_AX_STATUS y) f v).axState x = s.axState x := by
  by_cases h : x = y
  · subst h
    exact fld_setFld_apart hf (.inl hs)
  · exact axState_setFld_ne (by simp only [Reg.MP_AX_STATUS]; omega)

theorem axState_setAx {st ph : Nat} : (s.setAx y st ph).axState x = if x = y then st % 8 else s.axState x := by
  rw [State.setAx, axState_setFld_apart (by decide) (by decide)]
  split
  · subst_vars
    exact fld_setFld_self (by decide)
  · exact axState_setFld_ne (by simp only [Reg.MP_AX_STATUS]; omega)

theorem axState_genIdle : (s.genIdle y).axState x = s.axState x :=
  axState_of_reg (reg_of_regs ((genIdle_keeps (F := (· ≠ .regs)) .refl (by simp)).same .regs (· rfl)) _)

theorem axState_onServo {f : Servo → Servo} : (s.onServo y f).axState x = s.axState x :=
  axState_of_reg (reg_of_regs (by simp) _)

theorem axState_setSv {st : Nat} : (s.setSv y st).axState x = s.axState x := by
  unfold State.setSv
  split
  · exact axState_setFld_ne (by simp only [Reg.MP_AX_STATUS, Reg.SV_AX_STATUS]; omega)
  · rfl

theorem axState_setEn {on : Bool} : (s.setEn y on).axState x = s.axState x := by
  unfold State.setEn
  split
  · exact axState_setFld_ne (by simp only [Reg.MP_AX_STATUS, Reg.STP_STATUS]; omega)
  · rfl

theorem axState_aoutZero : (s.aoutZero y).axState x = s.axState x := by
  unfold State.aoutZero
  split
  · exact axState_of_reg (getD_put_other (by simp only [Reg.MP_AX_STATUS, Reg.SV_AX_OUT]; omega))
  · rfl

theorem axState_disableAxis : (s.disableAxis y).axState x = if x = y then 0 else s.axState x := by
  rw [State.disableAxis, axState_aoutZero, axState_setEn, axState_setSv, axState_setAx, axState_genIdle]

theorem axState_injAbort : (s.injAbort y).axState x = s.axState x := by
  unfold State.injAbort
  split
  · rw [State.event, axState_setFld_ne (by simp only [Reg.MP_AX_STATUS, Reg.SV_AX_EVENT]; omega),
      axState_setFld_ne (by simp only [Reg.MP_AX_STATUS, Reg.SV_AX_STATUS]; omega), axState_onServo]
  · exact axState_onServo

/-- ESTOP disables the axis it acts on, and no other (R460). -/
theorem axState_estopAxis : (s.estopAxis y).axState x = if x = y then 0 else s.axState x := by
  unfold State.estopAxis
  extract_lets was s1 s2 s3
  have h1 : s1.axState x = s.axState x := by
    unfold s1
    split
    · exact axState_setFld_apart (by decide) (by decide)
    · rfl
  have h2 : s2.axState x = if x = y then 0 else s.axState x := (axState_disableAxis).trans (by rw [h1])
  have h3 : s3.axState x = if x = y then 0 else s.axState x := by
    unfold s3
    split
    · exact h2
    · exact (axState_setFld_apart (by decide) (by decide)).trans h2
  clear_value s3
  split
  · rw [axState_setSv, axState_injAbort, h3]
  · exact (axState_setFld_apart (by decide) (by decide)).trans h3

/-- Every axis that ESTOP acts on is DISABLED in the end. -/
theorem axState_foldl_estopAxis {l : List Nat} (h : x ∈ l ∨ s.axState x = 0) :
    (l.foldl (fun s y => s.estopAxis y) s).axState x = 0 := by
  induction l generalizing s with
  | nil => simpa using h
  | cons y l ih =>
    refine ih ?_
    rw [axState_estopAxis]
    grind

/-! ### The queues of the head ports -/

theorem inv_onPort {p : Nat} {f : Port → Port} (h : Inv s) : Inv (s.onPort p f) :=
  inv_of_keeps h (onPort_keeps .refl trivial)

theorem queue_foldl_onPort {l : List Nat} {p : Fin 6} (hi : Inv s) (h : p.val ∈ l ∨ (s.port p).queue = []) :
    ((l.foldl (fun s p => s.onPort p fun x => { x with queue := [] }) s).port p).queue = [] := by
  induction l generalizing s with
  | nil => simpa using h
  | cons q l ih =>
    refine ih (inv_onPort hi) ?_
    by_cases e : p.val = q
    · subst e
      exact .inr (congrArg Port.queue (port_onPort_same (inv_port hi p)))
    · rw [port_onPort_other e]
      simpa [e] using h

/-! ### A stop that finds no swath in flight (R271, R562) -/

theorem stopFiring_none {c : Nat} (h : s.stoppable c = []) : s.stopFiring c = s := by
  rw [State.stopFiring, h]
  rfl

theorem stoppable_of_swaths {c : Nat} (h : t.gy.swaths = s.gy.swaths) : t.stoppable c = s.stoppable c := by
  rw [State.stoppable, h, State.stoppable]

theorem stoppable_host_none (h : s.stoppable 1 = []) : s.stoppable 3 = [] := by
  rw [State.stoppable, List.filter_eq_nil_iff] at h ⊢
  exact fun w hw => by
    have hw := h w hw
    simp_all

/-- With no swath to stop, the check of R562 shows and raises RECORD_FULL, or lifts it, and does no more. -/
theorem recFullCheck_cases (h : s.stoppable 3 = []) : s.recFullCheck = s ∨
    s.recFullCheck = s.setFld Reg.CMP_STATUS Fld.CMP_STATUS_FULL 0 ∨
    s.recFullCheck = (s.setFld Reg.CMP_STATUS Fld.CMP_STATUS_FULL 1).raise .stopping Reg.CMP_EVENT
      Fld.CMP_EVENT_FULL 0 unitCmp := by
  have hstop : ((s.setFld Reg.CMP_STATUS Fld.CMP_STATUS_FULL 1).raise .stopping Reg.CMP_EVENT Fld.CMP_EVENT_FULL 0
      unitCmp).stopFiring 3 = (s.setFld Reg.CMP_STATUS Fld.CMP_STATUS_FULL 1).raise .stopping Reg.CMP_EVENT
      Fld.CMP_EVENT_FULL 0 unitCmp :=
    stopFiring_none ((stoppable_of_swaths (by simp)).trans h)
  unfold State.recFullCheck
  dsimp only
  rw [hstop]
  (repeat' split) <;> simp

/-- What a check that finds no swath to stop leaves: Geyser, the head ports and the axes. -/
theorem recFullCheck_none (hi : Inv s) (h : s.stoppable 3 = []) : s.recFullCheck.gy = s.gy ∧ s.recFullCheck.hp = s.hp ∧
    ∀ x : Fin 6, s.recFullCheck.axState x = s.axState x := by
  have hne : ∀ x : Fin 6, Reg.MP_AX_STATUS x ≠ Reg.CMP_STATUS := by decide
  rcases recFullCheck_cases h with e | e | e <;> rw [e]
  · exact ⟨rfl, rfl, fun _ => rfl⟩
  · exact ⟨rfl, rfl, fun x => axState_setFld_ne (hne x)⟩
  · refine ⟨by simp, by simp, fun x => ?_⟩
    have hraise := reg_raise (c := .stopping) (ev := Reg.CMP_EVENT) (f := Fld.CMP_EVENT_FULL) (k := 0) (u := unitCmp)
      (a := Reg.MP_AX_STATUS x) (inv_setFld (a := Reg.CMP_STATUS) (v := 1) (f := Fld.CMP_STATUS_FULL) hi)
      (by simp only [Reg.MP_AX_STATUS]; omega) (by simp only [Reg.MP_AX_STATUS, Reg.CMP_EVENT]; omega)
    exact (axState_of_reg hraise).trans (axState_setFld_ne (hne x))

theorem settleStop_none (h : t.stoppable 1 = []) : State.settleStop t s = s.recFullCheck := by
  rw [State.settleStop, h]
  rfl

/-! ### The commands -/

/-- ESTOP before it stops the swaths: the level held from its instant on, the ESTOP sets out, the queues empty, the axes
DISABLED. -/
def estopActs (s : State) : State :=
  let held : State := { s with gy := { s.gy with estop := true, estopHigh := none, estopAt := s.now16, due := [] } }
  let shown := (held.setFld Reg.GY_STATUS Fld.GY_STATUS_ESTOP 1).estopSets
  let empty := (List.range 6).foldl (fun s p => s.onPort p fun x => { x with queue := [] }) shown
  (List.range 6).foldl (fun s x => s.estopAxis x) empty

theorem exec_estop (h : s.gy.estop = false) :
    exec .estop s = .next (State.settleStop s ((estopActs s).stopFiring 1)) :=
  if_neg (by simp [h])

theorem estopActs_gy : (estopActs s).gy = { s.gy with estop := true, estopHigh := none, estopAt := s.now16, due := [] } := by
  have haxes : ∀ u : State, ((List.range 6).foldl (fun s x => s.estopAxis x) u).gy = u.gy := fun u =>
    foldl_same (·.gy) fun _ _ => (estopAxis_keeps (F := (· ≠ .gy)) .refl (by simp)).same .gy (· rfl)
  have hports : ∀ u : State, ((List.range 6).foldl (fun s p => s.onPort p fun x => { x with queue := [] }) u).gy = u.gy :=
    fun u => foldl_same (·.gy) fun _ _ => onPort_gy
  have hsets : ∀ u : State, u.estopSets.gy = u.gy := fun u =>
    (estopSets_keeps (F := (· ≠ .gy)) .refl (by simp)).same .gy (· rfl)
  unfold estopActs
  dsimp only
  rw [haxes, hports, hsets, setFld_gy]

theorem inv_estopActs (h : Inv s) : Inv (estopActs s) := by
  refine inv_of_keeps h ?_
  unfold estopActs
  simp (maxDischargeDepth := 60) +contextual [Keeps.refl]

theorem estopActs_axState {x : Fin 6} : (estopActs s).axState x = 0 :=
  axState_foldl_estopAxis (.inl (by simp))

theorem estopActs_queue {p : Fin 6} (h : Inv s) : ((estopActs s).port p).queue = [] := by
  have haxes : ∀ u : State, ((List.range 6).foldl (fun s x => s.estopAxis x) u).hp = u.hp := fun u =>
    foldl_same (·.hp) fun _ _ => (estopAxis_keeps (F := (· ≠ .hp)) .refl (by simp)).same .hp (· rfl)
  unfold estopActs
  rw [State.port, haxes]
  refine queue_foldl_onPort ?_ (.inl (by simp))
  exact inv_of_keeps h (by simp (maxDischargeDepth := 60) [Keeps.refl])

/-- The release of ESTOP_N frees the servos whose pads are not held, in registers alone (R460). -/
theorem exec_estopRelease (h : s.gy.estop = true) : Next .estopRelease s fun t =>
    t.gy = { s.gy with estop := false, estopHigh := some s.clk.ticks } ∧ t.motion = s.motion := by
  have hservo : ∀ {t : State} {x : Nat}, (if Bits.bit (t.fld Reg.PWR_HOLD Fld.PWR_HOLD_AOUT) x then t else
      t.setSv x 0).gy = t.gy ∧ (if Bits.bit (t.fld Reg.PWR_HOLD Fld.PWR_HOLD_AOUT) x then t else
      t.setSv x 0).motion = t.motion := by
    intro t x
    unfold State.setSv
    (repeat' split) <;> exact ⟨rfl, rfl⟩
  exact ⟨_, if_neg (by simp [h]), foldl_same (·.gy) fun _ _ => hservo.1, foldl_same (·.motion) fun _ _ => hservo.2⟩

/-- Settles O19: what an ESTOP holds no stop of a swath writes, and with no swath in flight nothing but the check of the
record follows. -/
theorem estopHaltsAxesAndHeads : Obligations.EstopHaltsAxesAndHeads := by
  unfold Obligations.EstopHaltsAxesAndHeads
  refine ⟨fun s h => ⟨_, exec_estop h, ?_⟩, fun s x p hi h hn => ⟨_, exec_estop h, ?_⟩, fun s h => ?_, fun s h => ⟨?_, ?_⟩,
    fun s h => ?_, fun s h hn => ?_, fun s h => ?_⟩
  · have hpin := (settleStop_blind stopBlind_estopPin (t := s)).trans
      (stopFiring_blind stopBlind_estopPin (s := estopActs s) (c := 1))
    simpa [estopPin, estopActs_gy] using hpin
  · have hswaths : (estopActs s).gy.swaths = s.gy.swaths := by rw [estopActs_gy]
    have hnone : (estopActs s).stoppable 1 = [] := (stoppable_of_swaths hswaths).trans hn
    obtain ⟨hgy, hhp, hax⟩ := recFullCheck_none (inv_estopActs hi) (stoppable_host_none hnone)
    have hport : (estopActs s).recFullCheck.port p = (estopActs s).port p := by rw [State.port, hhp, State.port]
    rw [settleStop_none hn, stopFiring_none hnone]
    exact ⟨(hax x).trans estopActs_axState, (congrArg Port.queue hport).trans (estopActs_queue hi),
      (congrArg Geyser.swaths hgy).trans hswaths⟩
  · exact congrArg Host.Outcome.next (if_pos h)
  · exact congrArg Host.Outcome.next (if_neg (by simp [h]))
  · exact if_pos (by simp [h])
  · obtain ⟨t, ht, hgy, hm⟩ := exec_estopRelease h
    exact ⟨t, ht, by rw [hgy], by rw [hgy], hm⟩
  · exact if_neg (by simpa [Option.isSome_iff_ne_none.1 h] using hn)
  · exact if_pos (by simpa [Option.isNone_iff_eq_none] using h)

end Sys2Proof.Proofs
end

section
/-! Scope: the firing of swaths (spec/01_architecture.md, R41; R251, R252, R258, R261, R263, R270, R271, R273, R274):
the start a timed action gives, and the strobe that falls due. -/

namespace Sys2Proof.Proofs

open Sys2Proof.Machine Sys2Proof.Safety Sys2Proof.Laws

variable {s : State}

/-! ### The start (R308, R348, R350) -/

theorem startAction_of_ready {q a : Nat} {w : Swath} (hw : s.swath q (a % 65536) = some w) (ha : w.state = .armed)
    (hp : (w.ports.all fun p => s.portState p == 6) = true) : s.startAction q a = (true, s.swathStart w) := by
  simp only [State.startAction, hw]
  exact if_pos ⟨ha, hp⟩

/-- A start fails where no swath of that name is ARMED with all its ports READY. -/
theorem startAction_of_unready {q a : Nat} (h : ∀ w, s.swath q (a % 65536) = some w →
    w.state ≠ .armed ∨ (w.ports.all fun p => s.portState p == 6) = false) : s.startAction q a = (false, s) := by
  unfold State.startAction
  split
  next w hw =>
    refine if_neg fun ⟨ha, hp⟩ => ?_
    rcases h w hw with hn | hn
    · exact hn ha
    · exact absurd hp (by simp [hn])
  next => rfl

theorem exec_swathStartAction {d : TaDue} {ok : Bool} {u : State} (g : ActsNow s 1 d)
    (h : s.startAction (s.regN (Reg.TA_SLOT_ARG0 d.slot)) (s.regN (Reg.TA_SLOT_ARG1 d.slot)) = (ok, u)) :
    exec .swathStartAction s = .next (u.endAction d ok) := by
  change Host.Outcome.next (s.actOn 1) = _
  rw [actOn_due g (by decide), State.actEffect, h]

@[simp] theorem setSlot_gy {n v : Nat} : (s.setSlot n v).gy = s.gy := by unfold State.setSlot; simp

/-! ### The strobe (R261) -/

/-- When a pulse of port `p` due at `fire` rises: not sooner than 10 ns after the end of the one before. -/
def strobeRise (s : State) (p fire : Nat) : Nat :=
  match Kv.get s.gy.pulses p with
  | some r => max fire (r + ns16 (max (s.fld Reg.GY_CFG Fld.GY_CFG_STROBE_W) 8 + 10))
  | none => fire

theorem le_strobeRise {p fire : Nat} : fire ≤ strobeRise s p fire := by
  unfold strobeRise
  split
  · exact Nat.le_max_left _ _
  · exact Nat.le_refl _

/-- The state in which the pulse is given and due no more. -/
def strobeGiven (s : State) (p fire : Nat) : State :=
  ({ s with gy := { s.gy with
      due := s.gy.due.erase (p, fire), pulses := Kv.set s.gy.pulses p (strobeRise s p fire) } } : State).emit
    (.pulse p (strobeRise s p fire) (max (s.fld Reg.GY_CFG Fld.GY_CFG_STROBE_W) 8))

/-- The registers that show a pulse `late` after its fire time. -/
def strobeSlip (s : State) (late : Nat) : State :=
  let s := (s.count Reg.GY_STROBE_SLIPS 1).event Reg.GY_EVENT Fld.GY_EVENT_STROBE_SLIP
  s.setRegN Reg.GY_SLIP_MAX (max (s.regN Reg.GY_SLIP_MAX) (late / 1024))

/-- A due strobe is given; where it slips, registers alone show it. -/
theorem exec_strobePulse {p : Fin 6} {fire : Nat} (hd : s.gy.due.find? (fun d => d.1 == p.val) = some (p.val, fire))
    (he : s.gy.estop = false) (hf : fire ≤ s.now16) : Next (.strobePulse p) s fun t =>
      t.sent = (strobeGiven s p fire).sent ∧ t.gy = (strobeGiven s p fire).gy := by
  have hexec : exec (.strobePulse p) s = if strobeRise s p fire = fire then .next (strobeGiven s p fire)
      else .next (strobeSlip (strobeGiven s p fire) (strobeRise s p fire - fire)) := by
    change execStrobePulse p s = _
    simp only [execStrobePulse, hd, runTo_past hf]
    exact if_neg (by simp [he, hf])
  rw [Next, hexec]
  split
  · exact ⟨_, rfl, rfl, rfl⟩
  · exact ⟨_, rfl, by simp [strobeSlip], by simp [strobeSlip]⟩

/-- Under a low ESTOP_N no strobe is given. -/
theorem exec_strobePulse_estop {p : Fin 6} (he : s.gy.estop = true) :
    Next (.strobePulse p) s fun t => t.sent = s.sent ∧ t.gy = s.gy := by
  cases hd : s.gy.due.find? (fun d => d.1 == p.val) with
  | none => exact ⟨s, by change execStrobePulse p s = _; simp [execStrobePulse, hd], rfl, rfl⟩
  | some d =>
    exact ⟨s.runTo d.2, by change execStrobePulse p s = _; simp [execStrobePulse, hd, he], by simp, by simp⟩

/-! ### The statement -/

/-- Settles O26: each command takes the branch of its premises. -/
theorem firingSwaths : Obligations.FiringSwaths := by
  unfold Obligations.FiringSwaths
  refine ⟨fun bad s w l e hw hl he hk hfront hready => ?_, fun p s fire hd he hf => ?_,
    fun p s he => exec_strobePulse_estop he, fun s d w g hw ha hp => exec_swathStartAction g (startAction_of_ready hw ha hp),
    fun s d g hwait h => ⟨_, exec_swathStartAction g (startAction_of_unready h), ?_⟩, fun s w f hw hlast hf => ?_,
    fun s w h => ?_, fun s w h => ?_, fun p h s hhead hrun => if_pos ⟨hhead, hrun⟩, fun p h s hno => if_neg ?_⟩
  · change execLineLoad bad s = _
    simp only [execLineLoad, hw, hl, he]
    exact if_pos ⟨hk, hfront, hready⟩
  · obtain ⟨t, ht, hsent, hgy⟩ := exec_strobePulse hd he hf
    refine ⟨t, ht, strobeRise s p fire, le_strobeRise, hsent, ?_, by rw [hgy]; rfl⟩
    rw [hgy]
    exact get_set_same
  · rw [endAction_failed hwait]
    exact ⟨by simp, by simp [dropDue]⟩
  · change execSwathEndBoundary s = _
    simp only [execSwathEndBoundary, hw, hlast, Option.getD_some, runTo_past hf, if_neg (Nat.not_lt.2 hf)]
  · change Host.Outcome.next (s.settleStop (s.stopFiring 3)) = _
    rw [State.stopFiring, h]
    rfl
  · change execSwathStall s = _
    simp only [execSwathStall, h]
  · rintro ⟨hhead, hrun⟩
    rcases hno with hn | hn
    · exact Bool.false_ne_true (hn.symm.trans hhead)
    · exact Bool.false_ne_true (hn.symm.trans hrun)

end Sys2Proof.Proofs
end

section
/-! Scope: the instant of the latest feedback tick (R25, R470). A tick's operations, the stops and faults they bring
included, change much of `motion` and leave `tickAt` as it was. -/

namespace Sys2Proof.Proofs

open Sys2Proof.Machine Sys2Proof.Safety Sys2Proof.Laws

variable {s t : State} {x : Nat}

theorem motion_of_keeps (k : Keeps (¬ · = .motion) s t) : t.motion = s.motion := k.same .motion (· rfl)

theorem tickAt_of_keeps (k : Keeps (¬ · = .motion) s t) : t.motion.tickAt = s.motion.tickAt :=
  congrArg Motion.tickAt (motion_of_keeps k)

/-! ### Generators, sources, servo loops and compare units -/

@[simp] theorem onGen_tickAt {f : Gen → Gen} : (s.onGen x f).motion.tickAt = s.motion.tickAt := by
  unfold State.onGen
  split <;> rfl

@[simp] theorem onFb_tickAt {f : FbAxis → FbAxis} : (s.onFb x f).motion.tickAt = s.motion.tickAt := by
  unfold State.onFb
  split <;> rfl

@[simp] theorem onServo_tickAt {f : Servo → Servo} : (s.onServo x f).motion.tickAt = s.motion.tickAt := by
  unfold State.onServo
  split <;> rfl

@[simp] theorem onCmp_tickAt {f : Cmp → Cmp} : (s.onCmp x f).motion.tickAt = s.motion.tickAt := rfl

@[simp] theorem setAx_motion {st ph : Nat} : (s.setAx x st ph).motion = s.motion := rfl

@[simp] theorem setSv_motion {st : Nat} : (s.setSv x st).motion = s.motion :=
  motion_of_keeps (setSv_keeps .refl (by simp))

@[simp] theorem setEn_motion {on : Bool} : (s.setEn x on).motion = s.motion :=
  motion_of_keeps (setEn_keeps .refl (by simp))

@[simp] theorem aoutZero_motion : (s.aoutZero x).motion = s.motion :=
  motion_of_keeps (aoutZero_keeps .refl (by simp))

/-! ### The count of an axis (R480, R492) -/

@[simp] theorem showCount_tickAt {c p : Int} {n : Bool} : (s.showCount x c p n).motion.tickAt = s.motion.tickAt := by
  simp [State.showCount]

@[simp] theorem setCount_tickAt {c : Int} : (s.setCount x c).motion.tickAt = s.motion.tickAt := by
  simp [State.setCount]

theorem applyShift_tickAt {d : Int} {u : Bool} : (s.applyShift x d u).motion.tickAt = s.motion.tickAt := by
  have hcount : ∀ n : Int, (s.shiftCount x n).motion.tickAt = s.motion.tickAt := fun n => by
    simp only [State.shiftCount, State.shiftSetpoint, State.moveCount]
    split <;> simp
  unfold State.applyShift
  dsimp only
  split <;> simp [hcount]

@[simp] theorem deferredShift_tickAt : s.deferredShift.motion.tickAt = s.motion.tickAt := by
  unfold State.deferredShift
  (repeat' split)
  · rfl
  · exact applyShift_tickAt
  · rfl

/-! ### Moves and stops of an axis (R438, R448, R458, R477) -/

@[simp] theorem beginMove_tickAt {st : Nat} {l : Nat × Nat × Nat} {p : Int} :
    (s.beginMove x st l p).motion.tickAt = s.motion.tickAt := by
  unfold State.beginMove
  dsimp only
  split <;> simp

@[simp] theorem enterHome_tickAt {h : Nat} : (s.enterHome x h).motion.tickAt = s.motion.tickAt := by
  unfold State.enterHome
  dsimp only
  (repeat' split) <;> simp

@[simp] theorem startHome_tickAt : (s.startHome x).motion.tickAt = s.motion.tickAt := by
  unfold State.startHome
  (repeat' split) <;> simp

theorem startEntry_tickAt {aux : Bool} {hd i : Nat} : (s.startEntry aux hd i).motion.tickAt = s.motion.tickAt := by
  unfold State.startEntry
  dsimp only
  split <;> simp

theorem startChain_tickAt {i : Nat} {aux : Bool} : (s.startChain x i aux).motion.tickAt = s.motion.tickAt := by
  have hrefuse : ∀ c, (s.refuse x c).motion = s.motion := fun c => motion_of_keeps (refuse_keeps .refl (by simp))
  unfold State.startChain
  (repeat' split)
  · rw [hrefuse]
  · dsimp only
    split
    · rw [hrefuse]
    · exact foldl_same (·.motion.tickAt) fun _ _ => startEntry_tickAt

@[simp] theorem genIdle_tickAt : (s.genIdle x).motion.tickAt = s.motion.tickAt := by
  simp [State.genIdle, State.genStand]

@[simp] theorem disableAxis_tickAt : (s.disableAxis x).motion.tickAt = s.motion.tickAt := by
  simp [State.disableAxis]

@[simp] theorem faultAxis_tickAt {c : Nat} : (s.faultAxis x c).motion.tickAt = s.motion.tickAt := by
  simp [State.faultAxis]

@[simp] theorem stopGen_tickAt {a j : Nat} {k : After} : (s.stopGen x a j k).motion.tickAt = s.motion.tickAt := by
  simp [State.stopGen]

@[simp] theorem feedbackFault_tickAt : (s.feedbackFault x).motion.tickAt = s.motion.tickAt := by
  unfold State.feedbackFault State.homeFault State.stopAxis
  dsimp only
  (repeat' split) <;> simp

@[simp] theorem injAbort_tickAt : (s.injAbort x).motion.tickAt = s.motion.tickAt := by
  unfold State.injAbort
  split <;> simp

/-! ### A stop of the swath (R271) -/

theorem swathLeave_tickAt {q i n c : Nat} : (s.swathLeave q i n c).motion.tickAt = s.motion.tickAt := by
  unfold State.swathLeave
  extract_lets s1 v1 g1 s2 s3 s4
  have h1 : s1.motion = s.motion := motion_of_keeps (closeSwathRec_keeps (swathCacheEnd_keeps .refl (by simp)) (by simp))
  have h2 : s2.motion = s1.motion := rfl
  have h5 : Keeps (¬ · = .motion) s2 (((s4.showRec q).onLayer q fun l => { l with ended := l.ended + 1 }).layerLeave
      q).hardsToHeld := by
    unfold s4 s3
    clear_value s2
    simp (maxDischargeDepth := 60) [Keeps.refl]
  have hlast : ∀ u : State, Keeps (¬ · = .motion) u u.toEnumChecks.loadChecks.wakeWriters := fun u => by
    simp (maxDischargeDepth := 60) [Keeps.refl]
  rw [motion_of_keeps (hlast _), deferredShift_tickAt, motion_of_keeps h5, h2, h1]

theorem stopBlind_tickAt : StopBlind fun s => s.motion.tickAt where
  entries := tickAt_of_keeps (stopEntries_keeps .refl (by simp))
  leave := swathLeave_tickAt
  auxOf := rfl
  chain := startChain_tickAt
  rest k := congrArg Motion.tickAt (k.same .motion (by simp))

@[simp] theorem stopFiring_tickAt {c : Nat} : (s.stopFiring c).motion.tickAt = s.motion.tickAt :=
  stopFiring_blind stopBlind_tickAt

@[simp] theorem settleStop_tickAt : (State.settleStop t s).motion.tickAt = s.motion.tickAt :=
  settleStop_blind stopBlind_tickAt

@[simp] theorem posInvalid_tickAt : s.posInvalid.motion.tickAt = s.motion.tickAt := stopFiring_tickAt

/-! ### The sources (R471 to R477) -/

@[simp] theorem dropShift_tickAt : (s.dropShift x).motion.tickAt = s.motion.tickAt := by
  simp [State.dropShift]

@[simp] theorem fbFault_tickAt {c : Nat} : (s.fbFault x c).motion.tickAt = s.motion.tickAt := by
  unfold State.fbFault
  dsimp only
  (repeat' split) <;> simp

@[simp] theorem takeAngle_tickAt {p : Nat} : (s.takeAngle x p).motion.tickAt = s.motion.tickAt := by
  unfold State.takeAngle
  dsimp only
  (repeat' split) <;> simp

@[simp] theorem takeAmp_tickAt {p : Nat} : (s.takeAmp x p).motion.tickAt = s.motion.tickAt := by
  unfold State.takeAmp
  dsimp only
  (repeat' split) <;> simp

@[simp] theorem convAngle_motion {v : Int × Int} : (s.convAngle x v).2.motion = s.motion :=
  motion_of_keeps (convAngle_keeps .refl (by simp))

@[simp] theorem convTakeover_tickAt {now idle : Option (Int × Int)} :
    (s.convTakeover x now idle).motion.tickAt = s.motion.tickAt := by
  unfold State.convTakeover
  cases now <;> cases idle <;> dsimp only <;> split <;> simp

@[simp] theorem convFault_tickAt : (s.convFault x).motion.tickAt = s.motion.tickAt := by
  have habandon : ∀ (u : State) n, (u.calAbandon n).motion = u.motion := fun u n =>
    motion_of_keeps (calAbandon_keeps .refl (by simp))
  unfold State.convFault
  split <;> simp [habandon]

@[simp] theorem tickAnalogue_tickAt {p : FbSample} : (s.tickAnalogue x p).motion.tickAt = s.motion.tickAt := by
  unfold State.tickAnalogue
  dsimp only
  (repeat' split) <;> simp

theorem takeEdge_tickAt {n : Nat} {ab : Bool × Bool} : (s.takeEdge x n ab).motion.tickAt = s.motion.tickAt := by
  unfold State.takeEdge
  dsimp only
  (repeat' split) <;> simp

@[simp] theorem tickDigital_tickAt {p : FbSample} : (s.tickDigital x p).motion.tickAt = s.motion.tickAt := by
  unfold State.tickDigital
  split
  · exact foldl_same (·.motion.tickAt) fun _ _ => takeEdge_tickAt
  · rfl

theorem tickAxis_tickAt {p : FbSample} : (s.tickAxis x p).motion.tickAt = s.motion.tickAt := by
  unfold State.tickAxis
  dsimp only
  (repeat' split) <;> simp

/-! ### The compare units (R482 to R484) -/

@[simp] theorem cmpSeen_tickAt {p : Option Int} : (s.cmpSeen x p).motion.tickAt = s.motion.tickAt := rfl

@[simp] theorem setCmp_motion {st : Nat} : (s.setCmp x st).motion = s.motion := rfl

@[simp] theorem cmpPulse_tickAt {n w : Nat} : (s.cmpPulse x n w).motion.tickAt = s.motion.tickAt := rfl

@[simp] theorem cmpRearm_tickAt : (s.cmpRearm x).motion.tickAt = s.motion.tickAt := by
  unfold State.cmpRearm
  dsimp only
  (repeat' split) <;> simp

@[simp] theorem cmpFire_tickAt {late : Bool} {up : Int} : (s.cmpFire x late up).motion.tickAt = s.motion.tickAt := by
  unfold State.cmpFire
  dsimp only
  (repeat' split) <;> simp

@[simp] theorem cmpFirst_tickAt : (s.cmpFirst x).motion.tickAt = s.motion.tickAt := by
  unfold State.cmpFirst
  dsimp only
  (repeat' split) <;> simp

theorem cmpTick_tickAt : (s.cmpTick x).motion.tickAt = s.motion.tickAt := by
  unfold State.cmpTick
  dsimp only
  (repeat' split) <;> simp

/-! ### SRAM words read on the way (R516) -/

theorem disableAll_tickAt : s.disableAll.motion.tickAt = s.motion.tickAt :=
  foldl_same (·.motion.tickAt) fun t x => by
    dsimp only
    (repeat' split) <;> simp

@[simp] theorem fatalStop_tickAt : s.fatalStop.motion.tickAt = s.motion.tickAt := by
  have hpads : ∀ u : State, u.holdPads.motion = u.motion := fun u => motion_of_keeps (holdPads_keeps .refl (by simp))
  rw [State.fatalStop, hpads, disableAll_tickAt, settleStop_tickAt, stopFiring_tickAt]

/-- A port that narrows may stop the layers whose link time no longer fits (R297, R317). -/
theorem narrowTo_tickAt {m : Nat} : (s.narrowTo x m).motion.tickAt = s.motion.tickAt := by
  have hbudget : ∀ (u : State) l, (u.budget l x).2.motion = u.motion := fun u l =>
    motion_of_keeps (budget_keeps .refl (by simp))
  have hsurvey : ∀ (u : State) w, (u.resurvey w).motion = u.motion := fun u w =>
    motion_of_keeps (resurvey_keeps .refl (by simp))
  have hrecheck : ∀ (u : State) w, (u.recheck x w).motion.tickAt = u.motion.tickAt := fun u w => by
    unfold State.recheck
    dsimp only
    split
    · rw [hsurvey]
    · split
      · rw [State.budgetStop, stopLayer_blind stopBlind_tickAt, raiseInfo_motion, onPort_motion, hbudget, hsurvey]
      · rw [hbudget, hsurvey]
  unfold State.narrowTo
  dsimp only
  split
  · exact tickAt_of_keeps (by simp (maxDischargeDepth := 60) [Keeps.refl])
  · refine (foldl_same (·.motion.tickAt) hrecheck).trans ?_
    exact tickAt_of_keeps (by simp (maxDischargeDepth := 60) [Keeps.refl])

theorem laneCheck_tickAt : (s.laneCheck x).motion.tickAt = s.motion.tickAt := by
  have hnarrow : ∀ u : State, (u.narrowCheck x).motion = u.motion := fun u =>
    motion_of_keeps (narrowCheck_keeps .refl (by simp))
  unfold State.laneCheck
  dsimp only
  split
  · rw [hnarrow, narrowTo_tickAt]
  · rfl

theorem ingResend_tickAt : s.ingResend.motion.tickAt = s.motion.tickAt := by
  have hmask : ∀ {u : State} {q : Nat} {l : List Nat}, (u.masksOut q l).motion.tickAt = u.motion.tickAt := by
    intro u q l
    unfold State.masksOut
    dsimp only
    (repeat' split)
    · exact tickAt_of_keeps (by simp (maxDischargeDepth := 60) +contextual [Keeps.refl])
    · rw [laneCheck_tickAt]
      exact tickAt_of_keeps (by simp (maxDischargeDepth := 60) +contextual [Keeps.refl])
    · exact tickAt_of_keeps (by simp (maxDischargeDepth := 60) +contextual [Keeps.refl])
    · exact tickAt_of_keeps (by simp (maxDischargeDepth := 60) +contextual [Keeps.refl])
  unfold State.ingResend State.retrainIng
  dsimp only
  (repeat' split)
  · rfl
  · rw [hmask]
    exact tickAt_of_keeps (by simp (maxDischargeDepth := 60) +contextual [Keeps.refl])
  · exact tickAt_of_keeps (by simp (maxDischargeDepth := 60) +contextual [Keeps.refl])

theorem tickWord_tickAt {w : TickWord × Ecc} : (s.tickWord w).motion.tickAt = s.motion.tickAt := by
  have hread : ∀ {u : State} {a r e}, (u.sramRead a r e).motion = u.motion :=
    motion_of_keeps (sramRead_keeps .refl (by simp))
  have hfab : ∀ {u : State} {p}, (u.resendFab p).motion = u.motion := motion_of_keeps (resendFab_keeps .refl (by simp))
  unfold State.tickWord
  dsimp only
  (repeat' split) <;> simp [hread, hfab, ingResend_tickAt]

end Sys2Proof.Proofs
end

section
/-! Scope: the feedback sources and compare units (spec/01_architecture.md, R25; R469 to R494). -/

namespace Sys2Proof.Proofs

open Sys2Proof.Machine Sys2Proof.Safety Sys2Proof.Laws

variable {s : State}

/-! ### The tick (R25, R471) -/

/-- A locked machine at the next 100 ns, the tick's instant noted. -/
def tickStart (s : State) : State :=
  let u := s.elapse (100 - s.clk.ticks % 100)
  { u with motion := { u.motion with tickAt := u.clk.ticks, tickNow := u.now16 } }

/-- What a tick does at its instant: the sources sample, Geyser has the state, the SRAM words are read, every row and every
compare unit is evaluated, and what that stopped settles. -/
def tickActs (old : State) (l : List FbSample) (k : Nat) (r : List (TickWord × Ecc)) (s : State) : State :=
  let s := (List.range 6).foldl (fun s x => s.tickAxis x (Bits.nth l x .off)) s
  let s := if s.fbState 0 = 0 then s.posValid (s.pairS (Reg.FB_AX_RAW_LO 0)) s.now16 else s.posInvalid
  let s := r.foldl (fun s x => s.tickWord x) s
  let s := s.evalRows (lostSegs r) (s.now16 + k * 65536)
  let s := (List.range 8).foldl (fun s u => s.cmpTick u) s
  State.settleStop old s

theorem exec_feedbackTick {l : List FbSample} {k : Fin 501} {r : List (TickWord × Ecc)} (h : s.clk.pllLocked = true) :
    exec (.feedbackTick l k r) s = .next (tickActs s l k r (tickStart s)) :=
  if_neg (by simp [h])

variable {old : State} {l : List FbSample} {k : Nat} {r : List (TickWord × Ecc)}

theorem tickActs_clk : (tickActs old l k r s).clk = s.clk := by
  refine Keeps.same (F := (¬ · = .clk)) ?_ .clk (· rfl)
  unfold tickActs
  simp (maxDischargeDepth := 60) +contextual [Keeps.refl]

theorem tickActs_tickAt : (tickActs old l k r s).motion.tickAt = s.motion.tickAt := by
  have hpos : ∀ {u : State} {p n}, (u.posValid p n).motion = u.motion := motion_of_keeps (posValid_keeps .refl (by simp))
  have hrows : ∀ {u : State} {g n}, (u.evalRows g n).motion = u.motion := motion_of_keeps (evalRows_keeps .refl (by simp))
  have haxes : ∀ {u : State}, ((List.range 6).foldl (fun s x => s.tickAxis x (Bits.nth l x .off)) u).motion.tickAt =
      u.motion.tickAt := foldl_same (·.motion.tickAt) fun _ _ => tickAxis_tickAt
  have hwords : ∀ {u : State}, (r.foldl (fun s x => s.tickWord x) u).motion.tickAt = u.motion.tickAt :=
    foldl_same (·.motion.tickAt) fun _ _ => tickWord_tickAt
  have hunits : ∀ {u : State}, ((List.range 8).foldl (fun s u => s.cmpTick u) u).motion.tickAt = u.motion.tickAt :=
    foldl_same (·.motion.tickAt) fun _ _ => cmpTick_tickAt
  unfold tickActs
  dsimp only
  rw [settleStop_tickAt, hunits, hrows, hwords]
  split
  · rw [hpos, haxes]
  · rw [posInvalid_tickAt, haxes]

/-! ### The wires of a source (R473, R475) -/

/-- The pairs of axis `x` that are checked: those of the source in use, Z where it is enabled. -/
def wiresChecked (s : State) (x z : Nat) : Nat :=
  match s.fbSrc x with
  | 2 => 3 + z
  | 1 => z
  | _ => 0

theorem exec_wireFault {x : Fin 6} {p : Fin 8} {z m : Nat}
    (hz : z = if s.flag (Reg.FB_AX_CFG x) Fld.FB_AX_CFG_Z_EN then 4 else 0) (hm : p.val &&& wiresChecked s x z = m) :
    exec (.wireFault x p) s = if m = 0 ∨ s.fbState x = 3 then .next s else
      .next (State.settleStop s ((s.setFld (Reg.FB_AX_STATUS x) Fld.FB_AX_STATUS_WIRE m).fbFault x 1)) := by
  subst hz hm
  rfl

/-! ### Common mode and clears (R476, R479) -/

/-- What a common-mode measurement with the count of bad ones at `n` does, its limits already noted in `u`. -/
theorem exec_commonModeMeasure {x : Fin 2} {lo hi : Fin 256} {u : State} {n : Nat} (hsrc : s.fbSrc x = 1) (hst : s.fbState x ≠ 3)
    (hu : u = (s.setFld (Reg.FB_AX_AN_STATUS x) Fld.FB_AX_AN_STATUS_CM_MIN lo).setFld (Reg.FB_AX_AN_STATUS x)
      Fld.FB_AX_AN_STATUS_CM_MAX hi)
    (hn : n = if lo.val < u.fld (Reg.FB_AX_AN_CFG x) Fld.FB_AX_AN_CFG_CM_LO ∨
      u.fld (Reg.FB_AX_AN_CFG x) Fld.FB_AX_AN_CFG_CM_HI < hi.val then ((u.motion.fbs[x.val]?).map (·.cmBad)).getD 0 + 1 else 0) :
    exec (.commonModeMeasure x lo hi) s = .next (s.settleStop
      (if 2 ≤ n then (u.onFb x fun f => { f with cmBad := n }).fbFault x 3 else u.onFb x fun f => { f with cmBad := n })) := by
  subst hn hu
  exact if_neg (by simp [hsrc, hst])

theorem onFb_gens {x : Nat} {f : FbAxis → FbAxis} : (s.onFb x f).motion.gens = s.motion.gens := by
  unfold State.onFb
  split <;> rfl

/-! ### The index (R479, R494) -/

theorem homeIndex_of_not_homing {x : Nat} {cap : Int} (h : s.homing x = false) : s.homeIndex x cap = s :=
  if_pos (by simp [h])

theorem judgeIndex_of_not_learned {x : Nat} {cap : Int}
    (h : s.flag (Reg.FB_AX_STATUS x) Fld.FB_AX_STATUS_IDX_LEARNED = false) : s.judgeIndex x cap = s :=
  if_pos (by simp [h])

theorem reg_setPairS_ne {a b : Nat} {v : Int} (hlo : b ≠ a) (hhi : b ≠ a + 4) : (s.setPairS a v).reg b = s.reg b :=
  (getD_put_other hhi).trans (getD_put_other hlo)

theorem homing_of_reg {t : State} {x : Nat} (h : t.reg (Reg.MP_AX_STATUS x) = s.reg (Reg.MP_AX_STATUS x)) :
    t.homing x = s.homing x := by
  unfold State.homing
  rw [axState_of_reg h, State.fld, h]
  rfl

theorem flag_of_reg {t : State} {a : Nat} {f : Field} (h : t.reg a = s.reg a) : t.flag a f = s.flag a f := by
  simp only [State.flag, State.fld, h]

/-- An edge of Z that counts is captured, and has its part in homing and against the reference that is learned. -/
theorem exec_indexEvent {x : Fin 6} {ns : Fin 100} {rise : Bool}
    (hsrc : s.fbSrc x = 1 ∨ s.fbSrc x = 2 ∧
      (s.flag (Reg.FB_AX_CFG x) Fld.FB_AX_CFG_Z_GATE = false ∨ s.levelsAt x ns = some (true, true)))
    (hst : s.fbState x ≠ 3) (hen : s.flag (Reg.FB_AX_CFG x) Fld.FB_AX_CFG_Z_EN = true)
    (hrise : rise = !s.flag (Reg.FB_AX_CFG x) Fld.FB_AX_CFG_Z_LOW) :
    exec (.indexEvent x ns rise) s = .next (((s.setPairS (Reg.FB_AX_IDX_CAP_LO x) (s.countAt x ns)).homeIndex x
      (s.countAt x ns)).judgeIndex x (s.countAt x ns)) := by
  refine if_neg ?_
  rintro (h | h | h | h | ⟨h, hg, hl⟩)
  · obtain h1 | ⟨h2, -⟩ := hsrc
    · omega
    · omega
  · exact hst h
  · exact h hen
  · exact Bool.not_ne_self _ (hrise.symm.trans h)
  · obtain h1 | ⟨-, h2 | h2⟩ := hsrc
    · omega
    · exact absurd hg (by simp [h2])
    · exact hl h2

theorem indexEvent_captures {x : Fin 6} {v : Int} (hh : s.homing x = false)
    (hl : s.flag (Reg.FB_AX_STATUS x) Fld.FB_AX_STATUS_IDX_LEARNED = false) :
    ((s.setPairS (Reg.FB_AX_IDX_CAP_LO x) v).homeIndex x v).judgeIndex x v = s.setPairS (Reg.FB_AX_IDX_CAP_LO x) v := by
  have hmp : (s.setPairS (Reg.FB_AX_IDX_CAP_LO x) v).reg (Reg.MP_AX_STATUS x) = s.reg (Reg.MP_AX_STATUS x) :=
    reg_setPairS_ne (by unfold Reg.MP_AX_STATUS Reg.FB_AX_IDX_CAP_LO; omega)
      (by unfold Reg.MP_AX_STATUS Reg.FB_AX_IDX_CAP_LO; omega)
  have hfb : (s.setPairS (Reg.FB_AX_IDX_CAP_LO x) v).reg (Reg.FB_AX_STATUS x) = s.reg (Reg.FB_AX_STATUS x) :=
    reg_setPairS_ne (by unfold Reg.FB_AX_STATUS Reg.FB_AX_IDX_CAP_LO; omega)
      (by unfold Reg.FB_AX_STATUS Reg.FB_AX_IDX_CAP_LO; omega)
  rw [homeIndex_of_not_homing ((homing_of_reg hmp).trans hh), judgeIndex_of_not_learned ((flag_of_reg hfb).trans hl)]

/-! ### Compare units (R482, R483) -/

/-- Compare unit `u` before it is armed: its counts and its status zero, and no position seen. -/
def cmpStart (s : State) (u : Nat) : State :=
  (((s.setRegN (Reg.FB_CMP_FIRES u) 0).setRegN (Reg.FB_CMP_SKIPS u) 0).setRegN (Reg.FB_CMP_STATUS u) 0).cmpSeen u none

theorem reg_cmpStart_ne {u b : Nat} (hf : b ≠ Reg.FB_CMP_FIRES u) (hk : b ≠ Reg.FB_CMP_SKIPS u)
    (hs : b ≠ Reg.FB_CMP_STATUS u) : (cmpStart s u).reg b = s.reg b :=
  (getD_put_other hs).trans ((getD_put_other hk).trans (getD_put_other hf))

theorem regN_cmpStart_fires {u : Nat} : (cmpStart s u).regN (Reg.FB_CMP_FIRES u) = 0 := by
  have hs : Reg.FB_CMP_FIRES u ≠ Reg.FB_CMP_STATUS u := by unfold Reg.FB_CMP_FIRES Reg.FB_CMP_STATUS; omega
  have hk : Reg.FB_CMP_FIRES u ≠ Reg.FB_CMP_SKIPS u := by unfold Reg.FB_CMP_FIRES Reg.FB_CMP_SKIPS; omega
  have h : (cmpStart s u).reg (Reg.FB_CMP_FIRES u) = 0 :=
    (getD_put_other hs).trans ((getD_put_other hk).trans getD_put_same)
  simp [State.regN, h]

theorem regN_cmpStart_skips {u : Nat} : (cmpStart s u).regN (Reg.FB_CMP_SKIPS u) = 0 := by
  have hs : Reg.FB_CMP_SKIPS u ≠ Reg.FB_CMP_STATUS u := by unfold Reg.FB_CMP_SKIPS Reg.FB_CMP_STATUS; omega
  have h : (cmpStart s u).reg (Reg.FB_CMP_SKIPS u) = 0 := (getD_put_other hs).trans getD_put_same
  simp [State.regN, h]

theorem cmpAxis_cmpStart {u : Nat} : (cmpStart s u).cmpAxis u = s.cmpAxis u := by
  have h : (cmpStart s u).reg (Reg.FB_CMP_CFG u) = s.reg (Reg.FB_CMP_CFG u) :=
    reg_cmpStart_ne (by unfold Reg.FB_CMP_CFG Reg.FB_CMP_FIRES; omega) (by unfold Reg.FB_CMP_CFG Reg.FB_CMP_SKIPS; omega)
      (by unfold Reg.FB_CMP_CFG Reg.FB_CMP_STATUS; omega)
  simp only [State.cmpAxis, State.fld, h]

theorem fbState_cmpStart {u x : Nat} (_ : x ≤ 5) : (cmpStart s u).fbState x = s.fbState x := by
  have h : (cmpStart s u).reg (Reg.FB_AX_STATUS x) = s.reg (Reg.FB_AX_STATUS x) :=
    reg_cmpStart_ne (by unfold Reg.FB_AX_STATUS Reg.FB_CMP_FIRES; omega) (by unfold Reg.FB_AX_STATUS Reg.FB_CMP_SKIPS; omega)
      (by unfold Reg.FB_AX_STATUS Reg.FB_CMP_STATUS; omega)
  simp only [State.fbState, State.fld, h]

theorem exec_cmpArm {p : Path} {u : Fin 8} (hx : s.cmpAxis u ≤ 5)
    (h1 : s.fld (Reg.FB_CMP_STATUS u) Fld.FB_CMP_STATUS_STATE ≠ 1)
    (h2 : s.fld (Reg.FB_CMP_STATUS u) Fld.FB_CMP_STATUS_STATE ≠ 2) :
    exec (.cmpArm p u) s = .next (if (cmpStart s u).fbState ((cmpStart s u).cmpAxis u) = 0 then (cmpStart s u).cmpFirst u
      else (cmpStart s u).setCmp u 2) :=
  if_neg (by simp only [not_or]; exact ⟨by omega, h1, h2⟩)

theorem fld_setCmp {u st : Nat} (h : st < 4) :
    (s.setCmp u st).fld (Reg.FB_CMP_STATUS u) Fld.FB_CMP_STATUS_STATE = st :=
  (fld_setFld_self (by decide)).trans (Nat.mod_eq_of_lt h)

theorem regN_setCmp_ne {u st b : Nat} (h : b ≠ Reg.FB_CMP_STATUS u) : (s.setCmp u st).regN b = s.regN b :=
  congrArg BitVec.toNat (getD_put_other h)

/-! ### The obligation -/

/-- Settles O30: each command of the feedback block is read off by its own equation above. -/
theorem feedbackServes : Obligations.FeedbackServes := by
  unfold Obligations.FeedbackServes
  refine ⟨?_, ?_, ?_, ?_, ?_, ?_, ?_, ?_, ?_, ?_, ?_, ?_, ?_, ?_⟩
  case refine_1 =>
    intro l k r s h
    refine ⟨_, exec_feedbackTick h, tickActs_clk, ?_⟩
    rw [tickActs_tickAt, tickActs_clk]
    rfl
  case refine_2 => exact fun l k r s h => if_pos (by simp [h])
  case refine_3 =>
    intro x k m z s hz hm h0 hst
    have hchecked : k.val &&& wiresChecked s x z = m := by
      obtain ⟨hsrc, rfl⟩ | ⟨hsrc, rfl⟩ := hm <;> simp [wiresChecked, hsrc]
    exact (exec_wireFault hz hchecked).trans (if_neg (not_or.2 ⟨h0, hst⟩))
  case refine_4 =>
    intro x k z s hz h
    refine (exec_wireFault hz rfl).trans (if_pos ?_)
    obtain hsrc | hst | ⟨hsrc, hk⟩ | ⟨hsrc, hk⟩ := h
    · exact .inl (by simp [wiresChecked, hsrc])
    · exact .inr hst
    · exact .inl (by simpa [wiresChecked, hsrc] using hk)
    · exact .inl (by simpa [wiresChecked, hsrc] using hk)
  case refine_5 =>
    intro x lo hi s u hsrc hst hu hlo hhi
    exact exec_commonModeMeasure (n := 0) hsrc hst hu (if_neg (by omega)).symm
  case refine_6 =>
    intro x lo hi s u f hsrc hst hu hbad hf hn
    have hfu : u.motion.fbs[x.val]? = some f := by rw [hu]; exact hf
    exact exec_commonModeMeasure (n := 2) hsrc hst hu (by simp [hbad, hfu, hn])
  case refine_7 =>
    intro x s _ h
    exact ⟨_, if_neg (not_not_intro h), fld_setFld_self (by decide), onFb_gens⟩
  case refine_8 => exact fun x s h => if_pos h
  case refine_9 =>
    intro x ns rise s _ hsrc hst hen hrise hh hl
    rw [exec_indexEvent hsrc hst hen hrise, indexEvent_captures hh hl]
  case refine_10 =>
    intro x ns rise s h
    refine if_pos ?_
    obtain h | h | h | h := h
    · exact .inl h
    · exact .inr (.inl h)
    · exact .inr (.inr (.inl (by simp [h])))
    · exact .inr (.inr (.inr (.inl h)))
  case refine_11 =>
    intro p x w s hs
    have hne : ∀ b ∈ [Reg.FB_AX_IDX_REF_LO x, Reg.FB_AX_IDX_REF_LO x + 4], b ≠ Reg.FB_AX_STATUS x := by
      simp only [List.forall_mem_cons, List.not_mem_nil, false_imp_iff, implies_true, and_true]
      unfold Reg.FB_AX_IDX_REF_LO Reg.FB_AX_STATUS
      omega
    refine ⟨_, rfl, ?_, ?_, ?_⟩
    · exact (getD_put_other (hne _ (by simp))).trans (reg_commitPair_hi hs)
    · exact (getD_put_other (hne _ (by simp))).trans (reg_commitPair_lo hs)
    · exact bne_iff_ne.2 (ne_of_eq_of_ne (fld_setFld_self (by decide)) (by decide))
  case refine_12 =>
    intro p u s _ hx h1 h2 hst
    have hbad : (cmpStart s u).fbState ((cmpStart s u).cmpAxis u) ≠ 0 := by rwa [cmpAxis_cmpStart, fbState_cmpStart hx]
    refine ⟨_, (exec_cmpArm hx h1 h2).trans (congrArg Host.Outcome.next (if_neg hbad)), fld_setCmp (by decide), ?_, ?_⟩
    · exact (regN_setCmp_ne (by unfold Reg.FB_CMP_FIRES Reg.FB_CMP_STATUS; omega)).trans regN_cmpStart_fires
    · exact (regN_setCmp_ne (by unfold Reg.FB_CMP_SKIPS Reg.FB_CMP_STATUS; omega)).trans regN_cmpStart_skips
  case refine_13 => exact fun p u s h => if_pos h
  case refine_14 => exact fun u s _ => ⟨_, rfl, fld_setCmp (by decide), rfl⟩

end Sys2Proof.Proofs
end

section
/-! Scope: records of the layer stream (spec/02_layer_stream_geometry.md, R45 to R126): the content of the parser. What a
record gives stands apart from the bytes and records that the parser counts with it. -/

namespace Sys2Proof.Proofs

open Sys2Proof.Bits Sys2Proof.Machine Sys2Proof.Safety Sys2Proof.Laws

variable {p q : Content} {a c n : Nat} {b : List Byte}

/-! ### What the records of a job have given (R54) -/

/-- A section without the count of its bytes. -/
def sectionWork (x : Section) : Section := { x with bytes := 0 }

/-- An open cell without the counts of its bytes. -/
def cellWork (o : OpenCell) : OpenCell := { o with sections := o.sections.map sectionWork, bytes := 0 }

/-- A layer without the bytes of its records and where they lie. -/
def layerWork (l : Layer) : Layer := { l with bytes := 0, recs := [] }

/-- The content without what the parser counts at every record: its place in the stream, the covered bytes and the
bytes of the layer program region. -/
def contentWork (p : Content) : Content :=
  { p with
    expSeq := 0, ofs := 0, covered := [], snoopers := [], lastWasCheck := false, accepted := 0, cellBytes := 0
    openCell := p.openCell.map cellWork, openLayer := p.openLayer.map layerWork }

/-- Record `b` is counted on the content `p` that it gives: `q` has its place and number, and the same work. -/
structure Counted (p : Content) (b : List Byte) (q : Content) : Prop where
  expSeq : q.expSeq = (recSeq b + 1) % 2 ^ 32
  accepted : q.accepted = p.accepted + 1
  work : contentWork q = contentWork p

/-- What depends on the work alone is the same before and after the count. -/
theorem Counted.same {α : Type} {f : Content → α} (h : Counted p b q) (hf : ∀ x, f (contentWork x) = f x) : f q = f p :=
  (hf q).symm.trans ((congrArg f h.work).trans (hf p))

/-- What depends on the work of the open cell alone is the same before and after the count. -/
theorem Counted.cell {α : Type} {f : OpenCell → α} (h : Counted p b q) (hf : ∀ o, f (cellWork o) = f o) :
    q.openCell.map f = p.openCell.map f :=
  h.same (f := fun x => x.openCell.map f) fun _ => (Option.map_map f cellWork _).trans (congrArg (Option.map · _) (funext hf))

/-- What depends on the work of the open layer alone is the same before and after the count. -/
theorem Counted.layer {α : Type} {f : Layer → α} (h : Counted p b q) (hf : ∀ l, f (layerWork l) = f l) :
    q.openLayer.map f = p.openLayer.map f :=
  h.same (f := fun x => x.openLayer.map f) fun _ => (Option.map_map f layerWork _).trans (congrArg (Option.map · _) (funext hf))

theorem openBody_work : openBody (contentWork p) = openBody p := by
  cases hc : p.openCell with
  | none => cases hl : p.openLayer <;> simp [openBody, contentWork, hc, hl, layerWork]
  | some o => simp [openBody, contentWork, hc, cellWork, Function.comp_def, sectionWork]

theorem Counted.body (h : Counted p b q) : openBody q = openBody p := h.same fun _ => openBody_work

/-! ### The bytes of a record (R123, R125) -/

theorem addBytes_work : contentWork (p.addBytes a n) = contentWork p := by
  cases hc : p.openCell with
  | none => cases hl : p.openLayer <;> simp [Content.addBytes, contentWork, hc, hl, layerWork]
  | some o =>
    rcases List.eq_nil_or_concat o.sections with hs | ⟨l, x, hs⟩ <;>
      simp [Content.addBytes, contentWork, hc, cellWork, sectionWork, hs]

theorem addBytes_accepted : (p.addBytes a n).accepted = p.accepted := by
  unfold Content.addBytes
  (repeat' split) <;> rfl

/-- The bytes of a record count for the open layer, if for any, which keeps its LAYER_SEQ. -/
theorem addBytes_openLayer {l : Layer} (h : p.openLayer = some l) :
    ∃ m, (p.addBytes a n).openLayer = some m ∧ m.seq = l.seq := by
  cases hc : p.openCell with
  | none => exact ⟨{ l with bytes := l.bytes + n, recs := addStretch l.recs a n }, by simp [Content.addBytes, hc, h], rfl⟩
  | some o => exact ⟨l, by simp [Content.addBytes, hc, h], rfl⟩

/-! ### An item joins the open body (R54) -/

theorem openBody_addGeo {g : Geo} (h : bodyOpen p) : openBody (p.addGeo g) = openBody p ++ [g] := by
  cases hc : p.openCell with
  | some o =>
    rcases List.eq_nil_or_concat o.sections with hs | ⟨l, x, hs⟩ <;> simp [Content.addGeo, openBody, hc, hs]
  | none =>
    obtain ⟨l, hl⟩ := Option.isSome_iff_exists.1 (h.resolve_left (by simp [hc]))
    simp [Content.addGeo, openBody, hc, hl]

theorem addGeo_cont {g : Geo} : (p.addGeo g).cont = p.cont := by
  unfold Content.addGeo
  (repeat' split) <;> rfl

/-! ### What the records give (R58 to R101) -/

/-- An extension record changes no more than what it continues (R109). -/
theorem takeRecord_ext (h : isExt c = true) :
    takeRecord p a c b = { p with cont := if recMore b then some (.ext c) else none } := if_pos h

/-- A LAYER record of a job opens its body (R60). -/
theorem takeRecord_layer (h : p.job.isSome = true) : (takeRecord p a typeLayer b).state = .layer ∧
    (takeRecord p a typeLayer b).openLayer.map (·.seq) = some (rd b 8 4) ∧
    (takeRecord p a typeLayer b).openLayer.map (·.z) = some (rdS b 12 4) := by
  obtain ⟨j, hj⟩ := Option.isSome_iff_exists.1 h
  cases p
  cases hj
  exact ⟨rfl, rfl, rfl⟩

/-- A SWATHPLAN record gives the plan of the open layer, whose geometry follows (R93, R98). -/
theorem takeRecord_swathplan (h : p.openLayer.isSome = true) :
    (takeRecord p a typeSwathplan b).openLayer.map (·.plan) = some ((List.range (rd b 8 2)).map (swathAt b)) ∧
    (takeRecord p a typeSwathplan b).openLayer.map (·.stage) = some .geometry := by
  obtain ⟨l, hl⟩ := Option.isSome_iff_exists.1 h
  cases p
  cases hl
  exact ⟨rfl, rfl⟩

theorem takeRecord_lattice : (takeRecord p a typeLattice b).openCell.map (fun o => o.sections.length) =
    p.openCell.map (fun o => o.sections.length + 1) := by
  cases p with
  | mk _ _ _ _ _ _ _ _ _ oc =>
    cases oc with
    | none => rfl
    | some o => exact congrArg some (List.length_append (as := o.sections))

/-- A CELL_END defines the open cell under its id (R62, R123). -/
theorem takeRecord_cellEnd {o : OpenCell} (h : p.openCell = some o) : (takeRecord p a typeCellEnd b).openCell = none ∧
    (takeRecord p a typeCellEnd b).state = (if p.cellFromBetween then .between else .prologue) ∧
    ∃ d, Kv.get (takeRecord p a typeCellEnd b).cells o.id = some d ∧
      d.sections = (if o.phases = 1 ∧ o.sections.isEmpty then ([⟨0, [], 0⟩] : List Section) else o.sections) ∧ d.box = o.box := by
  cases p
  cases h
  exact ⟨rfl, rfl, _, get_set_same, rfl, rfl⟩

/-! ### Items of several records (R49, R73, R79, R90) -/

theorem takeRecord_poly_first (h : p.cont = none) : takeRecord p a typePoly b =
    if recMore b then { p with cont := some (.poly (rd b 8 1) (recFlag2 b) (rd b 10 2) (polyVerts b) a) }
    else ({ p with cont := none }).addGeo (.prim (rd b 8 1) (.poly (recFlag2 b) (polyVerts b)) a) := by
  change takePoly p a b = _
  simp only [takePoly, h]

theorem takeRecord_poly_last {m k d : Nat} {eo : Bool} {v : List (Int × Int)} (h : p.cont = some (.poly m eo k v d))
    (hm : recMore b = false) : takeRecord p a typePoly b =
      ({ p with cont := none }).addGeo (.prim (rd b 8 1) (.poly (recFlag2 b) (v ++ polyVerts b)) d) := by
  change takePoly p a b = _
  simp [takePoly, h, hm]

theorem takeRecord_patch_first (h : p.cont = none) : takeRecord p a typePatch b =
    if recMore b then { p with cont := some (.patch (rd b 8 1) (rd b 9 1) (rd b 10 2) (rd b 12 2) (rdS b 16 4)
      (rdS b 20 4) (rd b 24 4) (rd b 28 4) (recFlag2 b) (rd b 32 4) ((b.drop 40).take (rd b 36 4)) a) }
    else ({ p with cont := none }).addGeo (.prim (rd b 8 1) (.patch (2 ^ rd b 9 1) (rd b 10 2) (rd b 12 2)
      (rdS b 16 4) (rdS b 20 4) (rd b 24 4) (rd b 28 4)
      ((patchImage (recFlag2 b) (rd b 9 1) (rd b 10 2) (rd b 12 2) ((b.drop 40).take (rd b 36 4))).getD [])) a) := by
  change takePatch p a b = _
  simp only [takePatch, h]

theorem takeRecord_field_whole (h : p.cont = none) (hm : recMore b = false) :
    (takeRecord p a typeField b).openLayer.map (·.fields) = p.openLayer.map
      (·.fields ++ [(rd b 8 1, ⟨rd b 12 2, rd b 14 2, rdS b 16 4, rdS b 20 4, rd b 24 4, rd b 28 4,
        (List.range (rd b 36 4)).map fun i => rd b (40 + 2 * i) 2⟩)]) := by
  change (takeField p b).openLayer.map _ = _
  cases hl : p.openLayer <;> simp [takeField, h, hm, hl]

end Sys2Proof.Proofs
end

section
/-! Scope: records of the layer stream (spec/02_layer_stream_geometry.md, R45 to R126): how the parser takes a record that
comes, and one that waited. -/

namespace Sys2Proof.Proofs

open Sys2Proof.Bits Sys2Proof.Machine Sys2Proof.Safety Sys2Proof.Laws

variable {s t : State} {p : Content} {a c k : Nat} {b rest : List Byte}

/-! ### Operations that leave the parser or the layers as they were -/

theorem parser_of_keeps (h : Keeps (¬ · = .parser) s t) : t.parser = s.parser := h.same .parser (· rfl)

theorem layers_of_keeps (h : Keeps (¬ · = .layers) s t) : t.layers = s.layers := h.same .layers (· rfl)

@[simp] theorem snoop_parser {x : SnoopBlock} : (s.snoop x).parser = s.parser := parser_of_keeps (snoop_keeps .refl (by simp))

@[simp] theorem snoop_layers {x : SnoopBlock} : (s.snoop x).layers = s.layers := layers_of_keeps (snoop_keeps .refl (by simp))

@[simp] theorem snoopDigest_parser : (s.snoopDigest p b).parser = s.parser :=
  parser_of_keeps (snoopDigest_keeps .refl (by simp))

@[simp] theorem snoopDigest_layers : (s.snoopDigest p b).layers = s.layers :=
  layers_of_keeps (snoopDigest_keeps .refl (by simp))

@[simp] theorem showParser_parser : s.showParser.parser = s.parser := rfl

@[simp] theorem showParser_layers : s.showParser.layers = s.layers := rfl

@[simp] theorem setContent_parser : (s.setContent p).parser = { s.parser with cur := p } := rfl

@[simp] theorem storeRecord_parser : (s.storeRecord p a c b).parser = s.parser :=
  parser_of_keeps (storeRecord_keeps .refl (by simp))

@[simp] theorem storeRecord_layers : (s.storeRecord p a c b).layers = s.layers :=
  layers_of_keeps (storeRecord_keeps .refl (by simp))

@[simp] theorem undefCells_parser {l : List (Nat × Cell)} : (s.undefCells l).parser = s.parser :=
  parser_of_keeps (undefCells_keeps .refl (by simp))

@[simp] theorem undefCells_layers {l : List (Nat × Cell)} : (s.undefCells l).layers = s.layers :=
  layers_of_keeps (undefCells_keeps .refl (by simp))

@[simp] theorem leadInForce_parser : s.leadInForce.parser = s.parser :=
  parser_of_keeps (leadInForce_keeps .refl (by simp))

/-! ### Halts (R110, R111) -/

theorem halt_state : (s.halt c b).parser.cur.state = .halted := by
  unfold State.halt
  dsimp only
  split <;> rfl

theorem halt_layers : (s.halt c b).layers = s.layers := layers_of_keeps (halt_keeps .refl (by simp))

/-- A record that a check of R111 finds bad halts the parser. -/
theorem takeOrHalt_of_fault (h : s.recordFault p c b ≠ 0) :
    (s.takeOrHalt p c b).parser.cur.state = .halted ∧ (s.takeOrHalt p c b).layers = s.layers := by
  rw [State.takeOrHalt, if_pos h, halt_layers]
  refine ⟨halt_state, ?_⟩
  split
  · exact snoopDigest_layers
  · rfl

theorem recordFault_of_badCrc (h : recCrcOk b = false) : s.recordFault p c b ≠ 0 := by
  simp [State.recordFault, h, causeCrc]

/-- A record of an undefined type is bad (R111 TYPE), whatever else is wrong with it. -/
theorem recordFault_of_undefined (hd : c ∉ definedTypes) (hx : isExt c = false) : s.recordFault p c b ≠ 0 := by
  have htype : (!definedTypes.contains c && !isExt c) = true := by simp [hd, hx]
  simp only [State.recordFault, if_pos htype]
  (repeat' split) <;> decide

/-! ### Accepted records (R54 to R109) -/

/-- A record that passes its checks and has a place is accepted there. -/
theorem takeOrHalt_of_place (hf : s.recordFault p c b = 0)
    (hb : c = typeLayer → p.lastLayer = none → s.binding p.materials = .ok) (ha : s.lpPlace p c b = some a) :
    s.takeOrHalt p c b = (s.acceptRecord p a c b).showParser := by
  have hbind : (if c = typeLayer ∧ p.lastLayer = none then s.binding p.materials else .ok) = Binding.ok :=
    ite_eq_right_iff.2 fun ⟨hc, hl⟩ => hb hc hl
  rw [State.takeOrHalt, if_neg (not_not_intro hf), hbind, ha]

/-- The content `q` that record `b` gives, counted where the stream stands at byte `n`, in state `u`. -/
def counted (u : State) (n : Nat) (q : Content) (c : Nat) (b : List Byte) : Content :=
  { q with
    expSeq := (recSeq b + 1) % 2 ^ 32
    ofs := n + b.length
    covered := if c = typeCheck then [] else q.covered ++ b
    snoopers := if q.covered.isEmpty then u.snoopersOf pointDigest 0 else q.snoopers
    lastWasCheck := if isExt c then q.lastWasCheck else c == typeCheck
    accepted := q.accepted + 1 }

theorem Counted.of_counted {n : Nat} {q : Content} : Counted q b (counted s n q c b) := ⟨rfl, rfl, rfl⟩

theorem Counted.of_addBytes {q r : Content} {n : Nat} (h : Counted (q.addBytes a n) b r) : Counted q b r :=
  ⟨h.expSeq, h.accepted.trans (congrArg (· + 1) addBytes_accepted), h.work.trans addBytes_work⟩

/-- The content of the parser after a record but JOB and CHECK. -/
def recordContent (s : State) (p : Content) (a c : Nat) (b : List Byte) : Content :=
  let q := if c = typeEnd then takeRecord p a c b else (takeRecord p a c b).addBytes a b.length
  counted (s.storeRecord q a c b) p.ofs q c b

theorem recordContent_counted : Counted (takeRecord p a c b) b (recordContent s p a c b) := by
  unfold recordContent
  split
  · exact Counted.of_counted
  · exact Counted.of_counted.of_addBytes

/-- A record but JOB and CHECK changes no more of the parser than its content. -/
theorem acceptRecord_parser (hj : c ≠ typeJob) (hk : c ≠ typeCheck) :
    (s.acceptRecord p a c b).parser = { s.parser with cur := recordContent s p a c b } := by
  by_cases he : c = typeEnd
  · simp only [State.acceptRecord, recordContent, counted, if_neg hj, if_neg hk, if_pos he]
    split <;> simp
  · simp only [State.acceptRecord, recordContent, counted, if_neg hj, if_neg hk, if_neg he]
    split <;> simp

/-- A JOB counts on the content that it opens (R58). -/
theorem acceptRecord_job : ∃ q, (s.acceptRecord p a typeJob b).parser =
      { s.parser with saved := Content.fresh, jobs := s.parser.jobs + 1, cur := q } ∧
    Counted (startJob s.parser.jobs b) b q := by
  refine ⟨_, ?_, (Counted.of_counted (s := s.storeRecord ((startJob s.parser.jobs b).addBytes a b.length) a typeJob b)
    (n := 0) (c := typeJob)).of_addBytes (a := a) (n := b.length)⟩
  simp only [State.acceptRecord, if_neg (show ¬ typeJob = typeEnd by decide),
    if_neg (show ¬ isExt typeJob = true by decide), if_neg (show ¬ typeJob = typeCheck by decide), if_true, counted]
  simp

/-- A CHECK of scope 1 closes the open layer, which joins the accepted ones, and is what a halt returns to (R105, R110). -/
theorem acceptRecord_check {l : Layer} (hb : rd b 8 1 = 1) (hl : p.openLayer = some l) :
    ∃ q m, ((s.acceptRecord p a typeCheck b).parser = { s.parser with cur := q, saved := q } ∧
        (s.acceptRecord p a typeCheck b).layers = s.layers ++ [m]) ∧
      m.seq = l.seq ∧ q.state = .between ∧ q.openLayer = none := by
  obtain ⟨m, hm, hseq⟩ := addBytes_openLayer (a := a) (n := b.length) hl
  have htake : takeRecord p a typeCheck b = p := rfl
  refine ⟨{ counted (s.storeRecord (p.addBytes a b.length) a typeCheck b) p.ofs (p.addBytes a b.length) typeCheck b with
    lastCheck := some (recSeq b), state := .between, openLayer := none, lastClosed := m.seq }, m, ?_, hseq, rfl, rfl⟩
  simp only [State.acceptRecord, if_neg (show ¬ typeCheck = typeJob by decide),
    if_neg (show ¬ typeCheck = typeEnd by decide), if_neg (show ¬ isExt typeCheck = true by decide), if_true, htake, hb, hm,
    counted]
  simp [State.acceptLayer]

/-! ### A record that comes (R54, R84, R110, R126) -/

/-- The parser stands in a job: a context that admits records is open (R54). -/
abbrev inJob (p : Content) : Prop :=
  p.state = .prologue ∨ p.state = .cell ∨ p.state = .layer ∨ p.state = .between

/-- The parser takes or halts on a record that comes in a job while none waits. -/
theorem parseRecord_inJob (hp : inJob s.parser.cur) :
    s.parseRecord c b = if recLen b < 2 then s.halt causeLength b else s.takeOrHalt s.parser.cur c b := by
  unfold State.parseRecord
  rcases hp with h | h | h | h <;> simp only [h]

/-- JOB with SEQ 0 is taken in IDLE and in ENDED (R54). -/
theorem parseRecord_job (hp : s.parser.cur.state = .idle ∨ s.parser.cur.state = .ended) (hs : recSeq b = 0)
    (hn : 2 ≤ recLen b) : s.parseRecord typeJob b = (jobOpens s).takeOrHalt Content.fresh typeJob b := by
  unfold State.parseRecord jobOpens
  rcases hp with h | h <;> simp [h, hs, Nat.not_lt.2 hn]

/-- While no record waits, one that comes is parsed at once. -/
theorem feed_idle (hb : b = BitVec.ofNat 8 c :: rest) (hw : s.parser.headsWait = false) (hl : s.parser.lpStall = false) :
    s.feed c rest = (s.snoop (s.recordBlock c b)).parseRecord c b := by
  subst hb
  simp [State.feed, hw, hl]

/-- A record that the parser takes is accepted at its place. -/
theorem feed_of_takes (hb : b = BitVec.ofNat 8 k :: rest) (h : Takes s k b) : s.feed k rest =
    ((s.snoop (s.recordBlock k b)).acceptRecord s.parser.cur (recPlace s k b) k b).showParser := by
  obtain ⟨hw, hl, hn, hp, hf, hbind, hplace⟩ := h
  obtain ⟨a, ha⟩ := Option.isSome_iff_exists.1 hplace
  rw [feed_idle hb hw hl, parseRecord_inJob (by simpa using hp), if_neg (Nat.not_lt.2 hn), recPlace, ha]
  simpa using takeOrHalt_of_place hf hbind ha

/-- A record but JOB and CHECK that the parser takes is counted on what it gives. -/
theorem next_of_takes {i : Instr} {P : State → Prop} (hb : b = BitVec.ofNat 8 k :: rest) (h : Takes s k b)
    (he : exec i s = .next (s.feed k rest)) (hj : k ≠ typeJob) (hk : k ≠ typeCheck)
    (hP : ∀ t, Counted (takeRecord s.parser.cur (recPlace s k b) k b) b t.parser.cur → P t) : Next i s P := by
  refine ⟨_, he, hP _ ?_⟩
  rw [feed_of_takes hb h, showParser_parser, acceptRecord_parser hj hk]
  exact recordContent_counted

/-- A record that comes in a job and fails a check of R111 halts the parser. -/
theorem next_of_fault {i : Instr} (hb : b = BitVec.ofNat 8 c :: rest) (he : exec i s = .next (s.feed c rest))
    (hw : s.parser.headsWait = false) (hl : s.parser.lpStall = false)
    (hp : inJob s.parser.cur) (hf : ∀ u : State, u.recordFault s.parser.cur c b ≠ 0) :
    Next i s fun t => t.parser.cur.state = .halted ∧ t.layers = s.layers := by
  refine ⟨_, he, ?_⟩
  rw [feed_idle hb hw hl, parseRecord_inJob (by simpa using hp), snoop_parser]
  split
  · exact ⟨halt_state, halt_layers.trans snoop_layers⟩
  · obtain ⟨hstate, hlayers⟩ := takeOrHalt_of_fault (hf _)
    exact ⟨hstate, hlayers.trans snoop_layers⟩

/-! ### A record that waited (R84, R126) -/

theorem drain_nil {n : Nat} (h : s.parser.held = []) : s.drain n = s := by
  cases n <;> simp [State.drain, h]

theorem drain_cons {n : Nat} {l : List (Nat × List Byte)} (hw : s.parser.headsWait = false) (hl : s.parser.lpStall = false)
    (hh : s.parser.held = (c, b) :: l) :
    s.drain (n + 1) = (({ s with parser := { s.parser with held := l } } : State).parseRecord c b).drain n := by
  simp [State.drain, hw, hl, hh]

/-- The state in which the record that waited alone is taken again. -/
def waitEnds (s : State) : State :=
  { s with parser := { s.parser with headsWait := false, lpStall := false, held := [] } }

theorem retake_nil (h : s.parser.held = []) : s.retake = (waitEnds s).showParser := by
  simp [State.retake, waitEnds, drain_nil, h]

/-- The one record that waited is accepted, and the parser waits no more. -/
theorem retake_of_place (hh : s.parser.held = [(c, b)]) (hn : 2 ≤ recLen b)
    (hp : inJob s.parser.cur) (hj : c ≠ typeJob) (hk : c ≠ typeCheck)
    (hf : (waitEnds s).recordFault s.parser.cur c b = 0)
    (hb : c = typeLayer → s.parser.cur.lastLayer = none → (waitEnds s).binding s.parser.cur.materials = .ok)
    (ha : (waitEnds s).lpPlace s.parser.cur c b = some a) :
    s.retake.parser.headsWait = false ∧ s.retake.parser.lpStall = false ∧
      Counted (takeRecord s.parser.cur a c b) b s.retake.parser.cur := by
  have hparser : ((waitEnds s).parseRecord c b).parser =
      { (waitEnds s).parser with cur := recordContent (waitEnds s) s.parser.cur a c b } := by
    rw [parseRecord_inJob (s := waitEnds s) hp, if_neg (Nat.not_lt.2 hn)]
    exact (congrArg State.parser (takeOrHalt_of_place hf hb ha)).trans (acceptRecord_parser hj hk)
  have hretake : s.retake = ((waitEnds s).parseRecord c b).showParser := by
    have hdrain : s.retake = (((waitEnds s).parseRecord c b).drain s.parser.held.length).showParser :=
      congrArg State.showParser (drain_cons rfl rfl hh)
    rw [hdrain, drain_nil (by rw [hparser]; rfl)]
  rw [hretake, showParser_parser, hparser]
  exact ⟨rfl, rfl, recordContent_counted⟩

end Sys2Proof.Proofs
end

section
/-! Scope: records of the layer stream (spec/02_layer_stream_geometry.md, R45 to R126): the statements. -/

namespace Sys2Proof.Proofs

open Sys2Proof.Bits Sys2Proof.Machine Sys2Proof.Safety Sys2Proof.Laws

variable {s : State} {p : Content} {a k : Nat} {b rest : List Byte}

/-- Each item record gives the open body one item (R66, R67, R76 to R78). -/
theorem next_of_item {i : Instr} {g : Geo} (hb : b = BitVec.ofNat 8 k :: rest) (h : Takes s k b)
    (ho : bodyOpen s.parser.cur) (he : exec i s = .next (s.feed k rest)) (hj : k ≠ typeJob) (hk : k ≠ typeCheck)
    (hg : takeRecord s.parser.cur (recPlace s k b) k b = s.parser.cur.addGeo g) : Next i s fun t =>
      t.parser.cur.expSeq = (recSeq b + 1) % 2 ^ 32 ∧ openBody t.parser.cur = openBody s.parser.cur ++ [g] := by
  refine next_of_takes hb h he hj hk fun t ht => ⟨ht.expSeq, ?_⟩
  rw [ht.body, hg, openBody_addGeo ho]

/-- Settles O11: what each record gives is what the parser holds once the record is counted. -/
theorem streamRecordsTaken : Obligations.StreamRecordsTaken := by
  unfold Obligations.StreamRecordsTaken
  refine ⟨fun rest s b hb h => ?cellBegin, fun rest s b hb h => ?lattice,
    fun rest s b hb h ho => next_of_item hb h ho rfl (by decide) (by decide) rfl,
    fun rest s b hb h ho => next_of_item hb h ho rfl (by decide) (by decide) rfl,
    fun rest s b hb h ho => next_of_item hb h ho rfl (by decide) (by decide) rfl,
    fun rest s b hb h ho => next_of_item hb h ho rfl (by decide) (by decide) rfl,
    fun rest s b hb h ho => next_of_item hb h ho rfl (by decide) (by decide) rfl,
    fun rest s b hb h => ?material, fun rest s b hb h => ?curve, fun rest s b hb h => ?kernel,
    fun rest s b hb h hl => ?swathplan, fun rest s b hb h hjob => ?layer, fun rest s b hb h => ?endRecord⟩ <;>
    refine next_of_takes hb h rfl (by decide) (by decide) fun t ht => ?_
  case cellBegin =>
    exact ⟨ht.expSeq, ht.same (f := Content.state) fun _ => rfl, ht.cell fun _ => rfl, ht.cell fun _ => rfl⟩
  case lattice => exact ⟨ht.expSeq, (ht.cell fun _ => List.length_map _).trans takeRecord_lattice⟩
  case material => exact ⟨ht.expSeq, ht.same (f := Content.materials) fun _ => rfl⟩
  case curve => exact ⟨ht.expSeq, ht.same (f := Content.curves) fun _ => rfl⟩
  case kernel => exact ⟨ht.expSeq, ht.same (f := Content.kernels) fun _ => rfl⟩
  case swathplan =>
    obtain ⟨hplan, hstage⟩ := takeRecord_swathplan (a := recPlace s typeSwathplan b) (b := b) hl
    exact ⟨ht.expSeq, (ht.layer fun _ => rfl).trans hplan, (ht.layer fun _ => rfl).trans hstage⟩
  case layer =>
    obtain ⟨hstate, hseq, hz⟩ := takeRecord_layer (a := recPlace s typeLayer b) (b := b) hjob
    exact ⟨ht.expSeq, (ht.same (f := Content.state) fun _ => rfl).trans hstate, (ht.layer fun _ => rfl).trans hseq,
      (ht.layer fun _ => rfl).trans hz⟩
  case endRecord => exact ⟨ht.expSeq, ht.same (f := Content.state) fun _ => rfl⟩

/-- A record that ends its item gives the open body the item, and none is continued (R49). -/
theorem next_of_item_end {i : Instr} {g : Geo} (hb : b = BitVec.ofNat 8 k :: rest) (h : Takes s k b)
    (ho : bodyOpen s.parser.cur) (he : exec i s = .next (s.feed k rest)) (hj : k ≠ typeJob) (hk : k ≠ typeCheck)
    (hg : takeRecord s.parser.cur (recPlace s k b) k b = ({ s.parser.cur with cont := none }).addGeo g) :
    Next i s fun t => t.parser.cur.expSeq = (recSeq b + 1) % 2 ^ 32 ∧ t.parser.cur.cont = none ∧
      openBody t.parser.cur = openBody s.parser.cur ++ [g] := by
  refine next_of_takes hb h he hj hk fun t ht => ⟨ht.expSeq, ?_, ?_⟩
  · rw [ht.same (f := Content.cont) fun _ => rfl, hg, addGeo_cont]
  · rw [ht.body, hg]
    exact openBody_addGeo ho

/-- A record that leaves its item to be continued gives no item yet (R49). -/
theorem next_of_item_more {i : Instr} {x : Cont} (hb : b = BitVec.ofNat 8 k :: rest) (h : Takes s k b)
    (he : exec i s = .next (s.feed k rest)) (hj : k ≠ typeJob) (hk : k ≠ typeCheck)
    (hg : takeRecord s.parser.cur (recPlace s k b) k b = { s.parser.cur with cont := some x }) :
    Next i s fun t => t.parser.cur.expSeq = (recSeq b + 1) % 2 ^ 32 ∧ t.parser.cur.cont = some x ∧
      openBody t.parser.cur = openBody s.parser.cur := by
  refine next_of_takes hb h he hj hk fun t ht => ⟨ht.expSeq, ?_, ?_⟩
  · rw [ht.same (f := Content.cont) fun _ => rfl, hg]
  · rw [ht.body, hg]
    rfl

/-- Settles O12: by what a record gives that begins, continues or ends its item. -/
theorem streamContinuationsTaken : Obligations.StreamContinuationsTaken := by
  unfold Obligations.StreamContinuationsTaken
  refine ⟨fun rest s b hb h ho hc hm => ?_, fun rest s b hb h ho hc hm => ?_, fun rest s b m n a eo v hb h ho hc hm => ?_,
    fun rest s b hb h ho hc hm => ?_, fun rest s b hb h ho hc hm => ?_, fun rest s b hb h hl hc hm => ?_,
    fun rest s b o hb h ho => ?_⟩
  · exact next_of_item_end hb h ho rfl (by decide) (by decide) (by rw [takeRecord_poly_first hc, hm]; rfl)
  · exact next_of_item_more hb h rfl (by decide) (by decide) (by rw [takeRecord_poly_first hc, hm]; rfl)
  · exact next_of_item_end hb h ho rfl (by decide) (by decide) (takeRecord_poly_last hc hm)
  · exact next_of_item_more hb h rfl (by decide) (by decide) (by rw [takeRecord_patch_first hc, hm]; rfl)
  · exact next_of_item_end hb h ho rfl (by decide) (by decide) (by rw [takeRecord_patch_first hc, hm]; rfl)
  · exact next_of_takes hb h rfl (by decide) (by decide) fun t ht =>
      ⟨ht.expSeq, (ht.layer fun _ => rfl).trans (takeRecord_field_whole hc hm)⟩
  · obtain ⟨hopen, hstate, d, hd, hsections, hbox⟩ := takeRecord_cellEnd (a := recPlace s typeCellEnd b) (b := b) ho
    refine next_of_takes hb h rfl (by decide) (by decide) fun t ht => ⟨ht.expSeq, ?_, ?_, ?_⟩
    · exact Option.map_eq_none_iff.1 ((ht.cell (f := OpenCell.id) fun _ => rfl).trans (by rw [hopen]; rfl))
    · exact (ht.same (f := Content.state) fun _ => rfl).trans hstate
    · have hget : Kv.get t.parser.cur.cells o.id = some d := by rw [ht.same (f := Content.cells) fun _ => rfl, hd]
      rw [hget]
      exact ⟨congrArg some hsections, congrArg some hbox⟩

/-! ### A job (R58, R84, R109, R113, R115) -/

/-- ABORT_JOB of a job none of whose layers waits, with nothing held, leaves nothing of the job (R115). -/
theorem abortJob_of_no_layer (hi : s.parser.cur.state ≠ .idle) (he : s.parser.cur.state ≠ .ended) (hh : s.parser.held = [])
    (hl : (s.layers.all fun l => !(s.parser.cur.job.any fun j => j.no == l.job.no)) = true) :
    s.abortJob.parser.cur = Content.fresh ∧ s.abortJob.layers = s.layers := by
  have hnone : (s.layers.filter fun l => s.parser.cur.job.any fun j => j.no == l.job.no) = [] :=
    List.filter_eq_nil_iff.2 fun l hm => by simpa using List.all_eq_true.1 hl l hm
  unfold State.abortJob
  split
  next h => exact absurd h hi
  next h => exact absurd h he
  next =>
    dsimp only
    rw [hnone, hh, List.foldl_nil, retake_nil rfl]
    exact ⟨rfl, undefCells_layers⟩

theorem zlsCtrl_abortJob {w : Word} : s.zlsCtrl (Fld.EXP_ZLS_CTRL_ABORT_JOB.put 1 w) = s.abortJob :=
  if_pos (Field.get_put (by decide))

theorem zlsCtrl_resume {w : Word} (h : Fld.EXP_ZLS_CTRL_ABORT_JOB.get w = 0) :
    s.zlsCtrl (Fld.EXP_ZLS_CTRL_RESUME.put 1 w) = s.zlsResume := by
  have hget : Fld.EXP_ZLS_CTRL_ABORT_JOB.get (Fld.EXP_ZLS_CTRL_RESUME.put 1 w) = 0 :=
    (Field.get_put_other (by decide) (by decide)).trans h
  exact (if_neg (by simp [hget])).trans (if_pos (Field.get_put (by decide)))

/-- Settles O13: each record and command takes the branch of its premises. -/
theorem streamJobLifecycle : Obligations.StreamJobLifecycle := by
  unfold Obligations.StreamJobLifecycle
  refine ⟨fun rest s u b hb hw hl hp hs hn hu hf ha => ?job, fun rest s b l hb h hb1 hl => ?check,
    fun sub rest s b hb h => ?ext, fun code rest s b hb hd hx hw hl hp => ?undefined,
    fun rest s b hb hw hl hp hn hc => ?badCrc, fun w s hi he hh hl => ?abort, fun w s hp => ?abortIdle,
    fun w s hp hw => ?resume, fun b s u hw hh hu hn hp hjob hf hbind ha => ?headsWait,
    fun b s u hl hh hu hn hp ho hf ha => ?lpStall, fun s h => if_neg (by simp [h]), fun s h => if_neg (by simp [h])⟩
  case job =>
    obtain ⟨a, ha⟩ := Option.isSome_iff_exists.1 ha
    obtain ⟨q, hq, hcount⟩ := acceptRecord_job (s := u) (p := Content.fresh) (a := a) (b := b)
    refine ⟨_, rfl, ?_⟩
    dsimp only
    rw [feed_idle hb hw hl, parseRecord_job (by simpa using hp) hs hn, ← hu,
      takeOrHalt_of_place hf (fun h => absurd h (by decide)) ha, showParser_parser, hq]
    refine ⟨hcount.same (f := Content.state) fun _ => rfl, ?_, hcount.expSeq.trans (by simp [hs])⟩
    rw [hcount.same (f := Content.job) fun _ => rfl, hu, jobOpens, snoop_parser]
    rfl
  case check =>
    obtain ⟨q, m, ⟨hparser, hlayers⟩, hseq, hstate, hopen⟩ :=
      acceptRecord_check (s := s.snoop (s.recordBlock typeCheck b)) (a := recPlace s typeCheck b) hb1 hl
    refine ⟨_, rfl, ?_⟩
    dsimp only
    rw [feed_of_takes hb h, showParser_parser, showParser_layers, hparser, hlayers]
    exact ⟨hstate, hopen, by simp [hseq], rfl⟩
  case ext =>
    have hx : isExt (0x60 + sub.val) = true := by simp [isExt]; omega
    refine next_of_takes hb h rfl (by simp [typeJob]; omega) (by simp [typeCheck]; omega) fun t ht => ?_
    rw [takeRecord_ext hx] at ht
    exact ⟨ht.expSeq, ht.accepted, ht.body⟩
  case undefined =>
    obtain ⟨t, ht, hstate, -⟩ := next_of_fault (i := .unsupportedRecord code rest) (c := code.toNat) (by simpa using hb) rfl
      hw hl hp fun _ => recordFault_of_undefined hd hx
    exact ⟨t, ht, hstate⟩
  case badCrc => exact next_of_fault hb rfl hw hl (.inr (.inl hp)) fun _ => recordFault_of_badCrc hc
  case abort =>
    obtain ⟨hcur, hlayers⟩ := abortJob_of_no_layer hi he hh hl
    refine ⟨_, congrArg Host.Outcome.next zlsCtrl_abortJob, ?_, ?_, hlayers⟩ <;> rw [hcur] <;> rfl
  case abortIdle =>
    refine congrArg Host.Outcome.next (zlsCtrl_abortJob.trans ?_)
    unfold State.abortJob
    rcases hp with h | h <;> rw [h]
  case resume =>
    refine ⟨_, congrArg Host.Outcome.next (zlsCtrl_resume hw), ?_⟩
    unfold State.zlsResume
    rw [hp]
    exact ⟨rfl, rfl, rfl, rfl⟩
  case headsWait =>
    subst hu
    obtain ⟨a, ha⟩ := Option.isSome_iff_exists.1 ha
    obtain ⟨hwait, -, hcount⟩ := retake_of_place hh hn (.inl hp) (by decide) (by decide) hf (fun _ => hbind) ha
    obtain ⟨hstate, hseq, -⟩ := takeRecord_layer (a := a) (b := b) hjob
    exact ⟨_, if_pos hw, hwait, (hcount.same (f := Content.state) fun _ => rfl).trans hstate,
      (hcount.layer fun _ => rfl).trans hseq⟩
  case lpStall =>
    subst hu
    obtain ⟨a, ha⟩ := Option.isSome_iff_exists.1 ha
    obtain ⟨-, hstall, hcount⟩ := retake_of_place hh hn (.inr (.inl hp)) (by decide) (by decide) hf
      (fun h => absurd h (by decide)) ha
    refine ⟨_, if_pos hl, hstall, ?_⟩
    rw [hcount.body, ha]
    exact openBody_addGeo ho

end Sys2Proof.Proofs
end

section
/-! Scope: doses of the layer stream (spec/03_layer_stream_dose.md, R82 to R119): the default curve of a material. -/

namespace Sys2Proof.Proofs

open Sys2Proof.Machine

/-- Where no curve stands for the material, the lookup falls to the default curve. -/
theorem dose_of_no_curve {l : Layer} {m : Nat} (h : Kv.get l.curves m = none) (k : Nat) :
    l.dose m k = defaultCurve k := by
  rw [Layer.dose, h]

/-- Settles O57: with no curve in effect the dose is the default curve's, which is the bound of R86. -/
theorem defaultDoseCurve : Obligations.DefaultDoseCurve := by
  unfold Obligations.DefaultDoseCurve
  intro l m k h
  calc l.dose m k = defaultCurve k := dose_of_no_curve h k
    _ = min (16 * k) 65535 := rfl

end Sys2Proof.Proofs
end

section
/-! Scope: the expansion units (spec/04_hierarchy_expansion.md, R120 to R122, R133, R138, R146, R152): the row a unit holds,
its stall, its way out of service and back. -/

namespace Sys2Proof.Proofs

open Sys2Proof.Bits Sys2Proof.Machine Sys2Proof.Safety Sys2Proof.Laws

variable {s t : State} {n k : Nat} {u : ExpUnit} {q : RowId} {f : ExpUnit → ExpUnit}

/-! ### One unit changed -/

theorem onUnit_of_some (h : s.units[n]? = some u) : s.onUnit n f = { s with units := s.units.set n (f u) } := by
  rw [State.onUnit, h]

@[simp] theorem onUnit_get : (s.onUnit n f).units[n]? = (s.units[n]?).map f := by
  cases h : s.units[n]? with
  | none => rw [State.onUnit, h, h]; rfl
  | some u =>
    obtain ⟨hn, -⟩ := List.getElem?_eq_some_iff.1 h
    rw [onUnit_of_some h]
    exact List.getElem?_set_self hn

/-- A change that keeps every unit's row leaves the row that unit `k` holds. -/
theorem onUnit_row (hf : ∀ u, (f u).row = u.row) :
    ((s.onUnit n f).units[k]?).bind (·.row) = (s.units[k]?).bind (·.row) := by
  by_cases hk : n = k
  · subst hk
    rw [onUnit_get]
    cases s.units[n]? <;> simp [hf]
  · unfold State.onUnit
    split
    · exact congrArg (Option.bind · ExpUnit.row) (List.getElem?_set_ne hk)
    · rfl

/-! ### Rows taken (R120, R121, R138) -/

/-- The check of the pool decides whether the unit stalls, and nothing else of it. -/
theorem poolCheck_get (h : s.units[n]? = some u) :
    ∃ b, (s.poolCheck n).units[n]? = some { u with stalled := b } := by
  unfold State.poolCheck
  rw [h]
  dsimp only
  split
  · exact ⟨u.stalled, h⟩
  · split
    · exact ⟨true, by simp [h]⟩
    · exact ⟨false, by simp [h]⟩

/-- A unit whose row fits the pool does not stall. -/
theorem poolCheck_of_fits (h : s.units[n]? = some u) (hq : u.row = some q)
    (hfit : (s.onUnit n fun u => { u with row := none }).poolUsed + ((s.rowOf n q).map (·.need)).getD 0 ≤ s.poolBlocks) :
    s.poolCheck n = s.onUnit n fun u => { u with stalled := false } := by
  simp [State.poolCheck, h, hq, Nat.not_lt.2 hfit]

/-- The first disagreement of a unit is noted with its time, and the unit goes on (R121). -/
theorem disagree_get (h : s.units[n]? = some u) (hl : u.lastDisagree = none) :
    (s.disagree n).units[n]? = some { u with lastDisagree := some s.clk.ticks } := by
  simp [State.disagree, h, hl]

/-! ### Rows ended (R133, R138) -/

@[simp] theorem giveBlocks_live {x : ExpandedRow} : (s.giveBlocks x).live = x.live := rfl

theorem units_of_keeps (h : Keeps (¬ · = .units) s t) : t.units = s.units := h.same .units (· rfl)

theorem rows_of_keeps (h : Keeps (¬ · = .rows) s t) : t.rows = s.rows := h.same .rows (· rfl)

/-- A row with tiles still to come joins the expanded rows. -/
theorem putRow_rows {x : ExpandedRow} (hx : x.live.isEmpty = false) : (s.putRow x).rows = s.rows ++ [x] := by
  have hbins : ∀ v : State, (x.bins.foldl (fun s b => s.putBin x.id b.tcol b.blocks b.entries) v).rows = v.rows := fun v =>
    foldl_same (·.rows) fun _ _ => rows_of_keeps (putBin_keeps .refl (by simp))
  have htable : (s.putTable x.table x.xforms).rows = s.rows := rows_of_keeps (putTable_keeps .refl (by simp))
  simp [State.putRow, hx, hbins, htable]

@[simp] theorem putRow_units {x : ExpandedRow} : (s.putRow x).units = s.units :=
  units_of_keeps (putRow_keeps .refl (by simp))

theorem shadowRow_row {ok : Bool} : ((s.shadowRow n ok).units[k]?).bind (·.row) = (s.units[k]?).bind (·.row) :=
  onUnit_row fun u => by (repeat' split) <;> rfl

@[simp] theorem shadowRow_rows {ok : Bool} : (s.shadowRow n ok).rows = s.rows := onUnit_rows

/-! ### Rows dropped (R146) -/

/-- A dropped row leaves every unit. -/
theorem row_of_dropRows {p : RowId → Bool} (hp : p q = true) (hu : u ∈ (s.dropRows p).units) : u.row ≠ some q := by
  obtain ⟨v, -, rfl⟩ := List.mem_map.1 hu
  intro hq
  by_cases hv : v.row.any p = true
  · rw [if_pos hv] at hq
    cases hq
  · rw [if_neg hv] at hq
    exact hv (by rw [hq]; exact hp)

@[simp] theorem blankTile_units {b : TileId} {c : Nat} : (s.blankTile b c).units = s.units :=
  units_of_keeps (blankTile_keeps .refl (by simp))

/-! ### Writes of EXP_UNIT_CTRL (R122, R152) -/

theorem bit_two_pow : bit (2 ^ n) k = decide (n = k) := by
  rw [← Nat.testBit_two_pow, Nat.testBit_eq_decide_div_mod_eq, bit, Nat.shiftRight_eq_div_pow, beq_eq_decide]

theorem unitsOf_zero : unitsOf 0 = [] := by decide

theorem unitsOf_two_pow (n : Fin 4) : unitsOf (2 ^ n.val) = [n.val] := by
  revert n
  decide

/-- The units, each with its number, that stay in service when those of mask `m` leave. -/
def unitsLeft (s : State) (m : Nat) : List (Nat × ExpUnit) :=
  ((List.range 4).zip s.units).filter fun x => x.2.state == .inService && !x.2.outReq && !bit m x.1

theorem unitsLeft_eq_nil {m : Nat}
    (h : (((List.range 4).zip s.units).all fun x => bit m x.1 || x.2.state != .inService || x.2.outReq) = true) :
    unitsLeft s m = [] := by
  refine List.filter_eq_nil_iff.2 fun x hx => ?_
  have hleaves : bit m x.1 = true ∨ x.2.state ≠ .inService ∨ x.2.outReq = true := by
    simpa [or_assoc] using List.all_eq_true.1 h x hx
  rcases hleaves with h | h | h <;> simp [h]

theorem unitsLeft_ne_nil {m : Nat} (hlen : s.units.length = 4) (h : s.units[k]? = some u) (hs : u.state = .inService)
    (ho : u.outReq = false) (hb : bit m k = false) : unitsLeft s m ≠ [] := by
  have hk : k < 4 := hlen ▸ (List.getElem?_eq_some_iff.1 h).1
  have hmem : (k, u) ∈ (List.range 4).zip s.units :=
    List.mem_iff_getElem?.2 ⟨k, List.getElem?_zip_eq_some.2 ⟨List.getElem?_range hk, h⟩⟩
  exact List.ne_nil_of_mem (List.mem_filter.2 ⟨hmem, by simp [hs, ho, hb]⟩)

section
variable {p : Path} {w : Word}

/-- OUT that would leave no unit in service is refused. -/
theorem unitCtrl_refused (hout : Fld.EXP_UNIT_CTRL_OUT.get w ≠ 0) (hret : Fld.EXP_UNIT_CTRL_RETURN.get w = 0)
    (hleft : unitsLeft s (Fld.EXP_UNIT_CTRL_OUT.get w) = []) :
    s.unitCtrl p w = s.accFlag p Reg.EXP_UNIT_CTRL .refused := by
  unfold unitsLeft at hleft
  simp [State.unitCtrl, hout, hret, hleft, unitsOf_zero]

/-- OUT that leaves a unit in service is noted for the units it names. -/
theorem unitCtrl_out (hret : Fld.EXP_UNIT_CTRL_RETURN.get w = 0)
    (hleft : unitsLeft s (Fld.EXP_UNIT_CTRL_OUT.get w) ≠ []) :
    s.unitCtrl p w = (unitsOf (Fld.EXP_UNIT_CTRL_OUT.get w)).foldl (fun s n => s.onUnit n fun u =>
      if u.state == .inService then { u with outReq := true } else u) s := by
  unfold unitsLeft at hleft
  rw [State.unitCtrl, hret, unitsOf_zero, List.foldl_nil]
  exact if_neg fun h => hleft (List.isEmpty_iff.1 h.2)

/-- RETURN starts SELFTEST in the units it names that are OUT and not frozen. -/
theorem unitCtrl_return (hout : Fld.EXP_UNIT_CTRL_OUT.get w = 0) :
    s.unitCtrl p w = (unitsOf (Fld.EXP_UNIT_CTRL_RETURN.get w)).foldl (fun s n => s.onUnit n fun u =>
      if u.state == .out && !bit (s.regN Reg.ACC_FROZEN_INT) (8 + n) then
        { u with state := .selftest, selftestFails := 0, shadowed := 0 } else u) s := by
  simp [State.unitCtrl, hout, unitsOf_zero]

end

/-! ### The commands -/

theorem exec_tileRowExpand_free {n : Fin 4} (h : s.units[n.val]? = some u) (hs : u.state = .inService)
    (hr : u.row = none) (hq : s.nextRow n.val = some q) :
    exec (.tileRowExpand n false) s = .next ((s.onUnit n fun u => { u with row := some q }).poolCheck n) := by
  change execTileRowExpand n false s = _
  simp [execTileRowExpand, h, hs, hr, hq]

theorem exec_tileRowExpand_disagree {n : Fin 4} (h : s.units[n.val]? = some u) (hs : u.state = .inService)
    (hr : u.row = some q) : exec (.tileRowExpand n true) s = .next ((s.disagree n).poolCheck n) := by
  change execTileRowExpand n true s = _
  simp [execTileRowExpand, h, hs, hr]

/-- A row ended with tiles still to come joins the expanded rows with its blocks, and its unit holds none. -/
theorem exec_tileRowExpandDone_live {v : State} {n : Fin 4} {x : ExpandedRow} {d : List (Fin 4)}
    (h : s.units[n.val]? = some u) (hq : u.row = some q) (hst : u.stalled = false)
    (hv : v = s.onUnit n.val fun u => { u with row := none }) (hx : v.rowOf n.val q = some x)
    (hlive : x.live.isEmpty = false) :
    Next (.tileRowExpandDone n k d) s fun t =>
      t.rows = s.rows ++ [v.giveBlocks x] ∧ (t.units[n.val]?).bind (·.row) = none := by
  change ∃ t, execTileRowExpandDone n k d s = .next t ∧ _
  unfold execTileRowExpandDone
  simp only [h, hq, hst, ← hv, hx]
  refine ⟨_, rfl, ?_, ?_⟩
  · rw [foldl_same (·.rows) fun _ _ => shadowRow_rows]
    have hput : (v.putRow (v.giveBlocks x)).rows = s.rows ++ [v.giveBlocks x] := by
      rw [putRow_rows (x := v.giveBlocks x) hlive, hv, onUnit_rows]
    (repeat' split) <;> simp [hput]
  · rw [foldl_same (fun t : State => (t.units[n.val]?).bind (·.row)) fun _ _ => shadowRow_row]
    have hfree : (v.units[n.val]?).bind (·.row) = none := by simp [hv, h]
    (repeat' split) <;> simp [hfree]

/-- A late row is dropped before its tiles are blanked, which moves no unit. -/
theorem exec_tileRowLate_units {l w r : Nat} (hrows : (s.rows.any fun x => x.id == ⟨l, w, r⟩) = false)
    (hopen : (s.rowUnresolved ⟨l, w, r⟩).isEmpty = false) :
    Next (.tileRowLate l w r) s fun t => t.units = (s.dropRows (· == ⟨l, w, r⟩)).units := by
  refine ⟨_, if_neg (by simp [hrows, hopen]), ?_⟩
  dsimp only
  rw [foldl_same (·.units) fun _ _ => blankTile_units, raise_units, count_units]

/-- Settles O14: each command takes the branch of its premises. -/
theorem expansionUnitsServe : Obligations.ExpansionUnitsServe := by
  unfold Obligations.ExpansionUnitsServe
  refine ⟨fun s n u q h hs hr hq => ?free, fun s n u q h hs hr hl => ?disagree,
    fun s v n u q x k d h hq hst hv hx hl => exec_tileRowExpandDone_live h hq hst hv hx hl,
    fun s n u q h hst hq hfit => ?goesOn, fun l w r s hrows hopen => ?late,
    fun s p n w hout hret ⟨k, y, hk, hy, hys, hyo⟩ hlen hn => ?out,
    fun s p w hout hret hall => congrArg Host.Outcome.next (unitCtrl_refused hout hret (unitsLeft_eq_nil hall)),
    fun s n u h ho => ?leave, fun s n u p w h hs hout hret hfrozen => ?back, fun s n u h hs => ?pass,
    fun s n u h hs => ?fail, fun s n u h hs h64 => ?reenter⟩
  case free =>
    obtain ⟨b, hb⟩ := poolCheck_get (s := s.onUnit n fun u => { u with row := some q }) (n := n)
      (u := { u with row := some q }) (by simp [h])
    exact ⟨_, exec_tileRowExpand_free h hs hr hq, by simp [hb]⟩
  case disagree =>
    obtain ⟨b, hb⟩ := poolCheck_get (disagree_get h hl)
    exact ⟨_, exec_tileRowExpand_disagree h hs hr, by simp [hb, hr]⟩
  case goesOn =>
    refine ⟨s.poolCheck n, ?_, by simp [poolCheck_of_fits h hq hfit, h]⟩
    change execPoolStallEnd n s = _
    simp [execPoolStallEnd, h, hst]
  case late =>
    obtain ⟨t, ht, hunits⟩ := exec_tileRowLate_units hrows hopen
    exact ⟨t, ht, fun u hu => row_of_dropRows (p := (· == ⟨l, w, r⟩)) (beq_self_eq_true _) (hunits ▸ hu)⟩
  case out =>
    have hbit : bit (Fld.EXP_UNIT_CTRL_OUT.get w) k = false := by simp [hout, bit_two_pow, hk.symm]
    refine ⟨_, congrArg Host.Outcome.next (unitCtrl_out hret (unitsLeft_ne_nil hlen hy hys hyo hbit)), ?_⟩
    obtain ⟨u, hu, hs⟩ := Option.map_eq_some_iff.1 hn
    simp [hout, unitsOf_two_pow, hu, hs]
  case leave =>
    change execExpUnitLeave n s = _
    simp [execExpUnitLeave, h, ho]
  case back =>
    refine ⟨_, congrArg Host.Outcome.next (unitCtrl_return hout), ?_⟩
    simp [hret, unitsOf_two_pow, h, hs, hfrozen]
  case pass => exact ⟨_, rfl, by rw [onUnit_of_some h, hs]; rfl⟩
  case fail => exact ⟨_, rfl, by rw [onUnit_of_some h, hs]; rfl⟩
  case reenter =>
    change execXuReenter n s = _
    simp [execXuReenter, onUnit_of_some h, hs, h64]

end Sys2Proof.Proofs
end

section
/-! Scope: the cell cache (spec/04_hierarchy_expansion.md, R127, R128): it holds lines of cells alone. -/

namespace Sys2Proof.Proofs

open Sys2Proof.Machine Sys2Proof.Safety

variable {s : State}

/-- A line that has data of no cell is read past the cache (R127). -/
theorem exec_cellCacheFill_other {line row : Nat} {hits : List Nat} {x : Ecc} (h : s.cellLine line = false) :
    exec (.cellCacheFill line hits row x) s = .next s :=
  if_pos (by simp [h])

/-- Refutes O15: its last clause speaks of every line, without the premise that the line is a cell's. After reset there is no
cell, so that a miss of line 0 is read past the cache, which stays empty. -/
theorem not_surveysAndCellCache : ¬ Obligations.SurveysAndCellCache := by
  unfold Obligations.SurveysAndCellCache
  rintro ⟨-, -, hfill⟩
  obtain ⟨t, ht, hlast, -⟩ := hfill 0 [] 0 .clean State.reset
  rw [exec_cellCacheFill_other (by decide)] at ht
  cases ht
  exact absurd hlast (by decide)

end Sys2Proof.Proofs
end

section
/-! Scope: rasterisation and commit of tiles (spec/05_caldera_rasterisation.md, R186; R192, R196, R204, R209): what the
charge of an old loss can do to a tile whose two results agree.

An engine's second loss takes it out of service, and the votes that wait are then tried again. One of a blanked tile that
has had all its votes finds no majority, and the tiles of its row that are not resolved start again (R196 rules 4 and 5):
among them the tile whose results have just agreed, which then names no writer. -/

namespace Sys2Proof.Proofs

open Sys2Proof.Machine Sys2Proof.Safety

/-- A result that differs from others of its kind in its signature alone. -/
def resultSigned (n : Nat) : RasterResult := ⟨[], [], n, 0, 0, 0, 0⟩

/-- The work that is kept of the tile, so that it needs neither a layer nor bins. -/
def agreedWork : Work := ⟨resultSigned 0, 0, false⟩

/-- The tile whose results are about to agree. -/
def agreedTile : TileId := ⟨1, 0, 0, 0⟩

/-- A blanked tile of the same row. -/
def blankedTile : TileId := ⟨1, 0, 1, 0⟩

/-- A context in which no role is given. -/
def bareCtx (t : TileId) : TileCtx :=
  ⟨t, none, none, none, none, [], [], .raster, 0, none, none, [], none, 0, false, [], none⟩

/-- Checker 10 has delivered and primary 0 has not; engine 20, primary before, has left another result. -/
def agreedCtx : TileCtx := { bareCtx agreedTile with
  primary := some 0, checker := some 10, results := [(20, resultSigned 1), (10, resultSigned 0)], kept := some agreedWork }

/-- The blanked tile has had its two votes, no two results agree, and its primary role has been given up. -/
def blankedCtx : TileCtx := { bareCtx blankedTile with
  checker := some 11, voters := [21, 31], results := [(11, resultSigned 0), (21, resultSigned 1), (31, resultSigned 2)]
  phase := .vote, votes := 2, blanked := true }

/-- Engine 0 quantises the first tile, and engine 20 has lost once within the window. -/
def chargedState : State :=
  let s := { State.reset with ver := { State.reset.ver with ctxs := [agreedCtx, blankedCtx] } }
  (s.onEngine 0 fun x => { x with quant := some ⟨agreedTile, .primary, false, none⟩ }).onEngine 20 fun x =>
    { x with losses := 1, lossAt := some 0 }

/-- The writer that tile `t` names in the next state. -/
def writerNext (t : TileId) : Host.Outcome State Fault Refusal → Option Nat
  | .next s => (s.ctx t).bind (·.writer)
  | _ => none

/-- Engine 20 loses again, the row starts again, and the tile names no writer. -/
theorem writerNext_chargedState :
    writerNext agreedTile (exec (.rasterDone 0 none [] 0 0) chargedState) = none := by
  decide

/-- Refutes O18 in its fifth clause: two results that agree name no writer where the loss of a third engine, whose result
still stands in the context, has the tile's row started again. The clause lacks the premise that every result of the
tile agrees. -/
theorem not_tilesAreRasterisedAndCommitted : ¬ Obligations.TilesAreRasterisedAndCommitted := by
  unfold Obligations.TilesAreRasterisedAndCommitted
  rintro ⟨-, -, -, -, hagree, -⟩
  obtain ⟨t, ht, hwriter⟩ := hagree chargedState _ 0 ⟨agreedTile, .primary, false, none⟩ agreedWork (resultSigned 0) 0 0
    agreedCtx _ (by decide) rfl (by decide) (by decide) rfl (by decide) (by decide) (by decide) rfl rfl rfl rfl
    (by decide) (by decide) rfl (by decide)
  have hnone := writerNext_chargedState
  rw [ht] at hnone
  exact absurd (hwriter.symm.trans hnone) (by decide)

end Sys2Proof.Proofs
end

section
/-! Scope: service of the engines (spec/06_dual_path_verification.md, R205, R206, R208). The service states, and the departures
that wait for a spare, stand in `ver`; the votes that a departure has tried again (R209) leave both as they were. -/

namespace Sys2Proof.Proofs

open Sys2Proof.Machine Sys2Proof.Safety Sys2Proof.Laws

variable {s t : State} {e k n : Nat} {x : Engine} {d : Svc} {f g : Engine → Engine}

/-- The service states of the engines, and the clusters whose departed engine waits for a spare. -/
def service (v : Verify) : List Svc × List Nat := (v.engines.map Engine.svc, v.promote)

theorem svc_eq_service : s.svc e = (service s.ver).1[e]?.getD .out := by
  simp [State.svc, State.engine, service]

theorem svc_of_engine (h : s.engine e = some x) : s.svc e = x.svc := by
  simp [State.svc, h]

/-- An engine whose service state is not OUT is one of the engines. -/
theorem engine_of_svc (h : s.svc e = d) (hd : d ≠ .out) : ∃ x, s.engine e = some x ∧ x.svc = d := by
  cases hx : s.engine e with
  | none => exact absurd (h.symm.trans (by simp [State.svc, hx])) hd
  | some x => exact ⟨x, rfl, (svc_of_engine hx).symm.trans h⟩

/-! ### A change of one engine -/

theorem onEngine_congr (hx : s.engine e = some x) (h : f x = g x) : s.onEngine e f = s.onEngine e g := by
  have hx' : s.ver.engines[e]? = some x := hx
  simp [State.onEngine, hx', h]

theorem svc_onEngine_same (h : s.engine e = some x) : (s.onEngine e f).svc e = (f x).svc :=
  svc_of_engine (engine_onEngine_same h)

theorem onEngine_service (h : ∀ x, (f x).svc = x.svc) : service (s.onEngine e f).ver = service s.ver := by
  unfold State.onEngine
  split
  next x hx =>
    obtain ⟨hlt, rfl⟩ := List.getElem?_eq_some_iff.1 hx
    have hself : (s.ver.engines.map Engine.svc).set e s.ver.engines[e].svc = s.ver.engines.map Engine.svc := by
      rw [← List.getElem_map Engine.svc (h := by simpa), List.set_getElem_self]
    simp [service, List.map_set, h, hself]
  · rfl

theorem onEngine_service_set (h : ∀ x, (f x).svc = d) :
    service (s.onEngine e f).ver = ((service s.ver).1.set e d, s.ver.promote) := by
  unfold State.onEngine
  split
  · simp [service, List.map_set, h]
  next hx => simp [service, List.set_eq_of_length_le, List.getElem?_eq_none_iff.1 hx]

/-! ### States in which the service of one engine differs -/

theorem svc_of_service_set_same {l : List Nat} (h : service t.ver = ((service s.ver).1.set e d, l))
    (hx : s.engine e = some x) : t.svc e = d := by
  obtain ⟨hlt, -⟩ := List.getElem?_eq_some_iff.1 (hx : s.ver.engines[e]? = some x)
  rw [svc_eq_service, h]
  simp [service, hlt]

theorem svc_of_service_set_other {l : List Nat} (h : service t.ver = ((service s.ver).1.set e d, l)) (hk : k ≠ e) :
    t.svc k = s.svc k := by
  rw [svc_eq_service, h, svc_eq_service, List.getElem?_set_ne hk.symm]

/-! ### Work on engines, contexts and entries that gives no engine another service state -/

@[simp] theorem onCtx_service {q : TileId} {f : TileCtx → TileCtx} : service (s.onCtx q f).ver = service s.ver := rfl

@[simp] theorem dropCtx_service {q : TileId} : service (s.dropCtx q).ver = service s.ver := rfl

@[simp] theorem release_service {q : TileId} {p : Role → Bool} : service (s.release q p).ver = service s.ver := by
  simp [service, State.release, Function.comp_def]

@[simp] theorem freeHeld_service {q : TileId} : service (s.freeHeld q).ver = service s.ver := by
  simp [service, State.freeHeld, Function.comp_def]

@[simp] theorem dropRoles_service : service (s.dropRoles e).ver = service s.ver :=
  onEngine_service fun _ => rfl

@[simp] theorem parkCheck_service : service (s.parkCheck e).ver = service s.ver := by
  unfold State.parkCheck
  dsimp only
  (repeat' split) <;> simp [onEngine_service]

@[simp] theorem startRole_service {q : TileId} {r : Role} : service (s.startRole q e r).ver = service s.ver := by
  simp [State.startRole, onEngine_service]

@[simp] theorem putEntry_service {c : CommitEntry} : service (s.putEntry c).ver = service s.ver := rfl

@[simp] theorem storeEntry_service {c : CommitEntry} : service (s.storeEntry c).ver = service s.ver := by
  unfold State.storeEntry
  dsimp only
  split <;> simp

@[simp] theorem blankQuiet_service {q : TileId} {c : Nat} : service (s.blankQuiet q c).ver = service s.ver := by
  unfold State.blankQuiet
  dsimp only
  (repeat' split) <;> simp

@[simp] theorem blankTile_service {q : TileId} {c : Nat} : service (s.blankTile q c).ver = service s.ver := by
  simp [State.blankTile]

@[simp] theorem redoRow_service {q : RowId} : service (s.redoRow q).ver = service s.ver :=
  foldl_same (fun t => service t.ver) fun _ _ => release_service

/-! ### Votes -/

@[simp] theorem noMajority_service {q : TileId} : service (s.noMajority q).ver = service s.ver := by
  unfold State.noMajority
  split
  · rfl
  · dsimp only
    split <;> simp

@[simp] theorem startVote_service {q : TileId} : service (s.startVote q).ver = service s.ver := by
  unfold State.startVote
  (repeat' split) <;> simp

@[simp] theorem voteOn_service {q : TileId} : service (s.voteOn q).ver = service s.ver := by
  unfold State.voteOn
  (repeat' split) <;> simp

@[simp] theorem retryVotes_service : service s.retryVotes.ver = service s.ver :=
  foldl_same (fun t => service t.ver) fun _ _ => voteOn_service

/-! ### A departure (R205, R206) -/

@[simp] theorem outIgnored_ver : (s.outIgnored e d).ver = s.ver := by
  unfold State.outIgnored
  split <;> simp

/-- What a departure does to the service of the engines: the engine stands where it goes, and its cluster waits for a spare
if it was in service. -/
theorem engineLeaves_service : service (s.engineLeaves e d).ver =
    ((service s.ver).1.set e d, if s.svc e = .inService then s.ver.promote ++ [clusterOf e] else s.ver.promote) := by
  unfold State.engineLeaves
  extract_lets was s1 s2 s3 _ s4
  have h3 : service s3.ver = ((service s.ver).1.set e d, s.ver.promote) := by
    simp [s3, s2, s1, onEngine_service_set]
  have h4 : service s4.ver = ((service s.ver).1.set e d,
      if was = .inService then s.ver.promote ++ [clusterOf e] else s.ver.promote) := by
    unfold s4
    split
    · exact congrArg (fun v => (v.1, v.2 ++ [clusterOf e])) h3
    · exact h3
  exact retryVotes_service.trans h4

theorem svc_engineLeaves_same (h : s.engine e = some x) : (s.engineLeaves e d).svc e = d :=
  svc_of_service_set_same engineLeaves_service h

theorem svc_engineLeaves_other (h : k ≠ e) : (s.engineLeaves e d).svc k = s.svc k :=
  svc_of_service_set_other engineLeaves_service h

theorem engineLeaves_promote (h : s.svc e = .inService) :
    (s.engineLeaves e d).ver.promote = s.ver.promote ++ [clusterOf e] :=
  (congrArg (·.2) engineLeaves_service).trans (if_pos h)

/-! ### Spares and their promotion (R205) -/

theorem spareOf_congr (h : ∀ k, (t.svc k == .spare) = (s.svc k == .spare)) : t.spareOf n = s.spareOf n := by
  simp only [State.spareOf, h]

/-- An engine that was no spare leaves the spare of each cluster as it was. -/
theorem spareOf_engineLeaves (hx : s.engine e = some x) (hs : x.svc ≠ .spare) (hd : d ≠ .spare) :
    (s.engineLeaves e d).spareOf n = s.spareOf n :=
  spareOf_congr fun k => by
    rcases eq_or_ne k e with rfl | hk
    · simp [svc_engineLeaves_same hx, svc_of_engine hx, hs, hd]
    · rw [svc_engineLeaves_other hk]

/-- The spare promoted for a departure from cluster `n`: the cluster's own, else that of another. -/
def promotee (s : State) (n : Nat) : Option Nat := s.spareOf n <|> (List.range 4).findSome? s.spareOf

theorem promotee_of_spareOf (h : s.spareOf n = some k) : promotee s n = some k := by
  simp [promotee, h]

theorem svc_of_spareOf (h : s.spareOf n = some k) : s.svc k = .spare :=
  eq_of_beq (List.find?_some (p := fun e => s.svc e == .spare) h)

theorem svc_of_promotee (h : promotee s n = some k) : s.svc k = .spare := by
  rcases (Option.orElse_eq_some _ _ _).1 h with h | ⟨-, h⟩
  · exact svc_of_spareOf h
  · obtain ⟨m, -, hm⟩ := List.exists_of_findSome?_eq_some h
    exact svc_of_spareOf hm

/-- A promotion puts the spare in service and ends the wait of the cluster. -/
theorem promoteSpare_service (hn : s.ver.promote.contains n = true) (hk : promotee s n = some k) :
    service (s.promoteSpare n).ver = ((service s.ver).1.set k .inService, s.ver.promote.erase n) := by
  unfold State.promoteSpare
  extract_lets _ s1
  have hk1 : (s1.spareOf n <|> (List.range 4).findSome? s1.spareOf) = some k := hk
  rw [if_pos hn, hk1]
  dsimp only
  rw [raise_ver]
  exact onEngine_service_set fun _ => rfl

theorem svc_promoteSpare_of_promotee (hn : s.ver.promote.contains n = true) (hk : promotee s n = some k) :
    (s.promoteSpare n).svc k = .inService := by
  obtain ⟨x, hx, -⟩ := engine_of_svc (svc_of_promotee hk) nofun
  exact svc_of_service_set_same (promoteSpare_service hn hk) hx

/-- Without a spare no engine is promoted. -/
theorem promoteSpare_service_of_none (h : promotee s n = none) :
    (service (s.promoteSpare n).ver).1 = (service s.ver).1 := by
  unfold State.promoteSpare
  extract_lets _ s1
  have h1 : (s1.spareOf n <|> (List.range 4).findSome? s1.spareOf) = none := h
  rw [h1]
  split <;> rfl

/-- A promotion leaves each engine but a spare where it stands. -/
theorem svc_promoteSpare_other (h : s.svc e ≠ .spare) : (s.promoteSpare n).svc e = s.svc e := by
  by_cases hn : s.ver.promote.contains n = true
  · cases hk : promotee s n with
    | none => rw [svc_eq_service, promoteSpare_service_of_none hk, svc_eq_service]
    | some k =>
      have hne : e ≠ k := fun he => h (he ▸ svc_of_promotee hk)
      exact svc_of_service_set_other (promoteSpare_service hn hk) hne
  · rw [State.promoteSpare, if_neg hn]

/-! ### The commands of the engines' service (R206, R208) -/

theorem exec_verEngOut {p : Path} {n : Fin 64} (h : s.engine n.val = some x) :
    exec (.verEngOut p n) s =
      if x.svc = .inService ∨ x.svc = .spare then
        if x.outReq.isSome = true then .next s
        else if s.staying < (if x.svc = .inService then 5 else 4) then .next (s.accFlag p Reg.VER_ENG_CTRL .refused)
        else .next (s.onEngine n.val fun x => { x with outReq := some p })
      else .next (s.accFlag p Reg.VER_ENG_CTRL .refused) := by
  change execVerEngOut p n s = _
  unfold execVerEngOut
  rw [h]
  cases hx : x.svc <;> simp [hx]

theorem exec_verEngReturn {n : Fin 64} (h : s.engine n.val = some x) (hs : x.svc = .out) :
    exec (.verEngReturn n) s =
      .next (s.onEngine n.val fun x => { x with svc := .selftest, stFails := 0, shadowN := 0 }) := by
  change execVerEngReturn n s = _
  simp [execVerEngReturn, h, hs]

/-- The boundary at which a commanded OUT takes effect is that of the spare's promotion too. -/
theorem exec_engOutApply {e : Fin 40} (h : s.engine e.val = some x) (hr : x.outReq.isSome = true)
    (hs : x.svc = .inService ∨ x.svc = .spare) :
    exec (.engOutApply e) s = .next
      (if x.svc = .inService then (s.engineLeaves e.val .out).promoteSpare (clusterOf e.val)
        else s.engineLeaves e.val .out) := by
  change execEngOutApply e s = _
  simp [execEngOutApply, h, hr, hs]

theorem exec_engSelftestDone {e : Fin 40} {pass : Bool} (h : s.engine e.val = some x) (hs : x.svc = .selftest) :
    exec (.engSelftestDone e pass) s = .next (s.onEngine e.val fun y =>
      if pass = true then { y with svc := .shadow, shadowN := 0, stFails := 0 }
      else { y with
        stFails := min (x.stFails + 1) 3, svc := if min (x.stFails + 1) 3 ≥ 3 then .out else .selftest }) := by
  change execEngSelftestDone e pass s = _
  cases pass <;> simp [execEngSelftestDone, h, hs]

theorem exec_engShadowReturn {e : Fin 40} (h : s.engine e.val = some x) (hs : x.svc = .shadow) (hn : 16 ≤ x.shadowN) :
    exec (.engShadowReturn e) s = .next ((s.onEngine e.val fun x => { x with
      svc := if s.clusterIn (clusterOf e.val) < 9 then .inService else .spare
      shadowN := 0, dose := none, parked := none, quant := none }).event Reg.VER_EVENT Fld.VER_EVENT_ENG_BACK) := by
  change execEngShadowReturn e s = _
  simp [execEngShadowReturn, h, hs, hn]

/-- At the boundary the engine is OUT, whether a spare takes its place or none does. -/
theorem engOutApply_out {e : Fin 40} (h : s.engine e.val = some x) (hr : x.outReq.isSome = true)
    (hs : x.svc = .inService ∨ x.svc = .spare) : Next (.engOutApply e) s fun t => t.svc e.val = .out := by
  have hout : (s.engineLeaves e.val .out).svc e.val = .out := svc_engineLeaves_same h
  refine ⟨_, exec_engOutApply h hr hs, ?_⟩
  split
  · rw [svc_promoteSpare_other (by simp [hout]), hout]
  · exact hout

/-- An engine in service that goes OUT leaves its place to the spare of its cluster. -/
theorem engOutApply_promotes {e : Fin 40} (h : s.engine e.val = some x) (hr : x.outReq.isSome = true)
    (hs : x.svc = .inService) (hk : s.spareOf (clusterOf e.val) = some k) :
    Next (.engOutApply e) s fun t => t.svc e.val = .out ∧ t.svc k = .inService := by
  obtain ⟨t, ht, hout⟩ := engOutApply_out h hr (.inl hs)
  have hexec := exec_engOutApply h hr (.inl hs)
  rw [if_pos hs, ht] at hexec
  cases hexec
  have hwaits : (s.engineLeaves e.val .out).ver.promote.contains (clusterOf e.val) = true := by
    simp [engineLeaves_promote ((svc_of_engine h).trans hs)]
  have hspare : promotee (s.engineLeaves e.val .out) (clusterOf e.val) = some k :=
    promotee_of_spareOf ((spareOf_engineLeaves h (by simp [hs]) (by decide)).trans hk)
  exact ⟨_, ht, hout, svc_promoteSpare_of_promotee hwaits hspare⟩

/-- Settles O16: each command takes the branch of its premises, and the votes that a departure has tried again change the
service of no engine. -/
theorem enginesServe : Obligations.EnginesServe := by
  unfold Obligations.EnginesServe
  refine ⟨fun s n x p hx hs hr => ?_, fun s n x p hx hs => ?_, fun s n x p hx hs hr => ?_,
    fun s n x hx hs => exec_verEngReturn hx hs, fun s e x hx hr hs => engOutApply_out hx hr hs,
    fun s e x k hx hr hs hk => engOutApply_promotes hx hr hs hk, fun s e x hx hs => exec_engSelftestDone hx hs,
    fun s e x hx hs => ?_, fun s e x hx hs hn => ⟨_, exec_engShadowReturn hx hs hn, ?_⟩,
    fun s n e x hn hk hx => ⟨_, rfl, ?_⟩⟩
  · rw [exec_verEngOut hx]
    rcases hs with ⟨hs, hstay⟩ | ⟨hs, hstay⟩ <;> simp [hs, hr, hstay]
  · rw [exec_verEngOut hx]
    rcases hs with ⟨hs, hr, hstay⟩ | ⟨hs, hr, hstay⟩ | hs | hs | hs
    · simp [hs, hr, hstay]
    · simp [hs, hr, hstay]
    all_goals simp [hs]
  · rw [exec_verEngOut hx, if_pos hs, if_pos hr]
  · exact (exec_engSelftestDone hx hs).trans (congrArg Host.Outcome.next (onEngine_congr hx rfl))
  · exact svc_onEngine_same hx
  · exact ⟨svc_promoteSpare_of_promotee hn hk, congrArg (·.2) (promoteSpare_service hn hk)⟩

end Sys2Proof.Proofs
end

section
/-! Scope: upstream frames of the head ports (spec/09_head_link.md, R292, R320): an answer to ENUM that comes after the
chain's end is known.

A head whose answer is its chain's last one ends the count. Where the map names more heads than that after a loss, the port
stays in ENUM until the next ENUM goes out, and an answer that comes meanwhile, from beyond the chain's end, is not noted:
the count stands. -/

namespace Sys2Proof.Proofs

open Sys2Proof.Machine Sys2Proof.Safety Sys2Proof.Laws

variable {s : State}

/-- A port that has counted its heads notes no more of them. -/
theorem exec_enumRspFrame_counted {p : Fin 6} {fr b : List Byte} {h : Nat} (hi : Inv s) (g : HeadFrame s p fr 0x88 4 h b)
    (hc : (s.port p).counted.isSome = true) :
    exec (.enumRspFrame p fr) s = .next (s.onHead p h fun x => { x with seqUp := some (Bits.rd fr 4 2) }) := by
  obtain ⟨l, hport, -⟩ := port_onHead (h := h) (f := fun x => { x with seqUp := some (Bits.rd fr 4 2) }) (inv_port hi p)
  have hcounted : ((s.onHead p h fun x => { x with seqUp := some (Bits.rd fr 4 2) }).port p).counted.isSome = true := by
    rw [hport]
    exact hc
  change Host.Outcome.next (s.upFrame p fr 0x88 4 _) = _
  rw [upFrame_taken g]
  exact congrArg Host.Outcome.next (if_pos (.inr (.inr hcounted)))

/-- Head 0 has answered ENUM as the last of its chain, after a loss and short of the map: port 0 is still in ENUM. -/
def countedPort : State :=
  (State.reset.setFld (Reg.HP_PORT_STATUS 0) Fld.HP_PORT_STATUS_STATE 2).onPort 0 fun x => { x with
    enumSeen := [0], enumEnd := true, afterLoss := true, enumShort := 1 }

/-- Head 2 answers ENUM as the last of its chain. -/
def lateAnswer : List Byte :=
  let body : List Byte := [0x88, 2, 1, 0, 0, 0, 0, 0, 2, 0, 0, 0]
  body ++ Bits.toLE 4 (Crc.crc32c body)

theorem inv_countedPort : Inv countedPort :=
  inv_of_keeps (s := State.reset) ⟨rfl, rfl, rfl, unitsOk_reset, rfl⟩ (onPort_keeps (setFld_keeps .refl trivial) trivial)

theorem headFrame_lateAnswer : HeadFrame countedPort 0 lateAnswer 0x88 4 2 [2, 0, 0, 0] := by
  decide

/-- Refutes O27 in its seventh clause: head 2 answers after the end of the chain has been counted at head 0. Its answer would
open a gap, so that the chain with it is not complete; but the count that stands has the port note no answer more. -/
theorem not_headFramesTaken : ¬ Obligations.HeadFramesTaken := by
  unfold Obligations.HeadFramesTaken
  rintro ⟨-, -, -, -, -, -, hnoted, -⟩
  obtain ⟨t, ht, hseen⟩ := hnoted 0 lateAnswer countedPort 2 [2, 0, 0, 0] 2 inv_countedPort headFrame_lateAnswer (by decide)
    (by decide) (by decide) (by decide) (by decide)
  rw [exec_enumRspFrame_counted inv_countedPort headFrame_lateAnswer (by decide)] at ht
  cases ht
  exact absurd hseen (by decide)

end Sys2Proof.Proofs
end

section
/-! Scope: edits of the beam map and beam commands (spec/07_beam_map_takeover.md, R229, R237, R239, R240, R245): the map in
force while an edit is open, its validation, and the STATUS byte that a command writes. -/

namespace Sys2Proof.Proofs

open Sys2Proof.Machine Sys2Proof.Safety Sys2Proof.Laws

variable {s : State}

/-! ### Edits (R239) -/

theorem exec_editOpen {p : Path} {w : Word} (hw : bmCtrlMany (Fld.BM_CTRL_EDIT_OPEN.put 1 w) = false)
    (h : s.editMayOpen = true) :
    exec (.editOpen p w) s = .next (({ s with beams := { s.beams with
      saved := some (s.tables.filter fun x => inBeamMap x.1, s.flag Reg.BM_STATUS Fld.BM_STATUS_VALID) }
    } : State).setFld Reg.BM_STATUS Fld.BM_STATUS_EDIT 1) :=
  if_neg (by simp [hw, h])

theorem exec_editOpen_refused {p : Path} {w : Word} (h : s.editMayOpen = false) :
    exec (.editOpen p w) s = .next (s.accFlag p Reg.BM_CTRL .refused) :=
  if_pos (by simp [h])

theorem exec_editCommit {p : Path} {w : Word} (hw : bmCtrlMany (Fld.BM_CTRL_EDIT_COMMIT.put 1 w) = false) :
    exec (.editCommit p w) s = .next (if s.flag Reg.BM_STATUS Fld.BM_STATUS_EDIT then
      { s with beams := { s.beams with validating := true } } else s) := by
  change execEditCommit p w s = _
  unfold execEditCommit
  dsimp only
  rw [if_neg (by simp [hw])]
  split <;> rfl

theorem exec_editCancel {p : Path} {w : Word} {m : List (Nat × Word)} {v : Bool}
    (hw : bmCtrlMany (Fld.BM_CTRL_EDIT_CANCEL.put 1 w) = false) (h : s.beams.saved = some (m, v)) :
    exec (.editCancel p w) s = .next ((({ s with
      tables := m.foldl (fun l x => Kv.put l x.1 x.2 0) (s.tables.filter fun x => !inBeamMap x.1)
      beams := { s.beams with saved := none, validating := false } } : State).setFld Reg.BM_STATUS
        Fld.BM_STATUS_EDIT 0).setFld Reg.BM_STATUS Fld.BM_STATUS_VALID (Bits.b2n v)) := by
  change execEditCancel p w s = _
  unfold execEditCancel
  dsimp only
  rw [if_neg (by simp [hw])]
  split
  · simp_all
  next e => cases h.symm.trans e; rfl

/-! ### The end of a validation (R237, R239) -/

theorem reg_setRegN_ne {a b v : Nat} (h : b ≠ a) : (s.setRegN a v).reg b = s.reg b := getD_put_other h

/-- The registers that show the header are not BM_STATUS. -/
theorem reg_showHeader_status : s.showHeader.reg Reg.BM_STATUS = s.reg Reg.BM_STATUS := by
  have hport : ∀ (t : State) (p v w : Nat),
      ((t.setRegN (Reg.BM_PORT_FIRST p) v).setRegN (Reg.BM_PORT_COLS p) w).reg Reg.BM_STATUS = t.reg Reg.BM_STATUS :=
    fun t p v w => (reg_setRegN_ne (by simp only [Reg.BM_STATUS, Reg.BM_PORT_COLS]; omega)).trans
      (reg_setRegN_ne (by simp only [Reg.BM_STATUS, Reg.BM_PORT_FIRST]; omega))
  unfold State.showHeader
  dsimp only
  rw [foldl_same (·.reg Reg.BM_STATUS) fun t p => hport t p _ _]
  iterate 5 rw [reg_setRegN_ne (by decide)]

/-- The map in the window passes: it is in force. -/
theorem validateMap_pass (h : validate s.tables = none) :
    s.validateMap.flag Reg.BM_STATUS Fld.BM_STATUS_VALID = true ∧ s.validateMap.tables = s.tables ∧
      s.validateMap.beams.validating = s.beams.validating := by
  have hkeeps : Keeps (fun p => ¬ p = .beams ∧ ¬ p = .tables) s
      ((s.setFld Reg.BM_STATUS Fld.BM_STATUS_VALID 1).setRegN Reg.BM_VALID_ERR 0).showHeader :=
    showHeader_keeps (setRegN_keeps (setFld_keeps .refl (by simp)) (by simp)) (by simp)
  have hreg : ((s.setFld Reg.BM_STATUS Fld.BM_STATUS_VALID 1).setRegN Reg.BM_VALID_ERR 0).showHeader.reg Reg.BM_STATUS =
      (s.setFld Reg.BM_STATUS Fld.BM_STATUS_VALID 1).reg Reg.BM_STATUS :=
    reg_showHeader_status.trans (reg_setRegN_ne (by decide))
  have hvalid : ((s.setFld Reg.BM_STATUS Fld.BM_STATUS_VALID 1).setRegN Reg.BM_VALID_ERR 0).showHeader.fld Reg.BM_STATUS
      Fld.BM_STATUS_VALID = 1 :=
    (congrArg Fld.BM_STATUS_VALID.get hreg).trans (fld_setFld_self (by decide))
  unfold State.validateMap
  rw [h]
  dsimp only
  generalize State.showHeader _ = u at hkeeps hvalid
  have hflag : u.flag Reg.BM_STATUS Fld.BM_STATUS_VALID = true := by simp [State.flag, hvalid]
  exact ⟨hflag, hkeeps.same .tables (by simp), congrArg Beams.validating (hkeeps.same .beams (by simp))⟩

/-- What the end of a validation does with a map that is in force (R229, R239, R295). -/
def editEnds (s : State) (old : List (Nat × Word)) : State :=
  let s := s.countStatus old (hdrNbeam s.tables)
  let s := ({ s with beams := { s.beams with saved := none } } : State).setFld Reg.BM_STATUS Fld.BM_STATUS_EDIT 0
  (List.range 6).foldl (fun s p => if s.portState p = 5 ∨ s.portState p = 6 then s.rowMaps p else s) s

theorem editEnds_map {old : List (Nat × Word)} :
    (editEnds s old).beams = { s.beams with saved := none } ∧ (editEnds s old).tables = s.tables := by
  unfold editEnds
  extract_lets u b v
  have hcount : Keeps (fun p => ¬ p = .beams ∧ ¬ p = .tables) s u := countStatus_keeps .refl (by simp)
  have hbeams : v.beams = { s.beams with saved := none } :=
    congrArg (fun b : Beams => { b with saved := none }) (hcount.same .beams (by simp))
  have htables : v.tables = s.tables := hcount.same .tables (by simp)
  clear_value v
  have hmaps : Keeps (fun p => ¬ p = .beams ∧ ¬ p = .tables) v ((List.range 6).foldl
      (fun s p => if s.portState p = 5 ∨ s.portState p = 6 then s.rowMaps p else s) v) :=
    keeps_foldl .refl fun _ _ k => keeps_ite (rowMaps_keeps k (by simp)) k
  exact ⟨(hmaps.same .beams (by simp)).trans hbeams, (hmaps.same .tables (by simp)).trans htables⟩

theorem exec_editValidationDone_pass (hv : s.beams.validating = true) (h : validate s.tables = none) :
    Next .editValidationDone s fun t => t.beams.validating = false ∧ t.beams.saved = none ∧ t.tables = s.tables := by
  obtain ⟨hvalid, htables, hval⟩ := validateMap_pass (s := { s with beams := { s.beams with validating := false } }) h
  refine ⟨editEnds (State.validateMap { s with beams := { s.beams with validating := false } }) s.bmap, ?_, ?_⟩
  · change execEditValidationDone s = _
    unfold execEditValidationDone
    rw [if_pos hv]
    dsimp only
    rw [if_pos hvalid]
    rfl
  · simp only [editEnds_map]
    exact ⟨hval, trivial, htables⟩

/-! ### Beam commands (R229, R240, R245) -/

theorem tbl_setTbl_self {a : Nat} {w : Word} : (s.setTbl a w).tbl a = w := getD_put_same

theorem status_of_tbl {b : Nat} :
    (beamE s.tables b).status = (⟨16, 8⟩ : Field).get (s.tbl (beamStatusWord b)) := rfl

/-- The STATUS byte written reads as written. -/
theorem status_putStatusByte {b v : Nat} : (beamE (s.putStatusByte b v).tables b).status = v % 256 := by
  rw [status_of_tbl, State.putStatusByte, tbl_setTbl_self]
  exact Field.get_put (by decide)

theorem putStatusByte_beams {b v : Nat} : (s.putStatusByte b v).beams = s.beams := setTbl_beams

/-- A change of a beam's status to one that is not DEAD writes the byte, and leaves what the map has beside its tables. -/
theorem setStatus_alive {b v : Nat} (hv : v < 256) (halive : v % 4 ≠ 2) :
    (beamE (s.setStatus b v).tables b).status = v ∧ (s.setStatus b v).beams = s.beams := by
  have hput : (beamE (s.putStatusByte b v).tables b).status = v := status_putStatusByte.trans (Nat.mod_eq_of_lt hv)
  have hchanged : Keeps (· = .regs) (s.putStatusByte b v) (s.putStatusByte b v).statusChanged :=
    statusChanged_keeps .refl rfl
  have hlive : ¬ (v % 4 = 2 ∧ (beamE s.tables b).status % 4 ≠ 2) := fun h => halive h.1
  unfold State.setStatus
  dsimp only
  rw [if_neg hlive]
  split
  · exact ⟨‹_›, rfl⟩
  · split
    · exact ⟨hput, putStatusByte_beams⟩
    · rw [hchanged.same .tables (by simp), hchanged.same .beams (by simp)]
      exact ⟨hput, putStatusByte_beams⟩

theorem fails_setFails {b f p : Nat} : Kv.getD (s.setFails b f p).beams.fails b 0 = f := by
  unfold State.setFails
  dsimp only
  exact getD_put_same

/-- A command of STATUS LIVE with LOCK, on a beam of the map that no report of the cycle changes. -/
theorem exec_beamCmd_live {p : Path} {w : Word} (hb : Fld.BM_BEAM_CMD_BEAM.get w < hdrNbeam s.tables)
    (hst : Fld.BM_BEAM_CMD_STATUS.get w = 0) (hop : Fld.BM_BEAM_CMD_LOCKOP.get w = 1)
    (hrep : s.repNow (Fld.BM_BEAM_CMD_BEAM.get w) = none) :
    Next (.beamCmd p w) s fun t => Kv.getD t.beams.fails (Fld.BM_BEAM_CMD_BEAM.get w) 0 = 0 ∧
      (beamE t.tables (Fld.BM_BEAM_CMD_BEAM.get w)).status = (beamE s.tables (Fld.BM_BEAM_CMD_BEAM.get w)).status / 4 % 32 *
        4 + 128 := by
  have hlt : (beamE s.tables (Fld.BM_BEAM_CMD_BEAM.get w)).status / 4 % 32 * 4 + 128 < 256 := by omega
  have halive : ((beamE s.tables (Fld.BM_BEAM_CMD_BEAM.get w)).status / 4 % 32 * 4 + 128) % 4 ≠ 2 := by omega
  change ∃ t, execBeamCmd p w s = .next t ∧ _
  unfold execBeamCmd
  simp only [hrep, hst, hop, hb, not_true_eq_false, if_false, if_true, Nat.add_zero, Nat.mul_one, OfNat.zero_ne_ofNat]
  split
  · exact ⟨_, rfl, fails_setFails, Eq.symm ‹_›⟩
  · have hset := (setStatus_alive (s := s) (b := Fld.BM_BEAM_CMD_BEAM.get w) hlt halive).1
    generalize s.setStatus _ _ = u at hset ⊢
    refine ⟨_, rfl, ?_, hset⟩
    dsimp only
    exact fails_setFails

theorem exec_beamCmd_refused {p : Path} {w : Word} (hb : hdrNbeam s.tables ≤ Fld.BM_BEAM_CMD_BEAM.get w) :
    exec (.beamCmd p w) s = .next (s.accFlag p Reg.BM_BEAM_CMD .refused) :=
  if_pos (Nat.not_lt.2 hb)

/-- Settles O20: each command takes the branch of its premises; the header's registers are not the status register, and a
status that is not DEAD changes the map's tables in its own byte alone. -/
theorem beamMapEdits : Obligations.BeamMapEdits := by
  unfold Obligations.BeamMapEdits
  refine ⟨fun s p w hw h => ⟨_, exec_editOpen hw h, rfl, rfl⟩, fun s p w h => exec_editOpen_refused h,
    fun s p w hw h => (exec_editCommit hw).trans (congrArg _ (if_pos h)),
    fun s p w hw h => (exec_editCommit hw).trans (congrArg _ (if_neg (by simp [h]))),
    fun s p w m v hw h => ⟨_, exec_editCancel hw h, rfl, rfl, rfl⟩,
    fun s hv h _ => exec_editValidationDone_pass hv h,
    fun s p w hb hst hop hrep _ => ?_, fun s p w hb => exec_beamCmd_refused hb⟩
  obtain ⟨t, ht, hfails, hstatus⟩ := exec_beamCmd_live hb hst hop hrep
  exact ⟨t, ht, hfails, by omega, by omega⟩

end Sys2Proof.Proofs
end

section
/-! Scope: the power status register (spec/19_power_states.md, R612): what leaves it as it was. The ends of a power step put
head ports to rest or wake them, set clusters to their lowest clock and hold channels at NORMAL: none of that writes the
register in which the transition in progress and the pending request stand. -/

namespace Sys2Proof.Proofs

open Sys2Proof.Machine Sys2Proof.Safety Sys2Proof.Laws

variable {s t : State}

/-- `t` has the invariant, and PWR_STATUS as `s` has it. -/
structure StatusKept (s t : State) : Prop where
  inv : Inv s → Inv t
  reg : Inv s → t.reg Reg.PWR_STATUS = s.reg Reg.PWR_STATUS

namespace StatusKept

theorem refl : StatusKept s s := ⟨id, fun _ => rfl⟩

theorem trans {u : State} (h : StatusKept s t) (g : StatusKept t u) : StatusKept s u :=
  ⟨fun i => g.inv (h.inv i), fun i => (g.reg (h.inv i)).trans (h.reg i)⟩

/-- A field of PWR_STATUS reads as before. -/
theorem fld (h : StatusKept s t) (i : Inv s) {f : Field} : t.fld Reg.PWR_STATUS f = s.fld Reg.PWR_STATUS f :=
  congrArg f.get (h.reg i)

/-! ### Other registers, and other parts of the state -/

/-- A change of anything but registers. -/
theorem rest {u : State} (h : StatusKept s t) (k : Keeps (· ≠ .regs) t u) : StatusKept s u :=
  h.trans ⟨k.inv, fun _ => reg_of_regs (k.same .regs (· rfl)) _⟩

theorem setReg {a : Nat} {w : Word} (h : StatusKept s t) (ha : Reg.PWR_STATUS ≠ a) : StatusKept s (t.setReg a w) :=
  h.trans ⟨inv_setReg, fun i => reg_setReg_other i ha⟩

theorem setFld {a v : Nat} {f : Field} (h : StatusKept s t) (ha : Reg.PWR_STATUS ≠ a) : StatusKept s (t.setFld a f v) :=
  h.setReg ha

theorem setRegN {a v : Nat} (h : StatusKept s t) (ha : Reg.PWR_STATUS ≠ a) : StatusKept s (t.setRegN a v) := h.setReg ha

theorem event {a : Nat} {f : Field} (h : StatusKept s t) (ha : Reg.PWR_STATUS ≠ a) : StatusKept s (t.event a f) :=
  h.setReg ha

theorem count {a n : Nat} (h : StatusKept s t) (ha : Reg.PWR_STATUS ≠ a) : StatusKept s (t.count a n) := h.setReg ha

theorem setPair {a v : Nat} (h : StatusKept s t) (ha : Reg.PWR_STATUS ≠ a) (hb : Reg.PWR_STATUS ≠ a + 4) :
    StatusKept s (t.setPair a v) :=
  (h.setRegN ha).setRegN hb

theorem logErr {c : Cls} {b k u i : Nat} (h : StatusKept s t) : StatusKept s (t.logErr c b k u i) :=
  h.trans ⟨errOnly_logErr.inv, fun i => reg_logErr i (by decide)⟩

theorem raise {c : Cls} {ev k u : Nat} {f : Field} (h : StatusKept s t) (ha : Reg.PWR_STATUS ≠ ev) :
    StatusKept s (t.raise c ev f k u) :=
  (h.event ha).logErr

theorem ite {c : Prop} [Decidable c] {u : State} (h : StatusKept s t) (g : StatusKept s u) :
    StatusKept s (if c then t else u) := by
  split <;> assumption

theorem foldl {α : Type} {f : State → α → State} {l : List α} (h : StatusKept s t)
    (g : ∀ u, ∀ x ∈ l, StatusKept s u → StatusKept s (f u x)) : StatusKept s (l.foldl f t) :=
  List.foldlRecOn l f h fun u hu x hx => g u x hx hu

theorem onPort {p : Nat} {f : Port → Port} (h : StatusKept s t) : StatusKept s (t.onPort p f) :=
  h.rest (onPort_keeps .refl (by simp))

theorem onHead {p x : Nat} {f : HeadLink → HeadLink} (h : StatusKept s t) : StatusKept s (t.onHead p x f) :=
  h.rest (onHead_keeps .refl (by simp))

theorem onLane {n : Nat} {f : Lane → Lane} (h : StatusKept s t) : StatusKept s (t.onLane n f) :=
  h.rest (onLane_keeps .refl (by simp))

theorem fill {q : Nat} (h : StatusKept s t) : StatusKept s (t.fill q) := h.rest (fill_keeps .refl (by simp))

/-! ### Frames of the head ports (R290, R291, R418) -/

theorem snoopUnit {x : Nat × Word} {k : SnoopBlock} (h : StatusKept s t) (hx : x.1 < 4) :
    StatusKept s (t.snoopUnit x k) := by
  have hval : Reg.PWR_STATUS ≠ Reg.CRC_U_VAL_LO x.1 ∧ Reg.PWR_STATUS ≠ Reg.CRC_U_VAL_LO x.1 + 4 ∧
      Reg.PWR_STATUS ≠ Reg.CRC_U_BLOCKS x.1 ∧ Reg.PWR_STATUS ≠ Reg.CRC_U_STATUS x.1 := by
    simp only [Reg.PWR_STATUS, Reg.CRC_U_VAL_LO, Reg.CRC_U_BLOCKS, Reg.CRC_U_STATUS]
    omega
  have hfail : Reg.PWR_STATUS ≠ Reg.CRC_U_FAILS x.1 ∧ Reg.PWR_STATUS ≠ Reg.CRC_U_LAST_ID_LO x.1 ∧
      Reg.PWR_STATUS ≠ Reg.CRC_U_LAST_ID_LO x.1 + 4 := by
    simp only [Reg.PWR_STATUS, Reg.CRC_U_FAILS, Reg.CRC_U_LAST_ID_LO]
    omega
  have hvalue := ((h.setPair (v := unitValue x.2 k) hval.1 hval.2.1).count (n := 1) hval.2.2.1).setFld
    (f := Fld.CRC_U_STATUS_LAST_FAIL) (v := Bits.b2n (unitBad x.2 k)) hval.2.2.2
  exact ite (((hvalue.count hfail.1).setPair hfail.2.1 hfail.2.2).setRegN (by decide)) hvalue

theorem snoop {k : SnoopBlock} (h : StatusKept s t) : StatusKept s (t.snoop k) :=
  h.foldl fun _ x hx g => g.snoopUnit (by
    obtain ⟨u, hu, rfl⟩ := List.mem_map.1 hx
    exact List.mem_range.1 (List.mem_filter.1 hu).1)

theorem sendFrame {p x ty : Nat} {pay : List Byte} (h : StatusKept s t) : StatusKept s (t.sendFrame p x ty pay) := by
  unfold State.sendFrame State.sendFrameU
  dsimp only
  have hsent : ∀ {k : SnoopBlock} {fr : List Byte}, StatusKept s ((t.snoop k).sendHead p fr) :=
    h.snoop.rest (sendHead_keeps .refl (by simp))
  exact ite (ite hsent.logErr hsent).onPort (ite hsent.logErr hsent).onHead

theorem sbSend {p x : Nat} {r : SbReq} (h : StatusKept s t) : StatusKept s (t.sbSend p x r) := h.sendFrame.onHead

theorem sbKick {p x : Nat} (h : StatusKept s t) : StatusKept s (t.sbKick p x) := by
  unfold State.sbKick
  split
  · exact ite h h.onHead.sbSend
  · exact h

theorem headUnpark {p : Nat} (h : StatusKept s t) : StatusKept s (t.headUnpark p) :=
  (h.onPort.foldl fun _ _ _ g => g.rest (sendHead_keeps .refl (by simp))).foldl fun _ _ _ g => g.sbKick

/-! ### The states of a head port (R320) -/

theorem milestoneNow {m : Nat} (h : StatusKept s t) : StatusKept s (t.milestoneNow m) := by
  have hm : Reg.PWR_STATUS ≠ Reg.CFG_MILESTONE m := by
    simp only [Reg.PWR_STATUS, Reg.CFG_MILESTONE]
    omega
  exact ite ((h.rest (free_keeps .refl (by simp))).setRegN hm) h

theorem status_ne_port {p : Nat} : Reg.PWR_STATUS ≠ Reg.HP_PORT_STATUS p := by
  simp only [Reg.PWR_STATUS, Reg.HP_PORT_STATUS]
  omega

theorem setPortState {p st : Nat} (h : StatusKept s t) : StatusKept s (t.setPortState p st) := by
  have hst := h.setFld (f := Fld.HP_PORT_STATUS_STATE) (v := st) (status_ne_port (p := p))
  exact ite (ite hst hst.fill).milestoneNow (ite hst hst.fill)

theorem portFault {p c : Nat} (h : StatusKept s t) : StatusKept s (t.portFault p c) :=
  (h.setPortState.setFld status_ne_port).onPort

theorem enterEnum {p : Nat} (h : StatusKept s t) : StatusKept s (t.enterEnum p) :=
  ite h.onPort.portFault (ite h.onPort.onPort h.onPort).setPortState.onPort.sendFrame

theorem toEnumCheck {p : Nat} (h : StatusKept s t) : StatusKept s (t.toEnumCheck p) := ite h.enterEnum h

/-! ### Lanes and wake of a head port (R412, R418 to R420) -/

/-- The port of a lane of head port `p`, and how many lanes there are. -/
theorem lane_of_headPort {p n : Nat} (hp : p < 6) (hn : n ∈ lanesOf (5 + p)) : lanePort n = 5 + p ∧ n < 41 := by
  have hall : ∀ q : Fin 6, ∀ m ∈ lanesOf (5 + q.val), lanePort m = 5 + q.val ∧ m < 41 := by decide
  exact hall ⟨p, hp⟩ n hn

theorem setTgt {x v : Nat} {f : Field} (h : StatusKept s t) : StatusKept s (t.setTgt x f v) :=
  h.setFld (by simp only [Reg.PWR_STATUS, Reg.CAL_TGT_STATUS]; omega)

theorem status_ne_lane {n : Nat} : Reg.PWR_STATUS ≠ Reg.LN_LANE_STATUS n := by
  simp only [Reg.PWR_STATUS, Reg.LN_LANE_STATUS]
  omega

theorem setLane {n st : Nat} (h : StatusKept s t) : StatusKept s (t.setLane n st) := (h.setFld status_ne_lane).setTgt

theorem showCal (h : StatusKept s t) : StatusKept s t.showCal := by
  unfold State.showCal
  extract_lets any sens done s1 s2
  have hbusy : StatusKept s s2 := ((h.setFld (by decide)).setFld (by decide)).setFld (by decide)
  exact ite (hbusy.setFld (by decide)) hbusy

theorem calBegin {x : Nat} (h : StatusKept s t) : StatusKept s (t.calBegin x) := by
  have hstale : ∀ {u : State}, StatusKept s u → StatusKept s
      (u.setFld (Reg.HM_CH_STATUS x) Fld.HM_CH_STATUS_STALE 1).showStale := fun g =>
    ((g.setFld (by simp only [Reg.PWR_STATUS, Reg.HM_CH_STATUS]; omega)).setFld (by decide)).setFld (by decide)
  unfold State.calBegin
  refine showCal ?_
  split
  · exact hstale (ite h.setTgt.setTgt h.setTgt)
  · exact hstale (ite h.setTgt.setTgt h.setTgt)
  · exact ite h.setTgt.setTgt h.setTgt

theorem enterTrain {n : Nat} (h : StatusKept s t) (hport : 5 ≤ lanePort n) (hn : n < 41) : StatusKept s (t.enterTrain n) := by
  have heq : Reg.PWR_STATUS ≠ Reg.LN_LANE_EQ n := by
    simp only [Reg.PWR_STATUS, Reg.LN_LANE_EQ]
    omega
  unfold State.enterTrain
  extract_lets q others s1 s2 s3 s4
  have h1 : StatusKept s s1 := h.setLane.setFld status_ne_lane
  have h2 : StatusKept s s2 := h1.onLane.rest (sendTs_keeps .refl (by simp))
  have h4 : StatusKept s s4 := (h2.setFld heq).setTgt.calBegin
  clear_value s4
  have hq : ¬ (1 ≤ q ∧ q < 5 ∧ s4.fpState (q - 1) = 0) := fun h => absurd h.2.1 (Nat.not_lt.2 hport)
  rw [if_neg hq]
  exact h4

theorem unpark {p : Nat} (hp : p < 6) (h : StatusKept s t) : StatusKept s (t.unpark (5 + p)) := by
  unfold State.unpark
  rw [if_neg (by omega), if_neg (by omega), if_pos (by omega), Nat.add_sub_cancel_left]
  exact h.headUnpark

theorem endReq {p : Nat} (hp : p < 6) (h : StatusKept s t) : StatusKept s (t.endReq (5 + p)) :=
  unpark hp (h.rest (dropReq_keeps .refl (by simp)))

theorem portAwake {p : Nat} (hp : p < 6) (h : StatusKept s t) : StatusKept s (t.portAwake (5 + p)) := by
  have hmask : t.maskCheck (5 + p) = t := if_pos (.inl (by omega))
  have htrain : StatusKept s ((t.fill (5 + p)).resumeTrain (5 + p)) := h.fill.foldl fun u n hn g => by
    obtain ⟨hport, hlt⟩ := lane_of_headPort hp hn
    exact ite (g.enterTrain (by omega) hlt) g
  unfold State.portAwake
  dsimp only
  rw [hmask, if_neg (show ¬ 5 + p = 0 by omega), if_neg (show ¬ 5 + p < 5 by omega), if_pos (show 5 + p < 11 by omega),
    Nat.add_sub_cancel_left]
  exact ite (unpark hp htrain.toEnumCheck) h

theorem wakePort {p : Nat} {ask : Bool} (hp : p < 6) (h : StatusKept s t) : StatusKept s (t.wakePort (5 + p) ask) :=
  portAwake hp (h.foldl fun _ _ _ g => ite g.setLane (ite (ite (g.onLane.rest (emit_keeps .refl (by simp))) g.onLane) g))

theorem leaveLd {p : Nat} (hp : p < 6) (h : StatusKept s t) : StatusKept s (t.leaveLd (5 + p)) :=
  ite (h.wakePort hp) (h.foldl fun _ _ _ g => ite (g.onLane.rest (emit_keeps .refl (by simp))) g)

theorem headWake {p : Nat} (hp : p < 6) (h : StatusKept s t) : StatusKept s (t.headWake p) :=
  leaveLd hp (ite h.onPort h)

/-! ### Clocks of the clusters and channels that are not valid (R26, R599, R615) -/

theorem status_ne_cluster {n : Nat} : Reg.PWR_STATUS ≠ Reg.CE_CL_STATUS n := by
  simp only [Reg.PWR_STATUS, Reg.CE_CL_STATUS]
  omega

theorem avsEnd {n : Nat} (h : StatusKept s t) : StatusKept s (t.avsEnd n) :=
  (h.rest (keeps_ver (x := { t.ver with avs := t.ver.avs.filter fun a => a.1 != n }) .refl (by simp) rfl)).setFld
    status_ne_cluster

theorem clocksUp (h : StatusKept s t) : StatusKept s t.clocksUp :=
  h.foldl fun _ _ _ g => g.avsEnd.setFld status_ne_cluster

theorem clocksLow (h : StatusKept s t) : StatusKept s t.clocksLow :=
  h.foldl fun _ _ _ g => g.avsEnd.setFld status_ne_cluster

theorem avsBegin {n mhz : Nat} (h : StatusKept s t) : StatusKept s (t.avsBegin n mhz) :=
  ite h ((h.rest (keeps_ver (x := { t.ver with
    avs := t.ver.avs ++ [(n, min (max mhz 800) (t.avsTop n), t.clk.ticks)] }) .refl (by simp) rfl)).setFld status_ne_cluster)

theorem throttleCheck (h : StatusKept s t) : StatusKept s t.throttleCheck := by
  have hcap := h.setFld (a := Reg.HM_STATUS) (f := Fld.HM_STATUS_THROTTLE) (v := Bits.b2n (t.hmActs 1)) (by decide)
  exact ite ((hcap.event (by decide)).foldl fun _ _ _ g => ite g.avsBegin g) (ite (hcap.event (by decide)) hcap)

theorem showLevels (h : StatusKept s t) : StatusKept s t.showLevels :=
  ((h.foldl fun _ _ _ g => g.setRegN (by simp only [Reg.PWR_STATUS, Reg.HM_LEVEL]; omega)).setFld (by decide)).setFld
    (by decide)

theorem hmInvalid {l : List Nat} (h : StatusKept s t) : StatusKept s (t.hmInvalid l) := by
  refine ite h (setFld (throttleCheck (showLevels (h.foldl fun u c _ g => ?_))) (by decide))
  have hne : Reg.PWR_STATUS ≠ Reg.HM_CH_STATUS c := by
    simp only [Reg.PWR_STATUS, Reg.HM_CH_STATUS]
    omega
  exact ((g.setFld hne).setFld hne).rest (keeps_hm .refl (by simp) (by simp))

/-! ### A step undone (R601) -/

theorem stepUndo (h : StatusKept s t) : StatusKept s t.stepUndo := by
  refine ite h.clocksUp (ite (setFld ?_ (by decide)) h)
  refine foldl (h.foldl fun _ p hp g => g.endReq (List.mem_range.1 hp)) fun _ p hp g => ?_
  exact g.headWake (List.mem_range.1 (List.mem_filter.1 hp).1)

end StatusKept

end Sys2Proof.Proofs
end

section
/-! Scope: power states, steps and wake (spec/19_power_states.md, R231, R420, R597 to R609): how a request starts its first
step, how a step ends, and what a wake asks for. -/

namespace Sys2Proof.Proofs

open Sys2Proof.Machine Sys2Proof.Safety Sys2Proof.Laws

variable {s t : State}

/-! ### A step starts (R597, R600, R603) -/

theorem askVcore_pw {mv : Nat} : (s.askVcore mv).pw = { s.pw with vreq := some mv, vok := false } :=
  (hmInvalid_keeps (F := (· ≠ .pw)) .refl (by simp)).same .pw (· rfl)

theorem clocksLow_pw : s.clocksLow.pw = s.pw := (clocksLow_keeps (F := (· ≠ .pw)) .refl (by simp)).same .pw (· rfl)

/-- The steps down to IDLE, and up from HOLD and DEEP, ask for the voltage of the state they lead to. -/
theorem stepStart_pw {a b mv : Nat} (h : (a, b, mv) = (0, 1, 750) ∨ (a, b, mv) = (2, 1, 750) ∨ (a, b, mv) = (3, 2, 700)) :
    (s.stepStart a b).pw = { s.pw with step := some (a, b), vreq := some mv, vok := false } := by
  rcases h with h | h | h <;> cases h
  · have hstart : s.stepStart 0 1 = (s.onPw fun p =>
        { p with step := some (0, 1), vreq := none, vok := true }).clocksLow.askVcore 750 := rfl
    rw [hstart, askVcore_pw, clocksLow_pw]
    rfl
  · have hstart : s.stepStart 2 1 = (s.onPw fun p =>
        { p with step := some (2, 1), vreq := none, vok := true }).askVcore 750 := rfl
    rw [hstart, askVcore_pw]
    rfl
  · have hstart : s.stepStart 3 2 = (s.onPw fun p =>
        { p with step := some (3, 2), vreq := none, vok := true }).askVcore 700 := rfl
    rw [hstart, askVcore_pw]
    rfl

theorem fld_onPw {f : Power → Power} {a : Nat} {g : Field} : (s.onPw f).fld a g = s.fld a g := rfl

/-- The transition to `x` is shown, asked for over `path`. -/
def transition (s : State) (path : Path) (x : Nat) : State :=
  ((s.setFld Reg.PWR_STATUS Fld.PWR_STATUS_TARGET x).setFld Reg.PWR_STATUS Fld.PWR_STATUS_BUSY 1).onPw fun p =>
    { p with path := path }

theorem transition_shows {path : Path} {x : Nat} (hx : x < 8) :
    (transition s path x).pwrCur = s.pwrCur ∧ (transition s path x).pwrTarget = x := by
  unfold State.pwrCur State.pwrTarget transition
  rw [fld_onPw, fld_onPw, fld_setFld_apart (by decide) (by decide), fld_setFld_apart (by decide) (by decide),
    fld_setFld_apart (by decide) (by decide), fld_setFld_self (by decide)]
  exact ⟨rfl, Nat.mod_eq_of_lt hx⟩

/-- A request in a state without a transition, for another state that no lockout bars, starts the first step `a` to `b`
where its condition holds. -/
theorem pwrQueue_starts {path : Path} {x a b : Nat} (hb : s.pwrBusy = false)
    (hl : s.flag Reg.PWR_STATUS Fld.PWR_STATUS_LOCKOUT = false) (hx : x < 8) (ha : s.pwrCur = a) (hne : x ≠ a)
    (hstep : (if x = 4 then 4 else if a < x then a + 1 else a - 1) = b) (hc : (transition s path x).stepCause a b = 0) :
    s.pwrQueue path x = (true, (transition s path x).stepStart a b) := by
  obtain ⟨hcur, htarget⟩ := transition_shows (s := s) (path := path) hx
  have hnext : (transition s path x).nextStep = (true, (transition s path x).stepStart a b) := by
    unfold State.nextStep
    simp only [hcur, htarget, ha, hstep, hc]
  have hstart : s.pwrStart path x = (true, (transition s path x).stepStart a b) := hnext
  unfold State.pwrQueue
  simp [hl, hb, ha, hne, hstart]

/-- A step up needs no condition. -/
theorem stepCause_up {a b : Nat} (h : b < a) : s.stepCause a b = 0 := if_pos (.inr h)

theorem stepCause_idle (h : s.gy.swaths = []) : s.stepCause 0 1 = 0 := by
  simp [State.stepCause, h]

/-- The step of a request for IDLE in RUN with no swath in flight. -/
theorem pwrQueue_idle {path : Path} (hb : s.pwrBusy = false) (hl : s.flag Reg.PWR_STATUS Fld.PWR_STATUS_LOCKOUT = false)
    (hc : s.pwrCur = 0) (hsw : s.gy.swaths = []) : ∃ t, s.pwrQueue path 1 = (true, t) ∧ t.pw.step = some (0, 1) ∧
      t.pw.vreq = some 750 ∧ t.pw.vok = false := by
  refine ⟨_, pwrQueue_starts (b := 1) hb hl (by decide) hc (by decide) rfl (stepCause_idle hsw), ?_⟩
  rw [stepStart_pw (.inl rfl)]
  exact ⟨rfl, rfl, rfl⟩

/-! ### Requests (R602, R603) -/

/-- With no POWER action dispatched, none is taken before a write. -/
theorem powerDue_none (h : s.dueAction 5 = none) : s.powerDue = s := by
  have hcode : ∀ d ∈ s.dueOrder, ¬ (s.slotCode d.slot == 5) = true := List.find?_eq_none.1 h
  have hnil : (s.dueOrder.filter fun d => s.slotCode d.slot == 5 && decide (d.act ≤ s.now16)) = [] :=
    List.filter_eq_nil_iff.2 fun d hd hboth => hcode d hd (Bool.and_eq_true_iff.1 hboth).1
  unfold State.powerDue
  rw [hnil]
  rfl

theorem exec_pwrRequest {p : Path} {w : Word} (hd : s.dueAction 5 = none) (hgo : Fld.PWR_CTRL_GO.get w = 1)
    (h3 : s.pwrCur ≠ 3) (h4 : s.pwrCur ≠ 4) :
    exec (.pwrRequest p w) s = .next (s.pwrRequest p (Fld.PWR_CTRL_REQ.get w) (Fld.PWR_CTRL_CODE.get w)).2 := by
  change execPwrRequest p w s = _
  unfold execPwrRequest
  simp only [if_neg h4, powerDue_none hd]
  simp [hgo, h3]

/-- A code below 4 asks for its state. -/
theorem pwrRequest_below {path : Path} {x code : Nat} (h : x < 4) : s.pwrRequest path x code = s.pwrQueue path x :=
  if_neg (by omega)

theorem pwrRequest_above {path : Path} {x code : Nat} (h : 5 ≤ x) :
    s.pwrRequest path x code = (false, s.accFlag path Reg.PWR_CTRL .refused) :=
  if_pos (.inl h)

/-! ### POWER acts (R348, R355, R602) -/

/-- A POWER action whose instant has come, none before it, is DONE and makes its request. -/
theorem actOn_power {d : TaDue} {u : State} (g : ActsNow s 5 d)
    (h : State.powerAct (s.endAction d true) (s.regN (Reg.TA_SLOT_ARG0 d.slot)) (s.regN (Reg.TA_SLOT_ARG1 d.slot)) =
      (true, u)) : s.actOn 5 = u := by
  obtain ⟨hd, ho, ht⟩ := g
  obtain ⟨hcode, hmem⟩ := dueAction_some hd
  unfold State.actOn
  rw [hd]
  simp only [ho, List.foldl_cons, List.foldl_nil]
  unfold State.actOne State.actDue
  simp only [hcode, List.contains_iff_mem.2 hmem, if_true, runTo_past ht, if_neg (Nat.not_lt.2 ht), beq_self_eq_true]
  change (match State.powerAct (s.endAction d true) (s.regN (Reg.TA_SLOT_ARG0 d.slot)) (s.regN (Reg.TA_SLOT_ARG1 d.slot)) with
    | (ok, t) => if ok = true then t else t.endAction d false) = u
  rw [h]
  rfl

/-- The end of an action in time shows in its slot alone. -/
theorem endAction_status {d : TaDue} (hw : s.fab.waits = []) (hl : d.late = false) :
    (s.endAction d true).reg Reg.PWR_STATUS = s.reg Reg.PWR_STATUS ∧ (s.endAction d true).gy = s.gy := by
  rw [endAction_done hw hl]
  exact ⟨getD_put_other (by simp only [Reg.PWR_STATUS, Reg.TA_SLOT_STATE]; omega), rfl⟩

theorem exec_powerAction_idle {d : TaDue} (g : ActsNow s 5 d) (hw : s.fab.waits = []) (hlate : d.late = false)
    (harg : s.regN (Reg.TA_SLOT_ARG0 d.slot) = 1) (hb : s.pwrBusy = false)
    (hl : s.flag Reg.PWR_STATUS Fld.PWR_STATUS_LOCKOUT = false) (hc : s.pwrCur = 0) (hsw : s.gy.swaths = []) :
    Next .powerAction s fun t => t.pw.step = some (0, 1) ∧ t.pw.vreq = some 750 := by
  obtain ⟨hreg, hgy⟩ := endAction_status hw hlate
  have hfld : ∀ f, (s.endAction d true).fld Reg.PWR_STATUS f = s.fld Reg.PWR_STATUS f := fun f => congrArg f.get hreg
  obtain ⟨t, ht, hstep, hv, -⟩ := pwrQueue_idle (s := s.endAction d true) (path := .action)
    (by rw [← hb]; simp only [State.pwrBusy, State.flag, hfld]) (by rw [← hl]; simp only [State.flag, hfld])
    (by rw [← hc]; exact hfld _) (by rw [hgy, hsw])
  refine ⟨t, congrArg Host.Outcome.next (actOn_power g ?_), hstep, hv⟩
  rw [harg]
  exact ht

/-! ### The core voltage (R600, R601) -/

theorem exec_vcorePoll_ack {mv r : Nat} (hr : s.pw.vreq = some r) (hv : s.pw.vok = false) (hlo : 50 * (mv - r) ≤ r)
    (hhi : 50 * (r - mv) ≤ r) :
    Next (.vcorePoll mv false) s fun t => t.pw = { s.pw with vok := true, fails := 0 } := by
  have hcond : ¬ (s.pw.vok = true ∨ false = true ∨ r < 50 * (mv - r) ∨ r < 50 * (r - mv)) := by
    simp [hv]
    omega
  refine ⟨State.stepVolt (((s.onPw fun p => { p with vok := true, fails := 0 }).setFld Reg.PWR_VCORE
    Fld.PWR_VCORE_ACK_MV r).setRegN (Reg.HM_CH_REF 16) r), ?_, ?_⟩
  · change execVcorePoll mv false s = _
    unfold execVcorePoll
    rw [hr]
    exact if_neg hcond
  · exact (stepVolt_keeps (F := (· ≠ .pw)) .refl (by simp)).same .pw (· rfl)

theorem exec_vcorePoll_fault {mv : Nat} : exec (.vcorePoll mv true) s = .next s := by
  change execVcorePoll mv true s = _
  unfold execVcorePoll
  split
  · rfl
  · exact if_pos (.inr (.inl rfl))

theorem stepNone_pw : s.stepNone.pw = { s.pw with step := none, vreq := none, vok := false } := rfl

/-- The end of a transition changes two fields of PWR_STATUS. -/
theorem stepNone_pending : s.stepNone.pwrPending = s.pwrPending :=
  (fld_setFld_apart (by decide) (by decide)).trans (fld_setFld_apart (by decide) (by decide))

/-- No request waits. -/
theorem pwrPend_none (h : s.pwrPending = 7) : s.pwrPend.pw = s.pw := by
  unfold State.pwrPend
  dsimp only
  rw [if_pos (.inl h), setFld_pw]

theorem exec_vcoreTimeout_early {r : Nat} (hi : Inv s) (hr : s.pw.vreq = some r) (hv : s.pw.vok = false)
    (hf : s.pw.fails < 2) (hp : s.pwrPending = 7) :
    Next .vcoreTimeout s fun t => t.pw.step = none ∧ t.pw.vreq = none ∧ t.pw.fails = s.pw.fails + 1 := by
  refine ⟨_, (if_neg (by simp [hr, hv])).trans (if_neg (by omega)), ?_⟩
  have hundo : StatusKept s (s.setFld Reg.PWR_VCORE Fld.PWR_VCORE_REQ_MV
      (s.fld Reg.PWR_VCORE Fld.PWR_VCORE_ACK_MV)).stepUndo := (StatusKept.refl.setFld (by decide)).stepUndo
  generalize State.stepUndo _ = u at hundo
  have hkept : StatusKept u.stepNone (((u.stepNone.onPw fun p => { p with fails := s.pw.fails + 1 }).count
      Reg.PWR_VREQ_FAILS 1).raise .degraded Reg.PWR_EVENT Fld.PWR_EVENT_VREQ_TIMEOUT 0 unitPower) :=
    ((StatusKept.refl.rest (keeps_pw .refl (by simp))).count (by decide)).raise (by decide)
  have hinv : Inv u.stepNone := inv_of_keeps (hundo.inv hi) (stepNone_keeps .refl (by simp))
  have hnone : (((u.stepNone.onPw fun p => { p with fails := s.pw.fails + 1 }).count
      Reg.PWR_VREQ_FAILS 1).raise .degraded Reg.PWR_EVENT Fld.PWR_EVENT_VREQ_TIMEOUT 0 unitPower).pwrPending = 7 :=
    (hkept.fld hinv).trans (stepNone_pending.trans ((hundo.fld hi).trans hp))
  beta_reduce
  rw [pwrPend_none hnone, raise_pw]
  exact ⟨rfl, rfl, rfl⟩

/-! ### A step ends (R597, R599, R603, R608) -/

theorem exec_pwrStepDone_idle {aon : Nat} (hi : Inv s) (hs : s.pw.step = some (0, 1)) (hv : s.pw.vok = true)
    (ht : s.pwrTarget = 1) (hp : s.pwrPending = 7) :
    Next (.pwrStepDone aon) s fun t => t.pw.step = none ∧ t.pw.vreq = none := by
  have hdone : exec (.pwrStepDone aon) s = .next (s.stepReach 1).chSettle := by
    change execPwrStepDone aon s = _
    simp [execPwrStepDone, hs, hv]
  refine ⟨_, hdone, ?_⟩
  beta_reduce
  rw [(chSettle_keeps (F := (· ≠ .pw)) .refl (by simp)).same .pw (· rfl)]
  unfold State.stepReach
  extract_lets s1 s2 s3 s4 s5
  have h2 : StatusKept (s.setFld Reg.PWR_STATUS Fld.PWR_STATUS_CUR 1) s2 :=
    (StatusKept.refl.count (by decide)).rest (onPw_keeps .refl (by simp))
  have hkept : StatusKept (s.setFld Reg.PWR_STATUS Fld.PWR_STATUS_CUR 1) s4 := (h2.clocksUp.ite (h2.clocksLow.ite h2)).hmInvalid
  have hinv : Inv (s.setFld Reg.PWR_STATUS Fld.PWR_STATUS_CUR 1) := inv_setFld hi
  have htarget : s4.pwrTarget = 1 :=
    (hkept.fld hinv).trans ((fld_setFld_apart (by decide) (by decide)).trans ht)
  have hpending : (s4.stepNone.event Reg.PWR_EVENT Fld.PWR_EVENT_DONE).pwrPending = 7 :=
    (fld_setFld_ne (by decide)).trans (stepNone_pending.trans ((hkept.fld hinv).trans
      ((fld_setFld_apart (by decide) (by decide)).trans hp)))
  have hcore : s5 = s4 := if_neg (by decide)
  rw [if_pos htarget.symm, hcore, pwrPend_none hpending]
  exact ⟨rfl, rfl⟩

/-- What the state after reset is given back of `s` by a reset of the whole module (R584, R608). -/
def resetBase (s : State) (ph : Phase) : State :=
  { State.reset with
    pending := s.pending
    sent := s.sent
    freeCount := s.freeCount
    gy := { State.reset.gy with estop := s.gy.estop }
    boot := { State.reset.boot with
      phase := ph
      flash := s.boot.flash
      halves := s.boot.halves
      otp := s.boot.otp
      key := s.boot.otp } }

/-- Beside that a reset of the whole module puts registers alone. -/
theorem resetBase_keeps {ph : Phase} : Keeps (· = .regs) (resetBase s.tornProgram ph) (s.wholeReset ph) := by
  have hkept : Keeps (· = .regs) (resetBase s.tornProgram ph)
      (keptRegs.foldl (fun u a => u.setReg a (s.tornProgram.reg a)) (resetBase s.tornProgram ph)) :=
    keeps_foldl .refl fun _ _ k => setReg_keeps k rfl
  exact showKey_keeps (keeps_ite (setFld_keeps hkept rfl) hkept) rfl

theorem wasReset_wholeReset {ph : Phase} : WasReset s ph (s.wholeReset ph) := by
  have hotp : s.tornProgram.boot.otp = s.boot.otp := by
    unfold State.tornProgram
    split
    · dsimp only
      split <;> rfl
    · rfl
  have hestop : s.tornProgram.gy.estop = s.gy.estop :=
    (tornProgram_keeps (F := (· ≠ .estop)) .refl (by simp)).same .estop (· rfl)
  have hregs := resetBase_keeps (s := s) (ph := ph)
  exact ⟨hregs.same .phase (by simp), hregs.same .locked (by simp), hregs.same .mem (by simp), hregs.same .layers (by simp),
    congrArg Geyser.swaths (hregs.same .gy (by simp)), hregs.same .log (by simp),
    (congrArg Boot.otp (hregs.same .boot (by simp))).trans hotp,
    (hregs.same .estop (by simp)).trans hestop⟩

theorem WasReset.regs {u : State} {ph : Phase} (h : WasReset s ph t) (k : Keeps (· = .regs) t u) : WasReset s ph u := by
  obtain ⟨hphase, hlocked, hmem, hlayers, hswaths, hlog, hotp, hestop⟩ := h
  exact ⟨(k.same .phase (by simp)).trans hphase, (k.same .locked (by simp)).trans hlocked,
    (k.same .mem (by simp)).trans hmem, (k.same .layers (by simp)).trans hlayers,
    (congrArg Geyser.swaths (k.same .gy (by simp))).trans hswaths, (k.same .log (by simp)).trans hlog,
    (congrArg Boot.otp (k.same .boot (by simp))).trans hotp, (k.same .estop (by simp)).trans hestop⟩

theorem exec_pwrStepDone_off {aon a : Nat} (hs : s.pw.step = some (a, 4)) (hv : s.pw.vok = true) :
    Next (.pwrStepDone aon) s (WasReset s .unpowered) := by
  have hoff : exec (.pwrStepDone aon) s = .next (((s.wholeReset .unpowered).setFld Reg.PWR_STATUS Fld.PWR_STATUS_CUR
      4).setFld Reg.PWR_STATUS Fld.PWR_STATUS_TARGET 4) := by
    change execPwrStepDone aon s = _
    simp [execPwrStepDone, hs, hv]
  exact ⟨_, hoff, WasReset.regs wasReset_wholeReset (setFld_keeps (setFld_keeps .refl rfl) rfl)⟩

/-! ### Wake events (R609, R610) -/

/-- A qualified wake event is noted: its source, unless one of a lower code came in the same AON cycle, and the event. -/
def wakeNoted (s : State) (src lane : Nat) : State :=
  let was := s.fld Reg.PWR_WAKE_STATUS Fld.PWR_WAKE_STATUS_SOURCE
  let u := if was ≠ 0 ∧ was ≤ src ∧ s.pw.wokeAt = s.clk.ticks / 40 then s
    else s.setRegN Reg.PWR_WAKE_STATUS (src + 16 * lane)
  (u.onPw fun p => { p with wokeAt := u.clk.ticks / 40 }).event Reg.PWR_EVENT Fld.PWR_EVENT_WAKE

theorem wakeNoted_kept {src lane : Nat} : StatusKept s (wakeNoted s src lane) :=
  ((StatusKept.refl.ite (StatusKept.refl.setRegN (by decide))).rest (keeps_pw .refl (by simp))).event (by decide)

theorem wakeNoted_step {src lane : Nat} : (wakeNoted s src lane).pw.step = s.pw.step := by
  unfold wakeNoted
  dsimp only
  split <;> rfl

/-- In HOLD and DEEP a wake event asks firmware's request: the wake state from DEEP, IDLE from HOLD. -/
theorem wakeEvent_asks {src lane : Nat} (h2 : 2 ≤ s.pwrCur) (h4 : s.pwrCur < 4) : s.wakeEvent src lane =
    ((wakeNoted s src lane).pwrQueue .firmware (if s.pwrCur = 3 ∨ (wakeNoted s src lane).pw.step = some (2, 3) then
      (wakeNoted s src lane).wakeState else 1)).2 :=
  (if_neg (by omega)).trans (if_neg (by omega))

theorem wakeEvent_ignored {src lane : Nat} (h : s.pwrCur ≤ 1) :
    s.wakeEvent src lane = s.event Reg.PWR_EVENT Fld.PWR_EVENT_WAKE_IGNORED :=
  if_pos h

/-- A wake event with no transition in progress starts the step up. -/
theorem wakeEvent_steps {src lane a b mv : Nat} (hi : Inv s) (hb : s.pwrBusy = false)
    (hl : s.flag Reg.PWR_STATUS Fld.PWR_STATUS_LOCKOUT = false) (hc : s.pwrCur = a)
    (h : (a, b, mv) = (2, 1, 750) ∧ s.pw.step = none ∨ (a, b, mv) = (3, 2, 700)) :
    (s.wakeEvent src lane).pw.step = some (a, b) ∧ (s.wakeEvent src lane).pw.vreq = some mv := by
  have hfld : ∀ f, (wakeNoted s src lane).fld Reg.PWR_STATUS f = s.fld Reg.PWR_STATUS f := fun f => wakeNoted_kept.fld hi
  have hb' : (wakeNoted s src lane).pwrBusy = false := by rw [← hb]; simp only [State.pwrBusy, State.flag, hfld]
  have hl' : (wakeNoted s src lane).flag Reg.PWR_STATUS Fld.PWR_STATUS_LOCKOUT = false := by
    rw [← hl]
    simp only [State.flag, hfld]
  have hc' : (wakeNoted s src lane).pwrCur = a := (hfld _).trans hc
  rcases h with ⟨h, hs⟩ | h <;> cases h
  · rw [wakeEvent_asks (by omega) (by omega), if_neg (by simp [hc, wakeNoted_step, hs]),
      pwrQueue_starts (b := 1) hb' hl' (by decide) hc' (by decide) rfl (stepCause_up (by decide)), stepStart_pw (.inr (.inl rfl))]
    exact ⟨rfl, rfl⟩
  · obtain ⟨x, hx, hw⟩ : ∃ x, (x = 1 ∨ x = 2) ∧ (wakeNoted s src lane).wakeState = x := by
      unfold State.wakeState
      split
      · exact ⟨2, .inr rfl, rfl⟩
      · exact ⟨1, .inl rfl, rfl⟩
    rw [wakeEvent_asks (by omega) (by omega), if_pos (.inl hc), hw,
      pwrQueue_starts (b := 2) hb' hl' (by omega) hc' (by omega) (by rw [if_neg (by omega), if_neg (by omega)])
        (stepCause_up (by decide)), stepStart_pw (.inr (.inr rfl))]
    exact ⟨rfl, rfl⟩

theorem exec_wakePin {i : Fin 2} {h : Bool} {us : Nat}
    (hen : Bits.bit (s.fld Reg.PWR_WAKE_CFG Fld.PWR_WAKE_CFG_PIN_EN) i = true)
    (hh : Bits.bit (s.fld Reg.PWR_WAKE_CFG Fld.PWR_WAKE_CFG_PIN_HIGH) i = h)
    (hus : s.fld Reg.PWR_WAKE_CFG Fld.PWR_WAKE_CFG_QUAL_US ≤ us) :
    exec (.wakePin i h us) s = .next (s.wakeEvent (1 + i.val) 0) :=
  congrArg Host.Outcome.next (if_pos ⟨hen, hh, hus⟩)

theorem exec_wakePin_unqualified {i : Fin 2} {h : Bool} {us : Nat}
    (hq : Bits.bit (s.fld Reg.PWR_WAKE_CFG Fld.PWR_WAKE_CFG_PIN_EN) i = false ∨
      Bits.bit (s.fld Reg.PWR_WAKE_CFG Fld.PWR_WAKE_CFG_PIN_HIGH) i ≠ h ∨
      us < s.fld Reg.PWR_WAKE_CFG Fld.PWR_WAKE_CFG_QUAL_US) :
    exec (.wakePin i h us) s = .next s := by
  refine congrArg Host.Outcome.next (if_neg ?_)
  rintro ⟨hen, hh, hus⟩
  rcases hq with hq | hq | hq
  · exact absurd hen (by simp [hq])
  · exact hq hh
  · omega

theorem exec_wakeTimer (hc : s.pwrCur = 3) (ht : s.regN Reg.PWR_WAKE_TIMER ≠ 0) :
    exec .wakeTimer s = .next (s.wakeEvent 4 0) :=
  congrArg Host.Outcome.next (if_pos ⟨hc, ht⟩)

/-- What wakes a sleeping port that raises no wake event wakes it alone. -/
theorem exec_wakePatternDetect_wakes {n : Fin 41} {full : Bool}
    (ha : s.asleep (portLanes (lanePort n)).1 (portLanes (lanePort n)).2 = true)
    (hw : full = true ∨ Bits.bit (s.regN Reg.LN_WAKE_CFG) (lanePort n) = false ∨ s.laneRaw n = 5)
    (hon : Bits.bit (s.regN Reg.PWR_WAKE_CFG) (12 + lanePort n) = false) (hc : s.pwrCur ≠ 3) :
    exec (.wakePatternDetect n full) s = .next (s.wakePort (lanePort n) false) := by
  have hnoise : ¬ (s.wakeOnly (lanePort n) = true ∧ ¬ full = true ∧ s.laneRaw n ≠ 5) := by
    rintro ⟨honly, hpart, hld⟩
    rcases hw with hw | hw | hw
    · exact hpart hw
    · exact absurd honly (by simp [State.wakeOnly, hw])
    · exact hld hw
  refine (if_neg (by simp [ha])).trans ((if_neg hnoise).trans ((if_neg (by simp [hon])).trans ?_))
  exact congrArg Host.Outcome.next (if_neg hc)

theorem exec_wakePatternDetect_noise {n : Fin 41}
    (ha : s.asleep (portLanes (lanePort n)).1 (portLanes (lanePort n)).2 = true)
    (hw : Bits.bit (s.regN Reg.LN_WAKE_CFG) (lanePort n) = true) (hld : s.laneRaw n ≠ 5) :
    exec (.wakePatternDetect n false) s = .next (s.event Reg.LN_EVENT Fld.LN_EVENT_WAKE_NOISE) :=
  (if_neg (by simp [ha])).trans (if_pos ⟨hw, by simp, hld⟩)

/-! ### The wake from DEEP (R606, R607) -/

theorem runs_of_keeps (k : Keeps (fun p => ¬ p = .locked ∧ ¬ p = .phase) s t)
    (h : s.locked = true ∧ s.boot.phase = .run) : t.locked = true ∧ t.boot.phase = .run :=
  ⟨(k.same .locked (by simp)).trans h.1, (k.same .phase (by simp)).trans h.2⟩

/-- After the lock point the module is locked and runs. -/
theorem lockNow_runs {us : Nat} : (s.lockNow us).locked = true ∧ (s.lockNow us).boot.phase = .run := by
  unfold State.lockNow
  extract_lets s1 s2 s3 s4 k s5 s6 s7 s8 s9 s10 s11
  have h2 : s2.locked = true ∧ s2.boot.phase = .run := ⟨rfl, rfl⟩
  refine runs_of_keeps (s := s2) ?_ h2
  clear_value s2
  unfold s11 s10 s9 s8 s7 s6 s5 s4 s3
  simp (maxDischargeDepth := 60) +contextual [Keeps.refl]

/-- The state after the restore of a module, from the one its locked module is left in (R606). -/
def restored (v : State) : State :=
  (v.ingOpen.onPw fun p => { p with canary := false }).setFld Reg.PWR_HOLD Fld.PWR_HOLD_GPIO 0

theorem wakeApply_eq_restored :
    ∃ u : State, s.wakeApply = restored ([0, 1, 2, 3, 4, 11].foldl (fun s q => s.leaveLd q) (u.lockNow 0)) := by
  unfold State.wakeApply
  extract_lets s1 s2 s3 s4 s5
  exact ⟨s3, rfl⟩

theorem restored_canary {v : State} : (restored v).pw.canary = false := by
  simp [restored, State.onPw]

theorem wakeApply_restores : s.wakeApply.pw.canary = false ∧ s.wakeApply.locked = true ∧ s.wakeApply.boot.phase = .run := by
  obtain ⟨u, hu⟩ := wakeApply_eq_restored (s := s)
  rw [hu]
  have hlock : (u.lockNow 0).locked = true ∧ (u.lockNow 0).boot.phase = .run := lockNow_runs
  generalize u.lockNow 0 = w at hlock ⊢
  refine ⟨restored_canary, runs_of_keeps (s := w) ?_ hlock⟩
  unfold restored
  simp (maxDischargeDepth := 60) +contextual [Keeps.refl]

/-- The reset of a failed restore leaves no canary to read. -/
theorem canaryFail_resets :
    s.canaryFail.pw.canary = false ∧ s.canaryFail.locked = false ∧ s.canaryFail.boot.phase = .reset := by
  obtain ⟨hphase, hlocked, -⟩ := wasReset_wholeReset (s := s) (ph := .reset)
  have hpw : (s.wholeReset .reset).pw.canary = false := congrArg Power.canary (resetBase_keeps.same .pw (by simp))
  unfold State.canaryFail
  extract_lets r u1 u2
  have hkeeps : Keeps (fun p => ¬ p = .locked ∧ ¬ p = .phase ∧ ¬ p = .pw) r
      (u2.raise .degraded Reg.PWR_EVENT Fld.PWR_EVENT_DEEP_RESTORE_FAIL 0 unitPower) := by
    unfold u2 u1
    clear_value r
    simp (maxDischargeDepth := 60) +contextual [Keeps.refl]
  exact ⟨(congrArg Power.canary (hkeeps.same .pw (by simp))).trans hpw, (hkeeps.same .locked (by simp)).trans hlocked,
    (hkeeps.same .phase (by simp)).trans hphase⟩

theorem exec_wakeDramRetrained {ok : Bool} (hs : s.pw.step = some (3, 2)) (hc : s.pw.canary = true) :
    exec (.wakeDramRetrained ok) s = .next (if ok then s.wakeApply else s.canaryFail) :=
  if_neg (by simp [hs, hc])

/-! ### Capture (R231, R269, R596) -/

theorem exec_swathCapture_inRun {l : Layer} {e : SwathEntry} {v : Survey} (h : s.captureDue = some (l, e, v))
    (hr : s.inRun = true) : exec .swathCapture s = .next
      (s.settleStop ((s.setFld Reg.PWR_STATUS Fld.PWR_STATUS_CAPTURE_WAIT 0).captureSwath l e v)) := by
  change execSwathCapture s = _
  unfold execSwathCapture
  rw [h]
  exact if_pos hr

theorem exec_swathCapture_waits {l : Layer} {e : SwathEntry} {v : Survey} (h : s.captureDue = some (l, e, v))
    (hr : s.inRun = false) (ha : s.flag Reg.PWR_CFG Fld.PWR_CFG_AUTO_RUN = false) :
    exec .swathCapture s = .next (s.setFld Reg.PWR_STATUS Fld.PWR_STATUS_CAPTURE_WAIT 1) := by
  have hauto : (s.setFld Reg.PWR_STATUS Fld.PWR_STATUS_CAPTURE_WAIT 1).flag Reg.PWR_CFG Fld.PWR_CFG_AUTO_RUN = false := by
    rw [← ha]
    exact congrArg (· != 0) (fld_setFld_ne (by decide))
  change execSwathCapture s = _
  unfold execSwathCapture
  rw [h]
  exact (if_neg (by simp [hr])).trans (if_neg (by simp [hauto]))

/-! ### The statement -/

/-- Settles O25: a request starts the step its condition admits, and a step that ends finds no request waiting in PWR_STATUS,
which nothing that the step does to lanes, clusters and channels writes. -/
theorem powerStepsAndWake : Obligations.PowerStepsAndWake := by
  unfold Obligations.PowerStepsAndWake
  refine ⟨fun p w s _ hb hl hd hgo hreq hc hsw => ?_, fun p w s hd hgo hreq h3 h4 => ?_, fun p w s h => if_pos h,
    fun s d _ g hw hlate harg hb hl hc hsw => exec_powerAction_idle g hw hlate harg hb hl hc hsw,
    fun s _ hb hl hc hidle hsw => ?_, fun s mv r hr hv hlo hhi => exec_vcorePoll_ack hr hv hlo hhi,
    fun mv s => exec_vcorePoll_fault, fun s r hi hr hv hf hp => exec_vcoreTimeout_early hi hr hv hf hp,
    fun aon s hi hs hv ht hp => exec_pwrStepDone_idle hi hs hv ht hp, fun aon a s hs hv => exec_pwrStepDone_off hs hv,
    fun i h us s hi hb hl hen hc hh hus hs => ⟨_, exec_wakePin hen hh hus, wakeEvent_steps hi hb hl hc (.inl ⟨rfl, hs⟩)⟩,
    fun i h us s hen hc hh hus => (exec_wakePin hen hh hus).trans (congrArg _ (wakeEvent_ignored hc)),
    fun i h us s hq => exec_wakePin_unqualified hq,
    fun s hi hb hl hc ht => ⟨_, exec_wakeTimer hc ht, wakeEvent_steps hi hb hl hc (.inr rfl)⟩,
    fun n full s ha hw hon hc => exec_wakePatternDetect_wakes ha hw hon hc,
    fun n s ha hw hld => exec_wakePatternDetect_noise ha hw hld,
    fun ok s hs hc => ⟨_, exec_wakeDramRetrained hs hc, ?_⟩,
    fun s l e v h hr => exec_swathCapture_inRun h hr, fun s l e v h _ hr ha => exec_swathCapture_waits h hr ha⟩
  · obtain ⟨t, ht, hstep⟩ := pwrQueue_idle (path := p) hb hl hc hsw
    refine ⟨t, ?_, hstep⟩
    rw [exec_pwrRequest hd hgo (by omega) (by omega), hreq, pwrRequest_below (by decide), ht]
  · rw [exec_pwrRequest hd hgo h3 h4, pwrRequest_above hreq]
  · obtain ⟨t, ht, hstep, hv, -⟩ := pwrQueue_idle (path := .firmware) hb hl hc hsw
    refine ⟨t, ?_, hstep, hv⟩
    exact (if_pos ⟨hc, hidle, by simp [hsw]⟩).trans (congrArg (fun r : Bool × State => Host.Outcome.next r.2) ht)
  · cases ok
    · simpa using canaryFail_resets
    · simpa using wakeApply_restores

end Sys2Proof.Proofs
end

section
/-! Scope: the rate governor and the fabric timed actions (spec/08_geyser_firing.md, R264 to R267;
spec/10_wellspring_timebase.md, R347, R350; spec/11_prenu_fabric.md, R390, R394): the governor period, what a GOV frame does
in the swath that runs, and how a TIMED frame is armed. -/

namespace Sys2Proof.Proofs

open Sys2Proof.Machine Sys2Proof.Safety Sys2Proof.Laws

variable {s u v : State} {p : Nat} {fr : List Byte} {f : FabFrame} {w : Swath} {g : Fabric → Fabric}
  {n time code arg0 arg1 : Nat} {ok : Bool}

/-! ### Receipt of a frame (R371 to R373) -/

theorem onFport_actions {h : FabPort → FabPort} : (s.onFport p h).fab.actions = s.fab.actions := by
  unfold State.onFport
  split <;> rfl

theorem onFport_waits {h : FabPort → FabPort} : (s.onFport p h).fab.waits = s.fab.waits := by
  unfold State.onFport
  split <;> rfl

/-- What a port sends for LACK or CREDIT leaves the fabric's own data and the dispatched actions. -/
theorem setTime_fab_due {q : Nat} {cs : List Chr} : (s.setTime q cs).fab = s.fab ∧ (s.setTime q cs).due = s.due :=
  have hkeeps : Keeps (· = .sent) s (s.setTime q cs) := setTime_keeps .refl rfl
  ⟨hkeeps.same .fab (by decide), hkeeps.same .due (by decide)⟩

theorem fabIn_actions : (fabIn s p).fab.actions = s.fab.actions := by
  unfold fabIn State.sendLack
  split
  · rfl
  · rw [setTime_fab_due.1, onFport_actions]

theorem fabIn_due : (fabIn s p).due = s.due := by
  unfold fabIn State.sendLack
  split
  · rfl
  · rw [setTime_fab_due.2, onFport_due]

theorem fabOut_actions : (fabOut s p f u).fab.actions = u.fab.actions := by
  unfold fabOut State.returnCredit State.sendCredit
  split
  · rfl
  · rw [setTime_fab_due.1, onFport_actions]

theorem fabOut_waits : (fabOut s p f u).fab.waits = u.fab.waits := by
  unfold fabOut State.returnCredit State.sendCredit
  split
  · rfl
  · rw [setTime_fab_due.1, onFport_waits]

theorem fabOut_due : (fabOut s p f u).due = u.due := by
  unfold fabOut State.returnCredit State.sendCredit
  split
  · rfl
  · rw [setTime_fab_due.2, onFport_due]

/-! ### The governor period (R264 to R267) -/

theorem exec_governorPeriod_idle (h : (s.gy.swaths.find? fun w => w.state == .running) = none) :
    exec .governorPeriod s = .next s := by
  change execGovernorPeriod s = _
  unfold execGovernorPeriod
  rw [h]

/-- Between the values noted and the period counted, the governor changes no more than registers, contexts and frames. -/
theorem exec_governorPeriod_counts {l : Layer} {e : SwathEntry}
    (h : (s.gy.swaths.find? fun w => w.state == .running) = some w) (hl : s.layer w.layer = some l)
    (he : s.swEntry w = some e) :
    Next .governorPeriod s fun t => t.gy.period = s.gy.period + 1 ∧ t.gy.swaths = s.gy.swaths := by
  change ∃ t, execGovernorPeriod s = .next t ∧ _
  unfold execGovernorPeriod
  simp -zeta only [h, hl, he]
  extract_lets +lift rate lead us lw low shown flagged own ovr lowered floored noted alarmed sent
  have hflagged : Keeps (· ≠ .gy) s flagged :=
    setFld_keeps (setRegN_keeps (setRegN_keeps .refl (by decide)) (by decide)) (by decide)
  have hlowered : Keeps (· ≠ .gy) s lowered := keeps_ite (event_keeps hflagged (by decide)) hflagged
  have hfloored : Keeps (· ≠ .gy) s floored := keeps_ite (event_keeps hlowered (by decide)) hlowered
  have halarmed : Keeps (· ≠ .gy) noted alarmed := keeps_ite (event_keeps .refl (by decide)) .refl
  have hsent : Keeps (· ≠ .gy) noted sent :=
    keeps_ite (fabCast_keeps (applyOvr_keeps halarmed (by decide)) (by decide)) (fabTo_keeps .refl (by decide))
  have hgy : sent.gy = (s.noteOvr floored.node ovr).gy := by
    calc sent.gy = noted.gy := hsent.same .gy (· rfl)
      _ = (s.noteOvr floored.node ovr).gy := by
        simp only [noted, State.noteOvr, show floored.gy = s.gy from hfloored.same .gy (· rfl)]
  exact ⟨_, rfl, congrArg (·.period + 1) hgy, congrArg (·.swaths) hgy⟩

/-! ### GOV frames (R267, R390) -/

theorem exec_govFrame {q : Fin 5} (h : FabFrameIn s q fr 0x15 f) :
    exec (.govFrame q fr) s = .next (fabOut s q f ((fabIn s q).takeGov f)) :=
  congrArg Host.Outcome.next (fabRx_taken h)

theorem takeGov_running (h : (s.gy.swaths.find? fun w => w.state == .running) = some w)
    (hl : Bits.rd f.pay 0 4 = w.layer) (hi : Bits.rd f.pay 4 2 = w.idx) : s.takeGov f =
      if Bits.rd f.pay 8 2 = 0 then s.noteOvr f.src (Bits.rd f.pay 6 2)
      else if f.src = s.fab.driver ∧ f.src ≠ s.node then s.applyOvr w (min (Bits.rd f.pay 8 2) 1024)
      else s := by
  unfold State.takeGov
  rw [h]
  exact if_neg (by simp [hl, hi])

/-! ### Arming a slot of the firmware (R347, R350) -/

theorem fwArm_full (h : s.fwArm time code arg0 arg1 = (false, v)) : v = s.event Reg.TA_EVENT Fld.TA_EVENT_FULL := by
  unfold State.fwArm at h
  split at h
  · exact (congrArg Prod.snd h).symm
  · cases h

theorem setFld_onFab {a x : Nat} {k : Field} : (s.onFab g).setFld a k x = (s.setFld a k x).onFab g := rfl

theorem setRegN_onFab {a x : Nat} : (s.onFab g).setRegN a x = (s.setRegN a x).onFab g := rfl

theorem setPair_onFab {a x : Nat} : (s.onFab g).setPair a x = (s.setPair a x).onFab g := rfl

theorem slotCode_onFab : (s.onFab g).slotCode n = s.slotCode n := rfl

theorem slotTime_onFab : (s.onFab g).slotTime n = s.slotTime n := rfl

theorem now16_onFab : (s.onFab g).now16 = s.now16 := rfl

/-- The lead of slot `n` reaches past its timestamp (R350). -/
def armsLate (s : State) (n : Nat) : Prop :=
  (s.setFld (Reg.TA_SLOT_STATE n) Fld.TA_SLOT_STATE_LATE_US 0).slotTime n <
    (s.setFld (Reg.TA_SLOT_STATE n) Fld.TA_SLOT_STATE_LATE_US 0).now16 + leadOf (s.slotCode n)

/-- Slot `n`, armed late, as it is dispatched: it acts on the first tap its lead after now (R350). -/
def lateDue (s : State) (n : Nat) : TaDue :=
  ⟨n, Bits.divUp ((s.setFld (Reg.TA_SLOT_STATE n) Fld.TA_SLOT_STATE_LATE_US 0).now16 + leadOf (s.slotCode n)) 1024 * 1024,
    true⟩

theorem armSlot_late (h : armsLate s n) : (s.armSlot n).due = s.due ++ [lateDue s n] :=
  (congrArg State.due (if_pos h)).trans (by rw [raise_due, setRegN_due, count_due, setSlot_due, setFld_due]; rfl)

theorem armSlot_inTime (h : ¬ armsLate s n) : (s.armSlot n).due = s.due :=
  (congrArg State.due (if_neg h)).trans (by rw [setSlot_due, setFld_due])

theorem armsLate_onFab : armsLate (s.onFab g) n ↔ armsLate s n := by
  simp only [armsLate, setFld_onFab, slotTime_onFab, slotCode_onFab, now16_onFab]

theorem lateDue_onFab : lateDue (s.onFab g) n = lateDue s n := by
  simp only [lateDue, setFld_onFab, slotCode_onFab, now16_onFab]

theorem armSlot_onFab_due : ((s.onFab g).armSlot n).due = (s.armSlot n).due := by
  by_cases h : armsLate s n
  · rw [armSlot_late h, armSlot_late (armsLate_onFab.2 h), lateDue_onFab, onFab_due]
  · rw [armSlot_inTime h, armSlot_inTime (mt armsLate_onFab.1 h), onFab_due]

/-- Arming neither reads nor writes the fabric's own data: a change of it decides no slot and no dispatch. -/
theorem fwArm_onFab (h : s.fwArm time code arg0 arg1 = (ok, v)) :
    ∃ t, (s.onFab g).fwArm time code arg0 arg1 = (ok, t) ∧ t.due = v.due ∧ t.fab = g s.fab := by
  have hfree : ((List.range 128).find? fun i => (s.onFab g).slotSt (128 + i) != 1 && (s.onFab g).slotSt (128 + i) != 2) =
      (List.range 128).find? fun i => s.slotSt (128 + i) != 1 && s.slotSt (128 + i) != 2 := rfl
  have hfab : ((s.onFab g).fwArm time code arg0 arg1).2.fab = g s.fab :=
    (fwArm_keeps (F := (· ≠ .fab)) .refl (by decide)).same .fab (· rfl)
  have hsame : ((s.onFab g).fwArm time code arg0 arg1).1 = (s.fwArm time code arg0 arg1).1 ∧
      ((s.onFab g).fwArm time code arg0 arg1).2.due = (s.fwArm time code arg0 arg1).2.due := by
    unfold State.fwArm
    rw [hfree]
    split
    · exact ⟨rfl, rfl⟩
    · simp only [setPair_onFab, setRegN_onFab, armSlot_onFab_due, and_self]
  have hok : ((s.onFab g).fwArm time code arg0 arg1).1 = ok := hsame.1.trans (by rw [h])
  exact ⟨((s.onFab g).fwArm time code arg0 arg1).2, Prod.ext hok rfl, hsame.2.trans (by rw [h]), hfab⟩

/-- Action `x` waits for a slot of the firmware, after those that wait (R347). -/
def joinWaits (x : ActWait) (g : Fabric) : Fabric := { g with waits := g.waits ++ [x] }

theorem joinWaits_waits {x : ActWait} {k : Fabric} : (joinWaits x k).waits = k.waits ++ [x] := rfl

theorem fwArmOrWait_armed (h : s.fwArm time code arg0 arg1 = (true, v)) : s.fwArmOrWait time code arg0 arg1 = v := by
  simp [State.fwArmOrWait, h]

theorem fwArmOrWait_waits (h : s.fwArm time code arg0 arg1 = (false, v)) : s.fwArmOrWait time code arg0 arg1 =
    v.onFab (joinWaits ⟨time, code, arg0, arg1⟩) := by
  simp [State.fwArmOrWait, h, State.onFab, joinWaits]

/-! ### TIMED frames (R394) -/

/-- The number that follows the latest action seen (log entry 68). -/
def seeAction (n : Nat) (g : Fabric) : Fabric :=
  { g with actionId := if seqGe n g.actionId then (n + 1) % 2 ^ 32 else g.actionId }

/-- The number of an action that is armed or waits is noted, the latest first (R394). -/
def noteAction (n : Nat) (g : Fabric) : Fabric := { g with actions := (n :: g.actions).take 128 }

/-- Of any number: the kernel need not compare the numbers modulo 2^32 of `seeAction` to see the actions that wait. -/
theorem actionId_waits {k : Fabric} {m : Nat} : ({ k with actionId := m } : Fabric).waits = k.waits := rfl

theorem seeAction_waits {k : Fabric} : (seeAction n k).waits = k.waits := actionId_waits

theorem noteAction_waits {k : Fabric} : (noteAction n k).waits = k.waits := rfl

theorem noteAction_head {k : Fabric} : (noteAction n k).actions.head? = some n := rfl

/-- The instant that a TIMED frame names (R377). -/
def timedAt (f : FabFrame) : Nat :=
  flat (Bits.rd f.pay 8 8) (Bits.rd f.pay 4 4) (Bits.rd f.pay 16 2 / 1024 * 1024)

theorem exec_timedFrame {q : Fin 5} (h : FabFrameIn s q fr 0x16 f) :
    exec (.timedFrame q fr) s = .next (fabOut s q f ((fabIn s q).takeTimed f)) :=
  congrArg Host.Outcome.next (fabRx_taken h)

theorem takeTimed_seen (h : f.arg ∈ s.fab.actions) : s.takeTimed f = s.onFab (seeAction f.arg) :=
  if_pos (List.contains_iff_mem.2 h)

theorem takeTimed_invalid (h : f.arg ∉ s.fab.actions)
    (hbad : 999999999 < Bits.rd f.pay 4 4 ∨ codeValid (Bits.rd f.pay 0 1) 128 = false) : s.takeTimed f =
      ((s.onFab (seeAction f.arg)).event Reg.TA_EVENT Fld.TA_EVENT_FAILED).accFlag .firmware Reg.TA_CTRL .refused :=
  (if_neg (mt List.contains_iff_mem.1 h)).trans (if_pos (hbad.imp_right (by simp [·])))

/-- A new action that is valid is armed or waits, and its number is noted. -/
theorem takeTimed_valid (h : f.arg ∉ s.fab.actions) (hns : Bits.rd f.pay 4 4 ≤ 999999999)
    (hcode : codeValid (Bits.rd f.pay 0 1) 128 = true) : s.takeTimed f =
      ((s.onFab (seeAction f.arg)).fwArmOrWait (timedAt f) (Bits.rd f.pay 0 1) (Bits.rd f.pay 20 4)
        (Bits.rd f.pay 24 4)).onFab (noteAction f.arg) :=
  (if_neg (mt List.contains_iff_mem.1 h)).trans (if_neg (by simp [hns, hcode]))

theorem takeTimed_armed (h : f.arg ∉ s.fab.actions) (hns : Bits.rd f.pay 4 4 ≤ 999999999)
    (hcode : codeValid (Bits.rd f.pay 0 1) 128 = true)
    (harm : s.fwArm (timedAt f) (Bits.rd f.pay 0 1) (Bits.rd f.pay 20 4) (Bits.rd f.pay 24 4) = (true, v)) :
    (s.takeTimed f).fab.actions.head? = some f.arg ∧ (s.takeTimed f).due = v.due := by
  obtain ⟨t, ht, hdue, -⟩ := fwArm_onFab (g := seeAction f.arg) harm
  rw [takeTimed_valid h hns hcode, fwArmOrWait_armed ht, onFab_due, onFab_fab]
  exact ⟨noteAction_head, hdue⟩

theorem takeTimed_waits (h : f.arg ∉ s.fab.actions) (hns : Bits.rd f.pay 4 4 ≤ 999999999)
    (hcode : codeValid (Bits.rd f.pay 0 1) 128 = true)
    (harm : s.fwArm (timedAt f) (Bits.rd f.pay 0 1) (Bits.rd f.pay 20 4) (Bits.rd f.pay 24 4) = (false, v)) :
    (s.takeTimed f).fab.actions.head? = some f.arg ∧ (s.takeTimed f).due = s.due ∧
      (s.takeTimed f).fab.waits = v.fab.waits ++
        [⟨timedAt f, Bits.rd f.pay 0 1, Bits.rd f.pay 20 4, Bits.rd f.pay 24 4⟩] := by
  obtain ⟨t, ht, hdue, hfab⟩ := fwArm_onFab (g := seeAction f.arg) harm
  rw [takeTimed_valid h hns hcode, fwArmOrWait_waits ht, onFab_due, onFab_due, onFab_fab, onFab_fab, noteAction_head,
    noteAction_waits, joinWaits_waits, hdue, hfab, seeAction_waits, fwArm_full harm, event_due, event_fab]
  exact ⟨rfl, rfl, rfl⟩

/-- Settles O32: the values noted leave the period and the swaths, and whether a slot of the firmware is free, and late,
turns on nothing that the number of an action changes. -/
theorem governorAndTimedFrames : Obligations.GovernorAndTimedFrames := by
  unfold Obligations.GovernorAndTimedFrames
  refine ⟨fun s w l e h hl he => exec_governorPeriod_counts h hl he, fun s h => exec_governorPeriod_idle h,
    fun p fr s u f w hin hu h hl hi hv => ?_, fun p fr s u f w hin hu h hl hi hv hd hn => ?_,
    fun p fr s u f v hin hu ha hns hcode harm => ?_, fun p fr s u f v hin hu ha hns hcode harm => ?_,
    fun p fr s u f hin hu ha hbad => ?_, fun p fr s u f hin hu ha => ?_⟩
  · subst hu
    rw [exec_govFrame hin, takeGov_running h hl hi, if_pos hv]
  · subst hu
    rw [exec_govFrame hin, takeGov_running h hl hi, if_neg hv, if_pos ⟨hd, hn⟩]
  · subst hu
    obtain ⟨hact, hdue⟩ := takeTimed_armed ha hns hcode harm
    exact ⟨_, exec_timedFrame hin, by rw [fabOut_actions, hact], by rw [fabOut_due, hdue]⟩
  · subst hu
    obtain ⟨hact, hdue, hwait⟩ := takeTimed_waits ha hns hcode harm
    exact ⟨_, exec_timedFrame hin, by rw [fabOut_actions, hact], by rw [fabOut_due, hdue, fabIn_due],
      by rw [fabOut_waits, hwait]; rfl⟩
  · subst hu
    rw [exec_timedFrame hin, takeTimed_invalid (by rwa [fabIn_actions]) hbad]
    rfl
  · subst hu
    rw [exec_timedFrame hin, takeTimed_seen (by rwa [fabIn_actions])]
    rfl

end Sys2Proof.Proofs
end

section
/-! Scope: serial lanes (spec/12_serial_lanes.md, R417; spec/11_prenu_fabric.md, R369, R401): an LWIDTH that leaves a fabric
port one lane.

LINK_DEGRADE tells of a port that had more than one lane before. The mask of a fabric port is a number of its own, which
neither the invariant nor the statement bounds, and only its eight lowest bits count as lanes: a mask that narrows by a
higher bit alone has had one lane all along. -/

namespace Sys2Proof.Proofs

open Sys2Proof.Machine Sys2Proof.Safety

variable {s : State}

/-- The lanes that join by a mask, beside those it keeps, are lanes of the mask. -/
theorem and_or_of_and_eq {m old k : Nat} (h : m &&& old = m) : m &&& (old ||| k) = m := by
  rw [Nat.and_or_distrib_left, h]
  exact Nat.eq_of_testBit_eq (by simp +contextual)

/-- An LWIDTH that drops lanes of a fabric port in use is taken and sent back (R417). -/
theorem exec_fabLwidth_narrows {p : Fin 4} {m : Byte} (huse : s.laneUse (p.val + 1) = true)
    (hsub : m.toNat &&& s.portMask (p.val + 1) = m.toNat) (hm : m.toNat ≠ 0) (hne : m.toNat ≠ s.portMask (p.val + 1))
    (hidle : s.narrowing (p.val + 1) = false) :
    exec (.fabLwidth p.castSucc m) s = .next (((s.setMask (p.val + 1) m.toNat).sendWidth (p.val + 1) m.toNat).degrade
      (p.val + 1) (s.portMask (p.val + 1)) m.toNat) := by
  have hport : p.val ≠ 4 := by omega
  change execFabLwidth p.castSucc m s = _
  simp [execFabLwidth, hport, and_or_of_and_eq hsub, huse, hidle, hm, hne, hsub]

/-- A port that had one lane before has not degraded (R401). -/
theorem degrade_oneLane {q old m : Nat} (h : maskCount old ≤ 1) : s.degrade q old m = s :=
  if_neg fun hc => absurd hc.2.2 (Nat.not_lt.2 h)

/-- Fabric port 0 is in HELLO, and its mask holds a bit beyond its lanes. -/
def wideMask : State :=
  (State.reset.setFld (Reg.FAB_PORT_STATUS 0) Fld.FAB_PORT_STATUS_STATE 2).onFport 0 fun x => { x with mask := 257 }

/-- Refutes O47 in its eleventh clause: bits 0 and 8 stand in the mask of fabric port 0, and an LWIDTH leaves bit 0. The mask
is taken and sent back, but no lane of the port has left, and LINK_DEGRADE is not raised. The clause lacks the premise that
the mask before holds more than one lane. -/
theorem not_lanesServeAndLeave : ¬ Obligations.LanesServeAndLeave := by
  unfold Obligations.LanesServeAndLeave
  rintro ⟨-, -, -, -, -, -, -, -, -, -, hdegrade, -⟩
  have hnext := hdegrade 0 1 wideMask 257 (by decide) (by decide) (by decide) (by decide) (by decide) (by decide) (by decide)
  rw [exec_fabLwidth_narrows (by decide) (by decide) (by decide) (by decide) (by decide), degrade_oneLane (by decide)] at hnext
  have hflag := congrArg (State.flag · Reg.FAB_EVENT Fld.FAB_EVENT_LINK_DEGRADE) (Host.Outcome.next.inj hnext)
  exact absurd hflag (by decide)

end Sys2Proof.Proofs
end

section
/-! Scope: acknowledgement, credit and silence on the links of the fabric and the ingest port (spec/11_prenu_fabric.md, R371
to R374, R384; spec/16_ingest_dma_checks.md, R522), and frames with a bad CRC (R291, R407): what each timer and each ordered
set does in the branch of its premises. -/

namespace Sys2Proof.Proofs

open Sys2Proof.Machine Sys2Proof.Safety Sys2Proof.Laws

variable {s : State} {p : Nat}

/-! ### The frames kept on a link (R373) -/

/-- Frames are dropped up to the one acknowledged: where it is the oldest, that one alone. -/
theorem drop_dropWhile_oldest {α : Type} {n : Nat} {f : α} {l : List (Nat × α)} :
    (((n, f) :: l).dropWhile fun x => x.1 != n).drop 1 = l := by
  simp

/-- Two changes of a fabric port that agree on the port give the same state. -/
theorem onFport_congr {f g : FabPort → FabPort} (h : f (s.fport p) = g (s.fport p)) : s.onFport p f = s.onFport p g := by
  unfold State.onFport
  split
  next x hx => rw [show s.fport p = x by simp [State.fport, hx]] at h; rw [h]
  next => rfl

/-- A LACK of the oldest frame kept drops it; with NAK the others are sent again. -/
theorem lackFab_oldest {n : Nat} {f : FabFrame} {l : List (Nat × FabFrame)} {nak : Bool} {u : State}
    (hst : 2 ≤ s.fpState p) (hr : (s.fport p).retry = (n, f) :: l)
    (hu : u = s.onFport p fun x => { x with retry := l, resends := 0 }) :
    s.lackFab p n nak = ((if nak then u.fabResend p else u).pumpAll p).pwrCheck (p + 1) := by
  have hdrop : (s.onFport p fun x => { x with
      retry := (x.retry.dropWhile fun f => f.1 != n).drop 1, resends := 0 }) = u :=
    hu ▸ onFport_congr (by rw [hr, drop_dropWhile_oldest])
  have hany : ((s.fport p).retry.any fun f => f.1 == n) = true := by simp [hr]
  unfold State.lackFab
  rw [if_neg (Nat.not_lt.2 hst)]
  dsimp only
  rw [if_pos hany, hdrop]

theorem exec_lackSet_ingest {w : BitVec 16} {b : List Byte} {l : List (Nat × List Byte)} {nak : Bool} {u : State}
    (hr : s.ing.retry = (w.toNat, b) :: l) (hu : u = s.onIng fun g => { g with retry := l, resends := 0 }) :
    exec (.lackSet 4 w nak) s = .next (((if nak then u.ingResend else u).ingPump
      (if nak then u.ingResend else u).ing.upQueue.length).pwrCheck 0) := by
  have hdrop : (s.onIng fun g => { g with
      retry := (g.retry.dropWhile fun f => f.1 != w.toNat).drop 1, resends := 0 }) = u := by
    simp only [hu, State.onIng, hr, drop_dropWhile_oldest]
  have hany : (s.ing.retry.any fun f => f.1 == w.toNat) = true := by simp [hr]
  change execLackSet 4 w nak s = _
  unfold execLackSet
  rw [if_neg (by decide)]
  dsimp only
  rw [if_pos hany, hdrop]

/-! ### A fabric port in HELLO or later (R371 to R373) -/

theorem resendFab_linked (hst : 2 ≤ s.fpState p) : s.resendFab p = s.fabResend p := if_neg (Nat.not_lt.2 hst)

theorem fabResend_again (hopen : s.fabOpen p = true) (hr : (s.fport p).retry ≠ []) (hn : (s.fport p).resends < 8) :
    s.fabResend p = (((s.fport p).retry.foldl (fun t f => t.sendOn (p + 1) (f.2.bytes f.1)) s).count
      (Reg.FAB_PORT_RESENDS p) (s.fport p).retry.length).onFport p fun x => { x with resends := x.resends + 1 } :=
  (if_neg (by simp [hr, hopen])).trans (if_neg (Nat.not_le.2 hn))

/-- The frame that has been sent again eight times takes the port DOWN. -/
theorem fabResend_down (hopen : s.fabOpen p = true) (hr : (s.fport p).retry ≠ []) (hn : 8 ≤ (s.fport p).resends) :
    s.fabResend p = s.fabDown p :=
  (if_neg (by simp [hr, hopen])).trans (if_pos hn)

theorem silentFab_awake (hst : 2 ≤ s.fpState p) (ha : s.asleep (8 + 2 * p) 2 = false) : s.silentFab p = s.fabDown p :=
  if_neg (not_or.2 ⟨Nat.not_lt.2 hst, by simp [ha]⟩)

theorem keepFab_linked (hst : 2 ≤ s.fpState p) :
    s.keepFab p = (List.range 5).foldl (fun t c => t.sendCredit p c) (s.sendLack p false) :=
  if_neg (Nat.not_lt.2 hst)

/-- A port that is DOWN or in TRAIN has no link to watch. -/
theorem unlinked_keeps (hst : s.fpState p < 2) : s.silentFab p = s ∧ s.resendFab p = s ∧ s.keepFab p = s :=
  ⟨if_pos (.inl hst), if_pos hst, if_pos hst⟩

theorem exec_creditSet_fabric {p : Fin 4} {c : Byte} {w : BitVec 16} (hst : 2 ≤ s.fpState p) (hc : c.toNat < 5) :
    exec (.creditSet p.castSucc c w) s = .next ((s.onFport p fun x => { x with
      returned := Kv.set x.returned c.toNat w.toNat }).pumpAll p).entryGrants :=
  (if_neg (Nat.ne_of_lt p.isLt)).trans (if_neg (not_or.2 ⟨Nat.not_lt.2 hst, Nat.not_le.2 hc⟩))

/-- The ordered sets and the timers of a fabric port are the port's own. -/
theorem exec_lackSet_fabric {p : Fin 4} {w : BitVec 16} {nak : Bool} :
    exec (.lackSet p.castSucc w nak) s = .next (s.lackFab p w.toNat nak) := if_pos p.isLt

theorem exec_linkResendTimeout_fabric {p : Fin 4} : exec (.linkResendTimeout p.castSucc) s = .next (s.resendFab p) :=
  if_pos p.isLt

theorem exec_linkSilenceTimeout_fabric {p : Fin 4} : exec (.linkSilenceTimeout p.castSucc) s = .next (s.silentFab p) :=
  if_pos p.isLt

theorem exec_linkKeepalive_fabric {p : Fin 4} : exec (.linkKeepalive p.castSucc) s = .next (s.keepFab p) := if_pos p.isLt

/-! ### The ingest port (R371 to R373, R522) -/

theorem exec_creditSet_ingest {c : Byte} {w : BitVec 16} (hc : c.toNat = 0x20) (hready : s.ingReady = true) :
    exec (.creditSet 4 c w) s =
      .next ((s.onIng fun g => { g with upTotal := w.toNat }).recPump s.ing.upWait.length) :=
  if_neg (by simp [hc, hready])

theorem ingResend_again (hr : s.ing.retry ≠ []) (hw : s.ing.narrow = false) (hm : s.portMask 0 ≠ 0)
    (hn : s.ing.resends < 8) : s.ingResend =
      (s.ing.retry.foldl (fun t f => t.sendOn 0 f.2) s).onIng fun g => { g with resends := g.resends + 1 } :=
  (if_neg (by simp [hr, hw, hm])).trans (if_neg (Nat.not_le.2 hn))

theorem exec_linkSilenceTimeout_ingest (hready : s.ingReady = true) (ha : s.asleep 0 8 = false) :
    exec (.linkSilenceTimeout 4) s = .next s.retrainIng :=
  if_neg (by simp [ha, hready])

theorem exec_linkKeepalive_ingest (hready : s.ingReady = true) : exec (.linkKeepalive 4) s =
    .next ((0 :: (List.range 8).map (16 + ·)).foldl (fun t k => t.ingCredit k) (s.ingLack false).grantControl.grantAll) :=
  if_neg (by simp [hready])

/-- An ingest port that is not ready keeps no link alive, and does not watch one for silence. -/
theorem exec_ingest_unready (hready : s.ingReady = false) :
    exec (.linkKeepalive 4) s = .next s ∧ exec (.linkSilenceTimeout 4) s = .next s :=
  ⟨if_pos (by simp [hready]), if_pos (by simp [hready])⟩

/-! ### A frame with a bad CRC (R291, R373, R407) -/

theorem exec_frameCrcError_ingest :
    exec (.frameCrcError 0) s = .next (if s.ingReady then s.ingLack true else s.nrDiscard 0 8) := rfl

theorem exec_frameCrcError_fabric {q : Fin 11} (hq : q.val = p + 1) (hp : p < 4) : exec (.frameCrcError q) s =
    if ¬ s.locked then .next (s.nrDiscard (8 + 2 * p) 2) else if s.fpState p < 2 then .next s
      else .next (s.fabReject p) := by
  change execFrameCrcError q s = _
  simp [execFrameCrcError, hq, hp]

theorem exec_frameCrcError_head {q : Fin 11} (hq : q.val = p + 5) (hst : s.portState p ≠ 0) :
    exec (.frameCrcError q) s = .next (s.excNone p) := by
  change execFrameCrcError q s = _
  simp [execFrameCrcError, hq, hst]

/-! ### Requests without an answer (R384) -/

section
variable {p : Fin 4} {k : Fin 64} {w : Flow} (hw : (s.fport p).flows.find? (fun w => w.id == k.val) = some w)
include hw

theorem exec_flowTimeout_first (hr : w.resent = false) :
    exec (.flowTimeout p k) s = .next ((s.onFport p fun x => { x with
      flows := x.flows.map fun w => if w.id == k.val then { w with resent := true } else w }).routeFrame w.frame) := by
  change execFlowTimeout p k s = _
  simp only [execFlowTimeout, hw]
  exact if_neg (by simp [hr])

/-- The second time the request is given up, and its flow is free. -/
theorem exec_flowTimeout_second (hr : w.resent = true) :
    exec (.flowTimeout p k) s = .next ((((s.onFport p fun x => { x with flows := x.flows.filter fun w => w.id != k.val }).onIng
      fun g => { g with remote := g.remote.filter fun r => r.1 != w.frame.arg }).count Reg.FAB_REQ_FAIL 1).raise .contained
      Reg.FAB_EVENT Fld.FAB_EVENT_REQ_FAIL 0 (unitFab p)).askAgain := by
  change execFlowTimeout p k s = _
  simp only [execFlowTimeout, hw]
  exact if_pos hr

end

/-! ### The statement -/

/-- Settles O41: each ordered set, timer and bad frame takes the branch of its premises. -/
theorem linksAcknowledge : Obligations.LinksAcknowledge := by
  unfold Obligations.LinksAcknowledge
  refine ⟨fun c w s hc hr => exec_creditSet_ingest hc hr, fun p c w s hst hc => exec_creditSet_fabric hst hc,
    fun p w f l k s u hst hr hu => ?_, fun w b l k s u hr hu => exec_lackSet_ingest hr hu,
    fun p s x hx hst hopen hr hn => ?_, fun p s hst hopen hr hn => ?_, fun p s hst ha => ?_, fun p s hst => ?_,
    fun p s hst => ?_, fun s hr ha => exec_linkSilenceTimeout_ingest hr ha, fun s hr hw hm hn => ?_, fun s u hr hu => ?_,
    fun s hr => ?_, fun s hr => ?_, fun q p s hq hp hl => ?_, fun q p s hq hst => exec_frameCrcError_head hq hst,
    fun q p s hq hp hl hst => ?_, fun p k s w hw hr => exec_flowTimeout_first hw hr,
    fun p k s w hw hr => exec_flowTimeout_second hw hr⟩
  · rw [exec_lackSet_fabric, lackFab_oldest hst hr hu]
  · subst hx
    rw [exec_linkResendTimeout_fabric, resendFab_linked hst, fabResend_again hopen hr hn]
  · rw [exec_linkResendTimeout_fabric, resendFab_linked hst, fabResend_down hopen hr hn]
  · rw [exec_linkSilenceTimeout_fabric, silentFab_awake hst ha]
  · obtain ⟨hsilent, hresend, hkeep⟩ := unlinked_keeps hst
    rw [exec_linkSilenceTimeout_fabric, exec_linkResendTimeout_fabric, exec_linkKeepalive_fabric, hsilent, hresend, hkeep]
    exact ⟨rfl, rfl, rfl⟩
  · rw [exec_linkKeepalive_fabric, keepFab_linked hst]
  · exact congrArg Host.Outcome.next (ingResend_again hr hw hm hn)
  · rw [hu, exec_linkKeepalive_ingest hr]
  · rw [exec_frameCrcError_ingest, if_pos hr]
    rfl
  · obtain ⟨hkeep, hsilent⟩ := exec_ingest_unready hr
    exact ⟨by rw [exec_frameCrcError_ingest, if_neg (by simp [hr])], hkeep, hsilent⟩
  · rw [exec_frameCrcError_fabric hq hp, if_pos (by simp [hl])]
  · rw [exec_frameCrcError_fabric hq hp, if_neg (by simp [hl]), if_neg (Nat.not_lt.2 hst)]
    rfl

end Sys2Proof.Proofs
end

section
/-! Scope: sideband requests and waveform sets (spec/09_head_ports.md, R309, R310, R313, R325): the request that HP_SB_CMD puts
in flight to one head, and what the validation of a waveform set leaves. -/

namespace Sys2Proof.Proofs

open Sys2Proof.Machine Sys2Proof.Safety Sys2Proof.Laws

variable {s t : State} {p h n : Nat} {x : HeadLink} {r : SbReq}

/-! ### A head of a chain through the operations of its port -/

/-- Port `p` has a head `h`, which is `x`. -/
def HeadAt (s : State) (p h : Nat) (x : HeadLink) : Prop := p < s.hp.ports.length ∧ (s.port p).heads[h]? = some x

theorem HeadAt.headLink (g : HeadAt s p h x) : s.headLink p h = x := by simp [State.headLink, g.2]

theorem headAt_headLink (hp : p < s.hp.ports.length) (hh : h < (s.port p).heads.length) :
    HeadAt s p h (s.headLink p h) :=
  ⟨hp, by simp [State.headLink, hh]⟩

theorem HeadAt.of_hp (g : HeadAt s p h x) (e : t.hp = s.hp) : HeadAt t p h x := by
  simpa only [HeadAt, State.port, e] using g

theorem HeadAt.ite {c : Prop} [Decidable c] (g : HeadAt s p h x) (g' : HeadAt t p h x) :
    HeadAt (if c then s else t) p h x := by
  split <;> assumption

/-- A change of the port that leaves its heads. -/
theorem HeadAt.onPort {f : Port → Port} (g : HeadAt s p h x) (hf : (f (s.port p)).heads = (s.port p).heads) :
    HeadAt (s.onPort p f) p h x :=
  ⟨by simpa using g.1, by rw [port_onPort_same g.1, hf, g.2]⟩

/-- A change of the head itself. -/
theorem HeadAt.onHead {f : HeadLink → HeadLink} (g : HeadAt s p h x) : HeadAt (s.onHead p h f) p h (f x) := by
  obtain ⟨hlen, -⟩ := List.getElem?_eq_some_iff.1 g.2
  refine ⟨by simpa using g.1, ?_⟩
  unfold State.onHead
  rw [port_onPort_same g.1, g.2]
  simp [hlen]

theorem HeadAt.sendHead {fr : List Byte} (g : HeadAt s p h x) : HeadAt (s.sendHead p fr) p h x := by
  unfold State.sendHead
  split
  · exact g.onPort rfl
  · split
    · exact g.onPort rfl
    · exact g.of_hp rfl

/-- A frame to a head counts its SEQ on, and leaves all else of the head (R291). -/
theorem HeadAt.sendFrameU {ty : Nat} {pay : List Byte} {upset : Bool} (g : HeadAt s p h x) (hh : h ≠ 255) :
    ∃ q, HeadAt (s.sendFrameU p h ty pay upset) p h { x with seqDown := q } := by
  have hsent {k : SnoopBlock} {fr : List Byte} : HeadAt ((s.snoop k).sendHead p fr) p h x :=
    (g.of_hp ((snoop_keeps (F := (· = .regs)) .refl rfl).same .hp (by decide))).sendHead
  unfold State.sendFrameU
  dsimp only
  rw [if_neg hh]
  exact ⟨_, (HeadAt.ite (hsent.of_hp logErr_hp) hsent).onHead⟩

/-! ### Sideband requests (R291, R309) -/

/-- A request that goes is in flight, sent once more. -/
theorem HeadAt.sbSend (g : HeadAt s p h x) (hh : h ≠ 255) :
    ∃ q, HeadAt (s.sbSend p h r) p h { x with seqDown := q, sb := some { r with sends := r.sends + 1 } } := by
  obtain ⟨q, hsent⟩ := g.sendFrameU (ty := 7) (upset := false)
    (pay := Bits.toLE 1 r.op ++ [0] ++ Bits.toLE 2 r.offset ++ Bits.toLE 2 r.length ++ [0, 0]) hh
  exact ⟨q, hsent.onHead⟩

/-- A port that is awake sends a request to a head that owes no response. -/
theorem sbAsk_free (hsb : (s.headLink p h).sb = none) (hs : s.headShut p = false) : s.sbAsk p h r = s.sbSend p h r :=
  if_pos (by simp [hsb, hs])

/-- A request for a head that owes a response waits behind it. -/
theorem HeadAt.sbAsk_owing {r' : SbReq} (g : HeadAt s p h x) (hsb : x.sb = some r') :
    HeadAt (s.sbAsk p h r) p h { x with sbQueue := x.sbQueue ++ [r] } := by
  unfold State.sbAsk
  rw [if_neg (by simp [g.headLink, hsb])]
  exact g.onHead

/-- Requests for a head that owes a response leave the one in flight and what has been read. -/
theorem HeadAt.foldl_sbAsk {r' : SbReq} {l : List SbReq} (g : HeadAt s p h x) (hsb : x.sb = some r') :
    ∃ q, HeadAt (l.foldl (fun s r => s.sbAsk p h r) s) p h { x with sbQueue := q } := by
  induction l generalizing s x with
  | nil => exact ⟨x.sbQueue, g⟩
  | cons r l ih =>
    obtain ⟨q, hrest⟩ := ih (g.sbAsk_owing hsb) hsb
    exact ⟨q, hrest⟩

/-- The first request of an identity read is for its first 1,024 bytes (R309). -/
theorem identReqs_eq_cons : identReqs = ⟨1, 0, 1024, 0⟩ :: identReqs.tail := by decide

theorem askIdent_eq : s.askIdent p h = identReqs.tail.foldl (fun s r => s.sbAsk p h r)
    ((s.onHead p h fun x => { x with ident := [] }).sbAsk p h ⟨1, 0, 1024, 0⟩) := by
  unfold State.askIdent
  rw [identReqs_eq_cons, List.foldl_cons]
  rfl

theorem headShut_onHead {f : HeadLink → HeadLink} : (s.onHead p h f).headShut n = s.headShut n := by
  simp [State.headShut, State.asking, State.pwrReq, State.asleep, State.fld, State.reg]

/-- A head that owes no response is asked for its identity from the start: the first part is in flight. -/
theorem HeadAt.askIdent (g : HeadAt s p h x) (hh : h ≠ 255) (hsb : x.sb = none) (hs : s.headShut p = false) :
    ∃ y, HeadAt (s.askIdent p h) p h y ∧ y.ident = [] ∧ y.sb = some ⟨1, 0, 1024, 1⟩ := by
  have gnew : HeadAt (s.onHead p h fun x => { x with ident := [] }) p h { x with ident := [] } := g.onHead
  obtain ⟨q, hfirst⟩ := gnew.sbSend (r := ⟨1, 0, 1024, 0⟩) hh
  rw [← sbAsk_free (by rw [gnew.headLink, hsb]) (headShut_onHead.trans hs)] at hfirst
  obtain ⟨w, hrest⟩ := hfirst.foldl_sbAsk (l := identReqs.tail) rfl
  rw [askIdent_eq]
  exact ⟨_, hrest, rfl, rfl⟩

/-! ### HP_SB_CMD (R325) -/

/-- Of the heads enumerated, a present one is named once. -/
theorem headsOf_filter_present (hh : h < 8) (hpres : s.headPresent p h = true) :
    ((s.headsOf p).filter fun k => k == h) = [h] := by
  have hmem : h ∈ s.headsOf p := List.mem_filter.2 ⟨List.mem_range.2 hh, hpres⟩
  have hnodup : (s.headsOf p).Nodup := List.nodup_range.filter _
  rw [List.filter_beq, List.count_eq_one_of_mem hnodup hmem, List.replicate_one]

/-- HP_SB_CMD with ALL 0 concerns the head it names, where that is present. -/
theorem sbCmd_one {w : Word} {ask : State → Nat → Nat → State} {p : Fin 6} {h : Fin 8}
    (hport : p.val = Fld.HP_SB_CMD_PORT.get w) (hall : Fld.HP_SB_CMD_ALL.get w = 0)
    (hhead : h.val = Fld.HP_SB_CMD_HEAD.get w) (hpres : s.headPresent p h = true) : s.sbCmd w ask = ask s p h := by
  unfold State.sbCmd
  rw [← hport, ← hhead, hall, if_neg (Nat.not_le.2 p.isLt), if_neg (by decide), headsOf_filter_present h.isLt hpres]
  rfl

/-! ### Waveform sets (R313) -/

theorem exec_waveCommit_begins {a : Path} {w : Word} (hb : s.flag Reg.HP_WAVE_STATUS Fld.HP_WAVE_STATUS_BUSY = false) :
    Next (.waveCommit a w) s fun t =>
      t.hp.waves.checking = some (Fld.HP_WAVE_CTRL_SET.get w) ∧ t.hp.ports = s.hp.ports :=
  ⟨_, if_neg (by simp [hb]), rfl, rfl⟩

/-- The copy of a set stands in the table windows. -/
theorem waveCopy_of_tables (e : t.tables = s.tables) : t.waveCopy n = s.waveCopy n := by
  simp only [State.waveCopy, State.tblBytes, State.tbl, e]

/-- The validation of set `n` is over, and its outcome not yet shown. -/
def waveChecked (s : State) (n : Nat) : State :=
  let s : State := { s with hp := { s.hp with waves := { s.hp.waves with checking := none } } }
  (s.setFld Reg.HP_WAVE_STATUS Fld.HP_WAVE_STATUS_BUSY 0).setFld Reg.HP_WAVE_STATUS Fld.HP_WAVE_STATUS_ERR_SET n

/-- The registers that show a validation do not hold the copy validated. -/
theorem waveCopy_waveChecked : (waveChecked s n).waveCopy n = s.waveCopy n :=
  waveCopy_of_tables (by simp [waveChecked])

/-- A set without a fault becomes its shadow, and its PENDING bit is set. -/
def waveShadowed (s : State) (n : Nat) : State :=
  let s : State := { s with hp := { s.hp with waves := { s.hp.waves with
    shadow := Kv.set s.hp.waves.shadow n (s.waveCopy n) } } }
  (s.setFld Reg.HP_WAVE_STATUS Fld.HP_WAVE_STATUS_ERR 0).setFld Reg.HP_WAVE_STATUS Fld.HP_WAVE_STATUS_PENDING
    (s.fld Reg.HP_WAVE_STATUS Fld.HP_WAVE_STATUS_PENDING ||| 2 ^ n)

theorem waveShadowed_shadow :
    (waveShadowed s n).hp.waves.shadow = Kv.set s.hp.waves.shadow n (s.waveCopy n) := rfl

theorem exec_waveValidationDone_good (hc : s.hp.waves.checking = some n) (hf : waveFault (s.waveCopy n) = none) :
    exec .waveValidationDone s = .next (waveShadowed (waveChecked s n) n) := by
  rw [← waveCopy_waveChecked] at hf
  change execWaveValidationDone s = _
  unfold waveChecked at *
  simp only [execWaveValidationDone, hc, hf]
  rfl

theorem exec_waveValidationDone_bad {c : Nat} (hc : s.hp.waves.checking = some n)
    (hf : waveFault (s.waveCopy n) = some c) : exec .waveValidationDone s =
      .next (((waveChecked s n).setFld Reg.HP_WAVE_STATUS Fld.HP_WAVE_STATUS_ERR c).event Reg.HP_EVENT
        Fld.HP_EVENT_WAVE_FAULT) := by
  rw [← waveCopy_waveChecked] at hf
  change execWaveValidationDone s = _
  unfold waveChecked at *
  simp only [execWaveValidationDone, hc, hf]

/-! ### The statement -/

section
variable {w : Word} {p : Fin 6} {h : Fin 8} (hi : Inv s) (hport : p.val = Fld.HP_SB_CMD_PORT.get w)
  (hall : Fld.HP_SB_CMD_ALL.get w = 0) (hhead : h.val = Fld.HP_SB_CMD_HEAD.get w) (hpres : s.headPresent p h = true)
  (hlen : (s.port p).heads.length = 8) (hsb : (s.headLink p h).sb = none) (hs : s.headShut p = false)
include hi hport hall hhead hpres hlen hsb hs

/-- The request of an HP_SB_CMD that asks one head is in flight. -/
theorem sbCmd_sbAsk_inFlight : ((s.sbCmd w fun s p h => s.sbAsk p h r).headLink p h).sb =
    some { r with sends := r.sends + 1 } := by
  have hfound : HeadAt s p h (s.headLink p h) := headAt_headLink (inv_port hi p) (by omega)
  obtain ⟨q, hsent⟩ := hfound.sbSend (r := r) (by omega)
  rw [sbCmd_one hport hall hhead hpres, sbAsk_free hsb hs, hsent.headLink]

theorem sbCmd_askIdent_inFlight : ((s.sbCmd w fun s p h => s.askIdent p h).headLink p h).ident = [] ∧
    ((s.sbCmd w fun s p h => s.askIdent p h).headLink p h).sb = some ⟨1, 0, 1024, 1⟩ := by
  have hfound : HeadAt s p h (s.headLink p h) := headAt_headLink (inv_port hi p) (by omega)
  obtain ⟨y, hsent, hident, hreq⟩ := hfound.askIdent (by omega) hsb hs
  rw [sbCmd_one hport hall hhead hpres, hsent.headLink]
  exact ⟨hident, hreq⟩

end

/-- Settles O29: HP_SB_CMD with ALL 0 asks one head, whose first request is in flight, and a validation changes the shadow of
its set alone. -/
theorem sidebandAndWaveforms : Obligations.SidebandAndWaveforms := by
  unfold Obligations.SidebandAndWaveforms
  refine ⟨fun w s p h hi hport hall hhead hpres hlen hsb hs =>
      ⟨_, rfl, sbCmd_askIdent_inFlight hi hport hall hhead hpres hlen hsb hs⟩,
    fun w s p h hi hport hall hhead hpres hlen hsb hs =>
      ⟨_, rfl, sbCmd_sbAsk_inFlight hi hport hall hhead hpres hlen hsb hs⟩,
    fun w s p h hi hport hall hhead hpres hlen hsb hs =>
      ⟨_, rfl, sbCmd_sbAsk_inFlight hi hport hall hhead hpres hlen hsb hs⟩,
    fun a w s hb => exec_waveCommit_begins hb, fun a w s hb => if_pos hb,
    fun s n hc hf => ⟨_, exec_waveValidationDone_good hc hf, rfl, ?_, rfl⟩,
    fun s n c hc hf => ⟨_, exec_waveValidationDone_bad hc hf, rfl, rfl⟩⟩
  rw [waveShadowed_shadow, waveCopy_waveChecked]
  rfl

end Sys2Proof.Proofs
end

section
/-! Scope: the Wellspring counter (spec/10_wellspring_timebase.md, R327 to R345): what the ticks of the TB clock add to it,
where it starts, and what the commands that steer and step it write. -/

namespace Sys2Proof.Proofs

open Sys2Proof.Machine Sys2Proof.Safety Sys2Proof.Laws

variable {s t : State} {p : Path} {w : Word} {n : Nat}

/-- Settles O2: the empty queue is the first branch of a step. -/
theorem idleStepTicks : Obligations.IdleStepTicks := by
  unfold Obligations.IdleStepTicks
  intro s h
  rw [step, h]

/-! ### Ticks (R329, R330) -/

/-- What `n` ticks leave of the counter of a locked TB PLL. -/
theorem elapse_clk (h : s.clk.pllLocked = true) : (s.elapse n).clk = { s.clk with
    count := (((s.clk.count + n * s.tbIncr : Nat) : Int) + s.clk.slewStep n).toNat % clockSpan
    slewRem := s.clk.slewRem - s.clk.slewStep n
    ticks := (s.clk.ticks + n) % 2 ^ 64 } :=
  if_pos h

theorem tbIncr_bounds : 0x0FFF8000 ≤ s.tbIncr ∧ s.tbIncr ≤ 0x10008000 := by
  unfold State.tbIncr
  omega

/-- At the fastest slew, 100,000 ppb, a tick moves 26,844 units of 2^-28 ns (R340). -/
theorem slewStepOf_le {rate : Nat} : slewStepOf rate ≤ 26844 := by
  unfold slewStepOf
  omega

theorem slewStep_one {c : Clock} : c.slewStep 1 =
    if 0 < c.slewRem then min c.slewRem c.slewK else max c.slewRem (-(c.slewK : Int)) := by
  rw [Clock.slewStep, Nat.one_mul]

theorem slewStep_bounds {c : Clock} : -((n * c.slewK : Nat) : Int) ≤ c.slewStep n ∧ c.slewStep n ≤ (n * c.slewK : Nat) := by
  unfold Clock.slewStep
  split <;> omega

/-- Ticks that could move as much as is left, or more, move what is left. -/
theorem slewStep_all {c : Clock} (h : c.slewRem.natAbs ≤ n * c.slewK) : c.slewStep n = c.slewRem := by
  unfold Clock.slewStep
  split <;> omega

/-- Below a nanosecond: the units of 2^-28 ns that a counter of whole seconds holds. -/
theorem counter_sub {q x : Nat} : (2 ^ 28 * q + x) % clockSpan % 2 ^ 28 = x % 2 ^ 28 := by
  have hspan : 2 ^ 28 ∣ clockSpan := by decide
  rw [Nat.mod_mod_of_dvd _ hspan, Nat.mul_add_mod]

/-- Whole nanoseconds, of which the counter holds 2^64 seconds. -/
theorem counter_nanos {q x : Nat} : (2 ^ 28 * q + x) % clockSpan / 2 ^ 28 = (q + x / 2 ^ 28) % (2 ^ 64 * 1000000000) := by
  rw [clockSpan, Nat.mul_comm _ (2 ^ 28), Nat.mod_mul_right_div_self, Nat.mul_add_div (by decide)]

/-- Fewer nanoseconds than a second carry into NS, and at most one second into SEC. -/
theorem nanos_carry {q d : Nat} (hd : d < 1000000000) :
    (q + d) % (2 ^ 64 * 1000000000) % 1000000000 = (if 1000000000 ≤ q % 1000000000 + d then q % 1000000000 + d - 1000000000
      else q % 1000000000 + d) ∧
    (q + d) % (2 ^ 64 * 1000000000) / 1000000000 =
      (if 1000000000 ≤ q % 1000000000 + d then q / 1000000000 + 1 else q / 1000000000) % 2 ^ 64 := by
  split <;> omega

/-- Settles O60: the tick moves SUB by less than three nanoseconds, whose carries are those of R329. -/
theorem tickAdvancesTheCounter : Obligations.TickAdvancesTheCounter := by
  unfold Obligations.TickAdvancesTheCounter
  intro s t r step sub ns sec x hlock hk ht hstep hsub hns hsec hx
  have hmove : s.clk.slewStep 1 = step := slewStep_one.trans hstep.symm
  obtain ⟨hincr, hincr'⟩ := tbIncr_bounds (s := s)
  obtain ⟨hlow, hhigh⟩ := slewStep_bounds (c := s.clk) (n := 1)
  have hrate : s.clk.slewK ≤ 26844 := hk ▸ slewStepOf_le
  rw [hmove, Nat.one_mul] at hlow hhigh
  have hsum : (((s.clk.count + 1 * s.tbIncr : Nat) : Int) + step).toNat = 2 ^ 28 * (s.clk.count / 2 ^ 28) + x := by omega
  have hcarry : x / 2 ^ 28 < 1000000000 := by omega
  subst ht
  rw [elapse_clk hlock, hmove, hsum]
  dsimp only
  rw [counter_sub, counter_nanos]
  obtain ⟨hnanos, hseconds⟩ := nanos_carry (q := s.clk.count / 2 ^ 28) hcarry
  subst hns hsec
  exact ⟨rfl, rfl, hnanos, hseconds⟩

/-! ### The lock of the TB PLL (R331, R345) -/

/-- Without a time held through DEEP the counter starts at zero. -/
theorem exec_tbPllLock_starts {c : Nat} (hlock : s.clk.pllLocked = false) (hdeep : s.clk.deepHeld = false) :
    exec (.tbPllLock c) s = .next { s with clk := { s.clk with
      count := 0, ticks := 0, slewRem := 0, pllLocked := true, everSet := false, restored := false
      stepWait := false, aonAt := none } } := by
  change execTbPllLock c s = _
  simp [execTbPllLock, hlock, hdeep]

theorem exec_tbPllLock_restores {c : Nat} (hlock : s.clk.pllLocked = false) (hdeep : s.clk.deepHeld = true) :
    exec (.tbPllLock c) s = .next (s.restoreTime c) := by
  change execTbPllLock c s = _
  simp [execTbPllLock, hlock, hdeep]

/-! ### Steering (R330, R339) -/

/-- TB_ADJ_HI of the host servo: the pair is committed, and what it holds joins the slew. -/
def adjCommitted (s : State) (p : Path) (w : Word) : State :=
  let u := s.commitPair p Reg.TB_ADJ_LO w
  let d := u.pairS Reg.TB_ADJ_LO * 4096
  ({ u with clk := { u.clk with adjNow := some (u.clk.ticks, u.adjOf + d) } } : State).addSlew d

theorem exec_tbAdjCommit (h : s.hostServo = true) : exec (.tbAdjCommit p w) s = .next (adjCommitted s p w) := by
  change execTbAdjCommit p w s = _
  rw [execTbAdjCommit, if_neg (by simp [h])]
  rfl

theorem exec_tbAdjCommit_owner (h : s.hostServo = false) : exec (.tbAdjCommit p w) s =
    .next ((s.unstage p Reg.TB_ADJ_LO).accFlag p Reg.TB_ADJ_HI .owner) := by
  change execTbAdjCommit p w s = _
  rw [execTbAdjCommit, if_pos (by simp [h])]

/-! ### Steps (R343) -/

theorem stepNow_clk : s.stepNow.clk = { s.clk with
    count := tsAdd s.now16 (s.domOfs s.sel) * 2 ^ 12 + s.clk.count % 2 ^ 12, slewRem := 0, stepWait := false
    aonAt := s.clk.aonAt.map fun x => (x.1, tsAdd x.2 (s.domOfs s.sel)) } := by
  rw [State.stepNow, logErr_clk, count_clk]

/-- A step takes the counter by the offset of the selected domain, and leaves the parts of 2^-16 ns. -/
theorem stepNow_now16 : s.stepNow.now16 = tsAdd s.now16 (s.domOfs s.sel) := by
  rw [State.now16, stepNow_clk]
  dsimp only
  omega

theorem exec_tbStepCmd_steps (hs : s.hostServo = true) (hsel : s.sel < 2) (hv : (s.dom s.sel).valid = true)
    (hf : s.stepFree = true) : exec (.tbStepCmd p) s = .next s.stepNow := by
  change execTbStepCmd p s = _
  rw [execTbStepCmd, if_neg (by simp [hs]), if_pos ⟨hsel, hv, hf⟩]

theorem exec_tbStepCmd_refused (hs : s.hostServo = true)
    (h : 2 ≤ s.sel ∨ (s.dom s.sel).valid = false ∨ s.stepFree = false) :
    exec (.tbStepCmd p) s = .next (s.accFlag p Reg.TB_CTRL .refused) := by
  change execTbStepCmd p s = _
  rw [execTbStepCmd, if_neg (by simp [hs]), if_neg]
  rintro ⟨hsel, hv, hf⟩
  rcases h with h | h | h
  · omega
  · exact Bool.false_ne_true (h.symm.trans hv)
  · exact Bool.false_ne_true (h.symm.trans hf)

theorem exec_tbStepCmd_owner (hs : s.hostServo = false) :
    exec (.tbStepCmd p) s = .next (s.accFlag p Reg.TB_CTRL .owner) := by
  change execTbStepCmd p s = _
  rw [execTbStepCmd, if_pos (by simp [hs])]

theorem exec_stepApply_steps (hw : s.clk.stepWait = true) (hsel : s.sel < 2) (hf : s.stepFree = true) :
    exec .stepApply s = .next s.stepNow :=
  congrArg Host.Outcome.next (if_pos ⟨hw, hsel, hf⟩)

theorem exec_stepApply_waits (h : s.clk.stepWait = false ∨ 2 ≤ s.sel ∨ s.stepFree = false) :
    exec .stepApply s = .next s := by
  refine congrArg Host.Outcome.next (if_neg ?_)
  rintro ⟨hw, hsel, hf⟩
  rcases h with h | h | h
  · exact Bool.false_ne_true (h.symm.trans hw)
  · omega
  · exact Bool.false_ne_true (h.symm.trans hf)

/-! ### TB_TICKS under the commands that steer and step (R331) -/

theorem stepNow_ticks : s.stepNow.clk.ticks = s.clk.ticks := by rw [stepNow_clk]

theorem tbIncrWrite_ticks (h : exec (.tbIncrWrite p w) s = .next t) : t.clk.ticks = s.clk.ticks :=
  congrArg Clock.ticks ((execTbIncrWrite_keeps (F := (· ≠ .clk)) .refl (by decide) t h).same .clk (· rfl))

theorem tbAdjCommit_ticks (h : exec (.tbAdjCommit p w) s = .next t) : t.clk.ticks = s.clk.ticks := by
  cases hs : s.hostServo with
  | true =>
    rw [exec_tbAdjCommit hs] at h
    cases h
    rfl
  | false =>
    rw [exec_tbAdjCommit_owner hs] at h
    cases h
    rfl

theorem tbStepCmd_ticks (h : exec (.tbStepCmd p) s = .next t) : t.clk.ticks = s.clk.ticks := by
  change execTbStepCmd p s = _ at h
  unfold execTbStepCmd at h
  split_ifs at h <;> cases h
  · exact stepNow_ticks
  · rfl
  · rfl

theorem stepApply_ticks (h : exec .stepApply s = .next t) : t.clk.ticks = s.clk.ticks := by
  change execStepApply s = _ at h
  unfold execStepApply at h
  split_ifs at h <;> cases h
  · exact stepNow_ticks
  · rfl

/-- Settles O58: nothing but a tick of the locked PLL counts TB_TICKS. -/
theorem counterStartsAtLock : Obligations.CounterStartsAtLock := by
  unfold Obligations.CounterStartsAtLock
  refine ⟨fun c s hlock hdeep => ⟨_, exec_tbPllLock_starts hlock hdeep, Nat.zero_div _, rfl, rfl, rfl⟩,
    fun n s hlock => by rw [elapse_clk hlock], fun p w s t h => ?_⟩
  rcases h with h | h | h | h
  · exact tbStepCmd_ticks h
  · exact tbIncrWrite_ticks h
  · exact tbAdjCommit_ticks h
  · exact stepApply_ticks h

/-! ### Running a slew, and learning the AON ratio (R329, R344) -/

theorem le_divUp_mul {a b : Nat} (hb : 0 < b) : a ≤ Bits.divUp a b * b := by
  have hdiv := Nat.div_add_mod (a + b - 1) b
  have hrest := Nat.mod_lt (a + b - 1) hb
  rw [Bits.divUp, Nat.mul_comm]
  omega

/-- As many ticks as the slew takes leave nothing of it. -/
theorem exec_slewComplete (hlock : s.clk.pllLocked = true) (hk : 0 < s.clk.slewK) :
    Next .slewComplete s fun t => t.clk.slewRem = 0 ∧ t.regs = s.regs := by
  refine ⟨_, rfl, ?_, rfl⟩
  have henough : s.clk.slewRem.natAbs ≤ Bits.divUp s.clk.slewRem.natAbs (max s.clk.slewK 1) * s.clk.slewK := by
    rw [Nat.max_eq_left hk]
    exact le_divUp_mul hk
  rw [elapse_clk hlock, slewStep_all henough, sub_self]

theorem exec_aonRatioLearn_window {c : BitVec 64} {c0 t0 : Nat} (hlock : s.clk.pllLocked = true)
    (hwake : s.clk.wakeAt = none) (hmark : s.clk.aonAt = some (c0, t0))
    (hwindow : (c.toNat + 2 ^ 64 - c0) % 2 ^ 64 = aonWindow) : exec (.aonRatioLearn c) s =
      .next (({ s with clk := { s.clk with aonAt := some (c.toNat, s.now16) } } : State).setPair Reg.TB_AON_RATIO_LO
        (((s.now16 - t0) * 65536 + aonWindow / 2) / aonWindow)) := by
  change execAonRatioLearn c s = _
  simp only [execAonRatioLearn, hlock, hwake, hmark, hwindow]
  rfl

theorem exec_aonRatioLearn_unlocked {c : BitVec 64} (hlock : s.clk.pllLocked = false) :
    exec (.aonRatioLearn c) s = .next s :=
  if_pos (by simp [hlock])

/-- Settles O33: each command takes the branch of its premises, and a step writes the clock before all else. -/
theorem timeIsKept : Obligations.TimeIsKept := by
  unfold Obligations.TimeIsKept
  exact ⟨fun c s hlock hdeep => ⟨_, exec_tbPllLock_starts hlock hdeep, rfl, Nat.zero_div _, rfl, rfl, rfl⟩,
    fun c s hlock hdeep => exec_tbPllLock_restores hlock hdeep,
    fun p w s h => if_pos h, fun p w s h => if_neg h,
    fun p w s u hs hu => ⟨_, exec_tbAdjCommit hs, by subst hu; rfl, by subst hu; rfl⟩,
    fun p w s hs => exec_tbAdjCommit_owner hs,
    fun c c0 t0 s hlock hwake hmark hwindow => exec_aonRatioLearn_window hlock hwake hmark hwindow,
    fun c s hlock => exec_aonRatioLearn_unlocked hlock,
    fun s hlock hk => exec_slewComplete hlock hk,
    fun p s hs hsel hv hf => ⟨_, exec_tbStepCmd_steps hs hsel hv hf, stepNow_now16, by rw [stepNow_clk]⟩,
    fun p s hs h => exec_tbStepCmd_refused hs h, fun p s hs => exec_tbStepCmd_owner hs,
    fun s hw hsel hf => ⟨_, exec_stepApply_steps hw hsel hf, stepNow_now16, by rw [stepNow_clk]⟩,
    fun s h => exec_stepApply_waits h⟩

end Sys2Proof.Proofs
end

section
/-! Scope: time domains and PTP (spec/10_wellspring_timebase.md, R334 to R338, R357): the edges of PPS_IN, and what the
messages of IEEE 1588 leave of the domains that follow their source. -/

namespace Sys2Proof.Proofs

open Sys2Proof.Machine Sys2Proof.Safety Sys2Proof.Laws

variable {s u : State} {p : Path} {w : Word} {d e n q : Nat}

/-! ### Samples that do not come (R338) -/

/-- Without a DOMAIN_SWITCH that is dispatched none acts. -/
theorem switchesDue_of_none (h : s.dueAction 6 = none) : s.switchesDue = s := by
  have hnone : (s.dueOrder.filter fun d => s.slotCode d.slot == 6 && decide (d.act ≤ s.now16)) = [] := by
    refine List.filter_eq_nil_iff.2 fun d hd hcode => List.find?_eq_none.1 h d hd ?_
    exact (Bool.and_eq_true_iff.1 hcode).1
  rw [State.switchesDue, hnone]
  rfl

theorem exec_domainSampleTimeout {d : Fin 2} (h : s.dueAction 6 = none) : exec (.domainSampleTimeout d) s =
    .next (if s.domState d = 2 then s.domLost d else s) := by
  change Host.Outcome.next (if s.switchesDue.domState d = 2 then s.switchesDue.domLost d else s.switchesDue) = _
  rw [switchesDue_of_none h]

/-! ### TB_PPS_SEC and PPS_IN (R336, R357) -/

theorem domSrc_of_reg (h : u.reg (Reg.TB_DOM_CFG d) = s.reg (Reg.TB_DOM_CFG d)) : u.domSrc d = s.domSrc d := by
  rw [State.domSrc, State.domSrc, State.fld, State.fld, h]

/-- TB_PPS_SEC, committed, is in force. -/
def ppsSecSet (s : State) (p : Path) (w : Word) : State :=
  (s.commitPair p Reg.TB_PPS_SEC_LO w).setFld Reg.TB_STATUS Fld.TB_STATUS_PPS_SEC_SET 1

/-- The registers of a domain lie above those of the counter. -/
theorem ppsSecSet_domSrc : (ppsSecSet s p w).domSrc d = s.domSrc d := by
  have hreg : ∀ a, a < Reg.TB_DOM_CFG 0 → Reg.TB_DOM_CFG d ≠ a := by
    simp only [Reg.TB_DOM_CFG]
    omega
  exact domSrc_of_reg ((getD_put_other (hreg _ (by decide))).trans ((getD_put_other (hreg _ (by decide))).trans
    (getD_put_other (hreg _ (by decide)))))

/-- Where no domain has PPS for its source, TB_PPS_SEC lets none lock. -/
theorem exec_tbPpsSecWrite (h : ∀ d < 2, s.domSrc d ≠ 3) : exec (.tbPpsSecWrite p w) s = .next (ppsSecSet s p w) := by
  have hskip : ∀ d < 2, (if (ppsSecSet s p w).domSrc d = 3 then (ppsSecSet s p w).acquireCheck d else ppsSecSet s p w) =
      ppsSecSet s p w := fun d hd => if_neg (by rw [ppsSecSet_domSrc]; exact h d hd)
  change Host.Outcome.next ((List.range 2).foldl (fun s d => if s.domSrc d = 3 then s.acquireCheck d else s)
    (ppsSecSet s p w)) = _
  rw [show List.range 2 = [0, 1] from rfl, List.foldl_cons, List.foldl_cons, List.foldl_nil, hskip 0 (by decide),
    hskip 1 (by decide)]

/-- What domain `d` makes of an edge that came at `stamp` and began second `edge`, after `tref` cycles of TREF_IN. -/
def ppsEdge (edge stamp : Int) (tref : Nat) (s : State) (d : Nat) : State :=
  if s.domSrc d ≠ 3 ∨ s.domState d = 0 then s
  else if s.flag (Reg.TB_DOM_CFG d) Fld.TB_DOM_CFG_TREF then
    let good := decide (9999900 ≤ tref ∧ tref ≤ 10000100)
    let s := s.setFld (Reg.TB_DOM_STATUS d) Fld.TB_DOM_STATUS_TREF_OK (Bits.b2n good)
    if good then s.domSample d (edge - stamp) (some (Bits.twos 32 (((tref : Int) - 10000000) * 100))) else s
  else s.domSample d (edge - stamp) none

/-- TB_PPS_SEC counts the second that has begun. -/
def ppsCounted (s : State) : State := s.setPair Reg.TB_PPS_SEC_LO (s.pair Reg.TB_PPS_SEC_LO + 1)

section
variable {k : Fin 64} {edge stamp : Int}

/-- Both domains take an edge, A first, and TB_PPS_SEC counts it. -/
theorem exec_ppsInEdge : exec (.ppsInEdge k n) s = .next (ppsCounted
    (ppsEdge (flat (s.pair Reg.TB_PPS_SEC_LO) 0 0) (s.tapStamp k) n
      (ppsEdge (flat (s.pair Reg.TB_PPS_SEC_LO) 0 0) (s.tapStamp k) n s 0) 1)) :=
  rfl

theorem ppsEdge_otherSource (h : s.domSrc d ≠ 3) : ppsEdge edge stamp n s d = s := if_pos (.inl h)

theorem ppsEdge_plain (hsrc : s.domSrc d = 3) (hst : s.domState d ≠ 0)
    (href : s.flag (Reg.TB_DOM_CFG d) Fld.TB_DOM_CFG_TREF = false) :
    ppsEdge edge stamp n s d = s.domSample d (edge - stamp) none := by
  rw [ppsEdge, if_neg (by simp [hsrc, hst]), if_neg (by simp [href])]

theorem ppsEdge_trefGood (hsrc : s.domSrc d = 3) (hst : s.domState d ≠ 0)
    (href : s.flag (Reg.TB_DOM_CFG d) Fld.TB_DOM_CFG_TREF = true) (hn : 9999900 ≤ n ∧ n ≤ 10000100) :
    ppsEdge edge stamp n s d = (s.setFld (Reg.TB_DOM_STATUS d) Fld.TB_DOM_STATUS_TREF_OK 1).domSample d (edge - stamp)
      (some (Bits.twos 32 (((n : Int) - 10000000) * 100))) := by
  rw [ppsEdge, if_neg (by simp [hsrc, hst]), if_pos href, decide_eq_true hn]
  rfl

theorem ppsEdge_trefBad (hsrc : s.domSrc d = 3) (hst : s.domState d ≠ 0)
    (href : s.flag (Reg.TB_DOM_CFG d) Fld.TB_DOM_CFG_TREF = true) (hn : ¬ (9999900 ≤ n ∧ n ≤ 10000100)) :
    ppsEdge edge stamp n s d = s.setFld (Reg.TB_DOM_STATUS d) Fld.TB_DOM_STATUS_TREF_OK 0 := by
  rw [ppsEdge, if_neg (by simp [hsrc, hst]), if_pos href, decide_eq_false hn]
  rfl

/-- An edge that domain A takes as `h` says, and that domain B does not follow. -/
theorem exec_ppsInEdge_first (h : ppsEdge (flat (s.pair Reg.TB_PPS_SEC_LO) 0 0) (s.tapStamp k) n s 0 = u)
    (hB : u.domSrc 1 ≠ 3) : exec (.ppsInEdge k n) s = .next (ppsCounted u) := by
  rw [exec_ppsInEdge, h, ppsEdge_otherSource hB]

end

/-! ### The domains that a message concerns (R334, R335, R424) -/

theorem ptpDoms_of_no_link (h : s.mgtLink = false) : s.ptpDoms n = [] := by
  simp [State.ptpDoms, h]

theorem lt_doms (hi : Inv s) (hd : d < 2) : d < s.doms.length := by
  have htwo := inv_units hi
  omega

/-- `t` meets the invariant, and domain `d` and the clock are in it as in `s`. -/
def DomKept (s t : State) (d : Nat) : Prop := Inv t ∧ t.dom d = s.dom d ∧ t.clk = s.clk

theorem DomKept.trans {t : State} (h : DomKept s u d) (g : DomKept u t d) : DomKept s t d :=
  ⟨g.1, g.2.1.trans h.2.1, g.2.2.trans h.2.2⟩

theorem DomKept.onDom {f : Domain → Domain} (h : DomKept s u d) (he : e ≠ d) : DomKept s (u.onDom e f) d :=
  h.trans ⟨inv_of_keeps h.1 (onDom_keeps .refl trivial), dom_onDom_other (Ne.symm he), onDom_clk⟩

/-- A message is taken by one domain after another: what domain `d` makes of it, the others leave. -/
theorem foldl_ptpDoms {f : State → Nat → State} {R : Domain → Prop} (hi : Inv u) (hd : d ∈ s.ptpDoms n)
    (hinv : ∀ (t : State) e, Inv t → Inv (f t e)) (hother : ∀ (t : State) e, Inv t → e ≠ d → DomKept t (f t e) d)
    (hat : ∀ t, DomKept u t d → d < t.doms.length → R ((f t d).dom d)) : R (((s.ptpDoms n).foldl f u).dom d) := by
  have htwo : d < 2 := List.mem_range.1 (List.mem_filter.1 hd).1
  have hnodup : (s.ptpDoms n).Nodup := List.nodup_range.filter _
  have hkept : DomKept u u d := ⟨hi, rfl, rfl⟩
  generalize s.ptpDoms n = l at hd hnodup
  suffices h : ∀ t, DomKept u t d → R ((l.foldl f t).dom d) from h u hkept
  clear hkept hi
  induction l with
  | nil => cases hd
  | cons x l ih =>
    intro t ht
    obtain ⟨hx, hl⟩ := List.nodup_cons.1 hnodup
    rw [List.foldl_cons]
    by_cases hxd : d = x
    · subst hxd
      have hlen : d < t.doms.length := lt_doms ht.1 htwo
      exact (List.foldlRecOn (motive := fun v => Inv v ∧ R (v.dom d)) l f ⟨hinv t d ht.1, hat t ht hlen⟩
        fun v hv e he => ⟨hinv v e hv.1, by
          rw [(hother v e hv.1 fun h => hx (h ▸ he)).2.1]
          exact hv.2⟩).2
    · exact ih ((List.mem_cons.1 hd).resolve_left hxd) hl _ (ht.trans (hother t x ht.1 (Ne.symm hxd)))

theorem onDom_length {f : Domain → Domain} : (s.onDom d f).doms.length = s.doms.length := by
  unfold State.onDom
  split
  · exact List.length_set
  · rfl

theorem setRegN_dom {r v : Nat} : (s.setRegN r v).dom d = s.dom d := rfl

/-! ### ANNOUNCE (R335) -/

section
variable {a m : Announce} {N : Fin 256}

theorem exec_ptpAnnounce (h : s.ptpDoms N ≠ []) : exec (.ptpAnnounce N a) s =
    .next ((s.ptpDoms N).foldl (fun s d => s.announce a d) (s.setRegN Reg.TB_UTC_OFS (Bits.twos 16 a.utcOfs + 65536))) := by
  change execPtpAnnounce N a s = _
  unfold execPtpAnnounce
  split
  next hnil => exact absurd hnil h
  next => rfl

/-- An Announce changes its domain or nothing. -/
theorem announce_cases : s.announce a d = s ∨ ∃ f, s.announce a d = s.onDom d f := by
  unfold State.announce
  extract_lets take
  split
  · exact .inr ⟨_, rfl⟩
  · exact .inl rfl

theorem announce_regs : (s.announce a d).regs = s.regs := by
  rcases announce_cases (s := s) (a := a) (d := d) with h | ⟨f, h⟩ <;> rw [h]
  exact onDom_regs

theorem announce_domKept (hi : Inv s) (he : e ≠ d) : DomKept s (s.announce a e) d := by
  rcases announce_cases (s := s) (a := a) (d := e) with h | ⟨f, h⟩ <;> rw [h]
  · exact ⟨hi, rfl, rfl⟩
  · exact DomKept.onDom ⟨hi, rfl, rfl⟩ he

/-- A domain without a master takes the first that announces itself. -/
theorem announce_first (hd : d < s.doms.length) (h : (s.dom d).master = none) :
    ((s.announce a d).dom d).master = some a := by
  unfold State.announce
  simp only [h, if_true]
  rw [dom_onDom_same hd]

theorem announce_worse (h : (s.dom d).master = some m) (hsrc : m.source ≠ a.source) (hb : a.better m = false) :
    s.announce a d = s := by
  unfold State.announce
  simp only [h]
  rw [if_neg (by simp [hsrc, hb])]

theorem exec_ptpAnnounce_first (hi : Inv s) (hd : d ∈ s.ptpDoms N) (h : (s.dom d).master = none) :
    Next (.ptpAnnounce N a) s fun t => (t.dom d).master = some a ∧
      t.regN Reg.TB_UTC_OFS = (Bits.twos 16 a.utcOfs + 65536) % 2 ^ 32 := by
  refine ⟨_, exec_ptpAnnounce (List.ne_nil_of_mem hd), ?_, ?_⟩
  · exact foldl_ptpDoms (R := fun x => x.master = some a) (inv_setRegN hi) hd
      (fun t e ht => inv_of_keeps ht (announce_keeps .refl trivial)) (fun t e ht he => announce_domKept ht he)
      fun t ht hlen => announce_first hlen (by rw [ht.2.1, setRegN_dom, h])
  · rw [State.regN, reg_of_regs (foldl_same State.regs fun t e => announce_regs)]
    exact regN_setRegN_same hi

theorem exec_ptpAnnounce_worse (hdoms : s.ptpDoms N = [d]) (h : (s.dom d).master = some m) (hsrc : m.source ≠ a.source)
    (hb : a.better m = false) : Next (.ptpAnnounce N a) s fun t => t.doms = s.doms := by
  have hsame : (s.setRegN Reg.TB_UTC_OFS (Bits.twos 16 a.utcOfs + 65536)).announce a d =
      s.setRegN Reg.TB_UTC_OFS (Bits.twos 16 a.utcOfs + 65536) :=
    announce_worse (by rw [setRegN_dom, h]) hsrc hb
  refine ⟨_, exec_ptpAnnounce (by simp [hdoms]), ?_⟩
  rw [hdoms, List.foldl_cons, List.foldl_nil, hsame]
  exact setRegN_doms

end

/-! ### SYNC and FOLLOW_UP (R335) -/

/-- The latest SYNC that domain `d` used is not too recent for another. -/
abbrev SyncMay (s : State) (d : Nat) : Prop := ((s.dom d).usedAt.all fun t => decide (t + 7812500 ≤ s.clk.ticks)) = true

/-- Domain `d` uses a SYNC now, with a FOLLOW_UP to come or without. -/
def syncUsed (s : State) (d : Nat) (twoStep : Bool) : State :=
  (s.setFld (Reg.TB_DOM_STATUS d) Fld.TB_DOM_STATUS_TWO_STEP (Bits.b2n twoStep)).onDom d fun x =>
    { x with usedAt := some s.clk.ticks }

section
variable {a : Nat} {t1 c t2 : Int} {b : Bool} {N : Fin 256} {k : Fin 64}

theorem ptpSync_used (hmay : SyncMay s d) (hm : s.fromMaster d a = true) : s.ptpSync a q b t1 c t2 d =
    if b then (syncUsed s d b).onDom d fun x => { x with sync := some ⟨a, q, t2, c⟩ }
    else (syncUsed s d b).ptpSample d t1 t2 c := by
  unfold State.ptpSync
  extract_lets soon
  have hsoon : soon = false := by
    unfold soon
    split
    next t ht =>
      rw [SyncMay, ht, Option.all_some, decide_eq_true_eq] at hmay
      exact decide_eq_false (Nat.not_lt.2 hmay)
    next => rfl
  rw [if_neg (by simp [hsoon, hm])]
  rfl

/-- A two-step SYNC concerns the domain that takes it alone. -/
theorem ptpSync_domKept (hi : Inv s) (h : e ≠ d) : DomKept s (s.ptpSync a q true t1 c t2 e) d := by
  have hkept : DomKept s (s.setFld (Reg.TB_DOM_STATUS e) Fld.TB_DOM_STATUS_TWO_STEP 1) d := ⟨inv_setFld hi, rfl, rfl⟩
  unfold State.ptpSync
  extract_lets soon
  split
  · exact ⟨hi, rfl, rfl⟩
  · exact (hkept.onDom h).onDom h

/-- A two-step SYNC that is used waits for its FOLLOW_UP. -/
theorem ptpSync_waits (hd : d < s.doms.length) (hmay : SyncMay s d) (hm : s.fromMaster d a = true) :
    ((s.ptpSync a q true t1 c t2 d).dom d).sync = some ⟨a, q, t2, c⟩ ∧
      ((s.ptpSync a q true t1 c t2 d).dom d).usedAt = some s.clk.ticks := by
  have hlen : d < (syncUsed s d true).doms.length := by
    rw [syncUsed, onDom_length]
    exact hd
  have hused : (syncUsed s d true).dom d = { s.dom d with usedAt := some s.clk.ticks } :=
    dom_onDom_same (s := s.setFld (Reg.TB_DOM_STATUS d) Fld.TB_DOM_STATUS_TWO_STEP 1) hd
  rw [ptpSync_used hmay hm, if_pos rfl, dom_onDom_same hlen, hused]
  exact ⟨rfl, rfl⟩

theorem fromMaster_of_dom (h : u.dom d = s.dom d) : u.fromMaster d a = s.fromMaster d a := by
  rw [State.fromMaster, h]
  rfl

theorem exec_ptpSync_twoStep (hi : Inv s) (hd : d ∈ s.ptpDoms N) (hmay : SyncMay s d) (hm : s.fromMaster d a = true) :
    Next (.ptpSync N a q true t1 c k) s fun t =>
      (t.dom d).sync = some ⟨a, q, s.tapStamp k, c⟩ ∧ (t.dom d).usedAt = some s.clk.ticks := by
  refine ⟨_, rfl, ?_⟩
  refine foldl_ptpDoms (R := fun x => x.sync = some ⟨a, q, s.tapStamp k, c⟩ ∧ x.usedAt = some s.clk.ticks) hi hd
    (fun t e ht => inv_of_keeps ht (ptpSync_keeps .refl (by simp))) (fun t e ht he => ptpSync_domKept ht he)
    fun t ht hlen => ?_
  obtain ⟨-, hdom, hclk⟩ := ht
  rw [← hclk]
  exact ptpSync_waits hlen (by rw [SyncMay, hdom, hclk]; exact hmay) ((fromMaster_of_dom hdom).trans hm)

theorem exec_ptpSync_oneStep (hdoms : s.ptpDoms N = [d]) (hmay : SyncMay s d) (hm : s.fromMaster d a = true) :
    exec (.ptpSync N a q false t1 c k) s = .next ((syncUsed s d false).ptpSample d t1 (s.tapStamp k) c) := by
  change Host.Outcome.next ((s.ptpDoms N).foldl (fun u d => u.ptpSync a q false t1 c (s.tapStamp k) d) s) = _
  rw [hdoms, List.foldl_cons, List.foldl_nil, ptpSync_used hmay hm]
  rfl

theorem exec_ptpFollowUp (hdoms : s.ptpDoms N = [d]) :
    exec (.ptpFollowUp N a q t1 c) s = .next (s.followUp a q t1 c d) := by
  change Host.Outcome.next ((s.ptpDoms N).foldl (fun u d => u.followUp a q t1 c d) s) = _
  rw [hdoms, List.foldl_cons, List.foldl_nil]

theorem followUp_pending {y : PendingSync} (h : (s.dom d).sync = some y) (hsrc : y.source = a) (hq : y.seq = q) :
    s.followUp a q t1 c d = s.ptpSample d t1 y.t2 (y.corr + c) := by
  rw [State.followUp, h]
  exact if_pos ⟨hsrc, hq⟩

theorem followUp_none (h : (s.dom d).sync = none) : s.followUp a q t1 c d = s := by
  rw [State.followUp, h]

end

/-! ### DELAY_REQ and DELAY_RESP (R335) -/

section
variable {a : Nat} {t3 t4 c down : Int} {N : Fin 256} {k : Fin 64}

theorem exec_delayReqSend {d : Fin 2} {m : Announce} (hi : Inv s) (hsrc : s.domSrc d = 1) (hst : s.domState d ≠ 0)
    (hm : (s.dom d).master = some m) (hlink : s.mgtLink = true) :
    Next (.delayReqSend d k) s fun t => (t.dom d).t3 = some (s.tapStamp k : Int) ∧
      (t.dom d).dreqSeq = ((s.dom d).dreqSeq + 1) % 65536 ∧
      t.sent.head? = some (.ptp d (s.delayReq d (((s.dom d).dreqSeq + 1) % 65536))) := by
  have hlen : d.val < s.doms.length := lt_doms hi d.isLt
  refine ⟨_, if_neg (by simp [hsrc, hst, hm, hlink]), ?_⟩
  beta_reduce
  rw [dom_onDom_same (s := s.emit _) hlen, onDom_sent]
  exact ⟨rfl, rfl, rfl⟩

/-- Without the management lane no request goes out (R424). -/
theorem exec_delayReqSend_of_no_link {d : Fin 2} (h : s.mgtLink = false) : exec (.delayReqSend d k) s = .next s :=
  if_pos (by simp [h])

theorem delayResp_domKept (hi : Inv s) (h : e ≠ d) : DomKept s (s.delayResp a q t4 c e) d := by
  unfold State.delayResp
  dsimp only
  split
  · split
    · exact DomKept.onDom ⟨hi, rfl, rfl⟩ h
    · exact ⟨hi, rfl, rfl⟩
  · exact ⟨hi, rfl, rfl⟩

/-- The answer of the master to the latest request gives the mean path delay, once. -/
theorem delayResp_answers (hd : d < s.doms.length) (h3 : (s.dom d).t3 = some t3) (hdown : (s.dom d).down = some down)
    (hq : q = (s.dom d).dreqSeq) (hm : s.fromMaster d a = true) :
    ((s.delayResp a q t4 c d).dom d).mpd = (down + (t4 - t3 - c)).fdiv 2 ∧ ((s.delayResp a q t4 c d).dom d).t3 = none := by
  have hresp : s.delayResp a q t4 c d = s.onDom d fun x => { x with mpd := (down + (t4 - t3 - c)).fdiv 2, t3 := none } := by
    unfold State.delayResp
    simp only [h3, hdown]
    exact if_pos ⟨hq, hm⟩
  rw [hresp, dom_onDom_same hd]
  exact ⟨rfl, rfl⟩

theorem exec_ptpDelayResp (hi : Inv s) (hd : d ∈ s.ptpDoms N) (h3 : (s.dom d).t3 = some t3)
    (hdown : (s.dom d).down = some down) (hm : s.fromMaster d a = true) :
    Next (.ptpDelayResp N a (s.dom d).dreqSeq true t4 c) s fun t =>
      (t.dom d).mpd = (down + (t4 - t3 - c)).fdiv 2 ∧ (t.dom d).t3 = none := by
  refine ⟨_, rfl, ?_⟩
  refine foldl_ptpDoms (R := fun x => x.mpd = (down + (t4 - t3 - c)).fdiv 2 ∧ x.t3 = none) hi hd
    (fun t e ht => inv_of_keeps ht (delayResp_keeps .refl trivial)) (fun t e ht he => delayResp_domKept ht he)
    fun t ht hlen => ?_
  obtain ⟨-, hdom, -⟩ := ht
  exact delayResp_answers hlen (by rw [hdom, h3]) (by rw [hdom, hdown]) (by rw [hdom]) ((fromMaster_of_dom hdom).trans hm)

end

/-- Settles O34: each message is taken by its domains one after another, and each leaves the other as it was. -/
theorem domainsAndPtp : Obligations.DomainsAndPtp := by
  unfold Obligations.DomainsAndPtp
  refine ⟨fun d s hdue hst => by rw [exec_domainSampleTimeout hdue, if_pos hst],
    fun d s hdue hst => by rw [exec_domainSampleTimeout hdue, if_neg hst],
    fun p w s _ hsrc => exec_tbPpsSecWrite hsrc,
    fun k n s hsrc => exec_ppsInEdge_first (ppsEdge_otherSource (hsrc 0 (by decide))) (hsrc 1 (by decide)),
    fun k n s u hsrc hst href hu hB => exec_ppsInEdge_first ((ppsEdge_plain hsrc hst href).trans hu.symm) hB,
    fun k n s u hsrc hst href hlow hhigh hu hB =>
      exec_ppsInEdge_first ((ppsEdge_trefGood hsrc hst href ⟨hlow, hhigh⟩).trans hu.symm) hB,
    fun k n s u hsrc hst href hn hu hB =>
      exec_ppsInEdge_first ((ppsEdge_trefBad hsrc hst href (by omega)).trans hu.symm) hB,
    fun N a s d hi hd h => exec_ptpAnnounce_first hi hd h,
    fun N a m s d hdoms h hsrc hb => exec_ptpAnnounce_worse hdoms h hsrc hb,
    fun N a q t1 c k s d hi hd hmay hm => exec_ptpSync_twoStep hi hd hmay hm,
    fun N a q t1 c k s d hdoms hmay hm => exec_ptpSync_oneStep hdoms hmay hm,
    fun N a q t1 c s d y hdoms h hsrc hq => by rw [exec_ptpFollowUp hdoms, followUp_pending h hsrc hq],
    fun N a q t1 c s d hdoms h => by rw [exec_ptpFollowUp hdoms, followUp_none h],
    fun d k s m hi hsrc hst hm hlink => exec_delayReqSend hi hsrc hst hm hlink,
    fun N a t4 c t3 w s d hi hd h3 hdown hm => exec_ptpDelayResp hi hd h3 hdown hm,
    fun N a q t4 c s => rfl,
    fun N a q m t1 c k d s h => ⟨?_, exec_delayReqSend_of_no_link h⟩⟩
  change Host.Outcome.next ((s.ptpDoms N).foldl (fun u d => u.ptpSync a q m t1 c (s.tapStamp k) d) s) = _
  rw [ptpDoms_of_no_link h, List.foldl_nil]

end Sys2Proof.Proofs
end

section
/-! Scope: timed actions (spec/10_wellspring_timebase.md, R347 to R354; R631, R678): how a slot of the host is armed,
disarmed and dispatched, how an action ends its slot, the pulse of the PPS output, and the last word of a management key. -/

namespace Sys2Proof.Proofs

open Sys2Proof.Bits Sys2Proof.Machine Sys2Proof.Safety Sys2Proof.Laws

variable {s t u : State} {p : Path} {n st : Nat} {d : TaDue} {ok : Bool}

/-! ### The state of a slot (R367) -/

theorem slotSt_of_reg (h : t.reg (Reg.TA_SLOT_STATE n) = s.reg (Reg.TA_SLOT_STATE n)) : t.slotSt n = s.slotSt n :=
  congrArg Fld.TA_SLOT_STATE_ST.get h

theorem slotSt_of_regs (h : t.regs = s.regs) : t.slotSt n = s.slotSt n := slotSt_of_reg (reg_of_regs h _)

theorem slotSt_setSlot (h : st < 8) : (s.setSlot n st).slotSt n = st :=
  (fld_setFld_self (by decide)).trans (Nat.mod_eq_of_lt h)

theorem slotSt_dispatch : (s.dispatch n).slotSt n = 2 := slotSt_setSlot (by decide)

theorem dispatch_due : (s.dispatch n).due = s.due ++ [⟨n, s.slotTime n, false⟩] := setSlot_due

theorem slotTime_of_regs (h : t.regs = s.regs) : t.slotTime n = s.slotTime n := by
  simp only [State.slotTime, State.pair, State.regN, State.fld, reg_of_regs h]

/-! ### Arming a slot of the host (R347, R350) -/

/-- The state of a slot is none of the registers that give its time. -/
theorem slotTime_setState {f : Field} {v : Nat} : (s.setFld (Reg.TA_SLOT_STATE n) f v).slotTime n = s.slotTime n := by
  have hreg : ∀ {a}, a < Reg.TA_SLOT_STATE n → (s.setFld (Reg.TA_SLOT_STATE n) f v).reg a = s.reg a :=
    fun h => getD_put_other (Nat.ne_of_lt h)
  have hsec : (s.setFld (Reg.TA_SLOT_STATE n) f v).pair (Reg.TA_SLOT_SEC_LO n) = s.pair (Reg.TA_SLOT_SEC_LO n) := by
    rw [State.pair, State.regN, State.regN, hreg, hreg]
    · rfl
    all_goals
      simp only [Reg.TA_SLOT_STATE, Reg.TA_SLOT_SEC_LO]
      omega
  rw [State.slotTime, State.regN, State.fld, hsec, hreg, hreg]
  · rfl
  all_goals
    simp only [Reg.TA_SLOT_STATE, Reg.TA_SLOT_NS, Reg.TA_SLOT_CTL]
    omega

theorem setFld_now16 {a v : Nat} {f : Field} : (s.setFld a f v).now16 = s.now16 := rfl

theorem armsLate_iff : armsLate s n ↔ s.slotTime n < s.now16 + leadOf (s.slotCode n) := by
  rw [armsLate, slotTime_setState, setFld_now16]

theorem lateDue_eq : lateDue s n = ⟨n, divUp (s.now16 + leadOf (s.slotCode n)) 1024 * 1024, true⟩ := by
  rw [lateDue, setFld_now16]

theorem armSlot_of_inTime (h : ¬ armsLate s n) : s.armSlot n =
    (s.setFld (Reg.TA_SLOT_STATE n) Fld.TA_SLOT_STATE_LATE_US 0).setSlot n 1 :=
  if_neg h

theorem slotSt_armSlot_inTime (h : ¬ armsLate s n) : (s.armSlot n).slotSt n = 1 := by
  rw [armSlot_of_inTime h, slotSt_setSlot (by decide)]

/-- Slot `n`, armed late, is due. -/
def lateArmed (s : State) (n : Nat) : State :=
  let t := s.setFld (Reg.TA_SLOT_STATE n) Fld.TA_SLOT_STATE_LATE_US 0
  { t with due := t.due ++ [lateDue s n] }

theorem armSlot_of_late (h : armsLate s n) : ∃ shown, s.armSlot n =
    ((((lateArmed s n).setSlot n 2).count Reg.TA_LATE 1).setRegN Reg.TA_LAST_LATE shown).raise .corrected Reg.TA_EVENT
      Fld.TA_EVENT_LATE 0 unitTa := by
  exact ⟨_, if_pos h⟩

/-- Of the registers that show an action late, none is a slot's state. -/
theorem slotSt_armSlot_late (hi : Inv s) (hn : n < 256) (h : armsLate s n) : (s.armSlot n).slotSt n = 2 := by
  have hreg : ∀ {a}, a < 0x28000 → Reg.TA_SLOT_STATE n ≠ a := by
    simp only [Reg.TA_SLOT_STATE]
    omega
  have hout : OutsideErr (Reg.TA_SLOT_STATE n) := by
    simp only [OutsideErr, Reg.TA_SLOT_STATE]
    omega
  have hinv : Inv ((lateArmed s n).setSlot n 2) :=
    inv_of_keeps hi (setSlot_keeps (keeps_due (setFld_keeps .refl trivial) trivial) trivial)
  have hshown : (s.armSlot n).reg (Reg.TA_SLOT_STATE n) = ((lateArmed s n).setSlot n 2).reg (Reg.TA_SLOT_STATE n) := by
    obtain ⟨shown, hshown⟩ := armSlot_of_late h
    rw [hshown, reg_raise (inv_setRegN (inv_count hinv)) hout (hreg (by decide)),
      reg_setRegN_other (inv_count hinv) (hreg (by decide)), State.count, reg_setRegN_other hinv (hreg (by decide))]
  rw [slotSt_of_reg hshown, slotSt_setSlot (by decide)]

/-- Publishing an armed action sends, in the fabric's own data (R394). -/
theorem publishTimed_slots : (s.publishTimed p n).regs = s.regs ∧ (s.publishTimed p n).due = s.due :=
  have hkeeps : Keeps (fun x => x = .sent ∨ x = .fab) s (s.publishTimed p n) := publishTimed_keeps .refl (by simp)
  ⟨hkeeps.same .regs (by simp), hkeeps.same .due (by simp)⟩

section
variable {n : Fin 256}

theorem exec_taArm (hn : n.val < 128) (h : s.armFails n = false) :
    exec (.taArm p n) s = .next ((s.armSlot n).publishTimed p n) := by
  change execTaArm p n s = _
  rw [execTaArm, if_neg (by omega), if_neg (by simp [h])]

theorem exec_taArm_fails (hn : n.val < 128) (h : s.armFails n = true) : exec (.taArm p n) s =
    .next ((s.event Reg.TA_EVENT Fld.TA_EVENT_FAILED).accFlag p Reg.TA_CTRL .refused) := by
  change execTaArm p n s = _
  rw [execTaArm, if_neg (by omega), if_pos h]

theorem exec_taArm_inTime (hn : n.val < 128) (h : s.armFails n = false)
    (ht : s.now16 + leadOf (s.slotCode n) ≤ s.slotTime n) :
    Next (.taArm p n) s fun t => t.slotSt n = 1 ∧ t.due = s.due := by
  have hin : ¬ armsLate s n := mt armsLate_iff.1 (Nat.not_lt.2 ht)
  refine ⟨_, exec_taArm hn h, ?_⟩
  obtain ⟨hregs, hdue⟩ := publishTimed_slots (s := s.armSlot n) (p := p) (n := n)
  exact ⟨(slotSt_of_regs hregs).trans (slotSt_armSlot_inTime hin), hdue.trans (armSlot_inTime hin)⟩

theorem exec_taArm_late (hi : Inv s) (hn : n.val < 128) (h : s.armFails n = false)
    (ht : s.slotTime n < s.now16 + leadOf (s.slotCode n)) : Next (.taArm p n) s fun t => t.slotSt n = 2 ∧
      t.due = s.due ++ [⟨n, divUp (s.now16 + leadOf (s.slotCode n)) 1024 * 1024, true⟩] := by
  have hlate : armsLate s n := armsLate_iff.2 ht
  refine ⟨_, exec_taArm hn h, ?_⟩
  obtain ⟨hregs, hdue⟩ := publishTimed_slots (s := s.armSlot n) (p := p) (n := n)
  exact ⟨(slotSt_of_regs hregs).trans (slotSt_armSlot_late hi n.isLt hlate), by rw [hdue, armSlot_late hlate, lateDue_eq]⟩

/-- The slots from 128 on are the firmware's (R347). -/
theorem exec_slot_owner (hn : 128 ≤ n.val) : exec (.taArm p n) s = .next (s.accFlag p Reg.TA_CTRL .owner) ∧
    exec (.taDisarm p n) s = .next (s.accFlag p Reg.TA_CTRL .owner) :=
  ⟨if_pos hn, if_pos hn⟩

/-! ### Disarming (R352) -/

theorem exec_taDisarm_armed (hn : n.val < 128) (h : s.slotSt n = 1) : exec (.taDisarm p n) s =
    if s.clk.pllLocked ∧ s.slotTime n ≤ s.now16 + leadOf (s.slotCode n) then
      .next ((s.dispatch n).event Reg.TA_EVENT Fld.TA_EVENT_DISARM_FAIL)
    else .next (s.setSlot n 0) := by
  change execTaDisarm p n s = _
  simp only [execTaDisarm, if_neg (Nat.not_le.2 hn), h]

theorem exec_taDisarm_dispatched (hn : n.val < 128) (h : s.slotSt n = 2) : exec (.taDisarm p n) s =
    .next (s.event Reg.TA_EVENT Fld.TA_EVENT_DISARM_FAIL) := by
  change execTaDisarm p n s = _
  simp only [execTaDisarm, if_neg (Nat.not_le.2 hn), h]

theorem exec_taDisarm_frees (hn : n.val < 128) (h : s.slotSt n = 1)
    (ht : s.clk.pllLocked = false ∨ s.now16 + leadOf (s.slotCode n) < s.slotTime n) :
    Next (.taDisarm p n) s fun t => t.slotSt n = 0 ∧ t.due = s.due := by
  refine ⟨_, (exec_taDisarm_armed hn h).trans (if_neg ?_), slotSt_setSlot (by decide), setSlot_due⟩
  rintro ⟨hlock, hnow⟩
  rcases ht with ht | ht
  · exact Bool.false_ne_true (ht.symm.trans hlock)
  · omega

end

/-! ### Dispatch (R349, R351) -/

theorem exec_taDispatch (hlock : s.clk.pllLocked = true) (h : s.nextSlot = some n) :
    Next .taDispatch s fun t => t.slotSt n = 2 ∧ t.due = s.due ++ [⟨n, s.slotTime n, false⟩] := by
  have hrun : exec .taDispatch s = .next ((s.runTo (s.slotTime n - leadOf (s.slotCode n))).dispatch n) := by
    change execTaDispatch s = _
    rw [execTaDispatch, if_neg (by simp [hlock]), h]
  refine ⟨_, hrun, slotSt_dispatch, ?_⟩
  rw [dispatch_due, runTo_due, slotTime_of_regs runTo_regs]

theorem exec_taDispatch_idle (h : s.nextSlot = none ∨ s.clk.pllLocked = false) : exec .taDispatch s = .next s := by
  change execTaDispatch s = _
  unfold execTaDispatch
  rcases h with h | h
  · rw [h]
    exact ite_self _
  · exact if_pos (by simp [h])

/-! ### Actions that are due (R348 to R351) -/

/-- An action that acts now ends its slot as its effect reports; POWER is another matter. -/
theorem actOn_reports {c : Nat} (g : ActsNow s c d) (hc : c ≠ 5)
    (h : State.actEffect c s (s.regN (Reg.TA_SLOT_ARG0 d.slot)) (s.regN (Reg.TA_SLOT_ARG1 d.slot)) = (ok, u)) :
    s.actOn c = u.endAction d ok := by
  rw [actOn_due g hc, h]

theorem actOn_none {c : Nat} (h : s.dueAction c = none) : s.actOn c = s := by
  rw [State.actOn, h]

theorem endAction_slots (hl : d.late = false) (hw : s.fab.waits = []) : (s.endAction d true).slotSt d.slot = 3 ∧
    (s.endAction d false).slotSt d.slot = 5 ∧ (s.endAction d true).due = s.due.erase d := by
  have hreg : Reg.TA_SLOT_STATE d.slot ≠ Reg.TA_EVENT := by
    simp only [Reg.TA_SLOT_STATE, Reg.TA_EVENT]
    omega
  refine ⟨?_, ?_, ?_⟩
  · rw [endAction_done hw hl]
    exact slotSt_setSlot (by decide)
  · rw [endAction_failed hw]
    exact (fld_setFld_ne hreg).trans ((fld_setFld_apart (by decide) (by decide)).trans (slotSt_setSlot (by decide)))
  · rw [endAction_done hw hl, setSlot_due, dropDue_due]

/-! ### The PPS output (R354) -/

theorem exec_ppsOutPulse (hen : s.flag Reg.TB_CFG Fld.TB_CFG_PPS_OUT_EN = true) (htq : s.tq ≠ 0)
    (hlock : s.clk.pllLocked = true) : Next .ppsOutPulse s fun t =>
      t.sent = .pinPulse 255 ((s.nowNs / 1000000000 + 1) * 1000000000 * 65536) 100000000 :: s.sent ∧ t.regs = s.regs := by
  have hpulse : exec .ppsOutPulse s = .next ((s.runTo ((s.nowNs / 1000000000 + 1) * 1000000000 * 65536)).emit
      (.pinPulse 255 ((s.nowNs / 1000000000 + 1) * 1000000000 * 65536) 100000000)) :=
    if_neg (by simp [hen, htq, hlock])
  refine ⟨_, hpulse, ?_, ?_⟩
  · rw [State.emit, runTo_sent]
  · rw [emit_regs, runTo_regs]

/-! ### Management keys (R678) -/

section
variable {a : Option (Fin 2)} {k : Fin 2} {w : Word}

theorem exec_mgtKeyCommit (h : keyAllowed p (a.map Fin.val) k = true) : Next (.mgtKeyCommit p a k w) s fun t =>
    t.mgt.keyStage = Kv.set s.mgt.keyStage (8 * k + 7) w ∧ t.mgt.keys = Kv.set s.mgt.keys k
      ((List.range 8).flatMap fun j => (toLE 4 (Kv.getD t.mgt.keyStage (8 * k + j) 0#32).toNat).reverse) :=
  ⟨_, congrArg Host.Outcome.next (if_neg (by simp [h])), rfl, rfl⟩

theorem exec_mgtKeyCommit_refused (h : keyAllowed p (a.map Fin.val) k = false) :
    Next (.mgtKeyCommit p a k w) s fun t => t.mgt.keys = s.mgt.keys :=
  ⟨_, congrArg Host.Outcome.next (if_pos (by simp [h])), rfl⟩

end

/-- Settles O35: what arms, disarms and dispatches a slot writes its state last but for registers that are no slot's. -/
theorem slotsAndActions : Obligations.SlotsAndActions := by
  unfold Obligations.SlotsAndActions
  exact ⟨fun p n s _ hn h ht => exec_taArm_inTime hn h ht, fun p n s hi hn h ht => exec_taArm_late hi hn h ht,
    fun p n s hn => exec_slot_owner hn, fun p n s hn h => exec_taArm_fails hn h,
    fun p n s _ hn h ht => exec_taDisarm_frees hn h ht,
    fun p n s hn h hlock ht => (exec_taDisarm_armed hn h).trans (if_pos ⟨hlock, ht⟩),
    fun p n s hn h => exec_taDisarm_dispatched hn h,
    fun n s _ hlock h => exec_taDispatch hlock h, fun s h => exec_taDispatch_idle h,
    fun s u d ok g h => congrArg Host.Outcome.next (actOn_reports g (by decide) h),
    fun s u d ok g h => congrArg Host.Outcome.next (actOn_reports g (by decide) h),
    fun s u d ok g h => congrArg Host.Outcome.next (actOn_reports g (by decide) h),
    fun s u d ok g h => congrArg Host.Outcome.next (actOn_reports g (by decide) h),
    fun s h => congrArg Host.Outcome.next (actOn_none h),
    fun s d _ hl hw => endAction_slots hl hw,
    fun s hen htq hlock => exec_ppsOutPulse hen htq hlock,
    fun p a k w s h => exec_mgtKeyCommit h, fun p a k w s h => exec_mgtKeyCommit_refused h⟩

end Sys2Proof.Proofs
end

section
/-! Scope: supply and reset (spec/18_startup_configuration.md, R583, R584, R591, R592; spec/10_wellspring_timebase.md, R346;
R608, R652, R701, R704): what puts the module in internal reset or takes its rails, and what does not. -/

namespace Sys2Proof.Proofs

open Sys2Proof.Machine Sys2Proof.Safety Sys2Proof.Laws

variable {s t u : State} {ph : Phase} {ns : Nat} {w : Word}

theorem powered_of_phase (h : s.boot.phase ≠ .unpowered) : s.powered = true := bne_iff_ne.2 h

theorem not_powered_of_phase (h : s.boot.phase = .unpowered) : s.powered = false := by
  simp [State.powered, h]

/-- A reset leaves of the state before it no more than the OTP key hash and the level of ESTOP_N. -/
theorem WasReset.of_kept (h : WasReset u ph t) (hotp : u.boot.otp = s.boot.otp) (hestop : u.gy.estop = s.gy.estop) :
    WasReset s ph t := by
  obtain ⟨hphase, hlocked, hmem, hlayers, hswaths, hlog, ho, he⟩ := h
  exact ⟨hphase, hlocked, hmem, hlayers, hswaths, hlog, ho.trans hotp, he.trans hestop⟩

/-! ### The supply (R583, R652, R701) -/

theorem exec_vinGood (h : s.boot.phase = .unpowered) : Next .vinGood s (WasReset s .reset) :=
  ⟨_, congrArg Host.Outcome.next (if_neg (by simp [not_powered_of_phase h])), wasReset_wholeReset⟩

theorem exec_vinGood_powered (h : s.boot.phase ≠ .unpowered) : exec .vinGood s = .next s :=
  congrArg Host.Outcome.next (if_pos (powered_of_phase h))

/-- What the input monitor loses below 3.0 V it holds in registers. -/
theorem exec_vinLoss {dead : Bool} : Next (.vinLoss dead) s (WasReset s .unpowered) := by
  refine ⟨_, rfl, WasReset.regs wasReset_wholeReset ?_⟩
  exact keeps_ite (keeps_foldl .refl fun t a k => setRegN_keeps k rfl) .refl

theorem exec_railFault {vm : Fin 56} (h : s.boot.phase ≠ .unpowered) : Next (.railFault vm) s (WasReset s .reset) := by
  have hstore : ∀ {r : ErrRec}, Keeps (· = .regs) s (s.fatalStore r) := fatalStore_keeps .refl rfl
  refine ⟨_, if_neg (by simp [powered_of_phase h]), WasReset.of_kept wasReset_wholeReset ?_ ?_⟩
  · exact congrArg Boot.otp (hstore.same .boot (by decide))
  · exact hstore.same .estop (by decide)

theorem exec_railFault_unpowered {vm : Fin 56} (h : s.boot.phase = .unpowered) : exec (.railFault vm) s = .next s :=
  if_pos (by simp [not_powered_of_phase h])

/-! ### RESET_N (R584, R608, R704) -/

/-- RESET_N has an effect on a module that has its rails, or is in OFF. -/
theorem exec_resetN_live (hns : 100 ≤ ns) (h : s.boot.phase ≠ .unpowered ∨ s.fld Reg.PWR_STATUS Fld.PWR_STATUS_CUR = 4) :
    exec (.resetN ns) s = .next (if ns < 1000 then if s.free.1 % 2 = 0 then s.free.2 else s.free.2.wholeReset .reset
      else s.wholeReset .reset) := by
  have hlive : ¬ (ns < 100 ∨ (¬ s.powered ∧ s.fld Reg.PWR_STATUS Fld.PWR_STATUS_CUR ≠ 4)) := by
    rintro (hshort | ⟨hpow, hoff⟩)
    · omega
    · exact h.elim (fun hph => hpow (powered_of_phase hph)) hoff
  change execResetN ns s = _
  rw [execResetN, if_neg hlive]
  split <;> rfl

theorem exec_resetN_long (hns : 1000 ≤ ns) (h : s.boot.phase ≠ .unpowered ∨ s.fld Reg.PWR_STATUS Fld.PWR_STATUS_CUR = 4) :
    Next (.resetN ns) s (WasReset s .reset) := by
  refine ⟨_, exec_resetN_live (by omega) h, ?_⟩
  rw [if_neg (by omega)]
  exact wasReset_wholeReset

theorem exec_resetN_between (hns : 100 ≤ ns) (hns' : ns < 1000) (h : s.boot.phase ≠ .unpowered) :
    Next (.resetN ns) s fun t => WasReset s .reset t ∨ t = s.free.2 := by
  refine ⟨_, exec_resetN_live hns (.inl h), ?_⟩
  rw [if_pos hns']
  split
  · exact .inr rfl
  · exact .inl (WasReset.of_kept wasReset_wholeReset rfl rfl)

/-! ### CFG_CTRL.RESTART (R592) -/

theorem exec_cfgRestart (hr : Fld.CFG_CTRL_RESTART.get w = 1) (hc : Fld.CFG_CTRL_CODE.get w = 0x5A) :
    Next (.cfgRestart w) s (WasReset s .reset) :=
  ⟨_, congrArg Host.Outcome.next (if_pos ⟨hr, hc⟩), wasReset_wholeReset⟩

theorem exec_cfgRestart_ignored (h : ¬ (Fld.CFG_CTRL_RESTART.get w = 1 ∧ Fld.CFG_CTRL_CODE.get w = 0x5A)) :
    exec (.cfgRestart w) s = .next s :=
  congrArg Host.Outcome.next (if_neg h)

/-- Settles O22: each command takes the branch of its premises, and every branch that acts resets the whole module. -/
theorem resetsOfTheModule : Obligations.ResetsOfTheModule := by
  unfold Obligations.ResetsOfTheModule
  exact ⟨fun s h => exec_vinGood h, fun dead s => exec_vinLoss, fun s => ⟨_, rfl, wasReset_wholeReset⟩,
    fun ns s hns h => exec_resetN_long hns (.inl h), fun ns s hns => if_pos (.inl hns),
    fun vm s h => exec_railFault h, fun w s hr hc => exec_cfgRestart hr hc,
    fun w s hc => exec_cfgRestart_ignored fun h => hc h.2, fun s h => exec_vinGood_powered h,
    fun ns s hns h => exec_resetN_long hns (.inr h), fun ns s hns hns' h => exec_resetN_between hns hns' h,
    fun ns s h hoff => if_pos (.inr ⟨by simp [not_powered_of_phase h], hoff⟩),
    fun vm s h => exec_railFault_unpowered h,
    fun w s hr => exec_cfgRestart_ignored fun h => by omega⟩

end Sys2Proof.Proofs
end

section
/-! Scope: what every step holds (spec/95_what_each_step_holds.md): the parts of the state a command may change, the
invariant, the counter of free values and the OTP key hash. -/

namespace Sys2Proof.Proofs

open Sys2Proof.Machine Sys2Proof.Safety Sys2Proof.Laws

variable {s t : State}

theorem mem_allParts {p : Safety.Part} : p ∈ allParts := by
  cases p <;> decide

/-- Each command by the law of its meaning, whose parts are those that `parts` lists for it. -/
theorem exec_keeps (c : Instr) (s : State) : KeepsOut (· ∈ parts c) s (exec c s) := by
  cases c <;> dsimp only [exec, parts] <;>
    simp +decide +contextual (maxDischargeDepth := 60) [Keeps.refl, mem_allParts, -List.mem_cons]

theorem keeps_mono {F G : Safety.Part → Prop} (h : Keeps F s t) (hFG : ∀ p, F p → G p) : Keeps G s t :=
  ⟨fun p hp => h.same p fun hF => hp (hFG p hF), h.inv, h.free, h.otp⟩

theorem keeps_withPending {q : List Instr} : Keeps (· = .pending) s (s.withPending q) where
  same p hp := by
    cases p
    case pending => exact absurd rfl hp
    all_goals rfl
  inv := id
  free := Nat.le_refl _
  otp _ _ h := h

/-- One step can do what a tick or one command can. -/
theorem step_keeps : KeepsOut (fun _ => True) s (step s) := by
  intro t ht
  unfold step at ht
  split at ht
  next => cases ht; exact elapse_keeps .refl trivial
  next c q hq =>
    have hpend : Keeps (fun _ => True) s (s.withPending q) := keeps_mono keeps_withPending fun _ _ => trivial
    exact hpend.trans (keeps_mono (exec_keeps c _ t ht) fun _ _ => trivial)

theorem inv_reset : Inv State.reset := ⟨rfl, rfl, rfl, unitsOk_reset, rfl⟩

/-- Settles O3: the stores are empty and the banks have their units. -/
theorem resetMeetsInvariant : Obligations.ResetMeetsInvariant := inv_reset

/-- Settles O4: the laws of the commands' meanings keep the invariant. -/
theorem stepKeepsInvariant : Obligations.StepKeepsInvariant := by
  unfold Obligations.StepKeepsInvariant
  exact fun s t hi h => (step_keeps t h).inv hi

/-- Settles O5: the laws of the commands' meanings keep a hash that stands. -/
theorem otpHashStays : Obligations.OtpHashStays := by
  unfold Obligations.OtpHashStays
  exact fun s t k hi hk h => (step_keeps t h).otp hi k hk

/-- Settles O6: a part that `parts` does not list stays by the law of the command's meaning. -/
theorem commandsTouchTheirParts : Obligations.CommandsTouchTheirParts := by
  unfold Obligations.CommandsTouchTheirParts
  exact fun c s t p h hp => (exec_keeps c s t h).same p hp

/-- Settles O7: no law of a command's meaning takes the counter back. -/
theorem freeValuesOnce : Obligations.FreeValuesOnce := by
  unfold Obligations.FreeValuesOnce
  exact fun c s t h => (exec_keeps c s t h).free

/-- Settles O1: a queue that is not empty is the second branch of a step. -/
theorem stepRunsFront : Obligations.StepRunsFront := by
  unfold Obligations.StepRunsFront
  intro c q s h
  rw [step, h]

end Sys2Proof.Proofs
end

section
/-! Scope: the one stop of the model (spec/15_dram_memory_integrity.md, R497, R500, R654): an access of the module's own
above the exposed 56 GiB, where no grant of R653 has turned it away before. -/

namespace Sys2Proof.Proofs

open Sys2Proof.Machine Sys2Proof.Safety

variable {s : State}

/-- A command with outcome `o` completes. -/
def Answers (o : Host.Outcome State Fault Refusal) : Prop := ∃ t, o = .next t

theorem answers_next {t : State} : Answers (.next t) := ⟨t, rfl⟩

theorem answers_ite {c : Prop} [Decidable c] {o q : Host.Outcome State Fault Refusal} (h : Answers o) (g : Answers q) :
    Answers (if c then o else q) := by
  split <;> assumption

/-! ### The accesses to DRAM (R497, R500, R654) -/

variable {r : Fin 11} {m : Option (Fin 24)} {x : Fin 24} {u a n : Nat} {k : List (Nat × Nat)} {l : List Nat}
  {d : List Byte}

theorem execDramRead_above (h : dramEnd < a + n) : execDramRead r u a n k l s = .fault .noSuchAddress :=
  if_pos h

theorem execDramRead_within (h : a + n ≤ dramEnd) :
    execDramRead r u a n k l s = .next (((s.upset k).shutRows l).serveAll.serveReq ⟨r, u, a, List.replicate n 0⟩) :=
  if_neg (by omega)

/-- A write that no grant turns away. -/
theorem execDramWrite_granted (h : ∀ x : Fin 24, m = some x → inSpan (s.grantsOf x) a d.length = true) :
    execDramWrite r m a d l s = if dramEnd < a + d.length then .fault .noSuchAddress
      else .next ((s.shutRows l).serveAll.serveReq ⟨r + 16, 0, a, d⟩) := by
  cases m with
  | none => rfl
  | some x => simp [execDramWrite, h x rfl]

/-- A write outside the grants of its master. -/
theorem execDramWrite_ungranted (h : inSpan (s.grantsOf x) a d.length = false) :
    execDramWrite r (some x) a d l s = .next (if Bits.bit (s.regN Reg.ACC_FROZEN_INT) x
      then s.violation x (masterReq x) a else (s.violation x (masterReq x) a).freezeMaster x) := by
  simp [execDramWrite, h]

theorem execDramWrite_above (hd : dramEnd < a + d.length)
    (h : ∀ x : Fin 24, m = some x → inSpan (s.grantsOf x) a d.length = true) :
    execDramWrite r m a d l s = .fault .noSuchAddress := by
  rw [execDramWrite_granted h, if_pos hd]

theorem execDramWrite_within (hd : a + d.length ≤ dramEnd)
    (h : ∀ x : Fin 24, m = some x → inSpan (s.grantsOf x) a d.length = true) :
    execDramWrite r m a d l s = .next ((s.shutRows l).serveAll.serveReq ⟨r + 16, 0, a, d⟩) := by
  rw [execDramWrite_granted h, if_neg (by omega)]

/-- A write that a grant turns away, and one within the exposed DRAM, complete. -/
theorem answers_dramWrite
    (h : a + d.length ≤ dramEnd ∨ ∃ x : Fin 24, m = some x ∧ inSpan (s.grantsOf x) a d.length = false) :
    Answers (execDramWrite r m a d l s) := by
  by_cases hg : ∀ x : Fin 24, m = some x → inSpan (s.grantsOf x) a d.length = true
  · rcases h with hd | ⟨x, hm, hx⟩
    · exact ⟨_, execDramWrite_within hd hg⟩
    · exact absurd (hg x hm) (by simp [hx])
  · push Not at hg
    obtain ⟨x, rfl, hx⟩ := hg
    exact ⟨_, execDramWrite_ungranted (by simpa using hx)⟩

/-- Settles O9: the test of the address comes after that of the grants. -/
theorem absentDramFaults : Obligations.AbsentDramFaults := by
  unfold Obligations.AbsentDramFaults
  exact ⟨fun r u a n k l s h => execDramRead_above h, fun r m a d l s hd h => execDramWrite_above hd h⟩

/-! ### All other commands -/

theorem answers_recordVerifyDone : Answers (execRecordVerifyDone s) := by
  unfold execRecordVerifyDone
  split
  · exact answers_next
  next b l _ =>
    refine answers_ite answers_next ?_
    generalize s.recFetch 7 b.ofs 40 = f
    obtain ⟨badH, h, u⟩ := f
    refine answers_ite answers_next ?_
    generalize u.recFetch 7 (b.ofs + 40) _ = g
    obtain ⟨bad, all, v⟩ := g
    dsimp only
    generalize State.snoop _ _ = w
    split <;> exact answers_ite answers_next answers_next

/-- Settles O8: what a command other than the two accesses answers is a next state in each branch of its meaning. The
meanings named are those that branch before they answer. -/
theorem onlyAbsentDramStops : Obligations.OnlyAbsentDramStops := by
  unfold Obligations.OnlyAbsentDramStops
  intro c s hr hw
  change Answers (exec c s)
  cases c <;> dsimp only [exec] <;> try exact answers_next
  case dramRead => exact ⟨_, execDramRead_within (hr _ _ _ _ _ _ rfl)⟩
  case dramWrite => exact answers_dramWrite (hw _ _ _ _ _ rfl)
  case recordVerifyDone => exact answers_recordVerifyDone
  all_goals
    delta execAvsSettled execAvsChangeAbandon execEstop execEstopRelease execHeadResumeSend execHeadsWaitEnd
      execLpSpaceFreed execZlsResume execTileRowExpand execTileRowExpandDone execPoolStallEnd execTileRowLate
      execExpUnitLeave execSurveyStart execSurveyDone execCellCacheFill execTileDispatch execParkedTileQuantise
      execRasterDone execCheckerWaitTimeout execRingSpaceFree execCommitAck execFireDeadline execVerEngOut
      execVerEngReturn execEngOutApply execEngSelftestDone execEngShadowReturn execBeamCmd execEditOpen
      execEditCommit execEditCancel execEditValidationDone execSwathCapture execLineLoad execFeedbackTick
      execStrobePulse execGovernorPeriod execSwathReady execSwathEndBoundary execSwathStall execHeadTempStale
      execTmarkPeriod execHeadTmarkUp execFireFrameSend execSbReqTimeout execHeadStatusTimeout execHoAckTimeout
      execEnumRetry execPortTimeTimeout execTimeLockLoss execLwidthEcho execHpPortRestart execWaveCommit
      execWaveValidationDone execTbPllLock execTbIncrWrite execTbStepCmd execTbAdjCommit execPtpAnnounce
      execDelayReqSend execTaArm execTaDisarm execTaDispatch execPpsOutPulse execAonRatioLearn execHelloSet
      execHelloSend execLinkKeepalive execLackSet execCreditSet execFabLwidth execLinkResendTimeout
      execLinkSilenceTimeout execTopoEntryExpire execSettleTimeout execLoneRootTimeout execRouteHoldTimeout
      execFtmarkReceive execBarArriveResend execBarTimeout execRetryLaterResend execFlowTimeout
      execLaneEnergyDetect execLaneEnergyLoss execTsSetReceive execTrainStepTimeout execTrainDwellDone
      execLaneErrorLimit execCdrLockLoss execLaneRetryTimer execStandbyProofDone execLaneRetrain execLaneOut
      execPwrHandshakeTimeout execLdExitLock execLdExitTimeout execWakePatternDetect execStrapChange
      execAxisStart execAxisHome execAxisEnable execAxisDisable execAxisClear execMotionParamWrite
      execServoSample execBandChangeApply execIndexEvent execWireFault execCommonModeMeasure
      execFeedbackFaultClear execConverterSwap execCmpArm execInjStart execDramTrainingDone execMergeFlush
      execScrubStep execInitRegionDone execPageRetire execPageCopyDone execBankRetireRequest
      execBankRetireCancel execDataFrame execDescWrFrame execDoorbell execChStart execChRestart execChAbort
      execStatusReq execDmaBusError execCrcUnitEnable execCrcUnitDisable execLayerEndWrite execResetN
      execRailFault execInternalResetRelease execImageSectionRead execConfigLock execCfgLock execUpdProgram
      execUpdProgramDone execUpdCheck execUpdHandover execUpdAbortHandover execHandoverRoleMove execOtpProgram
      execOtpProgramDone execPwrRequest execPwrStepDone execVcorePoll execVcoreTimeout execIdleAfterTimeout
      execWakeDramRetrained execHmSample execTcalUpdate execCalRun execSensorCalTimer execCalMeasureDone
      execFiringDelayStep execErrRecordProcess execErrAck execErrAckUpto execErrCoreOut execErrCoreReturn
      execCoreSelftestDone execCoreSpareReturn execSpareSelftestTimer execAccUnfreeze execMgtRequest execSpiRead
      execSpiWrite execSpiStatus execFrameCrcError execErroredCharacter
  all_goals
    repeat' first
      | with_reducible exact answers_next
      | with_reducible refine answers_ite ?_ ?_
      | split
      | (dsimp only; split)

end Sys2Proof.Proofs
end

section
/-! Scope: barriers at the participant (spec/11_prenu_fabric.md, R388, R389): a release that comes a second time.

A release that has been armed arms nothing again. But after a root change the pending arrival waits to be sent to the new
root, and the release, which the new root has sent, says that the root needs it no more. -/

namespace Sys2Proof.Proofs

open Sys2Proof.Machine Sys2Proof.Safety Sys2Proof.Laws

variable {s : State} {f : FabFrame}

/-- The arrival for barrier `k` is not to be sent again (R389). -/
def arrivalHad (k : Nat) (g : Fabric) : Fabric :=
  { g with pend := g.pend.map fun d => if d.id = k then { d with again := false } else d }

theorem takeRelease_armed (h : f.arg ∈ s.fab.armed) : s.takeRelease f = s.onFab (arrivalHad f.arg) :=
  if_pos (List.contains_iff_mem.2 h)

theorem exec_barReleaseFrame_own {fr : List Byte} (h : FabFrameIn s 4 fr 0x13 f) :
    exec (.barReleaseFrame 4 fr) s = .next (s.takeRelease f) :=
  congrArg Host.Outcome.next ((fabRx_taken h).trans (if_pos (.inl rfl)))

/-- The module, which is the root since, has armed barrier 3, and its arrival is to go out again. -/
def armedOnce : State :=
  State.reset.onFab fun g => { g with armed := [3], pend := some ⟨3, 1, 0, [], some 0, true⟩ }

/-- A release of barrier 3, for every node. -/
def releaseAgain : List Byte :=
  let body : List Byte := [0x13, 0, 0xFF, 0xFF, 0, 0, 0, 0, 0, 0, 8, 0, 3, 0, 0, 0]
  body ++ Bits.toLE 4 (Crc.crc32c body)

theorem fabFrameIn_releaseAgain : FabFrameIn armedOnce 4 releaseAgain 0x13 (fabParse releaseAgain) := by
  decide

/-- Refutes O31 in its eighth clause: a release of a barrier that is armed comes in while the arrival is to go out again. It
arms nothing, but the arrival is not to go out again after it. The clause lacks the premise that no arrival of the barrier
waits for that. -/
theorem not_barriersServe : ¬ Obligations.BarriersServe := by
  unfold Obligations.BarriersServe
  rintro ⟨-, -, -, -, -, -, -, harmed, -⟩
  have hnext := harmed 4 releaseAgain armedOnce armedOnce _ fabFrameIn_releaseAgain rfl (by decide)
  rw [exec_barReleaseFrame_own fabFrameIn_releaseAgain, takeRelease_armed (by decide)] at hnext
  have hagain := congrArg (·.fab.pend.map (·.again)) (Host.Outcome.next.inj hnext)
  exact absurd hagain (by decide)

end Sys2Proof.Proofs
end

section
/-! Scope: HELLO and TOPO (spec/11_prenu_fabric.md, R371, R374, R376, R378, R386): the run of HELLO sets of a fabric port, what
a TOPO frame and its own refresh do to the database, and the entries that expire. -/

namespace Sys2Proof.Proofs

open Sys2Proof.Machine Sys2Proof.Safety Sys2Proof.Laws

variable {s u v : State} {p k n a : Nat} {e : TopoEntry} {f : FabFrame} {fr : List Byte} {num st comp : Byte}

/-! ### Registers of the fabric ports while the database changes (R378, R380, R398) -/

/-- Register `a` belongs to a fabric port (R400). -/
abbrev OfFport (a : Nat) : Prop := Reg.FAB_PORT_STATUS 0 ≤ a

theorem ne_of_ofFport {b : Nat} (h : OfFport a) (hb : b < Reg.FAB_PORT_STATUS 0) : a ≠ b := by
  unfold OfFport at h
  omega

theorem regs_retryHeld : s.retryHeld.regs = s.regs :=
  (retryHeld_keeps (F := (· ≠ .regs)) .refl (by decide)).same .regs (· rfl)

theorem regs_floodAssign : s.floodAssign.regs = s.regs :=
  (floodAssign_keeps (F := (· ≠ .regs)) .refl (by decide)).same .regs (· rfl)

theorem regs_pumpAll : (s.pumpAll p).regs = s.regs :=
  (pumpAll_keeps (F := (· ≠ .regs)) .refl (by decide)).same .regs (· rfl)

theorem regs_fabNear {ty : Nat} {pay : List Byte} : (s.fabNear p ty pay).regs = s.regs :=
  (fabNear_keeps (F := (· ≠ .regs)) .refl (by decide)).same .regs (· rfl)

/-- A change of the database is counted and flagged, and may have the fabric settle anew: registers of no port. -/
theorem reg_dbChanged (hi : Inv s) (h : OfFport a) : s.dbChanged.reg a = s.reg a := by
  unfold State.dbChanged
  extract_lets noted settling cleared
  have hnoted : Inv noted := inv_event (inv_count hi)
  calc (if cleared.isRoot = true then cleared.floodAssign else cleared).reg a
      = cleared.reg a := by split <;> simp only [State.reg, regs_floodAssign]
    _ = settling.reg a := by simp only [cleared, State.reg, regs_retryHeld, onFab_regs]
    _ = noted.reg a := by
        unfold settling
        split
        · exact reg_setFld_other hnoted (ne_of_ofFport h (by decide))
        · rfl
    _ = s.reg a := by
        rw [reg_event_other (inv_count hi) (ne_of_ofFport h (by decide))]
        exact reg_setReg_other hi (ne_of_ofFport h (by decide))

theorem reg_storeTopo (hi : Inv s) (h : OfFport a) : (s.storeTopo e).reg a = s.reg a := by
  unfold State.storeTopo
  dsimp only
  split
  · rfl
  · exact reg_dbChanged (s := s.onFab _) hi h

theorem reg_sendTopo (hi : Inv s) (h : OfFport a) : s.sendTopo.reg a = s.reg a := by
  unfold State.sendTopo
  split
  · rfl
  · dsimp only
    refine (foldl_same (·.reg a) fun t q => ?_).trans (reg_storeTopo (s := s.onFab _) hi h)
    split
    · simp only [State.reg, regs_fabNear]
    · rfl

/-! ### HELLO (R371, R374) -/

theorem inv_fport (h : Inv s) (p : Fin 4) : p.val < s.fab.ports.length := by
  obtain ⟨-, -, -, -, -, -, -, -, -, -, hports, -⟩ := inv_units h
  omega

/-- Before the sixteenth HELLO set in a row no port goes UP. -/
theorem helloCheck_short (h : (s.fport p).helloRun < 16) : s.helloCheck p = s :=
  if_neg fun hc => absurd hc.2.1 (Nat.not_le.2 h)

theorem helloCheck_up (hst : s.fpState p = 2) (hrun : 16 ≤ (s.fport p).helloRun) (hseen : (s.fport p).topoSeen = true) :
    s.helloCheck p = (s.setFport p 3).pumpAll p :=
  if_pos ⟨hst, hrun, hseen⟩

/-- A port that goes UP is UP, and its other registers stay. -/
theorem fpState_setFport_pumpAll (hi : Inv s) : ((s.setFport p 3).pumpAll p).fpState p = 3 := by
  have hport : OfFport (Reg.FAB_PORT_STATUS p) := Nat.add_le_add_left (Nat.zero_le _) _
  calc ((s.setFport p 3).pumpAll p).fpState p
      = (s.setFport p 3).fpState p := by simp only [State.fpState, State.fld, State.reg, regs_pumpAll]
    _ = (s.setFld (Reg.FAB_PORT_STATUS p) Fld.FAB_PORT_STATUS_STATE 3).fpState p := by
        rw [State.setFport, State.fpState, State.fld, reg_sendTopo (inv_setFld hi) hport]
        rfl
    _ = 3 := fld_setFld_same hi (by decide)

theorem reg_neigh_setFport_pumpAll (hi : Inv s) :
    ((s.setFport p 3).pumpAll p).reg (Reg.FAB_PORT_NEIGH p) = s.reg (Reg.FAB_PORT_NEIGH p) := by
  have hport : OfFport (Reg.FAB_PORT_NEIGH p) := by
    unfold OfFport Reg.FAB_PORT_STATUS Reg.FAB_PORT_NEIGH
    omega
  calc ((s.setFport p 3).pumpAll p).reg (Reg.FAB_PORT_NEIGH p)
      = (s.setFport p 3).reg (Reg.FAB_PORT_NEIGH p) := by simp only [State.reg, regs_pumpAll]
    _ = (s.setFld (Reg.FAB_PORT_STATUS p) Fld.FAB_PORT_STATUS_STATE 3).reg (Reg.FAB_PORT_NEIGH p) :=
        reg_sendTopo (inv_setFld hi) hport
    _ = s.reg (Reg.FAB_PORT_NEIGH p) := reg_setFld_other hi (by unfold Reg.FAB_PORT_NEIGH Reg.FAB_PORT_STATUS; omega)

/-- A good HELLO set of the neighbour's port `num` is counted. -/
def helloCounted (s : State) (p num : Nat) : State :=
  (s.onFport p fun x => { x with helloRun := min (x.helloRun + 1) 16, neighPort := num }).setFld (Reg.FAB_PORT_NEIGH p)
    Fld.FAB_PORT_NEIGH_PORT num

theorem inv_helloCounted {p : Nat} (hi : Inv s) : Inv (helloCounted s p n) :=
  inv_of_keeps hi (setFld_keeps (onFport_keeps .refl trivial) trivial)

theorem fport_setFld {x : Field} : (s.setFld a x n).fport p = s.fport p := rfl

theorem fport_helloCounted (h : p < s.fab.ports.length) : (helloCounted s p n).fport p =
    { s.fport p with helloRun := min ((s.fport p).helloRun + 1) 16, neighPort := n } := by
  rw [helloCounted, fport_setFld, fport_onFport_same h]

theorem fld_neigh_helloCounted (hi : Inv s) (h : n ≤ 3) :
    (helloCounted s p n).fld (Reg.FAB_PORT_NEIGH p) Fld.FAB_PORT_NEIGH_PORT = n := by
  have hon : Inv (s.onFport p fun x => { x with helloRun := min (x.helloRun + 1) 16, neighPort := n }) :=
    inv_of_keeps hi (onFport_keeps .refl trivial)
  rw [helloCounted, fld_setFld_same hon (by decide)]
  exact Nat.mod_eq_of_lt (by change n < 4; omega)

theorem fpState_helloCounted (hi : Inv s) : (helloCounted s p n).fpState p = s.fpState p := by
  have hon : Inv (s.onFport p fun x => { x with helloRun := min (x.helloRun + 1) 16, neighPort := n }) :=
    inv_of_keeps hi (onFport_keeps .refl trivial)
  rw [helloCounted, State.fpState, fld_setFld_other hon (by unfold Reg.FAB_PORT_NEIGH Reg.FAB_PORT_STATUS; omega)]
  simp only [State.fpState, State.fld, State.reg, onFport_regs]

theorem exec_helloSet_good {p : Fin 4} (hst : 2 ≤ s.fpState p) (hnum : num.toNat ≤ 3) (hs : st.toNat ≤ 3)
    (hc : num.toNat + comp.toNat = 255) :
    exec (.helloSet p num st comp) s = .next ((helloCounted s p num.toNat).helloCheck p) :=
  (if_neg (by omega)).trans (if_neg (by omega))

theorem exec_helloSet_bad {p : Fin 4} (hst : 2 ≤ s.fpState p) (hc : num.toNat + comp.toNat ≠ 255) :
    exec (.helloSet p num st comp) s = .next (s.onFport p fun x => { x with helloRun := 0 }) :=
  (if_neg (by omega)).trans (if_pos (.inl hc))

theorem exec_helloSet_counts {p : Fin 4} (hi : Inv s) (hst : 2 ≤ s.fpState p) (hnum : num.toNat ≤ 3) (hs : st.toNat ≤ 3)
    (hc : num.toNat + comp.toNat = 255) (hrun : (s.fport p).helloRun < 15) :
    Next (.helloSet p num st comp) s fun t => (t.fport p).helloRun = (s.fport p).helloRun + 1 ∧
      t.fld (Reg.FAB_PORT_NEIGH p) Fld.FAB_PORT_NEIGH_PORT = num.toNat := by
  have hport : ((helloCounted s p num.toNat).fport p).helloRun = (s.fport p).helloRun + 1 := by
    rw [fport_helloCounted (inv_fport hi p)]
    exact min_eq_left (by omega)
  refine ⟨_, exec_helloSet_good hst hnum hs hc, ?_⟩
  rw [helloCheck_short (by omega)]
  exact ⟨hport, fld_neigh_helloCounted hi hnum⟩

theorem exec_helloSet_up {p : Fin 4} (hi : Inv s) (hst : s.fpState p = 2) (hnum : num.toNat ≤ 3) (hs : st.toNat ≤ 3)
    (hc : num.toNat + comp.toNat = 255) (hrun : 15 ≤ (s.fport p).helloRun) (hseen : (s.fport p).topoSeen = true) :
    Next (.helloSet p num st comp) s fun t => t.fpState p = 3 ∧
      t.fld (Reg.FAB_PORT_NEIGH p) Fld.FAB_PORT_NEIGH_PORT = num.toNat := by
  have hport := fport_helloCounted (n := num.toNat) (inv_fport hi p)
  refine ⟨_, exec_helloSet_good hst.ge hnum hs hc, ?_⟩
  rw [helloCheck_up ((fpState_helloCounted hi).trans hst) (by rw [hport]; exact le_min (by omega) (le_refl _))
    (by rw [hport]; exact hseen)]
  refine ⟨fpState_setFport_pumpAll (inv_helloCounted hi), ?_⟩
  rw [State.fld, reg_neigh_setFport_pumpAll (inv_helloCounted hi)]
  exact fld_neigh_helloCounted hi hnum

/-! ### TOPO (R376, R378) -/

theorem exec_topoFrame {q : Fin 5} (h : FabFrameIn s q fr 0x10 f) :
    exec (.topoFrame q fr) s = .next (fabOut s q f (State.takeTopo q.val (fabIn s q) f)) :=
  congrArg Host.Outcome.next (fabRx_taken h)

/-- From a port whose neighbour's TOPO has come, TOPO is judged by its version alone. -/
theorem takeTopo_seen (hseen : p < 4 → (s.fport p).topoSeen = true) :
    State.takeTopo p s f = if f.pay.length ≠ 64 ∨ s.fabState = 0 then s
      else if (topoParse f.pay).serial = s.serial ∨ (s.fab.db.any fun x => x.serial == (topoParse f.pay).serial &&
        decide ((topoParse f.pay).version ≤ x.version)) = true then s
      else (List.range 4).foldl (fun t q => if q ≠ p ∧ t.fpState q = 3 then t.fabNear q 0x10 f.pay else t)
        (s.storeTopo (topoParse f.pay)) := by
  have hfirst : ¬ (p < 4 ∧ (s.fport p).topoSeen = false) := fun ⟨hp, hn⟩ => by simp [hseen hp] at hn
  simp only [State.takeTopo, if_neg hfirst]

/-! ### Entries that expire (R378, R386) -/

theorem exec_topoEntryExpire_unnamed (hk : k ≠ s.serial) (hdb : (s.fab.db.any fun e => e.serial == k) = true)
    (hid : s.idOf k = none) :
    exec (.topoEntryExpire k) s = .next (s.onFab fun g => { g with db := g.db.filter fun e => e.serial != k }).dbChanged := by
  change execTopoEntryExpire k s = _
  have hgone : (s.onFab fun g => { g with db := g.db.filter fun e => e.serial != k }).idOf k = none := hid
  simp only [execTopoEntryExpire, hk, hdb, hgone, not_true_eq_false, or_self, if_false]

theorem isRoot_replayTrim {g : Fabric → Fabric} : (s.onFab g).replayTrim.isRoot = s.isRoot := rfl

theorem exec_topoEntryExpire_member (hk : k ≠ s.serial) (hdb : (s.fab.db.any fun e => e.serial == k) = true)
    (hid : s.idOf k = some n) (hroot : s.isRoot = false) :
    exec (.topoEntryExpire k) s = .next (((s.onFab fun g => { g with
      db := g.db.filter (fun e => e.serial != k), acks := g.acks.filter fun a => a.1 != n }).replayTrim).dbChanged) := by
  change execTopoEntryExpire k s = _
  have hgone : (s.onFab fun g => { g with db := g.db.filter fun e => e.serial != k }).idOf k = some n := hid
  have hnot : ∀ g : Fabric → Fabric, ¬ ((s.onFab g).replayTrim.isRoot = true ∧
      (s.onFab g).replayTrim.fab.members.contains n = true) := fun g ⟨hr, _⟩ => by
    rw [isRoot_replayTrim, hroot] at hr
    exact absurd hr (by decide)
  simp only [execTopoEntryExpire, hk, hdb, hgone, not_true_eq_false, or_self, if_false]
  exact congrArg (fun t : State => Host.Outcome.next t.dbChanged) (if_neg (hnot _))

/-- Settles O38: each set, frame and timer takes the branch of its premises, and no port's registers are written while the
database changes. -/
theorem helloAndTopology : Obligations.HelloAndTopology := by
  unfold Obligations.HelloAndTopology
  refine ⟨fun p a b c s hi hst ha hb hc hrun => exec_helloSet_counts hi hst ha hb hc hrun,
    fun p a b c s hi hst ha hb hc hrun hseen => exec_helloSet_up hi hst ha hb hc hrun hseen,
    fun p a b c s hi hst hc => ⟨_, exec_helloSet_bad hst hc, by rw [fport_onFport_same (inv_fport hi p)], onFport_regs⟩,
    fun p s hst => if_neg (by omega), fun p s hst => if_pos hst,
    fun p fr s u f e v hin hu hlen hst he hseen hser hold hv => ?_, fun p fr s u f e hin hu he hseen hold => ?_,
    fun s hst => congrArg Host.Outcome.next (if_pos hst),
    fun s e hst he => he ▸ congrArg Host.Outcome.next (if_neg hst),
    fun k s hk hdb hid => exec_topoEntryExpire_unnamed hk hdb hid, fun k s hk => if_pos (.inl hk),
    fun k n s hk hdb hid hroot => exec_topoEntryExpire_member hk hdb hid hroot⟩
  · subst hu he hv
    rw [exec_topoFrame hin, takeTopo_seen hseen, if_neg (by simp [hlen, hst]), if_neg (by simp [hser, hold])]
  · subst hu he
    rw [exec_topoFrame hin, takeTopo_seen hseen, if_pos hold, ite_self]

end Sys2Proof.Proofs
end

section
/-! Scope: node IDs (spec/11_prenu_fabric.md, R378 to R380): a table that comes again once the database has settled.

A module that has settled waits for the table of the root it elects. Parts of that table may have come before, from a root
that settled sooner: a copy that comes again is then judged, though it is not passed on (log entry 66). -/

namespace Sys2Proof.Proofs

open Sys2Proof.Machine Sys2Proof.Safety Sys2Proof.Laws

variable {s : State} {f : FabFrame}

/-- In SETTLE a part seen before may still make its table whole (R379, R380). -/
theorem takeAssign_seen_settled {p : Nat} (hst : s.fabState = 2) (hseen : assignParse f.pay ∈ s.fab.parts) :
    State.takeAssign p s f =
      let a := assignParse f.pay
      let t := (s.fab.parts.filter fun x => x.root == a.root && x.epoch == a.epoch).flatMap (·.ids)
      if a.total ≤ t.length then s.takeTable a.root a.epoch t else s := by
  simp [State.takeAssign, hst, hseen]

theorem exec_assignFrame_own {fr : List Byte} (h : FabFrameIn s 4 fr 0x11 f) :
    exec (.assignFrame 4 fr) s = .next (State.takeAssign 4 s f) :=
  congrArg Host.Outcome.next ((fabRx_taken h).trans (if_pos (.inl rfl)))

/-- The table of root 0 and EPOCH 0, with no entries. -/
def emptyTable : List Byte :=
  let body : List Byte := [0x11, 0, 0xFF, 0xFF, 0, 0, 20, 0, 0, 0, 8, 0, 0, 0, 0, 0] ++ List.replicate 20 0
  body ++ Bits.toLE 4 (Crc.crc32c body)

/-- The database has settled, and the table that root 0 has sent before names no module. -/
def settledWithTable : State :=
  (State.reset.setFld Reg.FAB_STATUS Fld.FAB_STATUS_STATE 2).onFab fun g => { g with parts := [⟨0, 0, 0, []⟩] }

theorem fabFrameIn_emptyTable : FabFrameIn settledWithTable 4 emptyTable 0x11 (fabParse emptyTable) := by
  decide

/-- Refutes O39 in its eighth clause: the whole table of the root elected comes again in SETTLE. It names no ID for this
module, which is ISOLATED by it (R379). The clause lacks the premise that the fabric is not in SETTLE. -/
theorem not_rootsAndNodeIds : ¬ Obligations.RootsAndNodeIds := by
  unfold Obligations.RootsAndNodeIds
  rintro ⟨-, -, -, -, -, -, -, hseen, -⟩
  have hnext := hseen 4 emptyTable settledWithTable settledWithTable _ fabFrameIn_emptyTable rfl (.inr (by decide))
  rw [exec_assignFrame_own fabFrameIn_emptyTable, takeAssign_seen_settled (by decide) (by decide)] at hnext
  have hstate := congrArg State.fabState (Host.Outcome.next.inj hnext)
  exact absurd hstate (by decide)

end Sys2Proof.Proofs
end

section
/-! Scope: fabric time (spec/11_prenu_fabric.md, R379, R391): a mark that reaches an ISOLATED module.

An ISOLATED module carries no traffic of others and takes no part in the exchange of marks (R379); its port may be UP,
with a neighbour that the topology has as its child. -/

namespace Sys2Proof.Proofs

open Sys2Proof.Machine Sys2Proof.Safety Sys2Proof.Laws

/-- A mark that comes to an ISOLATED module has no effect (R379). -/
theorem exec_ftmarkReceive_isolated {s : State} (h : s.fabState = 4) (p : Fin 4) (m : Byte) (a b : Fin 64) (k : Fin 10001) :
    exec (.ftmarkReceive p m a k b) s = .next s :=
  if_pos (.inr h)

/-- An ISOLATED root with serial number 1, whose port 0 is UP toward module 77, its child. -/
def isolatedRoot : State :=
  let s := (State.reset.setRegN Reg.GLB_SERIAL_LO 1).setRegN Reg.FAB_ROOT_SERIAL_LO 1
  let s := s.setFld (Reg.FAB_PORT_STATUS 0) Fld.FAB_PORT_STATUS_STATE 3
  let s := (s.setFld Reg.FAB_STATUS Fld.FAB_STATUS_STATE 4).setFld Reg.FAB_STATUS Fld.FAB_STATUS_ROOT 1
  (s.onFab fun g => { g with
    db := [⟨1, 1, 0xFFFF, 1, [(77, 0, 3), (0, 0, 0), (0, 0, 0), (0, 0, 0)]⟩,
      ⟨77, 1, 0xFFFF, 1, [(1, 0, 3), (0, 0, 0), (0, 0, 0), (0, 0, 0)]⟩] }).onFport 0 fun x => { x with neigh := 77 }

theorem isolatedRoot_fabState : isolatedRoot.fabState = 4 := by decide +kernel

/-- Refutes O40 in its second clause: a mark from a child at an ISOLATED module, which keeps no stamp of it (R379). The
clause lacks the premise that the module is not ISOLATED. -/
theorem not_fabricTimeAndMulticast : ¬ Obligations.FabricTimeAndMulticast := by
  unfold Obligations.FabricTimeAndMulticast
  rintro ⟨-, hchild, -⟩
  obtain ⟨t, ht, ht4, -⟩ := hchild 0 0 0 0 0 isolatedRoot (by decide +kernel) (by decide +kernel) (by decide +kernel)
    (by decide +kernel)
  rw [exec_ftmarkReceive_isolated isolatedRoot_fabState] at ht
  cases Host.Outcome.next.inj ht
  exact absurd ht4 (by decide +kernel)

end Sys2Proof.Proofs
end

section
/-! Scope: WRITE and READ of fabric peers (spec/11_prenu_fabric.md, R383 to R385, R395, R396): the answers of `takeWrite` and
`takeRead` to a request of whole words, and of `takeResponse` to what another module answers. -/

namespace Sys2Proof.Proofs

open Sys2Proof.Machine Sys2Proof.Bits Sys2Proof.Safety Sys2Proof.Laws

variable {s u v : State} {f : FabFrame} {a n : Nat} {bs : List Byte} {w : Flow}

/-- The outcome of a frame that is taken, from what taking it does. -/
theorem next_fabRx {p ty : Nat} {fr : List Byte} {k : State → FabFrame → State} (h : FabFrameIn s p fr ty f)
    (hk : k (fabIn s p) f = v) :
    (.next (s.fabRx p fr ty k) : Host.Outcome State Fault Refusal) = .next (fabOut s p f v) := by
  rw [fabRx_taken h, hk]

/-- `f` asks to write the whole words `bs` at `a` (R395). -/
structure WritesWords (f : FabFrame) (a : Nat) (bs : List Byte) : Prop where
  addr : a = rd f.pay 0 8
  data : bs = f.pay.drop 8
  some : 8 ≤ bs.length
  whole : bs.length % 8 = 0
  aligned : a % 8 = 0

/-- The request passes the form that R395 asks for, and its grant decides. -/
theorem takeWrite_words (h : WritesWords f a bs) : u.takeWrite f =
    if ¬ u.granted f.src a bs.length false true then u.fabViolation f.src 3 a true
    else if ¬ u.inited (a + bs.length - 1) then
      if bit f.flags 2 then u.fabReply f 0x33 [1, 0, 0, 0] else u.fabNak f 1
    else if bit f.flags 2 then (u.dramWrite 9 a bs).fabReply f 0x33 [0, 0, 0, 0] else u.dramWrite 9 a bs := by
  obtain ⟨rfl, rfl, hsome, hwhole, haligned⟩ := h
  exact if_neg (by omega)

/-- `f` asks to read `n` bytes at `a` in whole words (R395, R506). -/
structure ReadsWords (f : FabFrame) (a n : Nat) : Prop where
  long : f.pay.length = 16
  addr : a = rd f.pay 0 8
  size : n = rd f.pay 8 4
  some : 0 < n
  whole : n % 8 = 0
  short : n ≤ 2040
  aligned : a % 8 = 0

theorem takeRead_words (h : ReadsWords f a n) : u.takeRead f =
    if ¬ u.granted f.src a n false false then u.fabViolation f.src 3 a false
    else if ¬ u.inited (a + n - 1) then u.fabReply f 0x32 [1, 0, 0, 0, 0, 0, 0, 0]
    else
      let r := u.fetch 9 a n
      r.2.2.fabReply f 0x32 (toLE 8 (if r.1 then 2 else 0) ++ if r.1 then List.replicate n 0 else r.2.1) := by
  obtain ⟨hlong, rfl, rfl, hsome, hwhole, hshort, haligned⟩ := h
  exact if_neg (by omega)

/-- `f` answers the request of flow `w` (R383). -/
abbrev answers (f : FabFrame) (w : Flow) : Bool := w.id == f.flow && w.frame.arg == f.arg && w.frame.dst == f.src

/-- The state without the flows that `f` answers. -/
def closeFlows (u : State) (f : FabFrame) : State :=
  u.onFab fun g => { g with ports := g.ports.map fun x => { x with flows := x.flows.filter fun w => !answers f w } }

theorem takeResponse_none (h : (u.fab.ports.flatMap (·.flows)).find? (answers f) = none) : u.takeResponse f = u := by
  unfold State.takeResponse
  simp only [h]

theorem takeResponse_later (h : (u.fab.ports.flatMap (·.flows)).find? (answers f) = some w) (hl : rd f.pay 0 1 = 1) :
    u.takeResponse f = u.onFab fun g => { g with later := g.later ++ [w.frame] } := by
  unfold State.takeResponse
  simp only [h, hl, if_true]

/-- A WACK that does not say RETRY_LATER closes its flow (R384). -/
theorem takeResponse_wack (h : (u.fab.ports.flatMap (·.flows)).find? (answers f) = some w) (hl : rd f.pay 0 1 ≠ 1)
    (hty : f.ty = 0x33) : u.takeResponse f = (closeFlows u f).askAgain := by
  unfold State.takeResponse closeFlows
  simp only [h, hl, hty, if_false, Nat.reduceEqDiff]

/-- Settles O44: each clause takes one branch of the request's or the response's own function. -/
theorem fabricPeersServed : Obligations.FabricPeersServed := by
  unfold Obligations.FabricPeersServed
  refine ⟨?_, ?_, ?_, ?_, ?_, ?_, ?_, ?_, ?_⟩
  case refine_1 =>
    rintro p fr s u f h rfl hsome hwhole haligned hgrant hinit hack
    refine next_fabRx h ?_
    simp [takeWrite_words ⟨rfl, rfl, hsome, hwhole, haligned⟩, -List.length_drop, hgrant, hinit, hack]
  case refine_2 =>
    rintro p fr s u f h rfl hsome hwhole haligned hgrant
    refine next_fabRx h ?_
    simp [takeWrite_words ⟨rfl, rfl, hsome, hwhole, haligned⟩, -List.length_drop, hgrant]
  case refine_3 =>
    rintro p fr s u f a bs h rfl ha hbs hsome hwhole haligned hgrant hinit
    refine next_fabRx h ?_
    simp [takeWrite_words ⟨ha, hbs, hsome, hwhole, haligned⟩, hgrant, hinit]
  case refine_4 =>
    rintro p fr s u f a n h rfl hlong ha hn hsome hwhole hshort haligned
    have hwords := takeRead_words (u := fabIn s p) ⟨hlong, ha, hn, hsome, hwhole, hshort, haligned⟩
    constructor
    · intro hgrant
      refine next_fabRx h ?_
      simp [hwords, hgrant]
    · intro hgrant hinit
      refine next_fabRx h ?_
      simp [hwords, hgrant, hinit]
  case refine_5 =>
    rintro p fr s u f a n bs v h rfl hlong ha hn hsome hwhole hshort haligned hgrant hinit hfetch
    refine next_fabRx h ?_
    simp [takeRead_words ⟨hlong, ha, hn, hsome, hwhole, hshort, haligned⟩, hgrant, hinit, hfetch]
  case refine_6 =>
    rintro p fr s u f h rfl hlong
    exact next_fabRx h (if_pos (.inl hlong))
  case refine_7 =>
    rintro p fr s u f w h rfl hflow hlater
    obtain ⟨-, -, hty, -⟩ := id h
    exact next_fabRx h (takeResponse_wack hflow hlater hty)
  case refine_8 =>
    rintro p fr s u f w h rfl hflow hlater
    exact next_fabRx h (takeResponse_later hflow hlater)
  case refine_9 =>
    rintro p fr s u f h rfl hflow
    exact next_fabRx h (takeResponse_none hflow)

end Sys2Proof.Proofs
end

section
/-! Scope: the tunnel, the management port and the SPI target (spec/19_errors_management.md, R384, R585, R669, R673 to
R676). -/

namespace Sys2Proof.Proofs

open Sys2Proof.Machine Sys2Proof.Bits Sys2Proof.Safety Sys2Proof.Laws

variable {s u v : State} {f : FabFrame} {b eth : List Byte}

/-! ### The tunnel (R675) -/

/-- Request `x` of the tunnel is the one that `f` asks (R675). -/
abbrev asks (f : FabFrame) (x : Nat × Nat × List Byte) : Bool := x.1 == f.src && x.2.1 == f.arg

theorem takeTunReq_again {x : Nat × Nat × List Byte} (h : u.mgt.tunnel.find? (asks f) = some x) :
    u.takeTunReq f = u.fabReply f 0x41 x.2.2 := by
  unfold State.takeTunReq
  simp only [h]

theorem takeTunReq_off (h : u.mgt.tunnel.find? (asks f) = none) (hen : u.flag Reg.MGT_CFG Fld.MGT_CFG_TUN_EN = false) :
    u.takeTunReq f = u.tunReply f (u.mgtReply f.pay 5 0 []) := by
  unfold State.takeTunReq
  simp [h, hen]

theorem takeTunReq_served (h : u.mgt.tunnel.find? (asks f) = none) (hen : u.flag Reg.MGT_CFG Fld.MGT_CFG_TUN_EN = true)
    (hr : u.mgtServe (f.src + 1) (.tunnel f.src) f.pay = (some b, v)) : u.takeTunReq f = v.tunReply f b := by
  unfold State.takeTunReq
  simp [h, hen, hr]

/-- A tunnelled response that some flow waits for closes it (R384). -/
theorem takeTunRsp_open (h : (u.fab.ports.flatMap (·.flows)).any (answers f) = true) :
    u.takeTunRsp f = (closeFlows u f).askAgain :=
  if_pos h

/-! ### The management port (R669, R674) -/

/-- The state in which a response goes out if there is one and the port has a lane for it. -/
def answered (u : State) : Option (List Byte) → State
  | some b => if u.mgtReady then u.emit (.mgt b) else u
  | none => u

/-- A request that the port takes is handled at once (log entry 53), and its response goes out where a lane is left. -/
theorem exec_mgtRequest_served {o : Option (List Byte)} (hready : s.mgtReady = true) (htaken : s.ethTaken eth = true)
    (hptp : ethType eth ≠ 0x88F7) (hroom : s.mgtInHand.length < 9)
    (hr : s.mgtJoin.mgtServe 0 .mgmt (eth.drop 14) = (o, u)) :
    exec (.mgtRequest eth) s = .next (answered u o) := by
  change execMgtRequest eth s = _
  unfold execMgtRequest
  rw [if_neg (not_not.2 hready), if_neg (not_not.2 htaken), if_neg hptp, if_neg (by omega), hr]
  cases o <;> rfl

theorem exec_mgtRequest_dropped (hready : s.mgtReady = true) (htaken : s.ethTaken eth = true)
    (hptp : ethType eth ≠ 0x88F7) (hfull : 9 ≤ s.mgtInHand.length) :
    exec (.mgtRequest eth) s = .next ((s.count Reg.MGT_DROPS 1).event Reg.MGT_EVENT Fld.MGT_EVENT_DROP) := by
  change execMgtRequest eth s = _
  unfold execMgtRequest
  rw [if_neg (not_not.2 hready), if_neg (not_not.2 htaken), if_neg hptp, if_pos hfull]

theorem exec_mgtRequest_elsewhere (hready : s.mgtReady = true) (htaken : s.ethTaken eth = false) :
    exec (.mgtRequest eth) s = .next (s.count Reg.MGT_DROPS 1) :=
  (if_neg (not_not.2 hready)).trans (if_pos (by simp [htaken]))

theorem exec_mgtRequest_none (h : s.mgtReady = false ∨ s.ethTaken eth = true ∧ ethType eth = 0x88F7) :
    exec (.mgtRequest eth) s = .next s := by
  change execMgtRequest eth s = _
  unfold execMgtRequest
  obtain hready | ⟨htaken, hptp⟩ := h
  · exact if_pos (by simp [hready])
  · simp [htaken, hptp]

/-- Settles O45: the tunnel's clauses from `takeTunReq` and `takeTunRsp`, the port's from the four ends of a request, and
the SPI target's from whether it serves. -/
theorem managementServed : Obligations.ManagementServed := by
  unfold Obligations.ManagementServed
  refine ⟨?_, ?_, ?_, ?_, ?_, ?_, ?_, ?_, ?_, ?_, ?_, ?_⟩
  case refine_1 =>
    rintro p fr s u f b v h rfl hnew hen hr
    exact next_fabRx h (takeTunReq_served hnew hen hr)
  case refine_2 =>
    rintro p fr s u f h rfl hnew hen
    exact next_fabRx h (takeTunReq_off hnew hen)
  case refine_3 =>
    rintro p fr s u f x h rfl hold
    exact next_fabRx h (takeTunReq_again hold)
  case refine_4 =>
    rintro p fr s u f h rfl hopen
    exact next_fabRx h (takeTunRsp_open hopen)
  case refine_5 =>
    intro fr o s u hready htaken hptp hroom hr
    refine (exec_mgtRequest_served hready htaken hptp hroom hr).trans ?_
    cases o <;> rfl
  case refine_6 => exact fun fr s => exec_mgtRequest_dropped
  case refine_7 => exact fun fr s => exec_mgtRequest_elsewhere
  case refine_8 => exact fun fr s => exec_mgtRequest_none
  case refine_9 =>
    intro a n s u st b hserves hread
    change execSpiRead a n s = _
    unfold execSpiRead
    rw [if_neg (not_not.2 hserves), hread]
  case refine_10 =>
    intro a b s u st hserves hwrite
    change execSpiWrite a b s = _
    unfold execSpiWrite
    rw [if_neg (not_not.2 hserves), hwrite]
  case refine_11 =>
    intro s hserves
    have hno : ¬ s.spiServes = true := by simp [hserves]
    exact ⟨if_pos hno, fun a n b => ⟨if_pos hno, if_pos hno⟩⟩
  case refine_12 => exact fun s hserves => if_neg (not_not.2 hserves)

end Sys2Proof.Proofs
end

section
/-! Scope: channel commands (spec/16_ingest_dma.md, R533, R543): RESTART of a FROZEN channel in the cycle of its unfreeze.

An unfreeze that is written in the cycle of a RESTART comes before it (R543): the channel enters HALTED and then restarts. -/

namespace Sys2Proof.Proofs

open Sys2Proof.Machine Sys2Proof.Safety Sys2Proof.Laws

/-- Channel 0 is FROZEN, and a write in the queue unfreezes it in this cycle. -/
def frozenUnfreezing : State :=
  { (State.reset.setCh 0 5).setRegN Reg.ACC_FROZEN_INT 1 with
    pending := [.registerWrite Reg.ACC_UNFREEZE [(.mgmt, Fld.ACC_UNFREEZE_KIND.put 1 0)] 0] }

theorem frozenUnfreezing_chSt : frozenUnfreezing.chSt 0 = 5 := by decide +kernel

/-- The RESTART finds the channel HALTED and makes it PENDING (R533, R543). -/
theorem frozenUnfreezing_chRestart : (frozenUnfreezing.chRestart (some .mgmt) 0).chSettle.chSt 0 = 1 := by decide +kernel

/-- Refutes O43 in its sixth clause: RESTART of a FROZEN channel that is unfrozen in the same cycle acts (R543). The clause
lacks the premise that the channel is not FROZEN. -/
theorem not_channelsServe : ¬ Obligations.ChannelsServe := by
  unfold Obligations.ChannelsServe
  rintro ⟨-, -, -, -, -, hrefused, -⟩
  have hflagged := hrefused .mgmt 0 frozenUnfreezing (ne_of_eq_of_ne frozenUnfreezing_chSt (by decide))
  have hsame : (frozenUnfreezing.chRestart (some .mgmt) 0).chSettle =
      (frozenUnfreezing.accFlag .mgmt (Reg.ING_CH_CTRL 0) .refused).chSettle := Host.Outcome.next.inj hflagged
  have hstays := frozenUnfreezing_chRestart.symm.trans (congrArg (·.chSt 0) hsame)
  exact absurd hstays (by decide +kernel)

end Sys2Proof.Proofs
end

section
/-! Scope: lanes (spec/12_serial_lanes.md, R419, R424, R425): energy on a lane of a port that goes to LD, and a command for LS
on the management lane.

Energy that comes while a port's own request for LD is on its way has the port leave LD as soon as it has entered it
(R425). The management lane has no partner that could agree to LS or LD, so its request is refused, which is flagged
(R424; log entry 64). -/

namespace Sys2Proof.Proofs

open Sys2Proof.Machine Sys2Proof.Safety Sys2Proof.Laws

/-- The ingest port has lane 0, trained, and has asked for LD. -/
def askingLd : State :=
  let s := (State.reset.setFld (Reg.LN_LANE_STATUS 0) Fld.LN_LANE_STATUS_STATE 3).setFld Reg.ING_STATUS
    Fld.ING_STATUS_LANES 1
  { s with ln := { s.ln with pwr := [⟨0, 2, true, false, false⟩] } }

theorem exec_laneEnergyDetect_inMask {s : State} {n : Fin 41} (hraw : s.laneRaw n ≠ 1) (hmask : s.inMask n = true)
    (hwake : s.wakeOnly (lanePort n) = false) : exec (.laneEnergyDetect n) s = .next (s.energyIn (lanePort n)) := by
  change execLaneEnergyDetect n s = _
  simp [execLaneEnergyDetect, hraw, hmask, hwake]

/-- Refutes O46 in its second clause: energy on a lane in service whose port has asked for LD is noted, and wakes the port
when it gets there (R425). The clause lacks the premise that the port of the lane has asked for no LD. -/
theorem not_lanesTrain : ¬ Obligations.LanesTrain := by
  unfold Obligations.LanesTrain
  rintro ⟨-, hnothing, -⟩
  have hnext := hnothing 0 askingLd (by decide +kernel)
  rw [exec_laneEnergyDetect_inMask (by decide +kernel) (by decide +kernel) (by decide +kernel)] at hnext
  exact absurd (congrArg (fun t : State => t.ln.pwr.map (·.energy)) (Host.Outcome.next.inj hnext)) (by decide +kernel)

/-- The management lane is trained and serves. -/
def mgtServing : State :=
  let s := State.reset.setFld (Reg.LN_LANE_STATUS 40) Fld.LN_LANE_STATUS_STATE 3
  { s with ln := { s.ln with mgtMask := some 1 } }

theorem cmdPwr_mgt {s : State} {p : Path} {n kind : Nat} (hn : lanePort n = 11) (h : s.awake 11 = true) :
    s.cmdPwr p n kind = s.event Reg.LN_EVENT Fld.LN_EVENT_PWR_REFUSED :=
  (if_pos hn).trans (if_pos h)

/-- Refutes O48 in its first clause: a command for LS on the management lane in service is refused, and the refusal is
flagged (R424; log entry 64). The clause lacks the premise that the management port is not awake. -/
theorem not_lanesSleepAndWake : ¬ Obligations.LanesSleepAndWake := by
  unfold Obligations.LanesSleepAndWake
  rintro ⟨hnothing, -⟩
  obtain ⟨hnext, -⟩ := hnothing .mgmt 40 mgtServing (by decide)
  have hsame := (cmdPwr_mgt (by decide) (by decide +kernel)).symm.trans (Host.Outcome.next.inj hnext)
  exact absurd (congrArg (·.regN Reg.LN_EVENT) hsame) (by decide +kernel)

end Sys2Proof.Proofs
end

section
/-! Scope: axis commands (spec/13_motion_profiles.md, R438, R440, R448, R454, R458 to R462): the branch that START, STOP, HOME,
ENABLE, DISABLE and CLEAR take in each state of the axis. -/

namespace Sys2Proof.Proofs

open Sys2Proof.Machine Sys2Proof.Safety Sys2Proof.Laws

variable {s u v : State} {p : Path} {x : Fin 6} {m : Fin 1024} {l : List Nat} {k c : Nat}

/-! ### START (R438, R440) -/

/-- The entries of a chain on axes that the module drives. -/
def driven (s : State) (l : List Nat) : List Nat :=
  l.filter fun i => s.flag (Reg.MP_AX_CFG (s.moveE i).axis) Fld.MP_AX_CFG_ENABLE

theorem startChain_begins {aux : Bool} {i : Nat} (hl : s.chain 6 [] i = some l)
    (h : ∀ j ∈ driven s l, s.entryRefusal (s.moveE j) = 0) :
    s.startChain x i aux = (driven s l).foldl (fun t j => t.startEntry aux i j) s := by
  have hnone : ((driven s l).map fun j => s.entryRefusal (s.moveE j)).find? (· != 0) = none := by
    rw [List.find?_eq_none]
    intro c hc
    obtain ⟨j, hj, rfl⟩ := List.mem_map.1 hc
    simp [h j hj]
  unfold State.startChain
  simp only [hl]
  rw [← driven, hnone]

theorem startChain_refused {aux : Bool} {i : Nat} (hl : s.chain 6 [] i = some l)
    (h : ((driven s l).map fun j => s.entryRefusal (s.moveE j)).find? (· != 0) = some c) :
    s.startChain x i aux = s.refuse x c := by
  unfold State.startChain
  simp only [hl]
  rw [← driven, h]

theorem startChain_missing {aux : Bool} {i : Nat} (hl : s.chain 6 [] i = none) : s.startChain x i aux = s.refuse x 3 := by
  unfold State.startChain
  simp only [hl]

/-- START of a chain that homes no axis S under a live swath (R459; log entry 71). -/
theorem exec_axisStart (h : s.homesLive m = false) : exec (.axisStart p x m) s = .next (s.startChain x m false) :=
  if_neg (by simp [h])

/-! ### STOP and DISABLE (R448, R458, R462) -/

theorem cmdStop_homing {after : After} (h : s.homing x = true) : s.cmdStop x after = s.homeStopped x after := if_pos h

theorem cmdStop_moving {after : After} (hh : s.homing x = false) (hst : s.axState x = 2 ∨ s.axState x = 3) :
    s.cmdStop x after = s.stopAxis x after :=
  (if_neg (by simp [hh])).trans (if_pos hst)

theorem cmdStop_standing {after : After} (hh : s.homing x = false) (h2 : s.axState x ≠ 2) (h3 : s.axState x ≠ 3) :
    s.cmdStop x after = s :=
  (if_neg (by simp [hh])).trans (if_neg (by simp [h2, h3]))

theorem moving_iff : s.moving x = true ↔ 2 ≤ s.axState x ∧ s.axState x ≤ 5 := by simp [State.moving]

theorem exec_axisDisable_rest (h : s.axState x = 0 ∨ s.axState x = 1 ∨ s.axState x = 6) :
    exec (.axisDisable x) s = .next (s.disableAxis x) :=
  (if_neg (by omega)).trans (if_neg (by rw [moving_iff]; omega))

theorem exec_axisDisable_moving (hh : s.homing x = false) (h : s.axState x = 2 ∨ s.axState x = 3) :
    exec (.axisDisable x) s = .next (s.stopAxis x .disabled) :=
  (if_neg (by omega)).trans ((if_pos (by rw [moving_iff]; omega)).trans (congrArg _ (cmdStop_moving hh h)))

/-! ### ENABLE (R454, R460, R486) -/

/-- Axis `x` is DISABLED, the module drives it, and ESTOP_N is high (R460). -/
structure MayEnable (s : State) (x : Fin 6) : Prop where
  disabled : s.axState x = 0
  high : s.gy.estop = false
  driven : s.flag (Reg.MP_AX_CFG x) Fld.MP_AX_CFG_ENABLE = true

/-- The axis in IDLE at its measured position. -/
def enabled (s : State) (x : Nat) : State :=
  ((((((s.adopt x).releasePads x).setFld (Reg.MP_AX_STATUS x) Fld.MP_AX_STATUS_FAULT 0).setAx x 1 0).setSv x 1).setEn x
    true).milestoneNow 9

/-- An axis whose feedback is in FAULT takes that fault (R477). -/
def withFeedback (s : State) (x : Nat) : State := if s.fbState x = 1 then s.feedbackFault x else s

/-- The stepper's pins show the code of its band (R455). -/
def showsCode (s : State) (k : Nat) : State :=
  s.setFld (Reg.STP_STATUS k) Fld.STP_STATUS_CODE (s.bandE k (s.fld (Reg.STP_STATUS k) Fld.STP_STATUS_BAND)).2

theorem exec_axisEnable_may (h : MayEnable s x) : exec (.axisEnable x) s =
    if ¬ s.locked ∨ (s.cal.first.any fun t => decide (32 + 2 * x.val ≤ t ∧ t < 34 + 2 * x.val)) = true then
      .next (s.refuse x 5)
    else if 2 ≤ x.val ∧ ¬ s.bandsOk (x - 2) then .next (s.setFld (Reg.MP_AX_STATUS x) Fld.MP_AX_STATUS_FAULT 6)
    else .next (withFeedback (if 2 ≤ x.val then showsCode (enabled s x) (x - 2) else enabled s x) x) := by
  obtain ⟨hst, hestop, hen⟩ := h
  exact if_neg (by simp [hst, hestop, hen])

theorem exec_axisEnable_servo (h : MayEnable s x) (hl : s.locked = true) (hc : s.cal.first = []) (hx : x.val < 2) :
    exec (.axisEnable x) s = .next (withFeedback (enabled s x) x) := by
  have hx' : ¬ 2 ≤ x.val := by omega
  simp [exec_axisEnable_may h, hl, hc, hx']

theorem exec_axisEnable_stepper (h : MayEnable s x) (hl : s.locked = true) (hc : s.cal.first = []) (hx : x.val = k + 2)
    (hb : s.bandsOk k = true) : exec (.axisEnable x) s = .next (withFeedback (showsCode (enabled s x) k) x) := by
  simp [exec_axisEnable_may h, hl, hc, hx, hb]

theorem exec_axisEnable_badBands (h : MayEnable s x) (hl : s.locked = true) (hc : s.cal.first = []) (hx : x.val = k + 2)
    (hb : s.bandsOk k = false) :
    exec (.axisEnable x) s = .next (s.setFld (Reg.MP_AX_STATUS x) Fld.MP_AX_STATUS_FAULT 6) := by
  simp [exec_axisEnable_may h, hl, hc, hx, hb]

/-- Before the lock no axis is enabled (R580, R585; log entry 74). -/
theorem exec_axisEnable_unlocked (h : MayEnable s x) (hl : s.locked = false) :
    exec (.axisEnable x) s = .next (s.refuse x 5) := by
  simp [exec_axisEnable_may h, hl]

theorem exec_axisEnable_none (h : s.gy.estop = true ∨ s.flag (Reg.MP_AX_CFG x) Fld.MP_AX_CFG_ENABLE = false) :
    exec (.axisEnable x) s = .next s :=
  if_pos (h.elim (fun h => .inr (.inl h)) fun h => .inr (.inr (by simp [h])))

/-- Settles O49: each clause is one branch of its command. -/
theorem axesServe : Obligations.AxesServe := by
  unfold Obligations.AxesServe
  refine ⟨?_, ?_, ?_, ?_, ?_, ?_, ?_, ?_, ?_, ?_, ?_, ?_, ?_, ?_, ?_, ?_, ?_, ?_, ?_, ?_⟩
  case refine_1 =>
    rintro p x m s l k hlive hl rfl hall
    exact (exec_axisStart hlive).trans (congrArg _ (startChain_begins hl hall))
  case refine_2 =>
    rintro p x m s l k c hlive hl rfl hc
    exact (exec_axisStart hlive).trans (congrArg _ (startChain_refused hl hc))
  case refine_3 => exact fun p x m s hlive hl => (exec_axisStart hlive).trans (congrArg _ (startChain_missing hl))
  case refine_4 => exact fun p x m s hlive => if_pos hlive
  case refine_5 => exact fun x s hh hst => congrArg Host.Outcome.next (cmdStop_moving hh hst)
  case refine_6 => exact fun x s hh => congrArg Host.Outcome.next (cmdStop_homing hh)
  case refine_7 => exact fun x s hh h2 h3 => congrArg Host.Outcome.next (cmdStop_standing hh h2 h3)
  case refine_8 => exact fun p s hlive => if_pos ⟨rfl, hlive⟩
  case refine_9 =>
    intro p x s hlive hst
    exact (if_neg (by rintro ⟨h0, h1⟩; simp_all)).trans (if_neg (not_not.2 hst))
  case refine_10 =>
    intro p x s hlive hst
    exact (if_neg (by rintro ⟨h0, h1⟩; simp_all)).trans (if_pos hst)
  case refine_11 =>
    rintro x s u hx hst hestop hl hen hc rfl
    exact exec_axisEnable_servo ⟨hst, hestop, hen⟩ hl hc hx
  case refine_12 =>
    rintro x s u v k hx hst hestop hl hen hc hb rfl rfl
    exact exec_axisEnable_stepper ⟨hst, hestop, hen⟩ hl hc hx hb
  case refine_13 =>
    intro x s k hx hst hestop hl hen hc hb
    exact exec_axisEnable_badBands ⟨hst, hestop, hen⟩ hl hc hx hb
  case refine_14 => exact fun x s hst hestop hen hl => exec_axisEnable_unlocked ⟨hst, hestop, hen⟩ hl
  case refine_15 => exact fun x s => exec_axisEnable_none
  case refine_16 => exact fun x s => exec_axisDisable_rest
  case refine_17 => exact fun x s => exec_axisDisable_moving
  case refine_18 => exact fun x s hst => if_pos hst
  case refine_19 => exact fun x s hst hfb => if_neg (by simp [hst, hfb])
  case refine_20 => exact fun x s h => if_pos h

end Sys2Proof.Proofs
end

section
/-! Scope: axis parameters, stepper bands and inputs (spec/13_motion_profiles.md and spec/14_feedback_servo.md, R446, R447,
R455 to R458, R467, R470): what a write of V, A or OVR does in each mode of the generator, when a band takes effect, and what
a level of an input does once it qualifies. -/

namespace Sys2Proof.Proofs

open Sys2Proof.Machine Sys2Proof.Safety Sys2Proof.Laws

variable {s u v : State} {x i k t : Nat} {w : Word} {g : Gen} {dir on : Bool} {pos : Int}

/-! ### Writes of V and A (R446, R447) -/

theorem gen_setReg {a : Nat} : (s.setReg a w).gen x = s.gen x := rfl

/-- The mode of a generator whose velocity a write of V changes at once. -/
def takesV : GMode → Bool
  | .move .. | .hold .. | .decel .. => true
  | _ => false

theorem writeV_at_once (h : takesV (s.gen x).mode = true) : s.writeV x w = s.setReg (Reg.MP_AX_V x) w := by
  unfold State.writeV
  dsimp only
  rw [gen_setReg]
  cases hm : (s.gen x).mode <;> simp_all [takesV]

theorem writeV_idle (h : (s.gen x).mode = .idle) :
    s.writeV x w = (s.setReg (Reg.MP_AX_V x) w).paramKept x fun g => { g with keepV := true } := by
  unfold State.writeV
  dsimp only
  rw [gen_setReg, h]

theorem writeA_moving (h : (∃ d t, (s.gen x).mode = .move d t) ∨ ∃ d t, (s.gen x).mode = .hold d t) :
    s.writeA x w = (s.setReg (Reg.MP_AX_A x) w).takeA x := by
  unfold State.writeA
  dsimp only
  rw [gen_setReg]
  obtain ⟨d, t, hm⟩ | ⟨d, t, hm⟩ := h <;> rw [hm]

theorem writeA_idle (h : (s.gen x).mode = .idle) :
    s.writeA x w = (s.setReg (Reg.MP_AX_A x) w).paramKept x fun g => { g with keepA := true } := by
  unfold State.writeA
  dsimp only
  rw [gen_setReg, h]

theorem axState_takeA : (s.takeA x).axState x = s.axState x :=
  (axState_setFld_apart (by decide) (by decide)).trans (axState_of_reg (reg_of_regs (by simp) _))

/-- A raised in a planned stop ends it (R446). -/
theorem writeA_raised {n : List (Int × Int × Int)} {d : Int} (hu : u = s.setReg (Reg.MP_AX_A x) w)
    (hm : (u.gen x).mode = .decel dir n d) (ha : (u.gen x).aUse < u.aLim x) :
    s.writeA x w = ((u.takeA x).onGen x fun g => { g with mode := .hold dir d }).setAx x ((u.takeA x).axState x) 1 := by
  rw [axState_takeA]
  unfold State.writeA
  dsimp only
  rw [← hu, hm]
  exact if_pos ha

/-- A lowered in a planned stop beyond what the way left allows is deferred (R446). -/
theorem writeA_deferred {n : List (Int × Int × Int)} {d : Int} (hu : u = s.setReg (Reg.MP_AX_A x) w)
    (hm : (u.gen x).mode = .decel dir n d) (ha : u.aLim x < (u.gen x).aUse)
    (hway : (d - (u.gen x).p).natAbs < stopDist (u.gen x).v.natAbs 0 (u.aLim x) (u.gen x).jUse) :
    s.writeA x w = ((u.setFld (Reg.MP_AX_STATUS x) Fld.MP_AX_STATUS_DEFER 1).event (Reg.MP_AX_EVENT x)
      Fld.MP_AX_EVENT_ACCEL_DEFERRED).onGen x fun g => { g with keepA := true } := by
  unfold State.writeA
  dsimp only
  rw [← hu, hm]
  exact (if_neg (by omega)).trans ((if_neg (by omega)).trans (if_neg (by omega)))

/-! ### Bands (R455) -/

theorem bandE_setFld {a n : Nat} {f : Field} {b : Nat} : (s.setFld a f n).bandE k b = s.bandE k b := rfl

theorem exec_bandChangeApply_due {k : Fin 4} {b due : Nat} (hb : (s.gen (k + 2)).toBand = some (b, due))
    (hpos : s.stepPos (k + 2) % 128 = 0) (hms : s.flag (Reg.STP_STATUS k) Fld.STP_STATUS_MS_SETTLING = false)
    (hen : s.flag (Reg.STP_STATUS k) Fld.STP_STATUS_EN = true)
    (ht : t = max (s.gen (k + 2)).pulseEnd due + 1000 * s.fld (Reg.STP_CFG k) Fld.STP_CFG_MS_SETUP_US)
    (hu : u = (s.onGen (k + 2) fun g => { g with toBand := none, ready := max g.ready t, msEnd := t }).setFld
      (Reg.STP_STATUS k) Fld.STP_STATUS_BAND b) :
    exec (.bandChangeApply k) s = .next (((((u.setFld (Reg.STP_STATUS k) Fld.STP_STATUS_CODE (u.bandE k b).2).setFld
      (Reg.STP_STATUS k) Fld.STP_STATUS_ALIGN_WAIT 0).setFld (Reg.STP_STATUS k) Fld.STP_STATUS_MS_SETTLING 1).count
      (Reg.STP_BAND_CHANGES k) 1).event (Reg.STP_EVENT k) Fld.STP_EVENT_BAND_CHANGE) := by
  change execBandChangeApply k s = _
  unfold execBandChangeApply
  simp only [hb]
  rw [if_neg (by simp [hpos, hms, hen])]
  subst ht hu
  rfl

theorem exec_bandChangeApply_none {k : Fin 4} (h : (s.gen (k + 2)).toBand = none ∨ s.stepPos (k + 2) % 128 ≠ 0) :
    exec (.bandChangeApply k) s = .next s := by
  change execBandChangeApply k s = _
  unfold execBandChangeApply
  cases hb : (s.gen (k + 2)).toBand with
  | none => rfl
  | some c => exact if_pos (.inl (h.resolve_left (by simp [hb])))

/-! ### Inputs (R456 to R458) -/

theorem limitCheck_stops (hst : s.axState x = 2 ∨ s.axState x = 3) (hafter : ∀ f, (s.gen x).after ≠ .fault f)
    (h : s.qual x 0 = true ∧ 0 < (s.gen x).v ∨ s.qual x 1 = true ∧ (s.gen x).v < 0) : s.limitCheck x = s.limitStop x := by
  refine if_pos ⟨?_, h⟩
  cases ha : (s.gen x).after with
  | fault f => exact absurd ha (hafter f)
  | _ => rcases hst with h | h <;> simp [h]

theorem limitCheck_standing (h : s.moving x = false) : s.limitCheck x = s := by
  refine if_neg fun hrun => ?_
  obtain ⟨hrun, -⟩ := hrun
  have hst : ¬ (2 ≤ s.axState x ∧ s.axState x ≤ 5) := by
    simpa [State.moving] using h
  split at hrun
  · simp at hrun
  · simp only [Bool.or_eq_true, beq_iff_eq] at hrun
    omega

theorem startsToward_of_not_fresh (h : (s.gen x).fresh = false) : s.startsToward x i = false := by
  simp [State.startsToward, h]

/-- The level of input `i` of axis `x` is the qualified one, or has not lasted QUAL_US at tick `t` (R456). -/
def Unqualified (s : State) (x i t : Nat) : Prop :=
  s.qual x i = s.pinActive x i (s.pin x i).high ∨ t < (s.pin x i).since + s.qualNs x

theorem pinLasts_unqualified (h : Unqualified s x i t) : s.pinLasts x i t = s := if_pos h

theorem pinLasts_qualifies (hq : s.qual x i ≠ s.pinActive x i (s.pin x i).high)
    (ht : (s.pin x i).since + s.qualNs x ≤ t) :
    s.pinLasts x i t = s.qualify x i (s.pinActive x i (s.pin x i).high) (s.pin x i).pos :=
  if_neg (by rintro (h | h) <;> [exact hq h; omega])

/-- A sample that finds the level unchanged asks whether its run has lasted. -/
theorem exec_inputQualify_same {x : Fin 6} {i : Fin 3} {k : Fin 20} {b : Bool} (hb : b = (s.pin x i).high)
    (ht : t = max (s.motion.tickAt - 100 + 5 * k.val) (s.pin x i).since) :
    exec (.inputQualify x i k b) s = .next (State.settleStop s (s.pinLasts x i t)) := by
  subst ht
  exact congrArg (fun u => Host.Outcome.next (State.settleStop s u)) (if_pos hb)

theorem exec_inputQualify_turns {x : Fin 6} {i : Fin 3} {k : Fin 20} {b : Bool} (hb : b ≠ (s.pin x i).high)
    (ht : t = max (s.motion.tickAt - 100 + 5 * k.val) (s.pin x i).since) :
    exec (.inputQualify x i k b) s = .next (State.settleStop s (((s.pinLasts x i t).pinTurns x i (5 * k.val) t
      b).pinLasts x i t)) := by
  subst ht
  exact congrArg (fun u => Host.Outcome.next (State.settleStop s u)) (if_neg hb)

theorem qualify_homing (hu : u = s.putInput Fld.MP_AX_INPUTS_QUAL x i on) (h : u.homing x = true) :
    s.qualify x i on pos = u.homeInput x i on pos := by
  subst hu
  exact if_pos h

theorem qualify_limit (hu : u = s.putInput Fld.MP_AX_INPUTS_QUAL x i true) (h : u.homing x = false)
    (hto : u.startsToward x i = false) : s.qualify x i true pos = u.limitCheck x := by
  subst hu
  exact (if_neg (by simp [h])).trans ((if_neg (by simp)).trans (if_neg (by simp [hto])))

theorem qualify_standing (hu : u = s.putInput Fld.MP_AX_INPUTS_QUAL x i on) (hh : u.homing x = false)
    (hm : u.moving x = false) (hf : (u.gen x).fresh = false) : s.qualify x i on pos = u := by
  cases on with
  | false =>
    subst hu
    exact (if_neg (by simp [hh])).trans (if_pos (by simp))
  | true => exact (qualify_limit hu hh (startsToward_of_not_fresh hf)).trans (limitCheck_standing hm)

/-! ### A level that changes (R456) -/

/-- What qualifies an input of axis `x` beside its own run: the qualified levels, the polarities and QUAL_US. -/
structure InputsKept (s t : State) (x : Nat) : Prop where
  shown : t.fld (Reg.MP_AX_INPUTS x) Fld.MP_AX_INPUTS_QUAL = s.fld (Reg.MP_AX_INPUTS x) Fld.MP_AX_INPUTS_QUAL
  cfg : t.reg (Reg.MP_AX_INPUT_CFG x) = s.reg (Reg.MP_AX_INPUT_CFG x)

theorem InputsKept.qual (h : InputsKept s u x) : u.qual x i = s.qual x i := by simp only [State.qual, h.shown]

theorem InputsKept.pinActive (h : InputsKept s u x) {b : Bool} : u.pinActive x i b = s.pinActive x i b := by
  simp only [State.pinActive, State.flag, State.fld, h.cfg]

theorem InputsKept.qualNs (h : InputsKept s u x) : u.qualNs x = s.qualNs x := by
  simp only [State.qualNs, State.fld, h.cfg]

theorem InputsKept.trans (h : InputsKept s u x) (h' : InputsKept u v x) : InputsKept s v x :=
  ⟨h'.shown.trans h.shown, h'.cfg.trans h.cfg⟩

theorem inputsKept_putRaw {b : Bool} : InputsKept s (s.putInput Fld.MP_AX_INPUTS_RAW x i b) x :=
  ⟨fld_setFld_apart (by decide) (by decide),
    getD_put_other (by simp only [Reg.MP_AX_INPUTS, Reg.MP_AX_INPUT_CFG]; omega)⟩

theorem inputsKept_showRaw : InputsKept s (s.showRaw x) x :=
  List.foldlRecOn (motive := fun t => InputsKept s t x) _ _ ⟨rfl, rfl⟩ fun _ h _ _ => h.trans inputsKept_putRaw

theorem inputsKept_count : InputsKept s (s.count (Reg.MP_AX_CHATTER x) 1) x :=
  ⟨congrArg Fld.MP_AX_INPUTS_QUAL.get (getD_put_other (by simp only [Reg.MP_AX_INPUTS, Reg.MP_AX_CHATTER]; omega)),
    getD_put_other (by simp only [Reg.MP_AX_INPUT_CFG, Reg.MP_AX_CHATTER]; omega)⟩

/-- The active run that ends before it qualifies is counted (R456). -/
def chatter (s : State) (x i t : Nat) : State :=
  if s.pinActive x i (s.pin x i).high = true ∧ t < (s.pin x i).since + s.qualNs x then s.count (Reg.MP_AX_CHATTER x) 1
  else s

theorem inputsKept_chatter : InputsKept s (chatter s x i t) x := by
  unfold chatter
  split
  · exact inputsKept_count
  · exact ⟨rfl, rfl⟩

theorem pinTurns_servo {ns : Nat} {b : Bool} (hx : x < 2) : s.pinTurns x i ns t b =
    ((chatter s x i t).setPin x i ⟨b, t, (chatter s x i t).rawAt x ns⟩).showRaw x := by
  unfold State.pinTurns State.captureAt
  dsimp only
  rw [if_pos hx]
  rfl

theorem pin_showRaw : (s.showRaw x).pin x i = s.pin x i :=
  foldl_same (·.pin x i) fun _ _ => rfl

/-- The new run is in its place, or the input has none and its level stays as it was. -/
theorem pin_setPin {r : PinRun} : (s.setPin x i r).pin x i = r ∨ (s.setPin x i r).pin x i = s.pin x i := by
  unfold State.setPin State.pin
  by_cases h : 3 * x + i < s.motion.pins.length
  · exact .inl (by simp [h])
  · exact .inr (by simp [h])

theorem unqualified_of_turned {r : PinRun} (h : Unqualified s x i t) (hr : r.since = t)
    (hu : InputsKept s u x) (hp : u.pin x i = s.pin x i) (hq : 0 < ((u.setPin x i r).showRaw x).qualNs x) :
    Unqualified ((u.setPin x i r).showRaw x) x i t := by
  have hkept : InputsKept s ((u.setPin x i r).showRaw x) x := hu.trans ((⟨rfl, rfl⟩ : InputsKept u (u.setPin x i r) x).trans
    inputsKept_showRaw)
  unfold Unqualified
  rw [pin_showRaw]
  obtain h' | h' := pin_setPin (s := u) (x := x) (i := i) (r := r)
  · right
    rw [h', hr]
    omega
  · rw [h', hp, hkept.qual, hkept.pinActive, hkept.qualNs]
    exact h

/-- Settles O50: the writes by the mode of the generator, the bands by what waits, and the inputs by whether a run has
lasted. -/
theorem axisParametersAndInputs : Obligations.AxisParametersAndInputs := by
  unfold Obligations.AxisParametersAndInputs
  refine ⟨?_, ?_, ?_, ?_, ?_, ?_, ?_, ?_, ?_, ?_, ?_, ?_, ?_, ?_⟩
  case refine_1 => exact fun x w s => rfl
  case refine_2 =>
    intro x w s h
    have hv : takesV (s.gen x).mode = true := by obtain ⟨d, t, hm⟩ | ⟨d, t, hm⟩ := h <;> rw [hm] <;> rfl
    exact ⟨congrArg Host.Outcome.next (writeV_at_once hv), congrArg Host.Outcome.next (writeA_moving h)⟩
  case refine_3 =>
    rintro x w s u g dir n d hu rfl hm ha
    have hv : takesV (s.gen x).mode = true := by rw [← gen_setReg (a := Reg.MP_AX_A x) (w := w), ← hu, hm]; rfl
    exact ⟨congrArg Host.Outcome.next (writeV_at_once hv), congrArg Host.Outcome.next (writeA_raised hu hm ha)⟩
  case refine_4 =>
    rintro x w s u g dir n d hu rfl hm ha hway
    exact congrArg Host.Outcome.next (writeA_deferred hu hm ha hway)
  case refine_5 =>
    exact fun x w s hm => ⟨congrArg Host.Outcome.next (writeV_idle hm), congrArg Host.Outcome.next (writeA_idle hm)⟩
  case refine_6 => exact fun k b due n s u hb hpos hms hen hn hu => exec_bandChangeApply_due hb hpos hms hen hn hu
  case refine_7 => exact fun k s => exec_bandChangeApply_none
  case refine_8 => exact fun k s h => congrArg Host.Outcome.next (if_neg (Nat.not_lt.2 h))
  case refine_9 => exact fun k s h => congrArg Host.Outcome.next (if_pos h)
  case refine_10 =>
    rintro x i k b a t s hb rfl ht h
    rw [exec_inputQualify_same hb ht, pinLasts_unqualified (by rw [hb] at h; exact h)]
  case refine_11 =>
    rintro x i k b a t s u hb rfl ht hq hlong hu hh
    rw [exec_inputQualify_same hb ht, pinLasts_qualifies (by rwa [← hb]) hlong, ← hb, qualify_homing hu hh]
  case refine_12 =>
    rintro x i k b t s u hb ha ht hq hlong hu hh hto hst hafter hi hqual
    have hlimit : u.limitCheck x = u.limitStop x := by
      refine limitCheck_stops hst hafter (hi.imp ?_ ?_) <;> rintro ⟨h, hv⟩ <;> exact ⟨h ▸ hqual, hv⟩
    rw [exec_inputQualify_same hb ht, pinLasts_qualifies (by rw [← hb, ha, hq]; decide) hlong, ← hb, ha,
      qualify_limit hu hh hto, hlimit]
  case refine_13 =>
    rintro x i k b t s u hb ht hq hlong hu hh hm hf
    rw [exec_inputQualify_same hb ht, pinLasts_qualifies (by rwa [← hb]) hlong, ← hb, qualify_standing hu hh hm hf]
  case refine_14 =>
    rintro x i k b t s u hx hb ht h hu hns
    have hchatter : u = chatter s x i t := hu
    have hpin : u.pin x i = s.pin x i := by rw [hchatter]; unfold chatter; split <;> rfl
    have hkept : InputsKept s u x := hchatter ▸ inputsKept_chatter
    rw [exec_inputQualify_turns hb ht, pinLasts_unqualified h, pinTurns_servo hx, ← hchatter,
      pinLasts_unqualified (unqualified_of_turned h rfl hkept hpin hns)]

end Sys2Proof.Proofs
end

section
/-! Scope: the 50 kHz sample, injection and capture (spec/14_feedback_servo.md, R435, R444, R485, R489, R490). -/

namespace Sys2Proof.Proofs

open Sys2Proof.Machine Sys2Proof.Safety Sys2Proof.Laws

variable {s : State} {p : Path}

/-! ### The sample (R435, R485) -/

/-- The latest servo sample is the present one. -/
def sampledNow (s : State) : State := { s with motion := { s.motion with lastServo := some s.clk.ticks } }

/-- The steppers follow the segment that ends with the sample (R452). -/
def steppersFollow (s : State) : State :=
  (List.range 4).foldl (fun t k => t.stepFollow (s.motion.lastServo.getD (s.clk.ticks - 20000)) k) (sampledNow s)

/-- Every axis that the module drives takes its set-point (R444). -/
def setPoints (s : State) : State :=
  (List.range 6).foldl (fun t x => if t.flag (Reg.MP_AX_CFG x) Fld.MP_AX_CFG_ENABLE then t.genSample x else t) s

/-- The steppers' bands and stalls, and then the two servos (R455, R481, R485). -/
def servosServed (s : State) : State :=
  (List.range 2).foldl (fun t x => t.servoAxis x) ((List.range 4).foldl (fun t k => (t.bandDue k).stallCheck (k + 2)) s)

/-- With a locked PLL a sample takes its stages one after the other, and then the ramps step. -/
theorem exec_servoSample (h : s.clk.pllLocked = true) : exec .servoSample s = .next (State.settleStop s
    ((List.range 4).foldl (fun t i => t.rampSample (32 + i))
      (servosServed (setPoints (steppersFollow (s.elapse s.sampleTicks)))))) :=
  if_neg (by simp [h])

/-- Without the clock there is no sample. -/
theorem exec_servoSample_unlocked (h : s.clk.pllLocked = false) : exec .servoSample s = .next s := if_pos (by simp [h])

theorem exec_feedbackTick_unlocked (h : s.clk.pllLocked = false) {l : List FbSample} {k : Fin 501}
    {m : List (TickWord × Ecc)} : exec (.feedbackTick l k m) s = .next s :=
  if_pos (by simp [h])

/-! ### Injection and capture (R489, R490) -/

theorem exec_injStart {x : Fin 2} (h : x.val ≠ 0 ∨ s.swathLive = false) :
    exec (.injStart p x) s = .next (s.onServo x fun v => { v with injStart := true, injStop := false }) :=
  if_neg fun ⟨hx, hlive⟩ => h.elim (· hx) (by simp [hlive])

theorem capStart_free {wait : Bool} (h : s.motion.cap.running = false) :
    s.capStart p wait = (s.setRegN Reg.SV_CAP_STATUS 0).onCap fun _ => ⟨true, wait, 0⟩ :=
  if_neg (by simp [h])

theorem capStart_busy {wait : Bool} (h : s.motion.cap.running = true) :
    s.capStart p wait = s.accFlag p Reg.SV_CAP_CTRL .refused :=
  if_pos h

/-- Settles O51: the sample is its stages in order, and each command takes the branch that its unit's state gives. -/
theorem servoAndCaptureServe : Obligations.ServoAndCaptureServe := by
  unfold Obligations.ServoAndCaptureServe
  refine ⟨?_, ?_, ?_, ?_, ?_, ?_, ?_, ?_⟩
  case refine_1 =>
    intro s e a b c h he ha hb hc
    have hfollow : a = steppersFollow e := ha
    have hpoints : b = setPoints a := hb
    have hserved : c = servosServed b := hc
    rw [exec_servoSample h, hserved, hpoints, hfollow, he]
  case refine_2 => exact fun s h => ⟨exec_servoSample_unlocked h, fun l k m => exec_feedbackTick_unlocked h⟩
  case refine_3 => exact fun p x s => exec_injStart
  case refine_4 => exact fun p s h => if_pos ⟨rfl, h⟩
  case refine_5 => exact fun x s => rfl
  case refine_6 => exact fun p s h => congrArg Host.Outcome.next (capStart_free h)
  case refine_7 => exact fun p s h => congrArg Host.Outcome.next (capStart_free h)
  case refine_8 =>
    exact fun p s h => ⟨congrArg Host.Outcome.next (capStart_busy h), congrArg Host.Outcome.next (capStart_busy h)⟩

end Sys2Proof.Proofs
end

section
/-! Scope: calibration (spec/18_thermal_calibration.md, R621 to R631, R638, R657): which targets RUN, FIX and INTERP take, what
the timers begin, converter swaps and the DELAY of rows. -/

namespace Sys2Proof.Proofs

open Sys2Proof.Machine Sys2Proof.Bits Sys2Proof.Safety Sys2Proof.Laws

variable {s u v : State} {p n k : Nat} {w : Word} {path : Path}

/-! ### RUN, FIX, INTERP and CLEAR_FAIL (R621, R626, R631, R638) -/

/-- Target `n` can calibrate now: it is no lane, is not busy, and its class or its converter is free (log entry 76). -/
structure MayRun (s : State) (n : Nat) : Prop where
  idle : s.calBusy n = false
  noLane : calClass n ≠ .lane
  something : calClass n ≠ .nothing
  sensor : calClass n = .temp ∨ calClass n = .volt → s.sensorBusy n = false
  converter : calClass n = .feedback → s.convInService n = false
  port : calClass n = .firing → s.strobe (n - 40) = true

theorem exec_calRun_begins (hn : n = Fld.CAL_CTRL_TARGET.get w) (h : MayRun s n) :
    exec (.calRun path w) s = .next (s.calBegin n) := by
  obtain ⟨hidle, hlane, hnothing, hsensor, hconv, hport⟩ := h
  change execCalRun path w s = _
  unfold execCalRun
  dsimp only
  rw [← hn, if_neg (by simp [hidle])]
  cases hc : calClass n with
  | lane => exact absurd hc hlane
  | nothing => exact absurd hc hnothing
  | temp => exact if_neg (by simp [hsensor (.inl hc)])
  | volt => exact if_neg (by simp [hsensor (.inr hc)])
  | feedback => exact if_neg (by simp [hconv hc])
  | firing => exact if_pos (hport hc)

theorem exec_calRun_refused (hn : n = Fld.CAL_CTRL_TARGET.get w) (h : ¬ MayRun s n) :
    exec (.calRun path w) s = .next (s.accFlag path Reg.CAL_CTRL .refused) := by
  change execCalRun path w s = _
  unfold execCalRun
  dsimp only
  rw [← hn]
  by_cases hidle : s.calBusy n = true
  · exact if_pos hidle
  · rw [if_neg hidle]
    cases hc : calClass n with
    | lane => rfl
    | nothing => rfl
    | temp => exact if_pos (by_contra fun hb => h (by constructor <;> simp_all))
    | volt => exact if_pos (by_contra fun hb => h (by constructor <;> simp_all))
    | feedback => exact if_pos (by_contra fun hb => h (by constructor <;> simp_all))
    | firing => exact if_neg fun hb => h (by constructor <;> simp_all)

theorem setMode_default (h : calClass n = .feedback ∨ calClass n = .firing) : s.setMode n none = (true, s.modeInterp n) := by
  unfold State.setMode
  obtain h | h := h <;> simp only [h]

theorem setMode_none {o : Option Nat} (hb : calClass n ≠ .feedback) (hf : calClass n ≠ .firing) :
    s.setMode n o = (false, s) := by
  unfold State.setMode
  cases hc : calClass n with
  | feedback => exact absurd hc hb
  | firing => exact absurd hc hf
  | _ => rfl

theorem exec_calClearFail (hn : n = Fld.CAL_CTRL_TARGET.get w) (h : n ≤ 104) :
    exec (.calClearFail w) s = .next (s.setTgt n Fld.CAL_TGT_STATUS_CAL_FAIL 0) := by
  subst hn
  exact congrArg Host.Outcome.next (if_pos h)

/-! ### The timers (R622 to R624, R626, R657) -/

theorem cal_calBegin : (s.calBegin n).cal = s.cal := (calBegin_keeps (F := (· ≠ .cal)) .refl (by simp)).same .cal (· rfl)

theorem hm_calBegin : (s.calBegin n).hm = s.hm := (calBegin_keeps (F := (· ≠ .hm)) .refl (by simp)).same .hm (· rfl)

theorem cal_onCal {f : Cal → Cal} : (s.onCal f).cal = f s.cal := rfl

theorem hm_onCal {f : Cal → Cal} : (s.onCal f).hm = s.hm := rfl

/-- Voltage monitor `n` begins to calibrate, unless one of its class does already (R622). -/
def voltBegins (s : State) (n : Nat) : State :=
  if s.sensorBusy n then s else (s.calBegin n).onCal fun c => { c with nextV := (c.nextV + 1) % 16 }

theorem voltBegins_temp : (voltBegins s n).cal.nextT = s.cal.nextT ∧ (voltBegins s n).hm = s.hm := by
  unfold voltBegins
  split
  · exact ⟨rfl, rfl⟩
  · rw [cal_onCal, hm_onCal, cal_calBegin, hm_calBegin]
    exact ⟨rfl, rfl⟩

/-- Temperature sensor `n` begins to calibrate (R622). -/
def tempBegun (s : State) (n : Nat) : State := (s.calBegin n).onCal fun c => { c with nextT := (c.nextT + 1) % 10 }

theorem exec_sensorCalTimer_begins (hrun : s.bgPaused = false)
    (h : s.sensorBusy (nth tempTargets (s.cal.nextT % 10) 0) = false) :
    Next .sensorCalTimer s fun t => t.cal.nextT = (s.cal.nextT + 1) % 10 ∧ t.hm = s.hm := by
  refine ⟨voltBegins (tempBegun s (nth tempTargets (s.cal.nextT % 10) 0)) (16 + s.cal.nextV % 16), ?_, ?_⟩
  · have htemp : (if s.sensorBusy (nth tempTargets (s.cal.nextT % 10) 0) then s
        else tempBegun s (nth tempTargets (s.cal.nextT % 10) 0)) = tempBegun s (nth tempTargets (s.cal.nextT % 10) 0) :=
      if_neg (by rw [h]; decide)
    exact (if_neg (by simp [hrun])).trans (congrArg (fun u => Host.Outcome.next (voltBegins u _)) htemp)
  · obtain ⟨hnext, hhm⟩ := voltBegins_temp (s := tempBegun s (nth tempTargets (s.cal.nextT % 10) 0))
      (n := 16 + s.cal.nextV % 16)
    rw [hnext, hhm, tempBegun, cal_onCal, hm_onCal, cal_calBegin, hm_calBegin]
    exact ⟨rfl, rfl⟩

theorem exec_convCalTimer_begins {x : Fin 2} (hrun : s.bgPaused = false) (hsrc : s.fbSrc x = 1)
    (h0 : s.calBusy (32 + 2 * x) = false) (h1 : s.calBusy (33 + 2 * x) = false) :
    exec (.convCalTimer x) s = .next (s.calBegin (s.convIdle x)) :=
  congrArg Host.Outcome.next ((if_neg (by simp [hrun])).trans (if_pos (by simp [hsrc, h0, h1])))

/-- Steps that change the state at one element only. -/
theorem foldl_once {α : Type} {f : State → α → State} {x : α} :
    ∀ {l : List α}, x ∈ l → l.Nodup → (∀ y ∈ l, y ≠ x → f s y = s) → (∀ y ∈ l, y ≠ x → f (f s x) y = f s x) →
      l.foldl f s = f s x
  | y :: l, hx, hnd, hs, hf => by
    obtain ⟨hy, hnd⟩ := List.nodup_cons.1 hnd
    by_cases h : y = x
    · subst h
      exact List.foldlRecOn (motive := fun t => t = f s y) l f rfl fun t ht z hz => by
        rw [ht]
        exact hf z (List.mem_cons_of_mem _ hz) (by rintro rfl; exact hy hz)
    · rw [List.foldl_cons, hs y List.mem_cons_self h]
      exact foldl_once ((List.mem_cons.1 hx).resolve_left (Ne.symm h)) hnd
        (fun z hz => hs z (List.mem_cons_of_mem _ hz)) (fun z hz => hf z (List.mem_cons_of_mem _ hz))

theorem reg_setFld_ne {a b : Nat} {f : Field} (h : b ≠ a) : (s.setFld a f n).reg b = s.reg b := getD_put_other h

/-- A calibration of a target that is no sensor shows in the registers of the calibration block alone (R637, R638). -/
theorem reg_calBegin_firing {a : Nat} (hc : calClass n = .firing) (ht : a ≠ Reg.CAL_TGT_STATUS n) (hs : a ≠ Reg.CAL_STATUS) :
    (s.calBegin n).reg a = s.reg a := by
  have hshow : ∀ t : State, t.showCal.reg a = t.reg a := fun t => by
    unfold State.showCal
    extract_lets any sens done t1 t2
    have h2 : t2.reg a = t.reg a := by simp only [t2, t1, reg_setFld_ne hs]
    split
    · exact (reg_setFld_ne hs).trans h2
    · exact h2
  unfold State.calBegin
  extract_lets t1 t2 t3
  have h1 : t1.reg a = s.reg a := reg_setFld_ne ht
  have h2 : t2.reg a = s.reg a := by
    unfold t2
    split
    · exact (reg_setFld_ne ht).trans h1
    · exact h1
  rw [hshow]
  simp only [t3, hc]
  exact h2

theorem strobe_calBegin {q : Nat} (hp : p < 6) : (s.calBegin (40 + p)).strobe q = s.strobe q := by
  have hc : calClass (40 + p) = .firing := by
    unfold calClass
    rw [if_neg (by omega), if_neg (by omega), if_neg (by omega), if_pos (by omega)]
  unfold State.strobe State.fld
  rw [reg_calBegin_firing hc (by simp only [Reg.GY_CFG, Reg.CAL_TGT_STATUS]; omega) (by decide)]

/-- Port `p` measures at the timer (R624). -/
def firingDue (s : State) (p : Nat) : State :=
  if ¬ s.bgPaused ∧ s.strobe p ∧ s.tgt (40 + p) Fld.CAL_TGT_STATUS_MODE ≠ 0 ∧ ¬ s.calBusy (40 + p) then s.calBegin (40 + p)
  else s

theorem firingDue_of_not_strobe (h : s.strobe p = false) : firingDue s p = s := if_neg (by simp [h])

theorem exec_firingCalTimer : exec .firingCalTimer s = .next ((List.range 6).foldl firingDue s) := rfl

theorem exec_firingCalTimer_one {p : Fin 6} (hrun : s.bgPaused = false) (hq : ∀ q < 6, s.strobe q = true ↔ q = p.val)
    (hmode : s.tgt (40 + p) Fld.CAL_TGT_STATUS_MODE ≠ 0) (hidle : s.calBusy (40 + p) = false) :
    exec .firingCalTimer s = .next (s.calBegin (40 + p)) := by
  have hone : firingDue s p = s.calBegin (40 + p) :=
    if_pos ⟨by simp [hrun], (hq p p.isLt).2 rfl, hmode, by simp [hidle]⟩
  have hother : ∀ q ∈ List.range 6, q ≠ p.val → s.strobe q = false := fun q hmem hne =>
    Bool.eq_false_iff.2 fun h => hne ((hq q (List.mem_range.1 hmem)).1 h)
  rw [exec_firingCalTimer, foldl_once (List.mem_range.2 p.isLt) List.nodup_range
    (fun q hmem hne => firingDue_of_not_strobe (hother q hmem hne))
    (fun q hmem hne => firingDue_of_not_strobe (by rw [hone, strobe_calBegin p.isLt]; exact hother q hmem hne)), hone]

theorem exec_firingCalTimer_paused (h : s.bgPaused = true) : exec .firingCalTimer s = .next s :=
  congrArg Host.Outcome.next (List.foldlRecOn (motive := fun t => t = s) (List.range 6) firingDue rfl
    fun t ht q _ => by rw [ht]; exact if_neg (by simp [h]))

/-! ### Converter swaps (R472, R623) -/

/-- A swap that is requested for axis `x` need not wait (R491). -/
structure MaySwap (s : State) (x : Fin 2) : Prop where
  asked : x.val ∈ s.cal.swaps
  firing : x.val = 0 → s.swathLive = false
  rest : x.val = 1 → s.axState 1 ≤ 1

/-- The state in which the request of axis `x` is served. -/
def unswapped (s : State) (x : Nat) : State := s.onCal fun c => { c with swaps := c.swaps.filter (· != x) }

/-- The idle converter of axis `x` becomes the one in service, and the other is to calibrate next (R623). -/
def swapped (s : State) (x : Nat) : State :=
  let s := s.setFld (Reg.FB_AX_STATUS x) Fld.FB_AX_STATUS_CONV (1 - s.fld (Reg.FB_AX_STATUS x) Fld.FB_AX_STATUS_CONV)
  let known := Bits.b2n (s.regN (Reg.CAL_TGT_COUNT (s.convIdle x)) != 0)
  let s := (s.setFld (Reg.FB_AX_AN_STATUS x) Fld.FB_AX_AN_STATUS_ALT_READY known).event Reg.CAL_EVENT Fld.CAL_EVENT_SWAP
  (s.onCal fun c => { c with second := c.second ++ [x] }).convBegin x

theorem exec_converterSwap_may {x : Fin 2} {m o : Int × Int} (h : MaySwap s x) {a b : Nat}
    (ha : (unswapped s x).convAngle (s.convOf x) m = (a, u)) (hb : u.convAngle (s.convIdle x) o = (b, v)) :
    exec (.converterSwap x m o) s =
      if ¬ anglesAgree a b ∨ v.ampFault x then .next (v.event (Reg.FB_AX_EVENT x) Fld.FB_AX_EVENT_SWAP_REFUSED)
      else .next (swapped v x) := by
  obtain ⟨hasked, hfiring, hrest⟩ := h
  have hwait : ¬ ((x.val = 0 ∧ s.swathLive = true) ∨ (x.val = 1 ∧ 1 < s.axState 1)) := by
    rintro (⟨hx, hl⟩ | ⟨hx, hl⟩)
    · simp [hfiring hx] at hl
    · have := hrest hx
      omega
  have hu : u = ((unswapped s x).convAngle (s.convOf x) m).2 := by rw [ha]
  have hidle : u.convIdle x = s.convIdle x := by rw [hu]; rfl
  have hserved : execConverterSwap x m o s =
      (fun r : Nat × State => (fun q : Nat × State =>
        if ¬ anglesAgree r.1 q.1 ∨ q.2.ampFault x then
          (.next (q.2.event (Reg.FB_AX_EVENT x) Fld.FB_AX_EVENT_SWAP_REFUSED) : Host.Outcome State Fault Refusal)
        else .next (swapped q.2 x)) (r.2.convAngle (r.2.convIdle x) o)) ((unswapped s x).convAngle (s.convOf x) m) :=
    (if_neg (by simp [hasked])).trans (if_neg hwait)
  change execConverterSwap x m o s = _
  rw [hserved, ha]
  dsimp only
  rw [hidle, hb]

theorem cal_swapped {x : Nat} : (swapped s x).cal = { s.cal with second := s.cal.second ++ [x] } :=
  (convBegin_keeps (F := (· ≠ .cal)) .refl (by simp)).same .cal (· rfl)

theorem cal_of_angles {x : Fin 2} {m o : Int × Int} {a b : Nat}
    (ha : (unswapped s x).convAngle (s.convOf x) m = (a, u)) (hb : u.convAngle (s.convIdle x) o = (b, v)) :
    v.cal = { s.cal with swaps := s.cal.swaps.filter (· != x.val) } := by
  have hu : u = ((unswapped s x).convAngle (s.convOf x) m).2 := by rw [ha]
  have hv : v = (u.convAngle (s.convIdle x) o).2 := by rw [hb]
  rw [hv, hu]
  rfl

theorem not_mem_filter_ne {l : List Nat} {x : Nat} : x ∉ l.filter (· != x) := by simp

/-! ### The DELAY of a row (R624) -/

/-- Row `r` of port `p` moves toward the goal that its mode gives (R624). -/
structure Moves (s : State) (r : Fin 4096) (p : Nat) : Prop where
  port : p = rowPort s.bmap r
  real : p < 6
  mode : s.tgt (40 + p) Fld.CAL_TGT_STATUS_MODE ≠ 0
  points : s.firingSet (40 + p) = true

theorem exec_firingDelayStep_moves {r : Fin 4096} (h : Moves s r p) : exec (.firingDelayStep r) s = .next
    (if s.rowDelay r < s.delayGoal p r then s.stepDelay p r (s.rowDelay r + 1)
      else if s.delayGoal p r < s.rowDelay r then s.stepDelay p r (s.rowDelay r - 1) else s) := by
  obtain ⟨rfl, hreal, hmode, hpoints⟩ := h
  exact if_neg (by simp [hreal, hmode, hpoints])

theorem stepDelay_may {r d : Nat} (h : s.mayDelay p r d = true) :
    s.stepDelay p r d = (s.setDelay r d).onCal fun c => { c with stepAt := Kv.set c.stepAt r s.clk.ticks } :=
  if_pos h

theorem stepDelay_may_not {r d : Nat} (h : s.mayDelay p r d = false) : s.stepDelay p r d = s := if_neg (by simp [h])

/-- Settles O37: a target's class and what is free decide RUN, its class alone FIX and INTERP, firmware's pause the timers,
the request and the angles a swap, and the goal a row's DELAY. -/
theorem calibrationServes : Obligations.CalibrationServes := by
  unfold Obligations.CalibrationServes
  refine ⟨?_, ?_, ?_, ?_, ?_, ?_, ?_, ?_, ?_, ?_, ?_, ?_, ?_, ?_, ?_, ?_, ?_, ?_, ?_⟩
  case refine_1 =>
    intro path w s n hn hidle hlane hnothing hsensor hconv hport
    exact exec_calRun_begins hn ⟨hidle, hlane, hnothing, hsensor, hconv, hport⟩
  case refine_2 =>
    intro path w s n hn h
    refine exec_calRun_refused hn ?_
    rintro ⟨hidle, hlane, hnothing, hsensor, hconv, hport⟩
    rcases h with h | h | h | ⟨hc, h⟩ | ⟨hc, h⟩ | ⟨hc, h⟩
    · simp [hidle] at h
    · exact hlane h
    · exact hnothing h
    · simp [hsensor hc] at h
    · simp [hconv hc] at h
    · simp [hport hc] at h
  case refine_3 =>
    intro path w s u h
    change execCalFix path w s = _
    rw [execCalFix, h]
    rfl
  case refine_4 =>
    intro path w s u h
    change execCalFix path w s = _
    rw [execCalFix, h]
    rfl
  case refine_5 =>
    intro path w s h
    change execCalInterp path w s = _
    rw [execCalInterp, setMode_default h]
    rfl
  case refine_6 =>
    intro path w s hb hf
    change execCalInterp path w s = _
    rw [execCalInterp, setMode_none hb hf]
    rfl
  case refine_7 =>
    intro w s n hn _ hle
    exact ⟨_, exec_calClearFail hn hle, fld_setFld_self (by decide), setFld_cal⟩
  case refine_8 => exact fun s => exec_sensorCalTimer_begins
  case refine_9 => exact fun x s => exec_convCalTimer_begins
  case refine_10 => exact fun p s _ => exec_firingCalTimer_one
  case refine_11 =>
    exact fun x s h => ⟨if_pos h, congrArg Host.Outcome.next (if_pos h), exec_firingCalTimer_paused h⟩
  case refine_12 => exact fun n a b s hbusy hagree => (if_neg (by simp [hbusy])).trans (if_pos hagree)
  case refine_13 => exact fun n a b s hbusy hagree => (if_neg (by simp [hbusy])).trans (if_neg (by simp [hagree]))
  case refine_14 =>
    intro x m o s u v a b hasked hfiring hrest ha hb hagree hamp
    refine ⟨_, (exec_converterSwap_may ⟨hasked, hfiring, hrest⟩ ha hb).trans (if_neg (by simp [hagree, hamp])), ?_⟩
    beta_reduce
    rw [cal_swapped, cal_of_angles ha hb]
    exact ⟨by simp, not_mem_filter_ne⟩
  case refine_15 =>
    intro x m o s u v a b hasked hfiring hrest ha hb hno
    refine ⟨_, (exec_converterSwap_may ⟨hasked, hfiring, hrest⟩ ha hb).trans (if_pos (by simpa using hno)), ?_⟩
    beta_reduce
    rw [event_cal, cal_of_angles ha hb]
    exact ⟨rfl, not_mem_filter_ne⟩
  case refine_16 => exact fun x m o s hasked hwait => (if_neg (by simp [hasked])).trans (if_pos hwait)
  case refine_17 =>
    intro r s p hp hreal hmode hpoints hup hmay
    rw [exec_firingDelayStep_moves ⟨hp, hreal, hmode, hpoints⟩, if_pos hup, stepDelay_may hmay]
  case refine_18 =>
    intro r s p hp hreal hmode hpoints hdown hmay
    rw [exec_firingDelayStep_moves ⟨hp, hreal, hmode, hpoints⟩, if_neg (by omega), if_pos hdown, stepDelay_may hmay]
  case refine_19 =>
    intro r s p hp hreal hmode hpoints hup hdown
    rw [exec_firingDelayStep_moves ⟨hp, hreal, hmode, hpoints⟩]
    split
    next h => rw [stepDelay_may_not (hup h)]
    next =>
      split
      next h => rw [stepDelay_may_not (hdown h)]
      next => rfl

end Sys2Proof.Proofs
end

section
/-! Scope: what the logging of an error writes (spec/19_errors_management.md, R643 to R648), in any state: the registers of
the error block, the log, and nothing else. -/

namespace Sys2Proof.Proofs

open Sys2Proof.Machine Sys2Proof.Safety Sys2Proof.Laws

variable {s t u : State}

/-- `t` has every register outside the error block as `s` has it. -/
def OutsideKept (s t : State) : Prop := ∀ a, OutsideErr a → t.reg a = s.reg a

theorem OutsideKept.refl : OutsideKept s s := fun _ _ => rfl

theorem OutsideKept.setReg {a : Nat} {w : Word} (h : OutsideKept s t) (ha : 0x170000 ≤ a ∧ a < 0x180000) :
    OutsideKept s (t.setReg a w) :=
  fun b hb => (getD_put_other (by unfold OutsideErr at hb; omega)).trans (h b hb)

theorem OutsideKept.ringEnter {r : ErrRec} (h : OutsideKept s t) : OutsideKept s (t.ringEnter r) := by
  unfold State.ringEnter
  exact OutsideKept.setReg (OutsideKept.setReg h (by decide)) (by decide)

theorem OutsideKept.slotFill {r : ErrRec} {b : Bool} (h : OutsideKept s t) : OutsideKept s (t.slotFill r b) := by
  unfold State.slotFill
  dsimp only
  split
  · exact OutsideKept.setReg (OutsideKept.setReg h (by decide)) (by decide)
  · exact OutsideKept.setReg h (by decide)

theorem OutsideKept.slotCount {o r : ErrRec} (h : OutsideKept s t) : OutsideKept s (t.slotCount o r) := by
  unfold State.slotCount
  exact OutsideKept.setReg (OutsideKept.setReg h (by decide)) (by decide)

theorem OutsideKept.fatalStore {r : ErrRec} (h : OutsideKept s t) : OutsideKept s (t.fatalStore r) :=
  List.foldlRecOn (motive := OutsideKept s) _ _ h fun u hu i hi =>
    hu.setReg (by have := List.mem_range.1 hi; simp only [Reg.ERR_LAST_FATAL]; omega)

theorem outsideKept_logErr {c : Cls} {b k n i : Nat} : OutsideKept s (s.logErr c b k n i) := by
  have hclass : 0x170000 ≤ Reg.ERR_CLASS_COUNT (c.code - 1) ∧ Reg.ERR_CLASS_COUNT (c.code - 1) < 0x180000 := by
    cases c <;> decide
  unfold State.logErr
  extract_lets r s1 s2
  have h1 : OutsideKept s s1 := OutsideKept.refl.setReg hclass
  have h2 : OutsideKept s s2 := by
    unfold s2
    clear_value s1
    split
    · exact h1.slotCount
    · split
      · exact h1.slotFill
      · split
        · exact h1.slotFill
        · exact h1.ringEnter
  clear_value s2 s1
  cases c
  case fatal => exact (h2.fatalStore.setReg (by decide)).setReg (by decide)
  all_goals exact h2

/-- An error that is raised writes its EVENT register, and registers of the error block, in any state. -/
theorem reg_raiseInfo_ne {c : Cls} {ev k n i a : Nat} {f : Field} (ha : OutsideErr a) (hn : a ≠ ev) :
    (s.raiseInfo c ev f k n i).reg a = s.reg a :=
  (outsideKept_logErr a ha).trans (getD_put_other hn)

end Sys2Proof.Proofs
end

section
/-! Scope: frames of the ingest link and layout from the fabric (spec/16_ingest_dma.md, R386, R524 to R529, R535, R538). -/

namespace Sys2Proof.Proofs

open Sys2Proof.Machine Sys2Proof.Bits Sys2Proof.Safety Sys2Proof.Laws

variable {s t u v : State} {fr bs : List Byte} {f : FabFrame}

/-! ### The room of the replay ring rests on the fabric alone (R386) -/

/-- `t` has the fabric, its tables and its registers as `s` has them; they lie below the ingest block. -/
structure FabricKept (s t : State) : Prop where
  fab : t.fab = s.fab
  tables : t.tables = s.tables
  reg : ∀ a < 0x50000, t.reg a = s.reg a

namespace FabricKept

variable (h : FabricKept s t)
include h

theorem fld {a : Nat} {x : Field} (ha : a < 0x50000) : t.fld a x = s.fld a x := congrArg x.get (h.reg a ha)

theorem pair {a : Nat} (ha : a < 0x4FF00) : t.pair a = s.pair a := by
  simp only [State.pair, State.regN, h.reg a (by omega), h.reg (a + 4) (by omega)]

theorem serial : t.serial = s.serial := h.pair (by decide)

theorem rootSerial : t.rootSerial = s.rootSerial := h.pair (by decide)

theorem fport {p : Nat} : t.fport p = s.fport p := by simp only [State.fport, h.fab]

theorem fpState {p : Nat} (hp : p < 4) : t.fpState p = s.fpState p :=
  h.fld (by simp only [Reg.FAB_PORT_STATUS]; omega)

theorem upPort : t.upPort = s.upPort := by
  have hroot : t.isRoot = s.isRoot := congrArg (· != 0) (h.fld (by decide))
  simp only [State.upPort, hroot, h.fab, h.rootSerial, h.serial]

theorem beyond {d : List (Nat × Nat)} {n k : Nat} : t.beyond d n k = s.beyond d n k := by
  induction n generalizing k with
  | zero => rfl
  | succ n ih =>
    have hport : ∀ q : Nat, ((List.range 4).find? fun p => (t.fport p).neigh == k && (t.fport p).neighPort == q &&
        t.fpState p == 3) = (List.range 4).find? fun p => (s.fport p).neigh == k && (s.fport p).neighPort == q &&
        s.fpState p == 3 :=
      fun q => List.find?_congr fun p hp => by rw [h.fport, h.fpState (List.mem_range.1 hp)]
    simp only [State.beyond, h.fab, h.serial, hport, ih]

theorem present : t.present = s.present := by simp only [State.present, State.idOf, h.fab]

theorem inGroup {g n : Nat} : t.inGroup g n = s.inGroup g n := by simp only [State.inGroup, State.tbl, h.tables]

theorem treePorts {g p : Nat} : t.treePorts g p = s.treePorts g p := by
  have hnode : t.node = s.node := h.fld (by decide)
  have hserialOf : ∀ n, t.serialOf n = s.serialOf n := fun n => by simp only [State.serialOf, h.fab]
  simp only [State.treePorts, h.fab, h.rootSerial, h.present, hnode, h.inGroup, hserialOf, h.upPort, h.beyond]
  exact List.filter_congr fun q hq => by rw [h.fpState (List.mem_range.1 hq)]

theorem replayRoom : t.replayRoom = s.replayRoom := by
  have hforwards : t.forwards = s.forwards := by
    have hcfg : t.flag Reg.FAB_CFG Fld.FAB_CFG_ING_FWD = s.flag Reg.FAB_CFG Fld.FAB_CFG_ING_FWD :=
      congrArg (· != 0) (h.fld (by decide))
    have hstate : t.fabState = s.fabState := h.fld (by decide)
    simp only [State.forwards, hcfg, hstate]
  have hfits : t.replayFits = s.replayFits := by
    have hsize : t.replaySize = s.replaySize := by simp only [State.replaySize, h.fld (show Reg.FAB_XFER_CFG < 0x50000 by decide)]
    simp only [State.replayFits, State.replayPlace, h.fab, hsize]
  have hgroup : t.ingGroup = s.ingGroup := h.fld (by decide)
  have hcredit : ∀ p, t.layoutCredit p = s.layoutCredit p := fun p => by simp only [State.layoutCredit, h.fport]
  simp only [State.replayRoom, hforwards, hfits, hgroup, h.treePorts, hcredit]

end FabricKept

/-! ### DATA (R527) -/

/-- What a discarded DATA frame leaves: it is counted, and logged with the address at which its channel failed. -/
def discarded (s : State) (c : Nat) : State :=
  (s.count Reg.ING_DISCARDS 1).raiseInfo .contained Reg.ING_EVENT Fld.ING_EVENT_DISCARD 0 (unitIng c)
    (s.pair (Reg.ING_CH_FAIL_LO c))

theorem fabricKept_discarded {c : Nat} : FabricKept s (discarded s c) := by
  refine ⟨by simp [discarded], by simp [discarded], fun a ha => ?_⟩
  have hdiscards : a ≠ Reg.ING_DISCARDS := by simp only [Reg.ING_DISCARDS]; omega
  have hevent : a ≠ Reg.ING_EVENT := by simp only [Reg.ING_EVENT]; omega
  exact (reg_raiseInfo_ne (.inl (by omega)) hevent).trans (getD_put_other hdiscards)

theorem takeData_discarded (hok : u.dataOk fr = false) (hroom : u.replayRoom = false) :
    u.takeData none fr = discarded u (rd fr 1 1) := by
  have hroom' : (discarded u (rd fr 1 1)).replayRoom = false := fabricKept_discarded.replayRoom.trans hroom
  unfold State.takeData
  rw [hok]
  exact if_pos (.inr (by rw [← discarded, hroom']; decide))

/-- A discarded frame's credits return while the ring has room (R386, R527). -/
theorem takeData_returned (hok : u.dataOk fr = false) (hroom : u.replayRoom = true) : u.takeData none fr =
    ((discarded u (rd fr 1 1)).onIng fun g => { g with
      granted := Kv.set g.granted (16 + rd fr 1 1) (Kv.getD g.granted (16 + rd fr 1 1) 0 + divUp (20 + rd fr 2 2) 64)
      }).ingCredit (16 + rd fr 1 1) := by
  have hroom' : (discarded u (rd fr 1 1)).replayRoom = true := fabricKept_discarded.replayRoom.trans hroom
  unfold State.takeData
  rw [hok]
  exact if_neg (by rw [← discarded, hroom']; decide)

theorem takeData_stream {d : Desc} (hok : u.dataOk fr = true) (hd : (u.chan (rd fr 1 1)).desc = some d)
    (hs : bit d.flags 0 = true) : u.takeData none fr =
      (u.setPair (Reg.ING_CH_SOFS_LO (rd fr 1 1)) (rd fr 8 8 + rd fr 2 2)).onChan (rd fr 1 1) fun x => { x with
        taken := x.taken + rd fr 2 2, snoop := [], snoopers := [] } := by
  unfold State.takeData
  simp only [hok, hd, hs, Bool.not_true, Bool.false_eq_true, if_false]
  rfl

theorem takeData_memory {d : Desc} (hok : u.dataOk fr = true) (hd : (u.chan (rd fr 1 1)).desc = some d)
    (hm : bit d.flags 0 = false) {us : List (Nat × Word)}
    (hus : us = if (u.chan (rd fr 1 1)).taken = 0 then u.snoopersOf pointIngest (rd fr 1 1)
      else (u.chan (rd fr 1 1)).snoopers) : u.takeData none fr =
      ((u.dramWrite 0 (d.dst + (rd fr 8 8 - d.src)) ((fr.drop 16).take (rd fr 2 2))).setPair
        (Reg.ING_CH_SOFS_LO (rd fr 1 1)) (rd fr 8 8 + rd fr 2 2)).onChan (rd fr 1 1) fun x => { x with
        taken := x.taken + rd fr 2 2
        snoop := if us.isEmpty then [] else x.snoop ++ (fr.drop 16).take (rd fr 2 2)
        snoopers := us } := by
  subst hus
  unfold State.takeData
  simp only [hok, hd, hm, Bool.not_false, Bool.not_true, Bool.false_eq_true, if_false, if_true]

/-- A DATA frame that is taken is passed on (R386). -/
theorem exec_dataFrame_taken (h : IngFrameIn s fr 1) (hu : u = ingIn s fr (16 + rd fr 1 1)) (hok : u.dataOk fr = true) :
    exec (.dataFrame fr) s = .next ((u.takeData none fr).ingForward fr).grantAll := by
  obtain ⟨-, -, -, hty, -⟩ := id h
  refine (if_neg (not_not.2 hty)).trans (congrArg _ ((ingRx_taken h).trans ?_))
  rw [← hu, hok]
  rfl

theorem exec_dataFrame_discarded (h : IngFrameIn s fr 1) (hu : u = ingIn s fr (16 + rd fr 1 1)) (hok : u.dataOk fr = false) :
    exec (.dataFrame fr) s = .next (u.takeData none fr).grantAll := by
  obtain ⟨-, -, -, hty, -⟩ := id h
  refine (if_neg (not_not.2 hty)).trans (congrArg _ ((ingRx_taken h).trans ?_))
  rw [← hu, hok]
  rfl

/-! ### CONTROL frames (R528, R529, R535) -/

/-- A frame that is not good or not in order is answered with LACK and NAK; without a lane neither it nor the LACK passes. -/
theorem ingRx_bad {k : State → State} (hr : s.ingReady = true) (hbad : ingGood fr = false ∨ rd fr 4 2 ≠ s.ing.rxNext) :
    s.ingRx fr k = s.ingLack true := by
  unfold State.ingRx
  rw [if_neg (not_not.2 hr)]
  split
  next hm =>
    have hlane : timeLane (s.portMask 0) = 0 := by rw [hm]; rfl
    have hlanes : maskLanes 0 = [] := by decide
    exact (if_pos (by rw [hlane, hlanes])).symm
  next => exact if_pos (by simpa using hbad)

/-- What a CONTROL frame of type `ty` does in the state that has counted it. -/
theorem ingRx_control {ty : Nat} {k : State → State} (h : IngFrameIn s fr ty) (hty : ty ≠ 1) (hu : u = ingIn s fr 0)
    (hk : k u = v) : s.ingRx fr k = v.grantControl := by
  rw [ingRx_taken h, if_neg hty, ← hu, hk]

theorem takeDescWr_in (h : u.inDesc (rd fr 8 8) (rd fr 2 2) = true) :
    u.takeDescWr none fr = u.dramWrite 0 (rd fr 8 8) ((fr.drop 16).take (rd fr 2 2)) := by
  simp [State.takeDescWr, h]

theorem takeDescWr_out (h : u.inDesc (rd fr 8 8) (rd fr 2 2) = false) : u.takeDescWr none fr =
    u.raiseInfo .contained Reg.ING_EVENT Fld.ING_EVENT_DESC_RANGE 0 (unitIng 0) (rd fr 8 8) := by
  simp [State.takeDescWr, h]

/-! ### ING frames of the fabric (R386, R538) -/

theorem takeIng_old {p : Nat} {r : McRx} (hr : u.fab.rx.find? (fun r => r.src == f.src) = some r) (hne : f.arg ≠ r.next)
    (hge : seqGe f.arg r.next = false) : State.takeIng p u f = u := by
  simp [State.takeIng, hr, hne, hge]

theorem takeIng_gap {p : Nat} {r : McRx} (hr : u.fab.rx.find? (fun r => r.src == f.src) = some r) (hne : f.arg ≠ r.next)
    (hge : seqGe f.arg r.next = true) (hnak : r.nakAt = none) : State.takeIng p u f =
      ((u.event Reg.FAB_EVENT Fld.FAB_EVENT_MC_GAP).onFab fun b => { b with
        rx := (b.rx.filter fun x => x.src != r.src) ++ [{ r with nakAt := some u.clk.ticks }] }).fabTo 0x18 f.src 0
        (toLE 1 r.group ++ [0, 0, 0] ++ toLE 4 r.next) := by
  simp [State.takeIng, hr, hne, hge, hnak]

theorem takeIng_first {p : Nat} (hg : bit f.flags 0 = false) (hrx : u.fab.rx = []) (harg : f.arg = 0)
    (hinit : u.ingUninit f.pay = false) (hheld : u.ing.layoutHeld = []) (hhold : u.mustHold f.pay = false)
    (hv : v = u.onFab fun b => { b with rx := [⟨f.src, 0, 1, 1, none⟩] }) :
    State.takeIng p u f = v.takeIngest (some f.src) f.pay := by
  have hheld' : v.ing.layoutHeld = [] := by rw [hv]; exact hheld
  have hhold' : v.mustHold f.pay = false := by rw [hv]; exact hhold
  have hput : (u.onFab fun b => { b with rx := (b.rx.filter fun x => x.src != f.src) ++ [⟨f.src, 0, 1, 1, none⟩] }) = v := by
    rw [hv]
    simp [State.onFab, hrx]
  simp [State.takeIng, hrx, hg, harg, hinit, hput, hheld', hhold']

/-- Settles O42: a frame taken goes through `ingRx_taken` or `fabRx_taken` to what its own function does. -/
theorem ingestFramesTaken : Obligations.IngestFramesTaken := by
  unfold Obligations.IngestFramesTaken
  refine ⟨?_, ?_, ?_, ?_, ?_, ?_, ?_, ?_, ?_, ?_, ?_, ?_, ?_, ?_⟩
  case refine_1 =>
    rintro s u v fr c n d h hu rfl rfl hok hd hs hv
    rw [exec_dataFrame_taken h hu hok, takeData_stream hok hd hs, hv]
  case refine_2 =>
    rintro s u v fr bs c n d us h hu rfl rfl rfl hok hd hm hus hv
    rw [exec_dataFrame_taken h hu hok, takeData_memory hok hd hm hus, hv]
  case refine_3 =>
    rintro s u fr c h rfl hu hok hroom
    rw [exec_dataFrame_discarded h hu hok, takeData_discarded hok hroom]
    rfl
  case refine_4 =>
    rintro s u fr c k h rfl hu hok hroom rfl
    rw [exec_dataFrame_discarded h hu hok, takeData_returned hok hroom]
    rfl
  case refine_5 =>
    intro s u fr h hu hout
    obtain ⟨-, -, -, hty, -⟩ := id h
    exact (if_neg (not_not.2 hty)).trans (congrArg _ (ingRx_control h (by decide) hu
      ((if_neg (by simp [hout])).trans (takeDescWr_out hout))))
  case refine_6 =>
    intro s fr hr hbad
    exact ⟨fun hty => (if_neg (not_not.2 hty)).trans (congrArg _ (ingRx_bad hr hbad)),
      fun hty => (if_neg (not_not.2 hty)).trans (congrArg _ (ingRx_bad hr hbad)),
      fun hty => (if_neg (not_not.2 hty)).trans (congrArg _ (ingRx_bad hr hbad)),
      fun hty => (if_neg (not_not.2 hty)).trans (congrArg _ (ingRx_bad hr hbad))⟩
  case refine_7 =>
    intro s u fr h hu hin
    obtain ⟨-, -, -, hty, -⟩ := id h
    refine (if_neg (not_not.2 hty)).trans (congrArg _ (ingRx_control h (by decide) hu ((if_pos hin).trans ?_)))
    rw [takeDescWr_in hin]
  case refine_8 =>
    intro s u fr h hu
    obtain ⟨-, -, -, hty, -⟩ := id h
    exact (if_neg (not_not.2 hty)).trans (congrArg _ (ingRx_control h (by decide) hu rfl))
  case refine_9 =>
    intro s u fr h hu
    obtain ⟨-, -, -, hty, -⟩ := id h
    have hcmd : ∀ op, rd fr 16 1 = op → s.chFrame op fr = ((u.takeChCmd fr).ingForward fr).grantControl := fun op hop =>
      (if_neg (by simp [hty, hop])).trans (ingRx_control h (by decide) hu rfl)
    exact ⟨fun hop => congrArg Host.Outcome.next (hcmd 1 hop), fun hop => congrArg Host.Outcome.next (hcmd 2 hop),
      fun hop => congrArg Host.Outcome.next (hcmd 3 hop)⟩
  case refine_10 =>
    intro s u fr h hu hmember
    obtain ⟨-, -, -, hty, -⟩ := id h
    exact (if_neg (not_not.2 hty)).trans (congrArg _ (ingRx_control h (by decide) hu (if_pos hmember)))
  case refine_11 =>
    intro s u fr h hu hmember
    obtain ⟨-, -, -, hty, -⟩ := id h
    exact (if_neg (not_not.2 hty)).trans (congrArg _ (ingRx_control h (by decide) hu (if_neg (by simp [hmember]))))
  case refine_12 =>
    rintro p fr s u f r h rfl hr hne hge
    exact next_fabRx h (takeIng_old hr hne hge)
  case refine_13 =>
    rintro p fr s u f r h rfl hr hne hge hnak
    exact next_fabRx h (takeIng_gap hr hne hge hnak)
  case refine_14 =>
    rintro p fr s u f v h rfl hrx harg hinit hheld hhold hv
    obtain ⟨-, -, -, hg, -⟩ := id h
    exact next_fabRx h (takeIng_first hg hrx harg hinit hheld hhold hv)

end Sys2Proof.Proofs
end

section
/-! Scope: reads and writes of the DRAM (spec/15_dram_memory_integrity.md, R497 to R512, R653, R654): what a write leaves in
memory where no word is in error and no flip mask is armed, and how a request is served or held. -/

namespace Sys2Proof.Proofs

open Sys2Proof.Machine Sys2Proof.Safety Sys2Proof.Laws

variable {s t u : State} {m : List (Nat × Byte)} {w : Word}

/-! ### Memory under the merge buffer (R505 to R508, R512) -/

/-- `t` has the bytes `m`, no word in error, and `w` in MI_FLIP_CTRL. -/
structure Clean (m : List (Nat × Byte)) (w : Word) (t : State) : Prop where
  mem : t.mem = m
  errs : t.dram.errs = []
  flip : t.reg Reg.MI_FLIP_CTRL = w

theorem Clean.setReg {a : Nat} {v : Word} (h : Clean m w t) (ha : Reg.MI_FLIP_CTRL ≠ a) : Clean m w (t.setReg a v) :=
  ⟨h.mem, h.errs, (getD_put_other ha).trans h.flip⟩

theorem Clean.raiseInfo {c : Cls} {ev k n i : Nat} {f : Field} (h : Clean m w t) (he : Reg.MI_FLIP_CTRL ≠ ev) :
    Clean m w (t.raiseInfo c ev f k n i) :=
  ⟨raiseInfo_mem.trans h.mem, (congrArg Dram.errs raiseInfo_dram).trans h.errs,
    (reg_raiseInfo_ne (.inl (by decide)) he).trans h.flip⟩

/-- A change of the controllers' own data that leaves the errors. -/
theorem Clean.onDram {d : Dram} (h : Clean m w t) (hd : d.errs = t.dram.errs) : Clean m w { t with dram := d } :=
  ⟨h.mem, hd.trans h.errs, h.flip⟩

theorem Clean.activate {r b row : Nat} (h : Clean m w t) : Clean m w (t.activate r b row) := by
  unfold State.activate
  extract_lets l i n hit l' others th _ t1 t2 th' _ t3
  have h1 : Clean m w t1 := h.onDram rfl
  have h2 : Clean m w t2 := (h1.setReg (by decide)).setReg (by decide)
  have h3 : Clean m w t3 := h2.onDram rfl
  split
  · exact h1
  · have hshown : Clean m w (t3.showThrottle.emit (.rfm b)) := by
      obtain ⟨hmem, herrs, hflip⟩ := h3.setReg (v := BitVec.ofNat 32 (t3.dram.throttled.foldl (fun v e => v ||| 2 ^ e.1) 0))
        (show Reg.MI_FLIP_CTRL ≠ Reg.DC_THROTTLED by decide)
      exact ⟨hmem, herrs, hflip⟩
    exact hshown.raiseInfo (by decide)

theorem Clean.openRow {r b row : Nat} (h : Clean m w t) : Clean m w (t.openRow r b row) := by
  unfold State.openRow
  split
  · exact h
  · exact Clean.activate (h.onDram rfl)

theorem Clean.foldl {α : Type} {f : State → α → State} {l : List α} (h : Clean m w t)
    (hf : ∀ u x, Clean m w u → Clean m w (f u x)) : Clean m w (l.foldl f t) :=
  List.foldlRecOn (motive := Clean m w) l f h fun u hu x _ => hf u x hu

theorem Clean.openRows {r a n : Nat} (h : Clean m w t) : Clean m w (t.openRows r a n) :=
  h.foldl fun _ _ hu => hu.foldl fun _ _ hv => hv.openRow

theorem Clean.queueWrite {l : Nat} (h : Clean m w t) : Clean m w (t.queueWrite l) := by
  unfold State.queueWrite
  dsimp only
  split
  · exact h
  · exact h.onDram rfl

/-- Nothing is flipped while no mask is armed. -/
theorem flipDram_unarmed {a : Nat} (h : t.flag Reg.MI_FLIP_CTRL Fld.MI_FLIP_CTRL_ARM = false) : t.flipDram a = t :=
  if_neg (by simp [h])

theorem Clean.unarmed (h : Clean m w t) (hw : Fld.MI_FLIP_CTRL_ARM.get w = 0) :
    t.flag Reg.MI_FLIP_CTRL Fld.MI_FLIP_CTRL_ARM = false := by
  simp [State.flag, State.fld, h.flip, hw]

theorem Clean.errOf {x : Nat} (h : Clean m w t) : t.errOf x = 0 := by simp [State.errOf, h.errs, Kv.getD, Kv.get]

theorem Clean.setErr {x : Nat} (h : Clean m w t) : Clean m w (t.setErr x 0) :=
  ⟨h.mem, by simp [State.setErr, h.errs, Kv.put, Kv.del], h.flip⟩

/-- A partly covered word without an error is merged and written back: its bytes stand already. -/
theorem Clean.rewriteWord {x k : Nat} (h : Clean m w t) : Clean m w (t.rewriteWord x k 0) := by
  have hres : residual (t.errOf x) = 0 := by rw [h.errOf]; decide
  unfold State.rewriteWord
  rw [hres]
  exact h.setErr

/-- The words of an entry are written, each from bytes that stand already (R507). -/
theorem Clean.flushEntry {e : Merge} (h : Clean m w t) (hw : Fld.MI_FLIP_CTRL_ARM.get w = 0) :
    Clean m w (t.flushEntry e) := by
  unfold State.flushEntry
  extract_lets rest _ t1 t2 t3
  have h1 : Clean m w t1 := h.onDram rfl
  have h2 : Clean m w t2 := h1.openRows.queueWrite
  have h3 : Clean m w t3 := h2.foldl fun u i hu => by
    have hkind : eccKind (u.errOf (e.line / 8 + i)) = 0 := by rw [hu.errOf]; rfl
    extract_lets k x
    split_ifs
    · exact hu
    · exact hu.setErr
    · rw [hkind]
      exact hu.rewriteWord
  split
  · rw [flipDram_unarmed (h3.unarmed hw)]
    exact h3
  · exact h3

theorem Clean.mergeLine {r l k : Nat} (h : Clean m w t) (hw : Fld.MI_FLIP_CTRL_ARM.get w = 0) :
    Clean m w (t.mergeLine r l k) := by
  unfold State.mergeLine
  split
  next e _ =>
    extract_lets e' upd _ t1
    have h1 : Clean m w t1 := h.onDram rfl
    split
    · exact h1.flushEntry hw
    · exact h1
  next =>
    extract_lets e t1 t2 x
    have h1 : Clean m w t1 := h.openRows.queueWrite
    have h2 : Clean m w t2 := by
      unfold t2
      split
      · split
        · exact h.flushEntry hw
        · exact h
      · exact h
    split
    · split
      · rw [flipDram_unarmed (h1.unarmed hw)]
        exact h1
      · exact h1
    · exact h2.onDram rfl

/-- What a write leaves in memory: its bytes, and every other byte as it was. -/
theorem mem_dramWrite {r a : Nat} {d : List Byte} (he : s.dram.errs = [])
    (hw : s.flag Reg.MI_FLIP_CTRL Fld.MI_FLIP_CTRL_ARM = false) : (s.dramWrite r a d).mem = (s.poke a d).mem := by
  have harm : Fld.MI_FLIP_CTRL_ARM.get (s.reg Reg.MI_FLIP_CTRL) = 0 := by simpa [State.flag, State.fld] using hw
  have htaken : Clean (s.poke a d).mem (s.reg Reg.MI_FLIP_CTRL) (s.takeBytes a d) := by
    refine ⟨rfl, ?_, reg_of_regs poke_regs _⟩
    simp [State.takeBytes, poke_dram, he]
  unfold State.dramWrite
  split
  next hd => rw [List.isEmpty_iff.1 hd]; rfl
  next => exact (htaken.foldl fun u i hu => hu.mergeLine harm).mem

/-! ### Requests (R504, R510) -/

theorem serveReq_write {r a : Nat} {d : List Byte} (h : u.dueReq ⟨r + 16, 0, a, d⟩ = true) :
    u.serveReq ⟨r + 16, 0, a, d⟩ = u.dramWrite r a d :=
  (if_pos h).trans (if_pos (Nat.le_add_left 16 r))

theorem serveReq_read {r : Fin 11} {q a n : Nat} (h : u.dueReq ⟨r, q, a, List.replicate n 0⟩ = true) :
    u.serveReq ⟨r, q, a, List.replicate n 0⟩ = u.serveRead r q a n := by
  have hr : ¬ 16 ≤ r.val := by omega
  have hserved : u.serveReq ⟨r, q, a, List.replicate n 0⟩ = u.serveRead r q a (List.replicate n (0 : Byte)).length :=
    (if_pos h).trans (if_neg hr)
  rw [hserved, List.length_replicate]

theorem serveReq_held {q : HeldReq} (h : u.dueReq q = false) :
    u.serveReq q = { u with dram := { u.dram with held := u.dram.held ++ [q] } } :=
  if_neg (by simp [h])

theorem shutRows_nil : s.shutRows [] = s := by simp [State.shutRows]

theorem serveAll_none (h : s.dram.held = []) : s.serveAll = s := by
  have hempty : ({ s.dram with held := [] } : Dram) = s.dram := by rw [← h]
  unfold State.serveAll
  rw [h, hempty]
  rfl

/-- Settles O52: a request is served or held as it is due, and a write that is served leaves its bytes by `mem_dramWrite`. -/
theorem dramServes : Obligations.DramServes := by
  unfold Obligations.DramServes
  refine ⟨?_, ?_, ?_, ?_, ?_, ?_⟩
  case refine_1 =>
    intro r a d s hi hend hd hdue hheld herrs hflip
    refine ⟨s.dramWrite r a d, ?_, fun x _ => ?_⟩
    · refine (execDramWrite_within (m := none) hend fun _ h => by cases h).trans ?_
      rw [shutRows_nil, serveAll_none hheld, serveReq_write hdue]
    · rw [State.ld, mem_dramWrite herrs hflip, ← State.ld, ld_poke hi]
      rfl
  case refine_2 =>
    rintro r g a d k s u hgrant hend rfl hdue
    exact (execDramWrite_within hend hgrant).trans (congrArg _ (serveReq_write hdue))
  case refine_3 =>
    rintro r g a d k s u hgrant hend rfl hdue
    exact (execDramWrite_within hend hgrant).trans (congrArg _ (serveReq_held hdue))
  case refine_4 => exact fun r g a d k s hout => execDramWrite_ungranted hout
  case refine_5 =>
    rintro r q a n us k s u hend rfl hdue
    exact (execDramRead_within hend).trans (congrArg _ (serveReq_read hdue))
  case refine_6 =>
    rintro r q a n us k s u hend rfl hdue
    exact (execDramRead_within hend).trans (congrArg _ (serveReq_held hdue))

end Sys2Proof.Proofs
end

section
/-! Scope: upkeep of the DRAM (spec/15_dram_memory_integrity.md, R504): a new disturbance window while a request waits.

The window ends every throttle, and the requests that its gap has held back are served at once (R504, R510). -/

namespace Sys2Proof.Proofs

open Sys2Proof.Machine Sys2Proof.Safety Sys2Proof.Laws

/-- The state after a new window: no requester is throttled, and what waited is served. -/
theorem exec_rhWindowReset {s : State} : exec .rhWindowReset s =
    .next (State.showThrottle { s with dram := { s.dram with trackers := [], throttled := [] } }).serveAll := rfl

/-- A request of the ingest DMA waits, which its gap no longer holds back. -/
def oneHeld : State := { State.reset with dram := { State.reset.dram with held := [⟨0, 0, 0, []⟩] } }

/-- Refutes O53 in its second clause: a request that waits is served with the new window (R504), and leaves those held. The
clause lacks the premise that no request waits. -/
theorem not_dramUpkeep : ¬ Obligations.DramUpkeep := by
  unfold Obligations.DramUpkeep
  rintro ⟨-, hwindow, -⟩
  have hnext := hwindow oneHeld _ rfl
  rw [exec_rhWindowReset] at hnext
  exact absurd (congrArg (·.dram.held) (Host.Outcome.next.inj hnext)) (by decide +kernel)

end Sys2Proof.Proofs
end

section
/-! Scope: check units (spec/16_ingest_dma_checks.md, R540, R542, R547): what ENABLE and DISABLE do with a unit. -/

namespace Sys2Proof.Proofs

open Sys2Proof.Machine Sys2Proof.Safety

/-- Settles O21: a claimed unit answers OWNER, and a free one is judged by its mode, its point and its polynomial. -/
theorem checkUnitsEnable : Obligations.CheckUnitsEnable := by
  unfold Obligations.CheckUnitsEnable
  refine ⟨?_, ?_, ?_, ?_⟩
  · rintro s p u _ hfree rfl hmay
    refine (if_neg (by simp [hfree])).trans (if_neg ?_)
    rcases hmay with hgenerate | hnone | hpoly
    · simp [hgenerate]
    · simp [hnone]
    · simp [hpoly]
  · rintro s p u _ hfree rfl hcheck hpoint hpoly
    exact (if_neg (by simp [hfree])).trans (if_pos (by simp [hcheck, hpoint, hpoly]))
  · intro s p u hfree
    exact if_neg (by simp [hfree])
  · intro s p u hclaimed
    exact ⟨if_pos hclaimed, if_pos hclaimed⟩

end Sys2Proof.Proofs
end

section
/-! Scope: the error log (spec/21_faults_service.md, R646 to R650, R663, R664): processing by firmware and acknowledgement. -/

namespace Sys2Proof.Proofs

open Sys2Proof.Machine Sys2Proof.Safety

variable {s : State}

/-- Entry `e` of SEQ `q`, acknowledged: it leaves its ring entry free. -/
def ackedIn (s : State) (q : Nat) (e : RingEntry) : State :=
  { s with log := { s.log with ring := Kv.set s.log.ring (q % 256) { e with
    record := { e.record with rflags := e.record.rflags ||| rflagAcked }, isOpen := false } } }

theorem ackSeq_of_openAt {q : Nat} {e : RingEntry} (h : s.openAt q = some e) :
    s.ackSeq q = (ackedIn s q e).mirrorDue.promote e.record.unit := by
  simp only [State.ackSeq, h]
  rfl

/-- The acknowledgements that follow a record's processing (R646, R663). -/
theorem autoAck_eq :
    s.autoAck = (s.openSeqs.filter fun q => (s.openAt q).any fun e => e.processed &&
      decide (e.record.cls ≤ min (s.fld Reg.ERR_CFG Fld.ERR_CFG_AUTO_ACK_MAX) 3)).foldl (fun t q => t.ackSeq q) s := rfl

theorem exec_errRecordProcess_of_some {e : RingEntry} (h : s.nextRecord = some e) :
    exec .errRecordProcess s = .next ({ s with log := { s.log with
      ring := Kv.set s.log.ring (e.record.seq % 256) { e with processed := true } } } : State).autoAck := by
  change execErrRecordProcess s = _
  simp only [execErrRecordProcess, h]

theorem exec_errAckUpto_of_cons {w : Word} {o : Nat} {l : List Nat} (h : s.openSeqs = o :: l) :
    exec (.errAckUpto w) s = if 2 ^ 31 ≤ (w.toNat + 2 ^ 32 - o) % 2 ^ 32 then .next s else
      .next (((o :: l).filter fun q => decide ((q + 2 ^ 32 - o) % 2 ^ 32 ≤ (w.toNat + 2 ^ 32 - o) % 2 ^ 32)).foldl
        (fun t q => t.ackSeq q) s) := by
  change execErrAckUpto w s = _
  simp only [execErrAckUpto, h]

/-- Settles O55: by the next record to process, by whether the SEQ names an open record, and by the distance of the
SEQ from the oldest open one. -/
theorem errorLogServes : Obligations.ErrorLogServes := by
  unfold Obligations.ErrorLogServes
  refine ⟨?_, ?_, ?_, ?_, ?_, ?_⟩
  · rintro s _ e _ hnext rfl rfl
    rw [exec_errRecordProcess_of_some hnext, autoAck_eq]
  · intro s hnone
    change execErrRecordProcess s = _
    simp only [execErrRecordProcess, hnone]
  · rintro p w s _ e hopen rfl
    change execErrAck p w s = _
    simp only [execErrAck, hopen, ackSeq_of_openAt hopen]
    rfl
  · intro p w s hnone
    change execErrAck p w s = _
    simp only [execErrAck, hnone]
  · rintro w s o _ l hopen rfl hnear
    exact (exec_errAckUpto_of_cons hopen).trans (if_neg (Nat.not_le.mpr hnear))
  · rintro w s (hnil | ⟨o, l, hopen, hfar⟩)
    · change execErrAckUpto w s = _
      simp only [execErrAckUpto, hnil]
    · exact (exec_errAckUpto_of_cons hopen).trans (if_pos hfar)

end Sys2Proof.Proofs
end

section
/-! Scope: control cores, freezes and control state (spec/21_faults_service.md, R396, R642, R654 to R661): the branch that
each event of a core or of a frozen master takes. -/

namespace Sys2Proof.Proofs

open Sys2Proof.Machine Sys2Proof.Safety

variable {s : State} {p : Path}

/-! ### Watchdog and checkpoint (R657, R660) -/

/-- A core out of service does not leave again. -/
theorem coreLeaves_of_out {n cause : Nat} (h : 1 < s.coreSt n) : s.coreLeaves n cause = s := if_pos h

theorem exec_checkpointTimer {l : List (Fin 12)} {ws : List (Fin 12 × Nat × Ecc)}
    (h : (s.sram.flips.filter fun f => sramCore 0 ≤ f.1 && decide (f.1 < sramDescriptors)) = []) :
    exec (.checkpointTimer l ws) s = .next (ws.foldl (fun t w => t.coreWord w.1 w.2.1 w.2.2)
      ((List.range 12).foldl (fun t n => t.coreShadow n (!(l.map Fin.val).contains n))
        (if s.fld Reg.MI_FLIP_CTRL Fld.MI_FLIP_CTRL_UNIT < 12 then
          s.flipHit 4 (s.fld Reg.MI_FLIP_CTRL Fld.MI_FLIP_CTRL_UNIT)
            (sramCore (s.fld Reg.MI_FLIP_CTRL Fld.MI_FLIP_CTRL_UNIT)) 0
        else s))) := by
  change execCheckpointTimer l ws s = _
  simp only [execCheckpointTimer, h, List.foldl_nil]

/-! ### OUT and RETURN (R658, R660) -/

theorem errCoreOut_acts {n : Fin 16} (hn : n.val < 12) (hst : s.coreSt n ≤ 1) (hout : n.val ∉ s.cores.outReq) :
    ¬ (12 ≤ n.val ∨ 1 < s.coreSt n ∨ s.cores.outReq.contains n.val = true) := by
  rintro (h | h | h)
  · omega
  · omega
  · exact hout (by simpa using h)

theorem exec_errCoreOut_waits {n : Fin 16} (hn : n.val < 12) (hst : s.coreSt n ≤ 1) (hout : n.val ∉ s.cores.outReq)
    (h : s.cores.outReq.length + 11 ≤ (s.coresIn 0).length + (s.coresIn 1).length ∨ s.boot.hand.isSome = true) :
    exec (.errCoreOut p n) s = .next { s.awaitBoundary n with cores := { (s.awaitBoundary n).cores with
      outReq := (s.awaitBoundary n).cores.outReq ++ [n.val] } } := by
  refine (if_neg (errCoreOut_acts hn hst hout)).trans (if_neg ?_)
  rintro ⟨hfew, hnone⟩
  rcases h with h | h
  · omega
  · cases hh : s.boot.hand <;> simp [hh] at h hnone

theorem exec_errCoreOut_refused {n : Fin 16} (hn : n.val < 12) (hst : s.coreSt n ≤ 1) (hout : n.val ∉ s.cores.outReq)
    (hfew : (s.coresIn 0).length + (s.coresIn 1).length < s.cores.outReq.length + 11) (hnone : s.boot.hand = none) :
    exec (.errCoreOut p n) s = .next (s.accFlag p Reg.ERR_CORE_CTRL .refused) :=
  (if_neg (errCoreOut_acts hn hst hout)).trans (if_pos ⟨by omega, by simp [hnone]⟩)

/-! ### The self-test (R657, R660) -/

/-- The state in which the self-test of core `n` has ended. -/
def tested (s : State) (n : Fin 12) : State :=
  { s with cores := { s.cores with
    periodic := s.cores.periodic.filter (· != n.val), lastTest := Kv.set s.cores.lastTest n.val s.clk.ticks } }

/-- Core `n` joins the shadow cores, of the role that is free. -/
def shadowing (s : State) (n : Fin 12) : State :=
  { s with cores := { s.cores with
    shadowOf := (s.cores.shadowOf.filter fun e => e.1 != n.val) ++ [(n.val, s.freeShadowRole)] } }

theorem exec_coreSelftestDone_periodic {n : Fin 12} (hst : s.coreSt n = 2) (hp : n.val ∈ s.cores.periodic) :
    exec (.coreSelftestDone n true) s = .next ((tested s n).setCore n 1 15) ∧
    exec (.coreSelftestDone n false) s = .next (((((tested s n).setFld (Reg.ERR_CORE_STAT n) Fld.ERR_CORE_STAT_CAUSE
      5).coreFails n).raise .degraded Reg.ERR_EVENT Fld.ERR_EVENT_CORE_OUT 5 (40 + n)).handAbort) := by
  have hc : s.cores.periodic.contains n.val = true := by simpa using hp
  refine ⟨(if_neg (by simp [hst])).trans ?_, (if_neg (by simp [hst])).trans ?_⟩ <;> rw [hc] <;> rfl

theorem exec_coreSelftestDone_return {n : Fin 12} (hst : s.coreSt n = 2) (hp : n.val ∉ s.cores.periodic) :
    exec (.coreSelftestDone n true) s = .next (((shadowing (tested s n) n).setFld (Reg.ERR_CORE_STAT n)
      Fld.ERR_CORE_STAT_STATE 3).setFld (Reg.ERR_CORE_STAT n) Fld.ERR_CORE_STAT_SHADOW_N 0) ∧
    exec (.coreSelftestDone n false) s = .next ((tested s n).coreFails n) := by
  have hc : s.cores.periodic.contains n.val = false := by simpa using hp
  refine ⟨(if_neg (by simp [hst])).trans ?_, (if_neg (by simp [hst])).trans ?_⟩ <;> rw [hc] <;> rfl

/-! ### A shadow core returns (R659, R660) -/

/-- Core `n`, with its 16 matches, shadows no more. -/
def proven (s : State) (n : Fin 12) : State :=
  ({ s.setFld (Reg.ERR_CORE_STAT n) Fld.ERR_CORE_STAT_ST_FAILS 0 with cores :=
    { (s.setFld (Reg.ERR_CORE_STAT n) Fld.ERR_CORE_STAT_ST_FAILS 0).cores with
      shadowOf := s.cores.shadowOf.filter fun e => e.1 != n.val } } : State).event Reg.ERR_EVENT Fld.ERR_EVENT_CORE_BACK

theorem exec_coreSpareReturn {n : Fin 12} (hst : s.coreSt n = 3)
    (h16 : s.fld (Reg.ERR_CORE_STAT n) Fld.ERR_CORE_STAT_SHADOW_N = 16) (hb : n.val ∈ s.cores.bound) :
    exec (.coreSpareReturn n) s = .next (if s.bgPaused = true
      then (({ proven s n with cores := { (proven s n).cores with displaced := [] } } : State).setCore n 0 9).bgResume
      else (proven s n).setCore n 1 15) := by
  refine (if_neg (by simp [hst, h16, hb])).trans ?_
  cases s.bgPaused <;> rfl

/-! ### UNFREEZE (R396, R655) -/

theorem exec_accUnfreeze_node {w : Word} {i r : Nat} (hi : i = Fld.ACC_UNFREEZE_INDEX.get w)
    (hk : Fld.ACC_UNFREEZE_KIND.get w = 0) (hp : p ≠ .tunnel i) (hr : r = Reg.FAB_FROZEN (i / 32))
    (hf : Bits.bit (s.regN r) (i % 32) = true) (hv : s.violatesNow i = false) :
    exec (.accUnfreeze p w) s =
      .next ((s.setRegN r (s.regN r - 2 ^ (i % 32))).event Reg.ACC_EVENT Fld.ACC_EVENT_UNFREEZE) := by
  subst hi hr
  exact (if_pos hk).trans ((if_neg hp).trans (if_pos ⟨hf, by simp [hv]⟩))

/-- What UNFREEZE of a frozen master does, by its kind: a channel halts, a core begins its self-test. -/
theorem unfreeze_eq {i : Nat} (hi : i < 24) (hf : Bits.bit (s.regN Reg.ACC_FROZEN_INT) i = true)
    (hv : s.violatesNow (1024 + i) = false) :
    s.unfreeze i =
      let u := (s.setRegN Reg.ACC_FROZEN_INT (s.regN Reg.ACC_FROZEN_INT - 2 ^ i)).event Reg.ACC_EVENT
        Fld.ACC_EVENT_UNFREEZE
      let v := ((u.setCh i 4).setFld (Reg.ING_CH_STATUS i) Fld.ING_CH_STATUS_CAUSE 5).event Reg.ING_EVENT
        Fld.ING_EVENT_HALT
      if i < 8 then v.chEvent i 3 (v.pair (Reg.ING_CH_CUR_LO i)) 0 0
      else if i < 12 then u
      else (u.setFld (Reg.ERR_CORE_STAT (i - 12)) Fld.ERR_CORE_STAT_STATE 2).setFld
        (Reg.ERR_CORE_STAT (i - 12)) Fld.ERR_CORE_STAT_ST_FAILS 0 :=
  if_neg (by simp [hf, hv, hi])

/-- Settles O56: by the core's state, by the count of cores in service, by the self-test's kind and result, and by
what UNFREEZE names. -/
theorem coresAndFreezesServe : Obligations.CoresAndFreezesServe := by
  unfold Obligations.CoresAndFreezesServe
  refine ⟨?_, ?_, ?_, ?_, ?_, ?_, ?_, ?_, ?_, ?_, ?_, ?_, ?_, ?_, ?_, ?_⟩
  · intro n s
    rfl
  · intro n s hout
    exact congrArg Host.Outcome.next (coreLeaves_of_out hout)
  · rintro l ws _ s _ hno rfl rfl
    exact exec_checkpointTimer hno
  · rintro p n s _ hn hst hreq hmay rfl
    exact exec_errCoreOut_waits hn hst hreq hmay
  · intro p n s hn hst hreq hfew hnone
    exact exec_errCoreOut_refused hn hst hreq hfew hnone
  · intro n s hn hst
    exact if_neg (by simp [hst, hn])
  · rintro n s _ hst hper rfl
    exact exec_coreSelftestDone_periodic hst hper
  · rintro n s _ _ hst hper rfl rfl
    exact exec_coreSelftestDone_return hst hper
  · intro n s hst
    exact ⟨if_pos hst, if_pos hst⟩
  · rintro n s _ _ hst h16 hbound rfl rfl
    exact exec_coreSpareReturn hst h16 hbound
  · rintro n s (hst | hbound)
    · exact if_pos (.inl hst)
    · exact if_pos (.inr (.inr (by simpa using hbound)))
  · rintro n s _ hst hnone rfl
    exact if_neg (by simp [hst, hnone])
  · intro p w s i r hi hk hp hr hf hv
    exact exec_accUnfreeze_node hi hk hp hr hf hv
  · rintro w s _ rfl hk
    exact (if_pos hk).trans (if_pos rfl)
  · rintro p w s _ i hi hk hlt hf hv rfl
    have hexec : exec (.accUnfreeze p w) s = .next (s.unfreeze i) := by
      subst hi
      exact if_neg hk
    rw [hexec, unfreeze_eq hlt hf hv]
    refine ⟨?_, ?_, ?_⟩
    · rintro hch _ rfl
      exact congrArg Host.Outcome.next (if_pos hch)
    · intro hge hcore
      exact congrArg Host.Outcome.next ((if_neg (by omega)).trans (if_pos hcore))
    · intro hge
      exact congrArg Host.Outcome.next ((if_neg (by omega)).trans (if_neg (by omega)))
  · intro k s
    exact ⟨rfl, rfl, rfl, rfl⟩

end Sys2Proof.Proofs
end

section
/-! Scope: the as-written record (spec/17_as_written_record.md, R510, R561): the read-back of a block whose region is not yet
initialised.

Such a block waits for its region (R510); the read-back neither takes it nor judges it before. -/

namespace Sys2Proof.Proofs

open Sys2Proof.Machine Sys2Proof.Safety Sys2Proof.Laws Sys2Proof.Tests

/-- A block whose header is not yet readable waits (R510). -/
theorem exec_recordVerifyDone_waits {s : State} {b : StoredBlock} {l : List StoredBlock} (hb : s.blocks = b :: l)
    (hr : s.recReady b.ofs 40 = false) : exec .recordVerifyDone s = .next s := by
  change execRecordVerifyDone s = _
  simp [execRecordVerifyDone, hb, hr]

/-- One stored block is to verify, and DRAM is as after reset. -/
def oneStored : State := { State.reset with blocks := [⟨0, 1, 0⟩] }

theorem oneStored_recReady : oneStored.recReady 0 40 = false :=
  show State.reset.recReady 0 40 = false by decide +kernel

/-- An empty block decodes to no bytes, whose CRC is the one an empty header holds. -/
theorem verD_isSome : verD.isSome = true := by decide +kernel

/-- Refutes O54 in its last clause: a block in a region not yet initialised waits (R510) and stays to be verified. The clause
lacks the premise that the regions of the block are initialised. -/
theorem not_recordPortServes : ¬ Obligations.RecordPortServes := by
  unfold Obligations.RecordPortServes
  rintro ⟨-, -, -, -, -, -, -, -, -, hverify⟩
  obtain ⟨hgood, -⟩ := hverify oneStored State.reset verF verU verV ⟨0, 1, 0⟩ [] verH verD verSp rfl rfl rfl rfl rfl rfl rfl rfl
  have htaken := hgood (by decide +kernel) verD_isSome (by decide +kernel)
  rw [exec_recordVerifyDone_waits (b := ⟨0, 1, 0⟩) (l := []) rfl oneStored_recReady] at htaken
  exact absurd (congrArg (·.blocks) (Host.Outcome.next.inj htaken)) (by decide +kernel)

end Sys2Proof.Proofs
end

section
/-! Scope: updates (spec/18_startup_configuration.md, R588 to R592): PROGRAM and CHECK of an image, the hand-over of control
firmware, and the OTP key hash. -/

namespace Sys2Proof.Proofs

open Sys2Proof.Machine Sys2Proof.Safety Sys2Proof.Laws

variable {s t : State} {w : Word}

/-! ### What leaves the start-up data alone -/

theorem boot_of_keeps (k : Keeps (· ≠ .boot) s t) : t.boot = s.boot := k.same .boot (· rfl)

theorem updEnd_boot {op r : Nat} : (s.updEnd op r).boot = s.boot := boot_of_keeps (updEnd_keeps .refl (by simp))

theorem updBegin_boot {op : Nat} : (s.updBegin op).boot = s.boot := boot_of_keeps (updBegin_keeps .refl (by simp))

theorem movePair_boot {k : Nat} : (s.movePair k).boot = s.boot := boot_of_keeps (movePair_keeps .refl (by simp))

theorem showKey_boot : s.showKey.boot = s.boot := boot_of_keeps (showKey_keeps .refl (by simp))

theorem putCopy_boot : s.putCopy.boot = s.boot := boot_of_keeps (putCopy_keeps .refl (by simp))

/-! ### PROGRAM and CHECK (R588, R589) -/

theorem exec_updProgram_inRange (hb : s.updBusy = false)
    (hs : s.regN Reg.CFG_UPD_OFS + s.regN Reg.CFG_UPD_LEN ≤ slotBytes) (ho : s.regN Reg.CFG_UPD_OFS % 65536 = 0)
    (hl : s.regN Reg.CFG_UPD_LEN % 256 = 0) (hm : s.regN Reg.CFG_UPD_LEN ≤ 1048576)
    (hd : Fld.CFG_UPD_CTRL_DEV.get w = 0) :
    exec (.updProgram w) s = .next ((s.onBoot fun b => { b with
      upd := some ⟨0, s.regN Reg.CFG_UPD_OFS, s.tblBytes stagingWindow (s.regN Reg.CFG_UPD_LEN), 0⟩ }).updBegin 1) := by
  have hrange : ¬ (slotBytes < s.regN Reg.CFG_UPD_OFS + s.regN Reg.CFG_UPD_LEN ∨ s.regN Reg.CFG_UPD_OFS % 65536 ≠ 0 ∨
      s.regN Reg.CFG_UPD_LEN % 256 ≠ 0 ∨ 1048576 < s.regN Reg.CFG_UPD_LEN) := by omega
  change execUpdProgram w s = _
  simp [execUpdProgram, hb, hd, hrange]

theorem next_updProgramDone_good {u : UpdOp} (hu : s.boot.upd = some u) (hg : u.bad = 0) :
    Next (.updProgramDone []) s fun t => t.boot.upd = none ∧ t.boot.otp = s.boot.otp ∧
      t.boot.flash = s.boot.flash.set u.dev
        (flashPut (s.flash u.dev) u.ofs (u.ofs + Bits.divUp u.chunk.length 4096 * 4096) u.chunk) := by
  change ∃ t, execUpdProgramDone [] s = .next t ∧ _
  simp [execUpdProgramDone, hu, hg, updEnd_boot, State.onBoot, State.flash]

theorem next_updCheck (hb : s.updBusy = false) (hd : Fld.CFG_UPD_CTRL_DEV.get w = 0) :
    Next (.updCheck w false) s fun t => t.boot.checked = (s.checkImage (s.flash 0) == 0) := by
  change ∃ t, execUpdCheck w false s = .next t ∧ _
  simp [execUpdCheck, hb, hd, updEnd_boot, State.onBoot]

/-! ### The hand-over (R590) -/

theorem next_updHandover (hb : s.updBusy = false) (hn : s.boot.hand = none) (hc : s.boot.checked = true)
    (hi : Bits.rd (imgHead (s.flash 0)) 20 2 = s.boot.iface) (hs : 2 ≤ (s.coresIn 1).length) :
    Next .updHandover s fun t => t.boot =
      { s.boot with hand := some ⟨0, false, false, s.clk.ticks + firmwareLoadTicks⟩ } := by
  change ∃ t, execUpdHandover s = .next t ∧ _
  simp [execUpdHandover, hb, hn, hc, hi, Nat.not_lt.mpr hs, updBegin_boot, State.onBoot]

/-- A hand-over that runs ends ABORTED; one that has moved pairs goes back from there. -/
theorem handAbort_hand {m l : Nat} {d : Bool} (h : s.boot.hand = some ⟨m, false, d, l⟩) :
    s.handAbort.boot.hand = if m = 0 then none else some ⟨m, true, false, l⟩ := by
  simp only [State.handAbort, h]
  rfl

theorem exec_updAbortHandover (h : s.flag Reg.CFG_UPD_STATUS Fld.CFG_UPD_STATUS_HANDOVER = true) :
    exec .updAbortHandover s = .next (s.handAbort.setFld Reg.CFG_UPD_STATUS Fld.CFG_UPD_STATUS_LAST_OP 4) := if_pos h

/-- The hand-over `h`, loaded, is at its layer boundary or needs none. -/
theorem mayMove_iff {h : FwMove} :
    s.mayMove h = true ↔ h.loaded ≤ s.clk.ticks ∧ (h.due = true ∨ s.noSwath = true) := by
  simp [State.mayMove]

theorem outRequests_of_nil (h : s.cores.outReq = []) : s.outRequests = s := by
  simp [State.outRequests, h]

theorem handDone_hand : s.handDone.boot.hand = none := by
  unfold State.handDone
  extract_lets f hd new s1 s2 s3
  have h1 : s1.boot.hand = none := rfl
  have hkept : (State.updEnd (s3.event Reg.CFG_EVENT Fld.CFG_EVENT_HANDOVER_DONE) 3 0).boot = s1.boot := by
    rw [updEnd_boot]
    simp [s3, s2, putCopy_boot]
  rw [hkept, h1]

/-- With no request for OUT, a hand-over that may move moves its next pair on, or back where it was aborted. -/
theorem exec_handoverRoleMove {h : FwMove} (hout : s.cores.outReq = []) (hh : s.boot.hand = some h)
    (hl : h.loaded ≤ s.clk.ticks) (hm : h.due = true ∨ s.noSwath = true) :
    exec .handoverRoleMove s = .next (
      if h.abort then
        ((s.movePair (h.moves - 1)).onBoot fun b => { b with
          hand := if h.moves ≤ 1 then none else some ⟨h.moves - 1, true, false, h.loaded⟩ }).setFld Reg.CFG_UPD_STATUS
          Fld.CFG_UPD_STATUS_ROLES_MOVED (2 * (h.moves - 1))
      else
        let t := (s.movePair h.moves).setFld Reg.CFG_UPD_STATUS Fld.CFG_UPD_STATUS_ROLES_MOVED (2 * (h.moves + 1))
        if 4 ≤ h.moves then t.handDone
        else t.onBoot fun b => { b with hand := some ⟨h.moves + 1, false, false, h.loaded⟩ }) := by
  change execHandoverRoleMove s = _
  simp only [execHandoverRoleMove, outRequests_of_nil hout, hh, mayMove_iff.mpr ⟨hl, hm⟩]
  cases h.abort
  · by_cases h4 : 4 ≤ h.moves <;> simp [h4]
  · simp

/-! ### The OTP key hash (R591) -/

theorem next_otpProgram (hop : Fld.CFG_OTP_CTRL_OP.get w = 1) (hcode : Fld.CFG_OTP_CTRL_CODE.get w = 0x3C)
    (hn : s.boot.otp = none) (hnn : s.boot.otpNext = none)
    (hidle : s.fld Reg.EXP_ZLS_STATUS Fld.EXP_ZLS_STATUS_STATE = 0) :
    Next (.otpProgram w) s fun t => t.boot = { s.boot with
      otpNext := some ((List.range 8).flatMap fun i => Bits.toLE 4 (s.regN (Reg.CFG_OTP_HASH i))) } := by
  change ∃ t, execOtpProgram w s = .next t ∧ _
  simp [execOtpProgram, hop, hcode, hn, hnn, hidle, State.onBoot]

/-- Settles O24: by the operation, the progress of the hand-over, and the result of OTP programming. -/
theorem updatesAndHandOver : Obligations.UpdatesAndHandOver := by
  unfold Obligations.UpdatesAndHandOver
  refine ⟨?_, ?_, ?_, ?_, ?_, ?_, ?_, ?_, ?_, ?_, ?_, ?_⟩
  · intro w s hbusy hslot hofs hlen hmax hdev
    exact ⟨_, exec_updProgram_inRange hbusy hslot hofs hlen hmax hdev, updBegin_boot⟩
  · intro s u hu hgood
    exact next_updProgramDone_good hu hgood
  · intro w s hbusy hdev
    exact next_updCheck hbusy hdev
  · intro s hbusy hnone hchecked hiface hspares
    exact next_updHandover hbusy hnone hchecked hiface hspares
  · intro s m l d hruns hhand
    exact ⟨_, exec_updAbortHandover hruns, (handAbort_hand hhand).trans (if_neg m.succ_ne_zero)⟩
  · intro s l d hruns hhand
    exact ⟨_, exec_updAbortHandover hruns, (handAbort_hand hhand).trans (if_pos rfl)⟩
  · intro s m l d hout hhand hlt hloaded hmay
    refine ⟨_, exec_handoverRoleMove hout hhand hloaded hmay, ?_⟩
    simp [Nat.not_le.mpr hlt, State.onBoot]
  · intro s l d hout hhand hloaded hmay
    refine ⟨_, exec_handoverRoleMove hout hhand hloaded hmay, ?_⟩
    simp [handDone_hand]
  · intro s m l d hout hhand hloaded hmay
    refine ⟨_, exec_handoverRoleMove hout hhand hloaded hmay, ?_⟩
    simp [State.onBoot]
  · intro w s hop hcode hnone hnext hidle
    exact next_otpProgram hop hcode hnone hnext hidle
  · intro s k hnext
    change ∃ t, execOtpProgramDone true s = .next t ∧ _
    simp [execOtpProgramDone, hnext, showKey_boot, State.onBoot]
  · intro s k hnext
    change ∃ t, execOtpProgramDone false s = .next t ∧ _
    simp [execOtpProgramDone, hnext, State.onBoot]

end Sys2Proof.Proofs
end

section
/-! Scope: the start (spec/18_startup_configuration.md, R572 to R583): the release of internal reset, the sections of the image,
and the lock. -/

namespace Sys2Proof.Proofs

open Sys2Proof.Machine Sys2Proof.Safety Sys2Proof.Laws

variable {s t : State} {us us1 : Nat}

theorem reg_milestone_ne {m a : Nat} (h : a ≠ Reg.CFG_MILESTONE m) : (s.milestone m us).reg a = s.reg a := by
  unfold State.milestone
  split
  · exact reg_setRegN_ne h
  · rfl

theorem reg_setPair_ne {a b v : Nat} (hlo : b ≠ a) (hhi : b ≠ a + 4) : (s.setPair a v).reg b = s.reg b :=
  (reg_setRegN_ne hhi).trans (reg_setRegN_ne hlo)

/-! ### The release of internal reset (R576, R583) -/

/-- The state in which the header of the image is read. -/
def released (s : State) (straps us : Nat) : State :=
  ((((s.onBoot fun b => { b with phase := .load }).milestone 0 us).free.2.setPair Reg.MGT_SESSION_LO
    ((s.onBoot fun b => { b with phase := .load }).milestone 0 us).free.1).setFld Reg.LN_STATUS
      Fld.LN_STATUS_BOARD_ID straps).setFld Reg.LN_STATUS Fld.LN_STATUS_STRAPS straps

theorem released_boot {straps : Nat} : (released s straps us).boot = { s.boot with phase := .load } :=
  milestone_boot (s := s.onBoot fun b => { b with phase := .load })

theorem reg_released {straps a : Nat} (hm : a ≠ Reg.CFG_MILESTONE 0) (hlo : a ≠ Reg.MGT_SESSION_LO)
    (hhi : a ≠ Reg.MGT_SESSION_LO + 4) (hl : a ≠ Reg.LN_STATUS) : (released s straps us).reg a = s.reg a :=
  (reg_setFld_ne hl).trans ((reg_setFld_ne hl).trans ((reg_setPair_ne hlo hhi).trans (reg_milestone_ne hm)))

/-- The verdict on a header rests on the device and on the key hash alone (R577, R591). -/
theorem headCause_congr {l : List (Nat × Byte)} (hd : t.reg Reg.GLB_DEVICE_ID = s.reg Reg.GLB_DEVICE_ID)
    (hk : t.boot.key = s.boot.key) : t.headCause l = s.headCause l := by
  have hn : t.regN Reg.GLB_DEVICE_ID = s.regN Reg.GLB_DEVICE_ID := congrArg BitVec.toNat hd
  unfold State.headCause
  rw [hn, hk]

theorem image_released {straps : Nat} :
    (released s straps us).flash (released s straps us).source = s.flash s.source := by
  have hs : (released s straps us).source = s.source :=
    congrArg Fld.CFG_STATUS_SOURCE.get (reg_released (by decide) (by decide) (by decide) (by decide))
  rw [hs, State.flash, released_boot]
  rfl

theorem headCause_released {straps : Nat} {l : List (Nat × Byte)} : (released s straps us).headCause l = s.headCause l :=
  headCause_congr (reg_released (by decide) (by decide) (by decide) (by decide)) (by rw [released_boot])

theorem exec_internalResetRelease {straps : Fin 16} (hp : s.boot.phase = .reset) :
    exec (.internalResetRelease straps false us us1) s =
      if s.headCause (s.flash s.source) = 0 then .next ((released s straps us).imageAccept us1)
      else .next ((released s straps us).imageFail (s.headCause (s.flash s.source)) 0) := by
  have hread : exec (.internalResetRelease straps false us us1) s =
      match (released s straps us).headCause ((released s straps us).flash (released s straps us).source) with
      | 0 => .next ((released s straps us).imageAccept us1)
      | c => .next ((released s straps us).imageFail c 0) := if_neg (by simp [hp])
  rw [hread, headCause_released, image_released]
  cases s.headCause (s.flash s.source) <;> rfl

/-- What the start reads from an accepted header (R572, R576). -/
theorem imageAccept_boot : (s.imageAccept us).boot.phase = s.boot.phase ∧
    (s.imageAccept us).boot.sects = imgSects (s.flash s.source) ∧
    (s.imageAccept us).boot.iface = Bits.rd (imgHead (s.flash s.source)) 20 2 ∧ (s.imageAccept us).boot.copy = [] := by
  unfold State.imageAccept
  extract_lets f hd ss have_ s1 s2 s3 s4 s5
  have h3 : s3.boot.phase = s.boot.phase := by simp [s3, s2, s1]
  have h4 : s4.boot.phase = s.boot.phase ∧ s4.boot.sects = ss ∧ s4.boot.iface = Bits.rd hd 20 2 ∧ s4.boot.copy = [] :=
    ⟨h3, rfl, rfl, rfl⟩
  have h5 : s5.boot = s4.boot := boot_of_keeps (by simp [s5, Keeps.refl])
  have hEq : (if s5.hasSect sectEq then s5 else s5.applyEq []).boot = s5.boot :=
    boot_of_keeps (by simp [Keeps.refl])
  rw [hEq, h5]
  exact h4

/-- A failure of the golden device leaves the module in RESCUE (R578). -/
theorem imageFail_rescue {cause i : Nat} (hg : s.flag Reg.CFG_STATUS Fld.CFG_STATUS_SOURCE = true) :
    (s.imageFail cause i).boot.phase = .rescue := by
  rw [State.imageFail, if_pos hg]
  extract_lets s1 s2
  have hkept : Keeps (· ≠ .phase) s2 (s2.fatalBare Reg.CFG_EVENT cause unitCfg).rescueLanes := by
    simp [Keeps.refl]
  exact (hkept.same .phase (· rfl)).trans rfl

/-! ### The sections (R576 to R578) -/

theorem exec_imageSectionRead {x : Sect} {fails : Bool} (hx : s.nextSect = some x) :
    exec (.imageSectionRead fails us) s =
      let bs := flashAt (s.flash s.source) x.ofs x.len
      let cause := if fails then 1 else sectCause (s.flag Reg.CFG_STATUS Fld.CFG_STATUS_SIGNED) x bs
      if cause ≠ 0 then .next (s.imageFail cause (s.sectIndex x.ty)) else .next ((s.firmwareRuns us).sectPass x bs) := by
  change execImageSectionRead fails us s = _
  simp only [execImageSectionRead, hx]

/-- Firmware's report leaves what is read and what is to be read. -/
theorem firmwareRuns_boot : (s.firmwareRuns us).boot = { s.boot with fwWait := false } := by
  unfold State.firmwareRuns
  split
  · extract_lets s1
    have h1 : s1.boot = { s.boot with fwWait := false } := milestone_boot
    rw [← h1]
    exact boot_of_keeps (by simp [Keeps.refl])
  · rename_i hw
    have hno : s.boot.fwWait = false := by simpa using hw
    simp [← hno]

/-- SPARES and WAVE act on the engines and on the waveform tables alone (R155, R574). -/
theorem applySect_boot {ty : Nat} {bs : List Byte} (h : ty = sectSpares ∨ ty = sectWave) :
    (s.applySect ty bs).boot = s.boot := by
  rcases h with rfl | rfl
  · exact foldl_same State.boot fun t e => boot_of_keeps (onEngine_keeps .refl (by simp))
  · exact boot_of_keeps (setTblBytes_keeps .refl (by simp))

theorem sectPass_boot {x : Sect} {bs : List Byte} (h : x.ty = sectSpares ∨ x.ty = sectWave) :
    (s.sectPass x bs).boot = { s.boot with
      todo := s.boot.todo.filter (· != x.ty), rest := s.boot.rest.filter (· != x.ty), copy := s.boot.copy ++ [(x, bs)] } :=
  (applySect_boot h).trans putCopy_boot

/-! ### The lock (R580, R583) -/

theorem formMgt_reg {a : Nat} : s.formMgt.reg a = s.reg a := by
  unfold State.formMgt
  split <;> rfl

/-- The state at the lock point. -/
def atLockPoint (s : State) (us mgt : Nat) : State := ((s.firmwareRuns us).milestone 5 mgt).formMgt.fill 11

theorem firmwareRuns_hostLock : (s.firmwareRuns us).flag Reg.CFG_STATUS Fld.CFG_STATUS_HOST_LOCK =
    s.flag Reg.CFG_STATUS Fld.CFG_STATUS_HOST_LOCK := by
  unfold State.firmwareRuns
  split
  · extract_lets s1
    have h1 : s1.fld Reg.CFG_STATUS Fld.CFG_STATUS_HOST_LOCK = s.fld Reg.CFG_STATUS Fld.CFG_STATUS_HOST_LOCK :=
      (congrArg Fld.CFG_STATUS_HOST_LOCK.get (reg_milestone_ne (by decide))).trans
        (fld_setFld_apart (by decide) (by decide))
    have hdisc : s1.fabDiscover.fld Reg.CFG_STATUS Fld.CFG_STATUS_HOST_LOCK =
        s1.fld Reg.CFG_STATUS Fld.CFG_STATUS_HOST_LOCK := by
      unfold State.fabDiscover
      split
      · exact fld_setFld_ne (by decide)
      · rfl
    split
    · exact congrArg (· != 0) h1
    · exact congrArg (· != 0) (hdisc.trans h1)
  · rfl

theorem atLockPoint_hostLock {mgt : Nat} : (atLockPoint s us mgt).flag Reg.CFG_STATUS Fld.CFG_STATUS_HOST_LOCK =
    s.flag Reg.CFG_STATUS Fld.CFG_STATUS_HOST_LOCK := by
  have hfill : (atLockPoint s us mgt).reg Reg.CFG_STATUS = (s.firmwareRuns us).reg Reg.CFG_STATUS :=
    (reg_of_regs ((fill_keeps (F := (· ≠ .regs)) .refl (by simp)).same .regs (· rfl)) _).trans
      (formMgt_reg.trans (reg_milestone_ne (by decide)))
  exact (flag_of_reg hfill).trans firmwareRuns_hostLock

theorem exec_configLock {mgt : Nat} (hu : s.locked = false) (hp : s.boot.phase = .load) (hs : s.boot.sects ≠ [])
    (ht : s.boot.todo = []) (hd : s.flag Reg.DC_STATUS Fld.DC_STATUS_ALL_TRAINED = true)
    (hh : s.flag Reg.CFG_STATUS Fld.CFG_STATUS_HOST_LOCK = false) :
    exec (.configLock us mgt) s = .next ((atLockPoint s us mgt).lockNow us) := by
  refine (if_neg (by simp [hu, hp, hs, ht, hd])).trans (if_neg ?_)
  rintro ⟨hhost, -⟩
  exact absurd ((atLockPoint_hostLock (mgt := mgt)).symm.trans hhost) (by simp [hh])

theorem cfgLock_taken (hu : s.locked = false) (hh : s.flag Reg.CFG_STATUS Fld.CFG_STATUS_HOST_LOCK = true) :
    ¬ (s.locked = true ∨ ¬ s.flag Reg.CFG_STATUS Fld.CFG_STATUS_HOST_LOCK = true) := by simp [hu, hh]

/-- Settles O23: by the verdict on the header, the outcome of a section, the report of firmware, and HOST_LOCK. -/
theorem startUpRunsTheImage : Obligations.StartUpRunsTheImage := by
  unfold Obligations.StartUpRunsTheImage
  refine ⟨?_, ?_, ?_, ?_, ?_, ?_, ?_, ?_⟩
  · intro straps us us1 s _ hphase hgood
    refine ⟨_, (exec_internalResetRelease hphase).trans (if_pos hgood), ?_⟩
    obtain ⟨hph, hsects, hiface, hcopy⟩ := imageAccept_boot (s := released s straps us) (us := us1)
    rw [released_boot] at hph
    rw [image_released] at hsects hiface
    exact ⟨hph, hsects, hiface, hcopy⟩
  · intro straps us us1 s _ hphase hgolden hbad
    refine ⟨_, (exec_internalResetRelease hphase).trans (if_neg hbad), imageFail_rescue ?_⟩
    exact (flag_of_reg (reg_released (by decide) (by decide) (by decide) (by decide))).trans hgolden
  · intro us s x hnext hty hpass
    refine ⟨_, (exec_imageSectionRead hnext).trans (if_neg (by simpa using hpass)), ?_⟩
    simp [sectPass_boot hty, firmwareRuns_boot]
  · intro us s x hnext hgolden
    exact ⟨_, (exec_imageSectionRead hnext).trans (if_pos (by simp)), imageFail_rescue hgolden⟩
  · intro s hwaits hphase hgolden
    exact ⟨_, congrArg Host.Outcome.next (if_pos ⟨hwaits, hphase⟩), imageFail_rescue hgolden⟩
  · intro us mgt s _ hunlocked hphase hsects htodo hdram hhost
    exact ⟨_, exec_configLock hunlocked hphase hsects htodo hdram hhost, lockNow_runs⟩
  · intro p us s hunlocked hhost hstate
    exact ⟨_, (if_neg (cfgLock_taken hunlocked hhost)).trans (if_pos hstate), lockNow_runs⟩
  · intro p us s hunlocked hhost hstate
    exact (if_neg (cfgLock_taken hunlocked hhost)).trans (if_neg hstate)

end Sys2Proof.Proofs
end

section
/-! Scope: health samples (spec/20_health_calibration.md, R613 to R616, R622, R626): what O36 comes down to.

The sample of a channel with an accepted offset is corrected by `Config.offsetSample`, which the model leaves open (R622). O36
says in its second clause that the channel shows the sample uncorrected. It follows where the correction changes nothing
(`healthIsWatched_of_offsetSample`), and it implies as much of a channel (`offsetSample_of_healthIsWatched`); as the
correction has no body, neither O36 nor its negation has a proof. -/

namespace Sys2Proof.Proofs

open Sys2Proof.Machine Sys2Proof.Safety Sys2Proof.Laws

variable {s : State} {c : Fin 56} {v r : BitVec 16}

/-- The counts of a channel that is not valid. -/
def noCounts : HmChan := ⟨[0, 0, 0], [0, 0, 0], [false, false, false]⟩

theorem hmInvalid_hm {n : Nat} : (s.hmInvalid [n]).hm = s.hm.set n noCounts := by
  have hshown : ∀ t : State, t.showLevels.throttleCheck.holdCheck.hm = t.hm := fun t =>
    (holdCheck_keeps (F := (· ≠ .hm)) (throttleCheck_keeps (showLevels_keeps .refl (by simp)) (by simp)) (by simp)).same .hm
      (· rfl)
  exact (hshown _).trans rfl

/-- A sample of a channel in service that gives no value. -/
theorem exec_hmSample_invalid {g : Bool} (hc : hmClass c ≠ 3)
    (hs : s.flag (Reg.HM_CH_STATUS c) Fld.HM_CH_STATUS_STALE = false) (h : g = false ∨ hmUnpowered s.pwrCur c = true) :
    exec (.hmSample c g v r) s = .next (s.hmInvalid [c.val]) := by
  refine (if_neg (by simp [hc, hs])).trans (if_pos ?_)
  rcases h with h | h <;> simp [h]

/-- The channel shows the value `v`. -/
def sampled (s : State) (c : Nat) (v : BitVec 16) : State :=
  (s.setFld (Reg.HM_CH_STATUS c) Fld.HM_CH_STATUS_VALID 1).setRegN (Reg.HM_CH_VALUE c) v.toNat

theorem lt_of_hmClass_temp {n : Nat} (h : hmClass n = 0) : n < 14 := by
  unfold hmClass at h
  grind

/-- A temperature channel that compares shows its corrected sample and settles by it. -/
theorem exec_hmSample_temp (hc : hmClass c = 0) (hs : s.flag (Reg.HM_CH_STATUS c) Fld.HM_CH_STATUS_STALE = false)
    (hp : hmUnpowered s.pwrCur c = false)
    (hcmp : (sampled s c (s.hmOffset c v)).flag (Reg.HM_CH_CFG c) Fld.HM_CH_CFG_COMPARE = true)
    (hen : (sampled s c (s.hmOffset c v)).flag (Reg.HM_CH_CFG c) Fld.HM_CH_CFG_EN = true) :
    exec (.hmSample c true v r) s = .next ((sampled s c (s.hmOffset c v)).hmSettle c
      ((sampled s c (s.hmOffset c v)).hmTake c (s.hmOffset c v).toInt) (s.hmOffset c v).toInt) := by
  have hlow : c.val < 14 := lt_of_hmClass_temp hc
  have h16 : c.val ≠ 16 := by omega
  have h17 : ¬ (17 ≤ c.val ∧ c.val ≤ 20) := by omega
  have hv : ¬ (16 ≤ c.val ∧ c.val ≤ 20) := by omega
  have htwos : Bits.twos 16 0 = 0 := by decide
  change execHmSample c true v r s = _
  unfold sampled at *
  simp [execHmSample, hc, hs, hp, h16, h17, hv, htwos, hcmp, hen]

theorem exec_tcalUpdate_none (h : ∀ c < 8, s.flag (Reg.HM_CH_STATUS c) Fld.HM_CH_STATUS_VALID = false) :
    exec .tcalUpdate s = .next (s.setFld Reg.HM_TCAL ⟨16, 1⟩ 0) := by
  refine if_pos ?_
  simp only [List.isEmpty_iff, List.filter_eq_nil_iff, List.mem_range]
  intro c hc
  simp [h c hc]

/-- The die sensors that count. -/
def dieSensors (s : State) : List Nat := (List.range 8).filter fun c =>
  s.flag (Reg.HM_CH_STATUS c) Fld.HM_CH_STATUS_VALID && !s.flag (Reg.HM_CH_STATUS c) Fld.HM_CH_STATUS_STALE

/-- TCAL is their mean, and the converters follow. -/
def tcalMean (s : State) : State := State.followTcal (s.setRegN Reg.HM_TCAL (Bits.twos 16
  (((dieSensors s).foldl (fun (a : Int) c => a + Bits.signed 16 (s.regN (Reg.HM_CH_VALUE c))) 0).fdiv
    (dieSensors s).length) + 65536))

theorem exec_tcalUpdate_mean (hne : dieSensors s ≠ []) (h0 : (tcalMean s).convMoved 0 = false) (h1 : (tcalMean s).convMoved 1 = false) :
    exec .tcalUpdate s = .next (tcalMean s) := by
  have hstep : exec .tcalUpdate s = if (dieSensors s).isEmpty then .next (s.setFld Reg.HM_TCAL ⟨16, 1⟩ 0)
      else .next ((List.range 2).foldl (fun s x => if s.convMoved x then s.convDue x else s) (tcalMean s)) := rfl
  rw [hstep, if_neg (by simpa using hne)]
  simp [List.range_succ, h0, h1]

theorem hmOffset_eq_self {n : Nat} (hid : ∀ c k v, Config.offsetSample c k v = v) : s.hmOffset n v = v := by
  unfold State.hmOffset
  split
  · simp [hid]
  · rfl

/-- O36 holds if the correction that the model leaves open changes no sample: clauses 1, 3 and 4 hold whatever it is. -/
theorem healthIsWatched_of_offsetSample (hid : ∀ c k v, Config.offsetSample c k v = v) : Obligations.HealthIsWatched := by
  have hoff : ∀ (s : State) (c : Nat) (v : BitVec 16), s.hmOffset c v = v := fun s c v => hmOffset_eq_self hid
  unfold Obligations.HealthIsWatched
  refine ⟨?_, ?_, ?_, ?_⟩
  · intro c g v r s hc hs h
    exact ⟨_, exec_hmSample_invalid hc hs h, hmInvalid_hm⟩
  · rintro c v r s _ hc hs hp rfl hcmp hen
    have hshown := exec_hmSample_temp (v := v) (r := r) hc hs hp (by rwa [hoff]) (by rwa [hoff])
    rwa [hoff] at hshown
  · intro s h
    exact exec_tcalUpdate_none h
  · intro s u l hl hne hu h0 h1
    subst hl
    have hmean : u = tcalMean s := hu
    rw [hmean] at h0 h1 ⊢
    exact exec_tcalUpdate_mean hne h0 h1

/-- Temperature channel 13 compares its samples with no limit enabled, and its calibration has an offset. -/
def offsetState : State :=
  (((((((State.reset.setFld (Reg.HM_CH_CFG 13) Fld.HM_CH_CFG_COMPARE 1).setFld (Reg.HM_CH_CFG 13) Fld.HM_CH_CFG_EN 1).setFld
    (Reg.CAL_TGT_STATUS 13) Fld.CAL_TGT_STATUS_POINTS 1).setTbl (pointAddr 13 0 + 4) 1000).setRegN (hmLimits 13 0)
      0x7FFF8000).setRegN (hmLimits 13 1) 0x7FFF8000).setRegN (hmLimits 13 2) 0x7FFF8000)

theorem hmOffset_of_point {n : Nat} {p : Int × List Int} (hp : (s.calPoints n).head? = some p) (hc : hmClass n ≠ 2)
    (h0 : Bits.nth p.2 0 0 ≠ 0) : s.hmOffset n v = Config.offsetSample n (Bits.nth p.2 0 0) v := by
  unfold State.hmOffset
  rw [hp]
  exact if_neg (by simp [hc, h0])

theorem offsetState_hmOffset : offsetState.hmOffset 13 v = Config.offsetSample 13 1000 v :=
  hmOffset_of_point (p := (0, [1000, 0, 0, 0])) (by decide +kernel) (by decide) (by decide)

/-- A channel without limits, and with fewer samples than its persistence, holds no level. -/
theorem hmTake_level_of_noLimits {n : Nat} {q : Int} (hp : 2 ≤ hmPersist n) (hx : s.hmChan n = noCounts)
    (hh : ∀ l < 3, s.hmHi n l = none) (hl : ∀ l < 3, s.hmLo n l = none) : (s.hmTake n q).level = 0 := by
  have hpp : min 1 (hmPersist n) = 1 := by omega
  have hne : ¬ hmPersist n ≤ 1 := by omega
  have h0 : ¬ hmPersist n ≤ 0 := by omega
  have hj : ∀ l < 3, (s.hmJudge n l noCounts q).2.2 = false := by
    intro l hl3
    simp only [State.hmJudge, hh l hl3, hl l hl3]
    interval_cases l <;> simp [noCounts, Bits.nth, hpp, hne, h0]
  simp [State.hmTake, HmChan.level, hx, Bits.nth, hj, List.range_succ]

/-- A channel that stays at its level changes its counts alone. -/
theorem hmSettle_of_level {n : Nat} {x : HmChan} {q : Int} (h : s.hmLevel n = x.level) :
    s.hmSettle n x q = { s with hm := s.hm.set n x } := by
  simp [State.hmSettle, h]

/-- Channel 13 of `offsetState` shows the value it has taken. -/
theorem settled_value {w : BitVec 16} : ((sampled offsetState 13 w).hmSettle 13 ((sampled offsetState 13 w).hmTake 13 w.toInt)
    w.toInt).reg (Reg.HM_CH_VALUE 13) = BitVec.ofNat 32 w.toNat := by
  have hreg : ∀ a, a ≠ Reg.HM_CH_VALUE 13 → (sampled offsetState 13 w).reg a =
      (offsetState.setFld (Reg.HM_CH_STATUS 13) Fld.HM_CH_STATUS_VALID 1).reg a := fun a h => reg_setRegN_ne h
  have hlim : ∀ l < 3, (sampled offsetState 13 w).regN (hmLimits 13 l) = 0x7FFF8000 := by
    intro l hl
    rw [State.regN, hreg _ (by interval_cases l <;> decide)]
    revert l
    decide +kernel
  rw [hmSettle_of_level]
  · exact getD_put_same
  · rw [hmTake_level_of_noLimits (by decide) _ _ _]
    · rw [State.hmLevel, State.fld, hreg _ (by decide)]
      decide +kernel
    · show offsetState.hmChan 13 = noCounts
      decide +kernel
    · intro l hl
      simp [State.hmHi, hlim l hl]
    · intro l hl
      simp [State.hmLo, hlim l hl]

/-- O36 fails if the correction that the model leaves open changes one sample of channel 13 with the offset 1000. -/
theorem offsetSample_of_healthIsWatched (h : Obligations.HealthIsWatched) : Config.offsetSample 13 1000 v = v := by
  unfold Obligations.HealthIsWatched at h
  obtain ⟨-, hsample, -⟩ := h
  have hflag : ∀ (w : BitVec 16) (f : Field), (sampled offsetState 13 w).flag (Reg.HM_CH_CFG 13) f =
      (offsetState.setFld (Reg.HM_CH_STATUS 13) Fld.HM_CH_STATUS_VALID 1).flag (Reg.HM_CH_CFG 13) f := fun w f =>
    flag_of_reg (reg_setRegN_ne (by decide))
  have hcmp : ∀ w, (sampled offsetState 13 w).flag (Reg.HM_CH_CFG 13) Fld.HM_CH_CFG_COMPARE = true := fun w =>
    (hflag w _).trans (by decide +kernel)
  have hen : ∀ w, (sampled offsetState 13 w).flag (Reg.HM_CH_CFG 13) Fld.HM_CH_CFG_EN = true := fun w =>
    (hflag w _).trans (by decide +kernel)
  have hraw := hsample 13 v 0 offsetState _ (by decide) (by decide +kernel) (by decide +kernel) rfl (hcmp v) (hen v)
  rw [exec_hmSample_temp (c := 13) (by decide) (by decide +kernel) (by decide +kernel) (hcmp _) (hen _)] at hraw
  have hreg := congrArg (·.reg (Reg.HM_CH_VALUE 13)) (Host.Outcome.next.inj hraw)
  have hval := (settled_value.symm.trans hreg).trans settled_value
  rw [show offsetState.hmOffset ((13 : Fin 56) : Nat) v = Config.offsetSample 13 1000 v from offsetState_hmOffset] at hval
  have hn := congrArg BitVec.toNat hval
  simp only [BitVec.toNat_ofNat] at hn
  apply BitVec.eq_of_toNat_eq
  omega

end Sys2Proof.Proofs
end
